-- ==== Sys2Proof/Word.lean ====
section
/-!
DEFINITION. The word types of the part: registers are 32 bits wide, memory is made of bytes.
-/

namespace Sys2Proof

/-- A 32-bit register word. -/
abbrev Word := BitVec 32

/-- One byte. -/
abbrev Byte := BitVec 8

/-- A 64-bit time or counter in 4 ns ticks. -/
abbrev Time := BitVec 64

end Sys2Proof
end

