-- ==== Sys2Proof/Syntax.lean ====
section
/-!
DEFINITION. The commands of the part: one constructor of `Instr` per row of spec/opcode_table.json, with the
operands the row's rule needs. What an event row is told by the physical world (a measured value, a decoder's
finding, the frame that arrived) is an operand; what the part knows itself stands in `Machine.State`.
-/

namespace Sys2Proof

/-- The interfaces that access registers (R31). -/
inductive Iface where
  | twoWire
  | lookout
  | line
  | core
  | dma (ch : Nat)
deriving DecidableEq, Repr

/-- The internal power domains of Table 01.3. -/
inductive Dom where
  | aon | nvm | core | seq | adc | eng | stg | chg | link
deriving DecidableEq, Repr

/-- A mailbox command row is used in two ways: an interface issues it (R278), or the running command of its lane
goes on to its next phase. -/
inductive CmdAct where
  | issue (i : Iface)
  | advance
deriving DecidableEq, Repr

/-- What a valley comparator firing meets: the input voltage at the stage's own sense and the sensed output (mV), the
stages still switched on or inside their minimum off-time, the instantaneous inductor current of each stage by number (mA;
one not listed carries none), and whether the loop demands more duty than the minimum off-time leaves (R79, R80, R81, R84,
R86). [DESIGN CHOICE, log 4] -/
structure Fire where
  vin : Nat
  vout : Nat
  busy : BitVec 24
  cur : List Int
  dutyMax : Bool
deriving DecidableEq, Repr

/-- A fresh measurement of one stage: its mean current in 2 mA units, signed. Its temperature comes from converter B (R161).
[DESIGN CHOICE, log 4] -/
structure StageMeas where
  stage : Fin 24
  iavg : Int
deriving DecidableEq, Repr

/-- Which of the two plain loop registers of R117 a write names. -/
inductive LoopParam where
  | ref
  | model
deriving DecidableEq, Repr

/-! Operand types of the later chapters. -/

/-- The claims on issue positions (Table 06.1). -/
inductive Claim where
  | tap | gauge | trigger | house | cal | scan
deriving DecidableEq, Repr
/-- A conversion result (R162, R167), 280 ns after its sampling instant (R159): the channel, its corrected code, the claim
it is made for, the factors that background correction would need now (offset, gain and skew of each slice), if it updates
them, and whether the two encodings of its DMA write disagree (R298). [DESIGN CHOICE, log 4] -/
structure ConvResult where
  ch : Fin 32
  code : BitVec 16
  claim : Claim
  factors : Option (List Int)
  encBad : Bool
deriving DecidableEq, Repr
/-- The result belongs to a software scan, whose first channel a common trigger samples (R173, R177). -/
def ConvResult.scan (r : ConvResult) : Bool := r.claim == .scan || r.claim == .trigger
/-- What a gauge tick samples (R179, R206): BAT in mV, the code of BTH and the signed code of the pack shunt. [DESIGN
CHOICE, log 4] -/
structure GaugeSample where
  bat : Nat
  bth : BitVec 16
  shunt : Int
deriving DecidableEq, Repr
/-- The end of one converter's calibration (R168, R171): the new factors of its four slices, offset and gain word
before skew word, or none when one falls outside its range. -/
structure CalResult where
  factors : Option (List Word)
deriving DecidableEq, Repr
/-- What a feed-forward evaluation is told of a rail (R231): the ripple of the sensed VIN in mV over the past 1 ms, and
whether the 100 ms after a hand-over have passed. [DESIGN CHOICE, log 4] -/
structure FfwdIn where
  rail : Fin 20
  ripple : Nat
  waited : Bool
deriving DecidableEq, Repr

/-- What a ride-through evaluation measures (R232): the mean of IBAT over the last 250 ms in mA, and the time since
the episode began in s. [DESIGN CHOICE, log 4] -/
structure RideIn where
  ibat : Int
  time : Rat
deriving DecidableEq, Repr
/-- What an upset strikes: one of a word's 39 bits, two of them, or one of the three copies of an SRAM word's valid bit (R290,
R291). The syndrome is that of the error alone. [DESIGN CHOICE, log 100] -/
inductive Strike where
  | bit (syndrome : BitVec 7)
  | bits (syndrome : BitVec 7)
  | copy (c : Fin 3)
deriving DecidableEq, Repr
/-- An upset of a word of SRAM or ledger. [DESIGN CHOICE, log 100] -/
structure Upset where
  addr : Nat
  strike : Strike
deriving DecidableEq, Repr
/-- What becomes of one try of a redirection (R332): it holds, the spare fails its verify, or the table entry does. -/
inductive SpareTry where
  | good
  | spareBad
  | entryBad
deriving DecidableEq, Repr

/-- The end of a program (R330): the row matches at the strict margin; the tries of its redirection; the row decodes
with correction where no spare is left. -/
structure OtpOutcome where
  strict : Bool
  tries : List SpareTry
  decodes : Bool
deriving DecidableEq, Repr

/-- A finding of the start-up scan (R331): a table entry whose complement does not match, or a row that fails the strict
margin, with whether it decodes at the normal margin and the tries of its redirection. [DESIGN CHOICE, log 112] -/
inductive ScanFind where
  | entry (k : Fin 16)
  | row (r : Fin 512) (decodes : Bool) (tries : List SpareTry)
deriving DecidableEq, Repr
/-- A frame of the Line (R352): four header words, payload bytes, the frame CRC, and how it ended: with EOF or
EOFB, and whether a character error of R351 met it. [DESIGN CHOICE, log 165] -/
structure Frame where
  w0 : Word
  w1 : Word
  w2 : Word
  w3 : Word
  payload : List Byte
  crc : Word
  eof : Bool
  charError : Bool
deriving DecidableEq, Repr

/-- A frame whose items are delivered to SRAM (R382), and whether the encoder finds its DMA write wrong (R298). -/
structure Arrival extends Frame where
  encBad : Bool
deriving DecidableEq, Repr

/-- A write transaction of the two-wire bus (R401): the address it names, every byte after the address byte, and whether
it had begun before a watchdog expiry whose reset has not run (R407). [DESIGN CHOICE, log 134, 165] -/
structure TwbWrite where
  addr : BitVec 7
  bytes : List Byte
  begun : Bool
deriving DecidableEq, Repr

/-- A read transaction of the two-wire bus (R403): the address it names, the bytes of the write phase it follows by a
repeated START, address byte first, or none, and the bytes the controller clocks in. [DESIGN CHOICE, log 134] -/
structure TwbRead where
  addr : BitVec 7
  pre : List Byte
  n : Nat
deriving DecidableEq, Repr

/-- The transaction a timeout abandons (R408): a write, or a read that had sent `n` bytes. [DESIGN CHOICE, log 134] -/
inductive TwbCut where
  | write
  | read (n : Nat)
deriving DecidableEq, Repr

/-- How a controller transfer ends on the bus (Table 19.2), beside arbitration and expiry. -/
inductive CxEnd where
  | ok | anack | dnack | timeout | pecErr
deriving DecidableEq, Repr

/-- The end of a controller transfer: its kind, the bytes written before it, and the bytes read. [DESIGN CHOICE, log 165] -/
structure CxOutcome where
  res : CxEnd
  wrote : Nat
  data : List Byte
deriving DecidableEq, Repr

/-- Why a Lookout line is discarded (R415): an unknown command or malformed argument, an overflow of the input buffer or
a framing error. -/
inductive MonError where
  | badSyntax
  | overflow
  | framing
deriving DecidableEq, Repr

/-- A token and a window edge at the same moment (R341): the closing or the opening edge, and how the mutex decides. [DESIGN
CHOICE, log 114] -/
structure EdgeDecision where
  closing : Bool
  won : Bool
deriving DecidableEq, Repr

/-- What else the watchdog meets at the moment of a token: a window edge (R341), and the other tasks whose period ends then
(R343). [DESIGN CHOICE, log 114] -/
structure TokenMoment where
  edge : Option EdgeDecision
  others : BitVec 8
deriving DecidableEq, Repr

/-- What a start or a wake finds on its way: the findings of the start-up scan (R331), and the results of the calibration of
converters A, B and C in that order (R168). -/
structure StartIn where
  scan : List ScanFind
  cal : List CalResult
deriving DecidableEq, Repr

/-- Start causes of Table 22.3. -/
inductive StartCause where
  | powerOn | watchdog | longPress (aonUp : Bool) | ship | depleted | coreBrownout | loader
deriving DecidableEq, Repr


/-- The commands: one constructor per row of the operation table. -/
inductive Instr where
  /-- REGISTER_WRITE (R8): A register write, through any interface, to a register that has no row of its own; narrow writes are merged as one read-modify-write. -/
  | registerWrite (i : Iface) (addr : Nat) (v : Word) (be : BitVec 4)
  /-- WINBASE_WRITE (R24): A write to SYS_WINBASE moves the two-wire window, or sets BADBASE and keeps BASE when the value is not permitted. -/
  | winbaseWrite (i : Iface) (v : Word) (be : BitVec 4)
  /-- IDATA_READ (R25): A read of SYS_IDATA returns the word at SYS_IADDR and adds 4 to SYS_IADDR. -/
  | idataRead (i : Iface)
  /-- IDATA_WRITE (R25): A write of SYS_IDATA stores the word at SYS_IADDR and adds 4 to SYS_IADDR. -/
  | idataWrite (i : Iface) (v : Word) (be : BitVec 4)
  /-- DOMAIN_POWER_UP (R18): An internal power domain is powered up after its parent is up. -/
  | domainPowerUp (d : Dom)
  /-- NOP_CONFIG (R279): Opcode 0x00: a config-lane NOP that completes as soon as it starts. -/
  | nopConfig (a : CmdAct)
  /-- NOP_LEDGER (R279): Opcode 0x40: a ledger-lane NOP that completes as soon as it starts. -/
  | nopLedger (a : CmdAct)
  /-- NOP_CALIBRATION (R279): Opcode 0x80: a calibration-lane NOP that completes as soon as it starts. -/
  | nopCalibration (a : CmdAct)
  /-- NOP_FABRIC (R279): Opcode 0xC0: a fabric-lane NOP that completes as soon as it starts. -/
  | nopFabric (a : CmdAct)
  /-- TPL_VERIFY (R57): Validates the staged stream as for TPL_LOAD_ALL, with no register change. -/
  | tplVerify (a : CmdAct)
  /-- TPL_STORE (R58): Writes the staged stream to the trackplan bank not named by TPL_STATUS.BANK. -/
  | tplStore (a : CmdAct)
  /-- TPL_LOAD_ALL (R58): Applies the whole staged stream as at boot and then commits it to the inactive bank. -/
  | tplLoadAll (a : CmdAct)
  /-- TPL_LOAD_DOMAIN (R60): Validates and replaces the section of one domain in HOLD or SAFE mode while the rest of the card runs. -/
  | tplLoadDomain (a : CmdAct)
  /-- HOLDMAX_WRITE (R73): A write to TPL_HOLDMAX is ignored when outside 10 to 5000, and otherwise applies to the next reload. -/
  | holdmaxWrite (i : Iface) (v : Word) (be : BitVec 4)
  /-- STG_CFG_WRITE (R78): A write to STGmm_CFG is judged against the ownership and gang-size rules, then applied whole or only in DEMODE and PARKOK. -/
  | stgCfgWrite (i : Iface) (m : Fin 24) (v : Word) (be : BitVec 4)
  /-- PNT_CFG_WRITE (R99): A write to PNTkk_CFG is ignored while its point is closed. -/
  | pntCfgWrite (i : Iface) (k : Fin 8) (v : Word) (be : BitVec 4)
  /-- VALLEY_COMPARATOR_FIRE (R80): The rail's valley comparator fires, and the trigger passes in rotation to the next stage able to start an on-time, which is computed under R79. -/
  | valleyComparatorFire (n : Fin 16) (f : Fire)
  /-- ZERO_CURRENT_DETECT (R85): The zero-current comparator turns the low side off in diode emulation, ending the cycle. -/
  | zeroCurrentDetect (m : Fin 24)
  /-- NEGATIVE_LIMIT (R86): In forced CCM, the current falls below −NLIM, so the low side turns off and NEG is set. -/
  | negativeLimit (m : Fin 24)
  /-- OC_TIMEOUT (R86): VLIMACT has stayed set for OCT, so the stage raises its OC fault source. -/
  | ocTimeout (m : Fin 24)
  /-- AGGREGATE_LIMIT (R87): The summed current of stages 16 to 23 exceeds LIMIT, so AGGACT is set and their valley limits are scaled. -/
  | aggregateLimit (meas : List StageMeas)
  /-- HSSHORT_DETECT (R89): The switch node reaches VTH during the shorted-high-side test, so the stage is BLOCKED and HSSHORT is raised. -/
  | hsshortDetect (m : Fin 24) (vsw : Nat)
  /-- TEST_WINDOW_END (R88): The TSHT window ends with the switch node below VTH, so the stage passes into BOOT. -/
  | testWindowEnd (m : Fin 24) (vsw : Nat)
  /-- BOOT_END (R90): A stage leaves BOOT and enters RUN together with the gang on a rail start, or enters JOIN on an add or unpark. The voltage is the tap's (R162), so `u` carries nothing. -/
  | bootEnd (m : Fin 24) (u : Unit)
  /-- SHARE_RAMP_END (R90): A stage's share ramp reaches 1 (JOIN to RUN) or 0 (LEAVE stops taking on-times). -/
  | shareRampEnd (m : Fin 24)
  /-- LEAVE_CURRENT_ZERO (R91): A stage at share 0 sees its current reach zero and enters OFF or PARKED. -/
  | leaveCurrentZero (m : Fin 24)
  /-- LEAVE_TIMEOUT (R91): 50 µs after share 0 the current has not reached zero, so both switches turn off and the stage moves on anyway. -/
  | leaveTimeout (m : Fin 24)
  /-- STG_FLAG_WRITE (R89): A write to STGmm_FLAG clears flags, and a write of 1 to HSSHORT while the fault source is clear returns a BLOCKED stage to OFF. -/
  | stgFlagWrite (i : Iface) (m : Fin 24) (v : Word) (be : BitVec 4)
  /-- WATERSHED_TICK (R92): Every 1 ms, the trims of gangs with at least 5 stages in rotation are balanced by temperature, or decay toward zero. -/
  | watershedTick (meas : List StageMeas)
  /-- POINT_SETTLED (R77): SWY_PNTT has elapsed after closing a point, so the stage may proceed to its test. -/
  | pointSettled (k : Fin 8)
  /-- SWY_REGANG (R94): Checks a shed, add or move of a stage between rails and runs its phases. -/
  | swyRegang (a : CmdAct)
  /-- LOOP_SAMPLE_TRIGGER (R102): A slot's sample trigger arrives, and the sample starts when the engine is free. -/
  | loopSampleTrigger (s : Fin 32)
  /-- LOOP_SAMPLE_DONE (R105): A sample completes, commits its section states and writes its clamped output to the destination. -/
  | loopSampleDone (s : Fin 32) (duty : Rat)
  /-- TEMPO_WINDOW_END (R110): A 10.24 µs tempo window ends, RATE and SLACKNOW are updated, and policy may shed one slot. -/
  | tempoWindowEnd (e : Fin 8) (count : Nat)
  /-- LOOP_RESTORED (R114): The faster rate's slack has held at RESTTH for 10 ms, so a shed slot returns to the faster rate. -/
  | loopRestored (e : Fin 8)
  /-- RMIN_RESET (R110): A write of 1 to RMINRST sets TEMPO.RMIN to the present RATE. -/
  | rminReset (i : Iface) (e : Fin 8)
  /-- LPE_SHED_WRITE (R126): A write to LPEee_SHED is ignored whole when its fields break their ranges. -/
  | lpeShedWrite (i : Iface) (e : Fin 8) (v : Word) (be : BitVec 4)
  /-- LOOP_OPEN_REQUEST (R119): REQ = 0b01 opens a slot, abandoning any sample in progress and holding its destination. -/
  | loopOpenRequest (i : Iface) (s : Fin 32)
  /-- LOOP_CLOSE_REQUEST (R120): REQ = 0b10 closes a slot with frozen states, or is refused under R121. -/
  | loopCloseRequest (i : Iface) (s : Fin 32)
  /-- LOOP_CLOSE_CLEARED (R120): REQ = 0b11 closes a slot with every section state cleared, or is refused under R121. -/
  | loopCloseCleared (i : Iface) (s : Fin 32)
  /-- LPS_CFG_WRITE (R101): A write to LPSss_CFG is refused while CLOSED, or is checked for placement, throughput and tap limits and may be ignored with PLACEREJ. -/
  | lpsCfgWrite (i : Iface) (s : Fin 32) (v : Word) (be : BitVec 4)
  /-- LPS_OUT_WRITE (R103): A write to LPSss_OUT is refused while CLOSED, or is ignored with PLACEREJ when it names a destination twice or a foreign rail. -/
  | lpsOutWrite (i : Iface) (s : Fin 32) (v : Word) (be : BitVec 4)
  /-- LPS_IN_WRITE (R164): A write to LPSss_IN is refused while CLOSED, or is ignored with TAPREJ when it breaks the tap rule. -/
  | lpsInWrite (i : Iface) (s : Fin 32) (v : Word) (be : BitVec 4)
  /-- LOOP_PARAM_WRITE (R117): A write to LPSss_REF or LPSss_MODEL is refused with COEFREJ while the slot is CLOSED. -/
  | loopParamWrite (i : Iface) (p : LoopParam) (s : Fin 32) (v : Word) (be : BitVec 4)
  /-- COEF_WRITE (R117): A write to a section coefficient is refused with COEFREJ while its slot is CLOSED. -/
  | coefWrite (i : Iface) (e : Fin 8) (j : Fin 12) (c : Fin 5) (v : Word) (be : BitVec 4)
  /-- LOOP_OPENLONG (R119): A host-opened slot has stayed OPEN for OPENMAX while its rail is not OFF, so LOOP_OPENLONG is raised. -/
  | loopOpenlong (s : Fin 32)
  /-- WATCH_SETTLE_END (R123): The error has stayed within FLIM for SETTLE, so the slot passes from follow watch to model watch. -/
  | watchSettleEnd (s : Fin 32)
  /-- LOOP_FOLLOW (R124): The following error has exceeded FLIM for FTIME, so the slot is HALTED and LOOP_FOLLOW is raised. -/
  | loopFollow (s : Fin 32)
  /-- LOOP_MODEL (R124): The model-watch counter reaches CNT, so the slot is HALTED and LOOP_MODEL is raised. -/
  | loopModel (s : Fin 32)
  /-- RAIL_ON_REQUEST (R129): An on request via RAILnn_CTL.REQ starts an OFF rail, reverses or holds a falling one, or is refused with REQREJ. -/
  | railOnRequest (i : Iface) (n : Fin 20)
  /-- RAIL_OFF_REQUEST (R130): An off request via RAILnn_CTL.REQ takes an ungrouped rail down through OFF_DELAY, ramp and discharge. -/
  | railOffRequest (i : Iface) (n : Fin 20)
  /-- ON_DELAY_END (R130): ONDLY has elapsed, so the rail enters START and its stages are tested. The voltage is the tap's (R162), so `u` carries nothing. -/
  | onDelayEnd (n : Fin 20) (u : Unit)
  /-- OFF_DELAY_END (R130): OFFDLY has elapsed, so the rail enters RAMP_DOWN. -/
  | offDelayEnd (n : Fin 20)
  /-- SETPOINT_REACHED (R132): A ramp reaches its target: VSET gives ON, or 0 gives DISCHARGE. -/
  | setpointReached (n : Fin 20)
  /-- DISCHARGE_DONE (R130): The sensed output falls below DISCHV, so the rail enters OFF and a held request starts. -/
  | dischargeDone (n : Fin 20)
  /-- DISCHARGE_TIMEOUT (R134): DISTO expires in DISCHARGE, so the rail enters OFF, RAIL_DISCH is raised and the failure is logged. The voltage is the tap's (R162), so `u` carries nothing. -/
  | dischargeTimeout (n : Fin 20) (u : Unit)
  /-- START_TIMEOUT (R136): PG is not asserted within PGTO after ON, so the rail ramps down and RAIL_START is raised. -/
  | startTimeout (n : Fin 20)
  /-- VSET_WRITE (R132): A write to RAILnn_VSET moves or retargets a live rail's setpoint, or is stored for later. -/
  | vsetWrite (i : Iface) (n : Fin 20) (v : Word) (be : BitVec 4)
  /-- PG_ASSERT (R153): The output has stayed in the window for PGDLY while ON, so PG asserts and RAIL_PG is raised. -/
  | pgAssert (n : Fin 20)
  /-- GROUP_ON_REQUEST (R139): An on request via TTB_Gg_CTL makes a group RISING, reverses a falling group, reruns an UP group, or is refused. -/
  | groupOnRequest (i : Iface) (g : Fin 8)
  /-- GROUP_OFF_REQUEST (R141): An off request via TTB_Gg_CTL makes a group FALLING, reversing at once if it is in a hold. -/
  | groupOffRequest (i : Iface) (g : Fin 8)
  /-- STEP_HOLD_END (R140): A step's hold ends (PG, OFF or WAIT time), so the group runs the next step's action or becomes UP or OFF. -/
  | stepHoldEnd (g : Fin 8)
  /-- STEP_WRITE (R138): A write to a step word is ignored with STEPREJ when it breaks the encoding or sequence rules or the group is not OFF. -/
  | stepWrite (i : Iface) (g : Fin 8) (j : Fin 64) (v : Word) (be : BitVec 4)
  /-- BOUT_START (R147): VIN has stayed below VOFF for BFILT, so off requests go to every group and rail and ACTIVE is set. The voltage is the tap's (R162), so `u` carries nothing. -/
  | boutStart (u : Unit)
  /-- VIN_BELOW_VON (R149): VIN dips below VON, clearing QUAL and restarting the qualification. The voltage is the tap's (R162), so `u` carries nothing. -/
  | vinBelowVon (u : Unit)
  /-- TTB_BOUT_WRITE (R157): A write to TTB_BOUT is ignored whole when VOFF is below 60 or VON is below VOFF + 3. -/
  | ttbBoutWrite (i : Iface) (v : Word) (be : BitVec 4)
  /-- OV_CROSSING (R152): An OV comparator change persists for OVFILT, so a crossing is counted and, when armed, RAIL_OV is raised. -/
  | ovCrossing (n : Fin 20)
  /-- UV_CROSSING (R152): A UV comparator change persists for UVFILT, so a crossing is counted and, when armed, RAIL_UV is raised and PG drops. -/
  | uvCrossing (n : Fin 20)
  /-- CROSSING_END (R151): The input returns past the threshold by HYST, so the counted crossing ends. -/
  | crossingEnd (n : Fin 20) (ov : Bool)
  /-- RESET_RELEASE (R155): A releasable reset output whose mask rails have held PG for STRETCH is released. -/
  | resetRelease (x : Fin 4)
  /-- CONVERSION_RESULT (R162): A conversion's corrected result becomes available, updates the tap table and background correction, and, for a scan, the data register. -/
  | conversionResult (x : Fin 3) (r : ConvResult)
  /-- GAUGE_TICK (R207): Every 250 µs, BAT, BTH and the shunt are sampled together, and the gauge counts charge, grows ERR and updates the display. -/
  | gaugeTick (g : GaugeSample)
  /-- SURVEY_CAL (R169): Calibrates the converters named in the mask, one after another. -/
  | surveyCal (a : CmdAct)
  /-- CONVERTER_CAL_DONE (R169): One converter's calibration ends; the new factors are installed or rejected for RANGE, and the scan resumes. -/
  | converterCalDone (x : Fin 3) (r : CalResult)
  /-- SCAN_START (R173): A continuous software scan starts after the previous scan ends and PACE has elapsed. -/
  | scanStart (x : Fin 3)
  /-- START (R173): A write of 1 to SVY_CVx_CTL.START starts one scan in MODE 0b10. -/
  | start (i : Iface) (x : Fin 3)
  /-- DATA_READ (R174): A read of SVY_CVx_DATA returns the result and clears NEW and OVR. -/
  | dataRead (i : Iface) (x : Fin 3)
  /-- DMA_ENABLE (R176): A write of EN = 1 to SVY_CVx_DMA_CFG starts the channel, or is refused with DMADROP for a bad ring. -/
  | dmaEnable (i : Iface) (x : Fin 3) (v : Word) (be : BitVec 4)
  /-- SLICE_FACTOR_WRITE (R172): A write to a slice factor takes effect only with MODE 0b00 and no calibration running; otherwise CALWR is set. -/
  | sliceFactorWrite (i : Iface) (x : Fin 3) (k : Fin 4) (skew : Bool) (v : Word) (be : BitVec 4)
  /-- FIRE (R177): A write of 1 to SVY_TRIG.FIRE makes one common trigger. -/
  | fire (i : Iface)
  /-- SOURCE_LOSS (R186): SRCS stays below SRC_OFF for SRCFILT, or SYS lies below BAT by 50 mV for 20 µs, so the source switch and charger turn off and a hand-over starts. -/
  | sourceLoss (src settled : Bool)
  /-- HANDOVER_COMPLETE (R185): The ideal-diode switch is fully on, so the path enters BATTERY, and QUALIFY when the source is present. -/
  | handoverComplete (src : Bool)
  /-- SHIP_REQUEST (R191): A write of GO with KEY 0x5A to BKP_SHIP sets SHIPPEND and takes every rail down. -/
  | shipRequest (i : Iface)
  /-- SHIP_CANCEL (R191): A write of CANCEL to BKP_SHIP clears SHIPPEND. -/
  | shipCancel (i : Iface)
  /-- BUTTON_CHANGE (R193): BTN_N changes level after the 10 ms debounce, updating PRESSED and starting the long-press timer on a fall. -/
  | buttonChange (low : Bool)
  /-- BKP_BATCFG_WRITE (R196): A write to BKP_BATCFG is checked against the chemistry limits and may be refused with SETREJ; a change returns the charger to CHECK. -/
  | bkpBatcfgWrite (i : Iface) (v : Word) (be : BitVec 4)
  /-- BKP_CHG_WRITE (R196): A write to BKP_CHG is checked against the CV and current limits, counts as host contact, and may start or stop the charger. -/
  | bkpChgWrite (i : Iface) (v : Word) (be : BitVec 4)
  /-- BKP_PATH_WRITE (R204): A write to BKP_PATH is ignored whole when SRC_ON is below SRC_OFF + 3. -/
  | bkpPathWrite (i : Iface) (v : Word) (be : BitVec 4)
  /-- BKP_QUAL_WRITE (R204): A write to BKP_QUAL is ignored whole when QUAL or HBMIN is out of range. -/
  | bkpQualWrite (i : Iface) (v : Word) (be : BitVec 4)
  /-- CHECK_END (R197): After 100 ms in CHECK, the charger enters PRE, CC or DONE according to BAT. -/
  | checkEnd (bat : Nat)
  /-- BKP_FLAG_WRITE (R197): A W1C write to BKP_FLAG; clearing TIMER and OV after the fault source is cleared returns FAULT to CHECK. -/
  | bkpFlagWrite (i : Iface) (v : Word) (be : BitVec 4)
  /-- KICK (R201): A write to BKP_WDT is host contact and reloads the charger watchdog. -/
  | kick (i : Iface) (v : Word) (be : BitVec 4)
  /-- GAU_CYCLES_WRITE (R213): A write to GAU_CYCLES takes effect only in NOANCHOR; otherwise WRREJ is set. -/
  | gauCyclesWrite (i : Iface) (v : Word) (be : BitVec 4)
  /-- GAUGE_CONFIG_WRITE (R212): A write to GAU_DESIGN or GAU_CFG recomputes QUSE without changing ACC. -/
  | gaugeConfigWrite (i : Iface) (cfg : Bool) (v : Word) (be : BitVec 4)
  /-- NEWPACK (R221): A write of NEWPACK with KEY 0xA5 clears CYCLES, THRU and the anchors. -/
  | newpack (i : Iface) (v : Word) (be : BitVec 4)
  /-- ACC_LO_READ (R222): A read of GAU_ACC_LO copies ACC into the reading interface's holding register. -/
  | accLoRead (i : Iface)
  /-- PHASE_COUNT_EVAL (R227): Every 1 ms, the phase-count function may park or unpark one stage of each enabled rail. -/
  | phaseCountEval (meas : List StageMeas)
  /-- DERATE_EVAL (R229): Every 1 ms, DERF moves toward the target factor and the effective valley limits follow. -/
  | derateEval (meas : List StageMeas)
  /-- OT_PARK (R230): A stage has stayed at or above TMAX for 10 ms, so it is parked, or POL_OT is raised. -/
  | otPark (m : Fin 24)
  /-- FFWD_EVAL (R231): Every 1 ms, the feed-forward function measures VIN ripple and may switch the rail between DIRECT and DAMPED. -/
  | ffwdEval (l : List FfwdIn)
  /-- RIDE_EVAL (R233): Every 250 ms in an episode, the budget predicts the hold time and may shed one rail. -/
  | rideEval (r : RideIn)
  /-- POL_LOCK_WRITE (R225): A write to POL_LOCK locks or resumes policy functions at their next evaluation. -/
  | polLockWrite (i : Iface) (v : Word) (be : BitVec 4)
  /-- POL_LIMIT_WRITE (R236): A write to POLnn_PHASE or POLnn_DER is ignored whole when its fields break their ranges. -/
  | polLimitWrite (i : Iface) (phase : Bool) (n : Fin 20) (v : Word) (be : BitVec 4)
  /-- FAULT_RAISE (R239): A fault source is raised: its bit is set, its cause and count are captured, and the reaction of its class is taken. -/
  | faultRaise (f : Fin 256) (cause : Fin 16)
  /-- FAULT_CLEAR (R243): A write of 1 to a bit of FLT_STATw clears a fault whose cause is gone and whose reactions are complete, unlatching rails. -/
  | faultClear (i : Iface) (w : Fin 8) (v : Word) (be : BitVec 4)
  /-- FLT_CFG_WRITE (R241): A write to FLTsss_CFG is checked against the class and target rules and may be ignored with CFGREJ. -/
  | fltCfgWrite (i : Iface) (f : Fin 256) (v : Word) (be : BitVec 4)
  /-- FLT_TGT_WRITE (R241): A write to FLTsss_TGT is checked against domain ownership and may be ignored with CFGREJ. -/
  | fltTgtWrite (i : Iface) (f : Fin 256) (v : Word) (be : BitVec 4)
  /-- CNTCLR (R270): A write of CNTCLR with KEY 0x96 sets every FLT_CNTpp to 0. -/
  | cntclr (i : Iface) (v : Word) (be : BitVec 4)
  /-- FLT_FORCE_WRITE (R253): A write to FLT_FORCE forces one comparator in FACTORY with TEST_EN high, or is refused with FORCEREJ. -/
  | fltForceWrite (i : Iface) (v : Word) (be : BitVec 4)
  /-- INJECTION_UNLOCK (R254): Two FLT_INJ writes with keys 0x3C and 0xC3 within 1 ms unlock checker injection. -/
  | injectionUnlock (i : Iface) (v : Word) (be : BitVec 4)
  /-- GO (R254): A write of GO to FLT_INJ generates one test transaction with inverted check bits on the named checker. -/
  | go (i : Iface) (v : Word) (be : BitVec 4)
  /-- INJECTION_RESULT (R255): The checker reports DETECTED or MISSED and raises its source with cause 0xF or 0xE. -/
  | injectionResult (detected : Bool)
  /-- FLT_HOST_RAISE (R238): A write to FLT_HOST raises sources 252 to 255. -/
  | fltHostRaise (i : Iface) (v : Word) (be : BitVec 4)
  /-- EVENT_OCCURRENCE (R259): A source condition is sensed under SENSE, setting PEND or coalescing into the queued record. -/
  | eventOccurrence (f : Fin 256) (rise : Bool) (info : Nat) (code : Nat)
  /-- EVENT_QUEUE_WRITE (R263): An eligible record, message or GAP record is written into its queue when there is room and priority allows. -/
  | eventQueueWrite (q : Fin 3)
  /-- STORM_WINDOW_CLOSE (R268): A 1 ms storm window closes without a storm, and its count returns to 0. -/
  | stormWindowClose (f : Fin 256)
  /-- PEND_WRITE (R261): A write to EVT_PENDw makes a software occurrence or discards waiting ones. -/
  | pendWrite (i : Iface) (w : Fin 8) (v : Word) (be : BitVec 4)
  /-- FREEZE_WRITE (R262): A write to EVT_CTL.FREEZE stops or resumes hardware changes to EN and PEND. -/
  | freezeWrite (i : Iface) (v : Word) (be : BitVec 4)
  /-- TAKE (R264): A write to EVT_QqTAKE copies the oldest record to REC0–REC3, frees its slot and pushes the priority stack. -/
  | take (i : Iface) (q : Fin 3)
  /-- EOI (R265): A write to EVT_QqEOI pops the priority stack and re-samples a level source. -/
  | eoi (i : Iface) (q : Fin 3)
  /-- QUEUE_CONFIG_WRITE (R271): A write to EVT_QqBASE or SIZE is accepted only for an empty queue within the rules; otherwise CFGREJ is set. -/
  | queueConfigWrite (i : Iface) (size : Bool) (q : Fin 3) (v : Word) (be : BitVec 4)
  /-- COMMAND_START (R281): The next waiting command of a lane starts after the previous one completes. -/
  | commandStart (l : Fin 4)
  /-- UNKNOWN_OP (R278): An issue with an opcode not in Table 12.1 is refused. -/
  | unknownOp (i : Iface) (op : BitVec 8)
  /-- CMD_CANCEL (R285): A write of a handle to CMD_CANCEL marks, aborts or ignores the named command according to its state. -/
  | cmdCancel (i : Iface) (v : Word) (be : BitVec 4)
  /-- CMD_QUERY (R286): A write of a handle to CMD_QUERY makes CMD_QSTAT report that command. -/
  | cmdQuery (i : Iface) (v : Word) (be : BitVec 4)
  /-- SCRUB_STEP (R295): Every SCRUBT, the scrubber reads and corrects the next SRAM word. -/
  | scrubStep (hits : List Upset)
  /-- MEM_PRETIRE_WRITE (R302): A write to MEM_PRETIRE with KEY 0x69 retires an SRAM page to a spare, or is refused. -/
  | memPretireWrite (i : Iface) (v : Word) (be : BitVec 4)
  /-- LDG_RETIRE (R304): Retires a 4 KiB ledger block to a spare block. -/
  | ldgRetire (a : CmdAct)
  /-- LEDGER_STEP_DONE (R310): A ledger erase or row program ends, and the next step is taken from the lanes in priority order. -/
  | ledgerStepDone (ok : Bool)
  /-- LDG_FW_WRITE (R311): Opens the inactive firmware slot if needed and programs bytes from SRAM into it. -/
  | ldgFwWrite (a : CmdAct)
  /-- LDG_FW_SEAL (R312): Checks the image signature and seals the inactive slot. -/
  | ldgFwSeal (a : CmdAct)
  /-- LDG_FW_ACTIVATE (R313): Programs ACT and NACT of the sealed inactive slot so that it boots next. -/
  | ldgFwActivate (a : CmdAct)
  /-- LDG_USER_WRITE (R320): Builds and writes a new user bank with the given bytes replaced. -/
  | ldgUserWrite (a : CmdAct)
  /-- OTP_PROGRAM (R329): A write of GO with KEY 0xB7 to OTP_PROG starts programming OTP_ROW, or refuses it with a code. -/
  | otpProgram (i : Iface) (v : Word) (be : BitVec 4)
  /-- OTP_DONE (R330): Programming and strict-margin verify end, with redirection if needed, so BUSY clears and OTP_DONE is raised. -/
  | otpDone (r : OtpOutcome)
  /-- LIFECYCLE_TRANSITION (R334): A write of GO with KEY 0x4D to OTP_LC programs the mark of a permitted target state. -/
  | lifecycleTransition (i : Iface) (v : Word) (be : BitVec 4)
  /-- TASK_REGISTER (R337): A write to WDGtt_CFG registers a watchdog task, or is ignored with CFGREJ. -/
  | taskRegister (i : Iface) (t : Fin 8) (v : Word) (be : BitVec 4)
  /-- TOKEN (R340): A write to WDG_TOKEN is judged for interface, value, window and double delivery, and is accepted or causes an expiry. -/
  | token (i : Iface) (v : Word) (be : BitVec 4) (e : TokenMoment)
  /-- WINDOW_OPEN (R339): WINOPEN ms into a period, the task's window opens. -/
  | windowOpen (t : Fin 8)
  /-- PERIOD_END (R340): A task's period ends; without an accepted token this is failure LATE, and the next period begins. -/
  | periodEnd (t : Fin 8) (others : BitVec 8)
  /-- WDG_WARN (R342): Half a task's window has passed with no token, so WARN is set. -/
  | wdgWarn (t : Fin 8)
  /-- WDG_CTL_WRITE (R348): A write to WDG_CTL is ignored with CFGREJ while any of tasks 2 to 7 is registered. -/
  | wdgCtlWrite (i : Iface) (v : Word) (be : BitVec 4)
  /-- CHECK_TRANSMIT (R359): Every microsecond, each port that is not OFF inserts a CHECK frame. -/
  | checkTransmit (p : Fin 4)
  /-- FRAME_HEADER_RECEIVE (R363): A frame header arrives and is checked, then consumed, delivered or forwarded cut-through under the routing order. -/
  | frameHeaderReceive (p : Fin 4) (f : Frame)
  /-- FRAME_CRC_FAIL (R355): A frame's CRC fails at its end, so a forwarded copy ends with EOFB, or the frame is discarded and LINK_CRC is raised. -/
  | frameCrcFail (p : Fin 4) (f : Frame)
  /-- CHECK_RECEIVE (R359): A valid CHECK is received and the neighbour's address, port and RXOK are recorded. -/
  | checkReceive (p : Fin 4) (f : Frame)
  /-- PORT_ALIGNED (R358): Comma alignment is gained, so the port enters CHECKING. -/
  | portAligned (p : Fin 4)
  /-- ALIGN_LOST (R358): Comma alignment is lost in CHECKING, so the port returns to ALIGN. -/
  | alignLost (p : Fin 4)
  /-- PORT_UP (R358): Valid CHECKs with RXOK = 1 have been received for UPHOLD, so the port enters UP. -/
  | portUp (p : Fin 4)
  /-- CHECK_TIMEOUT (R360): No valid CHECK has arrived for 2 µs, so an UP port declares its neighbour lost. -/
  | checkTimeout (p : Fin 4)
  /-- LOS_ASSERT (R360): LNKnLOS has been asserted for 100 ns, so an UP port declares its neighbour lost. -/
  | losAssert (p : Fin 4)
  /-- LNK_CFG_WRITE (R358): A write to LNK_CFG enables or disables ports, and REMCFG may not be written over the Line. -/
  | lnkCfgWrite (i : Iface) (v : Word) (be : BitVec 4)
  /-- RT_B_WRITE (R366): A write to LNK_RTee_B is staged. -/
  | rtBWrite (i : Iface) (e : Fin 64) (v : Word) (be : BitVec 4)
  /-- RT_A_WRITE (R366): A write to LNK_RTee_A applies A and the staged B together to later lookups. -/
  | rtAWrite (i : Iface) (e : Fin 64) (v : Word) (be : BitVec 4)
  /-- LINE_SURVEY (R367): Makes this station root, explores the Line breadth first, assigns addresses and optionally writes route tables. -/
  | lineSurvey (a : CmdAct)
  /-- SURVEY_RECEIVE (R368): A path-routed SURVEY reaches its target, which answers with a REPLY. -/
  | surveyReceive (p : Fin 4) (f : Frame)
  /-- REPLY_RECEIVE (R368): The root receives a REPLY and extends its exploration. -/
  | replyReceive (p : Fin 4) (f : Frame)
  /-- ASSIGN_RECEIVE (R370): An ASSIGN for this UID with a sufficient epoch sets the address, root and default route. -/
  | assignReceive (p : Fin 4) (f : Frame)
  /-- ROUTE_RECEIVE (R371): A ROUTE frame writes route entries and may clear later ones. -/
  | routeReceive (p : Fin 4) (f : Frame)
  /-- TRIP_SEND (R373): A write of GO with KEY 0xE1 to LNK_TRIPCTL sends a TRIP on every UP port. -/
  | tripSend (i : Iface) (v : Word) (be : BitVec 4)
  /-- TRIP_RECEIVE (R374): A TRIP is discarded when its key is known or its own; otherwise it is forwarded and LINE_TRIP is raised. -/
  | tripReceive (p : Fin 4) (f : Frame)
  /-- FLW_OPEN (R378): Opens a flow context bound to a peer, with a receive ring. -/
  | flwOpen (a : CmdAct)
  /-- FLW_CLOSE (R379): Closes a flow context once its outstanding frames are acknowledged. -/
  | flwClose (a : CmdAct)
  /-- FLOW_SEND (R380): A write to FLW_TXGO sends one DATA, EVENT or REMOTE frame of a context, or refuses it with TXRES. -/
  | flowSend (i : Iface) (v : Word) (be : BitVec 4)
  /-- DATA_RECEIVE (R382): A DATA or EVENT frame of an open context is held, delivered in order or counted as a duplicate, and an ACK is sent. -/
  | dataReceive (p : Fin 4) (f : Arrival)
  /-- ACK_RECEIVE (R381): An ACK with the sender's INC advances TXACK and clears RETRIES. -/
  | ackReceive (p : Fin 4) (f : Frame)
  /-- RETRANSMIT_TIMEOUT (R383): RTO passes without progress, so unacknowledged frames are resent, and the context becomes BROKEN at RETRY. -/
  | retransmitTimeout (f : Fin 128)
  /-- RXREAD_WRITE (R382): A write of RXREAD frees receive slots and raises the advertised LIMIT. -/
  | rxreadWrite (i : Iface) (f : Fin 128) (v : Word) (be : BitVec 4)
  /-- REMOTE_RECEIVE (R386): A delivered REMOTE request performs its reads or writes and sends a response with a STATUS. -/
  | remoteReceive (p : Fin 4) (f : Arrival)
  /-- SYNC_RECEIVE (R391): An accepted SYNC steps or trims station time and may enter ACQUIRE or LOCKED. -/
  | syncReceive (p : Fin 4) (f : Frame)
  /-- REQ_RECEIVE (R391): A REQ is answered with a RESP carrying t2 and t3. -/
  | reqReceive (p : Fin 4) (f : Frame)
  /-- RESP_RECEIVE (R391): A RESP sets the port's TIM_DELAY from the four timestamps. -/
  | respReceive (p : Fin 4) (f : Frame)
  /-- TIME_SET (R393): A write of GO with KEY 0x7E to TIM_SETCTL steps time to TIM_SET at the root or while FREE, or sets SETREJ. -/
  | timeSet (i : Iface) (v : Word) (be : BitVec 4)
  /-- TIM_NOW_LO_READ (R427): A read of TIM_NOW_LO returns agreed station time and holds HI for the reading interface. -/
  | timNowLoRead (i : Iface)
  /-- SUMMIT_MARK (R394): At the root, arms a snapshot bank and broadcasts a MARK for time T. -/
  | summitMark (a : CmdAct)
  /-- MARK_RECEIVE (R395): A MARK from the root with the station's epoch arms bank NUM mod 4, or is missed. -/
  | markReceive (p : Fin 4) (f : Frame)
  /-- MARK_LATCH (R396): Station time reaches T in an armed bank, so every listed counter is sampled in one tick. -/
  | markLatch (b : Fin 4)
  /-- TIM_MARKDONE (R396): The sampled values are in the bank, so VALID is set and TIM_MARKDONE is raised. -/
  | timMarkdone (b : Fin 4)
  /-- TWB_WRITE_TRANSACTION (R401): A two-wire write transaction ends at STOP or repeated START, and its buffered words are applied after the pointer, page and PEC checks. -/
  | twbWriteTransaction (t : TwbWrite)
  /-- TWB_READ_TRANSACTION (R403): A two-wire read transaction samples whole words from the pointer, clearing RC fields and loading holding registers. -/
  | twbReadTransaction (t : TwbRead)
  /-- TWB_TIMEOUT (R408): SCL stays low for 25 to 35 ms, so the transaction is abandoned. -/
  | twbTimeout (c : TwbCut)
  /-- CXGO (R409): A write of GO to TWB_CXGO starts a controller transfer, or refuses it with PARAM. -/
  | cxgo (i : Iface) (v : Word) (be : BitVec 4)
  /-- CXDONE (R411): A controller transfer ends with a result code. -/
  | cxdone (r : CxOutcome)
  /-- RD (R419): Lookout RD reads 1 to 64 words through the address map. -/
  | rd (a : Word) (n : Nat)
  /-- WR (R419): Lookout WR writes up to 8 words, each as one 32-bit write. -/
  | wr (a : Word) (l : List Word)
  /-- RAILS (R415): Lookout RAILS prints the state, setpoint, PG and flags of a range of rails. -/
  | rails (lo hi : Nat)
  /-- EV (R420): Lookout EV prints the newest records of a queue without taking them. -/
  | ev (q n : Nat)
  /-- LOG (R421): Lookout LOG prints the newest valid fault-log records. -/
  | log (n : Nat)
  /-- DUMP (R421): Lookout DUMP prints the header and words of the newer valid dump slot. -/
  | dump (o n : Nat)
  /-- CM (R419): Lookout CM issues a command through its banked CMD registers and prints CMD_RESULT. -/
  | cm (op : Nat) (l : List Word)
  /-- QY (R419): Lookout QY writes CMD_QUERY and prints CMD_QSTAT. -/
  | qy (h : Nat)
  /-- UL (R417): Lookout UL returns a challenge, or checks a response and grants service rights or counts a failure. -/
  | ul (r : Option Word)
  /-- BAUD (R414): Lookout BAUD changes the UART rate after the OK is sent. -/
  | baud (b : Nat)
  /-- MON_BAD_LINE (R415): A Lookout line with an unknown command, malformed argument or framing or overflow error is rejected with its status code. -/
  | monBadLine (e : MonError)
  /-- MON_CFG_WRITE (R418): A write to MON_CFG through the two-wire bus or core may set DISABLE, IDLE or BAUD. -/
  | monCfgWrite (i : Iface) (v : Word) (be : BitVec 4)
  /-- LEGACY_WRITE (R429): A write changing XNG_CTL.LEGACY switches crossing reads between native and hold-and-TAKE, and sets MODE. -/
  | legacyWrite (i : Iface) (v : Word) (be : BitVec 4)
  /-- TAKE_RELEASE (R430): A write of 1 to an XNG_TAKE bit releases a group's hold copy. -/
  | takeRelease (i : Iface) (v : Word) (be : BitVec 4)
  /-- GROUP_CAPTURE (R430): A released or newly legacy group captures its hold copy at its next clock and sets TAKE. -/
  | groupCapture (g : Fin 4)
  /-- XNG_STUCK (R428): Sixteen read attempts find no agreement, so the last agreed value is returned and XNG_STUCK is raised. -/
  | xngStuck (c : Fin 16) (i : Iface)
  /-- CROSSING_TIMEOUT (R432): A control crossing's acknowledge has not arrived within 10 µs, so XNG_STUCK is raised. -/
  | crossingTimeout (c : Fin 16)
  /-- SLEEP_REQUEST (R436): A write of REQ = 0b01 to PWR_CTL enters SLEEP within 20 µs. -/
  | sleepRequest (i : Iface) (v : Word) (be : BitVec 4)
  /-- DEEP_REQUEST (R436): A write of REQ = 0b10 to PWR_CTL requests DEEP, which is refused or held until its hold conditions clear. -/
  | deepRequest (i : Iface) (v : Word) (be : BitVec 4)
  /-- DEEP_DROP (R436): A write of REQ = 0b11 to PWR_CTL drops a held DEEP request. -/
  | deepDrop (i : Iface) (v : Word) (be : BitVec 4)
  /-- WAKE (R438): A wake source takes effect, ending SLEEP or DEEP (with the steps of Table 22.2) or abandoning a DEEP entry. -/
  | wake (w : Fin 6) (b : StartIn)
  /-- PWR_TIMER_EXPIRY (R438): PWR_TIMER reaches zero in DEEP, which is a wake source. -/
  | pwrTimerExpiry (b : StartIn)
  /-- START_UP (R441): A start runs the start-up order of Table 22.4 from the step named for its cause and raises PWR_START. -/
  | startUp (c : StartCause) (b : StartIn)
  /-- CORE_BOUT (R440): A domain below CORE browns out, so it and the domains below it restart and their sections are re-applied. -/
  | coreBout (d : Dom)
  /-- DOMAIN_BROWNOUT (R18): A domain supply falls below its brown-out threshold, so that domain and those below it are held in reset. -/
  | domainBrownout (d : Dom)
  /-- FAULT_CAUSE_GONE (R238): The cause of a LEVEL fault source ends, for example the die cooling below 130 °C or VDRV rising above 7.6 V, so its FLT_LIVE bit falls and a later clear can take effect. -/
  | faultCauseGone (f : Fin 256)
  /-- BOOT_LOAD (R52): After firmware start, the device chooses the newer valid trackplan bank, validates it, falls back to the other bank if needed, and applies and reads back the stream. -/
  | bootLoad
  /-- SAFE_RELOAD_RESUME (R65): Once every rail of the domain is OFF or its discharge timeout has expired, a SAFE reload opens, applies, verifies, closes and restarts the groups. -/
  | safeReloadResume
  /-- HOLD_TIMEOUT (R68): The loops of a HOLD reload have been open for TPL_HOLDMAX, so the reload aborts. -/
  | holdTimeout
  /-- SWY_AGG_OC (R87): AGGACT has stayed set for AGGT, so SWY_AGG_OC is raised. -/
  | swyAggOc
  /-- MINOFF_END (R149): TTB_MINOFF has elapsed since BOUT_END. -/
  | minoffEnd
  /-- VIN_QUALIFIED (R149): VIN has stayed above VON for 2 ms, setting QUAL. -/
  | vinQualified
  /-- COMMON_TRIGGER (R177): A periodic common trigger samples every participating converter at one shared position and stores the time stamp. -/
  | commonTrigger
  /-- HANDOVER_TIMEOUT (R186): The path has not reached BATTERY within 10 µs of the loss, so PATH_HOFAIL is raised. -/
  | handoverTimeout
  /-- SYS_SAG (R186): SYS lies below BAT by 1.5 V for 5 µs in BATTERY, so PATH_HOFAIL is raised. -/
  | sysSag
  /-- SOURCE_RETURN (R187): SRCS reaches SRC_ON in BATTERY, so the path enters QUALIFY. -/
  | sourceReturn
  /-- PATH_RETREJ (R187): SRCS falls below SRC_ON in QUALIFY, so the return is rejected and REJCNT is counted. -/
  | pathRetrej
  /-- HANDBACK_START (R188): QUAL and HBMIN have passed, so the source switch ramps SYS up at about 10 V/ms. -/
  | handbackStart
  /-- PATH_HANDBACK (R188): SRC − SYS falls below 200 mV, so the path enters SOURCE and the charger starts from CHECK. -/
  | pathHandback
  /-- HANDBACK_TIMEOUT (R187): SOURCE is not reached within 5 ms, so the path returns to BATTERY with HBFAIL. -/
  | handbackTimeout
  /-- BAT_CUT (R190): BAT has stayed below NCELL × VCUT for 10 ms in BATTERY or QUALIFY, so BAT_CUT is raised and the empty anchor is taken. -/
  | batCut
  /-- DEPLETED_ENTRY (R190): With CUT set, every rail OFF and the path on the pack, the disconnect switch opens and the path enters DEPLETED. -/
  | depletedEntry
  /-- SHIP_ENTRY (R192): With SHIPPEND set, every rail OFF and the path BATTERY, the device enters SHIP and powers down. -/
  | shipEntry
  /-- SHIP_WAKE_BUTTON (R185): BTN_N is low for 0.5 s in SHIP, so the path enters BATTERY and the full start-up runs. -/
  | shipWakeButton
  /-- SOURCE_WAKE (R185): The source qualifies in SHIP or DEPLETED, so the path goes to HANDBACK and the start-up runs. -/
  | sourceWake
  /-- LONG_PRESS (R194): BTN_N has stayed low for LPT, so gates and LDOs turn off, resets go low, the path switches open, and OPEN is entered. -/
  | longPress
  /-- OPEN_END (R194): 400 ms after entering OPEN, the path enters BATTERY and the start-up runs. -/
  | openEnd
  /-- PRECHARGE_END (R197): BAT has stayed at or above NCELL × VPRE for 100 ms, so PRE moves to CC. -/
  | prechargeEnd
  /-- CV_ENTRY (R197): The voltage loop has controlled the stage for 100 ms, so CC moves to CV. -/
  | cvEntry
  /-- CHG_DONE (R197): With TERM = 1, the current stays below ITERM for 10 s, so the charger enters DONE and the full anchor is taken. -/
  | chgDone
  /-- RECHARGE (R197): BAT falls below the CV target less the recharge drop, so DONE returns to CHECK. -/
  | recharge
  /-- PACK_TEMP_OUT (R197): The pack temperature leaves THI or TLO, so the charger enters SUSPEND. -/
  | packTempOut
  /-- PACK_TEMP_BACK (R197): The temperature is 3 °C inside both limits, so SUSPEND returns to CHECK. -/
  | packTempBack
  /-- BAT_ABSENT (R198): BTH opens or shorts, or the current collapses on entry to voltage control, so the charger enters ABSENT and the gauge freezes. -/
  | batAbsent
  /-- BAT_PRESENT (R198): BTH is in range and BAT is at or above NCELL × 2.0 V for 1 s, so ABSENT returns to CHECK. -/
  | batPresent
  /-- CHG_TIMER (R197): PRETO or FASTTO expires, so the charger enters FAULT and CHG_TIMER is raised. -/
  | chgTimer
  /-- CHG_OV (R197): BAT stays above 1.03 × the CV target for 10 µs, so the gates turn off, FAULT is entered and CHG_OV is raised. -/
  | chgOv
  /-- CHG_WDOG (R201): The charger watchdog count reaches zero, so the safe settings are applied and CHG_WDOG is raised. -/
  | chgWdog
  /-- GAU_STALE (R211): GAU_AGE reaches STALE days, so ANCHOR_STALE is set. -/
  | gauStale
  /-- GAUGE_HOURLY_RECORD (R220): Each hour of counting, the gauge writes its state to the fault log. -/
  | gaugeHourlyRecord
  /-- RIDE_EPISODE_END (R235): The path has been SOURCE for RESTDLY, so the episode ends and shed rails begin to be restored. -/
  | rideEpisodeEnd
  /-- POL_RIDE_RESTORE (R235): The previous restored rail has PG, was refused or failed, so the next shed rail is restored. -/
  | polRideRestore
  /-- FAULT_N_RELEASE (R245): No driving bit remains and 20 µs have passed since assertion, so FAULT_N is released. -/
  | faultNRelease
  /-- TEST_EN_FALL (R253): TEST_EN falls, so any comparator force ends within 1 µs. -/
  | testEnFall
  /-- INJECTION_UNLOCK_EXPIRY (R254): The 100 ms unlock expires with no GO. -/
  | injectionUnlockExpiry
  /-- FREEZE_EXPIRY (R262): FREEZE has been set for 2 ms, so it ends, FRZEXP is set, and held occurrences are applied. -/
  | freezeExpiry
  /-- PAGE_COPY_DONE (R303): The page copy to the spare ends, so PMAP becomes valid and MEM_RETIRED is raised. -/
  | pageCopyDone
  /-- LEDGER_COMMIT (R307): A bank write's SEAL is programmed and read back, so the bank commits. -/
  | ledgerCommit
  /-- LEDGER_WRITE_FAIL (R321): A step fails verify after two retries, so the write ends with WRITE_FAIL and LDG_WRFAIL. -/
  | ledgerWriteFail
  /-- ERASE_SUSPEND (R310): A ledger read during an erase suspends the erase within 25 µs. -/
  | eraseSuspend
  /-- ERASE_RESUME (R310): 100 µs with no read passes, so the suspended erase resumes. -/
  | eraseResume
  /-- LOADER_RESTART (R315): Within 1 ms of an activation under the loader, the management core restarts with cause LOADER. -/
  | loaderRestart
  /-- DUMP_START (R319): A requested crash dump begins in lane 3 on the inactive dump slot. -/
  | dumpStart
  /-- DRAIN_TIMEOUT (R344): DRAIN ms have passed in an orderly drain, so the remaining gates and LDOs are turned off. -/
  | drainTimeout
  /-- WATCHDOG_RESET (R345): With the rails off, every domain except AON is reset and the start-up runs, raising WDG_EXPIRE. -/
  | watchdogReset
  /-- PROBE_TIMEOUT (R368): A survey probe gets no REPLY within 50 µs and is retried or abandoned. -/
  | probeTimeout
  /-- TRIP_KEY_EXPIRY (R374): A held TRIP key expires after 1 ms. -/
  | tripKeyExpiry
  /-- EVENT_FORWARD (R388): With EVTFWD enabled, the core takes fabric-queue records and sends them in EVENT frames. -/
  | eventForward
  /-- SYNC_PERIOD (R391): Every SYNCP, each UP port sends a REQ and each synchronised station sends SYNC on its tree ports. -/
  | syncPeriod
  /-- HOLDOVER (R391): HOLDN periods pass without an accepted SYNC, so time enters HOLDOVER. -/
  | holdover
  /-- WAKENACK (R406): A matching address arrives in sleep or deep sleep, so it is NACKed and a wake starts. -/
  | wakenack
  /-- ARBITRATION_LOST (R410): The controller loses arbitration, stops driving, and retries or ends with LOST. -/
  | arbitrationLost
  /-- ID (R415): Lookout ID repeats the banner. -/
  | id
  /-- FLT (R415): Lookout FLT prints each latched fault source and FLT_FIRST. -/
  | flt
  /-- LK (R417): Lookout LK ends an unlock. -/
  | lk
  /-- BAUDREV (R414): No valid line arrives within 10 s at a new rate, so BAUD returns to 115 200. -/
  | baudrev
  /-- LOCKOUT_END (R417): The 10-minute lockout after three wrong responses ends. -/
  | lockoutEnd
  /-- UNLOCK_IDLE_EXPIRY (R417): IDLE minutes pass with no line, so the unlock ends. -/
  | unlockIdleExpiry
  /-- DEEP_HOLD_TIMEOUT (R436): A held DEEP request reaches HOLDMAX and is dropped with cause HOLD. -/
  | deepHoldTimeout
  /-- DEEP_ENTRY (R436): The hold ends, so event state is copied to AON, unretained SRAM is cleared, and domains power down. -/
  | deepEntry
  /-- AON_POWER_ON (R441): The AON supply rises above its power-on threshold. -/
  | aonPowerOn
  /-- REFCLK_LOSS (R17): REFCLK disappears, so the 250 MHz domain falls back to the AON oscillator. -/
  | refclkLoss
  /-- REFCLK_RETURN (R17): REFCLK appears and the internal clock locks to it. -/
  | refclkReturn
deriving DecidableEq, Repr

end Sys2Proof
end

