-- ==== Sys2Proof/Decode.lean ====
section
/-!
DEFINITION. The words of commands. The operation table gives no row any bits: a command of this part is a register access, a
frame, a line or an event, and none is spelled by a word.
-/

namespace Sys2Proof

/-- The command that a word spells by the table's bits: none, for every word. [DESIGN CHOICE, log 8] -/
def decodeTableWord (_nbits _w : Nat) : Option Instr := none

end Sys2Proof
end

