-- ==== Sys2Proof/Machine/Bits.lean ====
section
/-!
DEFINITION. Bit fields of a word, signed readings of fields, and the byte order of a word. Everything here is
plain arithmetic that the other files share.
-/

namespace Sys2Proof.Machine

/-- A field of a word: bits `hi` down to `lo`. -/
structure Field where
  hi : Nat
  lo : Nat
deriving DecidableEq, Repr

/-- Width of a field in bits. -/
def Field.width (f : Field) : Nat := f.hi + 1 - f.lo

/-- The ones of a field, in place. -/
def Field.mask (f : Field) : Word := BitVec.ofNat 32 ((2 ^ f.width - 1) <<< f.lo)

/-- The value of a field. -/
def getF (w : Word) (f : Field) : Nat := (w.toNat >>> f.lo) % 2 ^ f.width

/-- A word with one field replaced by `v`, cut to the field's width. -/
def putF (w : Word) (f : Field) (v : Nat) : Word :=
  (w &&& ~~~ f.mask) ||| BitVec.ofNat 32 ((v % 2 ^ f.width) <<< f.lo)

/-- Bit `i` of a word as a Bool. -/
def wbit (w : Word) (i : Nat) : Bool := w.getLsbD i

/-- A word with bit `i` set to `b`. -/
def wputBit (w : Word) (i : Nat) (b : Bool) : Word :=
  if b then w ||| (1#32 <<< i) else w &&& ~~~ (1#32 <<< i)

/-- 1 for true, 0 for false. -/
def b2n (b : Bool) : Nat := if b then 1 else 0

/-- The value `v` of `n` bits read as a two's complement number. -/
def toSigned (n v : Nat) : Int := if v < 2 ^ (n - 1) then (v : Int) else (v : Int) - (2 ^ n : Nat)

/-- The low `n` bits of a two's complement number. -/
def ofSigned (n : Nat) (i : Int) : Nat := (i % ((2 ^ n : Nat) : Int)).toNat

/-- `v` held between `lo` and `hi`. -/
def clampI (lo hi v : Int) : Int := if v < lo then lo else if hi < v then hi else v

/-- Addition of natural numbers that stops at `m`. -/
def satAdd (m a b : Nat) : Nat := min m (a + b)

/-- Byte `i` of a word, byte 0 the least significant. -/
def byteOf (w : Word) (i : Nat) : Byte := BitVec.ofNat 8 (w.toNat >>> (8 * i))

/-- The word of four bytes, the first the least significant (little endian). -/
def wordOf (b0 b1 b2 b3 : Byte) : Word :=
  BitVec.ofNat 32 (b0.toNat + 256 * (b1.toNat + 256 * (b2.toNat + 256 * b3.toNat)))

/-- The bit mask of the bytes that a narrow write sends: bit `i` of `be` stands for byte `i`. [DEDUCED, log 16] -/
def byteMask (be : BitVec 4) : Word :=
  (if be.getLsbD 0 then 0x000000FF#32 else 0#32) ||| (if be.getLsbD 1 then 0x0000FF00#32 else 0#32) |||
  (if be.getLsbD 2 then 0x00FF0000#32 else 0#32) ||| (if be.getLsbD 3 then 0xFF000000#32 else 0#32)

/-- Lower and upper word of a 64-bit time. -/
def timeLo (t : Time) : Word := BitVec.ofNat 32 t.toNat
def timeHi (t : Time) : Word := BitVec.ofNat 32 (t.toNat >>> 32)

/-- The numbers of the set bits of a word, rising. -/
def bitsOf (w : Word) : List Nat := (List.range 32).filter (fun i => w.getLsbD i)

/-- The word whose set bits are the numbers of the list. -/
def maskOf (l : List Nat) : Word := l.foldl (fun w i => w ||| (1#32 <<< i)) 0#32

/-! A table: a list of keys and values, the newest entry of a key first and no key twice when it is built by
`Tab.set`. -/

/-- A finite table with a default kept by its reader. -/
abbrev Tab (κ α : Type) := List (κ × α)

/-- The entry of a key, or the default. -/
def Tab.get {κ α : Type} [DecidableEq κ] (t : Tab κ α) (k : κ) (d : α) : α :=
  ((t.find? (fun e => decide (e.1 = k))).map (·.2)).getD d

/-- The table with one entry replaced. -/
def Tab.set {κ α : Type} [DecidableEq κ] (t : Tab κ α) (k : κ) (v : α) : Tab κ α :=
  (k, v) :: t.filter (fun e => !decide (e.1 = k))

/-- Apply `f` to a state for every element of a list, in order. -/
def each {σ α : Type} (l : List α) (f : α → σ → σ) (s : σ) : σ := l.foldl (fun s a => f a s) s

end Sys2Proof.Machine
end

