-- ==== Sys2Proof/Machine/Fields.lean ====
section
/-!
DEFINITION. The fields of the registers (name, most significant bit, least significant bit), as the
spec's register tables give them. A field is named by its register and its own name.
-/

namespace Sys2Proof.Machine.Fld

@[reducible] def STG_CFG_RAIL : Field := ⟨28, 24⟩
@[reducible] def STG_CFG_HOME : Field := ⟨20, 16⟩
@[reducible] def STG_CFG_TSHT : Field := ⟨15, 12⟩
@[reducible] def STG_CFG_DEADT : Field := ⟨11, 8⟩
@[reducible] def STG_CFG_DEMODE : Field := ⟨7, 6⟩
@[reducible] def STG_CFG_SENSE : Field := ⟨5, 4⟩
@[reducible] def STG_CFG_PARKOK : Field := ⟨3, 3⟩
@[reducible] def STG_ILIM_NLIM : Field := ⟨23, 16⟩
@[reducible] def STG_ILIM_OCT : Field := ⟨15, 8⟩
@[reducible] def STG_ILIM_VLIM : Field := ⟨7, 0⟩
@[reducible] def STG_SENSE_TCOMP : Field := ⟨23, 16⟩
@[reducible] def STG_SENSE_RSNS : Field := ⟨15, 0⟩
@[reducible] def STG_STATE_SHARE : Field := ⟨23, 16⟩
@[reducible] def STG_STATE_EXCL : Field := ⟨9, 9⟩
@[reducible] def STG_STATE_VLIMACT : Field := ⟨8, 8⟩
@[reducible] def STG_STATE_TOFFMIN : Field := ⟨7, 7⟩
@[reducible] def STG_STATE_TONMIN : Field := ⟨6, 6⟩
@[reducible] def STG_STATE_DE : Field := ⟨5, 5⟩
@[reducible] def STG_STATE_PNT : Field := ⟨4, 4⟩
@[reducible] def STG_STATE_STATE : Field := ⟨3, 0⟩
@[reducible] def STG_MEAS_TEMP : Field := ⟨27, 16⟩
@[reducible] def STG_MEAS_IAVG : Field := ⟨15, 0⟩
@[reducible] def STG_TRIM_TRIM : Field := ⟨15, 0⟩
@[reducible] def STG_TEST_VRISE : Field := ⟨31, 16⟩
@[reducible] def STG_TEST_RESULT : Field := ⟨1, 0⟩
@[reducible] def STG_FLAG_OWNER : Field := ⟨7, 7⟩
@[reducible] def STG_FLAG_WRITE_LIVE : Field := ⟨6, 6⟩
@[reducible] def STG_FLAG_MIXED : Field := ⟨5, 5⟩
@[reducible] def STG_FLAG_TOFFMIN : Field := ⟨4, 4⟩
@[reducible] def STG_FLAG_TONMIN : Field := ⟨3, 3⟩
@[reducible] def STG_FLAG_NEG : Field := ⟨2, 2⟩
@[reducible] def STG_FLAG_OC : Field := ⟨1, 1⟩
@[reducible] def STG_FLAG_HSSHORT : Field := ⟨0, 0⟩
@[reducible] def XBR_MOD_FSW : Field := ⟨23, 16⟩
@[reducible] def XBR_MOD_GINJ : Field := ⟨12, 8⟩
@[reducible] def XBR_MOD_KIND : Field := ⟨0, 0⟩
@[reducible] def XBR_GANG_COUNT : Field := ⟨31, 28⟩
@[reducible] def XBR_GANG_ACTIVE : Field := ⟨27, 24⟩
@[reducible] def XBR_GANG_MEMBERS : Field := ⟨23, 0⟩
@[reducible] def XBR_SHARE_RAMP : Field := ⟨15, 0⟩
@[reducible] def XBR_WSH_GAIN : Field := ⟨23, 16⟩
@[reducible] def XBR_WSH_DB : Field := ⟨15, 8⟩
@[reducible] def XBR_WSH_WSMAX : Field := ⟨7, 0⟩
@[reducible] def PNT_CFG_EN : Field := ⟨31, 31⟩
@[reducible] def PNT_CFG_RAIL : Field := ⟨12, 8⟩
@[reducible] def PNT_CFG_STAGE : Field := ⟨4, 0⟩
@[reducible] def LPE_STATE_RMINRST : Field := ⟨31, 31⟩
@[reducible] def LPE_STATE_RUN : Field := ⟨8, 8⟩
@[reducible] def LPE_STATE_CLOSED : Field := ⟨7, 4⟩
@[reducible] def LPE_STATE_USED : Field := ⟨3, 0⟩
@[reducible] def LPE_TEMPO_RMIN : Field := ⟨31, 16⟩
@[reducible] def LPE_TEMPO_RATE : Field := ⟨15, 0⟩
@[reducible] def LPE_LOAD_SLACKREF : Field := ⟨31, 16⟩
@[reducible] def LPE_LOAD_SLACKNOW : Field := ⟨15, 0⟩
@[reducible] def LPE_SHED_SHEDTH : Field := ⟨15, 8⟩
@[reducible] def LPE_SHED_RESTTH : Field := ⟨7, 0⟩
@[reducible] def LPE_FLAG_SHED : Field := ⟨1, 1⟩
@[reducible] def LPE_FLAG_TEMPOLOW : Field := ⟨0, 0⟩
@[reducible] def LPS_CTL_FWF : Field := ⟨8, 8⟩
@[reducible] def LPS_CTL_REQ : Field := ⟨7, 6⟩
@[reducible] def LPS_CTL_WATCH : Field := ⟨3, 3⟩
@[reducible] def LPS_CTL_STATE : Field := ⟨2, 0⟩
@[reducible] def LPS_CFG_SBASE : Field := ⟨31, 28⟩
@[reducible] def LPS_CFG_SCNT : Field := ⟨27, 24⟩
@[reducible] def LPS_CFG_PHASE : Field := ⟨20, 16⟩
@[reducible] def LPS_CFG_RATE : Field := ⟨10, 8⟩
@[reducible] def LPS_CFG_SHED : Field := ⟨7, 7⟩
@[reducible] def LPS_CFG_AWU : Field := ⟨6, 6⟩
@[reducible] def LPS_CFG_KIND : Field := ⟨3, 0⟩
@[reducible] def LPS_IN_CONV : Field := ⟨31, 30⟩
@[reducible] def LPS_IN_CH : Field := ⟨28, 24⟩
@[reducible] def LPS_IN_RAIL : Field := ⟨20, 16⟩
@[reducible] def LPS_IN_REFSRC : Field := ⟨1, 0⟩
@[reducible] def LPS_REF_LLR : Field := ⟨31, 16⟩
@[reducible] def LPS_REF_REFK : Field := ⟨15, 0⟩
@[reducible] def LPS_OUT_DEST : Field := ⟨31, 29⟩
@[reducible] def LPS_OUT_DSTIDX : Field := ⟨28, 24⟩
@[reducible] def LPS_OUT_OSCALE : Field := ⟨15, 0⟩
@[reducible] def LPS_OLIM_OMAX : Field := ⟨31, 16⟩
@[reducible] def LPS_OLIM_OMIN : Field := ⟨15, 0⟩
@[reducible] def LPS_CLOSE_OPENMAX : Field := ⟨31, 24⟩
@[reducible] def LPS_CLOSE_LTAU : Field := ⟨23, 16⟩
@[reducible] def LPS_CLOSE_SLEW : Field := ⟨15, 0⟩
@[reducible] def LPS_MODEL_CAP : Field := ⟨31, 16⟩
@[reducible] def LPS_MODEL_IND : Field := ⟨15, 0⟩
@[reducible] def LPS_MWATCH_CNT : Field := ⟨31, 24⟩
@[reducible] def LPS_MWATCH_VTH : Field := ⟨23, 12⟩
@[reducible] def LPS_MWATCH_ITH : Field := ⟨11, 0⟩
@[reducible] def LPS_FWATCH_SETTLE : Field := ⟨31, 24⟩
@[reducible] def LPS_FWATCH_FTIME : Field := ⟨23, 16⟩
@[reducible] def LPS_FWATCH_FLIM : Field := ⟨15, 0⟩
@[reducible] def LPS_STAT_PRATE : Field := ⟨26, 24⟩
@[reducible] def LPS_STAT_MWCNT : Field := ⟨23, 16⟩
@[reducible] def LPS_STAT_LATECNT : Field := ⟨15, 0⟩
@[reducible] def LPS_FLAG_PLACEREJ : Field := ⟨9, 9⟩
@[reducible] def LPS_FLAG_SHED : Field := ⟨8, 8⟩
@[reducible] def LPS_FLAG_COEFREJ : Field := ⟨7, 7⟩
@[reducible] def LPS_FLAG_CLOSEREJ : Field := ⟨6, 6⟩
@[reducible] def LPS_FLAG_OPENLONG : Field := ⟨5, 5⟩
@[reducible] def LPS_FLAG_SAT : Field := ⟨4, 4⟩
@[reducible] def LPS_FLAG_OVF : Field := ⟨3, 3⟩
@[reducible] def LPS_FLAG_LATE : Field := ⟨2, 2⟩
@[reducible] def LPS_FLAG_MODEL : Field := ⟨1, 1⟩
@[reducible] def LPS_FLAG_FOLLOW : Field := ⟨0, 0⟩
@[reducible] def COF_COEF : Field := ⟨31, 0⟩
@[reducible] def RAIL_CTL_REQ : Field := ⟨31, 30⟩
@[reducible] def RAIL_CTL_FULLCYCLE : Field := ⟨8, 8⟩
@[reducible] def RAIL_CTL_OFFMODE : Field := ⟨4, 4⟩
@[reducible] def RAIL_STATUS_SETP : Field := ⟨31, 16⟩
@[reducible] def RAIL_STATUS_INGRP : Field := ⟨11, 11⟩
@[reducible] def RAIL_STATUS_GROUP : Field := ⟨10, 8⟩
@[reducible] def RAIL_STATUS_PEND : Field := ⟨5, 5⟩
@[reducible] def RAIL_STATUS_PG : Field := ⟨4, 4⟩
@[reducible] def RAIL_STATUS_STATE : Field := ⟨3, 0⟩
@[reducible] def RAIL_VSET_VSET : Field := ⟨15, 0⟩
@[reducible] def RAIL_DLY_ONDLY : Field := ⟨31, 16⟩
@[reducible] def RAIL_DLY_OFFDLY : Field := ⟨15, 0⟩
@[reducible] def RAIL_ONRAMP_TIME : Field := ⟨16, 0⟩
@[reducible] def RAIL_OFFRAMP_TIME : Field := ⟨16, 0⟩
@[reducible] def RAIL_DIS_DISTO : Field := ⟨26, 16⟩
@[reducible] def RAIL_DIS_DISCHV : Field := ⟨11, 0⟩
@[reducible] def RAIL_PG_PGDLY : Field := ⟨31, 16⟩
@[reducible] def RAIL_PG_PGTO : Field := ⟨15, 0⟩
@[reducible] def RAIL_FLAG_REQREJ : Field := ⟨5, 5⟩
@[reducible] def RAIL_FLAG_STARTFAIL : Field := ⟨4, 4⟩
@[reducible] def RAIL_FLAG_DISTO : Field := ⟨3, 3⟩
@[reducible] def RAIL_FLAG_REVERSED : Field := ⟨2, 2⟩
@[reducible] def RAIL_FLAG_PENDED : Field := ⟨1, 1⟩
@[reducible] def RAIL_FLAG_LATCHED : Field := ⟨0, 0⟩
@[reducible] def RAIL_ONTIME_SECONDS : Field := ⟨31, 0⟩
@[reducible] def TTB_G_CFG_STARTFAIL : Field := ⟨1, 1⟩
@[reducible] def TTB_G_CFG_AUTO : Field := ⟨0, 0⟩
@[reducible] def TTB_G_CTL_REQ : Field := ⟨1, 0⟩
@[reducible] def TTB_G_STATUS_STEP : Field := ⟨21, 16⟩
@[reducible] def TTB_G_STATUS_DIR : Field := ⟨8, 8⟩
@[reducible] def TTB_G_STATUS_DEGRADED : Field := ⟨7, 7⟩
@[reducible] def TTB_G_STATUS_BOUT : Field := ⟨6, 6⟩
@[reducible] def TTB_G_STATUS_CLASSB : Field := ⟨5, 5⟩
@[reducible] def TTB_G_STATUS_HELD : Field := ⟨4, 4⟩
@[reducible] def TTB_G_STATUS_STATE : Field := ⟨2, 0⟩
@[reducible] def TTB_G_FLAG_STEPREJ : Field := ⟨3, 3⟩
@[reducible] def TTB_G_FLAG_REQREJ : Field := ⟨2, 2⟩
@[reducible] def TTB_G_FLAG_STARTFAIL : Field := ⟨1, 1⟩
@[reducible] def TTB_G_FLAG_REVERSED : Field := ⟨0, 0⟩
@[reducible] def TTB_STEP_OP : Field := ⟨31, 28⟩
@[reducible] def TTB_STEP_ARGS : Field := ⟨27, 0⟩
@[reducible] def TTB_RST_CFG_STRETCH : Field := ⟨29, 20⟩
@[reducible] def TTB_RST_CFG_MASK : Field := ⟨19, 0⟩
@[reducible] def SUP_WIN_OV : Field := ⟨27, 16⟩
@[reducible] def SUP_WIN_UV : Field := ⟨11, 0⟩
@[reducible] def SUP_CFG_DIV : Field := ⟨25, 24⟩
@[reducible] def SUP_CFG_HYST : Field := ⟨19, 16⟩
@[reducible] def SUP_CFG_UVFILT : Field := ⟨15, 8⟩
@[reducible] def SUP_CFG_OVFILT : Field := ⟨7, 0⟩
@[reducible] def SUP_STATUS_OVARM : Field := ⟨3, 3⟩
@[reducible] def SUP_STATUS_UVARM : Field := ⟨2, 2⟩
@[reducible] def SUP_STATUS_OV : Field := ⟨1, 1⟩
@[reducible] def SUP_STATUS_UV : Field := ⟨0, 0⟩
@[reducible] def SUP_FLAG_OV : Field := ⟨1, 1⟩
@[reducible] def SUP_FLAG_UV : Field := ⟨0, 0⟩
@[reducible] def SVY_CV_CTL_START : Field := ⟨31, 31⟩
@[reducible] def SVY_CV_CTL_MODE : Field := ⟨17, 16⟩
@[reducible] def SVY_CV_CTL_PACE : Field := ⟨15, 0⟩
@[reducible] def SVY_CV_MASK_CH : Field := ⟨31, 0⟩
@[reducible] def SVY_CV_DATA_NEW : Field := ⟨31, 31⟩
@[reducible] def SVY_CV_DATA_OVR : Field := ⟨30, 30⟩
@[reducible] def SVY_CV_DATA_FIRST : Field := ⟨29, 29⟩
@[reducible] def SVY_CV_DATA_CH : Field := ⟨28, 24⟩
@[reducible] def SVY_CV_DATA_SCAN : Field := ⟨23, 16⟩
@[reducible] def SVY_CV_DATA_CODE : Field := ⟨15, 0⟩
@[reducible] def SVY_CV_STAT_OVRCNT : Field := ⟨31, 16⟩
@[reducible] def SVY_CV_STAT_DROPCNT : Field := ⟨15, 0⟩
@[reducible] def SVY_CV_DMA_BASE_ADDR : Field := ⟨31, 2⟩
@[reducible] def SVY_CV_DMA_CFG_EN : Field := ⟨31, 31⟩
@[reducible] def SVY_CV_DMA_CFG_HALTED : Field := ⟨30, 30⟩
@[reducible] def SVY_CV_DMA_CFG_LEN : Field := ⟨15, 0⟩
@[reducible] def SVY_CV_DMA_PTR_RPTR : Field := ⟨31, 16⟩
@[reducible] def SVY_CV_DMA_PTR_WPTR : Field := ⟨15, 0⟩
@[reducible] def SVY_CV_FLAG_TRIGMISS : Field := ⟨5, 5⟩
@[reducible] def SVY_CV_FLAG_CORR : Field := ⟨4, 4⟩
@[reducible] def SVY_CV_FLAG_REFCHK : Field := ⟨3, 3⟩
@[reducible] def SVY_CV_FLAG_DMAHALT : Field := ⟨2, 2⟩
@[reducible] def SVY_CV_FLAG_DMADROP : Field := ⟨1, 1⟩
@[reducible] def SVY_CV_FLAG_OVR : Field := ⟨0, 0⟩
@[reducible] def SVY_CV_SL_OG_OFFSET : Field := ⟨31, 16⟩
@[reducible] def SVY_CV_SL_OG_GAIN : Field := ⟨15, 0⟩
@[reducible] def SVY_CV_SL_SK_SKEW : Field := ⟨15, 0⟩
@[reducible] def SVY_CV_TAP_AGE : Field := ⟨31, 16⟩
@[reducible] def SVY_CV_TAP_CODE : Field := ⟨15, 0⟩
@[reducible] def POL_R_PHASE_INOM : Field := ⟨31, 24⟩
@[reducible] def POL_R_PHASE_MINPH : Field := ⟨23, 20⟩
@[reducible] def POL_R_PHASE_EN : Field := ⟨19, 19⟩
@[reducible] def POL_R_PHASE_HIGH : Field := ⟨15, 8⟩
@[reducible] def POL_R_PHASE_LOW : Field := ⟨7, 0⟩
@[reducible] def POL_R_DER_EN : Field := ⟨31, 31⟩
@[reducible] def POL_R_DER_FMIN : Field := ⟨30, 24⟩
@[reducible] def POL_R_DER_TMAX : Field := ⟨15, 8⟩
@[reducible] def POL_R_DER_TDER : Field := ⟨7, 0⟩
@[reducible] def POL_R_CFG_FFEN : Field := ⟨31, 31⟩
@[reducible] def POL_R_CFG_FFTAU : Field := ⟨23, 16⟩
@[reducible] def POL_R_CFG_FFRIP : Field := ⟨15, 8⟩
@[reducible] def POL_R_CFG_PRIO : Field := ⟨3, 0⟩
@[reducible] def POL_R_STATE_DERF : Field := ⟨31, 24⟩
@[reducible] def POL_R_STATE_PARKED : Field := ⟨15, 12⟩
@[reducible] def POL_R_STATE_FFDAMP : Field := ⟨8, 8⟩
@[reducible] def POL_R_STATE_SHED : Field := ⟨0, 0⟩
@[reducible] def FLT_CFG_CLASS : Field := ⟨31, 30⟩
@[reducible] def FLT_CFG_FIXED : Field := ⟨29, 29⟩
@[reducible] def FLT_CFG_KIND : Field := ⟨28, 28⟩
@[reducible] def FLT_CFG_TRIP : Field := ⟨4, 4⟩
@[reducible] def FLT_CFG_INJOK : Field := ⟨3, 3⟩
@[reducible] def FLT_CFG_DUMP : Field := ⟨2, 2⟩
@[reducible] def FLT_CFG_LOG : Field := ⟨1, 1⟩
@[reducible] def FLT_CFG_FN : Field := ⟨0, 0⟩
@[reducible] def FLT_TGT_GROUPS : Field := ⟨31, 24⟩
@[reducible] def FLT_TGT_RAILS : Field := ⟨19, 0⟩
@[reducible] def FLT_STAT_FAULT : Field := ⟨31, 0⟩
@[reducible] def FLT_LIVE_CAUSE : Field := ⟨31, 0⟩
@[reducible] def FLT_CAUSE_CAUSE : Field := ⟨31, 0⟩
@[reducible] def FLT_CNT_ODD : Field := ⟨31, 16⟩
@[reducible] def FLT_CNT_EVEN : Field := ⟨15, 0⟩
@[reducible] def EVT_CFG_KIND : Field := ⟨30, 30⟩
@[reducible] def EVT_CFG_FIXED : Field := ⟨29, 29⟩
@[reducible] def EVT_CFG_ROUTE : Field := ⟨9, 8⟩
@[reducible] def EVT_CFG_PRIO : Field := ⟨7, 4⟩
@[reducible] def EVT_CFG_SENSE : Field := ⟨1, 0⟩
@[reducible] def EVT_EN_EN : Field := ⟨31, 0⟩
@[reducible] def EVT_PEND_PEND : Field := ⟨31, 0⟩
@[reducible] def EVT_LIVE_LIVE : Field := ⟨31, 0⟩
@[reducible] def EVT_STORM_STORM : Field := ⟨31, 0⟩
@[reducible] def EVT_QBASE_ADDR : Field := ⟨31, 4⟩
@[reducible] def EVT_QSIZE_SIZE : Field := ⟨12, 0⟩
@[reducible] def EVT_QPTR_RPTR : Field := ⟨31, 16⟩
@[reducible] def EVT_QPTR_WPTR : Field := ⟨15, 0⟩
@[reducible] def EVT_QTAKE_GO : Field := ⟨31, 0⟩
@[reducible] def EVT_QEOI_GO : Field := ⟨31, 0⟩
@[reducible] def EVT_QRUN_DEPTH : Field := ⟨19, 16⟩
@[reducible] def EVT_QRUN_SOURCE : Field := ⟨15, 8⟩
@[reducible] def EVT_QRUN_IDLE : Field := ⟨7, 7⟩
@[reducible] def EVT_QRUN_PRIO : Field := ⟨3, 0⟩
@[reducible] def EVT_QDROP_COUNT : Field := ⟨15, 0⟩
@[reducible] def EVT_QREC_WORD : Field := ⟨31, 0⟩
@[reducible] def CMD_PARAM_PARAM : Field := ⟨31, 0⟩
@[reducible] def CMD_LANE_RUNNING : Field := ⟨31, 16⟩
@[reducible] def CMD_LANE_WAITING : Field := ⟨5, 0⟩
@[reducible] def MEM_PMAP_VALID : Field := ⟨31, 31⟩
@[reducible] def MEM_PMAP_PAGE : Field := ⟨7, 0⟩
@[reducible] def MEM_LOG_ADDR_ADDR : Field := ⟨31, 0⟩
@[reducible] def MEM_LOG_INFO_VALID : Field := ⟨31, 31⟩
@[reducible] def MEM_LOG_INFO_UE : Field := ⟨30, 30⟩
@[reducible] def MEM_LOG_INFO_REPEAT : Field := ⟨29, 29⟩
@[reducible] def MEM_LOG_INFO_NVM : Field := ⟨28, 28⟩
@[reducible] def MEM_LOG_INFO_SRC : Field := ⟨27, 24⟩
@[reducible] def MEM_LOG_INFO_COUNT : Field := ⟨23, 16⟩
@[reducible] def MEM_LOG_INFO_MARK : Field := ⟨7, 7⟩
@[reducible] def MEM_LOG_INFO_SYNDROME : Field := ⟨6, 0⟩
@[reducible] def LDG_R_STAT_ABANDON : Field := ⟨5, 5⟩
@[reducible] def LDG_R_STAT_NEWEST : Field := ⟨3, 3⟩
@[reducible] def LDG_R_STAT_VALIDB : Field := ⟨1, 1⟩
@[reducible] def LDG_R_STAT_VALIDA : Field := ⟨0, 0⟩
@[reducible] def LDG_R_SEQ_SEQ : Field := ⟨31, 0⟩
@[reducible] def OTP_REDIR_VALID : Field := ⟨31, 31⟩
@[reducible] def OTP_REDIR_BAD : Field := ⟨30, 30⟩
@[reducible] def OTP_REDIR_ROW : Field := ⟨8, 0⟩
@[reducible] def WDG_T_CFG_EN : Field := ⟨31, 31⟩
@[reducible] def WDG_T_CFG_OWNER : Field := ⟨29, 28⟩
@[reducible] def WDG_T_CFG_WINOPEN : Field := ⟨23, 12⟩
@[reducible] def WDG_T_CFG_PERIOD : Field := ⟨11, 0⟩
@[reducible] def WDG_T_STAT_NEXT : Field := ⟨31, 24⟩
@[reducible] def WDG_T_STAT_TOKENED : Field := ⟨17, 17⟩
@[reducible] def WDG_T_STAT_INWIN : Field := ⟨16, 16⟩
@[reducible] def WDG_T_STAT_ELAPSED : Field := ⟨11, 0⟩
@[reducible] def LNK_P_STATE_NBRADDR : Field := ⟨23, 12⟩
@[reducible] def LNK_P_STATE_NBRPORT : Field := ⟨11, 10⟩
@[reducible] def LNK_P_STATE_RXOK : Field := ⟨9, 9⟩
@[reducible] def LNK_P_STATE_STATE : Field := ⟨3, 0⟩
@[reducible] def LNK_P_CNT0_HI : Field := ⟨31, 16⟩
@[reducible] def LNK_P_CNT0_LO : Field := ⟨15, 0⟩
@[reducible] def LNK_P_CNT1_HI : Field := ⟨31, 16⟩
@[reducible] def LNK_P_CNT1_LO : Field := ⟨15, 0⟩
@[reducible] def LNK_P_CNT2_HI : Field := ⟨31, 16⟩
@[reducible] def LNK_P_CNT2_LO : Field := ⟨15, 0⟩
@[reducible] def LNK_P_CFG_LOOP : Field := ⟨31, 31⟩
@[reducible] def LNK_P_CFG_SWING : Field := ⟨5, 3⟩
@[reducible] def LNK_P_CFG_PREEMPH : Field := ⟨2, 0⟩
@[reducible] def LNK_RT_A_EN : Field := ⟨31, 31⟩
@[reducible] def LNK_RT_A_LEN : Field := ⟨27, 24⟩
@[reducible] def LNK_RT_A_ADDR : Field := ⟨11, 0⟩
@[reducible] def LNK_RT_B_ALTEN : Field := ⟨7, 7⟩
@[reducible] def LNK_RT_B_ALT : Field := ⟨5, 4⟩
@[reducible] def LNK_RT_B_PORTS : Field := ⟨3, 0⟩
@[reducible] def FLW_F_CFG_STATE : Field := ⟨31, 29⟩
@[reducible] def FLW_F_CFG_CLASS : Field := ⟨28, 27⟩
@[reducible] def FLW_F_CFG_PEER : Field := ⟨23, 12⟩
@[reducible] def FLW_F_CFG_PFLOW : Field := ⟨10, 4⟩
@[reducible] def FLW_F_CFG_RETRIES : Field := ⟨3, 0⟩
@[reducible] def FLW_F_RXBASE_ADDR : Field := ⟨31, 2⟩
@[reducible] def FLW_F_SEQ_TXNEXT : Field := ⟨31, 16⟩
@[reducible] def FLW_F_SEQ_TXACK : Field := ⟨15, 0⟩
@[reducible] def FLW_F_RX_RXREAD : Field := ⟨31, 16⟩
@[reducible] def FLW_F_RX_RXNEXT : Field := ⟨15, 0⟩
@[reducible] def TIM_DELAY_VALID : Field := ⟨31, 31⟩
@[reducible] def TIM_DELAY_DELAY : Field := ⟨15, 0⟩
@[reducible] def SYS_ID_PART : Field := ⟨31, 16⟩
@[reducible] def SYS_ID_REV : Field := ⟨7, 0⟩
@[reducible] def SYS_WINBASE_BADBASE : Field := ⟨16, 16⟩
@[reducible] def SYS_WINBASE_BASE : Field := ⟨15, 0⟩
@[reducible] def SYS_IADDR_ADDR : Field := ⟨31, 2⟩
@[reducible] def SYS_IDATA_DATA : Field := ⟨31, 0⟩
@[reducible] def SYS_TWSTAT_DISC : Field := ⟨31, 31⟩
@[reducible] def SYS_TWSTAT_WHY : Field := ⟨3, 0⟩
@[reducible] def TPL_STATUS_LASTREF : Field := ⟨31, 24⟩
@[reducible] def TPL_STATUS_DOMAIN : Field := ⟨23, 20⟩
@[reducible] def TPL_STATUS_PHASE : Field := ⟨19, 16⟩
@[reducible] def TPL_STATUS_UNSAVED : Field := ⟨7, 7⟩
@[reducible] def TPL_STATUS_FALLBACK : Field := ⟨6, 6⟩
@[reducible] def TPL_STATUS_BANK : Field := ⟨4, 4⟩
@[reducible] def TPL_STATUS_STATE : Field := ⟨2, 0⟩
@[reducible] def TPL_STAGE_ADDR : Field := ⟨31, 2⟩
@[reducible] def TPL_STAGELEN_LEN : Field := ⟨15, 0⟩
@[reducible] def TPL_ID_STREAM_ID : Field := ⟨31, 0⟩
@[reducible] def TPL_BUILD_BUILD : Field := ⟨31, 0⟩
@[reducible] def TPL_DOMMASK_FAILED : Field := ⟨31, 16⟩
@[reducible] def TPL_DOMMASK_PRESENT : Field := ⟨15, 0⟩
@[reducible] def TPL_HOLDMAX_TIME : Field := ⟨15, 0⟩
@[reducible] def TPL_ERRDET_SECTION : Field := ⟨31, 24⟩
@[reducible] def TPL_ERRDET_OFFSET : Field := ⟨23, 0⟩
@[reducible] def TPL_SEQNUM_SEQ : Field := ⟨31, 0⟩
@[reducible] def SWY_STATUS_REGRAIL : Field := ⟨28, 24⟩
@[reducible] def SWY_STATUS_REGSTG : Field := ⟨20, 16⟩
@[reducible] def SWY_STATUS_REGPHASE : Field := ⟨6, 4⟩
@[reducible] def SWY_STATUS_AGGACT : Field := ⟨0, 0⟩
@[reducible] def SWY_IAGG_AGGT : Field := ⟨23, 16⟩
@[reducible] def SWY_IAGG_LIMIT : Field := ⟨15, 0⟩
@[reducible] def SWY_FLAG_AGG_OC : Field := ⟨0, 0⟩
@[reducible] def SWY_GANGDIFF_RAILS : Field := ⟨15, 0⟩
@[reducible] def SWY_PNTT_SETTLE : Field := ⟨15, 0⟩
@[reducible] def TTB_RSTSTAT_MARK : Field := ⟨7, 4⟩
@[reducible] def TTB_RSTSTAT_LOW : Field := ⟨3, 0⟩
@[reducible] def TTB_BOUT_FAST : Field := ⟨31, 31⟩
@[reducible] def TTB_BOUT_BFILT : Field := ⟨30, 24⟩
@[reducible] def TTB_BOUT_VON : Field := ⟨19, 10⟩
@[reducible] def TTB_BOUT_VOFF : Field := ⟨9, 0⟩
@[reducible] def TTB_MINOFF_TIME : Field := ⟨15, 0⟩
@[reducible] def TTB_BSTAT_EPIS : Field := ⟨31, 16⟩
@[reducible] def TTB_BSTAT_QUAL : Field := ⟨2, 2⟩
@[reducible] def TTB_BSTAT_MINOFF : Field := ⟨1, 1⟩
@[reducible] def TTB_BSTAT_ACTIVE : Field := ⟨0, 0⟩
@[reducible] def TTB_FIRST_VALID : Field := ⟨31, 31⟩
@[reducible] def TTB_FIRST_LOCAL : Field := ⟨30, 30⟩
@[reducible] def TTB_FIRST_MORE : Field := ⟨23, 16⟩
@[reducible] def TTB_FIRST_INGRP : Field := ⟨12, 12⟩
@[reducible] def TTB_FIRST_CAUSE : Field := ⟨11, 8⟩
@[reducible] def TTB_FIRST_GROUP : Field := ⟨7, 5⟩
@[reducible] def TTB_FIRST_RAIL : Field := ⟨4, 0⟩
@[reducible] def TTB_FIRSTT_LO_TIME : Field := ⟨31, 0⟩
@[reducible] def TTB_FIRSTT_HI_TIME : Field := ⟨31, 0⟩
@[reducible] def SVY_TRIG_SRC : Field := ⟨31, 30⟩
@[reducible] def SVY_TRIG_FIRE : Field := ⟨29, 29⟩
@[reducible] def SVY_TRIG_PERIOD : Field := ⟨19, 0⟩
@[reducible] def SVY_TSTAMP_LO_TIME : Field := ⟨31, 0⟩
@[reducible] def SVY_TSTAMP_HI_TIME : Field := ⟨31, 0⟩
@[reducible] def SVY_TSNTYPE_DIODE : Field := ⟨15, 0⟩
@[reducible] def SVY_STATUS_LOCAL : Field := ⟨8, 8⟩
@[reducible] def SVY_STATUS_CALBUSY : Field := ⟨6, 4⟩
@[reducible] def SVY_STATUS_CALDONE : Field := ⟨2, 0⟩
@[reducible] def SVY_FLAG_TAPREJ : Field := ⟨1, 1⟩
@[reducible] def SVY_FLAG_CALWR : Field := ⟨0, 0⟩
@[reducible] def BKP_STATUS_CHGSTATE : Field := ⟨15, 12⟩
@[reducible] def BKP_STATUS_CUT : Field := ⟨10, 10⟩
@[reducible] def BKP_STATUS_SHIPPEND : Field := ⟨9, 9⟩
@[reducible] def BKP_STATUS_ABSENT : Field := ⟨8, 8⟩
@[reducible] def BKP_STATUS_SRCOK : Field := ⟨7, 7⟩
@[reducible] def BKP_STATUS_WDEXP : Field := ⟨6, 6⟩
@[reducible] def BKP_STATUS_PATH : Field := ⟨3, 0⟩
@[reducible] def BKP_PATH_SRCFILT : Field := ⟨28, 24⟩
@[reducible] def BKP_PATH_SRC_ON : Field := ⟨19, 10⟩
@[reducible] def BKP_PATH_SRC_OFF : Field := ⟨9, 0⟩
@[reducible] def BKP_QUAL_HBMIN : Field := ⟨31, 16⟩
@[reducible] def BKP_QUAL_QUAL : Field := ⟨15, 0⟩
@[reducible] def BKP_COUNT_HOCNT : Field := ⟨31, 16⟩
@[reducible] def BKP_COUNT_REJCNT : Field := ⟨15, 0⟩
@[reducible] def BKP_BATCFG_CHEM : Field := ⟨28, 28⟩
@[reducible] def BKP_BATCFG_NCELL : Field := ⟨20, 16⟩
@[reducible] def BKP_BATCFG_VCUT : Field := ⟨11, 0⟩
@[reducible] def BKP_CHG_EN : Field := ⟨31, 31⟩
@[reducible] def BKP_CHG_TERM : Field := ⟨30, 30⟩
@[reducible] def BKP_CHG_VCELL : Field := ⟨28, 16⟩
@[reducible] def BKP_CHG_ICHG : Field := ⟨8, 0⟩
@[reducible] def BKP_CHGLIM_IPRE : Field := ⟨31, 24⟩
@[reducible] def BKP_CHGLIM_ITERM : Field := ⟨23, 16⟩
@[reducible] def BKP_CHGLIM_VRECH : Field := ⟨15, 8⟩
@[reducible] def BKP_CHGLIM_VPRE : Field := ⟨7, 0⟩
@[reducible] def BKP_VINREG_EN : Field := ⟨15, 15⟩
@[reducible] def BKP_VINREG_VINREG : Field := ⟨9, 0⟩
@[reducible] def BKP_TEMP_THI : Field := ⟨23, 16⟩
@[reducible] def BKP_TEMP_TLO : Field := ⟨15, 8⟩
@[reducible] def BKP_TIMER_PRETO : Field := ⟨23, 16⟩
@[reducible] def BKP_TIMER_FASTTO : Field := ⟨4, 0⟩
@[reducible] def BKP_WDT_KICK : Field := ⟨31, 31⟩
@[reducible] def BKP_WDT_REMAIN : Field := ⟨23, 16⟩
@[reducible] def BKP_WDT_PERIOD : Field := ⟨3, 0⟩
@[reducible] def BKP_SHIP_GO : Field := ⟨31, 31⟩
@[reducible] def BKP_SHIP_CANCEL : Field := ⟨30, 30⟩
@[reducible] def BKP_SHIP_KEY : Field := ⟨15, 8⟩
@[reducible] def BKP_BTN_LPEN : Field := ⟨31, 31⟩
@[reducible] def BKP_BTN_PRESSED : Field := ⟨30, 30⟩
@[reducible] def BKP_BTN_LPT : Field := ⟨4, 0⟩
@[reducible] def BKP_FLAG_SETREJ : Field := ⟨9, 9⟩
@[reducible] def BKP_FLAG_HBFAIL : Field := ⟨8, 8⟩
@[reducible] def BKP_FLAG_REJECT : Field := ⟨7, 7⟩
@[reducible] def BKP_FLAG_WDEXP : Field := ⟨6, 6⟩
@[reducible] def BKP_FLAG_ABSENT : Field := ⟨5, 5⟩
@[reducible] def BKP_FLAG_CUT : Field := ⟨4, 4⟩
@[reducible] def BKP_FLAG_TIMER : Field := ⟨3, 3⟩
@[reducible] def BKP_FLAG_OV : Field := ⟨2, 2⟩
@[reducible] def BKP_FLAG_LONGPRESS : Field := ⟨1, 1⟩
@[reducible] def BKP_FLAG_HANDOVER : Field := ⟨0, 0⟩
@[reducible] def BKP_MEAS_IBAT : Field := ⟨31, 16⟩
@[reducible] def BKP_MEAS_ICHGM : Field := ⟨15, 0⟩
@[reducible] def BKP_SHUNT_RCHG : Field := ⟨31, 16⟩
@[reducible] def BKP_SHUNT_RBAT : Field := ⟨15, 0⟩
@[reducible] def GAU_STATUS_STEERLAG : Field := ⟨10, 10⟩
@[reducible] def GAU_STATUS_DETACHED : Field := ⟨9, 9⟩
@[reducible] def GAU_STATUS_BAND : Field := ⟨8, 8⟩
@[reducible] def GAU_STATUS_COUNT_EARLY : Field := ⟨7, 7⟩
@[reducible] def GAU_STATUS_ANCHOR_STALE : Field := ⟨6, 6⟩
@[reducible] def GAU_STATUS_EMPTYV : Field := ⟨5, 5⟩
@[reducible] def GAU_STATUS_FULLV : Field := ⟨4, 4⟩
@[reducible] def GAU_STATUS_STATE : Field := ⟨2, 0⟩
@[reducible] def GAU_SOC_VALID : Field := ⟨31, 31⟩
@[reducible] def GAU_SOC_ERR : Field := ⟨30, 16⟩
@[reducible] def GAU_SOC_SOC : Field := ⟨15, 0⟩
@[reducible] def GAU_ACC_LO_ACC : Field := ⟨31, 0⟩
@[reducible] def GAU_ACC_HI_ACC : Field := ⟨31, 0⟩
@[reducible] def GAU_QUSE_QUSE : Field := ⟨31, 0⟩
@[reducible] def GAU_DESIGN_FADE : Field := ⟨31, 16⟩
@[reducible] def GAU_DESIGN_DESIGN : Field := ⟨15, 0⟩
@[reducible] def GAU_CFG_SLEW : Field := ⟨31, 24⟩
@[reducible] def GAU_CFG_RESV : Field := ⟨23, 16⟩
@[reducible] def GAU_CFG_STALE : Field := ⟨15, 0⟩
@[reducible] def GAU_DRIFT_GAIN : Field := ⟨31, 24⟩
@[reducible] def GAU_DRIFT_OFS : Field := ⟨15, 0⟩
@[reducible] def GAU_CYCLES_CYCLES : Field := ⟨31, 0⟩
@[reducible] def GAU_THRU_THRU : Field := ⟨31, 0⟩
@[reducible] def GAU_AGE_SECONDS : Field := ⟨31, 0⟩
@[reducible] def GAU_MEAS_VMEAN : Field := ⟨31, 16⟩
@[reducible] def GAU_MEAS_TEMP : Field := ⟨15, 0⟩
@[reducible] def GAU_CTL_NEWPACK : Field := ⟨31, 31⟩
@[reducible] def GAU_CTL_KEY : Field := ⟨15, 8⟩
@[reducible] def GAU_FLAG_INVAL : Field := ⟨6, 6⟩
@[reducible] def GAU_FLAG_WRREJ : Field := ⟨5, 5⟩
@[reducible] def GAU_FLAG_STALE : Field := ⟨4, 4⟩
@[reducible] def GAU_FLAG_EARLY : Field := ⟨3, 3⟩
@[reducible] def GAU_FLAG_BAND : Field := ⟨2, 2⟩
@[reducible] def GAU_FLAG_EMPTY : Field := ⟨1, 1⟩
@[reducible] def GAU_FLAG_FULL : Field := ⟨0, 0⟩
@[reducible] def POL_LOCK_LSHED : Field := ⟨5, 5⟩
@[reducible] def POL_LOCK_RIDE : Field := ⟨4, 4⟩
@[reducible] def POL_LOCK_DERATE : Field := ⟨3, 3⟩
@[reducible] def POL_LOCK_FFWD : Field := ⟨2, 2⟩
@[reducible] def POL_LOCK_WSHED : Field := ⟨1, 1⟩
@[reducible] def POL_LOCK_PHASE : Field := ⟨0, 0⟩
@[reducible] def POL_STATUS_SHORT : Field := ⟨3, 3⟩
@[reducible] def POL_STATUS_BLIND : Field := ⟨2, 2⟩
@[reducible] def POL_STATUS_RESTORING : Field := ⟨1, 1⟩
@[reducible] def POL_STATUS_EPISODE : Field := ⟨0, 0⟩
@[reducible] def POL_RIDE_MARGIN : Field := ⟨30, 24⟩
@[reducible] def POL_RIDE_RESTDLY : Field := ⟨23, 16⟩
@[reducible] def POL_RIDE_THOLD : Field := ⟨15, 0⟩
@[reducible] def POL_RIDEPRED_TPRED : Field := ⟨31, 16⟩
@[reducible] def POL_RIDEPRED_TLEFT : Field := ⟨15, 0⟩
@[reducible] def POL_RIDESHED_RAILS : Field := ⟨19, 0⟩
@[reducible] def POL_FLAG_SHORT : Field := ⟨3, 3⟩
@[reducible] def POL_FLAG_BLIND : Field := ⟨2, 2⟩
@[reducible] def POL_FLAG_SHED : Field := ⟨1, 1⟩
@[reducible] def POL_FLAG_PARKFAIL : Field := ⟨0, 0⟩
@[reducible] def FLT_SUMMARY_NA : Field := ⟨31, 24⟩
@[reducible] def FLT_SUMMARY_NB : Field := ⟨23, 16⟩
@[reducible] def FLT_SUMMARY_NC : Field := ⟨15, 8⟩
@[reducible] def FLT_SUMMARY_FNMIN : Field := ⟨1, 1⟩
@[reducible] def FLT_SUMMARY_FAULTN : Field := ⟨0, 0⟩
@[reducible] def FLT_CTL_CNTCLR : Field := ⟨31, 31⟩
@[reducible] def FLT_CTL_KEY : Field := ⟨15, 8⟩
@[reducible] def FLT_FIRST_VALID : Field := ⟨31, 31⟩
@[reducible] def FLT_FIRST_LOCAL : Field := ⟨30, 30⟩
@[reducible] def FLT_FIRST_CAUSE : Field := ⟨19, 16⟩
@[reducible] def FLT_FIRST_CLASS : Field := ⟨9, 8⟩
@[reducible] def FLT_FIRST_SOURCE : Field := ⟨7, 0⟩
@[reducible] def FLT_FIRSTT_LO_TIME : Field := ⟨31, 0⟩
@[reducible] def FLT_FIRSTT_HI_TIME : Field := ⟨31, 0⟩
@[reducible] def FLT_INJ_GO : Field := ⟨31, 31⟩
@[reducible] def FLT_INJ_DRY : Field := ⟨30, 30⟩
@[reducible] def FLT_INJ_KEY : Field := ⟨23, 16⟩
@[reducible] def FLT_INJ_CHK : Field := ⟨9, 8⟩
@[reducible] def FLT_INJ_UNIT : Field := ⟨3, 0⟩
@[reducible] def FLT_INJSTAT_RESULT : Field := ⟨31, 30⟩
@[reducible] def FLT_INJSTAT_UNLOCKED : Field := ⟨8, 8⟩
@[reducible] def FLT_INJSTAT_INJCNT : Field := ⟨7, 0⟩
@[reducible] def FLT_FORCE_EN : Field := ⟨31, 31⟩
@[reducible] def FLT_FORCE_LEVEL : Field := ⟨30, 30⟩
@[reducible] def FLT_FORCE_COMP : Field := ⟨8, 0⟩
@[reducible] def FLT_HOST_RAISE : Field := ⟨3, 0⟩
@[reducible] def FLT_FLAG_FORCEREJ : Field := ⟨2, 2⟩
@[reducible] def FLT_FLAG_INJREJ : Field := ⟨1, 1⟩
@[reducible] def FLT_FLAG_CFGREJ : Field := ⟨0, 0⟩
@[reducible] def EVT_CTL_FREEZE : Field := ⟨31, 31⟩
@[reducible] def EVT_STAT_CFGREJ : Field := ⟨13, 13⟩
@[reducible] def EVT_STAT_FRZEXP : Field := ⟨12, 12⟩
@[reducible] def EVT_STAT_STKFULL : Field := ⟨11, 9⟩
@[reducible] def EVT_STAT_EOIEMPTY : Field := ⟨8, 6⟩
@[reducible] def EVT_STAT_QOVF : Field := ⟨5, 3⟩
@[reducible] def EVT_STAT_NONEMPTY : Field := ⟨2, 0⟩
@[reducible] def CMD_ISSUE_OP : Field := ⟨7, 0⟩
@[reducible] def CMD_RESULT_REFUSE : Field := ⟨19, 16⟩
@[reducible] def CMD_RESULT_HANDLE : Field := ⟨15, 0⟩
@[reducible] def CMD_CANCEL_HANDLE : Field := ⟨15, 0⟩
@[reducible] def CMD_QUERY_HANDLE : Field := ⟨15, 0⟩
@[reducible] def CMD_QSTAT_DETAIL : Field := ⟨31, 16⟩
@[reducible] def CMD_QSTAT_CODE : Field := ⟨15, 8⟩
@[reducible] def CMD_QSTAT_LANE : Field := ⟨7, 6⟩
@[reducible] def CMD_QSTAT_STATE : Field := ⟨2, 0⟩
@[reducible] def CMD_STAT_OUTSTANDING : Field := ⟨5, 0⟩
@[reducible] def CMD_SLOTS_BUSY : Field := ⟨31, 0⟩
@[reducible] def CMD_FLAG_RIGHTS : Field := ⟨4, 4⟩
@[reducible] def CMD_FLAG_CANCELLATE : Field := ⟨3, 3⟩
@[reducible] def CMD_FLAG_STALE : Field := ⟨2, 2⟩
@[reducible] def CMD_FLAG_UNKNOWN : Field := ⟨1, 1⟩
@[reducible] def CMD_FLAG_NOSLOT : Field := ⟨0, 0⟩
@[reducible] def MEM_STATUS_LOST : Field := ⟨31, 16⟩
@[reducible] def MEM_STATUS_COPY : Field := ⟨3, 3⟩
@[reducible] def MEM_STATUS_SPARES : Field := ⟨2, 0⟩
@[reducible] def MEM_CFG_SCRUB : Field := ⟨31, 31⟩
@[reducible] def MEM_CFG_SCRUBT : Field := ⟨7, 0⟩
@[reducible] def MEM_CNT_SRAM : Field := ⟨31, 16⟩
@[reducible] def MEM_CNT_NVM : Field := ⟨15, 0⟩
@[reducible] def MEM_DMASTAT_HALTED : Field := ⟨7, 0⟩
@[reducible] def MEM_PRETIRE_GO : Field := ⟨31, 31⟩
@[reducible] def MEM_PRETIRE_KEY : Field := ⟨23, 16⟩
@[reducible] def MEM_PRETIRE_PAGE : Field := ⟨7, 0⟩
@[reducible] def MEM_FLAG_RETREJ : Field := ⟨6, 6⟩
@[reducible] def MEM_FLAG_REPEAT : Field := ⟨5, 5⟩
@[reducible] def MEM_FLAG_NOSPARE : Field := ⟨4, 4⟩
@[reducible] def MEM_FLAG_RETIRED : Field := ⟨3, 3⟩
@[reducible] def MEM_FLAG_DMAHALT : Field := ⟨2, 2⟩
@[reducible] def MEM_FLAG_LOGOVF : Field := ⟨1, 1⟩
@[reducible] def MEM_FLAG_CE : Field := ⟨0, 0⟩
@[reducible] def LDG_STATUS_SINGLE : Field := ⟨20, 16⟩
@[reducible] def LDG_STATUS_RDONLY : Field := ⟨12, 8⟩
@[reducible] def LDG_STATUS_LANES : Field := ⟨7, 4⟩
@[reducible] def LDG_STATUS_ERASING : Field := ⟨3, 3⟩
@[reducible] def LDG_STATUS_FWOPEN : Field := ⟨2, 2⟩
@[reducible] def LDG_STATUS_FWFALL : Field := ⟨1, 1⟩
@[reducible] def LDG_STATUS_BOOTSLOT : Field := ⟨0, 0⟩
@[reducible] def LDG_LOG_DROP : Field := ⟨31, 16⟩
@[reducible] def LDG_LOG_APPEND : Field := ⟨15, 0⟩
@[reducible] def LDG_BADBLK_ADDR : Field := ⟨31, 2⟩
@[reducible] def LDG_BADBLK_STEP : Field := ⟨1, 0⟩
@[reducible] def LDG_FLAG_SEALBAD : Field := ⟨6, 6⟩
@[reducible] def LDG_FLAG_LOGDROP : Field := ⟨5, 5⟩
@[reducible] def LDG_FLAG_FWFALL : Field := ⟨4, 4⟩
@[reducible] def LDG_FLAG_ERASEABT : Field := ⟨3, 3⟩
@[reducible] def LDG_FLAG_RDONLY : Field := ⟨2, 2⟩
@[reducible] def LDG_FLAG_SINGLE : Field := ⟨1, 1⟩
@[reducible] def LDG_FLAG_WRFAIL : Field := ⟨0, 0⟩
@[reducible] def LDG_DUMP_COUNT : Field := ⟨31, 16⟩
@[reducible] def LDG_DUMP_SLOT : Field := ⟨0, 0⟩
@[reducible] def LDG_RESULT_DETAIL : Field := ⟨31, 16⟩
@[reducible] def LDG_RESULT_CODE : Field := ⟨7, 0⟩
@[reducible] def OTP_STATUS_SPARES : Field := ⟨15, 11⟩
@[reducible] def OTP_STATUS_TESTEN : Field := ⟨7, 7⟩
@[reducible] def OTP_STATUS_SAFE : Field := ⟨6, 6⟩
@[reducible] def OTP_STATUS_DEGRADED : Field := ⟨5, 5⟩
@[reducible] def OTP_STATUS_BUSY : Field := ⟨4, 4⟩
@[reducible] def OTP_STATUS_LC : Field := ⟨2, 0⟩
@[reducible] def OTP_ROW_ROW : Field := ⟨8, 0⟩
@[reducible] def OTP_DATA_DATA : Field := ⟨31, 0⟩
@[reducible] def OTP_PROG_GO : Field := ⟨31, 31⟩
@[reducible] def OTP_PROG_KEY : Field := ⟨15, 8⟩
@[reducible] def OTP_LC_GO : Field := ⟨31, 31⟩
@[reducible] def OTP_LC_KEY : Field := ⟨15, 8⟩
@[reducible] def OTP_LC_TARGET : Field := ⟨2, 0⟩
@[reducible] def OTP_RESULT_ROW : Field := ⟨16, 8⟩
@[reducible] def OTP_RESULT_CODE : Field := ⟨3, 0⟩
@[reducible] def OTP_FLAG_ROWLOST : Field := ⟨4, 4⟩
@[reducible] def OTP_FLAG_LCDONE : Field := ⟨3, 3⟩
@[reducible] def OTP_FLAG_REDIRECT : Field := ⟨2, 2⟩
@[reducible] def OTP_FLAG_REJECT : Field := ⟨1, 1⟩
@[reducible] def OTP_FLAG_DONE : Field := ⟨0, 0⟩
@[reducible] def OTP_SCAN_MARGINAL : Field := ⟨31, 16⟩
@[reducible] def OTP_SCAN_CORRECTED : Field := ⟨15, 0⟩
@[reducible] def WDG_CTL_ORDERLY : Field := ⟨31, 31⟩
@[reducible] def WDG_CTL_DRAIN : Field := ⟨7, 0⟩
@[reducible] def WDG_STATUS_TOKENED : Field := ⟨15, 8⟩
@[reducible] def WDG_STATUS_REG : Field := ⟨7, 0⟩
@[reducible] def WDG_TOKEN_TOKEN : Field := ⟨15, 8⟩
@[reducible] def WDG_TOKEN_TASK : Field := ⟨2, 0⟩
@[reducible] def WDG_EDGE_VALID : Field := ⟨31, 31⟩
@[reducible] def WDG_EDGE_COUNT : Field := ⟨23, 16⟩
@[reducible] def WDG_EDGE_EDGE : Field := ⟨9, 9⟩
@[reducible] def WDG_EDGE_LOST : Field := ⟨8, 8⟩
@[reducible] def WDG_EDGE_TASK : Field := ⟨2, 0⟩
@[reducible] def WDG_LAST_VALID : Field := ⟨31, 31⟩
@[reducible] def WDG_LAST_LOCAL : Field := ⟨30, 30⟩
@[reducible] def WDG_LAST_MORE : Field := ⟨29, 29⟩
@[reducible] def WDG_LAST_COUNT : Field := ⟨23, 16⟩
@[reducible] def WDG_LAST_KIND : Field := ⟨6, 4⟩
@[reducible] def WDG_LAST_TASK : Field := ⟨2, 0⟩
@[reducible] def WDG_LASTT_LO_TIME : Field := ⟨31, 0⟩
@[reducible] def WDG_LASTT_HI_TIME : Field := ⟨31, 0⟩
@[reducible] def WDG_FLAG_EXPIRED : Field := ⟨4, 4⟩
@[reducible] def WDG_FLAG_WRONGIF : Field := ⟨3, 3⟩
@[reducible] def WDG_FLAG_CFGREJ : Field := ⟨2, 2⟩
@[reducible] def WDG_FLAG_WARN : Field := ⟨1, 1⟩
@[reducible] def WDG_FLAG_EDGE : Field := ⟨0, 0⟩
@[reducible] def LNK_CFG_ROOTOK : Field := ⟨31, 31⟩
@[reducible] def LNK_CFG_REMCFG : Field := ⟨30, 30⟩
@[reducible] def LNK_CFG_TRIPTTL : Field := ⟨23, 16⟩
@[reducible] def LNK_CFG_UPHOLD : Field := ⟨15, 8⟩
@[reducible] def LNK_CFG_EN : Field := ⟨3, 0⟩
@[reducible] def LNK_ADDR_EPOCH : Field := ⟨31, 16⟩
@[reducible] def LNK_ADDR_SOURCE : Field := ⟨13, 12⟩
@[reducible] def LNK_ADDR_ADDR : Field := ⟨11, 0⟩
@[reducible] def LNK_ROOT_UIDLO : Field := ⟨31, 16⟩
@[reducible] def LNK_ROOT_ADDR : Field := ⟨11, 0⟩
@[reducible] def LNK_UID_LO_UID : Field := ⟨31, 0⟩
@[reducible] def LNK_UID_HI_UID : Field := ⟨31, 0⟩
@[reducible] def LNK_DEFAULT_TREE : Field := ⟨11, 8⟩
@[reducible] def LNK_DEFAULT_EN : Field := ⟨7, 7⟩
@[reducible] def LNK_DEFAULT_ALTEN : Field := ⟨6, 6⟩
@[reducible] def LNK_DEFAULT_PORT : Field := ⟨5, 4⟩
@[reducible] def LNK_DEFAULT_ALT : Field := ⟨1, 0⟩
@[reducible] def LNK_TRIPCTL_GO : Field := ⟨31, 31⟩
@[reducible] def LNK_TRIPCTL_KEY : Field := ⟨23, 16⟩
@[reducible] def LNK_TRIPLAST_FSRC : Field := ⟨31, 24⟩
@[reducible] def LNK_TRIPLAST_TSEQ : Field := ⟨23, 16⟩
@[reducible] def LNK_TRIPLAST_PORT : Field := ⟨15, 14⟩
@[reducible] def LNK_TRIPLAST_ORIGIN : Field := ⟨11, 0⟩
@[reducible] def LNK_TRIPCNT_SENT : Field := ⟨31, 16⟩
@[reducible] def LNK_TRIPCNT_RECV : Field := ⟨15, 0⟩
@[reducible] def LNK_POOL_HI : Field := ⟨27, 16⟩
@[reducible] def LNK_POOL_LO : Field := ⟨11, 0⟩
@[reducible] def LNK_STATUS_STATIONS : Field := ⟨31, 16⟩
@[reducible] def LNK_STATUS_ROUTEFULL : Field := ⟨6, 6⟩
@[reducible] def LNK_STATUS_SURVEY : Field := ⟨5, 5⟩
@[reducible] def LNK_STATUS_UP : Field := ⟨3, 0⟩
@[reducible] def LNK_FLAG_HDRERR : Field := ⟨10, 10⟩
@[reducible] def LNK_FLAG_TRIPSENT : Field := ⟨9, 9⟩
@[reducible] def LNK_FLAG_ROUTEWR : Field := ⟨8, 8⟩
@[reducible] def LNK_FLAG_CONFLICT : Field := ⟨7, 7⟩
@[reducible] def LNK_FLAG_ROUTEFULL : Field := ⟨6, 6⟩
@[reducible] def LNK_FLAG_TTL : Field := ⟨5, 5⟩
@[reducible] def LNK_FLAG_UNREACH : Field := ⟨4, 4⟩
@[reducible] def LNK_FLAG_ASSIGNED : Field := ⟨3, 3⟩
@[reducible] def LNK_FLAG_HALF : Field := ⟨2, 2⟩
@[reducible] def LNK_FLAG_LOST : Field := ⟨1, 1⟩
@[reducible] def LNK_FLAG_UP : Field := ⟨0, 0⟩
@[reducible] def FLW_TXADDR_ADDR : Field := ⟨31, 2⟩
@[reducible] def FLW_TXGO_TYPE : Field := ⟨31, 30⟩
@[reducible] def FLW_TXGO_FLOW : Field := ⟨22, 16⟩
@[reducible] def FLW_TXGO_LEN : Field := ⟨8, 0⟩
@[reducible] def FLW_TXRES_REJ : Field := ⟨19, 16⟩
@[reducible] def FLW_TXRES_SEQ : Field := ⟨15, 0⟩
@[reducible] def FLW_CFG_RETRY : Field := ⟨31, 24⟩
@[reducible] def FLW_CFG_RTO : Field := ⟨15, 0⟩
@[reducible] def FLW_EVTFWD_EN : Field := ⟨31, 31⟩
@[reducible] def FLW_EVTFWD_FLOW : Field := ⟨6, 0⟩
@[reducible] def FLW_REM_EN : Field := ⟨31, 31⟩
@[reducible] def FLW_REM_WR : Field := ⟨30, 30⟩
@[reducible] def FLW_FLAG_EVTHOLD : Field := ⟨6, 6⟩
@[reducible] def FLW_FLAG_REMREJ : Field := ⟨5, 5⟩
@[reducible] def FLW_FLAG_TXREJ : Field := ⟨4, 4⟩
@[reducible] def FLW_FLAG_STALE : Field := ⟨3, 3⟩
@[reducible] def FLW_FLAG_BROKEN : Field := ⟨2, 2⟩
@[reducible] def FLW_FLAG_ACKED : Field := ⟨1, 1⟩
@[reducible] def FLW_FLAG_RX : Field := ⟨0, 0⟩
@[reducible] def FLW_STAT_RETX : Field := ⟨31, 16⟩
@[reducible] def FLW_STAT_DUP : Field := ⟨15, 0⟩
@[reducible] def TIM_NOW_LO_TIME : Field := ⟨31, 0⟩
@[reducible] def TIM_NOW_HI_TIME : Field := ⟨31, 0⟩
@[reducible] def TIM_STATUS_DEPTH : Field := ⟨23, 16⟩
@[reducible] def TIM_STATUS_ROOT : Field := ⟨4, 4⟩
@[reducible] def TIM_STATUS_STATE : Field := ⟨2, 0⟩
@[reducible] def TIM_OFFSET_FADJ : Field := ⟨31, 16⟩
@[reducible] def TIM_OFFSET_OFS : Field := ⟨15, 0⟩
@[reducible] def TIM_CFG_SYNCP : Field := ⟨31, 16⟩
@[reducible] def TIM_CFG_HOLDN : Field := ⟨15, 8⟩
@[reducible] def TIM_SET_LO_TIME : Field := ⟨31, 0⟩
@[reducible] def TIM_SET_HI_TIME : Field := ⟨31, 0⟩
@[reducible] def TIM_SETCTL_GO : Field := ⟨31, 31⟩
@[reducible] def TIM_SETCTL_KEY : Field := ⟨15, 8⟩
@[reducible] def TIM_MARKSTAT_LASTNUM : Field := ⟨31, 16⟩
@[reducible] def TIM_MARKSTAT_ARMED : Field := ⟨7, 4⟩
@[reducible] def TIM_MARKSTAT_VALID : Field := ⟨3, 0⟩
@[reducible] def TIM_FLAG_SETREJ : Field := ⟨7, 7⟩
@[reducible] def TIM_FLAG_LATE : Field := ⟨6, 6⟩
@[reducible] def TIM_FLAG_MISS : Field := ⟨5, 5⟩
@[reducible] def TIM_FLAG_DONE : Field := ⟨4, 4⟩
@[reducible] def TIM_FLAG_ARMED : Field := ⟨3, 3⟩
@[reducible] def TIM_FLAG_STEP : Field := ⟨2, 2⟩
@[reducible] def TIM_FLAG_HOLDOVER : Field := ⟨1, 1⟩
@[reducible] def TIM_FLAG_LOCKED : Field := ⟨0, 0⟩
@[reducible] def TWB_CFG_PEC : Field := ⟨31, 31⟩
@[reducible] def TWB_CFG_TOEN : Field := ⟨30, 30⟩
@[reducible] def TWB_CFG_RLEN : Field := ⟨13, 8⟩
@[reducible] def TWB_STATUS_ADDR : Field := ⟨14, 8⟩
@[reducible] def TWB_STATUS_CXBUSY : Field := ⟨2, 2⟩
@[reducible] def TWB_STATUS_ROLE : Field := ⟨1, 1⟩
@[reducible] def TWB_STATUS_BUSY : Field := ⟨0, 0⟩
@[reducible] def TWB_PTR_PTR : Field := ⟨15, 0⟩
@[reducible] def TWB_CNT_XFER : Field := ⟨31, 16⟩
@[reducible] def TWB_CNT_DISC : Field := ⟨15, 0⟩
@[reducible] def TWB_FLAG_RANGE : Field := ⟨6, 6⟩
@[reducible] def TWB_FLAG_CXLOST : Field := ⟨5, 5⟩
@[reducible] def TWB_FLAG_CXDONE : Field := ⟨4, 4⟩
@[reducible] def TWB_FLAG_WAKENACK : Field := ⟨3, 3⟩
@[reducible] def TWB_FLAG_TIMEOUT : Field := ⟨2, 2⟩
@[reducible] def TWB_FLAG_PECERR : Field := ⟨1, 1⟩
@[reducible] def TWB_FLAG_PAGEX : Field := ⟨0, 0⟩
@[reducible] def TWB_CXCFG_SPEED : Field := ⟨31, 30⟩
@[reducible] def TWB_CXCFG_PEC : Field := ⟨29, 29⟩
@[reducible] def TWB_CXCFG_RETRY : Field := ⟨27, 24⟩
@[reducible] def TWB_CXCFG_TADDR : Field := ⟨22, 16⟩
@[reducible] def TWB_CXCFG_RLEN : Field := ⟨13, 8⟩
@[reducible] def TWB_CXCFG_WLEN : Field := ⟨5, 0⟩
@[reducible] def TWB_CXBUF_ADDR : Field := ⟨31, 2⟩
@[reducible] def TWB_CXGO_GO : Field := ⟨31, 31⟩
@[reducible] def TWB_CXSTAT_DONE : Field := ⟨13, 8⟩
@[reducible] def TWB_CXSTAT_TRIES : Field := ⟨7, 4⟩
@[reducible] def TWB_CXSTAT_RESULT : Field := ⟨3, 0⟩
@[reducible] def MON_CFG_DISABLE : Field := ⟨31, 31⟩
@[reducible] def MON_CFG_IDLE : Field := ⟨15, 8⟩
@[reducible] def MON_CFG_BAUD : Field := ⟨2, 0⟩
@[reducible] def MON_STAT_LOCKREM : Field := ⟨31, 16⟩
@[reducible] def MON_STAT_FAILS : Field := ⟨9, 8⟩
@[reducible] def MON_STAT_UNLOCKED : Field := ⟨3, 3⟩
@[reducible] def MON_STAT_RIGHTS : Field := ⟨2, 0⟩
@[reducible] def MON_FLAG_BAUDREV : Field := ⟨4, 4⟩
@[reducible] def MON_FLAG_RIGHTS : Field := ⟨3, 3⟩
@[reducible] def MON_FLAG_RXERR : Field := ⟨2, 2⟩
@[reducible] def MON_FLAG_ULFAIL : Field := ⟨1, 1⟩
@[reducible] def MON_FLAG_UNLOCK : Field := ⟨0, 0⟩
@[reducible] def XNG_CTL_LEGACY : Field := ⟨0, 0⟩
@[reducible] def XNG_TAKE_TAKE : Field := ⟨3, 0⟩
@[reducible] def XNG_STAT_RETRY : Field := ⟨31, 16⟩
@[reducible] def XNG_STAT_CAPT : Field := ⟨15, 0⟩
@[reducible] def XNG_FLAG_MODE : Field := ⟨1, 1⟩
@[reducible] def XNG_FLAG_STUCK : Field := ⟨0, 0⟩
@[reducible] def XNG_STUCKINFO_COUNT : Field := ⟨31, 16⟩
@[reducible] def XNG_STUCKINFO_CROSSING : Field := ⟨3, 0⟩
@[reducible] def PWR_CTL_REQ : Field := ⟨31, 30⟩
@[reducible] def PWR_CTL_HOLDMAX : Field := ⟨15, 0⟩
@[reducible] def PWR_STATUS_CAUSE : Field := ⟨23, 16⟩
@[reducible] def PWR_STATUS_LASTWAKE : Field := ⟨10, 8⟩
@[reducible] def PWR_STATUS_PEND : Field := ⟨4, 4⟩
@[reducible] def PWR_STATUS_MODE : Field := ⟨3, 0⟩
@[reducible] def PWR_WAKE_EN : Field := ⟨5, 0⟩
@[reducible] def PWR_TIMER_SECONDS : Field := ⟨31, 0⟩
@[reducible] def PWR_RETAIN_QUEUES : Field := ⟨15, 15⟩
@[reducible] def PWR_RETAIN_BLOCK : Field := ⟨14, 0⟩
@[reducible] def PWR_FLAG_WHY : Field := ⟨9, 8⟩
@[reducible] def PWR_FLAG_WAKE : Field := ⟨1, 1⟩
@[reducible] def PWR_FLAG_DSREJ : Field := ⟨0, 0⟩

end Sys2Proof.Machine.Fld
end

