-- ==== Sys2Proof/Config.lean ====
section
/-!
DEFINITION. What the spec leaves open: values no statement may lean on. Each is an opaque constant with no body.
-/

namespace Sys2Proof.Config

/-- A value the spec does not state, drawn fresh: the n-th of a run. [DESIGN CHOICE, log 5] -/
opaque freeWord : Nat → Word

/-- Whether a value that falls between two codes is taken up or down, where the spec states no rounding. [DESIGN CHOICE, log
6] -/
opaque roundUp : Rat → Bool

/-- Temperature in °C that a code of a diode input stands for: its
characteristic is not in the spec (R161). [DESIGN CHOICE, log 190] -/
opaque diodeTemp : Nat → Rat

/-- Trimmed code of a converter's reference channel: a value near 1.2 V (Table 06.2). [DESIGN CHOICE, log 191] -/
opaque refCode : Nat → Nat

/-- Whether the vendor signature in a firmware image is good: the image format lies outside the spec (R312). [DESIGN CHOICE,
log 7] -/
opaque signatureOk : List Byte → Bool

/-- The words of the trim rows and identity rows as the vendor programs them: rows 0 to 63 and 68 to 71 (R2, R327). [DESIGN
CHOICE, log 13] -/
opaque vendorRow : Nat → Word

end Sys2Proof.Config
end

