-- ==== Sys2Proof/Machine/Reg.lean ====
section
/-!
DEFINITION. The register map: one constructor of `Reg` per register of the spec's register tables (an
instance number for each register that comes in several), its block (Table 01.4), its offset, its access masks
(R7) and its reset value, as the tables state them.
-/

namespace Sys2Proof.Machine

/-- The 25 register blocks of Table 01.4, in address order. -/
inductive Block where
  | sys
  | tpl
  | swy
  | rail
  | lpe
  | ttb
  | sup
  | svy
  | bkp
  | gau
  | pol
  | flt
  | evt
  | cmd
  | mem
  | ldg
  | otp
  | wdg
  | lnk
  | flw
  | tim
  | twb
  | mon
  | xng
  | pwr
deriving DecidableEq, Repr

/-- The registers of the spec; the arguments are instance numbers. -/
inductive Reg where
  | STG_CFG (m : Nat)
  | STG_ILIM (m : Nat)
  | STG_SENSE (m : Nat)
  | STG_STATE (m : Nat)
  | STG_MEAS (m : Nat)
  | STG_TRIM (m : Nat)
  | STG_TEST (m : Nat)
  | STG_FLAG (m : Nat)
  | XBR_MOD (n : Nat)
  | XBR_GANG (n : Nat)
  | XBR_SHARE (n : Nat)
  | XBR_WSH (n : Nat)
  | PNT_CFG (k : Nat)
  | LPE_STATE (e : Nat)
  | LPE_TEMPO (e : Nat)
  | LPE_LOAD (e : Nat)
  | LPE_SHED (e : Nat)
  | LPE_FLAG (e : Nat)
  | LPS_CTL (s : Nat)
  | LPS_CFG (s : Nat)
  | LPS_IN (s : Nat)
  | LPS_REF (s : Nat)
  | LPS_OUT (s : Nat)
  | LPS_OLIM (s : Nat)
  | LPS_CLOSE (s : Nat)
  | LPS_MODEL (s : Nat)
  | LPS_MWATCH (s : Nat)
  | LPS_FWATCH (s : Nat)
  | LPS_STAT (s : Nat)
  | LPS_FLAG (s : Nat)
  | COF (e j c : Nat)
  | RAIL_CTL (n : Nat)
  | RAIL_STATUS (n : Nat)
  | RAIL_VSET (n : Nat)
  | RAIL_DLY (n : Nat)
  | RAIL_ONRAMP (n : Nat)
  | RAIL_OFFRAMP (n : Nat)
  | RAIL_DIS (n : Nat)
  | RAIL_PG (n : Nat)
  | RAIL_FLAG (n : Nat)
  | RAIL_ONTIME (n : Nat)
  | TTB_G_CFG (g : Nat)
  | TTB_G_CTL (g : Nat)
  | TTB_G_STATUS (g : Nat)
  | TTB_G_FLAG (g : Nat)
  | TTB_STEP (g j : Nat)
  | TTB_RST_CFG (x : Nat)
  | SUP_WIN (n : Nat)
  | SUP_CFG (n : Nat)
  | SUP_STATUS (n : Nat)
  | SUP_FLAG (n : Nat)
  | SVY_CV_CTL (x : Nat)
  | SVY_CV_MASK (x : Nat)
  | SVY_CV_DATA (x : Nat)
  | SVY_CV_STAT (x : Nat)
  | SVY_CV_DMA_BASE (x : Nat)
  | SVY_CV_DMA_CFG (x : Nat)
  | SVY_CV_DMA_PTR (x : Nat)
  | SVY_CV_FLAG (x : Nat)
  | SVY_CV_SL_OG (x k : Nat)
  | SVY_CV_SL_SK (x k : Nat)
  | SVY_CV_TAP (x c : Nat)
  | POL_R_PHASE (n : Nat)
  | POL_R_DER (n : Nat)
  | POL_R_CFG (n : Nat)
  | POL_R_STATE (n : Nat)
  | FLT_CFG (s : Nat)
  | FLT_TGT (s : Nat)
  | FLT_STAT (w : Nat)
  | FLT_LIVE (w : Nat)
  | FLT_CAUSE (q : Nat)
  | FLT_CNT (p : Nat)
  | EVT_CFG (s : Nat)
  | EVT_EN (w : Nat)
  | EVT_PEND (w : Nat)
  | EVT_LIVE (w : Nat)
  | EVT_STORM (w : Nat)
  | EVT_QBASE (q : Nat)
  | EVT_QSIZE (q : Nat)
  | EVT_QPTR (q : Nat)
  | EVT_QTAKE (q : Nat)
  | EVT_QEOI (q : Nat)
  | EVT_QRUN (q : Nat)
  | EVT_QDROP (q : Nat)
  | EVT_QREC (q i : Nat)
  | CMD_PARAM (n : Nat)
  | CMD_LANE (n : Nat)
  | MEM_PMAP (k : Nat)
  | MEM_LOG_ADDR (e : Nat)
  | MEM_LOG_INFO (e : Nat)
  | LDG_R_STAT (r : Nat)
  | LDG_R_SEQ (r : Nat)
  | OTP_REDIR (k : Nat)
  | WDG_T_CFG (t : Nat)
  | WDG_T_STAT (t : Nat)
  | LNK_P_STATE (p : Nat)
  | LNK_P_CNT0 (p : Nat)
  | LNK_P_CNT1 (p : Nat)
  | LNK_P_CNT2 (p : Nat)
  | LNK_P_CFG (p : Nat)
  | LNK_RT_A (e : Nat)
  | LNK_RT_B (e : Nat)
  | FLW_F_CFG (f : Nat)
  | FLW_F_RXBASE (f : Nat)
  | FLW_F_SEQ (f : Nat)
  | FLW_F_RX (f : Nat)
  | TIM_DELAY (p : Nat)
  | TIM_BANK (w : Nat)
  | SYS_ID
  | SYS_WINBASE
  | SYS_IADDR
  | SYS_IDATA
  | SYS_TWSTAT
  | TPL_STATUS
  | TPL_STAGE
  | TPL_STAGELEN
  | TPL_ID
  | TPL_BUILD
  | TPL_DOMMASK
  | TPL_HOLDMAX
  | TPL_ERRDET
  | TPL_SEQNUM
  | SWY_STATUS
  | SWY_IAGG
  | SWY_FLAG
  | SWY_GANGDIFF
  | SWY_PNTT
  | TTB_RSTSTAT
  | TTB_BOUT
  | TTB_MINOFF
  | TTB_BSTAT
  | TTB_FIRST
  | TTB_FIRSTT_LO
  | TTB_FIRSTT_HI
  | SVY_TRIG
  | SVY_TSTAMP_LO
  | SVY_TSTAMP_HI
  | SVY_TSNTYPE
  | SVY_STATUS
  | SVY_FLAG
  | BKP_STATUS
  | BKP_PATH
  | BKP_QUAL
  | BKP_COUNT
  | BKP_BATCFG
  | BKP_CHG
  | BKP_CHGLIM
  | BKP_VINREG
  | BKP_TEMP
  | BKP_TIMER
  | BKP_WDT
  | BKP_SHIP
  | BKP_BTN
  | BKP_FLAG
  | BKP_MEAS
  | BKP_SHUNT
  | GAU_STATUS
  | GAU_SOC
  | GAU_ACC_LO
  | GAU_ACC_HI
  | GAU_QUSE
  | GAU_DESIGN
  | GAU_CFG
  | GAU_DRIFT
  | GAU_CYCLES
  | GAU_THRU
  | GAU_AGE
  | GAU_MEAS
  | GAU_CTL
  | GAU_FLAG
  | POL_LOCK
  | POL_STATUS
  | POL_RIDE
  | POL_RIDEPRED
  | POL_RIDESHED
  | POL_FLAG
  | FLT_SUMMARY
  | FLT_CTL
  | FLT_FIRST
  | FLT_FIRSTT_LO
  | FLT_FIRSTT_HI
  | FLT_INJ
  | FLT_INJSTAT
  | FLT_FORCE
  | FLT_HOST
  | FLT_FLAG
  | EVT_CTL
  | EVT_STAT
  | CMD_ISSUE
  | CMD_RESULT
  | CMD_CANCEL
  | CMD_QUERY
  | CMD_QSTAT
  | CMD_STAT
  | CMD_SLOTS
  | CMD_FLAG
  | MEM_STATUS
  | MEM_CFG
  | MEM_CNT
  | MEM_DMASTAT
  | MEM_PRETIRE
  | MEM_FLAG
  | LDG_STATUS
  | LDG_LOG
  | LDG_BADBLK
  | LDG_FLAG
  | LDG_DUMP
  | LDG_RESULT
  | OTP_STATUS
  | OTP_ROW
  | OTP_DATA
  | OTP_PROG
  | OTP_LC
  | OTP_RESULT
  | OTP_FLAG
  | OTP_SCAN
  | WDG_CTL
  | WDG_STATUS
  | WDG_TOKEN
  | WDG_EDGE
  | WDG_LAST
  | WDG_LASTT_LO
  | WDG_LASTT_HI
  | WDG_FLAG
  | LNK_CFG
  | LNK_ADDR
  | LNK_ROOT
  | LNK_UID_LO
  | LNK_UID_HI
  | LNK_DEFAULT
  | LNK_TRIPCTL
  | LNK_TRIPLAST
  | LNK_TRIPCNT
  | LNK_POOL
  | LNK_STATUS
  | LNK_FLAG
  | FLW_TXADDR
  | FLW_TXGO
  | FLW_TXRES
  | FLW_CFG
  | FLW_EVTFWD
  | FLW_REM
  | FLW_FLAG
  | FLW_STAT
  | TIM_NOW_LO
  | TIM_NOW_HI
  | TIM_STATUS
  | TIM_OFFSET
  | TIM_CFG
  | TIM_SET_LO
  | TIM_SET_HI
  | TIM_SETCTL
  | TIM_MARKSTAT
  | TIM_FLAG
  | TWB_CFG
  | TWB_STATUS
  | TWB_PTR
  | TWB_CNT
  | TWB_FLAG
  | TWB_CXCFG
  | TWB_CXBUF
  | TWB_CXGO
  | TWB_CXSTAT
  | MON_CFG
  | MON_STAT
  | MON_FLAG
  | XNG_CTL
  | XNG_TAKE
  | XNG_STAT
  | XNG_FLAG
  | XNG_STUCKINFO
  | PWR_CTL
  | PWR_STATUS
  | PWR_WAKE
  | PWR_TIMER
  | PWR_RETAIN
  | PWR_FLAG
deriving DecidableEq, Repr

/-- Number of the block, in the order of Table 01.4. -/
def Block.index : Block → Nat
  | .sys => 0
  | .tpl => 1
  | .swy => 2
  | .rail => 3
  | .lpe => 4
  | .ttb => 5
  | .sup => 6
  | .svy => 7
  | .bkp => 8
  | .gau => 9
  | .pol => 10
  | .flt => 11
  | .evt => 12
  | .cmd => 13
  | .mem => 14
  | .ldg => 15
  | .otp => 16
  | .wdg => 17
  | .lnk => 18
  | .flw => 19
  | .tim => 20
  | .twb => 21
  | .mon => 22
  | .xng => 23
  | .pwr => 24

/-- Base address of the block (Table 01.4). -/
def Block.base (b : Block) : Nat := 0x40000000 + 0x1000 * b.index

/-- The block at a number of Table 01.4. -/
def Block.ofIndex : Nat → Option Block
  | 0 => some .sys
  | 1 => some .tpl
  | 2 => some .swy
  | 3 => some .rail
  | 4 => some .lpe
  | 5 => some .ttb
  | 6 => some .sup
  | 7 => some .svy
  | 8 => some .bkp
  | 9 => some .gau
  | 10 => some .pol
  | 11 => some .flt
  | 12 => some .evt
  | 13 => some .cmd
  | 14 => some .mem
  | 15 => some .ldg
  | 16 => some .otp
  | 17 => some .wdg
  | 18 => some .lnk
  | 19 => some .flw
  | 20 => some .tim
  | 21 => some .twb
  | 22 => some .mon
  | 23 => some .xng
  | 24 => some .pwr
  | _ => none

/-- Sources of Table 11.1 that are MESSAGE sources. [DEDUCED, log 15] -/
def evtIsMessage (s : Nat) : Bool :=
  s == 0 || s == 1 || (3 ≤ s && s ≤ 6) || s == 18 || s == 19 || s == 62 || (93 ≤ s && s ≤ 101)

/-- Sources of Table 11.1 that are always enabled. [DEDUCED, log 15] -/
def evtIsFixed (s : Nat) : Bool := s == 0 || s == 1 || (3 ≤ s && s ≤ 6)

/-- CFG reset column of Table 10.1. [DEDUCED, log 15] -/
def fltCfgReset (s : Nat) : Word :=
  if s < 24 then 0x00000003#32
  else if s ≤ 51 then 0x10000003#32
  else if s ≤ 53 then 0x60000003#32
  else if s == 54 then 0x00000003#32
  else if s == 55 then 0x00000007#32
  else if s ≤ 95 then 0x10000003#32
  else if s ≤ 135 then 0x00000003#32
  else if s ≤ 155 then 0x10000003#32
  else if s ≤ 187 then 0x60000003#32
  else if s ≤ 219 then 0x00000003#32
  else if s ≤ 222 then 0x10000003#32
  else if s ≤ 229 then 0x00000003#32
  else if s == 230 then 0x10000003#32
  else if s ≤ 234 then 0x00000003#32
  else if s ≤ 237 then 0x0000000B#32
  else if s ≤ 239 then 0x10000003#32
  else if s ≤ 243 then 0x0000000B#32
  else if s ≤ 247 then 0x10000003#32
  else if s == 248 then 0x00000003#32
  else if s == 249 then 0x10000003#32
  else 0x00000003#32

/-- What the register tables state of one register: its block, its offset, the bits of each access type of R7
(the bits of no type are RO), and its reset value. -/
structure RegInfo where
  block : Block
  off : Nat
  /-- software reads and writes (RW) -/
  rw : Word := 0#32
  /-- a write of 1 clears (W1C) -/
  w1c : Word := 0#32
  /-- a write of 1 sets (W1S) -/
  w1s : Word := 0#32
  /-- a write acts, reads as 0 (WO) -/
  wo : Word := 0#32
  /-- a read clears (RC) -/
  rc : Word := 0#32
  reset : Word := 0#32

/-- The register tables of the spec. [DEDUCED, log 15] -/
def Reg.info : Reg → RegInfo
  | .STG_CFG m => { block := .swy, off := 0x40 * m + 0x0, rw := (if m < 16 then 0x1F1FFFF8#32 else 0x1F1FFFC8#32), reset := (if m < 16 then 0x1F1F4318#32 else 0x1F1F4338#32) }
  | .STG_ILIM m => { block := .swy, off := 0x40 * m + 0x4, rw := 0x00FFFFFF#32, reset := (if m < 16 then 0x00080A28#32 else 0x00140A28#32) }
  | .STG_SENSE m => { block := .swy, off := 0x40 * m + 0x8, rw := (if m < 16 then 0x00FFFFFF#32 else 0#32), reset := (if m < 16 then 0x002704B0#32 else 0#32) }
  | .STG_STATE m => { block := .swy, off := 0x40 * m + 0xc }
  | .STG_MEAS m => { block := .swy, off := 0x40 * m + 0x10 }
  | .STG_TRIM m => { block := .swy, off := 0x40 * m + 0x14 }
  | .STG_TEST m => { block := .swy, off := 0x40 * m + 0x18 }
  | .STG_FLAG m => { block := .swy, off := 0x40 * m + 0x1c, w1c := 0x000000FF#32 }
  | .XBR_MOD n => { block := .swy, off := 0x600 + 0x20 * n + 0x0, rw := 0x00FF1F00#32, reset := 0x00320600#32 }
  | .XBR_GANG n => { block := .swy, off := 0x600 + 0x20 * n + 0x4 }
  | .XBR_SHARE n => { block := .swy, off := 0x600 + 0x20 * n + 0x8, rw := 0x0000FFFF#32, reset := 0x00000014#32 }
  | .XBR_WSH n => { block := .swy, off := 0x600 + 0x20 * n + 0xc, rw := 0x00FFFFFF#32, reset := 0x00101019#32 }
  | .PNT_CFG k => { block := .swy, off := 0x840 + 4 * k, rw := 0x80001F1F#32 }
  | .LPE_STATE e => { block := .lpe, off := 0x100 * e + 0x0, wo := 0x80000000#32 }
  | .LPE_TEMPO e => { block := .lpe, off := 0x100 * e + 0x4 }
  | .LPE_LOAD e => { block := .lpe, off := 0x100 * e + 0x8, reset := 0x03E803E8#32 }
  | .LPE_SHED e => { block := .lpe, off := 0x100 * e + 0xc, rw := 0x0000FFFF#32, reset := 0x00003296#32 }
  | .LPE_FLAG e => { block := .lpe, off := 0x100 * e + 0x10, w1c := 0x00000003#32 }
  | .LPS_CTL s => { block := .lpe, off := 0x100 * (s / 4) + 0x20 + 0x30 * (s % 4) + 0x0, rw := 0x00000100#32, wo := 0x000000C0#32 }
  | .LPS_CFG s => { block := .lpe, off := 0x100 * (s / 4) + 0x20 + 0x30 * (s % 4) + 0x4, rw := 0xFF1F07CF#32 }
  | .LPS_IN s => { block := .lpe, off := 0x100 * (s / 4) + 0x20 + 0x30 * (s % 4) + 0x8, rw := 0xDF1F0003#32, reset := 0xC01F0000#32 }
  | .LPS_REF s => { block := .lpe, off := 0x100 * (s / 4) + 0x20 + 0x30 * (s % 4) + 0xc, rw := 0xFFFFFFFF#32 }
  | .LPS_OUT s => { block := .lpe, off := 0x100 * (s / 4) + 0x20 + 0x30 * (s % 4) + 0x10, rw := 0xFF00FFFF#32 }
  | .LPS_OLIM s => { block := .lpe, off := 0x100 * (s / 4) + 0x20 + 0x30 * (s % 4) + 0x14, rw := 0xFFFFFFFF#32 }
  | .LPS_CLOSE s => { block := .lpe, off := 0x100 * (s / 4) + 0x20 + 0x30 * (s % 4) + 0x18, rw := 0xFFFFFFFF#32, reset := 0x140A0000#32 }
  | .LPS_MODEL s => { block := .lpe, off := 0x100 * (s / 4) + 0x20 + 0x30 * (s % 4) + 0x1c, rw := 0xFFFFFFFF#32 }
  | .LPS_MWATCH s => { block := .lpe, off := 0x100 * (s / 4) + 0x20 + 0x30 * (s % 4) + 0x20, rw := 0xFFFFFFFF#32, reset := 0x100640C8#32 }
  | .LPS_FWATCH s => { block := .lpe, off := 0x100 * (s / 4) + 0x20 + 0x30 * (s % 4) + 0x24, rw := 0xFFFFFFFF#32, reset := 0x0A0A0400#32 }
  | .LPS_STAT s => { block := .lpe, off := 0x100 * (s / 4) + 0x20 + 0x30 * (s % 4) + 0x28 }
  | .LPS_FLAG s => { block := .lpe, off := 0x100 * (s / 4) + 0x20 + 0x30 * (s % 4) + 0x2c, w1c := 0x000003FF#32 }
  | .COF e j c => { block := .lpe, off := 0x800 + 0x100 * e + 0x14 * j + 4 * c, rw := 0xFFFFFFFF#32 }
  | .RAIL_CTL n => { block := .rail, off := 0x80 * n + 0x0, rw := 0x00000110#32, wo := 0xC0000000#32 }
  | .RAIL_STATUS n => { block := .rail, off := 0x80 * n + 0x4 }
  | .RAIL_VSET n => { block := .rail, off := 0x80 * n + 0x8, rw := 0x0000FFFF#32 }
  | .RAIL_DLY n => { block := .rail, off := 0x80 * n + 0xc, rw := 0xFFFFFFFF#32 }
  | .RAIL_ONRAMP n => { block := .rail, off := 0x80 * n + 0x10, rw := 0x0001FFFF#32, reset := 0x00000064#32 }
  | .RAIL_OFFRAMP n => { block := .rail, off := 0x80 * n + 0x14, rw := 0x0001FFFF#32, reset := 0x00000064#32 }
  | .RAIL_DIS n => { block := .rail, off := 0x80 * n + 0x18, rw := 0x07FF0FFF#32, reset := 0x00640014#32 }
  | .RAIL_PG n => { block := .rail, off := 0x80 * n + 0x1c, rw := 0xFFFFFFFF#32, reset := 0x000A0064#32 }
  | .RAIL_FLAG n => { block := .rail, off := 0x80 * n + 0x20, w1c := 0x0000003F#32 }
  | .RAIL_ONTIME n => { block := .rail, off := 0x80 * n + 0x24 }
  | .TTB_G_CFG g => { block := .ttb, off := 0x10 * g + 0x0, rw := 0x00000003#32 }
  | .TTB_G_CTL g => { block := .ttb, off := 0x10 * g + 0x4, wo := 0x00000003#32 }
  | .TTB_G_STATUS g => { block := .ttb, off := 0x10 * g + 0x8 }
  | .TTB_G_FLAG g => { block := .ttb, off := 0x10 * g + 0xc, w1c := 0x0000000F#32 }
  | .TTB_STEP g j => { block := .ttb, off := 0x800 + 0x100 * g + 4 * j, rw := 0xFFFFFFFF#32 }
  | .TTB_RST_CFG x => { block := .ttb, off := 0x100 + 4 * x, rw := 0x3FFFFFFF#32, reset := 0x01400000#32 }
  | .SUP_WIN n => { block := .sup, off := 0x20 * n + 0x0, rw := 0x0FFF0FFF#32, reset := 0x0FFF0000#32 }
  | .SUP_CFG n => { block := .sup, off := 0x20 * n + 0x4, rw := (if n < 16 then 0x030FFFFF#32 else 0x000FFFFF#32), reset := 0x00040000#32 }
  | .SUP_STATUS n => { block := .sup, off := 0x20 * n + 0x8 }
  | .SUP_FLAG n => { block := .sup, off := 0x20 * n + 0xc, w1c := 0x00000003#32 }
  | .SVY_CV_CTL x => { block := .svy, off := 0x100 * x + 0x0, rw := 0x0003FFFF#32, wo := 0x80000000#32 }
  | .SVY_CV_MASK x => { block := .svy, off := 0x100 * x + 0x4, rw := (if x == 2 then 0xC000007F#32 else 0xFFFFFFFF#32) }
  | .SVY_CV_DATA x => { block := .svy, off := 0x100 * x + 0x8, rc := 0xC0000000#32 }
  | .SVY_CV_STAT x => { block := .svy, off := 0x100 * x + 0xc }
  | .SVY_CV_DMA_BASE x => { block := .svy, off := 0x100 * x + 0x10, rw := 0xFFFFFFFC#32 }
  | .SVY_CV_DMA_CFG x => { block := .svy, off := 0x100 * x + 0x14, rw := 0x8000FFFF#32 }
  | .SVY_CV_DMA_PTR x => { block := .svy, off := 0x100 * x + 0x18, rw := 0xFFFF0000#32 }
  | .SVY_CV_FLAG x => { block := .svy, off := 0x100 * x + 0x1c, w1c := 0x0000003F#32 }
  | .SVY_CV_SL_OG x k => { block := .svy, off := 0x100 * x + 0x20 + 8 * k, rw := 0xFFFFFFFF#32 }
  | .SVY_CV_SL_SK x k => { block := .svy, off := 0x100 * x + 0x24 + 8 * k, rw := 0x0000FFFF#32 }
  | .SVY_CV_TAP x c => { block := .svy, off := 0x100 * x + 0x80 + 4 * c, reset := 0xFFFF0000#32 }
  | .POL_R_PHASE n => { block := .pol, off := 0x100 + 0x10 * n + 0x0, rw := 0xFFF8FFFF#32, reset := 0x2810503C#32 }
  | .POL_R_DER n => { block := .pol, off := 0x100 + 0x10 * n + 0x4, rw := 0xFF00FFFF#32, reset := 0x32007364#32 }
  | .POL_R_CFG n => { block := .pol, off := 0x100 + 0x10 * n + 0x8, rw := 0x80FFFF0F#32, reset := 0x00143200#32 }
  | .POL_R_STATE n => { block := .pol, off := 0x100 + 0x10 * n + 0xc, reset := 0x64000000#32 }
  | .FLT_CFG s => { block := .flt, off := 8 * s, rw := (if s == 52 || s == 53 || (156 ≤ s && s ≤ 187) then 0x00000017#32 else if s == 55 then 0xC0000013#32 else 0xC0000017#32), reset := (fltCfgReset s) }
  | .FLT_TGT s => { block := .flt, off := 8 * s + 4, rw := 0xFF0FFFFF#32 }
  | .FLT_STAT w => { block := .flt, off := 0x800 + 4 * w, w1c := 0xFFFFFFFF#32 }
  | .FLT_LIVE w => { block := .flt, off := 0x820 + 4 * w }
  | .FLT_CAUSE q => { block := .flt, off := 0x900 + 4 * q }
  | .FLT_CNT p => { block := .flt, off := 0xa00 + 4 * p }
  | .EVT_CFG s => { block := .evt, off := 4 * s, rw := 0x000003F3#32, reset := (if evtIsFixed s then 0x60000000#32 else if evtIsMessage s then 0x40000000#32 else 0x00000001#32) }
  | .EVT_EN w => { block := .evt, off := 0x400 + 4 * w, rw := (if w == 0 then 0xFFFFFF84#32 else 0xFFFFFFFF#32), reset := (if w == 0 then 0x0000007B#32 else 0#32) }
  | .EVT_PEND w => { block := .evt, off := 0x420 + 4 * w, rw := 0xFFFFFFFF#32 }
  | .EVT_LIVE w => { block := .evt, off := 0x440 + 4 * w }
  | .EVT_STORM w => { block := .evt, off := 0x460 + 4 * w, w1c := 0xFFFFFFFF#32 }
  | .EVT_QBASE q => { block := .evt, off := 0x500 + 0x40 * q + 0x0, rw := 0xFFFFFFF0#32, reset := (if q == 0 then 0x0003C000#32 else if q == 1 then 0x0003D000#32 else 0x0003F000#32) }
  | .EVT_QSIZE q => { block := .evt, off := 0x500 + 0x40 * q + 0x4, rw := 0x00001FFF#32, reset := (if q == 1 then 0x00000200#32 else 0x00000100#32) }
  | .EVT_QPTR q => { block := .evt, off := 0x500 + 0x40 * q + 0x8 }
  | .EVT_QTAKE q => { block := .evt, off := 0x500 + 0x40 * q + 0xc, wo := 0xFFFFFFFF#32 }
  | .EVT_QEOI q => { block := .evt, off := 0x500 + 0x40 * q + 0x10, wo := 0xFFFFFFFF#32 }
  | .EVT_QRUN q => { block := .evt, off := 0x500 + 0x40 * q + 0x14, reset := 0x00000080#32 }
  | .EVT_QDROP q => { block := .evt, off := 0x500 + 0x40 * q + 0x18 }
  | .EVT_QREC q i => { block := .evt, off := 0x500 + 0x40 * q + 0x20 + 4 * i }
  | .CMD_PARAM n => { block := .cmd, off := 4 * n, rw := 0xFFFFFFFF#32 }
  | .CMD_LANE n => { block := .cmd, off := 0x30 + 4 * n }
  | .MEM_PMAP k => { block := .mem, off := 0x20 + 4 * k }
  | .MEM_LOG_ADDR e => { block := .mem, off := 0x100 + 8 * e }
  | .MEM_LOG_INFO e => { block := .mem, off := 0x104 + 8 * e, w1c := 0x80000000#32 }
  | .LDG_R_STAT r => { block := .ldg, off := 0x10 + 8 * r }
  | .LDG_R_SEQ r => { block := .ldg, off := 0x14 + 8 * r }
  | .OTP_REDIR k => { block := .otp, off := 0x40 + 4 * k }
  | .WDG_T_CFG t => { block := .wdg, off := 0x40 + 8 * t, rw := 0x30FFFFFF#32, w1s := 0x80000000#32 }
  | .WDG_T_STAT t => { block := .wdg, off := 0x44 + 8 * t }
  | .LNK_P_STATE p => { block := .lnk, off := 0x100 + 0x40 * p + 0x0 }
  | .LNK_P_CNT0 p => { block := .lnk, off := 0x100 + 0x40 * p + 0x4 }
  | .LNK_P_CNT1 p => { block := .lnk, off := 0x100 + 0x40 * p + 0x8 }
  | .LNK_P_CNT2 p => { block := .lnk, off := 0x100 + 0x40 * p + 0xc }
  | .LNK_P_CFG p => { block := .lnk, off := 0x100 + 0x40 * p + 0x10, rw := 0x8000003F#32, reset := 0x00000024#32 }
  | .LNK_RT_A e => { block := .lnk, off := 0x800 + 8 * e, rw := 0x8F000FFF#32 }
  | .LNK_RT_B e => { block := .lnk, off := 0x804 + 8 * e, rw := 0x000000BF#32 }
  | .FLW_F_CFG f => { block := .flw, off := 0x10 * f + 0x0 }
  | .FLW_F_RXBASE f => { block := .flw, off := 0x10 * f + 0x4 }
  | .FLW_F_SEQ f => { block := .flw, off := 0x10 * f + 0x8 }
  | .FLW_F_RX f => { block := .flw, off := 0x10 * f + 0xc, rw := 0xFFFF0000#32 }
  | .TIM_DELAY p => { block := .tim, off := 0x20 + 4 * p }
  | .TIM_BANK w => { block := .tim, off := 0x400 + 4 * w }
  | .SYS_ID => { block := .sys, off := 0x0, reset := 0x164000B0#32 }
  | .SYS_WINBASE => { block := .sys, off := 0x4, rw := 0x0000FFFF#32, w1c := 0x00010000#32, reset := 0x00004000#32 }
  | .SYS_IADDR => { block := .sys, off := 0x8, rw := 0xFFFFFFFC#32 }
  | .SYS_IDATA => { block := .sys, off := 0xc, rw := 0xFFFFFFFF#32 }
  | .SYS_TWSTAT => { block := .sys, off := 0x10, rc := 0x8000000F#32 }
  | .TPL_STATUS => { block := .tpl, off := 0x0 }
  | .TPL_STAGE => { block := .tpl, off := 0x4, rw := 0xFFFFFFFC#32 }
  | .TPL_STAGELEN => { block := .tpl, off := 0x8, rw := 0x0000FFFF#32 }
  | .TPL_ID => { block := .tpl, off := 0xc }
  | .TPL_BUILD => { block := .tpl, off := 0x10 }
  | .TPL_DOMMASK => { block := .tpl, off := 0x14 }
  | .TPL_HOLDMAX => { block := .tpl, off := 0x18, rw := 0x0000FFFF#32, reset := 0x000000C8#32 }
  | .TPL_ERRDET => { block := .tpl, off := 0x1c }
  | .TPL_SEQNUM => { block := .tpl, off := 0x20 }
  | .SWY_STATUS => { block := .swy, off := 0x800, reset := 0x1F1F0000#32 }
  | .SWY_IAGG => { block := .swy, off := 0x804, rw := 0x00FFFFFF#32, reset := 0x000A03E8#32 }
  | .SWY_FLAG => { block := .swy, off := 0x808, w1c := 0x00000001#32 }
  | .SWY_GANGDIFF => { block := .swy, off := 0x80c }
  | .SWY_PNTT => { block := .swy, off := 0x810, rw := 0x0000FFFF#32, reset := 0x00000014#32 }
  | .TTB_RSTSTAT => { block := .ttb, off := 0x110, reset := 0x0000000F#32 }
  | .TTB_BOUT => { block := .ttb, off := 0x120, rw := 0xFF0FFFFF#32, reset := 0x14013046#32 }
  | .TTB_MINOFF => { block := .ttb, off := 0x124, rw := 0x0000FFFF#32, reset := 0x00000088#32 }
  | .TTB_BSTAT => { block := .ttb, off := 0x128 }
  | .TTB_FIRST => { block := .ttb, off := 0x130, w1c := 0x80000000#32 }
  | .TTB_FIRSTT_LO => { block := .ttb, off := 0x134 }
  | .TTB_FIRSTT_HI => { block := .ttb, off := 0x138 }
  | .SVY_TRIG => { block := .svy, off := 0x400, rw := 0xC00FFFFF#32, wo := 0x20000000#32 }
  | .SVY_TSTAMP_LO => { block := .svy, off := 0x404 }
  | .SVY_TSTAMP_HI => { block := .svy, off := 0x408 }
  | .SVY_TSNTYPE => { block := .svy, off := 0x40c, rw := 0x0000FFFF#32 }
  | .SVY_STATUS => { block := .svy, off := 0x410 }
  | .SVY_FLAG => { block := .svy, off := 0x414, w1c := 0x00000003#32 }
  | .BKP_STATUS => { block := .bkp, off := 0x0, reset := 0x00000003#32 }
  | .BKP_PATH => { block := .bkp, off := 0x4, rw := 0x1F0FFFFF#32, reset := 0x02012C46#32 }
  | .BKP_QUAL => { block := .bkp, off := 0x8, rw := 0xFFFFFFFF#32, reset := 0x00C80014#32 }
  | .BKP_COUNT => { block := .bkp, off := 0xc }
  | .BKP_BATCFG => { block := .bkp, off := 0x10, rw := 0x101F0FFF#32, reset := 0x00000BB8#32 }
  | .BKP_CHG => { block := .bkp, off := 0x14, rw := 0xDFFF01FF#32, reset := 0x4FA00032#32 }
  | .BKP_CHGLIM => { block := .bkp, off := 0x18, rw := 0xFFFFFFFF#32, reset := 0x0A0A0A64#32 }
  | .BKP_VINREG => { block := .bkp, off := 0x1c, rw := 0x000083FF#32, reset := 0x00008050#32 }
  | .BKP_TEMP => { block := .bkp, off := 0x20, rw := 0x00FFFF00#32, reset := 0x002D0000#32 }
  | .BKP_TIMER => { block := .bkp, off := 0x24, rw := 0x00FF001F#32, reset := 0x001E0008#32 }
  | .BKP_WDT => { block := .bkp, off := 0x28, rw := 0x0000000F#32, wo := 0x80000000#32, reset := 0x00280003#32 }
  | .BKP_SHIP => { block := .bkp, off := 0x2c, wo := 0xC000FF00#32 }
  | .BKP_BTN => { block := .bkp, off := 0x30, rw := 0x8000001F#32, reset := 0x80000008#32 }
  | .BKP_FLAG => { block := .bkp, off := 0x34, w1c := 0x000003FF#32 }
  | .BKP_MEAS => { block := .bkp, off := 0x38 }
  | .BKP_SHUNT => { block := .bkp, off := 0x3c, rw := 0xFFFFFFFF#32, reset := 0x01F401F4#32 }
  | .GAU_STATUS => { block := .gau, off := 0x0 }
  | .GAU_SOC => { block := .gau, off := 0x4, reset := 0x27100000#32 }
  | .GAU_ACC_LO => { block := .gau, off := 0x8 }
  | .GAU_ACC_HI => { block := .gau, off := 0xc }
  | .GAU_QUSE => { block := .gau, off := 0x10 }
  | .GAU_DESIGN => { block := .gau, off := 0x14, rw := 0xFFFFFFFF#32 }
  | .GAU_CFG => { block := .gau, off := 0x18, rw := 0xFFFFFFFF#32, reset := 0x1400001E#32 }
  | .GAU_DRIFT => { block := .gau, off := 0x1c, rw := 0xFF00FFFF#32, reset := 0x0A000078#32 }
  | .GAU_CYCLES => { block := .gau, off := 0x20, rw := 0xFFFFFFFF#32 }
  | .GAU_THRU => { block := .gau, off := 0x24 }
  | .GAU_AGE => { block := .gau, off := 0x28 }
  | .GAU_MEAS => { block := .gau, off := 0x2c }
  | .GAU_CTL => { block := .gau, off := 0x30, wo := 0x8000FF00#32 }
  | .GAU_FLAG => { block := .gau, off := 0x34, w1c := 0x0000007F#32 }
  | .POL_LOCK => { block := .pol, off := 0x0, rw := 0x0000003F#32 }
  | .POL_STATUS => { block := .pol, off := 0x4 }
  | .POL_RIDE => { block := .pol, off := 0x8, rw := 0x7FFFFFFF#32, reset := 0x0A0A0000#32 }
  | .POL_RIDEPRED => { block := .pol, off := 0xc }
  | .POL_RIDESHED => { block := .pol, off := 0x10 }
  | .POL_FLAG => { block := .pol, off := 0x14, w1c := 0x0000000F#32 }
  | .FLT_SUMMARY => { block := .flt, off := 0x840 }
  | .FLT_CTL => { block := .flt, off := 0x844, wo := 0x8000FF00#32 }
  | .FLT_FIRST => { block := .flt, off := 0x848, w1c := 0x80000000#32 }
  | .FLT_FIRSTT_LO => { block := .flt, off := 0x84c }
  | .FLT_FIRSTT_HI => { block := .flt, off := 0x850 }
  | .FLT_INJ => { block := .flt, off := 0x860, rw := 0x4000030F#32, wo := 0x80FF0000#32 }
  | .FLT_INJSTAT => { block := .flt, off := 0x864 }
  | .FLT_FORCE => { block := .flt, off := 0x868, rw := 0xC00001FF#32 }
  | .FLT_HOST => { block := .flt, off := 0x870, wo := 0x0000000F#32 }
  | .FLT_FLAG => { block := .flt, off := 0x874, w1c := 0x00000007#32 }
  | .EVT_CTL => { block := .evt, off := 0x480, rw := 0x80000000#32 }
  | .EVT_STAT => { block := .evt, off := 0x484, w1c := 0x00003FF8#32 }
  | .CMD_ISSUE => { block := .cmd, off := 0x10, wo := 0x000000FF#32 }
  | .CMD_RESULT => { block := .cmd, off := 0x14 }
  | .CMD_CANCEL => { block := .cmd, off := 0x18, wo := 0x0000FFFF#32 }
  | .CMD_QUERY => { block := .cmd, off := 0x1c, rw := 0x0000FFFF#32 }
  | .CMD_QSTAT => { block := .cmd, off := 0x20 }
  | .CMD_STAT => { block := .cmd, off := 0x40 }
  | .CMD_SLOTS => { block := .cmd, off := 0x44 }
  | .CMD_FLAG => { block := .cmd, off := 0x48, w1c := 0x0000001F#32 }
  | .MEM_STATUS => { block := .mem, off := 0x0, reset := 0x00000004#32 }
  | .MEM_CFG => { block := .mem, off := 0x4, rw := 0x800000FF#32, reset := 0x8000000A#32 }
  | .MEM_CNT => { block := .mem, off := 0x8 }
  | .MEM_DMASTAT => { block := .mem, off := 0xc }
  | .MEM_PRETIRE => { block := .mem, off := 0x10, wo := 0x80FF00FF#32 }
  | .MEM_FLAG => { block := .mem, off := 0x14, w1c := 0x0000007F#32 }
  | .LDG_STATUS => { block := .ldg, off := 0x0 }
  | .LDG_LOG => { block := .ldg, off := 0x40 }
  | .LDG_BADBLK => { block := .ldg, off := 0x44 }
  | .LDG_FLAG => { block := .ldg, off := 0x48, w1c := 0x0000007F#32 }
  | .LDG_DUMP => { block := .ldg, off := 0x4c }
  | .LDG_RESULT => { block := .ldg, off := 0x50 }
  | .OTP_STATUS => { block := .otp, off := 0x0 }
  | .OTP_ROW => { block := .otp, off := 0x4, rw := 0x000001FF#32 }
  | .OTP_DATA => { block := .otp, off := 0x8, rw := 0xFFFFFFFF#32 }
  | .OTP_PROG => { block := .otp, off := 0xc, wo := 0x8000FF00#32 }
  | .OTP_LC => { block := .otp, off := 0x10, wo := 0x8000FF07#32 }
  | .OTP_RESULT => { block := .otp, off := 0x14 }
  | .OTP_FLAG => { block := .otp, off := 0x18, w1c := 0x0000001F#32 }
  | .OTP_SCAN => { block := .otp, off := 0x1c }
  | .WDG_CTL => { block := .wdg, off := 0x0, rw := 0x800000FF#32, reset := 0x0000000A#32 }
  | .WDG_STATUS => { block := .wdg, off := 0x4 }
  | .WDG_TOKEN => { block := .wdg, off := 0x8, wo := 0x0000FF07#32 }
  | .WDG_EDGE => { block := .wdg, off := 0xc, w1c := 0x80000000#32 }
  | .WDG_LAST => { block := .wdg, off := 0x10, w1c := 0x80000000#32 }
  | .WDG_LASTT_LO => { block := .wdg, off := 0x14 }
  | .WDG_LASTT_HI => { block := .wdg, off := 0x18 }
  | .WDG_FLAG => { block := .wdg, off := 0x1c, w1c := 0x0000001F#32 }
  | .LNK_CFG => { block := .lnk, off := 0x0, rw := 0xC0FFFF0F#32, reset := 0x00200A0F#32 }
  | .LNK_ADDR => { block := .lnk, off := 0x4 }
  | .LNK_ROOT => { block := .lnk, off := 0x8 }
  | .LNK_UID_LO => { block := .lnk, off := 0xc }
  | .LNK_UID_HI => { block := .lnk, off := 0x10 }
  | .LNK_DEFAULT => { block := .lnk, off := 0x14, rw := 0x00000FF3#32 }
  | .LNK_TRIPCTL => { block := .lnk, off := 0x18, wo := 0x80FF0000#32 }
  | .LNK_TRIPLAST => { block := .lnk, off := 0x1c }
  | .LNK_TRIPCNT => { block := .lnk, off := 0x20 }
  | .LNK_POOL => { block := .lnk, off := 0x24, rw := 0x0FFF0FFF#32, reset := 0x0FFE0001#32 }
  | .LNK_STATUS => { block := .lnk, off := 0x28 }
  | .LNK_FLAG => { block := .lnk, off := 0x2c, w1c := 0x000007FF#32 }
  | .FLW_TXADDR => { block := .flw, off := 0x800, rw := 0xFFFFFFFC#32 }
  | .FLW_TXGO => { block := .flw, off := 0x804, wo := 0xC07F01FF#32 }
  | .FLW_TXRES => { block := .flw, off := 0x808 }
  | .FLW_CFG => { block := .flw, off := 0x80c, rw := 0xFF00FFFF#32, reset := 0x080000C8#32 }
  | .FLW_EVTFWD => { block := .flw, off := 0x810, rw := 0x8000007F#32 }
  | .FLW_REM => { block := .flw, off := 0x814, rw := 0xC0000000#32, reset := 0x80000000#32 }
  | .FLW_FLAG => { block := .flw, off := 0x818, w1c := 0x0000007F#32 }
  | .FLW_STAT => { block := .flw, off := 0x81c }
  | .TIM_NOW_LO => { block := .tim, off := 0x0 }
  | .TIM_NOW_HI => { block := .tim, off := 0x4 }
  | .TIM_STATUS => { block := .tim, off := 0x8, reset := 0x00000001#32 }
  | .TIM_OFFSET => { block := .tim, off := 0xc }
  | .TIM_CFG => { block := .tim, off := 0x10, rw := 0xFFFFFF00#32, reset := 0x03E80A00#32 }
  | .TIM_SET_LO => { block := .tim, off := 0x14, rw := 0xFFFFFFFF#32 }
  | .TIM_SET_HI => { block := .tim, off := 0x18, rw := 0xFFFFFFFF#32 }
  | .TIM_SETCTL => { block := .tim, off := 0x1c, wo := 0x8000FF00#32 }
  | .TIM_MARKSTAT => { block := .tim, off := 0x30 }
  | .TIM_FLAG => { block := .tim, off := 0x34, w1c := 0x000000FF#32 }
  | .TWB_CFG => { block := .twb, off := 0x0, rw := 0xC0003F00#32, reset := 0x40000400#32 }
  | .TWB_STATUS => { block := .twb, off := 0x4 }
  | .TWB_PTR => { block := .twb, off := 0x8 }
  | .TWB_CNT => { block := .twb, off := 0xc }
  | .TWB_FLAG => { block := .twb, off := 0x10, w1c := 0x0000007F#32 }
  | .TWB_CXCFG => { block := .twb, off := 0x20, rw := 0xEF7F3F3F#32, reset := 0x40000000#32 }
  | .TWB_CXBUF => { block := .twb, off := 0x24, rw := 0xFFFFFFFC#32 }
  | .TWB_CXGO => { block := .twb, off := 0x28, wo := 0x80000000#32 }
  | .TWB_CXSTAT => { block := .twb, off := 0x2c }
  | .MON_CFG => { block := .mon, off := 0x0, rw := 0x0000FF07#32, w1s := 0x80000000#32, reset := 0x00000F00#32 }
  | .MON_STAT => { block := .mon, off := 0x4 }
  | .MON_FLAG => { block := .mon, off := 0x8, w1c := 0x0000001F#32 }
  | .XNG_CTL => { block := .xng, off := 0x0, rw := 0x00000001#32 }
  | .XNG_TAKE => { block := .xng, off := 0x4, w1c := 0x0000000F#32 }
  | .XNG_STAT => { block := .xng, off := 0x8 }
  | .XNG_FLAG => { block := .xng, off := 0xc, w1c := 0x00000003#32 }
  | .XNG_STUCKINFO => { block := .xng, off := 0x10 }
  | .PWR_CTL => { block := .pwr, off := 0x0, rw := 0x0000FFFF#32, wo := 0xC0000000#32, reset := 0x000003E8#32 }
  | .PWR_STATUS => { block := .pwr, off := 0x4 }
  | .PWR_WAKE => { block := .pwr, off := 0x8, rw := 0x0000003F#32, reset := 0x0000001F#32 }
  | .PWR_TIMER => { block := .pwr, off := 0xc, rw := 0xFFFFFFFF#32 }
  | .PWR_RETAIN => { block := .pwr, off := 0x10, rw := 0x00007FFF#32, reset := 0x0000FFFF#32 }
  | .PWR_FLAG => { block := .pwr, off := 0x14, w1c := 0x00000003#32 }

/-- The block a register lies in. -/
def Reg.block (r : Reg) : Block := r.info.block
/-- Bits that software reads and writes. -/
def Reg.rw (r : Reg) : Word := r.info.rw
/-- Bits that a write of 1 clears. -/
def Reg.w1c (r : Reg) : Word := r.info.w1c
/-- Bits that a read clears. -/
def Reg.rc (r : Reg) : Word := r.info.rc
/-- Bits that a write acts on and that read as 0. -/
def Reg.wo (r : Reg) : Word := r.info.wo
/-- The reset value of a register. [DEDUCED, log 15] -/
def Reg.reset (r : Reg) : Word := r.info.reset
/-- Address of a register (R20). -/
def Reg.addr (r : Reg) : Nat := r.info.block.base + r.info.off

/-- Where the instances of one register lie in its block: instance `i`, `j` at `base + i * s1 + j * s2`. -/
structure RegRow where
  base : Nat
  s1 : Nat
  k1 : Nat
  s2 : Nat
  k2 : Nat
  reg : Nat → Nat → Reg

/-- The instance of a row at offset `o`. -/
def RegRow.inst (t : RegRow) (o : Nat) : Option Reg :=
  let d := o - t.base
  if t.base ≤ o ∧ d / t.s1 < t.k1 ∧ d % t.s1 / t.s2 < t.k2 ∧ d % t.s1 % t.s2 = 0 then
    some (t.reg (d / t.s1) (d % t.s1 / t.s2)) else none

/-- Where the registers of block SYS lie. -/
def rowsSYS : List RegRow := [
  ⟨0x0, 4, 1, 4, 1, fun _ _ => .SYS_ID⟩,
  ⟨0x4, 4, 1, 4, 1, fun _ _ => .SYS_WINBASE⟩,
  ⟨0x8, 4, 1, 4, 1, fun _ _ => .SYS_IADDR⟩,
  ⟨0xc, 4, 1, 4, 1, fun _ _ => .SYS_IDATA⟩,
  ⟨0x10, 4, 1, 4, 1, fun _ _ => .SYS_TWSTAT⟩]

/-- Where the registers of block TPL lie. -/
def rowsTPL : List RegRow := [
  ⟨0x0, 4, 1, 4, 1, fun _ _ => .TPL_STATUS⟩,
  ⟨0x4, 4, 1, 4, 1, fun _ _ => .TPL_STAGE⟩,
  ⟨0x8, 4, 1, 4, 1, fun _ _ => .TPL_STAGELEN⟩,
  ⟨0xc, 4, 1, 4, 1, fun _ _ => .TPL_ID⟩,
  ⟨0x10, 4, 1, 4, 1, fun _ _ => .TPL_BUILD⟩,
  ⟨0x14, 4, 1, 4, 1, fun _ _ => .TPL_DOMMASK⟩,
  ⟨0x18, 4, 1, 4, 1, fun _ _ => .TPL_HOLDMAX⟩,
  ⟨0x1c, 4, 1, 4, 1, fun _ _ => .TPL_ERRDET⟩,
  ⟨0x20, 4, 1, 4, 1, fun _ _ => .TPL_SEQNUM⟩]

/-- Where the registers of block SWY lie. -/
def rowsSWY : List RegRow := [
  ⟨0x0, 0x40, 24, 0x40, 1, fun i _ => .STG_CFG i⟩,
  ⟨0x4, 0x40, 24, 0x40, 1, fun i _ => .STG_ILIM i⟩,
  ⟨0x8, 0x40, 24, 0x40, 1, fun i _ => .STG_SENSE i⟩,
  ⟨0xc, 0x40, 24, 0x40, 1, fun i _ => .STG_STATE i⟩,
  ⟨0x10, 0x40, 24, 0x40, 1, fun i _ => .STG_MEAS i⟩,
  ⟨0x14, 0x40, 24, 0x40, 1, fun i _ => .STG_TRIM i⟩,
  ⟨0x18, 0x40, 24, 0x40, 1, fun i _ => .STG_TEST i⟩,
  ⟨0x1c, 0x40, 24, 0x40, 1, fun i _ => .STG_FLAG i⟩,
  ⟨0x600, 0x20, 16, 0x20, 1, fun i _ => .XBR_MOD i⟩,
  ⟨0x604, 0x20, 16, 0x20, 1, fun i _ => .XBR_GANG i⟩,
  ⟨0x608, 0x20, 16, 0x20, 1, fun i _ => .XBR_SHARE i⟩,
  ⟨0x60c, 0x20, 16, 0x20, 1, fun i _ => .XBR_WSH i⟩,
  ⟨0x840, 0x4, 8, 0x4, 1, fun i _ => .PNT_CFG i⟩,
  ⟨0x800, 4, 1, 4, 1, fun _ _ => .SWY_STATUS⟩,
  ⟨0x804, 4, 1, 4, 1, fun _ _ => .SWY_IAGG⟩,
  ⟨0x808, 4, 1, 4, 1, fun _ _ => .SWY_FLAG⟩,
  ⟨0x80c, 4, 1, 4, 1, fun _ _ => .SWY_GANGDIFF⟩,
  ⟨0x810, 4, 1, 4, 1, fun _ _ => .SWY_PNTT⟩]

/-- Where the registers of block RAIL lie. -/
def rowsRAIL : List RegRow := [
  ⟨0x0, 0x80, 20, 0x80, 1, fun i _ => .RAIL_CTL i⟩,
  ⟨0x4, 0x80, 20, 0x80, 1, fun i _ => .RAIL_STATUS i⟩,
  ⟨0x8, 0x80, 20, 0x80, 1, fun i _ => .RAIL_VSET i⟩,
  ⟨0xc, 0x80, 20, 0x80, 1, fun i _ => .RAIL_DLY i⟩,
  ⟨0x10, 0x80, 20, 0x80, 1, fun i _ => .RAIL_ONRAMP i⟩,
  ⟨0x14, 0x80, 20, 0x80, 1, fun i _ => .RAIL_OFFRAMP i⟩,
  ⟨0x18, 0x80, 20, 0x80, 1, fun i _ => .RAIL_DIS i⟩,
  ⟨0x1c, 0x80, 20, 0x80, 1, fun i _ => .RAIL_PG i⟩,
  ⟨0x20, 0x80, 20, 0x80, 1, fun i _ => .RAIL_FLAG i⟩,
  ⟨0x24, 0x80, 20, 0x80, 1, fun i _ => .RAIL_ONTIME i⟩]

/-- Where the registers of block LPE lie. -/
def rowsLPE : List RegRow := [
  ⟨0x0, 0x100, 8, 0x100, 1, fun i _ => .LPE_STATE i⟩,
  ⟨0x4, 0x100, 8, 0x100, 1, fun i _ => .LPE_TEMPO i⟩,
  ⟨0x8, 0x100, 8, 0x100, 1, fun i _ => .LPE_LOAD i⟩,
  ⟨0xc, 0x100, 8, 0x100, 1, fun i _ => .LPE_SHED i⟩,
  ⟨0x10, 0x100, 8, 0x100, 1, fun i _ => .LPE_FLAG i⟩,
  ⟨0x20, 0x100, 8, 0x30, 4, fun e j => .LPS_CTL (4 * e + j)⟩,
  ⟨0x24, 0x100, 8, 0x30, 4, fun e j => .LPS_CFG (4 * e + j)⟩,
  ⟨0x28, 0x100, 8, 0x30, 4, fun e j => .LPS_IN (4 * e + j)⟩,
  ⟨0x2c, 0x100, 8, 0x30, 4, fun e j => .LPS_REF (4 * e + j)⟩,
  ⟨0x30, 0x100, 8, 0x30, 4, fun e j => .LPS_OUT (4 * e + j)⟩,
  ⟨0x34, 0x100, 8, 0x30, 4, fun e j => .LPS_OLIM (4 * e + j)⟩,
  ⟨0x38, 0x100, 8, 0x30, 4, fun e j => .LPS_CLOSE (4 * e + j)⟩,
  ⟨0x3c, 0x100, 8, 0x30, 4, fun e j => .LPS_MODEL (4 * e + j)⟩,
  ⟨0x40, 0x100, 8, 0x30, 4, fun e j => .LPS_MWATCH (4 * e + j)⟩,
  ⟨0x44, 0x100, 8, 0x30, 4, fun e j => .LPS_FWATCH (4 * e + j)⟩,
  ⟨0x48, 0x100, 8, 0x30, 4, fun e j => .LPS_STAT (4 * e + j)⟩,
  ⟨0x4c, 0x100, 8, 0x30, 4, fun e j => .LPS_FLAG (4 * e + j)⟩,
  ⟨0x800, 0x100, 8, 4, 60, fun e k => .COF e (k / 5) (k % 5)⟩]

/-- Where the registers of block TTB lie. -/
def rowsTTB : List RegRow := [
  ⟨0x0, 0x10, 8, 0x10, 1, fun i _ => .TTB_G_CFG i⟩,
  ⟨0x4, 0x10, 8, 0x10, 1, fun i _ => .TTB_G_CTL i⟩,
  ⟨0x8, 0x10, 8, 0x10, 1, fun i _ => .TTB_G_STATUS i⟩,
  ⟨0xc, 0x10, 8, 0x10, 1, fun i _ => .TTB_G_FLAG i⟩,
  ⟨0x800, 0x100, 8, 0x4, 64, .TTB_STEP⟩,
  ⟨0x100, 0x4, 4, 0x4, 1, fun i _ => .TTB_RST_CFG i⟩,
  ⟨0x110, 4, 1, 4, 1, fun _ _ => .TTB_RSTSTAT⟩,
  ⟨0x120, 4, 1, 4, 1, fun _ _ => .TTB_BOUT⟩,
  ⟨0x124, 4, 1, 4, 1, fun _ _ => .TTB_MINOFF⟩,
  ⟨0x128, 4, 1, 4, 1, fun _ _ => .TTB_BSTAT⟩,
  ⟨0x130, 4, 1, 4, 1, fun _ _ => .TTB_FIRST⟩,
  ⟨0x134, 4, 1, 4, 1, fun _ _ => .TTB_FIRSTT_LO⟩,
  ⟨0x138, 4, 1, 4, 1, fun _ _ => .TTB_FIRSTT_HI⟩]

/-- Where the registers of block SUP lie. -/
def rowsSUP : List RegRow := [
  ⟨0x0, 0x20, 20, 0x20, 1, fun i _ => .SUP_WIN i⟩,
  ⟨0x4, 0x20, 20, 0x20, 1, fun i _ => .SUP_CFG i⟩,
  ⟨0x8, 0x20, 20, 0x20, 1, fun i _ => .SUP_STATUS i⟩,
  ⟨0xc, 0x20, 20, 0x20, 1, fun i _ => .SUP_FLAG i⟩]

/-- Where the registers of block SVY lie. -/
def rowsSVY : List RegRow := [
  ⟨0x0, 0x100, 3, 0x100, 1, fun i _ => .SVY_CV_CTL i⟩,
  ⟨0x4, 0x100, 3, 0x100, 1, fun i _ => .SVY_CV_MASK i⟩,
  ⟨0x8, 0x100, 3, 0x100, 1, fun i _ => .SVY_CV_DATA i⟩,
  ⟨0xc, 0x100, 3, 0x100, 1, fun i _ => .SVY_CV_STAT i⟩,
  ⟨0x10, 0x100, 3, 0x100, 1, fun i _ => .SVY_CV_DMA_BASE i⟩,
  ⟨0x14, 0x100, 3, 0x100, 1, fun i _ => .SVY_CV_DMA_CFG i⟩,
  ⟨0x18, 0x100, 3, 0x100, 1, fun i _ => .SVY_CV_DMA_PTR i⟩,
  ⟨0x1c, 0x100, 3, 0x100, 1, fun i _ => .SVY_CV_FLAG i⟩,
  ⟨0x20, 0x100, 3, 0x8, 4, .SVY_CV_SL_OG⟩,
  ⟨0x24, 0x100, 3, 0x8, 4, .SVY_CV_SL_SK⟩,
  ⟨0x80, 0x100, 3, 0x4, 32, .SVY_CV_TAP⟩,
  ⟨0x400, 4, 1, 4, 1, fun _ _ => .SVY_TRIG⟩,
  ⟨0x404, 4, 1, 4, 1, fun _ _ => .SVY_TSTAMP_LO⟩,
  ⟨0x408, 4, 1, 4, 1, fun _ _ => .SVY_TSTAMP_HI⟩,
  ⟨0x40c, 4, 1, 4, 1, fun _ _ => .SVY_TSNTYPE⟩,
  ⟨0x410, 4, 1, 4, 1, fun _ _ => .SVY_STATUS⟩,
  ⟨0x414, 4, 1, 4, 1, fun _ _ => .SVY_FLAG⟩]

/-- Where the registers of block BKP lie. -/
def rowsBKP : List RegRow := [
  ⟨0x0, 4, 1, 4, 1, fun _ _ => .BKP_STATUS⟩,
  ⟨0x4, 4, 1, 4, 1, fun _ _ => .BKP_PATH⟩,
  ⟨0x8, 4, 1, 4, 1, fun _ _ => .BKP_QUAL⟩,
  ⟨0xc, 4, 1, 4, 1, fun _ _ => .BKP_COUNT⟩,
  ⟨0x10, 4, 1, 4, 1, fun _ _ => .BKP_BATCFG⟩,
  ⟨0x14, 4, 1, 4, 1, fun _ _ => .BKP_CHG⟩,
  ⟨0x18, 4, 1, 4, 1, fun _ _ => .BKP_CHGLIM⟩,
  ⟨0x1c, 4, 1, 4, 1, fun _ _ => .BKP_VINREG⟩,
  ⟨0x20, 4, 1, 4, 1, fun _ _ => .BKP_TEMP⟩,
  ⟨0x24, 4, 1, 4, 1, fun _ _ => .BKP_TIMER⟩,
  ⟨0x28, 4, 1, 4, 1, fun _ _ => .BKP_WDT⟩,
  ⟨0x2c, 4, 1, 4, 1, fun _ _ => .BKP_SHIP⟩,
  ⟨0x30, 4, 1, 4, 1, fun _ _ => .BKP_BTN⟩,
  ⟨0x34, 4, 1, 4, 1, fun _ _ => .BKP_FLAG⟩,
  ⟨0x38, 4, 1, 4, 1, fun _ _ => .BKP_MEAS⟩,
  ⟨0x3c, 4, 1, 4, 1, fun _ _ => .BKP_SHUNT⟩]

/-- Where the registers of block GAU lie. -/
def rowsGAU : List RegRow := [
  ⟨0x0, 4, 1, 4, 1, fun _ _ => .GAU_STATUS⟩,
  ⟨0x4, 4, 1, 4, 1, fun _ _ => .GAU_SOC⟩,
  ⟨0x8, 4, 1, 4, 1, fun _ _ => .GAU_ACC_LO⟩,
  ⟨0xc, 4, 1, 4, 1, fun _ _ => .GAU_ACC_HI⟩,
  ⟨0x10, 4, 1, 4, 1, fun _ _ => .GAU_QUSE⟩,
  ⟨0x14, 4, 1, 4, 1, fun _ _ => .GAU_DESIGN⟩,
  ⟨0x18, 4, 1, 4, 1, fun _ _ => .GAU_CFG⟩,
  ⟨0x1c, 4, 1, 4, 1, fun _ _ => .GAU_DRIFT⟩,
  ⟨0x20, 4, 1, 4, 1, fun _ _ => .GAU_CYCLES⟩,
  ⟨0x24, 4, 1, 4, 1, fun _ _ => .GAU_THRU⟩,
  ⟨0x28, 4, 1, 4, 1, fun _ _ => .GAU_AGE⟩,
  ⟨0x2c, 4, 1, 4, 1, fun _ _ => .GAU_MEAS⟩,
  ⟨0x30, 4, 1, 4, 1, fun _ _ => .GAU_CTL⟩,
  ⟨0x34, 4, 1, 4, 1, fun _ _ => .GAU_FLAG⟩]

/-- Where the registers of block POL lie. -/
def rowsPOL : List RegRow := [
  ⟨0x100, 0x10, 20, 0x10, 1, fun i _ => .POL_R_PHASE i⟩,
  ⟨0x104, 0x10, 20, 0x10, 1, fun i _ => .POL_R_DER i⟩,
  ⟨0x108, 0x10, 20, 0x10, 1, fun i _ => .POL_R_CFG i⟩,
  ⟨0x10c, 0x10, 20, 0x10, 1, fun i _ => .POL_R_STATE i⟩,
  ⟨0x0, 4, 1, 4, 1, fun _ _ => .POL_LOCK⟩,
  ⟨0x4, 4, 1, 4, 1, fun _ _ => .POL_STATUS⟩,
  ⟨0x8, 4, 1, 4, 1, fun _ _ => .POL_RIDE⟩,
  ⟨0xc, 4, 1, 4, 1, fun _ _ => .POL_RIDEPRED⟩,
  ⟨0x10, 4, 1, 4, 1, fun _ _ => .POL_RIDESHED⟩,
  ⟨0x14, 4, 1, 4, 1, fun _ _ => .POL_FLAG⟩]

/-- Where the registers of block FLT lie. -/
def rowsFLT : List RegRow := [
  ⟨0x0, 0x8, 256, 0x8, 1, fun i _ => .FLT_CFG i⟩,
  ⟨0x4, 0x8, 256, 0x8, 1, fun i _ => .FLT_TGT i⟩,
  ⟨0x800, 0x4, 8, 0x4, 1, fun i _ => .FLT_STAT i⟩,
  ⟨0x820, 0x4, 8, 0x4, 1, fun i _ => .FLT_LIVE i⟩,
  ⟨0x900, 0x4, 32, 0x4, 1, fun i _ => .FLT_CAUSE i⟩,
  ⟨0xa00, 0x4, 128, 0x4, 1, fun i _ => .FLT_CNT i⟩,
  ⟨0x840, 4, 1, 4, 1, fun _ _ => .FLT_SUMMARY⟩,
  ⟨0x844, 4, 1, 4, 1, fun _ _ => .FLT_CTL⟩,
  ⟨0x848, 4, 1, 4, 1, fun _ _ => .FLT_FIRST⟩,
  ⟨0x84c, 4, 1, 4, 1, fun _ _ => .FLT_FIRSTT_LO⟩,
  ⟨0x850, 4, 1, 4, 1, fun _ _ => .FLT_FIRSTT_HI⟩,
  ⟨0x860, 4, 1, 4, 1, fun _ _ => .FLT_INJ⟩,
  ⟨0x864, 4, 1, 4, 1, fun _ _ => .FLT_INJSTAT⟩,
  ⟨0x868, 4, 1, 4, 1, fun _ _ => .FLT_FORCE⟩,
  ⟨0x870, 4, 1, 4, 1, fun _ _ => .FLT_HOST⟩,
  ⟨0x874, 4, 1, 4, 1, fun _ _ => .FLT_FLAG⟩]

/-- Where the registers of block EVT lie. -/
def rowsEVT : List RegRow := [
  ⟨0x0, 0x4, 256, 0x4, 1, fun i _ => .EVT_CFG i⟩,
  ⟨0x400, 0x4, 8, 0x4, 1, fun i _ => .EVT_EN i⟩,
  ⟨0x420, 0x4, 8, 0x4, 1, fun i _ => .EVT_PEND i⟩,
  ⟨0x440, 0x4, 8, 0x4, 1, fun i _ => .EVT_LIVE i⟩,
  ⟨0x460, 0x4, 8, 0x4, 1, fun i _ => .EVT_STORM i⟩,
  ⟨0x500, 0x40, 3, 0x40, 1, fun i _ => .EVT_QBASE i⟩,
  ⟨0x504, 0x40, 3, 0x40, 1, fun i _ => .EVT_QSIZE i⟩,
  ⟨0x508, 0x40, 3, 0x40, 1, fun i _ => .EVT_QPTR i⟩,
  ⟨0x50c, 0x40, 3, 0x40, 1, fun i _ => .EVT_QTAKE i⟩,
  ⟨0x510, 0x40, 3, 0x40, 1, fun i _ => .EVT_QEOI i⟩,
  ⟨0x514, 0x40, 3, 0x40, 1, fun i _ => .EVT_QRUN i⟩,
  ⟨0x518, 0x40, 3, 0x40, 1, fun i _ => .EVT_QDROP i⟩,
  ⟨0x520, 0x40, 3, 0x4, 4, .EVT_QREC⟩,
  ⟨0x480, 4, 1, 4, 1, fun _ _ => .EVT_CTL⟩,
  ⟨0x484, 4, 1, 4, 1, fun _ _ => .EVT_STAT⟩]

/-- Where the registers of block CMD lie. -/
def rowsCMD : List RegRow := [
  ⟨0x0, 0x4, 4, 0x4, 1, fun i _ => .CMD_PARAM i⟩,
  ⟨0x30, 0x4, 4, 0x4, 1, fun i _ => .CMD_LANE i⟩,
  ⟨0x10, 4, 1, 4, 1, fun _ _ => .CMD_ISSUE⟩,
  ⟨0x14, 4, 1, 4, 1, fun _ _ => .CMD_RESULT⟩,
  ⟨0x18, 4, 1, 4, 1, fun _ _ => .CMD_CANCEL⟩,
  ⟨0x1c, 4, 1, 4, 1, fun _ _ => .CMD_QUERY⟩,
  ⟨0x20, 4, 1, 4, 1, fun _ _ => .CMD_QSTAT⟩,
  ⟨0x40, 4, 1, 4, 1, fun _ _ => .CMD_STAT⟩,
  ⟨0x44, 4, 1, 4, 1, fun _ _ => .CMD_SLOTS⟩,
  ⟨0x48, 4, 1, 4, 1, fun _ _ => .CMD_FLAG⟩]

/-- Where the registers of block MEM lie. -/
def rowsMEM : List RegRow := [
  ⟨0x20, 0x4, 4, 0x4, 1, fun i _ => .MEM_PMAP i⟩,
  ⟨0x100, 0x8, 32, 0x8, 1, fun i _ => .MEM_LOG_ADDR i⟩,
  ⟨0x104, 0x8, 32, 0x8, 1, fun i _ => .MEM_LOG_INFO i⟩,
  ⟨0x0, 4, 1, 4, 1, fun _ _ => .MEM_STATUS⟩,
  ⟨0x4, 4, 1, 4, 1, fun _ _ => .MEM_CFG⟩,
  ⟨0x8, 4, 1, 4, 1, fun _ _ => .MEM_CNT⟩,
  ⟨0xc, 4, 1, 4, 1, fun _ _ => .MEM_DMASTAT⟩,
  ⟨0x10, 4, 1, 4, 1, fun _ _ => .MEM_PRETIRE⟩,
  ⟨0x14, 4, 1, 4, 1, fun _ _ => .MEM_FLAG⟩]

/-- Where the registers of block LDG lie. -/
def rowsLDG : List RegRow := [
  ⟨0x10, 0x8, 5, 0x8, 1, fun i _ => .LDG_R_STAT i⟩,
  ⟨0x14, 0x8, 5, 0x8, 1, fun i _ => .LDG_R_SEQ i⟩,
  ⟨0x0, 4, 1, 4, 1, fun _ _ => .LDG_STATUS⟩,
  ⟨0x40, 4, 1, 4, 1, fun _ _ => .LDG_LOG⟩,
  ⟨0x44, 4, 1, 4, 1, fun _ _ => .LDG_BADBLK⟩,
  ⟨0x48, 4, 1, 4, 1, fun _ _ => .LDG_FLAG⟩,
  ⟨0x4c, 4, 1, 4, 1, fun _ _ => .LDG_DUMP⟩,
  ⟨0x50, 4, 1, 4, 1, fun _ _ => .LDG_RESULT⟩]

/-- Where the registers of block OTP lie. -/
def rowsOTP : List RegRow := [
  ⟨0x40, 0x4, 16, 0x4, 1, fun i _ => .OTP_REDIR i⟩,
  ⟨0x0, 4, 1, 4, 1, fun _ _ => .OTP_STATUS⟩,
  ⟨0x4, 4, 1, 4, 1, fun _ _ => .OTP_ROW⟩,
  ⟨0x8, 4, 1, 4, 1, fun _ _ => .OTP_DATA⟩,
  ⟨0xc, 4, 1, 4, 1, fun _ _ => .OTP_PROG⟩,
  ⟨0x10, 4, 1, 4, 1, fun _ _ => .OTP_LC⟩,
  ⟨0x14, 4, 1, 4, 1, fun _ _ => .OTP_RESULT⟩,
  ⟨0x18, 4, 1, 4, 1, fun _ _ => .OTP_FLAG⟩,
  ⟨0x1c, 4, 1, 4, 1, fun _ _ => .OTP_SCAN⟩]

/-- Where the registers of block WDG lie. -/
def rowsWDG : List RegRow := [
  ⟨0x40, 0x8, 8, 0x8, 1, fun i _ => .WDG_T_CFG i⟩,
  ⟨0x44, 0x8, 8, 0x8, 1, fun i _ => .WDG_T_STAT i⟩,
  ⟨0x0, 4, 1, 4, 1, fun _ _ => .WDG_CTL⟩,
  ⟨0x4, 4, 1, 4, 1, fun _ _ => .WDG_STATUS⟩,
  ⟨0x8, 4, 1, 4, 1, fun _ _ => .WDG_TOKEN⟩,
  ⟨0xc, 4, 1, 4, 1, fun _ _ => .WDG_EDGE⟩,
  ⟨0x10, 4, 1, 4, 1, fun _ _ => .WDG_LAST⟩,
  ⟨0x14, 4, 1, 4, 1, fun _ _ => .WDG_LASTT_LO⟩,
  ⟨0x18, 4, 1, 4, 1, fun _ _ => .WDG_LASTT_HI⟩,
  ⟨0x1c, 4, 1, 4, 1, fun _ _ => .WDG_FLAG⟩]

/-- Where the registers of block LNK lie. -/
def rowsLNK : List RegRow := [
  ⟨0x100, 0x40, 4, 0x40, 1, fun i _ => .LNK_P_STATE i⟩,
  ⟨0x104, 0x40, 4, 0x40, 1, fun i _ => .LNK_P_CNT0 i⟩,
  ⟨0x108, 0x40, 4, 0x40, 1, fun i _ => .LNK_P_CNT1 i⟩,
  ⟨0x10c, 0x40, 4, 0x40, 1, fun i _ => .LNK_P_CNT2 i⟩,
  ⟨0x110, 0x40, 4, 0x40, 1, fun i _ => .LNK_P_CFG i⟩,
  ⟨0x800, 0x8, 64, 0x8, 1, fun i _ => .LNK_RT_A i⟩,
  ⟨0x804, 0x8, 64, 0x8, 1, fun i _ => .LNK_RT_B i⟩,
  ⟨0x0, 4, 1, 4, 1, fun _ _ => .LNK_CFG⟩,
  ⟨0x4, 4, 1, 4, 1, fun _ _ => .LNK_ADDR⟩,
  ⟨0x8, 4, 1, 4, 1, fun _ _ => .LNK_ROOT⟩,
  ⟨0xc, 4, 1, 4, 1, fun _ _ => .LNK_UID_LO⟩,
  ⟨0x10, 4, 1, 4, 1, fun _ _ => .LNK_UID_HI⟩,
  ⟨0x14, 4, 1, 4, 1, fun _ _ => .LNK_DEFAULT⟩,
  ⟨0x18, 4, 1, 4, 1, fun _ _ => .LNK_TRIPCTL⟩,
  ⟨0x1c, 4, 1, 4, 1, fun _ _ => .LNK_TRIPLAST⟩,
  ⟨0x20, 4, 1, 4, 1, fun _ _ => .LNK_TRIPCNT⟩,
  ⟨0x24, 4, 1, 4, 1, fun _ _ => .LNK_POOL⟩,
  ⟨0x28, 4, 1, 4, 1, fun _ _ => .LNK_STATUS⟩,
  ⟨0x2c, 4, 1, 4, 1, fun _ _ => .LNK_FLAG⟩]

/-- Where the registers of block FLW lie. -/
def rowsFLW : List RegRow := [
  ⟨0x0, 0x10, 128, 0x10, 1, fun i _ => .FLW_F_CFG i⟩,
  ⟨0x4, 0x10, 128, 0x10, 1, fun i _ => .FLW_F_RXBASE i⟩,
  ⟨0x8, 0x10, 128, 0x10, 1, fun i _ => .FLW_F_SEQ i⟩,
  ⟨0xc, 0x10, 128, 0x10, 1, fun i _ => .FLW_F_RX i⟩,
  ⟨0x800, 4, 1, 4, 1, fun _ _ => .FLW_TXADDR⟩,
  ⟨0x804, 4, 1, 4, 1, fun _ _ => .FLW_TXGO⟩,
  ⟨0x808, 4, 1, 4, 1, fun _ _ => .FLW_TXRES⟩,
  ⟨0x80c, 4, 1, 4, 1, fun _ _ => .FLW_CFG⟩,
  ⟨0x810, 4, 1, 4, 1, fun _ _ => .FLW_EVTFWD⟩,
  ⟨0x814, 4, 1, 4, 1, fun _ _ => .FLW_REM⟩,
  ⟨0x818, 4, 1, 4, 1, fun _ _ => .FLW_FLAG⟩,
  ⟨0x81c, 4, 1, 4, 1, fun _ _ => .FLW_STAT⟩]

/-- Where the registers of block TIM lie. -/
def rowsTIM : List RegRow := [
  ⟨0x20, 0x4, 4, 0x4, 1, fun i _ => .TIM_DELAY i⟩,
  ⟨0x400, 0x4, 768, 0x4, 1, fun i _ => .TIM_BANK i⟩,
  ⟨0x0, 4, 1, 4, 1, fun _ _ => .TIM_NOW_LO⟩,
  ⟨0x4, 4, 1, 4, 1, fun _ _ => .TIM_NOW_HI⟩,
  ⟨0x8, 4, 1, 4, 1, fun _ _ => .TIM_STATUS⟩,
  ⟨0xc, 4, 1, 4, 1, fun _ _ => .TIM_OFFSET⟩,
  ⟨0x10, 4, 1, 4, 1, fun _ _ => .TIM_CFG⟩,
  ⟨0x14, 4, 1, 4, 1, fun _ _ => .TIM_SET_LO⟩,
  ⟨0x18, 4, 1, 4, 1, fun _ _ => .TIM_SET_HI⟩,
  ⟨0x1c, 4, 1, 4, 1, fun _ _ => .TIM_SETCTL⟩,
  ⟨0x30, 4, 1, 4, 1, fun _ _ => .TIM_MARKSTAT⟩,
  ⟨0x34, 4, 1, 4, 1, fun _ _ => .TIM_FLAG⟩]

/-- Where the registers of block TWB lie. -/
def rowsTWB : List RegRow := [
  ⟨0x0, 4, 1, 4, 1, fun _ _ => .TWB_CFG⟩,
  ⟨0x4, 4, 1, 4, 1, fun _ _ => .TWB_STATUS⟩,
  ⟨0x8, 4, 1, 4, 1, fun _ _ => .TWB_PTR⟩,
  ⟨0xc, 4, 1, 4, 1, fun _ _ => .TWB_CNT⟩,
  ⟨0x10, 4, 1, 4, 1, fun _ _ => .TWB_FLAG⟩,
  ⟨0x20, 4, 1, 4, 1, fun _ _ => .TWB_CXCFG⟩,
  ⟨0x24, 4, 1, 4, 1, fun _ _ => .TWB_CXBUF⟩,
  ⟨0x28, 4, 1, 4, 1, fun _ _ => .TWB_CXGO⟩,
  ⟨0x2c, 4, 1, 4, 1, fun _ _ => .TWB_CXSTAT⟩]

/-- Where the registers of block MON lie. -/
def rowsMON : List RegRow := [
  ⟨0x0, 4, 1, 4, 1, fun _ _ => .MON_CFG⟩,
  ⟨0x4, 4, 1, 4, 1, fun _ _ => .MON_STAT⟩,
  ⟨0x8, 4, 1, 4, 1, fun _ _ => .MON_FLAG⟩]

/-- Where the registers of block XNG lie. -/
def rowsXNG : List RegRow := [
  ⟨0x0, 4, 1, 4, 1, fun _ _ => .XNG_CTL⟩,
  ⟨0x4, 4, 1, 4, 1, fun _ _ => .XNG_TAKE⟩,
  ⟨0x8, 4, 1, 4, 1, fun _ _ => .XNG_STAT⟩,
  ⟨0xc, 4, 1, 4, 1, fun _ _ => .XNG_FLAG⟩,
  ⟨0x10, 4, 1, 4, 1, fun _ _ => .XNG_STUCKINFO⟩]

/-- Where the registers of block PWR lie. -/
def rowsPWR : List RegRow := [
  ⟨0x0, 4, 1, 4, 1, fun _ _ => .PWR_CTL⟩,
  ⟨0x4, 4, 1, 4, 1, fun _ _ => .PWR_STATUS⟩,
  ⟨0x8, 4, 1, 4, 1, fun _ _ => .PWR_WAKE⟩,
  ⟨0xc, 4, 1, 4, 1, fun _ _ => .PWR_TIMER⟩,
  ⟨0x10, 4, 1, 4, 1, fun _ _ => .PWR_RETAIN⟩,
  ⟨0x14, 4, 1, 4, 1, fun _ _ => .PWR_FLAG⟩]

/-- Where the registers of a block lie. -/
def Block.rows : Block → List RegRow
  | .sys => rowsSYS
  | .tpl => rowsTPL
  | .swy => rowsSWY
  | .rail => rowsRAIL
  | .lpe => rowsLPE
  | .ttb => rowsTTB
  | .sup => rowsSUP
  | .svy => rowsSVY
  | .bkp => rowsBKP
  | .gau => rowsGAU
  | .pol => rowsPOL
  | .flt => rowsFLT
  | .evt => rowsEVT
  | .cmd => rowsCMD
  | .mem => rowsMEM
  | .ldg => rowsLDG
  | .otp => rowsOTP
  | .wdg => rowsWDG
  | .lnk => rowsLNK
  | .flw => rowsFLW
  | .tim => rowsTIM
  | .twb => rowsTWB
  | .mon => rowsMON
  | .xng => rowsXNG
  | .pwr => rowsPWR

/-- The block an address lies in, if any. -/
def Block.ofAddr (a : Nat) : Option Block :=
  if 0x40000000 ≤ a ∧ a < 0x40019000 then Block.ofIndex ((a - 0x40000000) / 0x1000) else none

/-- The register at a word address, `none` at an unassigned offset of a block. -/
def Reg.ofAddr (a : Nat) : Option Reg :=
  (Block.ofAddr a).bind fun b => b.rows.findSome? (fun t => t.inst (a % 0x1000))

end Sys2Proof.Machine
end

