-- ==== Sys2Proof/Machine/State.lean ====
section
/-!
DEFINITION. The state of the part as plain data. Registers stand in one table, keyed by `Reg`; a register not in
the table holds its reset value. The rest is state the spec gives the part without a register: the contents of
queues and lanes, what is in progress, and what the power-off retention keeps.
-/

namespace Sys2Proof.Machine

/-- Why a step stops with a fault: nothing in this model does (every command of the table has an effect). [DESIGN CHOICE, log
9] -/
inductive Fault where
  /-- Raised by no command. Safe: the part would stop where the spec lets it go on. -/
  | unreachable
deriving DecidableEq, Repr

/-- Why a command has no meaning. [DESIGN CHOICE, log 9] -/
inductive Refusal where
  /-- Raised by `exec` for a command that has no meaning yet. Safe: nothing is claimed of such a command. -/
  | notModelled (mnemonic : String)
deriving DecidableEq, Repr

/-- A time stamp: station time, or local 4 ns ticks while LINK is unpowered (R156). -/
structure Stamp where
  time : Time := 0#64
  isLocal : Bool := false
deriving DecidableEq, Repr

/-! ### Clocks and pins -/

/-- The free-running counters. -/
structure Clock where
  /-- 4 ns ticks since the last device reset (R156) -/
  localTicks : Time := 0#64
  /-- station time in 4 ns ticks (R389) -/
  station : Time := 0#64
  /-- the keeper oscillator's time in 4 ns ticks since the first power-on (R203, R219) -/
  keeper : Nat := 0
  /-- number of values taken from the part's open choices so far: the model's own field -/
  drawn : Nat := 0
deriving DecidableEq, Repr

/-- Levels of the pins the part reads or drives that no register holds. [DESIGN CHOICE, log 10, 164] -/
structure Pins where
  /-- TEST_EN is high (R253) -/
  testEn : Bool := false
  /-- BTN_N is low, debounced (R193) -/
  btnLow : Bool := false
  /-- the long-press timer runs, since a falling edge of BTN_N (R195) -/
  pressTimer : Bool := false
  /-- FAULT_N is driven low (R245) -/
  faultN : Bool := false
  /-- the 20 µs minimum of FAULT_N is running (R245) -/
  faultNMin : Bool := false
  /-- IRQ_N is driven low, and the interrupt line of the management core (R266) -/
  irqN : Bool := false
  coreIrq : Bool := false
  /-- REFCLK carries a clock (R17) -/
  refclk : Bool := false
  /-- points driven closed, PNT00 to PNT07 (R77) -/
  closed : List Nat := []
  /-- every gate and LDO is held off by a reset, a drain or a long press (R154, R194, R344) -/
  gatesOff : Bool := true
  /-- code of the resistor at ADDR (Table 19.1) -/
  addrStrap : Nat := 0
deriving DecidableEq, Repr

/-! ### Events -/

/-- Hidden state of one event source (R261, R267, R268, R262). -/
structure EvSrc where
  /-- INFO and CODE of the latest rise of its condition (R258) -/
  lastInfo : Nat := 0
  lastCode : Nat := 0
  /-- occurrences counted and not queued -/
  waiting : Nat := 0
  rise : Bool := false
  fall : Bool := false
  sw : Bool := false
  first : Stamp := {}
  info : Nat := 0
  code : Nat := 0
  /-- queue and slot of the record queued and not yet taken -/
  queued : Option (Nat × Nat) := none
  /-- the open storm window and its re-queues -/
  window : Option Nat := none
  /-- occurrences sensed during FREEZE and held apart -/
  held : Nat := 0
  heldRise : Bool := false
  heldFall : Bool := false
  heldFirst : Stamp := {}
  heldInfo : Nat := 0
  heldCode : Nat := 0
deriving DecidableEq, Repr

/-- A MESSAGE produced and not yet queued (R263). -/
structure EvMsg where
  src : Nat
  info : Nat
  code : Nat
  count : Nat := 1
  /-- made by a write to EVT_PENDw (R261) -/
  sw : Bool := false
  stamp : Stamp
deriving DecidableEq, Repr

/-- A GAP record waiting to be written (R273). -/
structure Gap where
  stream : Nat
  index : Nat
  count : Nat
  queue : Nat
deriving DecidableEq, Repr

/-- The event controller beside its registers. [DESIGN CHOICE, log 14] -/
structure EvX where
  srcs : Tab Nat EvSrc := []
  /-- messages in production order -/
  msgs : List EvMsg := []
  /-- pending GAP records in the order of their first drops -/
  gaps : List Gap := []
  /-- priority stack of each queue, top first: priority and source -/
  prios : Tab Nat (List (Nat × Nat)) := []
  /-- source of each record in a queue, oldest first: the per-source counts in AON (R274, R275) -/
  order : Tab Nat (List Nat) := []
  /-- records written to each queue since AON power-on, wrapping (Table 18.3) -/
  written : Tab Nat Nat := []
deriving DecidableEq, Repr

/-! ### Commands -/

/-- State of a command slot (R283, R286, R287). -/
inductive SlotSt where
  | free | waiting | running
  /-- complete, its record not queued yet: outstanding still (R278) -/
  | ended
  | done | lostWaiting | lostRunning
deriving DecidableEq, Repr

/-- One command slot. -/
structure CmdSlot where
  gen : Nat := 0
  st : SlotSt := .free
  op : Nat := 0
  p0 : Word := 0#32
  p1 : Word := 0#32
  p2 : Word := 0#32
  p3 : Word := 0#32
  /-- staged area latched at acceptance (R58) -/
  stage : Word := 0#32
  stageLen : Nat := 0
  /-- groups and rails that were not OFF at acceptance (R61, R65) -/
  groupsUp : List Nat := []
  railsLive : List Nat := []
  /-- marked by a cancel (R285) -/
  cancelled : Bool := false
  /-- phase the running command has reached -/
  phase : Nat := 0
  code : Nat := 0
  detail : Nat := 0
deriving DecidableEq, Repr

/-- The banked registers of one interface (R277), and its holding registers (R222, R395). -/
structure CmdBank where
  p0 : Word := 0#32
  p1 : Word := 0#32
  p2 : Word := 0#32
  p3 : Word := 0#32
  result : Word := 0#32
  query : Word := 0#32
  /-- upper word of ACC at its last read of GAU_ACC_LO -/
  accHi : Word := 0#32
  /-- upper word of station time at its last read of TIM_NOW_LO -/
  timHi : Word := 0#32
  /-- FLW_TXADDR and FLW_TXRES (R380) -/
  txAddr : Word := 0#32
  txRes : Word := 0#32
deriving DecidableEq, Repr

/-- The mailbox beside its registers. [DESIGN CHOICE, log 14] -/
structure CmdX where
  slots : Tab Nat CmdSlot := []
  /-- slots waiting, in order of acceptance -/
  waiting : List Nat := []
  /-- slot of the command running in each lane -/
  running : Tab Nat Nat := []
  /-- slot allocated last (R280) -/
  lastSlot : Nat := 31
  banks : Tab Iface CmdBank := []
deriving DecidableEq, Repr

/-! ### Trackplan -/

/-- An OWNER record of the running stream (Table 02.4); sets are bit masks. -/
structure Owner where
  dom : Nat
  safe : Bool
  rails : Nat
  stages : Nat
  slots : Nat
  groups : Nat
  faults : Nat
deriving DecidableEq, Repr

/-- A partial reload in progress (R60 to R71). -/
structure Reload where
  slot : Nat
  dom : Nat
  restart : Bool
  safe : Bool
  /-- the staged stream as it was validated -/
  staged : List Byte := []
  /-- TPL_HOLDMAX as it stood when the reload began (R73), in 10 µs units -/
  holdmax : Nat := 200
  /-- groups of the domain not OFF at acceptance (R65) -/
  groupsUp : List Nat
  /-- its loops are open: policy on the rails of the domain is suspended (R66) -/
  opened : Bool := false
  /-- groups a SAFE reload has still to start again (R65), rising -/
  restarts : List Nat := []
  /-- abort code once aborted (R68) -/
  abort : Option Nat := none
  /-- off requests of a shutdown that waits for the restore (R70): groups and ungrouped rails -/
  offGroups : List Nat := []
  offRails : List Nat := []
  /-- the Class B sources whose off requests these are (R243) -/
  offSrcs : List Nat := []
deriving DecidableEq, Repr

/-- A request to a group held during a reload (R66, R146): the group's domain, the group, its direction (true: on). -/
structure HeldReq where
  dom : Nat
  grp : Nat
  on : Bool
deriving DecidableEq, Repr

/-- The trackplan machinery beside its registers. [DESIGN CHOICE, log 14] -/
structure TpX where
  /-- the running stream, empty when there is none -/
  stream : List Byte := []
  owners : List Owner := []
  /-- the timetable has been released (R54) -/
  released : Bool := false
  /-- the reload under way, or the first accepted one that waits for the config lane (R66, R67) -/
  reload : Option Reload := none
  /-- requests held under R66, in the order received -/
  held : List HeldReq := []
deriving DecidableEq, Repr

/-! ### Switchyard -/

/-- Hidden state of one stage. [DESIGN CHOICE, log 40] -/
structure StageX where
  /-- the stage waits for its point to settle before its test (R77) -/
  settling : Bool := false
  /-- it has left BOOT and waits for the rest of its gang (R90) -/
  booted : Bool := false
  /-- a LEAVE of this stage is a policy park, not a re-gang shed -/
  parking : Bool := false
  /-- its share has reached 0 in LEAVE (R91) -/
  drained : Bool := false
  /-- the low side is on -/
  lowSide : Bool := false
  /-- microseconds of its share ramp that have passed (R90) -/
  shareUs : Nat := 0
  /-- its trim before the register's rounding (R92) -/
  trim : Rat := 0
  /-- length of its last on-time in ns (R79) -/
  ton : Rat := 0
deriving DecidableEq, Repr

/-- A re-gang in progress (R96). -/
structure Regang where
  slot : Nat
  stage : Nat
  source : Nat
  target : Nat
  /-- the shed part of a move is done -/
  shedDone : Bool := false
  /-- a happening on the target rail has removed the add: the code it ends with (Table 03.9) -/
  noAdd : Option Nat := none
deriving DecidableEq, Repr

/-- The switchyard beside its registers. [DESIGN CHOICE, log 14] -/
structure SwX where
  stages : Tab Nat StageX := []
  /-- stage that took the last trigger of each rail (R80) -/
  last : Tab Nat Nat := []
  /-- a trigger waits for a stage that can take it (R80) -/
  waiting : List Nat := []
  /-- amplitude of the injected ramp of each rail over its last on-time, in µV (R81) -/
  ripple : Tab Nat Rat := []
  regang : Option Regang := none
  /-- rails on which watershed balancing runs, and stages whose trim stands at its limit (R224) -/
  wsOn : List Nat := []
  wsLimit : List Nat := []
deriving DecidableEq, Repr

/-! ### Loop engines -/

/-- State s1, s2 of a section: 40-bit codes of 28 fraction bits (Table 04.2). -/
structure Section where
  s1 : Int := 0
  s2 : Int := 0
deriving DecidableEq, Repr

/-- A sample in progress: the feedback and reference it took (R102). -/
structure Sample where
  fb : Rat
  ref : Rat
  /-- 1 µs tick of its trigger: the order of service of R108 -/
  tick : Nat
deriving DecidableEq, Repr

/-- The settings of a slot that a write changes from its next trigger on (R117): OLIM, CLOSE, MWATCH, FWATCH and CTL.FWF. -/
structure LoopSet where
  olim : Word := 0#32
  close : Word := 0#32
  mwatch : Word := 0#32
  fwatch : Word := 0#32
  fwf : Bool := false
deriving DecidableEq, Repr

/-- Hidden state of one loop slot. -/
structure LoopX where
  /-- the settings as its last trigger took them -/
  act : LoopSet := {}
  /-- a halved rate code that waits for a trigger on its pattern (R113) -/
  shedTo : Option Nat := none
  sample : Option Sample := none
  /-- opened by a host request (R119) -/
  hostOpen : Bool := false
  /-- last written output, a code of 28 fraction bits -/
  out : Int := 0
  /-- the close slew acts (R120) -/
  slewing : Bool := false
  /-- the settle condition of R123 still holds -/
  settling : Bool := true
  /-- |REF − FB| of the last sample exceeded FLIM (R124) -/
  exceeded : Bool := false
  /-- v and il of the previous sample, and the load estimate of the model watch (R124) -/
  prev : Option (Rat × Rat) := none
  iload : Option Rat := none
  /-- local time of the last change of PRATE (R123) -/
  rateAt : Option Time := none
deriving DecidableEq, Repr

/-- Hidden state of one engine. -/
structure EngineX where
  /-- count of the previous tempo window (R110) -/
  prevCount : Option Nat := none
  /-- slots shed, the last shed first (R114) -/
  shed : List Nat := []
deriving DecidableEq, Repr

/-- The loop engines beside their registers. [DESIGN CHOICE, log 14] -/
structure LpX where
  sections : Tab (Nat × Nat) Section := []
  slots : Tab Nat LoopX := []
  engines : Tab Nat EngineX := []
  /-- value last written to each destination (Table 04.1): destination code and index -/
  dests : Tab (Nat × Nat) Rat := []
deriving DecidableEq, Repr

/-! ### Timetable -/

/-- A ramp in progress: 1 µs grid points since its start (R132). -/
structure Ramp where
  start : Nat
  target : Nat
  /-- slope in mV per µs -/
  slope : Rat
  us : Nat := 0
deriving DecidableEq, Repr

/-- Hidden state of one sequence group. -/
structure GroupX where
  /-- the present step's hold has been ended by a failed start or a LATCHED rail (R143, R145) -/
  holdOver : Bool := false
  /-- the RAIL step found its rail ON and passes at once (R142) -/
  pass : Bool := false
deriving DecidableEq, Repr

/-- The brown-out episode (R147 to R150). -/
structure Bout where
  /-- from the beginning of the shutdown to the restart, on requests are refused (R148) -/
  inForce : Bool := false
  /-- groups that were not OFF when it began -/
  groups : List Nat := []
  start : Stamp := {}
  ended : Stamp := {}
  /-- lowest VIN in 10 mV units -/
  minVin : Nat := 0
  /-- VIN rose above VON before BOUT_END -/
  early : Bool := false
  /-- local time of BOUT_END -/
  endTick : Time := 0#64
  /-- rails whose DISTO expired, a bit mask -/
  disto : Word := 0#32
deriving DecidableEq, Repr

/-- The timetable beside its registers. [DESIGN CHOICE, log 14] -/
structure TtX where
  ramps : Tab Nat Ramp := []
  /-- PG has asserted since the rail entered ON, so UV is armed (R152) -/
  pgSince : List Nat := []
  groups : Tab Nat GroupX := []
  bout : Bout := {}
deriving DecidableEq, Repr

/-! ### Survey converters -/

/-- Hidden state of one converter: its software scan (R173), rotation and tap conversions. -/
structure ConvX where
  /-- channels of the running scan not yet converted -/
  left : List Nat := []
  /-- the next result is the first of its scan -/
  first : Bool := false
  /-- number of the scan last started -/
  scan : Nat := 0
  /-- writes of START not yet served -/
  starts : Nat := 0
  /-- channel last converted in the order of the house rotation (R165) -/
  house : Nat := 31
  /-- sampling instant of the last tap conversion of a channel, in ticks of the local clock (R163) -/
  tapped : Tab Nat Nat := []
deriving DecidableEq, Repr

/-- A calibration run (R169): its command slot; the converters still to do, the running one first; the converters finished,
a bit mask. -/
structure CalRun where
  slot : Nat
  todo : List Nat
  done : Nat := 0
deriving DecidableEq, Repr

/-- The survey converters beside their registers. [DESIGN CHOICE, log 14] -/
structure SvX where
  convs : Tab Nat ConvX := []
  cal : Option CalRun := none
  /-- rails whose sense channel has not been converted since they left OFF, with the local time of leaving (R165) -/
  joined : Tab Nat Nat := []
  /-- local time of the last gauge tick (R178, R179) -/
  gaugeAt : Option Nat := none
deriving DecidableEq, Repr

/-! ### Gauge -/

/-- The gauge beside its registers (chapter 8). [DESIGN CHOICE, log 14] -/
structure GaX where
  /-- ACC in µC and the fraction carried into the next tick (R207) -/
  acc : Int := 0
  frac : Rat := 0
  /-- QUSE in µC as last computed (R212) -/
  quse : Rat := 0
  /-- ERR in µC (R208) -/
  err : Rat := 0
  /-- THRU in µC (R212) -/
  thru : Nat := 0
  /-- the displayed value, 0 to 1 (R214) -/
  display : Rat := 0
  /-- d0 and v0 of the approach band (R216) -/
  d0 : Rat := 0
  v0 : Rat := 0
  /-- BAT of the last 4000 ticks in mV, the newest first (R206) -/
  vbuf : List Nat := []
  /-- an empty anchor has been taken since ACC was last above 0 (R215) -/
  emptied : Bool := false
  /-- keeper time in 4 ns ticks at which counting stopped for want of ADC or CHG (R219) -/
  away : Option Nat := none
  /-- STATE that the ship store has kept, until a pack is declared again (R218, R435) -/
  kept : Option Nat := none
deriving DecidableEq, Repr

/-! ### Policy -/

/-- The policy functions beside their registers (chapter 9). [DESIGN CHOICE, log 14] -/
structure PoX where
  /-- exact derating factor of each rail in % (R229) -/
  derf : Tab Nat Rat := []
  /-- parked stages that have been above TMAX and not yet cooled (R230) -/
  hot : List Nat := []
  /-- evaluations in a row with I / N above HIGH, and with I / (N − 1) below LOW (R227) -/
  phHigh : Tab Nat Nat := []
  phLow : Tab Nat Nat := []
  /-- the PHASE lock has been met by an evaluation; rails whose parked stages it still has to unpark (R225) -/
  lockSeen : Bool := false
  lockRails : List Nat := []
  /-- evaluations in a row above FFRIP and below FFRIP / 2 (R231) -/
  ffAbove : Tab Nat Nat := []
  ffBelow : Tab Nat Nat := []
  /-- shed rails, the last one first; the rail being restored (R233, R235) -/
  shed : List Nat := []
  restoring : Option Nat := none
  /-- the last rail shed, and whether an evaluation has seen it OFF (R233) -/
  wait : Option (Nat × Bool) := none
  /-- TLEFT has reached 0 in this episode (R233) -/
  rideOver : Bool := false
deriving DecidableEq, Repr

/-! ### Signal box -/

/-- The signal box beside its registers. [DESIGN CHOICE, log 14] -/
structure FlX where
  /-- source and rail of every Class A latch in force (R244) -/
  latches : List (Nat × Nat) := []
  /-- source and ungrouped rail of every refusal a Class B reaction set (R240) -/
  refusals : List (Nat × Nat) := []
  /-- sources whose bit a DRY injection set: they drive no pin (R255) -/
  dry : List Nat := []
  /-- local time at which the first unlock key was written (R254) -/
  key1 : Option Time := none
  /-- injection under way: checker, unit, DRY (R255) -/
  injection : Option (Nat × Nat × Bool) := none
deriving DecidableEq, Repr

/-! ### Memory protection -/

/-- SRAM state beside its contents. [DESIGN CHOICE, log 14] -/
structure MemX where
  /-- words with the valid bit set (R291): word numbers -/
  valid : List Nat := []
  /-- words holding an uncorrectable error, with its syndrome: word addresses of SRAM and ledger -/
  bad : Tab Nat (BitVec 7) := []
  /-- words with one wrong bit, with its syndrome; the contents stand as the decoder corrects them (R290) -/
  soft : Tab Nat (BitVec 7) := []
  /-- SRAM words whose valid bits disagree: the copy that differs from the majority (R291) -/
  votes : Tab Nat Nat := []
  /-- errors met by counts written into queued records, still to be logged: address, syndrome, uncorrectable (R267, R294) -/
  met : List (Nat × BitVec 7 × Bool) := []
  /-- next word of the scrubber (R295) -/
  scrub : Nat := 0
  /-- entry of MEM_PMAP being copied (R303) -/
  copy : Option (Nat × Nat) := none
deriving DecidableEq, Repr

/-! ### Ledger -/

/-- One step of a ledger write: a block erase, or one pass over a row (R310). -/
inductive LdgStep where
  /-- erase the block of a logical block number -/
  | erase (block : Nat)
  /-- program bytes at an address -/
  | program (addr : Nat) (bytes : List Byte)
  /-- the read-back of a bank's content (R307); no step of its own -/
  | compare (addr : Nat) (bytes : List Byte)
  /-- the second pass of a dump's first row, which programs the count of further requests (R319): bank, SEQ, content -/
  | dumpCount (bank seq : Nat) (content : List Byte)
deriving DecidableEq, Repr

/-- A fault-log record waiting in the AON buffer (R318): KIND, LEN, time, payload words. -/
structure LogRec where
  kind : Nat
  len : Nat
  stamp : Stamp
  payload : List Word
deriving DecidableEq, Repr

/-- What a ledger write is for. -/
inductive LdgKind where
  /-- a bank write (R307): region, bank, SEQ -/
  | bank (region bank seq : Nat)
  /-- bytes of the open firmware slot (R311) -/
  | fwWrite
  /-- ACT and NACT of a firmware slot (R313) -/
  | fwActivate
  /-- a fault-log record (R317): its SEQ and its place in 16-byte units of the ring -/
  | log (seq place : Nat) (record : LogRec)
  /-- the copy of a block into a spare (R304): logical block, spare -/
  | retire (block spare : Nat)
deriving DecidableEq, Repr

/-- A write waiting or running in a lane: its remaining steps and the command slot it completes, if any. -/
structure LdgJob where
  kind : LdgKind
  steps : List LdgStep
  slot : Option Nat := none
  /-- the content of a bank write (R322) -/
  content : List Byte := []
  /-- a first step has begun (R285) -/
  begun : Bool := false
deriving DecidableEq, Repr

/-- A dump requested or being written (R251, R319). -/
structure DumpReq where
  src : Nat
  trap : Nat
  stamp : Stamp
  further : Nat := 0
  started : Bool := false
deriving DecidableEq, Repr

/-- The ledger beside its contents and registers. [DESIGN CHOICE, log 14] -/
structure LdX where
  /-- writes of each lane, first in first out -/
  lanes : Tab Nat (List LdgJob) := []
  /-- lane whose step is running -/
  cur : Option Nat := none
  /-- the running erase is suspended (R310) -/
  suspended : Bool := false
  /-- lane 0 or 1, whichever was served last (R310) -/
  lastLow : Nat := 1
  /-- failed tries of the running step (R321) -/
  tries : Nat := 0
  /-- ranges programmed in the open firmware slot (R311): offset and length -/
  fwDone : List (Nat × Nat) := []
  dump : Option DumpReq := none
  /-- the AON log buffer (R318), oldest first -/
  logBuf : List LogRec := []
  /-- retired logical block and the spare block that stands for it (R304), the newest first -/
  map : List (Nat × Nat) := []
  /-- address and length of cells an interrupted step left undefined (R324) -/
  torn : List (Nat × Nat) := []
  /-- blocks an interrupted erase touched: erased again before their next program (R324) -/
  again : List Nat := []
  /-- single-bank regions whose remaining bank has been written since (R322) -/
  soleDone : List Nat := []
  /-- slot A holds the firmware the vendor programmed, which the memory does not list (R2) -/
  factory : Bool := true
  /-- an activation has completed under the loader: the core is to restart (R315) -/
  restart : Bool := false
  /-- an erase was abandoned by a reset, to be flagged after the start (R324) -/
  eraseAbandoned : Bool := false
deriving DecidableEq, Repr

/-! ### Line -/

/-- A probe of the root's exploration waiting for its REPLY (R368): its path, and its retries left. -/
structure Probe where
  path : List Nat
  retries : Nat := 2
deriving DecidableEq, Repr

/-- A station found by a survey: UID, path to it, the port its probe arrived at, and what its REPLY told. -/
structure Found where
  uid : Nat
  path : List Nat
  arrival : Option Nat
  addr : Nat
  pref : Nat
deriving DecidableEq, Repr

/-- A LINE_SURVEY in progress at its root (R367 to R372). -/
structure Survey where
  slot : Nat
  keep : Bool
  routes : Bool
  maxhop : Nat
  epoch : Nat
  /-- in the order of discovery, the root first -/
  found : List Found := []
  /-- paths still to be probed, in order -/
  todo : List (List Nat) := []
  /-- probes outstanding, the oldest first -/
  probes : List Probe := []
  /-- links between found stations: index, port, index -/
  links : List (Nat × Nat × Nat) := []
deriving DecidableEq, Repr

/-- The Line ports beside their registers. [DESIGN CHOICE, log 14] -/
structure LnX where
  /-- frames waiting at each port and not started, in sending order (R356) -/
  tx : Tab Nat (List Frame) := []
  /-- frames each port is sending, the inserted one first, with their characters left (R357) -/
  busy : Tab Nat (List (Frame × Nat)) := []
  /-- keys of TRIPs received: SRC, UID bits, TSEQ; the newest first (R374) -/
  keys : List (Nat × Nat × Nat) := []
  /-- trips originated, modulo 256 (R373) -/
  tseq : Nat := 0
  /-- staged route words B (R366) -/
  stagedB : Tab Nat Word := []
  /-- ports with a valid CHECK in the last 2 µs (R359) -/
  checked : List Nat := []
  /-- consecutive CHECKs with RXOK = 0 of each port (R360) -/
  half : Tab Nat Nat := []
  survey : Option Survey := none
  /-- root UID bits [15:0], EPOCH and root address of the last SURVEY received: an ASSIGN does not carry the UID -/
  lastSurvey : Option (Nat × Nat × Nat) := none
deriving DecidableEq, Repr

/-! ### Flows and station time -/

/-- A frame accepted by a send and not yet acknowledged (R380, R383). -/
structure TxItem where
  seq : Nat
  typ : Nat
  addr : Nat
  len : Nat
  /-- the payload of a frame the part made itself -/
  own : Option (List Byte) := none
deriving DecidableEq, Repr

/-- A frame held in a receive slot and not yet delivered (R382); a REMOTE frame keeps its payload. -/
structure RxItem where
  seq : Nat
  typ : Nat
  payload : List Byte
  time : Time
deriving DecidableEq, Repr

/-- A flow context beside its registers. [DEDUCED, log 124] -/
structure FlowCtx where
  /-- frames outstanding, the oldest first -/
  out : List TxItem := []
  /-- timeouts without progress: RETRIES before it stops at its largest value -/
  tries : Nat := 0
  /-- LIMIT of the peer's last ACK (R380) -/
  limit : Nat := 16
  /-- INC of the first frame accepted (R382) -/
  bound : Option Nat := none
  held : List RxItem := []
  /-- slot of the FLW_CLOSE that waits (R379) -/
  closing : Option Nat := none
deriving DecidableEq, Repr

/-- Flows beside their registers. [DESIGN CHOICE, log 14] -/
structure FwX where
  ctx : Tab Nat FlowCtx := []
  /-- incarnation numbers, held in AON (R378) -/
  inc : Tab Nat Nat := []
  /-- counts of unconfirmed and unread frames a reset of LINK left, held in AON (R385) -/
  lost : Tab Nat Nat := []
deriving DecidableEq, Repr

/-- A summit mark of a bank (R394 to R396). -/
structure MarkX where
  num : Nat
  time : Time
  /-- a forward step carried the time past T -/
  late : Bool := false
  /-- the SUMMIT_MARK that waits for the bank -/
  slot : Option Nat := none
  /-- words sampled at the latch and not yet in the bank -/
  sampled : Option (List Word) := none
deriving DecidableEq, Repr

/-- Station time and summit marks beside their registers (R390 to R396). [DESIGN CHOICE, log 14] -/
structure TmX where
  /-- tenths of a nanosecond beside the count of 4 ns ticks -/
  tenths : Rat := 0
  /-- accepted SYNCs in a row within 5 ns -/
  good : Nat := 0
  /-- t1 of the last REQ of each port, in tenths of a nanosecond -/
  t1 : Tab Nat Rat := []
  /-- armed marks by bank -/
  marks : Tab Nat MarkX := []
  /-- output energy of rails 0 to 15 in J, held in AON (Table 18.3) -/
  energy : Tab Nat Rat := []
deriving DecidableEq, Repr

/-! ### OTP -/

/-- A program or transition under way (R330): row, data, and the target state of a transition. -/
structure OtpProg where
  row : Nat
  data : Word
  target : Option Nat
deriving DecidableEq, Repr

/-- The OTP array (R326): main rows 0 to 511 and spare rows S0 to S15, here 512 to 527, and the redirection table. [DESIGN
CHOICE, log 13] -/
structure OtX where
  /-- data of the rows programmed by software or by a redirection, main and spare -/
  rows : Tab Nat Word := []
  /-- the vendor has programmed the trim rows and the identity rows (R2) -/
  vendor : Bool := true
  /-- life-cycle marks programmed: rows 64 to 67 (R334) -/
  marks : List Nat := [64]
  /-- rows served by correction alone (R333); main and spare rows that cannot be decoded, which read 0 (R326) -/
  corrected : List Nat := []
  lost : List Nat := []
  /-- entries of the redirection table as OTP_REDIRk shows them -/
  redir : Tab Nat Word := []
  prog : Option OtpProg := none
deriving DecidableEq, Repr

/-! ### Watchdog -/

/-- The watchdog beside its registers. [DESIGN CHOICE, log 14] -/
structure WdX where
  /-- an expiry has begun and its reset has not run: the device accepts nothing new (R343) -/
  expired : Bool := false
  /-- an orderly drain is running (R344) -/
  draining : Bool := false
deriving DecidableEq, Repr

/-! ### Two-wire bus -/

/-- A controller transfer under way (R409): TWB_CXCFG and TWB_CXBUF as it started, and the bytes it writes. -/
structure CxRun where
  cfg : Word
  buf : Nat
  send : List Byte
deriving DecidableEq, Repr

/-- The two-wire bus beside its registers. [DESIGN CHOICE, log 14] -/
structure TbX where
  cx : Option CxRun := none
  /-- bytes the last read transaction sent, its PEC among them -/
  out : List Byte := []
deriving DecidableEq, Repr

/-! ### Lookout -/

/-- The Lookout beside its registers. [DESIGN CHOICE, log 14] -/
structure MoX where
  /-- lines of the last reply as the numbers they print -/
  reply : List (List Nat) := []
  /-- its status: 0 for OK, or a code of Table 20.2 -/
  status : Nat := 0
  /-- the challenge that waits for its response (R417) -/
  challenge : Option Word := none
  /-- a new rate has had no valid line yet (R414) -/
  newRate : Bool := false
deriving DecidableEq, Repr

/-! ### Crossings -/

/-- The crossings beside their registers. [DESIGN CHOICE, log 14] -/
structure XgX where
  /-- hold copy of each captured group (R430) -/
  hold : Tab Nat (List (Reg × Word)) := []
  /-- last value each crossing agreed on (R428) -/
  agreed : Tab Nat Word := []
deriving DecidableEq, Repr

/-! ### Power -/

/-- What the management core runs. -/
inductive McSt where
  | off | loader | firmware
  /-- stopped after the dump of an MC_FATAL (R296) -/
  | stopped
deriving DecidableEq, Repr

/-- Modes of Table 22.1. -/
inductive Mode where
  | active | sleep | deepEntry | deep | ship | depleted
deriving DecidableEq, Repr

/-- Power domains and modes. [DESIGN CHOICE, log 14] -/
structure PwX where
  on : List Dom := [.aon]
  mc : McSt := .off
  mode : Mode := .active
  /-- the start that is to run (R440) -/
  start : Option StartCause := some .powerOn
  /-- code sampled at ADDR at the last AON power-on (R399) -/
  strap : Nat := 0
  /-- an address was NACKed while CORE is off (R406) -/
  nack : Bool := false
  /-- a SLEEP request waits for a controller transfer (R410) -/
  sleepPend : Bool := false
deriving DecidableEq, Repr


/-! ### The whole state -/

/-- The state of the part. -/
structure State where
  /-- commands waiting, first in first out -/
  pending : List Instr := []
  /-- registers that differ from their reset value, newest write first -/
  regs : Tab Reg Word := []
  /-- SRAM and ledger contents (R20, Table 01.5), in canonical form -/
  mem : List Host.Cell := []
  clock : Clock := {}
  pins : Pins := {}
  /-- word last read by each interface: the data its read returned -/
  rdata : Tab Iface Word := []
  ev : EvX := {}
  cm : CmdX := {}
  tp : TpX := {}
  sw : SwX := {}
  lp : LpX := {}
  tt : TtX := {}
  sv : SvX := {}
  ga : GaX := {}
  po : PoX := {}
  fl : FlX := {}
  me : MemX := {}
  ld : LdX := {}
  ln : LnX := {}
  fw : FwX := {}
  tm : TmX := {}
  ot : OtX := {}
  wd : WdX := {}
  tb : TbX := {}
  mo : MoX := {}
  xg : XgX := {}
  pw : PwX := {}
deriving DecidableEq, Repr

/-- The part right after an AON power-on reset: every register at the reset value of its table, AON alone
powered, nothing stored, nothing waiting. [DESIGN CHOICE, log 10, 13] -/
def State.reset : State := {}

end Sys2Proof.Machine
end

