-- ==== Sys2Proof/Machine/Ops.lean ====
section
/-!
DEFINITION. Named operations over registers, memory, time and the fault-log buffer.
-/

namespace Sys2Proof.Machine

/-! ### Registers -/

/-- The stored value of a register. -/
def State.rd (s : State) (r : Reg) : Word := s.regs.get r r.reset

/-- Store a register whole. -/
def State.wr (s : State) (r : Reg) (w : Word) : State := { s with regs := s.regs.set r w }

/-- One field of a register. -/
def State.fld (s : State) (r : Reg) (f : Field) : Nat := getF (s.rd r) f

/-- Store one field of a register. -/
def State.put (s : State) (r : Reg) (f : Field) (v : Nat) : State := s.wr r (putF (s.rd r) f v)

/-- One bit of a register. -/
def State.bit (s : State) (r : Reg) (b : Nat) : Bool := wbit (s.rd r) b

/-- Store one bit of a register. -/
def State.putBit (s : State) (r : Reg) (b : Nat) (v : Bool) : State := s.wr r (wputBit (s.rd r) b v)

/-- Add to a field that stops at its largest value. -/
def State.addSat (s : State) (r : Reg) (f : Field) (n : Nat) : State :=
  s.put r f (satAdd (2 ^ f.width - 1) (s.fld r f) n)

/-! ### Power domains (R18) -/

/-- The domain of a block (Table 01.4). -/
def Block.dom : Block → Dom
  | .sys | .flt | .wdg | .pwr => .aon
  | .tpl | .evt | .cmd | .mem | .twb | .mon | .xng => .core
  | .swy => .stg
  | .rail | .ttb | .sup | .pol => .seq
  | .lpe => .eng
  | .svy => .adc
  | .bkp | .gau => .chg
  | .ldg | .otp => .nvm
  | .lnk | .flw | .tim => .link

/-- The parent of a domain (Table 01.3). -/
def Dom.parent : Dom → Option Dom
  | .aon => none
  | .nvm => some .aon
  | .core => some .nvm
  | .seq | .adc | .link => some .core
  | .eng => some .seq
  | .stg => some .eng
  | .chg => some .adc

/-- Place of a domain in Table 01.3. -/
def Dom.index : Dom → Nat
  | .aon => 0 | .nvm => 1 | .core => 2 | .seq => 3 | .adc => 4 | .eng => 5 | .stg => 6 | .chg => 7 | .link => 8

/-- A domain and every domain below it. -/
def Dom.below : Dom → List Dom
  | .aon => [.aon, .nvm, .core, .seq, .adc, .eng, .stg, .chg, .link]
  | .nvm => [.nvm, .core, .seq, .adc, .eng, .stg, .chg, .link]
  | .core => [.core, .seq, .adc, .eng, .stg, .chg, .link]
  | .seq => [.seq, .eng, .stg]
  | .adc => [.adc, .chg]
  | .eng => [.eng, .stg]
  | .stg => [.stg]
  | .chg => [.chg]
  | .link => [.link]

/-- A domain is powered. -/
def State.powered (s : State) (d : Dom) : Bool := s.pw.on.contains d

/-- The loop engines can work: STG and ADC, on which they depend, are powered too (R12). -/
def State.loopsWork (s : State) : Bool := s.powered .eng && s.powered .stg && s.powered .adc

/-- The charger can work: CHG and the engines and converters on which it depends are powered (R12). -/
def State.chargerWorks (s : State) : Bool := s.powered .chg && s.powered .eng && s.powered .adc

/-- Policy can work: SEQ, and the switchyard, the engines and the gauge on which it depends are powered (R12). -/
def State.policyWorks (s : State) : Bool := s.powered .seq && s.powered .stg && s.powered .eng && s.powered .chg

/-- SHIP or DEPLETED: of AON only the watchers of BTN_N and SRCS are powered (R435). -/
def State.dark (s : State) : Bool := s.pw.mode == .ship || s.pw.mode == .depleted

/-! ### Comparator force (R253) -/

/-- What comparator COMP of Table 10.4 reports: LEVEL while it is forced, else its own output. [DEDUCED, log 52] -/
def State.compOut (s : State) (comp : Nat) (own : Bool) : Bool :=
  if s.bit .FLT_FORCE 31 ∧ s.fld .FLT_FORCE Fld.FLT_FORCE_COMP = comp then s.bit .FLT_FORCE 30 else own

/-! ### Time -/

/-- The present time stamp: station time, or local ticks while LINK is unpowered (R156). -/
def State.now (s : State) : Stamp :=
  if s.powered .link then { time := s.clock.station, isLocal := false }
  else { time := s.clock.localTicks, isLocal := true }

/-- Station time goes on by 4 ns at its trimmed rate (R389, R391). -/
def State.stationTick (s : State) : State :=
  let adj : Int := toSigned 16 (s.fld .TIM_OFFSET Fld.TIM_OFFSET_FADJ)
  let t : Rat := s.tm.tenths + 40 + (40 * adj : Int) / 100000000
  let n : Int := if t < 0 then 0 else t.num / (t.den : Int) / 40
  { s with clock := { s.clock with station := s.clock.station + BitVec.ofNat 64 n.toNat },
           tm := { s.tm with tenths := t - ((40 * n : Int) : Rat) } }

/-- A fresh value of what the spec leaves open. [DESIGN CHOICE, log 5] -/
def State.draw (s : State) : Word × State :=
  (Config.freeWord s.clock.drawn, { s with clock := { s.clock with drawn := s.clock.drawn + 1 } })

/-! ### Memory: a canonical list of cells -/

/-- What an address that is not listed reads as: 0 in SRAM (R291), all ones in the erased ledger (R292). [DESIGN
CHOICE, log 11, 12] -/
def memDefault (a : Nat) : Byte := if a < 0x40000 then 0#8 else 0xFF#8

/-- The byte at an address. [DESIGN CHOICE, log 11] -/
def memGet : List Host.Cell → Nat → Byte
  | [], a => memDefault a
  | (k, b) :: t, a => if k = a then b else memGet t a

/-- Store a byte, keeping the canonical form. -/
def memPut : List Host.Cell → Nat → Byte → List Host.Cell
  | [], a, b => if b = memDefault a then [] else [(a, b)]
  | (k, c) :: t, a, b =>
    if a < k then (if b = memDefault a then (k, c) :: t else (a, b) :: (k, c) :: t)
    else if a = k then (if b = memDefault a then t else (a, b) :: t)
    else (k, c) :: memPut t a b

/-- The canonical form: addresses strictly rising, no cell equal to what an unlisted address reads as. -/
def memWf : List Host.Cell → Bool
  | [] => true
  | (k, b) :: t => b != memDefault k && (t.all fun c => k < c.1) && memWf t

/-- The byte at an address of the state's memory. -/
def State.byte (s : State) (a : Nat) : Byte := memGet s.mem a

/-- Store one byte. -/
def State.putByte (s : State) (a : Nat) (b : Byte) : State := { s with mem := memPut s.mem a b }

/-- The little-endian word at an address. -/
def State.word (s : State) (a : Nat) : Word := wordOf (s.byte a) (s.byte (a + 1)) (s.byte (a + 2)) (s.byte (a + 3))

/-- Store a little-endian word. -/
def State.putWord (s : State) (a : Nat) (w : Word) : State :=
  (((s.putByte a (byteOf w 0)).putByte (a + 1) (byteOf w 1)).putByte (a + 2) (byteOf w 2)).putByte (a + 3) (byteOf w 3)

/-- The `n` bytes from an address. -/
def State.bytes (s : State) (a n : Nat) : List Byte := (List.range n).map fun i => s.byte (a + i)

/-- Store bytes from an address on. -/
def State.putBytes (s : State) (a : Nat) : List Byte → State
  | [] => s
  | b :: t => (s.putByte a b).putBytes (a + 1) t

/-- Top of SRAM (Table 01.5). -/
def sramEnd : Nat := 0x40000

/-- The log entry that names an SRAM word, if any (R299). -/
def State.logEntry (s : State) (nvm : Bool) (a : Nat) : Option Nat :=
  (List.range 32).find? fun e =>
    s.bit (.MEM_LOG_INFO e) 31 && (s.bit (.MEM_LOG_INFO e) 28 == nvm) && (s.rd (.MEM_LOG_ADDR e)).toNat == a

/-- A whole-word write to SRAM by software or a channel: sets the valid bit, replaces a damaged word and clears the
rewrite mark (R291, R294, R300). -/
def State.sramWrite (s : State) (a : Nat) (w : Word) : State :=
  let s1 := s.putWord a w
  let s2 := { s1 with me := { s1.me with
    valid := if s1.me.valid.contains (a / 4) then s1.me.valid else (a / 4) :: s1.me.valid,
    bad := s1.me.bad.filter (fun e => !decide (e.1 = a)),
    soft := s1.me.soft.filter (fun e => !decide (e.1 = a)),
    votes := s1.me.votes.filter (fun e => !decide (e.1 = a)) } }
  match s2.logEntry false a with
  | some e => s2.put (.MEM_LOG_INFO e) Fld.MEM_LOG_INFO_MARK 0
  | none => s2

/-- An SRAM word holds an uncorrectable error. -/
def State.sramBad (s : State) (a : Nat) : Option (BitVec 7) := s.me.bad.lookup a

/-! ### Rounding the spec leaves open -/

/-- The whole number a value becomes where the spec states no rounding: itself, or one of its two neighbours. [DESIGN CHOICE,
log 6] -/
def roundOpen (q : Rat) : Int :=
  if q.den = 1 then q.num else if Config.roundUp q then q.num / q.den + 1 else q.num / q.den

/-- Sum of a list of whole numbers. -/
def sumI (l : List Int) : Int := l.foldl (· + ·) 0

/-- Sum of a list of rationals. -/
def sumR (l : List Rat) : Rat := l.foldl (· + ·) 0

/-! ### CRC-32 (R37) -/

/-- One step of the reflected CRC-32 with polynomial 0x04C1_1DB7 (0xEDB8_8320 reflected). -/
def crcBit (c : BitVec 32) : BitVec 32 := if c.getLsbD 0 then (c >>> 1) ^^^ 0xEDB88320#32 else c >>> 1

/-- One byte of the CRC. -/
def crcByte (c : BitVec 32) (b : Byte) : BitVec 32 :=
  crcBit (crcBit (crcBit (crcBit (crcBit (crcBit (crcBit (crcBit (c ^^^ b.zeroExtend 32))))))))

/-- The CRC of R37 over bytes. -/
def crc32 (l : List Byte) : Word := (l.foldl crcByte 0xFFFFFFFF#32) ^^^ 0xFFFFFFFF#32

/-- The bytes of words, little endian. -/
def bytesOfWords (l : List Word) : List Byte := l.flatMap fun w => [byteOf w 0, byteOf w 1, byteOf w 2, byteOf w 3]

/-- The words of bytes, little endian; bytes short of a word are dropped. -/
def wordsOfBytes : List Byte → List Word
  | b0 :: b1 :: b2 :: b3 :: t => wordOf b0 b1 b2 b3 :: wordsOfBytes t
  | _ => []

end Sys2Proof.Machine
end

