-- ==== Sys2Proof/Machine/EventOps.lean ====
section
/-!
DEFINITION. How happenings reach the event controller and the fault log: sensing a condition (R259), counting an
occurrence (R261, R262, R267), producing a message or a gap, and handing a record to the AON log buffer (R318).
-/

namespace Sys2Proof.Machine

/-! ### Which flag is which source (R258) -/

/-- The SIGNAL source of a flag bit and the INFO its instance gives. -/
def flagSource (r : Reg) (b : Nat) : Option (Nat × Nat) :=
  match r with
  | .STG_FLAG m =>
    if b = 5 then some (12, m) else if b = 6 then some (13, m) else if b = 7 then some (14, m)
    else if b = 3 then some (15, m) else if b = 4 then some (16, m) else none
  | .LPE_FLAG e => if b = 0 then some (17, e) else none
  | .LPS_FLAG k =>
    if b = 7 then some (20, k) else if b = 6 then some (21, k) else if b = 9 then some (22, k)
    else if b = 4 then some (23, k) else if b = 3 then some (24, k) else none
  | .RAIL_FLAG n => if b = 5 then some (66, n) else if b = 1 then some (69, n) else none
  | .TTB_G_FLAG g => if b = 0 then some (61, g) else if b = 2 then some (67, g) else if b = 3 then some (68, g) else none
  | .SVY_CV_FLAG x =>
    if b = 0 then some (70, x) else if b = 1 then some (71, x) else if b = 2 then some (72, x)
    else if b = 5 then some (73, x) else none
  | .SVY_FLAG => if b = 1 then some (74, 0) else if b = 0 then some (75, 0) else none
  | .BKP_FLAG =>
    if b = 0 then some (76, 0) else if b = 7 then some (78, 0) else if b = 8 then some (79, 0)
    else if b = 6 then some (82, 0) else if b = 5 then some (83, 0) else if b = 9 then some (85, 0) else none
  | .GAU_FLAG =>
    if b = 0 then some (86, 0) else if b = 1 then some (87, 0) else if b = 4 then some (88, 0)
    else if b = 3 then some (89, 0) else if b = 2 then some (90, 0) else if b = 6 then some (91, 0)
    else if b = 5 then some (92, 0) else none
  | .POL_FLAG => if b = 3 then some (102, 0) else if b = 2 then some (103, 0) else if b = 0 then some (104, 0) else none
  | .FLT_FLAG => if b < 3 then some (105 + b, 0) else none
  | .EVT_STAT =>
    if 3 ≤ b ∧ b < 6 then some (108, b - 3) else if 6 ≤ b ∧ b < 9 then some (109, b - 6)
    else if b = 12 then some (110, 0) else if b = 13 then some (111, 0) else none
  | .CMD_FLAG => if b < 5 then some (112 + b, 0) else none
  | .MEM_FLAG => if b < 7 then some (120 + b, 0) else none
  | .LDG_FLAG => if b < 7 then some (128 + b, 0) else none
  | .OTP_FLAG => if b < 5 then some (144 + b, 0) else none
  | .WDG_FLAG => if b = 0 then some (152, 0) else if b = 1 then some (153, 0) else if b = 3 then some (154, 0)
    else if b = 2 then some (155, 0) else none
  | .LNK_FLAG => if b < 11 then some (168 + b, 0) else none
  | .FLW_FLAG => if b < 7 then some (200 + b, 0) else none
  | .TIM_FLAG => if b < 3 then some (216 + b, 0) else if b = 7 then some (219, 0) else if b = 3 then some (220, 0)
    else if b = 4 then some (221, 0) else if b = 5 then some (222, 0) else if b = 6 then some (223, 0) else none
  | .TWB_FLAG => if b < 7 then some (228 + b, 0) else none
  | .MON_FLAG => if b = 0 then some (236, 0) else if b = 1 then some (237, 0) else if b = 2 then some (238, 0)
    else if b = 3 then some (239, 0) else none
  | .XNG_TAKE => if b < 4 then some (240, b) else none
  | .XNG_FLAG => if b = 0 then some (241, 0) else if b = 1 then some (242, 0) else none
  | .PWR_FLAG => if b = 1 then some (244, 0) else if b = 0 then some (245, 0) else none
  | _ => none

/-- The registers whose bits are flags of event sources, one list entry per instance. -/
def flagRegs : List Reg :=
  ((List.range 24).map .STG_FLAG) ++ ((List.range 8).map .LPE_FLAG) ++ ((List.range 32).map .LPS_FLAG) ++
  ((List.range 20).map .RAIL_FLAG) ++ ((List.range 8).map .TTB_G_FLAG) ++ ((List.range 3).map .SVY_CV_FLAG) ++
  [.SVY_FLAG, .BKP_FLAG, .GAU_FLAG, .POL_FLAG, .FLT_FLAG, .EVT_STAT, .CMD_FLAG, .MEM_FLAG, .LDG_FLAG, .OTP_FLAG,
   .WDG_FLAG, .LNK_FLAG, .FLW_FLAG, .TIM_FLAG, .TWB_FLAG, .MON_FLAG, .XNG_TAKE, .XNG_FLAG, .PWR_FLAG]

/-- A register's bit that belongs to a source is set. -/
def State.flagLive (s : State) (src : Nat) (r : Reg) : Bool :=
  (bitsOf (s.rd r)).any fun b => decide ((flagSource r b).map (·.1) = some src)

/-- The condition of a SIGNAL source is present in some instance (R259, EVT_LIVE): its flag, or the state that
Table 11.1 names; a happening with no duration is never present. [DEDUCED, log 50] -/
def State.evtLive (s : State) (src : Nat) : Bool :=
  if 25 ≤ src ∧ src ≤ 44 then s.bit (.RAIL_STATUS (src - 25)) 4
  else if 45 ≤ src ∧ src ≤ 52 then s.fld (.TTB_G_STATUS (src - 45)) Fld.TTB_G_STATUS_STATE == 2
  else if 53 ≤ src ∧ src ≤ 60 then
    s.powered .seq && s.fld (.TTB_G_STATUS (src - 53)) Fld.TTB_G_STATUS_STATE == 0
  else if src = 81 then s.fld .BKP_STATUS Fld.BKP_STATUS_CHGSTATE == 5
  else flagRegs.any (s.flagLive src)

/-! ### Occurrences -/

/-- Hidden state of a source. -/
def State.src (s : State) (i : Nat) : EvSrc := s.ev.srcs.get i {}

/-- Store the hidden state of a source. -/
def State.putSrc (s : State) (i : Nat) (e : EvSrc) : State := { s with ev := { s.ev with srcs := s.ev.srcs.set i e } }

/-- Address of slot `k` of queue `q` (R271). -/
def State.recAddr (s : State) (q k : Nat) : Nat := (s.rd (.EVT_QBASE q)).toNat / 16 * 16 + 16 * k

/-- FREEZE is in force (R262). -/
def State.frozen (s : State) : Bool := s.bit .EVT_CTL 31

/-- Write a word of a queued record in place. What the read of this narrow write finds is logged by `State.metNow`; over an
uncorrectable error nothing is written (R293, R294). [DEDUCED, log 188] -/
def State.recordWrite (s : State) (a : Nat) (w : Word) : State :=
  let note (syn : BitVec 7) (ue : Bool) : State := { s with me := { s.me with met := s.me.met ++ [(a, syn, ue)] } }
  match s.sramBad a with
  | some syn => note syn true
  | none =>
    match (if (s.me.votes.lookup a).isSome then some 0x7F#7 else s.me.soft.lookup a) with
    | some syn => (note syn false).sramWrite a w
    | none => s.sramWrite a w

/-- Count occurrences into a record already queued, in place (R267). -/
def State.bumpRecord (s : State) (q k n : Nat) (rise fall sw : Bool) : State :=
  let a := s.recAddr q k
  let w0 := s.word a
  let w1 := s.word (a + 4)
  let c := w1.toNat / 65536 + n
  let w0' := wputBit (wputBit (wputBit (wputBit w0 23 (wbit w0 23 || decide (65535 < c))) 22 (wbit w0 22 || sw))
    21 (wbit w0 21 || rise)) 20 (wbit w0 20 || fall)
  (s.recordWrite a w0').recordWrite (a + 4) (putF w1 ⟨31, 16⟩ (min 65535 c))

/-- `n` occurrences of a source take effect outside FREEZE: into its queued record, or towards the next one (R261,
R267). -/
def State.occurNow (s : State) (src n : Nat) (rise fall sw : Bool) (first : Stamp) (info code : Nat) : State :=
  let e := s.src src
  match e.queued with
  | some (q, k) => s.bumpRecord q k n rise fall sw
  | none =>
    let e' := { e with
      waiting := e.waiting + n, rise := e.rise || rise, fall := e.fall || fall, sw := e.sw || sw,
      first := if e.waiting = 0 then first else e.first,
      info := if e.waiting = 0 then info else e.info,
      code := if e.waiting = 0 then code else e.code }
    (s.putSrc src e').putBit (.EVT_PEND (src / 32)) (src % 32) true

/-- One occurrence sensed by hardware; FREEZE holds it apart (R262). -/
def State.occur (s : State) (src : Nat) (rise fall : Bool) (info code : Nat) : State :=
  if s.frozen then
    let e := s.src src
    s.putSrc src { e with
      held := e.held + 1, heldRise := e.heldRise || rise, heldFall := e.heldFall || fall,
      heldFirst := if e.held = 0 then s.now else e.heldFirst,
      heldInfo := if e.held = 0 then info else e.heldInfo,
      heldCode := if e.held = 0 then code else e.heldCode }
  else s.occurNow src 1 rise fall false s.now info code

/-- The SENSE field of a source (R259). -/
def State.sense (s : State) (src : Nat) : Nat := s.fld (.EVT_CFG src) Fld.EVT_CFG_SENSE

/-- A condition rises; `others`: another instance of the source was present already. -/
def State.condRise (s : State) (src info code : Nat) (others : Bool) : State :=
  let s1 := s.putSrc src { s.src src with lastInfo := info, lastCode := code }
  match s.sense src with
  | 0 => if others then s1 else s1.occur src true false info code
  | 1 => s1.occur src true false info code
  | 2 => s1
  | _ => s1.occur src true false info code

/-- A condition falls. -/
def State.condFall (s : State) (src info code : Nat) : State :=
  match s.sense src with
  | 0 => s
  | 1 => s
  | _ => s.occur src false true info code

/-- A happening with no duration: a rise and a fall at once (R259). -/
def State.happen (s : State) (src info code : Nat) : State :=
  (s.condRise src info code false).condFall src info code

/-- Set a flag, with the INFO and CODE its source's occurrence takes; a flag that is set already does not rise. -/
def State.setFlagI (s : State) (r : Reg) (b info code : Nat) : State :=
  if s.bit r b then s
  else match flagSource r b with
    | none => s.putBit r b true
    | some (src, _) => (s.putBit r b true).condRise src info code (s.evtLive src)

/-- Set a flag; INFO is its instance. -/
def State.setFlag (s : State) (r : Reg) (b : Nat) : State :=
  s.setFlagI r b (((flagSource r b).map (·.2)).getD 0) 0

/-- Clear one flag, sensing the fall of its condition. -/
def State.clearFlag (s : State) (r : Reg) (b : Nat) : State :=
  if s.bit r b then
    match flagSource r b with
    | none => s.putBit r b false
    | some (src, info) => (s.putBit r b false).condFall src info 0
  else s

/-- Clear every flag of a mask (W1C of R7). -/
def State.clearFlags (s : State) (r : Reg) (m : Word) : State := each (bitsOf m) (fun b s => s.clearFlag r b) s

/-- Clear the flags of a mask whose cause is gone; a bit of `held` keeps its cause and stays 1, since the cause sets it again
at once (R7). [DEDUCED, log 166] -/
def State.clearFlagsBut (s : State) (r : Reg) (m held : Word) : State := s.clearFlags r (m &&& ~~~ held)

/-! ### Messages and gaps -/

/-- Produce a message (R258, R263). -/
def State.message (s : State) (src info code : Nat) (count : Nat := 1) : State :=
  { s with ev := { s.ev with msgs := s.ev.msgs ++ [{ src := src, info := info, code := code, count := count, stamp := s.now }] } }

/-- The queue a source's ROUTE names; 0b11 is never stored (R271). -/
def State.route (s : State) (src : Nat) : Nat := s.fld (.EVT_CFG src) Fld.EVT_CFG_ROUTE

/-- Add dropped items to the gap list: a pending gap of the stream grows, else a new one waits (R33, R273). -/
def addGap (stream index n queue : Nat) : List Gap → List Gap
  | [] => if n = 0 then [] else [{ stream := stream, index := index, count := n, queue := queue }]
  | g :: t =>
    if g.stream = stream ∧ g.index = index ∧ g.queue = queue then { g with count := g.count + n } :: t
    else g :: addGap stream index n queue t

/-- Items of a stream have been dropped. -/
def State.gap (s : State) (stream index n queue : Nat) : State :=
  { s with ev := { s.ev with gaps := addGap stream index n queue s.ev.gaps } }

/-! ### The fault log -/

/-- Hand a record to the AON log buffer, or drop it with a gap when 32 wait (R318) or the region is read-only
(R323). [DEDUCED, log 53] -/
def State.logRec (s : State) (kind len : Nat) (stamp : Stamp) (payload : List Word) : State :=
  if 32 ≤ s.ld.logBuf.length ∨ s.bit .LDG_STATUS 10 = true then
    ((s.addSat .LDG_LOG Fld.LDG_LOG_DROP 1).gap 0x07 2 1 0).setFlag .LDG_FLAG 5
  else { s with ld := { s.ld with logBuf := s.ld.logBuf ++ [{ kind := kind, len := len, stamp := stamp, payload := payload }] } }

end Sys2Proof.Machine
end

