-- ==== Sys2Proof/Machine/CmdOps.lean ====
section
/-!
DEFINITION. Command slots, handles and completion (R280, R282, R283), and who owns what (R44, Table 02.5).
-/

namespace Sys2Proof.Machine

/-- A command slot. -/
def State.slot (s : State) (k : Nat) : CmdSlot := s.cm.slots.get k {}

/-- Store a command slot. -/
def State.putSlot (s : State) (k : Nat) (c : CmdSlot) : State := { s with cm := { s.cm with slots := s.cm.slots.set k c } }

/-- The handle of a slot and generation (R280). -/
def handleOf (k gen : Nat) : Nat := gen * 64 + k

/-- The lane of an opcode: bits [7:6] (R279). -/
def opLane (op : Nat) : Nat := op / 64

/-- The slot of the command running in a lane. -/
def State.runningSlot (s : State) (lane : Nat) : Option Nat := s.cm.running.lookup lane

/-- A command completes (R282): its slot holds code and detail, its lane is free, and the record of the lane's source is
produced. It stays outstanding until that record is queued (R278). -/
def State.complete (s : State) (k code detail : Nat) : State :=
  let c := s.slot k
  let lane := opLane c.op
  let s1 := s.putSlot k { c with st := .ended, code := code, detail := detail, phase := 0 }
  let s2 := { s1 with cm := { s1.cm with running := s1.cm.running.filter (fun e => !decide (e.2 = k)) } }
  let s3 := if lane = 1 then (s2.put .LDG_RESULT Fld.LDG_RESULT_CODE code).put .LDG_RESULT Fld.LDG_RESULT_DETAIL detail else s2
  s3.message (3 + lane) (handleOf k c.gen) code

/-- The completion record of a handle is queued, or dropped with a GAP record in its place: the slot is free and shows DONE
(R278, R283). [DEDUCED, log 187] -/
def State.recordQueued (s : State) (h : Nat) : State :=
  let c := s.slot (h % 64)
  if c.st = .ended ∧ c.gen = h / 64 then s.putSlot (h % 64) { c with st := .done } else s

/-- The running command of a lane reaches a phase. -/
def State.setPhase (s : State) (k ph : Nat) : State := s.putSlot k { s.slot k with phase := ph }

/-! ### The state of the trackplan (TPL_STATUS) -/

def State.tplSt (s : State) : Nat := s.fld .TPL_STATUS Fld.TPL_STATUS_STATE
def State.tplPhase (s : State) : Nat := s.fld .TPL_STATUS Fld.TPL_STATUS_PHASE
def State.setTpl (s : State) (st ph : Nat) : State :=
  (s.put .TPL_STATUS Fld.TPL_STATUS_STATE st).put .TPL_STATUS Fld.TPL_STATUS_PHASE ph

/-- The domain a TPL_LOAD_DOMAIN names. -/
def CmdSlot.loadDom (c : CmdSlot) : Nat := getF c.p0 ⟨3, 0⟩

/-- The waiting TPL_LOAD_DOMAIN commands, in the order of acceptance. -/
def State.waitingLoads (s : State) : List Nat := s.cm.waiting.filter fun k => (s.slot k).op == 0x03

/-- A TPL_LOAD_DOMAIN has been accepted (R66): STATE is RELOADING and DOMAIN its domain; PHASE stays 0 until it starts.
[DEDUCED, log 29] -/
def State.reloadAccept (s : State) (k : Nat) : State :=
  let c := s.slot k
  let w := putF (putF (putF (s.rd .TPL_STATUS) Fld.TPL_STATUS_STATE 3) Fld.TPL_STATUS_DOMAIN c.loadDom) Fld.TPL_STATUS_PHASE 0
  let r : Reload := { slot := k, dom := c.loadDom, restart := wbit c.p0 8, safe := false, groupsUp := c.groupsUp }
  { s.wr .TPL_STATUS w with tp := { s.tp with reload := some r } }

/-- The trackplan runs and no reload is under way. -/
def State.reloadReady (s : State) : Bool := s.tplSt == 2 && s.tp.reload.isNone

/-- The next accepted reload that waits in the config lane, if any (R66, R67). [DEDUCED, log 29] -/
def State.reloadNext (s : State) : State :=
  match s.waitingLoads with
  | k :: _ => if s.reloadReady then s.reloadAccept k else s
  | [] => s

/-- The load command in a slot is over: its reload ends, STATE is RUNNING or shows the next accepted reload. -/
def State.loadOver (s : State) (k : Nat) : State :=
  let s1 : State := { s with tp := { s.tp with reload := s.tp.reload.filter fun r => r.slot != k } }
  (s1.setTpl (if s1.tp.reload.isSome then 3 else 2) 0).reloadNext

/-- The domains under reload: that of the present one, and those of the accepted ones that wait (R66). [DEDUCED, log 29] -/
def State.reloadDoms (s : State) : List Nat :=
  match s.tp.reload with
  | some r => r.dom :: s.waitingLoads.map fun k => (s.slot k).loadDom
  | none => []

/-- A resource of an owner, if any, is under reload. -/
def State.underReload (s : State) (d : Option Nat) : Bool := s.reloadDoms.any fun x => d == some x

/-! ### Ownership (R47, Table 02.5) -/

/-- The domain whose OWNER record lists a rail, stage, loop slot, group or fault source. -/
def State.railDom (s : State) (n : Nat) : Option Nat := (s.tp.owners.find? fun o => o.rails.testBit n).map (·.dom)
def State.stageDom (s : State) (m : Nat) : Option Nat := (s.tp.owners.find? fun o => o.stages.testBit m).map (·.dom)
def State.slotDom (s : State) (k : Nat) : Option Nat := (s.tp.owners.find? fun o => o.slots.testBit k).map (·.dom)
def State.groupDom (s : State) (g : Nat) : Option Nat := (s.tp.owners.find? fun o => o.groups.testBit g).map (·.dom)
def State.faultDom (s : State) (f : Nat) : Option Nat := (s.tp.owners.find? fun o => o.faults.testBit f).map (·.dom)

/-! ### Sequences (R137) -/

/-- Word `j` of a group's step table, and its opcode. -/
def State.step (s : State) (g j : Nat) : Word := s.rd (.TTB_STEP g j)
def State.stepOp (s : State) (g j : Nat) : Nat := (s.step g j).toNat / 2 ^ 28

/-- Number of steps of a group's sequence: up to its first END, or 64. -/
def State.seqLen (s : State) (g : Nat) : Nat := ((List.range 64).find? fun j => s.stepOp g j == 0).getD 64

/-- The rail a RAIL step names, and its WAIT bit (Table 05.4). -/
def stepRail (w : Word) : Nat := getF w ⟨20, 16⟩
def stepWait (w : Word) : Bool := wbit w 15

/-- The rails of a group's sequence. -/
def State.groupRails (s : State) (g : Nat) : List Nat :=
  ((List.range (s.seqLen g)).filter fun j => s.stepOp g j == 1).map fun j => stepRail (s.step g j)

/-- The group whose sequence names a rail (R138 allows at most one). -/
def State.railGroup (s : State) (n : Nat) : Option Nat := (List.range 8).find? fun g => (s.groupRails g).contains n

/-- The step of a group that names a rail. -/
def State.railStep (s : State) (g n : Nat) : Option Nat :=
  (List.range (s.seqLen g)).find? fun j => s.stepOp g j == 1 && stepRail (s.step g j) == n

/-- State codes of Table 05.1. -/
abbrev rOff := 0
abbrev rOnDelay := 1
abbrev rStart := 2
abbrev rRampUp := 3
abbrev rOn := 4
abbrev rOffDelay := 5
abbrev rRampDown := 6
abbrev rDischarge := 7
abbrev rLatched := 8

/-- State codes of Table 03.5. -/
abbrev gOff := 0
abbrev gTest := 1
abbrev gBoot := 2
abbrev gJoin := 3
abbrev gRun := 4
abbrev gLeave := 5
abbrev gParked := 6
abbrev gBlocked := 7
abbrev gLatched := 8

/-- State of a rail, a stage, a group, a loop slot. -/
def State.railSt (s : State) (n : Nat) : Nat := s.fld (.RAIL_STATUS n) Fld.RAIL_STATUS_STATE
def State.stgSt (s : State) (m : Nat) : Nat := s.fld (.STG_STATE m) Fld.STG_STATE_STATE
def State.groupSt (s : State) (g : Nat) : Nat := s.fld (.TTB_G_STATUS g) Fld.TTB_G_STATUS_STATE
def State.slotSt (s : State) (k : Nat) : Nat := s.fld (.LPS_CTL k) Fld.LPS_CTL_STATE

/-- Rails, stages, groups, slots by number. -/
def allRails : List Nat := List.range 20
def allStages : List Nat := List.range 24
def allGroups : List Nat := List.range 8
def allSlots : List Nat := List.range 32

/-- Every rail is OFF, or LATCHED, which counts as off (R130). [DEDUCED, log 34] -/
def State.railsDown (s : State) : Bool := allRails.all fun n => s.railSt n == rOff || s.railSt n == rLatched

/-- Every rail is OFF: a LATCHED one is not (R436). -/
def State.railsOff (s : State) : Bool := allRails.all fun n => s.railSt n == rOff

/-- An orderly drain is running (R344). -/
def State.draining (s : State) : Bool := s.wd.draining

end Sys2Proof.Machine
end

