-- ==== Sys2Proof/Machine/LineBase.lean ====
section
/-!
DEFINITION. Frames of the Line to the bit (R352, R353), the output queues of the ports (R356) and the sending of a
TRIP (R373), which a fault raise uses.
-/

namespace Sys2Proof.Machine

/-- One step of the CRC-16 with polynomial 0x1021, most significant bit first. -/
def crc16Bit (c : BitVec 16) : BitVec 16 := if c.getLsbD 15 then (c <<< 1) ^^^ 0x1021#16 else c <<< 1

/-- One byte of the CRC-16. -/
def crc16Byte (c : BitVec 16) (b : Byte) : BitVec 16 :=
  crc16Bit (crc16Bit (crc16Bit (crc16Bit (crc16Bit (crc16Bit (crc16Bit (crc16Bit (c ^^^ (b.zeroExtend 16 <<< 8)))))))))

/-- The CRC of R353. -/
def crc16 (l : List Byte) : BitVec 16 := l.foldl crc16Byte 0xFFFF#16

end Sys2Proof.Machine

namespace Sys2Proof

/-! Header fields of Table 17.2. -/
def Frame.typ (f : Frame) : Nat := Machine.getF f.w0 ⟨31, 28⟩
def Frame.cls (f : Frame) : Nat := Machine.getF f.w0 ⟨27, 26⟩
def Frame.path (f : Frame) : Bool := Machine.wbit f.w0 25
def Frame.dst (f : Frame) : Nat := Machine.getF f.w0 ⟨23, 12⟩
def Frame.src (f : Frame) : Nat := Machine.getF f.w0 ⟨11, 0⟩
def Frame.pathLen (f : Frame) : Nat := Machine.getF f.w0 ⟨16, 12⟩
def Frame.hop (f : Frame) : Nat := Machine.getF f.w1 ⟨31, 27⟩
def Frame.ttl (f : Frame) : Nat := Machine.getF f.w1 ⟨26, 19⟩
def Frame.fv (f : Frame) : Bool := Machine.wbit f.w1 18
def Frame.flow (f : Frame) : Nat := Machine.getF f.w1 ⟨17, 11⟩
def Frame.len (f : Frame) : Nat := Machine.getF f.w1 ⟨8, 0⟩
def Frame.arg0 (f : Frame) : Word := f.w2
def Frame.arg1 (f : Frame) : Nat := Machine.getF f.w3 ⟨31, 16⟩
def Frame.hcrc (f : Frame) : Nat := Machine.getF f.w3 ⟨15, 0⟩

/-- The 48 PATH bits of a path frame: two bits per hop (R363). -/
def Frame.pathBits (f : Frame) : Nat := f.w2.toNat + 2 ^ 32 * f.arg1

/-- The HCRC its header should carry (R353): over header bytes 0 to 13. Words are sent least significant byte first
(R352), so bytes 12 and 13 are those of HCRC itself, which is taken as zero (DEDUCED, from the same rule's frame CRC).
[DEDUCED, log 115] -/
def Frame.hcrcOf (f : Frame) : BitVec 16 :=
  Machine.crc16 ((Machine.bytesOfWords [f.w0, f.w1, f.w2, Machine.putF f.w3 ⟨15, 0⟩ 0]).take 14)

/-- The frame CRC its bytes should carry (R353): HOP, TTL and HCRC taken as zero, and the path as well. [DEDUCED, log 115] -/
def Frame.crcOf (f : Frame) : Word :=
  let w1 := Machine.putF (Machine.putF f.w1 ⟨31, 27⟩ 0) ⟨26, 19⟩ 0
  let w2 := if f.path then 0#32 else f.w2
  let w3 := if f.path then 0#32 else Machine.putF f.w3 ⟨15, 0⟩ 0
  Machine.crc32 (Machine.bytesOfWords [f.w0, w1, w2, w3] ++ f.payload)

/-- The frame with its HCRC recomputed. -/
def Frame.sealHeader (f : Frame) : Frame := { f with w3 := Machine.putF f.w3 ⟨15, 0⟩ f.hcrcOf.toNat }

/-- The frame with both check sums computed. -/
def Frame.seal (f : Frame) : Frame := ({ f with crc := f.crcOf } : Frame).sealHeader

/-- The header words of a new frame. -/
def Frame.make (typ cls : Nat) (path : Bool) (dst src hop ttl : Nat) (flow : Option Nat) (arg0 : Word) (arg1 : Nat)
    (payload : List Byte) : Frame :=
  let w0 := Machine.putF (Machine.putF (Machine.putF (Machine.putF (Machine.putF 0#32 ⟨31, 28⟩ typ) ⟨27, 26⟩ cls)
    ⟨25, 25⟩ (Machine.b2n path)) ⟨23, 12⟩ dst) ⟨11, 0⟩ src
  let w1 := Machine.putF (Machine.putF (Machine.putF (Machine.putF (Machine.putF 0#32 ⟨31, 27⟩ hop) ⟨26, 19⟩ ttl)
    ⟨18, 18⟩ (Machine.b2n flow.isSome)) ⟨17, 11⟩ (flow.getD 0)) ⟨8, 0⟩ payload.length
  Frame.seal { w0 := w0, w1 := w1, w2 := arg0, w3 := Machine.putF 0#32 ⟨31, 16⟩ arg1, payload := payload, crc := 0#32, eof := true, charError := false }

end Sys2Proof

namespace Sys2Proof.Machine

/-- The place of a frame in the sending order of R356: TRIP, CHECK, then classes 3 to 0. [DESIGN CHOICE, log 119] -/
def frameRank (f : Frame) : Nat := if f.typ = 4 then 0 else if f.typ = 3 then 1 else 5 - f.cls

/-- Queue a frame behind every frame that goes before it. -/
def queueFrame (f : Frame) : List Frame → List Frame
  | [] => [f]
  | g :: t => if frameRank g ≤ frameRank f then g :: queueFrame f t else f :: g :: t

/-- Frames waiting at a port. -/
def State.txq (s : State) (p : Nat) : List Frame := s.ln.tx.get p []

/-- Queue a frame at a port. -/
def State.send (s : State) (p : Nat) (f : Frame) : State :=
  { s with ln := { s.ln with tx := s.ln.tx.set p (queueFrame f (s.txq p)) } }

/-- State of a port (Table 17.4), and the UP ports. -/
def State.portSt (s : State) (p : Nat) : Nat := s.fld (.LNK_P_STATE p) Fld.LNK_P_STATE_STATE
def State.upPorts (s : State) : List Nat := (List.range 4).filter fun p => s.powered .link && s.portSt p == 3

/-- The station's own address. -/
def State.ownAddr (s : State) : Nat := s.fld .LNK_ADDR Fld.LNK_ADDR_ADDR

/-- Originate a TRIP for a fault source, 0xFF for a register write (R373). Without an UP port it leaves nowhere. -/
def State.sendTrip (s : State) (fsrc : Nat) : State :=
  let ttl := max 1 (s.fld .LNK_CFG Fld.LNK_CFG_TRIPTTL)
  let arg0 := BitVec.ofNat 32 ((s.rd .LNK_UID_LO).toNat % 65536 * 65536 + s.ln.tseq * 256 + fsrc)
  let f := Frame.make 4 3 false 4095 s.ownAddr 0 ttl none arg0 0 []
  let s1 := each s.upPorts (fun p s => s.send p f) s
  let s2 := { s1 with ln := { s1.ln with tseq := (s1.ln.tseq + 1) % 256 } }
  (s2.addSat .LNK_TRIPCNT Fld.LNK_TRIPCNT_SENT 1).setFlagI .LNK_FLAG 9 s.ln.tseq 0

end Sys2Proof.Machine
end

