-- ==== Sys2Proof/Machine/Sense.lean ====
section
/-!
DEFINITION. What the part reads out of the tap table (R162): codes in their units (Table 06.2), sensed outputs, VIN, and
temperatures from thermistors, diodes and on-die sensors (R161).
-/

namespace Sys2Proof.Machine

/-- A channel's code is signed. -/
def chanSigned (x ch : Nat) : Bool :=
  (x == 1 && ((16 ≤ ch && ch < 24) || ch == 25)) || (x == 2 && ch < 3) || ch == 31

/-- The latest result of a channel, as a number of codes. -/
def State.tap (s : State) (x ch : Nat) : Int :=
  let c := s.fld (.SVY_CV_TAP x ch) Fld.SVY_CV_TAP_CODE
  if chanSigned x ch then toSigned 16 c else c

/-- Divider of a rail's sense (SUPnn_CFG.DIV); rails 16 to 19 have none. -/
def State.divider (s : State) (n : Nat) : Nat :=
  if 16 ≤ n then 1 else match s.fld (.SUP_CFG n) Fld.SUP_CFG_DIV with | 1 => 4 | 2 => 16 | _ => 1

/-- Sensed output of a rail in mV, from the tap table (R131, R134, R165). -/
def State.railMv (s : State) (n : Nat) : Nat := (roundOpen (((s.tap 0 n * s.divider n : Int) : Rat) / 10)).toNat

/-- VIN in mV, from the tap table. -/
def State.vinMv (s : State) : Nat := (2 * s.tap 0 20).toNat

/-! ### The house rotation (R165) -/

/-- A rail leaves OFF: its sense channel joins the rotation, and its entry counts only when sampled from now on. -/
def State.joinSense (s : State) (n : Nat) : State := { s with sv := { s.sv with joined := s.sv.joined.set n s.clock.localTicks.toNat } }

/-- The entry of a rail's sense channel is no older than the rail's leaving OFF. -/
def State.sensed (s : State) (n : Nat) : Bool := (s.sv.joined.lookup n).isNone

/-! ### Temperatures (R161, R206) -/

/-- The natural logarithm of a positive number: the power of two below it, and eight
terms of the series of the rest. [PRESUMED, log 176] -/
def lnNat (n : Nat) : Rat :=
  let k := Nat.log2 n
  let z : Rat := ((n - 2 ^ k : Nat) : Rat) / ((n + 2 ^ k : Nat) : Rat)
  (k : Rat) * (693147180559945 / 1000000000000000) + sumR ((List.range 8).map fun j => 2 * z ^ (2 * j + 1) / ((2 * j + 1 : Nat) : Rat))

/-- Temperature in °C of an NTC of 10 kΩ and B = 3435 K behind 10 kΩ to 3.000 V, from a code of 50 µV; none for a code with
no finite resistance. [PRESUMED, log 176] -/
def ntcTemp (c : Nat) : Option Rat :=
  if c = 0 ∨ 60000 ≤ c then none
  else some (1 / (100 / 29815 + (lnNat c - lnNat (60000 - c)) / 3435) - 27315 / 100)

/-- A temperature in steps of 1/`per` °C for a signed field of `w` bits; where there is none in
range it is free. [DESIGN CHOICE, log 190] -/
def State.thermal (s : State) (q : Option Rat) (per w : Nat) : Int × State :=
  let free : Int × State := let p := s.draw; (toSigned w (p.1.toNat % 2 ^ w), p.2)
  match q with
  | none => free
  | some t => let i := roundOpen (t * per); if -(2 ^ (w - 1)) ≤ i ∧ i < 2 ^ (w - 1) then (i, s) else free

/-- Temperature of a stage from its channel of converter B: a thermistor or a diode by SVY_TSNTYPE, or the on-die
sensor (R161). [DESIGN CHOICE, log 190] -/
def State.stageTemp (s : State) (m : Nat) : Option Rat :=
  let c := s.fld (.SVY_CV_TAP 1 m) Fld.SVY_CV_TAP_CODE
  if 16 ≤ m then some ((toSigned 16 c : Rat) / 128) else if s.bit .SVY_TSNTYPE m then some (Config.diodeTemp c) else ntcTemp c

end Sys2Proof.Machine
end

