-- ==== Sys2Proof/Machine/RailOps.lean ====
section
/-!
DEFINITION. What happens on the way down, shared by requests, faults and brown-outs: stages and points going off,
the ends of a re-gang (Table 03.9), rails and groups going off, and the failure record of R156.
-/

namespace Sys2Proof.Machine

/-! ### Stages and points -/

/-- Hidden state of a stage. -/
def State.stgX (s : State) (m : Nat) : StageX := s.sw.stages.get m {}
def State.putStgX (s : State) (m : Nat) (x : StageX) : State := { s with sw := { s.sw with stages := s.sw.stages.set m x } }

/-- The gang of a rail (R76). -/
def State.stgRail (s : State) (m : Nat) : Nat := s.fld (.STG_CFG m) Fld.STG_CFG_RAIL
def State.gang (s : State) (n : Nat) : List Nat := allStages.filter fun m => s.stgRail m == n

/-- A stage of the integrated kind (R75). -/
def integrated (m : Nat) : Bool := 16 ≤ m

/-- The kind of a gang is that of its lowest member (R76). -/
def State.gangIntegrated (s : State) (n : Nat) : Bool := ((s.gang n).head?.map integrated).getD false

/-- The enabled point that binds a stage to a rail, if any (R77). -/
def State.pointOf (s : State) (m r : Nat) : Option Nat :=
  (List.range 8).find? fun k => s.bit (.PNT_CFG k) 31 && s.fld (.PNT_CFG k) Fld.PNT_CFG_STAGE == m &&
    s.fld (.PNT_CFG k) Fld.PNT_CFG_RAIL == r

/-- A stage has a way to a rail: the rail is its HOME, or a point binds it there and HOME names no other rail. R77 lets a
bound stage switch and never closes its point where HOME names another rail: such a stage has no way and is excluded.
[DEDUCED, log 167] -/
def State.routed (s : State) (m r : Nat) : Bool :=
  s.fld (.STG_CFG m) Fld.STG_CFG_HOME == r ||
  (s.fld (.STG_CFG m) Fld.STG_CFG_HOME == 0x1F && (s.pointOf m r).isSome)

/-- A member is excluded: of the wrong kind for its gang, or without a way to its rail (R76, R77). -/
def State.wrongKind (s : State) (m : Nat) : Bool :=
  s.stgRail m < 16 && integrated m != s.gangIntegrated (s.stgRail m)
def State.excluded (s : State) (m : Nat) : Bool :=
  s.stgRail m < 16 && (integrated m != s.gangIntegrated (s.stgRail m) || !s.routed m (s.stgRail m))

/-- Show the exclusion of every stage after a change of the crossbar; the wrong kind sets MIXED (R76). -/
def State.showExcluded (s : State) : State :=
  each allStages (fun m s =>
    let s1 := s.put (.STG_STATE m) Fld.STG_STATE_EXCL (b2n (s.excluded m))
    if s1.wrongKind m then s1.setFlag (.STG_FLAG m) 5 else s1) s

/-- Members that take part in a start: neither excluded, BLOCKED nor LATCHED (R136). -/
def State.startable (s : State) (n : Nat) : List Nat :=
  (s.gang n).filter fun m => !s.excluded m && s.stgSt m != gBlocked && s.stgSt m != gLatched

/-- Members in rotation: JOIN, RUN or LEAVE with a share (R80, R91). -/
def State.inRotation (s : State) (n : Nat) : List Nat :=
  (s.gang n).filter fun m => s.stgSt m == gJoin || s.stgSt m == gRun || (s.stgSt m == gLeave && !(s.stgX m).drained)

/-- Open every point of a stage (R77). -/
def State.openPoints (s : State) (m : Nat) : State :=
  let s1 := { s with pins := { s.pins with closed := s.pins.closed.filter fun k => s.fld (.PNT_CFG k) Fld.PNT_CFG_STAGE != m } }
  s1.put (.STG_STATE m) Fld.STG_STATE_PNT 0

/-- Close a point for its stage. -/
def State.closePoint (s : State) (k m : Nat) : State :=
  let s1 := { s with pins := { s.pins with closed := if s.pins.closed.contains k then s.pins.closed else k :: s.pins.closed } }
  s1.put (.STG_STATE m) Fld.STG_STATE_PNT 1

/-- A stage enters a state with share 0, out of rotation: TRIM 0 (R90, R92). What its last trigger left in STATE stays
(R86). [DEDUCED, log 41] -/
def State.stageRest (s : State) (m st : Nat) : State :=
  let s1 := s.put (.STG_STATE m) Fld.STG_STATE_STATE st
  let s2 := s1.put (.STG_STATE m) Fld.STG_STATE_SHARE 0
  let s3 := s2.put (.STG_TRIM m) Fld.STG_TRIM_TRIM 0
  let x := s3.stgX m
  let s4 : State := { s3 with sw := { s3.sw with wsLimit := s3.sw.wsLimit.filter (· != m) } }
  s4.putStgX m { settling := false, booted := false, drained := false, parking := false, lowSide := false, shareUs := 0, trim := 0, ton := x.ton }

/-- A stage goes OFF: an unfinished test is abandoned, its points open after it (Table 03.6, R77). -/
def State.stageOff (s : State) (m : Nat) : State :=
  let s1 := if s.stgSt m == gTest then s.put (.STG_TEST m) Fld.STG_TEST_RESULT 3 else s
  (s1.stageRest m gOff).openPoints m

/-- A stage is LATCHED unless BLOCKED (Table 03.6). -/
def State.stageLatch (s : State) (m : Nat) : State :=
  if s.stgSt m == gBlocked then s
  else
    let s1 := if s.stgSt m == gTest then s.put (.STG_TEST m) Fld.STG_TEST_RESULT 3 else s
    s1.stageRest m gLatched

/-! ### Re-gang ends (R97, Table 03.9) -/

/-- SWY_STATUS shows no re-gang. -/
def State.regangIdle (s : State) : State :=
  s.wr .SWY_STATUS (putF (putF (putF (s.rd .SWY_STATUS) Fld.SWY_STATUS_REGRAIL 0x1F) Fld.SWY_STATUS_REGSTG 0x1F)
    Fld.SWY_STATUS_REGPHASE 0)

/-- The running re-gang ends with a code; DETAIL bit 0 tells whether the shed of a move was done (R283). -/
def State.regangEnd (s : State) (g : Regang) (code : Nat) (shed : Bool) : State :=
  let s1 := { s with sw := { s.sw with regang := none } }
  s1.regangIdle.complete g.slot code (b2n shed)

/-- The running re-gang and its phase. -/
def State.regangPhase (s : State) : Nat := s.fld .SWY_STATUS Fld.SWY_STATUS_REGPHASE

/-- The stage of an add leaves: OFF, its point opened, idle. -/
def State.regangDropStage (s : State) (m : Nat) : State :=
  ((s.stageOff m).put (.STG_CFG m) Fld.STG_CFG_RAIL 0x1F).showExcluded

/-- An off request, or its own part of a shutdown, reaches a rail of the running re-gang. [DEDUCED, log 39] -/
def State.regangOff (s : State) (n code : Nat) : State :=
  match s.sw.regang with
  | none => s
  | some g =>
    if s.regangPhase = 2 then
      if n = g.source then s.regangEnd g code false
      else if n = g.target then { s with sw := { s.sw with regang := some { g with noAdd := some (g.noAdd.getD code) } } }
      else s
    else if n = g.target then (s.regangDropStage g.stage).regangEnd g code g.shedDone
    else s

/-- A Class B shutdown of the domain or a brown-out shutdown begins: as for an off request on both rails (Table 03.9). -/
def State.regangDown (s : State) (code : Nat) : State :=
  match s.sw.regang with
  | none => s
  | some g =>
    if s.regangPhase = 2 then s.regangEnd g code false else (s.regangDropStage g.stage).regangEnd g code g.shedDone

/-- A Class A reaction reaches a rail of the running re-gang: the stage is LATCHED with the rail it switches for. [DEDUCED,
log 39] -/
def State.regangLatch (s : State) (n : Nat) : State :=
  match s.sw.regang with
  | none => s
  | some g =>
    if n = g.source ∨ n = g.target then
      let r := if s.regangPhase = 2 then g.source else g.target
      (((s.put (.STG_CFG g.stage) Fld.STG_CFG_RAIL r).stageLatch g.stage).showExcluded).regangEnd g 0x21 g.shedDone
    else s

/-! ### Loops of a rail that is down (R122) -/

/-- Hidden state of a loop slot. -/
def State.loopX (s : State) (k : Nat) : LoopX := s.lp.slots.get k {}
def State.putLoopX (s : State) (k : Nat) (x : LoopX) : State := { s with lp := { s.lp with slots := s.lp.slots.set k x } }

/-- The sections of a slot: engine and section numbers (R100). -/
def State.slotSections (s : State) (k : Nat) : List (Nat × Nat) :=
  (List.range (s.fld (.LPS_CFG k) Fld.LPS_CFG_SCNT)).map fun i => (k / 4, s.fld (.LPS_CFG k) Fld.LPS_CFG_SBASE + i)

/-- Clear every section state of a slot. -/
def State.clearSections (s : State) (k : Nat) : State :=
  { s with lp := { s.lp with sections := s.lp.sections.filter fun e => !(s.slotSections k).contains e.1 } }

/-- The destination of a slot (Table 04.1); destinations 3, 4 and 5 have no index. -/
def State.slotDest (s : State) (k : Nat) : Nat × Nat :=
  let d := s.fld (.LPS_OUT k) Fld.LPS_OUT_DEST
  (d, if d = 1 ∨ d = 2 then s.fld (.LPS_OUT k) Fld.LPS_OUT_DSTIDX else 0)

/-- Write a destination. -/
def State.putDest (s : State) (d : Nat × Nat) (v : Rat) : State :=
  if d.1 = 0 then s else { s with lp := { s.lp with dests := s.lp.dests.set d v } }

/-- CLOSED slots of KIND 1 and 2 on a rail that is OFF or LATCHED: states and destination at zero (R122). -/
def State.zeroLoops (s : State) (n : Nat) : State :=
  each (allSlots.filter fun k => s.slotSt k == 2 && s.fld (.LPS_IN k) Fld.LPS_IN_RAIL == n &&
      (s.fld (.LPS_CFG k) Fld.LPS_CFG_KIND == 1 || s.fld (.LPS_CFG k) Fld.LPS_CFG_KIND == 2))
    (fun k s =>
      let s1 := (s.clearSections k).putDest (s.slotDest k) 0
      s1.putLoopX k { s1.loopX k with out := 0, sample := none, exceeded := false }) s

/-- A ramp or a stage of a rail begins to move: its CLOSED slots are under follow watch, and their settle time runs again from
the end of the movement (R123). -/
def State.unsettle (s : State) (n : Nat) : State :=
  each (allSlots.filter fun k => s.slotSt k == 2 && s.fld (.LPS_IN k) Fld.LPS_IN_RAIL == n)
    (fun k s => (s.put (.LPS_STAT k) Fld.LPS_STAT_MWCNT 0).putLoopX k { s.loopX k with settling := true }) s

/-! ### Failure record (R156) -/

/-- A rail failure of Table 05.6: the first is captured and logged, later ones are counted. -/
def State.railFailure (s : State) (n cause : Nat) : State :=
  if s.bit .TTB_FIRST 31 then s.addSat .TTB_FIRST Fld.TTB_FIRST_MORE 1
  else
    let t := s.now
    let grp := s.railGroup n
    let w := putF (putF (putF (putF (putF (putF 0#32 Fld.TTB_FIRST_RAIL n) Fld.TTB_FIRST_GROUP (grp.getD 0))
      Fld.TTB_FIRST_CAUSE cause) Fld.TTB_FIRST_INGRP (b2n grp.isSome)) Fld.TTB_FIRST_LOCAL (b2n t.isLocal))
      Fld.TTB_FIRST_VALID 1
    (((s.wr .TTB_FIRST w).wr .TTB_FIRSTT_LO (timeLo t.time)).wr .TTB_FIRSTT_HI (timeHi t.time)).logRec 0x02 2 t [w]

/-! ### Power-good and reset outputs (R153, R155) -/

/-- Drive a reset output low. -/
def State.resetLow (s : State) (x : Nat) : State := s.putBit .TTB_RSTSTAT x true

/-- PG of a rail goes low: the event, and every released output whose mask holds the rail. -/
def State.pgLow (s : State) (n : Nat) : State :=
  if s.bit (.RAIL_STATUS n) 4 then
    let s1 := (s.putBit (.RAIL_STATUS n) 4 false).condFall (25 + n) 0 0
    each ((List.range 4).filter fun x => s.bit (.TTB_RST_CFG x) n) (fun x s => s.resetLow x) s1
  else s

/-- Stages that were on their way back from a park return to OFF at an off request (Table 03.6). -/
def State.dropTests (s : State) (n : Nat) : State :=
  each ((s.gang n).filter fun m => s.stgSt m == gTest || s.stgSt m == gBoot) (fun m s => s.stageOff m) s

/-- The rail leaves ON: PG low, UV disarmed (R152, R153), no stage under test (Table 03.6). -/
def State.leaveOn (s : State) (n : Nat) : State :=
  let s1 := (s.pgLow n).dropTests n
  let s2 := s1.put (.SUP_STATUS n) Fld.SUP_STATUS_UVARM 0
  { s2 with tt := { s2.tt with pgSince := s2.tt.pgSince.filter (· != n) } }

/-! ### Rails on the way down -/

/-- Set a rail's state. -/
def State.setRail (s : State) (n st : Nat) : State := s.put (.RAIL_STATUS n) Fld.RAIL_STATUS_STATE st

/-- Stop a rail's ramp. -/
def State.stopRamp (s : State) (n : Nat) : State := { s with tt := { s.tt with ramps := s.tt.ramps.filter fun e => e.1 != n } }

/-- Start a ramp from the present setpoint; `time` is the ramp time in 10 µs units for `full` mV (R132). -/
def State.startRamp (s : State) (n target full time : Nat) : State :=
  let r : Ramp := { start := s.fld (.RAIL_STATUS n) Fld.RAIL_STATUS_SETP, target := target,
                    slope := (full : Rat) / ((10 * time : Nat) : Rat) }
  ({ s with tt := { s.tt with ramps := s.tt.ramps.set n r } } : State).unsettle n

/-- Brown-out: every rail is OFF or LATCHED, so the shutdown ends (R148). -/
def State.boutCheck (s : State) : State :=
  if s.bit .TTB_BSTAT 0 && s.railsDown then
    let s1 := ((s.putBit .TTB_BSTAT 0 false).putBit .TTB_BSTAT 1 true)
    let s2 := { s1 with tt := { s1.tt with bout := { s1.tt.bout with ended := s1.now, endTick := s1.clock.localTicks } } }
    s2.happen 64 (s2.fld .TTB_BSTAT Fld.TTB_BSTAT_EPIS) 0
  else s

/-- A rail reaches OFF: setpoint 0, its stages OFF unless BLOCKED or LATCHED, OV disarmed, its loops at zero (Table
05.1, Table 03.6, R122, R152). -/
def State.railToOff (s : State) (n : Nat) : State :=
  let s1 := (s.leaveOn n).stopRamp n
  let s2 := (s1.setRail n rOff).put (.RAIL_STATUS n) Fld.RAIL_STATUS_SETP 0
  let s3 := each ((s2.gang n).filter fun m => s2.stgSt m != gBlocked && s2.stgSt m != gLatched) (fun m s => s.stageOff m) s2
  let s4 := (s3.put (.SUP_STATUS n) Fld.SUP_STATUS_OVARM 0).zeroLoops n
  s4.boutCheck

/-- A rail enters RAMP_DOWN from its present setpoint, at the off-ramp slope (R132): an off sequence, which ends a re-gang of
the rail (Table 03.9). The slope is that of VSET as it stands at the start of the ramp, a value written in OFF_DELAY
included. [DEDUCED, log 168] -/
def State.rampDown (s0 : State) (n : Nat) : State :=
  let s := s0.regangOff n 0x39
  ((s.leaveOn n).setRail n rRampDown).startRamp n 0 (s.fld (.RAIL_VSET n) Fld.RAIL_VSET_VSET)
    (s.fld (.RAIL_OFFRAMP n) Fld.RAIL_OFFRAMP_TIME)

/-- The internal 100 Ω pull-down of an LDO rail is connected: from RAMP_DOWN until OFF (R133). -/
def State.pullDown (s : State) (n : Nat) : Bool := 16 ≤ n && (s.railSt n == rRampDown || s.railSt n == rDischarge)

/-- Off delays and WAIT holds count as 0: in a brown-out shutdown with FAST, or an orderly drain (R147, R344). -/
def State.fastOff (s : State) : Bool := (s.bit .TTB_BSTAT 0 && s.bit .TTB_BOUT 31) || s.draining

/-- An off request takes effect on a rail (Table 05.2); `code` is what a re-gang of the rail ends with. [DESIGN CHOICE, log
47] -/
def State.railOff (s : State) (n : Nat) (code : Nat := 0x39) : State :=
  let s := s.put (.RAIL_STATUS n) Fld.RAIL_STATUS_PEND 0
  let st := s.railSt n
  if st = rOnDelay ∨ st = rStart then (s.regangOff n code).railToOff n
  else if st = rRampUp then ((s.regangOff n code).rampDown n).setFlag (.RAIL_FLAG n) 2
  else if st = rOn then
    let s1 := s.regangOff n code
    if s1.fastOff then s1.rampDown n else (s1.leaveOn n).setRail n rOffDelay
  else if st = rOffDelay then
    let s1 := s.regangOff n code
    if s1.fastOff then s1.rampDown n else s1
  else s

/-- A Class A reaction latches a rail (Table 10.2, R122, R156). `src` is the source that latches it. On a rail that is LATCHED
already it latches the stages that are not (Table 03.6). -/
def State.latchRail (s : State) (src n : Nat) : State :=
  let s0 := { s with fl := { s.fl with latches := if s.fl.latches.contains (src, n) then s.fl.latches else (src, n) :: s.fl.latches } }
  if s0.railSt n = rLatched then
    let s1 := s0.regangLatch n
    each ((s1.gang n).filter fun m => s1.stgSt m != gLatched) (fun m s => s.stageLatch m) s1
  else
    let s1 := s0.regangLatch n
    let s2 := (s1.leaveOn n).stopRamp n
    let s3 := (s2.setRail n rLatched).put (.RAIL_STATUS n) Fld.RAIL_STATUS_SETP 0
    let s4 := (s3.put (.RAIL_STATUS n) Fld.RAIL_STATUS_PEND 0).setFlag (.RAIL_FLAG n) 0
    let s5 := each (s4.gang n) (fun m s => s.stageLatch m) s4
    let s6 := (s5.put (.SUP_STATUS n) Fld.SUP_STATUS_OVARM 0).zeroLoops n
    let s7 := if src = 56 + n ∨ src = 76 + n ∨ src = 96 + n ∨ src = 116 + n then s6 else s6.railFailure n 6
    s7.boutCheck

/-! ### Targets (R240) -/

/-- The rail a slot's loop stands for: IN.RAIL for KIND 1 and 2. -/
def State.loopRail (s : State) (k : Nat) : Option Nat :=
  let kind := s.fld (.LPS_CFG k) Fld.LPS_CFG_KIND
  let n := s.fld (.LPS_IN k) Fld.LPS_IN_RAIL
  if (kind = 1 ∨ kind = 2) ∧ n < 20 then some n else none

/-- The own rail of a source (Table 10.1). -/
def State.ownRail (s : State) (f : Nat) : Option Nat :=
  if f < 48 then (if s.stgRail (f % 24) < 16 then some (s.stgRail (f % 24)) else none)
  else if 56 ≤ f ∧ f < 156 then some ((f - 56) % 20)
  else if 156 ≤ f ∧ f < 220 then s.loopRail ((f - 156) % 32)
  else none

/-- A rail is marked in the ESSENTIAL field of the running stream (Table 02.2). -/
def State.essential (s : State) (n : Nat) : Bool := (wordsOfBytes ((s.tp.stream.drop 28).take 4)).headD 0#32 |>.getLsbD n

/-- The target rails of a source: its own rail and those of TGT.RAILS. -/
def State.targetRails (s : State) (f : Nat) : List Nat :=
  allRails.filter fun n => decide (s.ownRail f = some n) || (s.rd (.FLT_TGT f)).getLsbD n

/-- The domain whose restore failed: the cause of TPL_RESTORE_FAIL, source 52 (R71). -/
def State.failedDom (s : State) : Nat := s.fld (.FLT_CAUSE 6) ⟨19, 16⟩

/-- The Class B groups of a source: TGT.GROUPS, or those of its domain, or all; for OTP_LOST those that hold a rail
that is not essential (R335). -/
def State.targetGroups (s : State) (f : Nat) : List Nat :=
  if f = 53 then allGroups.filter fun g => (s.groupRails g).any fun n => !s.essential n
  else if f = 52 then allGroups.filter fun g => s.groupDom g == some s.failedDom || (s.fld (.FLT_TGT f) Fld.FLT_TGT_GROUPS).testBit g
  else
  let m := s.fld (.FLT_TGT f) Fld.FLT_TGT_GROUPS
  if m = 0 then
    match s.faultDom f with
    | some d => allGroups.filter fun g => decide (s.groupDom g = some d)
    | none => allGroups
  else allGroups.filter fun g => m.testBit g

/-- The ungrouped rails a Class B reaction takes down. -/
def State.targetLoose (s : State) (f : Nat) : List Nat :=
  if f = 53 then allRails.filter fun n => (s.railGroup n).isNone && !s.essential n
  else if f = 52 then allRails.filter fun n => (s.railGroup n).isNone && (s.railDom n == some s.failedDom || (s.targetRails f).contains n)
  else
  let all := s.fld (.FLT_TGT f) Fld.FLT_TGT_GROUPS = 0
  allRails.filter fun n => (s.railGroup n).isNone &&
    ((s.targetRails f).contains n ||
      (all && (match s.faultDom f with | some d => decide (s.railDom n = some d) | none => true)))

/-! ### Groups on the way down -/

/-- Hidden state of a group. -/
def State.grpX (s : State) (g : Nat) : GroupX := s.tt.groups.get g {}
def State.putGrpX (s : State) (g : Nat) (x : GroupX) : State := { s with tt := { s.tt with groups := s.tt.groups.set g x } }

/-- A Class B fault of the group's domain, or one that has the group as a target, is latched (R144, R335). [DEDUCED, log 89] -/
def State.classBLatched (s : State) (g : Nat) : Bool :=
  (List.range 256).any fun f => s.bit (.FLT_STAT (f / 32)) (f % 32) && s.fld (.FLT_CFG f) Fld.FLT_CFG_CLASS == 1 &&
    ((s.faultDom f).isSome && decide (s.faultDom f = s.groupDom g) || (s.targetGroups f).contains g)

/-- CLASSB ends once the group is OFF and every Class B fault of its domain is cleared (R144). [DEDUCED, log 89] -/
def State.classBCheck (s : State) (g : Nat) : State :=
  if s.groupSt g == 0 && !s.classBLatched g then s.put (.TTB_G_STATUS g) Fld.TTB_G_STATUS_CLASSB 0 else s

/-- Set a group's state, with the events of entering and leaving UP and OFF (R158). [DEDUCED, log 50] -/
def State.setGroup (s : State) (g st : Nat) : State :=
  let old := s.groupSt g
  let s1 := s.put (.TTB_G_STATUS g) Fld.TTB_G_STATUS_STATE st
  if old = st then s1
  else
    let s2 := if old = 2 then s1.condFall (45 + g) 0 0 else if old = 0 then s1.condFall (53 + g) 0 0 else s1
    if st = 2 then s2.condRise (45 + g) 0 0 false else if st = 0 then s2.condRise (53 + g) 0 0 false else s2

/-- A group becomes OFF (R140, R143, R144). -/
def State.groupToOff (s : State) (g : Nat) : State :=
  let s1 := s.setGroup g 0
  let s2 := ((s1.put (.TTB_G_STATUS g) Fld.TTB_G_STATUS_DEGRADED 0).put (.TTB_G_STATUS g) Fld.TTB_G_STATUS_BOUT 0)
  (s2.putGrpX g {}).classBCheck g

/-- The reverse action of step `j` (Table 05.4). -/
def State.stepReverse (s : State) (g j : Nat) (code : Nat := 0x39) : State :=
  let w := s.step g j
  let s1 := ((s.put (.TTB_G_STATUS g) Fld.TTB_G_STATUS_STEP j).put (.TTB_G_STATUS g) Fld.TTB_G_STATUS_DIR 1).putGrpX g {}
  match s.stepOp g j with
  | 1 => s1.railOff (stepRail w) code
  | 3 => (s1.resetLow (getF w ⟨17, 16⟩)).putBit .TTB_RSTSTAT (4 + getF w ⟨17, 16⟩) false
  | 4 => s1.message 62 (g + 256) (getF w ⟨7, 0⟩)
  | _ => s1

/-- An off request takes effect on a group (R139, R141, R142): from UP it starts before END, a RISING group
reverses its present step at once. -/
def State.groupOff (s : State) (g : Nat) (code : Nat := 0x39) : State :=
  match s.groupSt g with
  | 2 =>
    if s.seqLen g = 0 then s.groupToOff g
    else (s.setGroup g 3).stepReverse g (s.seqLen g - 1) code
  | 1 => ((s.setGroup g 3).setFlag (.TTB_G_FLAG g) 0).stepReverse g (s.fld (.TTB_G_STATUS g) Fld.TTB_G_STATUS_STEP) code
  | _ => s

/-- How a group takes a failed start of one of its rails (R143): it reverses, or its hold ends and it goes on
DEGRADED. -/
def State.groupStartFail (s : State) (n : Nat) : State :=
  match s.railGroup n with
  | none => s
  | some g =>
    if s.groupSt g = 1 then
      let s1 := s.setFlag (.TTB_G_FLAG g) 1
      if s1.bit (.TTB_G_CFG g) 1 then
        (s1.put (.TTB_G_STATUS g) Fld.TTB_G_STATUS_DEGRADED 1).putGrpX g { s1.grpX g with
          holdOver := (s1.grpX g).holdOver ||
            decide (s1.railStep g n = some (s1.fld (.TTB_G_STATUS g) Fld.TTB_G_STATUS_STEP)) }
      else s1.groupOff g
    else s

/-- How a group takes a LATCHED rail (R145): a start failure at the rail's own step while RISING, DEGRADED while UP. -/
def State.groupLatched (s : State) (n : Nat) : State :=
  match s.railGroup n with
  | none => s
  | some g =>
    if s.groupSt g = 1 ∧ s.railStep g n = some (s.fld (.TTB_G_STATUS g) Fld.TTB_G_STATUS_STEP) then s.groupStartFail n
    else if s.groupSt g = 2 then s.put (.TTB_G_STATUS g) Fld.TTB_G_STATUS_DEGRADED 1
    else s

end Sys2Proof.Machine
end

