-- ==== Sys2Proof/Machine/FaultOps.lean ====
section
/-!
DEFINITION. The raise of a fault source and the reactions of its class (R239 to R252), and what a raise does to a
partial reload (R68). Every raise in the model goes through `State.raise`.
-/

namespace Sys2Proof.Machine

/-! ### Aborting a reload (R68) -/

/-- The reload aborts with a code, unless its loops have closed (phase 7 and later) or it is aborted already; the
restore of R69 is the next phase of its command. [DESIGN CHOICE, log 30] -/
def State.reloadAbort (s : State) (code : Nat) : State :=
  match s.tp.reload with
  | none => s
  | some r =>
    let ph := s.fld .TPL_STATUS Fld.TPL_STATUS_PHASE
    if r.abort.isNone ∧ 1 ≤ ph ∧ ph ≤ 6 then
      let w := putF (putF (putF (s.rd .TPL_STATUS) Fld.TPL_STATUS_STATE 4) Fld.TPL_STATUS_PHASE 9) Fld.TPL_STATUS_LASTREF code
      { s.wr .TPL_STATUS w with tp := { s.tp with reload := some { r with abort := some code } } }
    else s

/-- The domain being restored, if any. -/
def State.restoring (s : State) : Option Nat :=
  match s.tp.reload with
  | some r => if r.abort.isSome then some r.dom else none
  | none => none

/-! ### FAULT_N (R245) -/

/-- A latched source drives FAULT_N by its present class and FN. -/
def State.drives (s : State) (f : Nat) : Bool :=
  s.bit (.FLT_STAT (f / 32)) (f % 32) && !s.fl.dry.contains f && (s.fld (.FLT_CFG f) Fld.FLT_CFG_CLASS != 0 || s.bit (.FLT_CFG f) 0)

/-- Some latched source drives FAULT_N. -/
def State.anyDrive (s : State) : Bool := (List.range 256).any s.drives

/-- Bring FAULT_N up to date: an assertion starts the 20 µs minimum, and after it the pin follows the bits. [DESIGN CHOICE,
log 164] -/
def State.faultPin (s : State) : State :=
  if s.anyDrive then
    if s.pins.faultN then s else { s with pins := { s.pins with faultN := true, faultNMin := true } }
  else if s.pins.faultNMin then s else { s with pins := { s.pins with faultN := false } }

/-! ### The reactions (Table 10.2) -/

/-- Class A: every target rail and its stages are LATCHED, the groups follow R145. -/
def State.reactA (s : State) (f : Nat) : State :=
  each (s.targetRails f) (fun n s => (s.latchRail f n).groupLatched n) s

/-- A shutdown's off request to a group; in the domain under restore it waits for the loops to close (R70). -/
def State.groupOffLater (s : State) (g code : Nat) : State :=
  match s.tp.reload with
  | some r =>
    if r.abort.isSome ∧ s.groupDom g = some r.dom then
      { s with tp := { s.tp with reload := some { r with offGroups := if r.offGroups.contains g then r.offGroups else r.offGroups ++ [g] } } }
    else s.groupOff g code
  | none => s.groupOff g code

/-- A shutdown's off request to an ungrouped rail; in the domain under restore it waits for the loops to close (R70). -/
def State.railOffLater (s : State) (n code : Nat) : State :=
  match s.tp.reload with
  | some r =>
    if r.abort.isSome ∧ s.railDom n = some r.dom then
      { s with tp := { s.tp with reload := some { r with offRails := if r.offRails.contains n then r.offRails else r.offRails ++ [n] } } }
    else s.railOff n code
  | none => s.railOff n code

/-- A Class B off request to a group: CLASSB is set, the requests its rails hold are dropped (R135), and it goes down. -/
def State.groupOffB (s : State) (g : Nat) : State :=
  let s1 := s.put (.TTB_G_STATUS g) Fld.TTB_G_STATUS_CLASSB 1
  (each (s1.groupRails g) (fun n s => s.put (.RAIL_STATUS n) Fld.RAIL_STATUS_PEND 0) s1).groupOffLater g 0x21

/-- A Class B off request to an ungrouped rail, which is refused from now on (R129, R240). -/
def State.railOffB (s : State) (f n : Nat) : State :=
  let s1 : State := { s with fl := { s.fl with refusals := if s.fl.refusals.contains (f, n) then s.fl.refusals else (f, n) :: s.fl.refusals } }
  s1.railOffLater n 0x21

/-- A Class B reaction concerns the running re-gang: the source is of the stage's domain, or a rail of the re-gang is among
its targets. [DEDUCED, log 39] -/
def State.meetsRegang (s : State) (f : Nat) : Bool :=
  match s.sw.regang with
  | none => false
  | some g =>
    ((s.faultDom f).isSome && decide (s.faultDom f = s.stageDom g.stage)) ||
    [g.source, g.target].any fun n => (s.targetLoose f).contains n || (s.railGroup n).any (s.targetGroups f).contains

/-- The source is noted while an off request to one of its targets waits for a restore (R243). -/
def State.offsWait (s : State) (f : Nat) : State :=
  match s.tp.reload with
  | some r =>
    if (s.targetGroups f).any r.offGroups.contains || (s.targetLoose f).any r.offRails.contains then
      { s with tp := { s.tp with reload := some { r with offSrcs := f :: r.offSrcs } } }
    else s
  | none => s

/-- Off requests of the source have not been issued yet: its reactions are not complete (R243). -/
def State.offsHeld (s : State) (f : Nat) : Bool :=
  match s.tp.reload with
  | some r => r.offSrcs.contains f
  | none => false

/-- Class B: a re-gang of the domain ends, then off requests to each target group and each target ungrouped rail. OTP_LOST waits for the trackplan
that names its targets (R335). -/
def State.reactB (s : State) (f : Nat) : State :=
  if f = 53 ∧ s.tp.released = false then s
  else
    let s1 := if s.meetsRegang f then s.regangDown 0x21 else s
    (each (s.targetLoose f) (fun n s => s.railOffB f n) (each (s.targetGroups f) (fun g s => s.groupOffB g) s1)).offsWait f

/-- The reaction of a class, with the abort of a reload of the source's domain first (R68, R242). -/
def State.react (s : State) (f cls : Nat) : State :=
  let s1 := match s.tp.reload with
    | some r => if cls ≠ 0 ∧ s.faultDom f = some r.dom then s.reloadAbort 0x21 else s
    | none => s
  if cls = 2 then s1.reactA f else if cls = 1 then s1.reactB f else s1

/-! ### Counts and captures -/

/-- Present count of a source (FLT_CNT). -/
def State.fltCount (s : State) (f : Nat) : Nat :=
  s.fld (.FLT_CNT (f / 2)) (if f % 2 = 1 then Fld.FLT_CNT_ODD else Fld.FLT_CNT_EVEN)

/-- Add 1 to a source's count. -/
def State.countFault (s : State) (f : Nat) : State :=
  s.addSat (.FLT_CNT (f / 2)) (if f % 2 = 1 then Fld.FLT_CNT_ODD else Fld.FLT_CNT_EVEN) 1

/-- The cause captured for a source. -/
def causeField (f : Nat) : Field := ⟨4 * (f % 8) + 3, 4 * (f % 8)⟩
def State.fltCause (s : State) (f : Nat) : Nat := s.fld (.FLT_CAUSE (f / 8)) (causeField f)

/-- A source is latched. -/
def State.latched (s : State) (f : Nat) : Bool := s.bit (.FLT_STAT (f / 32)) (f % 32)

/-- Show or end the cause of a LEVEL source. -/
def State.live (s : State) (f : Nat) (b : Bool) : State := s.putBit (.FLT_LIVE (f / 32)) (f % 32) b

/-- Capture the first Class A or B raise (R250). -/
def State.captureFirst (s : State) (f cls cause : Nat) : State :=
  if cls = 0 ∨ s.bit .FLT_FIRST 31 = true then s
  else
    let t := s.now
    let w := putF (putF (putF (putF (putF 0#32 Fld.FLT_FIRST_SOURCE f) Fld.FLT_FIRST_CLASS cls) Fld.FLT_FIRST_CAUSE cause)
      Fld.FLT_FIRST_LOCAL (b2n t.isLocal)) Fld.FLT_FIRST_VALID 1
    ((s.wr .FLT_FIRST w).wr .FLT_FIRSTT_LO (timeLo t.time)).wr .FLT_FIRSTT_HI (timeHi t.time)

/-- The fault-log record of a raise or a clear (R249, Table 14.5 kind 0x01). [DEDUCED, log 91] -/
def State.logFault (s : State) (f cls cause : Nat) (clear : Bool) : State :=
  if s.bit (.FLT_CFG f) 1 then
    s.logRec 0x01 2 s.now [BitVec.ofNat 32 (f + 2 ^ 8 * cls + 2 ^ 12 * cause + 2 ^ 16 * b2n clear), BitVec.ofNat 32 (s.fltCount f)]
  else s

/-- A dump is requested, or counted in the one being written (R251). -/
def State.requestDump (s : State) (f cause : Nat) : State :=
  match s.ld.dump with
  | some d => { s with ld := { s.ld with dump := some { d with further := d.further + 1 } } }
  | none => { s with ld := { s.ld with dump := some { src := f, trap := if f = 55 then cause else 0, stamp := s.now } } }

/-- The FAULT message of a raise or a clear (R248, R270). -/
def State.faultMessage (s : State) (f cls cause : Nat) (clear : Bool) : State :=
  s.message 0 f (0x80 * b2n clear + 0x10 * cls + cause) (s.fltCount f)

/-- A raise whose source's bit is 0: the bit, the cause, the count, then the reaction and FAULT_N, the captures and
the record (R239, R248 to R252). With `dry` it takes no reaction, drives no pin and sends no TRIP (R255). -/
def State.raiseNew (s : State) (f cause : Nat) (dry : Bool) : State :=
  let cls := s.fld (.FLT_CFG f) Fld.FLT_CFG_CLASS
  let s1 := ((s.putBit (.FLT_STAT (f / 32)) (f % 32) true).put (.FLT_CAUSE (f / 8)) (causeField f) cause).countFault f
  let s2 := if dry then { s1 with fl := { s1.fl with dry := f :: s1.fl.dry } } else (s1.react f cls).faultPin
  let s3 := (s2.captureFirst f cls cause).logFault f cls cause false
  let s4 := if s.bit (.FLT_CFG f) 2 then s3.requestDump f cause else s3
  let s5 := if s.bit (.FLT_CFG f) 4 && !dry then s4.sendTrip f else s4
  s5.faultMessage f cls cause false

/-- A raise of a fault source (R239). -/
def State.raise (s : State) (f cause : Nat) (dry : Bool := false) : State :=
  if s.latched f then s.countFault f else s.raiseNew f cause dry

/-! ### The clear (R243, R244) -/

/-- Rails that no Class A source latches any longer leave LATCHED for OFF, and LATCHED stages whose rail is not
LATCHED with them. -/
def State.unlatch (s : State) : State :=
  let s1 := each (allRails.filter fun n => s.railSt n == rLatched && !(s.fl.latches.any fun e => e.2 == n))
    (fun n s => s.setRail n rOff) s
  each (allStages.filter fun m => s1.stgSt m == gLatched &&
      !(s1.stgRail m < 20 && s1.railSt (s1.stgRail m) == rLatched)) (fun m s => s.stageOff m) s1

/-- A clear of one source takes effect, unless its bit is 0, its cause is still present or its reactions are not complete
(R243). -/
def State.clearFault (s : State) (f : Nat) : State :=
  if s.latched f && !s.bit (.FLT_LIVE (f / 32)) (f % 32) && !s.offsHeld f then
    let cls := s.fld (.FLT_CFG f) Fld.FLT_CFG_CLASS
    let cause := s.fltCause f
    let s1 := s.putBit (.FLT_STAT (f / 32)) (f % 32) false
    let s2 := { s1 with fl := { s1.fl with
      latches := s1.fl.latches.filter (fun e => e.1 != f), refusals := s1.fl.refusals.filter (fun e => e.1 != f),
      dry := s1.fl.dry.filter (· != f) } }
    let s3 := (each allGroups (fun g s => s.classBCheck g) s2.unlatch).faultPin
    (s3.logFault f cls cause true).faultMessage f cls cause true
  else s

end Sys2Proof.Machine
end

