-- ==== Sys2Proof/Machine/StartOps.lean ====
section
/-!
DEFINITION. What happens on the way up: arming the supervisors (R152), rails and groups starting (Table 05.2, R139 to
R145), start failures (R136).
-/

namespace Sys2Proof.Machine

/-! ### Arming (R152) -/

/-- An armed OV crossing: the flag, PG low, the failure record, the raise (R152, R153, R156). [DEDUCED, log 51] -/
def State.ovFires (s : State) (n : Nat) : State :=
  (((s.setFlag (.SUP_FLAG n) 1).pgLow n).railFailure n 4).raise (56 + n) 0

/-- An armed UV crossing. [DEDUCED, log 51] -/
def State.uvFires (s : State) (n : Nat) : State :=
  (((s.setFlag (.SUP_FLAG n) 0).pgLow n).railFailure n 3).raise (76 + n) 0

/-- Arm OV as the rail leaves OFF; a crossing already counted is an armed one now. -/
def State.armOv (s : State) (n : Nat) : State :=
  let s1 := s.put (.SUP_STATUS n) Fld.SUP_STATUS_OVARM 1
  if s1.bit (.SUP_STATUS n) 1 then s1.ovFires n else s1

/-- Arm UV at the first PG since ON. -/
def State.armUv (s : State) (n : Nat) : State :=
  let s1 := s.put (.SUP_STATUS n) Fld.SUP_STATUS_UVARM 1
  if s1.bit (.SUP_STATUS n) 0 then s1.uvFires n else s1

/-! ### Rails going up -/

/-- A held DEEP request is dropped with a cause (R436). -/
def State.deepDrop (s : State) (why : Nat) : State :=
  if s.bit .PWR_STATUS 4 then
    ((s.putBit .PWR_STATUS 4 false).put .PWR_FLAG Fld.PWR_FLAG_WHY why).setFlagI .PWR_FLAG 0 why 0
  else s

/-- A Class B shutdown of the rail's domain, or one that named the rail, is in force (R129, R144). -/
def State.railClassB (s : State) (n : Nat) : Bool :=
  s.fl.refusals.any (fun e => e.2 == n) ||
  (match s.railDom n with
   | some d => allGroups.any fun g => decide (s.groupDom g = some d) && s.bit (.TTB_G_STATUS g) 5
   | none => false)

/-- The safe trim set is in use and the rail is not essential (R335). -/
def State.railUnsafe (s : State) (n : Nat) : Bool := s.fld .OTP_STATUS Fld.OTP_STATUS_SAFE == 1 && !s.essential n

/-- The ride-through budget no longer counts a rail as shed (R235). [DEDUCED, log 83] -/
def State.unshed (s : State) (n : Nat) : State :=
  let s1 := (s.putBit .POL_RIDESHED n false).put (.POL_R_STATE n) Fld.POL_R_STATE_SHED 0
  { s1 with po := { s1.po with shed := s1.po.shed.filter (· != n) } }

/-- Ship mode is requested: every on request is refused (R191). -/
def State.shipPend (s : State) : Bool := s.bit .BKP_STATUS 9

/-- An on request to the rail is refused (R129, R191, R335). [DEDUCED, log 49] -/
def State.railRefused (s : State) (n : Nat) : Bool :=
  (s.railDom n).isNone || s.fld (.RAIL_VSET n) Fld.RAIL_VSET_VSET == 0 || s.railSt n == rLatched ||
  s.railClassB n || s.tt.bout.inForce || s.railUnsafe n || s.shipPend

/-- An OFF rail starts: ON_DELAY, with OV armed (Table 05.2, R152). -/
def State.railStart (s : State) (n : Nat) : State := ((s.setRail n rOnDelay).joinSense n).armOv n

/-- Hold an on request until OFF (R135). -/
def State.railHold (s : State) (n : Nat) : State :=
  (s.put (.RAIL_STATUS n) Fld.RAIL_STATUS_PEND 1).setFlag (.RAIL_FLAG n) 1

/-- Move the setpoint towards VSET at the on-ramp slope (R132). -/
def State.rampToVset (s : State) (n : Nat) : State :=
  let v := s.fld (.RAIL_VSET n) Fld.RAIL_VSET_VSET
  s.startRamp n v v (s.fld (.RAIL_ONRAMP n) Fld.RAIL_ONRAMP_TIME)

/-- An on request that is not refused takes effect on a rail (Table 05.2, Table 05.3). [DESIGN CHOICE, log 47] -/
def State.railOnNow (s : State) (n : Nat) : State :=
  let s := s.deepDrop 1
  let full := s.bit (.RAIL_CTL n) 8
  let st := s.railSt n
  if st = rOff then s.railStart n
  else if st = rOffDelay then
    if full then s.railHold n
    else
      let s1 := s.setRail n rOn
      if s1.fld (.RAIL_STATUS n) Fld.RAIL_STATUS_SETP = s1.fld (.RAIL_VSET n) Fld.RAIL_VSET_VSET then s1 else s1.rampToVset n
  else if st = rRampDown then
    if full then s.railHold n else ((s.setRail n rRampUp).rampToVset n).setFlag (.RAIL_FLAG n) 2
  else if st = rDischarge then s.railHold n
  else s

/-- An on request to a rail, refused or not. [DEDUCED, log 49] -/
def State.railOn (s : State) (n : Nat) : State :=
  if s.railRefused n then s.setFlag (.RAIL_FLAG n) 5 else s.railOnNow n

/-- A rail enters RAMP_UP from the sensed output, its stages in RUN (R131, Table 05.1). -/
def State.railRampUp (s : State) (n : Nat) : State :=
  let s1 := s.put (.RAIL_STATUS n) Fld.RAIL_STATUS_SETP (min (s.railMv n) (s.fld (.RAIL_VSET n) Fld.RAIL_VSET_VSET))
  (s1.setRail n rRampUp).rampToVset n

/-- A stage runs its shorted-high-side test (R88). -/
def State.stageTest (s : State) (m : Nat) : State :=
  ((s.put (.STG_STATE m) Fld.STG_STATE_STATE gTest).putStgX m { s.stgX m with settling := false, booted := false }).unsettle (s.stgRail m)

/-- A stage makes ready for its rail: its point closes and settles first when the rail is not its HOME (R77). [DEDUCED, log
38] -/
def State.stageBegin (s : State) (n m : Nat) : State :=
  if s.fld (.STG_CFG m) Fld.STG_CFG_HOME = n then s.stageTest m
  else match s.pointOf m n with
    | some k => ((s.closePoint k m).putStgX m { s.stgX m with settling := true }).unsettle n
    | none => s

/-- A rail start fails (R136, R143): back to OFF from START, down the ramp from ON. [DEDUCED, log 49] -/
def State.startFail (s : State) (n cause : Nat) : State :=
  let s1 := ((s.regangOff n 0x39).setFlag (.RAIL_FLAG n) 4).railFailure n cause
  let s2 := if s1.railSt n = rStart then s1.railToOff n else s1.rampDown n
  (s2.raise (96 + n) 0).groupStartFail n

/-- A rail in START goes on: an LDO ramps, the stages that take part are tested. -/
def State.startGo (s : State) (n : Nat) : State :=
  if 16 ≤ n then s.railRampUp n else each (s.startable n) (fun m s => s.stageBegin n m) s

/-- ONDLY has elapsed: START, where a gang that cannot take part fails (R130, R136). The rest waits for a conversion of the
rail's sense channel sampled after the rail left OFF (R165). -/
def State.railEnterStart (s : State) (n : Nat) : State :=
  let s1 := s.setRail n rStart
  if n < 16 ∧ s1.startable n = [] then s1.startFail n 7 else if s1.sensed n then s1.startGo n else s1

/-- Every member that takes part has left BOOT: all enter RUN together and the rail ramps (Table 03.6). -/
def State.gangRuns (s : State) (n : Nat) : State :=
  if (s.startable n).all (fun m => (s.stgX m).booted) then
    let s1 := each (s.startable n) (fun m s =>
      ((s.put (.STG_STATE m) Fld.STG_STATE_STATE gRun).put (.STG_STATE m) Fld.STG_STATE_SHARE 0x80).putStgX m
        { s.stgX m with booted := false }) s
    s1.railRampUp n
  else s

/-- A rail has reached OFF with a request held: the request runs now, by the rules of any on request (R135, R129). -/
def State.runHeld (s : State) (n : Nat) : State :=
  if s.bit (.RAIL_STATUS n) 5 then
    (s.put (.RAIL_STATUS n) Fld.RAIL_STATUS_PEND 0).railOn n
  else s

/-! ### Groups going up -/

/-- The forward action of step `j`, or UP after the last step (Table 05.4, R140, R142, R145). [DESIGN CHOICE, log 47] -/
def State.stepForward (s : State) (g j : Nat) : State :=
  if s.seqLen g ≤ j then
    ((s.put (.TTB_G_STATUS g) Fld.TTB_G_STATUS_STEP j).setGroup g 2).putGrpX g {}
  else
    let w := s.step g j
    let s1 := ((s.put (.TTB_G_STATUS g) Fld.TTB_G_STATUS_STEP j).put (.TTB_G_STATUS g) Fld.TTB_G_STATUS_DIR 0).putGrpX g {}
    match s.stepOp g j with
    | 1 =>
      let n := stepRail w
      if s1.railSt n = rLatched ∨ s1.railUnsafe n = true then s1.groupStartFail n
      else if s1.railSt n = rOn then s1.putGrpX g { pass := true }
      else s1.railOn n
    | 3 => s1.putBit .TTB_RSTSTAT (4 + getF w ⟨17, 16⟩) true
    | 4 => s1.message 62 g (getF w ⟨7, 0⟩)
    | _ => s1

/-- An on request takes effect on a group (R139, R141, R142, R144, R148). [DESIGN CHOICE, log 47] -/
def State.groupOn (s : State) (g : Nat) : State :=
  if s.bit (.TTB_G_STATUS g) 5 || s.tt.bout.inForce || s.shipPend then s.setFlag (.TTB_G_FLAG g) 2
  else
    let s := s.deepDrop 1
    match s.groupSt g with
    | 0 => (s.setGroup g 1).stepForward g 0
    | 2 => (s.setGroup g 1).stepForward g 0
    | 3 => ((s.setGroup g 1).setFlag (.TTB_G_FLAG g) 0).stepForward g (s.fld (.TTB_G_STATUS g) Fld.TTB_G_STATUS_STEP)
    | _ => s

/-- The hold of the present step has ended, as far as the part itself can tell (Table 05.4): PG or OFF with WAIT, a
failed start, a rail that passes; a timed hold ends when its time has run. [DESIGN CHOICE, log 48] -/
def State.holdDone (s : State) (g : Nat) : Bool :=
  let j := s.fld (.TTB_G_STATUS g) Fld.TTB_G_STATUS_STEP
  let w := s.step g j
  let n := stepRail w
  if s.stepOp g j = 1 ∧ stepWait w then
    if s.groupSt g = 1 then s.bit (.RAIL_STATUS n) 4 || (s.grpX g).holdOver || (s.grpX g).pass
    else s.railSt n == rOff || s.railSt n == rLatched
  else true

/-- The group goes on to its next step, to UP or to OFF (R140). [DESIGN CHOICE, log 48] -/
def State.stepNext (s : State) (g : Nat) : State :=
  let j := s.fld (.TTB_G_STATUS g) Fld.TTB_G_STATUS_STEP
  if s.groupSt g = 1 then s.stepForward g (j + 1)
  else if s.groupSt g = 3 then if j = 0 then s.groupToOff g else s.stepReverse g (j - 1)
  else s

/-- The restart after a brown-out (R149): on requests to the AUTO groups that were not OFF, then the event and the
episode's record (R150). [DEDUCED, log 53] -/
def State.boutRestart (s : State) : State :=
  let b := s.tt.bout
  if b.inForce && !s.bit .TTB_BSTAT 0 && !s.bit .TTB_BSTAT 1 && s.bit .TTB_BSTAT 2 then
    let s1 := { s with tt := { s.tt with bout := { b with inForce := false } } }
    let t := s.now
    let s2 := each ((allGroups.filter fun g => s.bit (.TTB_G_CFG g) 0 && b.groups.contains g)) (fun g s => s.groupOn g) s1
    (s2.happen 65 (s2.fld .TTB_BSTAT Fld.TTB_BSTAT_EPIS) 0).logRec 0x04 3 b.start
      [timeLo b.ended.time, timeHi b.ended.time, timeLo t.time, timeHi t.time,
       BitVec.ofNat 32 (b.minVin % 65536 + 65536 * b2n b.early), b.disto]
  else s

end Sys2Proof.Machine
end

