-- ==== Sys2Proof/Machine/Access.lean ====
section
/-!
DEFINITION. What stands before every register access: unpowered blocks (R22), the loader (R315), a domain under
reload (R66), the merge of a narrow write (R8), and the plain write of a register whose fields have no rule of
their own (R7).
-/

namespace Sys2Proof.Machine

/-- An access met a block of an unpowered domain (R22). [DESIGN CHOICE, log 18] -/
def State.accessOff (s : State) (b : Block) : State := s.happen 2 b.index 0

/-- The used slots whose sections cover section `j` of engine `e` (R101). -/
def State.coveringSlots (s : State) (e j : Nat) : List Nat :=
  ((List.range 4).map (4 * e + ·)).filter fun k =>
    s.fld (.LPS_CFG k) Fld.LPS_CFG_KIND != 0 && (s.slotSections k).contains (e, j)

/-- The domain that owns a register (Table 02.5), if any. -/
def State.regDom (s : State) : Reg → Option Nat
  | .STG_CFG m | .STG_ILIM m | .STG_SENSE m | .STG_STATE m | .STG_MEAS m | .STG_TRIM m | .STG_TEST m | .STG_FLAG m => s.stageDom m
  | .XBR_MOD n | .XBR_GANG n | .XBR_SHARE n | .XBR_WSH n => s.railDom n
  | .RAIL_CTL n | .RAIL_STATUS n | .RAIL_VSET n | .RAIL_DLY n | .RAIL_ONRAMP n | .RAIL_OFFRAMP n | .RAIL_DIS n | .RAIL_PG n
  | .RAIL_FLAG n | .RAIL_ONTIME n => s.railDom n
  | .LPS_CTL k | .LPS_CFG k | .LPS_IN k | .LPS_REF k | .LPS_OUT k | .LPS_OLIM k | .LPS_CLOSE k | .LPS_MODEL k | .LPS_MWATCH k
  | .LPS_FWATCH k | .LPS_STAT k | .LPS_FLAG k => s.slotDom k
  | .COF e j _ => (s.coveringSlots e j).head?.bind s.slotDom
  | .TTB_G_CFG g | .TTB_G_CTL g | .TTB_G_STATUS g | .TTB_G_FLAG g => s.groupDom g
  | .TTB_STEP g _ => s.groupDom g
  | .SUP_WIN n | .SUP_CFG n | .SUP_STATUS n | .SUP_FLAG n => s.railDom n
  | .POL_R_PHASE n | .POL_R_DER n | .POL_R_CFG n | .POL_R_STATE n => s.railDom n
  | .FLT_CFG f | .FLT_TGT f => s.faultDom f
  | _ => none

/-- The loader serves reads and writes of a block (R315): SYS and CMD, and reads of LDG, OTP and PWR. -/
def loaderReads (b : Block) : Bool := b == .sys || b == .cmd || b == .ldg || b == .otp || b == .pwr
def loaderWrites (b : Block) : Bool := b == .sys || b == .cmd

/-- The device serves interfaces: not in DEEP, SHIP and DEPLETED or before CORE is up (Table 22.1, Table 22.4); between
an expiry and its reset it takes no write (R343). -/
def State.served (s : State) : Bool := s.powered .core
def State.accepts (s : State) : Bool := s.served && !s.wd.expired

/-- The management core runs its loader (R314). -/
def State.loader (s : State) : Bool := s.pw.mc == .loader

/-- A write reaches a register: it is accepted, not under the loader's ban, its block powered, its owner not under
reload. [DEDUCED, log 17] -/
def State.guardWrite (s : State) (r : Reg) (k : State → State) : State :=
  if !s.accepts || (s.loader && !loaderWrites r.block) then s
  else if !s.powered r.block.dom then s.accessOff r.block
  else if s.underReload (s.regDom r) then s.happen 11 ((s.regDom r).getD 0) 0
  else k s

/-- A read reaches a register, or returns 0 (R22, R315). [DEDUCED, log 17] -/
def State.guardRead (s : State) (r : Reg) (k : State → Word × State) : Word × State :=
  if !s.served || (s.loader && !loaderReads r.block) then (0#32, s)
  else if !s.powered r.block.dom then (0#32, s.accessOff r.block)
  else k s

/-- A read has returned its word to an interface. -/
def State.deliver (i : Iface) (p : Word × State) : State := { p.2 with rdata := p.2.rdata.set i p.1 }

/-- The value a narrow write puts together (R8): bytes not sent take the stored value of RW fields, 0 elsewhere. [DEDUCED,
log 16] -/
def State.merged (s : State) (r : Reg) (v : Word) (be : BitVec 4) : Word :=
  (v &&& byteMask be) ||| (s.rd r &&& ~~~ (byteMask be) &&& r.rw)

/-- A write of some bytes sends something of what a register of WO fields alone acts on; otherwise it triggers nothing (R8). -/
def Reg.sent (r : Reg) (be : BitVec 4) : Bool :=
  r.wo == 0#32 || r.rw != 0#32 || r.w1c != 0#32 || (byteMask be &&& r.wo) != 0#32

/-- A write of some bytes that reaches a register of WO fields. -/
def State.guardSent (s : State) (r : Reg) (be : BitVec 4) (k : State → State) : State :=
  s.guardWrite r fun s => if r.sent be then k s else s

/-- Store the RW bits of a value. -/
def State.writeRw (s : State) (r : Reg) (w : Word) : State := s.wr r ((s.rd r &&& ~~~ r.rw) ||| (w &&& r.rw))

/-- The plain write of R7: RW bits stored, W1C flags cleared. -/
def State.plainWrite (s : State) (r : Reg) (w : Word) : State := (s.writeRw r w).clearFlags r (w &&& r.w1c)

/-- A value in a closed range. -/
def inRange (lo hi v : Nat) : Bool := decide (lo ≤ v) && decide (v ≤ hi)

end Sys2Proof.Machine
end

