-- ==== Sys2Proof/Machine/Memory.lean ====
section
/-!
DEFINITION. Memory protection (chapter 13): the error log, what an access to a damaged SRAM word sees (Table 13.1),
narrow writes, DMA halts, the scrubber and the retirement of pages.
-/

namespace Sys2Proof.Machine

open Host (Outcome)

/-! ### The error log (R299 to R301) -/

/-- The lowest log entry that is free. -/
def State.freeEntry (s : State) : Option Nat := (List.range 32).find? fun e => !s.bit (.MEM_LOG_INFO e) 31

/-- Log an error of a word. `ue`: uncorrectable; `mark`: the device wrote the corrected word back. -/
def State.logError (s : State) (nvm : Bool) (a : Nat) (ue : Bool) (src : Nat) (syn : BitVec 7) (mark : Bool) : State :=
  match s.logEntry nvm a with
  | some e =>
    let w := s.rd (.MEM_LOG_INFO e)
    let rep := !ue && wbit w 7
    let w1 := putF (putF (putF w Fld.MEM_LOG_INFO_SRC src) Fld.MEM_LOG_INFO_SYNDROME syn.toNat) Fld.MEM_LOG_INFO_COUNT
      (satAdd 255 (getF w Fld.MEM_LOG_INFO_COUNT) 1)
    let w2 := wputBit (wputBit (wputBit w1 30 (wbit w 30 || ue)) 29 (wbit w 29 || rep)) 7 (wbit w 7 || mark)
    let s1 := s.wr (.MEM_LOG_INFO e) w2
    if rep then s1.setFlagI .MEM_FLAG 5 e 0 else s1
  | none =>
    match s.freeEntry with
    | some e =>
      let w := putF (putF (putF 0#32 Fld.MEM_LOG_INFO_SRC src) Fld.MEM_LOG_INFO_SYNDROME syn.toNat) Fld.MEM_LOG_INFO_COUNT 1
      let w1 := wputBit (wputBit (wputBit (wputBit w 31 true) 30 ue) 28 nvm) 7 mark
      (s.wr (.MEM_LOG_ADDR e) (BitVec.ofNat 32 a)).wr (.MEM_LOG_INFO e) w1
    | none => (s.addSat .MEM_STATUS Fld.MEM_STATUS_LOST 1).setFlag .MEM_FLAG 1

/-- A correctable error (R301): counted, logged, MEM_CE with the log entry. -/
def State.corrected (s : State) (nvm : Bool) (a src : Nat) (syn : BitVec 7) : State :=
  let s1 := s.addSat .MEM_CNT (if nvm then Fld.MEM_CNT_NVM else Fld.MEM_CNT_SRAM) 1
  let s2 := s1.logError nvm a false src syn (!nvm)
  s2.setFlagI .MEM_FLAG 0 ((s2.logEntry nvm a).getD 0) 0

/-- An access meets an uncorrectable SRAM word (R296): the log entry and MEM_SRAM_UE with the cause of Table 13.1. -/
def State.sramUe (s : State) (a src cause : Nat) (syn : BitVec 7) : State :=
  (s.logError false a true src syn false).raise 233 cause

/-- An uncorrectable ledger word is read (R296). -/
def State.nvmUe (s : State) (a src : Nat) (syn : BitVec 7) : State := (s.logError true a true src syn false).raise 234 0

/-! ### Upsets -/

/-- The SRAM word's valid bit is set (R291). -/
def State.wordValid (s : State) (a : Nat) : Bool := s.me.valid.contains (a / 4)

/-- Take an address out of a table. -/
def without {α : Type} (t : Tab Nat α) (a : Nat) : Tab Nat α := t.filter fun e => !decide (e.1 = a)

/-- The majority of a word's valid bits turns over: a word that becomes valid so holds what its array holds, which is free; one
that becomes invalid reads as 0. [DESIGN CHOICE, log 100] -/
def State.flipValid (s : State) (a : Nat) : State :=
  if s.wordValid a then
    let s1 := s.putWord a 0#32
    { s1 with me := { s1.me with valid := s1.me.valid.filter (· != a / 4), bad := without s1.me.bad a, soft := without s1.me.soft a } }
  else
    let d := s.draw
    let s1 := d.2.putWord a d.1
    { s1 with me := { s1.me with valid := a / 4 :: s1.me.valid } }

/-- An upset takes effect. Two single errors of one word make a double one, whose syndrome is the sum of theirs; in a word with
a double error, or one whose valid bit is 0, a further one changes nothing. [DESIGN CHOICE, log 100] -/
def State.upset (s : State) (u : Upset) : State :=
  let a := u.addr / 4 * 4
  let held := if a < sramEnd then s.wordValid a else inRange 0x10000000 0x101FFFFF a
  match u.strike with
  | .copy c =>
    if sramEnd ≤ a then s
    else match s.me.votes.lookup a with
      | none => { s with me := { s.me with votes := s.me.votes.set a c } }
      | some d =>
        if d = c then { s with me := { s.me with votes := without s.me.votes a } }
        else ({ s with me := { s.me with votes := s.me.votes.set a (3 - c - d) } } : State).flipValid a
  | .bit syn =>
    if !held || (s.sramBad a).isSome then s
    else match s.me.soft.lookup a with
      | none => { s with me := { s.me with soft := s.me.soft.set a syn } }
      | some old =>
        let me := { s.me with soft := without s.me.soft a }
        if old = syn then { s with me := me } else { s with me := { me with bad := me.bad.set a (old ^^^ syn) } }
  | .bits syn =>
    if !held || (s.sramBad a).isSome then s
    else { s with me := { s.me with soft := without s.me.soft a, bad := s.me.bad.set a syn } }

/-! ### Accesses -/

/-- An access corrects what it can of a word (R290, R291, R292): a valid bit outvoted, one wrong bit; an SRAM word is written
back, a ledger word is not. -/
def State.eccMeet (s : State) (a src : Nat) : State :=
  let s1 := if (s.me.votes.lookup a).isSome then
      ({ s with me := { s.me with votes := without s.me.votes a } } : State).corrected false a src 0x7F#7
    else s
  match s1.me.soft.lookup a with
  | some syn =>
    if a < sramEnd then ({ s1 with me := { s1.me with soft := without s1.me.soft a } } : State).corrected false a src syn
    else s1.corrected true a src syn
  | none => s1

/-- The addresses of a table that lie in a range. -/
def keysIn {α : Type} (t : Tab Nat α) (a n : Nat) : List Nat := (t.map (·.1)).filter fun x => a ≤ x && x < a + n

/-- A block read corrects what it can of the words of a range. -/
def State.eccRange (s : State) (a n src : Nat) : State :=
  each (keysIn s.me.soft a n ++ (keysIn s.me.votes a n).filter fun x => (s.me.soft.lookup x).isNone) (fun x s => s.eccMeet x src) s

/-- The device reads a range of the ledger: corrected words are counted, an uncorrectable one raises MEM_NVM_UE and reads as 0
(R292, R296, R301). -/
def State.ledMeet (s : State) (a n src : Nat) : State :=
  let s1 := s.eccRange a n src
  each (keysIn s1.me.bad a n) (fun x s => s.nvmUe x src ((s.sramBad x).getD 0#7)) s1

/-- Read a word of SRAM or ledger at a word address: an uncorrectable one reads as 0. `src` is the log's SRC,
`cause` that of MEM_SRAM_UE. -/
def State.memRead (s : State) (a src cause : Nat) : Word × State :=
  let s1 := s.eccMeet a src
  match s1.sramBad a with
  | some syn => (0#32, if a < sramEnd then s1.sramUe a src cause syn else s1.nvmUe a src syn)
  | none => (s1.word a, s1)

/-- A write of some bytes of an SRAM word (R293, R294). -/
def State.sramNarrow (s : State) (a : Nat) (v : Word) (be : BitVec 4) : State :=
  if be = 0xF#4 then s.sramWrite a v
  else
    let s1 := s.eccMeet a 5
    match s1.sramBad a with
    | some syn => s1.sramUe a 5 2 syn
    | none => s1.sramWrite a ((v &&& byteMask be) ||| (s1.word a &&& ~~~ (byteMask be)))

/-- Log what the counts written into queued records have met: narrow writes, so a corrected word is not marked (R294, R300).
[DEDUCED, log 188] -/
def State.metNow (s : State) : State :=
  each s.me.met (fun e s =>
    if e.2.2 then s.sramUe e.1 5 2 e.2.1
    else
      let s1 := s.corrected false e.1 5 e.2.1
      match s1.logEntry false e.1 with
      | some k => s1.put (.MEM_LOG_INFO k) Fld.MEM_LOG_INFO_MARK 0
      | none => s1) { s with me := { s.me with met := [] } }

/-- A DMA channel halts (R297); `lost` of its transfers are dropped. -/
def State.dmaHalt (s : State) (ch lost : Nat) : State :=
  ((s.putBit .MEM_DMASTAT ch true).setFlagI .MEM_FLAG 2 ch 0).gap 3 ch lost 0

/-- A channel restarts. -/
def State.dmaRestart (s : State) (ch : Nat) : State := s.putBit .MEM_DMASTAT ch false

/-! ### Scrubbing (R295) -/

/-- The scrubber reads a word: what it can correct it corrects, an uncorrectable one it reports and leaves. -/
def State.scrubWord (s : State) (a : Nat) : State :=
  let s1 := s.eccMeet a 4
  match s1.sramBad a with
  | some syn => s1.sramUe a 4 2 syn
  | none => s1

/-- SCRUB_STEP (R295): the upsets of the time since take effect, then the scrubber reads its next word. [DESIGN CHOICE, log
100] -/
def execScrubStep (hits : List Upset) (s : State) : Outcome State Fault Refusal :=
  .next (
    let s0 := each hits (fun u s => s.upset u) s
    if s0.bit .MEM_CFG 31 && s0.powered .core then
      let s1 := s0.metNow.scrubWord (4 * s0.me.scrub)
      { s1 with me := { s1.me with scrub := (s0.me.scrub + 1) % 65536 } }
    else s0)

/-! ### Retiring a page (R302, R303) -/

/-- The lowest spare page that is free. -/
def State.freeSpare (s : State) : Option Nat := (List.range 4).find? fun k => !s.bit (.MEM_PMAP k) 31

/-- A write of MEM_PRETIRE. -/
def State.wrPretire (s : State) (w : Word) : State :=
  if wbit w 31 && getF w Fld.MEM_PRETIRE_KEY == 0x69 then
    let p := getF w Fld.MEM_PRETIRE_PAGE
    let mapped := (List.range 4).any fun k => s.bit (.MEM_PMAP k) 31 && s.fld (.MEM_PMAP k) Fld.MEM_PMAP_PAGE == p
    match s.freeSpare with
    | none => (s.setFlagI .MEM_FLAG 4 p 0).setFlagI .MEM_FLAG 6 p 0
    | some k =>
      if mapped || s.me.copy.isSome then s.setFlagI .MEM_FLAG 6 p 0
      else ({ s with me := { s.me with copy := some (k, p) } } : State).put .MEM_STATUS Fld.MEM_STATUS_COPY 1
  else s

/-- MEM_PRETIRE_WRITE (R302). -/
def execMemPretireWrite (_i : Iface) (v : Word) (be : BitVec 4) (s : State) : Outcome State Fault Refusal :=
  .next (s.guardSent .MEM_PRETIRE be fun s => s.wrPretire (v &&& byteMask be))

/-- The words of a page as the copy meets them: one wrong bit is corrected; two are copied as they are and logged (R299, R303).
[DEDUCED, log 188] -/
def State.copyPage (s : State) (p : Nat) : State :=
  let s1 := s.eccRange (0x400 * p) 0x400 7
  each (keysIn s1.me.bad (0x400 * p) 0x400) (fun x s => s.logError false x true 7 ((s.sramBad x).getD 0#7) false) s1

/-- PAGE_COPY_DONE (R303): the spare stands for the page, and the firmware logs the retirement. -/
def execPageCopyDone (s : State) : Outcome State Fault Refusal :=
  .next (match s.me.copy with
    | none => s
    | some (k, p) =>
      let s0 := s.copyPage p
      let s1 := ({ s0 with me := { s0.me with copy := none } } : State).put .MEM_STATUS Fld.MEM_STATUS_COPY 0
      let s2 := s1.wr (.MEM_PMAP k) (BitVec.ofNat 32 (2 ^ 31 + p))
      (s2.setFlagI .MEM_FLAG 3 p 0).logRec 0x07 3 s2.now [0#32, BitVec.ofNat 32 p])

end Sys2Proof.Machine
end

