-- ==== Sys2Proof/Machine/Events.lean ====
section
/-!
DEFINITION. The event controller (chapter 11): sensing from outside, the writing of records into the queues, taking
and EOI, the plain registers EN and PEND with FREEZE, and the storm limiter.
-/

namespace Sys2Proof.Machine

open Host (Outcome)

/-! ### Sources that exist -/

/-- Source numbers that some chapter names (R258); a source not named never raises. -/
def evtNamed (f : Nat) : Bool :=
  f ≤ 116 || inRange 120 126 f || inRange 128 135 f || inRange 144 148 f || inRange 152 155 f || inRange 168 178 f ||
  inRange 200 206 f || inRange 216 223 f || inRange 228 234 f || inRange 236 242 f || inRange 244 246 f

/-- The aggregate sources whose instances have a flag each. -/
def evtAggregate (f : Nat) : Bool := inRange 12 24 f || f == 61 || inRange 66 73 f || inRange 108 109 f || f == 240

/-- INFO of a re-sampled occurrence: the lowest instance of an aggregate source whose condition is present, the INFO of the
latest rise of any other. [DEDUCED, log 93] -/
def State.liveInfo (s : State) (src : Nat) : Nat :=
  if evtAggregate src then
    ((flagRegs.findSome? fun r =>
      (bitsOf (s.rd r)).findSome? fun b =>
        match flagSource r b with
        | some (f, i) => if f = src then some i else none
        | none => none)).getD 0
  else (s.src src).lastInfo

/-- A condition that is present is sensed again in level mode (R265). -/
def State.resample (s : State) (src : Nat) : State := s.occur src false false (s.liveInfo src) (s.src src).lastCode

/-- A level source's condition is present (R259, R265). [DEDUCED, log 93] -/
def State.levelLive (s : State) (src : Nat) : Bool :=
  !evtIsMessage src && s.sense src == 0 && s.evtLive src

/-- A source is enabled. -/
def State.enabled (s : State) (src : Nat) : Bool := s.bit (.EVT_EN (src / 32)) (src % 32)

/-! ### Queues (R271) -/

/-- Size, read and write place of a queue. -/
def State.qSize (s : State) (q : Nat) : Nat := s.fld (.EVT_QSIZE q) Fld.EVT_QSIZE_SIZE
def State.qRead (s : State) (q : Nat) : Nat := s.fld (.EVT_QPTR q) Fld.EVT_QPTR_RPTR
def State.qWrite (s : State) (q : Nat) : Nat := s.fld (.EVT_QPTR q) Fld.EVT_QPTR_WPTR

/-- A queue holds no record; a queue is full. -/
def State.qEmpty (s : State) (q : Nat) : Bool := s.qRead q == s.qWrite q
def State.qFull (s : State) (q : Nat) : Bool := (s.qWrite q + 1) % s.qSize q == s.qRead q

/-- IRQ_N and the interrupt line of the core follow the host queue and the core queue; without CORE they are released
(R266). -/
def State.irqPins (s : State) : State :=
  { s with pins := { s.pins with irqN := s.powered .core && !s.qEmpty 0, coreIrq := s.powered .core && !s.qEmpty 1 } }

/-- Priority stack of a queue, top first, and its running priority. -/
def State.stack (s : State) (q : Nat) : List (Nat × Nat) := s.ev.prios.get q []
def State.putStack (s : State) (q : Nat) (l : List (Nat × Nat)) : State :=
  { s with ev := { s.ev with prios := s.ev.prios.set q l } }
def State.running (s : State) (q : Nat) : Option Nat := (s.stack q).head?.map (·.1)

/-- Sources of the records in a queue, oldest first (R274, R275). -/
def State.qOrder (s : State) (q : Nat) : List Nat := s.ev.order.get q []
def State.putOrder (s : State) (q : Nat) (l : List Nat) : State := { s with ev := { s.ev with order := s.ev.order.set q l } }

/-- Word 0 of an EVENT record (Table 11.3). -/
def recWord0 (typ prio : Nat) (sat sw rise fall isLocal : Bool) (code src : Nat) : Word :=
  BitVec.ofNat 32 (2 ^ 28 * typ + 2 ^ 24 * (prio % 16) + 2 ^ 23 * b2n sat + 2 ^ 22 * b2n sw + 2 ^ 21 * b2n rise +
    2 ^ 20 * b2n fall + 2 ^ 19 * b2n isLocal + 2 ^ 8 * (code % 256) + src % 256)

/-- Word 1 of a record. -/
def recWord1 (count info : Nat) : Word := BitVec.ofNat 32 (2 ^ 16 * min 65535 count + info % 65536)

/-- Append a record of a source to a queue that has room. -/
def State.qPut (s : State) (q src : Nat) (w0 w1 : Word) (t : Stamp) : State :=
  let a := s.recAddr q (s.qWrite q)
  let s1 := (((s.sramWrite a w0).sramWrite (a + 4) w1).sramWrite (a + 8) (timeLo t.time)).sramWrite (a + 12) (timeHi t.time)
  let s2 : State := { s1 with ev := { s1.ev with written := s1.ev.written.set q ((s1.ev.written.get q 0 + 1) % 2 ^ 32) } }
  ((s2.put (.EVT_QPTR q) Fld.EVT_QPTR_WPTR ((s.qWrite q + 1) % s.qSize q)).putOrder q (s.qOrder q ++ [src])).irqPins

/-! ### Writing records (R263, R267, R268, R272, R273) -/

/-- Write a GAP record. -/
def State.writeGap (s : State) (q : Nat) (g : Gap) : State :=
  if s.qFull q then s
  else
    let t := s.now
    let s1 : State := { s with ev := { s.ev with gaps := s.ev.gaps.filter (fun x => x != g) } }
    s1.qPut q 0 (recWord0 2 0 (65535 < g.count) false false false t.isLocal g.stream 0) (recWord1 g.count g.index) t

/-- The GAP stream and index of a dropped MESSAGE (Table 11.4). -/
def gapStream (src : Nat) : Nat × Nat := if 3 ≤ src ∧ src ≤ 6 then (2, src - 3) else (1, src)

/-- The queue of a MESSAGE: a STORM message goes to the host queue (R268), any other by its ROUTE. -/
def State.msgQueue (s : State) (src : Nat) : Nat := if src = 1 then 0 else s.route src

/-- A GAP record of the source's stream waits for another queue: no later record of the source is written before it (R33,
R275). -/
def State.gapBars (s : State) (q src : Nat) : Bool :=
  s.ev.gaps.any fun g => g.stream == (gapStream src).1 && g.index == (gapStream src).2 && g.queue != q

/-- Queue a MESSAGE, or drop it when its queue is full (R272). -/
def State.writeMsg (s : State) (q : Nat) (m : EvMsg) : State :=
  let s0 : State := { s with ev := { s.ev with msgs := s.ev.msgs.erase m } }
  let s1 := if inRange 3 6 m.src && !m.sw then s0.recordQueued m.info else s0
  if s1.qFull q then
    ((s1.gap (gapStream m.src).1 (gapStream m.src).2 1 q).addSat (.EVT_QDROP q) Fld.EVT_QDROP_COUNT 1).setFlagI .EVT_STAT (3 + q) q 0
  else
    s1.qPut q m.src (recWord0 1 (s.fld (.EVT_CFG m.src) Fld.EVT_CFG_PRIO) false m.sw false false m.stamp.isLocal m.code m.src)
      (recWord1 m.count m.info) m.stamp

/-- Count a queuing in the source's storm window; the 64th re-queue masks it (R268). -/
def State.storm (s : State) (src : Nat) : State :=
  let e := s.src src
  match e.window with
  | none => s.putSrc src { e with window := some 0 }
  | some n =>
    let s1 := s.putSrc src { e with window := some (n + 1) }
    if n + 1 = 64 then
      ((s1.putBit (.EVT_EN (src / 32)) (src % 32) false).putBit (.EVT_STORM (src / 32)) (src % 32) true).message 1 src 0
    else s1

/-- Queue the record of a pending SIGNAL source (R261, R263, R267). -/
def State.writeSignal (s : State) (q src : Nat) : State :=
  if s.qFull q then s
  else
    let e := s.src src
    let s1 := s.qPut q src (recWord0 1 (s.fld (.EVT_CFG src) Fld.EVT_CFG_PRIO) (65535 < e.waiting) e.sw e.rise e.fall
      e.first.isLocal e.code src) (recWord1 e.waiting e.info) e.first
    let s2 := s1.putSrc src { e with waiting := 0, rise := false, fall := false, sw := false, queued := some (q, s.qWrite q) }
    (s2.putBit (.EVT_PEND (src / 32)) (src % 32) false).storm src

/-- Source `a` goes before source `b`: higher PRIO, then lower number (R263). -/
def State.before (s : State) (a b : Nat) : Bool :=
  let pa := s.fld (.EVT_CFG a) Fld.EVT_CFG_PRIO
  let pb := s.fld (.EVT_CFG b) Fld.EVT_CFG_PRIO
  pb < pa || (pa == pb && a < b)

/-- The eligible SIGNAL sources of a queue (R263); none during FREEZE (R262). -/
def State.eligible (s : State) (q : Nat) : List Nat :=
  (List.range 256).filter fun f => !s.frozen && !evtIsMessage f && s.enabled f && s.bit (.EVT_PEND (f / 32)) (f % 32) &&
    s.route f == q && !s.gapBars q f && (match s.running q with | some p => p < s.fld (.EVT_CFG f) Fld.EVT_CFG_PRIO | none => true)

/-- The next MESSAGE of a queue: production order among the enabled sources routed there. -/
def State.nextMsg (s : State) (q : Nat) : Option EvMsg :=
  s.ev.msgs.find? fun m => s.enabled m.src && s.msgQueue m.src == q && !s.gapBars q m.src

/-- The next record of queue `q` is written: a GAP record, a MESSAGE, then the first eligible SIGNAL source. A full
queue drops its next MESSAGE, also while a gap waits for a free slot (R272, R273). -/
def State.writeNext (s : State) (q : Nat) : State :=
  match if s.qFull q then none else s.ev.gaps.find? (fun g => g.queue == q) with
  | some g => s.writeGap q g
  | none => match s.nextMsg q with
    | some m => s.writeMsg q m
    | none => match (s.eligible q).find? (fun a => (s.eligible q).all fun b => a == b || s.before a b) with
      | some f => s.writeSignal q f
      | none => s

/-- A record in the core queue ends SLEEP (Table 22.1). [DEDUCED, log 158] -/
def State.coreWake (s : State) : State :=
  if s.pw.mode = .sleep ∧ s.qEmpty 1 = false then
    ({ s with pw := { s.pw with mode := .active, nack := false } } : State).put .PWR_STATUS Fld.PWR_STATUS_MODE 0
  else s

/-- EVENT_QUEUE_WRITE (R263). -/
def execEventQueueWrite (q : Fin 3) (s : State) : Outcome State Fault Refusal :=
  .next (if s.powered .core then (if q.val = 1 then (s.metNow.writeNext q).coreWake else s.metNow.writeNext q) else s)

/-! ### Sensing -/

/-- EVENT_OCCURRENCE (R259): a condition rises or falls, or a MESSAGE is produced. USER sources are raised only
through EVT_PENDw. -/
def execEventOccurrence (f : Fin 256) (rise : Bool) (info code : Nat) (s : State) : Outcome State Fault Refusal :=
  .next (if !evtNamed f || s.dark then s
    else if evtIsMessage f then s.message f info code
    else if rise then s.condRise f info code false
    else s.condFall f info code)

/-- STORM_WINDOW_CLOSE (R268). -/
def execStormWindowClose (f : Fin 256) (s : State) : Outcome State Fault Refusal :=
  .next (s.putSrc f { s.src f with window := none })

/-! ### EN, PEND and FREEZE (R261, R262) -/

/-- A software occurrence. [DESIGN CHOICE, log 92] -/
def State.swOccur (s : State) (f : Nat) : State :=
  if evtIsMessage f then
    { s with ev := { s.ev with msgs := s.ev.msgs ++ [{ src := f, info := 0, code := 0, sw := true, stamp := s.now }] } }
  else s.occurNow f 1 false false true s.now 0 0

/-- A write of 0 to a PEND bit that reads 1. -/
def State.discard (s : State) (f : Nat) : State :=
  (s.putSrc f { s.src f with waiting := 0, rise := false, fall := false, sw := false }).putBit (.EVT_PEND (f / 32)) (f % 32) false

/-- A write of EVT_PENDw. [DESIGN CHOICE, log 92] -/
def State.wrPend (s : State) (k : Nat) (w : Word) : State :=
  each (List.range 32) (fun b s =>
    let old := s.bit (.EVT_PEND k) b
    if wbit w b && !old then s.swOccur (32 * k + b)
    else if !wbit w b && old then s.discard (32 * k + b)
    else s) s

/-- The occurrences a source sensed during FREEZE take effect. -/
def State.release (s : State) (f : Nat) : State :=
  let e := s.src f
  if e.held = 0 then s
  else
    let s1 := s.putSrc f { e with held := 0, heldRise := false, heldFall := false }
    s1.occurNow f e.held e.heldRise e.heldFall false e.heldFirst e.heldInfo e.heldCode

/-- FREEZE ends. -/
def State.thaw (s : State) : State :=
  each (List.range 256) (fun f s => s.release f) (s.putBit .EVT_CTL 31 false)

/-- A write of EVT_CTL. -/
def State.wrEvtCtl (s : State) (w : Word) : State :=
  if wbit w 31 then s.putBit .EVT_CTL 31 true else if s.frozen then s.thaw else s

/-- A write of EVTsss_CFG: ROUTE 0b11 stores 0b00; a source turned to level mode is sensed at once when its condition
is present. [DEDUCED, log 93] -/
def State.wrEvtCfg (s : State) (f : Nat) (w : Word) : State :=
  let s1 := s.writeRw (.EVT_CFG f) (if getF w Fld.EVT_CFG_ROUTE = 3 then putF w Fld.EVT_CFG_ROUTE 0 else w)
  if s.sense f ≠ 0 ∧ s1.levelLive f = true then s1.resample f else s1

/-- PEND_WRITE (R261). -/
def execPendWrite (_i : Iface) (w : Fin 8) (v : Word) (be : BitVec 4) (s : State) : Outcome State Fault Refusal :=
  .next (s.guardWrite (.EVT_PEND w) fun s => s.wrPend w (s.merged (.EVT_PEND w) v be))

/-- FREEZE_WRITE (R262). -/
def execFreezeWrite (_i : Iface) (v : Word) (be : BitVec 4) (s : State) : Outcome State Fault Refusal :=
  .next (s.guardWrite .EVT_CTL fun s => s.wrEvtCtl (s.merged .EVT_CTL v be))

/-- FREEZE_EXPIRY (R262). -/
def execFreezeExpiry (s : State) : Outcome State Fault Refusal :=
  .next (if s.frozen then s.thaw.setFlag .EVT_STAT 12 else s)

/-! ### Taking and EOI (R264, R265, R274) -/

/-- Fill REC0 to REC3 of a queue. -/
def State.putRec (s : State) (q : Nat) (w0 w1 w2 w3 : Word) : State :=
  (((s.wr (.EVT_QREC q 0) w0).wr (.EVT_QREC q 1) w1).wr (.EVT_QREC q 2) w2).wr (.EVT_QREC q 3) w3

/-- The damaged words of the record at a queue's read place. -/
def State.takeBad (s : State) (q : Nat) : List Nat :=
  let a := s.recAddr q (s.qRead q)
  [a, a + 4, a + 8, a + 12].filter fun x => (s.sramBad x).isSome

/-- The record at a queue's read place as it is delivered: damaged in SRAM, a GAP record of its source stands for it (R274). A
damaged GAP record is one record of source 0 like any other, and the count it carried is lost. [DESIGN CHOICE, log 185] -/
def State.takeWords (s : State) (q : Nat) : Word × Word × Word × Word :=
  let a := s.recAddr q (s.qRead q)
  if !(s.takeBad q).isEmpty then
    let t := s.now
    (recWord0 2 0 false false false false t.isLocal 1 0, recWord1 1 ((s.qOrder q).headD 0), timeLo t.time, timeHi t.time)
  else (s.word a, s.word (a + 4), s.word (a + 8), s.word (a + 12))

/-- The record of a source leaves its queue. -/
def State.unqueue (s : State) (q k : Nat) : State :=
  { s with ev := { s.ev with srcs := s.ev.srcs.map fun e => if e.2.queued = some (q, k) then (e.1, { e.2 with queued := none }) else e } }

/-- The device takes the oldest record of a queue (R264). -/
def State.takeRec (s : State) (q : Nat) : State :=
  let s := s.unqueue q (s.qRead q)
  ((s.put (.EVT_QPTR q) Fld.EVT_QPTR_RPTR ((s.qRead q + 1) % s.qSize q)).putOrder q (s.qOrder q).tail).irqPins

/-- A TAKE. [DEDUCED, log 94] -/
def State.take (s : State) (q : Nat) : State :=
  if s.qEmpty q then s.putRec q 0#32 0#32 0#32 0#32
  else if 8 ≤ (s.stack q).length then (s.putRec q 0#32 0#32 0#32 0#32).putBit .EVT_STAT (9 + q) true
  else
    let bad := s.takeBad q
    let s := s.eccRange (s.recAddr q (s.qRead q)) 16 6
    let (w0, w1, w2, w3) := s.takeWords q
    let prio := max (getF w0 ⟨27, 24⟩) ((s.running q).getD 0)
    let s1 := ((s.takeRec q).putRec q w0 w1 w2 w3).putStack q ((prio, getF w0 ⟨7, 0⟩) :: s.stack q)
    each bad (fun x s => s.sramUe x 6 2 ((s.sramBad x).getD 0#7)) s1

/-- An EOI. [DEDUCED, log 93] -/
def State.eoi (s : State) (q : Nat) : State :=
  match s.stack q with
  | [] => s.setFlagI .EVT_STAT (6 + q) q 0
  | (_, f) :: t =>
    let s1 := s.putStack q t
    if s1.levelLive f && s1.enabled f then s1.resample f else s1

/-- TAKE and EOI of the core and fabric queues serve the management core alone. -/
def qServes (i : Iface) (q : Nat) : Bool := q == 0 || i == .core

/-- TAKE (R264). -/
def execTake (i : Iface) (q : Fin 3) (s : State) : Outcome State Fault Refusal :=
  .next (s.guardWrite (.EVT_QTAKE q) fun s => if qServes i q then s.take q else s)

/-- EOI (R265). -/
def execEoi (i : Iface) (q : Fin 3) (s : State) : Outcome State Fault Refusal :=
  .next (s.guardWrite (.EVT_QEOI q) fun s => if qServes i q then s.eoi q else s)

/-! ### Queue configuration (R271) -/

/-- A queue of `size` records from `base` is allowed beside the other queues. -/
def State.queueOk (s : State) (q base size : Nat) : Bool :=
  [16, 32, 64, 128, 256, 512, 1024, 2048, 4096].contains size && base + 16 * size ≤ sramEnd &&
  (List.range 3).all fun p => p == q ||
    decide (base + 16 * size ≤ s.recAddr p 0) || decide (s.recAddr p 0 + 16 * s.qSize p ≤ base)

/-- A write of EVT_QqBASE or EVT_QqSIZE. -/
def State.wrQueue (s : State) (size : Bool) (q : Nat) (w : Word) : State :=
  let s1 := s.writeRw (if size then .EVT_QSIZE q else .EVT_QBASE q) w
  if s.qEmpty q && (s.stack q).isEmpty && s1.queueOk q (s1.recAddr q 0) (s1.qSize q) then s1.wr (.EVT_QPTR q) 0#32
  else s.setFlagI .EVT_STAT 13 q 0

/-- QUEUE_CONFIG_WRITE (R271). -/
def execQueueConfigWrite (_i : Iface) (size : Bool) (q : Fin 3) (v : Word) (be : BitVec 4) (s : State) :
    Outcome State Fault Refusal :=
  let r : Reg := if size then .EVT_QSIZE q else .EVT_QBASE q
  .next (s.guardWrite r fun s => s.wrQueue size q (s.merged r v be))

end Sys2Proof.Machine
end

