-- ==== Sys2Proof/Machine/Mailbox.lean ====
section
/-!
DEFINITION. The command mailbox (chapter 12): issue, acceptance, start and query, with the rights of R376, R416 and
R419. What a running command does stands in its family's file, its cancel in Machine/Cancel.lean.
-/

namespace Sys2Proof.Machine

open Host (Outcome)

/-! ### Banks (R277) -/

/-- The banked registers of an interface. -/
def State.bank (s : State) (i : Iface) : CmdBank := s.cm.banks.get i {}
def State.putBank (s : State) (i : Iface) (b : CmdBank) : State := { s with cm := { s.cm with banks := s.cm.banks.set i b } }

/-- Number of an interface: 0 two-wire, 1 Lookout, 2 Line, 3 core, 0x10 + n channel n (R289, Table 11.4). -/
def ifaceNum : Iface → Nat
  | .twoWire => 0
  | .lookout => 1
  | .line => 2
  | .core => 3
  | .dma n => 16 + n

/-! ### Rights -/

/-- The opcodes of Table 12.1. -/
def opKnown (op : Nat) : Bool :=
  [0x00, 0x01, 0x02, 0x03, 0x10, 0x40, 0x41, 0x42, 0x43, 0x44, 0x45, 0x46, 0x80, 0x81, 0xC0, 0xC1, 0xC2, 0xC3, 0xC4].contains op

/-- The opcode is the NOP of its lane. -/
def opNop (op : Nat) : Bool := op % 64 == 0

/-- Rights of the Lookout (Table 15.4, R416, R417): 0 none before a start, 1 read-only, 2 service, 3 full, 4 vendor. -/
def State.lookoutRights (s : State) : Nat :=
  if s.pw.mc == .off then 0
  else match s.fld .OTP_STATUS Fld.OTP_STATUS_LC with
    | 0 => 4
    | 1 => 3
    | 2 => 2
    | 3 => if s.bit .MON_STAT 3 then 2 else 1
    | _ => 1

/-- Rights of the Line to issue a command (Table 17.8). -/
def State.lineRights (s : State) (op : Nat) : Bool :=
  let lc := s.fld .OTP_STATUS Fld.OTP_STATUS_LC
  let rem := s.bit .LNK_CFG 30
  opNop op ||
  (inRange 1 3 lc && (opLane op == 3 || (rem && (opLane op == 0 || opLane op == 2 || op == 0x41 || op == 0x45))))

/-- Rights of the Lookout to issue a command (R418, R419). -/
def State.lookoutMay (s : State) (op : Nat) : Bool :=
  if s.loader && opLane op == 1 then s.fld .OTP_STATUS Fld.OTP_STATUS_LC != 4
  else if opLane op == 1 && !opNop op && op != 0x41 && op != 0x45 && op != 0x46 then decide (3 ≤ s.lookoutRights)
  else decide (2 ≤ s.lookoutRights)

/-- An interface may issue a command in the present life-cycle state (R278). -/
def State.mayIssue (s : State) (i : Iface) (op : Nat) : Bool :=
  match i with
  | .core | .twoWire => true
  | .lookout => s.lookoutMay op
  | .line => s.lineRights op
  | .dma _ => false

/-! ### Slots (R280) -/

/-- A slot holds an outstanding command. -/
def State.slotBusy (s : State) (k : Nat) : Bool := (s.slot k).st == .waiting || (s.slot k).st == .running || (s.slot k).st == .ended

/-- Number of outstanding commands. -/
def State.outstanding (s : State) : Nat := (allSlots.filter s.slotBusy).length

/-- The slots in the order of allocation: after the one allocated last, wrapping from 31 to 0. -/
def State.slotOrder (s : State) : List Nat := allSlots.map fun j => (s.cm.lastSlot + 1 + j) % 32

/-- The next generation: 1 to 1023, then 1 again. -/
def nextGen (g : Nat) : Nat := if 1023 ≤ g then 1 else g + 1

/-! ### Issue (R278) -/

/-- An issue is refused with a code. -/
def State.refuseIssue (s : State) (i : Iface) (code flag : Nat) : State :=
  (s.putBank i { s.bank i with result := putF 0#32 Fld.CMD_RESULT_REFUSE code }).setFlagI .CMD_FLAG flag (ifaceNum i) 0

/-- The accepted reload of a slot begins: PHASE validate, with TPL_HOLDMAX as it stands (R63, R73). [DEDUCED, log 29] -/
def State.reloadBegin (s : State) (k : Nat) : State :=
  match s.tp.reload with
  | some r =>
    if r.slot = k ∧ s.tplPhase = 0 then
      let s1 := s.put .TPL_STATUS Fld.TPL_STATUS_PHASE 1
      { s1 with tp := { s1.tp with reload := some { r with holdmax := s.fld .TPL_HOLDMAX Fld.TPL_HOLDMAX_TIME } } }
    else s
  | none => s

/-- A command is accepted into a free slot. [DEDUCED, log 29] -/
def State.acceptCmd (s : State) (i : Iface) (op k : Nat) : State :=
  let b := s.bank i
  let g := nextGen (s.slot k).gen
  let c : CmdSlot := { gen := g, st := .waiting, op := op, p0 := b.p0, p1 := b.p1, p2 := b.p2, p3 := b.p3, stage := s.rd .TPL_STAGE, stageLen := s.fld .TPL_STAGELEN Fld.TPL_STAGELEN_LEN, groupsUp := allGroups.filter (fun g => s.groupSt g != 0), railsLive := allRails.filter (fun n => s.railSt n != rOff) }
  let idle := (s.runningSlot (opLane op)).isNone && !(s.cm.waiting.any fun j => opLane (s.slot j).op == opLane op)
  let s1 := (s.putSlot k c).putBank i { b with result := putF 0#32 Fld.CMD_RESULT_HANDLE (handleOf k g) }
  let s2 : State := { s1 with cm := { s1.cm with waiting := s1.cm.waiting ++ [k], lastSlot := k } }
  if op = 0x03 ∧ s.reloadReady = true then
    let s3 := s2.reloadAccept k
    if idle then s3.reloadBegin k else s3
  else s2

/-- An issue of an opcode through an interface. The loader serves only the ledger lane (R314). [DESIGN CHOICE, log 96] -/
def State.issueOp (s : State) (i : Iface) (op : Nat) : State :=
  if s.loader && opLane op != 1 then s
  else if !opKnown op then s.refuseIssue i 2 1
  else if !s.mayIssue i op then s.refuseIssue i 3 4
  else match s.slotOrder.find? (fun k => !s.slotBusy k) with
    | none => s.refuseIssue i 1 0
    | some k => s.acceptCmd i op k

/-- A write of CMD_ISSUE. -/
def State.issue (s : State) (i : Iface) (op : Nat) : State := s.guardWrite .CMD_ISSUE fun s => s.issueOp i op

/-! ### The running command of a lane -/

/-- Run `f` on the slot of the command `op` that runs in its lane; nothing runs otherwise. -/
def State.withRunning (s : State) (op : Nat) (f : Nat → State → State) : State :=
  match s.runningSlot (opLane op) with
  | some k => if (s.slot k).op = op then f k s else s
  | none => s

/-- A NOP row: issue, or nothing more to do, since a NOP completes as it starts (R279). -/
def State.nop (s : State) (a : CmdAct) (op : Nat) : State :=
  match a with
  | .issue i => s.issue i op
  | .advance => s

/-- NOP_CONFIG (R279). -/
def execNopConfig (a : CmdAct) (s : State) : Outcome State Fault Refusal := .next (s.nop a 0x00)

/-- NOP_LEDGER (R279). -/
def execNopLedger (a : CmdAct) (s : State) : Outcome State Fault Refusal := .next (s.nop a 0x40)

/-- NOP_CALIBRATION (R279). -/
def execNopCalibration (a : CmdAct) (s : State) : Outcome State Fault Refusal := .next (s.nop a 0x80)

/-- NOP_FABRIC (R279). -/
def execNopFabric (a : CmdAct) (s : State) : Outcome State Fault Refusal := .next (s.nop a 0xC0)

/-- UNKNOWN_OP (R278): a write of any opcode to CMD_ISSUE; one that Table 12.1 lacks is refused. -/
def execUnknownOp (i : Iface) (op : BitVec 8) (s : State) : Outcome State Fault Refusal := .next (s.issue i op.toNat)

/-! ### Query (R286) -/

/-- A handle is stale: its slot has another generation. -/
def State.stale (s : State) (h : Nat) : Bool := h / 64 == 0 || 32 ≤ h % 64 || (s.slot (h % 64)).gen != h / 64

/-- A write of CMD_QUERY through an interface. -/
def State.wrQuery (s : State) (i : Iface) (w : Word) : State :=
  let h := getF w Fld.CMD_QUERY_HANDLE
  let s1 := s.putBank i { s.bank i with query := BitVec.ofNat 32 h }
  if s1.stale h then s1.setFlagI .CMD_FLAG 2 (ifaceNum i) 0 else s1

/-- What CMD_QSTAT reads for a handle (R283, R286, R287). -/
def State.qstat (s : State) (h : Nat) : Word :=
  if s.stale h then 0#32
  else
    let c := s.slot (h % 64)
    let st := match c.st with
      | .waiting | .lostWaiting => 1
      | .running | .ended | .lostRunning => 2
      | .done => 3
      | .free => 0
    let det := match c.st with
      | .done => c.detail
      | .lostWaiting | .lostRunning => 0x8000
      | _ => 0
    putF (putF (putF (putF 0#32 Fld.CMD_QSTAT_DETAIL det) Fld.CMD_QSTAT_CODE (if c.st = .done then c.code else 0))
      Fld.CMD_QSTAT_LANE (opLane c.op)) Fld.CMD_QSTAT_STATE st

/-- CMD_QUERY (R286). -/
def execCmdQuery (i : Iface) (v : Word) (be : BitVec 4) (s : State) : Outcome State Fault Refusal :=
  .next (s.guardWrite .CMD_QUERY fun s =>
    s.wrQuery i ((v &&& byteMask be) ||| ((s.bank i).query &&& ~~~ (byteMask be))))

end Sys2Proof.Machine
end

