-- ==== Sys2Proof/Machine/LedgerOps.lean ====
section
/-!
DEFINITION. The ledger as a store (chapter 14): banks, trailers and seals, fault-log records, and the lanes of writes
with their steps.
-/

namespace Sys2Proof.Machine

/-! ### Layout (Table 01.6) -/

/-- First address of the ledger window, block size. -/
def ledgerBase : Nat := 0x10000000
def blockSize : Nat := 0x1000

/-- Bank size of a region; 0 for a number that is no region. -/
def regionSize : Nat → Nat
  | 0 => 0x60000
  | 1 => 0x10000
  | 2 => 0x20000
  | 3 => 0x40000
  | 4 => 0x10000
  | _ => 0

/-- First address of a bank: A for 0, B for 1. -/
def bankBase (r b : Nat) : Nat :=
  (match r with
   | 0 => 0x10000000
   | 1 => 0x100C0000
   | 2 => 0x100E0000
   | 3 => 0x10120000
   | _ => 0x101E0000) + b * regionSize r

/-- Region and bank of a logical address. -/
def regionOf (a : Nat) : Option (Nat × Nat) :=
  [(0, 0), (0, 1), (1, 0), (1, 1), (2, 0), (2, 1), (3, 0), (3, 1), (4, 0), (4, 1)].find? fun x =>
    bankBase x.1 x.2 ≤ a && a < bankBase x.1 x.2 + regionSize x.1

/-- Block number of a ledger address, and its address. -/
def blockOf (a : Nat) : Nat := (a - ledgerBase) / blockSize
def blockAddr (b : Nat) : Nat := ledgerBase + blockSize * b

/-- Address of a bank's trailer. -/
def trailerAt (r b : Nat) : Nat := bankBase r b + regionSize r - 256

/-! ### Bank trailers (R306 to R309) -/

/-- A ledger word as its reader gets it: an uncorrectable one is 0 (R296). -/
def State.ledWord (s : State) (a : Nat) : Word := if (s.sramBad a).isSome then 0#32 else s.word a

/-- Some cells of a range were left undefined by an interrupted step. [DESIGN CHOICE, log 69] -/
def State.tornIn (s : State) (a n : Nat) : Bool := s.ld.torn.any fun e => e.1 < a + n && a < e.1 + e.2

/-- The words of a range. -/
def State.ledWords (s : State) (a n : Nat) : List Word := (List.range (n / 4)).map fun i => s.ledWord (a + 4 * i)

/-- What a bank is: without a seal, damaged, or valid with its SEQ and LENGTH (R308). -/
inductive BankSt where
  | empty
  | damaged
  | valid (seq len : Nat)
deriving DecidableEq, Repr

/-- A region is single-bank, read-only; its abandoned bank. -/
def State.single (s : State) (r : Nat) : Bool := s.bit .LDG_STATUS (16 + r)
def State.readOnly (s : State) (r : Nat) : Bool := s.bit .LDG_STATUS (8 + r)
def State.abandoned (s : State) (r : Nat) : Nat := s.fld (.LDG_R_STAT r) Fld.LDG_R_STAT_ABANDON

/-- An abandoned bank counts no longer: the remaining one has been written since (R322). [DEDUCED, log 104] -/
def State.bankGone (s : State) (r b : Nat) : Bool := s.single r && s.abandoned r == b && s.ld.soleDone.contains r

/-- State of a bank (R308). A trailer that an interrupted step left undefined carries no seal (R324); an interrupted program of
ACT or NACT leaves the seal as it is (Table 14.3). The vendor's image in slot A is sealed, with SEQ 1 (R2, R309). [DESIGN CHOICE,
log 12, 69] -/
def State.bankSt (s : State) (r b : Nat) : BankSt :=
  let t := trailerAt r b
  let mark := s.ledWord (t + 0xFC)
  if s.bankGone r b then .empty
  else if r = 0 ∧ b = 0 ∧ s.ld.factory = true then .valid 1 0
  else if mark == 0xFFFFFFFF#32 || s.tornIn t 0xF0 || s.tornIn (t + 0xFC) 4 then .empty
  else
    let len := (s.ledWord (t + 12)).toNat
    let seq := (s.ledWord (t + 8)).toNat
    if s.ledWord t == 0x4B4E4142#32 && s.ledWord (t + 4) == BitVec.ofNat 32 (r + 256 * b) && inRange 1 0xFFFFFFFE seq &&
        len % 4 == 0 && len ≤ regionSize r - 256 &&
        crc32 (bytesOfWords (s.ledWords (bankBase r b) len ++ s.ledWords t 0xF0)) == mark then .valid seq len
    else .damaged

/-- SEQ of a bank, 0 when it is not valid. -/
def State.bankSeq (s : State) (r b : Nat) : Nat :=
  match s.bankSt r b with
  | .valid q _ => q
  | _ => 0

/-- The newer valid bank of a region (R309). -/
def State.newestBank (s : State) (r : Nat) : Option Nat :=
  let a := s.bankSeq r 0
  let b := s.bankSeq r 1
  if a = 0 ∧ b = 0 then none else if b ≤ a then some 0 else some 1

/-- The bank a new write goes to where the region's rule names none: not the newer valid one; the remaining one of a
single-bank region (R309, R322). -/
def State.targetBank (s : State) (r : Nat) : Nat :=
  if s.single r then 1 - s.abandoned r
  else match s.newestBank r with
    | some b => 1 - b
    | none => 0

/-- SEQ of a new bank write (R309). [DEDUCED, log 101] -/
def State.newSeq (s : State) (r : Nat) : Nat := 1 + max (s.bankSeq r 0) (s.bankSeq r 1)

/-! ### Steps of a write (R307) -/

/-- Row programs for bytes from an address: rows of 128 bytes. The first argument bounds the number of rows. -/
def rowSteps : Nat → Nat → List Byte → List LdgStep
  | 0, _, _ => []
  | _ + 1, _, [] => []
  | n + 1, a, l => .program a (l.take (128 - a % 128)) :: rowSteps n (a + (128 - a % 128)) (l.drop (128 - a % 128))

/-- Row programs for a list of bytes. -/
def rowsOf (a : Nat) (l : List Byte) : List LdgStep := rowSteps (l.length / 128 + 2) a l

/-- Trailer bytes 0x00 to 0xEF (Table 14.1). -/
def trailerBytes (r b seq len : Nat) : List Byte :=
  bytesOfWords [0x4B4E4142#32, BitVec.ofNat 32 (r + 256 * b), BitVec.ofNat 32 seq, BitVec.ofNat 32 len] ++
    List.replicate 224 0#8

/-- The trailer passes of a bank whose content is given: first row, second row up to 0xEF, SEAL (R307 steps 5, 6). -/
def trailerSteps (r b seq : Nat) (content : List Byte) : List LdgStep :=
  let h := trailerBytes r b seq content.length
  let t := trailerAt r b
  [.program t (h.take 128), .program (t + 128) (h.drop 128), .program (t + 0xFC) (bytesOfWords [crc32 (content ++ h)])]

/-- The erases of a bank write, the block of the trailer first. -/
def eraseSteps (r b : Nat) (content : List Byte) : List LdgStep :=
  let tb := blockOf (trailerAt r b)
  let first := blockOf (bankBase r b)
  .erase tb :: ((List.range ((content.length + blockSize - 1) / blockSize)).map (first + ·)).filterMap
      (fun k => if k = tb then none else some (.erase k))

/-- The steps of a bank write behind its content rows: the read-back, the trailer. -/
def closeSteps (r b seq : Nat) (content : List Byte) : List LdgStep :=
  .compare (bankBase r b) content :: trailerSteps r b seq content

/-- The steps of a bank write. -/
def bankSteps (r b seq : Nat) (content : List Byte) : List LdgStep :=
  eraseSteps r b content ++ rowsOf (bankBase r b) content ++ closeSteps r b seq content

/-- Bytes 16 and 17 of a dump, the count of further requests (R319). -/
def withCount (content : List Byte) (lo hi : Byte) : List Byte := content.take 16 ++ [lo, hi] ++ content.drop 18

/-- The steps of a dump: its count is left erased by the content rows and programmed last. [DESIGN CHOICE, log 109] -/
def dumpSteps (b seq : Nat) (content : List Byte) : List LdgStep :=
  eraseSteps 3 b content ++ rowsOf (bankBase 3 b) (withCount content 0xFF#8 0xFF#8) ++ [.dumpCount b seq content]

/-- The job of a bank write. -/
def bankJob (r b seq : Nat) (content : List Byte) (slot : Option Nat) : LdgJob :=
  { kind := .bank r b seq, slot := slot, content := content,
    steps := if r = 3 then dumpSteps b seq content else bankSteps r b seq content }

/-! ### The fault log (R316, R317) -/

/-- First block of the fault log, and its blocks in ring order: 64, or the 32 of the remaining bank. -/
def State.logBlocks (s : State) : List Nat :=
  let f := blockOf (bankBase 2 0)
  if s.single 2 then (List.range 32).map (f + 32 * (1 - s.abandoned 2) + ·) else (List.range 64).map (f + ·)

/-- The block behind a block in the ring. -/
def State.logNext (s : State) (b : Nat) : Nat :=
  let l := s.logBlocks
  ((l.dropWhile (· != b)).drop 1).headD (l.headD b)

/-- Bytes of a record (Table 14.4). [DEDUCED, log 91] -/
def recordBytes (k : LogRec) (seq : Nat) : List Byte :=
  let head := bytesOfWords [BitVec.ofNat 32 (k.kind % 256 + 256 * (k.len % 256) + 2 ^ 16 * b2n k.stamp.isLocal),
    BitVec.ofNat 32 seq, timeLo k.stamp.time, timeHi k.stamp.time]
  let pay := bytesOfWords (k.payload ++ List.replicate 12 0#32)
  let body := head ++ pay.take (16 * k.len - 20)
  body ++ bytesOfWords [crc32 body]

/-- Address of a place of the log, in 16-byte units from 0x100E_0000. -/
def logAddr (u : Nat) : Nat := bankBase 2 0 + 16 * u

/-- A 16-byte unit of the log is erased; cells an interrupted step left undefined are not. [DESIGN CHOICE, log 69] -/
def State.unitErased (s : State) (u : Nat) : Bool :=
  !s.tornIn (logAddr u) 16 && (List.range 4).all fun i => s.ledWord (logAddr u + 4 * i) == 0xFFFFFFFF#32

/-- The valid record at a place, if any: its length, SEQ and kind. [DEDUCED, log 105] -/
def State.recordAt (s : State) (u : Nat) : Option (Nat × Nat × Nat) :=
  let a := logAddr u
  let w := s.ledWord a
  let len := getF w ⟨15, 8⟩
  if inRange 2 4 len && u % 256 + len ≤ 256 && !s.tornIn a (16 * len) &&
      crc32 (bytesOfWords (s.ledWords a (16 * len - 4))) == s.ledWord (a + 16 * len - 4) &&
      s.ledWord (a + 16 * len - 4) != 0xFFFFFFFF#32 then
    some (len, (s.ledWord (a + 4)).toNat, getF w ⟨7, 0⟩)
  else none

/-- The valid records of a block from a place on, up to place `stop`: place, length, SEQ, kind. The first argument
bounds the walk. -/
def State.recordsFrom (s : State) (stop : Nat) : Nat → Nat → List (Nat × Nat × Nat × Nat)
  | 0, _ => []
  | n + 1, u =>
    if stop ≤ u || s.unitErased u then []
    else match s.recordAt u with
      | some (len, q, kind) => (u, len, q, kind) :: recordsFrom s stop n (u + len)
      | none => recordsFrom s stop n (u + 1)

/-- Every valid record of the log, block by block. -/
def State.logRecords (s : State) : List (Nat × Nat × Nat × Nat) :=
  s.logBlocks.flatMap fun b =>
    let u := 256 * (b - blockOf (bankBase 2 0))
    s.recordsFrom (u + 256) 256 u

/-- The record with the highest SEQ. -/
def newestRecord (l : List (Nat × Nat × Nat × Nat)) : Option (Nat × Nat × Nat × Nat) :=
  l.foldl (fun o x => match o with
    | some y => if y.2.2.1 < x.2.2.1 then some x else o
    | none => some x) none

/-- The append point after a start: the first erased unit behind the newest record (R318). -/
def State.findAppend (s : State) : Nat :=
  match newestRecord s.logRecords with
  | none => 256 * (s.logBlocks.headD 0 - blockOf (bankBase 2 0))
  | some (u, len, _, _) =>
    let blk := u / 256
    match ((List.range 256).map (256 * blk + ·)).find? fun v => u + len ≤ v && s.unitErased v with
    | some v => v
    | none => 256 * (s.logNext (blockOf (bankBase 2 0) + blk) - blockOf (bankBase 2 0))

/-- The job that writes a record of the log: its place, its steps with the erase of the next block when it begins a
block (R316). -/
def State.logJob (s : State) (k : LogRec) (at0 : Nat) : LdgJob :=
  let first := blockOf (bankBase 2 0)
  let u := if at0 % 256 + k.len ≤ 256 then at0 else 256 * (s.logNext (first + at0 / 256) - first)
  let q := (s.rd (.LDG_R_SEQ 2)).toNat + 1
  let er := if u % 256 = 0 then [LdgStep.erase (s.logNext (first + u / 256))] else []
  { kind := .log q u k, steps := er ++ rowsOf (logAddr u) (recordBytes k q) }

end Sys2Proof.Machine
end

