-- ==== Sys2Proof/Machine/Ledger.lean ====
section
/-!
DEFINITION. Ledger writes as they run (chapter 14): the lanes with their steps, commits and failures, the firmware,
user-area and retirement commands, and what a reset does to writes in progress.
-/

namespace Sys2Proof.Machine

open Host (Outcome)

/-! ### Lanes (R310) -/

/-- The writes of a lane. -/
def State.lane (s : State) (l : Nat) : List LdgJob := s.ld.lanes.get l []
def State.putLane (s : State) (l : Nat) (j : List LdgJob) : State := { s with ld := { s.ld with lanes := s.ld.lanes.set l j } }

/-- The region and bank a write goes to, where it is a bank write. -/
def LdgJob.bank (j : LdgJob) : Option (Nat × Nat) :=
  match j.kind with
  | .bank r b _ => some (r, b)
  | _ => none

/-- Lane 2 takes the oldest record of the AON buffer (R318). -/
def State.refill (s : State) : State :=
  match s.lane 2, s.ld.logBuf with
  | [], k :: t =>
    if s.powered .nvm && !s.readOnly 2 then
      let s1 := s.putLane 2 [s.logJob k (s.fld .LDG_LOG Fld.LDG_LOG_APPEND)]
      { s1 with ld := { s1.ld with logBuf := t } }
    else s
  | _, _ => s

/-- A lane's first write has a step to run. [DEDUCED, log 102] -/
def State.laneReady (s : State) (l : Nat) : Bool := (s.lane l).head?.any fun j => !j.steps.isEmpty

/-- The lane of the next step: 3, then 2, then 0 and 1 by turns; two writes into one bank are not mixed. [DEDUCED, log 102] -/
def State.nextLane (s : State) : Option Nat :=
  if s.laneReady 3 then some 3
  else if s.laneReady 2 then some 2
  else if s.laneReady 0 && s.laneReady 1 then
    match (s.lane 0).head?, (s.lane 1).head? with
    | some a, some b =>
      if a.bank.isSome ∧ a.bank = b.bank ∧ (a.begun || b.begun) = true then some (if a.begun then 0 else 1)
      else some (1 - s.ld.lastLow)
    | _, _ => some (1 - s.ld.lastLow)
  else if s.laneReady 0 then some 0
  else if s.laneReady 1 then some 1
  else none

/-- A step of the ledger is an erase. -/
def LdgStep.isErase : LdgStep → Bool
  | .erase _ => true
  | _ => false

/-- The steps of a write with the erase that an interrupted block needs before its next program (R324). -/
def State.freshSteps (s : State) (l : List LdgStep) : List LdgStep :=
  match l with
  | .program a b :: t => if s.ld.again.contains (blockOf a) then .erase (blockOf a) :: .program a b :: t else .program a b :: t
  | _ => l

/-- The next step begins when none runs; none after a watchdog expiry (R343). -/
def State.kick (s0 : State) : State :=
  let s := s0.refill
  if s.ld.cur.isSome || s.wd.expired then s
  else match s.nextLane with
  | none => s.put .LDG_STATUS Fld.LDG_STATUS_ERASING 0
  | some l =>
    match s.lane l with
    | [] => s
    | j :: t =>
      let steps := s.freshSteps j.steps
      let s1 := s.putLane l ({ j with begun := true, steps := steps } :: t)
      let s2 : State := { s1 with ld := { s1.ld with cur := some l, tries := 0, lastLow := if l < 2 then l else s1.ld.lastLow } }
      s2.put .LDG_STATUS Fld.LDG_STATUS_ERASING (b2n (steps.head?.any LdgStep.isErase))

/-- A write enters its lane. -/
def State.enqueue (s : State) (l : Nat) (j : LdgJob) : State := (s.putLane l (s.lane l ++ [j])).kick

/-- The first erase in firmware slot A ends the vendor's image: what the other blocks still hold is open. [DESIGN CHOICE, log
12] -/
def State.dropFactory (s : State) (b : Nat) : State :=
  if s.ld.factory && decide (b < 96) then
    { s with ld := { s.ld with
      factory := false, torn := ((List.range 96).map fun i => (blockAddr i, blockSize)) ++ s.ld.torn } }
  else s

/-- The count of further requests in the header of a dump. -/
def State.dumpFurther (s : State) : Nat :=
  match s.ld.dump with
  | some d => d.further
  | none => 0

/-- Bytes are programmed: what an interrupted step had left undefined there is defined again. -/
def State.programBytes (s : State) (a : Nat) (l : List Byte) : State :=
  let s1 := s.putBytes a l
  { s1 with ld := { s1.ld with torn := s1.ld.torn.filter fun e => !(a ≤ e.1 && e.1 + e.2 ≤ a + l.length) } }

/-- The effect of a step on the cells. -/
def State.runStep (s : State) : LdgStep → State
  | .erase b =>
    let s := s.dropFactory b
    let a := blockAddr b
    let inside := fun x => a ≤ x && x < a + blockSize
    { s with
      mem := s.mem.filter (fun c => !inside c.1),
      me := { s.me with bad := s.me.bad.filter (fun e => !inside e.1), soft := s.me.soft.filter (fun e => !inside e.1) },
      ld := { s.ld with torn := s.ld.torn.filter (fun e => !inside e.1), again := s.ld.again.filter (· != b) } }
  | .program a l => s.programBytes a l
  | .compare _ _ => s
  | .dumpCount b _ _ => s.programBytes (bankBase 3 b + 16) [BitVec.ofNat 8 s.dumpFurther, BitVec.ofNat 8 (s.dumpFurther / 256)]

/-- The steps that follow a step: the read-back and the trailer of a dump are those of its content with the count. -/
def State.stepsAfter (s : State) (st : LdgStep) (rest : List LdgStep) : List LdgStep :=
  match st with
  | .dumpCount b q l =>
    closeSteps 3 b q (withCount l (BitVec.ofNat 8 s.dumpFurther) (BitVec.ofNat 8 (s.dumpFurther / 256))) ++ rest
  | _ => rest

/-! ### Ends of writes -/

/-- A trackplan load has committed (R63): the bank and its SEQ are shown, the command completes. [DEDUCED, log 37] -/
def State.tplCommitted (s : State) (b q k : Nat) : State :=
  let w := putF (putF (s.rd .TPL_STATUS) Fld.TPL_STATUS_BANK b) Fld.TPL_STATUS_UNSAVED 0
  let s1 := (s.wr .TPL_STATUS w).wr .TPL_SEQNUM (BitVec.ofNat 32 q)
  (s1.loadOver k).complete k 0 0

/-- The commit of a trackplan load has failed (R59): the running configuration stays, UNSAVED. [DEDUCED, log 37] -/
def State.tplUnsaved (s : State) (k : Nat) : State :=
  ((s.put .TPL_STATUS Fld.TPL_STATUS_UNSAVED 1).loadOver k).complete k 0x25 0

/-- Complete the command a write belongs to. -/
def State.finish (s : State) (k : Option Nat) (code detail : Nat) : State :=
  match k with
  | some k => s.complete k code detail
  | none => s

/-- A record of a retirement, with the abandonment it caused (Table 14.5, kind 0x07). [DEDUCED, log 106] -/
def State.logRetire (s : State) (page : Bool) (what : Nat) (aband : Option (Nat × Nat)) : State :=
  let w := match aband with
    | some (r, b) => r + 8 * b + 16
    | none => 0
  s.logRec 0x07 3 s.now [BitVec.ofNat 32 (b2n (!page)), BitVec.ofNat 32 what, BitVec.ofNat 32 w]

/-- A write without a seal of its own has run its last step. -/
def State.jobDone (s : State) (j : LdgJob) : State :=
  match j.kind with
  | .bank _ _ _ => s
  | .fwWrite => s.finish j.slot 0 0
  | .fwActivate =>
    let s1 := s.put .LDG_STATUS Fld.LDG_STATUS_FWOPEN 0
    ({ s1 with ld := { s1.ld with restart := s1.loader } } : State).finish j.slot 0 0
  | .log q u k =>
    let s1 := (s.wr (.LDG_R_SEQ 2) (BitVec.ofNat 32 q)).put .LDG_LOG Fld.LDG_LOG_APPEND (u + k.len)
    let b := u / 8192
    (s1.put (.LDG_R_STAT 2) Fld.LDG_R_STAT_NEWEST b).putBit (.LDG_R_STAT 2) b true
  | .retire blk spare =>
    let a := blockAddr blk
    let s0 := s.ledMeet a blockSize 7
    let lost := keysIn s0.me.bad a blockSize
    let s1 := each lost (fun x s => s.putWord x 0xFFFFFFFF#32) s0
    let inside := fun x => a ≤ x && x < a + blockSize
    let s2 : State := { s1 with
      me := { s1.me with bad := s1.me.bad.filter (fun e => !inside e.1), soft := s1.me.soft.filter (fun e => !inside e.1) },
      ld := { s1.ld with map := (blk, spare) :: s1.ld.map } }
    (s2.logRetire false a none).finish j.slot (if lost.isEmpty then 0 else 0x5F) lost.length

/-- The content of a bank reads back as it was programmed (R307). -/
def State.readsBack (s : State) (a : Nat) (l : List Byte) : Bool := s.ledWords a l.length == wordsOfBytes l

/-- The steps that are left once a read-back that comes next has been made; one that does not match stays in front, and ends the
write with its next LEDGER_WRITE_FAIL (R307, R321). [DESIGN CHOICE, log 189] -/
def State.bankReadBack (s : State) (l : List LdgStep) : List LdgStep × State :=
  match l with
  | .compare a b :: rest =>
    let s1 := s.ledMeet a b.length 2
    (if s1.readsBack a b then rest else l, s1)
  | _ => (l, s)

/-- A step is a read-back. -/
def LdgStep.isCompare : LdgStep → Bool
  | .compare _ _ => true
  | _ => false

/-- The step of the current lane has ended well. -/
def State.stepEnded (s : State) (l : Nat) : State :=
  match s.lane l with
  | [] => ({ s with ld := { s.ld with cur := none } } : State).kick
  | j :: t =>
    match j.steps with
    | [] => ({ s with ld := { s.ld with cur := none } } : State).kick
    | st :: rest =>
      let s1 := (({ s with ld := { s.ld with cur := none } } : State).runStep st)
      let p := s1.bankReadBack (s1.stepsAfter st rest)
      let j' := { j with steps := p.1 }
      if p.1.isEmpty && j.bank.isNone then ((p.2.putLane l t).jobDone j').kick
      else if p.1.head?.any LdgStep.isCompare then
        let s2 := p.2.putLane l (j' :: t)
        { s2 with ld := { s2.ld with cur := some l, tries := 3 } }
      else (p.2.putLane l (j' :: t)).kick

/-- LEDGER_STEP_DONE (R310, R321): the running step ends, or fails its verify and is tried again, twice at most. -/
def execLedgerStepDone (ok : Bool) (s : State) : Outcome State Fault Refusal :=
  .next (match s.kick.ld.cur with
    | none => s.kick
    | some l =>
      let s := s.kick
      if s.ld.suspended || 3 ≤ s.ld.tries then s
      else if ok then s.stepEnded l
      else { s with ld := { s.ld with tries := s.ld.tries + 1 } })

/-- The first write of a single-bank region in its remaining bank since the other was abandoned has committed (R322). [DEDUCED, log
104] -/
def State.soleWrite (s : State) (r b : Nat) : State :=
  if s.single r && s.abandoned r != b && !s.ld.soleDone.contains r then { s with ld := { s.ld with soleDone := r :: s.ld.soleDone } } else s

/-- A dump has committed and is reported (R319). -/
def State.dumpCommitted (s : State) (b q : Nat) : State :=
  match s.ld.dump with
  | none => s
  | some d =>
    let s3 := (s.addSat .LDG_DUMP Fld.LDG_DUMP_COUNT 1).put .LDG_DUMP Fld.LDG_DUMP_SLOT b
    let s4 := (s3.logRec 0x08 3 s3.now [BitVec.ofNat 32 b, BitVec.ofNat 32 q, BitVec.ofNat 32 d.src]).happen 135 b 0
    let mc := if d.src = 55 ∧ s4.pw.mc ≠ .off then .stopped else s4.pw.mc
    { s4 with ld := { s4.ld with dump := none }, pw := { s4.pw with mc := mc } }

/-- A bank write commits. -/
def State.bankCommitted (s : State) (r b q : Nat) (k : Option Nat) : State :=
  let s1 := s.soleWrite r b
  match r with
  | 1 =>
    match k with
    | some j => if (s1.slot j).op = 0x41 then (s1.put .TPL_STATUS Fld.TPL_STATUS_UNSAVED 0).complete j 0 0 else s1.tplCommitted b q j
    | none => s1
  | 0 => (s1.put .LDG_STATUS Fld.LDG_STATUS_FWOPEN 0).finish k 0 0
  | 3 => s1.dumpCommitted b q
  | _ => s1.finish k 0 0

/-- The lane whose first write waits for its commit. -/
def State.commitLane (s : State) : Option Nat :=
  [3, 0, 1].find? fun l => (s.lane l).head?.any fun j => j.steps.isEmpty && j.bank.isSome

/-- LEDGER_COMMIT (R307): SEAL has been programmed and read back. -/
def execLedgerCommit (s : State) : Outcome State Fault Refusal :=
  .next (match (if s.wd.expired then none else s.commitLane) with
    | none => s
    | some l =>
      match s.lane l with
      | j :: t =>
        match j.kind with
        | .bank r b q => ((s.putLane l t).bankCommitted r b q j.slot).kick
        | _ => s
      | [] => s)

/-- LEDGER_WRITE_FAIL (R321): the running step has failed three times, so its write ends. -/
def execLedgerWriteFail (s : State) : Outcome State Fault Refusal :=
  .next (match s.ld.cur with
    | none => s
    | some l =>
      if s.ld.tries < 3 then s
      else match s.lane l with
      | [] => s
      | j :: t =>
        let blk := match j.steps with
          | .erase b :: _ => b
          | .program a _ :: _ => blockOf a
          | .compare a _ :: _ => blockOf a
          | .dumpCount b _ _ :: _ => blockOf (bankBase 3 b)
          | [] => 0
        let er := j.steps.head?.any LdgStep.isErase
        let s1 : State := { s with ld := { s.ld with cur := none, tries := 0 } }
        let s2 := ((s1.putLane l t).wr .LDG_BADBLK (BitVec.ofNat 32 (blockAddr blk + (if er then 1 else 2)))).setFlagI .LDG_FLAG 0 blk 0
        let s3 := match j.kind with
          | .log _ u k =>
            let first := blockOf (bankBase 2 0)
            s2.putLane 2 (s2.logJob k (256 * (s2.logNext (first + u / 256) - first)) :: t)
          | .bank 3 _ _ => { s2 with ld := { s2.ld with dump := none } }
          | .bank 1 _ _ =>
            match j.slot with
            | some k => if (s2.slot k).op = 0x41 then s2.complete k 0x50 blk else s2.tplUnsaved k
            | none => s2
          | _ => s2.finish j.slot 0x50 blk
        s3.kick)

/-- ERASE_SUSPEND (R310): a read meets a running erase. [DEDUCED, log 107] -/
def execEraseSuspend (s : State) : Outcome State Fault Refusal :=
  .next (if s.bit .LDG_STATUS 3 && s.ld.cur.isSome then { s with ld := { s.ld with suspended := true } } else s)

/-- ERASE_RESUME (R310): 100 µs without a read. [DEDUCED, log 107] -/
def execEraseResume (s : State) : Outcome State Fault Refusal :=
  .next ({ s with ld := { s.ld with suspended := false } })

/-! ### Command sources (R311, R320) -/

/-- An SRAM area leaves SRAM or overlaps an event queue. -/
def State.badSource (s : State) (a n : Nat) : Bool :=
  decide (sramEnd < a + n) ||
  (List.range 3).any fun q =>
    let b := (s.rd (.EVT_QBASE q)).toNat / 16 * 16
    a < b + 16 * s.fld (.EVT_QSIZE q) Fld.EVT_QSIZE_SIZE && b < a + n

/-- The first damaged word of an SRAM area. [DEDUCED, log 99] -/
def State.firstBad (s : State) (a n : Nat) : Option (Nat × BitVec 7) :=
  s.me.bad.findSome? fun e => if a / 4 * 4 ≤ e.1 && e.1 < a + n then some e else none

/-- A ledger command reads its source through channel 3; a damaged word halts the channel and ends the command with
FAULT (R297, Table 13.1). [DEDUCED, log 99] -/
def State.withSource (s : State) (k a n : Nat) (f : List Byte → State → State) : State :=
  let s1 := (s.dmaRestart 3).eccRange a n 1
  match s1.firstBad a n with
  | some (x, syn) => ((s1.sramUe x 1 1 syn).dmaHalt 3 1).complete k 0x21 0
  | none => f (s1.bytes a n) s1

/-! ### Firmware slots (R311 to R315) -/

/-- The inactive firmware slot. -/
def State.fwInactive (s : State) : Nat := 1 - s.fld .LDG_STATUS Fld.LDG_STATUS_BOOTSLOT

/-- The bytes of the open slot up to the highest one programmed. -/
def State.fwSpan (s : State) : Nat := s.ld.fwDone.foldl (fun m e => max m (e.1 + e.2)) 0

/-- The slot the firmware commands write: the inactive one, or the remaining one of a single-bank region (R311, R322). -/
def State.fwTarget (s : State) : Nat := if s.single 0 then 1 - s.abandoned 0 else s.fwInactive

/-- The remaining slot is the one that booted and has not been written since: nothing in it can be activated.
[DEDUCED, log 104] -/
def State.fwKept (s : State) : Bool := s.single 0 && s.abandoned 0 == s.fwInactive && !s.ld.soleDone.contains 0

/-- LDG_FW_WRITE runs. -/
def State.fwWrite (s : State) (k : Nat) : State :=
  let c := s.slot k
  let a := c.p0.toNat
  let n := c.p1.toNat
  let o := c.p2.toNat
  let b := s.fwInactive
  if a % 4 ≠ 0 ∨ n % 4 ≠ 0 ∨ o % 4 ≠ 0 ∨ n = 0 ∨ 65536 < n ∨ 392960 < o + n ∨ s.badSource a n = true then s.complete k 0x26 0
  else if s.readOnly 0 then s.complete k 0x56 0
  else if !s.loader && s.single 0 && s.abandoned 0 == b && !wbit c.p3 0 then s.complete k 0x55 0
  else
    let slot := s.fwTarget
    let opened := s.bit .LDG_STATUS 2
    if opened && s.ld.fwDone.any (fun e => e.1 < o + n && o < e.1 + e.2) then s.complete k 0x52 0
    else s.withSource k a n fun l s =>
      let first := blockOf (bankBase 0 slot)
      let er := if opened then [] else (List.range 96).map fun i => LdgStep.erase (first + 95 - i)
      let s1 : State := { s with ld := { s.ld with fwDone := (o, n) :: (if opened then s.ld.fwDone else []) } }
      (s1.put .LDG_STATUS Fld.LDG_STATUS_FWOPEN 1).enqueue 1
        { kind := .fwWrite, steps := er ++ rowsOf (bankBase 0 slot + o) l, slot := some k }

/-- LDG_FW_SEAL runs. -/
def State.fwSeal (s : State) (k : Nat) : State :=
  let b := s.fwTarget
  if !s.bit .LDG_STATUS 2 then s.complete k 0x53 0
  else if s.readOnly 0 then s.complete k 0x56 0
  else
    let s := s.ledMeet (bankBase 0 b) s.fwSpan 2
    let img := bytesOfWords (s.ledWords (bankBase 0 b) s.fwSpan)
    if Config.signatureOk img then
      let q := s.newSeq 0
      s.enqueue 1 { kind := .bank 0 b q, steps := trailerSteps 0 b q img, slot := some k, content := img }
    else s.complete k 0x54 0

/-- ACT of a slot with a valid activation (R313); the vendor's image has the first one, 1 (R2, R315). [DESIGN CHOICE, log 12] -/
def State.fwAct (s : State) (b : Nat) : Option Nat :=
  let t := trailerAt 0 b
  if s.tornIn (t + 0xF0) 8 then none
  else if b = 0 ∧ s.ld.factory = true ∧ s.ledWord (t + 0xF0) = 0xFFFFFFFF#32 then some 1
  else if s.ledWord (t + 0xF0) ^^^ s.ledWord (t + 0xF4) == 0xFFFFFFFF#32 then some (s.ledWord (t + 0xF0)).toNat else none

/-- The activation number a new activation takes: one above the booted slot's, or above the highest under the loader
(R313, R315). -/
def State.nextAct (s : State) : Nat :=
  if s.loader then 1 + max ((s.fwAct 0).getD 0) ((s.fwAct 1).getD 0)
  else 1 + (s.fwAct (1 - s.fwInactive)).getD 0

/-- LDG_FW_ACTIVATE runs. -/
def State.fwActivate (s : State) (k : Nat) : State :=
  let b := s.fwTarget
  if s.bankSeq 0 b = 0 ∨ s.fwKept = true then s.complete k 0x53 0
  else if s.readOnly 0 then s.complete k 0x56 0
  else
    let t := trailerAt 0 b
    let act := BitVec.ofNat 32 s.nextAct
    s.enqueue 1 { kind := .fwActivate, steps := [.program (t + 0xF0) (bytesOfWords [act]), .program (t + 0xF4) (bytesOfWords [act ^^^ 0xFFFFFFFF#32])], slot := some k }

/-! ### User area (R320) -/

/-- LDG_USER_WRITE runs. -/
def State.userWrite (s : State) (k : Nat) : State :=
  let c := s.slot k
  let a := c.p0.toNat
  let n := c.p1.toNat
  let o := c.p2.toNat
  if 65280 < o + n ∨ s.badSource a n = true then s.complete k 0x26 0
  else if s.readOnly 4 then s.complete k 0x56 0
  else s.withSource k a n fun l s0 =>
    let s := match s0.newestBank 4 with
      | some b => s0.ledMeet (bankBase 4 b) 65280 2
      | none => s0
    let old := match s.newestBank 4 with
      | some b => bytesOfWords (s.ledWords (bankBase 4 b) 65280)
      | none => List.replicate 65280 0xFF#8
    let new := old.take o ++ l ++ old.drop (o + n)
    let b := s.targetBank 4
    let q := s.newSeq 4
    s.enqueue 1 (bankJob 4 b q new (some k))

/-! ### Retiring a block (R304, R322, R323) -/

/-- The fault log goes on in its remaining bank (R322): the append point, and a record on its way. -/
def State.logMoves (s : State) : State :=
  if (s.logBlocks.map (· - blockOf (bankBase 2 0))).contains (s.fld .LDG_LOG Fld.LDG_LOG_APPEND / 256) then s
  else
    let u := s.findAppend
    let s1 := s.put .LDG_LOG Fld.LDG_LOG_APPEND u
    s1.putLane 2 ((s1.lane 2).map fun j => match j.kind with
      | .log _ _ k => s1.logJob k u
      | _ => j)

/-- The running step of a lane is abandoned (R322, R324): its cells are open, an erase is noted. -/
def State.dropStep (s : State) (l : Nat) : State :=
  if s.ld.cur ≠ some l then s
  else
    let ld := { s.ld with cur := none, suspended := false, tries := 0 }
    let ld1 := match (s.lane l).head?.bind fun j => j.steps.head? with
      | some (.erase b) => { ld with torn := (blockAddr b, blockSize) :: ld.torn, again := b :: ld.again }
      | some (.program a m) => { ld with torn := (a, m.length) :: ld.torn }
      | some (.dumpCount b _ _) => { ld with torn := (bankBase 3 b + 16, 2) :: ld.torn }
      | _ => ld
    { s with ld := ld1 }

/-- The bank writes of a lane that go to an abandoned bank begin again in the remaining one: an abandoned bank is never written
again (R322). [DEDUCED, log 104] -/
def State.moveLane (s : State) (r b l : Nat) : State :=
  let hit (j : LdgJob) : Bool := j.bank == some (r, b)
  let s1 := if (s.lane l).head?.any hit then s.dropStep l else s
  s1.putLane l ((s1.lane l).map fun j => match j.kind with
    | .bank _ _ q => if hit j then bankJob r (1 - b) q j.content j.slot else j
    | _ => j)

/-- No spare is left for a block of a region: its bank is abandoned, or the region becomes read-only. -/
def State.noSpare (s : State) (r b a : Nat) : State :=
  if s.single r then
    let s1 := (s.putBit .LDG_STATUS (8 + r) true).setFlagI .LDG_FLAG 2 r 0
    ((s1.logRetire false a (some (r, b))).live 239 true).raise 239 0
  else
    let s1 := (s.putBit .LDG_STATUS (16 + r) true).put (.LDG_R_STAT r) Fld.LDG_R_STAT_ABANDON b
    let s2 := (each [0, 1, 3] (fun l s => s.moveLane r b l) (if r = 2 then s1.logMoves else s1)).setFlagI .LDG_FLAG 1 r 0
    ((s2.logRetire false a (some (r, b))).live 238 true).raise 238 0

/-- LDG_RETIRE runs. -/
def State.retire (s : State) (k : Nat) : State :=
  let a := (s.slot k).p0.toNat
  match (if a % blockSize = 0 then regionOf a else none) with
  | none => s.complete k 0x26 0
  | some (r, b) =>
    match (List.range 64).find? fun i => !(s.ld.map.any fun e => e.2 == 0x1A0 + i) with
    | none => (s.noSpare r b a).complete k 0x5E 0
    | some i =>
      let sp := 0x1A0 + i
      let rows := (List.range 32).map fun j => LdgStep.program (blockAddr sp + 128 * j) []
      s.enqueue 1 { kind := .retire (blockOf a) sp, steps := .erase sp :: rows, slot := some k }

/-! ### The command rows -/

/-- A ledger command row: issue through an interface, or the running command goes on. -/
def State.ledgerRow (s : State) (a : CmdAct) (op : Nat) (f : Nat → State → State) : State :=
  match a with
  | .issue i => s.issue i op
  | .advance => s.withRunning op fun k s => if (s.slot k).phase = 0 then f k (s.setPhase k 1) else s

/-- LDG_FW_WRITE (R311). -/
def execLdgFwWrite (a : CmdAct) (s : State) : Outcome State Fault Refusal := .next (s.ledgerRow a 0x42 fun k s => s.fwWrite k)

/-- LDG_FW_SEAL (R312). -/
def execLdgFwSeal (a : CmdAct) (s : State) : Outcome State Fault Refusal := .next (s.ledgerRow a 0x43 fun k s => s.fwSeal k)

/-- LDG_FW_ACTIVATE (R313). -/
def execLdgFwActivate (a : CmdAct) (s : State) : Outcome State Fault Refusal :=
  .next (s.ledgerRow a 0x44 fun k s => s.fwActivate k)

/-- LDG_USER_WRITE (R320). -/
def execLdgUserWrite (a : CmdAct) (s : State) : Outcome State Fault Refusal := .next (s.ledgerRow a 0x45 fun k s => s.userWrite k)

/-- LDG_RETIRE (R304). -/
def execLdgRetire (a : CmdAct) (s : State) : Outcome State Fault Refusal := .next (s.ledgerRow a 0x46 fun k s => s.retire k)

/-! ### Resets (R324) -/

/-- The step in progress is abandoned: its cells are open, an erase is noted. [DEDUCED, log 103] -/
def State.ledgerAbandon (s : State) : State :=
  let s1 := match s.ld.cur with
    | some l => s.dropStep l
    | none => s
  let er := match s.ld.cur with
    | some l => ((s.lane l).head?.bind fun j => j.steps.head?).any LdgStep.isErase
    | none => false
  let ld := { s1.ld with suspended := false, tries := 0, eraseAbandoned := s1.ld.eraseAbandoned || er }
  ({ s1 with ld := ld } : State).put .LDG_STATUS Fld.LDG_STATUS_ERASING 0

/-- A reset drops every write accepted and not committed, with its GAP records. [DEDUCED, log 108] -/
def State.ledgerReset (s : State) : State :=
  let n2 := s.ld.logBuf.length
  let s1 := each [0, 1, 2, 3] (fun l s => s.gap 7 l ((s.lane l).length + (if l = 2 then n2 else 0)) 0) s.ledgerAbandon
  let s2 : State := { s1 with ld := { s1.ld with lanes := [], logBuf := [], fwDone := [], dump := none, restart := false } }
  s2.put .LDG_STATUS Fld.LDG_STATUS_FWOPEN 0

end Sys2Proof.Machine
end

