-- ==== Sys2Proof/Machine/SignalBox.lean ====
section
/-!
DEFINITION. The signal box (chapter 10): raises and clears that reach it from outside, its configuration, the
comparator force and the checker injection.
-/

namespace Sys2Proof.Machine

open Host (Outcome)

/-! ### Configuration (R241) -/

/-- The life-cycle state: 0 BLANK, 1 FACTORY, 2 CONFIGURED, 3 FIELD, 4 RETIRED. -/
def State.lifeCycle (s : State) : Nat := s.fld .OTP_STATUS Fld.OTP_STATUS_LC

/-- The row of Table 10.1 gives the source an own rail. -/
def ownRailRow (f : Nat) : Bool := f < 48 || (56 ≤ f && f < 220)

/-- A configuration of a source is permitted (R241): the Class A rule and the LINE_TRIP rule. [DEDUCED, log 88] -/
def fltCfgOk (f : Nat) (cfg tgt : Word) : Bool :=
  !(getF cfg Fld.FLT_CFG_CLASS == 2 && !ownRailRow f && getF tgt Fld.FLT_TGT_RAILS == 0) && !(f == 248 && wbit cfg 4)

/-- The targets lie in the domain that owns the source, if one does (R241). -/
def State.fltTgtOk (s : State) (f : Nat) (tgt : Word) : Bool :=
  match s.faultDom f with
  | none => true
  | some d =>
    allRails.all (fun n => !tgt.getLsbD n || decide (s.railDom n = some d)) &&
    allGroups.all (fun g => !(getF tgt Fld.FLT_TGT_GROUPS).testBit g || decide (s.groupDom g = some d))

/-- A write of FLTsss_CFG; CLASS 0b11 leaves the class as it is. [DEDUCED, log 88] -/
def State.wrFltCfg (s : State) (f : Nat) (w : Word) : State :=
  let old := s.fld (.FLT_CFG f) Fld.FLT_CFG_CLASS
  let w1 := if getF w Fld.FLT_CFG_CLASS = 3 then putF w Fld.FLT_CFG_CLASS old else w
  let s1 := s.writeRw (.FLT_CFG f) w1
  if !fltCfgOk f (s1.rd (.FLT_CFG f)) (s1.rd (.FLT_TGT f)) ||
      (s.latched f && s1.fld (.FLT_CFG f) Fld.FLT_CFG_CLASS != old) then s.setFlag .FLT_FLAG 0
  else s1.faultPin

/-- A write of FLTsss_TGT. -/
def State.wrFltTgt (s : State) (f : Nat) (w : Word) : State :=
  let s1 := s.writeRw (.FLT_TGT f) w
  if s.fltTgtOk f (s1.rd (.FLT_TGT f)) && fltCfgOk f (s1.rd (.FLT_CFG f)) (s1.rd (.FLT_TGT f)) then s1
  else s.setFlag .FLT_FLAG 0

/-- A write of FLT_STATw (R243). -/
def State.wrFltStat (s : State) (k : Nat) (w : Word) : State := each (bitsOf w) (fun b s => s.clearFault (32 * k + b)) s

/-- A write of FLT_CTL (R270). -/
def State.wrFltCtl (s : State) (w : Word) : State :=
  if wbit w 31 && getF w Fld.FLT_CTL_KEY == 0x96 then each (List.range 128) (fun p s => s.wr (.FLT_CNT p) 0#32) s else s

/-- A write of FLT_FORCE (R253). [DEDUCED, log 52] -/
def State.wrFltForce (s : State) (w : Word) : State :=
  if s.lifeCycle == 1 && s.pins.testEn then s.writeRw .FLT_FORCE w else s.setFlag .FLT_FLAG 2

/-- A write of FLT_HOST: of several sources those of Class A react first (R242). -/
def State.wrFltHost (s : State) (w : Word) : State :=
  let l := (List.range 4).filter fun i => wbit w i
  let a (i : Nat) : Bool := s.fld (.FLT_CFG (252 + i)) Fld.FLT_CFG_CLASS == 2
  each (l.filter a ++ l.filter fun i => !a i) (fun i s => s.raise (252 + i) 0) s

/-! ### Checker injection (R254, R255) -/

/-- The source of a checker: bus parity, engine check, link CRC of a port, ledger seal. [DESIGN CHOICE, log 87] -/
def injSource (chk unit : Nat) : Nat :=
  match chk with
  | 0 => 235
  | 1 => 236
  | 2 => 240 + unit % 4
  | _ => 237

/-- A GO: one injection, or a refusal. [DEDUCED, log 86] -/
def State.injectGo (s : State) : State :=
  let chk := s.fld .FLT_INJ Fld.FLT_INJ_CHK
  let unlocked := s.bit .FLT_INJSTAT 8
  let s1 := s.putBit .FLT_INJSTAT 8 false
  if unlocked && inRange 1 3 s.lifeCycle && (chk != 2 || s.powered .link) then
    ({ s1 with fl := { s1.fl with injection := some (chk, s.fld .FLT_INJ Fld.FLT_INJ_UNIT, s.bit .FLT_INJ 30) } }).addSat
      .FLT_INJSTAT Fld.FLT_INJSTAT_INJCNT 1
  else (s1.put .FLT_INJSTAT Fld.FLT_INJSTAT_RESULT 3).setFlag .FLT_FLAG 1

/-- The first key stands for 1 ms (250 000 ticks). [DESIGN CHOICE, log 85] -/
def State.keyFresh (s : State) : Bool :=
  match s.fl.key1 with
  | some t => s.clock.localTicks.toNat ≤ t.toNat + 250000
  | none => false

/-- A write of FLT_INJ. [DESIGN CHOICE, log 85] -/
def State.wrFltInj (s : State) (w : Word) : State :=
  let s1 := s.writeRw .FLT_INJ w
  if wbit w 31 then ({ s1 with fl := { s1.fl with key1 := none } }).injectGo
  else if getF w Fld.FLT_INJ_KEY = 0x3C then { s1 with fl := { s1.fl with key1 := some s1.clock.localTicks } }
  else
    let s2 : State := { s1 with fl := { s1.fl with key1 := none } }
    if getF w Fld.FLT_INJ_KEY = 0xC3 ∧ s.keyFresh = true then s2.putBit .FLT_INJSTAT 8 true else s2

/-! ### Commands -/

/-- The comparator behind a source that FAULT_RAISE reports (Table 10.4): die temperature and VDRV. What it reports is `b`,
unless a force replaces it. -/
def State.causeOut (s : State) (f : Nat) (b : Bool) : Bool :=
  if f = 49 then s.compOut 0x82 b else if f = 50 then s.compOut 0x83 b else b

/-- The management core has fetched an instruction from a word with an uncorrectable error: MEM_SRAM_UE, then its trap (Table
13.1). The fault names no word; the log takes the lowest that is damaged. [DESIGN CHOICE, log 192] -/
def State.fetchUe (s : State) : State :=
  let a := (keysIn s.me.bad 0 sramEnd).foldl (fun m x => match m with
    | some y => some (min x y)
    | none => some x) none
  let s1 := match a with
    | some x => s.sramUe x 0 0 ((s.sramBad x).getD 0#7)
    | none => s.raise 233 0
  s1.raise 55 1

/-- FAULT_RAISE (R239): the cause of a LEVEL source shows in FLT_LIVEw. In SHIP and DEPLETED the latches are
unpowered (R246). -/
def execFaultRaise (f : Fin 256) (cause : Fin 16) (s : State) : Outcome State Fault Refusal :=
  .next (if s.dark || !s.causeOut f true then s
    else if f = 233 ∧ cause = 0 then s.fetchUe
    else (if s.bit (.FLT_CFG f) 28 then s.live f true else s).raise f cause)

/-- The cause of a LEVEL source that a register or the state itself shows still stands (Table 10.1): it ends with that state and
not before. -/
def State.causeStands (s : State) (f : Nat) : Bool :=
  if inRange 24 47 f then s.bit (.STG_STATE (f - 24)) 8
  else if f = 48 then s.bit .SWY_STATUS 0
  else if f = 51 then s.powered .link && !s.pins.refclk
  else if inRange 56 75 f then s.fld (.SUP_STATUS (f - 56)) Fld.SUP_STATUS_OV == 1
  else if inRange 76 95 f then s.fld (.SUP_STATUS (f - 76)) Fld.SUP_STATUS_UV == 1
  else if f = 230 then s.bit .BKP_STATUS 10
  else if f = 238 then s.fld .LDG_STATUS Fld.LDG_STATUS_SINGLE != 0
  else if f = 239 then s.fld .LDG_STATUS Fld.LDG_STATUS_RDONLY != 0
  else if f = 249 then !s.ot.corrected.isEmpty
  else false

/-- FAULT_CAUSE_GONE (R238). -/
def execFaultCauseGone (f : Fin 256) (s : State) : Outcome State Fault Refusal :=
  .next (if s.bit (.FLT_CFG f) 28 && !s.causeOut f false && !s.causeStands f then s.live f false else s)

/-- FAULT_CLEAR (R243). -/
def execFaultClear (_i : Iface) (w : Fin 8) (v : Word) (be : BitVec 4) (s : State) : Outcome State Fault Refusal :=
  .next (s.guardWrite (.FLT_STAT w) fun s => s.wrFltStat w (v &&& byteMask be))

/-- FAULT_N_RELEASE (R245): the 20 µs minimum of the low period has passed. -/
def execFaultNRelease (s : State) : Outcome State Fault Refusal :=
  .next ({ s with pins := { s.pins with faultNMin := false } } : State).faultPin

/-- FLT_CFG_WRITE (R241). -/
def execFltCfgWrite (_i : Iface) (f : Fin 256) (v : Word) (be : BitVec 4) (s : State) : Outcome State Fault Refusal :=
  .next (s.guardWrite (.FLT_CFG f) fun s => s.wrFltCfg f (s.merged (.FLT_CFG f) v be))

/-- FLT_TGT_WRITE (R241). -/
def execFltTgtWrite (_i : Iface) (f : Fin 256) (v : Word) (be : BitVec 4) (s : State) : Outcome State Fault Refusal :=
  .next (s.guardWrite (.FLT_TGT f) fun s => s.wrFltTgt f (s.merged (.FLT_TGT f) v be))

/-- CNTCLR (R270). -/
def execCntclr (_i : Iface) (v : Word) (be : BitVec 4) (s : State) : Outcome State Fault Refusal :=
  .next (s.guardSent .FLT_CTL be fun s => s.wrFltCtl (v &&& byteMask be))

/-- FLT_FORCE_WRITE (R253). -/
def execFltForceWrite (_i : Iface) (v : Word) (be : BitVec 4) (s : State) : Outcome State Fault Refusal :=
  .next (s.guardWrite .FLT_FORCE fun s => s.wrFltForce (s.merged .FLT_FORCE v be))

/-- TEST_EN_FALL (R253): any force ends. -/
def execTestEnFall (s : State) : Outcome State Fault Refusal :=
  .next (({ s with pins := { s.pins with testEn := false } } : State).putBit .FLT_FORCE 31 false)

/-- INJECTION_UNLOCK (R254): a write of FLT_INJ with a key. -/
def execInjectionUnlock (_i : Iface) (v : Word) (be : BitVec 4) (s : State) : Outcome State Fault Refusal :=
  .next (s.guardWrite .FLT_INJ fun s => s.wrFltInj (s.merged .FLT_INJ v be))

/-- INJECTION_UNLOCK_EXPIRY (R254). -/
def execInjectionUnlockExpiry (s : State) : Outcome State Fault Refusal := .next (s.putBit .FLT_INJSTAT 8 false)

/-- GO (R254): a write of FLT_INJ with GO. -/
def execGo (_i : Iface) (v : Word) (be : BitVec 4) (s : State) : Outcome State Fault Refusal :=
  .next (s.guardWrite .FLT_INJ fun s => s.wrFltInj (s.merged .FLT_INJ v be))

/-- INJECTION_RESULT (R255): the checker's source is raised with cause 0xF or 0xE. -/
def execInjectionResult (detected : Bool) (s : State) : Outcome State Fault Refusal :=
  .next (match s.fl.injection with
    | none => s
    | some (chk, unit, dry) =>
      let s1 := ({ s with fl := { s.fl with injection := none } } : State).put .FLT_INJSTAT Fld.FLT_INJSTAT_RESULT
        (if detected then 1 else 2)
      s1.raise (injSource chk unit) (if detected then 0xF else 0xE) dry)

/-- FLT_HOST_RAISE (R238). -/
def execFltHostRaise (_i : Iface) (v : Word) (be : BitVec 4) (s : State) : Outcome State Fault Refusal :=
  .next (s.guardSent .FLT_HOST be fun s => s.wrFltHost (v &&& byteMask be))

end Sys2Proof.Machine
end

