-- ==== Sys2Proof/Machine/Otp.lean ====
section
/-!
DEFINITION. OTP and life cycle (chapter 15): programs, redirection to spares, the start-up scan, transitions and the
safe trim set.
-/

namespace Sys2Proof.Machine

open Host (Outcome)

/-! ### Rows (R326) -/

/-- Update the array. -/
def State.otp (s : State) (f : OtX → OtX) : State := { s with ot := f s.ot }

/-- The spare that stands for a row: of the valid entries that name it, the highest (R331). -/
def State.spareOf (s : State) (n : Nat) : Option Nat :=
  ((List.range 16).filter fun k =>
    let w := s.ot.redir.get k 0#32
    wbit w 31 && !wbit w 30 && getF w ⟨8, 0⟩ == n).getLast?

/-- The row of the array that holds a main row after redirection. -/
def State.otpCell (s : State) (n : Nat) : Nat :=
  match s.spareOf n with
  | some k => 512 + k
  | none => n

/-- A trim row or an identity row (Table 15.1). -/
def vendorOwn (n : Nat) : Bool := n < 64 || inRange 68 71 n

/-- The word of a row after redirection and correction; 0 where it cannot be decoded (R326). -/
def State.otpRow (s : State) (n : Nat) : Word :=
  let c := s.otpCell n
  if s.ot.lost.contains c then 0#32
  else match s.ot.rows.lookup c with
    | some w => w
    | none => if s.ot.vendor && vendorOwn c then Config.vendorRow c else 0#32

/-- A read of a row: 0 while it is being programmed (R330). The word of a programmed life-cycle mark is stated nowhere: it is
free. [DESIGN CHOICE, log 58] -/
def State.otpRead (s : State) (n : Nat) : Word × State :=
  if s.ot.prog.any fun p => p.row == n then (0#32, s)
  else if s.ot.marks.contains n && !s.ot.lost.contains (s.otpCell n) then s.draw
  else (s.otpRow n, s)

/-- A row does not read zero in all its 39 bits after redirection (R329). -/
def State.otpUsed (s : State) (n : Nat) : Bool :=
  s.ot.marks.contains n || s.ot.lost.contains (s.otpCell n) || s.ot.corrected.contains n ||
    (s.ot.vendor && vendorOwn (s.otpCell n)) || s.otpRow n != 0#32

/-- The slot in force of Table 17.5: the last of rows 80 to 87 programmed without a gap; a Reserved bit or SET = 0 makes
a slot count as not programmed. -/
def State.addrSlot (s : State) : Word :=
  let l := ((List.range 8).map fun i => s.otpRow (80 + i)).takeWhile fun w =>
    wbit w 31 && w &&& 0x7FFEF000#32 == 0#32
  l.getLast?.getD 0#32

/-- The preferred address in force, 0 when there is none (R362). -/
def prefOf (w : Word) : Nat :=
  let a := w.toNat % 4096
  if wbit w 31 && a != 0 && a != 4095 then a else 0

/-! ### Spares (R332) -/

/-- The lowest free spare, and the number of free ones. -/
def State.spareFree (s : State) (k : Nat) : Bool := !wbit (s.ot.redir.get k 0#32) 31 && !wbit (s.ot.redir.get k 0#32) 30
def State.nextSpare (s : State) : Option Nat := (List.range 16).find? s.spareFree
def State.spares (s : State) : Nat := ((List.range 16).filter s.spareFree).length

/-- Entry `k` of the redirection table: VALID, BAD, ROW. -/
def redirWord (valid bad : Bool) (row : Nat) : Word := BitVec.ofNat 32 (2 ^ 31 * b2n valid + 2 ^ 30 * b2n bad + row)

/-- A row is redirected to spare `k`, which holds a value, or is left unprogrammed. -/
def State.toSpare (s : State) (row k : Nat) (v : Word) : State :=
  (s.otp fun o => { o with
    redir := o.redir.set k (redirWord true false row), rows := o.rows.set (512 + k) v,
    lost := o.lost.filter (· != 512 + k) }).setFlagI .OTP_FLAG 2 row 0

/-- Redirect a row, with the tries that fail; false when no spare is left. -/
def State.redirect (s : State) (row : Nat) (v : Word) : List SpareTry → Bool × State
  | [] => match s.nextSpare with
    | none => (false, s)
    | some k => (true, s.toSpare row k v)
  | t :: rest => match s.nextSpare with
    | none => (false, s)
    | some k =>
      match t with
      | .good => (true, s.toSpare row k v)
      | .spareBad => (s.otp fun o => { o with redir := o.redir.set k (redirWord false true 0) }).redirect row v rest
      | .entryBad => (s.otp fun o => { o with redir := o.redir.set k (redirWord false true row) }).redirect row v rest

/-! ### No spare left (R333, R335) -/

/-- A row is served by correction alone. -/
def State.otpCorrected (s : State) (row : Nat) : State :=
  let s1 := s.otp fun o => { o with corrected := if o.corrected.contains row then o.corrected else row :: o.corrected }
  let s2 := (s1.putBit .OTP_STATUS 5 true).put .OTP_SCAN Fld.OTP_SCAN_CORRECTED s1.ot.corrected.length
  (s2.live 249 true).raise 249 0

/-- The life-cycle state of the marks (R334), and the mark of a state. -/
def State.lcOf (s : State) : Nat :=
  if s.ot.marks.contains 67 then 4 else if s.ot.marks.contains 66 then 3 else if s.ot.marks.contains 65 then 2
  else if s.ot.marks.contains 64 then 1 else 0

/-- The state shown; outside FACTORY no comparator is forced (R253). -/
def State.showLc (s : State) : State :=
  let s1 := s.put .OTP_STATUS Fld.OTP_STATUS_LC s.lcOf
  if s.lcOf = 1 then s1 else s1.putBit .FLT_FORCE 31 false

def State.addMark (s : State) (row : Nat) : State :=
  s.otp fun o => { o with marks := if o.marks.contains row then o.marks else row :: o.marks }

/-- The trims are lost: the safe trim set of the mask ROM (R335). -/
def State.trimsLost (s : State) : State := (s.putBit .OTP_STATUS 6 true).raise 53 0

/-- The row of the array behind a main row cannot be decoded. -/
def State.cellLost (s : State) (row : Nat) : State :=
  let c := s.otpCell row
  s.otp fun o => { o with lost := if o.lost.contains c then o.lost else c :: o.lost }

/-- A row that cannot be decoded, outside the rows a free spare can help (Table 15.3). -/
def State.otpLost (s : State) (row : Nat) : State :=
  let s1 := s.cellLost row
  if row < 64 then s1.trimsLost
  else if row < 68 then (s1.addMark row).showLc
  else s1.setFlagI .OTP_FLAG 4 row 0

/-! ### Programs (R328 to R330, R334) -/

/-- A program or transition is refused with a code of Table 15.2. [DEDUCED, log 111] -/
def State.otpReject (s : State) (code : Nat) : State :=
  (s.put .OTP_RESULT Fld.OTP_RESULT_CODE code).setFlagI .OTP_FLAG 1 0 code

/-- A row may be programmed in the present state (Table 15.1). [DEDUCED, log 111] -/
def State.otpAllowed (s : State) (row : Nat) : Bool :=
  match s.lifeCycle with
  | 0 => s.pins.testEn && (row < 64 || (68 ≤ row && row < 72))
  | 1 | 2 => 80 ≤ row
  | 3 => 224 ≤ row
  | _ => 72 ≤ row && row < 80

/-- A program of a row begins. -/
def State.otpStart (s : State) (row : Nat) (data : Word) (target : Option Nat) : State :=
  (s.otp fun o => { o with prog := some { row := row, data := data, target := target } }).putBit .OTP_STATUS 4 true

/-- A write of OTP_PROG (R329). -/
def State.wrOtpProg (s : State) (i : Iface) (w : Word) : State :=
  let row := s.fld .OTP_ROW Fld.OTP_ROW_ROW
  if i = .line then s.otpReject 8
  else if !wbit w 31 then s
  else if getF w Fld.OTP_PROG_KEY ≠ 0xB7 then s.otpReject 5
  else if s.bit .OTP_STATUS 4 then s.otpReject 4
  else if !s.otpAllowed row then s.otpReject 2
  else if s.otpUsed row then s.otpReject 3
  else s.otpStart row (s.rd .OTP_DATA) none

/-- A target follows the present state (R334). -/
def lcFollows (lc t : Nat) : Bool :=
  (lc == 0 && t == 1) || (lc == 1 && t == 2) || (lc == 2 && t == 3) || (1 ≤ lc && lc ≤ 3 && t == 4)

/-- A write of OTP_LC (R334). [DEDUCED, log 111] -/
def State.wrOtpLc (s : State) (i : Iface) (w : Word) : State :=
  let t := getF w Fld.OTP_LC_TARGET
  if i = .line then s.otpReject 8
  else if !wbit w 31 then s
  else if getF w Fld.OTP_LC_KEY ≠ 0x4D then s.otpReject 5
  else if s.bit .OTP_STATUS 4 then s.otpReject 4
  else if !lcFollows s.lifeCycle t then s.otpReject 6
  else if s.lifeCycle = 0 ∧ s.pins.testEn = false then s.otpReject 2
  else s.otpStart (63 + t) 0#32 (some t)

/-- OTP_PROGRAM (R329). -/
def execOtpProgram (i : Iface) (v : Word) (be : BitVec 4) (s : State) : Outcome State Fault Refusal :=
  .next (s.guardSent .OTP_PROG be fun s => s.wrOtpProg i (s.merged .OTP_PROG v be))

/-- LIFECYCLE_TRANSITION (R334). -/
def execLifecycleTransition (i : Iface) (v : Word) (be : BitVec 4) (s : State) : Outcome State Fault Refusal :=
  .next (s.guardSent .OTP_LC be fun s => s.wrOtpLc i (s.merged .OTP_LC v be))

/-- The row holds its new value: the data, or the mark. -/
def State.otpStored (s : State) (p : OtpProg) : State :=
  match p.target with
  | some _ => (s.addMark p.row).showLc
  | none => s.otp fun o => { o with rows := o.rows.set (s.otpCell p.row) p.data }

/-- The value is programmed; in a spare it stands already, and a mark counts whichever row holds it. -/
def State.otpMoved (s : State) (p : OtpProg) : State :=
  match p.target with
  | some _ => (s.addMark p.row).showLc
  | none => s

/-- The operation ends with a code. -/
def State.otpEnd (s : State) (p : OtpProg) (code : Nat) : State :=
  let s1 := (s.put .OTP_RESULT Fld.OTP_RESULT_ROW p.row).put .OTP_RESULT Fld.OTP_RESULT_CODE code
  let s2 := (s1.putBit .OTP_STATUS 4 false).setFlagI .OTP_FLAG 0 p.row code
  match p.target with
  | some t => if code ≤ 1 then s2.setFlagI .OTP_FLAG 3 t 0 else s2
  | none => s2

/-- A program whose row did not match at the strict margin: a spare, or R333. What the row itself holds then is open. [DESIGN
CHOICE, log 58] -/
def State.otpRetry (s : State) (p : OtpProg) (r : OtpOutcome) : State :=
  let w := s.draw
  let d := (w.2.otp fun o => { o with rows := o.rows.set (s.otpCell p.row) w.1 }).redirect p.row p.data r.tries
  if d.1 then (d.2.otpMoved p).otpEnd p 1
  else if r.decodes then ((d.2.otpStored p).otpCorrected p.row).otpEnd p 7
  else (d.2.otpLost p.row).otpEnd p 7

/-- OTP_DONE (R330). -/
def execOtpDone (r : OtpOutcome) (s : State) : Outcome State Fault Refusal :=
  .next (match s.ot.prog with
    | none => s
    | some p =>
      let s1 := s.otp fun o => { o with prog := none }
      if r.strict then (s1.otpStored p).otpEnd p 0 else s1.otpRetry p r)

/-! ### Resets and the start-up scan (R330, R331) -/

/-- A reset abandons a program: what the row then holds is open. [DESIGN CHOICE, log 58] -/
def State.otpReset (s : State) : State :=
  match s.ot.prog with
  | none => s
  | some p =>
    let d := s.draw
    let s1 := d.2.otp fun o => { o with prog := none }
    match p.target with
    | some _ => if d.1.getLsbD 0 then s1.addMark p.row else s1
    | none => s1.otp fun o => { o with rows := o.rows.set (s.otpCell p.row) d.1 }

/-- One finding of the scan. -/
def State.scanFind (s : State) : ScanFind → State
  | .entry k => s.otp fun o => { o with redir := o.redir.set k ((o.redir.get k 0#32 ||| 0x40000000#32) &&& 0x7FFFFFFF#32) }
  | .row r decodes tries =>
    let s1 := s.addSat .OTP_SCAN Fld.OTP_SCAN_MARGINAL 1
    if decodes then
      let d := s1.redirect r (s1.otpRow r) tries
      if d.1 then d.2 else d.2.otpCorrected r
    else if r.val < 68 then s.otpLost r
    else
      let d := (s1.cellLost r).redirect r 0#32 tries
      if d.1 then d.2 else d.2.otpLost r

/-- The scan of a start: what it finds, the life-cycle state, the values the OTP gives other registers. [DESIGN CHOICE, log
112] -/
def State.otpScan (s : State) (l : List ScanFind) : State :=
  let s0 := ((s.wr .OTP_SCAN 0#32).putBit .OTP_STATUS 6 false).putBit .OTP_STATUS 5 false
  let s1 := (s0.otp fun o => { o with corrected := [], lost := [] }).live 249 false
  (l.foldl State.scanFind s1).showLc

/-- Registers loaded from the OTP with LINK (R361, R362, Table 17.5). -/
def State.otpLink (s : State) : State :=
  let s1 := s.putBit .LNK_CFG 31 (wbit s.addrSlot 16)
  (s1.wr .LNK_UID_LO (s.otpRow 68)).wr .LNK_UID_HI (s.otpRow 69)

/-- The address loaded at an AON power-on (R361). -/
def State.otpAddr (s : State) : State :=
  let a := prefOf s.addrSlot
  s.wr .LNK_ADDR (if a = 0 then 0#32 else BitVec.ofNat 32 (a + 4096 * 2))

end Sys2Proof.Machine
end

