-- ==== Sys2Proof/Machine/LineOps.lean ====
section
/-!
DEFINITION. The Line below its commands (chapter 17): header checks, routing, sending along routes and paths, ports
going up and down, route tables.
-/

namespace Sys2Proof

/-! ### Header checks (R352, R354) -/

/-- TYPE is one of Table 17.3. -/
def Frame.typeOk (f : Frame) : Bool := 1 ≤ f.typ && f.typ ≤ 12

/-- No Reserved bit of the header is 1 (Table 17.2, and ARG1 of a CHECK under R359). -/
def Frame.reservedOk (f : Frame) : Bool :=
  !Machine.wbit f.w0 24 && Machine.getF f.w1 ⟨10, 9⟩ == 0 &&
  (if f.path then Machine.getF f.w0 ⟨23, 17⟩ == 0 else f.typ != 3 || f.arg1 % 8192 == 0)

/-- LEN is a multiple of 4 up to 256 (R352). -/
def lenOk (n : Nat) : Bool := n % 4 == 0 && n ≤ 256

/-- The header passes R354. -/
def Frame.headerOk (f : Frame) : Bool :=
  f.hcrc == f.hcrcOf.toNat && lenOk f.len && f.typeOk && f.reservedOk && !f.charError

/-- The whole frame is good: header, payload length, frame CRC and EOF (R353, R355). -/
def Frame.good (f : Frame) : Bool := f.headerOk && f.payload.length == f.len && f.crc == f.crcOf && f.eof

/-- Words of the payload. -/
def Frame.word (f : Frame) (i : Nat) : Word := (Machine.wordsOfBytes (f.payload.drop (4 * i))).headD 0#32

/-! ### Paths (R363) -/

/-- The port of hop `h` in the PATH bits. -/
def Frame.pathPort (f : Frame) (h : Nat) : Nat := f.pathBits / 4 ^ h % 4

/-- PATH bits with hop `h` replaced. -/
def Frame.setPath (f : Frame) (h q : Nat) : Frame :=
  let b := f.pathBits - f.pathPort h * 4 ^ h + q * 4 ^ h
  { f with w2 := BitVec.ofNat 32 b, w3 := Machine.putF f.w3 ⟨31, 16⟩ (b / 2 ^ 32) }

/-- The frame as it leaves over hop `h`. [DEDUCED, log 116] -/
def Frame.nextHop (f : Frame) (h : Nat) : Frame :=
  ({ f with w1 := Machine.putF f.w1 ⟨31, 27⟩ (h + 1) } : Frame).sealHeader

/-- The path back to the sender, for a frame that has arrived at port `p`: the arrival ports reversed. [DEDUCED, log 116] -/
def Frame.backPath (f : Frame) (p : Nat) : List Nat :=
  p :: ((List.range f.pathLen).drop 1).reverse.map f.pathPort

/-- PATH bits of a list of ports. -/
def pathBitsOf : List Nat → Nat
  | [] => 0
  | q :: t => q + 4 * pathBitsOf t

end Sys2Proof

namespace Sys2Proof.Machine

/-! ### Routing (R363 to R366) -/

/-- A port is UP. -/
def State.isUp (s : State) (p : Nat) : Bool := s.upPorts.contains p

/-- Route entry `e` matches a destination, and its prefix length (R364). -/
def State.rtLen (s : State) (e : Nat) : Nat := min 12 (s.fld (.LNK_RT_A e) Fld.LNK_RT_A_LEN)
def State.rtMatch (s : State) (dst e : Nat) : Bool :=
  let n := 2 ^ (12 - s.rtLen e)
  s.bit (.LNK_RT_A e) 31 && dst / n == s.fld (.LNK_RT_A e) Fld.LNK_RT_A_ADDR / n

/-- The entry in force for a destination: the longest match, the lowest on a tie. -/
def State.rtBest (s : State) (dst : Nat) : Option Nat :=
  (List.range 64).foldl (fun o e =>
    if s.rtMatch dst e then
      match o with
      | some b => if s.rtLen b < s.rtLen e then some e else o
      | none => some e
    else o) none

/-- The port an entry yields for a frame. -/
def State.rtPort (s : State) (f : Frame) (e : Nat) : Option Nat :=
  let up := (List.range 4).filter fun p => (s.fld (.LNK_RT_B e) Fld.LNK_RT_B_PORTS).testBit p && s.isUp p
  if up.length = 0 then
    let a := s.fld (.LNK_RT_B e) Fld.LNK_RT_B_ALT
    if s.bit (.LNK_RT_B e) 7 && s.isUp a then some a else none
  else up[(Nat.xor f.src (if f.fv then f.flow else f.dst)) % up.length]?

/-- The default port in use. -/
def State.defaultPort (s : State) : Option Nat :=
  let p := s.fld .LNK_DEFAULT Fld.LNK_DEFAULT_PORT
  let a := s.fld .LNK_DEFAULT Fld.LNK_DEFAULT_ALT
  if s.bit .LNK_DEFAULT 7 && s.isUp p then some p else if s.bit .LNK_DEFAULT 6 && s.isUp a then some a else none

/-- The out port of R364. -/
def State.outPort (s : State) (f : Frame) : Option Nat :=
  match (s.rtBest f.dst).bind (s.rtPort f) with
  | some p => some p
  | none => s.defaultPort

/-- What a station does with a received frame (R363): deliver it here; ports it leaves by and the frame that leaves;
expired; without a port. -/
structure Hand where
  here : Bool := false
  outs : List Nat := []
  frame : Frame
  expired : Bool := false
  unreach : Bool := false

/-- A frame with its TTL reduced by 1. -/
def ttlLess (f : Frame) : Frame := ({ f with w1 := putF f.w1 ⟨26, 19⟩ (f.ttl - 1) } : Frame).sealHeader

/-- The ports of the broadcast tree but one. -/
def State.treePorts (s : State) (p : Nat) : List Nat :=
  s.upPorts.filter fun q => q != p && (s.fld .LNK_DEFAULT Fld.LNK_DEFAULT_TREE).testBit q

/-- Routing of a frame that arrived at port `p` with a good header. -/
def State.route1 (s : State) (p : Nat) (f : Frame) : Hand :=
  if f.typ = 3 ∨ f.typ = 10 then { here := true, frame := f }
  else if f.path then
    if f.hop = f.pathLen then { here := true, frame := f }
    else
      let q := f.pathPort f.hop
      if s.isUp q then { outs := [q], frame := (f.setPath f.hop p).nextHop f.hop } else { frame := f, unreach := true }
  else if f.typ = 4 then
    { here := true, outs := if 1 < f.ttl then s.upPorts.filter (· != p) else [], frame := ttlLess f }
  else if f.dst = 4095 then
    let o := s.treePorts p
    if f.ttl ≤ 1 then { here := true, frame := f, expired := !o.isEmpty } else { here := true, outs := o, frame := ttlLess f }
  else if f.dst = s.ownAddr ∧ f.dst ≠ 0 then { here := true, frame := f }
  else if f.ttl ≤ 1 then { frame := f, expired := true }
  else match s.outPort f with
    | some q => { outs := [q], frame := ttlLess f }
    | none => { frame := f, unreach := true }

/-- A good frame of a type is for this station: at an UP port and routed here. [DEDUCED, log 117] -/
def State.forHere (s : State) (p : Nat) (f : Frame) (typ : Nat) : Bool :=
  s.isUp p && f.good && f.typ == typ && (s.route1 p f).here

/-! ### The state of station time (R389) -/

/-- The state of station time (Table 18.1), and entering one. -/
def State.timSt (s : State) : Nat := s.fld .TIM_STATUS Fld.TIM_STATUS_STATE
def State.setTim (s : State) (st : Nat) : State :=
  let s1 := s.put .TIM_STATUS Fld.TIM_STATUS_STATE st
  if st = 3 ∧ s.timSt ≠ 3 then s1.setFlag .TIM_FLAG 0
  else if st = 4 ∧ s.timSt ≠ 4 then s1.setFlag .TIM_FLAG 1 else s1

/-- This station is the root (R389). -/
def State.isRoot (s : State) : Bool := s.ownAddr != 0 && s.ownAddr == s.fld .LNK_ROOT Fld.LNK_ROOT_ADDR

/-- The time's state follows an assignment: the root is LOCKED, another station with a root acquires, one without is
FREE. -/
def State.timFollow (s : State) : State :=
  if s.isRoot then ((s.putBit .TIM_STATUS 4 true).put .TIM_STATUS Fld.TIM_STATUS_DEPTH 0).setTim 3
  else
    let was := s.bit .TIM_STATUS 4
    let s1 := s.putBit .TIM_STATUS 4 false
    if s1.fld .LNK_ROOT Fld.LNK_ROOT_ADDR = 0 then s1.setTim 1
    else if s1.timSt = 1 ∨ was = true then { s1.setTim 2 with tm := { s1.tm with good := 0 } } else s1

/-! ### Sending -/

/-- Send a frame of this station to its destination by R364; without a port it goes nowhere. -/
def State.sendRouted (s : State) (f : Frame) : State :=
  match s.outPort f with
  | some q => s.send q f
  | none => s

/-- Send a path-routed frame: hop 0 is this station's own. [DEDUCED, log 116] -/
def State.sendPath (s : State) (typ : Nat) (path : List Nat) (payload : List Byte) : State :=
  match path with
  | [] => s
  | q :: _ =>
    if s.isUp q then
      let b := pathBitsOf path
      s.send q (Frame.make typ 2 true path.length s.ownAddr 1 0 none (BitVec.ofNat 32 b) (b / 2 ^ 32) payload)
    else s

/-- A frame for which a port found no way on. -/
def State.unreach (s : State) (p : Nat) (f : Frame) : State :=
  (s.addSat (.LNK_P_CNT2 p) Fld.LNK_P_CNT2_LO 1).setFlagI .LNK_FLAG 4 f.dst 0

/-- Characters of a frame on the line: SOF, header, payload, CRC, EOF (R352). -/
def frameChars (f : Frame) : Nat := 22 + f.payload.length

/-- One character time of a port: a frame waiting starts, a TRIP or CHECK is inserted, or one character of the frame in
transmission leaves (R350, R357). [DESIGN CHOICE, log 119] -/
def State.portChar (s : State) (p : Nat) : State :=
  let b := s.ln.busy.get p []
  let start (f : Frame) (t : List Frame) : State :=
    { s with ln := { s.ln with tx := s.ln.tx.set p t, busy := s.ln.busy.set p ((f, frameChars f) :: b) } }
  match b, s.txq p with
  | [], [] => s
  | [], f :: t => start f t
  | (g, n) :: bt, q =>
    match q with
    | f :: t =>
      if frameRank f < frameRank g ∧ frameRank f ≤ 1 then start f t
      else { s with ln := { s.ln with busy := s.ln.busy.set p (if n ≤ 1 then bt else (g, n - 1) :: bt) } }
    | [] => { s with ln := { s.ln with busy := s.ln.busy.set p (if n ≤ 1 then bt else (g, n - 1) :: bt) } }

/-! ### Ports (R358, R360, R365) -/

/-- Set the state of a port. -/
def State.setPort (s : State) (p st : Nat) : State := s.put (.LNK_P_STATE p) Fld.LNK_P_STATE_STATE st

/-- A port forgets what it was sending, but for the frames of its queue that `keep` names. -/
def State.dropTx (s : State) (p : Nat) (keep : Frame → Bool) : State :=
  { s with ln := { s.ln with tx := s.ln.tx.set p ((s.txq p).filter keep), busy := s.ln.busy.filter (fun e => e.1 != p), half := s.ln.half.filter (fun e => e.1 != p) } }

/-- A port is OFF: disabled, unpowered, or looped to itself. -/
def State.portOff (s : State) (p : Nat) : State :=
  let s1 : State := { s with ln := { s.ln with checked := s.ln.checked.filter (· != p) } }
  ((s1.dropTx p fun _ => false).wr (.LNK_P_STATE p) 0#32).putBit (.TIM_DELAY p) 31 false

/-- A port is to work: its EN is set and LOOP is not. -/
def State.portWanted (s : State) (p : Nat) : Bool := s.bit .LNK_CFG p && !s.bit (.LNK_P_CFG p) 31

/-- A port follows its EN and LOOP bits; the cause of its LINK_LOST is present until EN is cleared (R360). -/
def State.followPort (s : State) (p : Nat) : State :=
  let s1 := if s.bit .LNK_CFG p then s else s.live (244 + p) false
  if s1.portWanted p then (if s1.portSt p = 0 then s1.setPort p 1 else s1)
  else if s1.portSt p = 0 then s1 else s1.portOff p

/-- Ports follow their EN and LOOP bits. -/
def State.followEn (s : State) : State := each (List.range 4) (fun p s => s.followPort p) s

/-- A frame queued at a lost port goes to the port R364 now chooses; a path frame has no other. -/
def State.requeue (s : State) (p : Nat) (f : Frame) : State :=
  if f.typ = 3 ∨ f.typ = 4 ∨ f.typ = 10 ∨ (f.dst = 4095 ∧ f.path = false) then s
  else if f.path then s.unreach p f
  else match s.outPort f with
    | some q => s.send q f
    | none => s.unreach p f

/-- The survey ends: registers, completion (R372). -/
def State.surveyEnd (s : State) (v : Survey) (code bits : Nat) : State :=
  let n := v.found.length
  let s1 : State := { s with ln := { s.ln with survey := none } }
  let s2 := (s1.putBit .LNK_STATUS 5 false).put .LNK_STATUS Fld.LNK_STATUS_STATIONS n
  s2.complete v.slot code (n % 8192 + bits)

/-- A port in UP declares its neighbour lost (R360, R365); it goes on sending CHECKs (R359). -/
def State.portLost (s : State) (p : Nat) : State :=
  let q := s.txq p
  let s1 := ((s.dropTx p fun f => f.typ == 3).setPort p 4).addSat (.LNK_P_CNT1 p) Fld.LNK_P_CNT1_HI 1
  let s2 := ((s1.setFlagI .LNK_FLAG 1 p 0).live (244 + p) true).raise (244 + p) 0
  let s3 := each q (fun f s => s.requeue p f) s2
  match s3.ln.survey with
  | some v => if v.probes.any (fun b => b.path.head? == some p) then s3.surveyEnd v 0x64 0 else s3
  | none => s3

/-! ### Register writes (R366, R373, R376) -/

/-- A write of LNK_CFG: REMCFG stays when it comes over the Line. -/
def State.wrLnkCfg (s : State) (i : Iface) (w : Word) : State :=
  let w' := if i = .line then wputBit w 30 (s.bit .LNK_CFG 30) else w
  (s.writeRw .LNK_CFG w').followEn

/-- A write of LNKpp_CFG. -/
def State.wrPortCfg (s : State) (p : Nat) (w : Word) : State := (s.writeRw (.LNK_P_CFG p) w).followEn

/-- A write of LNK_POOL. -/
def State.wrPool (s : State) (w : Word) : State :=
  let lo := getF w Fld.LNK_POOL_LO
  let hi := getF w Fld.LNK_POOL_HI
  if lo = 0 ∨ hi = 4095 ∨ hi < lo then s else s.writeRw .LNK_POOL w

/-- A write of LNK_RTee_B is staged. -/
def State.wrRtB (s : State) (e : Nat) (w : Word) : State :=
  { s with ln := { s.ln with stagedB := s.ln.stagedB.set e (w &&& (Reg.LNK_RT_B e).rw) } }

/-- A write of LNK_RTee_A applies both words. -/
def State.wrRtA (s : State) (e : Nat) (w : Word) : State :=
  let s1 := s.writeRw (.LNK_RT_A e) w
  match s1.ln.stagedB.lookup e with
  | some b => { s1.wr (.LNK_RT_B e) b with ln := { s1.ln with stagedB := s1.ln.stagedB.filter (fun x => x.1 != e) } }
  | none => s1

/-- A write of LNK_TRIPCTL (R373, R376). -/
def State.wrTripctl (s : State) (i : Iface) (w : Word) : State :=
  if i ≠ .line ∧ wbit w 31 = true ∧ getF w Fld.LNK_TRIPCTL_KEY = 0xE1 then s.sendTrip 0xFF else s

end Sys2Proof.Machine
end

