-- ==== Sys2Proof/Machine/Line.lean ====
section
/-!
DEFINITION. The commands of the Line's links (chapter 17): frames arriving and leaving, port events, the survey with
its addresses and route tables, TRIPs.
-/

namespace Sys2Proof.Machine

open Host (Outcome)

/-! ### Frames (R354, R355, R359, R363) -/

/-- A header error at a port. -/
def State.headerError (s : State) (p : Nat) : State :=
  (s.addSat (.LNK_P_CNT0 p) Fld.LNK_P_CNT0_LO 1).setFlagI .LNK_FLAG 10 p 0

/-- A port receives: it is aligned. -/
def State.receives (s : State) (p : Nat) : Bool := s.powered .link && 2 ≤ s.portSt p

/-- FRAME_HEADER_RECEIVE (R354, R363): the check, then cut-through forwarding. What arrives for this station is taken by
the row of its type at the frame's end; a TRIP is handled whole by TRIP_RECEIVE. [DEDUCED, log 117] -/
def execFrameHeaderReceive (p : Fin 4) (f : Frame) (s : State) : Outcome State Fault Refusal :=
  .next (
    if !s.receives p then s
    else if !f.headerOk then s.headerError p
    else if f.typ = 3 ∨ (f.typ = 4 ∧ f.path = false) ∨ f.typ = 10 ∨ s.isUp p = false then s
    else
      let h := s.route1 p f
      let s1 := each h.outs (fun q s => s.send q h.frame) s
      let s2 := if h.expired then (s1.addSat (.LNK_P_CNT2 p) Fld.LNK_P_CNT2_HI 1).setFlagI .LNK_FLAG 5 p 0 else s1
      if h.unreach then s2.unreach p f else s2)

/-- The copy a port forwards ends with EOFB (R355). [DEDUCED, log 118] -/
def State.stomp (s : State) (q : Nat) (f : Frame) : State :=
  let bad (g : Frame) : Frame := if g = f then { g with eof := false } else g
  let tx := s.ln.tx.set q ((s.txq q).map bad)
  let busy := s.ln.busy.set q ((s.ln.busy.get q []).map fun x => (bad x.1, x.2))
  ({ s with ln := { s.ln with tx := tx, busy := busy } } : State).addSat (.LNK_P_CNT1 q) Fld.LNK_P_CNT1_LO 1

/-- Key of a TRIP. -/
def tripKey (f : Frame) : Nat × Nat × Nat := (f.src, f.arg0.toNat / 65536, f.arg0.toNat / 256 % 256)

/-- The key of a TRIP is held or this station's own: it is discarded (R374). -/
def State.tripKnown (s : State) (f : Frame) : Bool :=
  (f.src == s.ownAddr && (tripKey f).2.1 == (s.rd .LNK_UID_LO).toNat % 65536) || s.ln.keys.contains (tripKey f)

/-- FRAME_CRC_FAIL (R354, R355): a frame with a good header ends, and its CRC does not match. Forwarded copies end with
EOFB; a frame for this station is discarded; LINK_CRC is raised here, where the damage is seen. A TRIP, whose header and
end come in one row, leaves as a copy that ends with EOFB, unless its key is known. [DEDUCED, log 118] -/
def execFrameCrcFail (p : Fin 4) (f : Frame) (s : State) : Outcome State Fault Refusal :=
  .next (
    if !s.receives p || !f.headerOk || !f.eof || f.crc == f.crcOf || (f.typ != 3 && !s.isUp p) then s
    else
      let h := s.route1 p f
      let trip := f.typ == 4 && !f.path
      let outs := if trip && s.tripKnown f then [] else h.outs
      let s1 := if trip then each outs (fun q s => s.send q h.frame) s else s
      let s2 := each outs (fun q s => s.stomp q h.frame) s1
      let s3 := if h.here then s2.addSat (.LNK_P_CNT0 p) Fld.LNK_P_CNT0_HI 1 else s2
      s3.raise (240 + p) 0)

/-- CHECK_TRANSMIT (R359). -/
def execCheckTransmit (p : Fin 4) (s : State) : Outcome State Fault Refusal :=
  .next (
    if s.powered .link && s.portSt p != 0 then
      s.send p (Frame.make 3 3 false 0 s.ownAddr 0 0 none (timeLo s.clock.station)
        (p * 16384 + 8192 * b2n (s.ln.checked.contains p)) [])
    else s)

/-- A port has received a valid CHECK: what it tells is recorded. -/
def State.noteCheck (s : State) (p : Nat) (f : Frame) : State :=
  let ok := wbit f.w3 29
  let w := putF (putF (putF (s.rd (.LNK_P_STATE p)) Fld.LNK_P_STATE_NBRADDR f.src) Fld.LNK_P_STATE_NBRPORT (getF f.w3 ⟨31, 30⟩))
    Fld.LNK_P_STATE_RXOK (b2n ok)
  let n := if ok then 0 else s.ln.half.get p 0 + 1
  let s1 := s.wr (.LNK_P_STATE p) w
  { s1 with ln := { s1.ln with checked := if s1.ln.checked.contains p then s1.ln.checked else p :: s1.ln.checked, half := s1.ln.half.set p n } }

/-- CHECK_RECEIVE (R358 to R360): a LOST port is CHECKING again; a second CHECK in a row with RXOK = 0 is a half loss. -/
def execCheckReceive (p : Fin 4) (f : Frame) (s : State) : Outcome State Fault Refusal :=
  .next (
    if !s.receives p || !f.good || f.typ != 3 then s
    else
      let s1 := s.noteCheck p f
      let s2 := if s1.portSt p = 4 then s1.setPort p 2 else s1
      if s2.portSt p = 3 ∧ 2 ≤ s2.ln.half.get p 0 then (s2.setFlagI .LNK_FLAG 2 p 0).portLost p else s2)

/-- PORT_ALIGNED (R358). -/
def execPortAligned (p : Fin 4) (s : State) : Outcome State Fault Refusal :=
  .next (if s.powered .link && s.portSt p == 1 then s.setPort p 2 else s)

/-- ALIGN_LOST (R358): a loss in CHECKING. -/
def execAlignLost (p : Fin 4) (s : State) : Outcome State Fault Refusal :=
  .next (if s.powered .link && s.portSt p == 2 then s.setPort p 1 else s)

/-- PORT_UP (R358, R360): CHECKs with RXOK = 1 have come without a break for UPHOLD. -/
def execPortUp (p : Fin 4) (s : State) : Outcome State Fault Refusal :=
  .next (
    if s.powered .link && s.portSt p == 2 && s.bit (.LNK_P_STATE p) 9 then
      let s1 := ((s.setPort p 3).live (244 + p) false).putBit (.TIM_DELAY p) 31 false
      ({ s1 with ln := { s1.ln with half := s1.ln.half.set p.val 0 } } : State).setFlagI .LNK_FLAG 0 p 0
    else s)

/-- CHECK_TIMEOUT (R359, R360): no valid CHECK for 2 µs. -/
def execCheckTimeout (p : Fin 4) (s : State) : Outcome State Fault Refusal :=
  .next (
    let s1 : State := { s with ln := { s.ln with checked := s.ln.checked.filter (· != p.val) } }
    if s1.isUp p then s1.portLost p else s1)

/-- LOS_ASSERT (R360). -/
def execLosAssert (p : Fin 4) (s : State) : Outcome State Fault Refusal := .next (if s.isUp p then s.portLost p else s)

/-! ### Register rows -/

/-- LNK_CFG_WRITE (R358, R376). -/
def execLnkCfgWrite (i : Iface) (v : Word) (be : BitVec 4) (s : State) : Outcome State Fault Refusal :=
  .next (s.guardWrite .LNK_CFG fun s => s.wrLnkCfg i (s.merged .LNK_CFG v be))

/-- RT_B_WRITE (R366). -/
def execRtBWrite (_i : Iface) (e : Fin 64) (v : Word) (be : BitVec 4) (s : State) : Outcome State Fault Refusal :=
  .next (s.guardWrite (.LNK_RT_B e) fun s => s.wrRtB e (s.merged (.LNK_RT_B e) v be))

/-- RT_A_WRITE (R366). -/
def execRtAWrite (_i : Iface) (e : Fin 64) (v : Word) (be : BitVec 4) (s : State) : Outcome State Fault Refusal :=
  .next (s.guardWrite (.LNK_RT_A e) fun s => s.wrRtA e (s.merged (.LNK_RT_A e) v be))

/-- TRIP_SEND (R373). -/
def execTripSend (i : Iface) (v : Word) (be : BitVec 4) (s : State) : Outcome State Fault Refusal :=
  .next (s.guardSent .LNK_TRIPCTL be fun s => s.wrTripctl i (s.merged .LNK_TRIPCTL v be))

/-! ### The survey at its root (R367 to R369) -/

/-- Store the survey. -/
def State.putSurvey (s : State) (v : Survey) : State := { s with ln := { s.ln with survey := some v } }

/-- Payload of a probe. -/
def State.probeBytes (s : State) (v : Survey) : List Byte :=
  bytesOfWords [s.rd .LNK_UID_LO, s.rd .LNK_UID_HI, BitVec.ofNat 32 (v.epoch + 65536 * s.ownAddr), 0#32]

/-- Send the probe of a path. -/
def State.sendProbe (s : State) (v : Survey) (path : List Nat) : State := s.sendPath 5 path (s.probeBytes v)

/-- Send probes until four are outstanding; exploration is over when none is left. The first argument bounds them. -/
def State.probeMore : Nat → State → Survey → State
  | 0, s, v => s.putSurvey v
  | n + 1, s, v =>
    if v.probes.length < 4 ∧ (s.slot v.slot).cancelled = false then
      match v.todo with
      | q :: t => (s.sendProbe v q).probeMore n { v with todo := t, probes := v.probes ++ [{ path := q }] }
      | [] => s.putSurvey v
    else s.putSurvey v

/-- The survey goes on: a cancel is taken between probes. -/
def State.surveyOn (s : State) (v : Survey) : State :=
  if (s.slot v.slot).cancelled && v.probes.isEmpty then (s.putSurvey v).surveyEnd v 0x20 0 else State.probeMore 4 s v

/-- LINE_SURVEY starts (R367). [DEDUCED, log 120] -/
def State.surveyStart (s : State) (k : Nat) : State :=
  let c := s.slot k
  let hop := getF c.p0 ⟨12, 8⟩
  if !s.bit .LNK_CFG 31 then s.complete k 0x60 0
  else if hop = 0 ∨ 24 < hop then s.complete k 0x26 0
  else
    let uid := (s.rd .LNK_UID_LO).toNat + 2 ^ 32 * (s.rd .LNK_UID_HI).toNat
    let me : Found := { uid := uid, path := [], arrival := none, addr := (s.rd .LNK_ADDR).toNat % 4096, pref := prefOf s.addrSlot }
    let v : Survey := { slot := k, keep := wbit c.p0 0, routes := wbit c.p0 1, maxhop := hop, epoch := (s.fld .LNK_ADDR Fld.LNK_ADDR_EPOCH + 1) % 65536, found := [me], todo := s.upPorts.map fun q => [q] }
    ((s.setPhase k 1).putBit .LNK_STATUS 5 true).surveyOn v

/-- Index of a found station by its UID, and by its path. -/
def Survey.byUid (v : Survey) (u : Nat) : Option Nat := v.found.findIdx? (·.uid == u)
def Survey.byPath (v : Survey) (l : List Nat) : Option Nat := v.found.findIdx? (·.path == l)

/-- A REPLY extends the exploration. -/
def State.replyIn (s : State) (v : Survey) (path : List Nat) (arrival uid epoch addr pref : Nat) (up : List Nat) : State :=
  let v1 := { v with probes := v.probes.filter (·.path != path), epoch := if v.epoch ≤ epoch then (epoch + 1) % 65536 else v.epoch }
  let parent := (v1.byPath path.dropLast).getD 0
  let port := path.getLast?.getD 0
  match v1.byUid uid with
  | some j => s.surveyOn { v1 with links := v1.links ++ [(parent, port, j), (j, arrival, parent)] }
  | none =>
    if v1.maxhop < path.length then s.surveyOn v1
    else
      let j := v1.found.length
      let f : Found := { uid := uid, path := path, arrival := some arrival, addr := addr, pref := pref }
      let more := if path.length < 24 then (up.filter (· != arrival)).map fun q => path ++ [q] else []
      s.surveyOn { v1 with found := v1.found ++ [f], todo := v1.todo ++ more, links := v1.links ++ [(parent, port, j), (j, arrival, parent)] }

/-- REPLY_RECEIVE (R368, R372). A REPLY with an EPOCH above the survey's is a conflict; at an equal one the lower root
UID decides, which a REPLY does not carry: it is free. [DESIGN CHOICE, log 64; DEDUCED, log 120] -/
def execReplyReceive (p : Fin 4) (f : Frame) (s : State) : Outcome State Fault Refusal :=
  .next (match s.ln.survey with
    | none => s
    | some v =>
      let path := f.backPath p
      if !s.forHere p f 6 || f.payload.length != 32 || !(v.probes.any fun b => b.path == path) then s
      else
        let epoch := (f.word 2).toNat / 65536
        let d := if epoch = v.epoch then s.draw else (0#32, s)
        if v.epoch < epoch ∨ (epoch = v.epoch ∧ d.1.getLsbD 0 = true) then
          let e := d.2.draw
          (e.2.setFlagI .LNK_FLAG 7 (e.1.toNat % 4096) 0).surveyEnd v 0x63 0
        else
          let up := (List.range 4).filter fun q => (f.word (4 + q)).toNat % 16 == 3
          d.2.replyIn v path (f.pathPort 0) ((f.word 0).toNat + 2 ^ 32 * (f.word 1).toNat) epoch
            ((f.word 2).toNat % 4096) (prefOf (f.word 3)) up)

/-- PROBE_TIMEOUT (R368): the oldest probe outstanding is sent again, twice at most, or given up. -/
def execProbeTimeout (s : State) : Outcome State Fault Refusal :=
  .next (match s.ln.survey with
    | none => s
    | some v =>
      match v.probes with
      | [] => s
      | b :: t =>
        if b.retries = 0 ∨ (s.slot v.slot).cancelled = true then s.surveyOn { v with probes := t }
        else (s.sendProbe v b.path).putSurvey { v with probes := t ++ [{ b with retries := b.retries - 1 }] })

/-! ### Addresses (R369) -/

/-- Addresses for the found stations, in order: address and source of each, a clash of a preferred address, the pool
exhausted. -/
def State.assignAddrs (s : State) (keep : Bool) : List Found → List Nat → List (Nat × Nat) × Bool × Bool
  | [], _ => ([], false, false)
  | f :: t, used =>
    let free (a : Nat) : Bool := !used.contains a
    let lo := s.fld .LNK_POOL Fld.LNK_POOL_LO
    let hi := s.fld .LNK_POOL Fld.LNK_POOL_HI
    let pick : Nat × Nat × Bool × Bool :=
      if keep && f.addr != 0 && f.addr != 4095 && free f.addr then (f.addr, 1, false, false)
      else if f.pref ≠ 0 ∧ free f.pref = true then (f.pref, 2, false, false)
      else match ((List.range (hi + 1 - lo)).map (lo + ·)).find? free with
        | some a => (a, 3, f.pref != 0, false)
        | none => (0, 0, f.pref != 0, true)
    let r := s.assignAddrs keep t (if pick.1 = 0 then used else pick.1 :: used)
    ((pick.1, pick.2.1) :: r.1, pick.2.2.1 || r.2.1, pick.2.2.2 || r.2.2)

/-- Ports of found station `i` that lead to its children in the exploration tree. -/
def Survey.tree (v : Survey) (i : Nat) : Nat :=
  match v.found[i]? with
  | none => 0
  | some f => (v.found.filterMap fun g =>
      if g.path ≠ [] ∧ g.path.dropLast = f.path then g.path.getLast? else none).foldl (fun m q => Nat.lor m (2 ^ q)) 0

/-- A station takes an address (R370): EPOCH, root, default port and tree. -/
def State.takeAddr (s : State) (addr src epoch rootUid root : Nat) (arrival : Option Nat) (tree : Nat) : State :=
  let s1 := s.wr .LNK_ADDR (BitVec.ofNat 32 (addr + 4096 * src + 65536 * epoch))
  let s2 := s1.wr .LNK_ROOT (BitVec.ofNat 32 (root + 65536 * rootUid))
  match arrival with
  | some p =>
    let w := putF (putF (wputBit (s2.rd .LNK_DEFAULT) 7 true) Fld.LNK_DEFAULT_PORT p) Fld.LNK_DEFAULT_TREE (Nat.lor tree (2 ^ p))
    ((s2.wr .LNK_DEFAULT w).setFlagI .LNK_FLAG 3 addr 0).timFollow
  | none => ((s2.put .LNK_DEFAULT Fld.LNK_DEFAULT_TREE tree).setFlagI .LNK_FLAG 3 addr 0).timFollow

/-! ### Route tables (R371) -/

/-- Stations one step further: distances to station `d` after `n` steps of a breadth-first walk; none where not yet
reached. -/
def distances (links : List (Nat × Nat × Nat)) (count d : Nat) : Nat → List (Option Nat)
  | 0 => (List.range count).map fun i => if i = d then some 0 else none
  | n + 1 =>
    let l := distances links count d n
    (List.range count).map fun i =>
      match (l[i]?).join with
      | some x => some x
      | none => if links.any fun e => e.1 == i && (l[e.2.2]?).join == some n then some (n + 1) else none

/-- The ports of station `i` on shortest paths to station `d`, rising. -/
def nextHops (links : List (Nat × Nat × Nat)) (count i d : Nat) : List Nat :=
  let l := distances links count d count
  match (l[i]?).join with
  | some (n + 1) => (List.range 4).filter fun q => links.any fun e => e.1 == i && e.2.1 == q && (l[e.2.2]?).join == some n
  | _ => []

/-- The table builder of R371 for one station: entries of prefix, length and ports, whether it overflowed, and the
blocks covered so far. `nh` gives the ports of every assigned address. -/
def routeBlock (nh : List (Nat × List Nat)) (dflt : List Nat) (len b : Nat)
    (a : List (Nat × Nat × List Nat) × Bool × List (Nat × Nat)) : List (Nat × Nat × List Nat) × Bool × List (Nat × Nat) :=
  let size := 2 ^ (12 - len)
  let start := b * size
  if a.2.2.any (fun c => c.1 ≤ start && start < c.1 + c.2) then a
  else
    let sets := (nh.filter fun e => start ≤ e.1 && e.1 < start + size).map (·.2)
    match sets with
    | [] => a
    | x :: _ =>
      if x = [] ∨ sets.any (· != x) = true then a
      else
        let cov := (start, size) :: a.2.2
        if x = dflt then (a.1, a.2.1, cov)
        else if a.1.length = 64 then (a.1, true, cov)
        else (a.1 ++ [(start, len, x)], a.2.1, cov)

/-- The table of one station. -/
def routeTable (nh : List (Nat × List Nat)) (dflt : List Nat) : List (Nat × Nat × List Nat) × Bool :=
  let r := each (List.range 13) (fun len a => each (List.range (2 ^ len)) (fun b a => routeBlock nh dflt len b a) a)
    (([], false, []) : List (Nat × Nat × List Nat) × Bool × List (Nat × Nat))
  (r.1, r.2.1)

/-- The words A and B of a table entry. -/
def routeWords (e : Nat × Nat × List Nat) : List Word :=
  [BitVec.ofNat 32 (2 ^ 31 + 2 ^ 24 * e.2.1 + e.1), BitVec.ofNat 32 (e.2.2.foldl (fun m q => m + 2 ^ q) 0)]

/-- Write route entries from `first` on (R366, R371). -/
def State.putRoutes (s : State) (first : Nat) : List Word → State
  | a :: b :: t =>
    if first < 64 then
      ((s.wr (.LNK_RT_A first) (a &&& (Reg.LNK_RT_A 0).rw)).wr (.LNK_RT_B first) (b &&& (Reg.LNK_RT_B 0).rw)).putRoutes (first + 1) t
    else s
  | _ => s

/-- Disable every entry from `n` on. -/
def State.clearRoutes (s : State) (n : Nat) : State :=
  each ((List.range 64).filter (n ≤ ·)) (fun e s => s.putBit (.LNK_RT_A e) 31 false) s

/-- Send a table in ROUTE frames of up to 30 entries; the last one clears the rest. The first argument bounds them. [DEDUCED,
log 122] -/
def State.sendRoutes (s : State) (path : List Nat) : Nat → Nat → List (Nat × Nat × List Nat) → State
  | 0, _, _ => s
  | _ + 1, _, [] => s
  | n + 1, first, l =>
    let now := l.take 30
    let head := BitVec.ofNat 32 (first + 256 * now.length + 65536 * b2n (decide (l.length ≤ 30)))
    (s.sendPath 8 path (bytesOfWords ([head, 0#32] ++ now.flatMap routeWords))).sendRoutes path n (first + 30) (l.drop 30)

/-! ### The end of a survey -/

/-- One found station gets its ASSIGN; the root takes its own address. -/
def State.assignTo (s : State) (v : Survey) (root : Nat) (i : Nat) (a : Nat × Nat) : State :=
  match v.found[i]? with
  | none => s
  | some f =>
    let uidLo := (s.rd .LNK_UID_LO).toNat % 65536
    if f.path = [] then s.takeAddr a.1 a.2 v.epoch uidLo root none (v.tree i)
    else
      s.sendPath 7 f.path (bytesOfWords [BitVec.ofNat 32 f.uid, BitVec.ofNat 32 (f.uid / 2 ^ 32),
        BitVec.ofNat 32 (a.1 + 4096 * a.2 + 65536 * v.epoch), BitVec.ofNat 32 (root + 65536 * v.tree i)])

/-- One found station gets its route table. [DEDUCED, log 122] -/
def State.routeTo (s : State) (v : Survey) (addrs : List (Nat × Nat)) (i : Nat) : Bool × State :=
  match v.found[i]? with
  | none => (false, s)
  | some f =>
    let n := v.found.length
    let nh := (List.range n).filterMap fun d => match addrs[d]? with
      | some (0, _) => none
      | some (a, _) => some (a, nextHops v.links n i d)
      | none => none
    let t := routeTable nh (match f.arrival with | some q => [q] | none => [])
    let s1 := if f.path = [] then
        let s2 := (s.putRoutes 0 (t.1.flatMap routeWords)).clearRoutes t.1.length
        if t.2 then (s2.putBit .LNK_STATUS 6 true).setFlagI .LNK_FLAG 6 0 0 else s2
      else s.sendRoutes f.path 3 0 t.1
    (t.2, s1)

/-- Every found station gets its route table; true when one overflowed. -/
def State.routeAll (s : State) (v : Survey) (addrs : List (Nat × Nat)) : List Nat → Bool × State
  | [] => (false, s)
  | i :: t =>
    let a := s.routeTo v addrs i
    let b := a.2.routeAll v addrs t
    (a.1 || b.1, b.2)

/-- Exploration has ended: addresses, route tables, completion (R369, R371, R372). [DESIGN CHOICE, log 121] -/
def State.surveyAssign (s : State) (v : Survey) : State :=
  let r := s.assignAddrs v.keep v.found []
  let root := ((r.1.head?).map (·.1)).getD 0
  let idx := List.range v.found.length
  let s1 := each (idx.zip r.1) (fun x s => s.assignTo v root x.1 x.2) s
  let t := if v.routes then s1.routeAll v r.1 idx else (false, s1)
  t.2.surveyEnd v (if r.2.2 then 0x61 else 0) (8192 * b2n t.1 + 16384 * b2n r.2.1)

/-- LINE_SURVEY (R367): issue; then the start, and when exploration has ended the assignment. [DESIGN CHOICE, log 121] -/
def execLineSurvey (a : CmdAct) (s : State) : Outcome State Fault Refusal :=
  .next (match a with
    | .issue i => s.issue i 0xC1
    | .advance => s.withRunning 0xC1 fun k s =>
      match s.ln.survey with
      | none => if (s.slot k).phase = 0 then s.surveyStart k else s
      | some v => if v.todo.isEmpty && v.probes.isEmpty then
          (if (s.slot k).cancelled then s.surveyEnd v 0x20 0 else s.surveyAssign v) else s)

/-! ### Discovery at the other stations (R368, R370, R371) -/

/-- SURVEY_RECEIVE (R368): the REPLY over the reversed path. -/
def execSurveyReceive (p : Fin 4) (f : Frame) (s : State) : Outcome State Fault Refusal :=
  .next (
    if !s.forHere p f 5 || f.payload.length != 16 then s
    else
      let s1 : State := { s with ln := { s.ln with lastSurvey := some ((f.word 0).toNat % 65536, (f.word 2).toNat % 65536, (f.word 2).toNat / 65536) } }
      s1.sendPath 6 (f.backPath p) (bytesOfWords ([s1.rd .LNK_UID_LO, s1.rd .LNK_UID_HI, s1.rd .LNK_ADDR, s1.addrSlot] ++
        (List.range 4).map fun q => s1.rd (.LNK_P_STATE q))))

/-- A root's frames are not older than what the station follows (R370). [DEDUCED, log 123] -/
def State.notLower (s : State) (epoch rootUid : Nat) : Bool :=
  let e := s.fld .LNK_ADDR Fld.LNK_ADDR_EPOCH
  decide (e < epoch) || (e == epoch && decide (rootUid ≤ s.fld .LNK_ROOT Fld.LNK_ROOT_UIDLO))

/-- Root UID bits of the last SURVEY; free when none was received. [DESIGN CHOICE, log 66] -/
def State.surveyUid (s : State) : Nat × State :=
  match s.ln.lastSurvey with
  | some (u, _, _) => (u, s)
  | none => let d := s.draw; (d.1.toNat % 65536, d.2)

/-- ASSIGN_RECEIVE (R370). [DESIGN CHOICE, log 66] -/
def execAssignReceive (p : Fin 4) (f : Frame) (s : State) : Outcome State Fault Refusal :=
  .next (
    if !s.forHere p f 7 || f.payload.length != 16 || f.word 0 != s.rd .LNK_UID_LO || f.word 1 != s.rd .LNK_UID_HI then s
    else
      let w := (f.word 2).toNat
      let u := s.surveyUid
      if u.2.notLower (w / 65536) u.1 then
        u.2.takeAddr (w % 4096) (w / 4096 % 4) (w / 65536) u.1 ((f.word 3).toNat % 65536 % 4096) (some p.val) ((f.word 3).toNat / 65536 % 16)
      else u.2)

/-- ROUTE_RECEIVE (R371): judged by the root and epoch of the last SURVEY. A frame that fills the table may tell that it
overflowed; how it does so is not stated: free. [DESIGN CHOICE, log 65; DEDUCED, log 123] -/
def execRouteReceive (p : Fin 4) (f : Frame) (s : State) : Outcome State Fault Refusal :=
  .next (
    let first := (f.word 0).toNat % 256
    let n := (f.word 0).toNat / 256 % 256
    if !s.forHere p f 8 || n = 0 || 30 < n || f.payload.length != 8 + 8 * n then s
    else match s.ln.lastSurvey with
    | none => s
    | some (u, e, root) =>
      if !s.notLower e u then s
      else
        let s1 := s.putRoutes first (wordsOfBytes (f.payload.drop 8))
        let s2 := if (f.word 0).toNat / 65536 % 256 = 1 then s1.clearRoutes (first + n) else s1
        let d := if 64 ≤ first + n then s2.draw else (0#32, s2)
        let s3 := if d.1.getLsbD 0 then (d.2.putBit .LNK_STATUS 6 true).setFlagI .LNK_FLAG 6 0 0 else d.2
        s3.setFlagI .LNK_FLAG 8 (root % 4096) 0)

/-! ### TRIP (R374) -/

/-- TRIP_RECEIVE (R374): a TRIP whose key is held or its own is discarded; another is forwarded, recorded and raises
LINE_TRIP. One with a bad CRC is the matter of FRAME_CRC_FAIL; one that ends with EOFB is forwarded only (R355). [DEDUCED,
log 117] -/
def execTripReceive (p : Fin 4) (f : Frame) (s : State) : Outcome State Fault Refusal :=
  .next (
    let k := tripKey f
    let h := s.route1 p f
    if f.typ != 4 || s.tripKnown f then s
    else if s.forHere p f 4 then
      let s1 := each h.outs (fun q s => s.send q h.frame) s
      let s2 : State := { s1 with ln := { s1.ln with keys := (k :: s1.ln.keys).take 16 } }
      let s3 := s2.wr .LNK_TRIPLAST (BitVec.ofNat 32 (f.src + 2 ^ 14 * p + 2 ^ 16 * k.2.2 + 2 ^ 24 * (f.arg0.toNat % 256)))
      (s3.addSat .LNK_TRIPCNT Fld.LNK_TRIPCNT_RECV 1).raise 248 0
    else if s.isUp p && f.headerOk && !f.eof && !f.path then each h.outs (fun q s => s.send q h.frame) s
    else s)

/-- TRIP_KEY_EXPIRY (R374): the oldest key held has been held for 1 ms. -/
def execTripKeyExpiry (s : State) : Outcome State Fault Refusal :=
  .next ({ s with ln := { s.ln with keys := s.ln.keys.dropLast } })

end Sys2Proof.Machine
end

