-- ==== Sys2Proof/Machine/FlowOps.lean ====
section
/-!
DEFINITION. Flows and station time below their commands (chapter 18): contexts, sends, retransmissions, the clock's
steps and states, summit marks.
-/

namespace Sys2Proof.Machine

/-! ### Contexts (R378, R381) -/

/-- A flow context, its state (0 CLOSED, 1 OPEN, 2 CLOSING, 3 BROKEN) and its incarnation number. -/
def State.flow (s : State) (f : Nat) : FlowCtx := s.fw.ctx.get f {}
def State.putFlow (s : State) (f : Nat) (c : FlowCtx) : State := { s with fw := { s.fw with ctx := s.fw.ctx.set f c } }
def State.flowSt (s : State) (f : Nat) : Nat := s.fld (.FLW_F_CFG f) Fld.FLW_F_CFG_STATE
def State.flowInc (s : State) (f : Nat) : Nat := s.fw.inc.get f 0

/-- A context is OPEN or CLOSING. -/
def State.flowLive (s : State) (f : Nat) : Bool := s.flowSt f == 1 || s.flowSt f == 2

/-- Sequence numbers of a context. -/
def State.txNext (s : State) (f : Nat) : Nat := s.fld (.FLW_F_SEQ f) Fld.FLW_F_SEQ_TXNEXT
def State.txAck (s : State) (f : Nat) : Nat := s.fld (.FLW_F_SEQ f) Fld.FLW_F_SEQ_TXACK
def State.rxNext (s : State) (f : Nat) : Nat := s.fld (.FLW_F_RX f) Fld.FLW_F_RX_RXNEXT
def State.rxRead (s : State) (f : Nat) : Nat := s.fld (.FLW_F_RX f) Fld.FLW_F_RX_RXREAD

/-- Difference of two sequence numbers. -/
def seqDiff (a b : Nat) : Nat := (a + 65536 - b % 65536) % 65536

/-- The transmit window is full (R380). [DEDUCED, log 124] -/
def State.txFull (s : State) (f : Nat) : Bool :=
  16 ≤ (s.flow f).out.length || seqDiff (s.flow f).limit (s.txNext f) == 0 || 32768 ≤ seqDiff (s.flow f).limit (s.txNext f)

/-! ### Sending (R380, R381, R383) -/

/-- The frame of a context. Its initial TTL is not stated: free. [DESIGN CHOICE, log 63] -/
def State.flowFrame (s : State) (f typ : Nat) (arg0 : Word) (arg1 : Nat) (payload : List Byte) : Frame × State :=
  let d := s.draw
  let c := d.2.rd (.FLW_F_CFG f)
  (Frame.make typ (getF c Fld.FLW_F_CFG_CLASS) false (getF c Fld.FLW_F_CFG_PEER) s.ownAddr 0 (d.1.toNat % 256)
    (some (getF c Fld.FLW_F_CFG_PFLOW)) arg0 arg1 payload, d.2)

/-- Transmit an outstanding frame: the port's channel reads the payload; a damaged word halts the channel and the frame
does not leave (R297). -/
def State.transmit (s : State) (f : Nat) (x : TxItem) : State :=
  let arg0 := BitVec.ofNat 32 (65536 * x.seq + s.flowInc f)
  let d := s.flowFrame f x.typ arg0 0 (x.own.getD (s.bytes x.addr x.len))
  match d.2.outPort d.1 with
  | none => d.2
  | some p =>
    if x.own.isSome then d.2.send p d.1
    else
      let s1 := (d.2.dmaRestart (4 + p)).eccRange x.addr x.len 1
      match s1.firstBad x.addr x.len with
      | some (a, syn) => (s1.sramUe a 1 1 syn).dmaHalt (4 + p) 1
      | none => s1.send p d.1

/-- Send a new frame: it takes the next sequence number. -/
def State.flowPush (s : State) (f typ addr len : Nat) (own : Option (List Byte)) : State :=
  let x : TxItem := { seq := s.txNext f, typ := typ, addr := addr, len := len, own := own }
  let s1 := (s.put (.FLW_F_SEQ f) Fld.FLW_F_SEQ_TXNEXT (s.txNext f + 1)).putFlow f { s.flow f with out := (s.flow f).out ++ [x] }
  s1.transmit f x

/-- A send is refused. -/
def State.txRefuse (s : State) (i : Iface) (f code : Nat) : State :=
  (s.putBank i { s.bank i with txRes := BitVec.ofNat 32 (65536 * code) }).setFlagI .FLW_FLAG 4 f 0

/-- The type of a send (FLW_TXGO.TYPE). -/
def txType : Nat → Nat
  | 1 => 1
  | 2 => 12
  | _ => 9

/-- A write of FLW_TXGO (R380). -/
def State.wrTxgo (s : State) (i : Iface) (w : Word) : State :=
  let f := getF w Fld.FLW_TXGO_FLOW
  let n := getF w Fld.FLW_TXGO_LEN
  let a := (s.bank i).txAddr.toNat
  if getF w Fld.FLW_TXGO_TYPE = 0 then s
  else if s.flowSt f ≠ 1 then s.txRefuse i f 1
  else if s.txFull f then s.txRefuse i f 2
  else if !lenOk n then s.txRefuse i f 3
  else if sramEnd < a + n then s.txRefuse i f 4
  else
    let s1 := s.putBank i { s.bank i with txRes := BitVec.ofNat 32 (s.txNext f) }
    s1.flowPush f (txType (getF w Fld.FLW_TXGO_TYPE)) a n none

/-- An ACK of a context (R381). -/
def State.sendAck (s : State) (f : Nat) : State :=
  let arg0 := BitVec.ofNat 32 (65536 * s.rxNext f + (s.flow f).bound.getD 0)
  let d := s.flowFrame f 2 arg0 ((s.rxRead f + 16) % 65536) []
  d.2.sendRouted d.1

/-- A context is CLOSED; the FLW_CLOSE that waits completes. -/
def State.flowClosed (s : State) (f code : Nat) : State :=
  let c := s.flow f
  let s1 := (s.put (.FLW_F_CFG f) Fld.FLW_F_CFG_STATE 0).putFlow f {}
  match c.closing with
  | some k => s1.complete k code 0
  | none => s1

/-- A context is BROKEN (R384). -/
def State.flowBroken (s : State) (f n : Nat) : State :=
  let s1 := (s.put (.FLW_F_CFG f) Fld.FLW_F_CFG_STATE 3).putFlow f { s.flow f with out := [], held := [] }
  (s1.gap 4 f n 2).setFlagI .FLW_FLAG 2 f 0

/-- A write of RXREAD: one that passes RXNEXT is ignored. [DEDUCED, log 126] -/
def State.wrRxread (s : State) (f : Nat) (w : Word) : State :=
  let r := getF w Fld.FLW_F_RX_RXREAD
  if seqDiff r (s.rxRead f) ≤ seqDiff (s.rxNext f) (s.rxRead f) then s.put (.FLW_F_RX f) Fld.FLW_F_RX_RXREAD r else s

/-- A write of FLW_EVTFWD or FLW_REM: not over the Line (R387). -/
def State.wrNotLine (s : State) (i : Iface) (r : Reg) (w : Word) : State := if i = .line then s else s.writeRw r w

/-- A reset of LINK closes every context; counts of what stays unconfirmed or unread are kept (R385). -/
def State.flowReset (s : State) : State :=
  let lost := (List.range 128).filterMap fun f =>
    if s.flowLive f then some (f, (s.flow f).out.length + seqDiff (s.rxNext f) (s.rxRead f)) else none
  { s with fw := { s.fw with ctx := [], lost := (lost.filter fun e => e.2 != 0) ++ s.fw.lost } }

/-- After the start each count yields a GAP record. -/
def State.flowGaps (s : State) : State :=
  let s1 := each s.fw.lost (fun e s => s.gap 4 e.1 e.2 2) s
  { s1 with fw := { s1.fw with lost := [] } }

/-! ### Station time (R389 to R393) -/

/-- Station time in tenths of a nanosecond. [DEDUCED, log 133] -/
def State.timeTenths (s : State) : Rat := (40 * s.clock.station.toNat : Nat) + s.tm.tenths

/-- Set station time; a forward step past T of an armed mark makes it late (R396). [DEDUCED, log 133] -/
def State.stepTime (s : State) (t : Rat) : State :=
  let old := s.clock.station.toNat
  let t' : Int := t.num / t.den
  let ticks := (t' / 40) % (2 ^ 64 : Nat)
  let new : Time := BitVec.ofNat 64 ticks.toNat
  let fresh (m : MarkX) : MarkX := if old < m.time.toNat ∧ m.time.toNat < new.toNat then { m with late := true } else m
  { s with
    clock := { s.clock with station := new },
    tm := { s.tm with tenths := t - ((40 * (t' / 40) : Int) : Rat), marks := s.tm.marks.map fun e => (e.1, fresh e.2) } }

/-- Little-endian bytes of a number. -/
def bytesLe : Nat → Nat → List Byte
  | 0, _ => []
  | n + 1, v => BitVec.ofNat 8 v :: bytesLe n (v / 256)

/-- The number of little-endian bytes. -/
def leNat : List Byte → Nat
  | [] => 0
  | b :: t => b.toNat + 256 * leNat t

/-- A time in a TIME frame: ticks in 8 bytes, tenths in 2; and its reading. -/
def State.stampBytes (s : State) : List Byte := bytesLe 8 s.clock.station.toNat ++ bytesLe 2 (s.tm.tenths.num / s.tm.tenths.den).toNat
def stampAt (l : List Byte) (i : Nat) : Rat := (40 * leNat ((l.drop i).take 8) + leNat ((l.drop (i + 8)).take 2) : Nat)

/-- A TIME frame. -/
def State.timeFrame (s : State) (kind : Nat) (payload : List Byte) : Frame :=
  Frame.make 10 3 false 0 s.ownAddr 0 0 none (BitVec.ofNat 32 kind) 0 payload

/-- KIND of a TIME frame, and a good one of a kind at an UP port. -/
def timeKind (f : Frame) : Nat := f.arg0.toNat % 16
def State.timeIn (s : State) (p : Nat) (f : Frame) (kind len : Nat) : Bool :=
  s.forHere p f 10 && timeKind f == kind && f.payload.length == len

/-- A write of TIM_SETCTL (R393). -/
def State.wrSetctl (s : State) (i : Iface) (w : Word) : State :=
  if wbit w 31 = false ∨ getF w Fld.TIM_SETCTL_KEY ≠ 0x7E then s
  else if i ≠ .line ∧ (s.isRoot = true ∨ s.timSt = 1) ∧ s.fld .TIM_MARKSTAT Fld.TIM_MARKSTAT_ARMED = 0 then
    (s.stepTime ((40 * ((s.rd .TIM_SET_LO).toNat + 2 ^ 32 * (s.rd .TIM_SET_HI).toNat) : Nat) : Rat)).setFlag .TIM_FLAG 2
  else s.setFlag .TIM_FLAG 7

/-- A read of TIM_NOW_LO holds the upper word for its interface. -/
def State.rdNowLo (s : State) (i : Iface) : Word × State :=
  (timeLo s.clock.station, s.putBank i { s.bank i with timHi := timeHi s.clock.station })

/-! ### Summit marks (R395, R396, Tables 18.2 and 18.3) -/

/-- A bank is armed. -/
def State.armed (s : State) (b : Nat) : Bool := s.bit .TIM_MARKSTAT (4 + b)

/-- Arm the bank of a mark. -/
def State.armMark (s : State) (m : MarkX) : State :=
  let b := m.num % 4
  let s1 := ((s.putBit (.TIM_BANK (192 * b)) 31 false).putBit .TIM_MARKSTAT b false).putBit .TIM_MARKSTAT (4 + b) true
  ({ s1 with tm := { s1.tm with marks := s1.tm.marks.set b m } } : State).setFlagI .TIM_FLAG 3 m.num 0

/-- The words of a bank at its latch: header, then every counter of Table 18.3. -/
def State.bankWords (s : State) (m : MarkX) : List Word :=
  let acc := ofSigned 64 s.ga.acc
  [BitVec.ofNat 32 (2 ^ 31 + 2 ^ 30 * b2n (s.timSt != 3) + 2 ^ 29 * b2n m.late + m.num), timeLo m.time, timeHi m.time,
   (s.rd .LNK_ADDR &&& 0xFFFF0FFF#32)] ++
  allRails.map (fun n => s.rd (.RAIL_ONTIME n)) ++
  (List.range 16).map (fun n => let q := s.tm.energy.get n 0 * 10; BitVec.ofNat 32 (q.num / q.den).toNat) ++
  [BitVec.ofNat 32 acc, BitVec.ofNat 32 (acc / 2 ^ 32), s.rd .GAU_CYCLES, s.rd .GAU_THRU, s.rd .BKP_COUNT, s.rd .TTB_BSTAT,
   s.rd .MEM_CNT, s.rd .LNK_TRIPCNT] ++
  (List.range 3).map (fun q => BitVec.ofNat 32 (s.ev.written.get q 0)) ++ List.replicate 13 0#32 ++
  (List.range 128).map fun k => s.rd (.FLT_CNT k)

/-- Store a list of words in a bank. -/
def State.putBankWords (s : State) (b : Nat) (l : List Word) : State :=
  each ((List.range l.length).zip l) (fun x s => s.wr (.TIM_BANK (192 * b + x.1)) x.2) s

end Sys2Proof.Machine
end

