-- ==== Sys2Proof/Machine/Flow.lean ====
section
/-!
DEFINITION. The commands of flows, station time and summit marks (chapter 18) that touch no other block's registers;
the frames of a flow that arrive stand in Machine/FlowIn.lean.
-/

namespace Sys2Proof.Machine

open Host (Outcome)

/-! ### Flows (R378 to R383, R388) -/

/-- FLW_OPEN runs (R378). -/
def State.flowOpen (s : State) (k : Nat) : State :=
  let c := s.slot k
  let f := getF c.p0 ⟨6, 0⟩
  let peer := getF c.p0 ⟨31, 20⟩
  let ring := c.p1.toNat
  if s.flowSt f ≠ 0 then s.complete k 0x66 0
  else if peer = 0 ∨ peer = 4095 ∨ ring % 4 ≠ 0 ∨ s.badSource ring 4352 = true then s.complete k 0x26 0
  else
    let w := putF (putF (putF (putF 0#32 Fld.FLW_F_CFG_STATE 1) Fld.FLW_F_CFG_CLASS (getF c.p0 ⟨17, 16⟩)) Fld.FLW_F_CFG_PEER peer)
      Fld.FLW_F_CFG_PFLOW (getF c.p0 ⟨14, 8⟩)
    let inc := if s.flowInc f = 65535 then 1 else s.flowInc f + 1
    let s1 := (((s.wr (.FLW_F_CFG f) w).wr (.FLW_F_RXBASE f) c.p1).wr (.FLW_F_SEQ f) 0#32).wr (.FLW_F_RX f) 0#32
    let s2 : State := { s1 with fw := { s1.fw with inc := s1.fw.inc.set f inc } }
    (s2.putFlow f {}).complete k 0 0

/-- FLW_CLOSE runs (R379, R384). -/
def State.flowClose (s : State) (k : Nat) : State :=
  let f := getF (s.slot k).p0 ⟨6, 0⟩
  let c := s.flow f
  if s.flowSt f = 0 then s.complete k 0x67 0
  else
    let s1 := s.putFlow f { c with closing := some k }
    if s.flowSt f = 3 ∨ c.out = [] then s1.flowClosed f 0
    else s1.put (.FLW_F_CFG f) Fld.FLW_F_CFG_STATE 2

/-- FLW_OPEN (R378). -/
def execFlwOpen (a : CmdAct) (s : State) : Outcome State Fault Refusal := .next (s.ledgerRow a 0xC3 fun k s => s.flowOpen k)

/-- FLW_CLOSE (R379). -/
def execFlwClose (a : CmdAct) (s : State) : Outcome State Fault Refusal := .next (s.ledgerRow a 0xC4 fun k s => s.flowClose k)

/-- FLOW_SEND (R380). -/
def execFlowSend (i : Iface) (v : Word) (be : BitVec 4) (s : State) : Outcome State Fault Refusal :=
  .next (s.guardSent .FLW_TXGO be fun s => s.wrTxgo i (s.merged .FLW_TXGO v be))

/-- RXREAD_WRITE (R382). -/
def execRxreadWrite (_i : Iface) (f : Fin 128) (v : Word) (be : BitVec 4) (s : State) : Outcome State Fault Refusal :=
  .next (s.guardWrite (.FLW_F_RX f) fun s => s.wrRxread f (s.merged (.FLW_F_RX f) v be))

/-- RETRANSMIT_TIMEOUT (R379, R383, R384): RTO without an ACK that advances. [DEDUCED, log 127] -/
def execRetransmitTimeout (f : Fin 128) (s : State) : Outcome State Fault Refusal :=
  .next (
    let c := s.flow f
    if !s.powered .link || !s.flowLive f || c.out.isEmpty then s
    else
      let n := c.tries + 1
      let s1 := (s.put (.FLW_F_CFG f) Fld.FLW_F_CFG_RETRIES (min 15 n)).addSat .FLW_STAT Fld.FLW_STAT_RETX 1
      let s2 := s1.putFlow f { c with tries := n }
      if max 1 (s.fld .FLW_CFG Fld.FLW_CFG_RETRY) ≤ n then
        if s.flowSt f = 2 then (s2.gap 4 f c.out.length 2).flowClosed f 0x68 else s2.flowBroken f c.out.length
      else each c.out (fun x s => s.transmit f x) s2)

/-- Records taken from the fabric queue, up to `n`, as bytes. -/
def State.takeFabric : Nat → State → List Byte × State
  | 0, s => ([], s)
  | n + 1, s =>
    if s.qEmpty 2 then ([], s)
    else
      let s1 := s.take 2
      let w := (List.range 4).map fun j => s1.rd (.EVT_QREC 2 j)
      let r := State.takeFabric n (s1.eoi 2)
      (bytesOfWords w ++ r.1, r.2)

/-- EVENT_FORWARD (R388): the core sends fabric records on the context of EVTFWD, or holds them. -/
def execEventForward (s : State) : Outcome State Fault Refusal :=
  .next (
    let f := s.fld .FLW_EVTFWD Fld.FLW_EVTFWD_FLOW
    if !s.powered .link || !s.bit .FLW_EVTFWD 31 || s.qEmpty 2 then s
    else if s.flowSt f ≠ 1 ∨ s.txFull f = true then s.setFlagI .FLW_FLAG 6 f 0
    else
      let r := State.takeFabric 16 s
      r.2.flowPush f 12 0 r.1.length (some r.1))

/-! ### Station time (R390, R391, R393) -/

/-- The depth, EPOCH and root address of a SYNC. -/
def State.syncBytes (s : State) : List Byte :=
  s.stampBytes ++ [BitVec.ofNat 8 (s.fld .TIM_STATUS Fld.TIM_STATUS_DEPTH), 0#8] ++ bytesLe 2 (s.fld .LNK_ADDR Fld.LNK_ADDR_EPOCH) ++
    bytesLe 2 (s.fld .LNK_ROOT Fld.LNK_ROOT_ADDR)

/-- SYNC_PERIOD (R391): a REQ from each UP port, a SYNC to each UP port of the tree. -/
def execSyncPeriod (s : State) : Outcome State Fault Refusal :=
  .next (
    let s1 := each s.upPorts (fun p s =>
      let s2 := s.send p (s.timeFrame 2 (s.stampBytes ++ List.replicate 6 0#8))
      { s2 with tm := { s2.tm with t1 := s2.tm.t1.set p s2.timeTenths } }) s
    if s1.timSt = 1 then s1
    else each (s1.upPorts.filter fun p => (s1.fld .LNK_DEFAULT Fld.LNK_DEFAULT_TREE).testBit p)
      (fun p s => s.send p (s.timeFrame 1 s.syncBytes)) s1)

/-- The port SYNCs are taken from: the default port, or its alternate while that is not UP. -/
def State.syncPort (s : State) : Option Nat :=
  let p := s.fld .LNK_DEFAULT Fld.LNK_DEFAULT_PORT
  if s.isUp p then some p else if s.bit .LNK_DEFAULT 6 then some (s.fld .LNK_DEFAULT Fld.LNK_DEFAULT_ALT) else none

/-- An accepted SYNC with error `e` in tenths of a nanosecond (R391). [DEDUCED, log 133] -/
def State.syncTake (s : State) (e : Rat) (depth : Nat) : State :=
  let s1 := s.put .TIM_STATUS Fld.TIM_STATUS_DEPTH (depth + 1)
  let s2 := s1.put .TIM_OFFSET Fld.TIM_OFFSET_OFS (ofSigned 16 (clampI (-32768) 32767 (roundOpen e)))
  let a := if e < 0 then -e else e
  if 10000 < a then
    let s3 := (s2.stepTime (s2.timeTenths + e)).setFlag .TIM_FLAG 2
    ({ s3 with tm := { s3.tm with good := 0 } } : State).setTim 2
  else
    let per : Nat := max 100 (s.fld .TIM_CFG Fld.TIM_CFG_SYNCP)
    let trim := clampI (-10000) 10000 (roundOpen (e * 10000 / (per : Rat)))
    let s3 := s2.put .TIM_OFFSET Fld.TIM_OFFSET_FADJ (ofSigned 16 trim)
    let n := if a ≤ 50 then s3.tm.good + 1 else 0
    let s4 : State := { s3 with tm := { s3.tm with good := n } }
    if s4.timSt = 3 then (if 100 < a then s4.setTim 2 else s4)
    else if 8 ≤ n then s4.setTim 3 else s4.setTim 2

/-- SYNC_RECEIVE (R391). -/
def execSyncReceive (p : Fin 4) (f : Frame) (s : State) : Outcome State Fault Refusal :=
  .next (
    if !s.timeIn p f 1 16 || s.isRoot || s.syncPort != some p.val ||
        leNat ((f.payload.drop 12).take 2) != s.fld .LNK_ADDR Fld.LNK_ADDR_EPOCH ||
        leNat ((f.payload.drop 14).take 2) != s.fld .LNK_ROOT Fld.LNK_ROOT_ADDR then s
    else
      let e := stampAt f.payload 0 + (s.fld (.TIM_DELAY p) Fld.TIM_DELAY_DELAY : Rat) - s.timeTenths
      s.syncTake e (leNat ((f.payload.drop 10).take 1)))

/-- REQ_RECEIVE (R391): the RESP with the REQ's arrival and its own departure. -/
def execReqReceive (p : Fin 4) (f : Frame) (s : State) : Outcome State Fault Refusal :=
  .next (if s.timeIn p f 2 16 then s.send p (s.timeFrame 3 (s.stampBytes ++ s.stampBytes ++ List.replicate 4 0#8)) else s)

/-- RESP_RECEIVE (R391): the link delay. -/
def execRespReceive (p : Fin 4) (f : Frame) (s : State) : Outcome State Fault Refusal :=
  .next (match (if s.timeIn p f 3 24 then s.tm.t1.lookup p.val else none) with
    | none => s
    | some t1 =>
      let d := ((s.timeTenths - t1) - (stampAt f.payload 10 - stampAt f.payload 0)) / 2
      let s1 := s.wr (.TIM_DELAY p) (BitVec.ofNat 32 (2 ^ 31 + (clampI 0 65535 (roundOpen d)).toNat))
      { s1 with tm := { s1.tm with t1 := s1.tm.t1.filter (fun e => e.1 != p.val) } })

/-- TIME_SET (R393). -/
def execTimeSet (i : Iface) (v : Word) (be : BitVec 4) (s : State) : Outcome State Fault Refusal :=
  .next (s.guardSent .TIM_SETCTL be fun s => s.wrSetctl i (s.merged .TIM_SETCTL v be))

/-- HOLDOVER (R391): HOLDN periods without an accepted SYNC. -/
def execHoldover (s : State) : Outcome State Fault Refusal :=
  .next (if s.powered .link && !s.isRoot && (s.timSt == 2 || s.timSt == 3) then
    ({ s with tm := { s.tm with good := 0 } } : State).setTim 4 else s)

/-! ### Summit marks (R394 to R396) -/

/-- SUMMIT_MARK runs (R394). -/
def State.summitMark (s : State) (k : Nat) : State :=
  let c := s.slot k
  let t : Time := BitVec.ofNat 64 (c.p0.toNat + 2 ^ 32 * c.p1.toNat)
  let num := c.p2.toNat % 65536
  if !s.isRoot then s.complete k 0x60 0
  else if t.toNat < s.clock.station.toNat + 12500 then s.complete k 0x65 0
  else if s.armed (num % 4) then s.complete k 0x69 0
  else
    let s1 := s.armMark { num := num, time := t, slot := some k }
    let pay := bytesLe 8 t.toNat ++ bytesLe 2 num ++ bytesLe 2 (s.fld .LNK_ADDR Fld.LNK_ADDR_EPOCH) ++ List.replicate 4 0#8
    let f := Frame.make 11 3 false 4095 s.ownAddr 0 (max 1 (s.fld .LNK_CFG Fld.LNK_CFG_TRIPTTL)) none 0#32 0 pay
    each (s1.treePorts 4) (fun p s => s.send p f) s1

/-- SUMMIT_MARK (R394). -/
def execSummitMark (a : CmdAct) (s : State) : Outcome State Fault Refusal := .next (s.ledgerRow a 0xC2 fun k s => s.summitMark k)

/-- MARK_RECEIVE (R395). -/
def execMarkReceive (p : Fin 4) (f : Frame) (s : State) : Outcome State Fault Refusal :=
  .next (
    let t : Time := BitVec.ofNat 64 (leNat (f.payload.take 8))
    let num := leNat ((f.payload.drop 8).take 2)
    if !s.forHere p f 11 || f.payload.length != 16 || f.src != s.fld .LNK_ROOT Fld.LNK_ROOT_ADDR ||
        leNat ((f.payload.drop 10).take 2) != s.fld .LNK_ADDR Fld.LNK_ADDR_EPOCH then s
    else if t.toNat < s.clock.station.toNat then s.setFlagI .TIM_FLAG 5 num 0
    else
      match (if s.armed (num % 4) then s.tm.marks.lookup (num % 4) else none) with
      | some m =>
        if m.num = num then s.armMark { num := num, time := t, slot := m.slot }
        else (s.setFlagI .TIM_FLAG 5 m.num 0).armMark { num := num, time := t }
      | none => s.armMark { num := num, time := t })

/-- MARK_LATCH (R396): station time has reached T of an armed bank, or a step has carried it past. -/
def execMarkLatch (b : Fin 4) (s : State) : Outcome State Fault Refusal :=
  .next (match s.tm.marks.lookup b.val with
    | none => s
    | some m =>
      if !s.powered .link || !s.armed b || m.sampled.isSome || s.clock.station.toNat < m.time.toNat then s
      else
        let m1 := { m with sampled := some (s.bankWords m) }
        let s1 : State := { s with tm := { s.tm with marks := s.tm.marks.set b.val m1 } }
        let s2 := s1.put .TIM_MARKSTAT Fld.TIM_MARKSTAT_LASTNUM m.num
        if m.late then s2.setFlagI .TIM_FLAG 6 m.num 0 else s2)

/-- TIM_MARKDONE (R396): the sampled values are in the bank. -/
def execTimMarkdone (b : Fin 4) (s : State) : Outcome State Fault Refusal :=
  .next (match s.tm.marks.lookup b.val with
    | none => s
    | some m =>
      match m.sampled with
      | none => s
      | some l =>
        let s1 := ((s.putBankWords b l).putBit .TIM_MARKSTAT b true).putBit .TIM_MARKSTAT (4 + b) false
        let s2 : State := { s1 with tm := { s1.tm with marks := s1.tm.marks.filter (fun e => e.1 != b.val) } }
        let s3 := s2.setFlagI .TIM_FLAG 4 m.num 0
        match m.slot with
        | some k => s3.complete k 0 m.num
        | none => s3)

end Sys2Proof.Machine
end

