-- ==== Sys2Proof/Machine/Switchyard.lean ====
section
/-!
DEFINITION. Switchyard and power stages (chapter 03): register writes, modulation and limits, the stage states, the
watershed and re-ganging.
-/

namespace Sys2Proof.Machine

open Host (Outcome)

/-! ### Writes -/

/-- A rail number of STGmm_CFG.RAIL or HOME that the ownership rule of R78 turns down. -/
def State.badRail (s : State) (m r : Nat) : Bool :=
  if r < 16 then decide (s.railDom r ≠ s.stageDom m) else r != 0x1F

/-- The write would give a gang a ninth member (R78). -/
def State.gangFull (s : State) (m r : Nat) : Bool :=
  decide (r < 16) && s.stgRail m != r && decide (8 ≤ (s.gang r).length)

/-- A rail named by RAIL is OFF; 0x1F names none. -/
def State.idleOrOff (s : State) (r : Nat) : Bool := decide (20 ≤ r) || s.railSt r == rOff

/-- A write of STGmm_CFG (R78). -/
def State.wrStgCfg (s : State) (m : Nat) (w0 : Word) : State :=
  let w := if getF w0 Fld.STG_CFG_DEMODE = 3 then putF w0 Fld.STG_CFG_DEMODE 0 else w0
  let r := getF w Fld.STG_CFG_RAIL
  if s.badRail m r || s.badRail m (getF w Fld.STG_CFG_HOME) || s.gangFull m r then s.setFlag (.STG_FLAG m) 7
  else if (s.stgSt m == gOff || s.stgSt m == gBlocked || s.stgSt m == gLatched) &&
      s.idleOrOff (s.stgRail m) && s.idleOrOff r then (s.writeRw (.STG_CFG m) w).showExcluded
  else
    let s1 := (s.put (.STG_CFG m) Fld.STG_CFG_DEMODE (getF w Fld.STG_CFG_DEMODE)).put (.STG_CFG m) Fld.STG_CFG_PARKOK
      (getF w Fld.STG_CFG_PARKOK)
    s1.setFlag (.STG_FLAG m) 6

/-- A write of PNTkk_CFG, ignored while the point is closed (R99). -/
def State.wrPnt (s : State) (k : Nat) (w : Word) : State :=
  if s.pins.closed.contains k then s else (s.writeRw (.PNT_CFG k) w).showExcluded

/-- The flags of a stage whose cause is present (R7): an on-time at its clamp, a duty at its limit, the wrong kind. -/
def State.stgCause (s : State) (m : Nat) : Word :=
  maskOf ((if s.fld (.STG_STATE m) Fld.STG_STATE_TONMIN = 1 then [3] else []) ++
    (if s.fld (.STG_STATE m) Fld.STG_STATE_TOFFMIN = 1 then [4] else []) ++ (if s.wrongKind m then [5] else []))

/-- A write of STGmm_FLAG: flags cleared; HSSHORT frees a BLOCKED stage whose source is clear (R89). -/
def State.wrStgFlag (s : State) (m : Nat) (w : Word) : State :=
  let s1 := s.clearFlagsBut (.STG_FLAG m) (w &&& Reg.w1c (.STG_FLAG m)) (s.stgCause m)
  if wbit w 0 && s1.stgSt m == gBlocked && !s1.latched m then s1.stageRest m gOff else s1

/-- A write of XBRnn_MOD: FSW outside 20 to 220 stays (R82). -/
def State.wrXbrMod (s : State) (n : Nat) (w : Word) : State :=
  let w' := if inRange 20 220 (getF w Fld.XBR_MOD_FSW) then w else putF w Fld.XBR_MOD_FSW (s.fld (.XBR_MOD n) Fld.XBR_MOD_FSW)
  s.writeRw (.XBR_MOD n) w'

/-- Writes of XBRnn_SHARE (2 to 1000), SWY_PNTT (1 to 1000) and SWY_IAGG (LIMIT at most 1000). -/
def State.wrXbrShare (s : State) (n : Nat) (w : Word) : State :=
  if inRange 2 1000 (getF w Fld.XBR_SHARE_RAMP) then s.writeRw (.XBR_SHARE n) w else s
def State.wrPntt (s : State) (w : Word) : State :=
  if inRange 1 1000 (getF w Fld.SWY_PNTT_SETTLE) then s.writeRw .SWY_PNTT w else s
def State.wrIagg (s : State) (w : Word) : State :=
  let w' := if getF w Fld.SWY_IAGG_LIMIT ≤ 1000 then w else putF w Fld.SWY_IAGG_LIMIT (s.fld .SWY_IAGG Fld.SWY_IAGG_LIMIT)
  s.writeRw .SWY_IAGG w'

/-- STG_CFG_WRITE (R78). -/
def execStgCfgWrite (_i : Iface) (m : Fin 24) (v : Word) (be : BitVec 4) (s : State) : Outcome State Fault Refusal :=
  .next (s.guardWrite (.STG_CFG m) fun s => s.wrStgCfg m (s.merged (.STG_CFG m) v be))

/-- PNT_CFG_WRITE (R99). -/
def execPntCfgWrite (_i : Iface) (k : Fin 8) (v : Word) (be : BitVec 4) (s : State) : Outcome State Fault Refusal :=
  .next (s.guardWrite (.PNT_CFG k) fun s => s.wrPnt k (s.merged (.PNT_CFG k) v be))

/-- STG_FLAG_WRITE (R89). -/
def execStgFlagWrite (_i : Iface) (m : Fin 24) (v : Word) (be : BitVec 4) (s : State) : Outcome State Fault Refusal :=
  .next (s.guardWrite (.STG_FLAG m) fun s => s.wrStgFlag m (s.merged (.STG_FLAG m) v be))

/-! ### On-times (R79 to R84) -/

/-- The effective frequency of a rail in units of 10 kHz (R82): an external gang stops at 1.2 MHz. -/
def State.fsw (s : State) (n : Nat) : Nat :=
  let f := s.fld (.XBR_MOD n) Fld.XBR_MOD_FSW
  if s.gangIntegrated n then f else min f 120

/-- TON of R79 in ns before the clamp: setpoint in mV over input in mV and frequency. [DESIGN CHOICE, log 40] -/
def State.tonRaw (s : State) (n m vin : Nat) : Rat :=
  let trim := toSigned 16 (s.fld (.STG_TRIM m) Fld.STG_TRIM_TRIM)
  ((s.fld (.RAIL_STATUS n) Fld.RAIL_STATUS_SETP * 100000 : Nat) : Rat) / ((vin * s.fsw n : Nat) : Rat) *
    (((4096 + trim : Int) : Rat) / 4096)

/-- The share of a stage scales its on-time (R90). [DESIGN CHOICE, log 40] -/
def State.shareOf (s : State) (m : Nat) : Rat := (s.fld (.STG_STATE m) Fld.STG_STATE_SHARE : Rat) / 128

/-- IAVG of a stage in 2 mA units, and its temperature in 0.125 °C units. -/
def State.iavg (s : State) (m : Nat) : Int := toSigned 16 (s.fld (.STG_MEAS m) Fld.STG_MEAS_IAVG)
def State.temp (s : State) (m : Nat) : Int := toSigned 12 (s.fld (.STG_MEAS m) Fld.STG_MEAS_TEMP)

/-- A valley limit in mA: 0.25 A or 25 mA units, the latter up to 0x50. -/
def State.vlimMa (s : State) (m : Nat) : Nat :=
  let v := s.fld (.STG_ILIM m) Fld.STG_ILIM_VLIM
  if integrated m then 25 * min v 0x50 else 250 * v

/-- The valley limit that acts on a stage in mA: scaled by its rail's derating (R229) and by the aggregate limit
(R87). -/
def State.effVlim (s : State) (m : Nat) : Rat :=
  let v : Rat := (s.vlimMa m : Rat) * s.po.derf.get (s.stgRail m) 100 / 100
  let sum := sumI (((List.range 24).filter fun m => 16 ≤ m).map s.iavg)
  if integrated m && s.bit .SWY_STATUS 0 && decide (0 < sum) then
    v * ((s.fld .SWY_IAGG Fld.SWY_IAGG_LIMIT * 5 : Nat) : Rat) / (sum : Rat)
  else v

/-- The instantaneous current of a stage lies above the valley limit that acts on it (R86, R87, R229). -/
def State.aboveVlim (s : State) (f : Fire) (m : Nat) : Bool :=
  s.compOut (0x40 + m) (decide (s.effVlim m < ((f.cur.getD m 0 : Int) : Rat)))

/-- A trigger reaches a stage in rotation: VLIMACT follows its current (R86). -/
def State.triggerReaches (s : State) (f : Fire) (m : Nat) : State :=
  let b := s.aboveVlim f m
  (s.put (.STG_STATE m) Fld.STG_STATE_VLIMACT (b2n b)).live (24 + m) b

/-- GINJ of a rail in mV per V·µs, and the amplitude in µV of the ramp it injects over an on-time of `ton` ns, with the input
and the output in mV (R81). -/
def State.ginj (s : State) (n : Nat) : Rat := ((s.fld (.XBR_MOD n) Fld.XBR_MOD_GINJ + 1 : Nat) : Rat) / 2
def State.injected (s : State) (n vin vout : Nat) (ton : Rat) : Rat := s.ginj n * ((vin : Rat) - (vout : Rat)) * ton / 1000

/-- The level in µV at which a rail's comparator fires: the reference its loop wrote, VTR, and half the amplitude of the
injected ramp (R81). -/
def State.fireLevel (s : State) (n : Nat) : Rat := s.lp.dests.get (1, n) 0 + s.sw.ripple.get n 0 / 2

/-- A stage takes the trigger: one on-time, with the clamp flags of R83 and R84 and the ramp of R81. -/
def State.takeTrigger (s : State) (n m : Nat) (f : Fire) : State :=
  let raw := s.tonRaw n m f.vin
  let short := decide (raw < 40)
  let flagged := short && s.railSt n != rRampUp
  let ton := (if short then 40 else raw) * s.shareOf m
  let s1 := s.put (.STG_STATE m) Fld.STG_STATE_TONMIN (b2n flagged)
  let s2 := if flagged then s1.setFlag (.STG_FLAG m) 3 else s1
  let s3 := s2.put (.STG_STATE m) Fld.STG_STATE_TOFFMIN (b2n f.dutyMax)
  let s4 := if f.dutyMax then s3.setFlag (.STG_FLAG m) 4 else s3
  let s5 := if (s4.stgX m).lowSide then s4.put (.STG_STATE m) Fld.STG_STATE_DE 0 else s4
  let s6 := s5.putStgX m { s5.stgX m with ton := ton, lowSide := true }
  { s6 with sw := { s6.sw with last := s6.sw.last.set n m, ripple := s6.sw.ripple.set n (s6.injected n f.vin f.vout ton) } }

/-- The rotation of a rail, starting behind the stage that fired last (R80). [DEDUCED, log 41] -/
def State.rotation (s : State) (n : Nat) : List Nat :=
  let l := s.inRotation n
  match s.sw.last.lookup n with
  | some m => (l.filter fun x => m < x) ++ (l.filter fun x => x ≤ m)
  | none => l

/-- Pass a trigger along a rotation until a stage takes it (R80). [DEDUCED, log 41] -/
def State.passTrigger (s : State) (n : Nat) (f : Fire) : List Nat → State
  | [] => { s with sw := { s.sw with waiting := if s.sw.waiting.contains n then s.sw.waiting else n :: s.sw.waiting } }
  | m :: t =>
    let s1 := s.triggerReaches f m
    if f.busy.getLsbD m || s.aboveVlim f m then s1.passTrigger n f t else s1.takeTrigger n m f

/-- A trigger that waits goes to the first stage that can take it (R80), which is then switched on. The next firing of the
rail's comparator tells the part that a stage can. [DESIGN CHOICE, log 169] -/
def State.serveWaiting (s : State) (n : Nat) (f : Fire) : Fire × State :=
  if s.sw.waiting.contains n then
    let s1 := ({ s with sw := { s.sw with waiting := s.sw.waiting.filter (· != n) } } : State).passTrigger n f (s.rotation n)
    if s1.sw.waiting.contains n then (f, s1)
    else match s1.sw.last.lookup n with
      | some m => ({ f with busy := f.busy ||| (1#24 <<< m) }, s1)
      | none => (f, s1)
  else (f, s)

/-- VALLEY_COMPARATOR_FIRE (R80). -/
def execValleyComparatorFire (n : Fin 16) (f : Fire) (s : State) : Outcome State Fault Refusal :=
  .next (let p := s.serveWaiting n f; p.2.passTrigger n p.1 (p.2.rotation n))

/-- The stage runs in diode emulation now (R85, R133). -/
def State.emulates (s : State) (m : Nat) : Bool :=
  let n := s.stgRail m
  let rs := if n < 16 then s.railSt n else rOff
  if s.stgSt m = gJoin ∨ s.stgSt m = gLeave ∨ rs = rRampUp then true
  else if rs = rRampDown ∨ rs = rDischarge then s.bit (.RAIL_CTL n) 4
  else s.fld (.STG_CFG m) Fld.STG_CFG_DEMODE != 2

/-- The stage switches: JOIN, RUN or LEAVE. -/
def State.switches (s : State) (m : Nat) : Bool := s.stgSt m == gJoin || s.stgSt m == gRun || s.stgSt m == gLeave

/-- ZERO_CURRENT_DETECT (R85): the low side turns off in diode emulation. -/
def execZeroCurrentDetect (m : Fin 24) (s : State) : Outcome State Fault Refusal :=
  .next (if s.switches m && s.emulates m && s.compOut (0x60 + m) true then
    (s.put (.STG_STATE m) Fld.STG_STATE_DE 1).putStgX m { s.stgX m with lowSide := false } else s)

/-- NEGATIVE_LIMIT (R86): in forced CCM the low side turns off below −NLIM. -/
def execNegativeLimit (m : Fin 24) (s : State) : Outcome State Fault Refusal :=
  .next (if s.switches m && !s.emulates m then
    ((s.put (.STG_STATE m) Fld.STG_STATE_DE 0).putStgX m { s.stgX m with lowSide := false }).setFlag (.STG_FLAG m) 2 else s)

/-- OC_TIMEOUT (R86): VLIMACT has stayed set for OCT. -/
def execOcTimeout (m : Fin 24) (s : State) : Outcome State Fault Refusal :=
  .next (if s.bit (.STG_STATE m) 8 then (s.setFlag (.STG_FLAG m) 1).raise (24 + m) 0 else s)

/-! ### Aggregate limit (R87) -/

/-- Store fresh stage measurements. -/
def State.measure (s : State) (l : List StageMeas) : State :=
  each l (fun x s => s.put (.STG_MEAS x.stage) Fld.STG_MEAS_IAVG
    (ofSigned 16 x.iavg)) s

/-- AGGREGATE_LIMIT (R87): the sum of IAVG of stages 16 to 23 against LIMIT (10 mA units), until it falls
below. -/
def execAggregateLimit (meas : List StageMeas) (s : State) : Outcome State Fault Refusal :=
  .next (
    let s1 := s.measure meas
    let sum := sumI (((List.range 24).filter fun m => 16 ≤ m).map s1.iavg)
    let lim : Int := (s1.fld .SWY_IAGG Fld.SWY_IAGG_LIMIT : Int) * 5
    let beyond := decide (lim < sum) || (s1.bit .SWY_STATUS 0 && decide (lim = sum))
    (s1.put .SWY_STATUS Fld.SWY_STATUS_AGGACT (b2n beyond)).live 48 beyond)

/-- SWY_AGG_OC (R87): AGGACT has stayed set for AGGT. -/
def execSwyAggOc (s : State) : Outcome State Fault Refusal :=
  .next (if s.bit .SWY_STATUS 0 then (s.setFlag .SWY_FLAG 0).raise 48 0 else s)

/-! ### Re-ganging (R94 to R98) -/

/-- Report the phase of the running re-gang. -/
def State.regangSet (s : State) (g : Regang) (phase : Nat) : State :=
  let w := putF (putF (putF (s.rd .SWY_STATUS) Fld.SWY_STATUS_REGRAIL g.target) Fld.SWY_STATUS_REGSTG g.stage)
    Fld.SWY_STATUS_REGPHASE phase
  { s.wr .SWY_STATUS w with sw := { s.sw with regang := some g } }

/-- The add of a re-gang begins: a rail that is OFF only takes the stage; otherwise point, then test (R94, R96). -/
def State.regangAdd (s : State) (g : Regang) : State :=
  if s.railSt g.target = rOff then
    ((s.put (.STG_CFG g.stage) Fld.STG_CFG_RAIL g.target).showExcluded).regangEnd g 0 g.shedDone
  else if s.fld (.STG_CFG g.stage) Fld.STG_CFG_HOME = g.target then (s.regangSet g 4).stageTest g.stage
  else match s.pointOf g.stage g.target with
    | some k => ((s.regangSet g 3).closePoint k g.stage).putStgX g.stage { s.stgX g.stage with settling := true }
    | none => s.regangEnd g 0x3C g.shedDone

/-- The shed of a re-gang is done: idle, then the end or the add (R96, Table 03.9). [DEDUCED, log 39] -/
def State.regangShedDone (s : State) (g : Regang) : State :=
  let s1 := ((s.stageOff g.stage).put (.STG_CFG g.stage) Fld.STG_CFG_RAIL 0x1F).showExcluded
  if 16 ≤ g.target then s1.regangEnd g 0 false
  else match g.noAdd with
    | some c => s1.regangEnd g c true
    | none => s1.regangAdd { g with shedDone := true }

/-- The refusal of a re-gang of stage `m` to rail `r`, in the order of Table 03.7; 0 when it is accepted. -/
def State.regangCheck (s : State) (m r : Nat) : Nat :=
  let src := s.stgRail m
  let add := decide (r < 16)
  let shed := decide (src < 16)
  let busy := fun n => s.railSt n == rRampUp || s.railSt n == rRampDown || s.railSt n == rDischarge || s.railSt n == rLatched ||
    (s.tt.ramps.lookup n).isSome
  let stay := (s.gang src).filter fun x => x != m && s.stgSt x == gRun
  if r = src then 0x37
  else if add && decide (s.railDom r ≠ s.stageDom m) then 0x30
  else if add && decide (s.gang r ≠ []) && integrated m != s.gangIntegrated r then 0x32
  else if add && decide (8 ≤ (s.gang r).length) then 0x31
  else if add && !s.routed m r then 0x3C
  else if s.stgSt m == gBlocked || s.stgSt m == gLatched || s.stgSt m == gTest || s.stgSt m == gBoot || s.excluded m then 0x33
  else if (shed && busy src) || (add && busy r) then 0x34
  else if shed && s.railSt src != rOff && stay.isEmpty then 0x35
  else if shed && decide (8 * sumR (stay.map s.effVlim) < ((20 * sumI ((s.gang src).map s.iavg) : Int) : Rat)) then 0x36
  else 0

/-- The stage and the rail that a SWY_REGANG names. -/
def CmdSlot.regStage (c : CmdSlot) : Nat := getF c.p0 ⟨4, 0⟩
def CmdSlot.regRail (c : CmdSlot) : Nat := getF c.p0 ⟨12, 8⟩

/-- A SWY_REGANG has started: its checks are under way (R96, phase 1). -/
def State.regangBegin (s : State) (k : Nat) : State :=
  if s.powered .stg then
    s.wr .SWY_STATUS (putF (putF (putF (s.rd .SWY_STATUS) Fld.SWY_STATUS_REGRAIL (s.slot k).regRail) Fld.SWY_STATUS_REGSTG
      (s.slot k).regStage) Fld.SWY_STATUS_REGPHASE 1)
  else s

/-- Parameters and checks of a re-gang (R95): a code, or 0; nothing can be switched while STG is unpowered. -/
def State.regangJudge (s : State) (m r : Nat) : Nat :=
  if 24 ≤ m ∨ (16 ≤ r ∧ r ≠ 0x1F) then 0x26 else if !s.powered .stg then 0x21 else s.regangCheck m r

/-- The re-gang command runs: checks, first phase (R95, R96). A stage in JOIN that is shed, which Table 03.7 accepts and Table
03.6 has no row for, goes to LEAVE from its present share. [DEDUCED, log 170] -/
def State.regangStart (s : State) (k : Nat) : State :=
  let m := (s.slot k).regStage
  let r := (s.slot k).regRail
  if s.regangJudge m r ≠ 0 then (if s.powered .stg then s.regangIdle else s).complete k (s.regangJudge m r) 0
  else
    let src := s.stgRail m
    let g : Regang := { slot := k, stage := m, source := src, target := r }
    if src < 16 then
      if s.railSt src = rOff ∨ s.stgSt m = gParked ∨ s.stgSt m = gOff then (s.regangSet g 2).regangShedDone g
      else
        let x := s.stgX m
        let ramp := 10 * s.fld (.XBR_SHARE src) Fld.XBR_SHARE_RAMP
        let us := if s.stgSt m = gLeave then x.shareUs else if s.stgSt m = gJoin then ramp - min ramp x.shareUs else 0
        let s1 := ((s.regangSet g 2).put (.STG_STATE m) Fld.STG_STATE_STATE gLeave).unsettle src
        s1.putStgX m { x with parking := false, drained := x.drained && s.stgSt m == gLeave, shareUs := us }
    else s.regangAdd g

/-- A cancel of the running re-gang (Table 03.9): an add is dropped; after a shed in LEAVE the stage is in RUN again, and its
share ramps back to 1 (Table 03.6). [DEDUCED, log 39] -/
def State.regangCancel (s : State) (g : Regang) : State :=
  if s.regangPhase = 2 ∧ s.stgSt g.stage ≠ gLeave then s.regangEnd g 0x20 false
  else if s.regangPhase = 2 then
    let x := s.stgX g.stage
    let ramp := 10 * s.fld (.XBR_SHARE g.source) Fld.XBR_SHARE_RAMP
    let s1 := s.put (.STG_STATE g.stage) Fld.STG_STATE_STATE gRun
    (s1.putStgX g.stage { x with drained := false, shareUs := ramp - min ramp x.shareUs }).regangEnd g 0x20 false
  else (s.regangDropStage g.stage).regangEnd g 0x20 g.shedDone

/-! ### Stage events -/

/-- POINT_SETTLED (R77): the stage that waited for its point runs its test. [DEDUCED, log 38] -/
def execPointSettled (k : Fin 8) (s : State) : Outcome State Fault Refusal :=
  .next (
    let m := s.fld (.PNT_CFG k) Fld.PNT_CFG_STAGE
    if s.pins.closed.contains k.val && (s.stgX m).settling then
      match s.sw.regang with
      | some g => if g.stage = m then (s.regangSet g 4).stageTest m else s.stageTest m
      | none => s.stageTest m
    else s)

/-- VTH of the shorted-high-side test above VOUT, in mV: 1 V, or a quarter of VIN − VOUT (R88). -/
def State.testRise (s : State) (m : Nat) : Rat :=
  let q : Rat := ((s.vinMv : Rat) - (s.railMv (s.stgRail m) : Rat)) / 4
  if q < 1000 then 1000 else q

/-- A switch-node voltage in mV reaches VTH. -/
def State.testFails (s : State) (m vsw : Nat) : Bool := decide ((s.railMv (s.stgRail m) : Rat) + s.testRise m ≤ (vsw : Rat))

/-- VRISE of a test: the highest switch-node voltage above VOUT, in 10 mV units. -/
def State.putRise (s : State) (m vsw : Nat) : State :=
  s.put (.STG_TEST m) Fld.STG_TEST_VRISE (roundOpen (((vsw - s.railMv (s.stgRail m) : Nat) : Rat) / 10)).toNat

/-- HSSHORT_DETECT (R88, R89, R228): the switch node, in mV, reaches VTH: BLOCKED; a rail start, a re-gang or an unpark that
needed the stage fails. PARKFAIL carries the cause of an unpark, LOAD or LOCK (R237). [DEDUCED, log 183] -/
def execHsshortDetect (m : Fin 24) (vsw : Nat) (s : State) : Outcome State Fault Refusal :=
  .next (if s.stgSt m = gTest ∧ s.testFails m vsw = true then
    let s1 := (s.putRise m vsw).put (.STG_TEST m) Fld.STG_TEST_RESULT 2
    let s2 := (((s1.stageRest m gBlocked).openPoints m).setFlag (.STG_FLAG m) 0)
    let n := s2.stgRail m
    let lone := fun (s : State) => (s.setFlagI .POL_FLAG 0 m (if s.bit .POL_LOCK 0 then 3 else 1)).raise m 0
    match s2.sw.regang with
    | some g =>
      if g.stage = m.val then
        (((s2.put (.STG_CFG m) Fld.STG_CFG_RAIL 0x1F).showExcluded).regangEnd g 0x38 g.shedDone).raise m 0
      else if n < 16 ∧ s2.railSt n = rStart then (s2.startFail n 2).raise m 0 else lone s2
    | none => if n < 16 ∧ s2.railSt n = rStart then (s2.startFail n 2).raise m 0 else lone s2
  else s)

/-- TEST_WINDOW_END (R88): the highest switch-node voltage of the window, in mV, lies below VTH: the test is passed and the
stage enters BOOT. -/
def execTestWindowEnd (m : Fin 24) (vsw : Nat) (s : State) : Outcome State Fault Refusal :=
  .next (if s.stgSt m = gTest ∧ s.testFails m vsw = false then
    let s1 := ((s.putRise m vsw).put (.STG_TEST m) Fld.STG_TEST_RESULT 1).put (.STG_STATE m)
      Fld.STG_STATE_STATE gBoot
    match s1.sw.regang with
    | some g => if g.stage = m.val then s1.regangSet g 5 else s1
    | none => s1
  else s)

/-- A stage begins to join its gang: JOIN with share 0 (R90). -/
def State.stageJoin (s : State) (m : Nat) : State :=
  (((s.put (.STG_STATE m) Fld.STG_STATE_STATE gJoin).put (.STG_STATE m) Fld.STG_STATE_SHARE 0).putStgX m
    { s.stgX m with shareUs := 0, booted := false }).unsettle (s.stgRail m)

/-- BOOT_END (R90): RUN together with the gang at a rail start, JOIN at an add or unpark. [DEDUCED, log 38] -/
def execBootEnd (m : Fin 24) (_ : Unit) (s : State) : Outcome State Fault Refusal :=
  .next (if s.stgSt m = gBoot then
    match s.sw.regang with
    | some g =>
      if g.stage = m.val then ((s.put (.STG_CFG m) Fld.STG_CFG_RAIL g.target).showExcluded).stageJoin m
      else if s.stgRail m < 16 ∧ s.railSt (s.stgRail m) = rStart then
        (s.putStgX m { s.stgX m with booted := true }).gangRuns (s.stgRail m)
      else s.stageJoin m
    | none =>
      if s.stgRail m < 16 ∧ s.railSt (s.stgRail m) = rStart then
        (s.putStgX m { s.stgX m with booted := true }).gangRuns (s.stgRail m)
      else s.stageJoin m
  else s)

/-- SHARE_RAMP_END (R90): JOIN reaches 1 and RUN; LEAVE reaches 0, takes no further on-times and
has no TRIM (R91, R92); the share of a shed cancelled is back at 1. -/
def execShareRampEnd (m : Fin 24) (s : State) : Outcome State Fault Refusal :=
  .next (
    if s.stgSt m = gJoin then
      let s1 := (s.put (.STG_STATE m) Fld.STG_STATE_STATE gRun).put (.STG_STATE m) Fld.STG_STATE_SHARE 0x80
      match s1.sw.regang with
      | some g => if g.stage = m.val then s1.regangEnd g 0 g.shedDone else s1
      | none => s1
    else if s.stgSt m = gLeave then
      let s1 : State := { s with sw := { s.sw with wsLimit := s.sw.wsLimit.filter (· != m.val) } }
      ((s1.put (.STG_STATE m) Fld.STG_STATE_SHARE 0).put (.STG_TRIM m) Fld.STG_TRIM_TRIM 0).putStgX m
        { s.stgX m with drained := true, trim := 0 }
    else if s.stgSt m = gRun then s.put (.STG_STATE m) Fld.STG_STATE_SHARE 0x80
    else s)

/-- A drained stage leaves LEAVE: PARKED for a policy park, OFF for a re-gang (Table 03.6). [DEDUCED, log 38] -/
def State.leaveDone (s : State) (m : Nat) : State :=
  if s.stgSt m = gLeave ∧ (s.stgX m).drained = true then
    if (s.stgX m).parking then s.stageRest m gParked
    else match s.sw.regang with
      | some g => if g.stage = m then s.regangShedDone g else s.stageOff m
      | none => s.stageOff m
  else s

/-- LEAVE_CURRENT_ZERO (R91). -/
def execLeaveCurrentZero (m : Fin 24) (s : State) : Outcome State Fault Refusal := .next (s.leaveDone m)

/-- LEAVE_TIMEOUT (R91): 50 µs after share 0 both switches turn off and the stage moves on anyway. -/
def execLeaveTimeout (m : Fin 24) (s : State) : Outcome State Fault Refusal := .next (s.leaveDone m)

/-! ### Watershed (R92) -/

/-- Store an exact trim and its register code. [DEDUCED, log 42] -/
def State.putTrim (s : State) (m : Nat) (t : Rat) : State :=
  (s.put (.STG_TRIM m) Fld.STG_TRIM_TRIM (ofSigned 16 (roundOpen t))).putStgX m { s.stgX m with trim := t }

/-- Mean of a list of numbers. -/
def meanR (l : List Rat) : Rat := sumR l / (l.length : Rat)

/-- The trim limit of a rail in LSB: 0.5 % units, at most 50 of them. -/
def State.wsMax (s : State) (n : Nat) : Rat := ((min 50 (s.fld (.XBR_WSH n) Fld.XBR_WSH_WSMAX) * 4096 : Nat) : Rat) / 200

/-- A trim moves 4 LSB towards zero. -/
def decay4 (t : Rat) : Rat := if 4 < t then t - 4 else if t < -4 then t + 4 else 0

/-- INFO of a policy event: rail, and stage or 0xFF (Table 11.1). -/
def polInfo (n m : Nat) : Nat := 256 * n + m

/-- Watershed starts or stops on a rail (R224): POL_WSH_START and POL_WSH_STOP. -/
def State.wsMark (s : State) (n : Nat) (on locked : Bool) : State :=
  let was := s.sw.wsOn.contains n
  if on == was then s
  else if on then ({ s with sw := { s.sw with wsOn := n :: s.sw.wsOn } } : State).message 95 (polInfo n 0xFF) 1
  else ({ s with sw := { s.sw with wsOn := s.sw.wsOn.filter (· != n) } } : State).message 96 (polInfo n 0xFF) (if locked then 3 else 1)

/-- A stage's trim stands at ±WSMAX, or not: the event at its reaching. -/
def State.wsAtLimit (s : State) (n m : Nat) (b : Bool) : State :=
  if b == s.sw.wsLimit.contains m then s
  else if b then ({ s with sw := { s.sw with wsLimit := m :: s.sw.wsLimit } } : State).message 97 (polInfo n m) 2
  else { s with sw := { s.sw with wsLimit := s.sw.wsLimit.filter (· != m) } }

/-- One watershed step of a rail. The events of R224 count the stages in rotation. With five in rotation and fewer in JOIN or
RUN, where R92 states neither, the trims decay. [DEDUCED, log 42, 171] -/
def State.watershed (s0 : State) (n : Nat) : State :=
  let rot := s0.inRotation n
  let five := decide (5 ≤ (rot.filter fun m => s0.stgSt m == gJoin || s0.stgSt m == gRun).length)
  let locked := s0.bit .POL_LOCK 1
  let many := decide (5 ≤ rot.length)
  let s := s0.wsMark n (many && !locked) (many && locked)
  if five && !locked then
    let tmean := meanR (rot.map fun m => (s.temp m : Rat))
    let gain : Rat := (s.fld (.XBR_WSH n) Fld.XBR_WSH_GAIN : Rat)
    let db : Rat := (s.fld (.XBR_WSH n) Fld.XBR_WSH_DB : Rat)
    let lim := s.wsMax n
    let new := rot.map fun m =>
      let d := (s.temp m : Rat) - tmean
      let t := if db < d ∨ d < -db then (s.stgX m).trim - gain * (d / 8) / 64 else (s.stgX m).trim
      (m, if t < -lim then -lim else if lim < t then lim else t)
    let mu := meanR (new.map (·.2))
    each new (fun x s => (s.putTrim x.1 (x.2 - mu)).wsAtLimit n x.1 (decide (x.2 = lim ∨ x.2 = -lim))) s
  else each rot (fun m s => (s.putTrim m (decay4 (s.stgX m).trim)).wsAtLimit n m false) s

/-- WATERSHED_TICK (R92): every 1 ms, with fresh stage measurements. -/
def execWatershedTick (meas : List StageMeas) (s : State) : Outcome State Fault Refusal :=
  .next (each (List.range 16) (fun n s => s.watershed n) (s.measure meas))

end Sys2Proof.Machine
end

