-- ==== Sys2Proof/Machine/LoopOps.lean ====
section
/-!
DEFINITION. What the loop engines compute: periods and the placement check (R109), the tap rule (R164), the
arithmetic of a section (R105), the feedback and reference of a sample (R102, R200) and the watch conditions (R123).
-/

namespace Sys2Proof.Machine

/-! ### Slots -/

/-- Engine of a slot, and the slots of an engine. -/
def slotEngine (k : Nat) : Nat := k / 4
def engineSlots (e : Nat) : List Nat := (List.range 4).map (4 * e + ·)

/-- KIND and SCNT of a slot; a slot is used when neither is 0 (R100). -/
def State.slotKind (s : State) (k : Nat) : Nat := s.fld (.LPS_CFG k) Fld.LPS_CFG_KIND
def cfgUsed (w : Word) : Bool := getF w Fld.LPS_CFG_SCNT != 0 && getF w Fld.LPS_CFG_KIND != 0
def State.slotUsed (s : State) (k : Nat) : Bool := cfgUsed (s.rd (.LPS_CFG k))

/-- Period of a rate code in µs (Table 04.3). -/
def ratePeriod : Nat → Nat
  | 0 => 1 | 1 => 2 | 2 => 4 | 3 => 5 | 4 => 8 | 5 => 10 | 6 => 16 | _ => 20

/-- The code after halving, and the next faster code of a shed slot (Table 04.3, R114). -/
def rateHalved : Nat → Option Nat
  | 0 => some 1 | 1 => some 2 | 2 => some 4 | 3 => some 5 | 4 => some 6 | 5 => some 7 | _ => none
def rateFaster : Nat → Nat
  | 1 => 0 | 2 => 1 | 4 => 2 | 5 => 3 | 6 => 4 | 7 => 5 | c => c

/-! ### Placement (R109, R111) -/

/-- What the check needs of a slot: period and phase in µs, sections. -/
structure Placed where
  per : Nat
  ph : Nat
  scnt : Nat

/-- One sample in the schedule: the time the engine is busy until and the worst slack so far in 0.1 %. `over` and
`sec` are the times of the overhead and of a section in ns. -/
def placeSample (extra sec : Rat) (t : Nat) (p : Placed) (a : Rat × Rat) : Rat × Rat :=
  if t % p.per = p.ph then
    let start := if a.1 < (1000 * t : Nat) then ((1000 * t : Nat) : Rat) else a.1
    let busy := start + extra + sec * p.scnt
    let slack := ((((t + p.per) * 1000 : Nat) : Rat) - busy) / p.per
    (busy, if slack < a.2 then slack else a.2)
  else a

/-- The worst slack of a placement over two 80 µs patterns, in 0.1 % of the period. -/
def worstSlack (extra sec : Rat) (l : List Placed) : Rat :=
  (each (List.range 160) (fun t a => each l (fun p a => placeSample extra sec t p a) a) ((0, 1000) : Rat × Rat)).2

/-- The placement of an engine's used slots, at the rates of `rate`. -/
def State.placed (s : State) (e : Nat) (rate : Nat → Nat) : List Placed :=
  ((engineSlots e).filter s.slotUsed).map fun k =>
    { per := ratePeriod (rate k), ph := s.fld (.LPS_CFG k) Fld.LPS_CFG_PHASE, scnt := s.fld (.LPS_CFG k) Fld.LPS_CFG_SCNT }

/-- CFG.RATE and PRATE of a slot. -/
def State.cfgRate (s : State) (k : Nat) : Nat := s.fld (.LPS_CFG k) Fld.LPS_CFG_RATE
def State.prate (s : State) (k : Nat) : Nat := s.fld (.LPS_STAT k) Fld.LPS_STAT_PRATE

/-- The worst slack at the slow corner (SLACKREF), a whole number of 0.1 % as the check's divisions leave it. -/
def State.slackRef (s : State) (e : Nat) : Int := let q := worstSlack 50 90 (s.placed e s.cfgRate); q.num.tdiv q.den

/-- The worst slack at a RATE and at the rates of `rate` (R111). -/
def State.slackAt (s : State) (e r : Nat) (rate : Nat → Nat) : Rat :=
  worstSlack (50 * 256 / (r : Rat)) (90 * 256 / (r : Rat)) (s.placed e rate)

/-- The rules of R101 on one slot's CFG: SCNT at most 8, sections inside the store, PHASE below the period. -/
def cfgFields (w : Word) : Bool :=
  decide (getF w Fld.LPS_CFG_SCNT ≤ 8) && decide (getF w Fld.LPS_CFG_SBASE + getF w Fld.LPS_CFG_SCNT ≤ 12) &&
  decide (getF w Fld.LPS_CFG_PHASE < ratePeriod (getF w Fld.LPS_CFG_RATE))

/-- No section of an engine's store is covered by two used slots (R101). -/
def State.sectionsApart (s : State) (e : Nat) : Bool :=
  let l := ((engineSlots e).filter s.slotUsed).flatMap s.slotSections
  decide l.Nodup

/-- No two used slots name one destination (R103). [DEDUCED, log 45] -/
def State.destsApart (s : State) : Bool :=
  decide (((allSlots.filter s.slotUsed).map s.slotDest).filter (fun d => d.1 != 0)).Nodup

/-- The engine's placement is accepted (R101, R109). -/
def State.placeOk (s : State) (e : Nat) : Bool := s.sectionsApart e && decide (100 ≤ s.slackRef e)

/-- No trigger tick of the 80 µs pattern calls for more than three channels of one converter (R164). -/
def State.tapsFit (s : State) (x : Nat) : Bool :=
  (List.range 80).all fun t =>
    decide (((allSlots.filter fun k => s.slotUsed k && s.fld (.LPS_IN k) Fld.LPS_IN_CONV == x &&
      t % ratePeriod (s.cfgRate k) == s.fld (.LPS_CFG k) Fld.LPS_CFG_PHASE).map
        fun k => s.fld (.LPS_IN k) Fld.LPS_IN_CH).eraseDups.length ≤ 3)
def State.tapsOk (s : State) : Bool := (List.range 3).all s.tapsFit

/-! ### Tap conversions (R163) -/

/-- The CLOSED slots that read a channel of a converter; its shortest period among them. -/
def State.tapSlots (s : State) (x : Nat) : List Nat :=
  allSlots.filter fun k => s.slotSt k == 2 && s.fld (.LPS_IN k) Fld.LPS_IN_CONV == x
def State.tapPeriod (s : State) (x ch : Nat) : Nat :=
  ((s.tapSlots x).filter fun k => s.fld (.LPS_IN k) Fld.LPS_IN_CH == ch).foldl (fun p k => min p (ratePeriod (s.prate k))) 80

/-- A slot is triggered at tick `t` of the 1 µs grid (R107). -/
def State.dueAt (s : State) (k t : Nat) : Bool := t % ratePeriod (s.prate k) == s.fld (.LPS_CFG k) Fld.LPS_CFG_PHASE

/-- Insert a channel by its period, then its number. -/
def insertChan (p : Nat → Nat) (c : Nat) : List Nat → List Nat
  | [] => [c]
  | d :: t => if p c < p d ∨ (p c = p d ∧ c < d) then c :: d :: t else d :: insertChan p c t

/-- The distinct channels of a converter due at tick `t`, the one that is sampled last first. -/
def State.tapOrder (s : State) (x t : Nat) : List Nat :=
  ((((s.tapSlots x).filter fun k => s.dueAt k t).map fun k => s.fld (.LPS_IN k) Fld.LPS_IN_CH).eraseDups).foldl
    (fun l c => insertChan (s.tapPeriod x) c l) []

/-- Ticks of 4 ns between the tap conversion of a channel and the trigger at tick `t`: 300, 400 or 500 ns. -/
def State.tapLead (s : State) (x ch t : Nat) : Option Nat := ((s.tapOrder x t).idxOf? ch).map fun i => 75 + 25 * i

/-- A slot's trigger is due now on the 1 µs grid, and its channel has been converted for it, no more than 500 ns ago (R102,
R107, R163). [DEDUCED, log 175] -/
def State.tapReady (s : State) (k : Nat) : Bool :=
  let now := s.clock.localTicks.toNat
  let x := s.fld (.LPS_IN k) Fld.LPS_IN_CONV
  now % 250 == 0 && s.dueAt k (now / 250) &&
    (x == 3 || match (s.sv.convs.get x {}).tapped.lookup (s.fld (.LPS_IN k) Fld.LPS_IN_CH) with
      | some t => decide (t + 75 ≤ now) && decide (now ≤ t + 125)
      | none => false)

/-! ### Feedback and reference (R102, R200) -/

/-- A value of the spec's open choices as a fraction of 2^32. [DESIGN CHOICE, log 5] -/
def State.drawRat (s : State) : Rat × State := let p := s.draw; ((p.1.toNat : Rat) / 4294967296, p.2)

/-- What a converter channel measures (Table 06.2): a voltage with its unit in µV, a current with its unit in µA, or
something else. -/
inductive Chan where
  | volts (unit : Rat)
  | amps (unit : Rat)
  | other

/-- Shunts in units of 10 µΩ; 0 acts as 1. -/
def State.rbat (s : State) : Nat := max 1 (s.fld .BKP_SHUNT Fld.BKP_SHUNT_RBAT)
def State.rchg (s : State) : Nat := max 1 (s.fld .BKP_SHUNT Fld.BKP_SHUNT_RCHG)

/-- A shunt's code of 2 µV as a current in mA. -/
def shuntMa (code : Int) (r : Nat) : Int := roundOpen ((code : Rat) * 200 / (r : Rat))

/-- BKP_MEAS.IBAT follows the battery shunt, held at the field's range. [DEDUCED, log 184] -/
def State.showIbat (s : State) (code : Int) : State :=
  s.put .BKP_MEAS Fld.BKP_MEAS_IBAT (ofSigned 16 (clampI (-32768) 32767 (shuntMa code s.rbat)))

/-- Channel `ch` of converter `x` in units of Table 06.2. A shunt's 2 µV step over its resistance is its current. -/
def State.chan (s : State) (x ch : Nat) : Chan :=
  match x with
  | 0 =>
    if ch < 20 then .volts (100 * s.divider ch) else if ch = 20 ∨ ch = 21 then .volts 2000
    else if ch = 22 ∨ ch = 29 then .volts 1000 else if ch = 23 then .volts 250
    else if ch < 29 then .volts 100 else if ch = 30 then .volts 50 else .volts 2
  | 1 => if (16 ≤ ch ∧ ch < 24) ∨ ch = 25 then .other else if ch = 31 then .volts 2 else .volts 50
  | 2 =>
    if ch = 0 then .amps (200000 / (s.rbat : Rat)) else if ch = 1 then .amps (200000 / (s.rchg : Rat))
    else if ch = 2 ∨ (7 ≤ ch ∧ ch < 30) then .other else if ch = 31 then .volts 2 else .volts 50
  | _ => .other

/-- Converter and channel of a slot's tap. -/
def State.slotTap (s : State) (k : Nat) : Nat × Nat :=
  (s.fld (.LPS_IN k) Fld.LPS_IN_CONV, s.fld (.LPS_IN k) Fld.LPS_IN_CH)

/-- The sum of IAVG over a rail's stages in rotation, in A. -/
def State.iout (s : State) (n : Nat) : Rat := ((sumI ((s.inRotation n).map s.iavg) : Int) : Rat) / 500

/-- VCELL of a chemistry, limited to its range (R196, Table 07.5). -/
def cellRange (chem : Nat) : Nat × Nat := if chem = 0 then (4000, 4350) else (3200, 3650)
def vcellOf (chem v : Nat) : Nat := min (cellRange chem).2 (max (cellRange chem).1 v)

/-- The charger's CV target in mV (R196), and its state. -/
def State.cvTarget (s : State) : Nat :=
  s.fld .BKP_BATCFG Fld.BKP_BATCFG_NCELL * vcellOf (s.fld .BKP_BATCFG Fld.BKP_BATCFG_CHEM) (s.fld .BKP_CHG Fld.BKP_CHG_VCELL)
def State.chgSt (s : State) : Nat := s.fld .BKP_STATUS Fld.BKP_STATUS_CHGSTATE

/-- The charger is in PRE, CC or CV. [DEDUCED, log 76] -/
def State.charging (s : State) : Bool := s.chgSt == 2 || s.chgSt == 3 || s.chgSt == 4

/-- The output a used slot holds at a destination; 0 where none names it. -/
def State.destOut (s : State) (d : Nat × Nat) : Rat := if allSlots.any fun j => s.slotUsed j && s.slotDest j == d then s.lp.dests.get d 0 else 0

/-- The charger's current target in units of 10 mA: IPRE in PRE, ICHG otherwise (Table 07.8). -/
def State.chgTarget (s : State) : Nat :=
  if s.chgSt = 2 then max 1 (s.fld .BKP_CHGLIM Fld.BKP_CHGLIM_IPRE) else s.fld .BKP_CHG Fld.BKP_CHG_ICHG

/-- REF of a slot in FB codes, before the offset of other slots, where the rules give one (R102, Table 07.8): a rail
slot's setpoint in µV less its load line, or the charger's present target. -/
def State.slotRef (s : State) (k : Nat) : Option Rat :=
  if s.fld (.LPS_IN k) Fld.LPS_IN_REFSRC = 1 then some (s.fld (.LPS_REF k) Fld.LPS_REF_REFK : Rat)
  else
    let c := s.chan (s.slotTap k).1 (s.slotTap k).2
    match s.slotKind k, c with
    | 3, .amps u =>
      some (((10000 * s.chgTarget : Nat) : Rat) / u)
    | 4, .volts u => some (((1000 * s.cvTarget : Nat) : Rat) / u)
    | 5, .volts u => some (((100000 * s.fld .BKP_VINREG Fld.BKP_VINREG_VINREG : Nat) : Rat) / u)
    | 3, _ | 4, _ | 5, _ => none
    | _, .volts u =>
      let n := s.fld (.LPS_IN k) Fld.LPS_IN_RAIL
      if n < 20 then
        some ((((1000 * s.fld (.RAIL_STATUS n) Fld.RAIL_STATUS_SETP : Nat) : Rat) -
          (s.fld (.LPS_REF k) Fld.LPS_REF_LLR : Rat) * s.iout n) / u)
      else none
    | _, _ => none

/-- FB of a slot, a free value when its tap names no converter. [DESIGN CHOICE, log 43, 55] -/
def State.feedback (s : State) (k : Nat) : Rat × State :=
  let t := s.slotTap k
  if t.1 = 3 then let p := s.draw; ((((p.1.toNat % 65536 : Nat)) : Rat), p.2) else (((s.tap t.1 t.2 : Int) : Rat), s)

/-- A value crossing agrees on a value; whether it took a second attempt is open (R426). [DESIGN CHOICE, log 61; DEDUCED, log
149] -/
def State.agree (s : State) (g : Nat) (w : Word) : State :=
  let d := s.draw
  let s1 : State := { d.2 with xg := { d.2.xg with agreed := d.2.xg.agreed.set g w } }
  if wbit d.1 0 then s1.addSat .XNG_STAT Fld.XNG_STAT_RETRY 1 else s1

/-- REF of a slot with the offset written by the slots whose destination it is; a free value where the rules give no
reference. [DESIGN CHOICE, log 43, 55] -/
def State.reference (s : State) (k : Nat) : Rat × State :=
  let off := s.destOut (2, k)
  match s.slotRef k with
  | some r => (r + off, s)
  | none => let p := s.draw; (((p.1.toInt : Int) : Rat) / 65536 + off, p.2)

/-! ### Arithmetic (R105) -/

/-- A quotient rounded to nearest, ties away from zero. -/
def roundHalfAway (n d : Int) : Int := if 0 ≤ n then (2 * n + d) / (2 * d) else -((-2 * n + d) / (2 * d))

/-- A product of two numbers of 28 fraction bits, rounded to 28 fraction bits. [DESIGN CHOICE, log 43] -/
def mul28 (a b : Int) : Int := roundHalfAway (a * b) (2 ^ 28)

/-- Saturation to `n` bits, and whether it acted. -/
def sat (n : Nat) (v : Int) : Int := clampI (-(2 ^ (n - 1))) (2 ^ (n - 1) - 1) v

/-- The coefficient `c` of section `j` of engine `e`: 0 to 4 stand for b0, b1, b2, a1, a2. -/
def State.coef (s : State) (e j c : Nat) : Int := (s.rd (.COF e j c)).toInt

/-- One section: its output, its new states and whether something saturated. [DESIGN CHOICE, log 43] -/
def State.runSection (s : State) (e j : Nat) (u : Int) : Int × Section × Bool :=
  let st := s.lp.sections.get (e, j) {}
  let a0 := mul28 (s.coef e j 0) u + st.s1
  let y := sat 40 (sat 48 a0)
  let a1 := mul28 (s.coef e j 1) u - mul28 (s.coef e j 3) y
  let a2 := sat 48 a1 + st.s2
  let a3 := mul28 (s.coef e j 2) u - mul28 (s.coef e j 4) y
  let n1 := sat 40 (sat 48 a2)
  let n2 := sat 40 (sat 48 a3)
  (y, { s1 := n1, s2 := n2 }, y != a0 || sat 48 a1 != a1 || n1 != a2 || n2 != a3)

/-- The cascade of a slot: output, new states section by section, saturation. -/
def State.cascade (s : State) : List (Nat × Nat) → Int → Int × List ((Nat × Nat) × Section) × Bool
  | [], u => (u, [], false)
  | (e, j) :: t, u =>
    let r := s.runSection e j u
    let q := s.cascade t r.1
    (q.1, ((e, j), r.2.1) :: q.2.1, r.2.2 || q.2.2)

/-- The output limits of a slot, as codes of 28 fraction bits: OMIN above OMAX acts as OMAX. -/
def State.outLimits (s : State) (k : Nat) : Int × Int :=
  let w := (s.loopX k).act.olim
  let hi := toSigned 16 (getF w Fld.LPS_OLIM_OMAX)
  let lo := toSigned 16 (getF w Fld.LPS_OLIM_OMIN)
  ((if hi < lo then hi else lo) * 65536, hi * 65536)

/-- An output code in units of its destination (Table 04.1): µV, FB codes or mA. -/
def State.destValue (s : State) (k : Nat) (o : Int) : Rat :=
  let sc : Rat := (s.fld (.LPS_OUT k) Fld.LPS_OUT_OSCALE : Rat)
  let u := match s.fld (.LPS_OUT k) Fld.LPS_OUT_DEST with
    | 1 | 4 => sc * 10
    | 2 => sc / 256
    | _ => sc
  (o : Rat) / 268435456 * u

/-! ### Computing and watching (R122, R123, R200) -/

/-- A CLOSED slot computes at its triggers: its rail is neither OFF nor LATCHED, or the charger is in PRE, CC or CV. -/
def State.computes (s : State) (k : Nat) : Bool :=
  match s.slotKind k with
  | 1 | 2 =>
    let n := s.fld (.LPS_IN k) Fld.LPS_IN_RAIL
    !(n < 20 && (s.railSt n == rOff || s.railSt n == rLatched))
  | 3 | 4 | 5 => s.charging
  | _ => false

/-- States and destination of a slot at zero. -/
def State.zeroSlot (s : State) (k : Nat) : State :=
  let s1 := (s.clearSections k).putDest (s.slotDest k) 0
  s1.putLoopX k { s1.loopX k with out := 0, sample := none, exceeded := false }

/-- A change of the charger's state (R200): each counts as a ramp, and outside PRE, CC and CV its slots rest at
zero. -/
def State.chargerLoops (s : State) : State :=
  each (allSlots.filter fun k => s.slotSt k == 2 && chargerKind (s.slotKind k)) (fun k s =>
    let s1 := s.putLoopX k { s.loopX k with settling := true }
    if s1.charging then s1 else s1.zeroSlot k) s
where
  chargerKind (k : Nat) : Bool := k == 3 || k == 4 || k == 5

/-- A condition of R123 other than the settle time holds: a ramp of rail IN.RAIL, a stage of the plant on the move, a new
PRATE, FWF, no model. -/
def State.unsettled (s : State) (k : Nat) : Bool :=
  let n := s.fld (.LPS_IN k) Fld.LPS_IN_RAIL
  let plant := s.slotKind k == 1 || s.slotKind k == 2
  (n < 20 && s.tt.ramps.any (·.1 == n)) ||
  (plant && n < 20 && (s.gang n).any fun m => s.stgSt m == gTest || s.stgSt m == gBoot || s.stgSt m == gJoin || s.stgSt m == gLeave ||
      (s.stgX m).settling) ||
  (match (s.loopX k).rateAt with
   | some t => decide ((s.clock.localTicks - t).toNat < 250000)
   | none => false) ||
  (s.loopX k).act.fwf || s.fld (.LPS_MODEL k) Fld.LPS_MODEL_CAP == 0 || s.fld (.LPS_MODEL k) Fld.LPS_MODEL_IND == 0

/-- The slot is under model watch: CTL.WATCH. [DESIGN CHOICE, log 46] -/
def State.modelWatch (s : State) (k : Nat) : Bool :=
  s.slotSt k == 2 && !s.unsettled k && !(s.loopX k).settling

end Sys2Proof.Machine
end

