-- ==== Sys2Proof/Machine/Gauge.lean ====
section
/-!
DEFINITION. The gauge (chapter 8): the count, its anchors, capacity, the displayed value and its records.
-/

namespace Sys2Proof.Machine

open Host (Outcome)

/-! ### Fields and derived values -/

/-- Codes of GAU_STATUS.STATE. -/
def State.gauSt (s : State) : Nat := s.fld .GAU_STATUS Fld.GAU_STATUS_STATE

/-- A pack is fitted and not absent. -/
def State.packThere (s : State) : Bool := s.fld .BKP_BATCFG Fld.BKP_BATCFG_NCELL != 0 && !s.bit .BKP_STATUS 8

/-- VSHUT in mV (R210). -/
def State.vshut (s : State) : Nat := s.fld .BKP_BATCFG Fld.BKP_BATCFG_NCELL * s.fld .BKP_BATCFG Fld.BKP_BATCFG_VCUT

/-- The usable charge in µC, computed anew (R212). -/
def State.usable (s : State) : Rat :=
  let design : Rat := (s.fld .GAU_DESIGN Fld.GAU_DESIGN_DESIGN : Rat) * 3600000
  let f : Rat := 1 - (s.fld .GAU_DESIGN Fld.GAU_DESIGN_FADE : Rat) * ((s.rd .GAU_CYCLES).toNat : Rat) / 10000000
  let resv : Rat := (min 250 (s.fld .GAU_CFG Fld.GAU_CFG_RESV) : Rat) / 1000
  design * (if f < 1 / 2 then 1 / 2 else f) * (1 - resv)

/-- QUSE in µC as it was last computed; 0 after a reset of its register. [DEDUCED, log 78] -/
def State.quse (s : State) : Rat := if s.rd .GAU_QUSE = 0#32 then 0 else s.ga.quse

/-- Round to nearest, ties away from zero. -/
def roundNear (q : Rat) : Int := roundHalfAway q.num q.den

/-- A 64-bit signed value held at its range (R207). -/
def sat64 (i : Int) : Int := clampI (-(2 ^ 63)) (2 ^ 63 - 1) i

/-- Store ACC and show it. -/
def State.putAcc (s : State) (a : Int) : State :=
  let w := ofSigned 64 a
  let s1 := ({ s with ga := { s.ga with acc := a } } : State).wr .GAU_ACC_LO (BitVec.ofNat 32 w)
  s1.wr .GAU_ACC_HI (BitVec.ofNat 32 (w / 2 ^ 32))

/-- ERR as 0.01 % of QUSE, at most 10000 (GAU_SOC.ERR). -/
def State.errShown (s : State) (quse : Rat) : Nat :=
  if quse = 0 then 10000 else min 10000 (roundOpen (s.ga.err * 10000 / quse)).toNat

/-- Bring GAU_SOC up to date (R214, R218): while VALID is 0, SOC holds and ERR reads 10000. -/
def State.gauShow (s : State) : State :=
  if s.gauSt = 2 ∧ s.fld .GAU_DESIGN Fld.GAU_DESIGN_DESIGN ≠ 0 then
    let s1 := (s.put .GAU_SOC Fld.GAU_SOC_VALID 1).put .GAU_SOC Fld.GAU_SOC_ERR (s.errShown s.quse)
    s1.put .GAU_SOC Fld.GAU_SOC_SOC (s.ga.display * 10000).floor.toNat
  else (s.put .GAU_SOC Fld.GAU_SOC_VALID 0).put .GAU_SOC Fld.GAU_SOC_ERR 10000

/-- QUSE is recomputed; ACC stays and the display detaches (R212, R214). [DEDUCED, log 78] -/
def State.recomputeQuse (s : State) : State :=
  let q := BitVec.ofInt 32 (roundNear (s.usable / 1000))
  let s1 := ({ s with ga := { s.ga with quse := s.usable } } : State).wr .GAU_QUSE q
  (if s.usable = s.quse then s1 else s1.put .GAU_STATUS Fld.GAU_STATUS_DETACHED 1).gauShow

/-! ### Records (R220) -/

/-- The SEQ the next record handed to the log will carry. -/
def State.nextLogSeq (s : State) : Nat :=
  (s.rd (.LDG_R_SEQ 2)).toNat + 1 + s.ld.logBuf.length + ((s.ld.lanes.get 2 []).filter fun j => match j.kind with | .log _ _ _ => true | _ => false).length

/-- The gauge's two records: state with its reason, then GAU_AGE. [DEDUCED, log 80] -/
def State.gaugeRecord (s : State) (reason : Nat) : State :=
  let q := s.nextLogSeq
  let w := BitVec.ofNat 32 (reason + 512 * b2n (s.bit .GAU_STATUS 4) + 256 * b2n (s.bit .GAU_STATUS 5))
  let s1 := s.logRec 0x05 3 s.now [s.rd .GAU_ACC_LO, s.rd .GAU_ACC_HI, BitVec.ofInt 32 (roundOpen (s.ga.err / 1000)), s.rd .GAU_CYCLES, s.rd .GAU_THRU, w]
  s1.logRec 0x06 2 s1.now [s.rd .GAU_AGE, BitVec.ofNat 32 q]

/-! ### Anchors (R209 to R211) -/

/-- What both anchors share: ERR 0, the age and its signs cleared, COUNTING, the display detached, a record. -/
def State.anchor (s : State) (acc : Int) (bit flag : Nat) : State :=
  let s1 := s.putAcc acc
  let s2 : State := { s1 with ga := { s1.ga with frac := 0, err := 0, emptied := decide (flag = 1) } }
  let s3 := ((s2.wr .GAU_AGE 0#32).putBit .GAU_STATUS 6 false).putBit .GAU_STATUS 7 false
  let s4 := if s3.gauSt = 1 then s3.put .GAU_STATUS Fld.GAU_STATUS_STATE 2 else s3
  let s5 := (s4.putBit .GAU_STATUS bit true).put .GAU_STATUS Fld.GAU_STATUS_DETACHED 1
  ((s5.setFlag .GAU_FLAG flag).gauShow).gaugeRecord 1

/-- The full anchor: ACC becomes QUSE (R209). -/
def State.fullAnchor (s : State) : State := s.anchor (roundOpen s.quse) 4 0

/-- The empty anchor: ACC becomes 0 (R210). -/
def State.emptyAnchor (s : State) : State := s.anchor 0 5 1

/-- BAT_ABSENT: the count freezes, both anchors are invalid (R217, R220). -/
def State.gauFreeze (s : State) : State :=
  let s1 := (s.put .GAU_STATUS Fld.GAU_STATUS_STATE 3).putBit .GAU_STATUS 4 false
  (((s1.putBit .GAU_STATUS 5 false).setFlag .GAU_FLAG 6).gauShow).gaugeRecord 3

/-- The gauge takes a state; without a pack it is OFF (R218). -/
def State.setGau (s : State) (st : Nat) : State :=
  (s.put .GAU_STATUS Fld.GAU_STATUS_STATE (if s.fld .BKP_BATCFG Fld.BKP_BATCFG_NCELL = 0 then 0 else st)).gauShow

/-- The gauge's state follows the pack: OFF without one; when one is declared, the state that the ship store has kept, or
NOANCHOR (R217, R218, R435). [DEDUCED, log 182] -/
def State.gauPack (s : State) : State :=
  if s.fld .BKP_BATCFG Fld.BKP_BATCFG_NCELL = 0 then s.setGau 0
  else if s.gauSt = 0 then
    ({ s with ga := { s.ga with kept := none } } : State).setGau (if s.bit .BKP_STATUS 8 then 3 else s.ga.kept.getD 1)
  else s

/-- BAT_PRESENT: counting resumes in NOANCHOR (R217). -/
def State.gauResume (s : State) : State := s.setGau 1

/-! ### One tick (R206 to R216) -/

/-- Mean of BAT over the last 4000 ticks, or over those there have been. [DEDUCED, log 79] -/
def State.vmean (s : State) : Rat :=
  if s.ga.vbuf = [] then 0 else ((s.ga.vbuf.foldl (· + ·) 0 : Nat) : Rat) / (s.ga.vbuf.length : Rat)

/-- CYCLES and THRU after `d` µC of discharge (R212). -/
def State.discharge (s : State) (d : Nat) : State :=
  let full := s.fld .GAU_DESIGN Fld.GAU_DESIGN_DESIGN * 3600000
  let t := s.ga.thru + d
  let wraps := full ≠ 0 ∧ full ≤ t
  let t' := if wraps then t - full else t
  let s1 := ({ s with ga := { s.ga with thru := t' } } : State).wr .GAU_THRU (BitVec.ofNat 32 (min (2 ^ 32 - 1) (t' / 1000)))
  if wraps then
    ((s1.wr .GAU_CYCLES (BitVec.ofNat 32 (min (2 ^ 32 - 1) ((s1.rd .GAU_CYCLES).toNat + 1)))).recomputeQuse).gaugeRecord 2
  else s1

/-- The tick's charge reaches ACC, ERR, THRU and CYCLES (R207, R208, R219). [DEDUCED, log 78] -/
def State.countTick (s : State) (code : Int) : State :=
  let t : Rat := s.ga.frac + (code : Rat) * 50 / (s.rbat : Rat)
  let n := roundOpen t
  let a := sat64 (s.ga.acc + n)
  let change := a - s.ga.acc
  let ofs : Rat := (s.fld .GAU_DRIFT Fld.GAU_DRIFT_OFS : Rat) * 10
  let gain : Rat := (s.fld .GAU_DRIFT Fld.GAU_DRIFT_GAIN : Rat) / 10000
  let cur := absR' ((code : Rat) * 200000 / (s.rbat : Rat))
  let gap : Rat := match s.ga.away with | some k => ((s.clock.keeper - k : Nat) : Rat) * 4 / 1000000000 | none => 0
  let err := s.ga.err + (ofs + gain * cur) / 4000 + ofs * gap
  let s1 := s.putAcc a
  let s2 : State := { s1 with ga := { s1.ga with frac := t - n, err := err, away := none, emptied := s1.ga.emptied && decide (a ≤ 0) } }
  if change < 0 then s2.discharge change.natAbs else s2
where
  absR' (q : Rat) : Rat := if q < 0 then -q else q

/-- COUNT_EARLY (R215). [DEDUCED, log 79] -/
def State.countEarly (s : State) : State :=
  if s.ga.acc ≤ 0 then
    if s.ga.emptied || s.bit .GAU_STATUS 7 then s else (s.putBit .GAU_STATUS 7 true).setFlag .GAU_FLAG 3
  else s.putBit .GAU_STATUS 7 false

/-- Enter and leave the approach band (R216). [DEDUCED, log 79] -/
def State.bandTick (s : State) (vm : Rat) : State :=
  let vs : Rat := (s.vshut : Rat)
  if s.bit .GAU_STATUS 8 then
    if vs + 150 < vm || s.charging then (s.putBit .GAU_STATUS 8 false).putBit .GAU_STATUS 10 false else s
  else if vm < vs + 100 && !s.charging then
    let s1 : State := { s with ga := { s.ga with d0 := s.ga.display, v0 := vm } }
    ((s1.putBit .GAU_STATUS 8 true).putBit .GAU_STATUS 9 true).setFlag .GAU_FLAG 2
  else s

/-- A value held between two bounds. -/
def clampR (lo hi v : Rat) : Rat := if v < lo then lo else if hi < v then hi else v

/-- The steer value of the band; with v0 at VSHUT its quotient has no value and a free one stands for it. [DESIGN CHOICE, log
56] -/
def State.steer (s : State) (vm : Rat) : Rat × State :=
  let vs : Rat := (s.vshut : Rat)
  if s.ga.v0 = vs then let p := s.drawRat; (clampR 0 s.ga.d0 (p.1 * s.ga.d0), p.2)
  else (clampR 0 s.ga.d0 (s.ga.d0 * (vm - vs) / (s.ga.v0 - vs)), s)

/-- The displayed value (R214), with STEERLAG of R216; `prev` is VMEAN of the tick before. -/
def State.displayTick (s0 : State) (vm prev : Rat) : State :=
  let quse := s0.quse
  if quse = 0 ∨ s0.gauSt ≠ 2 then s0
  else
    let counted := clampR 0 1 ((s0.ga.acc : Rat) / quse)
    let band := s0.bit .GAU_STATUS 8
    let st := if band then s0.steer vm else (counted, s0)
    let s := st.2
    let target := if band then (if st.1 < counted then st.1 else counted) else counted
    let slew : Rat := (max 1 (s.fld .GAU_CFG Fld.GAU_CFG_SLEW) : Rat) / 1000 / 60 / 4000
    let det := s.bit .GAU_STATUS 9
    let d := if det then s.ga.display + clampR (-slew) slew (target - s.ga.display) else target
    let s1 := ({ s with ga := { s.ga with display := d } } : State).putBit .GAU_STATUS 9 (det && !(decide (d = counted) && !band))
    if band && decide (vm ≤ (s.vshut : Rat)) && decide ((s.vshut : Rat) < prev) && decide (st.1 < d) then s1.putBit .GAU_STATUS 10 true
    else s1

/-- GAUGE_TICK (R179, R206 to R216). [DESIGN CHOICE, log 4] -/
def execGaugeTick (g : GaugeSample) (s : State) : Outcome State Fault Refusal :=
  .next (if s.powered .adc && s.powered .chg then
      let s0 : State := { s with sv := { s.sv with gaugeAt := some s.clock.localTicks.toNat } }
      let s1 := (((s0.wr (.SVY_CV_TAP 0 22) (BitVec.ofNat 32 (g.bat % 65536))).wr (.SVY_CV_TAP 1 24) (g.bth.zeroExtend 32)).wr
        (.SVY_CV_TAP 2 0) (BitVec.ofNat 32 (ofSigned 16 g.shunt))).showIbat g.shunt
      let prev := s1.vmean
      let s2 : State := { s1 with ga := { s1.ga with vbuf := (g.bat :: s1.ga.vbuf).take 4000 } }
      let vm := s2.vmean
      let p := s2.thermal (ntcTemp g.bth.toNat) 128 16
      let s3 := (p.2.put .GAU_MEAS Fld.GAU_MEAS_VMEAN (roundOpen vm).toNat).put .GAU_MEAS Fld.GAU_MEAS_TEMP (ofSigned 16 p.1)
      if s3.fld .BKP_BATCFG Fld.BKP_BATCFG_NCELL ≠ 0 ∧ (s3.gauSt = 1 ∨ s3.gauSt = 2) then ((((s3.countTick g.shunt).countEarly).bandTick vm).displayTick vm prev).gauShow
      else s3
    else s)

/-! ### The other rows -/

/-- GAU_STALE (R211): GAU_AGE has reached STALE days. -/
def execGauStale (s : State) : Outcome State Fault Refusal :=
  .next (if max 1 (s.fld .GAU_CFG Fld.GAU_CFG_STALE) * 86400 ≤ (s.rd .GAU_AGE).toNat ∧ s.bit .GAU_STATUS 6 = false then
      (s.putBit .GAU_STATUS 6 true).setFlag .GAU_FLAG 4
    else s)

/-- GAUGE_HOURLY_RECORD (R220). [DEDUCED, log 80] -/
def execGaugeHourlyRecord (s : State) : Outcome State Fault Refusal :=
  .next (if s.gauSt = 1 ∨ s.gauSt = 2 then s.gaugeRecord 5 else s)

/-- A write of GAU_CYCLES (R213). [DEDUCED, log 79] -/
def State.wrCycles (s : State) (w : Word) : State := if s.gauSt = 1 then s.wr .GAU_CYCLES w else s.setFlag .GAU_FLAG 5

/-- GAU_CYCLES_WRITE (R213). -/
def execGauCyclesWrite (_i : Iface) (v : Word) (be : BitVec 4) (s : State) : Outcome State Fault Refusal :=
  .next (s.guardWrite .GAU_CYCLES fun s => s.wrCycles (s.merged .GAU_CYCLES v be))

/-- A write of GAU_DESIGN or GAU_CFG (R212). -/
def State.wrGauCfg (s : State) (r : Reg) (w : Word) : State := (s.writeRw r w).recomputeQuse

/-- GAUGE_CONFIG_WRITE (R212): GAU_CFG or GAU_DESIGN. -/
def execGaugeConfigWrite (_i : Iface) (cfg : Bool) (v : Word) (be : BitVec 4) (s : State) : Outcome State Fault Refusal :=
  let r : Reg := if cfg then .GAU_CFG else .GAU_DESIGN
  .next (s.guardWrite r fun s => s.wrGauCfg r (s.merged r v be))

/-- A write of GAU_CTL (R221). -/
def State.wrGauCtl (s : State) (w : Word) : State :=
  if wbit w 31 && getF w Fld.GAU_CTL_KEY == 0xA5 then
    let s1 := ((s.wr .GAU_CYCLES 0#32).wr .GAU_THRU 0#32).putBit .GAU_STATUS 4 false
    let s2 : State := { s1 with ga := { s1.ga with thru := 0 } }
    let s3 := s2.putBit .GAU_STATUS 5 false
    let s4 := if s3.packThere then s3.put .GAU_STATUS Fld.GAU_STATUS_STATE 1 else s3
    (s4.setFlag .GAU_FLAG 6).gauShow
  else s

/-- NEWPACK (R221). -/
def execNewpack (_i : Iface) (v : Word) (be : BitVec 4) (s : State) : Outcome State Fault Refusal :=
  .next (s.guardSent .GAU_CTL be fun s => s.wrGauCtl (v &&& byteMask be))

/-- A read of GAU_ACC_LO copies ACC for the reading interface (R222). -/
def State.rdAccLo (s : State) (i : Iface) : Word × State :=
  let b := s.cm.banks.get i {}
  (s.rd .GAU_ACC_LO, { s with cm := { s.cm with banks := s.cm.banks.set i { b with accHi := s.rd .GAU_ACC_HI } } })

end Sys2Proof.Machine
end

