-- ==== Sys2Proof/Machine/PolicyOps.lean ====
section
/-!
DEFINITION. What the policy layer shares with other chapters: suspension (R226), parking (R93), the return of the
feed-forward at a hand-over (R231) and the start of a ride-through episode (R232).
-/

namespace Sys2Proof.Machine

/-- TMAX of a rail in 0.125 °C units. -/
def State.tmax (s : State) (n : Nat) : Int := 8 * toSigned 8 (s.fld (.POL_R_DER n) Fld.POL_R_DER_TMAX)

/-- A rail under a reload whose loops are open, or under a re-gang (R226). -/
def State.polBlocked (s : State) (n : Nat) : Bool :=
  (match s.tp.reload with | some r => r.opened && decide (s.railDom n = some r.dom) | none => false) ||
  (match s.sw.regang with | some g => g.source == n || g.target == n | none => false) ||
  (match s.runningSlot 0 with
   | some k => (s.slot k).op == 0x10 && ((s.slot k).regRail == n || s.stgRail (s.slot k).regStage == n)
   | none => false)

/-- A rail on which policy takes no decision now: it is under a reload or a re-gang, or it is not ON (R226). -/
def State.polSuspended (s : State) (n : Nat) : Bool := s.polBlocked n || s.railSt n != rOn

/-- A park or unpark of the gang is in progress (R227). -/
def State.gangMoving (s : State) (n : Nat) : Bool :=
  (s.gang n).any fun m => s.stgSt m == gLeave || s.stgSt m == gTest || s.stgSt m == gBoot || s.stgSt m == gJoin

/-- A stage may be parked (R93). -/
def State.parkable (s : State) (m : Nat) : Bool :=
  s.fld (.STG_CFG m) Fld.STG_CFG_PARKOK == 1 && s.stgSt m == gRun && ((s.gang (s.stgRail m)).any fun x => x != m && s.stgSt x == gRun)

/-- A stage is held parked until it has cooled, or is free of that (R230). -/
def State.setHot (s : State) (m : Nat) (b : Bool) : State :=
  let l := s.po.hot.filter (· != m)
  { s with po := { s.po with hot := if b then m :: l else l } }

/-- The temperature of a parked stage moves: above TMAX it is held, below TMAX − 5 °C it is free (R230). -/
def State.hotMark (s : State) (m : Nat) : State :=
  if s.stgSt m != gParked then s
  else if s.tmax (s.stgRail m) < s.temp m then s.setHot m true
  else if s.temp m < s.tmax (s.stgRail m) - 40 then s.setHot m false
  else s

/-- Park a stage, with POL_PARK and its cause; one that derating parks is held until it has cooled. -/
def State.park (s0 : State) (m cause : Nat) : State :=
  let s := s0.setHot m (cause == 2)
  let s1 := (s.put (.STG_STATE m) Fld.STG_STATE_STATE gLeave).unsettle (s.stgRail m)
  (s1.putStgX m { s1.stgX m with parking := true, drained := false, shareUs := 0 }).message 93 (polInfo (s.stgRail m) m) cause

/-- Unpark a stage through its test, with POL_UNPARK and its cause. -/
def State.unpark (s : State) (m cause : Nat) : State :=
  (s.stageTest m).message 94 (polInfo (s.stgRail m) m) cause

/-- Switch the VIN sense of a rail between DIRECT and DAMPED, with POL_FFMODE. Which of the four causes of R237
it carries is not stated. [DESIGN CHOICE, log 57] -/
def State.ffMode (s : State) (n : Nat) (damp : Bool) : State :=
  if s.bit (.POL_R_STATE n) 8 == damp then s
  else
    let p := (s.putBit (.POL_R_STATE n) 8 damp).draw
    let s1 : State := { p.2 with po := { p.2.po with ffAbove := p.2.po.ffAbove.set n 0, ffBelow := p.2.po.ffBelow.set n 0 } }
    s1.message 98 (polInfo n 0xFF) (1 + p.1.toNat % 4)

/-- The path leaves SOURCE: every rail's sense returns to DIRECT, whatever the lock (R231). -/
def State.ffReturn (s : State) : State :=
  if s.powered .seq then each (List.range 16) (fun n s => s.ffMode n false) s else s

/-- A loss begins an episode when the path had been SOURCE for RESTDLY (R232, R235). [DESIGN CHOICE, log 81] -/
def State.rideBegin (s : State) (settled : Bool) : State :=
  if settled && s.policyWorks then
    let s1 : State := { s with po := { s.po with restoring := none, wait := none, rideOver := false } }
    (s1.putBit .POL_STATUS 0 true).putBit .POL_STATUS 1 false
  else s

end Sys2Proof.Machine
end

