-- ==== Sys2Proof/Machine/Timetable.lean ====
section
/-!
DEFINITION. Timetable, sequencing and supervision (chapter 05): requests to rails and groups, their timed and sensed
events, brown-out, supervisors and reset outputs, and the writes of the RAIL, TTB and SUP registers.
-/

namespace Sys2Proof.Machine

/-! ### Writes of RAIL, TTB and SUP registers -/

/-- A direct on request (R129): a grouped rail and an unreleased timetable refuse it. One that takes effect ends the
rail's shedding (R235). [DEDUCED, log 83] -/
def State.hostRailOn (s : State) (n : Nat) : State :=
  if !s.tp.released || (s.railGroup n).isSome then s.setFlag (.RAIL_FLAG n) 5
  else if s.railRefused n then s.railOn n else (s.unshed n).railOn n

/-- A host's on request to a group (R139); its rails no longer count as shed when it takes effect (R235). [DEDUCED, log 83] -/
def State.hostGroupOn (s : State) (g : Nat) : State :=
  if s.bit (.TTB_G_STATUS g) 5 || s.tt.bout.inForce || s.shipPend then s.groupOn g
  else (each (s.groupRails g) (fun n s => s.unshed n) s).groupOn g

/-- A direct off request (R129, R130). One to a grouped rail is refused in every state of the rail, OFF included, though R130
gives an off request to a rail that is OFF no flag. [DEDUCED, log 173] -/
def State.hostRailOff (s : State) (n : Nat) : State :=
  if (s.railGroup n).isSome then s.setFlag (.RAIL_FLAG n) 5 else s.railOff n

/-- A write of RAILnn_CTL: the modes, then the request. -/
def State.wrRailCtl (s : State) (n : Nat) (w : Word) : State :=
  let s1 := s.writeRw (.RAIL_CTL n) w
  match getF w Fld.RAIL_CTL_REQ with
  | 1 => s1.hostRailOn n
  | 2 => s1.hostRailOff n
  | _ => s1

/-- A write of RAILnn_VSET (R132); an LDO takes 600 to 5000 only. -/
def State.wrVset (s : State) (n : Nat) (w : Word) : State :=
  if 16 ≤ n ∧ ¬ inRange 600 5000 (getF w Fld.RAIL_VSET_VSET) = true then s
  else
    let s1 := s.writeRw (.RAIL_VSET n) w
    if s1.railSt n = rOn ∨ s1.railSt n = rRampUp then s1.rampToVset n else s1

/-- A write of a ramp time: 5 to 130 000, else ignored. -/
def State.wrRamp (s : State) (r : Reg) (w : Word) : State :=
  if inRange 5 130000 (getF w ⟨16, 0⟩) then s.writeRw r w else s

/-- A write of RAILnn_DIS: DISTO outside 1 to 2000 stays. -/
def State.wrDis (s : State) (n : Nat) (w : Word) : State :=
  let w' := if inRange 1 2000 (getF w Fld.RAIL_DIS_DISTO) then w
            else putF w Fld.RAIL_DIS_DISTO (s.fld (.RAIL_DIS n) Fld.RAIL_DIS_DISTO)
  s.writeRw (.RAIL_DIS n) w'

/-- A request to the group is held: a reload of its domain has been accepted and its loops have not closed (R66, R146). -/
def State.requestHeld (s : State) (g : Nat) : Bool :=
  match s.tp.reload with
  | some r =>
    (decide (s.groupDom g = some r.dom) && !(r.abort.isNone && inRange 7 8 s.tplPhase)) ||
      s.waitingLoads.any fun k => k != r.slot && s.groupDom g == some (s.slot k).loadDom
  | none => false

/-- Hold a request. -/
def State.holdRequest (s : State) (g : Nat) (on : Bool) : State :=
  let q : HeldReq := { dom := (s.groupDom g).getD 0, grp := g, on := on }
  ({ s with tp := { s.tp with held := s.tp.held ++ [q] } } : State).put (.TTB_G_STATUS g) Fld.TTB_G_STATUS_HELD 1

/-- A request to a group through TTB_Gg_CTL: an on request is refused before the timetable is released (R129), in a
brown-out (R148) and with ship mode requested (R191); what is left is held during a reload of its domain (R66, R146).
[DEDUCED, log 35] -/
def State.hostGroup (s : State) (g : Nat) (on : Bool) : State :=
  if on && (!s.tp.released || s.shipPend || s.tt.bout.inForce) then s.setFlag (.TTB_G_FLAG g) 2
  else if s.requestHeld g then s.holdRequest g on
  else if on then s.hostGroupOn g else s.groupOff g

/-- Drop the held requests of some domains (R70, R148, R191). -/
def State.dropRequests (s : State) (p : Nat → Bool) : State :=
  let s1 := each (s.tp.held.filter fun q => p q.dom) (fun q s => s.put (.TTB_G_STATUS q.grp) Fld.TTB_G_STATUS_HELD 0) s
  { s1 with tp := { s1.tp with held := s1.tp.held.filter fun q => !p q.dom } }

/-- A write of TTB_Gg_CTL. -/
def State.wrGroupCtl (s : State) (g : Nat) (w : Word) : State :=
  match getF w Fld.TTB_G_CTL_REQ with
  | 1 => s.hostGroup g true
  | 2 => s.hostGroup g false
  | _ => s

/-- The bits a step of an opcode may set (Table 05.4). -/
def stepBits : Nat → Option Word
  | 0 => some 0x00000000#32
  | 1 => some 0x001F8000#32
  | 2 => some 0x0000FFFF#32
  | 3 => some 0x00030000#32
  | 4 => some 0x000000FF#32
  | _ => none

/-- A step word is well encoded (R137). -/
def stepOk (w : Word) : Bool :=
  match stepBits (w.toNat / 2 ^ 28) with
  | some m => w &&& 0x0FFFFFFF#32 &&& ~~~ m == 0#32
  | none => false

/-- The reset outputs of a group's sequence. -/
def State.groupResets (s : State) (g : Nat) : List Nat :=
  ((List.range (s.seqLen g)).filter fun j => s.stepOp g j == 3).map fun j => getF (s.step g j) ⟨17, 16⟩

/-- A step of some sequence names a reset output. -/
def State.resetNamed (s : State) (x : Nat) : Bool := allGroups.any fun g => (s.groupResets g).contains x

/-- An output that no step names is releasable once a trackplan runs (R155). -/
def State.markUnnamed (s : State) : State :=
  each ((List.range 4).filter fun x => !s.resetNamed x) (fun x s => s.putBit .TTB_RSTSTAT (4 + x) true) s

/-- A list without a repeat. -/
def noRepeat : List Nat → Bool
  | [] => true
  | a :: t => !t.contains a && noRepeat t

/-- The rules of R138 over the sequences of every group. A rail that no domain owns counts as of the own domain of a group that
no domain owns. [DEDUCED, log 174] -/
def State.seqRules (s : State) : Bool :=
  noRepeat (allGroups.flatMap s.groupRails) && noRepeat (allGroups.flatMap s.groupResets) &&
  allGroups.all (fun g => (s.groupRails g).all fun n => n < 20 && decide (s.railDom n = s.groupDom g))

/-- A write of a step word (R137 to R139). -/
def State.wrStep (s : State) (g j : Nat) (w : Word) : State :=
  let s1 := s.wr (.TTB_STEP g j) w
  if s.groupSt g ≠ 0 ∨ stepOk w = false ∨ s1.seqRules = false then s.setFlag (.TTB_G_FLAG g) 3
  else if s1.tp.released then s1.markUnnamed else s1

/-- A write of TTB_RSTx_CFG: STRETCH outside 1 to 1000 stays. -/
def State.wrRstCfg (s : State) (x : Nat) (w : Word) : State :=
  let w' := if inRange 1 1000 (getF w Fld.TTB_RST_CFG_STRETCH) then w
            else putF w Fld.TTB_RST_CFG_STRETCH (s.fld (.TTB_RST_CFG x) Fld.TTB_RST_CFG_STRETCH)
  s.writeRw (.TTB_RST_CFG x) w'

/-- A write of TTB_BOUT (R157). -/
def State.wrBout (s : State) (w : Word) : State :=
  let voff := getF w Fld.TTB_BOUT_VOFF
  if 60 ≤ voff ∧ voff + 3 ≤ getF w Fld.TTB_BOUT_VON then s.writeRw .TTB_BOUT w else s

/-- A write of TTB_MINOFF: 10 to 10 000. -/
def State.wrMinoff (s : State) (w : Word) : State :=
  if inRange 10 10000 (getF w Fld.TTB_MINOFF_TIME) then s.writeRw .TTB_MINOFF w else s

/-- A write of TTB_FIRST: clearing VALID clears MORE (R156). -/
def State.wrFirst (s : State) (w : Word) : State :=
  if wbit w 31 then (s.putBit .TTB_FIRST 31 false).put .TTB_FIRST Fld.TTB_FIRST_MORE 0 else s

/-- A write of SUPnn_CFG: DIV 0b11 stores 0b00. -/
def State.wrSupCfg (s : State) (n : Nat) (w : Word) : State :=
  s.writeRw (.SUP_CFG n) (if getF w Fld.SUP_CFG_DIV = 3 then putF w Fld.SUP_CFG_DIV 0 else w)

/-- A write of SUPnn_FLAG: the flag of an armed crossing that is still counted stays (R7, R152). -/
def State.wrSupFlag (s : State) (n : Nat) (w : Word) : State :=
  let b (i : Nat) : Bool := s.bit (.SUP_STATUS n) i
  s.clearFlagsBut (.SUP_FLAG n) (w &&& Reg.w1c (.SUP_FLAG n))
    (maskOf ((if b 0 && b 2 then [0] else []) ++ (if b 1 && b 3 then [1] else [])))

/-! ### Requests -/

open Host (Outcome)

/-- RAIL_ON_REQUEST (R129): REQ = 0b01 through an interface. -/
def execRailOnRequest (_i : Iface) (n : Fin 20) (s : State) : Outcome State Fault Refusal :=
  .next (s.guardWrite (.RAIL_CTL n) fun s => s.hostRailOn n)

/-- RAIL_OFF_REQUEST (R130): REQ = 0b10 through an interface. -/
def execRailOffRequest (_i : Iface) (n : Fin 20) (s : State) : Outcome State Fault Refusal :=
  .next (s.guardWrite (.RAIL_CTL n) fun s => s.hostRailOff n)

/-- VSET_WRITE (R132). -/
def execVsetWrite (_i : Iface) (n : Fin 20) (v : Word) (be : BitVec 4) (s : State) : Outcome State Fault Refusal :=
  .next (s.guardWrite (.RAIL_VSET n) fun s => s.wrVset n (s.merged (.RAIL_VSET n) v be))

/-- The guard of TTB_Gg_CTL: a request during a reload is held, not blocked (R66, R146). -/
def State.guardGroup (s : State) (k : State → State) : State :=
  if !s.accepts || s.loader then s else if !s.powered .seq then s.accessOff .ttb else k s

/-- GROUP_ON_REQUEST (R139). -/
def execGroupOnRequest (_i : Iface) (g : Fin 8) (s : State) : Outcome State Fault Refusal :=
  .next (s.guardGroup fun s => s.hostGroup g true)

/-- GROUP_OFF_REQUEST (R141). -/
def execGroupOffRequest (_i : Iface) (g : Fin 8) (s : State) : Outcome State Fault Refusal :=
  .next (s.guardGroup fun s => s.hostGroup g false)

/-- STEP_WRITE (R138). -/
def execStepWrite (_i : Iface) (g : Fin 8) (j : Fin 64) (v : Word) (be : BitVec 4) (s : State) : Outcome State Fault Refusal :=
  .next (s.guardWrite (.TTB_STEP g j) fun s => s.wrStep g j (s.merged (.TTB_STEP g j) v be))

/-- TTB_BOUT_WRITE (R157). -/
def execTtbBoutWrite (_i : Iface) (v : Word) (be : BitVec 4) (s : State) : Outcome State Fault Refusal :=
  .next (s.guardWrite .TTB_BOUT fun s => s.wrBout (s.merged .TTB_BOUT v be))

/-! ### Events of rails -/

/-- ON_DELAY_END (R130): ONDLY has elapsed in ON_DELAY. [DESIGN CHOICE, log 3] -/
def execOnDelayEnd (n : Fin 20) (_ : Unit) (s : State) : Outcome State Fault Refusal :=
  .next (if s.railSt n = rOnDelay then s.railEnterStart n else s)

/-- OFF_DELAY_END (R130): OFFDLY has elapsed in OFF_DELAY. -/
def execOffDelayEnd (n : Fin 20) (s : State) : Outcome State Fault Refusal :=
  .next (if s.railSt n = rOffDelay then s.rampDown n else s)

/-- SETPOINT_REACHED (R132): a ramp reaches its target. -/
def execSetpointReached (n : Fin 20) (s : State) : Outcome State Fault Refusal :=
  .next (match s.tt.ramps.lookup n.val with
    | none => s
    | some r =>
      let s1 := (s.put (.RAIL_STATUS n) Fld.RAIL_STATUS_SETP r.target).stopRamp n
      if s.railSt n = rRampUp then s1.setRail n rOn
      else if s.railSt n = rRampDown then s1.setRail n rDischarge
      else s1)

/-- The sensed output of a rail is below DISCHV (R134). -/
def State.discharged (s : State) (n : Nat) : Bool := decide (s.railMv n < 10 * s.fld (.RAIL_DIS n) Fld.RAIL_DIS_DISCHV)

/-- DISCHARGE_DONE (R130): the sensed output is below DISCHV; a held request runs (R135). -/
def execDischargeDone (n : Fin 20) (s : State) : Outcome State Fault Refusal :=
  .next (if s.railSt n = rDischarge ∧ s.discharged n = true then (s.railToOff n).runHeld n else s)

/-- DISCHARGE_TIMEOUT (R134): the rail enters OFF anyway; flag, record, capture and raise. -/
def execDischargeTimeout (n : Fin 20) (_ : Unit) (s : State) : Outcome State Fault Refusal :=
  .next (if s.railSt n = rDischarge then
    let s0 := { s with tt := { s.tt with bout := { s.tt.bout with disto := s.tt.bout.disto ||| (1#32 <<< n.val) } } }
    let s1 := ((s0.setFlag (.RAIL_FLAG n) 3).logRec 0x03 2 s.now [BitVec.ofNat 32 n, BitVec.ofNat 32 (s.railMv n)]).railFailure n 5
    ((s1.railToOff n).raise (116 + n) 0).runHeld n
  else s)

/-- START_TIMEOUT (R136): no PG within PGTO after ON. [DESIGN CHOICE, log 3] -/
def execStartTimeout (n : Fin 20) (s : State) : Outcome State Fault Refusal :=
  .next (if s.railSt n = rOn ∧ ¬ s.tt.pgSince.contains n.val = true then s.startFail n 1 else s)

/-- PG_ASSERT (R153): ON and inside the window for PGDLY; the first PG since ON arms UV (R152). -/
def execPgAssert (n : Fin 20) (s : State) : Outcome State Fault Refusal :=
  .next (if s.railSt n = rOn && !s.bit (.RAIL_STATUS n) 4 && !s.bit (.SUP_STATUS n) 0 && !s.bit (.SUP_STATUS n) 1 then
    let s1 := (s.putBit (.RAIL_STATUS n) 4 true).condRise (25 + n) 1 0 false
    if s1.tt.pgSince.contains n.val then s1
    else ({ s1 with tt := { s1.tt with pgSince := n.val :: s1.tt.pgSince } }).armUv n
  else s)

/-- STEP_HOLD_END (R140): the present step's hold ends, where the part's own state lets it end. [DESIGN CHOICE, log 48] -/
def execStepHoldEnd (g : Fin 8) (s : State) : Outcome State Fault Refusal :=
  .next (if (s.groupSt g = 1 ∨ s.groupSt g = 3) ∧ s.holdDone g = true then s.stepNext g else s)

/-! ### Brown-out -/

/-- A brown-out off request to a group: BOUT shows it (R147); in the domain under restore it waits for the loops (R70). -/
def State.groupOffBout (s : State) (g : Nat) : State :=
  (s.put (.TTB_G_STATUS g) Fld.TTB_G_STATUS_BOUT 1).groupOffLater g 0x24

/-- Rails in OFF_DELAY leave it for RAMP_DOWN in a shutdown with FAST, but for those under restore (R147, R70). -/
def State.boutFast (s : State) (p : Nat → Bool) : State :=
  if s.bit .TTB_BSTAT 0 && s.bit .TTB_BOUT 31 then
    each (allRails.filter fun n => p n && s.railSt n == rOffDelay && (s.restoring.isNone || s.railDom n != s.restoring))
      (fun n s => s.rampDown n) s
  else s

/-- VIN has been above VON during the shutdown (R150). -/
def State.vinRose (s : State) : State :=
  if s.bit .TTB_BSTAT 0 then { s with tt := { s.tt with bout := { s.tt.bout with early := true } } } else s

/-- A conversion of VIN during an episode: the lowest VIN, in 10 mV units, and a rise above VON (R150). -/
def State.vinSeen (s : State) : State :=
  let s1 : State := if s.tt.bout.inForce then
    { s with tt := { s.tt with bout := { s.tt.bout with minVin := min (s.vinMv / 10) s.tt.bout.minVin } } } else s
  if 100 * s1.fld .TTB_BOUT Fld.TTB_BOUT_VON < s1.vinMv then s1.vinRose else s1

/-- BOUT_START (R147): VIN has stayed below VOFF for BFILT. No second episode opens before the restart (R149). -/
def execBoutStart (_ : Unit) (s : State) : Outcome State Fault Refusal :=
  .next (if s.tt.bout.inForce then s.vinSeen
    else
      let up := allGroups.filter fun g => s.groupSt g != 0
      let loose := allRails.filter fun n => s.railSt n != rOff && (s.railGroup n).isNone
      let s1 := { s with tt := { s.tt with bout := { inForce := true, groups := up, start := s.now, minVin := s.vinMv / 10 } } }
      let s2 := (((s1.putBit .TTB_BSTAT 0 true).addSat .TTB_BSTAT Fld.TTB_BSTAT_EPIS 1).reloadAbort 0x24).regangDown 0x24
      let s3 := each allRails (fun n s => s.put (.RAIL_STATUS n) Fld.RAIL_STATUS_PEND 0) s2
      let s4 := each up (fun g s => s.groupOffBout g) (s3.dropRequests fun d => s3.restoring != some d)
      let s5 := each loose (fun n s => s.railOffLater n 0x24) s4
      let s6 := s5.boutFast fun _ => true
      (s6.happen 63 (s6.fld .TTB_BSTAT Fld.TTB_BSTAT_EPIS) 0).boutCheck)

/-- MINOFF_END (R149): the minimum off time has elapsed since BOUT_END. -/
def execMinoffEnd (s : State) : Outcome State Fault Refusal :=
  .next (if s.bit .TTB_BSTAT 1 then (s.putBit .TTB_BSTAT 1 false).boutRestart else s)

/-- VIN_QUALIFIED (R149): VIN above VON for 2 ms, so from before BOUT_END when that is less than 2 ms (500 000 ticks) ago. -/
def execVinQualified (s : State) : Outcome State Fault Refusal :=
  .next (
    let s1 := (s.putBit .TTB_BSTAT 2 true).vinRose
    let s2 : State := if s1.bit .TTB_BSTAT 1 && decide ((s1.clock.localTicks - s1.tt.bout.endTick).toNat < 500000) then
      { s1 with tt := { s1.tt with bout := { s1.tt.bout with early := true } } } else s1
    s2.boutRestart)

/-- VIN_BELOW_VON (R149): QUAL is cleared; a dip below VON follows a rise above it. -/
def execVinBelowVon (_ : Unit) (s : State) : Outcome State Fault Refusal :=
  .next (((s.putBit .TTB_BSTAT 2 false).vinRose).vinSeen)

/-! ### Supervisors and reset outputs -/

/-- OV_CROSSING (R152): counted in STATUS, and armed or not (R151); any OV crossing takes PG low (R153). [DEDUCED, log 51,
52] -/
def execOvCrossing (n : Fin 20) (s : State) : Outcome State Fault Refusal :=
  .next (
    if s.compOut n true then
      let s1 := ((s.put (.SUP_STATUS n) Fld.SUP_STATUS_OV 1).live (56 + n) true).pgLow n
      if s1.bit (.SUP_STATUS n) 3 then s1.ovFires n else s1
    else s)

/-- UV_CROSSING (R152). [DEDUCED, log 51] -/
def execUvCrossing (n : Fin 20) (s : State) : Outcome State Fault Refusal :=
  .next (
    if s.compOut (0x20 + n) true then
      let s1 := (s.put (.SUP_STATUS n) Fld.SUP_STATUS_UV 1).live (76 + n) true
      if s1.bit (.SUP_STATUS n) 2 then s1.uvFires n else s1
    else s)

/-- CROSSING_END (R151): a counted crossing ends, and with it the cause of its fault source. -/
def execCrossingEnd (n : Fin 20) (ov : Bool) (s : State) : Outcome State Fault Refusal :=
  .next (if s.compOut (if ov then n else 0x20 + n) false then s
    else if ov then (s.put (.SUP_STATUS n) Fld.SUP_STATUS_OV 0).live (56 + n) false
    else (s.put (.SUP_STATUS n) Fld.SUP_STATUS_UV 0).live (76 + n) false)

/-- RESET_RELEASE (R155): a releasable output whose mask rails have held PG for STRETCH. -/
def execResetRelease (x : Fin 4) (s : State) : Outcome State Fault Refusal :=
  .next (
    let m := s.fld (.TTB_RST_CFG x) Fld.TTB_RST_CFG_MASK
    let named := s.resetNamed x
    if s.tp.released && s.bit .TTB_RSTSTAT (4 + x) && (named || m != 0) && allRails.all (fun n => !m.testBit n || s.bit (.RAIL_STATUS n) 4) then
      s.putBit .TTB_RSTSTAT x false
    else s)

end Sys2Proof.Machine
end

