-- ==== Sys2Proof/Machine/Backup.lean ====
section
/-!
DEFINITION. Backup path and charger (chapter 7): the path's states and their events, the charger's states, settings,
timers and watchdog, and the request for ship mode. Entering and leaving SHIP, DEPLETED and OPEN stands in
Machine/Power.lean.
-/

namespace Sys2Proof.Machine

open Host (Outcome)

/-! ### Path (R185 to R189) -/

/-- State of the path (Table 07.2). -/
def State.path (s : State) : Nat := s.fld .BKP_STATUS Fld.BKP_STATUS_PATH

/-- CHGSTATE changes: its event, the full anchor at DONE, the charger's loops (R197, R200, R205, R209). -/
def State.setChg (s : State) (st : Nat) : State :=
  let old := s.chgSt
  if old = st then s
  else
    let s1 := s.put .BKP_STATUS Fld.BKP_STATUS_CHGSTATE st
    let s2 := if old = 5 then s1.condFall 81 0 0 else s1
    let s3 := s2.happen 80 st 0
    let s4 := if st = 5 then (s3.condRise 81 0 0 false).fullAnchor else s3
    s4.chargerLoops

/-- The path takes a state; away from BATTERY and QUALIFY nothing is CUT (R190), leaving SOURCE ends the damping of
the feed-forward (R231). [DEDUCED, log 74] -/
def State.setPath (s : State) (p : Nat) : State :=
  let s0 := if s.path = 1 ∧ p ≠ 1 then s.ffReturn else s
  let s1 := s0.put .BKP_STATUS Fld.BKP_STATUS_PATH p
  if p = 3 ∨ p = 4 then s1 else (s1.putBit .BKP_STATUS 10 false).live 230 false

/-- SRCS at or above SRC_ON. -/
def State.putSrcOk (s : State) (b : Bool) : State := s.putBit .BKP_STATUS 7 (s.compOut 0x81 b)

/-- The path enters BATTERY, and QUALIFY at once when SRCS is at or above SRC_ON (Table 07.3). -/
def State.enterBattery (s : State) : State := if s.bit .BKP_STATUS 7 then s.setPath 4 else s.setPath 3

/-! ### The switches (Table 07.1, Table 07.2, R19) -/

/-- How a switch of the path conducts: not at all; through its body diode alone; in ideal-diode regulation; on its way to
fully on; fully on. -/
inductive Conduct where
  | off | bodyDiode | regulation | turningOn | on
deriving DecidableEq, Repr

/-- The source switch. -/
def State.sourceSwitch (s : State) : Conduct := if s.path = 1 then .on else if s.path = 5 then .turningOn else .off

/-- The disconnect switch: on but in OPEN, SHIP and DEPLETED. -/
def State.disconnect (s : State) : Conduct := if 6 ≤ s.path then .bodyDiode else .on

/-- The ideal-diode switch: with CHG unpowered its body diode alone conducts, and it cannot block reverse current (R19). -/
def State.idealDiode (s : State) : Conduct :=
  if !s.powered .chg || decide (6 ≤ s.path) then .bodyDiode
  else if s.path = 1 ∨ s.path = 5 then .regulation else if s.path = 2 then .turningOn else .on

/-- The charger's current reference in mA (R199, Table 04.1): its target with the output of the slot at destination 3, less
the output of the input-voltage regulation while it is enabled, which is never less than 0. Off outside PRE, CC and CV.
[DEDUCED, log 181] -/
def State.chargeRef (s : State) : Rat :=
  if !s.charging then 0
  else
    let cut := s.destOut (5, 0)
    (10 * s.chgTarget : Nat) + s.destOut (3, 0) - (if s.bit .BKP_VINREG 15 && decide (0 < cut) then cut else 0)

/-- The charger's voltage reference in mV: the CV target with the output of the slot at destination 4 (Table 04.1). -/
def State.chargeVolts (s : State) : Rat := (s.cvTarget : Rat) + s.destOut (4, 0) / 1000

/-- OFF to CHECK: EN = 1, path SOURCE, a pack that is there (Table 07.7), a charger that can work (R12). -/
def State.chgStart (s : State) : State :=
  if s.chargerWorks = true ∧ s.chgSt = 0 ∧ s.bit .BKP_CHG 31 = true ∧ s.path = 1 ∧ s.packThere = true then s.setChg 1 else s

/-- SOURCE_LOSS (R186, R189): the hand-over starts. `src`: SRCS is at or above SRC_ON still, so forward conduction
counted the loss; `settled`: the path had been SOURCE for RESTDLY (R232). [DESIGN CHOICE, log 81] -/
def execSourceLoss (src settled : Bool) (s : State) : Outcome State Fault Refusal :=
  .next (
    let s0 := s.putSrcOk src
    if (s.path = 1 ∨ s.path = 5) ∧ (src || s.compOut 0x80 true) = true then
      let s1 := ((s0.setPath 2).setChg 0).rideBegin (settled && s.path == 1)
      (s1.addSat .BKP_COUNT Fld.BKP_COUNT_HOCNT 1).setFlag .BKP_FLAG 0
    else s0)

/-- HANDOVER_COMPLETE (R19, R186, R187): the ideal-diode switch, driven from CHG, is fully on. -/
def execHandoverComplete (src : Bool) (s : State) : Outcome State Fault Refusal :=
  .next (if s.path = 2 ∧ s.powered .chg = true then (s.putSrcOk src).enterBattery else s)

/-- HANDOVER_TIMEOUT (R186). [DESIGN CHOICE, log 3] -/
def execHandoverTimeout (s : State) : Outcome State Fault Refusal := .next (if s.path = 2 then s.raise 229 0 else s)

/-- SYS_SAG (R186). -/
def execSysSag (s : State) : Outcome State Fault Refusal := .next (if s.path = 3 then s.raise 229 1 else s)

/-- SOURCE_RETURN (R187): SRCS reaches SRC_ON. -/
def execSourceReturn (s : State) : Outcome State Fault Refusal :=
  .next (let s1 := s.putSrcOk true; if s.path = 3 ∧ s.compOut 0x81 true = true then s1.setPath 4 else s1)

/-- A rejected return (R187). -/
def State.rejectReturn (s : State) : State := (s.addSat .BKP_COUNT Fld.BKP_COUNT_REJCNT 1).setFlag .BKP_FLAG 7

/-- PATH_RETREJ (R187): SRCS falls below SRC_ON. -/
def execPathRetrej (s : State) : Outcome State Fault Refusal :=
  .next (let s1 := s.putSrcOk false; if s.path = 4 ∧ s.compOut 0x81 false = false then (s1.setPath 3).rejectReturn else s1)

/-- HANDBACK_START (R187, R188). -/
def execHandbackStart (s : State) : Outcome State Fault Refusal := .next (if s.path = 4 then s.setPath 5 else s)

/-- PATH_HANDBACK (R188). -/
def execPathHandback (s : State) : Outcome State Fault Refusal :=
  .next (if s.path = 5 then ((s.setPath 1).happen 77 0 0).chgStart else s)

/-- HANDBACK_TIMEOUT (R187): a rejected return with HBFAIL. -/
def execHandbackTimeout (s : State) : Outcome State Fault Refusal :=
  .next (if s.path = 5 then (s.enterBattery.rejectReturn).setFlag .BKP_FLAG 8 else s)

/-- BAT_CUT (R190, R210). -/
def execBatCut (s : State) : Outcome State Fault Refusal :=
  .next (if (s.path = 3 ∨ s.path = 4) ∧ s.fld .BKP_BATCFG Fld.BKP_BATCFG_NCELL ≠ 0 ∧ s.bit .BKP_STATUS 10 = false then
      ((((s.putBit .BKP_STATUS 10 true).live 230 true).setFlag .BKP_FLAG 4).emptyAnchor).raise 230 0
    else s)

/-! ### Ship request and button (R191, R193) -/

/-- Host contact (R201): a write through the two-wire bus, the Lookout or the Line reloads the charger watchdog. -/
def State.contact (s : State) (i : Iface) : State :=
  match i with
  | .twoWire | .lookout | .line => s.put .BKP_WDT Fld.BKP_WDT_REMAIN (10 * (s.fld .BKP_WDT Fld.BKP_WDT_PERIOD + 1))
  | _ => s

/-- Requests held for rails and groups are dropped (R191). -/
def State.dropHeld (s : State) : State :=
  let s1 := each allRails (fun n s => s.put (.RAIL_STATUS n) Fld.RAIL_STATUS_PEND 0) s
  s1.dropRequests fun _ => true

/-- Off requests to every group and every ungrouped rail that is not OFF (R191, R344). -/
def State.allOff (s : State) : State :=
  let s1 := each (allGroups.filter fun g => s.groupSt g != 0) (fun g s => s.hostGroup g false) s
  each (allRails.filter fun n => s1.railSt n != rOff && (s1.railGroup n).isNone) (fun n s => s.railOff n) s1

/-- A write of BKP_SHIP. -/
def State.wrShip (s : State) (w : Word) : State :=
  let s1 := if wbit w 31 && getF w Fld.BKP_SHIP_KEY == 0x5A then ((s.putBit .BKP_STATUS 9 true).dropHeld).allOff else s
  if wbit w 30 then s1.putBit .BKP_STATUS 9 false else s1

/-- SHIP_REQUEST (R191). -/
def execShipRequest (i : Iface) (s : State) : Outcome State Fault Refusal :=
  .next (s.guardWrite .BKP_SHIP fun s => (s.contact i).wrShip 0x80005A00#32)

/-- SHIP_CANCEL (R191). -/
def execShipCancel (i : Iface) (s : State) : Outcome State Fault Refusal :=
  .next (s.guardWrite .BKP_SHIP fun s => (s.contact i).wrShip 0x40000000#32)

/-- BUTTON_CHANGE (R193, R195): the level after the debounce; a falling edge starts the long-press timer, a release ends it. -/
def execButtonChange (low : Bool) (s : State) : Outcome State Fault Refusal :=
  .next (({ s with pins := { s.pins with btnLow := low, pressTimer := low && (s.pins.pressTimer || !s.pins.btnLow) } } : State).putBit
    .BKP_BTN 30 low)

/-! ### Charger settings (R196, R201, R202, R204) -/

/-- The settings whose change returns an active charger to CHECK. -/
def State.chgSettings (s : State) : Nat × Nat × Nat × Nat × Bool :=
  (s.fld .BKP_BATCFG Fld.BKP_BATCFG_CHEM, s.fld .BKP_BATCFG Fld.BKP_BATCFG_NCELL, s.fld .BKP_CHG Fld.BKP_CHG_VCELL,
   s.fld .BKP_CHG Fld.BKP_CHG_ICHG, s.bit .BKP_CHG 30)

/-- The rules of R196 on the settings a write would give. -/
def State.chgLegal (s : State) : Bool :=
  let n := s.fld .BKP_BATCFG Fld.BKP_BATCFG_NCELL
  inRange 10 500 (s.fld .BKP_CHG Fld.BKP_CHG_ICHG) &&
  (n == 0 || (inRange 2 (if s.fld .BKP_BATCFG Fld.BKP_BATCFG_CHEM = 0 then 12 else 16) n && decide (s.cvTarget ≤ 52000)))

/-- New settings act: no pack or EN = 0 stops the charger, a change sends an active one to CHECK, EN starts it. -/
def State.chgFollow (old s : State) : State :=
  if s.chgSt ≠ 0 ∧ (s.bit .BKP_CHG 31 = false ∨ s.fld .BKP_BATCFG Fld.BKP_BATCFG_NCELL = 0) then s.setChg 0
  else if s.charging ∧ old.chgSettings ≠ s.chgSettings then s.setChg 1
  else s.chgStart

/-- A write of BKP_BATCFG: VCUT outside 2000 to 3500 stays; a change of CHEM takes its lowest VCELL. [DEDUCED, log 75] -/
def State.wrBatcfg (s : State) (w0 : Word) : State :=
  let w := if inRange 2000 3500 (getF w0 Fld.BKP_BATCFG_VCUT) then w0
    else putF w0 Fld.BKP_BATCFG_VCUT (s.fld .BKP_BATCFG Fld.BKP_BATCFG_VCUT)
  let chem := getF w Fld.BKP_BATCFG_CHEM
  let s1 := s.writeRw .BKP_BATCFG w
  let s2 := if chem = s.fld .BKP_BATCFG Fld.BKP_BATCFG_CHEM then s1 else s1.put .BKP_CHG Fld.BKP_CHG_VCELL (cellRange chem).1
  if s2.chgLegal then (s.chgFollow s2).gauPack else s.setFlag .BKP_FLAG 9

/-- BKP_BATCFG_WRITE (R196). -/
def execBkpBatcfgWrite (i : Iface) (v : Word) (be : BitVec 4) (s : State) : Outcome State Fault Refusal :=
  .next (s.guardWrite .BKP_BATCFG fun s => (s.contact i).wrBatcfg (s.merged .BKP_BATCFG v be))

/-- An interface whose writes are host writes (R201). -/
def hostIface : Iface → Bool
  | .twoWire | .lookout | .line => true
  | _ => false

/-- A write of BKP_CHG: the first host write after an expiry clears WDEXP (R202). -/
def State.wrChg (s : State) (i : Iface) (w : Word) : State :=
  let s0 := if hostIface i then s.putBit .BKP_STATUS 6 false else s
  let s1 := s0.writeRw .BKP_CHG w
  if s1.chgLegal then s0.chgFollow s1 else s0.setFlag .BKP_FLAG 9

/-- BKP_CHG_WRITE (R196, R202). -/
def execBkpChgWrite (i : Iface) (v : Word) (be : BitVec 4) (s : State) : Outcome State Fault Refusal :=
  .next (s.guardWrite .BKP_CHG fun s => (s.contact i).wrChg i (s.merged .BKP_CHG v be))

/-- A write of BKP_PATH (R204). -/
def State.wrPath (s : State) (w : Word) : State :=
  if getF w Fld.BKP_PATH_SRC_ON < getF w Fld.BKP_PATH_SRC_OFF + 3 then s else s.writeRw .BKP_PATH w

/-- BKP_PATH_WRITE (R204). -/
def execBkpPathWrite (i : Iface) (v : Word) (be : BitVec 4) (s : State) : Outcome State Fault Refusal :=
  .next (s.guardWrite .BKP_PATH fun s => (s.contact i).wrPath (s.merged .BKP_PATH v be))

/-- A write of BKP_QUAL (R204). -/
def State.wrQual (s : State) (w : Word) : State :=
  if inRange 20 1000 (getF w Fld.BKP_QUAL_QUAL) && inRange 200 10000 (getF w Fld.BKP_QUAL_HBMIN) then s.writeRw .BKP_QUAL w else s

/-- BKP_QUAL_WRITE (R204). -/
def execBkpQualWrite (i : Iface) (v : Word) (be : BitVec 4) (s : State) : Outcome State Fault Refusal :=
  .next (s.guardWrite .BKP_QUAL fun s => (s.contact i).wrQual (s.merged .BKP_QUAL v be))

/-- Writes of BKP_TIMER (FASTTO 1 to 24) and BKP_BTN (LPT 4 to 16): a value out of range leaves its field. -/
def State.wrBkpTimer (s : State) (w : Word) : State :=
  s.writeRw .BKP_TIMER (if inRange 1 24 (getF w Fld.BKP_TIMER_FASTTO) then w
    else putF w Fld.BKP_TIMER_FASTTO (s.fld .BKP_TIMER Fld.BKP_TIMER_FASTTO))
def State.wrBtn (s : State) (w : Word) : State :=
  s.writeRw .BKP_BTN (if inRange 4 16 (getF w Fld.BKP_BTN_LPT) then w else putF w Fld.BKP_BTN_LPT (s.fld .BKP_BTN Fld.BKP_BTN_LPT))

/-- KICK (R201): a write of BKP_WDT. -/
def execKick (i : Iface) (v : Word) (be : BitVec 4) (s : State) : Outcome State Fault Refusal :=
  .next (s.guardWrite .BKP_WDT fun s => (s.writeRw .BKP_WDT (s.merged .BKP_WDT v be)).contact i)

/-- CHG_WDOG (R201): the count reaches zero; the safe settings apply. -/
def execChgWdog (s : State) : Outcome State Fault Refusal :=
  .next (if s.bit .BKP_CHG 31 && s.fld .BKP_WDT Fld.BKP_WDT_REMAIN != 0 then
      let s1 := s.put .BKP_WDT Fld.BKP_WDT_REMAIN 0
      let w := putF (putF (putF (s1.rd .BKP_CHG) Fld.BKP_CHG_ICHG 50) Fld.BKP_CHG_VCELL
        (cellRange (s1.fld .BKP_BATCFG Fld.BKP_BATCFG_CHEM)).1) Fld.BKP_CHG_TERM 1
      let s2 := s1.wr .BKP_CHG w
      ((s1.chgFollow s2).putBit .BKP_STATUS 6 true).setFlag .BKP_FLAG 6
    else s)

/-- A write of BKP_FLAG: flags cleared; TIMER and OV cleared behind their sources end FAULT (Table 07.7). -/
def State.wrBkpFlag (s : State) (w : Word) : State :=
  let s1 := s.clearFlags .BKP_FLAG (w &&& 0x3FF#32)
  if s1.chgSt = 7 ∧ (wbit w 2 || wbit w 3) = true ∧ s1.bit .BKP_FLAG 2 = false ∧ s1.bit .BKP_FLAG 3 = false ∧
      s1.latched 231 = false ∧ s1.latched 232 = false then s1.setChg 1
  else s1

/-- BKP_FLAG_WRITE (R7, R197). -/
def execBkpFlagWrite (i : Iface) (v : Word) (be : BitVec 4) (s : State) : Outcome State Fault Refusal :=
  .next (s.guardWrite .BKP_FLAG fun s => (s.contact i).wrBkpFlag (v &&& byteMask be))

/-! ### Charger events (Table 07.7): of a charger that can work (R12) -/

/-- CHECK_END: after 100 ms, by BAT in mV. -/
def execCheckEnd (bat : Nat) (s : State) : Outcome State Fault Refusal :=
  .next (if s.chargerWorks = true ∧ s.chgSt = 1 then
      let n := s.fld .BKP_BATCFG Fld.BKP_BATCFG_NCELL
      if bat < n * (2000 + 10 * s.fld .BKP_CHGLIM Fld.BKP_CHGLIM_VPRE) then s.setChg 2
      else if s.cvTarget ≤ bat + n * (10 * s.fld .BKP_CHGLIM Fld.BKP_CHGLIM_VRECH) then s.setChg 5
      else s.setChg 3
    else s)

/-- PRECHARGE_END. -/
def execPrechargeEnd (s : State) : Outcome State Fault Refusal := .next (if s.chargerWorks = true ∧ s.chgSt = 2 then s.setChg 3 else s)

/-- CV_ENTRY. -/
def execCvEntry (s : State) : Outcome State Fault Refusal := .next (if s.chargerWorks = true ∧ s.chgSt = 3 then s.setChg 4 else s)

/-- CHG_DONE: TERM = 1 only. -/
def execChgDone (s : State) : Outcome State Fault Refusal :=
  .next (if s.chargerWorks = true ∧ s.chgSt = 4 ∧ s.bit .BKP_CHG 30 = true then s.setChg 5 else s)

/-- RECHARGE. -/
def execRecharge (s : State) : Outcome State Fault Refusal := .next (if s.chargerWorks = true ∧ s.chgSt = 5 then s.setChg 1 else s)

/-- PACK_TEMP_OUT. -/
def execPackTempOut (s : State) : Outcome State Fault Refusal :=
  .next (if s.chargerWorks = true ∧ 1 ≤ s.chgSt ∧ s.chgSt ≤ 5 then s.setChg 6 else s)

/-- PACK_TEMP_BACK. -/
def execPackTempBack (s : State) : Outcome State Fault Refusal := .next (if s.chargerWorks = true ∧ s.chgSt = 6 then s.setChg 1 else s)

/-- BAT_ABSENT (R198, R217). [DEDUCED, log 75] -/
def execBatAbsent (s : State) : Outcome State Fault Refusal :=
  .next (if s.chargerWorks = true ∧ s.chgSt ≠ 0 ∧ s.chgSt ≠ 8 then
      (((s.setChg 8).putBit .BKP_STATUS 8 true).setFlag .BKP_FLAG 5).gauFreeze
    else s)

/-- BAT_PRESENT (R198, R217): ABSENT returns to CHECK; a charger stopped meanwhile starts when it may. [DEDUCED, log 75] -/
def execBatPresent (s : State) : Outcome State Fault Refusal :=
  .next (if s.chargerWorks && s.bit .BKP_STATUS 8 then
      let s1 := ((s.putBit .BKP_STATUS 8 false).happen 84 0 0).gauResume
      if s1.chgSt = 8 then s1.setChg 1 else s1.chgStart
    else s)

/-- CHG_TIMER: PRETO in PRE, FASTTO in CC and CV. -/
def execChgTimer (s : State) : Outcome State Fault Refusal :=
  .next (if s.chargerWorks && s.charging then ((s.setChg 7).setFlag .BKP_FLAG 3).raise 232 (if s.chgSt = 2 then 0 else 1) else s)

/-- CHG_OV. -/
def execChgOv (s : State) : Outcome State Fault Refusal :=
  .next (if s.chargerWorks && s.charging && s.compOut 0x84 true then ((s.setChg 7).setFlag .BKP_FLAG 2).raise 231 0 else s)

end Sys2Proof.Machine
end

