-- ==== Sys2Proof/Machine/Watchdog.lean ====
section
/-!
DEFINITION. Watchdog and tokens (chapter 16): registration, tokens and window edges, and the expiry up to its reset.
The reset itself stands in Machine/PowerOps.lean.
-/

namespace Sys2Proof.Machine

open Host (Outcome)

/-- Numbers of the tasks. -/
def allTasks : List Nat := List.range 8

/-- A task is registered; its token of the period is accepted; its window is open. -/
def State.wdgReg (s : State) (t : Nat) : Bool := s.bit (.WDG_T_CFG t) 31
def State.tokened (s : State) (t : Nat) : Bool := s.bit (.WDG_T_STAT t) 17
def State.inWindow (s : State) (t : Nat) : Bool := s.bit (.WDG_T_STAT t) 16

/-- A period of a task begins (R339). -/
def State.periodStart (s : State) (t : Nat) : State :=
  let s1 := (s.putBit (.WDG_T_STAT t) 17 false).put (.WDG_T_STAT t) Fld.WDG_T_STAT_ELAPSED 0
  s1.putBit (.WDG_T_STAT t) 16 (s.fld (.WDG_T_CFG t) Fld.WDG_T_CFG_WINOPEN == 0)

/-! ### Registration (R337 to R339, R348) -/

/-- A write of WDGtt_CFG. -/
def State.wrWdgCfg (s : State) (t : Nat) (w : Word) : State :=
  let per := getF w Fld.WDG_T_CFG_PERIOD
  if s.wdgReg t || decide (per < 2) || decide (per ≤ getF w Fld.WDG_T_CFG_WINOPEN) then s.setFlag .WDG_FLAG 2
  else
    let s1 := s.writeRw (.WDG_T_CFG t) w
    if wbit w 31 then
      ((s1.putBit (.WDG_T_CFG t) 31 true).put (.WDG_T_STAT t) Fld.WDG_T_STAT_NEXT (0x5A + 0x11 * t)).periodStart t
    else s1

/-- The tasks the management core registers at a firmware start (R338). -/
def State.ownTasks (s : State) : State := (s.wrWdgCfg 0 0xB0019064#32).wrWdgCfg 1 0xB00003E8#32

/-- A write of WDG_CTL (R348). -/
def State.wrWdgCtl (s : State) (w : Word) : State :=
  if (List.range 8).any fun t => 2 ≤ t && s.wdgReg t then s.setFlag .WDG_FLAG 2 else s.writeRw .WDG_CTL w

/-- TASK_REGISTER (R337). -/
def execTaskRegister (_i : Iface) (t : Fin 8) (v : Word) (be : BitVec 4) (s : State) : Outcome State Fault Refusal :=
  .next (s.guardWrite (.WDG_T_CFG t) fun s => s.wrWdgCfg t (s.merged (.WDG_T_CFG t) v be))

/-- WDG_CTL_WRITE (R348). -/
def execWdgCtlWrite (_i : Iface) (v : Word) (be : BitVec 4) (s : State) : Outcome State Fault Refusal :=
  .next (s.guardWrite .WDG_CTL fun s => s.wrWdgCtl (s.merged .WDG_CTL v be))

/-! ### Expiry (R343, R344) -/

/-- Codes of WDG_LAST.KIND. -/
abbrev kLate := 1
abbrev kEarly := 2
abbrev kDouble := 3
abbrev kBadToken := 4

/-- Gates and LDOs off, reset outputs low (R194, R344). -/
def State.gatesDown (s : State) : State :=
  let s1 : State := { s with pins := { s.pins with gatesOff := true } }
  each [0, 1, 2, 3] (fun x s => s.resetLow x) s1

/-- A controller transfer ends (R411): its result and the bytes transferred. -/
def State.cxEnd (s : State) (res done : Nat) : State :=
  let s1 : State := { s with tb := { s.tb with cx := none } }
  let s2 := ((s1.putBit .TWB_STATUS 2 false).putBit .TWB_STATUS 1 false).put .TWB_CXSTAT Fld.TWB_CXSTAT_RESULT res
  (s2.put .TWB_CXSTAT Fld.TWB_CXSTAT_DONE done).setFlagI .TWB_FLAG 4 res 0

/-- An expiry abandons a running controller transfer at the next byte boundary (R410); how many bytes have passed is
open. [DESIGN CHOICE, log 62] -/
def State.cxAbort (s : State) : State :=
  match s.tb.cx with
  | none => s
  | some _ => let d := s.draw; d.2.cxEnd 8 (d.1.toNat % 64)

/-- An entry to DEEP is abandoned, a held request with it (R346, R437). -/
def State.deepAbandon (s : State) : State :=
  if s.pw.mode = .deepEntry then
    ({ s with pw := { s.pw with mode := .active } } : State).put .PWR_STATUS Fld.PWR_STATUS_MODE 0
  else s

/-- A failure of a task is an expiry; further failures are ignored. `more`: other tasks failed at the same moment. [DEDUCED,
log 113] -/
def State.expire (s : State) (t kind : Nat) (more : Bool) : State :=
  if s.wd.expired then s
  else
    let n := s.now
    let w := putF (putF (putF (putF (s.rd .WDG_LAST) Fld.WDG_LAST_TASK t) Fld.WDG_LAST_KIND kind) Fld.WDG_LAST_MORE (b2n more))
      Fld.WDG_LAST_LOCAL (b2n n.isLocal)
    let s1 := ((s.wr .WDG_LAST (wputBit w 31 true)).addSat .WDG_LAST Fld.WDG_LAST_COUNT 1).wr .WDG_LASTT_LO (timeLo n.time)
    let s2 := ((s1.wr .WDG_LASTT_HI (timeHi n.time)).ledgerAbandon).cxAbort.deepAbandon
    let s3 : State := { s2 with wd := { expired := true, draining := s2.bit .WDG_CTL 31 } }
    if s3.wd.draining then
      let s4 := s3.allOff
      each (allRails.filter fun n => s4.railSt n == rOffDelay) (fun n s => s.rampDown n) s4
    else s3.gatesDown

/-- DRAIN_TIMEOUT (R344). -/
def execDrainTimeout (s : State) : Outcome State Fault Refusal :=
  .next (if s.wd.draining then ({ s with wd := { s.wd with draining := false } } : State).gatesDown else s)

/-! ### Tokens (R340, R341) -/

/-- The interface a task's OWNER names. -/
def ownerIs (o : Nat) (i : Iface) : Bool := ifaceNum i == o

/-- A token inside its window (checks 4 and 5): the failure DOUBLE, or its acceptance. -/
def State.tokenIn (s : State) (t : Nat) : State × Option Nat :=
  if s.tokened t then (s, some kDouble)
  else ((s.putBit (.WDG_T_STAT t) 17 true).put (.WDG_T_STAT t) Fld.WDG_T_STAT_NEXT
    (s.fld (.WDG_T_STAT t) Fld.WDG_T_STAT_NEXT + 0x35), none)

/-- A task's period runs: it is registered, and the part is not in DEEP. Periods and windows run on between an expiry and its
reset (R339, R346). -/
def State.taskRuns (s : State) (t : Nat) : Bool := s.wdgReg t && s.pw.mode != .deep

/-- Tasks of a set whose periods run. -/
def State.periodsDue (s : State) (ts : BitVec 8) : List Nat := allTasks.filter fun k => ts.getLsbD k && s.taskRuns k

/-- Tasks of a list with no accepted token: those are LATE when their periods end. -/
def State.lateOf (s : State) (ts : List Nat) : List (Nat × Nat) := (ts.filter fun k => !s.tokened k).map fun k => (k, kLate)

/-- Periods end, and the next ones begin (R339). -/
def State.periodsEnd (s : State) (ts : List Nat) : State := each ts (fun k s => s.periodStart k) s

/-- Failures of one moment, each a task and its kind, at most one a task: the lowest task is recorded (R343). -/
def State.fails (s : State) (fs : List (Nat × Nat)) : State :=
  match allTasks.filterMap (fun k => fs.find? fun e => e.1 == k) with
  | [] => s
  | f :: more => s.expire f.1 f.2 (!more.isEmpty)

/-- An edge decision is reported (R341). -/
def State.edgeReport (s : State) (t : Nat) (e : EdgeDecision) : State :=
  let w := putF (putF (putF (s.rd .WDG_EDGE) Fld.WDG_EDGE_TASK t) Fld.WDG_EDGE_LOST (b2n (!e.won))) Fld.WDG_EDGE_EDGE (b2n e.closing)
  ((s.wr .WDG_EDGE (wputBit w 31 true)).addSat .WDG_EDGE Fld.WDG_EDGE_COUNT 1).setFlagI .WDG_FLAG 0 t 0

/-- A token that has passed checks 1 and 2 at the moment of an edge, with its failure; at a closing edge the period ends.
[DESIGN CHOICE, log 114] -/
def State.tokenEdge (s : State) (t : Nat) (e : EdgeDecision) : State × Option Nat :=
  let s1 := s.edgeReport t e
  match e.closing, e.won with
  | false, true => (s1.putBit (.WDG_T_STAT t) 16 true).tokenIn t
  | false, false => (s1.putBit (.WDG_T_STAT t) 16 true, some kEarly)
  | true, true => let r := s1.tokenIn t; (r.1.periodStart t, r.2)
  | true, false => (s1.periodStart t, if s1.tokened t then none else some kLate)

/-- A token judged against its task's state (R340, checks 1 to 5), with its failure. -/
def State.judgeToken (s : State) (i : Iface) (w : Word) (e : Option EdgeDecision) : State × Option Nat :=
  let t := getF w Fld.WDG_TOKEN_TASK
  if !s.wdgReg t || !ownerIs (s.fld (.WDG_T_CFG t) Fld.WDG_T_CFG_OWNER) i then (s.setFlagI .WDG_FLAG 3 (ifaceNum i) 0, none)
  else if getF w Fld.WDG_TOKEN_TOKEN ≠ s.fld (.WDG_T_STAT t) Fld.WDG_T_STAT_NEXT then (s, some kBadToken)
  else match e with
  | some d => s.tokenEdge t d
  | none => if s.inWindow t then s.tokenIn t else (s, some kEarly)

/-- A write of WDG_TOKEN (R340) at a moment at which the periods of other tasks, `others`, end too (R343). -/
def State.wrToken (s : State) (i : Iface) (w : Word) (e : Option EdgeDecision) (others : BitVec 8) : State :=
  let t := getF w Fld.WDG_TOKEN_TASK
  let r := s.judgeToken i w e
  let ends := (r.1.periodsDue others).filter fun k => k != t
  let own := match r.2 with | some k => [(t, k)] | none => []
  (r.1.periodsEnd ends).fails (own ++ r.1.lateOf ends)

/-- TOKEN (R340, R341, R343). [DESIGN CHOICE, log 114] -/
def execToken (i : Iface) (v : Word) (be : BitVec 4) (e : TokenMoment) (s : State) : Outcome State Fault Refusal :=
  .next (s.guardSent .WDG_TOKEN be fun s => s.wrToken i (v &&& byteMask be) e.edge e.others)

/-! ### Edges of periods and windows -/

/-- WINDOW_OPEN (R339). -/
def execWindowOpen (t : Fin 8) (s : State) : Outcome State Fault Refusal :=
  .next (if s.taskRuns t then s.putBit (.WDG_T_STAT t) 16 true else s)

/-- PERIOD_END (R340, R343): the periods of `t` and of `others` end at one moment, and the next ones begin; the lowest late
task is recorded. [DESIGN CHOICE, log 3] -/
def execPeriodEnd (t : Fin 8) (others : BitVec 8) (s : State) : Outcome State Fault Refusal :=
  .next (
    let ends := s.periodsDue (others ||| (1#8 <<< t.val))
    (s.periodsEnd ends).fails (s.lateOf ends))

/-- WDG_WARN (R342). -/
def execWdgWarn (t : Fin 8) (s : State) : Outcome State Fault Refusal :=
  .next (if s.taskRuns t && !s.tokened t then s.setFlagI .WDG_FLAG 1 t 0 else s)

end Sys2Proof.Machine
end

