-- ==== Sys2Proof/Machine/Edges.lean ====
section
/-!
DEFINITION. The two-wire bus, the Lookout and the crossings below their accesses (chapters 19 to 21): register writes,
controller transfers, wake by NACK, the rights and unlocks of the Lookout, hold copies.
-/

namespace Sys2Proof.Machine

open Host (Outcome)

/-! ### Two-wire registers and controller (R405, R409 to R411) -/

/-- A write of TWB_CFG: RLEN outside 1 to 32 stays. -/
def State.wrTwbCfg (s : State) (w : Word) : State :=
  s.writeRw .TWB_CFG (if inRange 1 32 (getF w Fld.TWB_CFG_RLEN) then w else putF w Fld.TWB_CFG_RLEN (s.fld .TWB_CFG Fld.TWB_CFG_RLEN))

/-- A write of TWB_CXCFG: SPEED 0b11 stores 0b01. -/
def State.wrCxcfg (s : State) (w : Word) : State :=
  s.writeRw .TWB_CXCFG (if getF w Fld.TWB_CXCFG_SPEED = 3 then putF w Fld.TWB_CXCFG_SPEED 1 else w)

/-- The device's own address on the bus (R399). -/
def State.twbAddr (s : State) : Nat := s.fld .TWB_STATUS Fld.TWB_STATUS_ADDR

/-- Bytes of an SRAM area as an interface reads them: a damaged word reads as 0 and is reported (Table 13.1). -/
def State.readArea (s : State) (a : Nat) : Nat → List Word × State
  | 0 => ([], s)
  | n + 1 =>
    let r := s.memRead a 3 2
    let t := State.readArea r.2 (a + 4) n
    (r.1 :: t.1, t.2)

/-- A write of TWB_CXGO (R409). -/
def State.wrCxgo (s : State) (w : Word) : State :=
  let c := s.rd .TWB_CXCFG
  let wl := getF c Fld.TWB_CXCFG_WLEN
  let rl := getF c Fld.TWB_CXCFG_RLEN
  let buf := (s.rd .TWB_CXBUF).toNat
  if wbit w 31 = false then s
  else if s.tb.cx.isSome || decide (32 < wl) || decide (32 < rl) || (wl == 0 && rl == 0) ||
      getF c Fld.TWB_CXCFG_TADDR == s.twbAddr || s.badSource buf 64 then s.put .TWB_CXSTAT Fld.TWB_CXSTAT_RESULT 6
  else
    let r := s.readArea buf ((wl + 3) / 4)
    let s1 : State := { r.2 with tb := { r.2.tb with cx := some { cfg := c, buf := buf, send := (bytesOfWords r.1).take wl } } }
    ((s1.putBit .TWB_STATUS 2 true).putBit .TWB_STATUS 1 true).put .TWB_CXSTAT Fld.TWB_CXSTAT_TRIES 0

/-- Store bytes in SRAM from a word address on: whole words, then a narrow write. -/
def State.storeArea (s : State) (a : Nat) : Nat → List Byte → State
  | 0, _ => s
  | n + 1, l =>
    let k := l.length
    if k = 0 then s
    else
      let v := wordOf (l.getD 0 0#8) (l.getD 1 0#8) (l.getD 2 0#8) (l.getD 3 0#8)
      let be : BitVec 4 := if 4 ≤ k then 0xF#4 else BitVec.ofNat 4 (2 ^ k - 1)
      (s.sramNarrow a v be).storeArea (a + 4) n (l.drop 4)

/-- SLEEP begins, also one that has waited for a controller transfer (R410, R436). -/
def State.sleepNow (s : State) : State :=
  ({ s with pw := { s.pw with mode := .sleep, sleepPend := false } } : State).put .PWR_STATUS Fld.PWR_STATUS_MODE 1

/-- A transfer has ended with a result; a SLEEP request that waited for it takes effect. -/
def State.cxFinish (s : State) (res done : Nat) : State :=
  let s1 := s.cxEnd res done
  if s1.pw.sleepPend && s1.pw.mode == .active then s1.sleepNow else s1

/-- The codes of Table 19.2. -/
def cxCode : CxEnd → Nat
  | .ok => 1 | .anack => 2 | .dnack => 3 | .timeout => 5 | .pecErr => 7

/-- CXGO (R409). -/
def execCxgo (_i : Iface) (v : Word) (be : BitVec 4) (s : State) : Outcome State Fault Refusal :=
  .next (s.guardSent .TWB_CXGO be fun s => s.wrCxgo (v &&& byteMask be))

/-- CXDONE (R411): the bytes read go to the buffer. -/
def execCxdone (r : CxOutcome) (s : State) : Outcome State Fault Refusal :=
  .next (match s.tb.cx with
    | none => s
    | some c =>
      let data := r.data.take (getF c.cfg Fld.TWB_CXCFG_RLEN)
      let wrote := if r.res = .ok then c.send.length else min r.wrote c.send.length
      (s.storeArea (c.buf + 32) 8 data).cxFinish (cxCode r.res) (wrote + data.length))

/-- ARBITRATION_LOST (R410): a retry of the whole transfer, or its end. How many bytes had passed is open. [DESIGN CHOICE,
log 62] -/
def execArbitrationLost (s : State) : Outcome State Fault Refusal :=
  .next (match s.tb.cx with
    | none => s
    | some c =>
      let n := s.fld .TWB_CXSTAT Fld.TWB_CXSTAT_TRIES
      let s1 := s.addSat .TWB_CXSTAT Fld.TWB_CXSTAT_TRIES 1
      if n < getF c.cfg Fld.TWB_CXCFG_RETRY then s1
      else
        let d := s1.draw
        (d.2.setFlag .TWB_FLAG 5).cxFinish 4 (d.1.toNat % (c.send.length + getF c.cfg Fld.TWB_CXCFG_RLEN)))

/-- The matcher in AON NACKs the device's address while the interface sleeps (R406); the first NACK sets the flag, in DEEP
once CORE is up again. The wake itself follows. -/
def State.wakeNack (s : State) : State :=
  if s.pw.nack || (s.pw.mode != .sleep && s.pw.mode != .deep) then s
  else
    let s1 : State := { s with pw := { s.pw with nack := true } }
    if s.pw.mode = .sleep then s1.setFlag .TWB_FLAG 3 else s1

/-- WAKENACK (R406). -/
def execWakenack (s : State) : Outcome State Fault Refusal := .next s.wakeNack

/-! ### Lookout below its commands (R414 to R418) -/

/-- A status of a line, with its reply. [DESIGN CHOICE, log 141] -/
def State.answer (s : State) (status : Nat) (lines : List (List Nat) := []) : State :=
  { s with mo := { s.mo with status := status, reply := lines } }

/-- A line is taken for execution: the firmware serves the Lookout, awake and not behind an expiry. -/
def State.monServes (s : State) : Bool :=
  s.accepts && s.powered .core && s.pw.mc == .firmware && s.pw.mode != .sleep

/-- The loader serves the accesses of R315 and ledger-lane commands. -/
def State.monLoader (s : State) : Bool := s.accepts && s.loader

/-- A well-formed line: it ends the wait for one at a new rate; DISABLE and rights are judged (R414, R416, R418). -/
def State.monLine (s : State) (need : Nat) (f : State → State) : State :=
  let s1 : State := { s with mo := { s.mo with newRate := false } }
  if s1.bit .MON_CFG 31 then s1.answer 6
  else if s1.lookoutRights < need then (s1.answer 2).setFlag .MON_FLAG 3
  else f s1

/-- A line of a command that the loader does not serve. -/
def State.monCmd (s : State) (need : Nat) (f : State → State) : State := if s.monServes then s.monLine need f else s

/-- BAUD takes a code (R414). [DEDUCED, log 146] -/
def State.setBaud (s : State) (b : Nat) : State :=
  let s1 := s.put .MON_CFG Fld.MON_CFG_BAUD (if b = 7 then 0 else b)
  { s1 with mo := { s1.mo with newRate := true } }

/-- A write of MON_CFG (R418): through the two-wire bus or the core only. [DEDUCED, log 146] -/
def State.wrMonCfg (s : State) (i : Iface) (w : Word) : State :=
  if i = .twoWire ∨ i = .core then
    let s1 := if wbit w 31 then s.putBit .MON_CFG 31 true else s
    let s2 := s1.put .MON_CFG Fld.MON_CFG_IDLE (getF w Fld.MON_CFG_IDLE)
    if getF w Fld.MON_CFG_BAUD = s.fld .MON_CFG Fld.MON_CFG_BAUD then s2 else s2.setBaud (getF w Fld.MON_CFG_BAUD)
  else s

/-- MON_CFG_WRITE (R418). -/
def execMonCfgWrite (i : Iface) (v : Word) (be : BitVec 4) (s : State) : Outcome State Fault Refusal :=
  .next (s.guardWrite .MON_CFG fun s => s.wrMonCfg i (s.merged .MON_CFG v be))

/-- BAUD (R414, R418): any rights. -/
def execBaud (b : Nat) (s : State) : Outcome State Fault Refusal :=
  .next (s.monCmd 0 fun s => if 7 < b then s.answer 3 else (s.setBaud b).answer 0)

/-- BAUDREV (R414): 10 s without a valid line at a new rate. [DEDUCED, log 146] -/
def execBaudrev (s : State) : Outcome State Fault Refusal :=
  .next (if s.mo.newRate && s.powered .core then
      let s1 : State := { s with mo := { s.mo with newRate := false } }
      (s1.put .MON_CFG Fld.MON_CFG_BAUD 0).setFlag .MON_FLAG 4
    else s)

/-- MON_BAD_LINE (R415): nothing is executed. -/
def execMonBadLine (e : MonError) (s : State) : Outcome State Fault Refusal :=
  .next (if s.monServes || s.monLoader then
      match e with
      | .badSyntax => s.answer 1
      | .overflow | .framing => (s.answer 5).setFlag .MON_FLAG 2
    else s)

/-- The unlock of the Lookout ends. -/
def State.lockNow (s : State) : State := s.putBit .MON_STAT 3 false

/-- LK (R417). -/
def execLk (s : State) : Outcome State Fault Refusal := .next (s.monCmd 0 fun s => s.lockNow.answer 0)

/-- UNLOCK_IDLE_EXPIRY (R417). -/
def execUnlockIdleExpiry (s : State) : Outcome State Fault Refusal := .next s.lockNow

/-- LOCKOUT_END (R417). -/
def execLockoutEnd (s : State) : Outcome State Fault Refusal :=
  .next (if s.fld .MON_STAT Fld.MON_STAT_LOCKREM = 0 then s
    else (s.put .MON_STAT Fld.MON_STAT_LOCKREM 0).put .MON_STAT Fld.MON_STAT_FAILS 0)

/-- The secret: OTP rows 96 to 99 as they read. -/
def State.secret (s : State) : List Word := [96, 97, 98, 99].map fun r => (s.otpRead r).1

/-- A response to the challenge: right, or the next of three wrong ones. [DEDUCED, log 142] -/
def State.unlockTry (s : State) (r : Word) : State :=
  let s1 : State := { s with mo := { s.mo with challenge := none } }
  let good := match s.mo.challenge with
    | some c => r == crc32 (bytesOfWords (c :: s.secret))
    | none => false
  if good then (((s1.putBit .MON_STAT 3 true).put .MON_STAT Fld.MON_STAT_FAILS 0).setFlag .MON_FLAG 0).answer 0
  else
    let n := s1.fld .MON_STAT Fld.MON_STAT_FAILS + 1
    let s2 := (s1.put .MON_STAT Fld.MON_STAT_FAILS n).setFlagI .MON_FLAG 1 n 0
    (if 3 ≤ n then s2.put .MON_STAT Fld.MON_STAT_LOCKREM 600 else s2).answer 2

/-- UL (R417): a challenge, whose value is open, or a response. [DESIGN CHOICE, log 68] -/
def execUl (r : Option Word) (s : State) : Outcome State Fault Refusal :=
  .next (s.monCmd 0 fun s =>
    if s.fld .MON_STAT Fld.MON_STAT_LOCKREM ≠ 0 then s.answer 4
    else match r with
    | none =>
      let d := s.draw
      ({ d.2 with mo := { d.2.mo with challenge := some d.1 } } : State).answer 0 [[d.1.toNat]]
    | some w => if s.secret = [0#32, 0#32, 0#32, 0#32] then s.answer 2 else s.unlockTry w)

/-! ### Crossings (R424 to R433) -/

/-- The group of a timed value (Table 21.3), the registers that cross no edge in none. [DEDUCED, log 147] -/
def crossGroup (r : Reg) : Option Nat :=
  match r with
  | .TIM_NOW_LO | .TIM_NOW_HI => some 0
  | .FLW_TXADDR | .FLW_TXRES | .FLW_TXGO | .SVY_CV_DATA _ => none
  | .WDG_T_STAT _ | .RAIL_ONTIME _ | .GAU_AGE | .BKP_WDT | .EVT_QDROP _ => some 3
  | r => if r.block = .lnk ∨ r.block = .flw ∨ r.block = .tim then some 1 else if r.block = .svy then some 2 else none

/-- The host interfaces that LEGACY governs (R429). -/
def State.legacyFor (s : State) (i : Iface) : Bool := s.bit .XNG_CTL 0 && hostIface i

/-- A write of XNG_CTL (R429, R431). -/
def State.wrXngCtl (s : State) (w : Word) : State :=
  if wbit w 0 = s.bit .XNG_CTL 0 then s
  else
    let s1 := (s.writeRw .XNG_CTL w).setFlag .XNG_FLAG 1
    if wbit w 0 then s1
    else ({ s1 with xg := { s1.xg with hold := [] } } : State).clearFlags .XNG_TAKE 0xF#32

/-- A write of XNG_TAKE releases copies (R430). -/
def State.wrXngTake (s : State) (w : Word) : State :=
  let bits := (bitsOf w).filter fun g => g < 4 && s.bit .XNG_TAKE g
  let s1 : State := { s with xg := { s.xg with hold := s.xg.hold.filter fun e => !bits.contains e.1 } }
  s1.clearFlags .XNG_TAKE (w &&& 0xF#32)

/-- LEGACY_WRITE (R429). -/
def execLegacyWrite (_i : Iface) (v : Word) (be : BitVec 4) (s : State) : Outcome State Fault Refusal :=
  .next (s.guardWrite .XNG_CTL fun s => s.wrXngCtl (s.merged .XNG_CTL v be))

/-- TAKE_RELEASE (R430). -/
def execTakeRelease (_i : Iface) (v : Word) (be : BitVec 4) (s : State) : Outcome State Fault Refusal :=
  .next (s.guardWrite .XNG_TAKE fun s => s.wrXngTake (v &&& byteMask be))

/-- A crossing has failed (R428, R432): the flag, the record of it, the fault source. -/
def State.crossFails (s : State) (c : Nat) : State :=
  let s1 := (s.addSat .XNG_STUCKINFO Fld.XNG_STUCKINFO_COUNT 1).put .XNG_STUCKINFO Fld.XNG_STUCKINFO_CROSSING c
  (s1.setFlagI .XNG_FLAG 0 c 0).raise 251 c

/-- XNG_STUCK (R428): a read finds no agreement in 16 attempts; it returns the value the crossing last agreed on. [DEDUCED,
log 149] -/
def execXngStuck (c : Fin 16) (i : Iface) (s : State) : Outcome State Fault Refusal :=
  .next (if s.powered .core && c.val < 5 then
      let s1 := State.deliver i (s.xg.agreed.get c 0#32, s)
      (s1.addSat .XNG_STAT Fld.XNG_STAT_RETRY 1).crossFails c
    else s)

/-- CROSSING_TIMEOUT (R432): a control crossing: 0x8 two-wire, 0x9 UART, 0xA another. -/
def execCrossingTimeout (c : Fin 16) (s : State) : Outcome State Fault Refusal :=
  .next (if s.powered .core && inRange 8 10 c then s.crossFails c else s)

end Sys2Proof.Machine
end

