-- ==== Sys2Proof/Machine/Policy.lean ====
section
/-!
DEFINITION. Policy layer (chapter 9): phase count, derating, feed-forward, the ride-through budget, and the writes
that limit or lock them. Watershed stands in Machine/Switchyard.lean, loop rate shedding in Machine/Loops.lean.
-/

namespace Sys2Proof.Machine

open Host (Outcome)

/-! ### Phase count (R225, R227, R228) -/

/-- The parked stages of a rail that may be unparked: not above TMAX, and 5 °C below it once they have been (R226, R228, R230).
Temperatures are in 0.125 °C units, TMAX in °C. -/
def State.unparkable (s : State) (n : Nat) : List Nat :=
  (s.gang n).filter fun m => s.stgSt m == gParked && decide (if s.po.hot.contains m then s.temp m < s.tmax n - 40 else s.temp m ≤ s.tmax n)

/-- The coolest of a list of stages, the lowest on a tie; the hottest, the highest on a tie. -/
def State.coolest (s : State) (l : List Nat) : Option Nat :=
  l.foldl (fun o m => match o with | some x => if s.temp m < s.temp x then some m else o | none => some m) none
def State.hottest (s : State) (l : List Nat) : Option Nat :=
  l.foldl (fun o m => match o with | some x => if s.temp x ≤ s.temp m then some m else o | none => some m) none

/-- Current of the stages of a rail in RUN or JOIN, in mA, and their number. -/
def State.rotating (s : State) (n : Nat) : List Nat := (s.gang n).filter fun m => s.stgSt m == gRun || s.stgSt m == gJoin
def State.rotCurrent (s : State) (n : Nat) : Rat := (((2 * sumI ((s.rotating n).map s.iavg) : Int)) : Rat)

/-- INOM of a rail in mA. -/
def State.inom (s : State) (n : Nat) : Rat := (250 * s.fld (.POL_R_PHASE n) Fld.POL_R_PHASE_INOM : Nat)

/-- I / N exceeds HIGH % of INOM. -/
def State.phaseHigh (s : State) (n : Nat) : Bool :=
  let k := (s.rotating n).length
  0 < k && decide ((s.fld (.POL_R_PHASE n) Fld.POL_R_PHASE_HIGH : Rat) * s.inom n * (k : Rat) < 100 * s.rotCurrent n)

/-- I / (N − 1) is below LOW % of INOM. -/
def State.phaseLow (s : State) (n : Nat) : Bool :=
  let k := (s.rotating n).length
  1 < k && decide (100 * s.rotCurrent n < (s.fld (.POL_R_PHASE n) Fld.POL_R_PHASE_LOW : Rat) * s.inom n * ((k - 1 : Nat) : Rat))

/-- Derating wants a stage in this evaluation, before phase count (R226). [DEDUCED, log 183] -/
def State.derateWants (s : State) (n m : Nat) : Bool :=
  s.bit (.POL_R_DER n) 31 && !s.bit .POL_LOCK 3 && decide (s.tmax n ≤ s.temp m)

/-- Phase count parks a stage of a rail, where R227 lets it. -/
def State.phasePark (s : State) (n : Nat) : State :=
  match s.hottest ((s.gang n).filter s.parkable) with
  | none => s
  | some m =>
    let stay := (s.rotating n).filter (· != m)
    if s.fld (.POL_R_PHASE n) Fld.POL_R_PHASE_MINPH ≤ stay.length ∧ s.rotCurrent n < 8 * sumR (stay.map s.effVlim) / 10 ∧
        s.derateWants n m = false then s.park m 1
    else s

/-- Counts of evaluations in a row of a rail. -/
def State.putPhase (s : State) (n h l : Nat) : State :=
  { s with po := { s.po with phHigh := s.po.phHigh.set n h, phLow := s.po.phLow.set n l } }

/-- Phase count decides on one rail: two evaluations in a row span 1 ms, eleven span 10 ms; after a suspension they count
afresh (R226, R227). [DEDUCED, log 183] -/
def State.phaseCount (s0 : State) (n : Nat) : State :=
  if !s0.bit (.POL_R_PHASE n) 19 || s0.polSuspended n then s0.putPhase n 0 0
  else
    let h := if s0.phaseHigh n then s0.po.phHigh.get n 0 + 1 else 0
    let l := if s0.phaseLow n then s0.po.phLow.get n 0 + 1 else 0
    let s := s0.putPhase n h l
    if s.gangMoving n then s
    else if 2 ≤ h || (s.gang n).any (fun m => s.fld (.STG_STATE m) Fld.STG_STATE_VLIMACT == 1) then
      match s.coolest ((s.unparkable n).filter fun m => decide (s.temp m < s.tmax n)) with
      | some m => s.unpark m 1
      | none => s
    else if 11 ≤ l then s.phasePark n else s

/-- The PHASE lock acts at its first evaluation: every parked stage of the rails that are ON is unparked once, in ascending
order, one at an evaluation as no other park or unpark of its gang is in progress (R225 to R227). [DEDUCED, log 82] -/
def State.phaseLock (s : State) : State :=
  let s1 : State := if s.po.lockSeen then s else { s with po := { s.po with lockSeen := true, lockRails := (List.range 16).filter fun n => s.railSt n == rOn } }
  let ready := s1.po.lockRails.filter fun n => !s1.polSuspended n && !s1.gangMoving n
  let s2 := each ready (fun n s => match s.unparkable n with
    | m :: _ => s.unpark m 3
    | [] => s) s1
  { s2 with po := { s2.po with lockRails := s2.po.lockRails.filter fun n => !ready.contains n || 1 < (s1.unparkable n).length } }

/-- PHASE_COUNT_EVAL (R227): every 1 ms, with fresh stage measurements. -/
def execPhaseCountEval (meas : List StageMeas) (s0 : State) : Outcome State Fault Refusal :=
  .next (
    let s := s0.measure meas
    if !s.policyWorks then s
    else if s.bit .POL_LOCK 0 then ({ s with po := { s.po with phHigh := [], phLow := [] } } : State).phaseLock
    else each (List.range 16) (fun n s => s.phaseCount n) { s with po := { s.po with lockSeen := false, lockRails := [] } })

/-! ### Derating (R229, R230) -/

/-- A factor moves past a multiple of 10 %, or leaves or reaches 100 %. -/
def derMark (old new : Rat) : Bool :=
  (List.range 10).any fun i =>
    let k : Rat := ((10 * (i + 1) : Nat) : Rat)
    if k = 100 then (decide (old = k) && decide (new < k)) || (decide (old < k) && decide (new = k))
    else (decide (k < old) && decide (new ≤ k)) || (decide (old < k) && decide (k ≤ new))

/-- The target factor of a temperature in %. [DEDUCED, log 84] -/
def State.derTarget (s : State) (n : Nat) (t : Int) : Rat :=
  let lo := 8 * toSigned 8 (s.fld (.POL_R_DER n) Fld.POL_R_DER_TDER)
  let hi := s.tmax n
  let fmin : Rat := (s.fld (.POL_R_DER n) Fld.POL_R_DER_FMIN : Rat)
  if t ≤ lo then 100 else if hi ≤ t then fmin else 100 - (100 - fmin) * ((t - lo : Int) : Rat) / ((hi - lo : Int) : Rat)

/-- Derating moves DERF of one rail by at most 1 %. [DEDUCED, log 84] -/
def State.derate (s : State) (n : Nat) : State :=
  match s.hottest (s.inRotation n) with
  | none => s
  | some m =>
    if !s.bit (.POL_R_DER n) 31 || s.polSuspended n then s
    else
      let old := s.po.derf.get n 100
      let f := s.derTarget n (s.temp m)
      let new := if f < old - 1 then old - 1 else if old + 1 < f then old + 1 else f
      let s1 : State := { s with po := { s.po with derf := s.po.derf.set n new } }
      let s2 := s1.put (.POL_R_STATE n) Fld.POL_R_STATE_DERF (roundOpen new).toNat
      if derMark old new then s2.message 99 (polInfo n 0xFF) 2 else s2

/-- DERATE_EVAL (R229): every 1 ms, with fresh stage measurements. -/
def execDerateEval (meas : List StageMeas) (s : State) : Outcome State Fault Refusal :=
  .next (if !s.policyWorks || s.bit .POL_LOCK 3 then s.measure meas
    else each (List.range 16) (fun n s => s.derate n) (s.measure meas))

/-- OT_PARK (R230): a stage in rotation has stayed at or above TMAX for 10 ms. A park waits while another park or unpark of
the gang is in progress (R227). -/
def execOtPark (m : Fin 24) (s : State) : Outcome State Fault Refusal :=
  .next (
    let n := s.stgRail m
    if n < 16 && s.policyWorks && s.bit (.POL_R_DER n) 31 && !s.bit .POL_LOCK 3 && !s.polSuspended n &&
        (s.inRotation n).contains m.val && decide (s.tmax n ≤ s.temp m) then
      if s.parkable m then if s.gangMoving n then s else s.park m 2
      else if (s.gang n).any s.parkable then s
      else (s.live (136 + n) true).raise (136 + n) 0
    else s)

/-! ### Feed-forward (R231) -/

/-- One evaluation of a rail's feed-forward: 10 in a row above FFRIP damp, 100 in a row below half of it undamp. Without
FFEN or under a suspension no evaluation is made, and the counts begin afresh (R226). -/
def State.ffwd (s : State) (i : FfwdIn) : State :=
  let n := i.rail.val
  if !s.bit (.POL_R_CFG n) 31 || s.polSuspended n then
    { s with po := { s.po with ffAbove := s.po.ffAbove.set n 0, ffBelow := s.po.ffBelow.set n 0 } }
  else
    let lim := 10 * s.fld (.POL_R_CFG n) Fld.POL_R_CFG_FFRIP
    let a := if lim < i.ripple then s.po.ffAbove.get n 0 + 1 else 0
    let b := if 2 * i.ripple < lim then s.po.ffBelow.get n 0 + 1 else 0
    let s1 : State := { s with po := { s.po with ffAbove := s.po.ffAbove.set n a, ffBelow := s.po.ffBelow.set n b } }
    if s1.bit (.POL_R_STATE n) 8 then if 100 ≤ b then s1.ffMode n false else s1
    else if 10 ≤ a ∧ i.waited = true then s1.ffMode n true else s1

/-- FFWD_EVAL (R231): every 1 ms. -/
def execFfwdEval (l : List FfwdIn) (s : State) : Outcome State Fault Refusal :=
  .next (if !s.policyWorks then s
    else if s.bit .POL_LOCK 2 then { s with po := { s.po with ffAbove := [], ffBelow := [] } }
    else each l (fun i s => s.ffwd i) s)

/-! ### Ride-through (R232 to R235) -/

/-- A rail is deferred by the ride-through budget: its domain is RELOADING, or it is blocked (R226, R235). -/
def State.rideDeferred (s : State) (n : Nat) : Bool := s.underReload (s.railDom n) || s.polBlocked n

/-- The rail the budget sheds next: ON, PRIO not 0, ungrouped or in a group that is UP, not deferred; the highest
PRIO, then the highest number. -/
def State.shedNext (s : State) : Option Nat :=
  let prio := fun n => s.fld (.POL_R_CFG n) Fld.POL_R_CFG_PRIO
  (allRails.filter fun n => prio n != 0 && s.railSt n == rOn && !s.rideDeferred n &&
    (match s.railGroup n with | some g => s.groupSt g == 2 | none => true)).foldl
    (fun o n => match o with | some x => if prio x ≤ prio n then some n else o | none => some n) none

/-- Shed one rail, or tell that none qualifies (R233, R234). -/
def State.rideShed (s : State) : State :=
  match s.shedNext with
  | some n =>
    let s1 := ((s.railOff n).putBit .POL_RIDESHED n true).put (.POL_R_STATE n) Fld.POL_R_STATE_SHED 1
    let s2 : State := { s1 with po := { s1.po with shed := n :: s1.po.shed.filter (· != n), wait := some (n, false) } }
    (s2.setFlag .POL_FLAG 1).message 100 (polInfo n 0xFF) 4
  | none => if s.bit .POL_STATUS 3 then s else (s.putBit .POL_STATUS 3 true).setFlagI .POL_FLAG 3 0 4

/-- A time in s as POL_RIDEPRED shows it. -/
def secShown (q : Rat) : Nat := min 0xFFFF (roundOpen q).toNat

/-- The shed rail waited for: whether this evaluation's window follows its reaching OFF. One that an on request has brought
back is not waited for. [DEDUCED, log 83] -/
def State.rideWait (s : State) : Bool × State :=
  match s.po.wait with
  | none => (true, s)
  | some (n, seen) =>
    if seen then (true, { s with po := { s.po with wait := none } })
    else if s.railSt n == rOff || s.railSt n == rLatched || !s.bit .POL_RIDESHED n then (false, { s with po := { s.po with wait := some (n, true) } })
    else (false, s)

/-- RIDE_EVAL (R232 to R234): every 250 ms in an episode. -/
def execRideEval (r : RideIn) (s : State) : Outcome State Fault Refusal :=
  .next (if !s.bit .POL_STATUS 0 || !s.policyWorks then s
    else if s.fld .GAU_SOC Fld.GAU_SOC_VALID = 0 then
      if s.bit .POL_STATUS 2 then s else (s.putBit .POL_STATUS 2 true).setFlagI .POL_FLAG 2 0 4
    else
      let q : Rat := (s.ga.acc : Rat) - s.ga.err
      let qav := if q < 0 then 0 else q
      let idis := -r.ibat
      let tpred : Rat := if idis ≤ 0 then 0xFFFF else qav / (1000 * (idis : Rat))
      let tleft : Rat := (s.fld .POL_RIDE Fld.POL_RIDE_THOLD : Rat) - r.time
      let s1 := (s.put .POL_RIDEPRED Fld.POL_RIDEPRED_TPRED (secShown tpred)).put .POL_RIDEPRED Fld.POL_RIDEPRED_TLEFT (secShown tleft)
      let s2 : State := if 0 < tleft then s1 else { s1 with po := { s1.po with rideOver := true } }
      let w := s2.rideWait
      let margin : Rat := (s.fld .POL_RIDE Fld.POL_RIDE_MARGIN : Rat) / 100
      if s2.po.rideOver = false ∧ tpred < tleft * (1 + margin) ∧ w.1 = true ∧ s.bit .POL_LOCK 4 = false then w.2.rideShed else w.2)

/-- Restore the shed rails, the last one first, up to one whose request is issued; a rail that is ON is passed, one that is
deferred keeps the rest waiting (R226). [DEDUCED, log 82] -/
def State.restoreFrom (s : State) : List Nat → State
  | [] => ({ s with po := { s.po with restoring := none } } : State).putBit .POL_STATUS 1 false
  | n :: t =>
    if s.railSt n = rOn then (s.unshed n).restoreFrom t
    else if s.rideDeferred n then { s with po := { s.po with restoring := none } }
    else
      let s1 := s.unshed n
      let s2 := match s1.railGroup n with
        | some g => s1.groupOn g
        | none => s1.railOn n
      ({ s2 with po := { s2.po with restoring := some n } } : State).message 101 (polInfo n 0xFF) 4

/-- RIDE_EPISODE_END (R232, R234, R235): the path has been SOURCE for RESTDLY. -/
def execRideEpisodeEnd (s : State) : Outcome State Fault Refusal :=
  .next (if s.bit .POL_STATUS 0 && s.fld .BKP_STATUS Fld.BKP_STATUS_PATH == 1 then
      let s1 := ((s.putBit .POL_STATUS 0 false).putBit .POL_STATUS 2 false).putBit .POL_STATUS 3 false
      let s2 := (s1.put .POL_RIDEPRED Fld.POL_RIDEPRED_TLEFT 0).putBit .POL_STATUS 1 (!s1.po.shed.isEmpty)
      if s2.bit .POL_LOCK 4 then s2 else s2.restoreFrom s2.po.shed
    else s)

/-- The rerun of a group has not come past the step of a rail yet. -/
def State.rerunBefore (s : State) (n : Nat) : Bool :=
  match s.railGroup n with
  | some g =>
    s.groupSt g == 1 && (s.railStep g n).any fun j =>
      s.fld (.TTB_G_STATUS g) Fld.TTB_G_STATUS_STEP < j || (s.fld (.TTB_G_STATUS g) Fld.TTB_G_STATUS_STEP == j && !(s.grpX g).holdOver)
  | none => false

/-- The rail being restored has PG, or its request was refused or its start failed; a request that is held has not run. -/
def State.restoreDone (s : State) : Bool :=
  match s.po.restoring with
  | none => true
  | some n => s.bit (.RAIL_STATUS n) 4 || !(s.railSt n == rOnDelay || s.railSt n == rStart || s.railSt n == rRampUp || s.railSt n == rOn ||
      s.bit (.RAIL_STATUS n) 5 || s.rerunBefore n)

/-- POL_RIDE_RESTORE (R235): the next shed rail is restored. [DEDUCED, log 82] -/
def execPolRideRestore (s : State) : Outcome State Fault Refusal :=
  .next (if s.policyWorks && s.bit .POL_STATUS 1 && !s.bit .POL_LOCK 4 && s.restoreDone then s.restoreFrom s.po.shed else s)

/-! ### Writes -/

/-- POL_LOCK_WRITE (R225): the bits act at the next evaluations. -/
def execPolLockWrite (_i : Iface) (v : Word) (be : BitVec 4) (s : State) : Outcome State Fault Refusal :=
  .next (s.guardWrite .POL_LOCK fun s => s.plainWrite .POL_LOCK (s.merged .POL_LOCK v be))

/-- A write of POLnn_PHASE or POLnn_DER (R236). -/
def State.wrPolPhase (s : State) (n : Nat) (w : Word) : State :=
  let lo := getF w Fld.POL_R_PHASE_LOW
  if inRange 10 90 lo && inRange (lo + 10) 100 (getF w Fld.POL_R_PHASE_HIGH) && inRange 1 8 (getF w Fld.POL_R_PHASE_MINPH) then
    s.writeRw (.POL_R_PHASE n) w
  else s
def State.wrPolDer (s : State) (n : Nat) (w : Word) : State :=
  if toSigned 8 (getF w Fld.POL_R_DER_TMAX) < toSigned 8 (getF w Fld.POL_R_DER_TDER) + 5 ∨ inRange 10 100 (getF w Fld.POL_R_DER_FMIN) = false then s
  else s.writeRw (.POL_R_DER n) w

/-- POL_LIMIT_WRITE (R236). -/
def execPolLimitWrite (_i : Iface) (phase : Bool) (n : Fin 20) (v : Word) (be : BitVec 4) (s : State) : Outcome State Fault Refusal :=
  .next (if phase then s.guardWrite (.POL_R_PHASE n) fun s => s.wrPolPhase n (s.merged (.POL_R_PHASE n) v be)
    else s.guardWrite (.POL_R_DER n) fun s => s.wrPolDer n (s.merged (.POL_R_DER n) v be))

/-- A write of POL_RIDE: MARGIN above 100 leaves MARGIN. -/
def State.wrRide (s : State) (w : Word) : State :=
  s.writeRw .POL_RIDE (if getF w Fld.POL_RIDE_MARGIN ≤ 100 then w else putF w Fld.POL_RIDE_MARGIN (s.fld .POL_RIDE Fld.POL_RIDE_MARGIN))

/-- What POLnn_STATE reads: PARKED counts the parked stages of the gang. -/
def State.rdPolState (s : State) (n : Nat) : Word :=
  putF (s.rd (.POL_R_STATE n)) Fld.POL_R_STATE_PARKED ((s.gang n).filter fun m => s.stgSt m == gParked).length

end Sys2Proof.Machine
end

