-- ==== Sys2Proof/Machine/Survey.lean ====
section
/-!
DEFINITION. Survey converters (chapter 6): the tap table, software scans with their data register and DMA ring, the
common trigger, and calibration. What a conversion measures and what background correction would need are operands of its
result.
-/

namespace Sys2Proof.Machine

open Host (Outcome)

/-- Hidden state of a converter. -/
def State.conv (s : State) (x : Nat) : ConvX := s.sv.convs.get x {}
def State.putConv (s : State) (x : Nat) (c : ConvX) : State := { s with sv := { s.sv with convs := s.sv.convs.set x c } }

/-- MODE of a converter, and the channels of its scan in ascending order. -/
def State.cvMode (s : State) (x : Nat) : Nat := s.fld (.SVY_CV_CTL x) Fld.SVY_CV_CTL_MODE
def State.cvMask (s : State) (x : Nat) : List Nat := bitsOf (s.rd (.SVY_CV_MASK x))

/-- A converter is calibrating (R169). -/
def State.calibrating (s : State) (x : Nat) : Bool := s.bit .SVY_STATUS (4 + x)

/-- A channel has an input (Table 06.2). -/
def chanUsed (x ch : Nat) : Bool := !(x == 2 && 7 ≤ ch && ch ≤ 29)

/-! ### Scans (R173) -/

/-- A converter starts a scan of its MASK; with MASK = 0 none runs. [DESIGN CHOICE, log 70] -/
def State.beginScan (s : State) (x : Nat) : State :=
  let c := s.conv x
  if s.cvMask x = [] then s
  else s.putConv x { c with left := s.cvMask x, first := true, scan := (c.scan + 1) % 256 }

/-- A converter can start a scan: none runs and it does not calibrate. -/
def State.scanIdle (s : State) (x : Nat) : Bool := (s.conv x).left.isEmpty && !s.calibrating x

/-- A write of SVY_CVx_CTL (R173, R174): MODE 0b00 ends the scan after the conversion in progress, leaving it clears
OVRCNT, START asks for one scan in MODE 0b10. [DEDUCED, log 71] -/
def State.wrCvCtl (s : State) (x : Nat) (w : Word) : State :=
  let old := s.cvMode x
  let s1 := s.writeRw (.SVY_CV_CTL x) w
  let c := s1.conv x
  let new := s1.cvMode x
  let s2 := if new = 0 then s1.putConv x { c with left := c.left.take 1, starts := 0 }
    else if new = 2 then s1 else s1.putConv x { c with starts := 0 }
  let s3 := if old = 0 ∧ new ≠ 0 then s2.put (.SVY_CV_STAT x) Fld.SVY_CV_STAT_OVRCNT 0 else s2
  if wbit w 31 && new == 2 then
    if s3.scanIdle x then s3.beginScan x else s3.putConv x { s3.conv x with starts := (s3.conv x).starts + 1 }
  else s3

/-- SCAN_START (R173): a continuous scan, or one that START asked for while the converter was busy. [DEDUCED, log 71] -/
def execScanStart (x : Fin 3) (s : State) : Outcome State Fault Refusal :=
  .next (if s.powered .adc && s.scanIdle x then
      if s.cvMode x = 1 then s.beginScan x
      else if s.cvMode x = 2 ∧ 0 < (s.conv x).starts then
        (s.putConv x { s.conv x with starts := (s.conv x).starts - 1 }).beginScan x
      else s
    else s)

/-- START (R173): a write of SVY_CVx_CTL with START = 1 and its other fields as they stand. [DEDUCED, log 71] -/
def execStart (_i : Iface) (x : Fin 3) (s : State) : Outcome State Fault Refusal :=
  .next (s.guardWrite (.SVY_CV_CTL x) fun s => s.wrCvCtl x (wputBit (s.rd (.SVY_CV_CTL x)) 31 true))

/-! ### Results -/

/-- Read SVY_CVx_DATA: NEW and OVR clear (R7, R174). -/
def State.rdCvData (s : State) (x : Nat) : Word × State :=
  (s.rd (.SVY_CV_DATA x), s.wr (.SVY_CV_DATA x) (s.rd (.SVY_CV_DATA x) &&& 0x3FFFFFFF#32))

/-- The DMA channel takes the data register (R175, R176): into the ring, dropped when the ring is full, or halted by
an encoding error (R297, R298). [DEDUCED, log 73] -/
def State.ringPut (s : State) (x : Nat) (encBad : Bool) : State :=
  let w := (s.rdCvData x).1
  let s1 := (s.rdCvData x).2
  let len := s.fld (.SVY_CV_DMA_CFG x) Fld.SVY_CV_DMA_CFG_LEN
  let wp := s.fld (.SVY_CV_DMA_PTR x) Fld.SVY_CV_DMA_PTR_WPTR
  let a := (s.rd (.SVY_CV_DMA_BASE x)).toNat + 4 * wp
  if (wp + 1) % len = s.fld (.SVY_CV_DMA_PTR x) Fld.SVY_CV_DMA_PTR_RPTR then
    (s1.addSat (.SVY_CV_STAT x) Fld.SVY_CV_STAT_DROPCNT 1).setFlag (.SVY_CV_FLAG x) 1
  else if encBad then
    let s2 := (s.sramUe a 1 1 0#7).putBit (.SVY_CV_DMA_CFG x) 31 false
    ((s2.putBit (.SVY_CV_DMA_CFG x) 30 true).setFlag (.SVY_CV_FLAG x) 2).dmaHalt x 1
  else
    let s2 := if a < sramEnd then s1.sramWrite a w else s1
    s2.put (.SVY_CV_DMA_PTR x) Fld.SVY_CV_DMA_PTR_WPTR ((wp + 1) % len)

/-- A scan result reaches the data register (R174), and the DMA channel takes it. [DEDUCED, log 73] -/
def State.scanResult (s : State) (x ch : Nat) (code : BitVec 16) (encBad : Bool) : State :=
  let c := s.conv x
  let s0 := s.putConv x { c with left := c.left.drop 1, first := false }
  let unread := s0.bit (.SVY_CV_DATA x) 31
  let w := BitVec.ofNat 32 (2 ^ 31 + 2 ^ 30 * b2n (unread || s0.bit (.SVY_CV_DATA x) 30) + 2 ^ 29 * b2n c.first + 2 ^ 24 * ch +
    2 ^ 16 * c.scan + code.toNat)
  let s1 := s0.wr (.SVY_CV_DATA x) w
  let s2 := if unread then (s1.addSat (.SVY_CV_STAT x) Fld.SVY_CV_STAT_OVRCNT 1).setFlag (.SVY_CV_FLAG x) 0 else s1
  if s2.bit (.SVY_CV_DMA_CFG x) 31 then s2.ringPut x encBad else s2

/-- Factors of a converter's four slices. -/
def State.putFactors (s : State) (x : Nat) (l : List Word) : State :=
  each (List.range 4) (fun k s =>
    (s.wr (.SVY_CV_SL_OG x k) (l.getD (2 * k) 0#32)).wr (.SVY_CV_SL_SK x k) (l.getD (2 * k + 1) 0#32 &&& 0xFFFF#32)) s

/-- A factor held at 75 % of its field's range (R167). [DEDUCED, log 177] -/
def heldFactor (i : Int) : Int := clampI (-24576) 24576 i

/-- The factor words of a converter from offset, gain and skew of each slice. -/
def factorWords (l : List Int) : List Word :=
  (List.range 4).flatMap fun k =>
    let f (j : Nat) : Nat := ofSigned 16 (heldFactor (l.getD (3 * k + j) 0))
    [BitVec.ofNat 32 (65536 * f 0 + f 1), BitVec.ofNat 32 (f 2)]

/-- The code of a REF conversion differs from its trimmed value by more than 0.2 % (R167). -/
def refOff (x c : Nat) : Bool := decide (Config.refCode x < 500 * ((c : Int) - (Config.refCode x : Int)).natAbs)

/-- Background correction after a conversion (R166, R167). -/
def State.correctBack (s : State) (x : Nat) (r : ConvResult) : State :=
  let s3 := match r.factors with
    | none => s
    | some l =>
      let s1 := s.putFactors x (factorWords l)
      let beyond := l.any fun i => heldFactor i != i
      let up := beyond && !s1.bit (.FLT_LIVE ((220 + x) / 32)) ((220 + x) % 32)
      let s2 := s1.live (220 + x) beyond
      if up then (s2.setFlag (.SVY_CV_FLAG x) 4).raise (220 + x) 0 else s2
  if r.ch.val = 30 ∧ refOff x r.code.toNat = true then (s3.setFlag (.SVY_CV_FLAG x) 3).raise (223 + x) 0
  else if r.ch.val = 31 ∧ 50 < (toSigned 16 r.code.toNat).natAbs then (s3.setFlag (.SVY_CV_FLAG x) 3).raise (223 + x) 1
  else s3

/-- A write of SVY_CVx_FLAG: CORR stays while a factor is held at its limit (R7, R167). -/
def State.wrCvFlag (s : State) (x : Nat) (w : Word) : State :=
  s.clearFlagsBut (.SVY_CV_FLAG x) (w &&& Reg.w1c (.SVY_CV_FLAG x))
    (if s.bit (.FLT_LIVE ((220 + x) / 32)) ((220 + x) % 32) then 0x10#32 else 0#32)

/-! ### The claims on the positions (R160 to R165) -/

/-- The channels of a converter's house rotation, ascending (R165). [DEDUCED, log 178] -/
def State.houseChans (s : State) (x : Nat) : List Nat :=
  match x with
  | 0 => (allRails.filter fun n => s.railSt n != rOff) ++ [20, 21, 22, 23, 29, 30, 31]
  | 1 => (allStages.filter fun m => s.stgRail m < 16) ++ (if s.fld .BKP_BATCFG Fld.BKP_BATCFG_NCELL = 0 then [] else [24]) ++
      [25, 30, 31]
  | _ => [0, 1, 2, 30, 31]

/-- The rails whose sense channel has just joined, the first to leave OFF first. -/
def State.joining (s : State) : List Nat := ((s.sv.joined.filter fun e => s.railSt e.1 != rOff).map (·.1)).reverse

/-- The channel the next house position converts: one that has just joined, else the next in ascending order, wrapping. -/
def State.nextHouse (s : State) (x : Nat) : Nat :=
  match (if x = 0 then s.joining else []) with
  | n :: _ => n
  | [] =>
    let l := s.houseChans x
    (l.find? fun c => (s.conv x).house < c).getD (l.headD 31)

/-- Sampling instant of a result that becomes available now, 280 ns before, in ticks of the local clock (R159). -/
def State.sampledAt (s : State) : Nat := s.clock.localTicks.toNat - 70

/-- A tap conversion is at its position before the trigger that follows it (R163). -/
def State.tapPlaced (s : State) (x ch : Nat) : Bool :=
  let t := s.sampledAt / 250 + 1
  s.tapLead x ch t == some (250 * t - s.sampledAt)

/-- What a conversion moves in the schedule of its claim. -/
def State.claimMoves (s : State) (x ch : Nat) (c : Claim) : State :=
  let v := s.conv x
  match c with
  | .tap => if s.tapPlaced x ch then s.putConv x { v with tapped := v.tapped.set ch s.sampledAt } else s
  | .house => if s.nextHouse x = ch ∧ (x ≠ 0 ∨ ch ∉ s.joining) then s.putConv x { v with house := ch } else s
  | _ => s

/-- The sense channel of a rail has been converted: an entry sampled since the rail left OFF lets a rail in START go on
(R165). -/
def State.senseJoins (s : State) (n : Nat) : State :=
  match s.sv.joined.lookup n with
  | some t =>
    if t ≤ s.sampledAt then
      let s1 : State := { s with sv := { s.sv with joined := s.sv.joined.filter fun e => e.1 != n } }
      if s1.railSt n = rStart then s1.startGo n else s1
    else s
  | none => s

/-- The temperature of a stage follows its channel of converter B (R161). -/
def State.stageWarm (s : State) (m : Nat) : State :=
  let p := s.thermal (s.stageTemp m) 8 12
  (p.2.put (.STG_MEAS m) Fld.STG_MEAS_TEMP (ofSigned 12 p.1)).hotMark m

/-- What the readers of the tap table make of a new entry (R161, R162, R165), BKP_MEAS among them. -/
def State.tapRead (s : State) (x ch : Nat) : State :=
  match x with
  | 0 => if ch < 20 then s.senseJoins ch else if ch = 20 then s.vinSeen else s
  | 1 => if ch < 24 && s.powered .stg then s.stageWarm ch else s
  | _ =>
    if !s.powered .chg then s
    else if ch = 0 then s.showIbat (s.tap 2 0)
    else if ch = 1 then s.put .BKP_MEAS Fld.BKP_MEAS_ICHGM (clampI 0 65535 (shuntMa (s.tap 2 1) s.rchg)).toNat
    else s

/-- CONVERSION_RESULT (R162, R166, R174). [DESIGN CHOICE, log 4] -/
def execConversionResult (x : Fin 3) (r : ConvResult) (s : State) : Outcome State Fault Refusal :=
  .next (if s.powered .adc && chanUsed x r.ch then
      let s1 := ((s.claimMoves x r.ch r.claim).wr (.SVY_CV_TAP x r.ch) (r.code.zeroExtend 32)).tapRead x r.ch
      let s2 := s1.correctBack x r
      if r.scan && (s2.conv x).left.head? == some r.ch.val then s2.scanResult x r.ch r.code r.encBad else s2
    else s)

/-! ### The DMA ring (R175, R176) -/

/-- The ring of a converter may be started: inside SRAM, its length in range, clear of the event queues. -/
def State.ringOk (s : State) (x len : Nat) : Bool :=
  let a := (s.rd (.SVY_CV_DMA_BASE x)).toNat
  inRange 16 16384 len && a % 4 == 0 && a + 4 * len ≤ sramEnd &&
  (List.range 3).all fun q =>
    let b := s.recAddr q 0
    a + 4 * len ≤ b || b + 16 * s.fld (.EVT_QSIZE q) Fld.EVT_QSIZE_SIZE ≤ a

/-- A write of SVY_CVx_DMA_CFG. EN counts as set, with its effects on WPTR and DROPCNT, when it was 0: a write of 1 to a
channel that runs stores LEN alone. [DEDUCED, log 179] -/
def State.wrDmaCfg (s : State) (x : Nat) (w : Word) : State :=
  if wbit w 31 then
    if s.ringOk x (getF w Fld.SVY_CV_DMA_CFG_LEN) then
      if s.bit (.SVY_CV_DMA_CFG x) 31 then s.writeRw (.SVY_CV_DMA_CFG x) w
      else
        let s1 := (s.writeRw (.SVY_CV_DMA_CFG x) w).putBit (.SVY_CV_DMA_CFG x) 30 false
        let s2 := s1.put (.SVY_CV_DMA_PTR x) Fld.SVY_CV_DMA_PTR_WPTR (s1.fld (.SVY_CV_DMA_PTR x) Fld.SVY_CV_DMA_PTR_RPTR)
        (s2.put (.SVY_CV_STAT x) Fld.SVY_CV_STAT_DROPCNT 0).dmaRestart x
    else s.setFlag (.SVY_CV_FLAG x) 1
  else s.writeRw (.SVY_CV_DMA_CFG x) w

/-- DMA_ENABLE (R176). -/
def execDmaEnable (_i : Iface) (x : Fin 3) (v : Word) (be : BitVec 4) (s : State) : Outcome State Fault Refusal :=
  .next (s.guardWrite (.SVY_CV_DMA_CFG x) fun s => s.wrDmaCfg x (s.merged (.SVY_CV_DMA_CFG x) v be))

/-- A write of SVY_CVx_DMA_PTR: RPTR of LEN or more is ignored. -/
def State.wrDmaPtr (s : State) (x : Nat) (w : Word) : State :=
  if getF w Fld.SVY_CV_DMA_PTR_RPTR < s.fld (.SVY_CV_DMA_CFG x) Fld.SVY_CV_DMA_CFG_LEN then s.writeRw (.SVY_CV_DMA_PTR x) w
  else s

/-! ### Slice factors (R172) -/

/-- A write of SVY_CVx_SLk_OG or SVY_CVx_SLk_SK. -/
def State.wrFactor (s : State) (x : Nat) (r : Reg) (w : Word) : State :=
  if s.cvMode x = 0 ∧ s.calibrating x = false then s.writeRw r w else s.setFlagI .SVY_FLAG 0 x 0

/-- SLICE_FACTOR_WRITE (R172). -/
def execSliceFactorWrite (_i : Iface) (x : Fin 3) (k : Fin 4) (skew : Bool) (v : Word) (be : BitVec 4) (s : State) :
    Outcome State Fault Refusal :=
  let r : Reg := if skew then .SVY_CV_SL_SK x k else .SVY_CV_SL_OG x k
  .next (s.guardWrite r fun s => s.wrFactor x r (s.merged r v be))

/-! ### The common trigger (R177, R178) -/

/-- A tap conversion of one of the converters takes the issue position that begins `p` ticks into the local clock (R160). -/
def State.tapTakes (s : State) (xs : List Nat) (p : Nat) : Bool :=
  let t := p / 250 + 1
  xs.any fun x => decide (75 ≤ 250 * t - p) && decide (250 * t - p < 75 + 25 * (s.tapOrder x t).length)

/-- The gauge conversion takes the issue position that begins `p` ticks into the local clock (R160, R179). -/
def State.gaugeTakes (s : State) (p : Nat) : Bool :=
  match s.sv.gaugeAt with
  | some g => g ≤ p && (p - g) % 62500 == 0
  | none => false

/-- Ticks from a trigger to its shared issue position: the first that is free on every converter that takes part (R160,
R178). -/
def State.triggerDelay (s : State) (xs : List Nat) : Nat :=
  let now := s.clock.localTicks.toNat
  let first := (now + 24) / 25 * 25
  let free := ((List.range 5).map fun i => first + 25 * i).find? fun p => !s.tapTakes xs p && !s.gaugeTakes p
  free.getD first - now

/-- The time stamp a number of ticks from now. -/
def State.stampIn (s : State) (d : Nat) : Stamp :=
  if s.powered .link then { time := (each (List.range d) (fun _ s => s.stationTick) s).clock.station, isLocal := false }
  else { time := s.clock.localTicks + BitVec.ofNat 64 d, isLocal := true }

/-- A common trigger: every converter in MODE 0b11 that does not calibrate starts its scan at one instant, or misses
the trigger in its previous scan. SVY_TSTAMP takes the sampling instant. [DEDUCED, log 73] -/
def State.trigger (s : State) : State :=
  let part := (List.range 3).filter fun x => s.cvMode x == 3 && !s.calibrating x && !(s.cvMask x).isEmpty
  let served := part.filter fun x => (s.conv x).left.isEmpty
  let s1 := each part (fun x s => if (s.conv x).left.isEmpty then s.beginScan x else s.setFlag (.SVY_CV_FLAG x) 5) s
  if served = [] then s1
  else
    let t := s1.stampIn (s1.triggerDelay served)
    ((s1.wr .SVY_TSTAMP_LO (timeLo t.time)).wr .SVY_TSTAMP_HI (timeHi t.time)).putBit .SVY_STATUS 8 t.isLocal

/-- COMMON_TRIGGER (R177): a tick of the PERIOD grid. -/
def execCommonTrigger (s : State) : Outcome State Fault Refusal :=
  .next (if s.powered .adc && s.fld .SVY_TRIG Fld.SVY_TRIG_SRC == 1 && s.fld .SVY_TRIG Fld.SVY_TRIG_PERIOD != 0 then s.trigger else s)

/-- A write of SVY_TRIG: SRC 0b11 stores 0b00, FIRE makes one trigger with SRC = 0b10. A PERIOD above 1 000 000 is stored as
it is written. [DEDUCED, log 180] -/
def State.wrTrig (s : State) (w0 : Word) : State :=
  let w := if getF w0 Fld.SVY_TRIG_SRC = 3 then putF w0 Fld.SVY_TRIG_SRC 0 else w0
  let s1 := s.writeRw .SVY_TRIG w
  if wbit w 29 && s1.fld .SVY_TRIG Fld.SVY_TRIG_SRC == 2 then s1.trigger else s1

/-- FIRE (R177): a write of SVY_TRIG with FIRE = 1 and its other fields as they stand. -/
def execFire (_i : Iface) (s : State) : Outcome State Fault Refusal :=
  .next (s.guardWrite .SVY_TRIG fun s => s.wrTrig (wputBit (s.rd .SVY_TRIG) 29 true))

/-! ### Calibration (R168 to R171) -/

/-- The next converter of a run begins: its scan is dropped, CALBUSY shows it; after the last one the run ends, a
command with the converters finished in DETAIL. -/
def State.calNext (s : State) (r : CalRun) : State :=
  match r.todo with
  | [] =>
    let s1 : State := { s with sv := { s.sv with cal := none } }
    s1.complete r.slot 0 r.done
  | x :: _ =>
    let s1 := ({ s with sv := { s.sv with cal := some r } } : State).putBit .SVY_STATUS (4 + x) true
    let c := s1.conv x
    s1.putConv x { c with left := [], starts := c.starts + (if s1.cvMode x = 2 ∧ c.left ≠ [] then 1 else 0) }

/-- The run ends before its last converter with a completion code (R171). [DEDUCED, log 72] -/
def State.calStop (s : State) (r : CalRun) (code : Nat) : State :=
  let s1 : State := { s with sv := { s.sv with cal := none } }
  let s2 := each r.todo (fun x s => s.putBit .SVY_STATUS (4 + x) false) s1
  s2.complete r.slot code r.done

/-- The result of one converter's start-up calibration: factors and CALDONE, or zeros and SVY_CALFAIL (R168). -/
def State.startUpCalOne (s : State) (x : Nat) (r : CalResult) : State :=
  match r.factors with
  | some l => (s.putFactors x l).putBit .SVY_STATUS x true
  | none => ((s.putFactors x []).putBit .SVY_STATUS x false).raise (226 + x) 0

/-- The start-up calibration of the three converters, in the order A, B, C (R168). -/
def State.startUpCal (s : State) (l : List CalResult) : State :=
  each (List.range 3) (fun x s => s.startUpCalOne x (l.getD x { factors := none })) s

/-- SURVEY_CAL (R169): the first phase begins the calibration of the lowest converter named. -/
def execSurveyCal (a : CmdAct) (s : State) : Outcome State Fault Refusal :=
  .next (match a with
    | .issue i => s.issue i 0x81
    | .advance => s.withRunning 0x81 fun k s =>
      if s.sv.cal.isSome || !s.powered .adc then s
      else s.calNext { slot := k, todo := (List.range 3).filter fun x => (s.slot k).p0.getLsbD x })

/-- CONVERTER_CAL_DONE (R169, R171): new factors are installed in one update; factors out of range leave the old ones and end
the run. [DEDUCED, log 72] -/
def execConverterCalDone (x : Fin 3) (r : CalResult) (s : State) : Outcome State Fault Refusal :=
  .next (match s.sv.cal with
    | none => s
    | some run =>
      if run.todo.head? = some x.val then
        let s1 := s.putBit .SVY_STATUS (4 + x) false
        match r.factors with
        | some l =>
          ((s1.putFactors x l).putBit .SVY_STATUS x true).calNext { run with todo := run.todo.drop 1, done := run.done + 2 ^ x.val }
        | none => s1.calStop run 0x41
      else s)

end Sys2Proof.Machine
end

