-- ==== Sys2Proof/Machine/PowerOps.lean ====
section
/-!
DEFINITION. Power on the way down (chapters 01, 07, 16, 22): what a reset or a power-down of a domain clears and what AON
keeps, requests for SLEEP and DEEP, and the entries to SHIP, DEPLETED, OPEN and DEEP. The way up stands in
Machine/Start.lean.
-/

namespace Sys2Proof.Machine

open Host (Outcome)

/-! ### What AON keeps (R246, R275, R345, R361, R435, R439) -/

/-- The bits of the ledger's status that a start reads again from its records and that no reset of NVM loses: SINGLE and
RDONLY. -/
def ldgKept : Word := maskOf [8, 9, 10, 11, 12, 16, 17, 18, 19, 20]

/-- Counts and addresses that AON holds for blocks of other domains. -/
def aonHeld : Reg → Word
  | .RAIL_ONTIME _ | .TTB_BSTAT | .EVT_QPTR _ | .EVT_QDROP _ | .EVT_QBASE _ | .EVT_QSIZE _ | .LNK_ADDR | .LNK_ROOT
  | .LNK_DEFAULT | .LNK_RT_A _ | .LNK_RT_B _ => 0xFFFFFFFF#32
  | .LDG_LOG => Fld.LDG_LOG_DROP.mask
  | .LDG_DUMP => Fld.LDG_DUMP_COUNT.mask
  | .LDG_STATUS => ldgKept
  | .LDG_R_STAT _ => Fld.LDG_R_STAT_ABANDON.mask
  | _ => 0#32

/-- The bits of a register that survive a device reset with AON up. [DEDUCED, log 160] -/
def keepReset : Reg → Word
  | .FLT_CFG _ | .FLT_TGT _ => 0#32
  | .WDG_LAST | .WDG_LASTT_LO | .WDG_LASTT_HI => 0xFFFFFFFF#32
  | .WDG_FLAG => 0x10#32
  | .WDG_EDGE => Fld.WDG_EDGE_COUNT.mask
  | .FLT_INJSTAT => ~~~Fld.FLT_INJSTAT_INJCNT.mask
  | r =>
    match r.block with
    | .sys | .pwr | .flt | .bkp | .gau | .mem => 0xFFFFFFFF#32
    | _ => aonHeld r

/-- The bits of a register that survive DEEP; TPL_STATUS names the bank that the wake applies again, BOOTSLOT the firmware that
is resumed. [DEDUCED, log 157, 162] -/
def keepDeep : Reg → Word
  | .EVT_STAT => 0#32
  | .LDG_STATUS => ldgKept ||| 0x3#32
  | .TPL_STATUS => 0xFFFFFFFF#32
  | r =>
    match r.block with
    | .sys | .pwr | .flt | .wdg | .bkp | .gau | .mem | .evt => 0xFFFFFFFF#32
    | _ => aonHeld r

/-- The registers of some domains return to their reset values, but for the bits of `keep`. -/
def State.clearRegs (s : State) (doms : List Dom) (keep : Reg → Word) : State :=
  { s with regs := s.regs.map fun e =>
      if doms.contains e.1.block.dom then (e.1, (e.2 &&& keep e.1) ||| (e.1.reset &&& ~~~ keep e.1)) else e }

/-- The domain whose hardware shows the cause of a LEVEL source (Table 10.1), where that is not AON. -/
def liveDom (f : Nat) : Option Dom :=
  if inRange 24 48 f then some .stg
  else if inRange 56 95 f || inRange 136 155 f then some .seq
  else if inRange 220 222 f then some .adc
  else if inRange 244 247 f || f == 51 then some .link
  else none

/-- Causes shown by hardware that is no longer powered end. -/
def State.endLive (s : State) (doms : List Dom) : State :=
  each ((List.range 256).filter fun f => s.bit (.FLT_LIVE (f / 32)) (f % 32) &&
    (match liveDom f with | some d => doms.contains d | none => false)) (fun f s => s.live f false) s

/-- SRAM blocks of 16 KiB lose their contents and valid bits (R291). -/
def State.dropSram (s : State) (lost : Nat → Bool) : State :=
  let gone := fun a => a < sramEnd && lost (a / 0x4000)
  { s with
    mem := s.mem.filter (fun c => !gone c.1),
    me := { s.me with
      valid := s.me.valid.filter (fun w => !gone (4 * w)), bad := s.me.bad.filter (fun e => !gone e.1),
      soft := s.me.soft.filter (fun e => !gone e.1), votes := s.me.votes.filter (fun e => !gone e.1), met := [] } }

/-! ### Commands and events at a reset (R34, R275, R287) -/

/-- Commands of a lane that wait or run; a complete one counts with its record. -/
def State.laneOutstanding (s : State) (l : Nat) : Nat :=
  (allSlots.filter fun k => s.slotBusy k && (s.slot k).st != .ended && opLane (s.slot k).op == l).length

/-- A slot after a reset (R287). [DEDUCED, log 98] -/
def lostSlot (c : CmdSlot) : CmdSlot :=
  { c with st := match c.st with | .waiting => .lostWaiting | .running | .ended => .lostRunning | x => x }

/-- A reset drops every outstanding command, with a GAP record for each lane that lost one, and the held requests and
restart steps of a reload with theirs. [DEDUCED, log 98] -/
def State.cmdReset (s : State) : State :=
  let s1 := each [0, 1, 2, 3] (fun l s => s.gap 2 l (s.laneOutstanding l) (s.route (3 + l))) s
  let steps (d : Nat) : Nat := match s1.tp.reload with
    | some r => if r.dom = d then r.restarts.length else 0
    | none => 0
  let s2 := each (List.range 16) (fun d s => s.gap 5 d ((s1.tp.held.filter fun q => q.dom == d).length + steps d) 0) s1
  { s2 with
    cm := { s2.cm with slots := s2.cm.slots.map (fun e => (e.1, lostSlot e.2)), waiting := [], running := [], banks := [] },
    tp := {}, sw := { s2.sw with regang := none }, sv := { s2.sv with cal := none }, ln := { s2.ln with survey := none },
    tm := { s2.tm with marks := [] }, fw := { s2.fw with ctx := s2.fw.ctx.map (fun e => (e.1, { e.2 with closing := none })) } }

/-- Records lost with SRAM: one count for each source, in the queue they were routed to. [DEDUCED, log 95] -/
def State.dropQueue (s : State) (q : Nat) : State :=
  let s1 := each (s.qOrder q) (fun f s => s.gap (gapStream f).1 (gapStream f).2 1 q) s
  (s1.put (.EVT_QPTR q) Fld.EVT_QPTR_RPTR (s1.qWrite q)).putOrder q []

/-- The event controller at a reset: messages not queued become gaps, stacks empty; records stay when SRAM does. [DEDUCED,
log 95] -/
def State.eventReset (s : State) (sram : Bool) : State :=
  let s1 := each s.ev.msgs (fun m s => s.gap (gapStream m.src).1 (gapStream m.src).2 1 (s.msgQueue m.src)) s
  let s2 := if sram then s1 else each [0, 1, 2] (fun q s => s.dropQueue q) s1
  let kept := s2.ev.srcs.filterMap fun e => if sram && e.2.queued.isSome then some (e.1, ({ queued := e.2.queued } : EvSrc)) else none
  { s2 with ev := { s2.ev with srcs := kept, msgs := [], prios := [] } }

/-- The place of an empty queue returns to its reset value at a reset; a queue whose records outlive the reset stays where they
lie until they are delivered. [DEDUCED, log 186] -/
def State.queueFresh (s : State) (q : Nat) : State :=
  if s.qEmpty q && !(s.rd (.EVT_QBASE q) == Reg.reset (.EVT_QBASE q) && s.rd (.EVT_QSIZE q) == Reg.reset (.EVT_QSIZE q)) then
    ((s.wr (.EVT_QBASE q) (Reg.reset (.EVT_QBASE q))).wr (.EVT_QSIZE q) (Reg.reset (.EVT_QSIZE q))).wr (.EVT_QPTR q) 0#32
  else s

/-! ### Domains going down (R18, R122, R219, R385) -/

/-- A running command of a domain that goes down ends with FAULT. -/
def State.clearStg (s : State) : State :=
  let s1 := match s.sw.regang with
    | some g => s.regangEnd g 0x21 g.shedDone
    | none => s
  { s1 with sw := {}, pins := { s1.pins with closed := [] } }

/-- ADC: a running calibration ends. -/
def State.clearAdc (s : State) : State :=
  let s1 := match s.sv.cal with
    | some r => s.calStop r 0x21
    | none => s
  { s1 with sv := { joined := s1.sv.joined } }

/-- CHG: the gauge stops counting and the charger is OFF. -/
def State.clearChg (s : State) : State :=
  let s1 : State := { s with ga := { s.ga with away := some (s.ga.away.getD s.clock.keeper), vbuf := [] } }
  if s1.chgSt = 0 then s1 else (s1.put .BKP_STATUS Fld.BKP_STATUS_CHGSTATE 0).chargerLoops

/-- LINK: contexts close, ports go OFF, waiting commands of the Line end, station time restarts. [DEDUCED, log 98] -/
def State.clearLink (s : State) : State :=
  let s1 := match s.ln.survey with
    | some v => s.surveyEnd v 0x64 0
    | none => s
  let s2 := each (s1.tm.marks.filterMap fun e => e.2.slot) (fun k s => s.complete k 0x21 0) s1
  let s3 := each (s2.fw.ctx.filterMap fun e => e.2.closing) (fun k s => s.complete k 0x21 0) s2.flowReset
  { s3 with ln := {}, tm := { energy := s3.tm.energy }, clock := { s3.clock with station := 0#64 } }

/-- What stands behind the registers of a domain is cleared with it. -/
def State.clearDom (s : State) : Dom → State
  | .stg => s.clearStg
  | .eng => { s with lp := {} }
  | .seq => { s with tt := { bout := s.tt.bout }, po := {} }
  | .adc => s.clearAdc
  | .chg => s.clearChg
  | .link => s.clearLink
  | .nvm => s.ledgerReset.otpReset
  | .core => ({ s with tb := {}, mo := {}, xg := {}, me := { s.me with copy := none, scrub := 0 } } : State).put .MEM_STATUS Fld.MEM_STATUS_COPY 0
  | .aon => s

/-- Domains go down with every domain below them, the leaves first (R18). [DEDUCED, log 20] -/
def State.downDoms (s : State) (doms : List Dom) (keep : Reg → Word) : State :=
  let order := [Dom.stg, .eng, .seq, .chg, .adc, .link, .core, .nvm].filter doms.contains
  let s1 := each order (fun d s => s.clearDom d) s
  let s2 := (s1.clearRegs doms keep).endLive doms
  { s2 with pw := { s2.pw with on := s2.pw.on.filter fun d => !(doms.any fun x => (Dom.below x).contains d) } }

/-- The conditions of domains about to go down fall (R259): their flags but for the bits of `keep`, PG, the groups' states and
the charger's. [DEDUCED, log 50] -/
def State.condsDown (s : State) (doms : List Dom) (keep : Reg → Word) : State :=
  let s1 := each (flagRegs.filter fun r => doms.contains r.block.dom) (fun r s =>
    each (bitsOf (s.rd r &&& ~~~ keep r)) (fun b s =>
      match flagSource r b with
      | some (f, i) => s.condFall f i 0
      | none => s) s) s
  let s2 := if doms.contains .seq then
      each allGroups (fun g s =>
        if s.groupSt g = 2 then s.condFall (45 + g) 0 0 else if s.groupSt g = 0 then s.condFall (53 + g) 0 0 else s)
        (each (allRails.filter fun n => s1.bit (.RAIL_STATUS n) 4) (fun n s => s.condFall (25 + n) 0 0) s1)
    else s1
  if doms.contains .chg && s2.chgSt != 0 then (if s2.chgSt = 5 then s2.condFall 81 0 0 else s2).happen 80 0 0 else s2

/-- A device reset with AON up (R34, R246, R345): every domain but AON is reset. `sram`: SRAM keeps its contents. [DEDUCED,
log 160] -/
def State.deviceReset (s : State) (sram : Bool) (c : StartCause) : State :=
  let s1 := (s.cmdReset.eventReset sram).downDoms (Dom.below .nvm) keepReset
  let s2 := if sram then s1 else s1.dropSram fun _ => true
  let s3 := (s2.clearRegs [.aon] keepReset).put .PWR_STATUS Fld.PWR_STATUS_MODE 0
  let s4 : State := { s3.putBit .PWR_STATUS 4 false with
    clock := { s3.clock with localTicks := 0#64 }, pins := { s3.pins with gatesOff := true }, wd := {},
    fl := { dry := s3.fl.dry }, pw := { on := [.aon], start := some c, strap := s3.pw.strap } }
  (each [0, 1, 2] (fun q s => s.queueFresh q) s4).irqPins.faultPin

/-- AON comes up from nothing (R435, R441): what the ledger, the OTP, the pins and the keeper oscillator hold is left.
[DEDUCED, log 103] -/
def State.freshAon (s : State) (c : StartCause) : State :=
  let s0 := s.otpReset.ledgerAbandon
  { State.reset with
    pending := s.pending
    mem := s0.mem.filter (fun x => sramEnd ≤ x.1)
    me := { bad := s0.me.bad.filter (fun e => sramEnd ≤ e.1), soft := s0.me.soft.filter fun e => sramEnd ≤ e.1 }
    ld := { map := s0.ld.map, torn := s0.ld.torn, soleDone := s0.ld.soleDone, factory := s0.ld.factory }
    ot := { rows := s0.ot.rows, vendor := s0.ot.vendor, marks := s0.ot.marks, redir := s0.ot.redir, lost := s0.ot.lost }
    clock := { keeper := s.clock.keeper, drawn := s0.clock.drawn }
    pins := { testEn := s.pins.testEn, btnLow := s.pins.btnLow, refclk := s.pins.refclk, addrStrap := s.pins.addrStrap }
    pw := { start := some c, strap := s.pins.addrStrap } }

/-! ### SLEEP and DEEP requests (R436) -/

/-- A DEEP request is held. -/
def State.deepHeld (s : State) : Bool :=
  decide (0 < s.outstanding) || s.tp.reload.isSome || [0, 1, 2, 3].any (fun l => !(s.lane l).isEmpty) || s.ot.prog.isSome

/-- The entry to DEEP begins (R434). -/
def State.deepBegin (s : State) : State :=
  (({ s with pw := { s.pw with mode := .deepEntry } } : State).putBit .PWR_STATUS 4 false).put .PWR_STATUS Fld.PWR_STATUS_MODE 2

/-- A DEEP request is refused (R436). -/
def State.deepRefuse (s : State) (why : Nat) : State :=
  (s.put .PWR_FLAG Fld.PWR_FLAG_WHY why).setFlagI .PWR_FLAG 0 why 0

/-- A write of REQ = 0b10. -/
def State.deepRequest (s : State) : State :=
  if !s.railsOff then s.deepRefuse 1
  else if s.shipPend then s.deepRefuse 2
  else if s.deepHeld then s.putBit .PWR_STATUS 4 true
  else s.deepBegin

/-- A write of REQ = 0b01: SLEEP, after a controller transfer that runs (R410). -/
def State.sleepRequest (s : State) : State :=
  if s.pw.mode ≠ .active then s
  else if s.tb.cx.isSome then { s with pw := { s.pw with sleepPend := true } }
  else s.sleepNow

/-- A write of PWR_CTL. -/
def State.wrPwrCtl (s : State) (w : Word) : State :=
  let s1 := s.writeRw .PWR_CTL w
  match getF w Fld.PWR_CTL_REQ with
  | 1 => s1.sleepRequest
  | 2 => s1.deepRequest
  | 3 => s1.deepDrop 1
  | _ => s1

/-- SLEEP_REQUEST (R436). -/
def execSleepRequest (_i : Iface) (v : Word) (be : BitVec 4) (s : State) : Outcome State Fault Refusal :=
  .next (s.guardWrite .PWR_CTL fun s => s.wrPwrCtl (s.merged .PWR_CTL v be))

/-- DEEP_REQUEST (R436). -/
def execDeepRequest (_i : Iface) (v : Word) (be : BitVec 4) (s : State) : Outcome State Fault Refusal :=
  .next (s.guardWrite .PWR_CTL fun s => s.wrPwrCtl (s.merged .PWR_CTL v be))

/-- DEEP_DROP (R436). -/
def execDeepDrop (_i : Iface) (v : Word) (be : BitVec 4) (s : State) : Outcome State Fault Refusal :=
  .next (s.guardWrite .PWR_CTL fun s => s.wrPwrCtl (s.merged .PWR_CTL v be))

/-- DEEP_HOLD_TIMEOUT (R436): the hold has lasted HOLDMAX. -/
def execDeepHoldTimeout (s : State) : Outcome State Fault Refusal := .next (s.deepDrop 3)

/-- CORE is switched off: the steps of the entry to DEEP (R276, R436, R437). [DEDUCED, log 162] -/
def State.deepPowerDown (s : State) : State :=
  let keep := s.rd .PWR_RETAIN
  let s1 := s.dropSram fun k => k != 15 && !wbit keep k
  let cm : CmdX := { slots := s1.cm.slots.map (fun e => (e.1, lostSlot e.2)), lastSlot := s1.cm.lastSlot }
  let ld := { s1.ld with fwDone := [], suspended := false }
  let s2 := ({ s1 with cm := cm, ld := ld, tb := {}, mo := {}, xg := {}, tp := {}, me := { s1.me with copy := none, scrub := 0 } } : State)
  let order := [Dom.stg, .eng, .seq, .chg, .adc, .link]
  let s3 := each order (fun d s => s.clearDom d) (s2.put .MEM_STATUS Fld.MEM_STATUS_COPY 0)
  let s4 := (s3.clearRegs (Dom.below .nvm) keepDeep).endLive (Dom.below .nvm)
  let s5 := { s4 with pins := { s4.pins with gatesOff := true }, pw := { on := [.aon], start := none, mode := .deep, strap := s4.pw.strap } }
  (s5.put .PWR_STATUS Fld.PWR_STATUS_MODE 0).irqPins.faultPin

/-- DEEP_ENTRY (R436): a hold that has ended begins the entry; an entry that has begun powers down. -/
def execDeepEntry (s : State) : Outcome State Fault Refusal :=
  .next (if s.wd.expired then s
    else if s.pw.mode = .deepEntry then s.deepPowerDown
    else if s.bit .PWR_STATUS 4 && !s.deepHeld then s.deepBegin
    else s)

/-! ### SHIP, DEPLETED and OPEN (R190 to R195) -/

/-- Records that wait in lane 2 are written before the entry (R220); the first argument bounds their number. [DEDUCED, log
77] -/
def State.flushLog : Nat → State → State
  | 0, s => s
  | n + 1, s =>
    match s.refill.lane 2 with
    | [] => s.refill
    | j :: t =>
      State.flushLog n (((j.steps.foldl (fun s st => s.runStep st) s.refill).putLane 2 t).jobDone j)

/-- What the ship store keeps (R435) over an AON that is otherwise fresh. The state of the gauge is kept apart, since STATE is
OFF while NCELL is 0 (R218). [DEDUCED, log 161, 182] -/
def State.shipStore (s t : State) : State :=
  let gaugeReg (r : Reg) : Bool := r == .GAU_ACC_LO || r == .GAU_ACC_HI || r == .GAU_CYCLES || r == .GAU_THRU || r == .GAU_AGE
  let st := s.rd .GAU_STATUS &&& 0x30#32
  let ga := { s.ga with away := some (s.ga.away.getD s.clock.keeper), vbuf := [], display := 0, d0 := 0, v0 := 0,
                        kept := some (if s.gauSt = 0 then s.ga.kept.getD 1 else s.gauSt) }
  ({ t with
    regs := s.regs.filter (fun e => gaugeReg e.1), ga := ga,
    cm := { slots := s.cm.slots.map (fun e => (e.1, ({ gen := e.2.gen } : CmdSlot))), lastSlot := s.cm.lastSlot } } : State).wr .GAU_STATUS
      ((Reg.reset .GAU_STATUS &&& ~~~ 0x30#32) ||| st)

/-- The disconnect switch opens and all but the watchers of AON lose power. [DEDUCED, log 77] -/
def State.goDark (s : State) (m : Mode) (path : Nat) : State :=
  let s1 := State.flushLog 40 (s.gaugeRecord 4)
  let s2 := s1.shipStore (s1.freshAon .ship)
  ({ s2 with pw := { s2.pw with mode := m, start := none } } : State).put .BKP_STATUS Fld.BKP_STATUS_PATH path

/-- SHIP_ENTRY (R192). -/
def execShipEntry (s : State) : Outcome State Fault Refusal :=
  .next (if s.shipPend && s.railsDown && s.path == 3 && !s.wd.expired then s.goDark .ship 7 else s)

/-- DEPLETED_ENTRY (R190). -/
def execDepletedEntry (s : State) : Outcome State Fault Refusal :=
  .next (if s.bit .BKP_STATUS 10 && s.railsDown && (s.path == 3 || s.path == 4) && !s.wd.expired then s.goDark .depleted 8 else s)

/-- AON is fully powered again: the start is to run. -/
def State.wakeDark (s : State) (c : StartCause) (path : Nat) : State :=
  ({ s with pw := { s.pw with mode := .active, start := some c } } : State).put .BKP_STATUS Fld.BKP_STATUS_PATH path

/-- SHIP_WAKE_BUTTON (R185, R195): BTN_N has been low for 0.5 s; this press does not start the long-press timer. -/
def execShipWakeButton (s : State) : Outcome State Fault Refusal :=
  .next (if s.pw.mode = .ship ∧ s.pins.btnLow = true then
      (({ s with pins := { s.pins with pressTimer := false } } : State).wakeDark .ship 3).enterBattery
    else s)

/-- SOURCE_WAKE (R185): SRCS has stayed at or above SRC_ON for QUAL. -/
def execSourceWake (s : State) : Outcome State Fault Refusal :=
  .next (if s.pw.mode = .ship then (s.putSrcOk true).wakeDark .ship 5
    else if s.pw.mode = .depleted then (s.putSrcOk true).wakeDark .depleted 5
    else s)

/-- LONG_PRESS (R194, R195): BTN_N has been low for LPT. Whether SRAM keeps its contents while the switches are open is not
stated. [DESIGN CHOICE, log 59] -/
def execLongPress (s : State) : Outcome State Fault Refusal :=
  .next (if s.bit .BKP_BTN 31 && s.pins.pressTimer && s.pw.mode != .ship && s.pw.mode != .depleted && s.path != 6 then
      let s1 := ((s.gatesDown.setChg 0).setPath 6).putBit .BKP_STATUS 9 false
      let d := s1.draw
      let s2 := d.2.deviceReset (d.1.getLsbD 0) (.longPress true)
      { s2 with pw := { s2.pw with start := none }, pins := { s2.pins with pressTimer := false } }
    else s)

/-- OPEN_END (R194): 400 ms after the entry to OPEN. -/
def execOpenEnd (s : State) : Outcome State Fault Refusal :=
  .next (if s.path = 6 then
      let s1 := s.enterBattery
      { s1 with pw := { s1.pw with start := some (.longPress true) } }
    else s)

/-! ### Resets (R18, R345, R441) -/

/-- WATCHDOG_RESET (R345): the rails are off. -/
def execWatchdogReset (s : State) : Outcome State Fault Refusal :=
  .next (if s.wd.expired && (s.railsDown || s.pins.gatesOff) then s.deviceReset true .watchdog else s)

/-- AON_POWER_ON (R441): the AON supply has been away and rises above its threshold. -/
def execAonPowerOn (s : State) : Outcome State Fault Refusal :=
  .next (s.freshAon .powerOn)

/-- DOMAIN_BROWNOUT (R18): a domain and those below it are held in reset. One of NVM or CORE is a start (Table 22.3);
SRAM is lost with the supply of CORE. [DEDUCED, log 159] -/
def execDomainBrownout (d : Dom) (s : State) : Outcome State Fault Refusal :=
  .next (if !s.powered d then s
    else match d with
    | .aon => s.freshAon .powerOn
    | .nvm => s.deviceReset true .coreBrownout
    | .core => s.deviceReset false .coreBrownout
    | d => (s.condsDown ((Dom.below d).filter s.powered) keepReset).downDoms (Dom.below d) keepReset)

/-- REFCLK_LOSS (R17, Table 10.1): the fallback is in use; its source shows it while LINK is powered. [DESIGN CHOICE, log 21] -/
def execRefclkLoss (s : State) : Outcome State Fault Refusal :=
  .next (
    let s1 : State := { s with pins := { s.pins with refclk := false } }
    if s.pins.refclk && s1.powered .link then (s1.live 51 true).raise 51 0 else s1)

/-- REFCLK_RETURN (R17). [DESIGN CHOICE, log 21] -/
def execRefclkReturn (s : State) : Outcome State Fault Refusal :=
  .next (({ s with pins := { s.pins with refclk := true } } : State).live 51 false)

end Sys2Proof.Machine
end

