-- ==== Sys2Proof/Machine/Cancel.lean ====
section
/-!
DEFINITION. Cancelling a command (R285): what becomes of it in each state of its slot, and for a running one by the rules
of its own chapter.
-/

namespace Sys2Proof.Machine

open Host (Outcome)

/-- A cancel that comes too late. -/
def State.cancelLate (s : State) (i : Iface) : State := s.setFlagI .CMD_FLAG 3 (ifaceNum i) 0

/-- A ledger write that has not begun leaves its lane; one that opened the firmware slot leaves it closed. -/
def State.dropJob (s : State) (j : LdgJob) : State :=
  let s1 := s.putLane 1 ((s.lane 1).erase j)
  match j.kind with
  | .fwWrite =>
    let s2 : State := { s1 with ld := { s1.ld with fwDone := s1.ld.fwDone.tail } }
    if j.steps.head?.any LdgStep.isErase then s2.put .LDG_STATUS Fld.LDG_STATUS_FWOPEN 0 else s2
  | _ => s1

/-- A running ledger command ends before its first NVM write. -/
def State.cancelLedger (s : State) (i : Iface) (k : Nat) : State :=
  match (s.lane 1).find? fun j => j.slot == some k && !j.begun with
  | some j => ((s.dropJob j).complete k 0x20 0).kick
  | none => s.cancelLate i

/-- A reload aborts while its loops are open (R68). -/
def State.cancelReload (s : State) (i : Iface) (k : Nat) : State :=
  match s.tp.reload with
  | none => s.complete k 0x20 0
  | some r =>
    if r.slot = k ∧ r.abort.isNone ∧ inRange 1 6 (s.fld .TPL_STATUS Fld.TPL_STATUS_PHASE) = true then s.reloadAbort 0x20
    else s.cancelLate i

/-- A cancel of a running command. [DEDUCED, log 97] -/
def State.cancelRunning (s : State) (i : Iface) (k : Nat) : State :=
  let c := s.slot k
  if c.op = 0x03 then s.cancelReload i k
  else if c.op = 0x10 then
    (match s.sw.regang with
     | some g => s.regangCancel g
     | none => (if s.powered .stg then s.regangIdle else s).complete k 0x20 0)
  else if c.op = 0x81 then
    (match s.sv.cal with
     | some r => if r.slot = k then s.calStop r 0x20 else s.complete k 0x20 0
     | none => s.complete k 0x20 0)
  else if c.op = 0xC1 then
    (match s.ln.survey with
     | some _ => s.putSlot k { c with cancelled := true }
     | none => s.complete k 0x20 0)
  else if c.phase = 0 then s.complete k 0x20 0
  else if opLane c.op = 1 then s.cancelLedger i k
  else s.cancelLate i

/-- A write of CMD_CANCEL. [DEDUCED, log 97] -/
def State.wrCancel (s : State) (i : Iface) (w : Word) : State :=
  let h := getF w Fld.CMD_CANCEL_HANDLE
  let k := h % 64
  if s.stale h then s.setFlagI .CMD_FLAG 2 (ifaceNum i) 0
  else match (s.slot k).st with
  | .waiting => s.putSlot k { s.slot k with cancelled := true }
  | .running => s.cancelRunning i k
  | _ => s.cancelLate i

/-- CMD_CANCEL (R285). -/
def execCmdCancel (i : Iface) (v : Word) (be : BitVec 4) (s : State) : Outcome State Fault Refusal :=
  .next (s.guardSent .CMD_CANCEL be fun s => s.wrCancel i (v &&& byteMask be))

end Sys2Proof.Machine
end

