-- ==== Sys2Proof/Machine/Loops.lean ====
section
/-!
DEFINITION. Loop engines (chapter 4): samples, late samples, the tempo counter with shedding, open and close
requests, the checked writes and the watch trips.
-/

namespace Sys2Proof.Machine

open Host (Outcome)

/-! ### Samples (R102, R106, R108, R112) -/

/-- The slot an engine serves: the earliest trigger, at one tick the lowest slot. -/
def State.engineServes (s : State) (e : Nat) : Option Nat :=
  (engineSlots e).foldl (fun o k =>
    match (s.loopX k).sample, o.bind (fun j => (s.loopX j).sample.map (·.tick)) with
    | some a, some t => if a.tick < t then some k else o
    | some _, none => some k
    | none, _ => o) none

/-- The sample in progress is late. -/
def State.late (s : State) (k : Nat) : State :=
  let s1 := s.putLoopX k { s.loopX k with sample := none }
  ((s1.addSat (.LPS_STAT k) Fld.LPS_STAT_LATECNT 1).setFlag (.LPS_FLAG k) 2).raise (156 + k) 0

/-- Hidden state of an engine. -/
def State.engX (s : State) (e : Nat) : EngineX := s.lp.engines.get e {}
def State.putEngX (s : State) (e : Nat) (x : EngineX) : State := { s with lp := { s.lp with engines := s.lp.engines.set e x } }

/-- Set the present rate of a slot. [DEDUCED, log 44] -/
def State.setPrate (s : State) (k c : Nat) : State :=
  let s1 := s.put (.LPS_STAT k) Fld.LPS_STAT_PRATE c
  s1.putLoopX k { s1.loopX k with rateAt := some s1.clock.localTicks, shedTo := none }

/-- The settings of a slot as its registers hold them now. -/
def State.loopSet (s : State) (k : Nat) : LoopSet :=
  { olim := s.rd (.LPS_OLIM k), close := s.rd (.LPS_CLOSE k), mwatch := s.rd (.LPS_MWATCH k), fwatch := s.rd (.LPS_FWATCH k),
    fwf := s.bit (.LPS_CTL k) 8 }

/-- A trigger: new settings take effect (R117), and a halved rate whose pattern the trigger falls on (R113). -/
def State.atTrigger (s : State) (k : Nat) : State :=
  let x := s.loopX k
  let s1 := s.putLoopX k { x with act := s.loopSet k, settling := x.settling || s.bit (.LPS_CTL k) 8 }
  match x.shedTo with
  | some c => if s.clock.localTicks.toNat / 250 % ratePeriod c = s.fld (.LPS_CFG k) Fld.LPS_CFG_PHASE then s1.setPrate k c else s1
  | none => s1

/-- A trigger takes the feedback, over crossing 0x4 (Table 21.3), and the reference of a new sample. [DEDUCED, log 44] -/
def State.startSample (s : State) (k : Nat) : State :=
  let t := s.slotTap k
  let f := s.feedback k
  let r := (if t.1 = 3 then f.2 else f.2.agree 4 (s.rd (.SVY_CV_TAP t.1 t.2))).reference k
  r.2.putLoopX k { r.2.loopX k with sample := some { fb := f.1, ref := r.1, tick := r.2.clock.localTicks.toNat / 250 } }

/-- LOOP_SAMPLE_TRIGGER (R102, R107, R112): a CLOSED slot that computes takes a sample; one still in progress is late. -/
def execLoopSampleTrigger (k : Fin 32) (s : State) : Outcome State Fault Refusal :=
  .next (if s.loopsWork && s.slotSt k == 2 && s.tapReady k then
      if s.computes k then
        let s1 := if (s.loopX k).sample.isSome then s.late k else s
        if s1.slotSt k == 2 && s1.computes k then (s1.atTrigger k).startSample k else s1
      else s.zeroSlot k
    else s)

/-- A voltage channel of converter A in V; free where it is none. [DESIGN CHOICE, log 55] -/
def State.chanV (s : State) (ch : Nat) : Rat × State :=
  match s.chan 0 ch with
  | .volts u => (((s.tap 0 ch : Int) : Rat) * u / 1000000, s)
  | _ => s.drawRat

/-- The plant output in V: for a charger slot the charger output (R200), else FB in volts, or the rail's output when FB is a
current (R124); free otherwise. [DESIGN CHOICE, log 55] -/
def State.plantV (s : State) (k : Nat) (fb : Rat) : Rat × State :=
  if 3 ≤ s.slotKind k then s.chanV 29
  else match s.chan (s.slotTap k).1 (s.slotTap k).2 with
    | .volts u => (fb * u / 1000000, s)
    | .amps _ => s.chanV (s.fld (.LPS_IN k) Fld.LPS_IN_RAIL)
    | .other => s.drawRat

/-- The plant current in A: the rail's IOUT or the charger current. -/
def State.plantI (s : State) (k : Nat) : Rat :=
  if s.slotKind k ≤ 2 then s.iout (s.fld (.LPS_IN k) Fld.LPS_IN_RAIL)
  else match s.chan 2 1 with
    | .amps u => ((s.tap 2 1 : Int) : Rat) * u / 1000000
    | _ => 0

/-- The measured input in V: VIN, or SYS for the charger. -/
def State.plantIn (s : State) (k : Nat) : Rat := ((s.tap 0 (if s.slotKind k ≤ 2 then 20 else 21) : Int) : Rat) / 500

/-- Magnitude. -/
def absR (q : Rat) : Rat := if q < 0 then -q else q

/-- One evaluation of the model watch (R124) with the previous sample `p`, the load estimate `l` and the mean duty. [DESIGN
CHOICE, log 46] -/
def State.modelStep (s : State) (k : Nat) (v il duty : Rat) (p : Rat × Rat) (l : Rat) : State :=
  let ts : Rat := (ratePeriod (s.prate k) : Rat) / 1000000
  let cap : Rat := (s.fld (.LPS_MODEL k) Fld.LPS_MODEL_CAP : Rat) / 100000
  let ind : Rat := (s.fld (.LPS_MODEL k) Fld.LPS_MODEL_IND : Rat) / 1000000000
  let act := (s.loopX k).act
  let ltau : Rat := (max 1 (getF act.close Fld.LPS_CLOSE_LTAU) : Rat) / 10000
  let n : Rat := if s.slotKind k ≤ 2 then ((s.inRotation (s.fld (.LPS_IN k) Fld.LPS_IN_RAIL)).length : Rat) else 1
  let vHat := p.1 + ts * (p.2 - l) / cap
  let ilHat := p.2 + ts * n * (duty * s.plantIn k - p.1) / ind
  let vth : Rat := (getF act.mwatch Fld.LPS_MWATCH_VTH : Rat) / 2000
  let ith : Rat := (getF act.mwatch Fld.LPS_MWATCH_ITH : Rat) / 20
  let c := s.fld (.LPS_STAT k) Fld.LPS_STAT_MWCNT
  let c' := if vth < absR (v - vHat) ∨ ith < absR (il - ilHat) then min 255 (c + 1) else c - 1
  (s.put (.LPS_STAT k) Fld.LPS_STAT_MWCNT c').putLoopX k { s.loopX k with prev := some (v, il), iload := some (l + ts / ltau * (il - l)) }

/-- The watch of a completed sample (R123, R124). The load estimate has no stated start: it begins at a free value. -/
def State.watchSample (s : State) (k : Nat) (sm : Sample) (duty : Rat) : State :=
  let pv := s.plantV k sm.fb
  let s1 := pv.2
  let il := s1.plantI k
  let x := s1.loopX k
  let ex := decide ((getF x.act.fwatch Fld.LPS_FWATCH_FLIM : Rat) < absR (sm.ref - sm.fb))
  let x1 := { x with exceeded := ex, settling := x.settling || s1.unsettled k }
  let s2 := s1.putLoopX k x1
  if s2.modelWatch k then
    match x1.prev, x1.iload with
    | some p, some l => s2.modelStep k pv.1 il duty p l
    | some p, none => let d := s2.drawRat; d.2.modelStep k pv.1 il duty p (d.1 * 65536 - 32768)
    | none, _ => s2.putLoopX k { x1 with prev := some (pv.1, il) }
  else
    (s2.put (.LPS_STAT k) Fld.LPS_STAT_MWCNT 0).putLoopX k { x1 with prev := some (pv.1, il), iload := none }

/-- The cascade input of a sample (R102, R104): the error in FB codes times 2^−16, as a code of 28 fraction bits; a
value outside the format is free. [DESIGN CHOICE, log 55] -/
def State.cascadeIn (s : State) (sm : Sample) : Int × State :=
  let x := roundOpen (sm.ref - sm.fb) * 4096
  if -(2 ^ 31) ≤ x ∧ x < 2 ^ 31 then (x, s) else let p := s.draw; (p.1.toInt, p.2)

/-- The output after the close slew (R120), and whether the slew still acts. A sample with SLEW = 0 ends the limit for this
close: it does not come back when SLEW is written again. [DEDUCED, log 172] -/
def slewed (x : LoopX) (step o : Int) : Int × Bool :=
  if x.slewing = true ∧ step ≠ 0 then
    if x.out + step < o then (x.out + step, true) else if o < x.out - step then (x.out - step, true) else (o, false)
  else (o, false)

/-- A sample completes: states committed together, output clamped, slewed and written, the watch brought on. [DEDUCED, log
44] -/
def State.sampleDone (s : State) (k : Nat) (sm : Sample) (duty : Rat) : State :=
  let xi := s.cascadeIn sm
  let s1 := xi.2
  let c := s1.cascade (s1.slotSections k) xi.1
  let lim := s1.outLimits k
  let y := clampI lim.1 lim.2 c.1
  let x := s1.loopX k
  let o := slewed x ((getF x.act.close Fld.LPS_CLOSE_SLEW : Int) * 4096) y
  let keep := s1.bit (.LPS_CFG k) 6 && y != c.1
  let s2 : State := if keep then s1 else { s1 with lp := { s1.lp with sections := c.2.1.foldl (fun t e => t.set e.1 e.2) s1.lp.sections } }
  let s3 := (s2.putDest (s2.slotDest k) (s2.destValue k o.1)).putLoopX k { x with sample := none, out := o.1, slewing := o.2 }
  let s4 := if y = c.1 then s3 else s3.setFlag (.LPS_FLAG k) 4
  let s5 := if c.2.2 then s4.setFlag (.LPS_FLAG k) 3 else s4
  s5.watchSample k sm duty

/-- LOOP_SAMPLE_DONE (R102, R105, R108): the sample its engine serves completes. -/
def execLoopSampleDone (k : Fin 32) (duty : Rat) (s : State) : Outcome State Fault Refusal :=
  .next (match (s.loopX k).sample with
    | some sm => if s.loopsWork && s.slotSt k == 2 && s.engineServes (slotEngine k) == some k.val then s.sampleDone k sm duty else s
    | none => s)

/-! ### Tempo, shedding, restoring (R110 to R115) -/

/-- Show a worst slack in LPEee_LOAD.SLACKNOW; one outside the field is a free value. [DESIGN CHOICE, log 54] -/
def State.showSlack (s : State) (e : Nat) (q : Rat) : State :=
  let i := roundOpen q
  if -32768 ≤ i ∧ i < 32768 then s.put (.LPE_LOAD e) Fld.LPE_LOAD_SLACKNOW (ofSigned 16 i)
  else let p := s.draw; p.2.put (.LPE_LOAD e) Fld.LPE_LOAD_SLACKNOW p.1.toNat

/-- The slot policy sheds (R113): CLOSED, SHED = 1, able to halve and not about to, of the shortest period, the lowest on a
tie. -/
def State.shedPick (s : State) (e : Nat) : Option Nat :=
  ((engineSlots e).filter fun k => s.slotSt k == 2 && s.bit (.LPS_CFG k) 7 && (rateHalved (s.prate k)).isSome &&
      (s.loopX k).shedTo.isNone).foldl
    (fun o k => match o with
      | some j => if ratePeriod (s.prate k) < ratePeriod (s.prate j) then some k else o
      | none => some k) none

/-- Policy halves the rate of one slot, from the slot's next trigger on the halved pattern. -/
def State.shedOne (s : State) (e : Nat) : State :=
  match s.shedPick e with
  | none => s
  | some k =>
    let c := (rateHalved (s.prate k)).getD (s.prate k)
    let s1 := (s.putLoopX k { s.loopX k with shedTo := some c }).putEngX e { s.engX e with shed := k :: (s.engX e).shed }
    ((s1.setFlag (.LPS_FLAG k) 8).setFlag (.LPE_FLAG e) 1).message 18 k c

/-- LPEee_LOAD.SLACKNOW, in 0.1 %. -/
def State.slackNow (s : State) (e : Nat) : Int := toSigned 16 (s.fld (.LPE_LOAD e) Fld.LPE_LOAD_SLACKNOW)

/-- TEMPO_WINDOW_END (R110 to R113): `count` is the window's count in the units of RATE. [DESIGN CHOICE, log 54] -/
def execTempoWindowEnd (e : Fin 8) (count : Nat) (s : State) : Outcome State Fault Refusal :=
  .next (if s.powered .eng then
      let x := s.engX e
      let s1 := s.putEngX e { x with prevCount := some count }
      match x.prevCount with
      | none => s1
      | some p =>
        let r := min 65535 (min p count)
        let m := s1.fld (.LPE_TEMPO e) Fld.LPE_TEMPO_RMIN
        let first := s1.fld (.LPE_TEMPO e) Fld.LPE_TEMPO_RATE == 0 && m == 0
        let s2 := (s1.put (.LPE_TEMPO e) Fld.LPE_TEMPO_RATE r).put (.LPE_TEMPO e) Fld.LPE_TEMPO_RMIN (if first then r else min m r)
        let s3 := if r < 256 then s2.setFlag (.LPE_FLAG e) 0 else s2
        let s4 := if r = 0 then let q := s3.draw; q.2.put (.LPE_LOAD e) Fld.LPE_LOAD_SLACKNOW q.1.toNat
          else s3.showSlack e (s3.slackAt e r s3.prate)
        if s4.slackNow e < (s4.fld (.LPE_SHED e) Fld.LPE_SHED_SHEDTH : Int) && !s4.bit .POL_LOCK 5 then s4.shedOne e else s4
    else s)

/-- LOOP_RESTORED (R114): the slot shed last returns to the faster code, when the slack with that code reaches
RESTTH. -/
def execLoopRestored (e : Fin 8) (s : State) : Outcome State Fault Refusal :=
  .next (match (s.engX e).shed with
    | k :: t =>
      let c := rateFaster (s.prate k)
      let r := s.fld (.LPE_TEMPO e) Fld.LPE_TEMPO_RATE
      if s.powered .eng && !s.bit .POL_LOCK 5 && r != 0 &&
          decide ((s.fld (.LPE_SHED e) Fld.LPE_SHED_RESTTH : Rat) ≤ s.slackAt e r (fun j => if j = k then c else s.prate j)) then
        let s1 := if (s.loopX k).shedTo.isSome then s.putLoopX k { s.loopX k with shedTo := none } else s.setPrate k c
        (s1.putEngX e { s1.engX e with shed := t }).message 19 k (s1.prate k)
      else s
    | [] => s)

/-- A write of LPEee_STATE: RMINRST sets RMIN to the present RATE. -/
def State.wrLpeState (s : State) (e : Nat) (w : Word) : State :=
  if wbit w 31 then s.put (.LPE_TEMPO e) Fld.LPE_TEMPO_RMIN (s.fld (.LPE_TEMPO e) Fld.LPE_TEMPO_RATE) else s

/-- RMIN_RESET (R110). -/
def execRminReset (_i : Iface) (e : Fin 8) (s : State) : Outcome State Fault Refusal :=
  .next (s.guardWrite (.LPE_STATE e) fun s => s.wrLpeState e 0x80000000#32)

/-- A write of LPEee_SHED (R126). -/
def State.wrLpeShed (s : State) (e : Nat) (w : Word) : State :=
  if inRange 10 90 (getF w Fld.LPE_SHED_SHEDTH) && decide (getF w Fld.LPE_SHED_SHEDTH + 50 ≤ getF w Fld.LPE_SHED_RESTTH) then
    s.writeRw (.LPE_SHED e) w
  else s

/-- A write of LPEee_FLAG: TEMPOLOW stays while RATE is below 256 (R110, R7). -/
def State.wrLpeFlag (s : State) (e : Nat) (w : Word) : State :=
  s.clearFlagsBut (.LPE_FLAG e) (w &&& Reg.w1c (.LPE_FLAG e)) (if s.fld (.LPE_TEMPO e) Fld.LPE_TEMPO_RATE < 256 then 1#32 else 0#32)

/-- LPE_SHED_WRITE (R126). -/
def execLpeShedWrite (_i : Iface) (e : Fin 8) (v : Word) (be : BitVec 4) (s : State) : Outcome State Fault Refusal :=
  .next (s.guardWrite (.LPE_SHED e) fun s => s.wrLpeShed e (s.merged (.LPE_SHED e) v be))

/-- What LPEee_STATE reads: RUN, CLOSED and USED of its slots. -/
def State.rdLpeState (s : State) (e : Nat) : Word :=
  let closed := maskOf ((List.range 4).filter fun i => s.slotSt (4 * e + i) == 2)
  let used := maskOf ((List.range 4).filter fun i => s.slotSt (4 * e + i) != 0)
  BitVec.ofNat 32 (256 * b2n (s.powered .eng) + 16 * closed.toNat + used.toNat)

/-! ### Open and closed (R116 to R122) -/

/-- A slot leaves CLOSED or HALTED for OPEN. -/
def State.openSlot (s : State) (k : Nat) (host : Bool) : State :=
  if s.slotSt k = 2 ∨ s.slotSt k = 3 then
    let s1 := s.put (.LPS_CTL k) Fld.LPS_CTL_STATE 1
    s1.putLoopX k { s1.loopX k with sample := none, hostOpen := host }
  else s

/-- A slot is at CFG.RATE and shed no longer (R107, R115); a change of PRATE counts under R123. -/
def State.cfgRateNow (s : State) (k : Nat) : State :=
  let s1 := if s.prate k = s.cfgRate k then s.putLoopX k { s.loopX k with shedTo := none } else s.setPrate k (s.cfgRate k)
  let e := slotEngine k
  s1.putEngX e { s1.engX e with shed := (s1.engX e).shed.filter (· != k) }

/-- A close request is accepted: CLOSED at once, at CFG.RATE, under follow watch. -/
def State.closeNow (s : State) (k : Nat) (clear : Bool) : State :=
  let s0 := if clear then s.clearSections k else s
  let s1 := (s0.put (.LPS_CTL k) Fld.LPS_CTL_STATE 2).put (.LPS_STAT k) Fld.LPS_STAT_LATECNT 0
  let s3 := (s1.put (.LPS_STAT k) Fld.LPS_STAT_MWCNT 0).cfgRateNow k
  let s4 := s3.putLoopX k { s3.loopX k with sample := none, hostOpen := false, slewing := true, settling := true, exceeded := false, prev := none, iload := none }
  if s4.computes k then s4 else s4.zeroSlot k

/-- A close request (R121), refused for an UNUSED slot and for a HALTED one whose watch source is still set. -/
def State.closeSlot (s : State) (k : Nat) (clear : Bool) : State :=
  match s.slotSt k with
  | 2 => s
  | 0 => s.setFlag (.LPS_FLAG k) 6
  | 3 => if s.latched (188 + k) then s.setFlag (.LPS_FLAG k) 6 else s.closeNow k clear
  | _ => s.closeNow k clear

/-- A write of LPSss_CTL: FWF and REQ. -/
def State.wrLpsCtl (s : State) (k : Nat) (w : Word) : State :=
  let s2 := s.writeRw (.LPS_CTL k) w
  match getF w Fld.LPS_CTL_REQ with
  | 1 => s2.openSlot k true
  | 2 => s2.closeSlot k false
  | 3 => s2.closeSlot k true
  | _ => s2

/-- A close request to a slot of the domain under reload is refused with CLOSEREJ (R121), beside R66. -/
def State.closeBlocked (s : State) (k : Nat) (w : Word) : State :=
  if 2 ≤ getF w Fld.LPS_CTL_REQ && s.accepts && s.powered .eng && !s.loader && s.underReload (s.slotDom k) &&
      s.slotSt k != 2 then s.setFlag (.LPS_FLAG k) 6
  else s

/-- A guarded write of LPSss_CTL. -/
def State.busLpsCtl (s : State) (k : Nat) (w : Word) : State :=
  (s.closeBlocked k w).guardWrite (.LPS_CTL k) fun s => s.wrLpsCtl k w

/-- A write of LPSss_CTL with a REQ code and FWF as it stands. -/
def State.loopReq (s : State) (k req : Nat) : State := s.busLpsCtl k (putF (s.rd (.LPS_CTL k)) Fld.LPS_CTL_REQ req)

/-- LOOP_OPEN_REQUEST (R119). -/
def execLoopOpenRequest (_i : Iface) (k : Fin 32) (s : State) : Outcome State Fault Refusal := .next (s.loopReq k 1)

/-- LOOP_CLOSE_REQUEST (R120, R121). -/
def execLoopCloseRequest (_i : Iface) (k : Fin 32) (s : State) : Outcome State Fault Refusal := .next (s.loopReq k 2)

/-- LOOP_CLOSE_CLEARED (R120, R121). -/
def execLoopCloseCleared (_i : Iface) (k : Fin 32) (s : State) : Outcome State Fault Refusal := .next (s.loopReq k 3)

/-! ### Checked writes (R101, R103, R109, R117, R164) -/

/-- A write to a slot's configuration is refused while it is CLOSED (R117). -/
def State.ifOpen (s : State) (k : Nat) (f : State → State) : State :=
  if s.slotSt k = 2 then s.setFlag (.LPS_FLAG k) 7 else f s

/-- A slot drives a destination no longer. The stages of a rail keep the last reference they received (R15); the offset it
wrote to another slot ends with it (R102). -/
def State.leaveDest (s : State) (d : Nat × Nat) : State :=
  if d.1 = 2 then { s with lp := { s.lp with dests := s.lp.dests.filter (fun e => decide (e.1 ≠ d)) } } else s

/-- The slot's state and rate follow its CFG (Table 04.6, R107). -/
def State.cfgApplied (s : State) (k : Nat) : State :=
  let s1 := s.cfgRateNow k
  if s1.slotUsed k then if s1.slotSt k = 0 then s1.put (.LPS_CTL k) Fld.LPS_CTL_STATE 1 else s1
  else (s1.leaveDest (s1.slotDest k)).put (.LPS_CTL k) Fld.LPS_CTL_STATE 0

/-- A destination's index is allowed for the slot (R103, Table 04.1). -/
def State.destOk (s : State) (k : Nat) : Bool :=
  let d := s.slotDest k
  if d.1 = 1 then d.2 < 16 && (s.railDom d.2).isSome && decide (s.railDom d.2 = s.slotDom k) else true

/-- TAPREJ for the first converter whose pattern a write would break (R164). -/
def State.tapReject (s t : State) : State := s.setFlagI .SVY_FLAG 1 (((List.range 3).find? fun x => !t.tapsFit x).getD 0) 0

/-- A write of LPSss_CFG: a KIND above 5 leaves KIND, a value that breaks a rule leaves everything. [DEDUCED, log 45] -/
def State.wrLpsCfg (s : State) (k : Nat) (w0 : Word) : State :=
  s.ifOpen k fun s =>
    let w := if 5 < getF w0 Fld.LPS_CFG_KIND then putF w0 Fld.LPS_CFG_KIND (s.slotKind k) else w0
    let t := s.writeRw (.LPS_CFG k) w
    let place := cfgFields w && t.placeOk (slotEngine k) && t.destsApart && (!t.slotUsed k || t.destOk k)
    let s1 := if place then s else s.setFlag (.LPS_FLAG k) 9
    let s2 := if t.tapsOk then s1 else s1.tapReject t
    if place && t.tapsOk then t.cfgApplied k else s2

/-- LPS_CFG_WRITE (R101, R109, R117, R164). -/
def execLpsCfgWrite (_i : Iface) (k : Fin 32) (v : Word) (be : BitVec 4) (s : State) : Outcome State Fault Refusal :=
  .next (s.guardWrite (.LPS_CFG k) fun s => s.wrLpsCfg k (s.merged (.LPS_CFG k) v be))

/-- A write of LPSss_OUT: a DEST of 6 or 7 leaves DEST. -/
def State.wrLpsOut (s : State) (k : Nat) (w0 : Word) : State :=
  s.ifOpen k fun s =>
    let w := if 5 < getF w0 Fld.LPS_OUT_DEST then putF w0 Fld.LPS_OUT_DEST (s.fld (.LPS_OUT k) Fld.LPS_OUT_DEST) else w0
    let t := s.writeRw (.LPS_OUT k) w
    if t.destOk k && t.destsApart then
      if t.slotDest k = s.slotDest k then t else t.leaveDest (s.slotDest k)
    else s.setFlag (.LPS_FLAG k) 9

/-- LPS_OUT_WRITE (R103, R117). -/
def execLpsOutWrite (_i : Iface) (k : Fin 32) (v : Word) (be : BitVec 4) (s : State) : Outcome State Fault Refusal :=
  .next (s.guardWrite (.LPS_OUT k) fun s => s.wrLpsOut k (s.merged (.LPS_OUT k) v be))

/-- A write of LPSss_IN: REFSRC 0b10 and 0b11 store 0b00. -/
def State.wrLpsIn (s : State) (k : Nat) (w0 : Word) : State :=
  s.ifOpen k fun s =>
    let w := if 1 < getF w0 Fld.LPS_IN_REFSRC then putF w0 Fld.LPS_IN_REFSRC 0 else w0
    let t := s.writeRw (.LPS_IN k) w
    if t.tapsOk then t else s.tapReject t

/-- LPS_IN_WRITE (R117, R164). -/
def execLpsInWrite (_i : Iface) (k : Fin 32) (v : Word) (be : BitVec 4) (s : State) : Outcome State Fault Refusal :=
  .next (s.guardWrite (.LPS_IN k) fun s => s.wrLpsIn k (s.merged (.LPS_IN k) v be))

/-- A write of LPSss_REF or LPSss_MODEL. -/
def State.wrLpsPlain (s : State) (k : Nat) (r : Reg) (w : Word) : State := s.ifOpen k fun s => s.writeRw r w

/-- LOOP_PARAM_WRITE (R117). -/
def execLoopParamWrite (_i : Iface) (p : LoopParam) (k : Fin 32) (v : Word) (be : BitVec 4) (s : State) :
    Outcome State Fault Refusal :=
  let r : Reg := match p with | .ref => .LPS_REF k | .model => .LPS_MODEL k
  .next (s.guardWrite r fun s => s.wrLpsPlain k r (s.merged r v be))

/-- A write of a section coefficient: refused while the slot whose section it is is CLOSED. -/
def State.wrCoef (s : State) (e j c : Nat) (w : Word) : State :=
  match (s.coveringSlots e j).head? with
  | some k => s.wrLpsPlain k (.COF e j c) w
  | none => s.writeRw (.COF e j c) w

/-- COEF_WRITE (R117, R118). -/
def execCoefWrite (_i : Iface) (e : Fin 8) (j : Fin 12) (c : Fin 5) (v : Word) (be : BitVec 4) (s : State) :
    Outcome State Fault Refusal :=
  .next (s.guardWrite (.COF e j c) fun s => s.wrCoef e j c (s.merged (.COF e j c) v be))

/-! ### Watch events (R119, R123 to R125) -/

/-- A watch trip: HALTED with the destination held, the flag, the fault. -/
def State.trip (s : State) (k flag cause : Nat) : State :=
  let s1 := s.put (.LPS_CTL k) Fld.LPS_CTL_STATE 3
  ((s1.putLoopX k { s1.loopX k with sample := none }).setFlag (.LPS_FLAG k) flag).raise (188 + k) cause

/-- LOOP_OPENLONG (R119): only for a slot a host request opened, on a rail that is not OFF, with the check enabled. -/
def execLoopOpenlong (k : Fin 32) (s : State) : Outcome State Fault Refusal :=
  .next (
    let n := s.fld (.LPS_IN k) Fld.LPS_IN_RAIL
    if s.slotSt k == 1 && (s.loopX k).hostOpen && n < 20 && s.railSt n != rOff && s.fld (.LPS_CLOSE k) Fld.LPS_CLOSE_OPENMAX != 0 then
      (s.setFlag (.LPS_FLAG k) 5).raise (188 + k) 3
    else s)

/-- WATCH_SETTLE_END (R123): the error has stayed within FLIM for SETTLE and no other condition holds. -/
def execWatchSettleEnd (k : Fin 32) (s : State) : Outcome State Fault Refusal :=
  .next (if s.slotSt k == 2 && !s.unsettled k && !(s.loopX k).exceeded then
      s.putLoopX k { s.loopX k with settling := false }
    else s)

/-- LOOP_FOLLOW (R124, R125): under follow watch the error has exceeded FLIM at every sample for FTIME. -/
def execLoopFollow (k : Fin 32) (s : State) : Outcome State Fault Refusal :=
  .next (if s.slotSt k == 2 && !s.modelWatch k && (s.loopX k).exceeded then s.trip k 0 1 else s)

/-- LOOP_MODEL (R124, R125): the model-watch counter has reached CNT. -/
def execLoopModel (k : Fin 32) (s : State) : Outcome State Fault Refusal :=
  .next (if s.modelWatch k && decide (max 1 (getF (s.loopX k).act.mwatch Fld.LPS_MWATCH_CNT) ≤ s.fld (.LPS_STAT k) Fld.LPS_STAT_MWCNT) then
      s.trip k 1 2
    else s)

end Sys2Proof.Machine
end

