-- ==== Sys2Proof/Machine/Stream.lean ====
section
/-!
DEFINITION. The trackplan stream (chapter 02): its bytes read as header, directory, sections, records and entries
(R36 to R45), the checks of Table 02.6 that need the stream alone (R46 to R49 among them), and the register values it
gives.
-/

namespace Sys2Proof.Machine

/-! ### Bytes -/

/-- Little-endian fields of a stream (R36). -/
def b8 (l : List Byte) (i : Nat) : Nat := (l.getD i 0#8).toNat
def b16 (l : List Byte) (i : Nat) : Nat := b8 l i + 256 * b8 l (i + 1)
def b32 (l : List Byte) (i : Nat) : Nat := b16 l i + 65536 * b16 l (i + 2)

/-- The bytes from `a` up to and without `z`. -/
def cut (l : List Byte) (a z : Nat) : List Byte := (l.drop a).take (z - a)

/-- The first position from `a` up to `z` that holds no zero. -/
def firstNonzero (l : List Byte) (a z : Nat) : Option Nat :=
  ((cut l a z).findIdx? (· != 0#8)).map (a + ·)

/-! ### Directory (Table 02.3) -/

/-- A directory entry: its place in the directory and its fields. -/
structure Dir where
  idx : Nat
  typ : Nat
  dom : Nat
  pos : Nat
  len : Nat
  crc : Nat
deriving DecidableEq, Repr

def nsect (l : List Byte) : Nat := b8 l 11
def totlen (l : List Byte) : Nat := b32 l 12
def dirEnd (l : List Byte) : Nat := 64 + 16 * nsect l

/-- The directory of a stream. -/
def dirs (l : List Byte) : List Dir :=
  (List.range (nsect l)).map fun i =>
    let p := 64 + 16 * i
    { idx := i, typ := b8 l p, dom := b8 l (p + 1), pos := b32 l (p + 4), len := b32 l (p + 8), crc := b32 l (p + 12) }

/-- The section of a domain, and the COMMON section. -/
def domSect (l : List Byte) (d : Nat) : Option Dir := (dirs l).find? fun e => e.typ == 2 && e.dom == d
def commonSect (l : List Byte) : Option Dir := (dirs l).find? fun e => e.typ == 1

/-- The bytes of a section. -/
def sectBytes (l : List Byte) (e : Dir) : List Byte := cut l e.pos (e.pos + e.len)

/-! ### Records (R43 to R45) -/

/-- An entry of a REGSET record: its place in the stream, the block index and offset it names, MASK and VALUE. -/
structure Entry where
  pos : Nat
  blk : Nat
  off : Nat
  mask : Word
  value : Word
deriving DecidableEq, Repr

/-- A record: an OWNER or the entries of a REGSET. -/
inductive Rec where
  | owner (pos : Nat) (o : Owner)
  | regset (l : List Entry)
deriving DecidableEq, Repr

/-- The register an entry names. -/
def Entry.reg (e : Entry) : Option Reg := if e.off < 0x1000 then Reg.ofAddr (0x40000000 + 0x1000 * e.blk + e.off) else none

/-- The OWNER record body at `p` (Table 02.4). -/
def ownerAt (l : List Byte) (p : Nat) : Owner :=
  { dom := b8 l p, safe := b8 l (p + 1) == 1, rails := b32 l (p + 4) % 2 ^ 20, stages := b32 l (p + 8) % 2 ^ 24,
    slots := b32 l (p + 12), groups := b8 l (p + 16), faults := leNat (cut l (p + 32) (p + 64)) }
where
  leNat : List Byte → Nat
    | [] => 0
    | b :: t => b.toNat + 256 * leNat t

/-- The entries of a REGSET body at `p`. -/
def entriesAt (l : List Byte) (p : Nat) : List Entry :=
  (List.range (b16 l (p + 2))).map fun i =>
    let q := p + 4 + 12 * i
    { pos := q, blk := b8 l p, off := b16 l q, mask := BitVec.ofNat 32 (b32 l (q + 4)), value := BitVec.ofNat 32 (b32 l (q + 8)) }

/-- The first failing field of an OWNER record whose head stands at `p`, in a section of domain `d`. The bits above RAILS
and STAGES are Reserved, as those of ESSENTIAL are: DEDUCED. [DEDUCED, log 24, 25] -/
def ownerBad (l : List Byte) (p d : Nat) : Option Nat :=
  if b8 l (p + 4) != d then some (p + 4)
  else if 1 < b8 l (p + 5) then some (p + 5)
  else if (firstNonzero l (p + 6) (p + 8)).isSome then some (p + 6)
  else if 2 ^ 20 ≤ b32 l (p + 8) then some (p + 8)
  else if 2 ^ 24 ≤ b32 l (p + 12) then some (p + 12)
  else if (firstNonzero l (p + 21) (p + 36)).isSome then some (p + 21)
  else none

/-- The first failing field of a REGSET record whose head stands at `p` and whose body has `len` bytes. [DEDUCED, log 24] -/
def regsetBad (l : List Byte) (p len : Nat) : Option Nat :=
  let n := b16 l (p + 6)
  if n = 0 then some (p + 6)
  else if len ≠ 4 + 12 * n then some (p + 2)
  else (firstNonzero l (p + 5) (p + 6)).orElse fun _ =>
    (List.range n).findSome? fun i =>
      if (firstNonzero l (p + 10 + 12 * i) (p + 12 + 12 * i)).isSome then some (p + 10 + 12 * i) else none

/-- The records from `p` up to `z`, and the place of the first fault among them. `first`: no record has been read yet.
[DEDUCED, log 22] -/
def recsFrom (l : List Byte) (e : Dir) : Nat → Bool → Nat → List Rec × Option Nat
  | 0, _, p => ([], some p)
  | fuel + 1, first, p =>
    let z := e.pos + e.len
    if p = z then ([], if first && e.typ == 2 then some p else none)
    else if z < p + 4 then ([], some p)
    else
      let len := b16 l (p + 2)
      let typ := b8 l p
      let own := typ == 1
      if own ≠ (first && e.typ == 2) ∨ (typ ≠ 1 ∧ typ ≠ 2) then ([], some p)
      else if z < p + 4 + len ∨ (own ∧ len ≠ 64) then ([], some (p + 2))
      else
        let bad := (firstNonzero l (p + 1) (p + 2)).orElse fun _ => if own then ownerBad l p e.dom else regsetBad l p len
        match bad with
        | some q => ([], some q)
        | none =>
          let r := if own then Rec.owner p (ownerAt l (p + 4)) else Rec.regset (entriesAt l (p + 4))
          let t := recsFrom l e fuel false (p + 4 + len)
          (r :: t.1, t.2)

/-- The records of a section, none of a NOTE. -/
def sectRecs (l : List Byte) (e : Dir) : List Rec × Option Nat :=
  if e.typ = 3 then ([], none) else recsFrom l e (e.len / 4 + 1) true e.pos

/-- The entries of a section in stream order, and its OWNER record with its place. -/
def sectEntries (l : List Byte) (e : Dir) : List Entry :=
  (sectRecs l e).1.flatMap fun r => match r with
    | .regset es => es
    | .owner _ _ => []
def sectOwner (l : List Byte) (e : Dir) : Option (Nat × Owner) :=
  (sectRecs l e).1.findSome? fun r => match r with
    | .owner p o => some (p, o)
    | .regset _ => none

/-- The OWNER records of a stream in directory order. -/
def streamOwners (l : List Byte) : List Owner := (dirs l).filterMap fun e => (sectOwner l e).map (·.2)

/-- The sections in the order of R53: COMMON, then the domains rising. -/
def sectOrder (l : List Byte) : List Dir :=
  (commonSect l).toList ++ (List.range 16).filterMap (domSect l)

/-- Every entry of a stream in the order of R53. -/
def streamEntries (l : List Byte) : List Entry := (sectOrder l).flatMap (sectEntries l)

/-! ### Register values (R46) -/

/-- An entry applied to a register's value. -/
def Entry.apply (e : Entry) (w : Word) : Word := (w &&& ~~~ e.mask) ||| (e.value &&& e.mask)

/-- The registers at their reset values with entries applied, owned as the stream says. -/
def image (owners : List Owner) (es : List Entry) : State :=
  let s0 : State := { tp := { owners := owners } }
  each es (fun e s => match e.reg with
    | some r => s.wr r (e.apply (s.rd r))
    | none => s) s0

/-- The image of a whole stream. -/
def streamImage (l : List Byte) : State := image (streamOwners l) (streamEntries l)

/-! ### Checks in the order of Table 02.6 -/

/-- A refusal: its code, and SECTION and OFFSET of ERRDET where the rules name one place. [DESIGN CHOICE, log 23] -/
structure TplRef where
  code : Nat
  sect : Option Nat := none
  off : Option Nat := none
deriving DecidableEq, Repr

/-- A refusal at a byte of a section, and one outside every section. -/
def refIn (code j off : Nat) : Option TplRef := some { code := code, sect := some j, off := some off }
def refAt (code off : Nat) : Option TplRef := refIn code 0xFF off

/-- The first refusal of a list of checks. -/
def firstRef (l : List (Unit → Option TplRef)) : Option TplRef := l.findSome? fun f => f ()

/-- LEGACY to PART: the header's own fields. `rev` is SYS_ID.REV. [DEDUCED, log 22] -/
def checkHeader (rev : Nat) (l : List Byte) : Option TplRef :=
  let n := l.length
  if 4 ≤ n ∧ b32 l 0 = 0x304B5254 then refAt 0x14 0
  else if n < 4 ∨ b32 l 0 ≠ 0x314B5254 then refAt 0x01 0
  else if n < 72 ∨ totlen l ≠ n ∨ totlen l % 4 ≠ 0 ∨ inRange 72 65280 (totlen l) = false then refAt 0x04 0x0C
  else if b16 l 4 ≠ 0x0100 ∧ b16 l 4 ≠ 0x0101 then refAt 0x02 4
  else if b16 l 6 ≠ 0x40 then refAt 0x02 6
  else if b16 l 8 ≠ 0x1640 then refAt 0x03 8
  else if rev < b8 l 10 then refAt 0x03 10
  else none

/-- HDRCRC, behind the check of NSECT that goes before it. -/
def checkHdrCrc (l : List Byte) : Option TplRef :=
  if inRange 1 24 (nsect l) = false ∨ totlen l < dirEnd l + 8 then refAt 0x06 11
  else if (crc32 (cut l 0 0x38 ++ cut l 64 (dirEnd l))).toNat ≠ b32 l 0x38 then refAt 0x05 0x38
  else none

/-- An entry of the directory breaks R40, `prev` the end of the section before it. -/
def dirBad (l : List Byte) (prev : Nat) (e : Dir) : Option Nat :=
  let p := 64 + 16 * e.idx
  if inRange 1 3 e.typ = false then some p
  else if (e.typ = 2 ∧ 15 < e.dom) ∨ (e.typ ≠ 2 ∧ e.dom ≠ 0xFF) then some (p + 1)
  else if e.pos < prev then some (p + 4)
  else if e.len % 4 ≠ 0 ∨ e.len < 4 ∨ totlen l < e.pos + e.len + 8 then some (p + 8)
  else none

/-- The first directory entry that breaks R40. -/
def dirsBad (l : List Byte) : Nat → List Dir → Option Nat
  | _, [] => none
  | prev, e :: t => (dirBad l prev e).orElse fun _ => dirsBad l (e.pos + e.len) t

/-- An entry of the directory is one too many (R41): a second COMMON section, a second section of a domain, a fifth NOTE. -/
def dirExtra (ds : List Dir) (e : Dir) : Bool :=
  let before := ds.take e.idx
  match e.typ with
  | 1 => before.any (·.typ == 1)
  | 2 => before.any fun x => x.typ == 2 && x.dom == e.dom
  | _ => decide (4 ≤ (before.filter (·.typ == 3)).length)

/-- DIRECTORY: R40 and R41. A missing COMMON section stands nowhere. [DEDUCED, log 22] -/
def checkDir (l : List Byte) : Option TplRef :=
  let ds := dirs l
  match dirsBad l (dirEnd l) ds with
  | some p => refAt 0x06 p
  | none =>
    match ds.find? (dirExtra ds) with
    | some e => refAt 0x06 (64 + 16 * e.idx)
    | none =>
      if (commonSect l).isNone then some { code := 0x06, sect := some 0xFF }
      else if (maskOf ((ds.filter (·.typ == 2)).map (·.dom))).toNat ≠ b16 l 0x18 then refAt 0x06 0x18
      else none

/-- SEAL (R42) and SECTION_CRC. -/
def checkSeal (l : List Byte) : Option TplRef :=
  let t := totlen l
  if b32 l (t - 8) ≠ 0x4C414553 then refAt 0x08 (t - 8)
  else if (crc32 (l.take (t - 4))).toNat ≠ b32 l (t - 4) then refAt 0x08 (t - 4)
  else none
def checkCrcs (l : List Byte) : Option TplRef :=
  (dirs l).findSome? fun e =>
    if (crc32 (sectBytes l e)).toNat ≠ e.crc then refIn 0x07 e.idx e.pos else none

/-- RECORD: Reserved bytes of the header and the directory. -/
def reservedBad (l : List Byte) : Option Nat :=
  (firstNonzero l 0x1A 0x1C).orElse fun _ =>
  (if 2 ^ 20 ≤ b32 l 0x1C then some 0x1C else none).orElse fun _ =>
  (firstNonzero l 0x24 0x38).orElse fun _ =>
  (firstNonzero l 0x3C 0x40).orElse fun _ =>
  (dirs l).findSome? fun e => firstNonzero l (64 + 16 * e.idx + 2) (64 + 16 * e.idx + 4)

/-- RECORD: paddings and the records of the sections, in the order of the stream. -/
def checkSects (l : List Byte) : Nat → List Dir → Option TplRef
  | prev, [] => (firstNonzero l prev (totlen l - 8)).bind fun p => refAt 0x09 p
  | prev, e :: t =>
    match firstNonzero l prev e.pos with
    | some p => refAt 0x09 p
    | none =>
      match (if e.pos % 4 = 0 then (sectRecs l e).2 else some e.pos) with
      | some p => refIn 0x09 e.idx p
      | none => checkSects l (e.pos + e.len) t
def checkRecords (l : List Byte) : Option TplRef :=
  match reservedBad l with
  | some p => refAt 0x09 p
  | none => checkSects l (dirEnd l) (dirs l)

/-- Blocks a DOMAIN section and the COMMON section may name (R48). -/
def domBlock (b : Block) : Bool :=
  b == .swy || b == .rail || b == .lpe || b == .ttb || b == .sup || b == .pol || b == .flt
def commonBlock (b : Block) : Bool :=
  domBlock b || b == .svy || b == .bkp || b == .gau || b == .evt || b == .wdg || b == .lnk || b == .tim || b == .twb

/-- An OWNER record lists a resource that a register belongs to (Table 02.5); a coefficient belongs to every used slot
that covers its section (R101). -/
def Owner.owns (img : State) (o : Owner) (r : Reg) : Bool :=
  match r with
  | .COF e j _ => (img.coveringSlots e j).any fun k => o.slots.testBit k
  | r => ({ img with tp := { owners := [o] } } : State).regDom r == some o.dom

/-- An entry of a section breaks R46 or R48. -/
def entryBad (img : State) (own : Option Owner) (e : Entry) : Bool :=
  match e.reg with
  | none => true
  | some r =>
    (e.mask &&& ~~~ r.rw != 0#32) || (e.value &&& ~~~ e.mask != 0#32) ||
    match own with
    | some o => !domBlock r.block || !o.owns img r
    | none => !commonBlock r.block || img.tp.owners.any fun o => o.owns img r

/-- REG_ACCESS. -/
def checkAccess (img : State) (l : List Byte) : Option TplRef :=
  (dirs l).findSome? fun d =>
    let own := (sectOwner l d).map (·.2)
    ((sectEntries l d).find? (entryBad img own)).bind fun e => refIn 0x0B d.idx e.pos

/-- OWNER_CONFLICT: an entry names a register that two used slots cover, or that an earlier section has written. [DEDUCED,
log 26] -/
def conflictFrom (img : State) (l : List Byte) : List (Nat × Reg) → List Dir → Option TplRef
  | _, [] => none
  | seen, d :: t =>
    let es := sectEntries l d
    let bad (e : Entry) : Bool := match e.reg with
      | some (.COF g j c) => decide (1 < (img.coveringSlots g j).length) || seen.any fun x => x.2 == .COF g j c
      | some r => seen.any fun x => x.2 == r
      | none => false
    match es.find? bad with
    | some e => refIn 0x0A d.idx e.pos
    | none => conflictFrom img l (seen ++ es.filterMap fun e => e.reg.map fun r => (d.idx, r)) t

/-- Two OWNER records list one resource. -/
def Owner.meets (a b : Owner) : Bool :=
  a.rails &&& b.rails != 0 || a.stages &&& b.stages != 0 || a.slots &&& b.slots != 0 || a.groups &&& b.groups != 0 ||
  a.faults &&& b.faults != 0

/-- The first OWNER record that lists a resource of an earlier one. [DEDUCED, log 26] -/
def ownersMeet (l : List Byte) : List Owner → List Dir → Option TplRef
  | _, [] => none
  | seen, d :: t =>
    match sectOwner l d with
    | none => ownersMeet l seen t
    | some (p, o) =>
      if seen.any o.meets then refIn 0x0C d.idx p else ownersMeet l (seen ++ [o]) t

/-- A register whose own value breaks R49, or what R101, R103, R138 and R241 add to it. -/
def regBad (img : State) : Reg → Bool
  | .STG_CFG m => inRange 16 30 (img.stgRail m) || inRange 16 30 (img.fld (.STG_CFG m) Fld.STG_CFG_HOME)
  | .LPS_CFG k => !cfgFields (img.rd (.LPS_CFG k))
  | .LPS_OUT k => !img.destOk k
  | .LPS_IN k => img.slotUsed k &&
    (match img.railDom (img.fld (.LPS_IN k) Fld.LPS_IN_RAIL) with
     | some d => img.slotDom k != some d
     | none => false)
  | .TTB_STEP g j => decide (j < img.seqLen g) && !stepOk (img.step g j)
  | .FLT_TGT f => !img.fltTgtOk f (img.rd (.FLT_TGT f))
  | _ => false

/-- The rules of R49 that several registers break together, with what R101, R103, R138, R164 and R241 add: gangs, placement,
destinations, taps, sequences, fault classes. -/
def resourcesOk (img : State) : Bool :=
  allStages.all (fun m => decide (16 ≤ img.stgRail m) || decide (img.railDom (img.stgRail m) = img.stageDom m)) &&
  (List.range 16).all (fun n => decide ((img.gang n).length ≤ 8)) &&
  (List.range 8).all img.placeOk && img.destsApart && img.tapsOk && img.seqRules &&
  (List.range 256).all (fun f => fltCfgOk f (img.rd (.FLT_CFG f)) (img.rd (.FLT_TGT f)))

/-- The first entry whose register breaks a rule by itself: its section, and its place where it alone names that register.
[DEDUCED, log 24] -/
def regsBad (img : State) (l : List Byte) : Option TplRef :=
  (dirs l).findSome? fun d =>
    let es := sectEntries l d
    (es.find? fun e => (e.reg.map (regBad img)).getD false).map fun e =>
      { code := 0x0C, sect := some d.idx, off := if (es.filter fun x => x.reg == e.reg).length = 1 then some e.pos else none }

/-- RESOURCE: where several places break a rule together, none is named. [DEDUCED, log 26; DESIGN CHOICE, log 23] -/
def checkResources (img : State) (l : List Byte) : Option TplRef :=
  (ownersMeet l [] (dirs l)).orElse fun _ =>
  (regsBad img l).orElse fun _ => if resourcesOk img then none else some { code := 0x0C }

/-- The checks LEGACY to RESOURCE on the bytes of a stream. [DEDUCED, log 22] -/
def checkStream (rev : Nat) (l : List Byte) : Option TplRef :=
  firstRef [fun _ => checkHeader rev l, fun _ => checkHdrCrc l, fun _ => checkDir l, fun _ => checkSeal l, fun _ => checkCrcs l,
    fun _ => checkRecords l, fun _ => checkAccess (streamImage l) l, fun _ => conflictFrom (streamImage l) l [] (dirs l),
    fun _ => checkResources (streamImage l) l]

/-! ### The running stream -/

/-- Rails 0 to 15 whose gang differs from the running stream (R98); none without a stream. [DEDUCED, log 36] -/
def State.gangDiff (s : State) : Word :=
  if s.tp.stream.isEmpty then 0#32
  else
    let img := streamImage s.tp.stream
    maskOf ((List.range 16).filter fun n => s.gang n != img.gang n)

end Sys2Proof.Machine
end

