-- ==== Sys2Proof/Machine/View.lean ====
section
/-!
DEFINITION. What a read returns (R7, R21 to R23, R25): the registers whose value follows other state, the registers
banked by interface (R277, R222, R380), the memory windows of Table 01.5, and the crossings of chapter 21.
-/

namespace Sys2Proof.Machine

open Host (Outcome)

/-! ### Registers that follow other state -/

/-- Number of latched sources of a class, at most 255 (FLT_SUMMARY). -/
def State.latchedOf (s : State) (cls : Nat) : Nat :=
  min 255 ((List.range 256).filter fun f => s.latched f && s.fld (.FLT_CFG f) Fld.FLT_CFG_CLASS == cls).length

/-- XBRnn_GANG. -/
def State.rdGang (s : State) (n : Nat) : Word :=
  let g := s.gang n
  putF (putF (maskOf g) Fld.XBR_GANG_COUNT g.length) Fld.XBR_GANG_ACTIVE
    (g.filter fun m => s.stgSt m == gJoin || s.stgSt m == gRun).length

/-- RAILnn_STATUS: INGRP and GROUP follow the sequences. -/
def State.rdRailStatus (s : State) (n : Nat) : Word :=
  let w := s.rd (.RAIL_STATUS n)
  match s.railGroup n with
  | some g => putF (putF w Fld.RAIL_STATUS_INGRP 1) Fld.RAIL_STATUS_GROUP g
  | none => putF (putF w Fld.RAIL_STATUS_INGRP 0) Fld.RAIL_STATUS_GROUP 0

/-- FLT_SUMMARY (R245). -/
def State.rdSummary (s : State) : Word :=
  putF (putF (putF (putF (putF 0#32 Fld.FLT_SUMMARY_NA (s.latchedOf 2)) Fld.FLT_SUMMARY_NB (s.latchedOf 1))
    Fld.FLT_SUMMARY_NC (s.latchedOf 0)) Fld.FLT_SUMMARY_FNMIN (b2n s.pins.faultNMin)) Fld.FLT_SUMMARY_FAULTN (b2n s.pins.faultN)

/-- EVT_QqRUN. -/
def State.rdRun (s : State) (q : Nat) : Word :=
  match s.stack q with
  | [] => 0x00000080#32
  | (p, src) :: t => putF (putF (putF 0#32 Fld.EVT_QRUN_DEPTH (t.length + 1)) Fld.EVT_QRUN_SOURCE src) Fld.EVT_QRUN_PRIO p

/-- CMD_LANEn. -/
def State.rdLane (s : State) (l : Nat) : Word :=
  let r := match s.runningSlot l with
    | some k => handleOf k (s.slot k).gen
    | none => 0
  putF (putF 0#32 Fld.CMD_LANE_RUNNING r) Fld.CMD_LANE_WAITING (s.cm.waiting.filter fun k => opLane (s.slot k).op == l).length

/-- LDG_Rr_STAT and LDG_Rr_SEQ of a banked region (R308, R309); the fault log's are kept with its records. -/
def State.rdRegionStat (s : State) (r : Nat) : Word :=
  if r = 2 then s.rd (.LDG_R_STAT 2)
  else
    let w := s.rd (.LDG_R_STAT r)
    putF (putF (putF w Fld.LDG_R_STAT_NEWEST ((s.newestBank r).getD 0)) Fld.LDG_R_STAT_VALIDB (b2n (s.bankSeq r 1 != 0)))
      Fld.LDG_R_STAT_VALIDA (b2n (s.bankSeq r 0 != 0))
def State.rdRegionSeq (s : State) (r : Nat) : Word :=
  if r = 2 then s.rd (.LDG_R_SEQ 2) else BitVec.ofNat 32 (max (s.bankSeq r 0) (s.bankSeq r 1))

/-- The value of a register as interface `i` sees it. -/
def State.view (s : State) (i : Iface) : Reg → Word
  | .XBR_MOD n => putF (s.rd (.XBR_MOD n)) Fld.XBR_MOD_KIND (b2n (s.gangIntegrated n))
  | .XBR_GANG n => s.rdGang n
  | .SWY_GANGDIFF => s.gangDiff
  | .RAIL_STATUS n => s.rdRailStatus n
  | .LPE_STATE e => s.rdLpeState e
  | .LPE_LOAD e => putF (s.rd (.LPE_LOAD e)) Fld.LPE_LOAD_SLACKREF (ofSigned 16 (s.slackRef e))
  | .LPS_STAT k => if s.modelWatch k then s.rd (.LPS_STAT k) else putF (s.rd (.LPS_STAT k)) Fld.LPS_STAT_MWCNT 0
  | .LPS_CTL k => putF (s.rd (.LPS_CTL k)) Fld.LPS_CTL_WATCH (b2n (s.modelWatch k))
  | .POL_R_STATE n => s.rdPolState n
  | .FLT_SUMMARY => s.rdSummary
  | .EVT_LIVE w => maskOf ((List.range 32).filter fun b => s.evtLive (32 * w + b))
  | .EVT_STAT => (s.rd .EVT_STAT &&& 0xFFFFFFF8#32) ||| maskOf ((List.range 3).filter fun q => !s.qEmpty q)
  | .EVT_QRUN q => s.rdRun q
  | .CMD_PARAM n => match n with
    | 0 => (s.bank i).p0
    | 1 => (s.bank i).p1
    | 2 => (s.bank i).p2
    | _ => (s.bank i).p3
  | .CMD_RESULT => (s.bank i).result
  | .CMD_QUERY => (s.bank i).query
  | .CMD_QSTAT => s.qstat (s.bank i).query.toNat
  | .CMD_LANE l => s.rdLane l
  | .CMD_STAT => BitVec.ofNat 32 s.outstanding
  | .CMD_SLOTS => maskOf (allSlots.filter s.slotBusy)
  | .MEM_STATUS => putF (s.rd .MEM_STATUS) Fld.MEM_STATUS_SPARES ((List.range 4).filter fun k => !s.bit (.MEM_PMAP k) 31).length
  | .LDG_STATUS => putF (s.rd .LDG_STATUS) Fld.LDG_STATUS_LANES (maskOf ((List.range 4).filter fun l => !(s.lane l).isEmpty)).toNat
  | .LDG_R_STAT r => s.rdRegionStat r
  | .LDG_R_SEQ r => s.rdRegionSeq r
  | .OTP_STATUS => putF (putF (s.rd .OTP_STATUS) Fld.OTP_STATUS_SPARES s.spares) Fld.OTP_STATUS_TESTEN (b2n s.pins.testEn)
  | .OTP_REDIR k => s.ot.redir.get k 0#32
  | .WDG_STATUS => putF (putF 0#32 Fld.WDG_STATUS_TOKENED (maskOf (allTasks.filter s.tokened)).toNat)
      Fld.WDG_STATUS_REG (maskOf (allTasks.filter s.wdgReg)).toNat
  | .TWB_STATUS => if i = .twoWire then s.rd .TWB_STATUS ||| 1#32 else s.rd .TWB_STATUS
  | .LNK_STATUS => putF (s.rd .LNK_STATUS) Fld.LNK_STATUS_UP (maskOf s.upPorts).toNat
  | .FLW_TXADDR => (s.bank i).txAddr
  | .FLW_TXRES => (s.bank i).txRes
  | .TIM_NOW_HI => (s.bank i).timHi
  | .GAU_ACC_HI => (s.bank i).accHi
  | .MON_STAT => putF (s.rd .MON_STAT) Fld.MON_STAT_RIGHTS s.lookoutRights
  | r => s.rd r

/-! ### Crossings (R424 to R433) -/

/-- The instances of a row, and the registers of a block. -/
def RegRow.all (t : RegRow) : List Reg := (List.range t.k1).flatMap fun a => (List.range t.k2).map fun b => t.reg a b
def Block.regs (b : Block) : List Reg := b.rows.flatMap RegRow.all

/-- The blocks that hold registers of a group, and the domain whose clock captures it. -/
def groupBlocks : Nat → List Block
  | 0 => [.tim]
  | 1 => [.lnk, .flw, .tim]
  | 2 => [.svy]
  | _ => [.wdg, .rail, .gau, .bkp, .evt]
def groupPower : Nat → Dom
  | 2 => .adc
  | 3 => .aon
  | _ => .link

/-- The registers of a group (Table 21.3). [DEDUCED, log 147] -/
def groupRegs (g : Nat) : List Reg := (groupBlocks g).flatMap fun b => b.regs.filter fun r => decide (crossGroup r = some g)

/-- A value as its group captures it: station time at full resolution (R430). -/
def State.captured (s : State) (r : Reg) : Word :=
  match r with
  | .TIM_NOW_LO => timeLo s.clock.station
  | .TIM_NOW_HI => timeHi s.clock.station
  | r => s.view .core r

/-- A group captures: all its values at one clock (R430). -/
def State.capture (s : State) (g : Nat) : State :=
  let h := (groupRegs g).map fun r => (r, s.captured r)
  let s1 : State := { s with xg := { s.xg with hold := s.xg.hold.set g h } }
  (s1.addSat .XNG_STAT Fld.XNG_STAT_CAPT 1).setFlagI .XNG_TAKE g g 0

/-- GROUP_CAPTURE (R430, R431). [DEDUCED, log 148] -/
def execGroupCapture (g : Fin 4) (s : State) : Outcome State Fault Refusal :=
  .next (if s.powered .core && s.bit .XNG_CTL 0 && s.powered (groupPower g) && (s.xg.hold.lookup g.val).isNone then s.capture g
    else s)

/-- A read in legacy mode returns the hold copy; one that meets no copy waits for the capture (R430, R431). [DEDUCED, log
148] -/
def State.rdHeld (s : State) (g : Nat) (r : Reg) : Word × State :=
  let s1 := if (s.xg.hold.lookup g).isNone then s.capture g else s
  (Tab.get (s1.xg.hold.get g []) r 0#32, s1)

/-! ### Reads -/

/-- A native read of TIM_NOW_LO: an even tick, with the upper word of the same sample held (R427, R222). [DEDUCED, log 140] -/
def State.rdNowEven (s : State) (i : Iface) : Word × State :=
  let r := s.rdNowLo i
  (r.1 &&& 0xFFFFFFFE#32, r.2)

/-- A read of a register by its access types: RC fields clear, WO bits read as 0, holding registers load (R7, R222). -/
def State.readPlain (s : State) (i : Iface) (r : Reg) : Word × State :=
  match r with
  | .TIM_NOW_LO => s.rdNowEven i
  | .GAU_ACC_LO => s.rdAccLo i
  | .SVY_CV_DATA x => s.rdCvData x
  | r => (s.view i r &&& ~~~ r.wo, if r.rc = 0#32 then s else s.wr r (s.rd r &&& ~~~ r.rc))

/-- A read of a powered register: through its crossing, if it lies behind one. -/
def State.readReg (s : State) (i : Iface) (r : Reg) : Word × State :=
  match crossGroup r with
  | none => s.readPlain i r
  | some g =>
    if s.legacyFor i then s.rdHeld g r
    else
      let p := s.readPlain i r
      (p.1, p.2.agree g p.1)

/-- A read of an SRAM word: a damaged one reads as 0, and a load of the core from it is fatal (Table 13.1). -/
def State.readSram (s : State) (i : Iface) (a : Nat) : Word × State :=
  let core := i == .core
  let r := s.memRead a (if core then 2 else 3) 2
  (r.1, if core && (s.sramBad a).isSome then r.2.raise 55 2 else r.2)

/-- A read of the ledger window or the OTP window; nothing else stands there (R21, Table 01.5). The spare blocks
are not readable as data, and cells an interrupted step left undefined hold no stated value: what a read of either
returns is free. [DESIGN CHOICE, log 69] -/
def State.readWindow (s : State) (a : Nat) : Word × State :=
  if s.loader then (0#32, s)
  else if inRange 0x10000000 0x101FFFFF a then
    if inRange 0x101A0000 0x101DFFFF a || s.tornIn a 4 || (s.ld.factory && decide (a < 0x10060000)) then s.draw
    else s.memRead a 3 0
  else if inRange 0x20000000 0x200007FF a then s.otpRead ((a - 0x20000000) / 4)
  else (0#32, s)

/-- The loader serves SRAM below the default event queues (R315). -/
def State.sramServed (s : State) (a : Nat) : Bool := !s.loader || decide (a < 0x3C000)

/-- A read of the word at an address, but for SYS_IDATA. -/
def State.readWord (s : State) (i : Iface) (a : Nat) : Word × State :=
  if s.served = false then (0#32, s)
  else if a < sramEnd then if s.sramServed a then s.readSram i a else (0#32, s)
  else match Block.ofAddr a with
    | none => s.readWindow a
    | some b => match Reg.ofAddr a with
      | some r => s.guardRead r fun s => s.readReg i r
      | none => (0#32, if s.powered b.dom || s.loader then s else s.accessOff b)

/-- A word address: the low two bits of an address name a byte of its word. -/
def wordAddr (a : Nat) : Nat := a / 4 * 4

/-- An access through SYS_IDATA is done: SYS_IADDR goes on by 4. -/
def State.iaddrNext (s : State) : State := s.wr .SYS_IADDR (s.rd .SYS_IADDR + 4#32)

/-- A read of SYS_IDATA (R25). What it returns while SYS_IADDR names SYS_IDATA itself is stated nowhere: it is free. [DESIGN
CHOICE, log 19] -/
def State.readIdata (s : State) (i : Iface) : Word × State :=
  let a := wordAddr (s.rd .SYS_IADDR).toNat
  let p := if a = 0x4000000C then s.draw
    else if s.served && decide (a < sramEnd) && s.sramServed a then s.memRead a 3 2
    else s.readWord i a
  (p.1, p.2.iaddrNext)

/-- A read of the word at an address. -/
def State.busRead (s : State) (i : Iface) (addr : Nat) : Word × State :=
  let a := wordAddr addr
  if a = 0x4000000C then s.guardRead .SYS_IDATA fun s => s.readIdata i else s.readWord i a

/-! ### Rows that are a read -/

/-- IDATA_READ (R25). -/
def execIdataRead (i : Iface) (s : State) : Outcome State Fault Refusal := .next (State.deliver i (s.busRead i 0x4000000C))

/-- ACC_LO_READ (R222). -/
def execAccLoRead (i : Iface) (s : State) : Outcome State Fault Refusal :=
  .next (State.deliver i (s.busRead i (Reg.addr .GAU_ACC_LO)))

/-- TIM_NOW_LO_READ (R222, R427). -/
def execTimNowLoRead (i : Iface) (s : State) : Outcome State Fault Refusal :=
  .next (State.deliver i (s.busRead i (Reg.addr .TIM_NOW_LO)))

/-- DATA_READ (R174). -/
def execDataRead (i : Iface) (x : Fin 3) (s : State) : Outcome State Fault Refusal :=
  .next (State.deliver i (s.busRead i (Reg.addr (.SVY_CV_DATA x))))

end Sys2Proof.Machine
end

