-- ==== Sys2Proof/Machine/Bus.lean ====
section
/-!
DEFINITION. What a write does (R7, R8, R21 to R25): one table of every register's own rule, the bus store that reaches
it through the guards of R22, R66 and R315, and the rows that are a plain write.
-/

namespace Sys2Proof.Machine

open Host (Outcome)

/-! ### The rule of each register -/

/-- A value of SYS_WINBASE.BASE is permitted (R24). -/
def baseOk (b : Nat) : Bool := b ≤ 3 || inRange 0x1000 0x101F b || b == 0x2000 || inRange 0x4000 0x4001 b

/-- A write of SYS_WINBASE (R24). -/
def State.wrWinbase (s : State) (w : Word) : State :=
  let s1 := if wbit w 16 then s.putBit .SYS_WINBASE 16 false else s
  if baseOk (getF w Fld.SYS_WINBASE_BASE) then s1.writeRw .SYS_WINBASE w else s1.putBit .SYS_WINBASE 16 true

/-- A write of TPL_HOLDMAX (R73). -/
def State.wrHoldmax (s : State) (w : Word) : State :=
  if inRange 10 5000 (getF w Fld.TPL_HOLDMAX_TIME) then s.writeRw .TPL_HOLDMAX w else s

/-- A write of a banked register of the mailbox or of FLW_TXADDR, with the bytes not sent kept. -/
def State.wrParam (s : State) (i : Iface) (n : Nat) (v : Word) (be : BitVec 4) : State :=
  let w := (v &&& byteMask be) ||| (s.view i (.CMD_PARAM n) &&& ~~~ (byteMask be))
  let b := s.bank i
  s.putBank i (match n with
    | 0 => { b with p0 := w }
    | 1 => { b with p1 := w }
    | 2 => { b with p2 := w }
    | _ => { b with p3 := w })
def State.wrTxaddr (s : State) (i : Iface) (v : Word) (be : BitVec 4) : State :=
  let b := s.bank i
  s.putBank i { b with txAddr := ((v &&& byteMask be) ||| (b.txAddr &&& ~~~ (byteMask be))) &&& 0xFFFFFFFC#32 }

/-- A write of a BKP register: host contact first (R201), then the register's own rule. -/
def State.storeBkp (s0 : State) (i : Iface) (r : Reg) (w : Word) : State :=
  let s := s0.contact i
  match r with
  | .BKP_BATCFG => s.wrBatcfg w
  | .BKP_CHG => s.wrChg i w
  | .BKP_PATH => s.wrPath w
  | .BKP_QUAL => s.wrQual w
  | .BKP_TIMER => s.wrBkpTimer w
  | .BKP_WDT => (s0.writeRw .BKP_WDT w).contact i
  | .BKP_SHIP => s.wrShip w
  | .BKP_BTN => s.wrBtn w
  | .BKP_FLAG => s.wrBkpFlag w
  | r => s.plainWrite r w

/-- The rule of a register of the domains SEQ, ENG, STG and ADC. `w` is the value put together under R8. -/
def State.storePower (s : State) (r : Reg) (w : Word) : State :=
  match r with
  | .STG_CFG m => s.wrStgCfg m w
  | .PNT_CFG k => s.wrPnt k w
  | .STG_FLAG m => s.wrStgFlag m w
  | .XBR_MOD n => s.wrXbrMod n w
  | .XBR_SHARE n => s.wrXbrShare n w
  | .SWY_PNTT => s.wrPntt w
  | .SWY_IAGG => s.wrIagg w
  | .RAIL_CTL n => s.wrRailCtl n w
  | .RAIL_VSET n => s.wrVset n w
  | .RAIL_ONRAMP n => s.wrRamp (.RAIL_ONRAMP n) w
  | .RAIL_OFFRAMP n => s.wrRamp (.RAIL_OFFRAMP n) w
  | .RAIL_DIS n => s.wrDis n w
  | .LPE_STATE e => s.wrLpeState e w
  | .LPE_FLAG e => s.wrLpeFlag e w
  | .LPE_SHED e => s.wrLpeShed e w
  | .LPS_CTL k => s.wrLpsCtl k w
  | .LPS_CFG k => s.wrLpsCfg k w
  | .LPS_OUT k => s.wrLpsOut k w
  | .LPS_IN k => s.wrLpsIn k w
  | .LPS_REF k => s.wrLpsPlain k (.LPS_REF k) w
  | .LPS_MODEL k => s.wrLpsPlain k (.LPS_MODEL k) w
  | .COF e j c => s.wrCoef e j c w
  | .TTB_STEP g j => s.wrStep g j w
  | .TTB_RST_CFG x => s.wrRstCfg x w
  | .TTB_BOUT => s.wrBout w
  | .TTB_MINOFF => s.wrMinoff w
  | .TTB_FIRST => s.wrFirst w
  | .SUP_CFG n => s.wrSupCfg n w
  | .SUP_FLAG n => s.wrSupFlag n w
  | .SVY_CV_CTL x => s.wrCvCtl x w
  | .SVY_CV_FLAG x => s.wrCvFlag x w
  | .SVY_CV_DMA_CFG x => s.wrDmaCfg x w
  | .SVY_CV_DMA_PTR x => s.wrDmaPtr x w
  | .SVY_CV_SL_OG x k => s.wrFactor x (.SVY_CV_SL_OG x k) w
  | .SVY_CV_SL_SK x k => s.wrFactor x (.SVY_CV_SL_SK x k) w
  | .SVY_TRIG => s.wrTrig w
  | .POL_R_PHASE n => s.wrPolPhase n w
  | .POL_R_DER n => s.wrPolDer n w
  | .POL_RIDE => s.wrRide w
  | r => s.plainWrite r w

/-- The rule of a register of the rest: the common part's own blocks. -/
def State.storeCommon (s : State) (i : Iface) (r : Reg) (w : Word) : State :=
  match r with
  | .SYS_WINBASE => s.wrWinbase w
  | .TPL_HOLDMAX => s.wrHoldmax w
  | .GAU_CYCLES => s.wrCycles w
  | .GAU_CFG => s.wrGauCfg .GAU_CFG w
  | .GAU_DESIGN => s.wrGauCfg .GAU_DESIGN w
  | .GAU_CTL => s.wrGauCtl w
  | .FLT_CFG f => s.wrFltCfg f w
  | .FLT_TGT f => s.wrFltTgt f w
  | .FLT_STAT k => s.wrFltStat k w
  | .FLT_CTL => s.wrFltCtl w
  | .FLT_FORCE => s.wrFltForce w
  | .FLT_HOST => s.wrFltHost w
  | .FLT_INJ => s.wrFltInj w
  | .EVT_CFG f => s.wrEvtCfg f w
  | .EVT_PEND k => s.wrPend k w
  | .EVT_CTL => s.wrEvtCtl w
  | .EVT_QBASE q => s.wrQueue false q w
  | .EVT_QSIZE q => s.wrQueue true q w
  | .EVT_QTAKE q => if qServes i q then s.take q else s
  | .EVT_QEOI q => if qServes i q then s.eoi q else s
  | .CMD_ISSUE => s.issueOp i (getF w Fld.CMD_ISSUE_OP)
  | .CMD_CANCEL => s.wrCancel i w
  | .MEM_PRETIRE => s.wrPretire w
  | .OTP_PROG => s.wrOtpProg i w
  | .OTP_LC => s.wrOtpLc i w
  | .WDG_T_CFG t => s.wrWdgCfg t w
  | .WDG_CTL => s.wrWdgCtl w
  | .WDG_TOKEN => s.wrToken i w none 0#8
  | .LNK_CFG => s.wrLnkCfg i w
  | .LNK_P_CFG p => s.wrPortCfg p w
  | .LNK_POOL => s.wrPool w
  | .LNK_RT_A e => s.wrRtA e w
  | .LNK_RT_B e => s.wrRtB e w
  | .LNK_TRIPCTL => s.wrTripctl i w
  | .FLW_TXGO => s.wrTxgo i w
  | .FLW_F_RX f => s.wrRxread f w
  | .FLW_EVTFWD => s.wrNotLine i .FLW_EVTFWD w
  | .FLW_REM => s.wrNotLine i .FLW_REM w
  | .TIM_SETCTL => s.wrSetctl i w
  | .TWB_CFG => s.wrTwbCfg w
  | .TWB_CXCFG => s.wrCxcfg w
  | .TWB_CXGO => s.wrCxgo w
  | .MON_CFG => s.wrMonCfg i w
  | .XNG_CTL => s.wrXngCtl w
  | .XNG_TAKE => s.wrXngTake w
  | .PWR_CTL => s.wrPwrCtl w
  | r => s.plainWrite r w

/-- A write of some bytes of a register takes effect (R7, R8). [DEDUCED, log 16] -/
def State.storeReg (s : State) (i : Iface) (r : Reg) (v : Word) (be : BitVec 4) : State :=
  let w := s.merged r v be
  if !r.sent be then s
  else match r with
  | .CMD_PARAM n => s.wrParam i n v be
  | .FLW_TXADDR => s.wrTxaddr i v be
  | .CMD_QUERY => s.wrQuery i ((v &&& byteMask be) ||| ((s.bank i).query &&& ~~~ (byteMask be)))
  | r => match r.block with
    | .bkp => s.storeBkp i r w
    | .swy | .rail | .lpe | .ttb | .sup | .svy | .pol => s.storePower r w
    | _ => s.storeCommon i r w

/-! ### The bus (R21, R22) -/

/-- A write of some bytes of the word at an address, but for SYS_IDATA. -/
def State.storeWord (s : State) (i : Iface) (a : Nat) (v : Word) (be : BitVec 4) : State :=
  if s.accepts = false then s
  else if a < sramEnd then if s.sramServed a then s.sramNarrow a v be else s
  else match Reg.ofAddr a with
    | some (.TTB_G_CTL g) => s.guardGroup fun s => s.wrGroupCtl g (v &&& byteMask be)
    | some (.LPS_CTL k) => s.busLpsCtl k (s.merged (.LPS_CTL k) v be)
    | some r => s.guardWrite r fun s => s.storeReg i r v be
    | none => match Block.ofAddr a with
      | some b => if s.powered b.dom || s.loader then s else s.accessOff b
      | none => s

/-- A write of SYS_IDATA (R25): while SYS_IADDR names SYS_IDATA itself there is nothing it could store to. [DESIGN CHOICE,
log 19] -/
def State.storeIdata (s : State) (i : Iface) (v : Word) (be : BitVec 4) : State :=
  let a := wordAddr (s.rd .SYS_IADDR).toNat
  (if a = 0x4000000C then s else s.storeWord i a v be).iaddrNext

/-- A write of some bytes of the word at an address. -/
def State.busStore (s : State) (i : Iface) (addr : Nat) (v : Word) (be : BitVec 4) : State :=
  let a := wordAddr addr
  if a = 0x4000000C then s.guardWrite .SYS_IDATA fun s => s.storeIdata i v be else s.storeWord i a v be

/-! ### Rows that are a write -/

/-- REGISTER_WRITE (R8). -/
def execRegisterWrite (i : Iface) (addr : Nat) (v : Word) (be : BitVec 4) (s : State) : Outcome State Fault Refusal :=
  .next (s.busStore i addr v be)

/-- WINBASE_WRITE (R24). -/
def execWinbaseWrite (i : Iface) (v : Word) (be : BitVec 4) (s : State) : Outcome State Fault Refusal :=
  .next (s.busStore i 0x40000004 v be)

/-- IDATA_WRITE (R25). -/
def execIdataWrite (i : Iface) (v : Word) (be : BitVec 4) (s : State) : Outcome State Fault Refusal :=
  .next (s.busStore i 0x4000000C v be)

/-- HOLDMAX_WRITE (R73). -/
def execHoldmaxWrite (i : Iface) (v : Word) (be : BitVec 4) (s : State) : Outcome State Fault Refusal :=
  .next (s.busStore i 0x40001018 v be)

end Sys2Proof.Machine
end

