-- ==== Sys2Proof/Machine/Trackplan.lean ====
section
/-!
DEFINITION. Loading the trackplan (chapter 02): validation of a stored or staged stream, the load at boot, the commands
TPL_VERIFY, TPL_STORE, TPL_LOAD_ALL and TPL_LOAD_DOMAIN with its abort and restore, and the SWY_REGANG command.
-/

namespace Sys2Proof.Machine

open Host (Outcome)

/-! ### Reports -/

def State.tplBank (s : State) : Nat := s.fld .TPL_STATUS Fld.TPL_STATUS_BANK

/-- Report a refusal (R51): its code, and its place; a part of ERRDET for which the rules name no single place is free.
[DESIGN CHOICE, log 23] -/
def State.tplRefused (s : State) (r : TplRef) : State :=
  let s1 := s.put .TPL_STATUS Fld.TPL_STATUS_LASTREF r.code
  match r.sect, r.off with
  | some j, some o => s1.wr .TPL_ERRDET (putF (putF 0#32 Fld.TPL_ERRDET_SECTION j) Fld.TPL_ERRDET_OFFSET o)
  | some j, none => let d := s1.draw; d.2.wr .TPL_ERRDET (putF d.1 Fld.TPL_ERRDET_SECTION j)
  | none, _ => let d := s1.draw; d.2.wr .TPL_ERRDET d.1

/-- SYS_ID.REV. -/
def State.dieRev (s : State) : Nat := s.fld .SYS_ID Fld.SYS_ID_REV

/-- LIFECYCLE: the state is BLANK or RETIRED. -/
def State.lcRefuses (s : State) : Bool := s.lifeCycle == 0 || s.lifeCycle == 4

/-! ### Applying (R46, R53) -/

/-- A register takes a value from the stream. Registers whose host rule asks for an OPEN loop or judges several
registers together take it as it is; a field value that no write stores stays, so that the read-back fails. [DEDUCED, log 32] -/
def State.applyReg (s : State) (r : Reg) (w : Word) : State :=
  match r with
  | .LPS_CFG k =>
    (s.writeRw r (if 5 < getF w Fld.LPS_CFG_KIND then putF w Fld.LPS_CFG_KIND (s.slotKind k) else w)).cfgApplied k
  | .LPS_OUT k =>
    s.writeRw r (if 5 < getF w Fld.LPS_OUT_DEST then putF w Fld.LPS_OUT_DEST (s.fld (.LPS_OUT k) Fld.LPS_OUT_DEST) else w)
  | .LPS_IN _ => s.writeRw r (if 1 < getF w Fld.LPS_IN_REFSRC then putF w Fld.LPS_IN_REFSRC 0 else w)
  | .LPS_REF _ | .LPS_MODEL _ | .COF _ _ _ | .TTB_STEP _ _ | .FLT_TGT _ => s.writeRw r w
  | .FLT_CFG f =>
    (s.writeRw r (if getF w Fld.FLT_CFG_CLASS = 3 then putF w Fld.FLT_CFG_CLASS (s.fld (.FLT_CFG f) Fld.FLT_CFG_CLASS) else w)).faultPin
  | .RAIL_VSET n => if 16 ≤ n ∧ inRange 600 5000 (getF w Fld.RAIL_VSET_VSET) = false then s else s.writeRw r w
  | r => s.storeReg .core r w 0xF#4

/-- An entry is applied; one of an unpowered domain is kept for its power-up (R53). -/
def State.applyEntry (s : State) (e : Entry) : State :=
  match e.reg with
  | none => s
  | some r =>
    let w := e.apply (s.rd r)
    if !s.powered r.block.dom || w = s.rd r then s else s.applyReg r w

/-- Entries applied in order. -/
def State.applyAll (s : State) (l : List Entry) : State := each l (fun e s => s.applyEntry e) s

/-- The read-back of entries (R53). -/
def State.readBack (s : State) (l : List Entry) : Bool :=
  l.all fun e => match e.reg with
    | none => true
    | some r => !s.powered r.block.dom || (s.rd r &&& e.mask) == e.value

/-- The RW bits of a register return to reset, with what follows from them: a slot's state, QUSE, the gauge of a pack
without cells. A register that its own rule lets no write reach now stays: the record of a registered task, the place of a
queue that holds records, the gauge's cycles outside NOANCHOR. [DEDUCED, log 28] -/
def State.resetReg (s : State) (r : Reg) : State :=
  if s.powered r.block.dom && (s.rd r ^^^ r.reset) &&& r.rw != 0#32 then
    match r with
    | .LPS_CFG k => (s.writeRw r r.reset).cfgApplied k
    | .WDG_T_CFG t => if s.wdgReg t then s else s.writeRw r r.reset
    | .EVT_QBASE q | .EVT_QSIZE q => if s.qEmpty q then s.writeRw r r.reset else s
    | .GAU_CYCLES => if s.gauSt = 1 then (s.writeRw r r.reset).recomputeQuse else s
    | .GAU_CFG | .GAU_DESIGN => (s.writeRw r r.reset).recomputeQuse
    | .BKP_BATCFG => s.wrBatcfg r.reset
    | _ => s.writeRw r r.reset
  else s

/-- The crossbar and FAULT_N follow registers that were set without their host rules (R76, R245). -/
def State.afterRegs (s : State) : State := (if s.powered .stg then s.showExcluded else s).faultPin

/-- Registers return to reset. -/
def State.resetRegs (s : State) (l : List Reg) : State := (each l (fun r s => s.resetReg r) s).afterRegs

/-- A register takes the value that entries give it over its reset value, in one write (R69). [DEDUCED, log 32] -/
def State.setReg (s : State) (es : List Entry) (r : Reg) : State :=
  let l := es.filter fun e => e.reg == some r
  if l.isEmpty then s.resetReg r
  else
    let w := l.foldl (fun w e => e.apply w) ((s.rd r &&& ~~~ r.rw) ||| (r.reset &&& r.rw))
    if !s.powered r.block.dom || w = s.rd r then s else s.applyReg r w
def State.setRegs (s : State) (es : List Entry) (l : List Reg) : State := (each l (fun r s => s.setReg es r) s).afterRegs

/-- The blocks a domain may own (R48). -/
def domBlocks : List Block := [.swy, .rail, .lpe, .ttb, .sup, .pol, .flt]

/-- The registers of these blocks and those that a stream writes. [DEDUCED, log 28] -/
def loadRegs (l : List Byte) : List Reg := domBlocks.flatMap Block.regs ++ (streamEntries l).filterMap Entry.reg

/-- The registers with RW bits that an OWNER record's resources hold, under a set of register values. [DEDUCED, log 32] -/
def ownedRegs (img : State) (o : Owner) : List Reg :=
  (domBlocks.flatMap Block.regs).filter fun r => r.rw != 0#32 && o.owns img r

/-- Entries of a running stream that a domain's power-up writes (R53). -/
def State.applyDomain (s : State) (d : Dom) : State :=
  s.applyAll ((streamEntries s.tp.stream).filter fun e => match e.reg with
    | some r => r.block.dom == d
    | none => false)

/-! ### Running -/

/-- Close every used loop of a set of slots. -/
def State.closeSlots (s : State) (l : List Nat) : State := each (l.filter s.slotUsed) (fun k s => s.closeSlot k false) s

/-- Identity of the running stream. -/
def State.showStream (s : State) (l : List Byte) : State :=
  ((s.wr .TPL_ID (BitVec.ofNat 32 (b32 l 0x10))).wr .TPL_BUILD (BitVec.ofNat 32 (b32 l 0x14))).put .TPL_DOMMASK
    Fld.TPL_DOMMASK_PRESENT (b16 l 0x18)

/-- The reactions of every latched source are taken again, those of Class A first (R242, R247). [DEDUCED, log 90] -/
def State.reReact (s : State) : State :=
  let pass (cls : Nat) (s : State) : State :=
    each (List.range 256) (fun f s => if s.latched f && s.fld (.FLT_CFG f) Fld.FLT_CFG_CLASS == cls then s.react f cls else s) s
  pass 1 (pass 2 s)

/-- The reset outputs are low and carry no mark (R154). -/
def State.resetsLow (s : State) : State :=
  if s.powered .seq then each (List.range 4) (fun x s => (s.resetLow x).putBit .TTB_RSTSTAT (4 + x) false) s else s

/-- A stream runs: loops closed, STATE RUNNING, TPL_LOADED, the reactions of R247, the timetable released (R54). The reset
outputs begin as at boot, unnamed ones releasable (R154, R155). Every FAILED bit clears with a load of the whole stream:
R71 names a later TPL_LOAD_DOMAIN or a boot only. [DEDUCED, log 28] -/
def State.tplRuns (s : State) (l : List Byte) (ph : Nat) : State :=
  let s1 := ((s.closeSlots allSlots).setTpl (if s.tp.reload.isSome then 3 else 2) ph).showStream l
  let s2 := (s1.put .TPL_DOMMASK Fld.TPL_DOMMASK_FAILED 0).resetsLow.markUnnamed
  let s3 : State := { s2 with tp := { s2.tp with stream := l, owners := streamOwners l, released := true }, pins := { s2.pins with gatesOff := false } }
  (s3.happen 7 0 0).reReact

/-- No stream runs (R55): every loop OPEN, the resets low; what a reload held is dropped. -/
def State.tplNone (s : State) : State :=
  let s0 := ((each allSlots (fun k s => s.openSlot k false) s).resetsLow).dropRequests fun _ => true
  let s1 := (((s0.setTpl 0 0).wr .TPL_ID 0#32).wr .TPL_BUILD 0#32).wr .TPL_DOMMASK 0#32
  { s1 with tp := { s1.tp with stream := [], owners := [], released := false, reload := none } }

/-- Apply a stream and read it back; a failure takes the registers it wrote back to reset. [DEDUCED, log 27] -/
def State.applyStream (s : State) (l : List Byte) : Bool × State :=
  let s1 : State := { s with tp := { s.tp with owners := streamOwners l } }
  let es := streamEntries l
  let s2 := s1.applyAll es
  if s2.readBack es then (true, s2)
  else
    let s3 := s2.resetRegs (es.filterMap Entry.reg)
    (false, { s3 with tp := { s3.tp with owners := s.tp.owners } })

/-! ### Boot (R52 to R56) -/

/-- The stream a trackplan bank holds: its content up to the trailer's LENGTH. -/
def State.storedStream (s : State) (b : Nat) : List Byte :=
  match s.bankSt 1 b with
  | .valid _ n => bytesOfWords (s.ledWords (bankBase 1 b) n)
  | _ => []

/-- The banks a boot tries, in order (R52). -/
def State.bootBanks (s : State) : List Nat :=
  match s.newestBank 1 with
  | none => []
  | some b => if s.bankSeq 1 (1 - b) = 0 then [b] else [b, 1 - b]

/-- Try a bank: refused with the state that reports it, or applied. [DEDUCED, log 27] -/
def State.bootTry (s : State) (b : Nat) : Bool × State :=
  let l := s.storedStream b
  let s := s.ledMeet (bankBase 1 b) l.length 2
  match (if s.lcRefuses then some { code := 0x0D } else checkStream s.dieRev l) with
  | some r => (false, s.tplRefused r)
  | none =>
    let p := s.applyStream l
    if p.1 then (true, p.2) else (false, p.2.tplRefused { code := 0x23 })

/-- A bank has been loaded; `older`: it is the second choice. -/
def State.bootRuns (s : State) (b : Nat) (older : Bool) : State :=
  let s1 := (s.put .TPL_STATUS Fld.TPL_STATUS_BANK b).wr .TPL_SEQNUM (BitVec.ofNat 32 (s.bankSeq 1 b))
  let s2 := s1.putBit .TPL_STATUS 6 older
  (if older then s2.happen 8 0 0 else s2).tplRuns (s.storedStream b) 0

/-- The load at boot. [DEDUCED, log 27] -/
def State.bootLoad (s : State) : State :=
  match s.bootBanks with
  | [] => s.tplNone.happen 9 0 0
  | b :: rest =>
    let p := s.bootTry b
    if p.1 then p.2.bootRuns b false
    else match rest with
      | [] => p.2.tplNone.happen 9 0 0
      | c :: _ =>
        let q := p.2.bootTry c
        if q.1 then q.2.bootRuns c true else q.2.tplNone.happen 9 0 0

/-- BOOT_LOAD (R52): once after each firmware start. [DESIGN CHOICE, log 155] -/
def execBootLoad (s : State) : Outcome State Fault Refusal :=
  .next (if s.pw.mc == .firmware && s.tplSt == 1 && !s.wd.expired then s.bootLoad else s)

/-! ### Staged streams (R51, R58) -/

/-- The staged area of a command leaves SRAM or meets an event queue (STAGE_ADDR). -/
def State.stageBad (s : State) (k : Nat) : Bool := s.badSource (s.slot k).stage.toNat (s.slot k).stageLen

/-- The staged bytes. -/
def State.staged (s : State) (k : Nat) : List Byte := s.bytes (s.slot k).stage.toNat (s.slot k).stageLen

/-- Validate the staged stream of a command (Table 02.6, LIFECYCLE to RESOURCE). -/
def State.checkStaged (s : State) (k : Nat) (stateOk : Bool) : Option TplRef :=
  if s.lcRefuses then some { code := 0x0D }
  else if stateOk = false then some { code := 0x12 }
  else if s.stageBad k then some { code := 0x13 }
  else checkStream s.dieRev (s.staged k)

/-- The management core loads the staged words; a damaged one traps it (Table 13.1), and the command goes no further.
[DEDUCED, log 33] -/
def State.loadStage (s : State) (k : Nat) (f : State → State) : State :=
  if s.lcRefuses || s.stageBad k then f s
  else
    let s1 := s.eccRange (s.slot k).stage.toNat (s.slot k).stageLen 2
    match s1.firstBad (s.slot k).stage.toNat (s.slot k).stageLen with
    | some (a, _) => (s1.readSram .core a).2
    | none => f s1

/-- A trackplan command ends refused (R51, R283). -/
def State.refuseCmd (s : State) (k : Nat) (r : TplRef) (detail : Bool) : State :=
  let s1 := s.tplRefused r
  s1.complete k r.code (if detail then s1.fld .TPL_ERRDET Fld.TPL_ERRDET_SECTION else 0)

/-- The bank a commit goes to (Table 02.8, R322). [DEDUCED, log 35] -/
def State.commitBank (s : State) : Nat := if s.single 1 then 1 - s.abandoned 1 else 1 - s.tplBank

/-- Write a stream to the inactive bank through a lane. -/
def State.commitStream (s : State) (lane k : Nat) (l : List Byte) : State :=
  let b := s.commitBank
  let q := s.newSeq 1
  s.enqueue lane (bankJob 1 b q l (some k))

/-- The commit phase of a load; a read-only region fails it (R59, R323). [DEDUCED, log 35] -/
def State.commitLoad (s : State) (k : Nat) (l : List Byte) : State :=
  if s.readOnly 1 then s.tplUnsaved k else s.commitStream 0 k l

/-- TPL_VERIFY runs. -/
def State.tplVerify (s : State) (k : Nat) : State :=
  s.loadStage k fun s => match s.checkStaged k true with
    | some r => s.refuseCmd k r true
    | none => s.complete k 0 0

/-- TPL_STORE runs. -/
def State.tplStore (s : State) (k : Nat) : State :=
  s.loadStage k fun s => match s.checkStaged k true with
    | some r => s.refuseCmd k r false
    | none => if s.readOnly 1 then s.complete k 0x56 0
      else s.withSource k (s.slot k).stage.toNat (s.slot k).stageLen fun l s => s.commitStream 1 k l

/-- A whole load has failed its read-back: the stream that ran before is applied again, or none runs. [DEDUCED, log 28] -/
def State.loadFailed (s : State) (k : Nat) (old : List Byte) : State :=
  let s1 := (s.tplRefused { code := 0x23 }).resetRegs (loadRegs old)
  let p := s1.applyStream old
  let s2 := if old.isEmpty || !p.1 then p.2.tplNone
    else (p.2.closeSlots allSlots).setTpl (if p.2.tp.reload.isSome then 3 else 2) 0
  s2.complete k 0x23 0

/-- TPL_LOAD_ALL runs: validation, the loops opened, the load of R53 and R54 over registers at reset, the commit. BATCFG
goes from its old value to the new one at once, so that no pack is taken away in between. [DEDUCED, log 28, 34] -/
def State.tplLoadAll (s : State) (k : Nat) : State :=
  let idle := s.tplSt == 0 || allRails.all fun n => s.railSt n == rOff
  s.loadStage k fun s => match s.checkStaged k idle with
    | some r => s.refuseCmd k r true
    | none =>
      let l := s.staged k
      let old := s.tp.stream
      let s1 := each allSlots (fun k s => s.openSlot k false) s
      let s2 := s1.resetRegs ((loadRegs old ++ loadRegs l).filter (· != .BKP_BATCFG))
      let p := (s2.setReg (streamEntries l) .BKP_BATCFG).applyStream l
      if p.1 then (p.2.tplRuns l 8).commitLoad k l else p.2.loadFailed k old

/-! ### Partial reload (R60 to R73) -/

/-- The OWNER record of a domain in a stream. -/
def domOwner (l : List Byte) (d : Nat) : Option Owner := (domSect l d).bind fun e => (sectOwner l e).map (·.2)
/-- The entries of a domain's section. -/
def domEntries (l : List Byte) (d : Nat) : List Entry :=
  match domSect l d with
  | some e => sectEntries l e
  | none => []

/-- OTHER_DIFFERS (R60): the header field that differs, or the section; where in the section is not said. [DEDUCED, log 24] -/
def otherDiffers (old new : List Byte) (d : Nat) : Option TplRef :=
  let same (a b : Option Dir) : Bool := a.map (sectBytes old) == b.map (sectBytes new)
  if b32 old 0x10 != b32 new 0x10 then refAt 0x0F 0x10
  else if b16 old 0x18 != b16 new 0x18 then refAt 0x0F 0x18
  else if b32 old 0x1C != b32 new 0x1C then refAt 0x0F 0x1C
  else ((dirs new).find? fun e =>
      (e.typ == 1 && !same (commonSect old) (commonSect new)) ||
      (e.typ == 2 && e.dom != d && !same (domSect old e.dom) (domSect new e.dom))).map fun e =>
    { code := 0x0F, sect := some e.idx }

/-- The value a reload leaves in a register: the section's entries over the present value, or reset (R63). -/
def State.reloaded (s : State) (es : List Entry) (r : Reg) : Word :=
  let l := es.filter fun e => e.reg == some r
  if l.isEmpty then r.reset else l.foldl (fun w e => e.apply w) (s.rd r)

/-- The registers of a live rail that a HOLD reload may not change (R61): its crossbar entry and its gang's stages. -/
def State.liveRegs (s : State) (n : Nat) : List Reg :=
  [.XBR_MOD n, .XBR_SHARE n, .XBR_WSH n] ++ (s.gang n).flatMap fun m => [.STG_CFG m, .STG_ILIM m, .STG_SENSE m]

/-- The gang of a rail after a reload: RAIL of the section's own stages as it leaves it (XBR_GANG). -/
def State.reloadedGang (s : State) (o : Owner) (es : List Entry) (n : Nat) : List Nat :=
  allStages.filter fun m =>
    (if o.stages.testBit m then getF (s.reloaded es (.STG_CFG m)) Fld.STG_CFG_RAIL else s.stgRail m) == n

/-- HOLD_CHANGE (R61): a live rail's crossbar entry, its gang among it, or a register of its stages changes. -/
def State.holdChange (s : State) (o : Owner) (es : List Entry) (live : List Nat) : Bool :=
  live.any fun n =>
    !o.rails.testBit n || (s.gang n).any (fun m => !o.stages.testBit m) || s.reloadedGang o es n != s.gang n ||
    (s.liveRegs n).any fun r => s.reloaded es r &&& r.rw != s.rd r &&& r.rw

/-- HOLD_TOO_LONG (R62): entries and owned registers not written, 1 µs each, over 30 µs. [DEDUCED, log 32] -/
def holdTooLong (img : State) (o : Owner) (es : List Entry) (holdmax : Nat) : Bool :=
  let unwritten := (ownedRegs img o).filter fun r => !(es.any fun e => e.reg == some r)
  decide (10 * holdmax < 30 + es.length + unwritten.length)

/-- BUSY: a rail of the domain moves, or a step of one of its groups is in progress. -/
def State.domBusy (s : State) (d : Nat) : Bool :=
  allRails.any (fun n => s.railDom n == some d &&
    (s.railSt n == rRampUp || s.railSt n == rRampDown || s.railSt n == rDischarge || (s.tt.ramps.lookup n).isSome ||
      s.gangMoving n)) ||
  allGroups.any fun g => s.groupDom g == some d && (s.groupSt g == 1 || s.groupSt g == 3)

/-- The checks that TPL_LOAD_DOMAIN adds, NOT_PRESENT to BUSY. -/
def State.checkReload (s : State) (r : Reload) (l : List Byte) : Option TplRef :=
  match domOwner l r.dom, domOwner s.tp.stream r.dom with
  | some o, some _ =>
    let es := domEntries l r.dom
    let live := (s.slot r.slot).railsLive.filter fun n => decide (s.railDom n = some r.dom)
    (otherDiffers s.tp.stream l r.dom).orElse fun _ =>
    if o.safe then none
    else if s.holdChange o es live then some { code := 0x10 }
    else if holdTooLong (streamImage l) o es r.holdmax then some { code := 0x15 }
    else if s.domBusy r.dom then some { code := 0x11 }
    else none
  | _, _ => some { code := 0x0E }

/-- Replace the reload under way. -/
def State.putReload (s : State) (r : Reload) : State := { s with tp := { s.tp with reload := some r } }

/-- Requests held under R66 for a domain run, in the order received, unless another accepted reload of it waits. [DEDUCED,
log 35] -/
def State.runRequests (s : State) (d : Nat) : State :=
  if s.waitingLoads.any fun k => (s.slot k).loadDom == d then s
  else
    let s1 : State := { s with tp := { s.tp with held := s.tp.held.filter fun q => q.dom != d } }
    each (s.tp.held.filter fun q => q.dom == d) (fun q s =>
      let s2 := s.put (.TTB_G_STATUS q.grp) Fld.TTB_G_STATUS_HELD 0
      if q.on then s2.hostGroupOn q.grp else s2.groupOff q.grp) s1

/-- A reload is refused: STATE returns to RUNNING and the requests held so far run. [DEDUCED, log 35] -/
def State.reloadRefused (s : State) (r : Reload) (ref : TplRef) : State :=
  ((s.loadOver r.slot).runRequests r.dom).refuseCmd r.slot ref true

/-- The slots of the domain: those it owns and those the new section gives it. -/
def State.reloadSlots (s : State) (r : Reload) : List Nat :=
  allSlots.filter fun k => s.slotDom k == some r.dom || ((domOwner r.staged r.dom).any fun o => o.slots.testBit k)

/-- The waits of phase 2 are over (R65): every rail of the domain's groups is OFF or LATCHED. [DEDUCED, log 34] -/
def State.safeDone (s : State) (r : Reload) : Bool :=
  (allGroups.filter fun g => s.groupDom g == some r.dom).all fun g =>
    (s.groupRails g).all fun n => s.railSt n == rOff || s.railSt n == rLatched

/-- Groups that a SAFE reload starts again (R65), rising: those of its groups that were not OFF and still exist. -/
def restartGroups (o : Option Owner) (up : List Nat) : List Nat := allGroups.filter fun g => up.contains g && o.any fun o => o.groups.testBit g

/-- Phase 1: validate; a SAFE reload then sends its groups down, a HOLD reload goes on to its loops. -/
def State.reloadValidate (s : State) (r : Reload) : State :=
  s.loadStage r.slot fun s =>
    match (s.checkStaged r.slot true).orElse fun _ => s.checkReload r (s.staged r.slot) with
    | some ref => s.reloadRefused r ref
    | none =>
      let l := s.staged r.slot
      let safe := (domOwner l r.dom).any (·.safe)
      let again := if safe && r.restart then restartGroups (domOwner l r.dom)
        (r.groupsUp.filter fun g => decide (s.groupDom g = some r.dom)) else []
      let s1 := s.putReload { r with staged := l, safe := safe, restarts := again }
      if safe then each (allGroups.filter fun g => s.groupDom g == some r.dom && s.groupSt g != 0) (fun g s => s.groupOff g) (s1.setTpl 3 2)
      else s1.setTpl 3 3

/-- Phase 3: every loop in the domain's slots opens. -/
def State.reloadOpen (s : State) (r : Reload) : State :=
  (each (s.reloadSlots r) (fun k s => s.openSlot k false) (s.putReload { r with opened := true })).setTpl 3 4

/-- Phase 4: apply, over owned registers at reset; the CRC of the section is computed again over the staged bytes. [DEDUCED,
log 31] -/
def State.reloadApply (s : State) (r : Reload) : State :=
  let crcOk := match domSect r.staged r.dom with
    | some e => (crc32 (sectBytes (s.staged r.slot) e)).toNat == e.crc
    | none => false
  if crcOk then
    match domOwner r.staged r.dom with
    | none => s.reloadAbort 0x23
    | some o =>
      let es := domEntries r.staged r.dom
      let s1 : State := { s with tp := { s.tp with owners := streamOwners r.staged } }
      let plain := (ownedRegs (streamImage r.staged) o).filter fun x => !(es.any fun e => e.reg == some x)
      ((s1.resetRegs plain).applyAll es).setTpl 3 5
  else s.reloadAbort 0x23

/-- Phase 5: the read-back. -/
def State.reloadVerify (s : State) (r : Reload) : State :=
  if s.readBack (domEntries r.staged r.dom) then s.setTpl 3 6 else s.reloadAbort 0x23

/-- Live rails whose setpoint a reload has changed move to it at their on-ramp rate (R64). -/
def State.liveRamps (s : State) (d : Nat) : State :=
  each (allRails.filter fun n => s.railDom n == some d && s.railSt n == rOn &&
    s.fld (.RAIL_VSET n) Fld.RAIL_VSET_VSET != s.fld (.RAIL_STATUS n) Fld.RAIL_STATUS_SETP) (fun n s => s.rampToVset n) s

/-- Phase 6: the loops close, the new stream runs, held requests run. -/
def State.reloadClose (s : State) (r : Reload) : State :=
  let slots := allSlots.filter fun k => s.slotDom k == some r.dom
  let s1 := ((s.closeSlots slots).showStream r.staged).put .TPL_DOMMASK Fld.TPL_DOMMASK_FAILED
    (s.fld .TPL_DOMMASK Fld.TPL_DOMMASK_FAILED &&& (65535 - 2 ^ r.dom))
  let s2 : State := { s1 with tp := { s1.tp with stream := r.staged, reload := some { r with opened := false } } }
  let s3 := (s2.setTpl 3 (if r.safe && r.restart then 7 else 8)).markUnnamed
  ((s3.liveRamps r.dom).runRequests r.dom).afterRegs

/-- Phase 7: restart. -/
def State.reloadRestart (s : State) (r : Reload) : State :=
  each r.restarts (fun g s => s.groupOn g) ((s.putReload { r with restarts := [] }).setTpl 3 8)

/-! #### Abort and restore (R69 to R71, R98) -/

/-- The registers of a live rail's gang that a restore keeps, when it would change that gang (R98). -/
def State.keptRegs (s : State) (img : State) (d : Nat) : List Reg :=
  (allRails.filter fun n => s.railDom n == some d && s.railSt n != rOff && s.gang n != img.gang n).flatMap fun n =>
    [.XBR_MOD n, .XBR_SHARE n, .XBR_WSH n] ++ (s.gang n ++ img.gang n).flatMap fun m => [.STG_CFG m, .STG_ILIM m, .STG_SENSE m]

/-- The previous section is set again: owned registers of the old and the new resources at reset with the old entries over
them, each in one write; whether it reads back. The section is read from the running stream as it was validated and
applied, not from the bank: the two differ only after a load that could not be saved. [DEDUCED, log 31] -/
def State.restoreSection (s : State) (r : Reload) : Bool × State :=
  let old := s.tp.stream
  let img := streamImage old
  let keep := s.keptRegs img r.dom
  let owned (l : List Byte) : List Reg := match domOwner l r.dom with
    | some o => ownedRegs (streamImage l) o
    | none => []
  let es := (domEntries old r.dom).filter fun e => match e.reg with
    | some x => !keep.contains x
    | none => false
  let s1 := each (s.reloadSlots r) (fun k s => s.openSlot k false) s
  let s2 : State := { s1 with tp := { s1.tp with owners := streamOwners old } }
  let regs := (owned old ++ owned r.staged ++ es.filterMap Entry.reg).eraseDups.filter fun x => !keep.contains x
  let s3 := s2.setRegs es regs
  (s3.readBack es, s3)

/-- The off requests of a shutdown that waited for the restore (R70). -/
def State.runDeferred (s : State) (r : Reload) : State :=
  let s1 := each r.offRails (fun n s => s.railOff n) (each r.offGroups (fun g s => s.groupOff g) s)
  s1.boutFast fun n => s1.railDom n == some r.dom

/-- The restore of an aborted reload, and the end of its command. [DESIGN CHOICE, log 30] -/
def State.reloadRestore (s : State) (r : Reload) (code : Nat) : State :=
  let p := s.restoreSection r
  let d := r.dom
  let s1 := if p.1 then p.2.closeSlots (allSlots.filter fun k => p.2.slotDom k == some d)
    else (p.2.put .TPL_DOMMASK Fld.TPL_DOMMASK_FAILED (p.2.fld .TPL_DOMMASK Fld.TPL_DOMMASK_FAILED ||| 2 ^ d))
  let s4 := (s1.loadOver r.slot).dropRequests fun x => x == d
  let s5 := if p.1 then s4 else s4.raise 52 d
  let s6 := s5.runDeferred r
  let n := (s.tp.held.filter fun q => q.dom == d).length + r.restarts.length
  let s7 := if n = 0 then s6 else s6.gap 5 d n 0
  (s7.happen 10 d code).complete r.slot code 0

/-- The running TPL_LOAD_DOMAIN goes on to its next phase. [DESIGN CHOICE, log 30] -/
def State.tplLoadDomain (s : State) (k : Nat) : State :=
  match s.tp.reload with
  | none => s.refuseCmd k { code := (if s.lcRefuses then 0x0D else 0x12) } true
  | some r =>
    if r.slot ≠ k then s
    else match r.abort with
    | some c => s.reloadRestore r c
    | none => match s.tplPhase with
      | 1 => s.reloadValidate r
      | 3 => s.reloadOpen r
      | 4 => s.reloadApply r
      | 5 => s.reloadVerify r
      | 6 => s.reloadClose r
      | 7 => s.reloadRestart r
      | 8 => if (s.slot k).phase = 0 then (s.setPhase k 1).commitLoad k r.staged else s
      | _ => s

/-- HOLD_TIMEOUT (R68): the loops of a HOLD reload have been open for TPL_HOLDMAX. -/
def execHoldTimeout (s : State) : Outcome State Fault Refusal :=
  .next (match s.tp.reload with
    | some r => if !r.safe && inRange 4 6 s.tplPhase then s.reloadAbort 0x22 else s
    | none => s)

/-- SAFE_RELOAD_RESUME (R65). -/
def execSafeReloadResume (s : State) : Outcome State Fault Refusal :=
  .next (match s.tp.reload with
    | some r => if s.tplPhase = 2 ∧ r.abort.isNone = true ∧ s.safeDone r = true then s.setTpl 3 3 else s
    | none => s)

/-- A cancelled TPL_LOAD_DOMAIN whose reload had begun at its acceptance: it never ran, and the requests held run. -/
def State.reloadUnstarted (s : State) (k : Nat) : State :=
  match s.tp.reload with
  | none => s
  | some r =>
    if r.slot ≠ k then s else (s.loadOver k).runRequests r.dom

/-- COMMAND_START (R281): the first waiting command of a lane starts; a cancelled one and a NOP complete at once. [DEDUCED,
log 97] -/
def execCommandStart (l : Fin 4) (s : State) : Outcome State Fault Refusal :=
  .next (
    if s.pw.mc == .off || s.pw.mc == .stopped || (s.runningSlot l).isSome then s
    else match s.cm.waiting.find? (fun k => opLane (s.slot k).op == l.val) with
    | none => s
    | some k =>
      let c := s.slot k
      let s1 := s.putSlot k { c with st := .running }
      let s2 : State := { s1 with cm := { s1.cm with waiting := s1.cm.waiting.filter (· != k), running := s1.cm.running.set l.val k } }
      if c.cancelled then (s2.reloadUnstarted k).complete k 0x20 0
      else if opNop c.op then s2.complete k 0 0
      else if c.op = 0x10 then s2.regangBegin k
      else if c.op = 0x03 then (if s2.reloadReady then s2.reloadAccept k else s2).reloadBegin k
      else s2)

/-! ### The command rows -/

/-- TPL_VERIFY (R57). -/
def execTplVerify (a : CmdAct) (s : State) : Outcome State Fault Refusal := .next (s.ledgerRow a 0x01 fun k s => s.tplVerify k)

/-- TPL_LOAD_ALL (R58). -/
def execTplLoadAll (a : CmdAct) (s : State) : Outcome State Fault Refusal := .next (s.ledgerRow a 0x02 fun k s => s.tplLoadAll k)

/-- TPL_LOAD_DOMAIN (R60). -/
def execTplLoadDomain (a : CmdAct) (s : State) : Outcome State Fault Refusal :=
  .next (match a with
    | .issue i => s.issue i 0x03
    | .advance => s.withRunning 0x03 fun k s => s.tplLoadDomain k)

/-- TPL_STORE (R58). -/
def execTplStore (a : CmdAct) (s : State) : Outcome State Fault Refusal := .next (s.ledgerRow a 0x41 fun k s => s.tplStore k)

/-- SWY_REGANG (R94). -/
def execSwyRegang (a : CmdAct) (s : State) : Outcome State Fault Refusal := .next (s.ledgerRow a 0x10 fun k s => s.regangStart k)

end Sys2Proof.Machine
end

