-- ==== Sys2Proof/Machine/Start.lean ====
section
/-!
DEFINITION. Power on the way up (chapters 14, 15, 22): domains coming up, the search of the ledger, the choice of the
firmware slot, the start-up order of Table 22.4, the wake from SLEEP and DEEP, and the restart of a domain below CORE.
-/

namespace Sys2Proof.Machine

open Host (Outcome)

/-! ### Domains coming up (R18, R440) -/

/-- A domain is powered, once its parent is up (R18). [DEDUCED, log 20] -/
def State.domOn (s : State) (d : Dom) : State :=
  if s.powered d || !(Dom.parent d).all s.powered then s else { s with pw := { s.pw with on := s.pw.on ++ [d] } }

/-- A domain comes up; LINK only with a clock on REFCLK (R17). [DESIGN CHOICE, log 150] -/
def State.powerUp (s : State) (d : Dom) : State :=
  if d = .link ∧ s.pins.refclk = false then s
  else
    let s1 := s.domOn d
    match d with
    | .link => s1.otpLink.timFollow.followEn.flowGaps
    | .chg | .eng => s1.chgStart
    | _ => s1

/-- Several domains come up in order. -/
def State.powerAll (s : State) (l : List Dom) : State := each l (fun d s => s.powerUp d) s

/-- SEQ has come up: the condition OFF of every group rises (R259). [DEDUCED, log 50] -/
def State.groupsOff (s : State) : State := each allGroups (fun g s => s.condRise (53 + g) 0 0 false) s

/-- DOMAIN_POWER_UP (R18): while the firmware runs, a domain below CORE whose parent is up comes up; the entries of the
running stream for it are written (R53). [DESIGN CHOICE, log 150] -/
def execDomainPowerUp (d : Dom) (s : State) : Outcome State Fault Refusal :=
  .next (
    let ok := s.accepts && s.pw.start.isNone && s.pw.mc == .firmware && !s.powered d && (Dom.parent d).any s.powered
    let s1 := if d = .seq then (s.powerUp d).groupsOff else s.powerUp d
    if ok && s1.powered d then s1.applyDomain d else s)

/-! ### The search of the ledger (R306, R308, R317, R318) -/

/-- A damaged record: its CRC word is programmed and does not match. -/
def State.recordDamaged (s : State) (u : Nat) : Bool :=
  let a := logAddr u
  let len := getF (s.ledWord a) ⟨15, 8⟩
  inRange 2 4 len && u % 256 + len ≤ 256 && !s.tornIn a (16 * len) && s.ledWord (a + 16 * len - 4) != 0xFFFFFFFF#32 &&
    (s.recordAt u).isNone

/-- Damaged records met by a walk like `recordsFrom`. -/
def State.damagedFrom (s : State) (stop : Nat) : Nat → Nat → Bool
  | 0, _ => false
  | n + 1, u =>
    if stop ≤ u || s.unitErased u then false
    else match s.recordAt u with
      | some (len, _, _) => State.damagedFrom s stop n (u + len)
      | none => s.recordDamaged u || State.damagedFrom s stop n (u + 1)

/-- Some record of the log is damaged. -/
def State.logDamaged (s : State) : Bool :=
  s.logBlocks.any fun b => let u := 256 * (b - blockOf (bankBase 2 0)); s.damagedFrom (u + 256) 256 u

/-- Regions in which a damaged bank or record is found. [DEDUCED, log 105] -/
def State.damagedRegions (s : State) : List Nat :=
  (List.range 5).filter fun r => if r = 2 then s.logDamaged else s.bankSt r 0 == .damaged || s.bankSt r 1 == .damaged

/-- SEALBAD and LDG_SEAL for what the search finds (R308). [DEDUCED, log 105] -/
def State.sealBad (s : State) (r : Nat) : State := (s.setFlagI .LDG_FLAG 6 r 0).raise 237 0

/-- A payload word of a record, counted from 1 (Table 14.5). -/
def State.recWord (s : State) (u i : Nat) : Word := s.ledWord (logAddr u + 12 + 4 * i)

/-- Insert by SEQ. -/
def insertRec (x : Nat × Nat × Nat × Nat) : List (Nat × Nat × Nat × Nat) → List (Nat × Nat × Nat × Nat)
  | [] => [x]
  | y :: t => if x.2.2.1 < y.2.2.1 then x :: y :: t else y :: insertRec x t

/-- Every valid record, the oldest first. -/
def State.recordsBySeq (s : State) : List (Nat × Nat × Nat × Nat) := s.logRecords.foldl (fun l x => insertRec x l) []

/-- The valid records of a kind, the oldest first: their places. -/
def State.recordsOf (s : State) (kind : Nat) : List Nat :=
  (s.recordsBySeq.filter fun x => x.2.2.2 == kind).map (·.1)

/-- SINGLE, then RDONLY, of a region from one record of kind 0x07 (R323). [DEDUCED, log 106, 151] -/
def State.restoreRegion (s : State) (u : Nat) : State :=
  let w := s.recWord u 3
  let r := getF w ⟨2, 0⟩
  if !(wbit (s.recWord u 1) 0 && wbit w 4 && decide (r < 5)) then s
  else if s.single r then ((s.putBit .LDG_STATUS (8 + r) true).live 239 true).raise 239 0
  else
    let s1 := (s.putBit .LDG_STATUS (16 + r) true).put (.LDG_R_STAT r) Fld.LDG_R_STAT_ABANDON (getF w ⟨3, 3⟩)
    (s1.live 238 true).raise 238 0

/-- A recorded retirement of an SRAM page is applied again (R303). [DEDUCED, log 151] -/
def State.restorePage (s : State) (u : Nat) : State :=
  if wbit (s.recWord u 1) 0 then s
  else
    let p := (s.recWord u 2).toNat % 256
    let known := (List.range 4).any fun k => s.bit (.MEM_PMAP k) 31 && s.fld (.MEM_PMAP k) Fld.MEM_PMAP_PAGE == p
    match (if known then none else s.freeSpare) with
    | some k => s.wr (.MEM_PMAP k) (BitVec.ofNat 32 (2 ^ 31 + p))
    | none => s

/-- CYCLES and THRU from the newest gauge record (R220). [DEDUCED, log 151] -/
def State.restoreGauge (s : State) : State :=
  match (s.recordsOf 0x05).getLast? with
  | none => s
  | some u =>
    let s1 := (s.wr .GAU_CYCLES (s.recWord u 4)).wr .GAU_THRU (s.recWord u 5)
    { s1 with ga := { s1.ga with thru := 1000 * (s.recWord u 5).toNat } }

/-- The ledger is searched for its valid banks and its append point; `fresh`: AON has come up new. [DEDUCED, log 151] -/
def State.ledgerSearch (s : State) (fresh : Bool) : State :=
  let s0 := (s.ledMeet 0x10000000 0x1A0000 2).ledMeet 0x101E0000 0x20000 2
  let s1 := if fresh then each (s0.recordsOf 0x07) (fun u s => s.restoreRegion u) s0 else s0
  let new := newestRecord s1.logRecords
  let bank (u : Nat) : Nat := u / 8192
  let has (b : Nat) : Bool := s1.logRecords.any fun x => bank x.1 == b
  let s2 := ((s1.wr (.LDG_R_SEQ 2) (BitVec.ofNat 32 ((new.map (·.2.2.1)).getD 0))).put .LDG_LOG Fld.LDG_LOG_APPEND s1.findAppend)
  let s3 := ((s2.putBit (.LDG_R_STAT 2) 0 (has 0)).putBit (.LDG_R_STAT 2) 1 (has 1)).put (.LDG_R_STAT 2) Fld.LDG_R_STAT_NEWEST
    ((new.map fun x => bank x.1).getD 0)
  each s3.damagedRegions (fun r s => s.sealBad r) s3

/-! ### The firmware slot (R314, R315) -/

/-- A slot with a valid seal and a valid activation. -/
def State.fwQualifies (s : State) (b : Nat) : Bool := s.bankSeq 0 b != 0 && (s.fwAct b).isSome

/-- The signature of a slot's image is good. [DESIGN CHOICE, log 7] -/
def State.fwSigned (s : State) (b : Nat) : Bool :=
  match s.bankSt 0 b with
  | .valid _ n => (s.ld.factory && b == 0) || Config.signatureOk (bytesOfWords (s.ledWords (bankBase 0 b) n))
  | _ => false

/-- The slots that qualify, the one with the higher ACT first. -/
def State.fwOrder (s : State) : List Nat :=
  let l := [0, 1].filter s.fwQualifies
  if l = [0, 1] ∧ (s.fwAct 0).getD 0 < (s.fwAct 1).getD 0 then [1, 0] else l

/-- The slot the loader takes as booted: not the one without a valid seal; B when both or neither are sealed (R315).
[DEDUCED, log 110] -/
def State.loaderSlot (s : State) : Nat :=
  if s.bankSeq 0 0 ≠ 0 ∧ s.bankSeq 0 1 = 0 then 0 else 1

/-- What the management core runs from now on, with BOOTSLOT and FWFALL. [DESIGN CHOICE, log 152] -/
def State.chooseFirmware (s : State) : State :=
  let run (s : State) (m : McSt) (b : Nat) (fall : Bool) : State :=
    let s1 := (s.put .LDG_STATUS Fld.LDG_STATUS_BOOTSLOT b).putBit .LDG_STATUS 1 fall
    let s2 : State := { s1 with pw := { s1.pw with mc := m } }
    if fall then s2.setFlag .LDG_FLAG 4 else s2
  match s.fwOrder with
  | [] => run s .loader s.loaderSlot false
  | b :: rest =>
    let s := s.ledMeet (bankBase 0 b) (regionSize 0) 2
    if s.fwSigned b then run s .firmware b false
    else match rest with
    | [] => run s .loader s.loaderSlot false
    | c :: _ =>
      let s := s.ledMeet (bankBase 0 c) (regionSize 0) 2
      if s.fwSigned c then run s .firmware c true else run s .loader s.loaderSlot false

/-! ### The start-up order (Tables 22.3 and 22.4) -/

/-- Codes of Table 22.3. -/
def causeCode : StartCause → Nat
  | .powerOn => 1 | .watchdog => 2 | .longPress _ => 3 | .ship => 4 | .depleted => 5 | .coreBrownout => 6 | .loader => 7

/-- AON came up new with this start. -/
def aonFresh : StartCause → Bool
  | .powerOn | .ship | .depleted | .longPress false => true
  | _ => false

/-- A start that is to run is of a cause; whether AON stayed up through a long press shows only now. -/
def startFits (want : Option StartCause) (c : StartCause) : Bool :=
  match want, c with
  | some (.longPress _), .longPress _ => true
  | some a, b => a == b
  | none, _ => false

/-- AON was lost behind the open switches of a long press: it is new, and the path stays where it is. -/
def State.startAon (s : State) (c : StartCause) : State :=
  match c with
  | .longPress false =>
    let s1 := s.freshAon c
    (s1.put .BKP_STATUS Fld.BKP_STATUS_PATH s.path).putBit .BKP_STATUS 7 (s.bit .BKP_STATUS 7)
  | _ => s

/-- TWB_STATUS.ADDR shows the sampled strap (R399). -/
def State.showAddr (s : State) : State := s.put .TWB_STATUS Fld.TWB_STATUS_ADDR (0x58 + s.pw.strap % 8)

/-- Steps 3 to 5: NVM with its scans, CORE and ADC, the calibration. [DEDUCED, log 154] -/
def State.startBase (s : State) (c : StartCause) (b : StartIn) : State :=
  let s1 := ((s.domOn .nvm).otpScan b.scan).ledgerSearch (aonFresh c)
  let s2 := if c = .powerOn ∨ c = .longPress false then s1.restoreGauge else s1
  ((s2.domOn .core).irqPins.domOn .adc).showAddr.startUpCal b.cal

/-- The start record of kind 0x09, PWR_STATUS.CAUSE and PWR_START (R440). -/
def State.startRecord (s : State) (c : StartCause) : State :=
  let s1 := s.logRec 0x09 2 s.now [BitVec.ofNat 32 (causeCode c + 256 * b2n (s.bit .LDG_STATUS 1))]
  (s1.put .PWR_STATUS Fld.PWR_STATUS_CAUSE (causeCode c)).happen 246 (causeCode c) 0

/-- What is reported once after a start: an abandoned erase (R324), the watchdog (R345), the long press (R194). -/
def State.startReports (s : State) (c : StartCause) : State :=
  let s1 : State := if s.ld.eraseAbandoned then { s.setFlag .LDG_FLAG 3 with ld := { s.ld with eraseAbandoned := false } } else s
  match c with
  | .watchdog => (s1.putBit .WDG_FLAG 4 true).raise 54 (s1.fld .WDG_LAST Fld.WDG_LAST_TASK)
  | .longPress _ => s1.setFlag .BKP_FLAG 1
  | _ => s1

/-- Step 7: the firmware registers its tasks, the other domains come up; the trackplan is still to be loaded. -/
def State.startFirmware (s : State) (c : StartCause) : State :=
  let s1 := (s.ownTasks.powerAll [.seq, .eng, .stg, .chg, .link]).groupsOff
  let s2 := if aonFresh c then s1.otpAddr.timFollow else s1
  (s2.flowGaps.setTpl 1 0).boutCheck

/-- The banner line: SYS_ID, life-cycle state, TPL_ID, TPL_BUILD, slot, cause (R415). -/
def State.banner (s : State) : List Nat :=
  [(s.rd .SYS_ID).toNat, s.lifeCycle, (s.rd .TPL_ID).toNat, (s.rd .TPL_BUILD).toNat, s.fld .LDG_STATUS Fld.LDG_STATUS_BOOTSLOT,
   s.fld .PWR_STATUS Fld.PWR_STATUS_CAUSE]

/-- Steps 6 and 7, and the banner. [DEDUCED, log 153, 154] -/
def State.startCore (s : State) (c : StartCause) : State :=
  let s1 := (if aonFresh c then each (s.recordsOf 0x07) (fun u s => s.restorePage u) s else s).chooseFirmware
  let s2 := if s1.pw.mc == .firmware then s1.startFirmware c else s1
  let s3 := (s2.startRecord c).startReports c
  let s4 : State := { s3 with pw := { s3.pw with start := none, mode := .active } }
  (s4.answer 0 [s4.banner]).kick

/-- START_UP (R441): the start that is to run, up to step 7; step 8 is BOOT_LOAD. A firmware slot that was open is open no longer
(R311). [DESIGN CHOICE, log 155] -/
def execStartUp (c : StartCause) (b : StartIn) (s : State) : Outcome State Fault Refusal :=
  .next (
    if startFits s.pw.start c then
      let s0 := s.put .LDG_STATUS Fld.LDG_STATUS_FWOPEN 0
      let s1 := ({ s0 with ld := { s0.ld with fwDone := [] } } : State).startAon c
      (if c = .loader then s1 else s1.startBase c b).startCore c
    else s)

/-- LOADER_RESTART (R315): an activation has completed under the loader. -/
def execLoaderRestart (s : State) : Outcome State Fault Refusal :=
  .next (if s.loader && s.ld.restart then
      { s with ld := { s.ld with restart := false }, pw := { s.pw with start := some .loader } }
    else s)

/-! ### Waking (R434 to R439, Table 22.2) -/

/-- A wake source is recorded and reported (R438). -/
def State.wakeNote (s : State) (w : Nat) : State :=
  (s.put .PWR_STATUS Fld.PWR_STATUS_LASTWAKE w).setFlagI .PWR_FLAG 1 w 0

/-- Step 5 of Table 22.2: the running stream is applied again from its bank. [DEDUCED, log 157] -/
def State.wakeStream (s : State) : State :=
  if s.tplSt ≠ 2 then s
  else
    let l := s.storedStream s.tplBank
    let s := s.ledMeet (bankBase 1 s.tplBank) l.length 2
    let p := s.applyStream l
    if l.isEmpty || !p.1 then p.2.tplNone.happen 9 0 0 else p.2.tplRuns l 0

/-- The wake from DEEP, in the order of Table 22.2. -/
def State.wakeDeep (s : State) (w : Nat) (b : StartIn) : State :=
  let nack := s.pw.nack
  let s1 := ((s.domOn .nvm).otpScan b.scan).ledgerSearch false
  let s2 := (s1.domOn .core).irqPins.showAddr
  let s3 : State := { s2 with pw := { s2.pw with mc := .firmware, mode := .active, nack := false } }
  let s4 := if nack then s3.setFlag .TWB_FLAG 3 else s3
  let s5 := ((s4.powerAll [.seq, .eng, .stg, .adc, .chg, .link]).startUpCal b.cal).flowGaps
  let s6 := each (allTasks.filter s5.wdgReg) (fun t s => s.periodStart t) s5
  ((s6.wakeNote w).boutCheck.wakeStream).kick

/-- A wake source takes effect. [DEDUCED, log 158] -/
def State.wake (s : State) (w : Nat) (b : StartIn) : State :=
  match s.pw.mode with
  | .sleep => ((({ s with pw := { s.pw with mode := .active, nack := false } } : State).put .PWR_STATUS Fld.PWR_STATUS_MODE 0)).wakeNote w
  | .deepEntry => if s.bit .PWR_WAKE w then s.deepAbandon.wakeNote w else s
  | .deep => if s.bit .PWR_WAKE w && s.pw.start.isNone then s.wakeDeep w b else s
  | _ => s

/-- WAKE (R438). -/
def execWake (w : Fin 6) (b : StartIn) (s : State) : Outcome State Fault Refusal := .next (s.wake w b)

/-- PWR_TIMER_EXPIRY (R438): the last second of PWR_TIMER has passed in DEEP. -/
def execPwrTimerExpiry (b : StartIn) (s : State) : Outcome State Fault Refusal :=
  .next (if s.pw.mode = .deep ∧ s.rd .PWR_TIMER ≠ 0#32 then (s.wr .PWR_TIMER 0#32).wake 5 b else s)

/-! ### A domain below CORE restarts (R18, R440) -/

/-- The entries of the running stream for the blocks of some domains. -/
def State.domainEntries (s : State) (l : List Dom) : List Entry :=
  (streamEntries s.tp.stream).filter fun e => e.reg.any fun r => l.contains r.block.dom

/-- CORE_BOUT (R440): the domain and those below it restart, their sections are applied again, loops close, TPL_LOADED
follows as in step 5 of Table 22.2. [DEDUCED, log 156] -/
def execCoreBout (d : Dom) (s : State) : Outcome State Fault Refusal :=
  .next (
    let ok := s.accepts && s.pw.mc == .firmware && s.pw.start.isNone && d != .core && (Dom.below .core).contains d &&
      (Dom.parent d).any s.powered
    if !ok then s
    else
      let doms := Dom.below d
      let old := doms.filter s.powered
      let s1 := ((s.condsDown old keepReset).downDoms old keepReset).raise 250 (Dom.index d)
      let s2 := if doms.contains .seq then (s1.powerAll doms).groupsOff else s1.powerAll doms
      if s2.tp.stream.isEmpty then s2
      else
        let s3 := (s2.applyAll (s2.domainEntries doms)).closeSlots allSlots
        (s3.happen 7 0 0).reReact)

end Sys2Proof.Machine
end

