-- ==== Sys2Proof/Machine/FlowIn.lean ====
section
/-!
DEFINITION. Frames of a flow that arrive (R381 to R387): the receive window, delivery into the ring, acknowledgements,
and remote register access.
-/

namespace Sys2Proof.Machine

open Host (Outcome)

/-! ### Remote register access (R386, R387) -/

/-- The fields of a REMOTE payload: TAG, OP, COUNT, the address, and the words behind it. -/
def remWord (l : List Byte) (i : Nat) : Word := (wordsOfBytes (l.drop (4 * i))).headD 0#32
def remOp (l : List Byte) : Nat := getF (remWord l 0) ⟨15, 8⟩
def remCount (l : List Byte) : Nat := getF (remWord l 0) ⟨7, 0⟩
def remAddr (l : List Byte) : Nat := (remWord l 1).toNat

/-- A REMOTE frame that asks for something; one that carries OP + 0x80 is a response and goes to the host. [DEDUCED, log 128] -/
def RxItem.request (x : RxItem) : Bool := x.typ == 9 && decide (remOp x.payload < 0x80)

/-- Every word of a request lies in the CMD block. [DEDUCED, log 130] -/
def remInCmd (l : List Byte) : Bool :=
  Block.ofAddr (remAddr l) == some .cmd && Block.ofAddr (remAddr l + 4 * (remCount l - 1)) == some .cmd

/-- OP, COUNT and LEN of a request fit each other. -/
def remFormat (l : List Byte) : Bool :=
  inRange 1 62 (remCount l) &&
    ((remOp l == 1 && l.length == 8) || (remOp l == 2 && l.length == 8 + 4 * remCount l))

/-- STATUS of a request (R387). [DEDUCED, log 130] -/
def State.remStatus (s : State) (l : List Byte) : Nat :=
  if !s.bit .FLW_REM 31 then 1
  else if remOp l == 2 && !remInCmd l && (!s.bit .FLW_REM 30 || s.lifeCycle == 0 || s.lifeCycle == 4) then 2
  else if !remFormat l then 3
  else 0

/-- Reads of the Line interface at ascending addresses. -/
def State.remRead (s : State) (a : Nat) : Nat → List Word × State
  | 0 => ([], s)
  | n + 1 =>
    let r := s.busRead .line a
    let t := State.remRead r.2 (a + 4) n
    (r.1 :: t.1, t.2)

/-- Writes of the Line interface at ascending addresses; an expiry drops the rest (R35, R344). -/
def State.remWrite (s : State) (a : Nat) : List Word → State
  | [] => s
  | w :: t => if s.wd.expired then s.gap 6 2 (t.length + 1) 0 else (s.busStore .line a w 0xF#4).remWrite (a + 4) t

/-- A response: TAG, OP + 0x80 and COUNT, STATUS, data. A context that takes no new send sends none. [DEDUCED, log 129] -/
def State.remReply (s : State) (f : Nat) (l : List Byte) (count status : Nat) (data : List Word) : State :=
  let w := BitVec.ofNat 32 (getF (remWord l 0) ⟨31, 16⟩ * 65536 + (remOp l + 0x80) % 256 * 256 + count)
  let pay := bytesOfWords (w :: BitVec.ofNat 32 status :: data)
  if s.flowSt f = 1 then s.flowPush f 9 0 pay.length (some pay) else s

/-- A request is executed. COUNT of a refusal, which carries no data, is stated nowhere: it is free. [DESIGN CHOICE, log 67] -/
def State.remExec (s : State) (f : Nat) (l : List Byte) : State :=
  match s.remStatus l with
  | 0 =>
    if remOp l = 1 then
      let r := s.remRead (remAddr l) (remCount l)
      r.2.remReply f l (remCount l) 0 r.1
    else (s.remWrite (remAddr l) (wordsOfBytes (l.drop 8))).remReply f l (remCount l) 0 []
  | st =>
    let d := (s.setFlagI .FLW_FLAG 5 f 0).draw
    d.2.remReply f l (d.1.toNat % 256) st []

/-! ### The receive ring (R382) -/

/-- Address of the ring slot of a sequence number: descriptor at its start, payload behind it. [DESIGN CHOICE, log 125] -/
def State.rxSlot (s : State) (f seq : Nat) : Nat := (s.rd (.FLW_F_RXBASE f)).toNat + 272 * (seq % 16)

/-- Store whole words in SRAM. -/
def State.sramWords (s : State) (a : Nat) : List Word → State
  | [] => s
  | w :: t => (s.sramWrite a w).sramWords (a + 4) t

/-- A frame is held, its payload written to its slot by the port's channel, which this use restarts. After a mismatch of the
encoders the word is not written and the channel halts; the frame is not held, so its sender sends it again (R297, R298,
R383). [DESIGN CHOICE, log 125] -/
def State.rxStore (s : State) (p f : Nat) (x : RxItem) (encBad : Bool) : State :=
  let a := s.rxSlot f x.seq + 16
  let s0 := s.dmaRestart (4 + p)
  if encBad && !(wordsOfBytes x.payload).isEmpty then (s0.sramUe a 1 1 0#7).dmaHalt (4 + p) 1
  else
    let s1 := s0.sramWords a (wordsOfBytes x.payload)
    s1.putFlow f { s1.flow f with held := (s1.flow f).held ++ [x] }

/-- A frame is delivered: its descriptor, RXNEXT, FLAG.RX; a request is executed and leaves its slot. [DEDUCED, log 128] -/
def State.rxDeliver (s : State) (p f : Nat) (x : RxItem) : State :=
  let desc := [BitVec.ofNat 32 (2 ^ 28 * x.typ + x.seq), BitVec.ofNat 32 x.payload.length, timeLo x.time, timeHi x.time]
  let s1 := (s.dmaRestart (4 + p)).sramWords (s.rxSlot f x.seq) desc
  let c := s1.flow f
  let s2 := (s1.putFlow f { c with held := c.held.filter fun y => y.seq != x.seq }).put (.FLW_F_RX f) Fld.FLW_F_RX_RXNEXT (x.seq + 1)
  let s3 := s2.setFlagI .FLW_FLAG 0 f 0
  if x.request then
    (if s3.rxRead f = x.seq then s3.put (.FLW_F_RX f) Fld.FLW_F_RX_RXREAD (x.seq + 1) else s3).remExec f x.payload
  else s3

/-- Held frames are delivered in sequence; a request waits while the transmit window has no room for its response.
The first argument bounds their number. [DEDUCED, log 129] -/
def State.rxDrain : Nat → State → Nat → Nat → State
  | 0, s, _, _ => s
  | n + 1, s, p, f =>
    match (s.flow f).held.find? fun x => x.seq == s.rxNext f with
    | none => s
    | some x => if x.request && s.flowSt f == 1 && s.txFull f then s else State.rxDrain n (s.rxDeliver p f x) p f

/-- One more duplicate. -/
def State.rxDup (s : State) : State := s.addSat .FLW_STAT Fld.FLW_STAT_DUP 1

/-- A frame inside, behind or outside the window; an ACK follows. [DEDUCED, log 126] -/
def State.rxWindow (s : State) (p f : Nat) (x : RxItem) (encBad : Bool) : State :=
  let s1 :=
    if seqDiff x.seq (s.rxNext f) < 16 ∧ seqDiff x.seq (s.rxRead f) < 16 then
      State.rxDrain 16 (if (s.flow f).held.any (fun y => y.seq == x.seq) then s.rxDup else s.rxStore p f x encBad) p f
    else if seqDiff (s.rxNext f) (x.seq + 1) < 16 then s.rxDup
    else s
  s1.sendAck f

/-- A newer INC: the context is BROKEN (R384), and a FLW_CLOSE that waits ends unconfirmed. [DEDUCED, log 131] -/
def State.rxNewer (s : State) (f : Nat) : State :=
  let c := s.flow f
  let s1 := s.flowBroken f c.held.length
  if c.closing.isSome then s1.flowClosed f 0x68 else s1

/-- A frame for a context: the INC decides first. -/
def State.rxFrame (s : State) (p f : Nat) (fr : Frame) (encBad : Bool) : State :=
  let c := s.flow f
  let inc := getF fr.arg0 ⟨15, 0⟩
  let x : RxItem := { seq := getF fr.arg0 ⟨31, 16⟩, typ := fr.typ, payload := fr.payload, time := s.clock.station }
  match c.bound with
  | none => (s.putFlow f { c with bound := some inc }).rxWindow p f x encBad
  | some b =>
    if inc = b then s.rxWindow p f x encBad
    else if 32768 ≤ seqDiff inc b then s.setFlagI .FLW_FLAG 3 f 0
    else s.rxNewer f

/-- A context takes a frame that arrived: OPEN or CLOSING, from its peer. -/
def State.flowTakes (s : State) (p : Nat) (fr : Frame) (typ : Nat) : Bool :=
  s.forHere p fr typ && fr.fv && s.flowLive fr.flow && fr.src == s.fld (.FLW_F_CFG fr.flow) Fld.FLW_F_CFG_PEER

/-- DATA_RECEIVE (R382): a DATA or EVENT frame. -/
def execDataReceive (p : Fin 4) (f : Arrival) (s : State) : Outcome State Fault Refusal :=
  .next (if s.flowTakes p f.toFrame 1 || s.flowTakes p f.toFrame 12 then s.rxFrame p f.flow f.toFrame f.encBad else s)

/-- REMOTE_RECEIVE (R382, R386). -/
def execRemoteReceive (p : Fin 4) (f : Arrival) (s : State) : Outcome State Fault Refusal :=
  .next (if s.flowTakes p f.toFrame 9 then s.rxFrame p f.flow f.toFrame f.encBad else s)

/-! ### Acknowledgements (R381, R383) -/

/-- An ACK for a context: frames below NEXT are confirmed, LIMIT is taken over. [DEDUCED, log 126, 132] -/
def State.ackTake (s : State) (p f next limit : Nat) : State :=
  let c := s.flow f
  let n := seqDiff next (s.txAck f)
  if c.out.length < n then s
  else
    let c1 : FlowCtx := { c with out := c.out.drop n, limit := limit, tries := if n = 0 then c.tries else 0 }
    let s1 := s.putFlow f c1
    let s2 := if n = 0 then s1
      else ((s1.put (.FLW_F_SEQ f) Fld.FLW_F_SEQ_TXACK next).put (.FLW_F_CFG f) Fld.FLW_F_CFG_RETRIES 0).setFlagI .FLW_FLAG 1 f 0
    let s3 := if s2.flowSt f = 2 ∧ c1.out = [] then s2.flowClosed f 0 else s2
    if s3.flowLive f && (s3.flow f).held.any (fun x => x.seq == s3.rxNext f) then
      let s4 := State.rxDrain 16 s3 p f
      if s4.rxNext f = s3.rxNext f then s4 else s4.sendAck f
    else s3

/-- ACK_RECEIVE (R381). -/
def execAckReceive (p : Fin 4) (f : Frame) (s : State) : Outcome State Fault Refusal :=
  .next (if s.flowTakes p f 2 && getF f.arg0 ⟨15, 0⟩ == s.flowInc f.flow then
      s.ackTake p f.flow (getF f.arg0 ⟨31, 16⟩) f.arg1
    else s)

end Sys2Proof.Machine
end

