-- ==== Sys2Proof/Machine/TwoWire.lean ====
section
/-!
DEFINITION. Target transactions of the two-wire bus (R399 to R408): the host window, writes held to their end, reads that
sample whole words, packet error checking, timeout.
-/

namespace Sys2Proof.Machine

open Host (Outcome)

/-! ### PEC (R405) -/

/-- One bit and one byte of the CRC-8 with polynomial 0x07. -/
def crc8Bit (c : BitVec 8) : BitVec 8 := if c.getLsbD 7 then (c <<< 1) ^^^ 0x07#8 else c <<< 1
def crc8Byte (c b : BitVec 8) : BitVec 8 :=
  crc8Bit (crc8Bit (crc8Bit (crc8Bit (crc8Bit (crc8Bit (crc8Bit (crc8Bit (c ^^^ b))))))))

/-- The CRC-8 of bytes. -/
def crc8 (l : List Byte) : Byte := l.foldl crc8Byte 0#8

/-- An address byte. -/
def addrByte (a : BitVec 7) (read : Bool) : Byte := BitVec.ofNat 8 (2 * a.toNat + b2n read)

/-! ### The host window (R23, R24, R315) -/

/-- The address of a pointer under a window base. -/
def windowAddr (base p : Nat) : Nat := if 0xFF00 ≤ p then 0x40000000 + (p - 0xFF00) else base * 0x10000 + p

/-- The loader serves a pointer: SYS, or with BASE 0 to 3 and 0x4000. -/
def State.windowServed (s : State) (base p : Nat) : Bool := !s.loader || 0xFF00 ≤ p || base ≤ 3 || base == 0x4000

/-- The base in force. -/
def State.winBase (s : State) : Nat := s.fld .SYS_WINBASE Fld.SYS_WINBASE_BASE
def State.twbPtr (s : State) : Nat := s.fld .TWB_PTR Fld.TWB_PTR_PTR
def State.setPtr (s : State) (p : Nat) : State := s.put .TWB_PTR Fld.TWB_PTR_PTR p

/-- A transaction for this device meets an awake interface (R406, R407). -/
def State.twbOwn (s : State) (a : BitVec 7) : Bool := a.toNat == 0x58 + s.pw.strap % 8
def State.twbSleeps (s : State) : Bool := s.pw.mode == .sleep || s.pw.mode == .deep

/-- The outcome of a transaction that was discarded or cut short. -/
def State.twbWhy (s : State) (why : Nat) : State := s.put .SYS_TWSTAT Fld.SYS_TWSTAT_WHY why
def State.twbDisc (s : State) (why : Nat) : State :=
  ((s.twbWhy why).putBit .SYS_TWSTAT 31 true).addSat .TWB_CNT Fld.TWB_CNT_DISC 1
def State.twbDone (s : State) : State := s.addSat .TWB_CNT Fld.TWB_CNT_XFER 1

/-! ### Writes (R400 to R402) -/

/-- A word of a transaction being applied. One whose own earlier word was the expiry is applied whole (R407), but no
further token counts (R343). [DEDUCED, log 139] -/
def State.twbWord (s : State) (a : Nat) (v : Word) (be : BitVec 4) : State :=
  if s.wd.expired then
    if Reg.ofAddr a = some .WDG_TOKEN then s
    else { ({ s with wd := { s.wd with expired := false } } : State).busStore .twoWire a v be with wd := s.wd }
  else s.busStore .twoWire a v be

/-- The bytes of one word, from place `o` of it. -/
def placeBytes (o : Nat) : List Byte → Word
  | [] => 0#32
  | b :: t => BitVec.ofNat 32 (b.toNat * 256 ^ o) ||| placeBytes (o + 1) t

/-- Apply the bytes from a pointer on, word by word, ascending. The first argument bounds the words. -/
def State.twbApply (base : Nat) : Nat → State → Nat → List Byte → State
  | 0, s, _, _ => s
  | n + 1, s, p, l =>
    if l.isEmpty then s
    else
      let o := p % 4
      let c := l.take (4 - o)
      let be := BitVec.ofNat 4 ((2 ^ c.length - 1) * 2 ^ o)
      let s1 := if s.windowServed base p then s.twbWord (windowAddr base (p - o)) (placeBytes o c) be else s
      State.twbApply base n s1 (p + c.length) (l.drop c.length)

/-- Words that a transaction's bytes touch. -/
def wordsTouched (p n : Nat) : Nat := if n = 0 then 0 else (p + n - 1) / 4 - p / 4 + 1

/-- A write whose pointer bytes have arrived: `pecOk` is the judgement of its PEC. [DEDUCED, log 135, 136] -/
def State.twbWriteAt (s : State) (p : Nat) (data : List Byte) (pecOk : Bool) : State :=
  let room := 32 - p % 32
  let cut := decide (room < data.length)
  let s1 := if cut then s.setFlagI .TWB_FLAG 0 (p + room) 0 else s
  if !pecOk then (s1.setFlag .TWB_FLAG 1).twbDisc 1
  else
    let l := data.take room
    let s2 := State.twbApply s.winBase 9 s1 p l
    let s3 := (s2.setPtr (p + l.length)).twbDone
    if cut then s3.twbDisc 2 else s3

/-- The bytes of a write transaction, judged at its end. [DEDUCED, log 135] -/
def State.twbWrite (s : State) (t : TwbWrite) : State :=
  let pec := s.bit .TWB_CFG 31
  let body := if pec then t.bytes.dropLast else t.bytes
  let ok := !pec || crc8 (addrByte t.addr false :: body) == t.bytes.getLast?.getD 0#8
  match body with
  | hi :: lo :: data => s.twbWriteAt (256 * hi.toNat + lo.toNat) data ok
  | _ => s

/-- The words of a write that an expiry drops (R407). -/
def State.twbDropped (s : State) (t : TwbWrite) : State :=
  match (if s.bit .TWB_CFG 31 then t.bytes.dropLast else t.bytes) with
  | hi :: lo :: data =>
    let p := 256 * hi.toNat + lo.toNat
    (s.gap 6 0 (wordsTouched p (min data.length (32 - p % 32))) 0).twbDisc 4
  | _ => s

/-- TWB_WRITE_TRANSACTION (R401). [DESIGN CHOICE, log 134] -/
def execTwbWriteTransaction (t : TwbWrite) (s : State) : Outcome State Fault Refusal :=
  .next (
    if !s.twbOwn t.addr then s
    else if s.twbSleeps then s.wakeNack
    else if !s.served then s
    else if s.wd.expired then (if t.begun then s.twbDropped t else s)
    else s.twbWrite t)

/-! ### Reads (R403, R405) -/

/-- `n` bytes from a pointer on: each word is sampled whole when its first byte is sent; behind the limit of the window
every byte is 0xFF. The first argument bounds the words. -/
def State.twbBytes (base lim : Nat) : Nat → State → Nat → Nat → List Byte × State
  | 0, s, _, _ => ([], s)
  | w + 1, s, p, n =>
    if n = 0 then ([], s)
    else if lim < p then (List.replicate n 0xFF#8, s)
    else
      let o := p % 4
      let k := min (4 - o) n
      let r := if s.windowServed base p then s.busRead .twoWire (windowAddr base (p - o)) else (0#32, s)
      let t := State.twbBytes base lim w r.2 (p + k) (n - k)
      (((bytesOfWords [r.1]).drop o).take k ++ t.1, t.2)

/-- Data bytes of a read, with the pointer behind them; a read that would leave the window sets RANGE. [DEDUCED, log 137] -/
def State.twbData (s : State) (n : Nat) : List Byte × State :=
  let p := s.twbPtr
  let lim := if 0xFF00 ≤ p then 0xFFFF else 0xFEFF
  let r := State.twbBytes s.winBase lim (n / 4 + 2) s p n
  if lim + 1 < p + n then (r.1, (r.2.setPtr lim).setFlag .TWB_FLAG 6) else (r.1, r.2.setPtr (p + n))

/-- The bytes of a read of `n` bytes: with PEC, at most RLEN data bytes, the PEC byte, then 0xFF. -/
def State.twbRead (s : State) (t : TwbRead) : List Byte × State :=
  if s.bit .TWB_CFG 31 then
    let len := s.fld .TWB_CFG Fld.TWB_CFG_RLEN
    let r := s.twbData (min t.n len)
    let pec := crc8 (t.pre ++ addrByte t.addr true :: r.1)
    ((r.1 ++ pec :: List.replicate t.n 0xFF#8).take t.n, r.2)
  else s.twbData t.n

/-- TWB_READ_TRANSACTION (R403). [DESIGN CHOICE, log 134] -/
def execTwbReadTransaction (t : TwbRead) (s : State) : Outcome State Fault Refusal :=
  .next (
    if !s.twbOwn t.addr then s
    else if s.twbSleeps then s.wakeNack
    else if !s.served || s.wd.expired then s
    else
      let r := s.twbRead t
      ({ r.2 with tb := { r.2.tb with out := r.1 } } : State).twbDone)

/-- TWB_TIMEOUT (R408): a write is dropped whole; a read has sampled what it sent. [DEDUCED, log 138] -/
def execTwbTimeout (c : TwbCut) (s : State) : Outcome State Fault Refusal :=
  .next (
    if !s.accepts || s.twbSleeps || !s.bit .TWB_CFG 30 then s
    else
      let s1 := s.setFlag .TWB_FLAG 2
      match c with
      | .write => s1.twbDisc 3
      | .read n =>
        let r := s1.twbData n
        ({ r.2 with tb := { r.2.tb with out := r.1 } } : State).twbWhy 3)

end Sys2Proof.Machine
end

