-- ==== Sys2Proof/Machine/Lookout.lean ====
section
/-!
DEFINITION. The commands of the Lookout monitor (R415, R416, R419 to R422). A reply is the list of its lines, a line the
list of the numbers it prints.
-/

namespace Sys2Proof.Machine

open Host (Outcome)

/-- A line of a command the loader serves too (R315, R418): there no rights are asked, but RETIRED refuses. [DEDUCED, log
143] -/
def State.monBoth (s : State) (need : Nat) (f : State → State) : State :=
  if s.monServes then s.monLine need f
  else if s.monLoader then s.monLine (if need < 2 || s.lifeCycle != 4 then 0 else need) f
  else s

/-- A line of words, cut into groups of eight with their addresses. The first argument bounds the groups. -/
def rdLines : Nat → Nat → List Nat → List (List Nat)
  | 0, _, _ => []
  | n + 1, a, l => if l.isEmpty then [] else (a :: l.take 8) :: rdLines n (a + 32) (l.drop 8)

/-- Reads of the Lookout at ascending addresses. -/
def State.monRead (s : State) (a : Nat) : Nat → List Nat × State
  | 0 => ([], s)
  | n + 1 =>
    let r := s.busRead .lookout a
    let t := State.monRead r.2 (a + 4) n
    (r.1.toNat :: t.1, t.2)

/-- `n` words from an address are a proper range: aligned and inside 32 bits. -/
def wordRange (a : Word) (n : Nat) : Bool := a.toNat % 4 == 0 && a.toNat + 4 * n ≤ 2 ^ 32

/-- RD (R419). [DEDUCED, log 144] -/
def execRd (a : Word) (n : Nat) (s : State) : Outcome State Fault Refusal :=
  .next (s.monBoth 1 fun s =>
    if inRange 1 64 n && wordRange a n then
      let r := s.monRead a.toNat n
      r.2.answer 0 (rdLines 8 a.toNat r.1)
    else s.answer 3)

/-- The words of a WR: each is judged when it takes effect (R416), and an expiry drops the rest of the line (R422). [DEDUCED,
log 143] -/
def State.monWrite (s : State) (a : Nat) : List Word → State
  | [] => s.answer 0
  | w :: t =>
    if s.wd.expired then s.gap 6 1 (t.length + 1) 0
    else if s.lookoutRights < 2 && !(s.loader && s.lifeCycle != 4) then (s.answer 2).setFlag .MON_FLAG 3
    else (s.busStore .lookout a w 0xF#4).monWrite (a + 4) t

/-- WR (R419). [DEDUCED, log 144] -/
def execWr (a : Word) (l : List Word) (s : State) : Outcome State Fault Refusal :=
  .next (s.monBoth 2 fun s =>
    if inRange 1 8 l.length && wordRange a l.length then s.monWrite a.toNat l else s.answer 3)

/-- RAILS (R415, Table 20.3): number, state, SETP, PG, FLAG. [DEDUCED, log 144, 145] -/
def execRails (lo hi : Nat) (s : State) : Outcome State Fault Refusal :=
  .next (s.monCmd 1 fun s =>
    if hi < 20 ∧ lo ≤ hi then
      s.answer 0 ((allRails.filter fun n => inRange lo hi n).map fun n =>
        [n, s.railSt n, s.fld (.RAIL_STATUS n) Fld.RAIL_STATUS_SETP, s.fld (.RAIL_STATUS n) Fld.RAIL_STATUS_PG, (s.rd (.RAIL_FLAG n)).toNat])
    else s.answer 3)

/-- FLT (R415, Table 20.3): each latched source with class, cause and count, then FLT_FIRST. [DEDUCED, log 145] -/
def execFlt (s : State) : Outcome State Fault Refusal :=
  .next (s.monCmd 1 fun s =>
    let l := ((List.range 256).filter s.latched).map fun f => [f, s.fld (.FLT_CFG f) Fld.FLT_CFG_CLASS, s.fltCause f, s.fltCount f]
    s.answer 0 (l ++ [[(s.rd .FLT_FIRST).toNat]]))

/-- The records of a queue backwards from a slot, as the slots hold them (R420). -/
def State.monRecords (s : State) (q : Nat) : Nat → Nat → List (List Nat) × State
  | 0, _ => ([], s)
  | n + 1, k =>
    let j := if k = 0 then s.qSize q - 1 else k - 1
    let r := s.monRead (s.recAddr q j) 4
    let t := State.monRecords r.2 q n j
    (r.1 :: t.1, t.2)

/-- EV (R420). [DEDUCED, log 144, 145] -/
def execEv (q n : Nat) (s : State) : Outcome State Fault Refusal :=
  .next (s.monCmd 1 fun s =>
    if q < 3 ∧ n ≤ 16 then
      let r := s.monRecords q n (s.qWrite q)
      r.2.answer 0 r.1
    else s.answer 3)

/-- The words of records of the fault log, read through the ledger window. -/
def State.monLog (s : State) : List (Nat × Nat × Nat × Nat) → List (List Nat) × State
  | [] => ([], s)
  | x :: l =>
    let r := s.monRead (logAddr x.1) (4 * x.2.1)
    let t := r.2.monLog l
    (r.1 :: t.1, t.2)

/-- LOG (R421): the newest valid records as raw words. [DEDUCED, log 144] -/
def execLog (n : Nat) (s : State) : Outcome State Fault Refusal :=
  .next (s.monCmd 1 fun s =>
    if n ≤ 64 then
      let r := s.monLog (s.recordsBySeq.reverse.take n)
      r.2.answer 0 r.1
    else s.answer 3)

/-- DUMP (R421): the header of the newer valid dump slot, then `n` words from byte offset `o`. [DEDUCED, log 144, 145] -/
def execDump (o n : Nat) (s : State) : Outcome State Fault Refusal :=
  .next (s.monCmd 1 fun s =>
    if o % 4 = 0 ∧ o + 4 * n ≤ regionSize 3 then
      match s.newestBank 3 with
      | none => s.answer 0
      | some b =>
        let h := s.monRead (bankBase 3 b) 8
        let r := h.2.monRead (bankBase 3 b + o) n
        r.2.answer 0 (h.1 :: rdLines (n / 8 + 1) (bankBase 3 b + o) r.1)
    else s.answer 3)

/-- The parameters a CM line names, from the first. -/
def State.monParams (s : State) (n : Nat) : List Word → State
  | [] => s
  | w :: t => (s.busStore .lookout (Reg.addr (.CMD_PARAM n)) w 0xF#4).monParams (n + 1) t

/-- CM (R419). [DEDUCED, log 144] -/
def execCm (op : Nat) (l : List Word) (s : State) : Outcome State Fault Refusal :=
  .next (s.monBoth 2 fun s =>
    if op < 256 ∧ l.length ≤ 4 then
      let s1 := (s.monParams 0 l).issue .lookout op
      let r := s1.busRead .lookout (Reg.addr .CMD_RESULT)
      r.2.answer 0 [[r.1.toNat]]
    else s.answer 1)

/-- QY (R419). -/
def execQy (h : Nat) (s : State) : Outcome State Fault Refusal :=
  .next (s.monBoth 1 fun s =>
    let s1 := s.busStore .lookout (Reg.addr .CMD_QUERY) (BitVec.ofNat 32 h) 0xF#4
    let r := s1.busRead .lookout (Reg.addr .CMD_QSTAT)
    r.2.answer 0 [[r.1.toNat]])

/-- ID (R415): the banner again, also under DISABLE. -/
def execId (s : State) : Outcome State Fault Refusal :=
  .next (if s.monServes then ({ s with mo := { s.mo with newRate := false } } : State).answer 0 [s.banner] else s)

end Sys2Proof.Machine
end

