-- ==== Sys2Proof/Machine/Dump.lean ====
section
/-!
DEFINITION. The crash dump (R251, R319): its header, its sections, and its begin in lane 3.
-/

namespace Sys2Proof.Machine

open Host (Outcome)

/-- The 32-byte header (R319); the count of further requests is programmed behind the content rows. [DESIGN CHOICE, log 109] -/
def dumpHeader (d : DumpReq) : List Byte :=
  bytesOfWords [0x504D5544#32, BitVec.ofNat 32 (d.src + 256 * d.trap), timeLo d.stamp.time, timeHi d.stamp.time] ++
    List.replicate 16 0#8

/-- The words of a block as the core reads them, without the side effects of a read. -/
def State.blockWords (s : State) (b : Block) : List Word :=
  (List.range 1024).map fun i => match Reg.ofAddr (b.base + 4 * i) with
    | some r => if s.powered b.dom then s.view .core r &&& ~~~ r.wo else 0#32
    | none => 0#32

/-- A section: address, length, bytes. [DESIGN CHOICE, log 109] -/
def dumpSection (a : Nat) (l : List Byte) : List Byte := bytesOfWords [BitVec.ofNat 32 a, BitVec.ofNat 32 l.length] ++ l

/-- The sections R319 always asks for; which others the firmware adds is its own choice, and it adds none here. [DESIGN
CHOICE, log 109] -/
def State.dumpContent (s : State) (d : DumpReq) : List Byte :=
  dumpHeader d ++ ([Block.flt, .evt, .cmd, .tpl, .ttb].flatMap fun b => dumpSection b.base (bytesOfWords (s.blockWords b))) ++
    dumpSection 0x3C000 (s.bytes 0x3C000 0x4000)

/-- The core reads the sections: what SECDED corrects is counted; a load that meets an uncorrectable word traps it, and the word
stands as 0 in the dump (Table 13.1, R251). [DESIGN CHOICE, log 109] -/
def State.dumpRead (s : State) (d : DumpReq) : List Byte × State :=
  let s1 := s.eccRange 0x3C000 0x4000 2
  let bad := keysIn s1.me.bad 0x3C000 0x4000
  let content := (each bad (fun x s => s.putWord x 0#32) s1).dumpContent d
  let s2 := each bad (fun x s => s.sramUe x 2 2 ((s.sramBad x).getD 0#7)) s1
  (content, if bad.isEmpty then s2 else s2.raise 55 2)

/-- DUMP_START (R319): the management core begins a requested dump; a read-only region takes none (R323). -/
def execDumpStart (s : State) : Outcome State Fault Refusal :=
  .next (match s.ld.dump with
    | none => s
    | some d =>
      if d.started || !s.accepts || s.pw.mc != .firmware then s
      else if s.readOnly 3 then { s with ld := { s.ld with dump := none } }
      else
        let b := s.targetBank 3
        let q := s.newSeq 3
        let s1 : State := { s with ld := { s.ld with dump := some { d with started := true } } }
        let p := s1.dumpRead d
        p.2.enqueue 3 (bankJob 3 b q p.1 none))

end Sys2Proof.Machine
end

