-- ==== Sys2Proof/Machine/Tick.lean ====
section
/-!
DEFINITION. What passes with time alone: one 4 ns tick of the part's clocks, with the counts of R156, R203, R339 and R389
and the ramps of R90 and R132. What time triggers beyond these counts is a command of its own.
-/

namespace Sys2Proof.Machine

/-! ### Each tick -/

/-- One tick of LINK: station time, and one character time of each port (R350). -/
def State.linkTick (s : State) : State := each (List.range 4) (fun p s => s.portChar p) s.stationTick

/-! ### Each microsecond -/

/-- The ages of the taps grow (R161). -/
def State.agesTick (s : State) : State :=
  { s with regs := s.regs.map fun e => match e.1 with
      | .SVY_CV_TAP _ _ => (e.1, putF e.2 Fld.SVY_CV_TAP_AGE (min 65535 (getF e.2 Fld.SVY_CV_TAP_AGE + 1)))
      | _ => e }

/-- The setpoint of a ramp at a grid point (R132). -/
def Ramp.at (r : Ramp) : Nat :=
  let d : Rat := r.slope * (r.us : Rat)
  let v : Int := if r.start ≤ r.target then roundOpen ((r.start : Rat) + d) else roundOpen ((r.start : Rat) - d)
  if r.start ≤ r.target then min r.target v.toNat else max r.target v.toNat

/-- A rail's ramp goes on. -/
def State.rampTick (s : State) (e : Nat × Ramp) : State :=
  let r : Ramp := { e.2 with us := e.2.us + 1 }
  (({ s with tt := { s.tt with ramps := s.tt.ramps.set e.1 r } } : State)).put (.RAIL_STATUS e.1) Fld.RAIL_STATUS_SETP r.at

/-- A stage's share goes on: down in LEAVE, else up (R90, R91). -/
def State.shareTick (s : State) (m : Nat) : State :=
  let ramp := 10 * s.fld (.XBR_SHARE (s.stgRail m)) Fld.XBR_SHARE_RAMP
  let us := min ramp ((s.stgX m).shareUs + 1)
  let part := if ramp = 0 then 128 else (roundOpen (128 * (us : Rat) / (ramp : Rat))).toNat
  (s.put (.STG_STATE m) Fld.STG_STATE_SHARE (if s.stgSt m = gLeave then 128 - part else part)).putStgX m { s.stgX m with shareUs := us }

/-- One microsecond. -/
def State.usTick (s : State) : State :=
  let s1 := if s.powered .adc then s.agesTick else s
  let s2 := if s1.powered .seq then each s1.tt.ramps (fun e s => s.rampTick e) s1 else s1
  if s2.powered .stg then
    each (allStages.filter fun m => s2.stgSt m == gJoin || (s2.stgSt m == gLeave && !(s2.stgX m).drained) ||
      (s2.stgSt m == gRun && s2.fld (.STG_STATE m) Fld.STG_STATE_SHARE < 0x80)) (fun m s => s.shareTick m) s2
  else s2

/-! ### Each millisecond -/

/-- Output energy of a rail over 1 ms: sensed output, from the tap table, times the sum of IAVG (Table
18.3). [DEDUCED, log 60] -/
def State.railEnergy (s : State) (n : Nat) : State :=
  let p : Rat := (s.railMv n : Rat) * ((2 * sumI ((s.gang n).map s.iavg) : Int) : Rat) / 1000000000
  if p = 0 then s else { s with tm := { s.tm with energy := s.tm.energy.set n (s.tm.energy.get n 0 + p) } }

/-- The energy words of rails 0 to 15. -/
def State.energyTick (s : State) : State := each (List.range 16) (fun n s => s.railEnergy n) s

/-- One millisecond: the periods of registered tasks, the energy. -/
def State.msTick (s : State) : State :=
  let s1 := each (allTasks.filter s.taskRuns) (fun t s => s.addSat (.WDG_T_STAT t) Fld.WDG_T_STAT_ELAPSED 1) s
  if s1.powered .stg then s1.energyTick else s1

/-! ### Each second -/

/-- A count of seconds goes down, to 1; its end is a command. [DESIGN CHOICE, log 163] -/
def State.secondsDown (s : State) (r : Reg) (f : Field) : State := if 1 < s.fld r f then s.put r f (s.fld r f - 1) else s

/-- One second of the keeper oscillator (R203, R211, R219, R438). [DESIGN CHOICE, log 2, 163] -/
def State.keeperSecond (s : State) : State :=
  let s1 := s.wr .GAU_AGE (BitVec.ofNat 32 (min (2 ^ 32 - 1) ((s.rd .GAU_AGE).toNat + 1)))
  if s1.dark then s1
  else
    let s2 := if s1.bit .BKP_CHG 31 then s1.secondsDown .BKP_WDT Fld.BKP_WDT_REMAIN else s1
    let s3 := if s2.pw.mode = .deep then s2.secondsDown .PWR_TIMER Fld.PWR_TIMER_SECONDS else s2
    s3.secondsDown .MON_STAT Fld.MON_STAT_LOCKREM

/-- One second of the local clock: seconds spent in ON. -/
def State.localSecond (s : State) : State :=
  if s.powered .seq then
    each (allRails.filter fun n => s.railSt n == rOn)
      (fun n s => s.wr (.RAIL_ONTIME n) (BitVec.ofNat 32 (min (2 ^ 32 - 1) ((s.rd (.RAIL_ONTIME n)).toNat + 1)))) s
  else s

/-! ### The tick -/

/-- The counts of the local clock that are due at its present value. [DESIGN CHOICE, log 2] -/
def State.localTick (s : State) : State :=
  let s1 : State := { s with clock := { s.clock with localTicks := s.clock.localTicks + 1#64 } }
  let n := s1.clock.localTicks.toNat
  let s2 := if n % 250 = 0 then s1.usTick else s1
  let s3 := if n % 250000 = 0 then s2.msTick else s2
  if n % 250000000 = 0 then s3.localSecond else s3

/-- One 4 ns tick. [DESIGN CHOICE, log 2] -/
def State.tick (s : State) : State :=
  let s1 : State := { s with clock := { s.clock with keeper := s.clock.keeper + 1 } }
  let s2 := if s1.clock.keeper % 250000000 = 0 then s1.keeperSecond else s1
  if s2.dark then s2
  else
    let s3 := if s2.powered .link then s2.linkTick else s2
    s3.localTick

end Sys2Proof.Machine
end

