-- ==== Sys2Proof/Machine/Dispatch.lean ====
section
/-! DEFINITION. Which meaning each command has. -/

namespace Sys2Proof.Machine

open Host (Outcome)

def exec (i : Instr) (s : State) : Host.Outcome State Fault Refusal :=
  match i with
  | .registerWrite src addr v be => Sys2Proof.Machine.execRegisterWrite src addr v be s
  | .winbaseWrite src v be => Sys2Proof.Machine.execWinbaseWrite src v be s
  | .idataRead src => Sys2Proof.Machine.execIdataRead src s
  | .idataWrite src v be => Sys2Proof.Machine.execIdataWrite src v be s
  | .domainPowerUp d => Sys2Proof.Machine.execDomainPowerUp d s
  | .nopConfig a => Sys2Proof.Machine.execNopConfig a s
  | .nopLedger a => Sys2Proof.Machine.execNopLedger a s
  | .nopCalibration a => Sys2Proof.Machine.execNopCalibration a s
  | .nopFabric a => Sys2Proof.Machine.execNopFabric a s
  | .tplVerify a => Sys2Proof.Machine.execTplVerify a s
  | .tplStore a => Sys2Proof.Machine.execTplStore a s
  | .tplLoadAll a => Sys2Proof.Machine.execTplLoadAll a s
  | .tplLoadDomain a => Sys2Proof.Machine.execTplLoadDomain a s
  | .holdmaxWrite src v be => Sys2Proof.Machine.execHoldmaxWrite src v be s
  | .stgCfgWrite src m v be => Sys2Proof.Machine.execStgCfgWrite src m v be s
  | .pntCfgWrite src k v be => Sys2Proof.Machine.execPntCfgWrite src k v be s
  | .valleyComparatorFire n f => Sys2Proof.Machine.execValleyComparatorFire n f s
  | .zeroCurrentDetect m => Sys2Proof.Machine.execZeroCurrentDetect m s
  | .negativeLimit m => Sys2Proof.Machine.execNegativeLimit m s
  | .ocTimeout m => Sys2Proof.Machine.execOcTimeout m s
  | .aggregateLimit meas => Sys2Proof.Machine.execAggregateLimit meas s
  | .hsshortDetect m vsw => Sys2Proof.Machine.execHsshortDetect m vsw s
  | .testWindowEnd m vsw => Sys2Proof.Machine.execTestWindowEnd m vsw s
  | .bootEnd m u => Sys2Proof.Machine.execBootEnd m u s
  | .shareRampEnd m => Sys2Proof.Machine.execShareRampEnd m s
  | .leaveCurrentZero m => Sys2Proof.Machine.execLeaveCurrentZero m s
  | .leaveTimeout m => Sys2Proof.Machine.execLeaveTimeout m s
  | .stgFlagWrite src m v be => Sys2Proof.Machine.execStgFlagWrite src m v be s
  | .watershedTick meas => Sys2Proof.Machine.execWatershedTick meas s
  | .pointSettled k => Sys2Proof.Machine.execPointSettled k s
  | .swyRegang a => Sys2Proof.Machine.execSwyRegang a s
  | .loopSampleTrigger slot => Sys2Proof.Machine.execLoopSampleTrigger slot s
  | .loopSampleDone slot duty => Sys2Proof.Machine.execLoopSampleDone slot duty s
  | .tempoWindowEnd e count => Sys2Proof.Machine.execTempoWindowEnd e count s
  | .loopRestored e => Sys2Proof.Machine.execLoopRestored e s
  | .rminReset src e => Sys2Proof.Machine.execRminReset src e s
  | .lpeShedWrite src e v be => Sys2Proof.Machine.execLpeShedWrite src e v be s
  | .loopOpenRequest src slot => Sys2Proof.Machine.execLoopOpenRequest src slot s
  | .loopCloseRequest src slot => Sys2Proof.Machine.execLoopCloseRequest src slot s
  | .loopCloseCleared src slot => Sys2Proof.Machine.execLoopCloseCleared src slot s
  | .lpsCfgWrite src slot v be => Sys2Proof.Machine.execLpsCfgWrite src slot v be s
  | .lpsOutWrite src slot v be => Sys2Proof.Machine.execLpsOutWrite src slot v be s
  | .lpsInWrite src slot v be => Sys2Proof.Machine.execLpsInWrite src slot v be s
  | .loopParamWrite src p slot v be => Sys2Proof.Machine.execLoopParamWrite src p slot v be s
  | .coefWrite src e j c v be => Sys2Proof.Machine.execCoefWrite src e j c v be s
  | .loopOpenlong slot => Sys2Proof.Machine.execLoopOpenlong slot s
  | .watchSettleEnd slot => Sys2Proof.Machine.execWatchSettleEnd slot s
  | .loopFollow slot => Sys2Proof.Machine.execLoopFollow slot s
  | .loopModel slot => Sys2Proof.Machine.execLoopModel slot s
  | .railOnRequest src n => Sys2Proof.Machine.execRailOnRequest src n s
  | .railOffRequest src n => Sys2Proof.Machine.execRailOffRequest src n s
  | .onDelayEnd n u => Sys2Proof.Machine.execOnDelayEnd n u s
  | .offDelayEnd n => Sys2Proof.Machine.execOffDelayEnd n s
  | .setpointReached n => Sys2Proof.Machine.execSetpointReached n s
  | .dischargeDone n => Sys2Proof.Machine.execDischargeDone n s
  | .dischargeTimeout n u => Sys2Proof.Machine.execDischargeTimeout n u s
  | .startTimeout n => Sys2Proof.Machine.execStartTimeout n s
  | .vsetWrite src n v be => Sys2Proof.Machine.execVsetWrite src n v be s
  | .pgAssert n => Sys2Proof.Machine.execPgAssert n s
  | .groupOnRequest src g => Sys2Proof.Machine.execGroupOnRequest src g s
  | .groupOffRequest src g => Sys2Proof.Machine.execGroupOffRequest src g s
  | .stepHoldEnd g => Sys2Proof.Machine.execStepHoldEnd g s
  | .stepWrite src g j v be => Sys2Proof.Machine.execStepWrite src g j v be s
  | .boutStart u => Sys2Proof.Machine.execBoutStart u s
  | .vinBelowVon u => Sys2Proof.Machine.execVinBelowVon u s
  | .ttbBoutWrite src v be => Sys2Proof.Machine.execTtbBoutWrite src v be s
  | .ovCrossing n => Sys2Proof.Machine.execOvCrossing n s
  | .uvCrossing n => Sys2Proof.Machine.execUvCrossing n s
  | .crossingEnd n ov => Sys2Proof.Machine.execCrossingEnd n ov s
  | .resetRelease x => Sys2Proof.Machine.execResetRelease x s
  | .conversionResult x r => Sys2Proof.Machine.execConversionResult x r s
  | .gaugeTick g => Sys2Proof.Machine.execGaugeTick g s
  | .surveyCal a => Sys2Proof.Machine.execSurveyCal a s
  | .converterCalDone x r => Sys2Proof.Machine.execConverterCalDone x r s
  | .scanStart x => Sys2Proof.Machine.execScanStart x s
  | .start src x => Sys2Proof.Machine.execStart src x s
  | .dataRead src x => Sys2Proof.Machine.execDataRead src x s
  | .dmaEnable src x v be => Sys2Proof.Machine.execDmaEnable src x v be s
  | .sliceFactorWrite src x k skew v be => Sys2Proof.Machine.execSliceFactorWrite src x k skew v be s
  | .fire src => Sys2Proof.Machine.execFire src s
  | .sourceLoss src settled => Sys2Proof.Machine.execSourceLoss src settled s
  | .handoverComplete src => Sys2Proof.Machine.execHandoverComplete src s
  | .shipRequest src => Sys2Proof.Machine.execShipRequest src s
  | .shipCancel src => Sys2Proof.Machine.execShipCancel src s
  | .buttonChange low => Sys2Proof.Machine.execButtonChange low s
  | .bkpBatcfgWrite src v be => Sys2Proof.Machine.execBkpBatcfgWrite src v be s
  | .bkpChgWrite src v be => Sys2Proof.Machine.execBkpChgWrite src v be s
  | .bkpPathWrite src v be => Sys2Proof.Machine.execBkpPathWrite src v be s
  | .bkpQualWrite src v be => Sys2Proof.Machine.execBkpQualWrite src v be s
  | .checkEnd bat => Sys2Proof.Machine.execCheckEnd bat s
  | .bkpFlagWrite src v be => Sys2Proof.Machine.execBkpFlagWrite src v be s
  | .kick src v be => Sys2Proof.Machine.execKick src v be s
  | .gauCyclesWrite src v be => Sys2Proof.Machine.execGauCyclesWrite src v be s
  | .gaugeConfigWrite src cfg v be => Sys2Proof.Machine.execGaugeConfigWrite src cfg v be s
  | .newpack src v be => Sys2Proof.Machine.execNewpack src v be s
  | .accLoRead src => Sys2Proof.Machine.execAccLoRead src s
  | .phaseCountEval meas => Sys2Proof.Machine.execPhaseCountEval meas s
  | .derateEval meas => Sys2Proof.Machine.execDerateEval meas s
  | .otPark m => Sys2Proof.Machine.execOtPark m s
  | .ffwdEval l => Sys2Proof.Machine.execFfwdEval l s
  | .rideEval r => Sys2Proof.Machine.execRideEval r s
  | .polLockWrite src v be => Sys2Proof.Machine.execPolLockWrite src v be s
  | .polLimitWrite src phase n v be => Sys2Proof.Machine.execPolLimitWrite src phase n v be s
  | .faultRaise f cause => Sys2Proof.Machine.execFaultRaise f cause s
  | .faultClear src w v be => Sys2Proof.Machine.execFaultClear src w v be s
  | .fltCfgWrite src f v be => Sys2Proof.Machine.execFltCfgWrite src f v be s
  | .fltTgtWrite src f v be => Sys2Proof.Machine.execFltTgtWrite src f v be s
  | .cntclr src v be => Sys2Proof.Machine.execCntclr src v be s
  | .fltForceWrite src v be => Sys2Proof.Machine.execFltForceWrite src v be s
  | .injectionUnlock src v be => Sys2Proof.Machine.execInjectionUnlock src v be s
  | .go src v be => Sys2Proof.Machine.execGo src v be s
  | .injectionResult detected => Sys2Proof.Machine.execInjectionResult detected s
  | .fltHostRaise src v be => Sys2Proof.Machine.execFltHostRaise src v be s
  | .eventOccurrence f rise info code => Sys2Proof.Machine.execEventOccurrence f rise info code s
  | .eventQueueWrite q => Sys2Proof.Machine.execEventQueueWrite q s
  | .stormWindowClose f => Sys2Proof.Machine.execStormWindowClose f s
  | .pendWrite src w v be => Sys2Proof.Machine.execPendWrite src w v be s
  | .freezeWrite src v be => Sys2Proof.Machine.execFreezeWrite src v be s
  | .take src q => Sys2Proof.Machine.execTake src q s
  | .eoi src q => Sys2Proof.Machine.execEoi src q s
  | .queueConfigWrite src size q v be => Sys2Proof.Machine.execQueueConfigWrite src size q v be s
  | .commandStart l => Sys2Proof.Machine.execCommandStart l s
  | .unknownOp src op => Sys2Proof.Machine.execUnknownOp src op s
  | .cmdCancel src v be => Sys2Proof.Machine.execCmdCancel src v be s
  | .cmdQuery src v be => Sys2Proof.Machine.execCmdQuery src v be s
  | .scrubStep hits => Sys2Proof.Machine.execScrubStep hits s
  | .memPretireWrite src v be => Sys2Proof.Machine.execMemPretireWrite src v be s
  | .ldgRetire a => Sys2Proof.Machine.execLdgRetire a s
  | .ledgerStepDone ok => Sys2Proof.Machine.execLedgerStepDone ok s
  | .ldgFwWrite a => Sys2Proof.Machine.execLdgFwWrite a s
  | .ldgFwSeal a => Sys2Proof.Machine.execLdgFwSeal a s
  | .ldgFwActivate a => Sys2Proof.Machine.execLdgFwActivate a s
  | .ldgUserWrite a => Sys2Proof.Machine.execLdgUserWrite a s
  | .otpProgram src v be => Sys2Proof.Machine.execOtpProgram src v be s
  | .otpDone r => Sys2Proof.Machine.execOtpDone r s
  | .lifecycleTransition src v be => Sys2Proof.Machine.execLifecycleTransition src v be s
  | .taskRegister src t v be => Sys2Proof.Machine.execTaskRegister src t v be s
  | .token src v be e => Sys2Proof.Machine.execToken src v be e s
  | .windowOpen t => Sys2Proof.Machine.execWindowOpen t s
  | .periodEnd t others => Sys2Proof.Machine.execPeriodEnd t others s
  | .wdgWarn t => Sys2Proof.Machine.execWdgWarn t s
  | .wdgCtlWrite src v be => Sys2Proof.Machine.execWdgCtlWrite src v be s
  | .checkTransmit p => Sys2Proof.Machine.execCheckTransmit p s
  | .frameHeaderReceive p f => Sys2Proof.Machine.execFrameHeaderReceive p f s
  | .frameCrcFail p f => Sys2Proof.Machine.execFrameCrcFail p f s
  | .checkReceive p f => Sys2Proof.Machine.execCheckReceive p f s
  | .portAligned p => Sys2Proof.Machine.execPortAligned p s
  | .alignLost p => Sys2Proof.Machine.execAlignLost p s
  | .portUp p => Sys2Proof.Machine.execPortUp p s
  | .checkTimeout p => Sys2Proof.Machine.execCheckTimeout p s
  | .losAssert p => Sys2Proof.Machine.execLosAssert p s
  | .lnkCfgWrite src v be => Sys2Proof.Machine.execLnkCfgWrite src v be s
  | .rtBWrite src e v be => Sys2Proof.Machine.execRtBWrite src e v be s
  | .rtAWrite src e v be => Sys2Proof.Machine.execRtAWrite src e v be s
  | .lineSurvey a => Sys2Proof.Machine.execLineSurvey a s
  | .surveyReceive p f => Sys2Proof.Machine.execSurveyReceive p f s
  | .replyReceive p f => Sys2Proof.Machine.execReplyReceive p f s
  | .assignReceive p f => Sys2Proof.Machine.execAssignReceive p f s
  | .routeReceive p f => Sys2Proof.Machine.execRouteReceive p f s
  | .tripSend src v be => Sys2Proof.Machine.execTripSend src v be s
  | .tripReceive p f => Sys2Proof.Machine.execTripReceive p f s
  | .flwOpen a => Sys2Proof.Machine.execFlwOpen a s
  | .flwClose a => Sys2Proof.Machine.execFlwClose a s
  | .flowSend src v be => Sys2Proof.Machine.execFlowSend src v be s
  | .dataReceive p f => Sys2Proof.Machine.execDataReceive p f s
  | .ackReceive p f => Sys2Proof.Machine.execAckReceive p f s
  | .retransmitTimeout f => Sys2Proof.Machine.execRetransmitTimeout f s
  | .rxreadWrite src f v be => Sys2Proof.Machine.execRxreadWrite src f v be s
  | .remoteReceive p f => Sys2Proof.Machine.execRemoteReceive p f s
  | .syncReceive p f => Sys2Proof.Machine.execSyncReceive p f s
  | .reqReceive p f => Sys2Proof.Machine.execReqReceive p f s
  | .respReceive p f => Sys2Proof.Machine.execRespReceive p f s
  | .timeSet src v be => Sys2Proof.Machine.execTimeSet src v be s
  | .timNowLoRead src => Sys2Proof.Machine.execTimNowLoRead src s
  | .summitMark a => Sys2Proof.Machine.execSummitMark a s
  | .markReceive p f => Sys2Proof.Machine.execMarkReceive p f s
  | .markLatch b => Sys2Proof.Machine.execMarkLatch b s
  | .timMarkdone b => Sys2Proof.Machine.execTimMarkdone b s
  | .twbWriteTransaction t => Sys2Proof.Machine.execTwbWriteTransaction t s
  | .twbReadTransaction t => Sys2Proof.Machine.execTwbReadTransaction t s
  | .twbTimeout c => Sys2Proof.Machine.execTwbTimeout c s
  | .cxgo src v be => Sys2Proof.Machine.execCxgo src v be s
  | .cxdone r => Sys2Proof.Machine.execCxdone r s
  | .rd a n => Sys2Proof.Machine.execRd a n s
  | .wr a l => Sys2Proof.Machine.execWr a l s
  | .rails lo hi => Sys2Proof.Machine.execRails lo hi s
  | .ev q n => Sys2Proof.Machine.execEv q n s
  | .log n => Sys2Proof.Machine.execLog n s
  | .dump o n => Sys2Proof.Machine.execDump o n s
  | .cm op l => Sys2Proof.Machine.execCm op l s
  | .qy h => Sys2Proof.Machine.execQy h s
  | .ul r => Sys2Proof.Machine.execUl r s
  | .baud b => Sys2Proof.Machine.execBaud b s
  | .monBadLine e => Sys2Proof.Machine.execMonBadLine e s
  | .monCfgWrite src v be => Sys2Proof.Machine.execMonCfgWrite src v be s
  | .legacyWrite src v be => Sys2Proof.Machine.execLegacyWrite src v be s
  | .takeRelease src v be => Sys2Proof.Machine.execTakeRelease src v be s
  | .groupCapture g => Sys2Proof.Machine.execGroupCapture g s
  | .xngStuck c src => Sys2Proof.Machine.execXngStuck c src s
  | .crossingTimeout c => Sys2Proof.Machine.execCrossingTimeout c s
  | .sleepRequest src v be => Sys2Proof.Machine.execSleepRequest src v be s
  | .deepRequest src v be => Sys2Proof.Machine.execDeepRequest src v be s
  | .deepDrop src v be => Sys2Proof.Machine.execDeepDrop src v be s
  | .wake w b => Sys2Proof.Machine.execWake w b s
  | .pwrTimerExpiry b => Sys2Proof.Machine.execPwrTimerExpiry b s
  | .startUp c b => Sys2Proof.Machine.execStartUp c b s
  | .coreBout d => Sys2Proof.Machine.execCoreBout d s
  | .domainBrownout d => Sys2Proof.Machine.execDomainBrownout d s
  | .faultCauseGone f => Sys2Proof.Machine.execFaultCauseGone f s
  | .bootLoad => Sys2Proof.Machine.execBootLoad s
  | .safeReloadResume => Sys2Proof.Machine.execSafeReloadResume s
  | .holdTimeout => Sys2Proof.Machine.execHoldTimeout s
  | .swyAggOc => Sys2Proof.Machine.execSwyAggOc s
  | .minoffEnd => Sys2Proof.Machine.execMinoffEnd s
  | .vinQualified => Sys2Proof.Machine.execVinQualified s
  | .commonTrigger => Sys2Proof.Machine.execCommonTrigger s
  | .handoverTimeout => Sys2Proof.Machine.execHandoverTimeout s
  | .sysSag => Sys2Proof.Machine.execSysSag s
  | .sourceReturn => Sys2Proof.Machine.execSourceReturn s
  | .pathRetrej => Sys2Proof.Machine.execPathRetrej s
  | .handbackStart => Sys2Proof.Machine.execHandbackStart s
  | .pathHandback => Sys2Proof.Machine.execPathHandback s
  | .handbackTimeout => Sys2Proof.Machine.execHandbackTimeout s
  | .batCut => Sys2Proof.Machine.execBatCut s
  | .depletedEntry => Sys2Proof.Machine.execDepletedEntry s
  | .shipEntry => Sys2Proof.Machine.execShipEntry s
  | .shipWakeButton => Sys2Proof.Machine.execShipWakeButton s
  | .sourceWake => Sys2Proof.Machine.execSourceWake s
  | .longPress => Sys2Proof.Machine.execLongPress s
  | .openEnd => Sys2Proof.Machine.execOpenEnd s
  | .prechargeEnd => Sys2Proof.Machine.execPrechargeEnd s
  | .cvEntry => Sys2Proof.Machine.execCvEntry s
  | .chgDone => Sys2Proof.Machine.execChgDone s
  | .recharge => Sys2Proof.Machine.execRecharge s
  | .packTempOut => Sys2Proof.Machine.execPackTempOut s
  | .packTempBack => Sys2Proof.Machine.execPackTempBack s
  | .batAbsent => Sys2Proof.Machine.execBatAbsent s
  | .batPresent => Sys2Proof.Machine.execBatPresent s
  | .chgTimer => Sys2Proof.Machine.execChgTimer s
  | .chgOv => Sys2Proof.Machine.execChgOv s
  | .chgWdog => Sys2Proof.Machine.execChgWdog s
  | .gauStale => Sys2Proof.Machine.execGauStale s
  | .gaugeHourlyRecord => Sys2Proof.Machine.execGaugeHourlyRecord s
  | .rideEpisodeEnd => Sys2Proof.Machine.execRideEpisodeEnd s
  | .polRideRestore => Sys2Proof.Machine.execPolRideRestore s
  | .faultNRelease => Sys2Proof.Machine.execFaultNRelease s
  | .testEnFall => Sys2Proof.Machine.execTestEnFall s
  | .injectionUnlockExpiry => Sys2Proof.Machine.execInjectionUnlockExpiry s
  | .freezeExpiry => Sys2Proof.Machine.execFreezeExpiry s
  | .pageCopyDone => Sys2Proof.Machine.execPageCopyDone s
  | .ledgerCommit => Sys2Proof.Machine.execLedgerCommit s
  | .ledgerWriteFail => Sys2Proof.Machine.execLedgerWriteFail s
  | .eraseSuspend => Sys2Proof.Machine.execEraseSuspend s
  | .eraseResume => Sys2Proof.Machine.execEraseResume s
  | .loaderRestart => Sys2Proof.Machine.execLoaderRestart s
  | .dumpStart => Sys2Proof.Machine.execDumpStart s
  | .drainTimeout => Sys2Proof.Machine.execDrainTimeout s
  | .watchdogReset => Sys2Proof.Machine.execWatchdogReset s
  | .probeTimeout => Sys2Proof.Machine.execProbeTimeout s
  | .tripKeyExpiry => Sys2Proof.Machine.execTripKeyExpiry s
  | .eventForward => Sys2Proof.Machine.execEventForward s
  | .syncPeriod => Sys2Proof.Machine.execSyncPeriod s
  | .holdover => Sys2Proof.Machine.execHoldover s
  | .wakenack => Sys2Proof.Machine.execWakenack s
  | .arbitrationLost => Sys2Proof.Machine.execArbitrationLost s
  | .id => Sys2Proof.Machine.execId s
  | .flt => Sys2Proof.Machine.execFlt s
  | .lk => Sys2Proof.Machine.execLk s
  | .baudrev => Sys2Proof.Machine.execBaudrev s
  | .lockoutEnd => Sys2Proof.Machine.execLockoutEnd s
  | .unlockIdleExpiry => Sys2Proof.Machine.execUnlockIdleExpiry s
  | .deepHoldTimeout => Sys2Proof.Machine.execDeepHoldTimeout s
  | .deepEntry => Sys2Proof.Machine.execDeepEntry s
  | .aonPowerOn => Sys2Proof.Machine.execAonPowerOn s
  | .refclkLoss => Sys2Proof.Machine.execRefclkLoss s
  | .refclkReturn => Sys2Proof.Machine.execRefclkReturn s

end Sys2Proof.Machine
end

