-- ==== Sys2Proof/Machine/Step.lean ====
section
/-! DEFINITION. One step: the command at the front of the queue, or one clock tick when none waits. -/

namespace Sys2Proof.Machine

open Host (Outcome)

/-- One step. On an empty queue 4 ns pass (DESIGN CHOICE). [DESIGN CHOICE, log 1, 2] -/
def step (s : State) : Host.Outcome State Fault Refusal :=
  match s.pending with
  | [] => .next s.tick
  | c :: rest => exec c { s with pending := rest }

/-- The state with the command of a table word put at the front of its queue; no word spells one. [DESIGN CHOICE, log 8] -/
def State.withFetchWord (s : State) (nbits w : Nat) : State :=
  match decodeTableWord nbits w with
  | some c => { s with pending := c :: s.pending }
  | none => s

end Sys2Proof.Machine
end

