-- ==== Sys2Proof/Safety.lean ====
section
/-!
DEFINITION. What counts as a safe state and a safe step of the part, in the terms its claims use.
-/

namespace Sys2Proof.Machine

/-- Memory has its canonical form: addresses strictly rising, no cell that repeats what an unlisted address reads as. -/
abbrev State.memOk (s : State) : Prop := memWf s.mem = true

/-- The power domains that are up form a tree (R18): the parent of each is up. -/
def powerTree (on : List Dom) : Prop := ∀ d ∈ on, ∀ p, Dom.parent d = some p → p ∈ on
def State.powerOk (s : State) : Prop := powerTree s.pw.on

/-- A register takes a write: the part accepts it, the loader does not ban it, the block is powered, and the register's
domain is not under reload (R22, R66, R315, R343). -/
def State.takes (s : State) (r : Reg) : Bool :=
  s.accepts && !(s.loader && !loaderWrites r.block) && s.powered r.block.dom && !s.underReload (s.regDom r)

/-- A step is safe: it goes on, to a state whose memory is canonical. -/
def State.safeStep (s : State) : Prop := ∃ t, Sys2Proof.Machine.step s = .next t ∧ t.memOk

/-- An address lies outside every record that stands in an event queue as the record of a source (R267, R271); a further
occurrence of the source changes the first eight bytes of that record. -/
def State.outsideRecords (s : State) (a : Nat) : Prop :=
  ∀ i q k, (s.src i).queued = some (q, k) → a < s.recAddr q k ∨ s.recAddr q k + 8 ≤ a

/-- Registers whose tables give RW fields alone and no rule for a write of them: a write stores its RW bits and does nothing
else (R7, R8). -/
def Reg.stored : Reg → Bool
  | .SYS_IADDR | .TPL_STAGE | .TPL_STAGELEN | .STG_ILIM _ | .STG_SENSE _ | .XBR_WSH _ | .RAIL_DLY _ | .RAIL_PG _ | .LPS_OLIM _ |
    .LPS_CLOSE _ | .LPS_MWATCH _ | .LPS_FWATCH _ | .SUP_WIN _ | .SVY_CV_MASK _ | .SVY_CV_DMA_BASE _ | .SVY_TSNTYPE | .GAU_DRIFT |
    .MEM_CFG | .OTP_ROW | .OTP_DATA | .LNK_DEFAULT | .FLW_CFG | .TIM_CFG | .TIM_SET_LO | .TIM_SET_HI | .TWB_CXBUF | .PWR_WAKE |
    .PWR_TIMER | .PWR_RETAIN => true
  | _ => false

/-! ### What statements about the mailbox and the ledger say -/

/-- An issue of an opcode through an interface is accepted, into slot `k` (R278, R280). -/
def State.admits (s : State) (i : Iface) (op k : Nat) : Bool :=
  s.takes .CMD_ISSUE && (!s.loader || opLane op == 1) && s.mayIssue i op && s.slotOrder.find? (fun k => !s.slotBusy k) == some k

/-- The command of slot `k` has opcode `op`, runs in its lane and has not done its first work (R281). -/
abbrev State.begins (s : State) (op k : Nat) : Prop :=
  s.runningSlot (opLane op) = some k ∧ (s.slot k).op = op ∧ (s.slot k).phase = 0

/-- The command of slot `k` has ended with a code; its record waits for a queue, and the slot is DONE once the record is
queued (R282, R283). -/
abbrev State.ended (s : State) (k code : Nat) : Prop := (s.slot k).st = .ended ∧ (s.slot k).code = code

/-- A lane of the ledger holds a write of a kind, for a command slot or none (R310). -/
abbrev State.writing (s : State) (l : Nat) (kind : LdgKind) (k : Option Nat) : Prop := ∃ j ∈ s.lane l, j.kind = kind ∧ j.slot = k

/-- The last message produced is of a source, with INFO and CODE (R263). -/
abbrev State.lastMessage (s : State) (src info code : Nat) : Prop :=
  ∃ m ∈ s.ev.msgs.getLast?, m.src = src ∧ m.info = info ∧ m.code = code

/-! ### Frames -/

/-- Every register block. -/
def allBlocks : List Block :=
  [.sys, .tpl, .swy, .rail, .lpe, .ttb, .sup, .svy, .bkp, .gau, .pol, .flt, .evt, .cmd,
    .mem, .ldg, .otp, .wdg, .lnk, .flw, .tim, .twb, .mon, .xng, .pwr]

/-- The blocks that raising a fault source may reach: the source, its reactions on rails, groups, stages and a reload, the
trip it sends, its record in the log, its events and the watch counts of loops whose rails it moves (chapter 10, R123). -/
def faultBlocks : List Block := [.tpl, .swy, .rail, .lpe, .ttb, .sup, .flt, .evt, .mem, .ldg, .lnk]

/-- The blocks whose registers a command may change. EVT and MEM stand wherever a flag may rise or fall: the occurrence sets
PEND of its source or counts into a queued record, whose store clears the rewrite mark of the error log. -/
def frameBlocks : Instr → List Block
  | .registerWrite .. | .winbaseWrite .. | .idataRead .. | .idataWrite .. | .domainPowerUp .. | .tplLoadAll ..
  | .tplLoadDomain .. | .holdmaxWrite .. | .loopParamWrite .. | .dataRead .. | .sliceFactorWrite ..
  | .gaugeConfigWrite .. | .accLoRead .. | .queueConfigWrite .. | .dataReceive .. | .ackReceive ..
  | .remoteReceive .. | .timNowLoRead .. | .twbWriteTransaction .. | .twbReadTransaction .. | .twbTimeout ..
  | .rd .. | .wr .. | .ev .. | .dump .. | .cm .. | .log .. | .qy .. | .wake .. | .pwrTimerExpiry .. | .startUp ..
  | .coreBout .. | .domainBrownout .. | .bootLoad .. | .depletedEntry .. | .shipEntry .. | .longPress ..
  | .watchdogReset .. | .deepEntry .. | .aonPowerOn .. => allBlocks
  | .nopConfig .. | .nopLedger .. | .nopCalibration .. | .nopFabric .. | .unknownOp .. => [.tpl, .evt, .cmd, .mem]
  | .tplVerify .. | .tplStore .. | .ldgRetire .. | .ldgFwWrite .. | .ldgFwSeal .. | .ldgUserWrite .. =>
    faultBlocks ++ [.cmd]
  | .stgCfgWrite .. | .pntCfgWrite .. | .negativeLimit .. | .stgFlagWrite .. => [.swy, .evt, .mem]
  | .valleyComparatorFire .. => [.swy, .flt, .evt, .mem]
  | .zeroCurrentDetect .. | .testWindowEnd .. | .watershedTick .. => [.swy]
  | .pointSettled .. | .phaseCountEval .. => [.swy, .lpe]
  | .ocTimeout .. | .onDelayEnd .. | .startTimeout .. | .pgAssert .. | .ovCrossing .. | .uvCrossing .. | .otPark ..
  | .faultRaise .. | .injectionResult .. | .fltHostRaise .. | .take .. | .scrubStep .. | .ledgerStepDone ..
  | .frameCrcFail .. | .checkReceive .. | .checkTimeout .. | .losAssert .. | .tripReceive .. | .swyAggOc ..
  | .handoverTimeout .. | .sysSag .. | .refclkLoss .. | .dumpStart .. => faultBlocks
  | .aggregateLimit .. => [.swy, .flt]
  | .hsshortDetect .. => faultBlocks ++ [.pol]
  | .bootEnd .. => [.swy, .rail, .lpe, .evt, .mem]
  | .shareRampEnd .. => [.swy, .ldg]
  | .leaveCurrentZero .. | .leaveTimeout .. => [.swy, .lpe, .evt, .mem, .ldg]
  | .swyRegang .. => [.tpl, .swy, .lpe, .evt, .cmd, .mem, .ldg]
  | .loopSampleTrigger .. => faultBlocks ++ [.xng]
  | .loopOpenlong .. | .loopFollow .. | .loopModel .. => faultBlocks
  | .loopSampleDone .. | .tempoWindowEnd .. | .rminReset .. | .lpeShedWrite .. | .loopOpenRequest ..
  | .loopCloseRequest .. | .loopCloseCleared .. | .lpsOutWrite .. | .coefWrite .. => [.lpe, .evt, .mem]
  | .loopRestored .. => [.lpe]
  | .lpsCfgWrite .. | .lpsInWrite .. => [.lpe, .svy, .evt, .mem]
  | .watchSettleEnd .. | .scanStart .. | .stormWindowClose .. | .checkTransmit .. | .surveyReceive ..
  | .reqReceive .. | .faultNRelease .. | .eraseSuspend .. | .eraseResume .. | .loaderRestart .. | .tripKeyExpiry ..
  | .syncPeriod .. | .id .. => []
  | .railOnRequest .. | .groupOnRequest .. | .groupOffRequest .. | .commandStart .. | .rideEpisodeEnd ..
  | .polRideRestore .. => faultBlocks ++ [.pol, .pwr]
  | .railOffRequest .. | .offDelayEnd .. => [.swy, .rail, .lpe, .ttb, .sup, .evt, .mem, .ldg]
  | .setpointReached .. => [.rail]
  | .dischargeDone .. | .dischargeTimeout .. | .stepHoldEnd .. | .minoffEnd .. | .vinQualified ..
    => faultBlocks ++ [.pwr]
  | .vsetWrite .. => [.rail, .lpe, .evt, .mem]
  | .stepWrite .. | .ttbBoutWrite .. => [.ttb, .evt, .mem]
  | .boutStart .. => [.tpl, .swy, .rail, .lpe, .ttb, .sup, .evt, .mem, .ldg]
  | .vinBelowVon .. | .resetRelease .. | .drainTimeout .. => [.ttb]
  | .crossingEnd .. => [.sup, .flt]
  | .conversionResult .. => faultBlocks ++ [.svy, .bkp]
  | .converterCalDone .. => [.svy, .ldg]
  | .gaugeTick .. => [.svy, .bkp, .gau, .evt, .mem, .ldg]
  | .surveyCal .. => [.tpl, .svy, .evt, .cmd, .mem, .ldg]
  | .start .. | .dmaEnable .. | .fire .. | .commonTrigger .. => [.svy, .evt, .mem]
  | .sourceLoss .. | .pathHandback .. => [.bkp, .gau, .pol, .flt, .evt, .mem, .ldg]
  | .handoverComplete .. | .sourceReturn .. | .handbackStart .. | .openEnd .. | .shipWakeButton .. => [.bkp, .pol, .flt]
  | .shipRequest .. | .shipCancel .. => faultBlocks ++ [.bkp, .pol, .pwr]
  | .buttonChange .. | .sourceWake .. => [.bkp]
  | .bkpBatcfgWrite .. | .bkpChgWrite .. | .checkEnd .. | .bkpFlagWrite .. | .prechargeEnd .. | .cvEntry ..
  | .chgDone .. | .recharge .. | .packTempOut .. | .packTempBack .. | .batAbsent .. | .batPresent .. | .chgWdog ..
    => [.bkp, .gau, .evt, .mem, .ldg]
  | .bkpPathWrite .. | .bkpQualWrite .. | .kick .. => [.bkp, .evt, .mem]
  | .gauCyclesWrite .. | .newpack .. | .gauStale .. => [.gau, .evt, .mem]
  | .derateEval .. => [.swy, .pol]
  | .ffwdEval .. => [.pol]
  | .rideEval .. => [.swy, .rail, .lpe, .ttb, .sup, .pol, .evt, .mem, .ldg]
  | .polLockWrite .. | .polLimitWrite .. => [.pol, .evt, .mem]
  | .faultClear .. => [.swy, .rail, .ttb, .flt, .evt, .mem, .ldg]
  | .fltCfgWrite .. | .fltTgtWrite .. | .cntclr .. | .fltForceWrite .. | .injectionUnlock .. | .go ..
    => [.flt, .evt, .mem]
  | .eventOccurrence .. | .pendWrite .. | .freezeWrite .. | .eoi .. | .memPretireWrite .. | .rtBWrite ..
  | .freezeExpiry .. => [.evt, .mem]
  | .eventQueueWrite .. => faultBlocks ++ [.pwr]
  | .sleepRequest .. | .deepRequest .. | .deepDrop .. | .deepHoldTimeout ..
    => [.evt, .mem, .pwr]
  | .cmdCancel .. => [.tpl, .swy, .svy, .evt, .cmd, .mem, .ldg]
  | .cmdQuery .. => [.evt, .cmd, .mem]
  | .ldgFwActivate .. => [.tpl, .evt, .cmd, .mem, .ldg]
  | .otpProgram .. | .lifecycleTransition .. => [.evt, .mem, .otp]
  | .otpDone .. => faultBlocks ++ [.otp]
  | .taskRegister .. | .wdgWarn .. | .wdgCtlWrite .. => [.evt, .mem, .wdg]
  | .token .. | .periodEnd .. => faultBlocks ++ [.pol, .wdg, .twb, .pwr]
  | .windowOpen .. => [.wdg]
  | .frameHeaderReceive .. | .rtAWrite .. | .routeReceive .. | .tripSend .. => [.evt, .mem, .lnk]
  | .portAligned .. | .alignLost .. => [.lnk]
  | .portUp .. | .lnkCfgWrite .. => [.flt, .evt, .mem, .lnk, .tim]
  | .lineSurvey .. => [.tpl, .evt, .cmd, .mem, .ldg, .lnk, .tim]
  | .replyReceive .. => [.evt, .mem, .ldg, .lnk]
  | .assignReceive .. => [.evt, .mem, .lnk, .tim]
  | .flwOpen .. | .flwClose .. => [.tpl, .evt, .cmd, .mem, .ldg, .flw]
  | .flowSend .. | .retransmitTimeout .. | .eventForward .. => faultBlocks ++ [.flw]
  | .rxreadWrite .. => [.evt, .mem, .flw]
  | .syncReceive .. | .timeSet .. | .markReceive .. | .markLatch .. | .holdover .. => [.evt, .mem, .tim]
  | .respReceive .. => [.tim]
  | .summitMark .. => [.tpl, .evt, .cmd, .mem, .ldg, .tim]
  | .timMarkdone .. => [.evt, .mem, .ldg, .tim]
  | .cxgo .. => faultBlocks ++ [.twb]
  | .cxdone .. => faultBlocks ++ [.twb, .pwr]
  | .rails .. | .ul .. | .baud .. | .monBadLine .. | .monCfgWrite .. | .flt .. | .lk .. | .baudrev ..
    => [.evt, .mem, .mon]
  | .legacyWrite .. | .takeRelease .. | .groupCapture .. => [.evt, .mem, .xng]
  | .xngStuck .. | .crossingTimeout .. => faultBlocks ++ [.xng]
  | .faultCauseGone .. | .testEnFall .. | .injectionUnlockExpiry .. | .refclkReturn .. => [.flt]
  | .safeReloadResume .. | .holdTimeout .. => [.tpl]
  | .pathRetrej .. | .handbackTimeout .. => [.bkp, .pol, .flt, .evt, .mem]
  | .batCut .. | .chgTimer .. | .chgOv .. => faultBlocks ++ [.bkp, .gau]
  | .gaugeHourlyRecord .. | .pageCopyDone .. => [.evt, .mem, .ldg]
  | .ledgerCommit .. | .ledgerWriteFail .. => [.tpl, .evt, .mem, .ldg]
  | .probeTimeout .. => [.ldg, .lnk]
  | .wakenack .. => [.evt, .mem, .twb]
  | .arbitrationLost .. => [.evt, .mem, .twb, .pwr]
  | .lockoutEnd .. | .unlockIdleExpiry .. => [.mon]

/-- A command stores nothing of its own: memory changes at most in records that stand in event queues. -/
def storesNothing : Instr → Bool
  | .registerWrite .. | .winbaseWrite .. | .idataRead .. | .idataWrite .. | .domainPowerUp .. | .tplLoadAll ..
  | .tplLoadDomain .. | .holdmaxWrite .. | .loopParamWrite .. | .conversionResult .. | .dataRead ..
  | .sliceFactorWrite .. | .gaugeConfigWrite .. | .accLoRead .. | .eventQueueWrite .. | .queueConfigWrite ..
  | .ledgerStepDone .. | .dataReceive .. | .ackReceive .. | .remoteReceive .. | .timNowLoRead ..
  | .twbWriteTransaction .. | .twbReadTransaction .. | .twbTimeout .. | .cxdone .. | .rd .. | .wr .. | .ev ..
  | .dump .. | .cm .. | .qy .. | .wake .. | .pwrTimerExpiry .. | .startUp .. | .coreBout .. | .domainBrownout ..
  | .bootLoad .. | .depletedEntry .. | .shipEntry .. | .longPress .. | .ledgerCommit .. | .watchdogReset ..
  | .deepEntry .. | .aonPowerOn .. | .scrubStep .. | .log .. | .dumpStart .. => false
  | _ => true

/-- A command that produces no event: memory does not change at all. -/
def touchesNoMemory : Instr → Bool
  | .zeroCurrentDetect .. | .aggregateLimit .. | .testWindowEnd .. | .shareRampEnd .. | .watershedTick ..
  | .pointSettled .. | .loopRestored .. | .watchSettleEnd .. | .setpointReached .. | .vinBelowVon ..
  | .crossingEnd .. | .resetRelease .. | .scanStart .. | .handoverComplete .. | .buttonChange ..
  | .phaseCountEval .. | .derateEval .. | .ffwdEval .. | .stormWindowClose .. | .windowOpen .. | .checkTransmit ..
  | .portAligned .. | .alignLost .. | .surveyReceive .. | .reqReceive .. | .respReceive .. | .faultCauseGone ..
  | .safeReloadResume .. | .holdTimeout .. | .sourceReturn .. | .handbackStart .. | .shipWakeButton ..
  | .sourceWake .. | .openEnd .. | .faultNRelease .. | .testEnFall .. | .injectionUnlockExpiry ..
  | .eraseSuspend .. | .eraseResume .. | .loaderRestart .. | .converterCalDone .. | .drainTimeout .. | .probeTimeout ..
  | .tripKeyExpiry .. | .syncPeriod .. | .id .. | .lockoutEnd .. | .unlockIdleExpiry .. | .refclkReturn .. => true
  | _ => false

/-- For commands of one register or a few: the registers of their own that they may change; `none` for every other command,
whose registers the statements about it and `frameBlocks` bound. -/
def ownRegs : Instr → Option (List Reg)
  | .pntCfgWrite _ k _ _ => some (.PNT_CFG k :: (allStages.map .STG_STATE ++ allStages.map .STG_FLAG))
  | .zeroCurrentDetect m => some [.STG_STATE m]
  | .negativeLimit m => some [.STG_STATE m, .STG_FLAG m]
  | .testWindowEnd m _ => some [.STG_STATE m, .STG_TEST m, .SWY_STATUS]
  | .rminReset _ e => some [.LPE_TEMPO e]
  | .lpeShedWrite _ e _ _ => some [.LPE_SHED e]
  | .loopOpenRequest _ k | .loopCloseRequest _ k | .loopCloseCleared _ k => some [.LPS_CTL k, .LPS_STAT k, .LPS_FLAG k]
  | .lpsOutWrite _ k _ _ => some [.LPS_OUT k, .LPS_FLAG k]
  | .setpointReached n => some [.RAIL_STATUS n]
  | .vsetWrite _ n _ _ => some (.RAIL_VSET n :: allSlots.map .LPS_STAT)
  | .stepWrite _ g j _ _ => some [.TTB_STEP g j, .TTB_G_FLAG g, .TTB_RSTSTAT]
  | .ttbBoutWrite .. => some [.TTB_BOUT]
  | .vinBelowVon _ => some [.TTB_BSTAT]
  | .dmaEnable _ x _ _ => some [.SVY_CV_DMA_CFG x, .SVY_CV_DMA_PTR x, .SVY_CV_STAT x, .SVY_CV_FLAG x]
  | .shipCancel _ => some [.BKP_STATUS, .BKP_WDT]
  | .handoverComplete _ | .sourceReturn | .openEnd | .prechargeEnd | .cvEntry => some [.BKP_STATUS]
  | .handbackStart => some [.BKP_STATUS, .FLT_LIVE 7]
  | .buttonChange _ => some [.BKP_BTN]
  | .gauStale => some [.GAU_STATUS, .GAU_FLAG]
  | .gauCyclesWrite .. => some [.GAU_CYCLES, .GAU_FLAG]
  | .polLockWrite .. => some [.POL_LOCK, .POL_FLAG]
  | .fltCfgWrite _ f _ _ => some [.FLT_CFG f, .FLT_FLAG]
  | .fltTgtWrite _ f _ _ => some [.FLT_TGT f, .FLT_FLAG]
  | .fltForceWrite .. => some [.FLT_FORCE, .FLT_FLAG]
  | .injectionUnlock .. | .go .. => some [.FLT_INJ, .FLT_INJSTAT, .FLT_FLAG]
  | .injectionUnlockExpiry => some [.FLT_INJSTAT]
  | .otpProgram .. | .lifecycleTransition .. => some [.OTP_STATUS, .OTP_RESULT, .OTP_FLAG]
  | .taskRegister _ t _ _ => some [.WDG_T_CFG t, .WDG_T_STAT t, .WDG_FLAG]
  | .windowOpen t => some [.WDG_T_STAT t]
  | .wdgWarn _ => some [.WDG_FLAG]
  | .wdgCtlWrite .. => some [.WDG_CTL, .WDG_FLAG]
  | .rtAWrite _ e _ _ => some [.LNK_RT_A e, .LNK_RT_B e]
  | .respReceive p _ => some [.TIM_DELAY p]
  | .holdover => some [.TIM_STATUS, .TIM_FLAG]
  | .timeSet .. => some [.TIM_FLAG, .TIM_STATUS]
  | .markReceive .. => some (.TIM_MARKSTAT :: .TIM_FLAG :: (List.range 4).map fun b => .TIM_BANK (192 * b))
  | .wakenack => some [.TWB_FLAG]
  | .rails .. | .flt | .id => some []
  | .lk | .unlockIdleExpiry | .lockoutEnd => some [.MON_STAT]
  | .ul _ => some [.MON_STAT, .MON_FLAG]
  | .baud _ => some [.MON_CFG]
  | .baudrev => some [.MON_CFG, .MON_FLAG]
  | .monBadLine _ => some [.MON_FLAG]
  | .monCfgWrite .. => some [.MON_CFG]
  | .legacyWrite .. => some [.XNG_CTL, .XNG_TAKE, .XNG_FLAG]
  | .takeRelease .. => some [.XNG_TAKE]
  | .groupCapture _ => some [.XNG_STAT, .XNG_TAKE, .XNG_FLAG]
  | .sleepRequest .. | .deepHoldTimeout => some [.PWR_CTL, .PWR_STATUS, .PWR_FLAG]
  | _ => none

end Sys2Proof.Machine
end

