-- ==== Sys2Proof/Certificates/Slice0/Obligations.lean ====
section
/-!
DEFINITION. The statements for the provers: one proposition per group of rows, each a conjunction of clauses. A clause
gives hypotheses on the state and the operands and the next state that exec answers.
-/

set_option linter.unusedVariables false

open Sys2Proof Sys2Proof.Machine

/-- Register writes, the window base, SYS_IDATA, domains and the reference clock. The clauses on DOMAIN_POWER_UP and
REFCLK_LOSS rest on model choices (logs 150 and 21). Rests on 00_scope.md R8; 01_architecture.md R17, R18, R24, R25. -/
def Obligations.RegisterAccess : Prop :=
  -- a write of SYS_IADDR, whole or narrow, stores the merged value with its low two bits kept
  (∀ (i : Iface) (v : Word) (be : BitVec 4) (s : State), s.takes .SYS_IADDR = true → exec (.registerWrite i 0x40000008
    v be) s = .next (s.wr .SYS_IADDR ((s.rd .SYS_IADDR &&& 3#32) ||| (((v &&& byteMask be) ||| (s.rd .SYS_IADDR &&&
    ~~~ (byteMask be))) &&& 0xFFFFFFFC#32)))) ∧
  -- a whole write of an SRAM word stores it, and every byte outside the word reads as before
  (∀ (i : Iface) (v : Word) (a : Nat) (s : State), s.accepts = true → s.sramServed a = true → a < 0x40000 → a % 4 = 0
    → s.memOk → ∃ t, exec (.registerWrite i a v 0xF#4) s = .next t ∧ t.word a = v ∧ ∀ k, k < a ∨ a + 4 ≤ k → t.byte k
    = s.byte k) ∧
  -- a write of SYS_WINBASE with a permitted BASE stores it
  (∀ (b : Nat) (i : Iface) (v : Word) (be : BitVec 4) (s : State), s.takes .SYS_WINBASE = true → b = getF (s.merged
    .SYS_WINBASE v be) Fld.SYS_WINBASE_BASE → (b ≤ 3 ∨ 0x1000 ≤ b ∧ b ≤ 0x101F ∨ b = 0x2000 ∨ b = 0x4000 ∨ b = 0x4001)
    → ∃ t, exec (.winbaseWrite i v be) s = .next t ∧ t.fld .SYS_WINBASE Fld.SYS_WINBASE_BASE = b) ∧
  -- a write with another BASE keeps BASE and sets the flag in bit 16
  (∀ (b : Nat) (i : Iface) (v : Word) (be : BitVec 4) (s : State), s.takes .SYS_WINBASE = true → b = getF (s.merged
    .SYS_WINBASE v be) Fld.SYS_WINBASE_BASE → (¬ (b ≤ 3 ∨ 0x1000 ≤ b ∧ b ≤ 0x101F ∨ b = 0x2000 ∨ b = 0x4000 ∨ b =
    0x4001)) → ∃ t, exec (.winbaseWrite i v be) s = .next t ∧ t.fld .SYS_WINBASE Fld.SYS_WINBASE_BASE = s.fld
    .SYS_WINBASE Fld.SYS_WINBASE_BASE ∧ t.bit .SYS_WINBASE 16 = true) ∧
  -- a read of SYS_IDATA delivers the undamaged SRAM word SYS_IADDR names, and SYS_IADDR goes on by 4
  (∀ (i : Iface) (a : Nat) (s : State), s.served = true → s.powered .aon = true → a = wordAddr (s.rd .SYS_IADDR).toNat
    → a < 0x40000 → s.sramServed a = true → s.sramBad a = none → ∃ t, exec (.idataRead i) s = .next t ∧ t.rdata.get i
    0#32 = s.word a ∧ t.rd .SYS_IADDR = s.rd .SYS_IADDR + 4#32) ∧
  -- a write of SYS_IDATA stores the SRAM word SYS_IADDR names, and SYS_IADDR goes on by 4
  (∀ (i : Iface) (v : Word) (a : Nat) (s : State), s.takes .SYS_IDATA = true → a = wordAddr (s.rd .SYS_IADDR).toNat →
    a < 0x40000 → s.sramServed a = true → s.memOk → ∃ t, exec (.idataWrite i v 0xF#4) s = .next t ∧ t.word a = v ∧
    t.rd .SYS_IADDR = s.rd .SYS_IADDR + 4#32) ∧
  -- a domain below a powered one comes up while the firmware runs, and the running stream is applied to it
  (∀ (d p : Dom) (s : State), s.accepts = true → s.pw.start = none → s.pw.mc = .firmware → s.powered d = false →
    Dom.parent d = some p → s.powered p = true → (d ≠ .link ∨ s.pins.refclk = true) → exec (.domainPowerUp d) s =
    .next ((if d = .seq then (s.powerUp d).groupsOff else s.powerUp d).applyDomain d) ∧ (s.powerUp d).powered d =
    true) ∧
  -- after a brown-out of a domain other than AON, NVM and CORE it and every domain below it are down
  (∀ (d : Dom) (s : State), s.powered d = true → d ≠ .aon → d ≠ .nvm → d ≠ .core → ∃ t, exec (.domainBrownout d) s =
    .next t ∧ ∀ e ∈ Dom.below d, t.powered e = false) ∧
  -- with LINK powered, the clock is absent, and source 51 becomes live and is raised
  (∀ (s : State), s.pins.refclk = true → s.powered .link = true → exec .refclkLoss s = .next
    (({ s with pins := { s.pins with refclk := false } }.live 51 true).raise 51 0)) ∧
  -- the clock is present and source 51 is no longer live
  (∀ (s : State), ∃ t, exec .refclkReturn s = .next t ∧ t.pins.refclk = true ∧ t.bit (.FLT_LIVE 1) 19 = false)

/-- The staged stream, for a command that runs in its lane with an undamaged stage. What TPL_LOAD_ALL resets before it
applies is DEDUCED (log 28). Rests on 02_trackplan.md R57, R58. -/
def Obligations.TrackplanStaged : Prop :=
  -- TPL_VERIFY of a stream that passes every check completes with 0, with its message, and changes no register and no
  -- memory
  (∀ (k : Nat) (s : State), s.begins 0x01 k → s.firstBad (s.slot k).stage.toNat (s.slot k).stageLen = none → keysIn
    s.me.soft (s.slot k).stage.toNat (s.slot k).stageLen = [] → keysIn s.me.votes (s.slot k).stage.toNat (s.slot
    k).stageLen = [] → s.checkStaged k true = none → ∃ t, exec (.tplVerify .advance) s = .next t ∧ t.ended k 0 ∧
    t.lastMessage 3 (handleOf k (s.slot k).gen) 0 ∧ t.regs = s.regs ∧ t.mem = s.mem) ∧
  -- TPL_VERIFY of a stream that fails completes with the code of the failure, which LASTREF shows, and changes no
  -- memory
  (∀ (x : TplRef) (k : Nat) (s : State), s.begins 0x01 k → s.firstBad (s.slot k).stage.toNat (s.slot k).stageLen =
    none → keysIn s.me.soft (s.slot k).stage.toNat (s.slot k).stageLen = [] → keysIn s.me.votes (s.slot k).stage.toNat
    (s.slot k).stageLen = [] → s.checkStaged k true = some x → ∃ t, exec (.tplVerify .advance) s = .next t ∧ t.ended k
    x.code ∧ t.fld .TPL_STATUS Fld.TPL_STATUS_LASTREF = x.code % 256 ∧ t.mem = s.mem) ∧
  -- TPL_STORE of a good stream into a writable region begins the bank write and changes TPL_STATUS and memory not at
  -- all
  (∀ (k : Nat) (s : State), s.begins 0x41 k → s.firstBad (s.slot k).stage.toNat (s.slot k).stageLen = none → keysIn
    s.me.soft (s.slot k).stage.toNat (s.slot k).stageLen = [] → keysIn s.me.votes (s.slot k).stage.toNat (s.slot
    k).stageLen = [] → s.checkStaged k true = none → s.readOnly 1 = false → ∃ t, exec (.tplStore .advance) s = .next t
    ∧ t.writing 1 (.bank 1 s.commitBank (s.newSeq 1)) (some k) ∧ t.rd .TPL_STATUS = s.rd .TPL_STATUS ∧ t.mem = s.mem) ∧
  -- TPL_LOAD_ALL with every rail OFF applies the stream and takes it over when read-back agrees, and else ends with
  -- 0x23
  (∀ (u : State) (p : Bool × State) (k : Nat) (s : State), s.begins 0x02 k → s.firstBad (s.slot k).stage.toNat (s.slot
    k).stageLen = none → keysIn s.me.soft (s.slot k).stage.toNat (s.slot k).stageLen = [] → keysIn s.me.votes (s.slot
    k).stage.toNat (s.slot k).stageLen = [] → (s.checkStaged k (s.tplSt == 0 || allRails.all fun n => s.railSt n ==
    rOff) = none) → u = (each allSlots (fun j s => s.openSlot j false) (s.setPhase k 1)).resetRegs ((loadRegs
    s.tp.stream ++ loadRegs (s.staged k)).filter (· != .BKP_BATCFG)) → p = (u.setReg (streamEntries (s.staged k))
    .BKP_BATCFG).applyStream (s.staged k) → ∃ t, exec (.tplLoadAll .advance) s = .next t ∧ (if p.1 = true then
    t.tp.stream = s.staged k ∧ t.tp.released = true ∧ t.tp.owners = streamOwners (s.staged k) else t.ended k 0x23))

/-- The phases of a partial reload, HOLD_TIMEOUT, SAFE_RELOAD_RESUME, TPL_HOLDMAX and BOOT_LOAD. That the phases are
advances of the command is the model's (logs 29 and 30). Rests on 02_trackplan.md R52, R60, R65, R68, R73. -/
def Obligations.TrackplanReload : Prop :=
  -- an issued TPL_LOAD_DOMAIN that can start at once shows RELOADING, phase 1 and its domain
  (∀ (i : Iface) (k : Nat) (s : State), s.admits i 0x03 k = true → s.runningSlot 0 = none → s.cm.waiting = [] →
    s.reloadReady = true → ∃ t, exec (.tplLoadDomain (.issue i)) s = .next t ∧ t.tplSt = 3 ∧ t.tplPhase = 1 ∧ t.fld
    .TPL_STATUS Fld.TPL_STATUS_DOMAIN = getF (s.bank i).p0 ⟨3, 0⟩ ∧ t.tp.reload.map (·.slot) = some k) ∧
  -- phase 3 goes on to phase 4
  (∀ (r : Reload) (k : Nat) (s : State), s.runningSlot 0 = some k → (s.slot k).op = 0x03 → s.tp.reload = some r →
    r.slot = k → r.abort = none → s.tplPhase = 3 → ∃ t, exec (.tplLoadDomain .advance) s = .next t ∧ t.tplSt = 3 ∧
    t.tplPhase = 4) ∧
  -- phase 5 goes on to phase 6 when every entry reads back
  (∀ (r : Reload) (k : Nat) (s : State), s.runningSlot 0 = some k → (s.slot k).op = 0x03 → s.tp.reload = some r →
    r.slot = k → r.abort = none → s.tplPhase = 5 → s.readBack (domEntries r.staged r.dom) = true → exec
    (.tplLoadDomain .advance) s = .next (s.setTpl 3 6)) ∧
  -- an aborted reload ends with its code, and with no other reload accepted the running trackplan shows again
  (∀ (r : Reload) (c : Nat) (k : Nat) (s : State), s.runningSlot 0 = some k → (s.slot k).op = 0x03 → s.tp.reload =
    some r → r.slot = k → r.abort = some c → ∃ t, exec (.tplLoadDomain .advance) s = .next t ∧ t.ended k c ∧
    (t.tp.reload = none → t.tplSt = 2 ∧ t.tplPhase = 0)) ∧
  -- TPL_HOLDMAX takes a TIME of 10 to 5000 and keeps it otherwise
  (∀ (i : Iface) (v : Word) (s : State), s.takes .TPL_HOLDMAX = true → ∃ t, exec (.holdmaxWrite i v 0xF#4) s = .next t
    ∧ t.fld .TPL_HOLDMAX Fld.TPL_HOLDMAX_TIME = (if 10 ≤ getF v Fld.TPL_HOLDMAX_TIME ∧ getF v Fld.TPL_HOLDMAX_TIME ≤
    5000 then getF v Fld.TPL_HOLDMAX_TIME else s.fld .TPL_HOLDMAX Fld.TPL_HOLDMAX_TIME)) ∧
  -- the load at boot applies the first bank that is accepted and releases the rails
  (∀ (b : Nat) (l : List Nat) (s : State), s.pw.mc = .firmware → s.tplSt = 1 → s.wd.expired = false → s.bootBanks = b
    :: l → (s.bootTry b).1 = true → ∃ t, exec .bootLoad s = .next t ∧ t.tp.stream = (s.bootTry b).2.storedStream b ∧
    t.tp.released = true ∧ t.tp.owners = streamOwners t.tp.stream) ∧
  -- with no bank to try the part is unconfigured: TPL_ID 0 and no stream
  (∀ (s : State), s.pw.mc = .firmware → s.tplSt = 1 → s.wd.expired = false → s.bootBanks = [] → ∃ t, exec .bootLoad s
    = .next t ∧ t.tplSt = 0 ∧ t.rd .TPL_ID = 0#32 ∧ t.tp.stream = []) ∧
  -- HOLD_TIMEOUT in a HOLD reload marks its abort with 0x22, which LASTREF shows
  (∀ (r : Reload) (s : State), s.tp.reload = some r → r.safe = false → r.abort = none → 4 ≤ s.tplPhase → s.tplPhase ≤
    6 → ∃ t, exec .holdTimeout s = .next t ∧ t.tplSt = 4 ∧ t.tplPhase = 9 ∧ t.fld .TPL_STATUS Fld.TPL_STATUS_LASTREF =
    0x22 ∧ t.tp.reload = some { r with abort := some 0x22 }) ∧
  -- a SAFE reload whose rails are down goes on to phase 3
  (∀ (r : Reload) (s : State), s.tp.reload = some r → s.tplPhase = 2 → r.abort = none → s.safeDone r = true → exec
    .safeReloadResume s = .next (s.setTpl 3 3))

/-- Writes of STG_CFG, PNT_CFG and STG_FLAG. Rests on 03_switchyard.md R78, R89, R99. -/
def Obligations.StageWrites : Prop :=
  -- a permitted STG_CFG of a stage that is idle, with its rail and the new one off, is stored
  (∀ (i : Iface) (v : Word) (m : Fin 24) (s : State), s.takes (.STG_CFG m) = true → getF v Fld.STG_CFG_DEMODE ≠ 3 →
    s.badRail m (getF v Fld.STG_CFG_RAIL) = false → s.badRail m (getF v Fld.STG_CFG_HOME) = false → s.gangFull m (getF
    v Fld.STG_CFG_RAIL) = false → (s.stgSt m = 0 ∨ s.stgSt m = 7 ∨ s.stgSt m = 8) → s.idleOrOff (s.stgRail m) = true →
    s.idleOrOff (getF v Fld.STG_CFG_RAIL) = true → ∃ t, exec (.stgCfgWrite i m v 0xF#4) s = .next t ∧ t.rd (.STG_CFG
    m) = (s.rd (.STG_CFG m) &&& ~~~ Reg.rw (.STG_CFG m)) ||| (v &&& Reg.rw (.STG_CFG m))) ∧
  -- in RUN only the live fields are taken, RAIL stays and the flag in bit 6 is set
  (∀ (i : Iface) (v : Word) (m : Fin 24) (s : State), s.takes (.STG_CFG m) = true → getF v Fld.STG_CFG_DEMODE ≠ 3 →
    s.badRail m (getF v Fld.STG_CFG_RAIL) = false → s.badRail m (getF v Fld.STG_CFG_HOME) = false → s.gangFull m (getF
    v Fld.STG_CFG_RAIL) = false → s.stgSt m = 4 → ∃ t, exec (.stgCfgWrite i m v 0xF#4) s = .next t ∧ t.stgRail m =
    s.stgRail m ∧ t.fld (.STG_CFG m) Fld.STG_CFG_DEMODE = getF v Fld.STG_CFG_DEMODE ∧ t.fld (.STG_CFG m)
    Fld.STG_CFG_PARKOK = getF v Fld.STG_CFG_PARKOK ∧ t.bit (.STG_FLAG m) 6 = true) ∧
  -- a RAIL of another owner changes nothing and sets the flag in bit 7
  (∀ (i : Iface) (v : Word) (m : Fin 24) (s : State), s.takes (.STG_CFG m) = true → s.badRail m (getF v
    Fld.STG_CFG_RAIL) = true → getF v Fld.STG_CFG_DEMODE ≠ 3 → ∃ t, exec (.stgCfgWrite i m v 0xF#4) s = .next t ∧ t.rd
    (.STG_CFG m) = s.rd (.STG_CFG m) ∧ t.bit (.STG_FLAG m) 7 = true) ∧
  -- PNT_CFG of an open point is stored
  (∀ (i : Iface) (v : Word) (k : Fin 8) (s : State), s.takes (.PNT_CFG k) = true → k.val ∉ s.pins.closed → ∃ t, exec
    (.pntCfgWrite i k v 0xF#4) s = .next t ∧ t.rd (.PNT_CFG k) = (s.rd (.PNT_CFG k) &&& ~~~ Reg.rw (.PNT_CFG k)) |||
    (v &&& Reg.rw (.PNT_CFG k))) ∧
  -- PNT_CFG of a closed point changes nothing
  (∀ (i : Iface) (v : Word) (k : Fin 8) (s : State), s.takes (.PNT_CFG k) = true → k.val ∈ s.pins.closed → exec
    (.pntCfgWrite i k v 0xF#4) s = .next s) ∧
  -- writing 1 to STG_FLAG bit 0 takes a blocked stage whose source is not latched to state 0
  (∀ (i : Iface) (m : Fin 24) (s : State), s.takes (.STG_FLAG m) = true → s.stgSt m = 7 → s.latched m = false → ∃ t,
    exec (.stgFlagWrite i m 1#32 0xF#4) s = .next t ∧ t.stgSt m = 0 ∧ t.bit (.STG_FLAG m) 0 = false)

/-- Triggers, comparators, limits and the watershed. On-times and trims are exact rationals in the model (logs 40 and
42). Which trims decay is DEDUCED (log 171). Rests on 03_switchyard.md R80, R85, R86, R87, R92. -/
def Obligations.StageCycles : Prop :=
  -- with none waiting, a trigger goes to the next stage in rotation that is neither busy nor above its limit, with the
  -- on-time of R79 times its share
  (∀ (n : Fin 16) (f : Fire) (m : Nat) (l : List Nat) (s : State), s.rotation n = m :: l → f.busy.getLsbD m = false →
    s.aboveVlim f m = false → n.val ∉ s.sw.waiting → ∃ t, exec (.valleyComparatorFire n f) s = .next t ∧
    t.sw.last.lookup n.val = some m ∧ (t.stgX m).lowSide = true ∧ (t.stgX m).ton = (if s.tonRaw n m f.vin < 40 then 40
    else s.tonRaw n m f.vin) * s.shareOf m ∧ t.fld (.STG_STATE m) Fld.STG_STATE_VLIMACT = 0) ∧
  -- a trigger with an empty rotation waits and changes no register
  (∀ (n : Fin 16) (f : Fire) (s : State), s.rotation n = [] → ∃ t, exec (.valleyComparatorFire n f) s = .next t ∧
    n.val ∈ t.sw.waiting ∧ t.regs = s.regs) ∧
  -- in diode emulation the low side opens at zero current and DE is set
  (∀ (m : Fin 24) (s : State), s.switches m = true → s.emulates m = true → s.compOut (0x60 + m) true = true → ∃ t,
    exec (.zeroCurrentDetect m) s = .next t ∧ t.fld (.STG_STATE m) Fld.STG_STATE_DE = 1 ∧ (t.stgX m).lowSide = false ∧
    t.stgSt m = s.stgSt m) ∧
  -- without emulation the low side opens at the negative limit with its flag
  (∀ (m : Fin 24) (s : State), s.switches m = true → s.emulates m = false → ∃ t, exec (.negativeLimit m) s = .next t ∧
    t.bit (.STG_FLAG m) 2 = true ∧ (t.stgX m).lowSide = false ∧ t.fld (.STG_STATE m) Fld.STG_STATE_DE = 0 ∧ t.stgSt m
    = s.stgSt m) ∧
  -- an over-current time-out at the valley limit latches the stage's source and sets its flag
  (∀ (m : Fin 24) (s : State), s.fld (.STG_STATE m) Fld.STG_STATE_VLIMACT = 1 → ∃ t, exec (.ocTimeout m) s = .next t ∧
    t.latched (24 + m) = true ∧ t.bit (.STG_FLAG m) 1 = true) ∧
  -- AGGACT compares the sum over stages 16 to 23 with the limit, and its fault source is live while it is set
  (∀ (l : List StageMeas) (s : State), ∃ t, exec (.aggregateLimit l) s = .next t ∧ t.fld .SWY_STATUS
    Fld.SWY_STATUS_AGGACT = b2n (decide ((s.fld .SWY_IAGG Fld.SWY_IAGG_LIMIT : Int) * 5 < sumI ([16, 17, 18, 19, 20,
    21, 22, 23].map t.iavg)) || (s.bit .SWY_STATUS 0 && decide ((s.fld .SWY_IAGG Fld.SWY_IAGG_LIMIT : Int) * 5 = sumI
    ([16, 17, 18, 19, 20, 21, 22, 23].map t.iavg)))) ∧ t.bit (.FLT_LIVE 1) 16 = t.bit .SWY_STATUS 0) ∧
  -- at its time-out source 48 is latched and the flag is set
  (∀ (s : State), s.fld .SWY_STATUS Fld.SWY_STATUS_AGGACT = 1 → ∃ t, exec .swyAggOc s = .next t ∧ t.latched 48 = true
    ∧ t.bit .SWY_FLAG 0 = true) ∧
  -- with fewer than 5 stages in JOIN or RUN, or locked, each trim decays; a gang of 5 with one in LEAVE decays too
  -- (log 171)
  (∀ (l : List StageMeas) (n m : Nat) (s : State), n < 16 → m ∈ s.inRotation n → (((s.inRotation n).filter fun x =>
    s.stgSt x == 3 || s.stgSt x == 4).length < 5 ∨ s.bit .POL_LOCK 1 = true) → ∃ t, exec (.watershedTick l) s = .next
    t ∧ (t.stgX m).trim = decay4 (s.stgX m).trim)

/-- The states of a stage, and the start of a re-gang. Rests on 03_switchyard.md R77, R88, R89, R90, R91, R94. -/
def Obligations.StageStates : Prop :=
  -- a settled point takes its stage to TEST
  (∀ (k : Fin 8) (m : Nat) (s : State), m = s.fld (.PNT_CFG k) Fld.PNT_CFG_STAGE → k.val ∈ s.pins.closed → (s.stgX
    m).settling = true → ∃ t, exec (.pointSettled k) s = .next t ∧ t.stgSt m = 1 ∧ (t.stgX m).settling = false) ∧
  -- a shorted high side blocks the stage, latches its source and sets RESULT 2 and the flag
  (∀ (v : Nat) (m : Fin 24) (s : State), s.stgSt m = 1 → s.testFails m v = true → s.sw.regang = none → ∃ t, exec
    (.hsshortDetect m v) s = .next t ∧ t.stgSt m = 7 ∧ t.latched m = true ∧ t.fld (.STG_TEST m) Fld.STG_TEST_RESULT =
    2 ∧ t.bit (.STG_FLAG m) 0 = true) ∧
  -- the end of the test window without a short goes to BOOT with RESULT 1 and VRISE
  (∀ (v : Nat) (m : Fin 24) (s : State), s.stgSt m = 1 → s.testFails m v = false → ∃ t, exec (.testWindowEnd m v) s =
    .next t ∧ t.stgSt m = 2 ∧ t.fld (.STG_TEST m) Fld.STG_TEST_RESULT = 1 ∧ t.fld (.STG_TEST m) Fld.STG_TEST_VRISE =
    (roundOpen (((v - s.railMv (s.stgRail m) : Nat) : Rat) / 10)).toNat % 65536) ∧
  -- a booted stage of a rail that is not starting joins with share 0
  (∀ (m : Fin 24) (s : State), s.stgSt m = 2 → s.sw.regang = none → (16 ≤ s.stgRail m ∨ s.railSt (s.stgRail m) ≠ 2) →
    ∃ t, exec (.bootEnd m ()) s = .next t ∧ t.stgSt m = 3 ∧ t.fld (.STG_STATE m) Fld.STG_STATE_SHARE = 0) ∧
  -- when the last stage of a starting gang has booted, all of them run with full share and the rail ramps
  (∀ (m : Fin 24) (s : State), s.stgSt m = 2 → s.sw.regang = none → s.stgRail m < 16 → s.railSt (s.stgRail m) = 2 →
    m.val ∈ s.startable (s.stgRail m) → (∀ x ∈ s.startable (s.stgRail m), x = m.val ∨ (s.stgX x).booted = true) → ∃ t,
    exec (.bootEnd m ()) s = .next t ∧ t.railSt (s.stgRail m) = 3 ∧ ∀ x ∈ s.startable (s.stgRail m), t.stgSt x = 4 ∧
    t.fld (.STG_STATE x) Fld.STG_STATE_SHARE = 128) ∧
  -- the end of the share ramp in JOIN is RUN with full share
  (∀ (m : Fin 24) (s : State), s.stgSt m = 3 → s.sw.regang = none → ∃ t, exec (.shareRampEnd m) s = .next t ∧ t.stgSt
    m = 4 ∧ t.fld (.STG_STATE m) Fld.STG_STATE_SHARE = 128) ∧
  -- the end of the share ramp in LEAVE leaves share 0
  (∀ (m : Fin 24) (s : State), s.stgSt m = 5 → ∃ t, exec (.shareRampEnd m) s = .next t ∧ t.stgSt m = 5 ∧ t.fld
    (.STG_STATE m) Fld.STG_STATE_SHARE = 0 ∧ (t.stgX m).drained = true) ∧
  -- a drained stage that is being parked is PARKED at zero current or at the time-out
  (∀ (c : Instr) (m : Fin 24) (s : State), (c = .leaveCurrentZero m ∨ c = .leaveTimeout m) → s.stgSt m = 5 → (s.stgX
    m).drained = true → (s.stgX m).parking = true → ∃ t, exec c s = .next t ∧ t.stgSt m = 6 ∧ t.fld (.STG_STATE m)
    Fld.STG_STATE_SHARE = 0) ∧
  -- a drained stage that is not being parked is IDLE at zero current or at the time-out
  (∀ (c : Instr) (m : Fin 24) (s : State), (c = .leaveCurrentZero m ∨ c = .leaveTimeout m) → s.stgSt m = 5 → (s.stgX
    m).drained = true → (s.stgX m).parking = false → s.sw.regang = none → ∃ t, exec c s = .next t ∧ t.stgSt m = 0 ∧
    t.fld (.STG_STATE m) Fld.STG_STATE_SHARE = 0) ∧
  -- a SWY_REGANG that fails a check ends with its code, shows no re-gang and changes no other register
  (∀ (k m r : Nat) (s : State), s.begins 0x10 k → m = getF (s.slot k).p0 ⟨4, 0⟩ → r = getF (s.slot k).p0 ⟨12, 8⟩ →
    s.regangJudge m r ≠ 0 → ∃ t, exec (.swyRegang .advance) s = .next t ∧ t.ended k (s.regangJudge m r) ∧ (s.powered
    .stg = true → t.regangPhase = 0) ∧ ∀ x, x ≠ .SWY_STATUS → t.rd x = s.rd x) ∧
  -- an unassigned stage is added to a rail that is OFF at once
  (∀ (k m r : Nat) (s : State), s.begins 0x10 k → m = getF (s.slot k).p0 ⟨4, 0⟩ → r = getF (s.slot k).p0 ⟨12, 8⟩ → r <
    16 → 16 ≤ s.stgRail m → s.regangJudge m r = 0 → s.railSt r = 0 → ∃ t, exec (.swyRegang .advance) s = .next t ∧
    t.ended k 0 ∧ t.stgRail m = r ∧ t.sw.regang = none) ∧
  -- a shed of a running stage begins with LEAVE
  (∀ (k m : Nat) (s : State), s.begins 0x10 k → m = getF (s.slot k).p0 ⟨4, 0⟩ → getF (s.slot k).p0 ⟨12, 8⟩ = 0x1F →
    s.stgRail m < 16 → s.regangJudge m 0x1F = 0 → s.railSt (s.stgRail m) ≠ 0 → s.stgSt m = 4 → ∃ t, exec (.swyRegang
    .advance) s = .next t ∧ t.stgSt m = 5 ∧ t.regangPhase = 2 ∧ t.sw.regang.map (·.stage) = some m)

/-- Samples of a loop, the tempo of its engine, and the shedding of rates. The clause done lets a whole or rounded
error stand (log 43). Which triggers are due is DEDUCED (log 175). Rests on 04_loop_engines.md R102, R105, R110, R114,
R126. -/
def Obligations.LoopSamples : Prop :=
  -- a trigger of a closed computing slot, its tap just converted, takes its feedback, its reference and its settings
  (∀ (r : Rat) (k : Fin 32) (s : State), s.loopsWork = true → s.slotSt k = 2 → s.tapReady k = true → s.computes k =
    true → (s.loopX k).sample = none → (s.slotTap k).1 ≠ 3 → s.slotRef k = some r → ∃ t, exec (.loopSampleTrigger k) s
    = .next t ∧ (t.loopX k).sample = some
    { fb := ((s.tap (s.slotTap k).1 (s.slotTap k).2 : Int) : Rat), ref := r + s.destOut (2, k), tick := s.clock.localTicks.toNat / 250 }
    ∧ (t.loopX k).act = s.loopSet k ∧ ∀ x, x ≠ .LPS_STAT k → x ≠ .XNG_STAT → t.rd x = s.rd x) ∧
  -- a trigger that finds the sample before it unfinished is counted late, flagged and raised
  (∀ (x : Sample) (k : Fin 32) (s : State), s.loopsWork = true → s.tapReady k = true → s.slotSt k = 2 → s.computes k =
    true → (s.loopX k).sample = some x → ∃ t, exec (.loopSampleTrigger k) s = .next t ∧ t.bit (.LPS_FLAG k) 2 = true ∧
    t.latched (156 + k) = true ∧ t.fld (.LPS_STAT k) Fld.LPS_STAT_LATECNT = min 65535 (s.fld (.LPS_STAT k)
    Fld.LPS_STAT_LATECNT + 1)) ∧
  -- a finished sample whose error fits the format drives the slewed and clamped result of the cascade
  (∀ (x : Sample) (d : Rat) (u : Int) (k : Fin 32) (s : State), (s.loopX k).sample = some x → s.loopsWork = true →
    s.slotSt k = 2 → s.engineServes (slotEngine k) = some k.val → u = roundOpen (x.ref - x.fb) * 4096 → -(2 ^ 31) ≤ u
    → u < 2 ^ 31 → ∃ t, exec (.loopSampleDone k d) s = .next t ∧ (t.loopX k).sample = none ∧ (t.loopX k).out = (slewed
    (s.loopX k) ((getF (s.loopX k).act.close Fld.LPS_CLOSE_SLEW : Int) * 4096) (clampI (s.outLimits k).1 (s.outLimits
    k).2 (s.cascade (s.slotSections k) u).1)).1) ∧
  -- RATE is the smaller of two windows, and below 256 the flag is set
  (∀ (e : Fin 8) (c p : Nat) (s : State), s.powered .eng = true → (s.engX e).prevCount = some p → ∃ t, exec
    (.tempoWindowEnd e c) s = .next t ∧ t.fld (.LPE_TEMPO e) Fld.LPE_TEMPO_RATE = min 65535 (min p c) ∧ (min p c < 256
    → t.bit (.LPE_FLAG e) 0 = true) ∧ (t.engX e).prevCount = some c) ∧
  -- the first window gives no rate
  (∀ (e : Fin 8) (c : Nat) (s : State), s.powered .eng = true → (s.engX e).prevCount = none → ∃ t, exec
    (.tempoWindowEnd e c) s = .next t ∧ t.regs = s.regs ∧ (t.engX e).prevCount = some c) ∧
  -- the slot shed last gets its next faster rate when the slack suffices, with its message; a halving that still waits
  -- for its trigger is dropped instead
  (∀ (e : Fin 8) (k c : Nat) (l : List Nat) (s : State), (s.engX e).shed = k :: l → s.powered .eng = true → s.bit
    .POL_LOCK 5 = false → s.fld (.LPE_TEMPO e) Fld.LPE_TEMPO_RATE ≠ 0 → (s.fld (.LPE_SHED e) Fld.LPE_SHED_RESTTH :
    Rat) ≤ s.slackAt e (s.fld (.LPE_TEMPO e) Fld.LPE_TEMPO_RATE) (fun j => if j = k then rateFaster (s.prate k) else
    s.prate j) → c = (if (s.loopX k).shedTo = none then rateFaster (s.prate k) else s.prate k) → ∃ t, exec
    (.loopRestored e) s = .next t ∧ t.prate k = c ∧ (t.loopX k).shedTo = none ∧ (t.engX e).shed = l ∧ t.lastMessage 19
    k c) ∧
  -- a write of LPE_STATE takes RMIN to RATE
  (∀ (i : Iface) (e : Fin 8) (s : State), s.takes (.LPE_STATE e) = true → exec (.rminReset i e) s = .next (s.put
    (.LPE_TEMPO e) Fld.LPE_TEMPO_RMIN (s.fld (.LPE_TEMPO e) Fld.LPE_TEMPO_RATE))) ∧
  -- LPE_SHED takes thresholds in their ranges and ignores others
  (∀ (i : Iface) (e : Fin 8) (v : Word) (s : State), s.takes (.LPE_SHED e) = true → exec (.lpeShedWrite i e v 0xF#4) s
    = .next (if 10 ≤ getF v Fld.LPE_SHED_SHEDTH ∧ getF v Fld.LPE_SHED_SHEDTH ≤ 90 ∧ getF v Fld.LPE_SHED_SHEDTH + 50 ≤
    getF v Fld.LPE_SHED_RESTTH then s.writeRw (.LPE_SHED e) v else s))

/-- Requests to open and close a loop, and its watches. Rests on 04_loop_engines.md R119, R120, R123, R124. -/
def Obligations.LoopRequests : Prop :=
  -- a CLOSED or TRIPPED slot opens, its sample is dropped and its destinations stay
  (∀ (i : Iface) (k : Fin 32) (s : State), s.takes (.LPS_CTL k) = true → (s.slotSt k = 2 ∨ s.slotSt k = 3) → ∃ t, exec
    (.loopOpenRequest i k) s = .next t ∧ t.slotSt k = 1 ∧ (t.loopX k).sample = none ∧ (t.loopX k).hostOpen = true ∧
    t.lp.dests = s.lp.dests) ∧
  -- an OPEN slot that computes closes at its configured rate with its section states kept
  (∀ (i : Iface) (k : Fin 32) (s : State), s.takes (.LPS_CTL k) = true → s.slotSt k = 1 → s.computes k = true → ∃ t,
    exec (.loopCloseRequest i k) s = .next t ∧ t.slotSt k = 2 ∧ t.prate k = s.cfgRate k ∧ (t.loopX k).settling = true
    ∧ t.lp.sections = s.lp.sections) ∧
  -- a cleared close also clears its section states
  (∀ (i : Iface) (k : Fin 32) (s : State), s.takes (.LPS_CTL k) = true → s.slotSt k = 1 → ∃ t, exec (.loopCloseCleared
    i k) s = .next t ∧ t.slotSt k = 2 ∧ t.prate k = s.cfgRate k ∧ ∀ e ∈ s.slotSections k, t.lp.sections.get e {} = {}) ∧
  -- an UNUSED slot, and a tripped one whose source is latched, refuse the close with a flag
  (∀ (c : Instr) (i : Iface) (k : Fin 32) (s : State), (c = .loopCloseRequest i k ∨ c = .loopCloseCleared i k) →
    s.takes (.LPS_CTL k) = true → (s.slotSt k = 0 ∨ s.slotSt k = 3 ∧ s.latched (188 + k) = true) → ∃ t, exec c s =
    .next t ∧ t.bit (.LPS_FLAG k) 6 = true ∧ t.slotSt k = s.slotSt k ∧ t.lp = s.lp) ∧
  -- a slot held open by a host on a live rail raises OPENLONG
  (∀ (k : Fin 32) (s : State), s.slotSt k = 1 → (s.loopX k).hostOpen = true → s.fld (.LPS_IN k) Fld.LPS_IN_RAIL < 20 →
    s.railSt (s.fld (.LPS_IN k) Fld.LPS_IN_RAIL) ≠ 0 → s.fld (.LPS_CLOSE k) Fld.LPS_CLOSE_OPENMAX ≠ 0 → ∃ t, exec
    (.loopOpenlong k) s = .next t ∧ t.bit (.LPS_FLAG k) 5 = true ∧ t.latched (188 + k) = true) ∧
  -- after the settling time the model watch acts
  (∀ (k : Fin 32) (s : State), s.slotSt k = 2 → s.unsettled k = false → (s.loopX k).exceeded = false → ∃ t, exec
    (.watchSettleEnd k) s = .next t ∧ t.modelWatch k = true ∧ t.regs = s.regs) ∧
  -- a follow error held long enough trips the slot
  (∀ (k : Fin 32) (s : State), s.slotSt k = 2 → s.modelWatch k = false → (s.loopX k).exceeded = true → ∃ t, exec
    (.loopFollow k) s = .next t ∧ t.slotSt k = 3 ∧ t.bit (.LPS_FLAG k) 0 = true ∧ t.latched (188 + k) = true) ∧
  -- MWCNT samples beyond the model limit trip the slot
  (∀ (k : Fin 32) (s : State), s.modelWatch k = true → max 1 (getF (s.loopX k).act.mwatch Fld.LPS_MWATCH_CNT) ≤ s.fld
    (.LPS_STAT k) Fld.LPS_STAT_MWCNT → ∃ t, exec (.loopModel k) s = .next t ∧ t.slotSt k = 3 ∧ t.bit (.LPS_FLAG k) 1 =
    true ∧ t.latched (188 + k) = true)

/-- Writes of slot registers and coefficients. Rests on 04_loop_engines.md R101, R103, R117; 06_survey_adc.md R164. -/
def Obligations.LoopWrites : Prop :=
  -- LPS_CFG of a slot that is not closed and passes its checks is stored, with PRATE and the state that follow
  (∀ (i : Iface) (v : Word) (k : Fin 32) (s : State), s.takes (.LPS_CFG k) = true → s.slotSt k ≠ 2 → getF v
    Fld.LPS_CFG_KIND ≤ 5 → cfgFields v = true → (s.writeRw (.LPS_CFG k) v).placeOk (slotEngine k) = true → (s.writeRw
    (.LPS_CFG k) v).destsApart = true → (s.writeRw (.LPS_CFG k) v).tapsOk = true → ((s.writeRw (.LPS_CFG k)
    v).slotUsed k = false ∨ (s.writeRw (.LPS_CFG k) v).destOk k = true) → ∃ t, exec (.lpsCfgWrite i k v 0xF#4) s =
    .next t ∧ t.rd (.LPS_CFG k) = (s.rd (.LPS_CFG k) &&& ~~~ Reg.rw (.LPS_CFG k)) ||| (v &&& Reg.rw (.LPS_CFG k)) ∧
    t.prate k = t.cfgRate k ∧ t.slotSt k = (if t.slotUsed k then (if s.slotSt k = 0 then 1 else s.slotSt k) else 0)) ∧
  -- LPS_CFG of a closed slot is refused with a flag
  (∀ (i : Iface) (v : Word) (k : Fin 32) (s : State), s.slotSt k = 2 → s.takes (.LPS_CFG k) = true → ∃ t, exec
    (.lpsCfgWrite i k v 0xF#4) s = .next t ∧ t.bit (.LPS_FLAG k) 7 = true ∧ t.rd (.LPS_CFG k) = s.rd (.LPS_CFG k) ∧
    t.lp = s.lp) ∧
  -- LPS_OUT of a closed slot is refused with a flag
  (∀ (i : Iface) (v : Word) (k : Fin 32) (s : State), s.slotSt k = 2 → s.takes (.LPS_OUT k) = true → ∃ t, exec
    (.lpsOutWrite i k v 0xF#4) s = .next t ∧ t.bit (.LPS_FLAG k) 7 = true ∧ t.rd (.LPS_OUT k) = s.rd (.LPS_OUT k) ∧
    t.lp = s.lp) ∧
  -- LPS_IN of a closed slot is refused with a flag
  (∀ (i : Iface) (v : Word) (k : Fin 32) (s : State), s.slotSt k = 2 → s.takes (.LPS_IN k) = true → ∃ t, exec
    (.lpsInWrite i k v 0xF#4) s = .next t ∧ t.bit (.LPS_FLAG k) 7 = true ∧ t.rd (.LPS_IN k) = s.rd (.LPS_IN k) ∧ t.lp
    = s.lp) ∧
  -- LPS_REF of a closed slot is refused with a flag
  (∀ (i : Iface) (v : Word) (k : Fin 32) (s : State), s.slotSt k = 2 → s.takes (.LPS_REF k) = true → ∃ t, exec
    (.loopParamWrite i .ref k v 0xF#4) s = .next t ∧ t.bit (.LPS_FLAG k) 7 = true ∧ t.rd (.LPS_REF k) = s.rd (.LPS_REF
    k) ∧ t.lp = s.lp) ∧
  -- LPS_MODEL of a closed slot is refused with a flag
  (∀ (i : Iface) (v : Word) (k : Fin 32) (s : State), s.slotSt k = 2 → s.takes (.LPS_MODEL k) = true → ∃ t, exec
    (.loopParamWrite i .model k v 0xF#4) s = .next t ∧ t.bit (.LPS_FLAG k) 7 = true ∧ t.rd (.LPS_MODEL k) = s.rd
    (.LPS_MODEL k) ∧ t.lp = s.lp) ∧
  -- LPS_OUT with a permitted destination is stored
  (∀ (i : Iface) (v : Word) (k : Fin 32) (s : State), s.takes (.LPS_OUT k) = true → s.slotSt k ≠ 2 → getF v
    Fld.LPS_OUT_DEST ≤ 5 → (s.writeRw (.LPS_OUT k) v).destOk k = true → (s.writeRw (.LPS_OUT k) v).destsApart = true →
    ∃ t, exec (.lpsOutWrite i k v 0xF#4) s = .next t ∧ t.rd (.LPS_OUT k) = (s.rd (.LPS_OUT k) &&& ~~~ Reg.rw (.LPS_OUT
    k)) ||| (v &&& Reg.rw (.LPS_OUT k))) ∧
  -- LPS_IN with a permitted tap is stored
  (∀ (i : Iface) (v : Word) (k : Fin 32) (s : State), s.takes (.LPS_IN k) = true → s.slotSt k ≠ 2 → getF v
    Fld.LPS_IN_REFSRC ≤ 1 → (s.writeRw (.LPS_IN k) v).tapsOk = true → exec (.lpsInWrite i k v 0xF#4) s = .next
    (s.writeRw (.LPS_IN k) v)) ∧
  -- LPS_IN with a tap no converter can give is refused with SVY_FLAG.TAPREJ
  (∀ (i : Iface) (v : Word) (k : Fin 32) (s : State), s.takes (.LPS_IN k) = true → s.slotSt k ≠ 2 → getF v
    Fld.LPS_IN_REFSRC ≤ 1 → (s.writeRw (.LPS_IN k) v).tapsOk = false → ∃ t, exec (.lpsInWrite i k v 0xF#4) s = .next t
    ∧ t.rd (.LPS_IN k) = s.rd (.LPS_IN k) ∧ t.bit .SVY_FLAG 1 = true) ∧
  -- LPS_REF and LPS_MODEL of a slot that is not closed are stored
  (∀ (p : LoopParam) (r : Reg) (i : Iface) (v : Word) (k : Fin 32) (s : State), (p, r) ∈ [(LoopParam.ref, Reg.LPS_REF
    k), (.model, .LPS_MODEL k)] → s.takes r = true → s.slotSt k ≠ 2 → exec (.loopParamWrite i p k v 0xF#4) s = .next
    (s.writeRw r v)) ∧
  -- a coefficient no closed slot covers is stored
  (∀ (i : Iface) (e : Fin 8) (j : Fin 12) (c : Fin 5) (v : Word) (s : State), s.takes (.COF e j c) = true → (∀ k ∈
    s.coveringSlots e j, s.slotSt k ≠ 2) → exec (.coefWrite i e j c v 0xF#4) s = .next (s.wr (.COF e j c) v)) ∧
  -- a coefficient the first covering slot of which is closed is refused with a flag
  (∀ (i : Iface) (e : Fin 8) (j : Fin 12) (c : Fin 5) (v : Word) (k : Nat) (s : State), s.takes (.COF e j c) = true →
    (s.coveringSlots e j).head? = some k → s.slotSt k = 2 → ∃ t, exec (.coefWrite i e j c v 0xF#4) s = .next t ∧ t.rd
    (.COF e j c) = s.rd (.COF e j c) ∧ t.bit (.LPS_FLAG k) 7 = true)

/-- Requests to one rail and its states. A delay of zero is a state of the model too (log 47). A refusal of a grouped
rail in OFF and the slope of the off-ramp are DEDUCED (logs 173 and 168). Rests on 05_timetable.md R129, R130, R132,
R134, R136, R153. -/
def Obligations.RailRequests : Prop :=
  -- an on request to a released, ungrouped rail in OFF goes to ON_DELAY, arms OV and clears its shed bit
  (∀ (i : Iface) (n : Fin 20) (s : State), s.takes (.RAIL_CTL n) = true → s.tp.released = true → s.railGroup n = none
    → s.railRefused n = false → s.railSt n = 0 → s.bit (.SUP_STATUS n) 1 = false → ∃ t, exec (.railOnRequest i n) s =
    .next t ∧ t.railSt n = 1 ∧ t.fld (.SUP_STATUS n) Fld.SUP_STATUS_OVARM = 1 ∧ t.bit .POL_RIDESHED n = false) ∧
  -- a refused on request changes no state and sets the flag
  (∀ (i : Iface) (n : Fin 20) (s : State), s.takes (.RAIL_CTL n) = true → (s.tp.released = false ∨ (s.railGroup
    n).isSome = true ∨ s.railRefused n = true) → ∃ t, exec (.railOnRequest i n) s = .next t ∧ t.rd (.RAIL_STATUS n) =
    s.rd (.RAIL_STATUS n) ∧ t.bit (.RAIL_FLAG n) 5 = true) ∧
  -- an off request to an ungrouped rail in ON goes to OFF_DELAY with PG and the UV arming down
  (∀ (i : Iface) (n : Fin 20) (s : State), s.takes (.RAIL_CTL n) = true → s.railGroup n = none → s.railSt n = 4 →
    s.fastOff = false → s.sw.regang = none → ∃ t, exec (.railOffRequest i n) s = .next t ∧ t.railSt n = 5 ∧ t.fld
    (.RAIL_STATUS n) Fld.RAIL_STATUS_PG = 0 ∧ t.fld (.SUP_STATUS n) Fld.SUP_STATUS_UVARM = 0) ∧
  -- an off request to a grouped rail is refused with the flag
  (∀ (i : Iface) (n : Fin 20) (s : State), s.takes (.RAIL_CTL n) = true → (s.railGroup n).isSome = true → ∃ t, exec
    (.railOffRequest i n) s = .next t ∧ t.rd (.RAIL_STATUS n) = s.rd (.RAIL_STATUS n) ∧ t.bit (.RAIL_FLAG n) 5 = true) ∧
  -- at the end of ON_DELAY a rail with startable stages is in START
  (∀ (n : Fin 20) (s : State), s.railSt n = 1 → n.val < 16 → s.startable n ≠ [] → ∃ t, exec (.onDelayEnd n ()) s = .next
    t ∧ t.railSt n = 2) ∧
  -- an LDO rail ramps from the sensed voltage to VSET
  (∀ (n : Fin 20) (s : State), s.railSt n = 1 → 16 ≤ n.val → s.sensed n = true → ∃ t, exec (.onDelayEnd n ()) s = .next t
    ∧ t.railSt n = 3 ∧ t.fld (.RAIL_STATUS n) Fld.RAIL_STATUS_SETP = min (s.railMv n) (s.fld (.RAIL_VSET n)
    Fld.RAIL_VSET_VSET) ∧ (t.tt.ramps.lookup n.val).map (·.target) = some (s.fld (.RAIL_VSET n) Fld.RAIL_VSET_VSET)) ∧
  -- at the end of OFF_DELAY the rail ramps to 0
  (∀ (n : Fin 20) (s : State), s.railSt n = 5 → ∃ t, exec (.offDelayEnd n) s = .next t ∧ t.railSt n = 6 ∧
    (t.tt.ramps.lookup n.val).map (·.target) = some 0) ∧
  -- at its setpoint the rail is ON, or in DISCHARGE, and the ramp has ended
  (∀ (r : Ramp) (n : Fin 20) (s : State), s.tt.ramps.lookup n.val = some r → ∃ t, exec (.setpointReached n) s = .next
    t ∧ t.railSt n = (if s.railSt n = 3 then 4 else if s.railSt n = 6 then 7 else s.railSt n) ∧ t.fld (.RAIL_STATUS n)
    Fld.RAIL_STATUS_SETP = r.target % 65536 ∧ t.tt.ramps.lookup n.val = none) ∧
  -- a discharged rail is OFF with its arming down
  (∀ (n : Fin 20) (s : State), s.railSt n = 7 → s.fld (.RAIL_STATUS n) Fld.RAIL_STATUS_PEND = 0 → s.discharged n =
    true → ∃ t, exec (.dischargeDone n) s = .next t ∧ t.railSt n = 0 ∧ t.fld (.RAIL_STATUS n) Fld.RAIL_STATUS_SETP = 0
    ∧ t.fld (.SUP_STATUS n) Fld.SUP_STATUS_OVARM = 0) ∧
  -- a discharge that times out is flagged, latched, and ends in OFF or LATCHED
  (∀ (n : Fin 20) (s : State), s.railSt n = 7 → s.fld (.RAIL_STATUS n) Fld.RAIL_STATUS_PEND = 0 → ∃ t, exec
    (.dischargeTimeout n ()) s = .next t ∧ (t.railSt n = 0 ∨ t.railSt n = 8) ∧ t.bit (.RAIL_FLAG n) 3 = true ∧ t.latched
    (116 + n) = true) ∧
  -- a start that never reaches PG is flagged, latched, and the rail goes down
  (∀ (n : Fin 20) (s : State), s.railSt n = 4 → n.val ∉ s.tt.pgSince → ∃ t, exec (.startTimeout n) s = .next t ∧ t.bit
    (.RAIL_FLAG n) 4 = true ∧ t.latched (96 + n) = true ∧ (t.railSt n = 6 ∨ t.railSt n = 8)) ∧
  -- PG rises on a rail in ON without a crossing and arms UV
  (∀ (n : Fin 20) (s : State), s.railSt n = 4 → s.fld (.RAIL_STATUS n) Fld.RAIL_STATUS_PG = 0 → s.fld (.SUP_STATUS n)
    Fld.SUP_STATUS_UV = 0 → s.fld (.SUP_STATUS n) Fld.SUP_STATUS_OV = 0 → n.val ∉ s.tt.pgSince → ∃ t, exec (.pgAssert
    n) s = .next t ∧ t.railSt n = 4 ∧ t.fld (.RAIL_STATUS n) Fld.RAIL_STATUS_PG = 1 ∧ t.fld (.SUP_STATUS n)
    Fld.SUP_STATUS_UVARM = 1 ∧ n.val ∈ t.tt.pgSince) ∧
  -- VSET is stored, out of range of an LDO ignored, and a rail in ON ramps to it
  (∀ (i : Iface) (v : Word) (n : Fin 20) (s : State), s.takes (.RAIL_VSET n) = true → ∃ t, exec (.vsetWrite i n v
    0xF#4) s = .next t ∧ (if 16 ≤ n.val ∧ (getF v Fld.RAIL_VSET_VSET < 600 ∨ 5000 < getF v Fld.RAIL_VSET_VSET) then t
    = s else t.fld (.RAIL_VSET n) Fld.RAIL_VSET_VSET = getF v Fld.RAIL_VSET_VSET ∧ (s.railSt n = 4 →
    (t.tt.ramps.lookup n.val).map (·.target) = some (getF v Fld.RAIL_VSET_VSET))))

/-- Sequence groups. A group waits in the hold of its present step (log 48). A step of unowned rail and group is
DEDUCED (log 174). Rests on 05_timetable.md R138, R139, R140, R141. -/
def Obligations.Groups : Prop :=
  -- an on request to a group in OFF whose first step is a delay makes it RISING at step 0
  (∀ (i : Iface) (g : Fin 8) (s : State), s.takes (.TTB_G_CTL g) = true → s.tp.reload = none → s.tp.released = true →
    s.fld (.TTB_G_STATUS g) Fld.TTB_G_STATUS_CLASSB = 0 → s.tt.bout.inForce = false → s.shipPend = false → s.groupSt g
    = 0 → s.stepOp g 0 = 2 → ∃ t, exec (.groupOnRequest i g) s = .next t ∧ t.groupSt g = 1 ∧ t.fld (.TTB_G_STATUS g)
    Fld.TTB_G_STATUS_STEP = 0 ∧ t.fld (.TTB_G_STATUS g) Fld.TTB_G_STATUS_DIR = 0) ∧
  -- an unreleased part, CLASSB, a brown-out or a pending SHIP refuse it with a flag
  (∀ (i : Iface) (g : Fin 8) (s : State), s.takes (.TTB_G_CTL g) = true → s.tp.reload = none → (s.tp.released = false
    ∨ s.fld (.TTB_G_STATUS g) Fld.TTB_G_STATUS_CLASSB = 1 ∨ s.tt.bout.inForce = true ∨ s.shipPend = true) → ∃ t, exec
    (.groupOnRequest i g) s = .next t ∧ t.bit (.TTB_G_FLAG g) 2 = true ∧ t.rd (.TTB_G_STATUS g) = s.rd (.TTB_G_STATUS
    g)) ∧
  -- a request during a reload of the group's domain is held, and HELD shows it
  (∀ (i : Iface) (b : Bool) (r : Reload) (g : Fin 8) (s : State), s.accepts = true → s.loader = false → s.powered .seq
    = true → s.tp.reload = some r → s.groupDom g = some r.dom → s.tplPhase ≠ 7 → s.tplPhase ≠ 8 → (b = false ∨
    s.tp.released = true ∧ s.shipPend = false ∧ s.tt.bout.inForce = false) → ∃ t, exec (if b then .groupOnRequest i g
    else .groupOffRequest i g) s = .next t ∧ t.tp.held = s.tp.held ++ [{ dom := r.dom, grp := g, on := b }] ∧ t.fld
    (.TTB_G_STATUS g) Fld.TTB_G_STATUS_HELD = 1 ∧ t.groupSt g = s.groupSt g) ∧
  -- an off request to a group in UP whose last step is a delay makes it FALLING at that step
  (∀ (i : Iface) (g : Fin 8) (s : State), s.takes (.TTB_G_CTL g) = true → s.tp.reload = none → s.groupSt g = 2 →
    s.seqLen g ≠ 0 → s.stepOp g (s.seqLen g - 1) = 2 → ∃ t, exec (.groupOffRequest i g) s = .next t ∧ t.groupSt g = 3
    ∧ t.fld (.TTB_G_STATUS g) Fld.TTB_G_STATUS_STEP = s.seqLen g - 1 ∧ t.fld (.TTB_G_STATUS g) Fld.TTB_G_STATUS_DIR =
    1) ∧
  -- the end of the last hold is UP
  (∀ (g : Fin 8) (s : State), s.groupSt g = 1 → s.holdDone g = true → s.seqLen g ≤ s.fld (.TTB_G_STATUS g)
    Fld.TTB_G_STATUS_STEP + 1 → s.fld (.TTB_G_STATUS g) Fld.TTB_G_STATUS_STEP < 63 → ∃ t, exec (.stepHoldEnd g) s =
    .next t ∧ t.groupSt g = 2 ∧ t.fld (.TTB_G_STATUS g) Fld.TTB_G_STATUS_STEP = s.fld (.TTB_G_STATUS g)
    Fld.TTB_G_STATUS_STEP + 1) ∧
  -- the end of the hold of step 0 in FALLING is OFF with its marks cleared
  (∀ (g : Fin 8) (s : State), s.groupSt g = 3 → s.holdDone g = true → s.fld (.TTB_G_STATUS g) Fld.TTB_G_STATUS_STEP =
    0 → ∃ t, exec (.stepHoldEnd g) s = .next t ∧ t.groupSt g = 0 ∧ t.fld (.TTB_G_STATUS g) Fld.TTB_G_STATUS_DEGRADED =
    0 ∧ t.fld (.TTB_G_STATUS g) Fld.TTB_G_STATUS_BOUT = 0) ∧
  -- a permitted step word of a group in OFF is stored; while a trackplan runs, a reset output that no step names is
  -- marked
  (∀ (i : Iface) (g : Fin 8) (j : Fin 64) (v : Word) (s : State), s.takes (.TTB_STEP g j) = true → s.groupSt g = 0 →
    stepOk v = true → (s.wr (.TTB_STEP g j) v).seqRules = true → exec (.stepWrite i g j v 0xF#4) s = .next (if
    s.tp.released = true then (s.wr (.TTB_STEP g j) v).markUnnamed else s.wr (.TTB_STEP g j) v)) ∧
  -- another is refused with the flag
  (∀ (i : Iface) (g : Fin 8) (j : Fin 64) (v : Word) (s : State), s.takes (.TTB_STEP g j) = true → (s.groupSt g ≠ 0 ∨
    stepOk v = false ∨ (s.wr (.TTB_STEP g j) v).seqRules = false) → ∃ t, exec (.stepWrite i g j v 0xF#4) s = .next t ∧
    t.rd (.TTB_STEP g j) = s.rd (.TTB_STEP g j) ∧ t.bit (.TTB_G_FLAG g) 3 = true)

/-- Brown-out, supervisors and reset outputs. That the live bit follows the crossing itself is DEDUCED (log 51). Rests
on 05_timetable.md R147, R149, R151, R152, R155, R157. -/
def Obligations.BrownOut : Prop :=
  -- an episode begins, is counted and records VIN
  (∀ (s : State), s.tt.bout.inForce = false → ∃ t, exec (.boutStart ()) s = .next t ∧ t.tt.bout.inForce = true ∧
    t.tt.bout.minVin = s.vinMv / 10 ∧ t.fld .TTB_BSTAT Fld.TTB_BSTAT_EPIS = min 65535 (s.fld .TTB_BSTAT
    Fld.TTB_BSTAT_EPIS + 1) ∧ (t.bit .TTB_BSTAT 0 = true ∨ t.bit .TTB_BSTAT 1 = true)) ∧
  -- the end of the minimum off time restarts when VIN is qualified and no rail is awaited
  (∀ (s : State), s.fld .TTB_BSTAT Fld.TTB_BSTAT_MINOFF = 1 → ∃ t, exec .minoffEnd s = .next t ∧ t.fld .TTB_BSTAT
    Fld.TTB_BSTAT_MINOFF = 0 ∧ (s.tt.bout.inForce = true ∧ s.bit .TTB_BSTAT 0 = false ∧ s.bit .TTB_BSTAT 2 = true →
    t.tt.bout.inForce = false)) ∧
  -- a qualified VIN restarts when nothing else is awaited
  (∀ (s : State), s.tt.bout.inForce = true → s.bit .TTB_BSTAT 0 = false → s.bit .TTB_BSTAT 1 = false → ∃ t, exec
    .vinQualified s = .next t ∧ t.fld .TTB_BSTAT Fld.TTB_BSTAT_QUAL = 1 ∧ t.tt.bout.inForce = false) ∧
  -- VIN below VON ends the qualification and records the lowest VIN
  (∀ (s : State), ∃ t, exec (.vinBelowVon ()) s = .next t ∧ t.fld .TTB_BSTAT Fld.TTB_BSTAT_QUAL = 0 ∧ (s.tt.bout.inForce =
    true → t.tt.bout.minVin = min (s.vinMv / 10) s.tt.bout.minVin)) ∧
  -- TTB_BOUT takes thresholds in their ranges and ignores others
  (∀ (i : Iface) (v : Word) (s : State), s.takes .TTB_BOUT = true → exec (.ttbBoutWrite i v 0xF#4) s = .next (if 60 ≤
    getF v Fld.TTB_BOUT_VOFF ∧ getF v Fld.TTB_BOUT_VOFF + 3 ≤ getF v Fld.TTB_BOUT_VON then s.writeRw .TTB_BOUT v else
    s)) ∧
  -- an armed OV crossing is flagged, latched and takes PG down
  (∀ (n : Fin 20) (s : State), s.fld (.SUP_STATUS n) Fld.SUP_STATUS_OVARM = 1 → s.compOut n true = true → ∃ t, exec
    (.ovCrossing n) s = .next t ∧ t.fld (.SUP_STATUS n) Fld.SUP_STATUS_OV = 1 ∧ t.bit (.SUP_FLAG n) 1 = true ∧ t.fld
    (.RAIL_STATUS n) Fld.RAIL_STATUS_PG = 0 ∧ t.latched (56 + n) = true) ∧
  -- an armed UV crossing is flagged, latched and takes PG down
  (∀ (n : Fin 20) (s : State), s.fld (.SUP_STATUS n) Fld.SUP_STATUS_UVARM = 1 → s.compOut (0x20 + n) true = true → ∃
    t, exec (.uvCrossing n) s = .next t ∧ t.fld (.SUP_STATUS n) Fld.SUP_STATUS_UV = 1 ∧ t.bit (.SUP_FLAG n) 0 = true ∧
    t.fld (.RAIL_STATUS n) Fld.RAIL_STATUS_PG = 0 ∧ t.latched (76 + n) = true) ∧
  -- an unarmed OV crossing latches nothing
  (∀ (n : Fin 20) (s : State), s.fld (.SUP_STATUS n) Fld.SUP_STATUS_OVARM = 0 → s.compOut n true = true → ∃ t, exec
    (.ovCrossing n) s = .next t ∧ t.fld (.SUP_STATUS n) Fld.SUP_STATUS_OV = 1 ∧ t.fld (.RAIL_STATUS n)
    Fld.RAIL_STATUS_PG = 0 ∧ t.latched (56 + n) = s.latched (56 + n)) ∧
  -- the end of a crossing clears its status and its live bit
  (∀ (b : Bool) (n : Fin 20) (s : State), s.compOut (if b then n.val else 0x20 + n.val) false = false → ∃ t, exec
    (.crossingEnd n b) s = .next t ∧ (if b then t.fld (.SUP_STATUS n) Fld.SUP_STATUS_OV = 0 ∧ t.bit (.FLT_LIVE ((56 +
    n) / 32)) ((56 + n) % 32) = false else t.fld (.SUP_STATUS n) Fld.SUP_STATUS_UV = 0 ∧ t.bit (.FLT_LIVE ((76 + n) /
    32)) ((76 + n) % 32) = false)) ∧
  -- a reset output is released when every rail of its mask has PG
  (∀ (x : Fin 4) (s : State), s.tp.released = true → s.bit .TTB_RSTSTAT (4 + x) = true → s.fld (.TTB_RST_CFG x)
    Fld.TTB_RST_CFG_MASK ≠ 0 → (∀ n ∈ List.range 20, (s.fld (.TTB_RST_CFG x) Fld.TTB_RST_CFG_MASK).testBit n = true →
    s.fld (.RAIL_STATUS n) Fld.RAIL_STATUS_PG = 1) → exec (.resetRelease x) s = .next (s.putBit .TTB_RSTSTAT x false))

/-- The converters. What EN = 1 over 1 does and the moment a trigger stores are DEDUCED (logs 179 and 73). Rests on
06_survey_adc.md R162, R169, R172, R173, R174, R176, R177. -/
def Obligations.ConverterSurvey : Prop :=
  -- a result of a present channel goes to its tap with age 0
  (∀ (r : ConvResult) (x : Fin 3) (s : State), s.powered .adc = true → chanUsed x r.ch = true → ∃ t, exec
    (.conversionResult x r) s = .next t ∧ t.fld (.SVY_CV_TAP x r.ch) Fld.SVY_CV_TAP_CODE = r.code.toNat ∧ t.fld
    (.SVY_CV_TAP x r.ch) Fld.SVY_CV_TAP_AGE = 0) ∧
  -- a result of the software scan also goes to the data register with NEW
  (∀ (r : ConvResult) (x : Fin 3) (s : State), s.powered .adc = true → chanUsed x r.ch = true → r.scan = true →
    (s.conv x).left.head? = some r.ch.val → (s.conv x).scan < 256 → s.fld (.SVY_CV_DMA_CFG x) Fld.SVY_CV_DMA_CFG_EN =
    0 → ∃ t, exec (.conversionResult x r) s = .next t ∧ t.fld (.SVY_CV_DATA x) Fld.SVY_CV_DATA_CODE = r.code.toNat ∧
    t.fld (.SVY_CV_DATA x) Fld.SVY_CV_DATA_CH = r.ch ∧ t.fld (.SVY_CV_DATA x) Fld.SVY_CV_DATA_NEW = 1 ∧ t.fld
    (.SVY_CV_DATA x) Fld.SVY_CV_DATA_SCAN = (s.conv x).scan ∧ (t.conv x).left = (s.conv x).left.tail) ∧
  -- a continuous scan starts over its mask and is numbered
  (∀ (x : Fin 3) (s : State), s.powered .adc = true → s.scanIdle x = true → s.cvMode x = 1 → s.cvMask x ≠ [] → ∃ t,
    exec (.scanStart x) s = .next t ∧ (t.conv x).left = s.cvMask x ∧ (t.conv x).first = true ∧ (t.conv x).scan =
    ((s.conv x).scan + 1) % 256) ∧
  -- START in MODE 0b10 starts one scan
  (∀ (i : Iface) (x : Fin 3) (s : State), s.takes (.SVY_CV_CTL x) = true → s.scanIdle x = true → s.cvMode x = 2 →
    s.cvMask x ≠ [] → ∃ t, exec (.start i x) s = .next t ∧ (t.conv x).left = s.cvMask x ∧ (t.conv x).first = true ∧
    t.rd (.SVY_CV_CTL x) = s.rd (.SVY_CV_CTL x)) ∧
  -- a read of the data register clears NEW and OVR
  (∀ (i : Iface) (x : Fin 3) (s : State), s.served = true → s.loader = false → s.powered .adc = true → ∃ t, exec
    (.dataRead i x) s = .next t ∧ t.rdata.get i 0#32 = s.rd (.SVY_CV_DATA x) ∧ t.rd (.SVY_CV_DATA x) = s.rd
    (.SVY_CV_DATA x) &&& 0x3FFFFFFF#32) ∧
  -- a legal ring is enabled at its read pointer with its count cleared
  (∀ (i : Iface) (v : Word) (x : Fin 3) (s : State), s.takes (.SVY_CV_DMA_CFG x) = true → wbit v 31 = true → s.ringOk
    x (getF v Fld.SVY_CV_DMA_CFG_LEN) = true → s.fld (.SVY_CV_DMA_CFG x) Fld.SVY_CV_DMA_CFG_EN = 0 → ∃ t, exec
    (.dmaEnable i x v 0xF#4) s = .next t ∧ t.fld (.SVY_CV_DMA_CFG x) Fld.SVY_CV_DMA_CFG_EN = 1 ∧ t.fld
    (.SVY_CV_DMA_CFG x) Fld.SVY_CV_DMA_CFG_HALTED = 0 ∧ t.fld (.SVY_CV_DMA_CFG x) Fld.SVY_CV_DMA_CFG_LEN = getF v
    Fld.SVY_CV_DMA_CFG_LEN ∧ t.fld (.SVY_CV_DMA_PTR x) Fld.SVY_CV_DMA_PTR_WPTR = s.fld (.SVY_CV_DMA_PTR x)
    Fld.SVY_CV_DMA_PTR_RPTR ∧ t.fld (.SVY_CV_STAT x) Fld.SVY_CV_STAT_DROPCNT = 0) ∧
  -- an illegal ring is refused with a flag
  (∀ (i : Iface) (v : Word) (x : Fin 3) (s : State), s.takes (.SVY_CV_DMA_CFG x) = true → wbit v 31 = true → s.ringOk
    x (getF v Fld.SVY_CV_DMA_CFG_LEN) = false → ∃ t, exec (.dmaEnable i x v 0xF#4) s = .next t ∧ t.rd (.SVY_CV_DMA_CFG
    x) = s.rd (.SVY_CV_DMA_CFG x) ∧ t.bit (.SVY_CV_FLAG x) 1 = true) ∧
  -- a factor is stored in MODE 0 without calibration
  (∀ (i : Iface) (v : Word) (k : Fin 4) (b : Bool) (r : Reg) (x : Fin 3) (s : State), r = (if b then Reg.SVY_CV_SL_SK
    x k else Reg.SVY_CV_SL_OG x k) → s.takes r = true → s.cvMode x = 0 → s.calibrating x = false → exec
    (.sliceFactorWrite i x k b v 0xF#4) s = .next (s.writeRw r v)) ∧
  -- a factor is refused otherwise, with CALWR
  (∀ (i : Iface) (v : Word) (k : Fin 4) (b : Bool) (r : Reg) (x : Fin 3) (s : State), r = (if b then Reg.SVY_CV_SL_SK
    x k else Reg.SVY_CV_SL_OG x k) → s.takes r = true → (s.cvMode x ≠ 0 ∨ s.calibrating x = true) → ∃ t, exec
    (.sliceFactorWrite i x k b v 0xF#4) s = .next t ∧ t.rd r = s.rd r ∧ t.bit .SVY_FLAG 0 = true) ∧
  -- FIRE starts the scan of a converter that takes the common trigger and stores the sampling instant
  (∀ (i : Iface) (x : Fin 3) (l : List Nat) (s : State), l = ((List.range 3).filter fun y => s.cvMode y == 3 &&
    !s.calibrating y && !(s.cvMask y).isEmpty && (s.conv y).left.isEmpty) → s.takes .SVY_TRIG = true → s.fld .SVY_TRIG
    Fld.SVY_TRIG_SRC = 2 → s.cvMode x = 3 → s.calibrating x = false → s.cvMask x ≠ [] → (s.conv x).left = [] → ∃ t,
    exec (.fire i) s = .next t ∧ (t.conv x).left = s.cvMask x ∧ t.rd .SVY_TSTAMP_LO = timeLo (s.stampIn
    (s.triggerDelay l)).time ∧ t.rd .SVY_TSTAMP_HI = timeHi (s.stampIn (s.triggerDelay l)).time) ∧
  -- a grid trigger does the same
  (∀ (x : Fin 3) (l : List Nat) (s : State), l = ((List.range 3).filter fun y => s.cvMode y == 3 && !s.calibrating y
    && !(s.cvMask y).isEmpty && (s.conv y).left.isEmpty) → s.powered .adc = true → s.fld .SVY_TRIG Fld.SVY_TRIG_SRC =
    1 → s.fld .SVY_TRIG Fld.SVY_TRIG_PERIOD ≠ 0 → s.cvMode x = 3 → s.calibrating x = false → s.cvMask x ≠ [] → (s.conv
    x).left = [] → ∃ t, exec .commonTrigger s = .next t ∧ (t.conv x).left = s.cvMask x ∧ t.rd .SVY_TSTAMP_LO = timeLo
    (s.stampIn (s.triggerDelay l)).time ∧ t.rd .SVY_TSTAMP_HI = timeHi (s.stampIn (s.triggerDelay l)).time) ∧
  -- SURVEY_CAL begins with the lowest converter named
  (∀ (k y : Nat) (l : List Nat) (s : State), s.runningSlot 2 = some k → (s.slot k).op = 0x81 → s.powered .adc = true →
    s.sv.cal = none → (([0, 1, 2].filter fun x => (s.slot k).p0.getLsbD x) = y :: l) → ∃ t, exec (.surveyCal .advance)
    s = .next t ∧ t.calibrating y = true ∧ t.sv.cal.map (·.slot) = some k ∧ (t.conv y).left = []) ∧
  -- new factors are installed and CALDONE is set
  (∀ (c : CalRun) (w : List Word) (x : Fin 3) (s : State), s.sv.cal = some c → c.todo.head? = some x.val → x.val ∉
    c.todo.tail → ∃ t, exec (.converterCalDone x { factors := some w }) s = .next t ∧ t.calibrating x = false ∧ t.bit
    .SVY_STATUS x = true ∧ ∀ k ∈ List.range 4, t.rd (.SVY_CV_SL_OG x k) = w.getD (2 * k) 0#32) ∧
  -- the last converter completes the command with its mask
  (∀ (c : CalRun) (k : Nat) (w : List Word) (x : Fin 3) (s : State), s.sv.cal = some c → c.todo = [x.val] → c.slot = k
    → ∃ t, exec (.converterCalDone x { factors := some w }) s = .next t ∧ t.ended k 0 ∧ (t.slot k).detail = c.done + 2
    ^ x.val ∧ t.sv.cal = none)

/-- The backup path. Whether the path had settled is an operand (log 81). Rests on 07_backup_path.md R185, R186, R187,
R188, R190, R191, R192, R193, R194. -/
def Obligations.BackupPath : Prop :=
  -- a loss of the source begins a hand-over, stops the charger, counts and flags it
  (∀ (a b : Bool) (s : State), (s.path = 1 ∨ s.path = 5) → (a || s.compOut 0x80 true) = true → ∃ t, exec (.sourceLoss
    a b) s = .next t ∧ t.path = 2 ∧ t.chgSt = 0 ∧ t.fld .BKP_COUNT Fld.BKP_COUNT_HOCNT = min 65535 (s.fld .BKP_COUNT
    Fld.BKP_COUNT_HOCNT + 1) ∧ t.bit .BKP_FLAG 0 = true ∧ t.fld .BKP_STATUS Fld.BKP_STATUS_SRCOK = b2n (s.compOut 0x81
    a)) ∧
  -- the hand-over ends in BATTERY, or in QUALIFY when the comparator shows the source back
  (∀ (a : Bool) (s : State), s.path = 2 → s.powered .chg = true → ∃ t, exec (.handoverComplete a) s = .next t ∧ t.path
    = (if s.compOut 0x81 a = true then 4 else 3) ∧ t.fld .BKP_STATUS Fld.BKP_STATUS_SRCOK = b2n (s.compOut 0x81 a)) ∧
  -- a hand-over that takes too long latches source 229 with cause 0
  (∀ (s : State), s.path = 2 → ∃ t, exec .handoverTimeout s = .next t ∧ t.latched 229 = true ∧ (s.latched 229 = false
    → t.fltCause 229 = 0) ∧ t.path = 2) ∧
  -- a sag in BATTERY latches source 229 with cause 1
  (∀ (s : State), s.path = 3 → ∃ t, exec .sysSag s = .next t ∧ t.latched 229 = true ∧ (s.latched 229 = false →
    t.fltCause 229 = 1) ∧ t.path = 3) ∧
  -- a returning source is qualified
  (∀ (s : State), s.path = 3 → s.compOut 0x81 true = true → ∃ t, exec .sourceReturn s = .next t ∧ t.path = 4 ∧ t.fld
    .BKP_STATUS Fld.BKP_STATUS_SRCOK = 1) ∧
  -- a source that fails its qualification is rejected and counted
  (∀ (s : State), s.path = 4 → s.compOut 0x81 false = false → ∃ t, exec .pathRetrej s = .next t ∧ t.path = 3 ∧ t.fld
    .BKP_STATUS Fld.BKP_STATUS_SRCOK = 0 ∧ t.fld .BKP_COUNT Fld.BKP_COUNT_REJCNT = min 65535 (s.fld .BKP_COUNT
    Fld.BKP_COUNT_REJCNT + 1) ∧ t.bit .BKP_FLAG 7 = true) ∧
  -- a qualified source is handed back to
  (∀ (s : State), s.path = 4 → ∃ t, exec .handbackStart s = .next t ∧ t.path = 5) ∧
  -- the end of the hand-back is SOURCE, and an idle enabled charger starts to check
  (∀ (s : State), s.path = 5 → ∃ t, exec .pathHandback s = .next t ∧ t.path = 1 ∧ (s.chgSt = 0 ∧ s.bit .BKP_CHG 31 =
    true ∧ s.packThere = true → t.chgSt = 1)) ∧
  -- a hand-back that fails is rejected, counted and flagged
  (∀ (s : State), s.path = 5 → ∃ t, exec .handbackTimeout s = .next t ∧ t.path = (if s.bit .BKP_STATUS 7 then 4 else
    3) ∧ t.fld .BKP_COUNT Fld.BKP_COUNT_REJCNT = min 65535 (s.fld .BKP_COUNT Fld.BKP_COUNT_REJCNT + 1) ∧ t.bit
    .BKP_FLAG 7 = true ∧ t.bit .BKP_FLAG 8 = true) ∧
  -- the cut voltage sets CUT, its flag and its live fault
  (∀ (s : State), (s.path = 3 ∨ s.path = 4) → s.fld .BKP_BATCFG Fld.BKP_BATCFG_NCELL ≠ 0 → s.fld .BKP_STATUS
    Fld.BKP_STATUS_CUT = 0 → ∃ t, exec .batCut s = .next t ∧ t.fld .BKP_STATUS Fld.BKP_STATUS_CUT = 1 ∧ t.bit
    .BKP_FLAG 4 = true ∧ t.latched 230 = true ∧ t.bit (.FLT_LIVE 7) 6 = true) ∧
  -- a SHIP request is pending and drops pending rail requests
  (∀ (i : Iface) (s : State), s.takes .BKP_SHIP = true → ∃ t, exec (.shipRequest i) s = .next t ∧ t.fld .BKP_STATUS
    Fld.BKP_STATUS_SHIPPEND = 1 ∧ ∀ n ∈ List.range 20, t.fld (.RAIL_STATUS n) Fld.RAIL_STATUS_PEND = 0) ∧
  -- its cancel clears it
  (∀ (i : Iface) (s : State), s.takes .BKP_SHIP = true → ∃ t, exec (.shipCancel i) s = .next t ∧ t.fld .BKP_STATUS
    Fld.BKP_STATUS_SHIPPEND = 0 ∧ t.mem = s.mem) ∧
  -- the level of the button is shown
  (∀ (b : Bool) (s : State), ∃ t, exec (.buttonChange b) s = .next t ∧ t.pins.btnLow = b ∧ t.fld .BKP_BTN
    Fld.BKP_BTN_PRESSED = b2n b ∧ t.fld .BKP_BTN Fld.BKP_BTN_LPT = s.fld .BKP_BTN Fld.BKP_BTN_LPT) ∧
  -- with CUT and the rails down the part goes to DEPLETED
  (∀ (s : State), s.fld .BKP_STATUS Fld.BKP_STATUS_CUT = 1 → s.railsDown = true → (s.path = 3 ∨ s.path = 4) →
    s.wd.expired = false → ∃ t, exec .depletedEntry s = .next t ∧ t.pw.mode = .depleted ∧ t.path = 8 ∧ t.pw.on =
    [.aon] ∧ t.pw.start = none) ∧
  -- with SHIP pending and the rails down the part goes to SHIP
  (∀ (s : State), s.shipPend = true → s.railsDown = true → s.path = 3 → s.wd.expired = false → ∃ t, exec .shipEntry s
    = .next t ∧ t.pw.mode = .ship ∧ t.path = 7 ∧ t.pw.on = [.aon] ∧ t.pw.start = none ∧ t.shipPend = false) ∧
  -- the button wakes it from SHIP on the battery, or to QUALIFY where SRCOK is set
  (∀ (s : State), s.pw.mode = .ship → s.pins.btnLow = true → ∃ t, exec .shipWakeButton s = .next t ∧ t.pw.mode =
    .active ∧ t.path = (if s.bit .BKP_STATUS 7 then 4 else 3) ∧ t.pw.start = some .ship) ∧
  -- a source wakes it into the hand-back
  (∀ (s : State), (s.pw.mode = .ship ∨ s.pw.mode = .depleted) → ∃ t, exec .sourceWake s = .next t ∧ t.pw.mode =
    .active ∧ t.path = 5 ∧ t.fld .BKP_STATUS Fld.BKP_STATUS_SRCOK = b2n (s.compOut 0x81 true) ∧ t.pw.start = some (if
    s.pw.mode = .ship then .ship else .depleted)) ∧
  -- a long press opens the path, with gates off and only AON up
  (∀ (s : State), s.fld .BKP_BTN Fld.BKP_BTN_LPEN = 1 → s.pins.pressTimer = true → s.pw.mode ≠ .ship → s.pw.mode ≠
    .depleted → s.path ≠ 6 → ∃ t, exec .longPress s = .next t ∧ t.path = 6 ∧ t.pins.gatesOff = true ∧ t.pw.on = [.aon]
    ∧ t.chgSt = 0 ∧ t.shipPend = false) ∧
  -- 400 ms later a start of that cause is to run
  (∀ (s : State), s.path = 6 → ∃ t, exec .openEnd s = .next t ∧ t.path = (if s.bit .BKP_STATUS 7 then 4 else 3) ∧
    t.pw.start = some (.longPress true))

/-- The charger. What follows a pack that is back is DEDUCED (log 75). Rests on 07_backup_path.md R196, R197, R198,
R201, R204. -/
def Obligations.Charger : Prop :=
  -- the end of CHECK goes to PRE, DONE or CC by the voltage
  (∀ (v : Nat) (s : State), s.chargerWorks = true → s.chgSt = 1 → ∃ t, exec (.checkEnd v) s = .next t ∧ t.chgSt = (if
    v < s.fld .BKP_BATCFG Fld.BKP_BATCFG_NCELL * (2000 + 10 * s.fld .BKP_CHGLIM Fld.BKP_CHGLIM_VPRE) then 2 else if
    s.cvTarget ≤ v + s.fld .BKP_BATCFG Fld.BKP_BATCFG_NCELL * (10 * s.fld .BKP_CHGLIM Fld.BKP_CHGLIM_VRECH) then 5
    else 3)) ∧
  -- PRE ends in CC
  (∀ (s : State), s.chargerWorks = true → s.chgSt = 2 → ∃ t, exec .prechargeEnd s = .next t ∧ t.chgSt = 3) ∧
  -- CC ends in CV
  (∀ (s : State), s.chargerWorks = true → s.chgSt = 3 → ∃ t, exec .cvEntry s = .next t ∧ t.chgSt = 4) ∧
  -- CV ends in DONE with TERM set
  (∀ (s : State), s.chargerWorks = true → s.chgSt = 4 → s.fld .BKP_CHG Fld.BKP_CHG_TERM = 1 → ∃ t, exec .chgDone s =
    .next t ∧ t.chgSt = 5) ∧
  -- DONE goes back to CHECK
  (∀ (s : State), s.chargerWorks = true → s.chgSt = 5 → ∃ t, exec .recharge s = .next t ∧ t.chgSt = 1) ∧
  -- a pack temperature out of range suspends it
  (∀ (s : State), s.chargerWorks = true → 1 ≤ s.chgSt → s.chgSt ≤ 5 → ∃ t, exec .packTempOut s = .next t ∧ t.chgSt =
    6) ∧
  -- and lets it check again
  (∀ (s : State), s.chargerWorks = true → s.chgSt = 6 → ∃ t, exec .packTempBack s = .next t ∧ t.chgSt = 1) ∧
  -- a missing pack is shown and flagged
  (∀ (s : State), s.chargerWorks = true → s.chgSt ≠ 0 → s.chgSt ≠ 8 → ∃ t, exec .batAbsent s = .next t ∧ t.chgSt = 8 ∧
    t.fld .BKP_STATUS Fld.BKP_STATUS_ABSENT = 1 ∧ t.bit .BKP_FLAG 5 = true) ∧
  -- a pack that is back is checked
  (∀ (s : State), s.chargerWorks = true → s.fld .BKP_STATUS Fld.BKP_STATUS_ABSENT = 1 → s.chgSt = 8 → ∃ t, exec
    .batPresent s = .next t ∧ t.chgSt = 1 ∧ t.fld .BKP_STATUS Fld.BKP_STATUS_ABSENT = 0) ∧
  -- a time-out latches source 232 with its cause
  (∀ (s : State), s.chargerWorks = true → s.charging = true → ∃ t, exec .chgTimer s = .next t ∧ t.chgSt = 7 ∧ t.bit
    .BKP_FLAG 3 = true ∧ t.latched 232 = true ∧ (s.latched 232 = false → t.fltCause 232 = if s.chgSt = 2 then 0 else
    1)) ∧
  -- an over-voltage latches source 231
  (∀ (s : State), s.chargerWorks = true → s.charging = true → s.compOut 0x84 true = true → ∃ t, exec .chgOv s = .next
    t ∧ t.chgSt = 7 ∧ t.bit .BKP_FLAG 2 = true ∧ t.latched 231 = true) ∧
  -- the charger watchdog applies the safe settings
  (∀ (s : State), s.fld .BKP_CHG Fld.BKP_CHG_EN = 1 → s.fld .BKP_WDT Fld.BKP_WDT_REMAIN ≠ 0 → ∃ t, exec .chgWdog s =
    .next t ∧ t.fld .BKP_WDT Fld.BKP_WDT_REMAIN = 0 ∧ t.fld .BKP_CHG Fld.BKP_CHG_ICHG = 50 ∧ t.fld .BKP_CHG
    Fld.BKP_CHG_TERM = 1 ∧ t.fld .BKP_CHG Fld.BKP_CHG_VCELL = (if s.fld .BKP_BATCFG Fld.BKP_BATCFG_CHEM = 0 then 4000
    else 3200) ∧ t.fld .BKP_STATUS Fld.BKP_STATUS_WDEXP = 1 ∧ t.bit .BKP_FLAG 6 = true) ∧
  -- a host write of BKP_WDT stores the period and restarts the count
  (∀ (i : Iface) (v : Word) (s : State), s.takes .BKP_WDT = true → hostIface i = true → ∃ t, exec (.kick i v 0xF#4) s
    = .next t ∧ t.fld .BKP_WDT Fld.BKP_WDT_PERIOD = getF v Fld.BKP_WDT_PERIOD ∧ t.fld .BKP_WDT Fld.BKP_WDT_REMAIN = 10
    * (getF v Fld.BKP_WDT_PERIOD + 1)) ∧
  -- legal pack settings are stored
  (∀ (i : Iface) (v : Word) (s : State), s.takes .BKP_BATCFG = true → 2000 ≤ getF v Fld.BKP_BATCFG_VCUT → getF v
    Fld.BKP_BATCFG_VCUT ≤ 3500 → getF v Fld.BKP_BATCFG_CHEM = s.fld .BKP_BATCFG Fld.BKP_BATCFG_CHEM → (s.writeRw
    .BKP_BATCFG v).chgLegal = true → ∃ t, exec (.bkpBatcfgWrite i v 0xF#4) s = .next t ∧ t.rd .BKP_BATCFG = (s.rd
    .BKP_BATCFG &&& ~~~ Reg.rw .BKP_BATCFG) ||| (v &&& Reg.rw .BKP_BATCFG)) ∧
  -- illegal ones are refused with a flag
  (∀ (i : Iface) (v : Word) (s : State), s.takes .BKP_BATCFG = true → 2000 ≤ getF v Fld.BKP_BATCFG_VCUT → getF v
    Fld.BKP_BATCFG_VCUT ≤ 3500 → getF v Fld.BKP_BATCFG_CHEM = s.fld .BKP_BATCFG Fld.BKP_BATCFG_CHEM → (s.writeRw
    .BKP_BATCFG v).chgLegal = false → ∃ t, exec (.bkpBatcfgWrite i v 0xF#4) s = .next t ∧ t.rd .BKP_BATCFG = s.rd
    .BKP_BATCFG ∧ t.bit .BKP_FLAG 9 = true) ∧
  -- legal charge settings are stored, and a host write clears WDEXP
  (∀ (i : Iface) (v : Word) (s : State), s.takes .BKP_CHG = true → (s.writeRw .BKP_CHG v).chgLegal = true → ∃ t, exec
    (.bkpChgWrite i v 0xF#4) s = .next t ∧ t.rd .BKP_CHG = (s.rd .BKP_CHG &&& ~~~ Reg.rw .BKP_CHG) ||| (v &&& Reg.rw
    .BKP_CHG) ∧ (hostIface i = true → t.fld .BKP_STATUS Fld.BKP_STATUS_WDEXP = 0)) ∧
  -- illegal ones are refused with a flag
  (∀ (i : Iface) (v : Word) (s : State), s.takes .BKP_CHG = true → (s.writeRw .BKP_CHG v).chgLegal = false → ∃ t, exec
    (.bkpChgWrite i v 0xF#4) s = .next t ∧ t.rd .BKP_CHG = s.rd .BKP_CHG ∧ t.bit .BKP_FLAG 9 = true) ∧
  -- BKP_PATH is stored in its ranges
  (∀ (i : Iface) (v : Word) (s : State), s.takes .BKP_PATH = true → exec (.bkpPathWrite i v 0xF#4) s = .next (if getF
    v Fld.BKP_PATH_SRC_ON < getF v Fld.BKP_PATH_SRC_OFF + 3 then s.contact i else (s.contact i).writeRw .BKP_PATH v)) ∧
  -- BKP_QUAL is stored in its ranges
  (∀ (i : Iface) (v : Word) (s : State), s.takes .BKP_QUAL = true → exec (.bkpQualWrite i v 0xF#4) s = .next (if 20 ≤
    getF v Fld.BKP_QUAL_QUAL ∧ getF v Fld.BKP_QUAL_QUAL ≤ 1000 ∧ 200 ≤ getF v Fld.BKP_QUAL_HBMIN ∧ getF v
    Fld.BKP_QUAL_HBMIN ≤ 10000 then (s.contact i).writeRw .BKP_QUAL v else s.contact i)) ∧
  -- a flag written 1 is cleared
  (∀ (b : Nat) (i : Iface) (v : Word) (s : State), s.takes .BKP_FLAG = true → b < 10 → wbit v b = true → ∃ t, exec
    (.bkpFlagWrite i v 0xF#4) s = .next t ∧ t.bit .BKP_FLAG b = false) ∧
  -- a charger in FAULT whose sources are clear leaves it
  (∀ (i : Iface) (v : Word) (s : State), s.takes .BKP_FLAG = true → s.chgSt = 7 → wbit v 2 = true → wbit v 3 = true →
    s.latched 231 = false → s.latched 232 = false → ∃ t, exec (.bkpFlagWrite i v 0xF#4) s = .next t ∧ t.chgSt = 1)

/-- The gauge. The rounding of a count is open (log 78). The temperature is PRESUMED and free where the spec gives none
(logs 176 and 190). Rests on 08_gauge.md R207, R211, R212, R220, R222. -/
def Obligations.Gauge : Prop :=
  -- a tick that counts adds the exact charge and shows ACC, the temperature and the tap
  (∀ (g : GaugeSample) (s : State), s.powered .adc = true → s.powered .chg = true → s.fld .BKP_BATCFG
    Fld.BKP_BATCFG_NCELL ≠ 0 → (s.gauSt = 1 ∨ s.gauSt = 2) → ∃ t, exec (.gaugeTick g) s = .next t ∧ t.ga.acc = sat64
    (s.ga.acc + roundOpen (s.ga.frac + (g.shunt : Rat) * 50 / (s.rbat : Rat))) ∧ t.rd .GAU_ACC_LO = BitVec.ofNat 32
    (ofSigned 64 t.ga.acc) ∧ (∀ q, ntcTemp g.bth.toNat = some q → -(2 ^ 15) ≤ roundOpen (q * 128) → roundOpen (q *
    128) < 2 ^ 15 → t.fld .GAU_MEAS Fld.GAU_MEAS_TEMP = ofSigned 16 (roundOpen (q * 128))) ∧ t.rd (.SVY_CV_TAP 0 22) =
    BitVec.ofNat 32 (g.bat % 65536)) ∧
  -- a tick that does not count keeps ACC and the displayed value
  (∀ (g : GaugeSample) (s : State), s.powered .adc = true → s.powered .chg = true → (s.gauSt = 0 ∨ s.gauSt = 3 ∨ s.fld
    .BKP_BATCFG Fld.BKP_BATCFG_NCELL = 0) → ∃ t, exec (.gaugeTick g) s = .next t ∧ t.ga.acc = s.ga.acc ∧ t.rd .GAU_SOC
    = s.rd .GAU_SOC ∧ t.ga.vbuf.head? = some g.bat) ∧
  -- an anchor older than STALE days is flagged
  (∀ (s : State), max 1 (s.fld .GAU_CFG Fld.GAU_CFG_STALE) * 86400 ≤ (s.rd .GAU_AGE).toNat → s.fld .GAU_STATUS
    Fld.GAU_STATUS_ANCHOR_STALE = 0 → ∃ t, exec .gauStale s = .next t ∧ t.fld .GAU_STATUS Fld.GAU_STATUS_ANCHOR_STALE
    = 1 ∧ t.bit .GAU_FLAG 4 = true ∧ t.ga = s.ga) ∧
  -- an hourly record hands records of kinds 5 and 6 to the log buffer
  (∀ (s : State), (s.gauSt = 1 ∨ s.gauSt = 2) → s.ld.logBuf.length < 31 → s.bit .LDG_STATUS 10 = false → ∃ t, exec
    .gaugeHourlyRecord s = .next t ∧ t.ld.logBuf.map (·.kind) = s.ld.logBuf.map (·.kind) ++ [5, 6] ∧ t.regs = s.regs) ∧
  -- GAU_CFG and GAU_DESIGN are stored and QUSE follows
  (∀ (b : Bool) (r : Reg) (i : Iface) (v : Word) (s : State), r = (if b then Reg.GAU_CFG else Reg.GAU_DESIGN) →
    s.takes r = true → ∃ t, exec (.gaugeConfigWrite i b v 0xF#4) s = .next t ∧ t.rd r = (s.rd r &&& ~~~ Reg.rw r) |||
    (v &&& Reg.rw r) ∧ t.rd .GAU_QUSE = BitVec.ofInt 32 (roundNear (t.usable / 1000)) ∧ t.ga.acc = s.ga.acc) ∧
  -- a read of ACC_LO holds ACC_HI of the same moment for its interface
  (∀ (i : Iface) (s : State), s.served = true → s.loader = false → s.powered .chg = true → ∃ t, exec (.accLoRead i) s
    = .next t ∧ t.rdata.get i 0#32 = s.rd .GAU_ACC_LO ∧ (t.bank i).accHi = s.rd .GAU_ACC_HI ∧ t.regs = s.regs)

/-- Phase count, derating and feed-forward. The exact factor is DEDUCED (log 84). How the evaluations measure time, and
what the PHASE lock unparks, are DEDUCED (logs 183 and 82). Rests on 09_policy.md R225, R227, R229, R230, R231, R236.
-/
def Obligations.Policy : Prop :=
  -- over HIGH for two evaluations the coolest parked stage comes back
  (∀ (l : List StageMeas) (n m : Nat) (s u : State), u = s.measure l → s.policyWorks = true → n < 16 → s.bit .POL_LOCK
    0 = false → s.bit (.POL_R_PHASE n) 19 = true → s.polSuspended n = false → s.gangMoving n = false → u.phaseHigh n =
    true → 1 ≤ s.po.phHigh.get n 0 → u.coolest ((u.unparkable n).filter fun m => decide (u.temp m < u.tmax n)) = some
    m → ∃ t, exec (.phaseCountEval l) s = .next t ∧ t.stgSt m = 1 ∧ (∃ x ∈ t.ev.msgs, x.src = 94 ∧ x.info = 256 * n +
    m ∧ x.code = 1)) ∧
  -- under LOW for eleven evaluations the hottest stage that may be spared is parked
  (∀ (l : List StageMeas) (n m : Nat) (s u : State), u = s.measure l → s.policyWorks = true → n < 16 → s.bit .POL_LOCK
    0 = false → s.bit (.POL_R_PHASE n) 19 = true → s.polSuspended n = false → s.gangMoving n = false → u.phaseHigh n =
    false → u.phaseLow n = true → 10 ≤ s.po.phLow.get n 0 → (∀ x ∈ s.gang n, s.fld (.STG_STATE x)
    Fld.STG_STATE_VLIMACT = 0) → u.hottest ((u.gang n).filter u.parkable) = some m → u.derateWants n m = false → s.fld
    (.POL_R_PHASE n) Fld.POL_R_PHASE_MINPH ≤ ((u.rotating n).filter (· != m)).length → u.rotCurrent n < 8 * sumR
    (((u.rotating n).filter (· != m)).map u.effVlim) / 10 → ∃ t, exec (.phaseCountEval l) s = .next t ∧ t.stgSt m = 5
    ∧ (t.stgX m).parking = true ∧ (∃ x ∈ t.ev.msgs, x.src = 93 ∧ x.info = 256 * n + m ∧ x.code = 1)) ∧
  -- the PHASE lock brings the lowest parked stage of a rail back
  (∀ (l : List StageMeas) (n m : Nat) (s : State), s.policyWorks = true → s.bit .POL_LOCK 0 = true → s.po.lockSeen =
    false → n < 16 → s.railSt n = 4 → s.polSuspended n = false → s.gangMoving n = false → (s.unparkable n).head? =
    some m → ∃ t, exec (.phaseCountEval l) s = .next t ∧ t.stgSt m = 1) ∧
  -- the factor moves by at most 1 percent for each evaluation
  (∀ (l : List StageMeas) (n m : Nat) (s : State), s.policyWorks = true → s.bit .POL_LOCK 3 = false → n < 16 → s.bit
    (.POL_R_DER n) 31 = true → s.polSuspended n = false → (s.measure l).hottest ((s.measure l).inRotation n) = some m
    → ∃ t, exec (.derateEval l) s = .next t ∧ t.po.derf.get n 100 = max (min ((s.measure l).derTarget n ((s.measure
    l).temp m)) (s.po.derf.get n 100 + 1)) (s.po.derf.get n 100 - 1) ∧ t.fld (.POL_R_STATE n) Fld.POL_R_STATE_DERF =
    (roundOpen (t.po.derf.get n 100)).toNat % 256) ∧
  -- an over-temperature stage is parked, and a rail where none can be raises its source
  (∀ (m : Fin 24) (s : State), s.stgRail m < 16 → s.policyWorks = true → s.bit (.POL_R_DER (s.stgRail m)) 31 = true →
    s.bit .POL_LOCK 3 = false → s.polSuspended (s.stgRail m) = false → s.gangMoving (s.stgRail m) = false → m.val ∈
    s.inRotation (s.stgRail m) → s.tmax (s.stgRail m) ≤ s.temp m → ∃ t, exec (.otPark m) s = .next t ∧ (s.parkable m =
    true → t.stgSt m = 5 ∧ m.val ∈ t.po.hot) ∧ ((∀ x ∈ s.gang (s.stgRail m), s.parkable x = false) → t.latched (136 +
    s.stgRail m) = true)) ∧
  -- ten evaluations over the limit enter feed-forward
  (∀ (f : FfwdIn) (s : State), s.policyWorks = true → s.bit .POL_LOCK 2 = false → s.bit (.POL_R_CFG f.rail) 31 = true
    → s.polSuspended f.rail = false → s.bit (.POL_R_STATE f.rail) 8 = false → 10 * s.fld (.POL_R_CFG f.rail)
    Fld.POL_R_CFG_FFRIP < f.ripple → 9 ≤ s.po.ffAbove.get f.rail 0 → f.waited = true → ∃ t, exec (.ffwdEval [f]) s =
    .next t ∧ t.bit (.POL_R_STATE f.rail) 8 = true ∧ t.po.ffAbove.get f.rail 0 = 0) ∧
  -- one hundred below half of it leave it
  (∀ (f : FfwdIn) (s : State), s.policyWorks = true → s.bit .POL_LOCK 2 = false → s.bit (.POL_R_CFG f.rail) 31 = true
    → s.polSuspended f.rail = false → s.bit (.POL_R_STATE f.rail) 8 = true → 2 * f.ripple < 10 * s.fld (.POL_R_CFG
    f.rail) Fld.POL_R_CFG_FFRIP → ∃ t, exec (.ffwdEval [f]) s = .next t ∧ (if 99 ≤ s.po.ffBelow.get f.rail 0 then
    t.bit (.POL_R_STATE f.rail) 8 = false else t.po.ffBelow.get f.rail 0 = s.po.ffBelow.get f.rail 0 + 1 ∧ t.bit
    (.POL_R_STATE f.rail) 8 = true)) ∧
  -- POL_LOCK is stored
  (∀ (i : Iface) (v : Word) (s : State), s.takes .POL_LOCK = true → ∃ t, exec (.polLockWrite i v 0xF#4) s = .next t ∧
    t.rd .POL_LOCK = (s.rd .POL_LOCK &&& ~~~ Reg.rw .POL_LOCK) ||| (v &&& Reg.rw .POL_LOCK)) ∧
  -- POL_PHASE takes its ranges and ignores others
  (∀ (i : Iface) (v : Word) (n : Fin 20) (s : State), s.takes (.POL_R_PHASE n) = true → exec (.polLimitWrite i true n
    v 0xF#4) s = .next (if (10 ≤ getF v Fld.POL_R_PHASE_LOW ∧ getF v Fld.POL_R_PHASE_LOW ≤ 90) ∧ (getF v
    Fld.POL_R_PHASE_LOW + 10 ≤ getF v Fld.POL_R_PHASE_HIGH ∧ getF v Fld.POL_R_PHASE_HIGH ≤ 100) ∧ 1 ≤ getF v
    Fld.POL_R_PHASE_MINPH ∧ getF v Fld.POL_R_PHASE_MINPH ≤ 8 then s.writeRw (.POL_R_PHASE n) v else s)) ∧
  -- POL_DER takes its ranges and ignores others
  (∀ (i : Iface) (v : Word) (n : Fin 20) (s : State), s.takes (.POL_R_DER n) = true → exec (.polLimitWrite i false n v
    0xF#4) s = .next (if toSigned 8 (getF v Fld.POL_R_DER_TDER) + 5 ≤ toSigned 8 (getF v Fld.POL_R_DER_TMAX) ∧ 10 ≤
    getF v Fld.POL_R_DER_FMIN ∧ getF v Fld.POL_R_DER_FMIN ≤ 100 then s.writeRw (.POL_R_DER n) v else s))

/-- The ride-through budget. Rests on 09_policy.md R233, R235. -/
def Obligations.RideThrough : Prop :=
  -- TPRED and TLEFT are the prediction and what is left of the hold time
  (∀ (r : RideIn) (s : State), s.bit .POL_STATUS 0 = true → s.policyWorks = true → s.fld .GAU_SOC Fld.GAU_SOC_VALID ≠
    0 → r.ibat < 0 → s.ga.err ≤ s.ga.acc → ∃ t, exec (.rideEval r) s = .next t ∧ t.fld .POL_RIDEPRED
    Fld.POL_RIDEPRED_TPRED = min 0xFFFF (roundOpen (((s.ga.acc : Rat) - s.ga.err) / (1000 * (-r.ibat : Rat)))).toNat ∧
    t.fld .POL_RIDEPRED Fld.POL_RIDEPRED_TLEFT = min 0xFFFF (roundOpen ((s.fld .POL_RIDE Fld.POL_RIDE_THOLD : Rat) -
    r.time)).toNat) ∧
  -- a prediction short of the hold time sheds the next rail
  (∀ (r : RideIn) (n : Nat) (s : State), s.bit .POL_STATUS 0 = true → s.policyWorks = true → s.fld .GAU_SOC
    Fld.GAU_SOC_VALID ≠ 0 → r.ibat < 0 → (s.ga.acc : Rat) ≤ s.ga.err → r.time < (s.fld .POL_RIDE Fld.POL_RIDE_THOLD :
    Rat) → s.po.wait = none → s.po.rideOver = false → s.bit .POL_LOCK 4 = false → s.shedNext = some n → ∃ t, exec
    (.rideEval r) s = .next t ∧ t.bit .POL_RIDESHED n = true ∧ t.fld (.POL_R_STATE n) Fld.POL_R_STATE_SHED = 1 ∧
    t.po.shed.head? = some n ∧ t.po.wait = some (n, false) ∧ t.lastMessage 100 (256 * n + 255) 4 ∧ t.bit .POL_FLAG 1 =
    true) ∧
  -- without a valid state of charge nothing is shed and the status says so
  (∀ (r : RideIn) (s : State), s.bit .POL_STATUS 0 = true → s.policyWorks = true → s.fld .GAU_SOC Fld.GAU_SOC_VALID =
    0 → ∃ t, exec (.rideEval r) s = .next t ∧ t.bit .POL_STATUS 2 = true ∧ t.rd .POL_RIDESHED = s.rd .POL_RIDESHED ∧
    t.po = s.po) ∧
  -- the end of the episode without restore, or under the lock, clears the status
  (∀ (s : State), s.bit .POL_STATUS 0 = true → s.fld .BKP_STATUS Fld.BKP_STATUS_PATH = 1 → (s.po.shed = [] ∨ s.bit
    .POL_LOCK 4 = true) → ∃ t, exec .rideEpisodeEnd s = .next t ∧ t.bit .POL_STATUS 0 = false ∧ t.fld .POL_RIDEPRED
    Fld.POL_RIDEPRED_TLEFT = 0 ∧ t.bit .POL_STATUS 1 = !s.po.shed.isEmpty ∧ t.bit .POL_STATUS 2 = false ∧ t.bit
    .POL_STATUS 3 = false) ∧
  -- a restore begins with the rail shed last
  (∀ (n : Nat) (l : List Nat) (s : State), s.policyWorks = true → s.bit .POL_STATUS 1 = true → s.bit .POL_LOCK 4 =
    false → s.restoreDone = true → s.po.shed = n :: l → s.railSt n ≠ 4 → s.rideDeferred n = false → ∃ t, exec
    .polRideRestore s = .next t ∧ t.po.restoring = some n ∧ t.lastMessage 101 (256 * n + 255) 4)

/-- Fault sources. The address a damaged fetch logs is a DESIGN CHOICE (log 192). Rests on 10_signal_box.md R238, R239,
R241, R243, R245; 11_events.md R270. -/
def Obligations.Faults : Prop :=
  -- a raise latches its source, counts it and keeps the first cause
  (∀ (f : Fin 256) (cause : Fin 16) (s : State), s.dark = false → s.causeOut f true = true → (f.val ≠ 233 ∨ cause.val
    ≠ 0) → ∃ t, exec (.faultRaise f cause) s = .next t ∧ t.latched f = true ∧ t.fltCount f = min 65535 (s.fltCount f +
    1) ∧ t.fltCause f = (if s.latched f then s.fltCause f else cause.val) ∧ (s.bit (.FLT_CFG f) 28 = true → t.bit
    (.FLT_LIVE (f / 32)) (f % 32) = true)) ∧
  -- the first classed fault is recorded
  (∀ (f : Fin 256) (cause : Fin 16) (s : State), s.dark = false → s.causeOut f true = true → (f.val ≠ 233 ∨ cause.val
    ≠ 0) → s.latched f = false → s.fld (.FLT_CFG f) Fld.FLT_CFG_CLASS ≠ 0 → s.bit .FLT_FIRST 31 = false → ∃ t, exec
    (.faultRaise f cause) s = .next t ∧ t.fld .FLT_FIRST Fld.FLT_FIRST_SOURCE = f.val ∧ t.fld .FLT_FIRST
    Fld.FLT_FIRST_CAUSE = cause.val ∧ t.bit .FLT_FIRST 31 = true) ∧
  -- a fetch from a damaged word latches the memory source and the trap of the management core
  (∀ (s : State), s.dark = false → ∃ t, exec (.faultRaise 233 0) s = .next t ∧ t.latched 233 = true ∧ t.latched 55 =
    true ∧ (s.latched 55 = false → t.fltCause 55 = 1)) ∧
  -- the end of a cause that no longer stands clears the live bit alone
  (∀ (f : Fin 256) (s : State), s.bit (.FLT_CFG f) 28 = true → s.causeOut f false = false → s.causeStands f = false →
    ∃ t, exec (.faultCauseGone f) s = .next t ∧ t.bit (.FLT_LIVE (f / 32)) (f % 32) = false ∧ t.latched f = s.latched
    f) ∧
  -- a clear takes away a latch whose cause is gone and whose reactions are complete, with its message, and no other
  -- bit
  (∀ (i : Iface) (w : Fin 8) (b : Fin 32) (s : State), s.takes (.FLT_STAT w) = true → ∃ t, exec (.faultClear i w (1#32
    <<< b.val) 0xF#4) s = .next t ∧ t.rd (.FLT_STAT w) = (if s.bit (.FLT_LIVE w) b || s.offsHeld (32 * w + b) then
    s.rd (.FLT_STAT w) else s.rd (.FLT_STAT w) &&& ~~~ (1#32 <<< b.val)) ∧ (s.bit (.FLT_STAT w) b = true → s.bit
    (.FLT_LIVE w) b = false → s.offsHeld (32 * w + b) = false → t.lastMessage 0 (32 * w + b) (128 + 16 * s.fld
    (.FLT_CFG (32 * w + b)) Fld.FLT_CFG_CLASS + s.fltCause (32 * w + b)))) ∧
  -- the FAULT_N pin follows the driving faults when its minimum has passed
  (∀ (s : State), ∃ t, exec .faultNRelease s = .next t ∧ t.pins.faultN = s.anyDrive ∧ t.regs = s.regs) ∧
  -- FLT_CFG takes a permitted value, of the same class while latched, and refuses others with a flag
  (∀ (i : Iface) (f : Fin 256) (v : Word) (s : State), s.takes (.FLT_CFG f) = true → getF v Fld.FLT_CFG_CLASS ≠ 3 → ∃
    t, exec (.fltCfgWrite i f v 0xF#4) s = .next t ∧ (if fltCfgOk f ((s.rd (.FLT_CFG f) &&& ~~~ Reg.rw (.FLT_CFG f))
    ||| (v &&& Reg.rw (.FLT_CFG f))) (s.rd (.FLT_TGT f)) = true ∧ (s.latched f = true → getF ((s.rd (.FLT_CFG f) &&&
    ~~~ Reg.rw (.FLT_CFG f)) ||| (v &&& Reg.rw (.FLT_CFG f))) Fld.FLT_CFG_CLASS = s.fld (.FLT_CFG f)
    Fld.FLT_CFG_CLASS) then t.rd (.FLT_CFG f) = ((s.rd (.FLT_CFG f) &&& ~~~ Reg.rw (.FLT_CFG f)) ||| (v &&& Reg.rw
    (.FLT_CFG f))) else t.rd (.FLT_CFG f) = s.rd (.FLT_CFG f) ∧ t.bit .FLT_FLAG 0 = true)) ∧
  -- FLT_TGT takes permitted targets and refuses others with a flag
  (∀ (i : Iface) (f : Fin 256) (v : Word) (s : State), s.takes (.FLT_TGT f) = true → ∃ t, exec (.fltTgtWrite i f v
    0xF#4) s = .next t ∧ (if s.fltTgtOk f ((s.rd (.FLT_TGT f) &&& ~~~ Reg.rw (.FLT_TGT f)) ||| (v &&& Reg.rw (.FLT_TGT
    f))) = true ∧ fltCfgOk f (s.rd (.FLT_CFG f)) ((s.rd (.FLT_TGT f) &&& ~~~ Reg.rw (.FLT_TGT f)) ||| (v &&& Reg.rw
    (.FLT_TGT f))) = true then t.rd (.FLT_TGT f) = ((s.rd (.FLT_TGT f) &&& ~~~ Reg.rw (.FLT_TGT f)) ||| (v &&& Reg.rw
    (.FLT_TGT f))) else t.rd (.FLT_TGT f) = s.rd (.FLT_TGT f) ∧ t.bit .FLT_FLAG 0 = true)) ∧
  -- CNTCLR with its key clears every count, and without it nothing
  (∀ (i : Iface) (v : Word) (s : State), s.takes .FLT_CTL = true → ∃ t, exec (.cntclr i v 0xF#4) s = .next t ∧ (if
    wbit v 31 = true ∧ getF v Fld.FLT_CTL_KEY = 0x96 then ∀ k ∈ List.range 128, t.rd (.FLT_CNT k) = 0#32 else t = s)) ∧
  -- FLT_HOST raises the sources it names
  (∀ (i : Iface) (v : Word) (s : State), s.takes .FLT_HOST = true → ∃ t, exec (.fltHostRaise i v 0xF#4) s = .next t ∧
    ∀ k ∈ List.range 4, wbit v k = true → t.latched (252 + k) = true)

/-- Comparator force and checker injection. The rules of the first key are DESIGN CHOICES (log 85). Rests on
10_signal_box.md R253, R254, R255. -/
def Obligations.Injection : Prop :=
  -- FLT_FORCE is stored in FACTORY with TEST_EN and refused otherwise
  (∀ (i : Iface) (v : Word) (s : State), s.takes .FLT_FORCE = true → ∃ t, exec (.fltForceWrite i v 0xF#4) s = .next t
    ∧ (if s.lifeCycle = 1 ∧ s.pins.testEn = true then t.rd .FLT_FORCE = (s.rd .FLT_FORCE &&& ~~~ Reg.rw .FLT_FORCE)
    ||| (v &&& Reg.rw .FLT_FORCE) else t.rd .FLT_FORCE = s.rd .FLT_FORCE ∧ t.bit .FLT_FLAG 2 = true)) ∧
  -- the fall of TEST_EN ends any force
  (∀ (s : State), ∃ t, exec .testEnFall s = .next t ∧ t.pins.testEn = false ∧ t.bit .FLT_FORCE 31 = false) ∧
  -- the first key is remembered
  (∀ (i : Iface) (v : Word) (s : State), s.takes .FLT_INJ = true → wbit v 31 = false → getF v Fld.FLT_INJ_KEY = 0x3C →
    ∃ t, exec (.injectionUnlock i v 0xF#4) s = .next t ∧ t.fl.key1 = some s.clock.localTicks ∧ t.rd .FLT_INJSTAT =
    s.rd .FLT_INJSTAT) ∧
  -- a fresh second key unlocks
  (∀ (i : Iface) (v : Word) (s : State), s.takes .FLT_INJ = true → wbit v 31 = false → getF v Fld.FLT_INJ_KEY = 0xC3 →
    s.keyFresh = true → ∃ t, exec (.injectionUnlock i v 0xF#4) s = .next t ∧ t.bit .FLT_INJSTAT 8 = true ∧ t.fl.key1 =
    none) ∧
  -- the unlock ends at its time
  (∀ (s : State), exec .injectionUnlockExpiry s = .next (s.putBit .FLT_INJSTAT 8 false)) ∧
  -- GO runs under the unlock in the states that allow it, and is refused otherwise
  (∀ (i : Iface) (v : Word) (s : State), s.takes .FLT_INJ = true → wbit v 31 = true → (getF v Fld.FLT_INJ_CHK ≠ 2 ∨
    s.powered .link = true) → ∃ t, exec (.go i v 0xF#4) s = .next t ∧ t.bit .FLT_INJSTAT 8 = false ∧ (if s.bit
    .FLT_INJSTAT 8 = true ∧ 1 ≤ s.lifeCycle ∧ s.lifeCycle ≤ 3 then t.fl.injection = some (getF v Fld.FLT_INJ_CHK, getF
    v Fld.FLT_INJ_UNIT, wbit v 30) else t.fld .FLT_INJSTAT Fld.FLT_INJSTAT_RESULT = 3 ∧ t.bit .FLT_FLAG 1 = true)) ∧
  -- the result raises the checker's source with its cause
  (∀ (d : Bool) (c u : Nat) (dry : Bool) (s : State), s.fl.injection = some (c, u, dry) → ∃ t, exec (.injectionResult
    d) s = .next t ∧ t.fl.injection = none ∧ t.fld .FLT_INJSTAT Fld.FLT_INJSTAT_RESULT = (if d then 1 else 2) ∧
    t.latched (injSource c u) = true ∧ (s.latched (injSource c u) = false → t.fltCause (injSource c u) = if d then 0xF
    else 0xE))

/-- Event sources. Rests on 11_events.md R259, R261, R262, R268. -/
def Obligations.EventSources : Prop :=
  -- an occurrence of a message source appends its message
  (∀ (f : Fin 256) (b : Bool) (info code : Nat) (s : State), evtNamed f = true → s.dark = false → evtIsMessage f =
    true → ∃ t, exec (.eventOccurrence f b info code) s = .next t ∧ t.lastMessage f info code ∧ t.regs = s.regs) ∧
  -- an occurrence that SENSE selects is pending and counted, and the first one's INFO and time stay
  (∀ (f : Fin 256) (b : Bool) (info code : Nat) (s : State), evtNamed f = true → s.dark = false → evtIsMessage f =
    false → s.frozen = false → (s.src f).queued = none → ((s.sense f = 3 ∨ (s.sense f = 1 ∧ b = true) ∨ (s.sense f = 2
    ∧ b = false))) → ∃ t, exec (.eventOccurrence f b info code) s = .next t ∧ t.bit (.EVT_PEND (f / 32)) (f % 32) =
    true ∧ (t.src f).waiting = (s.src f).waiting + 1 ∧ ((s.src f).waiting = 0 → (t.src f).info = info ∧ (t.src
    f).first = s.now)) ∧
  -- under FREEZE it is held and nothing is pending
  (∀ (f : Fin 256) (info code : Nat) (s : State), evtNamed f = true → s.dark = false → evtIsMessage f = false →
    s.frozen = true → s.sense f = 1 → ∃ t, exec (.eventOccurrence f true info code) s = .next t ∧ t.regs = s.regs ∧
    (t.src f).held = (s.src f).held + 1 ∧ (t.src f).waiting = (s.src f).waiting) ∧
  -- a storm window closes
  (∀ (f : Fin 256) (s : State), ∃ t, exec (.stormWindowClose f) s = .next t ∧ (t.src f).window = none ∧ t.regs =
    s.regs) ∧
  -- PEND of signal sources that stand in no queue is what is written
  (∀ (i : Iface) (w : Fin 8) (v : Word) (s : State), s.takes (.EVT_PEND w) = true → (∀ b ∈ List.range 32, evtIsMessage
    (32 * w + b) = false ∧ (s.src (32 * w + b)).queued = none) → ∃ t, exec (.pendWrite i w v 0xF#4) s = .next t ∧ t.rd
    (.EVT_PEND w) = v) ∧
  -- FREEZE is set
  (∀ (i : Iface) (v : Word) (s : State), s.takes .EVT_CTL = true → wbit v 31 = true → exec (.freezeWrite i v 0xF#4) s
    = .next (s.putBit .EVT_CTL 31 true)) ∧
  -- the end of FREEZE gives the held occurrences to their sources
  (∀ (i : Iface) (v : Word) (s : State), s.takes .EVT_CTL = true → wbit v 31 = false → s.frozen = true → ∃ t, exec
    (.freezeWrite i v 0xF#4) s = .next t ∧ t.frozen = false ∧ ∀ f ∈ List.range 256, (t.src f).held = 0 ∧ (0 < (s.src
    f).held → (s.src f).queued = none → t.bit (.EVT_PEND (f / 32)) (f % 32) = true)) ∧
  -- FREEZE ends by itself with a flag
  (∀ (s : State), s.frozen = true → ∃ t, exec .freezeExpiry s = .next t ∧ t.frozen = false ∧ t.bit .EVT_STAT 12 =
    true)

/-- Event queues. When a count logs an error and that a dropped record ends its slot are DEDUCED (logs 188 and 187).
Rests on 11_events.md R263, R264, R265, R271. -/
def Obligations.EventQueues : Prop :=
  -- once what in-place counts met is logged (u), a waiting message is written as a record and WPTR goes on
  (∀ (q : Fin 3) (m : EvMsg) (s u : State), u = s.metNow → u.powered .core = true → u.memOk → u.ev.gaps.find? (fun g
    => g.queue == q.val) = none → u.nextMsg q = some m → u.qFull q = false → ∃ t, exec (.eventQueueWrite q) s = .next
    t ∧ t.rd (.EVT_QPTR q) = putF (u.rd (.EVT_QPTR q)) Fld.EVT_QPTR_WPTR ((u.qWrite q + 1) % u.qSize q) ∧ t.word
    (u.recAddr q (u.qWrite q)) = recWord0 1 (u.fld (.EVT_CFG m.src) Fld.EVT_CFG_PRIO) false m.sw false false
    m.stamp.isLocal m.code m.src ∧ t.word (u.recAddr q (u.qWrite q) + 4) = recWord1 m.count m.info ∧ t.ev.msgs =
    u.ev.msgs.erase m) ∧
  -- a full queue drops it, counts, flags and leaves a gap
  (∀ (q : Fin 3) (m : EvMsg) (s u : State), u = s.metNow → u.powered .core = true → u.ev.gaps.find? (fun g => g.queue
    == q.val) = none → u.nextMsg q = some m → u.qFull q = true → ∃ t, exec (.eventQueueWrite q) s = .next t ∧ t.rd
    (.EVT_QPTR q) = u.rd (.EVT_QPTR q) ∧ t.fld (.EVT_QDROP q) Fld.EVT_QDROP_COUNT = min 65535 (u.fld (.EVT_QDROP q)
    Fld.EVT_QDROP_COUNT + 1) ∧ t.bit .EVT_STAT (3 + q) = true ∧ ∃ g ∈ t.ev.gaps, g.queue = q.val) ∧
  -- the record of a completion frees its slot: the command is DONE once it is queued
  (∀ (q : Fin 3) (m : EvMsg) (s u : State), u = s.metNow → u.powered .core = true → u.ev.gaps.find? (fun g => g.queue
    == q.val) = none → u.nextMsg q = some m → 3 ≤ m.src → m.src ≤ 6 → m.sw = false → (u.slot (m.info % 64)).st =
    .ended → (u.slot (m.info % 64)).gen = m.info / 64 → ∃ t, exec (.eventQueueWrite q) s = .next t ∧ (t.slot (m.info %
    64)).st = .done) ∧
  -- the eligible signal before all others is written and no longer pending
  (∀ (q : Fin 3) (f : Nat) (s u : State), u = s.metNow → u.powered .core = true → u.memOk → u.ev.gaps.find? (fun g =>
    g.queue == q.val) = none → u.nextMsg q = none → f ∈ u.eligible q → (∀ b ∈ u.eligible q, f = b ∨ u.before f b =
    true) → u.qFull q = false → ∃ t, exec (.eventQueueWrite q) s = .next t ∧ t.bit (.EVT_PEND (f / 32)) (f % 32) =
    false ∧ (t.src f).waiting = 0 ∧ (t.src f).queued = some (q.val, u.qWrite q) ∧ t.word (u.recAddr q (u.qWrite q) +
    4) = recWord1 (u.src f).waiting (u.src f).info) ∧
  -- a gap is written before anything else
  (∀ (q : Fin 3) (g : Gap) (s u : State), u = s.metNow → u.powered .core = true → u.memOk → u.ev.gaps.find? (fun g =>
    g.queue == q.val) = some g → u.qFull q = false → ∃ t, exec (.eventQueueWrite q) s = .next t ∧ g ∉ t.ev.gaps ∧
    t.word (u.recAddr q (u.qWrite q)) = recWord0 2 0 (decide (65535 < g.count)) false false false u.now.isLocal
    g.stream 0 ∧ t.word (u.recAddr q (u.qWrite q) + 4) = recWord1 g.count g.index) ∧
  -- TAKE delivers the oldest undamaged record, RPTR goes on and its priority runs
  (∀ (i : Iface) (q : Fin 3) (s : State), s.takes (.EVT_QTAKE q) = true → qServes i q = true → s.qEmpty q = false →
    (s.stack q).length < 8 → s.takeBad q = [] → keysIn s.me.soft (s.recAddr q (s.qRead q)) 16 = [] → keysIn s.me.votes
    (s.recAddr q (s.qRead q)) 16 = [] → ∃ t, exec (.take i q) s = .next t ∧ t.rd (.EVT_QREC q 0) = s.word (s.recAddr q
    (s.qRead q)) ∧ t.rd (.EVT_QREC q 1) = s.word (s.recAddr q (s.qRead q) + 4) ∧ t.rd (.EVT_QREC q 2) = s.word
    (s.recAddr q (s.qRead q) + 8) ∧ t.rd (.EVT_QREC q 3) = s.word (s.recAddr q (s.qRead q) + 12) ∧ t.rd (.EVT_QPTR q)
    = putF (s.rd (.EVT_QPTR q)) Fld.EVT_QPTR_RPTR ((s.qRead q + 1) % s.qSize q) ∧ t.running q = some (max (getF (t.rd
    (.EVT_QREC q 0)) ⟨27, 24⟩) ((s.running q).getD 0)) ∧ t.mem = s.mem) ∧
  -- TAKE of an empty queue, or with a full stack, delivers zeros
  (∀ (i : Iface) (q : Fin 3) (s : State), s.takes (.EVT_QTAKE q) = true → qServes i q = true → (s.qEmpty q = true ∨ 8
    ≤ (s.stack q).length) → ∃ t, exec (.take i q) s = .next t ∧ t.rd (.EVT_QREC q 0) = 0#32 ∧ t.rd (.EVT_QPTR q) =
    s.rd (.EVT_QPTR q) ∧ t.ev = s.ev) ∧
  -- TAKE and EOI of the core and fabric queues serve the core alone
  (∀ (i : Iface) (q : Fin 3) (s : State), s.takes (.EVT_QTAKE q) = true → s.takes (.EVT_QEOI q) = true → q ≠ 0 → i ≠
    .core → exec (.take i q) s = .next s ∧ exec (.eoi i q) s = .next s) ∧
  -- EOI takes the top of the stack
  (∀ (i : Iface) (q : Fin 3) (p f : Nat) (l : List (Nat × Nat)) (s : State), s.takes (.EVT_QEOI q) = true → qServes i
    q = true → s.stack q = (p, f) :: l → ∃ t, exec (.eoi i q) s = .next t ∧ t.stack q = l ∧ t.rd (.EVT_QPTR q) = s.rd
    (.EVT_QPTR q)) ∧
  -- EOI of an empty stack is flagged
  (∀ (i : Iface) (q : Fin 3) (s : State), s.takes (.EVT_QEOI q) = true → qServes i q = true → s.stack q = [] → ∃ t,
    exec (.eoi i q) s = .next t ∧ t.stack q = [] ∧ t.bit .EVT_STAT (6 + q) = true) ∧
  -- a legal place or size of an idle queue is stored and its pointers return to 0
  (∀ (i : Iface) (b : Bool) (q : Fin 3) (r : Reg) (v : Word) (s : State), r = (if b then Reg.EVT_QSIZE q else
    Reg.EVT_QBASE q) → s.takes r = true → s.qEmpty q = true → s.stack q = [] → (s.writeRw r v).queueOk q ((s.writeRw r
    v).recAddr q 0) ((s.writeRw r v).qSize q) = true → exec (.queueConfigWrite i b q v 0xF#4) s = .next ((s.writeRw r
    v).wr (.EVT_QPTR q) 0#32)) ∧
  -- others are refused with a flag
  (∀ (i : Iface) (b : Bool) (q : Fin 3) (r : Reg) (v : Word) (s : State), r = (if b then Reg.EVT_QSIZE q else
    Reg.EVT_QBASE q) → s.takes r = true → (s.qEmpty q = false ∨ s.stack q ≠ [] ∨ (s.writeRw r v).queueOk q ((s.writeRw
    r v).recAddr q 0) ((s.writeRw r v).qSize q) = false) → ∃ t, exec (.queueConfigWrite i b q v 0xF#4) s = .next t ∧
    t.rd r = s.rd r ∧ t.rd (.EVT_QPTR q) = s.rd (.EVT_QPTR q) ∧ t.bit .EVT_STAT 13 = true)

/-- CMD_ISSUE. Rests on 02_trackplan.md R57, R58, R60; 03_switchyard.md R94; 06_survey_adc.md R169; 12_commands.md
R278, R279; 13_memory_protection.md R304; 14_ledger.md R311, R312, R313, R320; 17_line_links.md R367;
18_line_flows_time.md R378, R379, R394. -/
def Obligations.MailboxIssue : Prop :=
  -- an issue that is admitted takes the next free slot with its parameters, for every command of the table
  (∀ (i : Iface) (c : Instr) (op k : Nat) (s : State), (c, op) ∈ ([(.nopConfig (.issue i), 0x00), (.tplVerify (.issue
    i), 0x01), (.tplLoadAll (.issue i), 0x02), (.tplLoadDomain (.issue i), 0x03), (.swyRegang (.issue i), 0x10),
    (.nopLedger (.issue i), 0x40), (.tplStore (.issue i), 0x41), (.ldgFwWrite (.issue i), 0x42), (.ldgFwSeal (.issue
    i), 0x43), (.ldgFwActivate (.issue i), 0x44), (.ldgUserWrite (.issue i), 0x45), (.ldgRetire (.issue i), 0x46),
    (.nopCalibration (.issue i), 0x80), (.surveyCal (.issue i), 0x81), (.nopFabric (.issue i), 0xC0), (.lineSurvey
    (.issue i), 0xC1), (.summitMark (.issue i), 0xC2), (.flwOpen (.issue i), 0xC3), (.flwClose (.issue i), 0xC4)] :
    List (Instr × Nat)) → s.admits i op k = true → ∃ t, exec c s = .next t ∧ (t.slot k).st = .waiting ∧ (t.slot k).op
    = op ∧ (t.slot k).gen = nextGen (s.slot k).gen ∧ (t.slot k).p0 = (s.bank i).p0 ∧ (t.slot k).p1 = (s.bank i).p1 ∧
    (t.slot k).p2 = (s.bank i).p2 ∧ (t.slot k).p3 = (s.bank i).p3 ∧ (t.bank i).result = putF 0#32
    Fld.CMD_RESULT_HANDLE (handleOf k (t.slot k).gen) ∧ t.cm.waiting = s.cm.waiting ++ [k] ∧ t.cm.lastSlot = k ∧ t.mem
    = s.mem) ∧
  -- an unknown opcode is refused with code 2
  (∀ (i : Iface) (op : BitVec 8) (s : State), s.takes .CMD_ISSUE = true → s.loader = false → opKnown op.toNat = false
    → ∃ t, exec (.unknownOp i op) s = .next t ∧ t.cm.slots = s.cm.slots ∧ t.cm.waiting = s.cm.waiting ∧ (t.bank
    i).result = putF 0#32 Fld.CMD_RESULT_REFUSE 2 ∧ t.bit .CMD_FLAG 1 = true) ∧
  -- an interface without rights is refused with code 3
  (∀ (i : Iface) (op : BitVec 8) (s : State), s.takes .CMD_ISSUE = true → s.loader = false → opKnown op.toNat = true →
    s.mayIssue i op.toNat = false → ∃ t, exec (.unknownOp i op) s = .next t ∧ t.cm.slots = s.cm.slots ∧ t.cm.waiting =
    s.cm.waiting ∧ (t.bank i).result = putF 0#32 Fld.CMD_RESULT_REFUSE 3 ∧ t.bit .CMD_FLAG 4 = true) ∧
  -- with 32 outstanding it is refused with code 1
  (∀ (i : Iface) (op : BitVec 8) (s : State), s.takes .CMD_ISSUE = true → s.loader = false → opKnown op.toNat = true →
    s.mayIssue i op.toNat = true → s.outstanding = 32 → ∃ t, exec (.unknownOp i op) s = .next t ∧ t.cm.slots =
    s.cm.slots ∧ t.cm.waiting = s.cm.waiting ∧ (t.bank i).result = putF 0#32 Fld.CMD_RESULT_REFUSE 1 ∧ t.bit .CMD_FLAG
    0 = true)

/-- Start, cancel and query. The code of a cancel at its start is DEDUCED (log 97). Rests on 12_commands.md R281, R285,
R286. -/
def Obligations.MailboxStart : Prop :=
  -- the oldest waiting command of an idle lane starts
  (∀ (l : Fin 4) (k : Nat) (s : State), (s.pw.mc = .firmware ∨ s.pw.mc = .loader) → s.runningSlot l = none →
    s.cm.waiting.find? (fun k => opLane (s.slot k).op == l.val) = some k → (s.slot k).cancelled = false → opNop
    (s.slot k).op = false → ∃ t, exec (.commandStart l) s = .next t ∧ t.runningSlot l = some k ∧ (t.slot k).st =
    .running ∧ (t.slot k).op = (s.slot k).op ∧ t.cm.waiting = s.cm.waiting.filter (· != k) ∧ t.mem = s.mem) ∧
  -- a NOP ends at once with its message
  (∀ (l : Fin 4) (k : Nat) (s : State), (s.pw.mc = .firmware ∨ s.pw.mc = .loader) → s.runningSlot l = none →
    s.cm.waiting.find? (fun k => opLane (s.slot k).op == l.val) = some k → (s.slot k).cancelled = false → opNop
    (s.slot k).op = true → ∃ t, exec (.commandStart l) s = .next t ∧ t.ended k 0 ∧ (∀ e ∈ t.cm.running, e.2 ≠ k) ∧
    t.cm.waiting = s.cm.waiting.filter (· != k) ∧ t.lastMessage (3 + l) (handleOf k (s.slot k).gen) 0) ∧
  -- a cancel marks a waiting command
  (∀ (i : Iface) (v : Word) (s : State), s.takes .CMD_CANCEL = true → s.stale (getF v Fld.CMD_CANCEL_HANDLE) = false →
    (s.slot (getF v Fld.CMD_CANCEL_HANDLE % 64)).st = .waiting → exec (.cmdCancel i v 0xF#4) s = .next (s.putSlot
    (getF v Fld.CMD_CANCEL_HANDLE % 64) { s.slot (getF v Fld.CMD_CANCEL_HANDLE % 64) with cancelled := true })) ∧
  -- a stale handle is flagged and changes no slot
  (∀ (i : Iface) (v : Word) (s : State), s.takes .CMD_CANCEL = true → s.stale (getF v Fld.CMD_CANCEL_HANDLE) = true →
    ∃ t, exec (.cmdCancel i v 0xF#4) s = .next t ∧ t.bit .CMD_FLAG 2 = true ∧ t.cm = s.cm) ∧
  -- a cancelled command ends with 0x20 when it would start
  (∀ (l : Fin 4) (k : Nat) (s : State), (s.pw.mc = .firmware ∨ s.pw.mc = .loader) → s.runningSlot l = none →
    s.cm.waiting.find? (fun k => opLane (s.slot k).op == l.val) = some k → (s.slot k).cancelled = true → ∃ t, exec
    (.commandStart l) s = .next t ∧ t.ended k 0x20 ∧ (∀ e ∈ t.cm.running, e.2 ≠ k)) ∧
  -- CMD_QUERY names the handle for its interface, and a stale one is flagged
  (∀ (i : Iface) (v : Word) (s : State), s.takes .CMD_QUERY = true → ∃ t, exec (.cmdQuery i v 0xF#4) s = .next t ∧
    (t.bank i).query = v &&& 0xFFFF#32 ∧ (s.stale (getF v Fld.CMD_QUERY_HANDLE) = true → t.bit .CMD_FLAG 2 = true) ∧
    t.cm.slots = s.cm.slots)

/-- Scrubbing and retirement. Upsets are an operand (log 100). Rests on 13_memory_protection.md R295, R302, R303, R304.
-/
def Obligations.MemoryProtection : Prop :=
  -- a clean word moves the scrub pointer on
  (∀ (s : State), s.bit .MEM_CFG 31 = true → s.powered .core = true → s.me.met = [] → s.sramBad (4 * s.me.scrub) =
    none → s.me.soft.lookup (4 * s.me.scrub) = none → s.me.votes.lookup (4 * s.me.scrub) = none → exec (.scrubStep [])
    s = .next { s with me := { s.me with scrub := (s.me.scrub + 1) % 65536 } }) ∧
  -- a correctable error is corrected, counted and flagged
  (∀ (syn : BitVec 7) (s : State), s.bit .MEM_CFG 31 = true → s.powered .core = true → s.me.met = [] → s.me.scrub <
    65536 → s.sramBad (4 * s.me.scrub) = none → s.me.soft.lookup (4 * s.me.scrub) = some syn → s.me.votes.lookup (4 *
    s.me.scrub) = none → ∃ t, exec (.scrubStep []) s = .next t ∧ t.fld .MEM_CNT Fld.MEM_CNT_SRAM = min 65535 (s.fld
    .MEM_CNT Fld.MEM_CNT_SRAM + 1) ∧ t.bit .MEM_FLAG 0 = true ∧ t.me.scrub = (s.me.scrub + 1) % 65536 ∧
    t.me.soft.lookup (4 * s.me.scrub) = none ∧ t.me.valid = s.me.valid) ∧
  -- an uncorrectable one latches source 233
  (∀ (syn : BitVec 7) (s : State), s.bit .MEM_CFG 31 = true → s.powered .core = true → s.me.met = [] → s.sramBad (4 *
    s.me.scrub) = some syn → s.me.votes.lookup (4 * s.me.scrub) = none → s.me.soft.lookup (4 * s.me.scrub) = none → ∃
    t, exec (.scrubStep []) s = .next t ∧ t.latched 233 = true ∧ (s.latched 233 = false → t.fltCause 233 = 2) ∧
    t.me.scrub = (s.me.scrub + 1) % 65536) ∧
  -- an upset of one bit of a sound valid word is a correctable error, a second one in the word is not
  (∀ (a : Nat) (x y : BitVec 7) (s : State), s.bit .MEM_CFG 31 = false → a % 4 = 0 → a < 0x40000 → s.wordValid a =
    true → s.sramBad a = none → s.me.soft.lookup a = none → x ≠ y → ∃ t u, exec (.scrubStep
    [{ addr := a, strike := .bit x }]) s = .next t ∧ t.me.soft.lookup a = some x ∧ t.sramBad a = none ∧ exec
    (.scrubStep [{ addr := a, strike := .bit x }, { addr := a, strike := .bit y }]) s = .next u ∧ u.me.soft.lookup a =
    none ∧ u.sramBad a = some (x ^^^ y) ∧ u.regs = s.regs) ∧
  -- MEM_PRETIRE with its key begins the copy of a page into a free spare
  (∀ (i : Iface) (v : Word) (k : Nat) (s : State), s.takes .MEM_PRETIRE = true → wbit v 31 = true → getF v
    Fld.MEM_PRETIRE_KEY = 0x69 → s.freeSpare = some k → s.me.copy = none → (∀ j ∈ List.range 4, s.bit (.MEM_PMAP j) 31
    = true → s.fld (.MEM_PMAP j) Fld.MEM_PMAP_PAGE ≠ getF v Fld.MEM_PRETIRE_PAGE) → ∃ t, exec (.memPretireWrite i v
    0xF#4) s = .next t ∧ t.me.copy = some (k, getF v Fld.MEM_PRETIRE_PAGE) ∧ t.fld .MEM_STATUS Fld.MEM_STATUS_COPY =
    1) ∧
  -- it is refused with a flag when none is free or a copy runs
  (∀ (i : Iface) (v : Word) (s : State), s.takes .MEM_PRETIRE = true → wbit v 31 = true → getF v Fld.MEM_PRETIRE_KEY =
    0x69 → (s.freeSpare = none ∨ s.me.copy.isSome = true) → ∃ t, exec (.memPretireWrite i v 0xF#4) s = .next t ∧
    t.me.copy = s.me.copy ∧ t.bit .MEM_FLAG 6 = true) ∧
  -- the end of the copy maps the page
  (∀ (k p : Nat) (s : State), s.me.copy = some (k, p) → ∃ t, exec .pageCopyDone s = .next t ∧ t.me.copy = none ∧ t.rd
    (.MEM_PMAP k) = BitVec.ofNat 32 (2 ^ 31 + p) ∧ t.bit .MEM_FLAG 3 = true ∧ t.fld .MEM_STATUS Fld.MEM_STATUS_COPY =
    0) ∧
  -- LDG_RETIRE of a block begins a write into the first free spare
  (∀ (r b n : Nat) (k : Nat) (s : State), s.begins 0x46 k → (s.slot k).p0.toNat % 4096 = 0 → regionOf (s.slot
    k).p0.toNat = some (r, b) → ((List.range 64).find? (fun n => !(s.ld.map.any fun e => e.2 == 0x1A0 + n)) = some n)
    → ∃ t, exec (.ldgRetire .advance) s = .next t ∧ t.writing 1 (.retire (blockOf (s.slot k).p0.toNat) (0x1A0 + n))
    (some k) ∧ t.mem = s.mem) ∧
  -- a bad address ends it with 0x26
  (∀ (k : Nat) (s : State), s.begins 0x46 k → ((s.slot k).p0.toNat % 4096 ≠ 0 ∨ regionOf (s.slot k).p0.toNat = none) →
    ∃ t, exec (.ldgRetire .advance) s = .next t ∧ t.ended k 0x26) ∧
  -- without a spare it ends with 0x5E and the region loses a bank or becomes read-only
  (∀ (r b : Nat) (k : Nat) (s : State), s.begins 0x46 k → (s.slot k).p0.toNat % 4096 = 0 → regionOf (s.slot
    k).p0.toNat = some (r, b) → (∀ n ∈ List.range 64, ∃ e ∈ s.ld.map, e.2 = 0x1A0 + n) → ∃ t, exec (.ldgRetire
    .advance) s = .next t ∧ t.ended k 0x5E ∧ (if s.single r then t.readOnly r = true ∧ t.latched 239 = true else
    t.single r = true ∧ t.latched 238 = true))

/-- Writes of the ledger. What a read-back that differs does is a DESIGN CHOICE (log 189). Rests on 14_ledger.md R307,
R310, R321. -/
def Obligations.LedgerLanes : Prop :=
  -- a good program step stores its bytes and the write goes on
  (∀ (l a : Nat) (d : List Byte) (rest : List LdgStep) (j : LdgJob) (q : List LdgJob) (s : State), s.ld.cur = some l →
    s.ld.suspended = false → s.ld.tries < 3 → s.lane l = j :: q → j.steps = .program a d :: rest → (rest ≠ [] ∨
    j.bank.isSome = true) → rest.head?.any LdgStep.isCompare = false → ∃ t, exec (.ledgerStepDone true) s = .next t ∧
    t.mem = (s.putBytes a d).mem ∧ (t.lane l).head?.map (·.kind) = some j.kind ∧ (t.lane l).length = (s.lane
    l).length) ∧
  -- a good erase step leaves the block as erased and every other byte as it was
  (∀ (l b : Nat) (rest : List LdgStep) (j : LdgJob) (q : List LdgJob) (s : State), s.ld.cur = some l → s.ld.suspended
    = false → s.ld.tries < 3 → s.lane l = j :: q → j.steps = .erase b :: rest → (rest ≠ [] ∨ j.bank.isSome = true) →
    rest.head?.any LdgStep.isCompare = false → ∃ t, exec (.ledgerStepDone true) s = .next t ∧ ∀ x : Nat, t.byte x = if
    blockAddr b ≤ x ∧ x < blockAddr b + 4096 then memDefault x else s.byte x) ∧
  -- the last step of a firmware write completes its command
  (∀ (l a k : Nat) (d : List Byte) (j : LdgJob) (q : List LdgJob) (s : State), s.ld.cur = some l → s.ld.suspended =
    false → s.ld.tries < 3 → s.lane l = j :: q → j.steps = [.program a d] → j.kind = .fwWrite → j.slot = some k → ∃ t,
    exec (.ledgerStepDone true) s = .next t ∧ t.mem = (s.putBytes a d).mem ∧ t.ended k 0) ∧
  -- a step that fails its verify is tried again
  (∀ (l : Nat) (j : LdgJob) (q : List LdgJob) (s : State), s.ld.cur = some l → s.ld.suspended = false → s.ld.tries < 3
    → s.lane l = j :: q → ∃ t, exec (.ledgerStepDone false) s = .next t ∧ t.ld.tries = s.ld.tries + 1 ∧ t.lane l =
    s.lane l ∧ t.mem = s.mem) ∧
  -- a content that does not read back stays before its read-back, and the write is to fail
  (∀ (l a x : Nat) (d c : List Byte) (rest : List LdgStep) (j : LdgJob) (q : List LdgJob) (s u : State), s.ld.cur =
    some l → s.ld.suspended = false → s.ld.tries < 3 → s.lane l = j :: q → l ≠ 2 → j.steps = .program a d :: .compare
    x c :: rest → u = s.programBytes a d → keysIn u.me.soft x c.length = [] → keysIn u.me.votes x c.length = [] →
    keysIn u.me.bad x c.length = [] → u.readsBack x c = false → ∃ t, exec (.ledgerStepDone true) s = .next t ∧ t.mem =
    u.mem ∧ t.ld.cur = some l ∧ t.ld.tries = 3 ∧ t.lane l = { j with steps := .compare x c :: rest } :: q) ∧
  -- a commit of a bank completes its command, and a sealed firmware slot is closed
  (∀ (l r b n k : Nat) (j : LdgJob) (q : List LdgJob) (s : State), s.wd.expired = false → s.commitLane = some l →
    s.lane l = j :: q → j.kind = .bank r b n → j.slot = some k → (r = 0 ∨ r = 2 ∨ r = 4) → ∃ t, exec .ledgerCommit s =
    .next t ∧ t.ended k 0 ∧ (r = 0 → t.fld .LDG_STATUS Fld.LDG_STATUS_FWOPEN = 0)) ∧
  -- the commit of a load shows bank and sequence number and ends the reload, where no other load waits
  (∀ (l b n k : Nat) (j : LdgJob) (q : List LdgJob) (s : State), s.wd.expired = false → s.commitLane = some l → s.lane
    l = j :: q → j.kind = .bank 1 b n → j.slot = some k → (s.slot k).op ≠ 0x41 → (∀ r ∈ s.tp.reload, r.slot = k) →
    s.waitingLoads = [] → ∃ t, exec .ledgerCommit s = .next t ∧ t.ended k 0 ∧ t.tplSt = 2 ∧ t.tplPhase = 0 ∧ t.fld
    .TPL_STATUS Fld.TPL_STATUS_BANK = b % 2 ∧ t.rd .TPL_SEQNUM = BitVec.ofNat 32 n ∧ t.tp.reload = none) ∧
  -- and where another waits, that one is accepted
  (∀ (l b n k i : Nat) (w : List Nat) (j : LdgJob) (q : List LdgJob) (s : State), s.wd.expired = false → s.commitLane
    = some l → s.lane l = j :: q → j.kind = .bank 1 b n → j.slot = some k → (s.slot k).op ≠ 0x41 → (∀ r ∈ s.tp.reload,
    r.slot = k) → s.waitingLoads = i :: w → i ≠ k → ∃ t, exec .ledgerCommit s = .next t ∧ t.ended k 0 ∧ t.tplSt = 3 ∧
    t.tplPhase = 0 ∧ t.tp.reload.map (·.slot) = some i) ∧
  -- the commit of a dump is counted and its slot shown
  (∀ (l b n : Nat) (d : DumpReq) (j : LdgJob) (q : List LdgJob) (s : State), s.wd.expired = false → s.commitLane =
    some l → s.lane l = j :: q → j.kind = .bank 3 b n → s.ld.dump = some d → ∃ t, exec .ledgerCommit s = .next t ∧
    t.ld.dump = none ∧ t.fld .LDG_DUMP Fld.LDG_DUMP_COUNT = min 65535 (s.fld .LDG_DUMP Fld.LDG_DUMP_COUNT + 1) ∧ t.fld
    .LDG_DUMP Fld.LDG_DUMP_SLOT = b % 2) ∧
  -- a step that failed three times ends its write with 0x50 and records the block
  (∀ (l r b n a k : Nat) (d : List Byte) (j : LdgJob) (rest : List LdgStep) (q : List LdgJob) (s : State), s.ld.cur =
    some l → 3 ≤ s.ld.tries → s.lane l = j :: q → j.kind = .bank r b n → j.steps = .program a d :: rest → j.slot =
    some k → r ≠ 1 → r ≠ 3 → ∃ t, exec .ledgerWriteFail s = .next t ∧ t.ended k 0x50 ∧ t.rd .LDG_BADBLK = BitVec.ofNat
    32 (blockAddr (blockOf a) + 2) ∧ t.bit .LDG_FLAG 0 = true) ∧
  -- a read suspends a running erase
  (∀ (s : State), s.bit .LDG_STATUS 3 = true → s.ld.cur.isSome = true → exec .eraseSuspend s = .next
    { s with ld := { s.ld with suspended := true } }) ∧
  -- which goes on later
  (∀ (s : State), exec .eraseResume s = .next { s with ld := { s.ld with suspended := false } })

/-- Ledger commands that begin a write. The signature is an opaque test (log 7). Rests on 14_ledger.md R311, R312,
R313, R315, R319, R320. -/
def Obligations.LedgerCommands : Prop :=
  -- LDG_FW_WRITE in range of a writable slot begins
  (∀ (a n o : Nat) (k : Nat) (s : State), s.begins 0x42 k → a = (s.slot k).p0.toNat → n = (s.slot k).p1.toNat → o =
    (s.slot k).p2.toNat → a % 4 = 0 → n % 4 = 0 → o % 4 = 0 → 0 < n → n ≤ 65536 → o + n ≤ 392960 → s.badSource a n =
    false → s.readOnly 0 = false → (s.single 0 = false ∨ s.abandoned 0 ≠ s.fwInactive ∨ wbit (s.slot k).p3 0 = true) →
    (s.bit .LDG_STATUS 2 = false ∨ ∀ e ∈ s.ld.fwDone, ¬(e.1 < o + n ∧ o < e.1 + e.2)) → s.firstBad a n = none → keysIn
    s.me.soft a n = [] → keysIn s.me.votes a n = [] → ∃ t, exec (.ldgFwWrite .advance) s = .next t ∧ t.writing 1
    .fwWrite (some k) ∧ t.bit .LDG_STATUS 2 = true ∧ (o, n) ∈ t.ld.fwDone ∧ t.mem = s.mem) ∧
  -- out of range it ends with 0x26
  (∀ (a n o : Nat) (k : Nat) (s : State), s.begins 0x42 k → a = (s.slot k).p0.toNat → n = (s.slot k).p1.toNat → o =
    (s.slot k).p2.toNat → (a % 4 ≠ 0 ∨ n % 4 ≠ 0 ∨ o % 4 ≠ 0 ∨ n = 0 ∨ 65536 < n ∨ 392960 < o + n) → ∃ t, exec
    (.ldgFwWrite .advance) s = .next t ∧ t.ended k 0x26 ∧ t.ld = s.ld) ∧
  -- LDG_FW_SEAL of an open undamaged slot begins its seal when the signature is good, and ends with 0x54 otherwise
  (∀ (k : Nat) (s : State), s.begins 0x43 k → s.bit .LDG_STATUS 2 = true → s.readOnly 0 = false → keysIn s.me.soft
    (bankBase 0 s.fwTarget) s.fwSpan = [] → keysIn s.me.votes (bankBase 0 s.fwTarget) s.fwSpan = [] → keysIn s.me.bad
    (bankBase 0 s.fwTarget) s.fwSpan = [] → ∃ t, exec (.ldgFwSeal .advance) s = .next t ∧ (if Config.signatureOk
    (bytesOfWords (s.ledWords (bankBase 0 s.fwTarget) s.fwSpan)) then t.writing 1 (.bank 0 s.fwTarget (s.newSeq 0))
    (some k) else t.ended k 0x54)) ∧
  -- a closed slot ends it with 0x53
  (∀ (k : Nat) (s : State), s.begins 0x43 k → s.bit .LDG_STATUS 2 = false → ∃ t, exec (.ldgFwSeal .advance) s = .next
    t ∧ t.ended k 0x53) ∧
  -- LDG_FW_ACTIVATE of a sealed slot begins
  (∀ (k : Nat) (s : State), s.begins 0x44 k → s.bankSeq 0 s.fwTarget ≠ 0 → s.fwKept = false → s.readOnly 0 = false → ∃
    t, exec (.ldgFwActivate .advance) s = .next t ∧ t.writing 1 .fwActivate (some k) ∧ t.mem = s.mem) ∧
  -- of an unsealed one it ends with 0x53, and of the booted slot of a single-bank region not written since (log 104)
  (∀ (k : Nat) (s : State), s.begins 0x44 k → (s.bankSeq 0 s.fwTarget = 0 ∨ s.fwKept = true) → ∃ t, exec
    (.ldgFwActivate .advance) s = .next t ∧ t.ended k 0x53) ∧
  -- LDG_USER_WRITE in range begins a bank write
  (∀ (a n o : Nat) (k : Nat) (s : State), s.begins 0x45 k → a = (s.slot k).p0.toNat → n = (s.slot k).p1.toNat → o =
    (s.slot k).p2.toNat → o + n ≤ 65280 → s.badSource a n = false → s.readOnly 4 = false → s.firstBad a n = none →
    keysIn s.me.soft a n = [] → keysIn s.me.votes a n = [] → (∀ b ∈ s.newestBank 4, keysIn s.me.soft (bankBase 4 b)
    65280 = [] ∧ keysIn s.me.votes (bankBase 4 b) 65280 = [] ∧ keysIn s.me.bad (bankBase 4 b) 65280 = []) → ∃ t, exec
    (.ldgUserWrite .advance) s = .next t ∧ t.writing 1 (.bank 4 (s.targetBank 4) (s.newSeq 4)) (some k) ∧ t.mem =
    s.mem) ∧
  -- else it ends with 0x26, or 0x56 for a read-only region
  (∀ (a n o : Nat) (k : Nat) (s : State), s.begins 0x45 k → a = (s.slot k).p0.toNat → n = (s.slot k).p1.toNat → o =
    (s.slot k).p2.toNat → (65280 < o + n ∨ s.badSource a n = true ∨ s.readOnly 4 = true) → ∃ t, exec (.ldgUserWrite
    .advance) s = .next t ∧ t.ended k (if 65280 < o + n ∨ s.badSource a n = true then 0x26 else 0x56) ∧ t.ld = s.ld) ∧
  -- a requested dump of undamaged sections begins
  (∀ (d : DumpReq) (s : State), s.ld.dump = some d → d.started = false → s.accepts = true → s.pw.mc = .firmware →
    s.readOnly 3 = false → keysIn s.me.soft 0x3C000 0x4000 = [] → keysIn s.me.votes 0x3C000 0x4000 = [] → keysIn
    s.me.bad 0x3C000 0x4000 = [] → ∃ t, exec .dumpStart s = .next t ∧ t.writing 3 (.bank 3 (s.targetBank 3) (s.newSeq
    3)) none ∧ t.ld.dump = some { d with started := true }) ∧
  -- an activation under the loader restarts the part
  (∀ (s : State), s.loader = true → s.ld.restart = true → exec .loaderRestart s = .next
    { s with ld := { s.ld with restart := false }, pw := { s.pw with start := some .loader } })

/-- OTP. The order of the refusals is DEDUCED (log 111). Rests on 15_otp_lifecycle.md R329, R330, R334. -/
def Obligations.OtpCommands : Prop :=
  -- an allowed OTP_PROG begins and sets BUSY
  (∀ (i : Iface) (v : Word) (s : State), s.takes .OTP_PROG = true → wbit v 31 = true → (if i = .line then 8 else if
    getF v Fld.OTP_PROG_KEY ≠ 0xB7 then 5 else if s.bit .OTP_STATUS 4 then 4 else if s.otpAllowed (s.fld .OTP_ROW
    Fld.OTP_ROW_ROW) = false then 2 else if s.otpUsed (s.fld .OTP_ROW Fld.OTP_ROW_ROW) then 3 else 0) = 0 → ∃ t, exec
    (.otpProgram i v 0xF#4) s = .next t ∧ t.ot.prog = some
    { row := s.fld .OTP_ROW Fld.OTP_ROW_ROW, data := s.rd .OTP_DATA, target := none } ∧ t.bit .OTP_STATUS 4 = true ∧
    t.ot.rows = s.ot.rows) ∧
  -- another shows its code and changes no cell
  (∀ (i : Iface) (v : Word) (c : Nat) (s : State), s.takes .OTP_PROG = true → wbit v 31 = true → c = (if i = .line
    then 8 else if getF v Fld.OTP_PROG_KEY ≠ 0xB7 then 5 else if s.bit .OTP_STATUS 4 then 4 else if s.otpAllowed
    (s.fld .OTP_ROW Fld.OTP_ROW_ROW) = false then 2 else if s.otpUsed (s.fld .OTP_ROW Fld.OTP_ROW_ROW) then 3 else 0)
    → c ≠ 0 → ∃ t, exec (.otpProgram i v 0xF#4) s = .next t ∧ t.fld .OTP_RESULT Fld.OTP_RESULT_CODE = c ∧ t.bit
    .OTP_FLAG 1 = true ∧ t.ot = s.ot) ∧
  -- an allowed life-cycle transition begins
  (∀ (i : Iface) (v : Word) (s : State), s.takes .OTP_LC = true → wbit v 31 = true → ((if i = .line then 8 else if
    getF v Fld.OTP_LC_KEY ≠ 0x4D then 5 else if s.bit .OTP_STATUS 4 then 4 else if lcFollows s.lifeCycle (getF v
    Fld.OTP_LC_TARGET) = false then 6 else if s.lifeCycle = 0 ∧ s.pins.testEn = false then 2 else 0) = 0) → ∃ t, exec
    (.lifecycleTransition i v 0xF#4) s = .next t ∧ t.ot.prog = some
    { row := 63 + getF v Fld.OTP_LC_TARGET, data := 0#32, target := some (getF v Fld.OTP_LC_TARGET) } ∧ t.bit
    .OTP_STATUS 4 = true ∧ t.lifeCycle = s.lifeCycle) ∧
  -- another shows its code
  (∀ (i : Iface) (v : Word) (c : Nat) (s : State), s.takes .OTP_LC = true → wbit v 31 = true → (c = (if i = .line then
    8 else if getF v Fld.OTP_LC_KEY ≠ 0x4D then 5 else if s.bit .OTP_STATUS 4 then 4 else if lcFollows s.lifeCycle
    (getF v Fld.OTP_LC_TARGET) = false then 6 else if s.lifeCycle = 0 ∧ s.pins.testEn = false then 2 else 0)) → c ≠ 0
    → ∃ t, exec (.lifecycleTransition i v 0xF#4) s = .next t ∧ t.fld .OTP_RESULT Fld.OTP_RESULT_CODE = c ∧ t.bit
    .OTP_FLAG 1 = true ∧ t.ot = s.ot) ∧
  -- a good program ends with code 0 and the row or the mark holds
  (∀ (r : OtpOutcome) (p : OtpProg) (s : State), s.ot.prog = some p → r.strict = true → ∃ t, exec (.otpDone r) s =
    .next t ∧ t.ot.prog = none ∧ t.fld .OTP_RESULT Fld.OTP_RESULT_CODE = 0 ∧ t.fld .OTP_RESULT Fld.OTP_RESULT_ROW =
    p.row % 512 ∧ t.bit .OTP_STATUS 4 = false ∧ t.bit .OTP_FLAG 0 = true ∧ (if p.target = none then t.ot.rows.get
    (s.otpCell p.row) 0#32 = p.data else p.row ∈ t.ot.marks ∧ t.lifeCycle = t.lcOf)) ∧
  -- a row that fails goes to the next spare, with code 1
  (∀ (r : OtpOutcome) (p : OtpProg) (k : Nat) (s : State), s.ot.prog = some p → r.strict = false → r.tries = [] →
    s.nextSpare = some k → ∃ t, exec (.otpDone r) s = .next t ∧ t.ot.prog = none ∧ t.fld .OTP_RESULT
    Fld.OTP_RESULT_CODE = 1 ∧ t.ot.redir.get k 0#32 = redirWord true false p.row ∧ (p.target = none → t.ot.rows.get
    (512 + k) 0#32 = p.data)) ∧
  -- without a spare it ends with code 7 and its consequences
  (∀ (r : OtpOutcome) (p : OtpProg) (s : State), s.ot.prog = some p → r.strict = false → s.nextSpare = none → ∃ t,
    exec (.otpDone r) s = .next t ∧ t.ot.prog = none ∧ t.fld .OTP_RESULT Fld.OTP_RESULT_CODE = 7 ∧ (if r.decodes then
    p.row ∈ t.ot.corrected ∧ t.latched 249 = true ∧ t.bit .OTP_STATUS 5 = true else if p.row < 64 then t.bit
    .OTP_STATUS 6 = true ∧ t.latched 53 = true else if p.row < 68 then p.row ∈ t.ot.marks else s.otpCell p.row ∈
    t.ot.lost))

/-- WDG_TOKEN. The decision of the mutex element is an operand (log 114). Rests on 16_watchdog.md R340. -/
def Obligations.Tokens : Prop :=
  -- a right token in its window is accepted and the next value follows
  (∀ (i : Iface) (v : Word) (n : Nat) (s : State), s.takes .WDG_TOKEN = true → n = getF v Fld.WDG_TOKEN_TASK →
    s.wdgReg n = true → ownerIs (s.fld (.WDG_T_CFG n) Fld.WDG_T_CFG_OWNER) i = true → getF v Fld.WDG_TOKEN_TOKEN =
    s.fld (.WDG_T_STAT n) Fld.WDG_T_STAT_NEXT → s.inWindow n = true → s.tokened n = false → ∃ t, exec (.token i v
    0xF#4 ⟨none, 0#8⟩) s = .next t ∧ t.tokened n = true ∧ t.fld (.WDG_T_STAT n) Fld.WDG_T_STAT_NEXT = (s.fld (.WDG_T_STAT
    n) Fld.WDG_T_STAT_NEXT + 0x35) % 256 ∧ t.wd = s.wd) ∧
  -- a second one is an expiry of kind 3
  (∀ (i : Iface) (v : Word) (n : Nat) (s : State), s.takes .WDG_TOKEN = true → n = getF v Fld.WDG_TOKEN_TASK →
    s.wdgReg n = true → ownerIs (s.fld (.WDG_T_CFG n) Fld.WDG_T_CFG_OWNER) i = true → getF v Fld.WDG_TOKEN_TOKEN =
    s.fld (.WDG_T_STAT n) Fld.WDG_T_STAT_NEXT → s.inWindow n = true → s.tokened n = true → ∃ t, exec (.token i v 0xF#4
    ⟨none, 0#8⟩) s = .next t ∧ t.wd.expired = true ∧ t.fld .WDG_LAST Fld.WDG_LAST_TASK = n ∧ t.bit .WDG_LAST 31 = true ∧
    t.fld .WDG_LAST Fld.WDG_LAST_COUNT = min 255 (s.fld .WDG_LAST Fld.WDG_LAST_COUNT + 1) ∧ t.fld .WDG_LAST
    Fld.WDG_LAST_KIND = 3) ∧
  -- one outside the window is an expiry of kind 2
  (∀ (i : Iface) (v : Word) (n : Nat) (s : State), s.takes .WDG_TOKEN = true → n = getF v Fld.WDG_TOKEN_TASK →
    s.wdgReg n = true → ownerIs (s.fld (.WDG_T_CFG n) Fld.WDG_T_CFG_OWNER) i = true → getF v Fld.WDG_TOKEN_TOKEN =
    s.fld (.WDG_T_STAT n) Fld.WDG_T_STAT_NEXT → s.inWindow n = false → ∃ t, exec (.token i v 0xF#4 ⟨none, 0#8⟩) s = .next
    t ∧ t.wd.expired = true ∧ t.fld .WDG_LAST Fld.WDG_LAST_TASK = n ∧ t.bit .WDG_LAST 31 = true ∧ t.fld .WDG_LAST
    Fld.WDG_LAST_COUNT = min 255 (s.fld .WDG_LAST Fld.WDG_LAST_COUNT + 1) ∧ t.fld .WDG_LAST Fld.WDG_LAST_KIND = 2) ∧
  -- a wrong value is an expiry of kind 4
  (∀ (i : Iface) (v : Word) (n : Nat) (e : Option EdgeDecision) (s : State), s.takes .WDG_TOKEN = true → n = getF v
    Fld.WDG_TOKEN_TASK → s.wdgReg n = true → ownerIs (s.fld (.WDG_T_CFG n) Fld.WDG_T_CFG_OWNER) i = true → getF v
    Fld.WDG_TOKEN_TOKEN ≠ s.fld (.WDG_T_STAT n) Fld.WDG_T_STAT_NEXT → ∃ t, exec (.token i v 0xF#4 ⟨e, 0#8⟩) s = .next t ∧
    t.wd.expired = true ∧ t.fld .WDG_LAST Fld.WDG_LAST_TASK = n ∧ t.bit .WDG_LAST 31 = true ∧ t.fld .WDG_LAST
    Fld.WDG_LAST_COUNT = min 255 (s.fld .WDG_LAST Fld.WDG_LAST_COUNT + 1) ∧ t.fld .WDG_LAST Fld.WDG_LAST_KIND = 4) ∧
  -- a token of another owner or task is flagged and changes nothing
  (∀ (i : Iface) (v : Word) (n : Nat) (e : Option EdgeDecision) (s : State), s.takes .WDG_TOKEN = true → n = getF v
    Fld.WDG_TOKEN_TASK → (s.wdgReg n = false ∨ ownerIs (s.fld (.WDG_T_CFG n) Fld.WDG_T_CFG_OWNER) i = false) → ∃ t,
    exec (.token i v 0xF#4 ⟨e, 0#8⟩) s = .next t ∧ t.bit .WDG_FLAG 3 = true ∧ t.rd (.WDG_T_STAT n) = s.rd (.WDG_T_STAT n)
    ∧ t.wd = s.wd) ∧
  -- a token at an edge is reported and judged by the decision that comes with it
  (∀ (i : Iface) (v : Word) (n : Nat) (e : EdgeDecision) (s : State), s.takes .WDG_TOKEN = true → n = getF v
    Fld.WDG_TOKEN_TASK → s.wdgReg n = true → ownerIs (s.fld (.WDG_T_CFG n) Fld.WDG_T_CFG_OWNER) i = true → getF v
    Fld.WDG_TOKEN_TOKEN = s.fld (.WDG_T_STAT n) Fld.WDG_T_STAT_NEXT → ∃ t, exec (.token i v 0xF#4 ⟨some e, 0#8⟩) s =
    .next t ∧ t.bit .WDG_EDGE 31 = true ∧ t.fld .WDG_EDGE Fld.WDG_EDGE_TASK = n ∧ t.bit .WDG_EDGE 9 = e.closing ∧
    t.bit .WDG_EDGE 8 = !e.won ∧ t.bit .WDG_FLAG 0 = true ∧ (e.closing = false → e.won = true → s.tokened n = false →
    t.tokened n = true ∧ t.inWindow n = true ∧ t.wd = s.wd) ∧ (e.closing = false → e.won = false → t.wd.expired =
    true) ∧ (e.closing = true → e.won = false → s.tokened n = false → t.wd.expired = true))

/-- Periods of the watchdog. That periods go on behind an expiry is DEDUCED, and the tasks that end with one are an
operand (logs 113 and 114). Rests on 16_watchdog.md R337, R339, R340, R344, R345, R348. -/
def Obligations.WatchdogPeriods : Prop :=
  -- a task is registered with its first token value
  (∀ (i : Iface) (n : Fin 8) (v : Word) (s : State), s.takes (.WDG_T_CFG n) = true → s.wdgReg n = false → 2 ≤ getF v
    Fld.WDG_T_CFG_PERIOD → getF v Fld.WDG_T_CFG_WINOPEN < getF v Fld.WDG_T_CFG_PERIOD → wbit v 31 = true → ∃ t, exec
    (.taskRegister i n v 0xF#4) s = .next t ∧ t.wdgReg n = true ∧ t.fld (.WDG_T_CFG n) Fld.WDG_T_CFG_PERIOD = getF v
    Fld.WDG_T_CFG_PERIOD ∧ t.fld (.WDG_T_CFG n) Fld.WDG_T_CFG_OWNER = getF v Fld.WDG_T_CFG_OWNER ∧ t.fld (.WDG_T_STAT
    n) Fld.WDG_T_STAT_NEXT = (0x5A + 0x11 * n.val) % 256 ∧ t.tokened n = false ∧ t.inWindow n = decide (getF v
    Fld.WDG_T_CFG_WINOPEN = 0)) ∧
  -- a bad or second registration is refused with a flag
  (∀ (i : Iface) (n : Fin 8) (v : Word) (s : State), s.takes (.WDG_T_CFG n) = true → (s.wdgReg n = true ∨ getF v
    Fld.WDG_T_CFG_PERIOD < 2 ∨ getF v Fld.WDG_T_CFG_PERIOD ≤ getF v Fld.WDG_T_CFG_WINOPEN) → ∃ t, exec (.taskRegister
    i n v 0xF#4) s = .next t ∧ t.rd (.WDG_T_CFG n) = s.rd (.WDG_T_CFG n) ∧ t.bit .WDG_FLAG 2 = true) ∧
  -- WDG_CTL is stored while no task of 2 to 7 is registered
  (∀ (i : Iface) (v : Word) (s : State), s.takes .WDG_CTL = true → (∀ n ∈ List.range 8, 2 ≤ n → s.wdgReg n = false) →
    exec (.wdgCtlWrite i v 0xF#4) s = .next (s.writeRw .WDG_CTL v)) ∧
  -- a window opens
  (∀ (n : Fin 8) (s : State), s.taskRuns n = true → exec (.windowOpen n) s = .next (s.putBit (.WDG_T_STAT n) 16 true)) ∧
  -- a period with a token begins the next
  (∀ (n : Fin 8) (s : State), s.taskRuns n = true → s.tokened n = true → ∃ t, exec (.periodEnd n 0#8) s = .next t ∧
    t.tokened n = false ∧ t.fld (.WDG_T_STAT n) Fld.WDG_T_STAT_ELAPSED = 0 ∧ t.inWindow n = decide (s.fld (.WDG_T_CFG
    n) Fld.WDG_T_CFG_WINOPEN = 0) ∧ t.wd = s.wd) ∧
  -- a period without one is an expiry of kind 1, and the next begins
  (∀ (n : Fin 8) (s : State), s.taskRuns n = true → s.tokened n = false → s.wd.expired = false → ∃ t, exec (.periodEnd
    n 0#8) s = .next t ∧ t.wd.expired = true ∧ t.fld .WDG_LAST Fld.WDG_LAST_TASK = n ∧ t.bit .WDG_LAST 31 = true ∧
    t.fld .WDG_LAST Fld.WDG_LAST_COUNT = min 255 (s.fld .WDG_LAST Fld.WDG_LAST_COUNT + 1) ∧ t.fld .WDG_LAST
    Fld.WDG_LAST_KIND = 1 ∧ t.bit .WDG_LAST 29 = false ∧ t.tokened n = false ∧ t.fld (.WDG_T_STAT n)
    Fld.WDG_T_STAT_ELAPSED = 0) ∧
  -- between an expiry and its reset periods go on, and no other failure is captured
  (∀ (n : Fin 8) (o : BitVec 8) (s : State), s.taskRuns n = true → s.wd.expired = true → ∃ t, exec (.periodEnd n o) s
    = .next t ∧ t.tokened n = false ∧ t.fld (.WDG_T_STAT n) Fld.WDG_T_STAT_ELAPSED = 0 ∧ t.rd .WDG_LAST = s.rd
    .WDG_LAST ∧ t.wd = s.wd) ∧
  -- of several that end without a token at one moment the lowest is captured, and MORE is set
  (∀ (n m : Fin 8) (s : State), n < m → s.taskRuns n = true → s.taskRuns m = true → s.tokened n = false → s.tokened m
    = false → s.wd.expired = false → ∃ t, exec (.periodEnd m (1#8 <<< n.val)) s = .next t ∧ t.wd.expired = true ∧
    t.fld .WDG_LAST Fld.WDG_LAST_TASK = n ∧ t.bit .WDG_LAST 29 = true) ∧
  -- at the end of the drain time gates are off and resets low
  (∀ (s : State), s.wd.draining = true → ∃ t, exec .drainTimeout s = .next t ∧ t.wd.draining = false ∧ t.pins.gatesOff
    = true ∧ ∀ x ∈ List.range 4, t.bit .TTB_RSTSTAT x = true) ∧
  -- the reset leaves only AON, drops ledger writes and a start of that cause is to run
  (∀ (s : State), s.wd.expired = true → (s.railsDown = true ∨ s.pins.gatesOff = true) → ∃ t, exec .watchdogReset s =
    .next t ∧ t.wd = {} ∧ t.pw.start = some .watchdog ∧ t.pw.on = [.aon] ∧ t.pins.gatesOff = true ∧ t.ld.lanes = [])

/-- Frames that arrive, the line check and the states of a port. Rests on 17_line_links.md R355, R358, R359, R360,
R363. -/
def Obligations.Frames : Prop :=
  -- a good header is forwarded at the ports of its route
  (∀ (p : Fin 4) (f : Frame) (s : State), s.receives p = true → f.headerOk = true → f.typ ≠ 3 → f.typ ≠ 4 → f.typ ≠ 10
    → s.isUp p = true → (s.route1 p f).expired = false → (s.route1 p f).unreach = false → ∃ t, exec
    (.frameHeaderReceive p f) s = .next t ∧ t.regs = s.regs ∧ ∀ q ∈ (s.route1 p f).outs, (s.route1 p f).frame ∈ t.txq
    q) ∧
  -- a TTL that has run out is counted and flagged
  (∀ (p : Fin 4) (f : Frame) (s : State), s.receives p = true → f.headerOk = true → f.typ ≠ 3 → f.typ ≠ 4 → f.typ ≠ 10
    → s.isUp p = true → (s.route1 p f).expired = true → (s.route1 p f).unreach = false → ∃ t, exec
    (.frameHeaderReceive p f) s = .next t ∧ t.fld (.LNK_P_CNT2 p) Fld.LNK_P_CNT2_HI = min 65535 (s.fld (.LNK_P_CNT2 p)
    Fld.LNK_P_CNT2_HI + 1) ∧ t.bit .LNK_FLAG 5 = true) ∧
  -- a frame without a way is counted and flagged
  (∀ (p : Fin 4) (f : Frame) (s : State), s.receives p = true → f.headerOk = true → f.typ ≠ 3 → f.typ ≠ 4 → f.typ ≠ 10
    → s.isUp p = true → (s.route1 p f).expired = false → (s.route1 p f).unreach = true → ∃ t, exec
    (.frameHeaderReceive p f) s = .next t ∧ t.fld (.LNK_P_CNT2 p) Fld.LNK_P_CNT2_LO = min 65535 (s.fld (.LNK_P_CNT2 p)
    Fld.LNK_P_CNT2_LO + 1) ∧ t.bit .LNK_FLAG 4 = true) ∧
  -- a bad header is counted and flagged and goes nowhere
  (∀ (p : Fin 4) (f : Frame) (s : State), s.receives p = true → f.headerOk = false → ∃ t, exec (.frameHeaderReceive p
    f) s = .next t ∧ t.fld (.LNK_P_CNT0 p) Fld.LNK_P_CNT0_LO = min 65535 (s.fld (.LNK_P_CNT0 p) Fld.LNK_P_CNT0_LO + 1)
    ∧ t.bit .LNK_FLAG 10 = true ∧ t.ln = s.ln) ∧
  -- a bad frame CRC raises LINK_CRC and is counted at its destination
  (∀ (p : Fin 4) (f : Frame) (s : State), s.receives p = true → f.headerOk = true → f.eof = true → f.crc ≠ f.crcOf →
    (f.typ = 3 ∨ s.isUp p = true) → ∃ t, exec (.frameCrcFail p f) s = .next t ∧ t.latched (240 + p) = true ∧
    ((s.route1 p f).here = true → t.fld (.LNK_P_CNT0 p) Fld.LNK_P_CNT0_HI = min 65535 (s.fld (.LNK_P_CNT0 p)
    Fld.LNK_P_CNT0_HI + 1))) ∧
  -- a CHECK carries the time, the port and whether one was received
  (∀ (p : Fin 4) (s : State), s.powered .link = true → s.portSt p ≠ 0 → ∃ t, exec (.checkTransmit p) s = .next t ∧
    t.regs = s.regs ∧ Frame.make 3 3 false 0 s.ownAddr 0 0 none (timeLo s.clock.station) (p * 16384 + 8192 * b2n
    (s.ln.checked.contains p)) [] ∈ t.txq p) ∧
  -- a good CHECK shows the neighbour, and a LOST port checks again
  (∀ (p : Fin 4) (f : Frame) (s : State), s.receives p = true → f.good = true → f.typ = 3 → (s.portSt p ≠ 3 ∨ wbit
    f.w3 29 = true ∨ s.ln.half.get p.val 0 = 0) → ∃ t, exec (.checkReceive p f) s = .next t ∧ t.fld (.LNK_P_STATE p)
    Fld.LNK_P_STATE_NBRADDR = f.src ∧ t.fld (.LNK_P_STATE p) Fld.LNK_P_STATE_NBRPORT = getF f.w3 ⟨31, 30⟩ ∧ t.bit
    (.LNK_P_STATE p) 9 = wbit f.w3 29 ∧ t.portSt p = (if s.portSt p = 4 then 2 else s.portSt p) ∧ p.val ∈
    t.ln.checked) ∧
  -- the second CHECK without RXOK is a half loss
  (∀ (p : Fin 4) (f : Frame) (s : State), s.receives p = true → f.good = true → f.typ = 3 → s.portSt p = 3 → wbit f.w3
    29 = false → 1 ≤ s.ln.half.get p.val 0 → ∃ t, exec (.checkReceive p f) s = .next t ∧ t.portSt p = 4 ∧ t.bit
    .LNK_FLAG 2 = true ∧ t.bit .LNK_FLAG 1 = true ∧ t.latched (244 + p) = true) ∧
  -- an aligned port checks
  (∀ (p : Fin 4) (s : State), s.powered .link = true → s.portSt p = 1 → exec (.portAligned p) s = .next (s.setPort p
    2)) ∧
  -- a loss while checking aligns again
  (∀ (p : Fin 4) (s : State), s.powered .link = true → s.portSt p = 2 → exec (.alignLost p) s = .next (s.setPort p 1)) ∧
  -- a port comes up
  (∀ (p : Fin 4) (s : State), s.powered .link = true → s.portSt p = 2 → s.bit (.LNK_P_STATE p) 9 = true → ∃ t, exec
    (.portUp p) s = .next t ∧ t.portSt p = 3 ∧ t.bit .LNK_FLAG 0 = true ∧ t.bit (.FLT_LIVE ((244 + p) / 32)) ((244 +
    p) % 32) = false ∧ t.bit (.TIM_DELAY p) 31 = false) ∧
  -- no CHECK for its time loses a port
  (∀ (p : Fin 4) (s : State), s.isUp p = true → ∃ t, exec (.checkTimeout p) s = .next t ∧ t.portSt p = 4 ∧ t.latched
    (244 + p) = true ∧ t.bit .LNK_FLAG 1 = true ∧ p.val ∉ t.ln.checked) ∧
  -- and only forgets the CHECK of one that is not up
  (∀ (p : Fin 4) (s : State), s.isUp p = false → exec (.checkTimeout p) s = .next
    { s with ln := { s.ln with checked := s.ln.checked.filter (· != p.val) } }) ∧
  -- a loss of signal loses a port
  (∀ (p : Fin 4) (s : State), s.isUp p = true → ∃ t, exec (.losAssert p) s = .next t ∧ t.portSt p = 4 ∧ t.latched (244
    + p) = true ∧ t.bit .LNK_FLAG 1 = true)

/-- Line registers, trips and routes. Which root a ROUTE frame is judged by is DEDUCED (log 123). Rests on
17_line_links.md R358, R366, R371, R373, R374. -/
def Obligations.LineRegisters : Prop :=
  -- LNK_CFG is stored, REMCFG not over the Line, and the ports follow
  (∀ (i : Iface) (v : Word) (s : State), s.takes .LNK_CFG = true → ∃ t, exec (.lnkCfgWrite i v 0xF#4) s = .next t ∧
    t.rd .LNK_CFG = (s.rd .LNK_CFG &&& ~~~ Reg.rw .LNK_CFG) ||| ((if i = .line then wputBit v 30 (s.bit .LNK_CFG 30)
    else v) &&& Reg.rw .LNK_CFG) ∧ ∀ p ∈ List.range 4, t.portSt p = if t.portWanted p then (if s.portSt p = 0 then 1
    else s.portSt p) else 0) ∧
  -- the second word of a route entry is staged
  (∀ (i : Iface) (e : Fin 64) (v : Word) (s : State), s.takes (.LNK_RT_B e) = true → exec (.rtBWrite i e v 0xF#4) s =
    .next { s with ln := { s.ln with stagedB := s.ln.stagedB.set e.val (v &&& Reg.rw (.LNK_RT_B e)) } }) ∧
  -- the first word applies both
  (∀ (i : Iface) (e : Fin 64) (v b : Word) (s : State), s.takes (.LNK_RT_A e) = true → s.ln.stagedB.lookup e.val =
    some b → ∃ t, exec (.rtAWrite i e v 0xF#4) s = .next t ∧ t.rd (.LNK_RT_A e) = (s.rd (.LNK_RT_A e) &&& ~~~ Reg.rw
    (.LNK_RT_A e)) ||| (v &&& Reg.rw (.LNK_RT_A e)) ∧ t.rd (.LNK_RT_B e) = b ∧ t.ln.stagedB.lookup e.val = none) ∧
  -- TRIPCTL with its key sends a TRIP at every UP port and counts it
  (∀ (i : Iface) (v : Word) (s : State), s.takes .LNK_TRIPCTL = true → i ≠ .line → wbit v 31 = true → getF v
    Fld.LNK_TRIPCTL_KEY = 0xE1 → ∃ t, exec (.tripSend i v 0xF#4) s = .next t ∧ t.fld .LNK_TRIPCNT Fld.LNK_TRIPCNT_SENT
    = min 65535 (s.fld .LNK_TRIPCNT Fld.LNK_TRIPCNT_SENT + 1) ∧ t.ln.tseq = (s.ln.tseq + 1) % 256 ∧ t.bit .LNK_FLAG 9
    = true ∧ ∀ p ∈ s.upPorts, ∃ f ∈ t.txq p, f.typ = 4) ∧
  -- without it, or over the Line, nothing is sent
  (∀ (i : Iface) (v : Word) (s : State), s.takes .LNK_TRIPCTL = true → (i = .line ∨ wbit v 31 = false ∨ getF v
    Fld.LNK_TRIPCTL_KEY ≠ 0xE1) → exec (.tripSend i v 0xF#4) s = .next s) ∧
  -- a new TRIP latches source 248 and is recorded
  (∀ (p : Fin 4) (f : Frame) (s : State), s.forHere p f 4 = true → (f.src ≠ s.ownAddr ∨ f.arg0.toNat / 65536 ≠ (s.rd
    .LNK_UID_LO).toNat % 65536) → tripKey f ∉ s.ln.keys → ∃ t, exec (.tripReceive p f) s = .next t ∧ t.latched 248 =
    true ∧ tripKey f ∈ t.ln.keys ∧ t.fld .LNK_TRIPLAST Fld.LNK_TRIPLAST_ORIGIN = f.src ∧ t.fld .LNK_TRIPLAST
    Fld.LNK_TRIPLAST_PORT = p.val ∧ t.fld .LNK_TRIPLAST Fld.LNK_TRIPLAST_FSRC = f.arg0.toNat % 256 ∧ t.fld
    .LNK_TRIPCNT Fld.LNK_TRIPCNT_RECV = min 65535 (s.fld .LNK_TRIPCNT Fld.LNK_TRIPCNT_RECV + 1)) ∧
  -- a known TRIP is dropped
  (∀ (p : Fin 4) (f : Frame) (s : State), tripKey f ∈ s.ln.keys → exec (.tripReceive p f) s = .next s) ∧
  -- the oldest key expires
  (∀ (s : State), exec .tripKeyExpiry s = .next { s with ln := { s.ln with keys := s.ln.keys.dropLast } }) ∧
  -- a ROUTE frame writes its entries
  (∀ (p : Fin 4) (f : Frame) (a n u e r : Nat) (s : State), s.forHere p f 8 = true → a = (f.word 0).toNat % 256 → n =
    (f.word 0).toNat / 256 % 256 → 1 ≤ n → n ≤ 30 → f.payload.length = 8 + 8 * n → s.ln.lastSurvey = some (u, e, r) →
    s.notLower e u = true → ∃ t, exec (.routeReceive p f) s = .next t ∧ t.bit .LNK_FLAG 8 = true ∧ ∀ j ∈ List.range n,
    a + j < 64 → t.rd (.LNK_RT_A (a + j)) = f.word (2 + 2 * j) &&& Reg.rw (.LNK_RT_A 0) ∧ t.rd (.LNK_RT_B (a + j)) =
    f.word (3 + 2 * j) &&& Reg.rw (.LNK_RT_B 0))

/-- The survey. Epochs and the moment of assignment are DEDUCED and a DESIGN CHOICE (logs 120 and 121). Rests on
17_line_links.md R367, R368, R370. -/
def Obligations.LineSurvey : Prop :=
  -- LINE_SURVEY of the root begins with the next epoch
  (∀ (k : Nat) (s : State), s.begins 0xC1 k → s.ln.survey = none → s.bit .LNK_CFG 31 = true → 1 ≤ getF (s.slot k).p0
    ⟨12, 8⟩ → getF (s.slot k).p0 ⟨12, 8⟩ ≤ 24 → (s.slot k).cancelled = false → ∃ t, exec (.lineSurvey .advance) s =
    .next t ∧ t.bit .LNK_STATUS 5 = true ∧ t.ln.survey.map (·.slot) = some k ∧ t.ln.survey.map (·.epoch) = some
    ((s.fld .LNK_ADDR Fld.LNK_ADDR_EPOCH + 1) % 65536)) ∧
  -- without ROOT it ends with 0x60
  (∀ (k : Nat) (s : State), s.begins 0xC1 k → s.ln.survey = none → s.bit .LNK_CFG 31 = false → ∃ t, exec (.lineSurvey
    .advance) s = .next t ∧ t.ended k 0x60 ∧ t.ln = s.ln) ∧
  -- after exploration it ends with 0, or 0x61 for an exhausted pool, and shows the stations
  (∀ (v : Survey) (k : Nat) (s : State), s.runningSlot 3 = some k → (s.slot k).op = 0xC1 → s.ln.survey = some v →
    v.todo = [] → v.probes = [] → (s.slot k).cancelled = false → ∃ t, exec (.lineSurvey .advance) s = .next t ∧
    t.ended v.slot (if (s.assignAddrs v.keep v.found []).2.2 then 0x61 else 0) ∧ t.ln.survey = none ∧ t.bit
    .LNK_STATUS 5 = false ∧ t.fld .LNK_STATUS Fld.LNK_STATUS_STATIONS = v.found.length % 65536) ∧
  -- a REPLY of a new station adds it
  (∀ (v : Survey) (p : Fin 4) (f : Frame) (s : State), s.ln.survey = some v → s.forHere p f 6 = true →
    f.payload.length = 32 → (∃ b ∈ v.probes, b.path = f.backPath p) → (f.word 2).toNat / 65536 < v.epoch → v.byUid
    ((f.word 0).toNat + 2 ^ 32 * (f.word 1).toNat) = none → (f.backPath p).length ≤ v.maxhop → (s.slot
    v.slot).cancelled = false → ∃ t, exec (.replyReceive p f) s = .next t ∧ (t.ln.survey.map fun w => w.found.map
    (·.uid)) = some (v.found.map (·.uid) ++ [(f.word 0).toNat + 2 ^ 32 * (f.word 1).toNat]) ∧ t.regs = s.regs) ∧
  -- a REPLY of a higher epoch ends it with 0x63
  (∀ (v : Survey) (p : Fin 4) (f : Frame) (s : State), s.ln.survey = some v → s.forHere p f 6 = true →
    f.payload.length = 32 → (∃ b ∈ v.probes, b.path = f.backPath p) → v.epoch < (f.word 2).toNat / 65536 → ∃ t, exec
    (.replyReceive p f) s = .next t ∧ t.ended v.slot 0x63 ∧ t.ln.survey = none ∧ t.bit .LNK_FLAG 7 = true) ∧
  -- a probe without a REPLY is sent again
  (∀ (v : Survey) (b : Probe) (l : List Probe) (s : State), s.ln.survey = some v → v.probes = b :: l → b.retries ≠ 0 →
    (s.slot v.slot).cancelled = false → ∃ t, exec .probeTimeout s = .next t ∧ t.ln.survey = some
    { v with probes := l ++ [{ b with retries := b.retries - 1 }] } ∧ t.regs = s.regs) ∧
  -- or is given up
  (∀ (v : Survey) (b : Probe) (l : List Probe) (s : State), s.ln.survey = some v → v.probes = b :: l → b.retries = 0 →
    v.todo = [] → (s.slot v.slot).cancelled = false → ∃ t, exec .probeTimeout s = .next t ∧ t.ln.survey = some
    { v with probes := l } ∧ t.regs = s.regs) ∧
  -- a SURVEY is answered by a REPLY with this station's words
  (∀ (p : Fin 4) (f : Frame) (s : State), s.forHere p f 5 = true → f.payload.length = 16 → ∃ t, exec (.surveyReceive p
    f) s = .next t ∧ t.ln.lastSurvey = some ((f.word 0).toNat % 65536, (f.word 2).toNat % 65536, (f.word 2).toNat /
    65536) ∧ ∃ g ∈ t.txq p, g.typ = 6 ∧ g.payload = bytesOfWords [s.rd .LNK_UID_LO, s.rd .LNK_UID_HI, s.rd .LNK_ADDR,
    s.addrSlot, s.rd (.LNK_P_STATE 0), s.rd (.LNK_P_STATE 1), s.rd (.LNK_P_STATE 2), s.rd (.LNK_P_STATE 3)]) ∧
  -- an ASSIGN for this station is taken over
  (∀ (u e r : Nat) (p : Fin 4) (f : Frame) (s : State), s.forHere p f 7 = true → f.payload.length = 16 → f.word 0 =
    s.rd .LNK_UID_LO → f.word 1 = s.rd .LNK_UID_HI → s.ln.lastSurvey = some (u, e, r) → s.notLower ((f.word 2).toNat /
    65536) u = true → ∃ t, exec (.assignReceive p f) s = .next t ∧ t.rd .LNK_ADDR = BitVec.ofNat 32 ((f.word 2).toNat
    % 4096 + 4096 * ((f.word 2).toNat / 4096 % 4) + 65536 * ((f.word 2).toNat / 65536)) ∧ t.fld .LNK_ROOT
    Fld.LNK_ROOT_ADDR = (f.word 3).toNat % 4096 ∧ t.fld .LNK_DEFAULT Fld.LNK_DEFAULT_PORT = p.val ∧ t.bit .LNK_DEFAULT
    7 = true ∧ t.bit .LNK_FLAG 3 = true)

/-- Flows. The layout of a ring slot and the moment of execution are the model's (logs 125 and 128). Rests on
18_line_flows_time.md R378, R379, R380, R381, R382, R383, R386, R388. -/
def Obligations.Flows : Prop :=
  -- FLW_OPEN opens a closed context with a new incarnation
  (∀ (f : Nat) (k : Nat) (s : State), s.begins 0xC3 k → f = getF (s.slot k).p0 ⟨6, 0⟩ → s.flowSt f = 0 → getF (s.slot
    k).p0 ⟨31, 20⟩ ≠ 0 → getF (s.slot k).p0 ⟨31, 20⟩ ≠ 4095 → (s.slot k).p1.toNat % 4 = 0 → s.badSource (s.slot
    k).p1.toNat 4352 = false → ∃ t, exec (.flwOpen .advance) s = .next t ∧ t.ended k 0 ∧ t.flowSt f = 1 ∧ t.fld
    (.FLW_F_CFG f) Fld.FLW_F_CFG_PEER = getF (s.slot k).p0 ⟨31, 20⟩ ∧ t.fld (.FLW_F_CFG f) Fld.FLW_F_CFG_PFLOW = getF
    (s.slot k).p0 ⟨14, 8⟩ ∧ t.fld (.FLW_F_CFG f) Fld.FLW_F_CFG_CLASS = getF (s.slot k).p0 ⟨17, 16⟩ ∧ t.rd
    (.FLW_F_RXBASE f) = (s.slot k).p1 ∧ t.rd (.FLW_F_SEQ f) = 0#32 ∧ t.rd (.FLW_F_RX f) = 0#32 ∧ t.flow f = {} ∧
    t.flowInc f = (if s.flowInc f = 65535 then 1 else s.flowInc f + 1)) ∧
  -- an open one ends it with 0x66
  (∀ (f : Nat) (k : Nat) (s : State), s.begins 0xC3 k → f = getF (s.slot k).p0 ⟨6, 0⟩ → s.flowSt f ≠ 0 → ∃ t, exec
    (.flwOpen .advance) s = .next t ∧ t.ended k 0x66 ∧ t.fw = s.fw) ∧
  -- FLW_CLOSE of one with nothing outstanding closes it
  (∀ (f : Nat) (k : Nat) (s : State), s.begins 0xC4 k → f = getF (s.slot k).p0 ⟨6, 0⟩ → (s.flowSt f = 3 ∨ s.flowSt f ≠
    0 ∧ (s.flow f).out = []) → ∃ t, exec (.flwClose .advance) s = .next t ∧ t.ended k 0 ∧ t.flowSt f = 0) ∧
  -- else it waits in CLOSING
  (∀ (f : Nat) (k : Nat) (s : State), s.begins 0xC4 k → f = getF (s.slot k).p0 ⟨6, 0⟩ → (s.flowSt f = 1 ∨ s.flowSt f =
    2) → (s.flow f).out ≠ [] → ∃ t, exec (.flwClose .advance) s = .next t ∧ (t.slot k).st = (s.slot k).st ∧ t.flowSt f
    = 2 ∧ (t.flow f).closing = some k) ∧
  -- of a closed one it ends with 0x67
  (∀ (f : Nat) (k : Nat) (s : State), s.begins 0xC4 k → f = getF (s.slot k).p0 ⟨6, 0⟩ → s.flowSt f = 0 → ∃ t, exec
    (.flwClose .advance) s = .next t ∧ t.ended k 0x67) ∧
  -- a send takes the next sequence number
  (∀ (i : Iface) (v : Word) (f : Nat) (s : State), s.takes .FLW_TXGO = true → f = getF v Fld.FLW_TXGO_FLOW → getF v
    Fld.FLW_TXGO_TYPE ≠ 0 → s.flowSt f = 1 → s.txFull f = false → lenOk (getF v Fld.FLW_TXGO_LEN) = true → (s.bank
    i).txAddr.toNat + getF v Fld.FLW_TXGO_LEN ≤ 0x40000 → ∃ t, exec (.flowSend i v 0xF#4) s = .next t ∧ t.txNext f =
    (s.txNext f + 1) % 65536 ∧ (t.flow f).out = (s.flow f).out ++
    [{ seq := s.txNext f, typ := txType (getF v Fld.FLW_TXGO_TYPE), addr := (s.bank i).txAddr.toNat, len := getF v Fld.FLW_TXGO_LEN }]
    ∧ (t.bank i).txRes = BitVec.ofNat 32 (s.txNext f)) ∧
  -- or is refused with its code
  (∀ (i : Iface) (v : Word) (f : Nat) (s : State), s.takes .FLW_TXGO = true → f = getF v Fld.FLW_TXGO_FLOW → getF v
    Fld.FLW_TXGO_TYPE ≠ 0 → (s.flowSt f ≠ 1 ∨ s.txFull f = true ∨ lenOk (getF v Fld.FLW_TXGO_LEN) = false ∨ 0x40000 <
    (s.bank i).txAddr.toNat + getF v Fld.FLW_TXGO_LEN) → ∃ t, exec (.flowSend i v 0xF#4) s = .next t ∧ (t.bank
    i).txRes = BitVec.ofNat 32 (65536 * (if s.flowSt f ≠ 1 then 1 else if s.txFull f then 2 else if lenOk (getF v
    Fld.FLW_TXGO_LEN) = false then 3 else 4)) ∧ t.bit .FLW_FLAG 4 = true ∧ t.fw = s.fw) ∧
  -- RXREAD moves up to RXNEXT
  (∀ (i : Iface) (f : Fin 128) (v : Word) (s : State), s.takes (.FLW_F_RX f) = true → exec (.rxreadWrite i f v 0xF#4)
    s = .next (if seqDiff (getF v Fld.FLW_F_RX_RXREAD) (s.rxRead f) ≤ seqDiff (s.rxNext f) (s.rxRead f) then s.put
    (.FLW_F_RX f) Fld.FLW_F_RX_RXREAD (getF v Fld.FLW_F_RX_RXREAD) else s)) ∧
  -- a frame in sequence is delivered with its descriptor
  (∀ (p : Fin 4) (f : Frame) (s : State), (s.flowTakes p f 1 = true ∨ s.flowTakes p f 12 = true) → s.memOk → (s.src
    200).queued = none → (s.flow f.flow).held = [] → ((s.flow f.flow).bound = none ∨ (s.flow f.flow).bound = some
    (getF f.arg0 ⟨15, 0⟩)) → getF f.arg0 ⟨31, 16⟩ = s.rxNext f.flow → seqDiff (getF f.arg0 ⟨31, 16⟩) (s.rxRead f.flow)
    < 16 → ∃ t, exec (.dataReceive p ⟨f, false⟩) s = .next t ∧ t.rxNext f.flow = (s.rxNext f.flow + 1) % 65536 ∧ t.bit
    .FLW_FLAG 0 = true ∧ (t.flow f.flow).bound = some (getF f.arg0 ⟨15, 0⟩) ∧ (t.flow f.flow).held = [] ∧ t.word
    (s.rxSlot f.flow (s.rxNext f.flow)) = BitVec.ofNat 32 (2 ^ 28 * f.typ + s.rxNext f.flow) ∧ t.word (s.rxSlot f.flow
    (s.rxNext f.flow) + 4) = BitVec.ofNat 32 f.payload.length) ∧
  -- whose store the encoder finds wrong halts the channel of its port and stays undelivered
  (∀ (p : Fin 4) (f : Frame) (s : State), (s.flowTakes p f 1 = true ∨ s.flowTakes p f 12 = true) → f.payload ≠ [] →
    (s.flow f.flow).held = [] → (s.flow f.flow).closing = none → (s.flow f.flow).bound = some (getF f.arg0 ⟨15, 0⟩) →
    getF f.arg0 ⟨31, 16⟩ = s.rxNext f.flow → seqDiff (getF f.arg0 ⟨31, 16⟩) (s.rxRead f.flow) < 16 → ∃ t, exec
    (.dataReceive p ⟨f, true⟩) s = .next t ∧ t.rd (.FLW_F_RX f.flow) = s.rd (.FLW_F_RX f.flow) ∧ t.bit .MEM_DMASTAT (4 +
    p) = true ∧ t.bit .MEM_FLAG 2 = true ∧ t.latched 233 = true ∧ t.mem = s.mem) ∧
  -- a newer incarnation breaks the context
  (∀ (b : Nat) (p : Fin 4) (f : Frame) (x : Bool) (s : State), (s.flowTakes p f 1 = true ∨ s.flowTakes p f 12 = true)
    → (s.flow f.flow).bound = some b → getF f.arg0 ⟨15, 0⟩ ≠ b → seqDiff (getF f.arg0 ⟨15, 0⟩) b < 32768 → (s.flow
    f.flow).closing = none → ∃ t, exec (.dataReceive p ⟨f, x⟩) s = .next t ∧ t.flowSt f.flow = 3 ∧ t.bit .FLW_FLAG 2 =
    true ∧ (t.flow f.flow).out = []) ∧
  -- an older one is flagged and dropped
  (∀ (b : Nat) (p : Fin 4) (f : Frame) (x : Bool) (s : State), (s.flowTakes p f 1 = true ∨ s.flowTakes p f 12 = true)
    → (s.flow f.flow).bound = some b → getF f.arg0 ⟨15, 0⟩ ≠ b → 32768 ≤ seqDiff (getF f.arg0 ⟨15, 0⟩) b → ∃ t, exec
    (.dataReceive p ⟨f, x⟩) s = .next t ∧ t.bit .FLW_FLAG 3 = true ∧ t.fw = s.fw ∧ t.rd (.FLW_F_RX f.flow) = s.rd
    (.FLW_F_RX f.flow)) ∧
  -- a remote read is executed and answered with status 0
  (∀ (p : Fin 4) (f : Frame) (s : State), s.flowTakes p f 9 = true → remOp f.payload = 1 → s.remStatus f.payload = 0 →
    s.flowSt f.flow = 1 → s.txFull f.flow = false → (s.flow f.flow).held = [] → ((s.flow f.flow).bound = none ∨
    (s.flow f.flow).bound = some (getF f.arg0 ⟨15, 0⟩)) → getF f.arg0 ⟨31, 16⟩ = s.rxNext f.flow → seqDiff (getF
    f.arg0 ⟨31, 16⟩) (s.rxRead f.flow) < 16 → ∃ t, exec (.remoteReceive p ⟨f, false⟩) s = .next t ∧ t.rxNext f.flow =
    (s.rxNext f.flow + 1) % 65536 ∧ ∃ y ∈ (t.flow f.flow).out, y.seq = s.txNext f.flow ∧ y.typ = 9 ∧ y.len = 8 + 4 *
    remCount f.payload ∧ y.own.map (fun l => remWord l 1) = some 0#32) ∧
  -- a refused one is answered with its status
  (∀ (p : Fin 4) (f : Frame) (s : State), s.flowTakes p f 9 = true → remOp f.payload < 128 → s.remStatus f.payload ≠ 0
    → s.flowSt f.flow = 1 → s.txFull f.flow = false → (s.flow f.flow).held = [] → ((s.flow f.flow).bound = none ∨
    (s.flow f.flow).bound = some (getF f.arg0 ⟨15, 0⟩)) → getF f.arg0 ⟨31, 16⟩ = s.rxNext f.flow → seqDiff (getF
    f.arg0 ⟨31, 16⟩) (s.rxRead f.flow) < 16 → ∃ t, exec (.remoteReceive p ⟨f, false⟩) s = .next t ∧ t.bit .FLW_FLAG 5 =
    true ∧ ∃ y ∈ (t.flow f.flow).out, y.seq = s.txNext f.flow ∧ y.typ = 9 ∧ y.own.map (fun l => remWord l 1) = some
    (BitVec.ofNat 32 (s.remStatus f.payload))) ∧
  -- an ACK confirms frames
  (∀ (n : Nat) (p : Fin 4) (f : Frame) (s : State), s.flowTakes p f 2 = true → getF f.arg0 ⟨15, 0⟩ = s.flowInc f.flow
    → n = seqDiff (getF f.arg0 ⟨31, 16⟩) (s.txAck f.flow) → 1 ≤ n → n ≤ (s.flow f.flow).out.length → s.flowSt f.flow =
    1 → (s.flow f.flow).held = [] → ∃ t, exec (.ackReceive p f) s = .next t ∧ (t.flow f.flow).out = (s.flow
    f.flow).out.drop n ∧ (t.flow f.flow).limit = f.arg1 ∧ t.txAck f.flow = getF f.arg0 ⟨31, 16⟩ ∧ t.fld (.FLW_F_CFG
    f.flow) Fld.FLW_F_CFG_RETRIES = 0 ∧ t.bit .FLW_FLAG 1 = true) ∧
  -- the last ACK of a closing context closes it
  (∀ (n k : Nat) (p : Fin 4) (f : Frame) (s : State), s.flowTakes p f 2 = true → getF f.arg0 ⟨15, 0⟩ = s.flowInc
    f.flow → n = seqDiff (getF f.arg0 ⟨31, 16⟩) (s.txAck f.flow) → n = (s.flow f.flow).out.length → s.flowSt f.flow =
    2 → (s.flow f.flow).closing = some k → ∃ t, exec (.ackReceive p f) s = .next t ∧ t.flowSt f.flow = 0 ∧ t.ended k
    0) ∧
  -- a time-out sends again and counts
  (∀ (f : Fin 128) (s : State), s.powered .link = true → s.flowLive f = true → (s.flow f).out ≠ [] → (s.flow f).tries
    + 1 < max 1 (s.fld .FLW_CFG Fld.FLW_CFG_RETRY) → ∃ t, exec (.retransmitTimeout f) s = .next t ∧ (t.flow f).tries =
    (s.flow f).tries + 1 ∧ (t.flow f).out = (s.flow f).out ∧ t.fld (.FLW_F_CFG f) Fld.FLW_F_CFG_RETRIES = min 15
    ((s.flow f).tries + 1) ∧ t.fld .FLW_STAT Fld.FLW_STAT_RETX = min 65535 (s.fld .FLW_STAT Fld.FLW_STAT_RETX + 1)) ∧
  -- the last one breaks the context
  (∀ (f : Fin 128) (s : State), s.powered .link = true → s.flowSt f = 1 → (s.flow f).out ≠ [] → max 1 (s.fld .FLW_CFG
    Fld.FLW_CFG_RETRY) ≤ (s.flow f).tries + 1 → ∃ t, exec (.retransmitTimeout f) s = .next t ∧ t.flowSt f = 3 ∧
    (t.flow f).out = [] ∧ t.bit .FLW_FLAG 2 = true) ∧
  -- fabric records go out as an EVENT frame
  (∀ (f : Nat) (s : State), f = s.fld .FLW_EVTFWD Fld.FLW_EVTFWD_FLOW → s.powered .link = true → s.bit .FLW_EVTFWD 31
    = true → s.qEmpty 2 = false → s.flowSt f = 1 → s.txFull f = false → ∃ t, exec .eventForward s = .next t ∧ t.txNext
    f = (s.txNext f + 1) % 65536 ∧ ∃ y ∈ (t.flow f).out, y.seq = s.txNext f ∧ y.typ = 12) ∧
  -- or are held with a flag
  (∀ (f : Nat) (s : State), f = s.fld .FLW_EVTFWD Fld.FLW_EVTFWD_FLOW → s.powered .link = true → s.bit .FLW_EVTFWD 31
    = true → s.qEmpty 2 = false → (s.flowSt f ≠ 1 ∨ s.txFull f = true) → ∃ t, exec .eventForward s = .next t ∧ t.bit
    .FLW_FLAG 6 = true ∧ t.rd (.EVT_QPTR 2) = s.rd (.EVT_QPTR 2))

/-- Station time and marks. Exact time between ticks is DEDUCED (log 133). Rests on 18_line_flows_time.md R391, R393,
R394, R395, R396. -/
def Obligations.StationTime : Prop :=
  -- each period sends a REQ at every UP port
  (∀ (s : State), ∃ t, exec .syncPeriod s = .next t ∧ t.regs = s.regs ∧ ∀ p ∈ s.upPorts, ∃ f ∈ t.txq p, f.typ = 10 ∧
    timeKind f = 2) ∧
  -- a SYNC with a small error trims the rate and shows the offset
  (∀ (e : Rat) (p : Fin 4) (f : Frame) (s : State), s.timeIn p f 1 16 = true → s.isRoot = false → s.syncPort = some
    p.val → leNat ((f.payload.drop 12).take 2) = s.fld .LNK_ADDR Fld.LNK_ADDR_EPOCH → leNat ((f.payload.drop 14).take
    2) = s.fld .LNK_ROOT Fld.LNK_ROOT_ADDR → e = (stampAt f.payload 0 + (s.fld (.TIM_DELAY p) Fld.TIM_DELAY_DELAY :
    Rat) - s.timeTenths) → -10000 ≤ e → e ≤ 10000 → ∃ t, exec (.syncReceive p f) s = .next t ∧ t.fld .TIM_STATUS
    Fld.TIM_STATUS_DEPTH = (leNat ((f.payload.drop 10).take 1) + 1) % 256 ∧ t.fld .TIM_OFFSET Fld.TIM_OFFSET_OFS =
    ofSigned 16 (clampI (-32768) 32767 (roundOpen e)) ∧ t.fld .TIM_OFFSET Fld.TIM_OFFSET_FADJ = ofSigned 16 (clampI
    (-10000) 10000 (roundOpen (e * 10000 / (max 100 (s.fld .TIM_CFG Fld.TIM_CFG_SYNCP) : Nat)))) ∧ t.tm.good = (if -50
    ≤ e ∧ e ≤ 50 then s.tm.good + 1 else 0) ∧ t.clock = s.clock ∧ (s.timSt = 3 → (t.timSt = 3 ↔ -100 ≤ e ∧ e ≤ 100))) ∧
  -- a large error steps the time
  (∀ (e : Rat) (p : Fin 4) (f : Frame) (s : State), s.timeIn p f 1 16 = true → s.isRoot = false → s.syncPort = some
    p.val → leNat ((f.payload.drop 12).take 2) = s.fld .LNK_ADDR Fld.LNK_ADDR_EPOCH → leNat ((f.payload.drop 14).take
    2) = s.fld .LNK_ROOT Fld.LNK_ROOT_ADDR → e = (stampAt f.payload 0 + (s.fld (.TIM_DELAY p) Fld.TIM_DELAY_DELAY :
    Rat) - s.timeTenths) → (e < -10000 ∨ 10000 < e) → ∃ t, exec (.syncReceive p f) s = .next t ∧ t.timSt = 2 ∧ t.bit
    .TIM_FLAG 2 = true ∧ t.clock.station = (s.stepTime (s.timeTenths + e)).clock.station ∧ t.tm.good = 0) ∧
  -- a REQ is answered with the times
  (∀ (p : Fin 4) (f : Frame) (s : State), s.timeIn p f 2 16 = true → ∃ t, exec (.reqReceive p f) s = .next t ∧ t.regs
    = s.regs ∧ ∃ g ∈ t.txq p, g.typ = 10 ∧ timeKind g = 3 ∧ g.payload = s.stampBytes ++ s.stampBytes ++ List.replicate
    4 0#8) ∧
  -- a RESP gives the delay
  (∀ (t1 : Rat) (p : Fin 4) (f : Frame) (s : State), s.timeIn p f 3 24 = true → s.tm.t1.lookup p.val = some t1 → ∃ t,
    exec (.respReceive p f) s = .next t ∧ t.rd (.TIM_DELAY p) = BitVec.ofNat 32 (2 ^ 31 + (clampI 0 65535 (roundOpen
    (((s.timeTenths - t1) - (stampAt f.payload 10 - stampAt f.payload 0)) / 2))).toNat) ∧ t.tm.t1.lookup p.val = none) ∧
  -- TIM_SETCTL with its key sets the time where it may
  (∀ (i : Iface) (v : Word) (s : State), s.takes .TIM_SETCTL = true → wbit v 31 = true → getF v Fld.TIM_SETCTL_KEY =
    0x7E → ∃ t, exec (.timeSet i v 0xF#4) s = .next t ∧ (if i ≠ .line ∧ (s.isRoot = true ∨ s.timSt = 1) ∧ s.fld
    .TIM_MARKSTAT Fld.TIM_MARKSTAT_ARMED = 0 then t.clock.station = BitVec.ofNat 64 ((s.rd .TIM_SET_LO).toNat + 2 ^ 32
    * (s.rd .TIM_SET_HI).toNat) ∧ t.bit .TIM_FLAG 2 = true else t.clock = s.clock ∧ t.bit .TIM_FLAG 7 = true)) ∧
  -- without a SYNC the time holds over
  (∀ (s : State), s.powered .link = true → s.isRoot = false → (s.timSt = 2 ∨ s.timSt = 3) → ∃ t, exec .holdover s =
    .next t ∧ t.timSt = 4 ∧ t.bit .TIM_FLAG 1 = true ∧ t.tm.good = 0) ∧
  -- SUMMIT_MARK of the root arms its bank
  (∀ (x : Time) (k : Nat) (s : State), s.begins 0xC2 k → x = BitVec.ofNat 64 ((s.slot k).p0.toNat + 2 ^ 32 * (s.slot
    k).p1.toNat) → s.isRoot = true → s.clock.station.toNat + 12500 ≤ x.toNat → s.armed ((s.slot k).p2.toNat % 65536 %
    4) = false → ∃ t, exec (.summitMark .advance) s = .next t ∧ t.armed ((s.slot k).p2.toNat % 65536 % 4) = true ∧
    t.tm.marks.lookup ((s.slot k).p2.toNat % 65536 % 4) = some
    { num := (s.slot k).p2.toNat % 65536, time := x, slot := some k } ∧ t.bit .TIM_FLAG 3 = true) ∧
  -- else it ends with its code
  (∀ (x : Time) (k : Nat) (s : State), s.begins 0xC2 k → x = BitVec.ofNat 64 ((s.slot k).p0.toNat + 2 ^ 32 * (s.slot
    k).p1.toNat) → (s.isRoot = false ∨ x.toNat < s.clock.station.toNat + 12500 ∨ s.armed ((s.slot k).p2.toNat % 65536
    % 4) = true) → ∃ t, exec (.summitMark .advance) s = .next t ∧ t.ended k (if s.isRoot = false then 0x60 else if
    x.toNat < s.clock.station.toNat + 12500 then 0x65 else 0x69) ∧ t.tm = s.tm) ∧
  -- a MARK of the root arms its bank, or is late
  (∀ (x : Time) (n : Nat) (p : Fin 4) (f : Frame) (s : State), s.forHere p f 11 = true → f.payload.length = 16 → f.src
    = s.fld .LNK_ROOT Fld.LNK_ROOT_ADDR → leNat ((f.payload.drop 10).take 2) = s.fld .LNK_ADDR Fld.LNK_ADDR_EPOCH → x
    = BitVec.ofNat 64 (leNat (f.payload.take 8)) → n = leNat ((f.payload.drop 8).take 2) → ∃ t, exec (.markReceive p
    f) s = .next t ∧ (if x.toNat < s.clock.station.toNat then t.tm = s.tm ∧ t.bit .TIM_FLAG 5 = true else t.armed (n %
    4) = true ∧ (t.tm.marks.lookup (n % 4)).map (fun m => (m.num, m.time, m.late, m.sampled)) = some (n, x, false,
    none) ∧ t.bit .TIM_FLAG 3 = true)) ∧
  -- the bank latches at its time
  (∀ (b : Fin 4) (m : MarkX) (s : State), s.tm.marks.lookup b.val = some m → s.powered .link = true → s.armed b = true
    → m.sampled = none → m.time.toNat ≤ s.clock.station.toNat → ∃ t, exec (.markLatch b) s = .next t ∧
    t.tm.marks.lookup b.val = some { m with sampled := some (s.bankWords m) } ∧ t.fld .TIM_MARKSTAT
    Fld.TIM_MARKSTAT_LASTNUM = m.num % 65536 ∧ (m.late = true → t.bit .TIM_FLAG 6 = true)) ∧
  -- the sampled words stand in the bank and the command completes
  (∀ (b : Fin 4) (m : MarkX) (l : List Word) (s : State), s.tm.marks.lookup b.val = some m → m.sampled = some l → ∃ t,
    exec (.timMarkdone b) s = .next t ∧ (∀ j ∈ List.range l.length, t.rd (.TIM_BANK (192 * b + j)) = l.getD j 0#32) ∧
    t.bit .TIM_MARKSTAT b = true ∧ t.armed b = false ∧ t.tm.marks.lookup b.val = none ∧ t.bit .TIM_FLAG 4 = true ∧ (∀
    k ∈ m.slot, t.ended k 0))

/-- Transactions of the two-wire bus. Transactions are atomic (log 134); the pointer after a cut and a PEC are DEDUCED
(logs 135 and 136). Rests on 19_two_wire.md R401, R403, R406, R408. -/
def Obligations.TwoWireTarget : Prop :=
  -- a word write stores the word at the window's address, and the pointer goes on by 4
  (∀ (x : TwbWrite) (hi lo : Byte) (w : Word) (s : State), s.twbOwn x.addr = true → s.twbSleeps = false → s.accepts =
    true → s.bit .TWB_CFG 31 = false → s.loader = false → x.bytes = hi :: lo :: bytesOfWords [w] → lo.toNat % 4 = 0 →
    exec (.twbWriteTransaction x) s = .next (((s.busStore .twoWire (windowAddr s.winBase (256 * hi.toNat + lo.toNat))
    w 0xF#4).setPtr (256 * hi.toNat + lo.toNat + 4)).twbDone)) ∧
  -- the pointer stands behind the applied bytes, and a page cut is reported
  (∀ (x : TwbWrite) (hi lo : Byte) (data : List Byte) (s : State), s.twbOwn x.addr = true → s.twbSleeps = false →
    s.accepts = true → s.bit .TWB_CFG 31 = false → x.bytes = hi :: lo :: data → ∃ t, exec (.twbWriteTransaction x) s =
    .next t ∧ t.twbPtr = (256 * hi.toNat + lo.toNat + min data.length (32 - lo.toNat % 32)) % 65536 ∧ (32 - lo.toNat %
    32 < data.length → t.fld .SYS_TWSTAT Fld.SYS_TWSTAT_WHY = 2 ∧ t.bit .SYS_TWSTAT 31 = true)) ∧
  -- a wrong PEC discards the write with its flag
  (∀ (x : TwbWrite) (hi lo : Byte) (data : List Byte) (p : Byte) (s : State), s.twbOwn x.addr = true → s.twbSleeps =
    false → s.accepts = true → s.bit .TWB_CFG 31 = true → x.bytes = hi :: lo :: (data ++ [p]) → p ≠ crc8 (addrByte
    x.addr false :: hi :: lo :: data) → ∃ t, exec (.twbWriteTransaction x) s = .next t ∧ t.bit .TWB_FLAG 1 = true ∧
    t.fld .SYS_TWSTAT Fld.SYS_TWSTAT_WHY = 1 ∧ t.bit .SYS_TWSTAT 31 = true ∧ t.twbPtr = s.twbPtr ∧ t.fld .TWB_CNT
    Fld.TWB_CNT_DISC = min 65535 (s.fld .TWB_CNT Fld.TWB_CNT_DISC + 1)) ∧
  -- an expiry drops a write that had begun
  (∀ (x : TwbWrite) (hi lo : Byte) (data : List Byte) (s : State), s.twbOwn x.addr = true → s.twbSleeps = false →
    s.served = true → s.wd.expired = true → s.bit .TWB_CFG 31 = false → x.begun = true → x.bytes = hi :: lo :: data →
    ∃ t, exec (.twbWriteTransaction x) s = .next t ∧ t.fld .SYS_TWSTAT Fld.SYS_TWSTAT_WHY = 4 ∧ t.bit .SYS_TWSTAT 31 =
    true ∧ t.mem = s.mem ∧ t.twbPtr = s.twbPtr) ∧
  -- another address changes nothing
  (∀ (x : TwbWrite) (y : TwbRead) (s : State), s.twbOwn x.addr = false → s.twbOwn y.addr = false → exec
    (.twbWriteTransaction x) s = .next s ∧ exec (.twbReadTransaction y) s = .next s) ∧
  -- a word read returns the word at the window's address
  (∀ (x : TwbRead) (s : State), s.twbOwn x.addr = true → s.twbSleeps = false → s.accepts = true → s.bit .TWB_CFG 31 =
    false → x.n = 4 → s.twbPtr % 4 = 0 → s.twbPtr + 4 ≤ 0xFF00 → s.loader = false → ∃ t, exec (.twbReadTransaction x)
    s = .next t ∧ t.tb.out = bytesOfWords [(s.busRead .twoWire (windowAddr s.winBase s.twbPtr)).1] ∧ t.twbPtr =
    s.twbPtr + 4) ∧
  -- a read returns the bytes asked for
  (∀ (x : TwbRead) (s : State), s.twbOwn x.addr = true → s.twbSleeps = false → s.accepts = true → ∃ t, exec
    (.twbReadTransaction x) s = .next t ∧ t.tb.out.length = x.n) ∧
  -- a time-out drops a write
  (∀ (s : State), s.accepts = true → s.twbSleeps = false → s.bit .TWB_CFG 30 = true → ∃ t, exec (.twbTimeout .write) s
    = .next t ∧ t.bit .TWB_FLAG 2 = true ∧ t.fld .SYS_TWSTAT Fld.SYS_TWSTAT_WHY = 3 ∧ t.bit .SYS_TWSTAT 31 = true ∧
    t.twbPtr = s.twbPtr) ∧
  -- or cuts a read
  (∀ (n : Nat) (s : State), s.accepts = true → s.twbSleeps = false → s.bit .TWB_CFG 30 = true → ∃ t, exec (.twbTimeout
    (.read n)) s = .next t ∧ t.tb.out.length = n ∧ t.fld .SYS_TWSTAT Fld.SYS_TWSTAT_WHY = 3) ∧
  -- the matcher NACKs in SLEEP and DEEP, and the first NACK is noted
  (∀ (s : State), (s.pw.mode = .sleep ∨ s.pw.mode = .deep) → s.pw.nack = false → ∃ t, exec .wakenack s = .next t ∧
    t.pw.nack = true ∧ (s.pw.mode = .sleep → t.bit .TWB_FLAG 3 = true))

/-- Controller transfers. Rests on 19_two_wire.md R409, R410, R411. -/
def Obligations.TwoWireController : Prop :=
  -- a legal transfer begins with its bytes
  (∀ (i : Iface) (v : Word) (s : State), s.takes .TWB_CXGO = true → wbit v 31 = true → (¬(s.tb.cx.isSome = true ∨ 32 <
    getF (s.rd .TWB_CXCFG) Fld.TWB_CXCFG_WLEN ∨ 32 < getF (s.rd .TWB_CXCFG) Fld.TWB_CXCFG_RLEN ∨ (getF (s.rd
    .TWB_CXCFG) Fld.TWB_CXCFG_WLEN = 0 ∧ getF (s.rd .TWB_CXCFG) Fld.TWB_CXCFG_RLEN = 0) ∨ getF (s.rd .TWB_CXCFG)
    Fld.TWB_CXCFG_TADDR = s.twbAddr ∨ s.badSource (s.rd .TWB_CXBUF).toNat 64 = true)) → ∃ t, exec (.cxgo i v 0xF#4) s
    = .next t ∧ t.tb.cx.map (·.cfg) = some (s.rd .TWB_CXCFG) ∧ t.tb.cx.map (·.buf) = some (s.rd .TWB_CXBUF).toNat ∧
    t.tb.cx.map (·.send.length) = some (getF (s.rd .TWB_CXCFG) Fld.TWB_CXCFG_WLEN) ∧ t.bit .TWB_STATUS 2 = true ∧
    t.bit .TWB_STATUS 1 = true) ∧
  -- another has RESULT 6
  (∀ (i : Iface) (v : Word) (s : State), s.takes .TWB_CXGO = true → wbit v 31 = true → (s.tb.cx.isSome = true ∨ 32 <
    getF (s.rd .TWB_CXCFG) Fld.TWB_CXCFG_WLEN ∨ 32 < getF (s.rd .TWB_CXCFG) Fld.TWB_CXCFG_RLEN ∨ (getF (s.rd
    .TWB_CXCFG) Fld.TWB_CXCFG_WLEN = 0 ∧ getF (s.rd .TWB_CXCFG) Fld.TWB_CXCFG_RLEN = 0) ∨ getF (s.rd .TWB_CXCFG)
    Fld.TWB_CXCFG_TADDR = s.twbAddr ∨ s.badSource (s.rd .TWB_CXBUF).toNat 64 = true) → exec (.cxgo i v 0xF#4) s =
    .next (s.put .TWB_CXSTAT Fld.TWB_CXSTAT_RESULT 6)) ∧
  -- its end shows RESULT and DONE
  (∀ (r : CxOutcome) (c : CxRun) (s : State), s.tb.cx = some c → ∃ t, exec (.cxdone r) s = .next t ∧ t.tb.cx = none ∧
    t.fld .TWB_CXSTAT Fld.TWB_CXSTAT_RESULT = cxCode r.res ∧ t.fld .TWB_CXSTAT Fld.TWB_CXSTAT_DONE = ((if r.res = .ok
    then c.send.length else min r.wrote c.send.length) + min (getF c.cfg Fld.TWB_CXCFG_RLEN) r.data.length) % 64 ∧
    t.bit .TWB_STATUS 2 = false ∧ t.bit .TWB_STATUS 1 = false ∧ t.bit .TWB_FLAG 4 = true) ∧
  -- a lost arbitration retries or ends
  (∀ (c : CxRun) (s : State), s.tb.cx = some c → ∃ t, exec .arbitrationLost s = .next t ∧ (if s.fld .TWB_CXSTAT
    Fld.TWB_CXSTAT_TRIES < getF c.cfg Fld.TWB_CXCFG_RETRY then t.tb = s.tb ∧ t.fld .TWB_CXSTAT Fld.TWB_CXSTAT_TRIES =
    s.fld .TWB_CXSTAT Fld.TWB_CXSTAT_TRIES + 1 else t.tb.cx = none ∧ t.fld .TWB_CXSTAT Fld.TWB_CXSTAT_RESULT = 4 ∧
    t.bit .TWB_FLAG 5 = true))

/-- Lookout commands that read. A reply is a list of numbers (log 141); DEDUCED codes and forms are logs 144 and 145.
Rests on 20_lookout_monitor.md R415, R419, R420, R421. -/
def Obligations.LookoutReads : Prop :=
  -- RD returns its words in groups of eight
  (∀ (a : Word) (n : Nat) (s : State), s.monServes = true → s.bit .MON_CFG 31 = false → 1 ≤ s.lookoutRights → 1 ≤ n →
    n ≤ 64 → wordRange a n = true → ∃ t, exec (.rd a n) s = .next t ∧ t.mo.status = 0 ∧ t.mo.reply = rdLines 8 a.toNat
    (({ s with mo := { s.mo with newRate := false } } : State).monRead a.toNat n).1 ∧ (n = 1 → t.mo.reply = [[a.toNat,
    (({ s with mo := { s.mo with newRate := false } } : State).busRead .lookout a.toNat).1.toNat]])) ∧
  -- a bad count or address is E 03
  (∀ (a : Word) (n : Nat) (s : State), s.monServes = true → s.bit .MON_CFG 31 = false → 1 ≤ s.lookoutRights → (n = 0 ∨
    64 < n ∨ wordRange a n = false) → exec (.rd a n) s = .next (({ s with mo := { s.mo with newRate := false } } :
    State).answer 3)) ∧
  -- WR with read-only rights is E 02 and flagged
  (∀ (a : Word) (n : Nat) (l : List Word) (s : State), s.monServes = true → s.bit .MON_CFG 31 = false →
    s.lookoutRights = 1 → ∃ t, exec (.wr a l) s = .next t ∧ t.mo.status = 2 ∧ t.bit .MON_FLAG 3 = true ∧ t.mem =
    s.mem) ∧
  -- DISABLE is E 06
  (∀ (a : Word) (n : Nat) (s : State), s.monServes = true → s.bit .MON_CFG 31 = true → exec (.rd a n) s = .next
    (({ s with mo := { s.mo with newRate := false } } : State).answer 6)) ∧
  -- RAILS lists each rail
  (∀ (lo hi : Nat) (s : State), s.monServes = true → s.bit .MON_CFG 31 = false → 1 ≤ s.lookoutRights → lo ≤ hi → hi <
    20 → ∃ t, exec (.rails lo hi) s = .next t ∧ t.mo.status = 0 ∧ t.regs = s.regs ∧ t.mo.reply.length = hi + 1 - lo ∧
    ∀ n ∈ List.range 20, lo ≤ n → n ≤ hi → [n, s.railSt n, s.fld (.RAIL_STATUS n) Fld.RAIL_STATUS_SETP, s.fld
    (.RAIL_STATUS n) Fld.RAIL_STATUS_PG, (s.rd (.RAIL_FLAG n)).toNat] ∈ t.mo.reply) ∧
  -- FLT lists each latched source and then FLT_FIRST
  (∀ (s : State), s.monServes = true → s.bit .MON_CFG 31 = false → 1 ≤ s.lookoutRights → ∃ t, exec .flt s = .next t ∧
    t.mo.status = 0 ∧ t.regs = s.regs ∧ t.mo.reply.getLast? = some [(s.rd .FLT_FIRST).toNat] ∧ ∀ f ∈ List.range 256,
    s.latched f = true → [f, s.fld (.FLT_CFG f) Fld.FLT_CFG_CLASS, s.fltCause f, s.fltCount f] ∈ t.mo.reply) ∧
  -- EV lists n records
  (∀ (q n : Nat) (s : State), s.monServes = true → s.bit .MON_CFG 31 = false → 1 ≤ s.lookoutRights → q < 3 → n ≤ 16 →
    ∃ t, exec (.ev q n) s = .next t ∧ t.mo.status = 0 ∧ t.mo.reply.length = n) ∧
  -- LOG lists the newest records
  (∀ (n : Nat) (s : State), s.monServes = true → s.bit .MON_CFG 31 = false → 1 ≤ s.lookoutRights → n ≤ 64 → s.me.soft
    = [] → s.me.votes = [] → s.me.bad = [] → ∃ t, exec (.log n) s = .next t ∧ t.mo.status = 0 ∧ t.mo.reply.length =
    min n s.recordsBySeq.length ∧ t.regs = s.regs) ∧
  -- DUMP begins with the header of the newer dump
  (∀ (o n : Nat) (s : State), s.monServes = true → s.bit .MON_CFG 31 = false → 1 ≤ s.lookoutRights → o % 4 = 0 → o + 4
    * n ≤ 0x40000 → ∃ t, exec (.dump o n) s = .next t ∧ t.mo.status = 0 ∧ t.mo.reply.head? = (s.newestBank 3).map fun
    b => (({ s with mo := { s.mo with newRate := false } } : State).monRead (bankBase 3 b) 8).1) ∧
  -- QY names the handle and shows its status
  (∀ (h : Nat) (s : State), s.monServes = true → s.bit .MON_CFG 31 = false → 1 ≤ s.lookoutRights → s.takes .CMD_QUERY
    = true → ∃ t, exec (.qy h) s = .next t ∧ t.mo.status = 0 ∧ (t.bank .lookout).query = BitVec.ofNat 32 h &&&
    0xFFFF#32 ∧ t.mo.reply.length = 1) ∧
  -- ID prints the banner
  (∀ (s : State), s.monServes = true → ∃ t, exec .id s = .next t ∧ t.mo.status = 0 ∧ t.mo.reply = [s.banner] ∧ t.regs
    = s.regs)

/-- Lookout commands that act. The wrong response is DEDUCED (log 142). Rests on 20_lookout_monitor.md R414, R415,
R417, R418, R419. -/
def Obligations.LookoutWrites : Prop :=
  -- WR stores its words
  (∀ (a : Word) (l : List Word) (s : State), s.monServes = true → s.bit .MON_CFG 31 = false → 2 ≤ s.lookoutRights → 1
    ≤ l.length → l.length ≤ 8 → wordRange a l.length = true → a.toNat + 4 * l.length ≤ 0x40000 → s.memOk → ∃ t, exec
    (.wr a l) s = .next t ∧ t.mo.status = 0 ∧ ∀ j ∈ List.range l.length, t.word (a.toNat + 4 * j) = l.getD j 0#32) ∧
  -- a bad count or address is E 03
  (∀ (a : Word) (l : List Word) (s : State), s.monServes = true → s.bit .MON_CFG 31 = false → 2 ≤ s.lookoutRights →
    (l.length = 0 ∨ 8 < l.length ∨ wordRange a l.length = false) → exec (.wr a l) s = .next
    (({ s with mo := { s.mo with newRate := false } } : State).answer 3)) ∧
  -- CM issues a command with the parameters given
  (∀ (op k : Nat) (l : List Word) (s : State), s.monServes = true → s.bit .MON_CFG 31 = false → 2 ≤ s.lookoutRights →
    opKnown op = true → l.length ≤ 4 → s.admits .lookout op k = true → ∃ t, exec (.cm op l) s = .next t ∧ t.mo.status
    = 0 ∧ (t.slot k).st = .waiting ∧ (t.slot k).op = op ∧ (t.slot k).p0 = l.getD 0 (s.bank .lookout).p0 ∧ (t.slot
    k).p1 = l.getD 1 (s.bank .lookout).p1 ∧ k ∈ t.cm.waiting) ∧
  -- BAUD takes its code
  (∀ (b : Nat) (s : State), s.monServes = true → s.bit .MON_CFG 31 = false → b ≤ 7 → ∃ t, exec (.baud b) s = .next t ∧
    t.mo.status = 0 ∧ t.fld .MON_CFG Fld.MON_CFG_BAUD = b % 7 ∧ t.mo.newRate = true) ∧
  -- without a valid line the rate falls back
  (∀ (s : State), s.mo.newRate = true → s.powered .core = true → ∃ t, exec .baudrev s = .next t ∧ t.fld .MON_CFG
    Fld.MON_CFG_BAUD = 0 ∧ t.bit .MON_FLAG 4 = true ∧ t.mo.newRate = false) ∧
  -- a bad line executes nothing
  (∀ (e : MonError) (s : State), (s.monServes = true ∨ s.monLoader = true) → ∃ t, exec (.monBadLine e) s = .next t ∧
    t.mo.reply = [] ∧ (if e = .badSyntax then t.mo.status = 1 else t.mo.status = 5 ∧ t.bit .MON_FLAG 2 = true)) ∧
  -- LK ends the unlock
  (∀ (s : State), s.monServes = true → s.bit .MON_CFG 31 = false → ∃ t, exec .lk s = .next t ∧ t.bit .MON_STAT 3 =
    false ∧ t.mo.status = 0) ∧
  -- and so does idling
  (∀ (s : State), exec .unlockIdleExpiry s = .next (s.putBit .MON_STAT 3 false)) ∧
  -- the lockout ends
  (∀ (s : State), s.fld .MON_STAT Fld.MON_STAT_LOCKREM ≠ 0 → ∃ t, exec .lockoutEnd s = .next t ∧ t.fld .MON_STAT
    Fld.MON_STAT_LOCKREM = 0 ∧ t.fld .MON_STAT Fld.MON_STAT_FAILS = 0) ∧
  -- UL prints a challenge
  (∀ (s : State), s.monServes = true → s.bit .MON_CFG 31 = false → s.fld .MON_STAT Fld.MON_STAT_LOCKREM = 0 → ∃ t,
    exec (.ul none) s = .next t ∧ t.mo.status = 0 ∧ t.mo.challenge.isSome = true ∧ t.mo.reply =
    [t.mo.challenge.toList.map (·.toNat)] ∧ t.regs = s.regs) ∧
  -- the right response unlocks
  (∀ (c w : Word) (s : State), s.monServes = true → s.bit .MON_CFG 31 = false → s.fld .MON_STAT Fld.MON_STAT_LOCKREM =
    0 → s.secret ≠ [0#32, 0#32, 0#32, 0#32] → s.mo.challenge = some c → w = crc32 (bytesOfWords (c :: s.secret)) → ∃
    t, exec (.ul (some w)) s = .next t ∧ t.bit .MON_STAT 3 = true ∧ t.fld .MON_STAT Fld.MON_STAT_FAILS = 0 ∧ t.bit
    .MON_FLAG 0 = true ∧ t.mo.status = 0 ∧ t.mo.challenge = none) ∧
  -- a wrong one is counted, and the third locks out
  (∀ (c w : Word) (s : State), s.monServes = true → s.bit .MON_CFG 31 = false → s.fld .MON_STAT Fld.MON_STAT_LOCKREM =
    0 → s.secret ≠ [0#32, 0#32, 0#32, 0#32] → s.mo.challenge = some c → w ≠ crc32 (bytesOfWords (c :: s.secret)) →
    s.fld .MON_STAT Fld.MON_STAT_FAILS < 3 → ∃ t, exec (.ul (some w)) s = .next t ∧ t.bit .MON_STAT 3 = s.bit
    .MON_STAT 3 ∧ t.fld .MON_STAT Fld.MON_STAT_FAILS = s.fld .MON_STAT Fld.MON_STAT_FAILS + 1 ∧ t.fld .MON_STAT
    Fld.MON_STAT_LOCKREM = (if s.fld .MON_STAT Fld.MON_STAT_FAILS = 2 then 600 else 0) ∧ t.bit .MON_FLAG 1 = true ∧
    t.mo.status = 2 ∧ t.mo.challenge = none) ∧
  -- UL in the lockout is E 04
  (∀ (r : Option Word) (s : State), s.monServes = true → s.bit .MON_CFG 31 = false → s.fld .MON_STAT
    Fld.MON_STAT_LOCKREM ≠ 0 → exec (.ul r) s = .next (({ s with mo := { s.mo with newRate := false } } :
    State).answer 4)) ∧
  -- MON_CFG is written through the two-wire bus and the core alone
  (∀ (i : Iface) (v : Word) (s : State), s.takes .MON_CFG = true → ∃ t, exec (.monCfgWrite i v 0xF#4) s = .next t ∧
    (if i = .twoWire ∨ i = .core then t.bit .MON_CFG 31 = (s.bit .MON_CFG 31 || wbit v 31) ∧ t.fld .MON_CFG
    Fld.MON_CFG_IDLE = getF v Fld.MON_CFG_IDLE ∧ (getF v Fld.MON_CFG_BAUD ≠ 7 → t.fld .MON_CFG Fld.MON_CFG_BAUD = getF
    v Fld.MON_CFG_BAUD) else t = s))

/-- Clock crossings. The even tick and the value of a stuck crossing are DEDUCED (logs 140 and 149). Rests on
21_crossings.md R427, R428, R429, R430, R432. -/
def Obligations.Crossings : Prop :=
  -- a change of LEGACY drops the copies and is flagged
  (∀ (i : Iface) (v : Word) (s : State), s.takes .XNG_CTL = true → wbit v 0 ≠ s.bit .XNG_CTL 0 → ∃ t, exec
    (.legacyWrite i v 0xF#4) s = .next t ∧ t.bit .XNG_CTL 0 = wbit v 0 ∧ t.bit .XNG_FLAG 1 = true ∧ (wbit v 0 = false
    → t.xg.hold = [] ∧ ∀ g ∈ List.range 4, t.bit .XNG_TAKE g = false)) ∧
  -- no change does nothing
  (∀ (i : Iface) (v : Word) (s : State), s.takes .XNG_CTL = true → wbit v 0 = s.bit .XNG_CTL 0 → exec (.legacyWrite i
    v 0xF#4) s = .next s) ∧
  -- TAKE releases the copies it names
  (∀ (i : Iface) (v : Word) (s : State), s.takes .XNG_TAKE = true → ∃ t, exec (.takeRelease i v 0xF#4) s = .next t ∧ ∀
    g ∈ List.range 4, t.bit .XNG_TAKE g = (s.bit .XNG_TAKE g && !wbit v g) ∧ (s.bit .XNG_TAKE g = true → wbit v g =
    true → t.xg.hold.lookup g = none)) ∧
  -- a capture holds every value of its group
  (∀ (g : Fin 4) (s : State), s.powered .core = true → s.bit .XNG_CTL 0 = true → s.powered (groupPower g) = true →
    s.xg.hold.lookup g.val = none → ∃ t, exec (.groupCapture g) s = .next t ∧ t.bit .XNG_TAKE g = true ∧
    t.xg.hold.lookup g.val = some ((groupRegs g).map fun r => (r, s.captured r)) ∧ t.fld .XNG_STAT Fld.XNG_STAT_CAPT =
    min 65535 (s.fld .XNG_STAT Fld.XNG_STAT_CAPT + 1)) ∧
  -- a stuck crossing returns the value last agreed on and raises source 251
  (∀ (c : Fin 16) (i : Iface) (s : State), s.powered .core = true → c.val < 5 → ∃ t, exec (.xngStuck c i) s = .next t
    ∧ t.rdata.get i 0#32 = s.xg.agreed.get c 0#32 ∧ t.bit .XNG_FLAG 0 = true ∧ t.fld .XNG_STUCKINFO
    Fld.XNG_STUCKINFO_CROSSING = c.val ∧ t.latched 251 = true ∧ (s.latched 251 = false → t.fltCause 251 = c.val)) ∧
  -- a control crossing that times out does the same
  (∀ (c : Fin 16) (s : State), s.powered .core = true → 8 ≤ c.val → c.val ≤ 10 → ∃ t, exec (.crossingTimeout c) s =
    .next t ∧ t.bit .XNG_FLAG 0 = true ∧ t.fld .XNG_STUCKINFO Fld.XNG_STUCKINFO_CROSSING = c.val ∧ t.latched 251 =
    true) ∧
  -- a native read of TIM_NOW_LO is even and holds the upper word
  (∀ (i : Iface) (s : State), s.served = true → s.loader = false → s.powered .link = true → s.legacyFor i = false → ∃
    t, exec (.timNowLoRead i) s = .next t ∧ t.rdata.get i 0#32 = (timeLo s.clock.station &&& 0xFFFFFFFE#32) ∧ (t.bank
    i).timHi = timeHi s.clock.station) ∧
  -- a legacy read returns the copy
  (∀ (i : Iface) (l : List (Reg × Word)) (s : State), s.served = true → s.loader = false → s.powered .link = true →
    s.legacyFor i = true → s.xg.hold.lookup 0 = some l → ∃ t, exec (.timNowLoRead i) s = .next t ∧ t.rdata.get i 0#32
    = Tab.get l .TIM_NOW_LO 0#32 ∧ t.xg = s.xg ∧ t.regs = s.regs)

/-- SLEEP and DEEP. What DEEP keeps is DEDUCED (log 162). Rests on 22_power_modes.md R436, R438. -/
def Obligations.PowerModes : Prop :=
  -- a SLEEP request in ACTIVE takes effect
  (∀ (i : Iface) (v : Word) (s : State), s.takes .PWR_CTL = true → getF v Fld.PWR_CTL_REQ = 1 → s.pw.mode = .active →
    s.tb.cx = none → ∃ t, exec (.sleepRequest i v 0xF#4) s = .next t ∧ t.pw.mode = .sleep ∧ t.fld .PWR_STATUS
    Fld.PWR_STATUS_MODE = 1 ∧ t.pw.on = s.pw.on) ∧
  -- or waits for a controller transfer
  (∀ (i : Iface) (v : Word) (s : State), s.takes .PWR_CTL = true → getF v Fld.PWR_CTL_REQ = 1 → s.pw.mode = .active →
    s.tb.cx.isSome = true → ∃ t, exec (.sleepRequest i v 0xF#4) s = .next t ∧ t.pw.mode = .active ∧ t.pw.sleepPend =
    true) ∧
  -- DEEP is refused with its reason
  (∀ (i : Iface) (v : Word) (s : State), s.takes .PWR_CTL = true → getF v Fld.PWR_CTL_REQ = 2 → (s.railsOff = false ∨
    s.shipPend = true) → ∃ t, exec (.deepRequest i v 0xF#4) s = .next t ∧ t.pw = s.pw ∧ t.bit .PWR_FLAG 0 = true ∧
    t.fld .PWR_FLAG Fld.PWR_FLAG_WHY = (if s.railsOff = false then 1 else 2)) ∧
  -- or held
  (∀ (i : Iface) (v : Word) (s : State), s.takes .PWR_CTL = true → getF v Fld.PWR_CTL_REQ = 2 → s.railsOff = true →
    s.shipPend = false → s.deepHeld = true → ∃ t, exec (.deepRequest i v 0xF#4) s = .next t ∧ t.pw = s.pw ∧ t.bit
    .PWR_STATUS 4 = true) ∧
  -- or begins
  (∀ (i : Iface) (v : Word) (s : State), s.takes .PWR_CTL = true → getF v Fld.PWR_CTL_REQ = 2 → s.railsOff = true →
    s.shipPend = false → s.deepHeld = false → ∃ t, exec (.deepRequest i v 0xF#4) s = .next t ∧ t.pw.mode = .deepEntry
    ∧ t.fld .PWR_STATUS Fld.PWR_STATUS_MODE = 2 ∧ t.bit .PWR_STATUS 4 = false) ∧
  -- a held request is dropped
  (∀ (i : Iface) (v : Word) (s : State), s.takes .PWR_CTL = true → getF v Fld.PWR_CTL_REQ = 3 → s.bit .PWR_STATUS 4 =
    true → ∃ t, exec (.deepDrop i v 0xF#4) s = .next t ∧ t.bit .PWR_STATUS 4 = false ∧ t.bit .PWR_FLAG 0 = true ∧
    t.fld .PWR_FLAG Fld.PWR_FLAG_WHY = 1 ∧ t.pw = s.pw) ∧
  -- or times out
  (∀ (s : State), s.bit .PWR_STATUS 4 = true → ∃ t, exec .deepHoldTimeout s = .next t ∧ t.bit .PWR_STATUS 4 = false ∧
    t.bit .PWR_FLAG 0 = true ∧ t.fld .PWR_FLAG Fld.PWR_FLAG_WHY = 3 ∧ t.pw = s.pw) ∧
  -- the end of the hold begins the entry
  (∀ (s : State), s.wd.expired = false → s.pw.mode ≠ .deepEntry → s.bit .PWR_STATUS 4 = true → s.deepHeld = false → ∃
    t, exec .deepEntry s = .next t ∧ t.pw.mode = .deepEntry ∧ t.bit .PWR_STATUS 4 = false) ∧
  -- the entry leaves only AON
  (∀ (s : State), s.wd.expired = false → s.pw.mode = .deepEntry → ∃ t, exec .deepEntry s = .next t ∧ t.pw.mode = .deep
    ∧ t.pw.on = [.aon] ∧ t.pw.mc = .off ∧ t.pins.gatesOff = true) ∧
  -- any source wakes from SLEEP and is recorded
  (∀ (w : Fin 6) (l : StartIn) (s : State), s.pw.mode = .sleep → ∃ t, exec (.wake w l) s = .next t ∧ t.pw.mode =
    .active ∧ t.fld .PWR_STATUS Fld.PWR_STATUS_LASTWAKE = w.val ∧ t.fld .PWR_STATUS Fld.PWR_STATUS_MODE = 0 ∧ t.bit
    .PWR_FLAG 1 = true ∧ t.pw.on = s.pw.on) ∧
  -- an enabled one abandons the entry
  (∀ (w : Fin 6) (l : StartIn) (s : State), s.pw.mode = .deepEntry → s.bit .PWR_WAKE w = true → ∃ t, exec (.wake w l)
    s = .next t ∧ t.pw.mode = .active ∧ t.fld .PWR_STATUS Fld.PWR_STATUS_LASTWAKE = w.val ∧ t.bit .PWR_FLAG 1 = true ∧
    t.pw.on = s.pw.on) ∧
  -- an enabled one wakes from DEEP, with the brown-out check, the running stream and the ledger lanes
  (∀ (w : Fin 6) (l : StartIn) (s : State), s.pw.mode = .deep → s.bit .PWR_WAKE w = true → s.pw.start = none → ∃ u :
    State, exec (.wake w l) s = .next (u.boutCheck.wakeStream.kick) ∧ u.fld .PWR_STATUS Fld.PWR_STATUS_LASTWAKE =
    w.val ∧ u.bit .PWR_FLAG 1 = true) ∧
  -- PWR_TIMER is that source 5
  (∀ (l : StartIn) (s : State), s.pw.mode = .deep → s.rd .PWR_TIMER ≠ 0#32 → ∃ t, exec (.pwrTimerExpiry l) s = .next t
    ∧ exec (.wake 5 l) (s.wr .PWR_TIMER 0#32) = .next t ∧ (s.bit .PWR_WAKE 5 = false → t = s.wr .PWR_TIMER 0#32))

/-- Starts. START_UP is steps 1 to 7 in one command (log 155), with the findings of the scan and the calibrations as
its operand (logs 112 and 154). Rests on 01_architecture.md R18; 22_power_modes.md R440, R441. -/
def Obligations.Starts : Prop :=
  -- a start of the cause that is to run ends in ACTIVE and shows its cause
  (∀ (c : StartCause) (l : StartIn) (s : State), startFits s.pw.start c = true → ∃ t, exec (.startUp c l) s = .next t
    ∧ t.pw.start = none ∧ t.pw.mode = .active ∧ t.fld .PWR_STATUS Fld.PWR_STATUS_CAUSE = causeCode c ∧ t.mo.status =
    0) ∧
  -- another changes nothing
  (∀ (c : StartCause) (l : StartIn) (s : State), startFits s.pw.start c = false → exec (.startUp c l) s = .next s) ∧
  -- a brown-out below CORE raises source 250 and applies the stream of the domain again
  (∀ (d : Dom) (s : State), s.accepts = true → s.pw.mc = .firmware → s.pw.start = none → d ≠ .core → d ∈ Dom.below
    .core → (Dom.parent d).any s.powered = true → ∃ u v : State, u.latched 250 = true ∧ v = (if Dom.seq ∈ Dom.below d
    then (u.powerAll (Dom.below d)).groupsOff else u.powerAll (Dom.below d)) ∧ exec (.coreBout d) s = .next (if
    v.tp.stream.isEmpty = true then v else (((v.applyAll (v.domainEntries (Dom.below d))).closeSlots allSlots).happen
    7 0 0).reReact)) ∧
  -- a power-on of AON is the reset state but for pending commands and the life-cycle marks
  (∀ (s : State), ∃ t, exec .aonPowerOn s = .next t ∧ t.regs = State.reset.regs ∧ t.pw.on = [.aon] ∧ t.pw.start = some
    .powerOn ∧ t.pending = s.pending ∧ (∀ m ∈ s.ot.marks, m ∈ t.ot.marks)) ∧
  -- a brown-out of NVM or CORE leaves only AON, and a start of that cause is to run
  (∀ (d : Dom) (s : State), s.powered d = true → (d = .nvm ∨ d = .core) → ∃ t, exec (.domainBrownout d) s = .next t ∧
    t.pw.on = [.aon] ∧ t.pw.start = some .coreBrownout ∧ t.wd = {})

/-- A step runs the command at the front of the queue. The queue itself is the model's (log 1). Rests on
01_architecture.md R31, R32. -/
def Obligations.StepTakesFront : Prop :=
  -- with c at the front of the queue, step is exec of c on the state with the queue's rest
  (∀ (c : Instr) (r : List Instr) (s : State), s.pending = c :: r → Sys2Proof.Machine.step s = exec c
    { s with pending := r })

/-- The model's choice for an empty queue (DESIGN CHOICE, log 2): 4 ns pass. This is the model's choice and no rule of
the spec. Rests on 00_scope.md (station time is a count of 4 ns ticks). -/
def Obligations.IdleTick : Prop :=
  -- on an empty queue step answers a next state whose queue is empty, whose keeper clock is one tick on, and whose
  -- memory is the same
  (∀ (s : State), s.pending = [] → ∃ t, Sys2Proof.Machine.step s = .next t ∧ t.pending = [] ∧ t.clock.keeper =
    s.clock.keeper + 1 ∧ t.mem = s.mem)

/-- What State.reset is. The list holds the registers whose reset value is not 0; the form of the hidden state is a
DESIGN CHOICE (logs 11 to 14) and the powered AON with the start to run is the model's reading of Table 22.4. Rests on
25_register_index.md; 22_power_modes.md R441; 15_otp_lifecycle.md R334. -/
def Obligations.ResetValues : Prop :=
  -- each register of the list has the Reset value its table gives
  (∀ e ∈ ([(.SYS_ID, 0x164000B0#32), (.SYS_WINBASE, 0x00004000#32), (.TPL_HOLDMAX, 0x000000C8#32), (.STG_CFG 0,
    0x1F1F4318#32), (.STG_CFG 23, 0x1F1F4338#32), (.STG_ILIM 0, 0x00080A28#32), (.STG_ILIM 23, 0x00140A28#32),
    (.STG_SENSE 0, 0x002704B0#32), (.STG_SENSE 23, 0x00000000#32), (.XBR_MOD 0, 0x00320600#32), (.XBR_SHARE 0,
    0x00000014#32), (.XBR_WSH 0, 0x00101019#32), (.SWY_STATUS, 0x1F1F0000#32), (.SWY_IAGG, 0x000A03E8#32), (.SWY_PNTT,
    0x00000014#32), (.LPE_LOAD 0, 0x03E803E8#32), (.LPE_SHED 0, 0x00003296#32), (.LPS_IN 0, 0xC01F0000#32),
    (.LPS_CLOSE 0, 0x140A0000#32), (.LPS_MWATCH 0, 0x100640C8#32), (.LPS_FWATCH 0, 0x0A0A0400#32), (.RAIL_ONRAMP 0,
    0x00000064#32), (.RAIL_OFFRAMP 0, 0x00000064#32), (.RAIL_DIS 0, 0x00640014#32), (.RAIL_PG 0, 0x000A0064#32),
    (.TTB_RST_CFG 0, 0x01400000#32), (.TTB_RSTSTAT, 0x0000000F#32), (.TTB_BOUT, 0x14013046#32), (.TTB_MINOFF,
    0x00000088#32), (.TTB_FIRSTT_LO, 0x00000000#32), (.TTB_FIRSTT_HI, 0x00000000#32), (.SUP_WIN 0, 0x0FFF0000#32),
    (.SUP_CFG 0, 0x00040000#32), (.SVY_CV_TAP 0 0, 0xFFFF0000#32), (.SVY_TSTAMP_LO, 0x00000000#32), (.SVY_TSTAMP_HI,
    0x00000000#32), (.BKP_STATUS, 0x00000003#32), (.BKP_PATH, 0x02012C46#32), (.BKP_QUAL, 0x00C80014#32),
    (.BKP_BATCFG, 0x00000BB8#32), (.BKP_CHG, 0x4FA00032#32), (.BKP_CHGLIM, 0x0A0A0A64#32), (.BKP_VINREG,
    0x00008050#32), (.BKP_TEMP, 0x002D0000#32), (.BKP_TIMER, 0x001E0008#32), (.BKP_WDT, 0x00280003#32), (.BKP_BTN,
    0x80000008#32), (.BKP_SHUNT, 0x01F401F4#32), (.GAU_SOC, 0x27100000#32), (.GAU_ACC_LO, 0x00000000#32),
    (.GAU_ACC_HI, 0x00000000#32), (.GAU_CFG, 0x1400001E#32), (.GAU_DRIFT, 0x0A000078#32), (.POL_RIDE, 0x0A0A0000#32),
    (.POL_R_PHASE 0, 0x2810503C#32), (.POL_R_DER 0, 0x32007364#32), (.POL_R_CFG 0, 0x00143200#32), (.POL_R_STATE 0,
    0x64000000#32), (.FLT_FIRSTT_LO, 0x00000000#32), (.FLT_FIRSTT_HI, 0x00000000#32), (.EVT_EN 0, 0x0000007B#32),
    (.EVT_EN 7, 0x00000000#32), (.EVT_QBASE 0, 0x0003C000#32), (.EVT_QBASE 1, 0x0003D000#32), (.EVT_QBASE 2,
    0x0003F000#32), (.EVT_QSIZE 0, 0x00000100#32), (.EVT_QSIZE 1, 0x00000200#32), (.EVT_QSIZE 2, 0x00000100#32),
    (.EVT_QRUN 0, 0x00000080#32), (.MEM_STATUS, 0x00000004#32), (.MEM_CFG, 0x8000000A#32), (.WDG_CTL, 0x0000000A#32),
    (.WDG_LASTT_LO, 0x00000000#32), (.WDG_LASTT_HI, 0x00000000#32), (.LNK_CFG, 0x00200A0F#32), (.LNK_POOL,
    0x0FFE0001#32), (.LNK_P_CFG 0, 0x00000024#32), (.FLW_CFG, 0x080000C8#32), (.FLW_REM, 0x80000000#32), (.TIM_STATUS,
    0x00000001#32), (.TIM_CFG, 0x03E80A00#32), (.TWB_CFG, 0x40000400#32), (.TWB_CXCFG, 0x40000000#32), (.MON_CFG,
    0x00000F00#32), (.PWR_CTL, 0x000003E8#32), (.PWR_WAKE, 0x0000001F#32), (.PWR_RETAIN, 0x0000FFFF#32)] : List (Reg ×
    Word)), State.reset.rd e.1 = e.2) ∧
  -- the queue and memory are empty, only AON is powered, a power-on start is to run and FACTORY is the one mark
  (State.reset.pending = [] ∧ State.reset.mem = [] ∧ State.reset.memOk ∧ State.reset.pw.on = [.aon] ∧
    State.reset.powerOk ∧ State.reset.pw.start = some .powerOn ∧ State.reset.ot.marks = [64])

/-- Every command, in every state, answers a next state with the queue untouched. That a command the state does not
allow changes nothing is the model's choice (log 9). Rests on 95_what_each_step_holds.md. -/
def Obligations.EveryCommandCompletes : Prop :=
  -- exec answers a next state, for every constructor, operand and state
  (∀ (c : Instr) (s : State), ∃ t, exec c s = .next t ∧ t.pending = s.pending)

/-- An invariant of the model's memory: strictly rising addresses and no entry equal to what an unlisted address reads
as. The form is the model's own; that reset has it is stated in ResetValues. Rests on 01_architecture.md R21;
13_memory_protection.md R291; 14_ledger.md R307. -/
def Obligations.MemoryStaysCanonical : Prop :=
  -- from every state with canonical memory, a step leads to one
  (∀ (s t : State), s.memOk → Sys2Proof.Machine.step s = .next t → t.memOk)

/-- The power domains that are up form a tree from AON down (R18). That reset has the property is stated in
ResetValues; how each command keeps it is DEDUCED (log 20). Rests on 01_architecture.md R18. -/
def Obligations.PowerStaysATree : Prop :=
  -- from every state in which each powered domain has its parent powered, a step leads to one
  (∀ (s t : State), s.powerOk → Sys2Proof.Machine.step s = .next t → t.powerOk)

/-- A life-cycle mark once programmed stays (R334). Rests on 15_otp_lifecycle.md R334. -/
def Obligations.MarksAreNeverLost : Prop :=
  -- a mark the state holds is held after any step
  (∀ (m : Nat) (s t : State), m ∈ s.ot.marks → Sys2Proof.Machine.step s = .next t → m ∈ t.ot.marks)

/-- A frame for every command: which register blocks it may change. frameBlocks is a table in Sys2Proof/Safety.lean:
the blocks a command's own rules name, with those that a fault or an event it raises may reach. Rests on
95_what_each_step_holds.md; 10_signal_box.md R239, R242; 11_events.md R259. -/
def Obligations.RegisterFrame : Prop :=
  -- a register of a block outside frameBlocks of the command reads as before
  (∀ (c : Instr) (r : Reg) (s t : State), exec c s = .next t → r.block ∉ frameBlocks c → t.rd r = s.rd r)

/-- A frame for the small commands: beside EVT and MEM registers they change only their own. ownRegs is a table in
Sys2Proof/Safety.lean that names the registers of each command. Rests on 95_what_each_step_holds.md; 11_events.md R259.
-/
def Obligations.OwnRegisters : Prop :=
  -- a register outside the list ownRegs of the command, and outside the EVT and MEM blocks, reads as before
  (∀ (c : Instr) (r : Reg) (l : List Reg) (s t : State), ownRegs c = some l → exec c s = .next t → r ∉ l → r.block ≠
    .evt → r.block ≠ .mem → t.rd r = s.rd r)

/-- A frame of memory for the commands that store nothing. storesNothing, touchesNoMemory and outsideRecords are in
Sys2Proof/Safety.lean; the excepted places are those of event records the command takes as undelivered and of crash-
dump and log bytes on their way. Rests on 95_what_each_step_holds.md; 11_events.md R263; 14_ledger.md R310. -/
def Obligations.MemoryFrame : Prop :=
  -- for a command that stores nothing itself, every byte outside the places of records in waiting reads as before
  (∀ (c : Instr) (a : Nat) (s t : State), storesNothing c = true → exec c s = .next t → s.memOk → s.outsideRecords a →
    t.byte a = s.byte a) ∧
  -- a command that touches no memory leaves all of it
  (∀ (c : Instr) (s t : State), touchesNoMemory c = true → exec c s = .next t → t.mem = s.mem)

/-- spec/opcode_table.json gives no row bits (DESIGN CHOICE, log 8). This is a fact of the table and no rule of the
spec. Rests on 95_what_each_step_holds.md. -/
def Obligations.NoTableWord : Prop :=
  -- decodeTableWord answers none on every word and withFetchWord leaves the state
  (∀ (n w : Nat) (s : State), decodeTableWord n w = none ∧ s.withFetchWord n w = s)

/-- R22: an access to a block whose domain is unpowered, through any interface, while the part serves interfaces and
the loader does not run. Reads are made through SYS_IDATA. States R22. -/
def Obligations.UnpoweredAccess : Prop :=
  -- a write of a register of the block is ignored but for the event ACCESS_OFF, and no domain changes its power
  (∀ (i : Iface) (a : Nat) (v : Word) (be : BitVec 4) (r : Reg) (s : State), s.accepts = true → s.loader = false →
    Reg.ofAddr (wordAddr a) = some r → s.powered r.block.dom = false → ∃ t, exec (.registerWrite i a v be) s = .next t
    ∧ t = s.accessOff r.block ∧ (∀ q : Reg, q.block ≠ .evt → q.block ≠ .mem → t.rd q = s.rd q) ∧ t.pw = s.pw) ∧
  -- the event ACCESS_OFF is pending and counted
  (∀ (b : Block) (s : State), s.frozen = false → (s.src 2).queued = none → (s.accessOff b).bit (.EVT_PEND 0) 2 = true
    ∧ ((s.accessOff b).src 2).waiting = (s.src 2).waiting + (if s.sense 2 = 3 then 2 else 1)) ∧
  -- so is a write of an unassigned offset of the block
  (∀ (i : Iface) (a : Nat) (v : Word) (be : BitVec 4) (b : Block) (s : State), s.accepts = true → s.loader = false →
    Block.ofAddr (wordAddr a) = some b → Reg.ofAddr (wordAddr a) = none → s.powered b.dom = false → exec
    (.registerWrite i a v be) s = .next (s.accessOff b)) ∧
  -- a read of an unassigned offset returns 0 with the same event
  (∀ (i : Iface) (b : Block) (s : State), s.served = true → s.loader = false → s.powered .aon = true → Block.ofAddr
    (wordAddr (s.rd .SYS_IADDR).toNat) = some b → Reg.ofAddr (wordAddr (s.rd .SYS_IADDR).toNat) = none → s.powered
    b.dom = false → ∃ t, exec (.idataRead i) s = .next t ∧ t.rdata.get i 7#32 = 0#32 ∧ t.pw = s.pw ∧ t.ev =
    (s.accessOff b).ev) ∧
  -- a read of a register returns 0 with the same event, and no domain changes its power
  (∀ (i : Iface) (r : Reg) (s : State), s.served = true → s.loader = false → s.powered .aon = true → Reg.ofAddr
    (wordAddr (s.rd .SYS_IADDR).toNat) = some r → s.powered r.block.dom = false → ∃ t, exec (.idataRead i) s = .next t
    ∧ t.rdata.get i 7#32 = 0#32 ∧ t.pw = s.pw ∧ t.ev = (s.accessOff r.block).ev)

/-- Writes that are ignored as a whole, for whole and narrow writes alike (the value is the merged one of R8). States
R126; R139; R157; R204; R236; R348. -/
def Obligations.IgnoredWrites : Prop :=
  -- R126, LPEee_SHED out of its ranges
  (∀ (i : Iface) (v : Word) (be : BitVec 4) (e : Fin 8) (s : State), s.takes (.LPE_SHED e) = true → (getF (s.merged
    (.LPE_SHED e) v be) Fld.LPE_SHED_SHEDTH < 10 ∨ 90 < getF (s.merged (.LPE_SHED e) v be) Fld.LPE_SHED_SHEDTH ∨ getF
    (s.merged (.LPE_SHED e) v be) Fld.LPE_SHED_RESTTH < getF (s.merged (.LPE_SHED e) v be) Fld.LPE_SHED_SHEDTH + 50) →
    exec (.lpeShedWrite i e v be) s = .next s) ∧
  -- R139, a step of a group that is not OFF, which sets STEPREJ; nothing else but that flag and its event changes
  (∀ (i : Iface) (v : Word) (be : BitVec 4) (g : Fin 8) (j : Fin 64) (q : Reg) (s : State), s.takes (.TTB_STEP g j) =
    true → s.fld (.TTB_G_STATUS g) Fld.TTB_G_STATUS_STATE ≠ 0 → ∃ t, exec (.stepWrite i g j v be) s = .next t ∧ t.rd
    (.TTB_STEP g j) = s.rd (.TTB_STEP g j) ∧ t.bit (.TTB_G_FLAG g) 3 = true ∧ (q ≠ .TTB_G_FLAG g → q.block ≠ .evt →
    q.block ≠ .mem → t.rd q = s.rd q) ∧ t.mem = s.mem) ∧
  -- R157, TTB_BOUT out of its ranges
  (∀ (i : Iface) (v : Word) (be : BitVec 4) (s : State), s.takes .TTB_BOUT = true → (getF (s.merged .TTB_BOUT v be)
    Fld.TTB_BOUT_VOFF < 60 ∨ getF (s.merged .TTB_BOUT v be) Fld.TTB_BOUT_VON < getF (s.merged .TTB_BOUT v be)
    Fld.TTB_BOUT_VOFF + 3) → exec (.ttbBoutWrite i v be) s = .next s) ∧
  -- R204, BKP_PATH out of its range; BKP_WDT alone may change, since the write is a host contact under R201
  (∀ (i : Iface) (v : Word) (be : BitVec 4) (q : Reg) (s : State), s.takes .BKP_PATH = true → getF (s.merged .BKP_PATH
    v be) Fld.BKP_PATH_SRC_ON < getF (s.merged .BKP_PATH v be) Fld.BKP_PATH_SRC_OFF + 3 → ∃ t, exec (.bkpPathWrite i v
    be) s = .next t ∧ t.rd .BKP_PATH = s.rd .BKP_PATH ∧ (q ≠ .BKP_WDT → t.rd q = s.rd q)) ∧
  -- R204, BKP_QUAL out of its ranges, the same way
  (∀ (i : Iface) (v : Word) (be : BitVec 4) (q : Reg) (s : State), s.takes .BKP_QUAL = true → (getF (s.merged
    .BKP_QUAL v be) Fld.BKP_QUAL_QUAL < 20 ∨ 1000 < getF (s.merged .BKP_QUAL v be) Fld.BKP_QUAL_QUAL ∨ getF (s.merged
    .BKP_QUAL v be) Fld.BKP_QUAL_HBMIN < 200 ∨ 10000 < getF (s.merged .BKP_QUAL v be) Fld.BKP_QUAL_HBMIN) → ∃ t, exec
    (.bkpQualWrite i v be) s = .next t ∧ t.rd .BKP_QUAL = s.rd .BKP_QUAL ∧ (q ≠ .BKP_WDT → t.rd q = s.rd q)) ∧
  -- R236, POLnn_PHASE out of its ranges
  (∀ (i : Iface) (v : Word) (be : BitVec 4) (n : Fin 20) (s : State), s.takes (.POL_R_PHASE n) = true → (getF
    (s.merged (.POL_R_PHASE n) v be) Fld.POL_R_PHASE_LOW < 10 ∨ 90 < getF (s.merged (.POL_R_PHASE n) v be)
    Fld.POL_R_PHASE_LOW ∨ getF (s.merged (.POL_R_PHASE n) v be) Fld.POL_R_PHASE_HIGH < getF (s.merged (.POL_R_PHASE n)
    v be) Fld.POL_R_PHASE_LOW + 10 ∨ 100 < getF (s.merged (.POL_R_PHASE n) v be) Fld.POL_R_PHASE_HIGH ∨ getF (s.merged
    (.POL_R_PHASE n) v be) Fld.POL_R_PHASE_MINPH = 0 ∨ 8 < getF (s.merged (.POL_R_PHASE n) v be)
    Fld.POL_R_PHASE_MINPH) → exec (.polLimitWrite i true n v be) s = .next s) ∧
  -- R236, POLnn_DER out of its ranges
  (∀ (i : Iface) (v : Word) (be : BitVec 4) (n : Fin 20) (s : State), s.takes (.POL_R_DER n) = true → (toSigned 8
    (getF (s.merged (.POL_R_DER n) v be) Fld.POL_R_DER_TMAX) < toSigned 8 (getF (s.merged (.POL_R_DER n) v be)
    Fld.POL_R_DER_TDER) + 5 ∨ getF (s.merged (.POL_R_DER n) v be) Fld.POL_R_DER_FMIN < 10 ∨ 100 < getF (s.merged
    (.POL_R_DER n) v be) Fld.POL_R_DER_FMIN) → exec (.polLimitWrite i false n v be) s = .next s) ∧
  -- R348, WDG_CTL while a task of 2 to 7 is registered, which sets CFGREJ
  (∀ (i : Iface) (v : Word) (be : BitVec 4) (n : Nat) (q : Reg) (s : State), s.takes .WDG_CTL = true → 2 ≤ n → n < 8 →
    s.wdgReg n = true → ∃ t, exec (.wdgCtlWrite i v be) s = .next t ∧ t.rd .WDG_CTL = s.rd .WDG_CTL ∧ t.bit .WDG_FLAG
    2 = true ∧ (q ≠ .WDG_FLAG → q.block ≠ .evt → q.block ≠ .mem → t.rd q = s.rd q) ∧ t.wd = s.wd)

/-- Writes of GAU_CYCLES and GAU_CTL, whole and narrow. States R221. -/
def Obligations.GaugeWrites : Prop :=
  -- in NOANCHOR a write of GAU_CYCLES is stored
  (∀ (i : Iface) (v : Word) (be : BitVec 4) (s : State), s.takes .GAU_CYCLES = true → s.gauSt = 1 → exec
    (.gauCyclesWrite i v be) s = .next (s.wr .GAU_CYCLES (s.merged .GAU_CYCLES v be))) ∧
  -- in another state it is ignored and sets WRREJ
  (∀ (i : Iface) (v : Word) (be : BitVec 4) (s : State), s.takes .GAU_CYCLES = true → s.gauSt ≠ 1 → ∃ t, exec
    (.gauCyclesWrite i v be) s = .next t ∧ t.rd .GAU_CYCLES = s.rd .GAU_CYCLES ∧ t.bit .GAU_FLAG 5 = true) ∧
  -- R221, NEWPACK with its key clears CYCLES, THRU, FULLV and EMPTYV, sets INVAL, and NOANCHOR when a pack is present
  (∀ (i : Iface) (v : Word) (be : BitVec 4) (s : State), s.takes .GAU_CTL = true → wbit (v &&& byteMask be) 31 = true
    → getF (v &&& byteMask be) Fld.GAU_CTL_KEY = 0xA5 → ∃ t, exec (.newpack i v be) s = .next t ∧ t.rd .GAU_CYCLES =
    0#32 ∧ t.rd .GAU_THRU = 0#32 ∧ t.fld .GAU_STATUS Fld.GAU_STATUS_FULLV = 0 ∧ t.fld .GAU_STATUS
    Fld.GAU_STATUS_EMPTYV = 0 ∧ t.bit .GAU_FLAG 6 = true ∧ (s.packThere = true → t.gauSt = 1)) ∧
  -- R221, a write with another key is ignored
  (∀ (i : Iface) (v : Word) (be : BitVec 4) (s : State), s.takes .GAU_CTL = true → getF (v &&& byteMask be)
    Fld.GAU_CTL_KEY ≠ 0xA5 → exec (.newpack i v be) s = .next s)

/-- R342: half of a window without an accepted token. States R342. -/
def Obligations.WatchdogWarning : Prop :=
  -- FLAG.WARN is set, and no register outside WDG_FLAG and the event and memory-protection blocks changes, nor the
  -- watchdog's own state
  (∀ (n : Fin 8) (r : Reg) (s : State), s.taskRuns n = true → s.tokened n = false → ∃ t, exec (.wdgWarn n) s = .next t
    ∧ t.bit .WDG_FLAG 1 = true ∧ t.wd = s.wd ∧ (r ≠ .WDG_FLAG → r.block ≠ .evt → r.block ≠ .mem → t.rd r = s.rd r)) ∧
  -- when the flag was clear, the event WDG_WARN is pending with the task in INFO
  (∀ (n : Fin 8) (s : State), s.taskRuns n = true → s.tokened n = false → s.bit .WDG_FLAG 1 = false → s.frozen = false
    → (s.src 153).queued = none → (s.src 153).waiting = 0 → s.sense 153 ≠ 2 → ∃ t, exec (.wdgWarn n) s = .next t ∧
    (t.src 153).waiting = 1 ∧ (t.src 153).info = n ∧ t.bit (.EVT_PEND 4) 25 = true)

/-- For every row that is a write of one register: the narrow write of some bytes is the whole write of the merged
value (R8); a register whose bits all act on the write itself acts only where one of them is sent. So the statements
about whole writes hold of narrow ones with the merged value. Rests on 00_scope.md R8. -/
def Obligations.NarrowWrites : Prop :=
  -- rows of TPL_HOLDMAX, SWY and LPE
  (∀ (i : Iface) (m : Fin 24) (k : Fin 8) (e : Fin 8) (l : Fin 32) (j : Fin 12) (c : Fin 5) (v : Word) (be : BitVec 4)
    (s : State), exec (.holdmaxWrite i v be) s = exec (.holdmaxWrite i (s.merged .TPL_HOLDMAX v be) 0xF#4) s ∧ exec
    (.stgCfgWrite i m v be) s = exec (.stgCfgWrite i m (s.merged (.STG_CFG m) v be) 0xF#4) s ∧ exec (.pntCfgWrite i k
    v be) s = exec (.pntCfgWrite i k (s.merged (.PNT_CFG k) v be) 0xF#4) s ∧ exec (.stgFlagWrite i m v be) s = exec
    (.stgFlagWrite i m (s.merged (.STG_FLAG m) v be) 0xF#4) s ∧ exec (.lpeShedWrite i e v be) s = exec (.lpeShedWrite
    i e (s.merged (.LPE_SHED e) v be) 0xF#4) s ∧ exec (.lpsCfgWrite i l v be) s = exec (.lpsCfgWrite i l (s.merged
    (.LPS_CFG l) v be) 0xF#4) s ∧ exec (.lpsOutWrite i l v be) s = exec (.lpsOutWrite i l (s.merged (.LPS_OUT l) v be)
    0xF#4) s ∧ exec (.lpsInWrite i l v be) s = exec (.lpsInWrite i l (s.merged (.LPS_IN l) v be) 0xF#4) s ∧ exec
    (.loopParamWrite i .ref l v be) s = exec (.loopParamWrite i .ref l (s.merged (.LPS_REF l) v be) 0xF#4) s ∧ exec
    (.loopParamWrite i .model l v be) s = exec (.loopParamWrite i .model l (s.merged (.LPS_MODEL l) v be) 0xF#4) s ∧
    exec (.coefWrite i e j c v be) s = exec (.coefWrite i e j c (s.merged (.COF e j c) v be) 0xF#4) s) ∧
  -- rows of RAIL, TTB, SVY, BKP, GAU and POL
  (∀ (i : Iface) (n : Fin 20) (g : Fin 8) (j : Fin 64) (x : Fin 3) (k : Fin 4) (v : Word) (be : BitVec 4) (s : State),
    exec (.vsetWrite i n v be) s = exec (.vsetWrite i n (s.merged (.RAIL_VSET n) v be) 0xF#4) s ∧ exec (.stepWrite i g
    j v be) s = exec (.stepWrite i g j (s.merged (.TTB_STEP g j) v be) 0xF#4) s ∧ exec (.ttbBoutWrite i v be) s = exec
    (.ttbBoutWrite i (s.merged .TTB_BOUT v be) 0xF#4) s ∧ exec (.dmaEnable i x v be) s = exec (.dmaEnable i x
    (s.merged (.SVY_CV_DMA_CFG x) v be) 0xF#4) s ∧ exec (.sliceFactorWrite i x k true v be) s = exec
    (.sliceFactorWrite i x k true (s.merged (.SVY_CV_SL_SK x k) v be) 0xF#4) s ∧ exec (.sliceFactorWrite i x k false v
    be) s = exec (.sliceFactorWrite i x k false (s.merged (.SVY_CV_SL_OG x k) v be) 0xF#4) s ∧ exec (.bkpBatcfgWrite i
    v be) s = exec (.bkpBatcfgWrite i (s.merged .BKP_BATCFG v be) 0xF#4) s ∧ exec (.bkpChgWrite i v be) s = exec
    (.bkpChgWrite i (s.merged .BKP_CHG v be) 0xF#4) s ∧ exec (.bkpPathWrite i v be) s = exec (.bkpPathWrite i
    (s.merged .BKP_PATH v be) 0xF#4) s ∧ exec (.bkpQualWrite i v be) s = exec (.bkpQualWrite i (s.merged .BKP_QUAL v
    be) 0xF#4) s ∧ exec (.bkpFlagWrite i v be) s = exec (.bkpFlagWrite i (v &&& byteMask be) 0xF#4) s ∧ exec (.kick i
    v be) s = exec (.kick i (s.merged .BKP_WDT v be) 0xF#4) s ∧ exec (.gauCyclesWrite i v be) s = exec
    (.gauCyclesWrite i (s.merged .GAU_CYCLES v be) 0xF#4) s ∧ exec (.gaugeConfigWrite i true v be) s = exec
    (.gaugeConfigWrite i true (s.merged .GAU_CFG v be) 0xF#4) s ∧ exec (.gaugeConfigWrite i false v be) s = exec
    (.gaugeConfigWrite i false (s.merged .GAU_DESIGN v be) 0xF#4) s ∧ ((Reg.GAU_CTL).sent be = true → exec (.newpack i
    v be) s = exec (.newpack i (v &&& byteMask be) 0xF#4) s) ∧ exec (.polLockWrite i v be) s = exec (.polLockWrite i
    (s.merged .POL_LOCK v be) 0xF#4) s ∧ exec (.polLimitWrite i true n v be) s = exec (.polLimitWrite i true n
    (s.merged (.POL_R_PHASE n) v be) 0xF#4) s ∧ exec (.polLimitWrite i false n v be) s = exec (.polLimitWrite i false
    n (s.merged (.POL_R_DER n) v be) 0xF#4) s) ∧
  -- rows of FLT, EVT, CMD, MEM and OTP
  (∀ (i : Iface) (w : Fin 8) (f : Fin 256) (q : Fin 3) (v : Word) (be : BitVec 4) (s : State), exec (.faultClear i w v
    be) s = exec (.faultClear i w (v &&& byteMask be) 0xF#4) s ∧ exec (.fltCfgWrite i f v be) s = exec (.fltCfgWrite i
    f (s.merged (.FLT_CFG f) v be) 0xF#4) s ∧ exec (.fltTgtWrite i f v be) s = exec (.fltTgtWrite i f (s.merged
    (.FLT_TGT f) v be) 0xF#4) s ∧ ((Reg.FLT_CTL).sent be = true → exec (.cntclr i v be) s = exec (.cntclr i (v &&&
    byteMask be) 0xF#4) s) ∧ exec (.fltForceWrite i v be) s = exec (.fltForceWrite i (s.merged .FLT_FORCE v be) 0xF#4)
    s ∧ exec (.injectionUnlock i v be) s = exec (.injectionUnlock i (s.merged .FLT_INJ v be) 0xF#4) s ∧ exec (.go i v
    be) s = exec (.go i (s.merged .FLT_INJ v be) 0xF#4) s ∧ ((Reg.FLT_HOST).sent be = true → exec (.fltHostRaise i v
    be) s = exec (.fltHostRaise i (v &&& byteMask be) 0xF#4) s) ∧ exec (.pendWrite i w v be) s = exec (.pendWrite i w
    (s.merged (.EVT_PEND w) v be) 0xF#4) s ∧ exec (.freezeWrite i v be) s = exec (.freezeWrite i (s.merged .EVT_CTL v
    be) 0xF#4) s ∧ exec (.queueConfigWrite i true q v be) s = exec (.queueConfigWrite i true q (s.merged (.EVT_QSIZE
    q) v be) 0xF#4) s ∧ exec (.queueConfigWrite i false q v be) s = exec (.queueConfigWrite i false q (s.merged
    (.EVT_QBASE q) v be) 0xF#4) s ∧ ((Reg.CMD_CANCEL).sent be = true → exec (.cmdCancel i v be) s = exec (.cmdCancel i
    (v &&& byteMask be) 0xF#4) s) ∧ ((Reg.MEM_PRETIRE).sent be = true → exec (.memPretireWrite i v be) s = exec
    (.memPretireWrite i (v &&& byteMask be) 0xF#4) s) ∧ ((Reg.OTP_PROG).sent be = true → exec (.otpProgram i v be) s =
    exec (.otpProgram i (s.merged .OTP_PROG v be) 0xF#4) s) ∧ ((Reg.OTP_LC).sent be = true → exec
    (.lifecycleTransition i v be) s = exec (.lifecycleTransition i (s.merged .OTP_LC v be) 0xF#4) s)) ∧
  -- rows of WDG, LNK, FLW, TIM, TWB, MON, XNG and PWR
  (∀ (i : Iface) (n : Fin 8) (e : Fin 64) (f : Fin 128) (d : Option EdgeDecision) (o : BitVec 8) (v : Word) (be :
    BitVec 4) (s : State), exec (.taskRegister i n v be) s = exec (.taskRegister i n (s.merged (.WDG_T_CFG n) v be)
    0xF#4) s ∧ ((Reg.WDG_TOKEN).sent be = true → exec (.token i v be ⟨d, o⟩) s = exec (.token i (v &&& byteMask be)
    0xF#4 ⟨d, o⟩) s) ∧ exec (.wdgCtlWrite i v be) s = exec (.wdgCtlWrite i (s.merged .WDG_CTL v be) 0xF#4) s ∧ exec
    (.lnkCfgWrite i v be) s = exec (.lnkCfgWrite i (s.merged .LNK_CFG v be) 0xF#4) s ∧ exec (.rtBWrite i e v be) s =
    exec (.rtBWrite i e (s.merged (.LNK_RT_B e) v be) 0xF#4) s ∧ exec (.rtAWrite i e v be) s = exec (.rtAWrite i e
    (s.merged (.LNK_RT_A e) v be) 0xF#4) s ∧ ((Reg.LNK_TRIPCTL).sent be = true → exec (.tripSend i v be) s = exec
    (.tripSend i (s.merged .LNK_TRIPCTL v be) 0xF#4) s) ∧ ((Reg.FLW_TXGO).sent be = true → exec (.flowSend i v be) s =
    exec (.flowSend i (s.merged .FLW_TXGO v be) 0xF#4) s) ∧ exec (.rxreadWrite i f v be) s = exec (.rxreadWrite i f
    (s.merged (.FLW_F_RX f) v be) 0xF#4) s ∧ ((Reg.TIM_SETCTL).sent be = true → exec (.timeSet i v be) s = exec
    (.timeSet i (s.merged .TIM_SETCTL v be) 0xF#4) s) ∧ ((Reg.TWB_CXGO).sent be = true → exec (.cxgo i v be) s = exec
    (.cxgo i (v &&& byteMask be) 0xF#4) s) ∧ exec (.monCfgWrite i v be) s = exec (.monCfgWrite i (s.merged .MON_CFG v
    be) 0xF#4) s ∧ exec (.legacyWrite i v be) s = exec (.legacyWrite i (s.merged .XNG_CTL v be) 0xF#4) s ∧ exec
    (.takeRelease i v be) s = exec (.takeRelease i (v &&& byteMask be) 0xF#4) s ∧ exec (.sleepRequest i v be) s = exec
    (.sleepRequest i (s.merged .PWR_CTL v be) 0xF#4) s ∧ exec (.deepRequest i v be) s = exec (.deepRequest i (s.merged
    .PWR_CTL v be) 0xF#4) s ∧ exec (.deepDrop i v be) s = exec (.deepDrop i (s.merged .PWR_CTL v be) 0xF#4) s) ∧
  -- and a write that sends nothing of a register whose bits all act on the write itself changes nothing
  (∀ (i : Iface) (d : Option EdgeDecision) (o : BitVec 8) (v : Word) (be : BitVec 4) (s : State), ((Reg.FLT_CTL).sent
    be = false → s.takes .FLT_CTL = true → exec (.cntclr i v be) s = .next s) ∧ ((Reg.FLT_HOST).sent be = false →
    s.takes .FLT_HOST = true → exec (.fltHostRaise i v be) s = .next s) ∧ ((Reg.CMD_CANCEL).sent be = false → s.takes
    .CMD_CANCEL = true → exec (.cmdCancel i v be) s = .next s) ∧ ((Reg.MEM_PRETIRE).sent be = false → s.takes
    .MEM_PRETIRE = true → exec (.memPretireWrite i v be) s = .next s) ∧ ((Reg.OTP_PROG).sent be = false → s.takes
    .OTP_PROG = true → exec (.otpProgram i v be) s = .next s) ∧ ((Reg.OTP_LC).sent be = false → s.takes .OTP_LC = true
    → exec (.lifecycleTransition i v be) s = .next s) ∧ ((Reg.WDG_TOKEN).sent be = false → s.takes .WDG_TOKEN = true →
    exec (.token i v be ⟨d, o⟩) s = .next s) ∧ ((Reg.LNK_TRIPCTL).sent be = false → s.takes .LNK_TRIPCTL = true → exec
    (.tripSend i v be) s = .next s) ∧ ((Reg.FLW_TXGO).sent be = false → s.takes .FLW_TXGO = true → exec (.flowSend i v
    be) s = .next s) ∧ ((Reg.TIM_SETCTL).sent be = false → s.takes .TIM_SETCTL = true → exec (.timeSet i v be) s =
    .next s) ∧ ((Reg.TWB_CXGO).sent be = false → s.takes .TWB_CXGO = true → exec (.cxgo i v be) s = .next s) ∧
    ((Reg.GAU_CTL).sent be = false → s.takes .GAU_CTL = true → exec (.newpack i v be) s = .next s))

/-- Commands of the buses and of the power domains, each with its own effect. Reg.stored (Sys2Proof/Safety.lean) names
the registers that a write just stores. That a domain comes up by DOMAIN_POWER_UP and what a loss of REFCLK leaves are
choices (logs 150 and 21). Rests on 00_scope.md R7, R8; 01_architecture.md R17, R18, R24, R25. -/
def Obligations.BusCommands : Prop :=
  -- REGISTER_WRITE of a register that has RW fields alone and no rule of its own stores the bytes sent of its RW bits,
  -- and changes nothing else
  (∀ (i : Iface) (a : Nat) (r : Reg) (v : Word) (be : BitVec 4) (s : State), Reg.ofAddr (wordAddr a) = some r →
    r.stored = true → s.takes r = true → exec (.registerWrite i a v be) s = .next (s.wr r ((s.rd r &&& ~~~ r.rw) |||
    (s.merged r v be &&& r.rw)))) ∧
  -- REGISTER_WRITE of a whole SRAM word stores it
  (∀ (i : Iface) (v : Word) (a : Nat) (s : State), s.accepts = true → s.sramServed a = true → a < 0x40000 → a % 4 = 0
    → s.memOk → ∃ t, exec (.registerWrite i a v 0xF#4) s = .next t ∧ t.word a = v ∧ t.sramBad a = none) ∧
  -- WINBASE_WRITE stores a permitted BASE, keeps BASE and sets BADBASE otherwise, and clears BADBASE where 1 is
  -- written to it with a permitted BASE
  (∀ (i : Iface) (v w : Word) (be : BitVec 4) (b : Nat) (s : State), s.takes .SYS_WINBASE = true → w = s.merged
    .SYS_WINBASE v be → b = getF w Fld.SYS_WINBASE_BASE → ∃ t, exec (.winbaseWrite i v be) s = .next t ∧ t.fld
    .SYS_WINBASE Fld.SYS_WINBASE_BASE = (if b ≤ 3 ∨ 0x1000 ≤ b ∧ b ≤ 0x101F ∨ b = 0x2000 ∨ b = 0x4000 ∨ b = 0x4001
    then b else s.fld .SYS_WINBASE Fld.SYS_WINBASE_BASE) ∧ t.bit .SYS_WINBASE 16 = (if b ≤ 3 ∨ 0x1000 ≤ b ∧ b ≤ 0x101F
    ∨ b = 0x2000 ∨ b = 0x4000 ∨ b = 0x4001 then s.bit .SYS_WINBASE 16 && !wbit w 16 else true) ∧ ∀ x, x ≠ .SYS_WINBASE
    → t.rd x = s.rd x) ∧
  -- IDATA_READ of an undamaged SRAM word delivers it, and SYS_IADDR goes on by 4
  (∀ (i : Iface) (a : Nat) (s : State), s.served = true → s.powered .aon = true → a = wordAddr (s.rd .SYS_IADDR).toNat
    → a < 0x40000 → s.sramServed a = true → s.sramBad a = none → ∃ t, exec (.idataRead i) s = .next t ∧ t.rdata.get i
    0#32 = s.word a ∧ t.rd .SYS_IADDR = s.rd .SYS_IADDR + 4#32 ∧ t.mem = s.mem) ∧
  -- IDATA_READ of such a register delivers it
  (∀ (i : Iface) (r : Reg) (s : State), s.served = true → s.loader = false → s.powered .aon = true → Reg.ofAddr
    (wordAddr (s.rd .SYS_IADDR).toNat) = some r → r.stored = true → s.powered r.block.dom = true → ∃ t, exec
    (.idataRead i) s = .next t ∧ t.rdata.get i 0#32 = s.rd r ∧ t.rd .SYS_IADDR = s.rd .SYS_IADDR + 4#32 ∧ t.mem =
    s.mem) ∧
  -- IDATA_WRITE of a whole SRAM word stores it, and SYS_IADDR goes on by 4
  (∀ (i : Iface) (v : Word) (a : Nat) (s : State), s.takes .SYS_IDATA = true → a = wordAddr (s.rd .SYS_IADDR).toNat →
    a < 0x40000 → s.sramServed a = true → s.memOk → ∃ t, exec (.idataWrite i v 0xF#4) s = .next t ∧ t.word a = v ∧
    t.rd .SYS_IADDR = s.rd .SYS_IADDR + 4#32) ∧
  -- IDATA_WRITE of such a register stores the bytes sent, and SYS_IADDR goes on by 4
  (∀ (i : Iface) (r : Reg) (v : Word) (be : BitVec 4) (u s : State), s.takes .SYS_IDATA = true → Reg.ofAddr (wordAddr
    (s.rd .SYS_IADDR).toNat) = some r → r.stored = true → s.takes r = true → u = (s.wr r ((s.rd r &&& ~~~ r.rw) |||
    (s.merged r v be &&& r.rw))) → exec (.idataWrite i v be) s = .next (u.wr .SYS_IADDR (u.rd .SYS_IADDR + 4#32))) ∧
  -- DOMAIN_POWER_UP of an unpowered domain under a powered one, with REFCLK for LINK, powers it and takes no domain
  -- down
  (∀ (d p : Dom) (s : State), s.accepts = true → s.pw.start = none → s.pw.mc = .firmware → s.powered d = false →
    Dom.parent d = some p → s.powered p = true → (d ≠ .link ∨ s.pins.refclk = true) → ∃ t, exec (.domainPowerUp d) s =
    .next t ∧ t.powered d = true ∧ ∀ e ∈ s.pw.on, e ∈ t.pw.on) ∧
  -- DOMAIN_BROWNOUT of a powered domain other than AON, NVM and CORE takes it and every domain below it down, and no
  -- other
  (∀ (d : Dom) (s : State), s.powered d = true → d ≠ .aon → d ≠ .nvm → d ≠ .core → ∃ t, exec (.domainBrownout d) s =
    .next t ∧ (∀ e ∈ Dom.below d, t.powered e = false) ∧ ∀ e ∈ s.pw.on, e ∉ Dom.below d → e ∈ t.pw.on) ∧
  -- REFCLK_LOSS while LINK is powered takes the clock away and latches source 51, which is live
  (∀ (s : State), s.pins.refclk = true → s.powered .link = true → s.dark = false → ∃ t, exec .refclkLoss s = .next t ∧
    t.pins.refclk = false ∧ t.latched 51 = true ∧ t.bit (.FLT_LIVE 1) 19 = true) ∧
  -- REFCLK_RETURN brings the clock back, and source 51 is no longer live
  (∀ (s : State), ∃ t, exec .refclkReturn s = .next t ∧ t.pins.refclk = true ∧ t.bit (.FLT_LIVE 1) 19 = false ∧ t.pw =
    s.pw)

/-- Writes of STG_CFG, PNT_CFG and STG_FLAG, whole and narrow, in every state of the stage: what each of them does.
badRail, gangFull and idleOrOff are the three rules of R78; stgCause is the word of causes that are present still,
whose flags a write does not take away (log 166). Rests on 00_scope.md R7, R8; 03_switchyard.md R78, R89, R99. -/
def Obligations.SwitchyardWrites : Prop :=
  -- STG_CFG_WRITE: one that names a rail of another owner or no rail, or a ninth member, is ignored and sets OWNER
  (∀ (i : Iface) (v w : Word) (be : BitVec 4) (m : Fin 24) (s : State), s.takes (.STG_CFG m) = true → w = s.merged
    (.STG_CFG m) v be → (s.badRail m (getF w Fld.STG_CFG_RAIL) = true ∨ s.badRail m (getF w Fld.STG_CFG_HOME) = true ∨
    s.gangFull m (getF w Fld.STG_CFG_RAIL) = true) → ∃ t, exec (.stgCfgWrite i m v be) s = .next t ∧ t.rd (.STG_CFG m)
    = s.rd (.STG_CFG m) ∧ t.bit (.STG_FLAG m) 7 = true ∧ t.bit (.STG_FLAG m) 6 = s.bit (.STG_FLAG m) 6) ∧
  -- STG_CFG_WRITE: another of a stage that is OFF, BLOCKED or LATCHED, with its present and its new rail OFF, is
  -- stored whole; DEMODE 0b11 is stored as 0b00
  (∀ (i : Iface) (v w : Word) (be : BitVec 4) (m : Fin 24) (s : State), s.takes (.STG_CFG m) = true → w = (if getF
    (s.merged (.STG_CFG m) v be) Fld.STG_CFG_DEMODE = 3 then putF (s.merged (.STG_CFG m) v be) Fld.STG_CFG_DEMODE 0
    else s.merged (.STG_CFG m) v be) → s.badRail m (getF w Fld.STG_CFG_RAIL) = false → s.badRail m (getF w
    Fld.STG_CFG_HOME) = false → s.gangFull m (getF w Fld.STG_CFG_RAIL) = false → (s.stgSt m = 0 ∨ s.stgSt m = 7 ∨
    s.stgSt m = 8) → s.idleOrOff (s.stgRail m) = true → s.idleOrOff (getF w Fld.STG_CFG_RAIL) = true → ∃ t, exec
    (.stgCfgWrite i m v be) s = .next t ∧ t.rd (.STG_CFG m) = (s.rd (.STG_CFG m) &&& ~~~ Reg.rw (.STG_CFG m)) ||| (w
    &&& Reg.rw (.STG_CFG m))) ∧
  -- STG_CFG_WRITE: in any other case DEMODE and PARKOK are stored, the other fields stay, and WRITE_LIVE is set
  (∀ (i : Iface) (v w : Word) (be : BitVec 4) (m : Fin 24) (s : State), s.takes (.STG_CFG m) = true → w = (if getF
    (s.merged (.STG_CFG m) v be) Fld.STG_CFG_DEMODE = 3 then putF (s.merged (.STG_CFG m) v be) Fld.STG_CFG_DEMODE 0
    else s.merged (.STG_CFG m) v be) → s.badRail m (getF w Fld.STG_CFG_RAIL) = false → s.badRail m (getF w
    Fld.STG_CFG_HOME) = false → s.gangFull m (getF w Fld.STG_CFG_RAIL) = false → ((s.stgSt m ≠ 0 ∧ s.stgSt m ≠ 7 ∧
    s.stgSt m ≠ 8) ∨ s.idleOrOff (s.stgRail m) = false ∨ s.idleOrOff (getF w Fld.STG_CFG_RAIL) = false) → ∃ t, exec
    (.stgCfgWrite i m v be) s = .next t ∧ t.rd (.STG_CFG m) = putF (putF (s.rd (.STG_CFG m)) Fld.STG_CFG_DEMODE (getF
    w Fld.STG_CFG_DEMODE)) Fld.STG_CFG_PARKOK (getF w Fld.STG_CFG_PARKOK) ∧ t.bit (.STG_FLAG m) 6 = true) ∧
  -- PNT_CFG_WRITE of an open point is stored
  (∀ (i : Iface) (v : Word) (be : BitVec 4) (k : Fin 8) (s : State), s.takes (.PNT_CFG k) = true → k.val ∉
    s.pins.closed → ∃ t, exec (.pntCfgWrite i k v be) s = .next t ∧ t.rd (.PNT_CFG k) = (s.rd (.PNT_CFG k) &&& ~~~
    Reg.rw (.PNT_CFG k)) ||| (s.merged (.PNT_CFG k) v be &&& Reg.rw (.PNT_CFG k))) ∧
  -- PNT_CFG_WRITE of a closed point is ignored
  (∀ (i : Iface) (v : Word) (be : BitVec 4) (k : Fin 8) (s : State), s.takes (.PNT_CFG k) = true → k.val ∈
    s.pins.closed → exec (.pntCfgWrite i k v be) s = .next s) ∧
  -- STG_FLAG_WRITE clears the flags it names whose cause is gone, and keeps every other
  (∀ (i : Iface) (v : Word) (be : BitVec 4) (m : Fin 24) (b : Fin 32) (s : State), s.takes (.STG_FLAG m) = true → ∃ t,
    exec (.stgFlagWrite i m v be) s = .next t ∧ t.bit (.STG_FLAG m) b = (s.bit (.STG_FLAG m) b && !(wbit (v &&&
    byteMask be &&& Reg.w1c (.STG_FLAG m)) b && !wbit (s.stgCause m) b))) ∧
  -- STG_FLAG_WRITE of 1 to HSSHORT takes a BLOCKED stage whose source is clear to OFF; another write leaves the state
  -- of the stage
  (∀ (i : Iface) (v : Word) (be : BitVec 4) (m : Fin 24) (s : State), s.takes (.STG_FLAG m) = true → ∃ t, exec
    (.stgFlagWrite i m v be) s = .next t ∧ t.stgSt m = (if wbit (v &&& byteMask be) 0 = true ∧ s.stgSt m = 7 ∧
    s.latched m = false then 0 else s.stgSt m))
end

