-- ==== Sys2Proof/Laws/Bits.lean ====
section
/-!
SUPPORT. Fields and bits of a word: what a field or a bit reads as after one of them is replaced.
-/

namespace Sys2Proof.Machine

/-- A field that lies in a word. -/
def Field.ok (f : Field) : Bool := decide (f.lo ≤ f.hi) && decide (f.hi < 32)

theorem getF_testBit (w : Word) (f : Field) (i : Nat) :
    (getF w f).testBit i = (decide (i < f.width) && w.getLsbD (f.lo + i)) := by
  simp [getF, Nat.testBit_mod_two_pow, Nat.testBit_shiftRight, BitVec.testBit_toNat]

theorem putF_getLsbD (w : Word) (f : Field) (v i : Nat) (hf : f.ok = true) :
    (putF w f v).getLsbD i = if f.lo ≤ i ∧ i ≤ f.hi then v.testBit (i - f.lo) else w.getLsbD i := by
  simp only [Field.ok, Bool.and_eq_true, decide_eq_true_eq] at hf
  have hm : f.mask.getLsbD i = decide (f.lo ≤ i ∧ i ≤ f.hi) := by
    simp only [Field.mask, BitVec.getLsbD_ofNat, Nat.testBit_shiftLeft, Nat.testBit_two_pow_sub_one, Field.width]
    by_cases h : f.lo ≤ i ∧ i ≤ f.hi
    · simp [h]; omega
    · simp only [h, decide_false]
      by_cases h1 : f.lo ≤ i <;> simp [h1] <;> omega
  have hv : (BitVec.ofNat 32 ((v % 2 ^ f.width) <<< f.lo)).getLsbD i =
      (decide (f.lo ≤ i ∧ i ≤ f.hi) && v.testBit (i - f.lo)) := by
    simp only [BitVec.getLsbD_ofNat, Nat.testBit_shiftLeft, Nat.testBit_mod_two_pow, Field.width]
    by_cases h : f.lo ≤ i ∧ i ≤ f.hi
    · have h1 : i < 32 := by omega
      have h2 : i - f.lo < f.hi + 1 - f.lo := by omega
      simp [h, h1, h2]
    · by_cases h1 : f.lo ≤ i
      · have h2 : ¬ i - f.lo < f.hi + 1 - f.lo := by omega
        simp [h1, h2]
        omega
      · simp [h1]
  simp only [putF, BitVec.getLsbD_or, BitVec.getLsbD_and, BitVec.getLsbD_not, hm, hv]
  by_cases h : f.lo ≤ i ∧ i ≤ f.hi
  · simp [h]
  · simp only [h, decide_false, Bool.false_and, Bool.or_false, Bool.not_false, Bool.and_true, if_false]
    by_cases h32 : i < 32
    · simp [h32]
    · simp [h32, BitVec.getLsbD_of_ge w i (by omega)]

/-- A field reads as what was stored, cut to its width. -/
theorem getF_putF (w : Word) (f : Field) (v : Nat) (hf : f.ok = true) : getF (putF w f v) f = v % 2 ^ f.width := by
  refine Nat.eq_of_testBit_eq fun i => ?_
  rw [getF_testBit, putF_getLsbD w f v _ hf, Nat.testBit_mod_two_pow]
  simp only [Field.ok, Bool.and_eq_true, decide_eq_true_eq] at hf
  by_cases h : i < f.width
  · have : f.lo + i ≤ f.hi := by simp only [Field.width] at h; omega
    simp [h, this]
  · simp [h]

/-- A field keeps its value when another field that shares no bit with it is stored. -/
theorem getF_putF_other (w : Word) (f g : Field) (v : Nat) (hf : f.ok = true) (hg : g.hi < f.lo ∨ f.hi < g.lo) :
    getF (putF w f v) g = getF w g := by
  refine Nat.eq_of_testBit_eq fun i => ?_
  rw [getF_testBit, getF_testBit, putF_getLsbD w f v _ hf]
  by_cases h : i < g.width
  · have h1 : ¬ (f.lo ≤ g.lo + i ∧ g.lo + i ≤ f.hi) := by simp only [Field.width] at h; omega
    simp [h1]
  · simp [h]

theorem wputBit_getLsbD (w : Word) (i j : Nat) (b : Bool) (hi : i < 32) :
    (wputBit w i b).getLsbD j = if j = i then b else w.getLsbD j := by
  have h1 : (1#32 <<< i).getLsbD j = decide (j = i) := by
    simp only [BitVec.getLsbD_shiftLeft, BitVec.getLsbD_one]
    by_cases h : j = i
    · subst h; simp [hi]
    · by_cases h2 : j < i
      · simp [h2, h]
      · have : ¬ j - i = 0 := by omega
        simp [h, this]
  unfold wputBit
  cases b
  · simp only [Bool.false_eq_true, if_false, BitVec.getLsbD_and, BitVec.getLsbD_not, h1]
    by_cases h : j = i
    · subst h; simp
    · by_cases h32 : j < 32
      · simp [h, h32]
      · simp [h, BitVec.getLsbD_of_ge w j (by omega)]
  · simp only [if_true, BitVec.getLsbD_or, h1]
    by_cases h : j = i <;> simp [h]

/-- A bit reads as what was stored. -/
@[simp] theorem wbit_wputBit (w : Word) (i : Nat) (b : Bool) (hi : i < 32) : wbit (wputBit w i b) i = b := by
  rw [wbit, wputBit_getLsbD w i i b hi, if_pos rfl]

/-- The other bits stay. -/
theorem wbit_wputBit_other (w : Word) (i j : Nat) (b : Bool) (hi : i < 32) (h : j ≠ i) : wbit (wputBit w i b) j = wbit w j := by
  rw [wbit, wputBit_getLsbD w i j b hi, if_neg h, wbit]

/-- A field keeps its value when a bit outside it is stored. -/
theorem getF_wputBit_other (w : Word) (i : Nat) (b : Bool) (g : Field) (hi : i < 32) (h : i < g.lo ∨ g.hi < i) :
    getF (wputBit w i b) g = getF w g := by
  refine Nat.eq_of_testBit_eq fun k => ?_
  rw [getF_testBit, getF_testBit, wputBit_getLsbD w i _ b hi]
  by_cases hk : k < g.width
  · have h1 : ¬ g.lo + k = i := by simp only [Field.width] at hk; omega
    simp [h1]
  · simp [hk]

/-- A bit keeps its value when a field that does not hold it is stored. -/
theorem wbit_putF_other (w : Word) (f : Field) (v i : Nat) (hf : f.ok = true) (h : i < f.lo ∨ f.hi < i) :
    wbit (putF w f v) i = wbit w i := by
  rw [wbit, putF_getLsbD w f v i hf, if_neg (by omega), wbit]

end Sys2Proof.Machine
end

