-- ==== Sys2Proof/Laws/Memory.lean ====
section
/-!
SUPPORT. Memory: a read after a write, and the canonical form kept by every operation on the cells.
-/

namespace Sys2Proof.Machine

/-- The bytes of every cell list stand where they were put, and nowhere else. -/
theorem memGet_memPut (l : List Host.Cell) (a k : Nat) (b : Byte) (h : memWf l = true) :
    memGet (memPut l a b) k = if k = a then b else memGet l k := by
  induction l with
  | nil =>
    by_cases hb : b = memDefault a <;> by_cases hk : k = a
    · subst hk; simp [memPut, memGet, hb]
    · simp [memPut, memGet, hb, hk]
    · subst hk; simp [memPut, memGet, hb]
    · simp [memPut, memGet, hb, hk, Ne.symm hk]
  | cons c t ih =>
    obtain ⟨n, d⟩ := c
    simp only [memWf, Bool.and_eq_true, List.all_eq_true, decide_eq_true_eq] at h
    obtain ⟨⟨-, hlt⟩, hw⟩ := h
    have low : ∀ m, m ≤ n → memGet t m = memDefault m := by
      intro m hm
      clear ih hw
      induction t with
      | nil => rfl
      | cons e u ihu =>
        have h1 := hlt e (by simp)
        obtain ⟨p, q⟩ := e
        rw [memGet, if_neg (by simp at h1; omega)]
        exact ihu fun x hx => hlt x (by simp [hx])
    unfold memPut
    split
    · next hlta =>
      split <;> by_cases hk : k = a
      · subst hk; simp [memGet, low k (by omega), show n ≠ k by omega, *]
      · simp [hk]
      · subst hk; simp [memGet]
      · simp [memGet, hk, Ne.symm hk]
    · split
      · next hna =>
        subst hna
        split <;> by_cases hk : k = a
        · subst hk; simp [low k (by omega), *]
        · simp [memGet, hk, Ne.symm hk]
        · subst hk; simp [memGet]
        · simp [memGet, hk, Ne.symm hk]
      · next h1 h2 =>
        rw [memGet, ih hw]
        by_cases hk : n = k
        · simp [memGet, hk, show k ≠ a by omega]
        · simp [memGet, hk]

/-- A write of a byte keeps the canonical form. -/
theorem memPut_wf (l : List Host.Cell) (a : Nat) (b : Byte) (h : memWf l = true) : memWf (memPut l a b) = true := by
  have lower : ∀ (l : List Host.Cell) (n : Nat), n < a → (∀ c ∈ l, n < c.1) → ∀ c ∈ memPut l a b, n < c.1 := by
    intro l n hn
    induction l with
    | nil => intro _ c hc; unfold memPut at hc; split at hc <;> simp_all
    | cons e t ih =>
      intro hl c hc
      obtain ⟨p, q⟩ := e
      unfold memPut at hc
      split at hc
      · split at hc
        · exact hl c hc
        · rcases List.mem_cons.mp hc with rfl | hc
          · exact hn
          · exact hl c hc
      · split at hc
        · split at hc
          · exact hl c (by simp [hc])
          · rcases List.mem_cons.mp hc with rfl | hc
            · exact hn
            · exact hl c (by simp [hc])
        · rcases List.mem_cons.mp hc with rfl | hc
          · exact hl _ (by simp)
          · exact ih (fun x hx => hl x (by simp [hx])) c hc
  induction l with
  | nil => unfold memPut; split <;> simp_all [memWf]
  | cons e t ih =>
    obtain ⟨p, q⟩ := e
    have h0 := h
    simp only [memWf, Bool.and_eq_true, List.all_eq_true, decide_eq_true_eq, bne_iff_ne, ne_eq] at h
    obtain ⟨⟨hq, hlt⟩, hw⟩ := h
    unfold memPut
    split
    · split
      · exact h0
      · next hap hb =>
        simp only [memWf, Bool.and_eq_true, List.all_eq_true, decide_eq_true_eq, bne_iff_ne, ne_eq]
        refine ⟨⟨hb, fun c hc => ?_⟩, ⟨hq, hlt⟩, hw⟩
        rcases List.mem_cons.mp hc with rfl | hc
        · exact hap
        · exact Nat.lt_trans hap (hlt c hc)
    · split
      · next hpa =>
        subst hpa
        split
        · exact hw
        · next hb =>
          simp only [memWf, Bool.and_eq_true, List.all_eq_true, decide_eq_true_eq, bne_iff_ne, ne_eq]
          exact ⟨⟨hb, hlt⟩, hw⟩
      · next h1 h2 =>
        simp only [memWf, Bool.and_eq_true, List.all_eq_true, decide_eq_true_eq, bne_iff_ne, ne_eq]
        exact ⟨⟨hq, lower t p (by omega) hlt⟩, ih hw⟩

/-- Dropping cells keeps the canonical form. -/
theorem memFilter_wf (l : List Host.Cell) (p : Host.Cell → Bool) (h : memWf l = true) : memWf (l.filter p) = true := by
  induction l with
  | nil => rfl
  | cons e t ih =>
    simp only [memWf, Bool.and_eq_true, List.all_eq_true, decide_eq_true_eq] at h
    obtain ⟨⟨hq, hlt⟩, hw⟩ := h
    rw [List.filter_cons]
    split
    · simp only [memWf, Bool.and_eq_true, List.all_eq_true, decide_eq_true_eq]
      exact ⟨⟨hq, fun c hc => hlt c (List.mem_filter.mp hc).1⟩, ih hw⟩
    · exact ih hw

end Sys2Proof.Machine
end

