-- ==== Sys2Proof/Laws/State.lean ====
section
/-!
SUPPORT. The small lemmas of State: what a read sees after each update, one lemma per field per update.
-/

namespace Sys2Proof.Machine

variable {s : State}

/-! ### Tables -/

@[simp] theorem Tab.get_set {κ α : Type} [DecidableEq κ] (t : Tab κ α) (k q : κ) (v d : α) :
    (t.set k v).get q d = if q = k then v else t.get q d := by
  by_cases h : q = k
  · simp [Tab.get, Tab.set, h]
  · have hf : ∀ t : Tab κ α, (t.filter fun e => !decide (e.1 = k)).find? (fun e => decide (e.1 = q)) =
        t.find? fun e => decide (e.1 = q) := by
      intro t
      induction t with
      | nil => rfl
      | cons e t ih =>
        by_cases he : e.1 = k
        · simp [he, ih, Ne.symm h]
        · simp only [List.filter_cons, he, decide_false, Bool.not_false, if_true, List.find?_cons, ih]
    simp only [Tab.get, Tab.set, List.find?_cons, Ne.symm h, decide_false, hf, h, if_false]

/-! ### Registers -/

@[simp] theorem State.rd_wr (r q : Reg) (w : Word) : (s.wr r w).rd q = if q = r then w else s.rd q := by
  simp only [State.rd, State.wr, Tab.get_set]

theorem State.put_eq (r : Reg) (f : Field) (v : Nat) : s.put r f v = s.wr r (putF (s.rd r) f v) := rfl
theorem State.putBit_eq (r : Reg) (b : Nat) (v : Bool) : s.putBit r b v = s.wr r (wputBit (s.rd r) b v) := rfl

@[simp] theorem State.rd_put (r q : Reg) (f : Field) (v : Nat) :
    (s.put r f v).rd q = if q = r then putF (s.rd r) f v else s.rd q := State.rd_wr r q _
@[simp] theorem State.rd_putBit (r q : Reg) (b : Nat) (v : Bool) :
    (s.putBit r b v).rd q = if q = r then wputBit (s.rd r) b v else s.rd q := State.rd_wr r q _
@[simp] theorem State.rd_writeRw (r q : Reg) (w : Word) :
    (s.writeRw r w).rd q = if q = r then (s.rd r &&& ~~~ r.rw) ||| (w &&& r.rw) else s.rd q := State.rd_wr r q _
@[simp] theorem State.rd_draw (q : Reg) : s.draw.2.rd q = s.rd q := rfl
@[simp] theorem State.rd_putByte (a : Nat) (b : Byte) (q : Reg) : (s.putByte a b).rd q = s.rd q := rfl

/-! ### The other fields under each update -/

@[simp] theorem State.pending_wr (r : Reg) (w : Word) : (s.wr r w).pending = s.pending := rfl
@[simp] theorem State.mem_wr (r : Reg) (w : Word) : (s.wr r w).mem = s.mem := rfl
@[simp] theorem State.clock_wr (r : Reg) (w : Word) : (s.wr r w).clock = s.clock := rfl
@[simp] theorem State.pins_wr (r : Reg) (w : Word) : (s.wr r w).pins = s.pins := rfl
@[simp] theorem State.rdata_wr (r : Reg) (w : Word) : (s.wr r w).rdata = s.rdata := rfl
@[simp] theorem State.ev_wr (r : Reg) (w : Word) : (s.wr r w).ev = s.ev := rfl
@[simp] theorem State.cm_wr (r : Reg) (w : Word) : (s.wr r w).cm = s.cm := rfl
@[simp] theorem State.tp_wr (r : Reg) (w : Word) : (s.wr r w).tp = s.tp := rfl
@[simp] theorem State.sw_wr (r : Reg) (w : Word) : (s.wr r w).sw = s.sw := rfl
@[simp] theorem State.lp_wr (r : Reg) (w : Word) : (s.wr r w).lp = s.lp := rfl
@[simp] theorem State.tt_wr (r : Reg) (w : Word) : (s.wr r w).tt = s.tt := rfl
@[simp] theorem State.sv_wr (r : Reg) (w : Word) : (s.wr r w).sv = s.sv := rfl
@[simp] theorem State.ga_wr (r : Reg) (w : Word) : (s.wr r w).ga = s.ga := rfl
@[simp] theorem State.po_wr (r : Reg) (w : Word) : (s.wr r w).po = s.po := rfl
@[simp] theorem State.fl_wr (r : Reg) (w : Word) : (s.wr r w).fl = s.fl := rfl
@[simp] theorem State.me_wr (r : Reg) (w : Word) : (s.wr r w).me = s.me := rfl
@[simp] theorem State.ld_wr (r : Reg) (w : Word) : (s.wr r w).ld = s.ld := rfl
@[simp] theorem State.ln_wr (r : Reg) (w : Word) : (s.wr r w).ln = s.ln := rfl
@[simp] theorem State.fw_wr (r : Reg) (w : Word) : (s.wr r w).fw = s.fw := rfl
@[simp] theorem State.tm_wr (r : Reg) (w : Word) : (s.wr r w).tm = s.tm := rfl
@[simp] theorem State.ot_wr (r : Reg) (w : Word) : (s.wr r w).ot = s.ot := rfl
@[simp] theorem State.wd_wr (r : Reg) (w : Word) : (s.wr r w).wd = s.wd := rfl
@[simp] theorem State.tb_wr (r : Reg) (w : Word) : (s.wr r w).tb = s.tb := rfl
@[simp] theorem State.mo_wr (r : Reg) (w : Word) : (s.wr r w).mo = s.mo := rfl
@[simp] theorem State.xg_wr (r : Reg) (w : Word) : (s.wr r w).xg = s.xg := rfl
@[simp] theorem State.pw_wr (r : Reg) (w : Word) : (s.wr r w).pw = s.pw := rfl
@[simp] theorem State.pending_put (r : Reg) (f : Field) (v : Nat) : (s.put r f v).pending = s.pending := rfl
@[simp] theorem State.mem_put (r : Reg) (f : Field) (v : Nat) : (s.put r f v).mem = s.mem := rfl
@[simp] theorem State.clock_put (r : Reg) (f : Field) (v : Nat) : (s.put r f v).clock = s.clock := rfl
@[simp] theorem State.pins_put (r : Reg) (f : Field) (v : Nat) : (s.put r f v).pins = s.pins := rfl
@[simp] theorem State.rdata_put (r : Reg) (f : Field) (v : Nat) : (s.put r f v).rdata = s.rdata := rfl
@[simp] theorem State.ev_put (r : Reg) (f : Field) (v : Nat) : (s.put r f v).ev = s.ev := rfl
@[simp] theorem State.cm_put (r : Reg) (f : Field) (v : Nat) : (s.put r f v).cm = s.cm := rfl
@[simp] theorem State.tp_put (r : Reg) (f : Field) (v : Nat) : (s.put r f v).tp = s.tp := rfl
@[simp] theorem State.sw_put (r : Reg) (f : Field) (v : Nat) : (s.put r f v).sw = s.sw := rfl
@[simp] theorem State.lp_put (r : Reg) (f : Field) (v : Nat) : (s.put r f v).lp = s.lp := rfl
@[simp] theorem State.tt_put (r : Reg) (f : Field) (v : Nat) : (s.put r f v).tt = s.tt := rfl
@[simp] theorem State.sv_put (r : Reg) (f : Field) (v : Nat) : (s.put r f v).sv = s.sv := rfl
@[simp] theorem State.ga_put (r : Reg) (f : Field) (v : Nat) : (s.put r f v).ga = s.ga := rfl
@[simp] theorem State.po_put (r : Reg) (f : Field) (v : Nat) : (s.put r f v).po = s.po := rfl
@[simp] theorem State.fl_put (r : Reg) (f : Field) (v : Nat) : (s.put r f v).fl = s.fl := rfl
@[simp] theorem State.me_put (r : Reg) (f : Field) (v : Nat) : (s.put r f v).me = s.me := rfl
@[simp] theorem State.ld_put (r : Reg) (f : Field) (v : Nat) : (s.put r f v).ld = s.ld := rfl
@[simp] theorem State.ln_put (r : Reg) (f : Field) (v : Nat) : (s.put r f v).ln = s.ln := rfl
@[simp] theorem State.fw_put (r : Reg) (f : Field) (v : Nat) : (s.put r f v).fw = s.fw := rfl
@[simp] theorem State.tm_put (r : Reg) (f : Field) (v : Nat) : (s.put r f v).tm = s.tm := rfl
@[simp] theorem State.ot_put (r : Reg) (f : Field) (v : Nat) : (s.put r f v).ot = s.ot := rfl
@[simp] theorem State.wd_put (r : Reg) (f : Field) (v : Nat) : (s.put r f v).wd = s.wd := rfl
@[simp] theorem State.tb_put (r : Reg) (f : Field) (v : Nat) : (s.put r f v).tb = s.tb := rfl
@[simp] theorem State.mo_put (r : Reg) (f : Field) (v : Nat) : (s.put r f v).mo = s.mo := rfl
@[simp] theorem State.xg_put (r : Reg) (f : Field) (v : Nat) : (s.put r f v).xg = s.xg := rfl
@[simp] theorem State.pw_put (r : Reg) (f : Field) (v : Nat) : (s.put r f v).pw = s.pw := rfl
@[simp] theorem State.pending_putBit (r : Reg) (b : Nat) (v : Bool) : (s.putBit r b v).pending = s.pending := rfl
@[simp] theorem State.mem_putBit (r : Reg) (b : Nat) (v : Bool) : (s.putBit r b v).mem = s.mem := rfl
@[simp] theorem State.clock_putBit (r : Reg) (b : Nat) (v : Bool) : (s.putBit r b v).clock = s.clock := rfl
@[simp] theorem State.pins_putBit (r : Reg) (b : Nat) (v : Bool) : (s.putBit r b v).pins = s.pins := rfl
@[simp] theorem State.rdata_putBit (r : Reg) (b : Nat) (v : Bool) : (s.putBit r b v).rdata = s.rdata := rfl
@[simp] theorem State.ev_putBit (r : Reg) (b : Nat) (v : Bool) : (s.putBit r b v).ev = s.ev := rfl
@[simp] theorem State.cm_putBit (r : Reg) (b : Nat) (v : Bool) : (s.putBit r b v).cm = s.cm := rfl
@[simp] theorem State.tp_putBit (r : Reg) (b : Nat) (v : Bool) : (s.putBit r b v).tp = s.tp := rfl
@[simp] theorem State.sw_putBit (r : Reg) (b : Nat) (v : Bool) : (s.putBit r b v).sw = s.sw := rfl
@[simp] theorem State.lp_putBit (r : Reg) (b : Nat) (v : Bool) : (s.putBit r b v).lp = s.lp := rfl
@[simp] theorem State.tt_putBit (r : Reg) (b : Nat) (v : Bool) : (s.putBit r b v).tt = s.tt := rfl
@[simp] theorem State.sv_putBit (r : Reg) (b : Nat) (v : Bool) : (s.putBit r b v).sv = s.sv := rfl
@[simp] theorem State.ga_putBit (r : Reg) (b : Nat) (v : Bool) : (s.putBit r b v).ga = s.ga := rfl
@[simp] theorem State.po_putBit (r : Reg) (b : Nat) (v : Bool) : (s.putBit r b v).po = s.po := rfl
@[simp] theorem State.fl_putBit (r : Reg) (b : Nat) (v : Bool) : (s.putBit r b v).fl = s.fl := rfl
@[simp] theorem State.me_putBit (r : Reg) (b : Nat) (v : Bool) : (s.putBit r b v).me = s.me := rfl
@[simp] theorem State.ld_putBit (r : Reg) (b : Nat) (v : Bool) : (s.putBit r b v).ld = s.ld := rfl
@[simp] theorem State.ln_putBit (r : Reg) (b : Nat) (v : Bool) : (s.putBit r b v).ln = s.ln := rfl
@[simp] theorem State.fw_putBit (r : Reg) (b : Nat) (v : Bool) : (s.putBit r b v).fw = s.fw := rfl
@[simp] theorem State.tm_putBit (r : Reg) (b : Nat) (v : Bool) : (s.putBit r b v).tm = s.tm := rfl
@[simp] theorem State.ot_putBit (r : Reg) (b : Nat) (v : Bool) : (s.putBit r b v).ot = s.ot := rfl
@[simp] theorem State.wd_putBit (r : Reg) (b : Nat) (v : Bool) : (s.putBit r b v).wd = s.wd := rfl
@[simp] theorem State.tb_putBit (r : Reg) (b : Nat) (v : Bool) : (s.putBit r b v).tb = s.tb := rfl
@[simp] theorem State.mo_putBit (r : Reg) (b : Nat) (v : Bool) : (s.putBit r b v).mo = s.mo := rfl
@[simp] theorem State.xg_putBit (r : Reg) (b : Nat) (v : Bool) : (s.putBit r b v).xg = s.xg := rfl
@[simp] theorem State.pw_putBit (r : Reg) (b : Nat) (v : Bool) : (s.putBit r b v).pw = s.pw := rfl
@[simp] theorem State.pending_writeRw (r : Reg) (w : Word) : (s.writeRw r w).pending = s.pending := rfl
@[simp] theorem State.mem_writeRw (r : Reg) (w : Word) : (s.writeRw r w).mem = s.mem := rfl
@[simp] theorem State.clock_writeRw (r : Reg) (w : Word) : (s.writeRw r w).clock = s.clock := rfl
@[simp] theorem State.pins_writeRw (r : Reg) (w : Word) : (s.writeRw r w).pins = s.pins := rfl
@[simp] theorem State.rdata_writeRw (r : Reg) (w : Word) : (s.writeRw r w).rdata = s.rdata := rfl
@[simp] theorem State.ev_writeRw (r : Reg) (w : Word) : (s.writeRw r w).ev = s.ev := rfl
@[simp] theorem State.cm_writeRw (r : Reg) (w : Word) : (s.writeRw r w).cm = s.cm := rfl
@[simp] theorem State.tp_writeRw (r : Reg) (w : Word) : (s.writeRw r w).tp = s.tp := rfl
@[simp] theorem State.sw_writeRw (r : Reg) (w : Word) : (s.writeRw r w).sw = s.sw := rfl
@[simp] theorem State.lp_writeRw (r : Reg) (w : Word) : (s.writeRw r w).lp = s.lp := rfl
@[simp] theorem State.tt_writeRw (r : Reg) (w : Word) : (s.writeRw r w).tt = s.tt := rfl
@[simp] theorem State.sv_writeRw (r : Reg) (w : Word) : (s.writeRw r w).sv = s.sv := rfl
@[simp] theorem State.ga_writeRw (r : Reg) (w : Word) : (s.writeRw r w).ga = s.ga := rfl
@[simp] theorem State.po_writeRw (r : Reg) (w : Word) : (s.writeRw r w).po = s.po := rfl
@[simp] theorem State.fl_writeRw (r : Reg) (w : Word) : (s.writeRw r w).fl = s.fl := rfl
@[simp] theorem State.me_writeRw (r : Reg) (w : Word) : (s.writeRw r w).me = s.me := rfl
@[simp] theorem State.ld_writeRw (r : Reg) (w : Word) : (s.writeRw r w).ld = s.ld := rfl
@[simp] theorem State.ln_writeRw (r : Reg) (w : Word) : (s.writeRw r w).ln = s.ln := rfl
@[simp] theorem State.fw_writeRw (r : Reg) (w : Word) : (s.writeRw r w).fw = s.fw := rfl
@[simp] theorem State.tm_writeRw (r : Reg) (w : Word) : (s.writeRw r w).tm = s.tm := rfl
@[simp] theorem State.ot_writeRw (r : Reg) (w : Word) : (s.writeRw r w).ot = s.ot := rfl
@[simp] theorem State.wd_writeRw (r : Reg) (w : Word) : (s.writeRw r w).wd = s.wd := rfl
@[simp] theorem State.tb_writeRw (r : Reg) (w : Word) : (s.writeRw r w).tb = s.tb := rfl
@[simp] theorem State.mo_writeRw (r : Reg) (w : Word) : (s.writeRw r w).mo = s.mo := rfl
@[simp] theorem State.xg_writeRw (r : Reg) (w : Word) : (s.writeRw r w).xg = s.xg := rfl
@[simp] theorem State.pw_writeRw (r : Reg) (w : Word) : (s.writeRw r w).pw = s.pw := rfl
@[simp] theorem State.pending_putByte (a : Nat) (b : Byte) : (s.putByte a b).pending = s.pending := rfl
@[simp] theorem State.regs_putByte (a : Nat) (b : Byte) : (s.putByte a b).regs = s.regs := rfl
@[simp] theorem State.clock_putByte (a : Nat) (b : Byte) : (s.putByte a b).clock = s.clock := rfl
@[simp] theorem State.pins_putByte (a : Nat) (b : Byte) : (s.putByte a b).pins = s.pins := rfl
@[simp] theorem State.rdata_putByte (a : Nat) (b : Byte) : (s.putByte a b).rdata = s.rdata := rfl
@[simp] theorem State.ev_putByte (a : Nat) (b : Byte) : (s.putByte a b).ev = s.ev := rfl
@[simp] theorem State.cm_putByte (a : Nat) (b : Byte) : (s.putByte a b).cm = s.cm := rfl
@[simp] theorem State.tp_putByte (a : Nat) (b : Byte) : (s.putByte a b).tp = s.tp := rfl
@[simp] theorem State.sw_putByte (a : Nat) (b : Byte) : (s.putByte a b).sw = s.sw := rfl
@[simp] theorem State.lp_putByte (a : Nat) (b : Byte) : (s.putByte a b).lp = s.lp := rfl
@[simp] theorem State.tt_putByte (a : Nat) (b : Byte) : (s.putByte a b).tt = s.tt := rfl
@[simp] theorem State.sv_putByte (a : Nat) (b : Byte) : (s.putByte a b).sv = s.sv := rfl
@[simp] theorem State.ga_putByte (a : Nat) (b : Byte) : (s.putByte a b).ga = s.ga := rfl
@[simp] theorem State.po_putByte (a : Nat) (b : Byte) : (s.putByte a b).po = s.po := rfl
@[simp] theorem State.fl_putByte (a : Nat) (b : Byte) : (s.putByte a b).fl = s.fl := rfl
@[simp] theorem State.me_putByte (a : Nat) (b : Byte) : (s.putByte a b).me = s.me := rfl
@[simp] theorem State.ld_putByte (a : Nat) (b : Byte) : (s.putByte a b).ld = s.ld := rfl
@[simp] theorem State.ln_putByte (a : Nat) (b : Byte) : (s.putByte a b).ln = s.ln := rfl
@[simp] theorem State.fw_putByte (a : Nat) (b : Byte) : (s.putByte a b).fw = s.fw := rfl
@[simp] theorem State.tm_putByte (a : Nat) (b : Byte) : (s.putByte a b).tm = s.tm := rfl
@[simp] theorem State.ot_putByte (a : Nat) (b : Byte) : (s.putByte a b).ot = s.ot := rfl
@[simp] theorem State.wd_putByte (a : Nat) (b : Byte) : (s.putByte a b).wd = s.wd := rfl
@[simp] theorem State.tb_putByte (a : Nat) (b : Byte) : (s.putByte a b).tb = s.tb := rfl
@[simp] theorem State.mo_putByte (a : Nat) (b : Byte) : (s.putByte a b).mo = s.mo := rfl
@[simp] theorem State.xg_putByte (a : Nat) (b : Byte) : (s.putByte a b).xg = s.xg := rfl
@[simp] theorem State.pw_putByte (a : Nat) (b : Byte) : (s.putByte a b).pw = s.pw := rfl
@[simp] theorem State.pending_draw : s.draw.2.pending = s.pending := rfl
@[simp] theorem State.regs_draw : s.draw.2.regs = s.regs := rfl
@[simp] theorem State.mem_draw : s.draw.2.mem = s.mem := rfl
@[simp] theorem State.pins_draw : s.draw.2.pins = s.pins := rfl
@[simp] theorem State.rdata_draw : s.draw.2.rdata = s.rdata := rfl
@[simp] theorem State.ev_draw : s.draw.2.ev = s.ev := rfl
@[simp] theorem State.cm_draw : s.draw.2.cm = s.cm := rfl
@[simp] theorem State.tp_draw : s.draw.2.tp = s.tp := rfl
@[simp] theorem State.sw_draw : s.draw.2.sw = s.sw := rfl
@[simp] theorem State.lp_draw : s.draw.2.lp = s.lp := rfl
@[simp] theorem State.tt_draw : s.draw.2.tt = s.tt := rfl
@[simp] theorem State.sv_draw : s.draw.2.sv = s.sv := rfl
@[simp] theorem State.ga_draw : s.draw.2.ga = s.ga := rfl
@[simp] theorem State.po_draw : s.draw.2.po = s.po := rfl
@[simp] theorem State.fl_draw : s.draw.2.fl = s.fl := rfl
@[simp] theorem State.me_draw : s.draw.2.me = s.me := rfl
@[simp] theorem State.ld_draw : s.draw.2.ld = s.ld := rfl
@[simp] theorem State.ln_draw : s.draw.2.ln = s.ln := rfl
@[simp] theorem State.fw_draw : s.draw.2.fw = s.fw := rfl
@[simp] theorem State.tm_draw : s.draw.2.tm = s.tm := rfl
@[simp] theorem State.ot_draw : s.draw.2.ot = s.ot := rfl
@[simp] theorem State.wd_draw : s.draw.2.wd = s.wd := rfl
@[simp] theorem State.tb_draw : s.draw.2.tb = s.tb := rfl
@[simp] theorem State.mo_draw : s.draw.2.mo = s.mo := rfl
@[simp] theorem State.xg_draw : s.draw.2.xg = s.xg := rfl
@[simp] theorem State.pw_draw : s.draw.2.pw = s.pw := rfl

/-- A write that a register takes runs its own rule. -/
theorem State.guardWrite_takes {r : Reg} {k : State → State} (h : s.takes r = true) : s.guardWrite r k = k s := by
  simp only [State.takes, Bool.and_eq_true, Bool.not_eq_true'] at h
  obtain ⟨⟨⟨ha, hl⟩, hp⟩, hr⟩ := h
  unfold State.guardWrite
  rw [if_neg (by simp [ha, hl]), if_neg (by simp [hp]), if_neg (by simp [hr])]

end Sys2Proof.Machine
end

