-- ==== Sys2Proof/Laws/Keeps.lean ====
section
/-!
SUPPORT. What every operation of the part keeps: the queue of commands, the canonical form of memory, the life-cycle
marks that are programmed, the tree of the power domains, the registers of every block it does not write, and all of
memory where it stores nothing.
-/

namespace Sys2Proof.Machine

/-- From `s` to `t` the queue is the same, memory stays canonical, no life-cycle mark is lost and the power domains that
are up stay a tree; registers change in the blocks of `B` only, and memory changes only if `M` holds. -/
structure Keeps (B : Block → Prop) (M : Prop) (s t : State) : Prop where
  pending : t.pending = s.pending
  mem : memWf s.mem = true → memWf t.mem = true
  marks : ∀ m ∈ s.ot.marks, m ∈ t.ot.marks
  power : powerTree s.pw.on → powerTree t.pw.on
  regs : ∀ r, ¬ B r.block → t.rd r = s.rd r
  bytes : ¬ M → t.mem = s.mem

variable {B : Block → Prop} {M : Prop} {a s t : State}

theorem Keeps.refl (s : State) : Keeps B M s s := ⟨rfl, id, fun _ h => h, id, fun _ _ => rfl, fun _ => rfl⟩

theorem Keeps.trans {b c : State} (h : Keeps B M a b) (k : Keeps B M b c) : Keeps B M a c :=
  ⟨k.pending.trans h.pending, fun x => k.mem (h.mem x), fun m x => k.marks m (h.marks m x), fun x => k.power (h.power x),
    fun r x => (k.regs r x).trans (h.regs r x), fun x => (k.bytes x).trans (h.bytes x)⟩

/-- A change of fields other than registers and memory. -/
theorem keeps_mk {clock pins rdata ev cm tp sw lp tt sv ga po fl me ld ln fw tm ot wd tb mo xg pw}
    (h : Keeps B M a s) (ho : ot.marks = s.ot.marks) (hw : pw.on = s.pw.on) :
    Keeps B M a (State.mk s.pending s.regs s.mem clock pins rdata ev cm tp sw lp tt sv ga po fl me ld ln fw tm ot wd tb mo xg pw) :=
  ⟨h.pending, h.mem, fun m x => ho ▸ h.marks m x, fun x => hw ▸ h.power x, h.regs, h.bytes⟩

/-- A change of memory that keeps its form. -/
theorem keeps_mem (h : Keeps B M a s) (hM : M) (hp : t.pending = s.pending) (hm : memWf s.mem = true → memWf t.mem = true)
    (ho : t.ot.marks = s.ot.marks) (hw : t.pw.on = s.pw.on) (hr : t.regs = s.regs) : Keeps B M a t :=
  ⟨hp.trans h.pending, fun x => hm (h.mem x), fun m x => ho ▸ h.marks m x, fun x => hw ▸ h.power x,
    fun r x => (congrArg (fun l => Tab.get l r r.reset) hr).trans (h.regs r x), fun x => absurd hM x⟩

/-- A change of any register. -/
theorem keeps_regs (h : Keeps B M a s) (hB : ∀ b, B b) (hp : t.pending = s.pending) (hm : t.mem = s.mem)
    (ho : t.ot.marks = s.ot.marks) (hw : t.pw.on = s.pw.on) : Keeps B M a t :=
  ⟨hp.trans h.pending, fun x => hm ▸ h.mem x, fun m x => ho ▸ h.marks m x, fun x => hw ▸ h.power x,
    fun r x => absurd (hB r.block) x, fun x => hm.trans (h.bytes x)⟩

/-- AON alone is a tree. -/
theorem powerTree_aon : powerTree [.aon] := by
  intro d hd p hp
  simp only [List.mem_singleton] at hd
  subst hd
  cases hp

/-- A change that leaves AON alone powered. -/
theorem keeps_aon {clock pins rdata ev cm tp sw lp tt sv ga po fl me ld ln fw tm ot wd tb mo xg pw}
    (h : Keeps B M a s) (ho : ot.marks = s.ot.marks) (hw : pw.on = [.aon]) :
    Keeps B M a (State.mk s.pending s.regs s.mem clock pins rdata ev cm tp sw lp tt sv ga po fl me ld ln fw tm ot wd tb mo xg pw) :=
  ⟨h.pending, h.mem, fun m x => ho ▸ h.marks m x, fun _ => hw ▸ powerTree_aon, h.regs, h.bytes⟩

/-- A domain whose parent is up joins the tree. -/
theorem powerTree_add {l : List Dom} {d : Dom} (h : powerTree l) (hd : ∀ p, Dom.parent d = some p → p ∈ l) :
    powerTree (l ++ [d]) := by
  intro e he p hp
  rcases List.mem_append.mp he with he | he
  · exact List.mem_append_left _ (h e he p hp)
  · rw [List.mem_singleton] at he
    exact List.mem_append_left _ (hd p (he ▸ hp))

/-- Domains leave the tree with all that stand below them. -/
theorem powerTree_drop {l doms : List Dom} (h : powerTree l) :
    powerTree (l.filter fun d => !(doms.any fun x => (Dom.below x).contains d)) := by
  have up : ∀ x d p : Dom, Dom.parent d = some p → (Dom.below x).contains p = true → (Dom.below x).contains d = true := by
    intro x d p
    cases x <;> cases d <;> cases p <;> decide
  intro d hd p hp
  rw [List.mem_filter] at hd ⊢
  refine ⟨h d hd.1 p hp, ?_⟩
  have hn := hd.2
  simp only [Bool.not_eq_true', List.any_eq_false] at hn ⊢
  exact fun x hx hc => hn x hx (up x d p hp hc)

/-- Every element of a list in turn. -/
theorem each_keeps {α : Type} {l : List α} {f : α → State → State} (h : Keeps B M a s)
    (hf : ∀ x s, Keeps B M a s → Keeps B M a (f x s)) : Keeps B M a (each l f s) := by
  unfold each
  induction l generalizing s with
  | nil => exact h
  | cons x t ih => exact ih (hf x s h)

theorem foldl_keeps {α : Type} {l : List α} {f : State → α → State} (h : Keeps B M a s)
    (hf : ∀ s x, Keeps B M a s → Keeps B M a (f s x)) : Keeps B M a (l.foldl f s) :=
  each_keeps h fun x s => hf s x

end Sys2Proof.Machine
end

