-- ==== Sys2Proof/Laws/KeepsBase.lean ====
section
/-! SUPPORT. What the operations of registers, memory, events, commands, rails, faults and register accesses keep. -/

namespace Sys2Proof.Machine

variable {B : Block → Prop} {M : Prop} {z s : State}

theorem State.deliver_keeps (h : Keeps B M z x1.2) : Keeps B M z (State.deliver x0 x1) := keeps_mk h rfl rfl

theorem State.wr_keeps (h : Keeps B M z s) (bx1 : B x1.block) : Keeps B M z (State.wr s x1 x2) := by
  refine ⟨h.pending, h.mem, h.marks, h.power, fun r hr => ?_, h.bytes⟩
  rw [State.rd_wr, if_neg (fun e : r = x1 => hr (e ▸ bx1))]
  exact h.regs r hr

theorem State.put_keeps (h : Keeps B M z s) (bx1 : B x1.block) : Keeps B M z (State.put s x1 x2 x3) := by
  unfold State.put
  try dsimp only
  repeat' first | (with_reducible first | assumption | apply State.wr_keeps | split | intro _) | assumption

theorem State.putBit_keeps (h : Keeps B M z s) (bx1 : B x1.block) : Keeps B M z (State.putBit s x1 x2 x3) := by
  unfold State.putBit
  try dsimp only
  repeat' first | (with_reducible first | assumption | apply State.wr_keeps | split | intro _) | assumption

theorem State.addSat_keeps (h : Keeps B M z s) (bx1 : B x1.block) : Keeps B M z (State.addSat s x1 x2 x3) := by
  unfold State.addSat
  try dsimp only
  repeat' first | (with_reducible first | assumption | apply State.put_keeps | split | intro _) | assumption

theorem State.stationTick_keeps (h : Keeps B M z s) : Keeps B M z (State.stationTick s) := by
  unfold State.stationTick
  try dsimp only
  repeat' first | (with_reducible first | assumption | split | intro _ | refine keeps_mk ?_ rfl rfl) | assumption

theorem State.draw_keeps (h : Keeps B M z s) : Keeps B M z (State.draw s).2 := by
  unfold State.draw
  try dsimp only
  repeat' first | (with_reducible first | assumption | split | intro _ | refine keeps_mk ?_ rfl rfl) | assumption

theorem State.putByte_keeps (h : Keeps B M z s) (hM : M) : Keeps B M z (State.putByte s x1 x2) := keeps_mem h hM rfl (memPut_wf _ _ _) rfl rfl rfl

theorem State.putWord_keeps (h : Keeps B M z s) (hM : M) : Keeps B M z (State.putWord s x1 x2) := by
  unfold State.putWord
  try dsimp only
  repeat' first | (with_reducible first | assumption | apply State.putByte_keeps | split | intro _) | assumption

theorem State.putBytes_keeps (h : Keeps B M z s) (hM : M) : Keeps B M z (State.putBytes s x1 x2) := by
  induction x2 generalizing s x1 with
  | nil => exact h
  | cons b t ih => exact ih (State.putByte_keeps h hM)

theorem State.sramWrite_keeps (h : Keeps B M z s) (b_mem : B .mem) (hM : M) : Keeps B M z (State.sramWrite s x1 x2) := by
  unfold State.sramWrite
  try dsimp only
  repeat' first | (with_reducible first | assumption | apply State.putWord_keeps | apply State.put_keeps | split | intro _ | refine keeps_mk ?_ rfl rfl) | assumption

theorem State.putSrc_keeps (h : Keeps B M z s) : Keeps B M z (State.putSrc s x1 x2) := by
  unfold State.putSrc
  try dsimp only
  repeat' first | (with_reducible first | assumption | split | intro _ | refine keeps_mk ?_ rfl rfl) | assumption

theorem State.recordWrite_keeps (h : Keeps B M z s) (b_mem : B .mem) (hM : M) : Keeps B M z (State.recordWrite s x1 x2) := by
  unfold State.recordWrite
  try dsimp only
  repeat' first | (with_reducible first | assumption | apply State.sramWrite_keeps | split | intro _ | refine keeps_mk ?_ rfl rfl) | assumption

theorem State.bumpRecord_keeps (h : Keeps B M z s) (b_mem : B .mem) (hM : M) : Keeps B M z (State.bumpRecord s x1 x2 x3 x4 x5 x6) := by
  unfold State.bumpRecord
  try dsimp only
  repeat' first | (with_reducible first | assumption | apply State.recordWrite_keeps | split | intro _) | assumption

theorem State.occurNow_keeps (h : Keeps B M z s) (b_mem : B .mem) (b_evt : B .evt) (hM : M) : Keeps B M z (State.occurNow s x1 x2 x3 x4 x5 x6 x7 x8) := by
  unfold State.occurNow
  try dsimp only
  repeat' first | (with_reducible first | assumption | apply State.bumpRecord_keeps | apply State.putBit_keeps | apply State.putSrc_keeps | split | intro _) | assumption

theorem State.occur_keeps (h : Keeps B M z s) (b_mem : B .mem) (b_evt : B .evt) (hM : M) : Keeps B M z (State.occur s x1 x2 x3 x4 x5) := by
  unfold State.occur
  try dsimp only
  repeat' first | (with_reducible first | assumption | apply State.putSrc_keeps | apply State.occurNow_keeps | split | intro _) | assumption

theorem State.condRise_keeps (h : Keeps B M z s) (b_mem : B .mem) (b_evt : B .evt) (hM : M) : Keeps B M z (State.condRise s x1 x2 x3 x4) := by
  unfold State.condRise
  try dsimp only
  repeat' first | (with_reducible first | assumption | apply State.putSrc_keeps | apply State.occur_keeps | split | intro _) | assumption

theorem State.condFall_keeps (h : Keeps B M z s) (b_mem : B .mem) (b_evt : B .evt) (hM : M) : Keeps B M z (State.condFall s x1 x2 x3) := by
  unfold State.condFall
  try dsimp only
  repeat' first | (with_reducible first | assumption | apply State.occur_keeps | split | intro _) | assumption

theorem State.happen_keeps (h : Keeps B M z s) (b_mem : B .mem) (b_evt : B .evt) (hM : M) : Keeps B M z (State.happen s x1 x2 x3) := by
  unfold State.happen
  try dsimp only
  repeat' first | (with_reducible first | assumption | apply State.condFall_keeps | apply State.condRise_keeps | split | intro _) | assumption

theorem State.setFlagI_keeps (h : Keeps B M z s) (b_mem : B .mem) (b_evt : B .evt) (bx1 : B x1.block) (hM : M) : Keeps B M z (State.setFlagI s x1 x2 x3 x4) := by
  unfold State.setFlagI
  try dsimp only
  repeat' first | (with_reducible first | assumption | apply State.putBit_keeps | apply State.condRise_keeps | split | intro _) | assumption

theorem State.setFlag_keeps (h : Keeps B M z s) (b_mem : B .mem) (b_evt : B .evt) (bx1 : B x1.block) (hM : M) : Keeps B M z (State.setFlag s x1 x2) := by
  unfold State.setFlag
  try dsimp only
  repeat' first | (with_reducible first | assumption | apply State.setFlagI_keeps | split | intro _) | assumption

theorem State.clearFlag_keeps (h : Keeps B M z s) (b_mem : B .mem) (b_evt : B .evt) (bx1 : B x1.block) (hM : M) : Keeps B M z (State.clearFlag s x1 x2) := by
  unfold State.clearFlag
  try dsimp only
  repeat' first | (with_reducible first | assumption | apply State.putBit_keeps | apply State.condFall_keeps | split | intro _) | assumption

theorem State.clearFlags_keeps (h : Keeps B M z s) (b_mem : B .mem) (b_evt : B .evt) (bx1 : B x1.block) (hM : M) : Keeps B M z (State.clearFlags s x1 x2) := by
  unfold State.clearFlags
  try dsimp only
  repeat' first | (with_reducible first | assumption | apply State.clearFlag_keeps | apply each_keeps | split | intro _) | assumption

theorem State.clearFlagsBut_keeps (h : Keeps B M z s) (b_mem : B .mem) (b_evt : B .evt) (bx1 : B x1.block) (hM : M) : Keeps B M z (State.clearFlagsBut s x1 x2 x3) := by
  unfold State.clearFlagsBut
  try dsimp only
  repeat' first | (with_reducible first | assumption | apply State.clearFlags_keeps | split | intro _) | assumption

theorem State.message_keeps (h : Keeps B M z s) : Keeps B M z (State.message s x1 x2 x3 x4) := by
  unfold State.message
  try dsimp only
  repeat' first | (with_reducible first | assumption | split | intro _ | refine keeps_mk ?_ rfl rfl) | assumption

theorem State.gap_keeps (h : Keeps B M z s) : Keeps B M z (State.gap s x1 x2 x3 x4) := by
  unfold State.gap
  try dsimp only
  repeat' first | (with_reducible first | assumption | split | intro _ | refine keeps_mk ?_ rfl rfl) | assumption

theorem State.logRec_keeps (h : Keeps B M z s) (b_mem : B .mem) (b_evt : B .evt) (b_ldg : B .ldg) (hM : M) : Keeps B M z (State.logRec s x1 x2 x3 x4) := by
  unfold State.logRec
  try dsimp only
  repeat' first | (with_reducible first | assumption | apply State.setFlag_keeps | apply State.gap_keeps | apply State.addSat_keeps | split | intro _ | refine keeps_mk ?_ rfl rfl) | assumption

theorem State.putSlot_keeps (h : Keeps B M z s) : Keeps B M z (State.putSlot s x1 x2) := by
  unfold State.putSlot
  try dsimp only
  repeat' first | (with_reducible first | assumption | split | intro _ | refine keeps_mk ?_ rfl rfl) | assumption

theorem State.complete_keeps (h : Keeps B M z s) (b_ldg : B .ldg) : Keeps B M z (State.complete s x1 x2 x3) := by
  unfold State.complete
  try dsimp only
  repeat' first | (with_reducible first | assumption | apply State.putSlot_keeps | apply State.put_keeps | apply State.message_keeps | split | intro _ | refine keeps_mk ?_ rfl rfl) | assumption

theorem State.recordQueued_keeps (h : Keeps B M z s) : Keeps B M z (State.recordQueued s x1) := by
  unfold State.recordQueued
  try dsimp only
  repeat' first | (with_reducible first | assumption | apply State.putSlot_keeps | split | intro _) | assumption

theorem State.setPhase_keeps (h : Keeps B M z s) : Keeps B M z (State.setPhase s x1 x2) := by
  unfold State.setPhase
  try dsimp only
  repeat' first | (with_reducible first | assumption | apply State.putSlot_keeps | split | intro _) | assumption

theorem State.setTpl_keeps (h : Keeps B M z s) (b_tpl : B .tpl) : Keeps B M z (State.setTpl s x1 x2) := by
  unfold State.setTpl
  try dsimp only
  repeat' first | (with_reducible first | assumption | apply State.put_keeps | split | intro _) | assumption

theorem State.reloadAccept_keeps (h : Keeps B M z s) (b_tpl : B .tpl) : Keeps B M z (State.reloadAccept s x1) := by
  unfold State.reloadAccept
  try dsimp only
  repeat' first | (with_reducible first | assumption | apply State.wr_keeps | split | intro _ | refine keeps_mk ?_ rfl rfl) | assumption

theorem State.reloadNext_keeps (h : Keeps B M z s) (b_tpl : B .tpl) : Keeps B M z (State.reloadNext s) := by
  unfold State.reloadNext
  try dsimp only
  repeat' first | (with_reducible first | assumption | apply State.reloadAccept_keeps | split | intro _) | assumption

theorem State.loadOver_keeps (h : Keeps B M z s) (b_tpl : B .tpl) : Keeps B M z (State.loadOver s x1) := by
  unfold State.loadOver
  try dsimp only
  repeat' first | (with_reducible first | assumption | apply State.reloadNext_keeps | apply State.setTpl_keeps | split | intro _ | refine keeps_mk ?_ rfl rfl) | assumption

theorem State.joinSense_keeps (h : Keeps B M z s) : Keeps B M z (State.joinSense s x1) := by
  unfold State.joinSense
  try dsimp only
  repeat' first | (with_reducible first | assumption | split | intro _ | refine keeps_mk ?_ rfl rfl) | assumption

theorem State.thermal_keeps (h : Keeps B M z s) : Keeps B M z (State.thermal s x1 x2 x3).2 := by
  unfold State.thermal
  try dsimp only
  repeat' first | (with_reducible first | assumption | apply State.draw_keeps | split | intro _) | assumption

theorem State.putStgX_keeps (h : Keeps B M z s) : Keeps B M z (State.putStgX s x1 x2) := by
  unfold State.putStgX
  try dsimp only
  repeat' first | (with_reducible first | assumption | split | intro _ | refine keeps_mk ?_ rfl rfl) | assumption

theorem State.showExcluded_keeps (h : Keeps B M z s) (b_swy : B .swy) (b_mem : B .mem) (b_evt : B .evt) (hM : M) : Keeps B M z (State.showExcluded s) := by
  unfold State.showExcluded
  try dsimp only
  repeat' first | (with_reducible first | assumption | apply State.put_keeps | apply State.setFlag_keeps | apply each_keeps | split | intro _) | assumption

theorem State.openPoints_keeps (h : Keeps B M z s) (b_swy : B .swy) : Keeps B M z (State.openPoints s x1) := by
  unfold State.openPoints
  try dsimp only
  repeat' first | (with_reducible first | assumption | apply State.put_keeps | split | intro _ | refine keeps_mk ?_ rfl rfl) | assumption

theorem State.closePoint_keeps (h : Keeps B M z s) (b_swy : B .swy) : Keeps B M z (State.closePoint s x1 x2) := by
  unfold State.closePoint
  try dsimp only
  repeat' first | (with_reducible first | assumption | apply State.put_keeps | split | intro _ | refine keeps_mk ?_ rfl rfl) | assumption

theorem State.stageRest_keeps (h : Keeps B M z s) (b_swy : B .swy) : Keeps B M z (State.stageRest s x1 x2) := by
  unfold State.stageRest
  try dsimp only
  repeat' first | (with_reducible first | assumption | apply State.put_keeps | apply State.putStgX_keeps | split | intro _ | refine keeps_mk ?_ rfl rfl) | assumption

theorem State.stageOff_keeps (h : Keeps B M z s) (b_swy : B .swy) : Keeps B M z (State.stageOff s x1) := by
  unfold State.stageOff
  try dsimp only
  repeat' first | (with_reducible first | assumption | apply State.put_keeps | apply State.openPoints_keeps | apply State.stageRest_keeps | split | intro _) | assumption

theorem State.stageLatch_keeps (h : Keeps B M z s) (b_swy : B .swy) : Keeps B M z (State.stageLatch s x1) := by
  unfold State.stageLatch
  try dsimp only
  repeat' first | (with_reducible first | assumption | apply State.put_keeps | apply State.stageRest_keeps | split | intro _) | assumption

theorem State.regangIdle_keeps (h : Keeps B M z s) (b_swy : B .swy) : Keeps B M z (State.regangIdle s) := by
  unfold State.regangIdle
  try dsimp only
  repeat' first | (with_reducible first | assumption | apply State.wr_keeps | split | intro _) | assumption

theorem State.regangEnd_keeps (h : Keeps B M z s) (b_ldg : B .ldg) (b_swy : B .swy) : Keeps B M z (State.regangEnd s x1 x2 x3) := by
  unfold State.regangEnd
  try dsimp only
  repeat' first | (with_reducible first | assumption | apply State.complete_keeps | apply State.regangIdle_keeps | split | intro _ | refine keeps_mk ?_ rfl rfl) | assumption

theorem State.regangDropStage_keeps (h : Keeps B M z s) (b_swy : B .swy) (b_mem : B .mem) (b_evt : B .evt) (hM : M) : Keeps B M z (State.regangDropStage s x1) := by
  unfold State.regangDropStage
  try dsimp only
  repeat' first | (with_reducible first | assumption | apply State.showExcluded_keeps | apply State.put_keeps | apply State.stageOff_keeps | split | intro _) | assumption

theorem State.regangOff_keeps (h : Keeps B M z s) (b_ldg : B .ldg) (b_swy : B .swy) (b_mem : B .mem) (b_evt : B .evt) (hM : M) : Keeps B M z (State.regangOff s x1 x2) := by
  unfold State.regangOff
  try dsimp only
  repeat' first | (with_reducible first | assumption | apply State.regangEnd_keeps | apply State.regangDropStage_keeps | split | intro _ | refine keeps_mk ?_ rfl rfl) | assumption

theorem State.regangDown_keeps (h : Keeps B M z s) (b_ldg : B .ldg) (b_swy : B .swy) (b_mem : B .mem) (b_evt : B .evt) (hM : M) : Keeps B M z (State.regangDown s x1) := by
  unfold State.regangDown
  try dsimp only
  repeat' first | (with_reducible first | assumption | apply State.regangEnd_keeps | apply State.regangDropStage_keeps | split | intro _) | assumption

theorem State.regangLatch_keeps (h : Keeps B M z s) (b_ldg : B .ldg) (b_swy : B .swy) (b_mem : B .mem) (b_evt : B .evt) (hM : M) : Keeps B M z (State.regangLatch s x1) := by
  unfold State.regangLatch
  try dsimp only
  repeat' first | (with_reducible first | assumption | apply State.regangEnd_keeps | apply State.showExcluded_keeps | apply State.stageLatch_keeps | apply State.put_keeps | split | intro _) | assumption

theorem State.putLoopX_keeps (h : Keeps B M z s) : Keeps B M z (State.putLoopX s x1 x2) := by
  unfold State.putLoopX
  try dsimp only
  repeat' first | (with_reducible first | assumption | split | intro _ | refine keeps_mk ?_ rfl rfl) | assumption

theorem State.clearSections_keeps (h : Keeps B M z s) : Keeps B M z (State.clearSections s x1) := by
  unfold State.clearSections
  try dsimp only
  repeat' first | (with_reducible first | assumption | split | intro _ | refine keeps_mk ?_ rfl rfl) | assumption

theorem State.putDest_keeps (h : Keeps B M z s) : Keeps B M z (State.putDest s x1 x2) := by
  unfold State.putDest
  try dsimp only
  repeat' first | (with_reducible first | assumption | split | intro _ | refine keeps_mk ?_ rfl rfl) | assumption

theorem State.zeroLoops_keeps (h : Keeps B M z s) : Keeps B M z (State.zeroLoops s x1) := by
  unfold State.zeroLoops
  try dsimp only
  repeat' first | (with_reducible first | assumption | apply State.putDest_keeps | apply State.clearSections_keeps | apply State.putLoopX_keeps | apply each_keeps | split | intro _) | assumption

theorem State.unsettle_keeps (h : Keeps B M z s) (b_lpe : B .lpe) : Keeps B M z (State.unsettle s x1) := by
  unfold State.unsettle
  try dsimp only
  repeat' first | (with_reducible first | assumption | apply State.putLoopX_keeps | apply State.put_keeps | apply each_keeps | split | intro _) | assumption

theorem State.railFailure_keeps (h : Keeps B M z s) (b_ttb : B .ttb) (b_mem : B .mem) (b_evt : B .evt) (b_ldg : B .ldg) (hM : M) : Keeps B M z (State.railFailure s x1 x2) := by
  unfold State.railFailure
  try dsimp only
  repeat' first | (with_reducible first | assumption | apply State.addSat_keeps | apply State.logRec_keeps | apply State.wr_keeps | split | intro _) | assumption

theorem State.resetLow_keeps (h : Keeps B M z s) (b_ttb : B .ttb) : Keeps B M z (State.resetLow s x1) := by
  unfold State.resetLow
  try dsimp only
  repeat' first | (with_reducible first | assumption | apply State.putBit_keeps | split | intro _) | assumption

theorem State.pgLow_keeps (h : Keeps B M z s) (b_mem : B .mem) (b_evt : B .evt) (b_rail : B .rail) (b_ttb : B .ttb) (hM : M) : Keeps B M z (State.pgLow s x1) := by
  unfold State.pgLow
  try dsimp only
  repeat' first | (with_reducible first | assumption | apply State.condFall_keeps | apply State.putBit_keeps | apply State.resetLow_keeps | apply each_keeps | split | intro _) | assumption

theorem State.dropTests_keeps (h : Keeps B M z s) (b_swy : B .swy) : Keeps B M z (State.dropTests s x1) := by
  unfold State.dropTests
  try dsimp only
  repeat' first | (with_reducible first | assumption | apply State.stageOff_keeps | apply each_keeps | split | intro _) | assumption

theorem State.leaveOn_keeps (h : Keeps B M z s) (b_swy : B .swy) (b_mem : B .mem) (b_evt : B .evt) (b_rail : B .rail) (b_ttb : B .ttb) (b_sup : B .sup) (hM : M) : Keeps B M z (State.leaveOn s x1) := by
  unfold State.leaveOn
  try dsimp only
  repeat' first | (with_reducible first | assumption | apply State.dropTests_keeps | apply State.pgLow_keeps | apply State.put_keeps | split | intro _ | refine keeps_mk ?_ rfl rfl) | assumption

theorem State.setRail_keeps (h : Keeps B M z s) (b_rail : B .rail) : Keeps B M z (State.setRail s x1 x2) := by
  unfold State.setRail
  try dsimp only
  repeat' first | (with_reducible first | assumption | apply State.put_keeps | split | intro _) | assumption

theorem State.stopRamp_keeps (h : Keeps B M z s) : Keeps B M z (State.stopRamp s x1) := by
  unfold State.stopRamp
  try dsimp only
  repeat' first | (with_reducible first | assumption | split | intro _ | refine keeps_mk ?_ rfl rfl) | assumption

theorem State.startRamp_keeps (h : Keeps B M z s) (b_lpe : B .lpe) : Keeps B M z (State.startRamp s x1 x2 x3 x4) := by
  unfold State.startRamp
  try dsimp only
  repeat' first | (with_reducible first | assumption | apply State.unsettle_keeps | split | intro _ | refine keeps_mk ?_ rfl rfl) | assumption

theorem State.boutCheck_keeps (h : Keeps B M z s) (b_ttb : B .ttb) (b_mem : B .mem) (b_evt : B .evt) (hM : M) : Keeps B M z (State.boutCheck s) := by
  unfold State.boutCheck
  try dsimp only
  repeat' first | (with_reducible first | assumption | apply State.putBit_keeps | apply State.happen_keeps | split | intro _ | refine keeps_mk ?_ rfl rfl) | assumption

theorem State.railToOff_keeps (h : Keeps B M z s) (b_swy : B .swy) (b_mem : B .mem) (b_evt : B .evt) (b_rail : B .rail) (b_ttb : B .ttb) (b_sup : B .sup) (hM : M) : Keeps B M z (State.railToOff s x1) := by
  unfold State.railToOff
  try dsimp only
  repeat' first | (with_reducible first | assumption | apply State.stopRamp_keeps | apply State.leaveOn_keeps | apply State.put_keeps | apply State.setRail_keeps | apply State.stageOff_keeps | apply State.zeroLoops_keeps | apply State.boutCheck_keeps | apply each_keeps | split | intro _) | assumption

theorem State.rampDown_keeps (h : Keeps B M z s) (b_ldg : B .ldg) (b_swy : B .swy) (b_mem : B .mem) (b_evt : B .evt) (b_lpe : B .lpe) (b_rail : B .rail) (b_ttb : B .ttb) (b_sup : B .sup) (hM : M) : Keeps B M z (State.rampDown s x1) := by
  unfold State.rampDown
  try dsimp only
  repeat' first | (with_reducible first | assumption | apply State.regangOff_keeps | apply State.startRamp_keeps | apply State.setRail_keeps | apply State.leaveOn_keeps | split | intro _) | assumption

theorem State.railOff_keeps (h : Keeps B M z s) (b_rail : B .rail) (b_swy : B .swy) (b_mem : B .mem) (b_evt : B .evt) (b_ttb : B .ttb) (b_sup : B .sup) (b_ldg : B .ldg) (b_lpe : B .lpe) (hM : M) : Keeps B M z (State.railOff s x1 x2) := by
  unfold State.railOff
  try dsimp only
  repeat' first | (with_reducible first | assumption | apply State.put_keeps | apply State.railToOff_keeps | apply State.regangOff_keeps | apply State.setFlag_keeps | apply State.rampDown_keeps | apply State.setRail_keeps | apply State.leaveOn_keeps | split | intro _) | assumption

theorem State.latchRail_keeps (h : Keeps B M z s) (b_ldg : B .ldg) (b_swy : B .swy) (b_mem : B .mem) (b_evt : B .evt) (b_rail : B .rail) (b_ttb : B .ttb) (b_sup : B .sup) (hM : M) : Keeps B M z (State.latchRail s x1 x2) := by
  unfold State.latchRail
  try dsimp only
  repeat' first | (with_reducible first | assumption | apply State.regangLatch_keeps | apply State.stageLatch_keeps | apply State.stopRamp_keeps | apply State.leaveOn_keeps | apply State.put_keeps | apply State.setRail_keeps | apply State.setFlag_keeps | apply State.zeroLoops_keeps | apply State.railFailure_keeps | apply State.boutCheck_keeps | apply each_keeps | split | intro _ | refine keeps_mk ?_ rfl rfl) | assumption

theorem State.putGrpX_keeps (h : Keeps B M z s) : Keeps B M z (State.putGrpX s x1 x2) := by
  unfold State.putGrpX
  try dsimp only
  repeat' first | (with_reducible first | assumption | split | intro _ | refine keeps_mk ?_ rfl rfl) | assumption

theorem State.classBCheck_keeps (h : Keeps B M z s) (b_ttb : B .ttb) : Keeps B M z (State.classBCheck s x1) := by
  unfold State.classBCheck
  try dsimp only
  repeat' first | (with_reducible first | assumption | apply State.put_keeps | split | intro _) | assumption

theorem State.setGroup_keeps (h : Keeps B M z s) (b_ttb : B .ttb) (b_mem : B .mem) (b_evt : B .evt) (hM : M) : Keeps B M z (State.setGroup s x1 x2) := by
  unfold State.setGroup
  try dsimp only
  repeat' first | (with_reducible first | assumption | apply State.put_keeps | apply State.condFall_keeps | apply State.condRise_keeps | split | intro _) | assumption

theorem State.groupToOff_keeps (h : Keeps B M z s) (b_ttb : B .ttb) (b_mem : B .mem) (b_evt : B .evt) (hM : M) : Keeps B M z (State.groupToOff s x1) := by
  unfold State.groupToOff
  try dsimp only
  repeat' first | (with_reducible first | assumption | apply State.setGroup_keeps | apply State.put_keeps | apply State.classBCheck_keeps | apply State.putGrpX_keeps | split | intro _) | assumption

theorem State.stepReverse_keeps (h : Keeps B M z s) (b_ttb : B .ttb) (b_rail : B .rail) (b_swy : B .swy) (b_mem : B .mem) (b_evt : B .evt) (b_sup : B .sup) (b_ldg : B .ldg) (b_lpe : B .lpe) (hM : M) : Keeps B M z (State.stepReverse s x1 x2 x3) := by
  unfold State.stepReverse
  try dsimp only
  repeat' first | (with_reducible first | assumption | apply State.putGrpX_keeps | apply State.put_keeps | apply State.railOff_keeps | apply State.putBit_keeps | apply State.resetLow_keeps | apply State.message_keeps | split | intro _) | assumption

theorem State.groupOff_keeps (h : Keeps B M z s) (b_ttb : B .ttb) (b_mem : B .mem) (b_evt : B .evt) (b_rail : B .rail) (b_swy : B .swy) (b_sup : B .sup) (b_ldg : B .ldg) (b_lpe : B .lpe) (hM : M) : Keeps B M z (State.groupOff s x1 x2) := by
  unfold State.groupOff
  try dsimp only
  repeat' first | (with_reducible first | assumption | apply State.groupToOff_keeps | apply State.stepReverse_keeps | apply State.setGroup_keeps | apply State.setFlag_keeps | split | intro _) | assumption

theorem State.groupStartFail_keeps (h : Keeps B M z s) (b_mem : B .mem) (b_evt : B .evt) (b_ttb : B .ttb) (b_rail : B .rail) (b_swy : B .swy) (b_sup : B .sup) (b_ldg : B .ldg) (b_lpe : B .lpe) (hM : M) : Keeps B M z (State.groupStartFail s x1) := by
  unfold State.groupStartFail
  try dsimp only
  repeat' first | (with_reducible first | assumption | apply State.setFlag_keeps | apply State.putGrpX_keeps | apply State.put_keeps | apply State.groupOff_keeps | split | intro _) | assumption

theorem State.groupLatched_keeps (h : Keeps B M z s) (b_mem : B .mem) (b_evt : B .evt) (b_ttb : B .ttb) (b_rail : B .rail) (b_swy : B .swy) (b_sup : B .sup) (b_ldg : B .ldg) (b_lpe : B .lpe) (hM : M) : Keeps B M z (State.groupLatched s x1) := by
  unfold State.groupLatched
  try dsimp only
  repeat' first | (with_reducible first | assumption | apply State.groupStartFail_keeps | apply State.put_keeps | split | intro _) | assumption

theorem State.send_keeps (h : Keeps B M z s) : Keeps B M z (State.send s x1 x2) := by
  unfold State.send
  try dsimp only
  repeat' first | (with_reducible first | assumption | split | intro _ | refine keeps_mk ?_ rfl rfl) | assumption

theorem State.sendTrip_keeps (h : Keeps B M z s) (b_mem : B .mem) (b_evt : B .evt) (b_lnk : B .lnk) (hM : M) : Keeps B M z (State.sendTrip s x1) := by
  unfold State.sendTrip
  try dsimp only
  repeat' first | (with_reducible first | assumption | apply State.send_keeps | apply State.setFlagI_keeps | apply State.addSat_keeps | apply each_keeps | split | intro _ | refine keeps_mk ?_ rfl rfl) | assumption

theorem State.reloadAbort_keeps (h : Keeps B M z s) (b_tpl : B .tpl) : Keeps B M z (State.reloadAbort s x1) := by
  unfold State.reloadAbort
  try dsimp only
  repeat' first | (with_reducible first | assumption | apply State.wr_keeps | split | intro _ | refine keeps_mk ?_ rfl rfl) | assumption

theorem State.faultPin_keeps (h : Keeps B M z s) : Keeps B M z (State.faultPin s) := by
  unfold State.faultPin
  try dsimp only
  repeat' first | (with_reducible first | assumption | split | intro _ | refine keeps_mk ?_ rfl rfl) | assumption

theorem State.reactA_keeps (h : Keeps B M z s) (b_mem : B .mem) (b_evt : B .evt) (b_ttb : B .ttb) (b_rail : B .rail) (b_swy : B .swy) (b_sup : B .sup) (b_ldg : B .ldg) (b_lpe : B .lpe) (hM : M) : Keeps B M z (State.reactA s x1) := by
  unfold State.reactA
  try dsimp only
  repeat' first | (with_reducible first | assumption | apply State.groupLatched_keeps | apply State.latchRail_keeps | apply each_keeps | split | intro _) | assumption

theorem State.groupOffLater_keeps (h : Keeps B M z s) (b_ttb : B .ttb) (b_mem : B .mem) (b_evt : B .evt) (b_rail : B .rail) (b_swy : B .swy) (b_sup : B .sup) (b_ldg : B .ldg) (b_lpe : B .lpe) (hM : M) : Keeps B M z (State.groupOffLater s x1 x2) := by
  unfold State.groupOffLater
  try dsimp only
  repeat' first | (with_reducible first | assumption | apply State.groupOff_keeps | split | intro _ | refine keeps_mk ?_ rfl rfl) | assumption

theorem State.railOffLater_keeps (h : Keeps B M z s) (b_rail : B .rail) (b_swy : B .swy) (b_mem : B .mem) (b_evt : B .evt) (b_ttb : B .ttb) (b_sup : B .sup) (b_ldg : B .ldg) (b_lpe : B .lpe) (hM : M) : Keeps B M z (State.railOffLater s x1 x2) := by
  unfold State.railOffLater
  try dsimp only
  repeat' first | (with_reducible first | assumption | apply State.railOff_keeps | split | intro _ | refine keeps_mk ?_ rfl rfl) | assumption

theorem State.groupOffB_keeps (h : Keeps B M z s) (b_ttb : B .ttb) (b_mem : B .mem) (b_evt : B .evt) (b_rail : B .rail) (b_swy : B .swy) (b_sup : B .sup) (b_ldg : B .ldg) (b_lpe : B .lpe) (hM : M) : Keeps B M z (State.groupOffB s x1) := by
  unfold State.groupOffB
  try dsimp only
  repeat' first | (with_reducible first | assumption | apply State.put_keeps | apply State.groupOffLater_keeps | apply each_keeps | split | intro _) | assumption

theorem State.railOffB_keeps (h : Keeps B M z s) (b_rail : B .rail) (b_swy : B .swy) (b_mem : B .mem) (b_evt : B .evt) (b_ttb : B .ttb) (b_sup : B .sup) (b_ldg : B .ldg) (b_lpe : B .lpe) (hM : M) : Keeps B M z (State.railOffB s x1 x2) := by
  unfold State.railOffB
  try dsimp only
  repeat' first | (with_reducible first | assumption | apply State.railOffLater_keeps | split | intro _ | refine keeps_mk ?_ rfl rfl) | assumption

theorem State.offsWait_keeps (h : Keeps B M z s) : Keeps B M z (State.offsWait s x1) := by
  unfold State.offsWait
  try dsimp only
  repeat' first | (with_reducible first | assumption | split | intro _ | refine keeps_mk ?_ rfl rfl) | assumption

theorem State.reactB_keeps (h : Keeps B M z s) (b_ldg : B .ldg) (b_swy : B .swy) (b_mem : B .mem) (b_evt : B .evt) (b_rail : B .rail) (b_ttb : B .ttb) (b_sup : B .sup) (b_lpe : B .lpe) (hM : M) : Keeps B M z (State.reactB s x1) := by
  unfold State.reactB
  try dsimp only
  repeat' first | (with_reducible first | assumption | apply State.regangDown_keeps | apply State.offsWait_keeps | apply State.railOffB_keeps | apply State.groupOffB_keeps | apply each_keeps | split | intro _) | assumption

theorem State.react_keeps (h : Keeps B M z s) (b_tpl : B .tpl) (b_mem : B .mem) (b_evt : B .evt) (b_ttb : B .ttb) (b_rail : B .rail) (b_swy : B .swy) (b_sup : B .sup) (b_ldg : B .ldg) (b_lpe : B .lpe) (hM : M) : Keeps B M z (State.react s x1 x2) := by
  unfold State.react
  try dsimp only
  repeat' first | (with_reducible first | assumption | apply State.reloadAbort_keeps | apply State.reactA_keeps | apply State.reactB_keeps | split | intro _) | assumption

theorem State.countFault_keeps (h : Keeps B M z s) (b_flt : B .flt) : Keeps B M z (State.countFault s x1) := by
  unfold State.countFault
  try dsimp only
  repeat' first | (with_reducible first | assumption | apply State.addSat_keeps | split | intro _) | assumption

theorem State.live_keeps (h : Keeps B M z s) (b_flt : B .flt) : Keeps B M z (State.live s x1 x2) := by
  unfold State.live
  try dsimp only
  repeat' first | (with_reducible first | assumption | apply State.putBit_keeps | split | intro _) | assumption

theorem State.captureFirst_keeps (h : Keeps B M z s) (b_flt : B .flt) : Keeps B M z (State.captureFirst s x1 x2 x3) := by
  unfold State.captureFirst
  try dsimp only
  repeat' first | (with_reducible first | assumption | apply State.wr_keeps | split | intro _) | assumption

theorem State.logFault_keeps (h : Keeps B M z s) (b_mem : B .mem) (b_evt : B .evt) (b_ldg : B .ldg) (hM : M) : Keeps B M z (State.logFault s x1 x2 x3 x4) := by
  unfold State.logFault
  try dsimp only
  repeat' first | (with_reducible first | assumption | apply State.logRec_keeps | split | intro _) | assumption

theorem State.requestDump_keeps (h : Keeps B M z s) : Keeps B M z (State.requestDump s x1 x2) := by
  unfold State.requestDump
  try dsimp only
  repeat' first | (with_reducible first | assumption | split | intro _ | refine keeps_mk ?_ rfl rfl) | assumption

theorem State.faultMessage_keeps (h : Keeps B M z s) : Keeps B M z (State.faultMessage s x1 x2 x3 x4) := by
  unfold State.faultMessage
  try dsimp only
  repeat' first | (with_reducible first | assumption | apply State.message_keeps | split | intro _) | assumption

theorem State.raiseNew_keeps (h : Keeps B M z s) (b_flt : B .flt) (b_tpl : B .tpl) (b_mem : B .mem) (b_evt : B .evt) (b_ttb : B .ttb) (b_rail : B .rail) (b_swy : B .swy) (b_sup : B .sup) (b_ldg : B .ldg) (b_lpe : B .lpe) (b_lnk : B .lnk) (hM : M) : Keeps B M z (State.raiseNew s x1 x2 x3) := by
  unfold State.raiseNew
  try dsimp only
  repeat' first | (with_reducible first | assumption | apply State.countFault_keeps | apply State.put_keeps | apply State.putBit_keeps | apply State.faultPin_keeps | apply State.react_keeps | apply State.logFault_keeps | apply State.captureFirst_keeps | apply State.requestDump_keeps | apply State.sendTrip_keeps | apply State.faultMessage_keeps | split | intro _ | refine keeps_mk ?_ rfl rfl) | assumption

theorem State.raise_keeps (h : Keeps B M z s) (b_flt : B .flt) (b_tpl : B .tpl) (b_mem : B .mem) (b_evt : B .evt) (b_ttb : B .ttb) (b_rail : B .rail) (b_swy : B .swy) (b_sup : B .sup) (b_ldg : B .ldg) (b_lpe : B .lpe) (b_lnk : B .lnk) (hM : M) : Keeps B M z (State.raise s x1 x2 x3) := by
  unfold State.raise
  try dsimp only
  repeat' first | (with_reducible first | assumption | apply State.countFault_keeps | apply State.raiseNew_keeps | split | intro _) | assumption

theorem State.unlatch_keeps (h : Keeps B M z s) (b_rail : B .rail) (b_swy : B .swy) : Keeps B M z (State.unlatch s) := by
  unfold State.unlatch
  try dsimp only
  repeat' first | (with_reducible first | assumption | apply State.setRail_keeps | apply State.stageOff_keeps | apply each_keeps | split | intro _) | assumption

theorem State.clearFault_keeps (h : Keeps B M z s) (b_flt : B .flt) (b_ttb : B .ttb) (b_rail : B .rail) (b_swy : B .swy) (b_mem : B .mem) (b_evt : B .evt) (b_ldg : B .ldg) (hM : M) : Keeps B M z (State.clearFault s x1) := by
  unfold State.clearFault
  try dsimp only
  repeat' first | (with_reducible first | assumption | apply State.putBit_keeps | apply State.faultPin_keeps | apply State.classBCheck_keeps | apply State.unlatch_keeps | apply State.faultMessage_keeps | apply State.logFault_keeps | apply each_keeps | split | intro _ | refine keeps_mk ?_ rfl rfl) | assumption

theorem State.ovFires_keeps (h : Keeps B M z s) (b_flt : B .flt) (b_tpl : B .tpl) (b_mem : B .mem) (b_evt : B .evt) (b_ttb : B .ttb) (b_rail : B .rail) (b_swy : B .swy) (b_sup : B .sup) (b_ldg : B .ldg) (b_lpe : B .lpe) (b_lnk : B .lnk) (hM : M) : Keeps B M z (State.ovFires s x1) := by
  unfold State.ovFires
  try dsimp only
  repeat' first | (with_reducible first | assumption | apply State.raise_keeps | apply State.railFailure_keeps | apply State.pgLow_keeps | apply State.setFlag_keeps | split | intro _) | assumption

theorem State.uvFires_keeps (h : Keeps B M z s) (b_flt : B .flt) (b_tpl : B .tpl) (b_mem : B .mem) (b_evt : B .evt) (b_ttb : B .ttb) (b_rail : B .rail) (b_swy : B .swy) (b_sup : B .sup) (b_ldg : B .ldg) (b_lpe : B .lpe) (b_lnk : B .lnk) (hM : M) : Keeps B M z (State.uvFires s x1) := by
  unfold State.uvFires
  try dsimp only
  repeat' first | (with_reducible first | assumption | apply State.raise_keeps | apply State.railFailure_keeps | apply State.pgLow_keeps | apply State.setFlag_keeps | split | intro _) | assumption

theorem State.armOv_keeps (h : Keeps B M z s) (b_sup : B .sup) (b_flt : B .flt) (b_tpl : B .tpl) (b_mem : B .mem) (b_evt : B .evt) (b_ttb : B .ttb) (b_rail : B .rail) (b_swy : B .swy) (b_ldg : B .ldg) (b_lpe : B .lpe) (b_lnk : B .lnk) (hM : M) : Keeps B M z (State.armOv s x1) := by
  unfold State.armOv
  try dsimp only
  repeat' first | (with_reducible first | assumption | apply State.put_keeps | apply State.ovFires_keeps | split | intro _) | assumption

theorem State.armUv_keeps (h : Keeps B M z s) (b_sup : B .sup) (b_flt : B .flt) (b_tpl : B .tpl) (b_mem : B .mem) (b_evt : B .evt) (b_ttb : B .ttb) (b_rail : B .rail) (b_swy : B .swy) (b_ldg : B .ldg) (b_lpe : B .lpe) (b_lnk : B .lnk) (hM : M) : Keeps B M z (State.armUv s x1) := by
  unfold State.armUv
  try dsimp only
  repeat' first | (with_reducible first | assumption | apply State.put_keeps | apply State.uvFires_keeps | split | intro _) | assumption

theorem State.deepDrop_keeps (h : Keeps B M z s) (b_mem : B .mem) (b_evt : B .evt) (b_pwr : B .pwr) (hM : M) : Keeps B M z (State.deepDrop s x1) := by
  unfold State.deepDrop
  try dsimp only
  repeat' first | (with_reducible first | assumption | apply State.setFlagI_keeps | apply State.put_keeps | apply State.putBit_keeps | split | intro _) | assumption

theorem State.unshed_keeps (h : Keeps B M z s) (b_pol : B .pol) : Keeps B M z (State.unshed s x1) := by
  unfold State.unshed
  try dsimp only
  repeat' first | (with_reducible first | assumption | apply State.put_keeps | apply State.putBit_keeps | split | intro _ | refine keeps_mk ?_ rfl rfl) | assumption

theorem State.railStart_keeps (h : Keeps B M z s) (b_sup : B .sup) (b_flt : B .flt) (b_tpl : B .tpl) (b_mem : B .mem) (b_evt : B .evt) (b_ttb : B .ttb) (b_rail : B .rail) (b_swy : B .swy) (b_ldg : B .ldg) (b_lpe : B .lpe) (b_lnk : B .lnk) (hM : M) : Keeps B M z (State.railStart s x1) := by
  unfold State.railStart
  try dsimp only
  repeat' first | (with_reducible first | assumption | apply State.armOv_keeps | apply State.joinSense_keeps | apply State.setRail_keeps | split | intro _) | assumption

theorem State.railHold_keeps (h : Keeps B M z s) (b_mem : B .mem) (b_evt : B .evt) (b_rail : B .rail) (hM : M) : Keeps B M z (State.railHold s x1) := by
  unfold State.railHold
  try dsimp only
  repeat' first | (with_reducible first | assumption | apply State.setFlag_keeps | apply State.put_keeps | split | intro _) | assumption

theorem State.rampToVset_keeps (h : Keeps B M z s) (b_lpe : B .lpe) : Keeps B M z (State.rampToVset s x1) := by
  unfold State.rampToVset
  try dsimp only
  repeat' first | (with_reducible first | assumption | apply State.startRamp_keeps | split | intro _) | assumption

theorem State.railOnNow_keeps (h : Keeps B M z s) (b_mem : B .mem) (b_evt : B .evt) (b_pwr : B .pwr) (b_sup : B .sup) (b_flt : B .flt) (b_tpl : B .tpl) (b_ttb : B .ttb) (b_rail : B .rail) (b_swy : B .swy) (b_ldg : B .ldg) (b_lpe : B .lpe) (b_lnk : B .lnk) (hM : M) : Keeps B M z (State.railOnNow s x1) := by
  unfold State.railOnNow
  try dsimp only
  repeat' first | (with_reducible first | assumption | apply State.deepDrop_keeps | apply State.railStart_keeps | apply State.railHold_keeps | apply State.setRail_keeps | apply State.rampToVset_keeps | apply State.setFlag_keeps | split | intro _) | assumption

theorem State.railOn_keeps (h : Keeps B M z s) (b_mem : B .mem) (b_evt : B .evt) (b_rail : B .rail) (b_pwr : B .pwr) (b_sup : B .sup) (b_flt : B .flt) (b_tpl : B .tpl) (b_ttb : B .ttb) (b_swy : B .swy) (b_ldg : B .ldg) (b_lpe : B .lpe) (b_lnk : B .lnk) (hM : M) : Keeps B M z (State.railOn s x1) := by
  unfold State.railOn
  try dsimp only
  repeat' first | (with_reducible first | assumption | apply State.setFlag_keeps | apply State.railOnNow_keeps | split | intro _) | assumption

theorem State.railRampUp_keeps (h : Keeps B M z s) (b_rail : B .rail) (b_lpe : B .lpe) : Keeps B M z (State.railRampUp s x1) := by
  unfold State.railRampUp
  try dsimp only
  repeat' first | (with_reducible first | assumption | apply State.put_keeps | apply State.rampToVset_keeps | apply State.setRail_keeps | split | intro _) | assumption

theorem State.stageTest_keeps (h : Keeps B M z s) (b_lpe : B .lpe) (b_swy : B .swy) : Keeps B M z (State.stageTest s x1) := by
  unfold State.stageTest
  try dsimp only
  repeat' first | (with_reducible first | assumption | apply State.unsettle_keeps | apply State.putStgX_keeps | apply State.put_keeps | split | intro _) | assumption

theorem State.stageBegin_keeps (h : Keeps B M z s) (b_lpe : B .lpe) (b_swy : B .swy) : Keeps B M z (State.stageBegin s x1 x2) := by
  unfold State.stageBegin
  try dsimp only
  repeat' first | (with_reducible first | assumption | apply State.stageTest_keeps | apply State.unsettle_keeps | apply State.putStgX_keeps | apply State.closePoint_keeps | split | intro _) | assumption

theorem State.startFail_keeps (h : Keeps B M z s) (b_ttb : B .ttb) (b_mem : B .mem) (b_evt : B .evt) (b_ldg : B .ldg) (b_rail : B .rail) (b_swy : B .swy) (b_sup : B .sup) (b_lpe : B .lpe) (b_flt : B .flt) (b_tpl : B .tpl) (b_lnk : B .lnk) (hM : M) : Keeps B M z (State.startFail s x1 x2) := by
  unfold State.startFail
  try dsimp only
  repeat' first | (with_reducible first | assumption | apply State.railFailure_keeps | apply State.setFlag_keeps | apply State.regangOff_keeps | apply State.railToOff_keeps | apply State.rampDown_keeps | apply State.groupStartFail_keeps | apply State.raise_keeps | split | intro _) | assumption

theorem State.startGo_keeps (h : Keeps B M z s) (b_rail : B .rail) (b_lpe : B .lpe) (b_swy : B .swy) : Keeps B M z (State.startGo s x1) := by
  unfold State.startGo
  try dsimp only
  repeat' first | (with_reducible first | assumption | apply State.railRampUp_keeps | apply State.stageBegin_keeps | apply each_keeps | split | intro _) | assumption

theorem State.railEnterStart_keeps (h : Keeps B M z s) (b_rail : B .rail) (b_ttb : B .ttb) (b_mem : B .mem) (b_evt : B .evt) (b_ldg : B .ldg) (b_swy : B .swy) (b_sup : B .sup) (b_lpe : B .lpe) (b_flt : B .flt) (b_tpl : B .tpl) (b_lnk : B .lnk) (hM : M) : Keeps B M z (State.railEnterStart s x1) := by
  unfold State.railEnterStart
  try dsimp only
  repeat' first | (with_reducible first | assumption | apply State.setRail_keeps | apply State.startFail_keeps | apply State.startGo_keeps | split | intro _) | assumption

theorem State.gangRuns_keeps (h : Keeps B M z s) (b_swy : B .swy) (b_rail : B .rail) (b_lpe : B .lpe) : Keeps B M z (State.gangRuns s x1) := by
  unfold State.gangRuns
  try dsimp only
  repeat' first | (with_reducible first | assumption | apply State.putStgX_keeps | apply State.put_keeps | apply State.railRampUp_keeps | apply each_keeps | split | intro _) | assumption

theorem State.runHeld_keeps (h : Keeps B M z s) (b_mem : B .mem) (b_evt : B .evt) (b_rail : B .rail) (b_pwr : B .pwr) (b_sup : B .sup) (b_flt : B .flt) (b_tpl : B .tpl) (b_ttb : B .ttb) (b_swy : B .swy) (b_ldg : B .ldg) (b_lpe : B .lpe) (b_lnk : B .lnk) (hM : M) : Keeps B M z (State.runHeld s x1) := by
  unfold State.runHeld
  try dsimp only
  repeat' first | (with_reducible first | assumption | apply State.railOn_keeps | apply State.put_keeps | split | intro _) | assumption

theorem State.stepForward_keeps (h : Keeps B M z s) (b_ttb : B .ttb) (b_mem : B .mem) (b_evt : B .evt) (b_rail : B .rail) (b_swy : B .swy) (b_sup : B .sup) (b_ldg : B .ldg) (b_lpe : B .lpe) (b_pwr : B .pwr) (b_flt : B .flt) (b_tpl : B .tpl) (b_lnk : B .lnk) (hM : M) : Keeps B M z (State.stepForward s x1 x2) := by
  unfold State.stepForward
  try dsimp only
  repeat' first | (with_reducible first | assumption | apply State.putGrpX_keeps | apply State.setGroup_keeps | apply State.put_keeps | apply State.groupStartFail_keeps | apply State.railOn_keeps | apply State.putBit_keeps | apply State.message_keeps | split | intro _) | assumption

theorem State.groupOn_keeps (h : Keeps B M z s) (b_mem : B .mem) (b_evt : B .evt) (b_ttb : B .ttb) (b_pwr : B .pwr) (b_rail : B .rail) (b_swy : B .swy) (b_sup : B .sup) (b_ldg : B .ldg) (b_lpe : B .lpe) (b_flt : B .flt) (b_tpl : B .tpl) (b_lnk : B .lnk) (hM : M) : Keeps B M z (State.groupOn s x1) := by
  unfold State.groupOn
  try dsimp only
  repeat' first | (with_reducible first | assumption | apply State.setFlag_keeps | apply State.deepDrop_keeps | apply State.stepForward_keeps | apply State.setGroup_keeps | split | intro _) | assumption

theorem State.stepNext_keeps (h : Keeps B M z s) (b_ttb : B .ttb) (b_mem : B .mem) (b_evt : B .evt) (b_rail : B .rail) (b_swy : B .swy) (b_sup : B .sup) (b_ldg : B .ldg) (b_lpe : B .lpe) (b_pwr : B .pwr) (b_flt : B .flt) (b_tpl : B .tpl) (b_lnk : B .lnk) (hM : M) : Keeps B M z (State.stepNext s x1) := by
  unfold State.stepNext
  try dsimp only
  repeat' first | (with_reducible first | assumption | apply State.stepForward_keeps | apply State.groupToOff_keeps | apply State.stepReverse_keeps | split | intro _) | assumption

theorem State.boutRestart_keeps (h : Keeps B M z s) (b_mem : B .mem) (b_evt : B .evt) (b_ttb : B .ttb) (b_pwr : B .pwr) (b_rail : B .rail) (b_swy : B .swy) (b_sup : B .sup) (b_ldg : B .ldg) (b_lpe : B .lpe) (b_flt : B .flt) (b_tpl : B .tpl) (b_lnk : B .lnk) (hM : M) : Keeps B M z (State.boutRestart s) := by
  unfold State.boutRestart
  try dsimp only
  repeat' first | (with_reducible first | assumption | apply State.groupOn_keeps | apply State.logRec_keeps | apply State.happen_keeps | apply each_keeps | split | intro _ | refine keeps_mk ?_ rfl rfl) | assumption

theorem State.accessOff_keeps (h : Keeps B M z s) (b_mem : B .mem) (b_evt : B .evt) (hM : M) : Keeps B M z (State.accessOff s x1) := by
  unfold State.accessOff
  try dsimp only
  repeat' first | (with_reducible first | assumption | apply State.happen_keeps | split | intro _) | assumption

theorem State.guardWrite_keeps (h : Keeps B M z s) (b_mem : B .mem) (b_evt : B .evt) (hM : M) (hx2 : ∀ s, Keeps B M z s → Keeps B M z (x2 s)) : Keeps B M z (State.guardWrite s x1 x2) := by
  unfold State.guardWrite
  try dsimp only
  repeat' first | (with_reducible first | assumption | apply hx2 | apply State.accessOff_keeps | apply State.happen_keeps | split | intro _) | assumption

theorem State.guardRead_keeps (h : Keeps B M z s) (b_mem : B .mem) (b_evt : B .evt) (hM : M) (hx2 : ∀ s, Keeps B M z s → Keeps B M z (x2 s).2) : Keeps B M z (State.guardRead s x1 x2).2 := by
  unfold State.guardRead
  try dsimp only
  repeat' first | (with_reducible first | assumption | apply hx2 | apply State.accessOff_keeps | split) | assumption

theorem State.guardSent_keeps (h : Keeps B M z s) (b_mem : B .mem) (b_evt : B .evt) (hM : M) (hx3 : ∀ s, Keeps B M z s → Keeps B M z (x3 s)) : Keeps B M z (State.guardSent s x1 x2 x3) := by
  unfold State.guardSent
  try dsimp only
  repeat' first | (with_reducible first | assumption | apply hx3 | apply State.guardWrite_keeps | split | intro _) | assumption

theorem State.writeRw_keeps (h : Keeps B M z s) (bx1 : B x1.block) : Keeps B M z (State.writeRw s x1 x2) := by
  unfold State.writeRw
  try dsimp only
  repeat' first | (with_reducible first | assumption | apply State.wr_keeps | split | intro _) | assumption

theorem State.plainWrite_keeps (h : Keeps B M z s) (b_mem : B .mem) (b_evt : B .evt) (bx1 : B x1.block) (hM : M) : Keeps B M z (State.plainWrite s x1 x2) := by
  unfold State.plainWrite
  try dsimp only
  repeat' first | (with_reducible first | assumption | apply State.clearFlags_keeps | apply State.writeRw_keeps | split | intro _) | assumption

end Sys2Proof.Machine
end

