-- ==== Sys2Proof/Laws/KeepsRails.lean ====
section
/-! SUPPORT. What the operations of the timetable, the signal box, the switchyard, the mailbox and the loop engines keep. -/

namespace Sys2Proof.Machine

variable {B : Block → Prop} {M : Prop} {z s : State}

theorem State.logError_keeps (h : Keeps B M z s) (b_mem : B .mem) (b_evt : B .evt) (hM : M) : Keeps B M z (State.logError s x1 x2 x3 x4 x5 x6) := by
  unfold State.logError
  try dsimp only
  repeat' first | (with_reducible first | assumption | apply State.wr_keeps | apply State.setFlagI_keeps | apply State.setFlag_keeps | apply State.addSat_keeps | split | intro _) | assumption

theorem State.corrected_keeps (h : Keeps B M z s) (b_mem : B .mem) (b_evt : B .evt) (hM : M) : Keeps B M z (State.corrected s x1 x2 x3 x4) := by
  unfold State.corrected
  try dsimp only
  repeat' first | (with_reducible first | assumption | apply State.addSat_keeps | apply State.logError_keeps | apply State.setFlagI_keeps | split | intro _) | assumption

theorem State.sramUe_keeps (h : Keeps B M z s) (b_flt : B .flt) (b_tpl : B .tpl) (b_mem : B .mem) (b_evt : B .evt) (b_ttb : B .ttb) (b_rail : B .rail) (b_swy : B .swy) (b_sup : B .sup) (b_ldg : B .ldg) (b_lpe : B .lpe) (b_lnk : B .lnk) (hM : M) : Keeps B M z (State.sramUe s x1 x2 x3 x4) := by
  unfold State.sramUe
  try dsimp only
  repeat' first | (with_reducible first | assumption | apply State.raise_keeps | apply State.logError_keeps | split | intro _) | assumption

theorem State.nvmUe_keeps (h : Keeps B M z s) (b_flt : B .flt) (b_tpl : B .tpl) (b_mem : B .mem) (b_evt : B .evt) (b_ttb : B .ttb) (b_rail : B .rail) (b_swy : B .swy) (b_sup : B .sup) (b_ldg : B .ldg) (b_lpe : B .lpe) (b_lnk : B .lnk) (hM : M) : Keeps B M z (State.nvmUe s x1 x2 x3) := by
  unfold State.nvmUe
  try dsimp only
  repeat' first | (with_reducible first | assumption | apply State.raise_keeps | apply State.logError_keeps | split | intro _) | assumption

theorem State.flipValid_keeps (h : Keeps B M z s) (hM : M) : Keeps B M z (State.flipValid s x1) := by
  unfold State.flipValid
  try dsimp only
  repeat' first | (with_reducible first | assumption | apply State.putWord_keeps | apply State.draw_keeps | split | intro _ | refine keeps_mk ?_ rfl rfl) | assumption

theorem State.upset_keeps (h : Keeps B M z s) (hM : M) : Keeps B M z (State.upset s x1) := by
  unfold State.upset
  try dsimp only
  repeat' first | (with_reducible first | assumption | apply State.flipValid_keeps | split | intro _ | refine keeps_mk ?_ rfl rfl) | assumption

theorem State.eccMeet_keeps (h : Keeps B M z s) (b_mem : B .mem) (b_evt : B .evt) (hM : M) : Keeps B M z (State.eccMeet s x1 x2) := by
  unfold State.eccMeet
  try dsimp only
  repeat' first | (with_reducible first | assumption | apply State.corrected_keeps | split | intro _ | refine keeps_mk ?_ rfl rfl) | assumption

theorem State.eccRange_keeps (h : Keeps B M z s) (b_mem : B .mem) (b_evt : B .evt) (hM : M) : Keeps B M z (State.eccRange s x1 x2 x3) := by
  unfold State.eccRange
  try dsimp only
  repeat' first | (with_reducible first | assumption | apply State.eccMeet_keeps | apply each_keeps | split | intro _) | assumption

theorem State.ledMeet_keeps (h : Keeps B M z s) (b_mem : B .mem) (b_evt : B .evt) (b_flt : B .flt) (b_tpl : B .tpl) (b_ttb : B .ttb) (b_rail : B .rail) (b_swy : B .swy) (b_sup : B .sup) (b_ldg : B .ldg) (b_lpe : B .lpe) (b_lnk : B .lnk) (hM : M) : Keeps B M z (State.ledMeet s x1 x2 x3) := by
  unfold State.ledMeet
  try dsimp only
  repeat' first | (with_reducible first | assumption | apply State.eccRange_keeps | apply State.nvmUe_keeps | apply each_keeps | split | intro _) | assumption

theorem State.memRead_keeps (h : Keeps B M z s) (b_mem : B .mem) (b_evt : B .evt) (b_flt : B .flt) (b_tpl : B .tpl) (b_ttb : B .ttb) (b_rail : B .rail) (b_swy : B .swy) (b_sup : B .sup) (b_ldg : B .ldg) (b_lpe : B .lpe) (b_lnk : B .lnk) (hM : M) : Keeps B M z (State.memRead s x1 x2 x3).2 := by
  unfold State.memRead
  try dsimp only
  repeat' first | (with_reducible first | assumption | apply State.eccMeet_keeps | apply State.sramUe_keeps | apply State.nvmUe_keeps | split | intro _) | assumption

theorem State.sramNarrow_keeps (h : Keeps B M z s) (b_mem : B .mem) (b_evt : B .evt) (b_flt : B .flt) (b_tpl : B .tpl) (b_ttb : B .ttb) (b_rail : B .rail) (b_swy : B .swy) (b_sup : B .sup) (b_ldg : B .ldg) (b_lpe : B .lpe) (b_lnk : B .lnk) (hM : M) : Keeps B M z (State.sramNarrow s x1 x2 x3) := by
  unfold State.sramNarrow
  try dsimp only
  repeat' first | (with_reducible first | assumption | apply State.sramWrite_keeps | apply State.eccMeet_keeps | apply State.sramUe_keeps | split | intro _) | assumption

theorem State.metNow_keeps (h : Keeps B M z s) (b_flt : B .flt) (b_tpl : B .tpl) (b_mem : B .mem) (b_evt : B .evt) (b_ttb : B .ttb) (b_rail : B .rail) (b_swy : B .swy) (b_sup : B .sup) (b_ldg : B .ldg) (b_lpe : B .lpe) (b_lnk : B .lnk) (hM : M) : Keeps B M z (State.metNow s) := by
  unfold State.metNow
  try dsimp only
  repeat' first | (with_reducible first | assumption | apply State.sramUe_keeps | apply State.corrected_keeps | apply State.put_keeps | apply each_keeps | split | intro _ | refine keeps_mk ?_ rfl rfl) | assumption

theorem State.dmaHalt_keeps (h : Keeps B M z s) (b_mem : B .mem) (b_evt : B .evt) (hM : M) : Keeps B M z (State.dmaHalt s x1 x2) := by
  unfold State.dmaHalt
  try dsimp only
  repeat' first | (with_reducible first | assumption | apply State.gap_keeps | apply State.setFlagI_keeps | apply State.putBit_keeps | split | intro _) | assumption

theorem State.dmaRestart_keeps (h : Keeps B M z s) (b_mem : B .mem) : Keeps B M z (State.dmaRestart s x1) := by
  unfold State.dmaRestart
  try dsimp only
  repeat' first | (with_reducible first | assumption | apply State.putBit_keeps | split | intro _) | assumption

theorem State.scrubWord_keeps (h : Keeps B M z s) (b_mem : B .mem) (b_evt : B .evt) (b_flt : B .flt) (b_tpl : B .tpl) (b_ttb : B .ttb) (b_rail : B .rail) (b_swy : B .swy) (b_sup : B .sup) (b_ldg : B .ldg) (b_lpe : B .lpe) (b_lnk : B .lnk) (hM : M) : Keeps B M z (State.scrubWord s x1) := by
  unfold State.scrubWord
  try dsimp only
  repeat' first | (with_reducible first | assumption | apply State.eccMeet_keeps | apply State.sramUe_keeps | split | intro _) | assumption

theorem execScrubStep_keeps (b_mem : B .mem) (b_evt : B .evt) (b_flt : B .flt) (b_tpl : B .tpl) (b_ttb : B .ttb) (b_rail : B .rail) (b_swy : B .swy) (b_sup : B .sup) (b_ldg : B .ldg) (b_lpe : B .lpe) (b_lnk : B .lnk) (hM : M) : ∃ t, execScrubStep x0 s = .next t ∧ Keeps B M s t := by
  refine ⟨_, rfl, ?_⟩
  have h : Keeps B M s s := Keeps.refl s
  try dsimp only
  repeat' first | (with_reducible first | assumption | apply State.upset_keeps | apply State.scrubWord_keeps | apply State.metNow_keeps | apply each_keeps | split | intro _ | refine keeps_mk ?_ rfl rfl) | assumption

theorem State.wrPretire_keeps (h : Keeps B M z s) (b_mem : B .mem) (b_evt : B .evt) (hM : M) : Keeps B M z (State.wrPretire s x1) := by
  unfold State.wrPretire
  try dsimp only
  repeat' first | (with_reducible first | assumption | apply State.setFlagI_keeps | apply State.put_keeps | split | intro _ | refine keeps_mk ?_ rfl rfl) | assumption

theorem execMemPretireWrite_keeps (b_mem : B .mem) (b_evt : B .evt) (hM : M) : ∃ t, execMemPretireWrite x0 x1 x2 s = .next t ∧ Keeps B M s t := by
  refine ⟨_, rfl, ?_⟩
  have h : Keeps B M s s := Keeps.refl s
  try dsimp only
  repeat' first | (with_reducible first | assumption | apply State.guardSent_keeps | apply State.wrPretire_keeps | split | intro _) | assumption

theorem State.copyPage_keeps (h : Keeps B M z s) (b_mem : B .mem) (b_evt : B .evt) (hM : M) : Keeps B M z (State.copyPage s x1) := by
  unfold State.copyPage
  try dsimp only
  repeat' first | (with_reducible first | assumption | apply State.eccRange_keeps | apply State.logError_keeps | apply each_keeps | split | intro _) | assumption

theorem execPageCopyDone_keeps (b_mem : B .mem) (b_evt : B .evt) (b_ldg : B .ldg) (hM : M) : ∃ t, execPageCopyDone s = .next t ∧ Keeps B M s t := by
  refine ⟨_, rfl, ?_⟩
  have h : Keeps B M s s := Keeps.refl s
  try dsimp only
  repeat' first | (with_reducible first | assumption | apply State.copyPage_keeps | apply State.put_keeps | apply State.wr_keeps | apply State.logRec_keeps | apply State.setFlagI_keeps | split | intro _ | refine keeps_mk ?_ rfl rfl) | assumption

theorem State.wrFltCfg_keeps (h : Keeps B M z s) (b_flt : B .flt) (b_mem : B .mem) (b_evt : B .evt) (hM : M) : Keeps B M z (State.wrFltCfg s x1 x2) := by
  unfold State.wrFltCfg
  try dsimp only
  repeat' first | (with_reducible first | assumption | apply State.writeRw_keeps | apply State.setFlag_keeps | apply State.faultPin_keeps | split | intro _) | assumption

theorem State.wrFltTgt_keeps (h : Keeps B M z s) (b_flt : B .flt) (b_mem : B .mem) (b_evt : B .evt) (hM : M) : Keeps B M z (State.wrFltTgt s x1 x2) := by
  unfold State.wrFltTgt
  try dsimp only
  repeat' first | (with_reducible first | assumption | apply State.writeRw_keeps | apply State.setFlag_keeps | split | intro _) | assumption

theorem State.wrFltStat_keeps (h : Keeps B M z s) (b_flt : B .flt) (b_ttb : B .ttb) (b_rail : B .rail) (b_swy : B .swy) (b_mem : B .mem) (b_evt : B .evt) (b_ldg : B .ldg) (hM : M) : Keeps B M z (State.wrFltStat s x1 x2) := by
  unfold State.wrFltStat
  try dsimp only
  repeat' first | (with_reducible first | assumption | apply State.clearFault_keeps | apply each_keeps | split | intro _) | assumption

theorem State.wrFltCtl_keeps (h : Keeps B M z s) (b_flt : B .flt) : Keeps B M z (State.wrFltCtl s x1) := by
  unfold State.wrFltCtl
  try dsimp only
  repeat' first | (with_reducible first | assumption | apply State.wr_keeps | apply each_keeps | split | intro _) | assumption

theorem State.wrFltForce_keeps (h : Keeps B M z s) (b_flt : B .flt) (b_mem : B .mem) (b_evt : B .evt) (hM : M) : Keeps B M z (State.wrFltForce s x1) := by
  unfold State.wrFltForce
  try dsimp only
  repeat' first | (with_reducible first | assumption | apply State.writeRw_keeps | apply State.setFlag_keeps | split | intro _) | assumption

theorem State.wrFltHost_keeps (h : Keeps B M z s) (b_flt : B .flt) (b_tpl : B .tpl) (b_mem : B .mem) (b_evt : B .evt) (b_ttb : B .ttb) (b_rail : B .rail) (b_swy : B .swy) (b_sup : B .sup) (b_ldg : B .ldg) (b_lpe : B .lpe) (b_lnk : B .lnk) (hM : M) : Keeps B M z (State.wrFltHost s x1) := by
  unfold State.wrFltHost
  try dsimp only
  repeat' first | (with_reducible first | assumption | apply State.raise_keeps | apply each_keeps | split | intro _) | assumption

theorem State.injectGo_keeps (h : Keeps B M z s) (b_flt : B .flt) (b_mem : B .mem) (b_evt : B .evt) (hM : M) : Keeps B M z (State.injectGo s) := by
  unfold State.injectGo
  try dsimp only
  repeat' first | (with_reducible first | assumption | apply State.putBit_keeps | apply State.addSat_keeps | apply State.setFlag_keeps | apply State.put_keeps | split | intro _ | refine keeps_mk ?_ rfl rfl) | assumption

theorem State.wrFltInj_keeps (h : Keeps B M z s) (b_flt : B .flt) (b_mem : B .mem) (b_evt : B .evt) (hM : M) : Keeps B M z (State.wrFltInj s x1) := by
  unfold State.wrFltInj
  try dsimp only
  repeat' first | (with_reducible first | assumption | apply State.writeRw_keeps | apply State.injectGo_keeps | apply State.putBit_keeps | split | intro _ | refine keeps_mk ?_ rfl rfl) | assumption

theorem State.fetchUe_keeps (h : Keeps B M z s) (b_flt : B .flt) (b_tpl : B .tpl) (b_mem : B .mem) (b_evt : B .evt) (b_ttb : B .ttb) (b_rail : B .rail) (b_swy : B .swy) (b_sup : B .sup) (b_ldg : B .ldg) (b_lpe : B .lpe) (b_lnk : B .lnk) (hM : M) : Keeps B M z (State.fetchUe s) := by
  unfold State.fetchUe
  try dsimp only
  repeat' first | (with_reducible first | assumption | apply State.sramUe_keeps | apply State.raise_keeps | apply foldl_keeps | split | intro _) | assumption

theorem execFaultRaise_keeps (b_flt : B .flt) (b_tpl : B .tpl) (b_mem : B .mem) (b_evt : B .evt) (b_ttb : B .ttb) (b_rail : B .rail) (b_swy : B .swy) (b_sup : B .sup) (b_ldg : B .ldg) (b_lpe : B .lpe) (b_lnk : B .lnk) (hM : M) : ∃ t, execFaultRaise x0 x1 s = .next t ∧ Keeps B M s t := by
  refine ⟨_, rfl, ?_⟩
  have h : Keeps B M s s := Keeps.refl s
  try dsimp only
  repeat' first | (with_reducible first | assumption | apply State.fetchUe_keeps | apply State.raise_keeps | apply State.live_keeps | split | intro _) | assumption

theorem execFaultCauseGone_keeps (b_flt : B .flt) : ∃ t, execFaultCauseGone x0 s = .next t ∧ Keeps B M s t := by
  refine ⟨_, rfl, ?_⟩
  have h : Keeps B M s s := Keeps.refl s
  try dsimp only
  repeat' first | (with_reducible first | assumption | apply State.live_keeps | split | intro _) | assumption

theorem execFaultClear_keeps (b_mem : B .mem) (b_evt : B .evt) (b_flt : B .flt) (b_ttb : B .ttb) (b_rail : B .rail) (b_swy : B .swy) (b_ldg : B .ldg) (hM : M) : ∃ t, execFaultClear x0 x1 x2 x3 s = .next t ∧ Keeps B M s t := by
  refine ⟨_, rfl, ?_⟩
  have h : Keeps B M s s := Keeps.refl s
  try dsimp only
  repeat' first | (with_reducible first | assumption | apply State.guardWrite_keeps | apply State.wrFltStat_keeps | split | intro _) | assumption

theorem execFaultNRelease_keeps : ∃ t, execFaultNRelease s = .next t ∧ Keeps B M s t := by
  refine ⟨_, rfl, ?_⟩
  have h : Keeps B M s s := Keeps.refl s
  try dsimp only
  repeat' first | (with_reducible first | assumption | apply State.faultPin_keeps | split | intro _ | refine keeps_mk ?_ rfl rfl) | assumption

theorem execFltCfgWrite_keeps (b_mem : B .mem) (b_evt : B .evt) (b_flt : B .flt) (hM : M) : ∃ t, execFltCfgWrite x0 x1 x2 x3 s = .next t ∧ Keeps B M s t := by
  refine ⟨_, rfl, ?_⟩
  have h : Keeps B M s s := Keeps.refl s
  try dsimp only
  repeat' first | (with_reducible first | assumption | apply State.guardWrite_keeps | apply State.wrFltCfg_keeps | split | intro _) | assumption

theorem execFltTgtWrite_keeps (b_mem : B .mem) (b_evt : B .evt) (b_flt : B .flt) (hM : M) : ∃ t, execFltTgtWrite x0 x1 x2 x3 s = .next t ∧ Keeps B M s t := by
  refine ⟨_, rfl, ?_⟩
  have h : Keeps B M s s := Keeps.refl s
  try dsimp only
  repeat' first | (with_reducible first | assumption | apply State.guardWrite_keeps | apply State.wrFltTgt_keeps | split | intro _) | assumption

theorem execCntclr_keeps (b_mem : B .mem) (b_evt : B .evt) (b_flt : B .flt) (hM : M) : ∃ t, execCntclr x0 x1 x2 s = .next t ∧ Keeps B M s t := by
  refine ⟨_, rfl, ?_⟩
  have h : Keeps B M s s := Keeps.refl s
  try dsimp only
  repeat' first | (with_reducible first | assumption | apply State.guardSent_keeps | apply State.wrFltCtl_keeps | split | intro _) | assumption

theorem execFltForceWrite_keeps (b_mem : B .mem) (b_evt : B .evt) (b_flt : B .flt) (hM : M) : ∃ t, execFltForceWrite x0 x1 x2 s = .next t ∧ Keeps B M s t := by
  refine ⟨_, rfl, ?_⟩
  have h : Keeps B M s s := Keeps.refl s
  try dsimp only
  repeat' first | (with_reducible first | assumption | apply State.guardWrite_keeps | apply State.wrFltForce_keeps | split | intro _) | assumption

theorem execTestEnFall_keeps (b_flt : B .flt) : ∃ t, execTestEnFall s = .next t ∧ Keeps B M s t := by
  refine ⟨_, rfl, ?_⟩
  have h : Keeps B M s s := Keeps.refl s
  try dsimp only
  repeat' first | (with_reducible first | assumption | apply State.putBit_keeps | split | intro _ | refine keeps_mk ?_ rfl rfl) | assumption

theorem execInjectionUnlock_keeps (b_mem : B .mem) (b_evt : B .evt) (b_flt : B .flt) (hM : M) : ∃ t, execInjectionUnlock x0 x1 x2 s = .next t ∧ Keeps B M s t := by
  refine ⟨_, rfl, ?_⟩
  have h : Keeps B M s s := Keeps.refl s
  try dsimp only
  repeat' first | (with_reducible first | assumption | apply State.guardWrite_keeps | apply State.wrFltInj_keeps | split | intro _) | assumption

theorem execInjectionUnlockExpiry_keeps (b_flt : B .flt) : ∃ t, execInjectionUnlockExpiry s = .next t ∧ Keeps B M s t := by
  refine ⟨_, rfl, ?_⟩
  have h : Keeps B M s s := Keeps.refl s
  try dsimp only
  repeat' first | (with_reducible first | assumption | apply State.putBit_keeps | split | intro _) | assumption

theorem execGo_keeps (b_mem : B .mem) (b_evt : B .evt) (b_flt : B .flt) (hM : M) : ∃ t, execGo x0 x1 x2 s = .next t ∧ Keeps B M s t := by
  refine ⟨_, rfl, ?_⟩
  have h : Keeps B M s s := Keeps.refl s
  try dsimp only
  repeat' first | (with_reducible first | assumption | apply State.guardWrite_keeps | apply State.wrFltInj_keeps | split | intro _) | assumption

theorem execInjectionResult_keeps (b_flt : B .flt) (b_tpl : B .tpl) (b_mem : B .mem) (b_evt : B .evt) (b_ttb : B .ttb) (b_rail : B .rail) (b_swy : B .swy) (b_sup : B .sup) (b_ldg : B .ldg) (b_lpe : B .lpe) (b_lnk : B .lnk) (hM : M) : ∃ t, execInjectionResult x0 s = .next t ∧ Keeps B M s t := by
  refine ⟨_, rfl, ?_⟩
  have h : Keeps B M s s := Keeps.refl s
  try dsimp only
  repeat' first | (with_reducible first | assumption | apply State.put_keeps | apply State.raise_keeps | split | intro _ | refine keeps_mk ?_ rfl rfl) | assumption

theorem execFltHostRaise_keeps (b_mem : B .mem) (b_evt : B .evt) (b_flt : B .flt) (b_tpl : B .tpl) (b_ttb : B .ttb) (b_rail : B .rail) (b_swy : B .swy) (b_sup : B .sup) (b_ldg : B .ldg) (b_lpe : B .lpe) (b_lnk : B .lnk) (hM : M) : ∃ t, execFltHostRaise x0 x1 x2 s = .next t ∧ Keeps B M s t := by
  refine ⟨_, rfl, ?_⟩
  have h : Keeps B M s s := Keeps.refl s
  try dsimp only
  repeat' first | (with_reducible first | assumption | apply State.guardSent_keeps | apply State.wrFltHost_keeps | split | intro _) | assumption

theorem State.putBank_keeps (h : Keeps B M z s) : Keeps B M z (State.putBank s x1 x2) := by
  unfold State.putBank
  try dsimp only
  repeat' first | (with_reducible first | assumption | split | intro _ | refine keeps_mk ?_ rfl rfl) | assumption

theorem State.refuseIssue_keeps (h : Keeps B M z s) (b_mem : B .mem) (b_evt : B .evt) (b_cmd : B .cmd) (hM : M) : Keeps B M z (State.refuseIssue s x1 x2 x3) := by
  unfold State.refuseIssue
  try dsimp only
  repeat' first | (with_reducible first | assumption | apply State.setFlagI_keeps | apply State.putBank_keeps | split | intro _) | assumption

theorem State.reloadBegin_keeps (h : Keeps B M z s) (b_tpl : B .tpl) : Keeps B M z (State.reloadBegin s x1) := by
  unfold State.reloadBegin
  try dsimp only
  repeat' first | (with_reducible first | assumption | apply State.put_keeps | split | intro _ | refine keeps_mk ?_ rfl rfl) | assumption

theorem State.acceptCmd_keeps (h : Keeps B M z s) (b_tpl : B .tpl) : Keeps B M z (State.acceptCmd s x1 x2 x3) := by
  unfold State.acceptCmd
  try dsimp only
  repeat' first | (with_reducible first | assumption | apply State.putBank_keeps | apply State.putSlot_keeps | apply State.reloadAccept_keeps | apply State.reloadBegin_keeps | split | intro _ | refine keeps_mk ?_ rfl rfl) | assumption

theorem State.issueOp_keeps (h : Keeps B M z s) (b_mem : B .mem) (b_evt : B .evt) (b_cmd : B .cmd) (b_tpl : B .tpl) (hM : M) : Keeps B M z (State.issueOp s x1 x2) := by
  unfold State.issueOp
  try dsimp only
  repeat' first | (with_reducible first | assumption | apply State.refuseIssue_keeps | apply State.acceptCmd_keeps | split | intro _) | assumption

theorem State.issue_keeps (h : Keeps B M z s) (b_mem : B .mem) (b_evt : B .evt) (b_cmd : B .cmd) (b_tpl : B .tpl) (hM : M) : Keeps B M z (State.issue s x1 x2) := by
  unfold State.issue
  try dsimp only
  repeat' first | (with_reducible first | assumption | apply State.guardWrite_keeps | apply State.issueOp_keeps | split | intro _) | assumption

theorem State.withRunning_keeps (h : Keeps B M z s) (hx2 : ∀ x s, Keeps B M z s → Keeps B M z (x2 x s)) : Keeps B M z (State.withRunning s x1 x2) := by
  unfold State.withRunning
  try dsimp only
  repeat' first | (with_reducible first | assumption | apply hx2 | split | intro _) | assumption

theorem State.nop_keeps (h : Keeps B M z s) (b_mem : B .mem) (b_evt : B .evt) (b_cmd : B .cmd) (b_tpl : B .tpl) (hM : M) : Keeps B M z (State.nop s x1 x2) := by
  unfold State.nop
  try dsimp only
  repeat' first | (with_reducible first | assumption | apply State.issue_keeps | split | intro _) | assumption

theorem execNopConfig_keeps (b_mem : B .mem) (b_evt : B .evt) (b_cmd : B .cmd) (b_tpl : B .tpl) (hM : M) : ∃ t, execNopConfig x0 s = .next t ∧ Keeps B M s t := by
  refine ⟨_, rfl, ?_⟩
  have h : Keeps B M s s := Keeps.refl s
  try dsimp only
  repeat' first | (with_reducible first | assumption | apply State.nop_keeps | split | intro _) | assumption

theorem execNopLedger_keeps (b_mem : B .mem) (b_evt : B .evt) (b_cmd : B .cmd) (b_tpl : B .tpl) (hM : M) : ∃ t, execNopLedger x0 s = .next t ∧ Keeps B M s t := by
  refine ⟨_, rfl, ?_⟩
  have h : Keeps B M s s := Keeps.refl s
  try dsimp only
  repeat' first | (with_reducible first | assumption | apply State.nop_keeps | split | intro _) | assumption

theorem execNopCalibration_keeps (b_mem : B .mem) (b_evt : B .evt) (b_cmd : B .cmd) (b_tpl : B .tpl) (hM : M) : ∃ t, execNopCalibration x0 s = .next t ∧ Keeps B M s t := by
  refine ⟨_, rfl, ?_⟩
  have h : Keeps B M s s := Keeps.refl s
  try dsimp only
  repeat' first | (with_reducible first | assumption | apply State.nop_keeps | split | intro _) | assumption

theorem execNopFabric_keeps (b_mem : B .mem) (b_evt : B .evt) (b_cmd : B .cmd) (b_tpl : B .tpl) (hM : M) : ∃ t, execNopFabric x0 s = .next t ∧ Keeps B M s t := by
  refine ⟨_, rfl, ?_⟩
  have h : Keeps B M s s := Keeps.refl s
  try dsimp only
  repeat' first | (with_reducible first | assumption | apply State.nop_keeps | split | intro _) | assumption

theorem execUnknownOp_keeps (b_mem : B .mem) (b_evt : B .evt) (b_cmd : B .cmd) (b_tpl : B .tpl) (hM : M) : ∃ t, execUnknownOp x0 x1 s = .next t ∧ Keeps B M s t := by
  refine ⟨_, rfl, ?_⟩
  have h : Keeps B M s s := Keeps.refl s
  try dsimp only
  repeat' first | (with_reducible first | assumption | apply State.issue_keeps | split | intro _) | assumption

theorem State.wrQuery_keeps (h : Keeps B M z s) (b_mem : B .mem) (b_evt : B .evt) (b_cmd : B .cmd) (hM : M) : Keeps B M z (State.wrQuery s x1 x2) := by
  unfold State.wrQuery
  try dsimp only
  repeat' first | (with_reducible first | assumption | apply State.putBank_keeps | apply State.setFlagI_keeps | split | intro _) | assumption

theorem execCmdQuery_keeps (b_mem : B .mem) (b_evt : B .evt) (b_cmd : B .cmd) (hM : M) : ∃ t, execCmdQuery x0 x1 x2 s = .next t ∧ Keeps B M s t := by
  refine ⟨_, rfl, ?_⟩
  have h : Keeps B M s s := Keeps.refl s
  try dsimp only
  repeat' first | (with_reducible first | assumption | apply State.guardWrite_keeps | apply State.wrQuery_keeps | split | intro _) | assumption

theorem State.wrStgCfg_keeps (h : Keeps B M z s) (b_mem : B .mem) (b_evt : B .evt) (b_swy : B .swy) (hM : M) : Keeps B M z (State.wrStgCfg s x1 x2) := by
  unfold State.wrStgCfg
  try dsimp only
  repeat' first | (with_reducible first | assumption | apply State.setFlag_keeps | apply State.showExcluded_keeps | apply State.writeRw_keeps | apply State.put_keeps | split | intro _) | assumption

theorem State.wrPnt_keeps (h : Keeps B M z s) (b_swy : B .swy) (b_mem : B .mem) (b_evt : B .evt) (hM : M) : Keeps B M z (State.wrPnt s x1 x2) := by
  unfold State.wrPnt
  try dsimp only
  repeat' first | (with_reducible first | assumption | apply State.showExcluded_keeps | apply State.writeRw_keeps | split | intro _) | assumption

theorem State.wrStgFlag_keeps (h : Keeps B M z s) (b_mem : B .mem) (b_evt : B .evt) (b_swy : B .swy) (hM : M) : Keeps B M z (State.wrStgFlag s x1 x2) := by
  unfold State.wrStgFlag
  try dsimp only
  repeat' first | (with_reducible first | assumption | apply State.clearFlagsBut_keeps | apply State.stageRest_keeps | split | intro _) | assumption

theorem State.wrXbrMod_keeps (h : Keeps B M z s) (b_swy : B .swy) : Keeps B M z (State.wrXbrMod s x1 x2) := by
  unfold State.wrXbrMod
  try dsimp only
  repeat' first | (with_reducible first | assumption | apply State.writeRw_keeps | split | intro _) | assumption

theorem State.wrXbrShare_keeps (h : Keeps B M z s) (b_swy : B .swy) : Keeps B M z (State.wrXbrShare s x1 x2) := by
  unfold State.wrXbrShare
  try dsimp only
  repeat' first | (with_reducible first | assumption | apply State.writeRw_keeps | split | intro _) | assumption

theorem State.wrPntt_keeps (h : Keeps B M z s) (b_swy : B .swy) : Keeps B M z (State.wrPntt s x1) := by
  unfold State.wrPntt
  try dsimp only
  repeat' first | (with_reducible first | assumption | apply State.writeRw_keeps | split | intro _) | assumption

theorem State.wrIagg_keeps (h : Keeps B M z s) (b_swy : B .swy) : Keeps B M z (State.wrIagg s x1) := by
  unfold State.wrIagg
  try dsimp only
  repeat' first | (with_reducible first | assumption | apply State.writeRw_keeps | split | intro _) | assumption

theorem execStgCfgWrite_keeps (b_mem : B .mem) (b_evt : B .evt) (b_swy : B .swy) (hM : M) : ∃ t, execStgCfgWrite x0 x1 x2 x3 s = .next t ∧ Keeps B M s t := by
  refine ⟨_, rfl, ?_⟩
  have h : Keeps B M s s := Keeps.refl s
  try dsimp only
  repeat' first | (with_reducible first | assumption | apply State.guardWrite_keeps | apply State.wrStgCfg_keeps | split | intro _) | assumption

theorem execPntCfgWrite_keeps (b_mem : B .mem) (b_evt : B .evt) (b_swy : B .swy) (hM : M) : ∃ t, execPntCfgWrite x0 x1 x2 x3 s = .next t ∧ Keeps B M s t := by
  refine ⟨_, rfl, ?_⟩
  have h : Keeps B M s s := Keeps.refl s
  try dsimp only
  repeat' first | (with_reducible first | assumption | apply State.guardWrite_keeps | apply State.wrPnt_keeps | split | intro _) | assumption

theorem execStgFlagWrite_keeps (b_mem : B .mem) (b_evt : B .evt) (b_swy : B .swy) (hM : M) : ∃ t, execStgFlagWrite x0 x1 x2 x3 s = .next t ∧ Keeps B M s t := by
  refine ⟨_, rfl, ?_⟩
  have h : Keeps B M s s := Keeps.refl s
  try dsimp only
  repeat' first | (with_reducible first | assumption | apply State.guardWrite_keeps | apply State.wrStgFlag_keeps | split | intro _) | assumption

theorem State.triggerReaches_keeps (h : Keeps B M z s) (b_flt : B .flt) (b_swy : B .swy) : Keeps B M z (State.triggerReaches s x1 x2) := by
  unfold State.triggerReaches
  try dsimp only
  repeat' first | (with_reducible first | assumption | apply State.live_keeps | apply State.put_keeps | split | intro _) | assumption

theorem State.takeTrigger_keeps (h : Keeps B M z s) (b_swy : B .swy) (b_mem : B .mem) (b_evt : B .evt) (hM : M) : Keeps B M z (State.takeTrigger s x1 x2 x3) := by
  unfold State.takeTrigger
  try dsimp only
  repeat' first | (with_reducible first | assumption | apply State.put_keeps | apply State.setFlag_keeps | apply State.putStgX_keeps | split | intro _ | refine keeps_mk ?_ rfl rfl) | assumption

theorem State.passTrigger_keeps (h : Keeps B M z s) (b_flt : B .flt) (b_swy : B .swy) (b_mem : B .mem) (b_evt : B .evt) (hM : M) : Keeps B M z (State.passTrigger s x1 x2 x3) := by
  induction x3 generalizing s x1 x2 with
  | nil =>
    unfold State.passTrigger
    try dsimp only
    repeat' first | (with_reducible first | assumption | apply State.triggerReaches_keeps | apply State.takeTrigger_keeps | split | refine keeps_mk ?_ rfl rfl) | assumption
  | cons b t ih =>
    unfold State.passTrigger
    try dsimp only
    repeat' first | (with_reducible first | assumption | apply ih | apply State.triggerReaches_keeps | apply State.takeTrigger_keeps | split | refine keeps_mk ?_ rfl rfl) | assumption

theorem State.serveWaiting_keeps (h : Keeps B M z s) (b_flt : B .flt) (b_swy : B .swy) (b_mem : B .mem) (b_evt : B .evt) (hM : M) : Keeps B M z (State.serveWaiting s x1 x2).2 := by
  unfold State.serveWaiting
  try dsimp only
  repeat' first | (with_reducible first | assumption | apply State.passTrigger_keeps | split | intro _ | refine keeps_mk ?_ rfl rfl) | assumption

theorem execValleyComparatorFire_keeps (b_flt : B .flt) (b_swy : B .swy) (b_mem : B .mem) (b_evt : B .evt) (hM : M) : ∃ t, execValleyComparatorFire x0 x1 s = .next t ∧ Keeps B M s t := by
  refine ⟨_, rfl, ?_⟩
  have h : Keeps B M s s := Keeps.refl s
  try dsimp only
  repeat' first | (with_reducible first | assumption | apply State.serveWaiting_keeps | apply State.passTrigger_keeps | split | intro _) | assumption

theorem execZeroCurrentDetect_keeps (b_swy : B .swy) : ∃ t, execZeroCurrentDetect x0 s = .next t ∧ Keeps B M s t := by
  refine ⟨_, rfl, ?_⟩
  have h : Keeps B M s s := Keeps.refl s
  try dsimp only
  repeat' first | (with_reducible first | assumption | apply State.putStgX_keeps | apply State.put_keeps | split | intro _) | assumption

theorem execNegativeLimit_keeps (b_mem : B .mem) (b_evt : B .evt) (b_swy : B .swy) (hM : M) : ∃ t, execNegativeLimit x0 s = .next t ∧ Keeps B M s t := by
  refine ⟨_, rfl, ?_⟩
  have h : Keeps B M s s := Keeps.refl s
  try dsimp only
  repeat' first | (with_reducible first | assumption | apply State.setFlag_keeps | apply State.putStgX_keeps | apply State.put_keeps | split | intro _) | assumption

theorem execOcTimeout_keeps (b_flt : B .flt) (b_tpl : B .tpl) (b_mem : B .mem) (b_evt : B .evt) (b_ttb : B .ttb) (b_rail : B .rail) (b_swy : B .swy) (b_sup : B .sup) (b_ldg : B .ldg) (b_lpe : B .lpe) (b_lnk : B .lnk) (hM : M) : ∃ t, execOcTimeout x0 s = .next t ∧ Keeps B M s t := by
  refine ⟨_, rfl, ?_⟩
  have h : Keeps B M s s := Keeps.refl s
  try dsimp only
  repeat' first | (with_reducible first | assumption | apply State.raise_keeps | apply State.setFlag_keeps | split | intro _) | assumption

theorem State.measure_keeps (h : Keeps B M z s) (b_swy : B .swy) : Keeps B M z (State.measure s x1) := by
  unfold State.measure
  try dsimp only
  repeat' first | (with_reducible first | assumption | apply State.put_keeps | apply each_keeps | split | intro _) | assumption

theorem execAggregateLimit_keeps (b_swy : B .swy) (b_flt : B .flt) : ∃ t, execAggregateLimit x0 s = .next t ∧ Keeps B M s t := by
  refine ⟨_, rfl, ?_⟩
  have h : Keeps B M s s := Keeps.refl s
  try dsimp only
  repeat' first | (with_reducible first | assumption | apply State.measure_keeps | apply State.live_keeps | apply State.put_keeps | split | intro _) | assumption

theorem execSwyAggOc_keeps (b_flt : B .flt) (b_tpl : B .tpl) (b_mem : B .mem) (b_evt : B .evt) (b_ttb : B .ttb) (b_rail : B .rail) (b_swy : B .swy) (b_sup : B .sup) (b_ldg : B .ldg) (b_lpe : B .lpe) (b_lnk : B .lnk) (hM : M) : ∃ t, execSwyAggOc s = .next t ∧ Keeps B M s t := by
  refine ⟨_, rfl, ?_⟩
  have h : Keeps B M s s := Keeps.refl s
  try dsimp only
  repeat' first | (with_reducible first | assumption | apply State.raise_keeps | apply State.setFlag_keeps | split | intro _) | assumption

theorem State.regangSet_keeps (h : Keeps B M z s) (b_swy : B .swy) : Keeps B M z (State.regangSet s x1 x2) := by
  unfold State.regangSet
  try dsimp only
  repeat' first | (with_reducible first | assumption | apply State.wr_keeps | split | intro _ | refine keeps_mk ?_ rfl rfl) | assumption

theorem State.regangAdd_keeps (h : Keeps B M z s) (b_ldg : B .ldg) (b_swy : B .swy) (b_mem : B .mem) (b_evt : B .evt) (b_lpe : B .lpe) (hM : M) : Keeps B M z (State.regangAdd s x1) := by
  unfold State.regangAdd
  try dsimp only
  repeat' first | (with_reducible first | assumption | apply State.regangEnd_keeps | apply State.showExcluded_keeps | apply State.put_keeps | apply State.stageTest_keeps | apply State.regangSet_keeps | apply State.putStgX_keeps | apply State.closePoint_keeps | split | intro _) | assumption

theorem State.regangShedDone_keeps (h : Keeps B M z s) (b_swy : B .swy) (b_mem : B .mem) (b_evt : B .evt) (b_ldg : B .ldg) (b_lpe : B .lpe) (hM : M) : Keeps B M z (State.regangShedDone s x1) := by
  unfold State.regangShedDone
  try dsimp only
  repeat' first | (with_reducible first | assumption | apply State.showExcluded_keeps | apply State.put_keeps | apply State.stageOff_keeps | apply State.regangEnd_keeps | apply State.regangAdd_keeps | split | intro _) | assumption

theorem State.regangBegin_keeps (h : Keeps B M z s) (b_swy : B .swy) : Keeps B M z (State.regangBegin s x1) := by
  unfold State.regangBegin
  try dsimp only
  repeat' first | (with_reducible first | assumption | apply State.wr_keeps | split | intro _) | assumption

theorem State.regangStart_keeps (h : Keeps B M z s) (b_ldg : B .ldg) (b_swy : B .swy) (b_mem : B .mem) (b_evt : B .evt) (b_lpe : B .lpe) (hM : M) : Keeps B M z (State.regangStart s x1) := by
  unfold State.regangStart
  try dsimp only
  repeat' first | (with_reducible first | assumption | apply State.complete_keeps | apply State.regangIdle_keeps | apply State.regangShedDone_keeps | apply State.regangSet_keeps | apply State.unsettle_keeps | apply State.put_keeps | apply State.putStgX_keeps | apply State.regangAdd_keeps | split | intro _) | assumption

theorem State.regangCancel_keeps (h : Keeps B M z s) (b_ldg : B .ldg) (b_swy : B .swy) (b_mem : B .mem) (b_evt : B .evt) (hM : M) : Keeps B M z (State.regangCancel s x1) := by
  unfold State.regangCancel
  try dsimp only
  repeat' first | (with_reducible first | assumption | apply State.regangEnd_keeps | apply State.put_keeps | apply State.putStgX_keeps | apply State.regangDropStage_keeps | split | intro _) | assumption

theorem execPointSettled_keeps (b_lpe : B .lpe) (b_swy : B .swy) : ∃ t, execPointSettled x0 s = .next t ∧ Keeps B M s t := by
  refine ⟨_, rfl, ?_⟩
  have h : Keeps B M s s := Keeps.refl s
  try dsimp only
  repeat' first | (with_reducible first | assumption | apply State.stageTest_keeps | apply State.regangSet_keeps | split | intro _) | assumption

theorem State.putRise_keeps (h : Keeps B M z s) (b_swy : B .swy) : Keeps B M z (State.putRise s x1 x2) := by
  unfold State.putRise
  try dsimp only
  repeat' first | (with_reducible first | assumption | apply State.put_keeps | split | intro _) | assumption

theorem execHsshortDetect_keeps (b_swy : B .swy) (b_mem : B .mem) (b_evt : B .evt) (b_flt : B .flt) (b_tpl : B .tpl) (b_ttb : B .ttb) (b_rail : B .rail) (b_sup : B .sup) (b_ldg : B .ldg) (b_lpe : B .lpe) (b_lnk : B .lnk) (b_pol : B .pol) (hM : M) : ∃ t, execHsshortDetect x0 x1 s = .next t ∧ Keeps B M s t := by
  refine ⟨_, rfl, ?_⟩
  have h : Keeps B M s s := Keeps.refl s
  try dsimp only
  repeat' first | (with_reducible first | assumption | apply State.put_keeps | apply State.putRise_keeps | apply State.setFlag_keeps | apply State.openPoints_keeps | apply State.stageRest_keeps | apply State.raise_keeps | apply State.setFlagI_keeps | apply State.regangEnd_keeps | apply State.showExcluded_keeps | apply State.startFail_keeps | split | intro _) | assumption

theorem execTestWindowEnd_keeps (b_swy : B .swy) : ∃ t, execTestWindowEnd x0 x1 s = .next t ∧ Keeps B M s t := by
  refine ⟨_, rfl, ?_⟩
  have h : Keeps B M s s := Keeps.refl s
  try dsimp only
  repeat' first | (with_reducible first | assumption | apply State.put_keeps | apply State.putRise_keeps | apply State.regangSet_keeps | split | intro _) | assumption

theorem State.stageJoin_keeps (h : Keeps B M z s) (b_lpe : B .lpe) (b_swy : B .swy) : Keeps B M z (State.stageJoin s x1) := by
  unfold State.stageJoin
  try dsimp only
  repeat' first | (with_reducible first | assumption | apply State.unsettle_keeps | apply State.putStgX_keeps | apply State.put_keeps | split | intro _) | assumption

theorem execBootEnd_keeps (b_lpe : B .lpe) (b_swy : B .swy) (b_mem : B .mem) (b_evt : B .evt) (b_rail : B .rail) (hM : M) : ∃ t, execBootEnd x0 x1 s = .next t ∧ Keeps B M s t := by
  refine ⟨_, rfl, ?_⟩
  have h : Keeps B M s s := Keeps.refl s
  try dsimp only
  repeat' first | (with_reducible first | assumption | apply State.stageJoin_keeps | apply State.showExcluded_keeps | apply State.put_keeps | apply State.gangRuns_keeps | apply State.putStgX_keeps | split | intro _) | assumption

theorem execShareRampEnd_keeps (b_swy : B .swy) (b_ldg : B .ldg) : ∃ t, execShareRampEnd x0 s = .next t ∧ Keeps B M s t := by
  refine ⟨_, rfl, ?_⟩
  have h : Keeps B M s s := Keeps.refl s
  try dsimp only
  repeat' first | (with_reducible first | assumption | apply State.put_keeps | apply State.regangEnd_keeps | apply State.putStgX_keeps | split | intro _ | refine keeps_mk ?_ rfl rfl) | assumption

theorem State.leaveDone_keeps (h : Keeps B M z s) (b_swy : B .swy) (b_mem : B .mem) (b_evt : B .evt) (b_ldg : B .ldg) (b_lpe : B .lpe) (hM : M) : Keeps B M z (State.leaveDone s x1) := by
  unfold State.leaveDone
  try dsimp only
  repeat' first | (with_reducible first | assumption | apply State.stageRest_keeps | apply State.regangShedDone_keeps | apply State.stageOff_keeps | split | intro _) | assumption

theorem execLeaveCurrentZero_keeps (b_swy : B .swy) (b_mem : B .mem) (b_evt : B .evt) (b_ldg : B .ldg) (b_lpe : B .lpe) (hM : M) : ∃ t, execLeaveCurrentZero x0 s = .next t ∧ Keeps B M s t := by
  refine ⟨_, rfl, ?_⟩
  have h : Keeps B M s s := Keeps.refl s
  try dsimp only
  repeat' first | (with_reducible first | assumption | apply State.leaveDone_keeps | split | intro _) | assumption

theorem execLeaveTimeout_keeps (b_swy : B .swy) (b_mem : B .mem) (b_evt : B .evt) (b_ldg : B .ldg) (b_lpe : B .lpe) (hM : M) : ∃ t, execLeaveTimeout x0 s = .next t ∧ Keeps B M s t := by
  refine ⟨_, rfl, ?_⟩
  have h : Keeps B M s s := Keeps.refl s
  try dsimp only
  repeat' first | (with_reducible first | assumption | apply State.leaveDone_keeps | split | intro _) | assumption

theorem State.putTrim_keeps (h : Keeps B M z s) (b_swy : B .swy) : Keeps B M z (State.putTrim s x1 x2) := by
  unfold State.putTrim
  try dsimp only
  repeat' first | (with_reducible first | assumption | apply State.putStgX_keeps | apply State.put_keeps | split | intro _) | assumption

theorem State.wsMark_keeps (h : Keeps B M z s) : Keeps B M z (State.wsMark s x1 x2 x3) := by
  unfold State.wsMark
  try dsimp only
  repeat' first | (with_reducible first | assumption | apply State.message_keeps | split | intro _ | refine keeps_mk ?_ rfl rfl) | assumption

theorem State.wsAtLimit_keeps (h : Keeps B M z s) : Keeps B M z (State.wsAtLimit s x1 x2 x3) := by
  unfold State.wsAtLimit
  try dsimp only
  repeat' first | (with_reducible first | assumption | apply State.message_keeps | split | intro _ | refine keeps_mk ?_ rfl rfl) | assumption

theorem State.watershed_keeps (h : Keeps B M z s) (b_swy : B .swy) : Keeps B M z (State.watershed s x1) := by
  unfold State.watershed
  try dsimp only
  repeat' first | (with_reducible first | assumption | apply State.wsMark_keeps | apply State.wsAtLimit_keeps | apply State.putTrim_keeps | apply each_keeps | split | intro _) | assumption

theorem execWatershedTick_keeps (b_swy : B .swy) : ∃ t, execWatershedTick x0 s = .next t ∧ Keeps B M s t := by
  refine ⟨_, rfl, ?_⟩
  have h : Keeps B M s s := Keeps.refl s
  try dsimp only
  repeat' first | (with_reducible first | assumption | apply State.watershed_keeps | apply State.measure_keeps | apply each_keeps | split | intro _) | assumption

theorem State.drawRat_keeps (h : Keeps B M z s) : Keeps B M z (State.drawRat s).2 := by
  unfold State.drawRat
  try dsimp only
  repeat' first | (with_reducible first | assumption | apply State.draw_keeps | split | intro _) | assumption

theorem State.showIbat_keeps (h : Keeps B M z s) (b_bkp : B .bkp) : Keeps B M z (State.showIbat s x1) := by
  unfold State.showIbat
  try dsimp only
  repeat' first | (with_reducible first | assumption | apply State.put_keeps | split | intro _) | assumption

theorem State.feedback_keeps (h : Keeps B M z s) : Keeps B M z (State.feedback s x1).2 := by
  unfold State.feedback
  try dsimp only
  repeat' first | (with_reducible first | assumption | apply State.draw_keeps | split | intro _) | assumption

theorem State.agree_keeps (h : Keeps B M z s) (b_xng : B .xng) : Keeps B M z (State.agree s x1 x2) := by
  unfold State.agree
  try dsimp only
  repeat' first | (with_reducible first | assumption | apply State.draw_keeps | apply State.addSat_keeps | split | intro _ | refine keeps_mk ?_ rfl rfl) | assumption

theorem State.reference_keeps (h : Keeps B M z s) : Keeps B M z (State.reference s x1).2 := by
  unfold State.reference
  try dsimp only
  repeat' first | (with_reducible first | assumption | apply State.draw_keeps | split | intro _) | assumption

theorem State.zeroSlot_keeps (h : Keeps B M z s) : Keeps B M z (State.zeroSlot s x1) := by
  unfold State.zeroSlot
  try dsimp only
  repeat' first | (with_reducible first | assumption | apply State.putDest_keeps | apply State.clearSections_keeps | apply State.putLoopX_keeps | split | intro _) | assumption

theorem State.chargerLoops_keeps (h : Keeps B M z s) : Keeps B M z (State.chargerLoops s) := by
  unfold State.chargerLoops
  try dsimp only
  repeat' first | (with_reducible first | assumption | apply State.putLoopX_keeps | apply State.zeroSlot_keeps | apply each_keeps | split | intro _) | assumption

theorem State.hostRailOn_keeps (h : Keeps B M z s) (b_mem : B .mem) (b_evt : B .evt) (b_rail : B .rail) (b_pwr : B .pwr) (b_sup : B .sup) (b_flt : B .flt) (b_tpl : B .tpl) (b_ttb : B .ttb) (b_swy : B .swy) (b_ldg : B .ldg) (b_lpe : B .lpe) (b_lnk : B .lnk) (b_pol : B .pol) (hM : M) : Keeps B M z (State.hostRailOn s x1) := by
  unfold State.hostRailOn
  try dsimp only
  repeat' first | (with_reducible first | assumption | apply State.setFlag_keeps | apply State.railOn_keeps | apply State.unshed_keeps | split | intro _) | assumption

theorem State.hostGroupOn_keeps (h : Keeps B M z s) (b_mem : B .mem) (b_evt : B .evt) (b_ttb : B .ttb) (b_pwr : B .pwr) (b_rail : B .rail) (b_swy : B .swy) (b_sup : B .sup) (b_ldg : B .ldg) (b_lpe : B .lpe) (b_flt : B .flt) (b_tpl : B .tpl) (b_lnk : B .lnk) (b_pol : B .pol) (hM : M) : Keeps B M z (State.hostGroupOn s x1) := by
  unfold State.hostGroupOn
  try dsimp only
  repeat' first | (with_reducible first | assumption | apply State.groupOn_keeps | apply State.unshed_keeps | apply each_keeps | split | intro _) | assumption

theorem State.hostRailOff_keeps (h : Keeps B M z s) (b_mem : B .mem) (b_evt : B .evt) (b_rail : B .rail) (b_swy : B .swy) (b_ttb : B .ttb) (b_sup : B .sup) (b_ldg : B .ldg) (b_lpe : B .lpe) (hM : M) : Keeps B M z (State.hostRailOff s x1) := by
  unfold State.hostRailOff
  try dsimp only
  repeat' first | (with_reducible first | assumption | apply State.setFlag_keeps | apply State.railOff_keeps | split | intro _) | assumption

theorem State.wrRailCtl_keeps (h : Keeps B M z s) (b_rail : B .rail) (b_mem : B .mem) (b_evt : B .evt) (b_pwr : B .pwr) (b_sup : B .sup) (b_flt : B .flt) (b_tpl : B .tpl) (b_ttb : B .ttb) (b_swy : B .swy) (b_ldg : B .ldg) (b_lpe : B .lpe) (b_lnk : B .lnk) (b_pol : B .pol) (hM : M) : Keeps B M z (State.wrRailCtl s x1 x2) := by
  unfold State.wrRailCtl
  try dsimp only
  repeat' first | (with_reducible first | assumption | apply State.writeRw_keeps | apply State.hostRailOn_keeps | apply State.hostRailOff_keeps | split | intro _) | assumption

theorem State.wrVset_keeps (h : Keeps B M z s) (b_rail : B .rail) (b_lpe : B .lpe) : Keeps B M z (State.wrVset s x1 x2) := by
  unfold State.wrVset
  try dsimp only
  repeat' first | (with_reducible first | assumption | apply State.writeRw_keeps | apply State.rampToVset_keeps | split | intro _) | assumption

theorem State.wrRamp_keeps (h : Keeps B M z s) (bx1 : B x1.block) : Keeps B M z (State.wrRamp s x1 x2) := by
  unfold State.wrRamp
  try dsimp only
  repeat' first | (with_reducible first | assumption | apply State.writeRw_keeps | split | intro _) | assumption

theorem State.wrDis_keeps (h : Keeps B M z s) (b_rail : B .rail) : Keeps B M z (State.wrDis s x1 x2) := by
  unfold State.wrDis
  try dsimp only
  repeat' first | (with_reducible first | assumption | apply State.writeRw_keeps | split | intro _) | assumption

theorem State.holdRequest_keeps (h : Keeps B M z s) (b_ttb : B .ttb) : Keeps B M z (State.holdRequest s x1 x2) := by
  unfold State.holdRequest
  try dsimp only
  repeat' first | (with_reducible first | assumption | apply State.put_keeps | split | intro _ | refine keeps_mk ?_ rfl rfl) | assumption

theorem State.hostGroup_keeps (h : Keeps B M z s) (b_mem : B .mem) (b_evt : B .evt) (b_ttb : B .ttb) (b_pwr : B .pwr) (b_rail : B .rail) (b_swy : B .swy) (b_sup : B .sup) (b_ldg : B .ldg) (b_lpe : B .lpe) (b_flt : B .flt) (b_tpl : B .tpl) (b_lnk : B .lnk) (b_pol : B .pol) (hM : M) : Keeps B M z (State.hostGroup s x1 x2) := by
  unfold State.hostGroup
  try dsimp only
  repeat' first | (with_reducible first | assumption | apply State.setFlag_keeps | apply State.holdRequest_keeps | apply State.hostGroupOn_keeps | apply State.groupOff_keeps | split | intro _) | assumption

theorem State.dropRequests_keeps (h : Keeps B M z s) (b_ttb : B .ttb) : Keeps B M z (State.dropRequests s x1) := by
  unfold State.dropRequests
  try dsimp only
  repeat' first | (with_reducible first | assumption | apply State.put_keeps | apply each_keeps | split | intro _ | refine keeps_mk ?_ rfl rfl) | assumption

theorem State.wrGroupCtl_keeps (h : Keeps B M z s) (b_mem : B .mem) (b_evt : B .evt) (b_ttb : B .ttb) (b_pwr : B .pwr) (b_rail : B .rail) (b_swy : B .swy) (b_sup : B .sup) (b_ldg : B .ldg) (b_lpe : B .lpe) (b_flt : B .flt) (b_tpl : B .tpl) (b_lnk : B .lnk) (b_pol : B .pol) (hM : M) : Keeps B M z (State.wrGroupCtl s x1 x2) := by
  unfold State.wrGroupCtl
  try dsimp only
  repeat' first | (with_reducible first | assumption | apply State.hostGroup_keeps | split | intro _) | assumption

theorem State.markUnnamed_keeps (h : Keeps B M z s) (b_ttb : B .ttb) : Keeps B M z (State.markUnnamed s) := by
  unfold State.markUnnamed
  try dsimp only
  repeat' first | (with_reducible first | assumption | apply State.putBit_keeps | apply each_keeps | split | intro _) | assumption

theorem State.wrStep_keeps (h : Keeps B M z s) (b_ttb : B .ttb) (b_mem : B .mem) (b_evt : B .evt) (hM : M) : Keeps B M z (State.wrStep s x1 x2 x3) := by
  unfold State.wrStep
  try dsimp only
  repeat' first | (with_reducible first | assumption | apply State.wr_keeps | apply State.setFlag_keeps | apply State.markUnnamed_keeps | split | intro _) | assumption

theorem State.wrRstCfg_keeps (h : Keeps B M z s) (b_ttb : B .ttb) : Keeps B M z (State.wrRstCfg s x1 x2) := by
  unfold State.wrRstCfg
  try dsimp only
  repeat' first | (with_reducible first | assumption | apply State.writeRw_keeps | split | intro _) | assumption

theorem State.wrBout_keeps (h : Keeps B M z s) (b_ttb : B .ttb) : Keeps B M z (State.wrBout s x1) := by
  unfold State.wrBout
  try dsimp only
  repeat' first | (with_reducible first | assumption | apply State.writeRw_keeps | split | intro _) | assumption

theorem State.wrMinoff_keeps (h : Keeps B M z s) (b_ttb : B .ttb) : Keeps B M z (State.wrMinoff s x1) := by
  unfold State.wrMinoff
  try dsimp only
  repeat' first | (with_reducible first | assumption | apply State.writeRw_keeps | split | intro _) | assumption

theorem State.wrFirst_keeps (h : Keeps B M z s) (b_ttb : B .ttb) : Keeps B M z (State.wrFirst s x1) := by
  unfold State.wrFirst
  try dsimp only
  repeat' first | (with_reducible first | assumption | apply State.put_keeps | apply State.putBit_keeps | split | intro _) | assumption

theorem State.wrSupCfg_keeps (h : Keeps B M z s) (b_sup : B .sup) : Keeps B M z (State.wrSupCfg s x1 x2) := by
  unfold State.wrSupCfg
  try dsimp only
  repeat' first | (with_reducible first | assumption | apply State.writeRw_keeps | split | intro _) | assumption

theorem State.wrSupFlag_keeps (h : Keeps B M z s) (b_mem : B .mem) (b_evt : B .evt) (b_sup : B .sup) (hM : M) : Keeps B M z (State.wrSupFlag s x1 x2) := by
  unfold State.wrSupFlag
  try dsimp only
  repeat' first | (with_reducible first | assumption | apply State.clearFlagsBut_keeps | split | intro _) | assumption

theorem execRailOnRequest_keeps (b_mem : B .mem) (b_evt : B .evt) (b_rail : B .rail) (b_pwr : B .pwr) (b_sup : B .sup) (b_flt : B .flt) (b_tpl : B .tpl) (b_ttb : B .ttb) (b_swy : B .swy) (b_ldg : B .ldg) (b_lpe : B .lpe) (b_lnk : B .lnk) (b_pol : B .pol) (hM : M) : ∃ t, execRailOnRequest x0 x1 s = .next t ∧ Keeps B M s t := by
  refine ⟨_, rfl, ?_⟩
  have h : Keeps B M s s := Keeps.refl s
  try dsimp only
  repeat' first | (with_reducible first | assumption | apply State.guardWrite_keeps | apply State.hostRailOn_keeps | split | intro _) | assumption

theorem execRailOffRequest_keeps (b_mem : B .mem) (b_evt : B .evt) (b_rail : B .rail) (b_swy : B .swy) (b_ttb : B .ttb) (b_sup : B .sup) (b_ldg : B .ldg) (b_lpe : B .lpe) (hM : M) : ∃ t, execRailOffRequest x0 x1 s = .next t ∧ Keeps B M s t := by
  refine ⟨_, rfl, ?_⟩
  have h : Keeps B M s s := Keeps.refl s
  try dsimp only
  repeat' first | (with_reducible first | assumption | apply State.guardWrite_keeps | apply State.hostRailOff_keeps | split | intro _) | assumption

theorem execVsetWrite_keeps (b_mem : B .mem) (b_evt : B .evt) (b_rail : B .rail) (b_lpe : B .lpe) (hM : M) : ∃ t, execVsetWrite x0 x1 x2 x3 s = .next t ∧ Keeps B M s t := by
  refine ⟨_, rfl, ?_⟩
  have h : Keeps B M s s := Keeps.refl s
  try dsimp only
  repeat' first | (with_reducible first | assumption | apply State.guardWrite_keeps | apply State.wrVset_keeps | split | intro _) | assumption

theorem State.guardGroup_keeps (h : Keeps B M z s) (b_mem : B .mem) (b_evt : B .evt) (hM : M) (hx1 : ∀ s, Keeps B M z s → Keeps B M z (x1 s)) : Keeps B M z (State.guardGroup s x1) := by
  unfold State.guardGroup
  try dsimp only
  repeat' first | (with_reducible first | assumption | apply hx1 | apply State.accessOff_keeps | split | intro _) | assumption

theorem execGroupOnRequest_keeps (b_mem : B .mem) (b_evt : B .evt) (b_ttb : B .ttb) (b_pwr : B .pwr) (b_rail : B .rail) (b_swy : B .swy) (b_sup : B .sup) (b_ldg : B .ldg) (b_lpe : B .lpe) (b_flt : B .flt) (b_tpl : B .tpl) (b_lnk : B .lnk) (b_pol : B .pol) (hM : M) : ∃ t, execGroupOnRequest x0 x1 s = .next t ∧ Keeps B M s t := by
  refine ⟨_, rfl, ?_⟩
  have h : Keeps B M s s := Keeps.refl s
  try dsimp only
  repeat' first | (with_reducible first | assumption | apply State.guardGroup_keeps | apply State.hostGroup_keeps | split | intro _) | assumption

theorem execGroupOffRequest_keeps (b_mem : B .mem) (b_evt : B .evt) (b_ttb : B .ttb) (b_pwr : B .pwr) (b_rail : B .rail) (b_swy : B .swy) (b_sup : B .sup) (b_ldg : B .ldg) (b_lpe : B .lpe) (b_flt : B .flt) (b_tpl : B .tpl) (b_lnk : B .lnk) (b_pol : B .pol) (hM : M) : ∃ t, execGroupOffRequest x0 x1 s = .next t ∧ Keeps B M s t := by
  refine ⟨_, rfl, ?_⟩
  have h : Keeps B M s s := Keeps.refl s
  try dsimp only
  repeat' first | (with_reducible first | assumption | apply State.guardGroup_keeps | apply State.hostGroup_keeps | split | intro _) | assumption

theorem execStepWrite_keeps (b_mem : B .mem) (b_evt : B .evt) (b_ttb : B .ttb) (hM : M) : ∃ t, execStepWrite x0 x1 x2 x3 x4 s = .next t ∧ Keeps B M s t := by
  refine ⟨_, rfl, ?_⟩
  have h : Keeps B M s s := Keeps.refl s
  try dsimp only
  repeat' first | (with_reducible first | assumption | apply State.guardWrite_keeps | apply State.wrStep_keeps | split | intro _) | assumption

theorem execTtbBoutWrite_keeps (b_mem : B .mem) (b_evt : B .evt) (b_ttb : B .ttb) (hM : M) : ∃ t, execTtbBoutWrite x0 x1 x2 s = .next t ∧ Keeps B M s t := by
  refine ⟨_, rfl, ?_⟩
  have h : Keeps B M s s := Keeps.refl s
  try dsimp only
  repeat' first | (with_reducible first | assumption | apply State.guardWrite_keeps | apply State.wrBout_keeps | split | intro _) | assumption

theorem execOnDelayEnd_keeps (b_rail : B .rail) (b_ttb : B .ttb) (b_mem : B .mem) (b_evt : B .evt) (b_ldg : B .ldg) (b_swy : B .swy) (b_sup : B .sup) (b_lpe : B .lpe) (b_flt : B .flt) (b_tpl : B .tpl) (b_lnk : B .lnk) (hM : M) : ∃ t, execOnDelayEnd x0 x1 s = .next t ∧ Keeps B M s t := by
  refine ⟨_, rfl, ?_⟩
  have h : Keeps B M s s := Keeps.refl s
  try dsimp only
  repeat' first | (with_reducible first | assumption | apply State.railEnterStart_keeps | split | intro _) | assumption

theorem execOffDelayEnd_keeps (b_ldg : B .ldg) (b_swy : B .swy) (b_mem : B .mem) (b_evt : B .evt) (b_lpe : B .lpe) (b_rail : B .rail) (b_ttb : B .ttb) (b_sup : B .sup) (hM : M) : ∃ t, execOffDelayEnd x0 s = .next t ∧ Keeps B M s t := by
  refine ⟨_, rfl, ?_⟩
  have h : Keeps B M s s := Keeps.refl s
  try dsimp only
  repeat' first | (with_reducible first | assumption | apply State.rampDown_keeps | split | intro _) | assumption

theorem execSetpointReached_keeps (b_rail : B .rail) : ∃ t, execSetpointReached x0 s = .next t ∧ Keeps B M s t := by
  refine ⟨_, rfl, ?_⟩
  have h : Keeps B M s s := Keeps.refl s
  try dsimp only
  repeat' first | (with_reducible first | assumption | apply State.stopRamp_keeps | apply State.put_keeps | apply State.setRail_keeps | split | intro _) | assumption

theorem execDischargeDone_keeps (b_mem : B .mem) (b_evt : B .evt) (b_rail : B .rail) (b_pwr : B .pwr) (b_sup : B .sup) (b_flt : B .flt) (b_tpl : B .tpl) (b_ttb : B .ttb) (b_swy : B .swy) (b_ldg : B .ldg) (b_lpe : B .lpe) (b_lnk : B .lnk) (hM : M) : ∃ t, execDischargeDone x0 s = .next t ∧ Keeps B M s t := by
  refine ⟨_, rfl, ?_⟩
  have h : Keeps B M s s := Keeps.refl s
  try dsimp only
  repeat' first | (with_reducible first | assumption | apply State.runHeld_keeps | apply State.railToOff_keeps | split | intro _) | assumption

theorem execDischargeTimeout_keeps (b_ttb : B .ttb) (b_mem : B .mem) (b_evt : B .evt) (b_ldg : B .ldg) (b_rail : B .rail) (b_pwr : B .pwr) (b_sup : B .sup) (b_flt : B .flt) (b_tpl : B .tpl) (b_swy : B .swy) (b_lpe : B .lpe) (b_lnk : B .lnk) (hM : M) : ∃ t, execDischargeTimeout x0 x1 s = .next t ∧ Keeps B M s t := by
  refine ⟨_, rfl, ?_⟩
  have h : Keeps B M s s := Keeps.refl s
  try dsimp only
  repeat' first | (with_reducible first | assumption | apply State.railFailure_keeps | apply State.logRec_keeps | apply State.setFlag_keeps | apply State.runHeld_keeps | apply State.raise_keeps | apply State.railToOff_keeps | split | intro _ | refine keeps_mk ?_ rfl rfl) | assumption

theorem execStartTimeout_keeps (b_ttb : B .ttb) (b_mem : B .mem) (b_evt : B .evt) (b_ldg : B .ldg) (b_rail : B .rail) (b_swy : B .swy) (b_sup : B .sup) (b_lpe : B .lpe) (b_flt : B .flt) (b_tpl : B .tpl) (b_lnk : B .lnk) (hM : M) : ∃ t, execStartTimeout x0 s = .next t ∧ Keeps B M s t := by
  refine ⟨_, rfl, ?_⟩
  have h : Keeps B M s s := Keeps.refl s
  try dsimp only
  repeat' first | (with_reducible first | assumption | apply State.startFail_keeps | split | intro _) | assumption

theorem execPgAssert_keeps (b_mem : B .mem) (b_evt : B .evt) (b_rail : B .rail) (b_sup : B .sup) (b_flt : B .flt) (b_tpl : B .tpl) (b_ttb : B .ttb) (b_swy : B .swy) (b_ldg : B .ldg) (b_lpe : B .lpe) (b_lnk : B .lnk) (hM : M) : ∃ t, execPgAssert x0 s = .next t ∧ Keeps B M s t := by
  refine ⟨_, rfl, ?_⟩
  have h : Keeps B M s s := Keeps.refl s
  try dsimp only
  repeat' first | (with_reducible first | assumption | apply State.condRise_keeps | apply State.putBit_keeps | apply State.armUv_keeps | split | intro _ | refine keeps_mk ?_ rfl rfl) | assumption

theorem execStepHoldEnd_keeps (b_ttb : B .ttb) (b_mem : B .mem) (b_evt : B .evt) (b_rail : B .rail) (b_swy : B .swy) (b_sup : B .sup) (b_ldg : B .ldg) (b_lpe : B .lpe) (b_pwr : B .pwr) (b_flt : B .flt) (b_tpl : B .tpl) (b_lnk : B .lnk) (hM : M) : ∃ t, execStepHoldEnd x0 s = .next t ∧ Keeps B M s t := by
  refine ⟨_, rfl, ?_⟩
  have h : Keeps B M s s := Keeps.refl s
  try dsimp only
  repeat' first | (with_reducible first | assumption | apply State.stepNext_keeps | split | intro _) | assumption

theorem State.groupOffBout_keeps (h : Keeps B M z s) (b_ttb : B .ttb) (b_mem : B .mem) (b_evt : B .evt) (b_rail : B .rail) (b_swy : B .swy) (b_sup : B .sup) (b_ldg : B .ldg) (b_lpe : B .lpe) (hM : M) : Keeps B M z (State.groupOffBout s x1) := by
  unfold State.groupOffBout
  try dsimp only
  repeat' first | (with_reducible first | assumption | apply State.groupOffLater_keeps | apply State.put_keeps | split | intro _) | assumption

theorem State.boutFast_keeps (h : Keeps B M z s) (b_ldg : B .ldg) (b_swy : B .swy) (b_mem : B .mem) (b_evt : B .evt) (b_lpe : B .lpe) (b_rail : B .rail) (b_ttb : B .ttb) (b_sup : B .sup) (hM : M) : Keeps B M z (State.boutFast s x1) := by
  unfold State.boutFast
  try dsimp only
  repeat' first | (with_reducible first | assumption | apply State.rampDown_keeps | apply each_keeps | split | intro _) | assumption

theorem State.vinRose_keeps (h : Keeps B M z s) : Keeps B M z (State.vinRose s) := by
  unfold State.vinRose
  try dsimp only
  repeat' first | (with_reducible first | assumption | split | intro _ | refine keeps_mk ?_ rfl rfl) | assumption

theorem State.vinSeen_keeps (h : Keeps B M z s) : Keeps B M z (State.vinSeen s) := by
  unfold State.vinSeen
  try dsimp only
  repeat' first | (with_reducible first | assumption | apply State.vinRose_keeps | split | intro _ | refine keeps_mk ?_ rfl rfl) | assumption

theorem execBoutStart_keeps (b_ldg : B .ldg) (b_swy : B .swy) (b_mem : B .mem) (b_evt : B .evt) (b_tpl : B .tpl) (b_ttb : B .ttb) (b_rail : B .rail) (b_sup : B .sup) (b_lpe : B .lpe) (hM : M) : ∃ t, execBoutStart x0 s = .next t ∧ Keeps B M s t := by
  refine ⟨_, rfl, ?_⟩
  have h : Keeps B M s s := Keeps.refl s
  try dsimp only
  repeat' first | (with_reducible first | assumption | apply State.vinSeen_keeps | apply State.regangDown_keeps | apply State.reloadAbort_keeps | apply State.addSat_keeps | apply State.putBit_keeps | apply State.put_keeps | apply State.groupOffBout_keeps | apply State.dropRequests_keeps | apply State.railOffLater_keeps | apply State.boutFast_keeps | apply State.boutCheck_keeps | apply State.happen_keeps | apply each_keeps | split | intro _ | refine keeps_mk ?_ rfl rfl) | assumption

theorem execMinoffEnd_keeps (b_mem : B .mem) (b_evt : B .evt) (b_ttb : B .ttb) (b_pwr : B .pwr) (b_rail : B .rail) (b_swy : B .swy) (b_sup : B .sup) (b_ldg : B .ldg) (b_lpe : B .lpe) (b_flt : B .flt) (b_tpl : B .tpl) (b_lnk : B .lnk) (hM : M) : ∃ t, execMinoffEnd s = .next t ∧ Keeps B M s t := by
  refine ⟨_, rfl, ?_⟩
  have h : Keeps B M s s := Keeps.refl s
  try dsimp only
  repeat' first | (with_reducible first | assumption | apply State.boutRestart_keeps | apply State.putBit_keeps | split | intro _) | assumption

theorem execVinQualified_keeps (b_ttb : B .ttb) (b_mem : B .mem) (b_evt : B .evt) (b_pwr : B .pwr) (b_rail : B .rail) (b_swy : B .swy) (b_sup : B .sup) (b_ldg : B .ldg) (b_lpe : B .lpe) (b_flt : B .flt) (b_tpl : B .tpl) (b_lnk : B .lnk) (hM : M) : ∃ t, execVinQualified s = .next t ∧ Keeps B M s t := by
  refine ⟨_, rfl, ?_⟩
  have h : Keeps B M s s := Keeps.refl s
  try dsimp only
  repeat' first | (with_reducible first | assumption | apply State.vinRose_keeps | apply State.putBit_keeps | apply State.boutRestart_keeps | split | intro _ | refine keeps_mk ?_ rfl rfl) | assumption

theorem execVinBelowVon_keeps (b_ttb : B .ttb) : ∃ t, execVinBelowVon x0 s = .next t ∧ Keeps B M s t := by
  refine ⟨_, rfl, ?_⟩
  have h : Keeps B M s s := Keeps.refl s
  try dsimp only
  repeat' first | (with_reducible first | assumption | apply State.vinSeen_keeps | apply State.vinRose_keeps | apply State.putBit_keeps | split | intro _) | assumption

theorem execOvCrossing_keeps (b_mem : B .mem) (b_evt : B .evt) (b_rail : B .rail) (b_ttb : B .ttb) (b_flt : B .flt) (b_sup : B .sup) (b_tpl : B .tpl) (b_swy : B .swy) (b_ldg : B .ldg) (b_lpe : B .lpe) (b_lnk : B .lnk) (hM : M) : ∃ t, execOvCrossing x0 s = .next t ∧ Keeps B M s t := by
  refine ⟨_, rfl, ?_⟩
  have h : Keeps B M s s := Keeps.refl s
  try dsimp only
  repeat' first | (with_reducible first | assumption | apply State.pgLow_keeps | apply State.live_keeps | apply State.put_keeps | apply State.ovFires_keeps | split | intro _) | assumption

theorem execUvCrossing_keeps (b_flt : B .flt) (b_sup : B .sup) (b_tpl : B .tpl) (b_mem : B .mem) (b_evt : B .evt) (b_ttb : B .ttb) (b_rail : B .rail) (b_swy : B .swy) (b_ldg : B .ldg) (b_lpe : B .lpe) (b_lnk : B .lnk) (hM : M) : ∃ t, execUvCrossing x0 s = .next t ∧ Keeps B M s t := by
  refine ⟨_, rfl, ?_⟩
  have h : Keeps B M s s := Keeps.refl s
  try dsimp only
  repeat' first | (with_reducible first | assumption | apply State.live_keeps | apply State.put_keeps | apply State.uvFires_keeps | split | intro _) | assumption

theorem execCrossingEnd_keeps (b_flt : B .flt) (b_sup : B .sup) : ∃ t, execCrossingEnd x0 x1 s = .next t ∧ Keeps B M s t := by
  refine ⟨_, rfl, ?_⟩
  have h : Keeps B M s s := Keeps.refl s
  try dsimp only
  repeat' first | (with_reducible first | assumption | apply State.live_keeps | apply State.put_keeps | split | intro _) | assumption

theorem execResetRelease_keeps (b_ttb : B .ttb) : ∃ t, execResetRelease x0 s = .next t ∧ Keeps B M s t := by
  refine ⟨_, rfl, ?_⟩
  have h : Keeps B M s s := Keeps.refl s
  try dsimp only
  repeat' first | (with_reducible first | assumption | apply State.putBit_keeps | split | intro _) | assumption

theorem State.late_keeps (h : Keeps B M z s) (b_flt : B .flt) (b_tpl : B .tpl) (b_mem : B .mem) (b_evt : B .evt) (b_ttb : B .ttb) (b_rail : B .rail) (b_swy : B .swy) (b_sup : B .sup) (b_ldg : B .ldg) (b_lpe : B .lpe) (b_lnk : B .lnk) (hM : M) : Keeps B M z (State.late s x1) := by
  unfold State.late
  try dsimp only
  repeat' first | (with_reducible first | assumption | apply State.putLoopX_keeps | apply State.raise_keeps | apply State.setFlag_keeps | apply State.addSat_keeps | split | intro _) | assumption

theorem State.putEngX_keeps (h : Keeps B M z s) : Keeps B M z (State.putEngX s x1 x2) := by
  unfold State.putEngX
  try dsimp only
  repeat' first | (with_reducible first | assumption | split | intro _ | refine keeps_mk ?_ rfl rfl) | assumption

theorem State.setPrate_keeps (h : Keeps B M z s) (b_lpe : B .lpe) : Keeps B M z (State.setPrate s x1 x2) := by
  unfold State.setPrate
  try dsimp only
  repeat' first | (with_reducible first | assumption | apply State.put_keeps | apply State.putLoopX_keeps | split | intro _) | assumption

theorem State.atTrigger_keeps (h : Keeps B M z s) (b_lpe : B .lpe) : Keeps B M z (State.atTrigger s x1) := by
  unfold State.atTrigger
  try dsimp only
  repeat' first | (with_reducible first | assumption | apply State.putLoopX_keeps | apply State.setPrate_keeps | split | intro _) | assumption

theorem State.startSample_keeps (h : Keeps B M z s) (b_xng : B .xng) : Keeps B M z (State.startSample s x1) := by
  unfold State.startSample
  try dsimp only
  repeat' first | (with_reducible first | assumption | apply State.feedback_keeps | apply State.reference_keeps | apply State.agree_keeps | apply State.putLoopX_keeps | split | intro _) | assumption

theorem execLoopSampleTrigger_keeps (b_flt : B .flt) (b_tpl : B .tpl) (b_mem : B .mem) (b_evt : B .evt) (b_ttb : B .ttb) (b_rail : B .rail) (b_swy : B .swy) (b_sup : B .sup) (b_ldg : B .ldg) (b_lpe : B .lpe) (b_lnk : B .lnk) (b_xng : B .xng) (hM : M) : ∃ t, execLoopSampleTrigger x0 s = .next t ∧ Keeps B M s t := by
  refine ⟨_, rfl, ?_⟩
  have h : Keeps B M s s := Keeps.refl s
  try dsimp only
  repeat' first | (with_reducible first | assumption | apply State.late_keeps | apply State.startSample_keeps | apply State.atTrigger_keeps | apply State.zeroSlot_keeps | split | intro _) | assumption

theorem State.chanV_keeps (h : Keeps B M z s) : Keeps B M z (State.chanV s x1).2 := by
  unfold State.chanV
  try dsimp only
  repeat' first | (with_reducible first | assumption | apply State.drawRat_keeps | split | intro _) | assumption

theorem State.plantV_keeps (h : Keeps B M z s) : Keeps B M z (State.plantV s x1 x2).2 := by
  unfold State.plantV
  try dsimp only
  repeat' first | (with_reducible first | assumption | apply State.chanV_keeps | apply State.drawRat_keeps | split | intro _) | assumption

theorem State.modelStep_keeps (h : Keeps B M z s) (b_lpe : B .lpe) : Keeps B M z (State.modelStep s x1 x2 x3 x4 x5 x6) := by
  unfold State.modelStep
  try dsimp only
  repeat' first | (with_reducible first | assumption | apply State.putLoopX_keeps | apply State.put_keeps | split | intro _) | assumption

theorem State.watchSample_keeps (h : Keeps B M z s) (b_lpe : B .lpe) : Keeps B M z (State.watchSample s x1 x2 x3) := by
  unfold State.watchSample
  try dsimp only
  repeat' first | (with_reducible first | assumption | apply State.plantV_keeps | apply State.putLoopX_keeps | apply State.modelStep_keeps | apply State.drawRat_keeps | apply State.put_keeps | split | intro _) | assumption

theorem State.cascadeIn_keeps (h : Keeps B M z s) : Keeps B M z (State.cascadeIn s x1).2 := by
  unfold State.cascadeIn
  try dsimp only
  repeat' first | (with_reducible first | assumption | apply State.draw_keeps | split | intro _) | assumption

theorem State.sampleDone_keeps (h : Keeps B M z s) (b_mem : B .mem) (b_evt : B .evt) (b_lpe : B .lpe) (hM : M) : Keeps B M z (State.sampleDone s x1 x2 x3) := by
  unfold State.sampleDone
  try dsimp only
  repeat' first | (with_reducible first | assumption | apply State.cascadeIn_keeps | apply State.putLoopX_keeps | apply State.putDest_keeps | apply State.setFlag_keeps | apply State.watchSample_keeps | apply foldl_keeps | split | intro _ | refine keeps_mk ?_ rfl rfl) | assumption

theorem execLoopSampleDone_keeps (b_mem : B .mem) (b_evt : B .evt) (b_lpe : B .lpe) (hM : M) : ∃ t, execLoopSampleDone x0 x1 s = .next t ∧ Keeps B M s t := by
  refine ⟨_, rfl, ?_⟩
  have h : Keeps B M s s := Keeps.refl s
  try dsimp only
  repeat' first | (with_reducible first | assumption | apply State.sampleDone_keeps | split | intro _) | assumption

theorem State.showSlack_keeps (h : Keeps B M z s) (b_lpe : B .lpe) : Keeps B M z (State.showSlack s x1 x2) := by
  unfold State.showSlack
  try dsimp only
  repeat' first | (with_reducible first | assumption | apply State.put_keeps | apply State.draw_keeps | split | intro _) | assumption

theorem State.shedOne_keeps (h : Keeps B M z s) (b_mem : B .mem) (b_evt : B .evt) (b_lpe : B .lpe) (hM : M) : Keeps B M z (State.shedOne s x1) := by
  unfold State.shedOne
  try dsimp only
  repeat' first | (with_reducible first | assumption | apply State.putEngX_keeps | apply State.putLoopX_keeps | apply State.message_keeps | apply State.setFlag_keeps | split | intro _) | assumption

theorem execTempoWindowEnd_keeps (b_lpe : B .lpe) (b_mem : B .mem) (b_evt : B .evt) (hM : M) : ∃ t, execTempoWindowEnd x0 x1 s = .next t ∧ Keeps B M s t := by
  refine ⟨_, rfl, ?_⟩
  have h : Keeps B M s s := Keeps.refl s
  try dsimp only
  repeat' first | (with_reducible first | assumption | apply State.putEngX_keeps | apply State.put_keeps | apply State.setFlag_keeps | apply State.draw_keeps | apply State.showSlack_keeps | apply State.shedOne_keeps | split | intro _) | assumption

theorem execLoopRestored_keeps (b_lpe : B .lpe) : ∃ t, execLoopRestored x0 s = .next t ∧ Keeps B M s t := by
  refine ⟨_, rfl, ?_⟩
  have h : Keeps B M s s := Keeps.refl s
  try dsimp only
  repeat' first | (with_reducible first | assumption | apply State.putLoopX_keeps | apply State.setPrate_keeps | apply State.message_keeps | apply State.putEngX_keeps | split | intro _) | assumption

theorem State.wrLpeState_keeps (h : Keeps B M z s) (b_lpe : B .lpe) : Keeps B M z (State.wrLpeState s x1 x2) := by
  unfold State.wrLpeState
  try dsimp only
  repeat' first | (with_reducible first | assumption | apply State.put_keeps | split | intro _) | assumption

theorem execRminReset_keeps (b_mem : B .mem) (b_evt : B .evt) (b_lpe : B .lpe) (hM : M) : ∃ t, execRminReset x0 x1 s = .next t ∧ Keeps B M s t := by
  refine ⟨_, rfl, ?_⟩
  have h : Keeps B M s s := Keeps.refl s
  try dsimp only
  repeat' first | (with_reducible first | assumption | apply State.guardWrite_keeps | apply State.wrLpeState_keeps | split | intro _) | assumption

theorem State.wrLpeShed_keeps (h : Keeps B M z s) (b_lpe : B .lpe) : Keeps B M z (State.wrLpeShed s x1 x2) := by
  unfold State.wrLpeShed
  try dsimp only
  repeat' first | (with_reducible first | assumption | apply State.writeRw_keeps | split | intro _) | assumption

theorem State.wrLpeFlag_keeps (h : Keeps B M z s) (b_mem : B .mem) (b_evt : B .evt) (b_lpe : B .lpe) (hM : M) : Keeps B M z (State.wrLpeFlag s x1 x2) := by
  unfold State.wrLpeFlag
  try dsimp only
  repeat' first | (with_reducible first | assumption | apply State.clearFlagsBut_keeps | split | intro _) | assumption

theorem execLpeShedWrite_keeps (b_mem : B .mem) (b_evt : B .evt) (b_lpe : B .lpe) (hM : M) : ∃ t, execLpeShedWrite x0 x1 x2 x3 s = .next t ∧ Keeps B M s t := by
  refine ⟨_, rfl, ?_⟩
  have h : Keeps B M s s := Keeps.refl s
  try dsimp only
  repeat' first | (with_reducible first | assumption | apply State.guardWrite_keeps | apply State.wrLpeShed_keeps | split | intro _) | assumption

theorem State.openSlot_keeps (h : Keeps B M z s) (b_lpe : B .lpe) : Keeps B M z (State.openSlot s x1 x2) := by
  unfold State.openSlot
  try dsimp only
  repeat' first | (with_reducible first | assumption | apply State.put_keeps | apply State.putLoopX_keeps | split | intro _) | assumption

theorem State.cfgRateNow_keeps (h : Keeps B M z s) (b_lpe : B .lpe) : Keeps B M z (State.cfgRateNow s x1) := by
  unfold State.cfgRateNow
  try dsimp only
  repeat' first | (with_reducible first | assumption | apply State.putLoopX_keeps | apply State.setPrate_keeps | apply State.putEngX_keeps | split | intro _) | assumption

theorem State.closeNow_keeps (h : Keeps B M z s) (b_lpe : B .lpe) : Keeps B M z (State.closeNow s x1 x2) := by
  unfold State.closeNow
  try dsimp only
  repeat' first | (with_reducible first | assumption | apply State.clearSections_keeps | apply State.put_keeps | apply State.cfgRateNow_keeps | apply State.putLoopX_keeps | apply State.zeroSlot_keeps | split | intro _) | assumption

theorem State.closeSlot_keeps (h : Keeps B M z s) (b_mem : B .mem) (b_evt : B .evt) (b_lpe : B .lpe) (hM : M) : Keeps B M z (State.closeSlot s x1 x2) := by
  unfold State.closeSlot
  try dsimp only
  repeat' first | (with_reducible first | assumption | apply State.setFlag_keeps | apply State.closeNow_keeps | split | intro _) | assumption

theorem State.wrLpsCtl_keeps (h : Keeps B M z s) (b_lpe : B .lpe) (b_mem : B .mem) (b_evt : B .evt) (hM : M) : Keeps B M z (State.wrLpsCtl s x1 x2) := by
  unfold State.wrLpsCtl
  try dsimp only
  repeat' first | (with_reducible first | assumption | apply State.writeRw_keeps | apply State.openSlot_keeps | apply State.closeSlot_keeps | split | intro _) | assumption

theorem State.closeBlocked_keeps (h : Keeps B M z s) (b_mem : B .mem) (b_evt : B .evt) (b_lpe : B .lpe) (hM : M) : Keeps B M z (State.closeBlocked s x1 x2) := by
  unfold State.closeBlocked
  try dsimp only
  repeat' first | (with_reducible first | assumption | apply State.setFlag_keeps | split | intro _) | assumption

theorem State.busLpsCtl_keeps (h : Keeps B M z s) (b_mem : B .mem) (b_evt : B .evt) (b_lpe : B .lpe) (hM : M) : Keeps B M z (State.busLpsCtl s x1 x2) := by
  unfold State.busLpsCtl
  try dsimp only
  repeat' first | (with_reducible first | assumption | apply State.guardWrite_keeps | apply State.closeBlocked_keeps | apply State.wrLpsCtl_keeps | split | intro _) | assumption

theorem State.loopReq_keeps (h : Keeps B M z s) (b_mem : B .mem) (b_evt : B .evt) (b_lpe : B .lpe) (hM : M) : Keeps B M z (State.loopReq s x1 x2) := by
  unfold State.loopReq
  try dsimp only
  repeat' first | (with_reducible first | assumption | apply State.busLpsCtl_keeps | split | intro _) | assumption

theorem execLoopOpenRequest_keeps (b_mem : B .mem) (b_evt : B .evt) (b_lpe : B .lpe) (hM : M) : ∃ t, execLoopOpenRequest x0 x1 s = .next t ∧ Keeps B M s t := by
  refine ⟨_, rfl, ?_⟩
  have h : Keeps B M s s := Keeps.refl s
  try dsimp only
  repeat' first | (with_reducible first | assumption | apply State.loopReq_keeps | split | intro _) | assumption

theorem execLoopCloseRequest_keeps (b_mem : B .mem) (b_evt : B .evt) (b_lpe : B .lpe) (hM : M) : ∃ t, execLoopCloseRequest x0 x1 s = .next t ∧ Keeps B M s t := by
  refine ⟨_, rfl, ?_⟩
  have h : Keeps B M s s := Keeps.refl s
  try dsimp only
  repeat' first | (with_reducible first | assumption | apply State.loopReq_keeps | split | intro _) | assumption

theorem execLoopCloseCleared_keeps (b_mem : B .mem) (b_evt : B .evt) (b_lpe : B .lpe) (hM : M) : ∃ t, execLoopCloseCleared x0 x1 s = .next t ∧ Keeps B M s t := by
  refine ⟨_, rfl, ?_⟩
  have h : Keeps B M s s := Keeps.refl s
  try dsimp only
  repeat' first | (with_reducible first | assumption | apply State.loopReq_keeps | split | intro _) | assumption

theorem State.ifOpen_keeps (h : Keeps B M z s) (b_mem : B .mem) (b_evt : B .evt) (b_lpe : B .lpe) (hM : M) (hx2 : ∀ s, Keeps B M z s → Keeps B M z (x2 s)) : Keeps B M z (State.ifOpen s x1 x2) := by
  unfold State.ifOpen
  try dsimp only
  repeat' first | (with_reducible first | assumption | apply hx2 | apply State.setFlag_keeps | split | intro _) | assumption

theorem State.leaveDest_keeps (h : Keeps B M z s) : Keeps B M z (State.leaveDest s x1) := by
  unfold State.leaveDest
  try dsimp only
  repeat' first | (with_reducible first | assumption | split | intro _ | refine keeps_mk ?_ rfl rfl) | assumption

theorem State.cfgApplied_keeps (h : Keeps B M z s) (b_lpe : B .lpe) : Keeps B M z (State.cfgApplied s x1) := by
  unfold State.cfgApplied
  try dsimp only
  repeat' first | (with_reducible first | assumption | apply State.cfgRateNow_keeps | apply State.put_keeps | apply State.leaveDest_keeps | split | intro _) | assumption

theorem State.tapReject_keeps (h : Keeps B M z s) (b_mem : B .mem) (b_evt : B .evt) (b_svy : B .svy) (hM : M) : Keeps B M z (State.tapReject s x1) := by
  unfold State.tapReject
  try dsimp only
  repeat' first | (with_reducible first | assumption | apply State.setFlagI_keeps | split | intro _) | assumption

theorem State.wrLpsCfg_keeps (h : Keeps B M z s) (b_mem : B .mem) (b_evt : B .evt) (b_lpe : B .lpe) (b_svy : B .svy) (hM : M) : Keeps B M z (State.wrLpsCfg s x1 x2) := by
  unfold State.wrLpsCfg
  try dsimp only
  repeat' first | (with_reducible first | assumption | apply State.ifOpen_keeps | apply State.writeRw_keeps | apply State.setFlag_keeps | apply State.tapReject_keeps | apply State.cfgApplied_keeps | split | intro _) | assumption

theorem execLpsCfgWrite_keeps (b_mem : B .mem) (b_evt : B .evt) (b_lpe : B .lpe) (b_svy : B .svy) (hM : M) : ∃ t, execLpsCfgWrite x0 x1 x2 x3 s = .next t ∧ Keeps B M s t := by
  refine ⟨_, rfl, ?_⟩
  have h : Keeps B M s s := Keeps.refl s
  try dsimp only
  repeat' first | (with_reducible first | assumption | apply State.guardWrite_keeps | apply State.wrLpsCfg_keeps | split | intro _) | assumption

theorem State.wrLpsOut_keeps (h : Keeps B M z s) (b_mem : B .mem) (b_evt : B .evt) (b_lpe : B .lpe) (hM : M) : Keeps B M z (State.wrLpsOut s x1 x2) := by
  unfold State.wrLpsOut
  try dsimp only
  repeat' first | (with_reducible first | assumption | apply State.ifOpen_keeps | apply State.writeRw_keeps | apply State.leaveDest_keeps | apply State.setFlag_keeps | split | intro _) | assumption

theorem execLpsOutWrite_keeps (b_mem : B .mem) (b_evt : B .evt) (b_lpe : B .lpe) (hM : M) : ∃ t, execLpsOutWrite x0 x1 x2 x3 s = .next t ∧ Keeps B M s t := by
  refine ⟨_, rfl, ?_⟩
  have h : Keeps B M s s := Keeps.refl s
  try dsimp only
  repeat' first | (with_reducible first | assumption | apply State.guardWrite_keeps | apply State.wrLpsOut_keeps | split | intro _) | assumption

theorem State.wrLpsIn_keeps (h : Keeps B M z s) (b_mem : B .mem) (b_evt : B .evt) (b_lpe : B .lpe) (b_svy : B .svy) (hM : M) : Keeps B M z (State.wrLpsIn s x1 x2) := by
  unfold State.wrLpsIn
  try dsimp only
  repeat' first | (with_reducible first | assumption | apply State.ifOpen_keeps | apply State.writeRw_keeps | apply State.tapReject_keeps | split | intro _) | assumption

theorem execLpsInWrite_keeps (b_mem : B .mem) (b_evt : B .evt) (b_lpe : B .lpe) (b_svy : B .svy) (hM : M) : ∃ t, execLpsInWrite x0 x1 x2 x3 s = .next t ∧ Keeps B M s t := by
  refine ⟨_, rfl, ?_⟩
  have h : Keeps B M s s := Keeps.refl s
  try dsimp only
  repeat' first | (with_reducible first | assumption | apply State.guardWrite_keeps | apply State.wrLpsIn_keeps | split | intro _) | assumption

theorem State.wrLpsPlain_keeps (h : Keeps B M z s) (b_mem : B .mem) (b_evt : B .evt) (b_lpe : B .lpe) (bx2 : B x2.block) (hM : M) : Keeps B M z (State.wrLpsPlain s x1 x2 x3) := by
  unfold State.wrLpsPlain
  try dsimp only
  repeat' first | (with_reducible first | assumption | apply State.ifOpen_keeps | apply State.writeRw_keeps | split | intro _) | assumption

theorem execLoopParamWrite_keeps (hB : ∀ b, B b) (hM : M) : ∃ t, execLoopParamWrite x0 x1 x2 x3 x4 s = .next t ∧ Keeps B M s t := by
  refine ⟨_, rfl, ?_⟩
  have h : Keeps B M s s := Keeps.refl s
  try dsimp only
  repeat' first | (with_reducible first | assumption | apply State.guardWrite_keeps | apply State.wrLpsPlain_keeps | split | intro _) | assumption | exact hB _

theorem State.wrCoef_keeps (h : Keeps B M z s) (b_mem : B .mem) (b_evt : B .evt) (b_lpe : B .lpe) (hM : M) : Keeps B M z (State.wrCoef s x1 x2 x3 x4) := by
  unfold State.wrCoef
  try dsimp only
  repeat' first | (with_reducible first | assumption | apply State.wrLpsPlain_keeps | apply State.writeRw_keeps | split | intro _) | assumption

theorem execCoefWrite_keeps (b_mem : B .mem) (b_evt : B .evt) (b_lpe : B .lpe) (hM : M) : ∃ t, execCoefWrite x0 x1 x2 x3 x4 x5 s = .next t ∧ Keeps B M s t := by
  refine ⟨_, rfl, ?_⟩
  have h : Keeps B M s s := Keeps.refl s
  try dsimp only
  repeat' first | (with_reducible first | assumption | apply State.guardWrite_keeps | apply State.wrCoef_keeps | split | intro _) | assumption

theorem State.trip_keeps (h : Keeps B M z s) (b_lpe : B .lpe) (b_flt : B .flt) (b_tpl : B .tpl) (b_mem : B .mem) (b_evt : B .evt) (b_ttb : B .ttb) (b_rail : B .rail) (b_swy : B .swy) (b_sup : B .sup) (b_ldg : B .ldg) (b_lnk : B .lnk) (hM : M) : Keeps B M z (State.trip s x1 x2 x3) := by
  unfold State.trip
  try dsimp only
  repeat' first | (with_reducible first | assumption | apply State.put_keeps | apply State.raise_keeps | apply State.setFlag_keeps | apply State.putLoopX_keeps | split | intro _) | assumption

theorem execLoopOpenlong_keeps (b_flt : B .flt) (b_tpl : B .tpl) (b_mem : B .mem) (b_evt : B .evt) (b_ttb : B .ttb) (b_rail : B .rail) (b_swy : B .swy) (b_sup : B .sup) (b_ldg : B .ldg) (b_lpe : B .lpe) (b_lnk : B .lnk) (hM : M) : ∃ t, execLoopOpenlong x0 s = .next t ∧ Keeps B M s t := by
  refine ⟨_, rfl, ?_⟩
  have h : Keeps B M s s := Keeps.refl s
  try dsimp only
  repeat' first | (with_reducible first | assumption | apply State.raise_keeps | apply State.setFlag_keeps | split | intro _) | assumption

theorem execWatchSettleEnd_keeps : ∃ t, execWatchSettleEnd x0 s = .next t ∧ Keeps B M s t := by
  refine ⟨_, rfl, ?_⟩
  have h : Keeps B M s s := Keeps.refl s
  try dsimp only
  repeat' first | (with_reducible first | assumption | apply State.putLoopX_keeps | split | intro _) | assumption

theorem execLoopFollow_keeps (b_lpe : B .lpe) (b_flt : B .flt) (b_tpl : B .tpl) (b_mem : B .mem) (b_evt : B .evt) (b_ttb : B .ttb) (b_rail : B .rail) (b_swy : B .swy) (b_sup : B .sup) (b_ldg : B .ldg) (b_lnk : B .lnk) (hM : M) : ∃ t, execLoopFollow x0 s = .next t ∧ Keeps B M s t := by
  refine ⟨_, rfl, ?_⟩
  have h : Keeps B M s s := Keeps.refl s
  try dsimp only
  repeat' first | (with_reducible first | assumption | apply State.trip_keeps | split | intro _) | assumption

theorem execLoopModel_keeps (b_lpe : B .lpe) (b_flt : B .flt) (b_tpl : B .tpl) (b_mem : B .mem) (b_evt : B .evt) (b_ttb : B .ttb) (b_rail : B .rail) (b_swy : B .swy) (b_sup : B .sup) (b_ldg : B .ldg) (b_lnk : B .lnk) (hM : M) : ∃ t, execLoopModel x0 s = .next t ∧ Keeps B M s t := by
  refine ⟨_, rfl, ?_⟩
  have h : Keeps B M s s := Keeps.refl s
  try dsimp only
  repeat' first | (with_reducible first | assumption | apply State.trip_keeps | split | intro _) | assumption

end Sys2Proof.Machine
end

