-- ==== Sys2Proof/Laws/KeepsStore.lean ====
section
/-! SUPPORT. What the operations of memory protection, the ledger, the gauge, the backup path, the watchdog and the OTP keep. -/

namespace Sys2Proof.Machine

variable {B : Block → Prop} {M : Prop} {z s : State}

theorem State.otp_keeps (h : Keeps B M z s) (hx1 : ∀ o m, m ∈ OtX.marks o → m ∈ (x1 o).marks) : Keeps B M z (State.otp s x1) := ⟨h.pending, h.mem, fun m x => hx1 _ m (h.marks m x), h.power, h.regs, h.bytes⟩

theorem State.otpRead_keeps (h : Keeps B M z s) : Keeps B M z (State.otpRead s x1).2 := by
  unfold State.otpRead
  try dsimp only
  repeat' first | (with_reducible first | assumption | apply State.draw_keeps | split | intro _) | assumption

theorem State.toSpare_keeps (h : Keeps B M z s) (b_mem : B .mem) (b_evt : B .evt) (b_otp : B .otp) (hM : M) : Keeps B M z (State.toSpare s x1 x2 x3) := by
  unfold State.toSpare
  try dsimp only
  repeat' first | (with_reducible first | assumption | apply State.setFlagI_keeps | apply State.otp_keeps | split | intro _) | assumption

theorem State.redirect_keeps (h : Keeps B M z s) (b_mem : B .mem) (b_evt : B .evt) (b_otp : B .otp) (hM : M) : Keeps B M z (State.redirect s x1 x2 x3).2 := by
  induction x3 generalizing s with
  | nil =>
    unfold State.redirect
    cases s.nextSpare with
    | none => exact h
    | some k => exact State.toSpare_keeps h b_mem b_evt b_otp hM
  | cons b t ih =>
    unfold State.redirect
    cases s.nextSpare with
    | none => exact h
    | some k =>
      cases b
      · exact State.toSpare_keeps h b_mem b_evt b_otp hM
      · exact ih (State.otp_keeps h fun _ _ x => x)
      · exact ih (State.otp_keeps h fun _ _ x => x)

theorem State.otpCorrected_keeps (h : Keeps B M z s) (b_otp : B .otp) (b_flt : B .flt) (b_tpl : B .tpl) (b_mem : B .mem) (b_evt : B .evt) (b_ttb : B .ttb) (b_rail : B .rail) (b_swy : B .swy) (b_sup : B .sup) (b_ldg : B .ldg) (b_lpe : B .lpe) (b_lnk : B .lnk) (hM : M) : Keeps B M z (State.otpCorrected s x1) := by
  unfold State.otpCorrected
  try dsimp only
  repeat' first | (with_reducible first | assumption | apply State.otp_keeps | apply State.put_keeps | apply State.putBit_keeps | apply State.raise_keeps | apply State.live_keeps | split | intro _) | assumption

theorem State.showLc_keeps (h : Keeps B M z s) (b_otp : B .otp) (b_flt : B .flt) : Keeps B M z (State.showLc s) := by
  unfold State.showLc
  try dsimp only
  repeat' first | (with_reducible first | assumption | apply State.put_keeps | apply State.putBit_keeps | split | intro _) | assumption

theorem State.addMark_keeps (h : Keeps B M z s) : Keeps B M z (State.addMark s x1) := by
  refine State.otp_keeps h fun o m hm => ?_
  by_cases hc : x1 ∈ o.marks <;> simp [hc, hm]

theorem State.trimsLost_keeps (h : Keeps B M z s) (b_flt : B .flt) (b_tpl : B .tpl) (b_mem : B .mem) (b_evt : B .evt) (b_ttb : B .ttb) (b_rail : B .rail) (b_swy : B .swy) (b_sup : B .sup) (b_ldg : B .ldg) (b_lpe : B .lpe) (b_lnk : B .lnk) (b_otp : B .otp) (hM : M) : Keeps B M z (State.trimsLost s) := by
  unfold State.trimsLost
  try dsimp only
  repeat' first | (with_reducible first | assumption | apply State.raise_keeps | apply State.putBit_keeps | split | intro _) | assumption

theorem State.cellLost_keeps (h : Keeps B M z s) : Keeps B M z (State.cellLost s x1) := by
  unfold State.cellLost
  try dsimp only
  repeat' first | (with_reducible first | assumption | apply State.otp_keeps | split | intro _) | assumption

theorem State.otpLost_keeps (h : Keeps B M z s) (b_flt : B .flt) (b_tpl : B .tpl) (b_mem : B .mem) (b_evt : B .evt) (b_ttb : B .ttb) (b_rail : B .rail) (b_swy : B .swy) (b_sup : B .sup) (b_ldg : B .ldg) (b_lpe : B .lpe) (b_lnk : B .lnk) (b_otp : B .otp) (hM : M) : Keeps B M z (State.otpLost s x1) := by
  unfold State.otpLost
  try dsimp only
  repeat' first | (with_reducible first | assumption | apply State.cellLost_keeps | apply State.trimsLost_keeps | apply State.showLc_keeps | apply State.addMark_keeps | apply State.setFlagI_keeps | split | intro _) | assumption

theorem State.otpReject_keeps (h : Keeps B M z s) (b_mem : B .mem) (b_evt : B .evt) (b_otp : B .otp) (hM : M) : Keeps B M z (State.otpReject s x1) := by
  unfold State.otpReject
  try dsimp only
  repeat' first | (with_reducible first | assumption | apply State.setFlagI_keeps | apply State.put_keeps | split | intro _) | assumption

theorem State.otpStart_keeps (h : Keeps B M z s) (b_otp : B .otp) : Keeps B M z (State.otpStart s x1 x2 x3) := by
  unfold State.otpStart
  try dsimp only
  repeat' first | (with_reducible first | assumption | apply State.putBit_keeps | apply State.otp_keeps | split | intro _) | assumption

theorem State.wrOtpProg_keeps (h : Keeps B M z s) (b_mem : B .mem) (b_evt : B .evt) (b_otp : B .otp) (hM : M) : Keeps B M z (State.wrOtpProg s x1 x2) := by
  unfold State.wrOtpProg
  try dsimp only
  repeat' first | (with_reducible first | assumption | apply State.otpReject_keeps | apply State.otpStart_keeps | split | intro _) | assumption

theorem State.wrOtpLc_keeps (h : Keeps B M z s) (b_mem : B .mem) (b_evt : B .evt) (b_otp : B .otp) (hM : M) : Keeps B M z (State.wrOtpLc s x1 x2) := by
  unfold State.wrOtpLc
  try dsimp only
  repeat' first | (with_reducible first | assumption | apply State.otpReject_keeps | apply State.otpStart_keeps | split | intro _) | assumption

theorem execOtpProgram_keeps (b_mem : B .mem) (b_evt : B .evt) (b_otp : B .otp) (hM : M) : ∃ t, execOtpProgram x0 x1 x2 s = .next t ∧ Keeps B M s t := by
  refine ⟨_, rfl, ?_⟩
  have h : Keeps B M s s := Keeps.refl s
  try dsimp only
  repeat' first | (with_reducible first | assumption | apply State.guardSent_keeps | apply State.wrOtpProg_keeps | split | intro _) | assumption

theorem execLifecycleTransition_keeps (b_mem : B .mem) (b_evt : B .evt) (b_otp : B .otp) (hM : M) : ∃ t, execLifecycleTransition x0 x1 x2 s = .next t ∧ Keeps B M s t := by
  refine ⟨_, rfl, ?_⟩
  have h : Keeps B M s s := Keeps.refl s
  try dsimp only
  repeat' first | (with_reducible first | assumption | apply State.guardSent_keeps | apply State.wrOtpLc_keeps | split | intro _) | assumption

theorem State.otpStored_keeps (h : Keeps B M z s) (b_otp : B .otp) (b_flt : B .flt) : Keeps B M z (State.otpStored s x1) := by
  unfold State.otpStored
  try dsimp only
  repeat' first | (with_reducible first | assumption | apply State.showLc_keeps | apply State.addMark_keeps | apply State.otp_keeps | split | intro _) | assumption

theorem State.otpMoved_keeps (h : Keeps B M z s) (b_otp : B .otp) (b_flt : B .flt) : Keeps B M z (State.otpMoved s x1) := by
  unfold State.otpMoved
  try dsimp only
  repeat' first | (with_reducible first | assumption | apply State.showLc_keeps | apply State.addMark_keeps | split | intro _) | assumption

theorem State.otpEnd_keeps (h : Keeps B M z s) (b_otp : B .otp) (b_mem : B .mem) (b_evt : B .evt) (hM : M) : Keeps B M z (State.otpEnd s x1 x2) := by
  unfold State.otpEnd
  try dsimp only
  repeat' first | (with_reducible first | assumption | apply State.put_keeps | apply State.setFlagI_keeps | apply State.putBit_keeps | split | intro _) | assumption

theorem State.otpRetry_keeps (h : Keeps B M z s) (b_mem : B .mem) (b_evt : B .evt) (b_otp : B .otp) (b_flt : B .flt) (b_tpl : B .tpl) (b_ttb : B .ttb) (b_rail : B .rail) (b_swy : B .swy) (b_sup : B .sup) (b_ldg : B .ldg) (b_lpe : B .lpe) (b_lnk : B .lnk) (hM : M) : Keeps B M z (State.otpRetry s x1 x2) := by
  unfold State.otpRetry
  try dsimp only
  repeat' first | (with_reducible first | assumption | apply State.draw_keeps | apply State.redirect_keeps | apply State.otp_keeps | apply State.otpEnd_keeps | apply State.otpMoved_keeps | apply State.otpCorrected_keeps | apply State.otpStored_keeps | apply State.otpLost_keeps | split | intro _) | assumption

theorem execOtpDone_keeps (b_otp : B .otp) (b_mem : B .mem) (b_evt : B .evt) (b_flt : B .flt) (b_tpl : B .tpl) (b_ttb : B .ttb) (b_rail : B .rail) (b_swy : B .swy) (b_sup : B .sup) (b_ldg : B .ldg) (b_lpe : B .lpe) (b_lnk : B .lnk) (hM : M) : ∃ t, execOtpDone x0 s = .next t ∧ Keeps B M s t := by
  refine ⟨_, rfl, ?_⟩
  have h : Keeps B M s s := Keeps.refl s
  try dsimp only
  repeat' first | (with_reducible first | assumption | apply State.otp_keeps | apply State.otpEnd_keeps | apply State.otpStored_keeps | apply State.otpRetry_keeps | split | intro _) | assumption

theorem State.otpReset_keeps (h : Keeps B M z s) : Keeps B M z (State.otpReset s) := by
  unfold State.otpReset
  try dsimp only
  repeat' first | (with_reducible first | assumption | apply State.draw_keeps | apply State.otp_keeps | apply State.addMark_keeps | split | intro _) | assumption

theorem State.scanFind_keeps (h : Keeps B M z s) (b_otp : B .otp) (b_mem : B .mem) (b_evt : B .evt) (b_flt : B .flt) (b_tpl : B .tpl) (b_ttb : B .ttb) (b_rail : B .rail) (b_swy : B .swy) (b_sup : B .sup) (b_ldg : B .ldg) (b_lpe : B .lpe) (b_lnk : B .lnk) (hM : M) : Keeps B M z (State.scanFind s x1) := by
  unfold State.scanFind
  try dsimp only
  repeat' first | (with_reducible first | assumption | apply State.otp_keeps | apply State.addSat_keeps | apply State.redirect_keeps | apply State.otpCorrected_keeps | apply State.otpLost_keeps | apply State.cellLost_keeps | split | intro _) | assumption

theorem State.otpScan_keeps (h : Keeps B M z s) (b_otp : B .otp) (b_flt : B .flt) (b_mem : B .mem) (b_evt : B .evt) (b_tpl : B .tpl) (b_ttb : B .ttb) (b_rail : B .rail) (b_swy : B .swy) (b_sup : B .sup) (b_ldg : B .ldg) (b_lpe : B .lpe) (b_lnk : B .lnk) (hM : M) : Keeps B M z (State.otpScan s x1) := by
  unfold State.otpScan
  try dsimp only
  repeat' first | (with_reducible first | assumption | apply State.putBit_keeps | apply State.wr_keeps | apply State.live_keeps | apply State.otp_keeps | apply State.showLc_keeps | apply State.scanFind_keeps | apply foldl_keeps | split | intro _) | assumption

theorem State.otpLink_keeps (h : Keeps B M z s) (b_lnk : B .lnk) : Keeps B M z (State.otpLink s) := by
  unfold State.otpLink
  try dsimp only
  repeat' first | (with_reducible first | assumption | apply State.putBit_keeps | apply State.wr_keeps | split | intro _) | assumption

theorem State.otpAddr_keeps (h : Keeps B M z s) (b_lnk : B .lnk) : Keeps B M z (State.otpAddr s) := by
  unfold State.otpAddr
  try dsimp only
  repeat' first | (with_reducible first | assumption | apply State.wr_keeps | split | intro _) | assumption

theorem State.putLane_keeps (h : Keeps B M z s) : Keeps B M z (State.putLane s x1 x2) := by
  unfold State.putLane
  try dsimp only
  repeat' first | (with_reducible first | assumption | split | intro _ | refine keeps_mk ?_ rfl rfl) | assumption

theorem State.refill_keeps (h : Keeps B M z s) : Keeps B M z (State.refill s) := by
  unfold State.refill
  try dsimp only
  repeat' first | (with_reducible first | assumption | apply State.putLane_keeps | split | intro _ | refine keeps_mk ?_ rfl rfl) | assumption

theorem State.kick_keeps (h : Keeps B M z s) (b_ldg : B .ldg) : Keeps B M z (State.kick s) := by
  unfold State.kick
  try dsimp only
  repeat' first | (with_reducible first | assumption | apply State.refill_keeps | apply State.put_keeps | apply State.putLane_keeps | split | intro _ | refine keeps_mk ?_ rfl rfl) | assumption

theorem State.enqueue_keeps (h : Keeps B M z s) (b_ldg : B .ldg) : Keeps B M z (State.enqueue s x1 x2) := by
  unfold State.enqueue
  try dsimp only
  repeat' first | (with_reducible first | assumption | apply State.kick_keeps | apply State.putLane_keeps | split | intro _) | assumption

theorem State.dropFactory_keeps (h : Keeps B M z s) : Keeps B M z (State.dropFactory s x1) := by
  unfold State.dropFactory
  try dsimp only
  repeat' first | (with_reducible first | assumption | split | intro _ | refine keeps_mk ?_ rfl rfl) | assumption

theorem State.programBytes_keeps (h : Keeps B M z s) (hM : M) : Keeps B M z (State.programBytes s x1 x2) := by
  unfold State.programBytes
  try dsimp only
  repeat' first | (with_reducible first | assumption | apply State.putBytes_keeps | split | intro _ | refine keeps_mk ?_ rfl rfl) | assumption

theorem State.runStep_keeps (h : Keeps B M z s) (hM : M) : Keeps B M z (State.runStep s x1) := by
  unfold State.runStep
  split
  · exact keeps_mem (State.dropFactory_keeps h) hM rfl (memFilter_wf _ _) rfl rfl rfl
  · exact State.programBytes_keeps h hM
  · exact h
  · exact State.programBytes_keeps h hM

theorem State.tplCommitted_keeps (h : Keeps B M z s) (b_tpl : B .tpl) (b_ldg : B .ldg) : Keeps B M z (State.tplCommitted s x1 x2 x3) := by
  unfold State.tplCommitted
  try dsimp only
  repeat' first | (with_reducible first | assumption | apply State.wr_keeps | apply State.complete_keeps | apply State.loadOver_keeps | split | intro _) | assumption

theorem State.tplUnsaved_keeps (h : Keeps B M z s) (b_ldg : B .ldg) (b_tpl : B .tpl) : Keeps B M z (State.tplUnsaved s x1) := by
  unfold State.tplUnsaved
  try dsimp only
  repeat' first | (with_reducible first | assumption | apply State.complete_keeps | apply State.loadOver_keeps | apply State.put_keeps | split | intro _) | assumption

theorem State.finish_keeps (h : Keeps B M z s) (b_ldg : B .ldg) : Keeps B M z (State.finish s x1 x2 x3) := by
  unfold State.finish
  try dsimp only
  repeat' first | (with_reducible first | assumption | apply State.complete_keeps | split | intro _) | assumption

theorem State.logRetire_keeps (h : Keeps B M z s) (b_mem : B .mem) (b_evt : B .evt) (b_ldg : B .ldg) (hM : M) : Keeps B M z (State.logRetire s x1 x2 x3) := by
  unfold State.logRetire
  try dsimp only
  repeat' first | (with_reducible first | assumption | apply State.logRec_keeps | split | intro _) | assumption

theorem State.jobDone_keeps (h : Keeps B M z s) (b_ldg : B .ldg) (b_mem : B .mem) (b_evt : B .evt) (b_flt : B .flt) (b_tpl : B .tpl) (b_ttb : B .ttb) (b_rail : B .rail) (b_swy : B .swy) (b_sup : B .sup) (b_lpe : B .lpe) (b_lnk : B .lnk) (hM : M) : Keeps B M z (State.jobDone s x1) := by
  unfold State.jobDone
  try dsimp only
  repeat' first | (with_reducible first | assumption | apply State.finish_keeps | apply State.put_keeps | apply State.wr_keeps | apply State.putBit_keeps | apply State.ledMeet_keeps | apply State.putWord_keeps | apply State.logRetire_keeps | apply each_keeps | split | intro _ | refine keeps_mk ?_ rfl rfl) | assumption

theorem State.bankReadBack_keeps (h : Keeps B M z s) (b_mem : B .mem) (b_evt : B .evt) (b_flt : B .flt) (b_tpl : B .tpl) (b_ttb : B .ttb) (b_rail : B .rail) (b_swy : B .swy) (b_sup : B .sup) (b_ldg : B .ldg) (b_lpe : B .lpe) (b_lnk : B .lnk) (hM : M) : Keeps B M z (State.bankReadBack s x1).2 := by
  unfold State.bankReadBack
  try dsimp only
  repeat' first | (with_reducible first | assumption | apply State.ledMeet_keeps | split | intro _) | assumption

theorem State.stepEnded_keeps (h : Keeps B M z s) (b_ldg : B .ldg) (b_mem : B .mem) (b_evt : B .evt) (b_flt : B .flt) (b_tpl : B .tpl) (b_ttb : B .ttb) (b_rail : B .rail) (b_swy : B .swy) (b_sup : B .sup) (b_lpe : B .lpe) (b_lnk : B .lnk) (hM : M) : Keeps B M z (State.stepEnded s x1) := by
  unfold State.stepEnded
  try dsimp only
  repeat' first | (with_reducible first | assumption | apply State.kick_keeps | apply State.runStep_keeps | apply State.bankReadBack_keeps | apply State.jobDone_keeps | apply State.putLane_keeps | split | intro _ | refine keeps_mk ?_ rfl rfl) | assumption

theorem execLedgerStepDone_keeps (b_ldg : B .ldg) (b_mem : B .mem) (b_evt : B .evt) (b_flt : B .flt) (b_tpl : B .tpl) (b_ttb : B .ttb) (b_rail : B .rail) (b_swy : B .swy) (b_sup : B .sup) (b_lpe : B .lpe) (b_lnk : B .lnk) (hM : M) : ∃ t, execLedgerStepDone x0 s = .next t ∧ Keeps B M s t := by
  refine ⟨_, rfl, ?_⟩
  have h : Keeps B M s s := Keeps.refl s
  try dsimp only
  repeat' first | (with_reducible first | assumption | apply State.kick_keeps | apply State.stepEnded_keeps | split | intro _ | refine keeps_mk ?_ rfl rfl) | assumption

theorem State.soleWrite_keeps (h : Keeps B M z s) : Keeps B M z (State.soleWrite s x1 x2) := by
  unfold State.soleWrite
  try dsimp only
  repeat' first | (with_reducible first | assumption | split | intro _ | refine keeps_mk ?_ rfl rfl) | assumption

theorem State.dumpCommitted_keeps (h : Keeps B M z s) (b_ldg : B .ldg) (b_mem : B .mem) (b_evt : B .evt) (hM : M) : Keeps B M z (State.dumpCommitted s x1 x2) := by
  unfold State.dumpCommitted
  try dsimp only
  repeat' first | (with_reducible first | assumption | apply State.put_keeps | apply State.addSat_keeps | apply State.happen_keeps | apply State.logRec_keeps | split | intro _ | refine keeps_mk ?_ rfl rfl) | assumption

theorem State.bankCommitted_keeps (h : Keeps B M z s) (b_ldg : B .ldg) (b_tpl : B .tpl) (b_mem : B .mem) (b_evt : B .evt) (hM : M) : Keeps B M z (State.bankCommitted s x1 x2 x3 x4) := by
  unfold State.bankCommitted
  try dsimp only
  repeat' first | (with_reducible first | assumption | apply State.soleWrite_keeps | apply State.complete_keeps | apply State.put_keeps | apply State.tplCommitted_keeps | apply State.finish_keeps | apply State.dumpCommitted_keeps | split | intro _) | assumption

theorem execLedgerCommit_keeps (b_ldg : B .ldg) (b_tpl : B .tpl) (b_mem : B .mem) (b_evt : B .evt) (hM : M) : ∃ t, execLedgerCommit s = .next t ∧ Keeps B M s t := by
  refine ⟨_, rfl, ?_⟩
  have h : Keeps B M s s := Keeps.refl s
  try dsimp only
  repeat' first | (with_reducible first | assumption | apply State.kick_keeps | apply State.bankCommitted_keeps | apply State.putLane_keeps | split | intro _) | assumption

theorem execLedgerWriteFail_keeps (b_mem : B .mem) (b_evt : B .evt) (b_ldg : B .ldg) (b_tpl : B .tpl) (hM : M) : ∃ t, execLedgerWriteFail s = .next t ∧ Keeps B M s t := by
  refine ⟨_, rfl, ?_⟩
  have h : Keeps B M s s := Keeps.refl s
  try dsimp only
  repeat' first | (with_reducible first | assumption | apply State.setFlagI_keeps | apply State.wr_keeps | apply State.putLane_keeps | apply State.complete_keeps | apply State.tplUnsaved_keeps | apply State.finish_keeps | apply State.kick_keeps | split | intro _ | refine keeps_mk ?_ rfl rfl) | assumption

theorem execEraseSuspend_keeps : ∃ t, execEraseSuspend s = .next t ∧ Keeps B M s t := by
  refine ⟨_, rfl, ?_⟩
  have h : Keeps B M s s := Keeps.refl s
  try dsimp only
  repeat' first | (with_reducible first | assumption | split | intro _ | refine keeps_mk ?_ rfl rfl) | assumption

theorem execEraseResume_keeps : ∃ t, execEraseResume s = .next t ∧ Keeps B M s t := by
  refine ⟨_, rfl, ?_⟩
  have h : Keeps B M s s := Keeps.refl s
  try dsimp only
  repeat' first | (with_reducible first | assumption | split | intro _ | refine keeps_mk ?_ rfl rfl) | assumption

theorem State.withSource_keeps (h : Keeps B M z s) (b_mem : B .mem) (b_evt : B .evt) (b_ldg : B .ldg) (b_flt : B .flt) (b_tpl : B .tpl) (b_ttb : B .ttb) (b_rail : B .rail) (b_swy : B .swy) (b_sup : B .sup) (b_lpe : B .lpe) (b_lnk : B .lnk) (hM : M) (hx4 : ∀ x s, Keeps B M z s → Keeps B M z (x4 x s)) : Keeps B M z (State.withSource s x1 x2 x3 x4) := by
  unfold State.withSource
  try dsimp only
  repeat' first | (with_reducible first | assumption | apply hx4 | apply State.eccRange_keeps | apply State.dmaRestart_keeps | apply State.complete_keeps | apply State.dmaHalt_keeps | apply State.sramUe_keeps | split | intro _) | assumption

theorem State.fwWrite_keeps (h : Keeps B M z s) (b_ldg : B .ldg) (b_mem : B .mem) (b_evt : B .evt) (b_flt : B .flt) (b_tpl : B .tpl) (b_ttb : B .ttb) (b_rail : B .rail) (b_swy : B .swy) (b_sup : B .sup) (b_lpe : B .lpe) (b_lnk : B .lnk) (hM : M) : Keeps B M z (State.fwWrite s x1) := by
  unfold State.fwWrite
  try dsimp only
  repeat' first | (with_reducible first | assumption | apply State.complete_keeps | apply State.withSource_keeps | apply State.enqueue_keeps | apply State.put_keeps | split | intro _ | refine keeps_mk ?_ rfl rfl) | assumption

theorem State.fwSeal_keeps (h : Keeps B M z s) (b_ldg : B .ldg) (b_mem : B .mem) (b_evt : B .evt) (b_flt : B .flt) (b_tpl : B .tpl) (b_ttb : B .ttb) (b_rail : B .rail) (b_swy : B .swy) (b_sup : B .sup) (b_lpe : B .lpe) (b_lnk : B .lnk) (hM : M) : Keeps B M z (State.fwSeal s x1) := by
  unfold State.fwSeal
  try dsimp only
  repeat' first | (with_reducible first | assumption | apply State.complete_keeps | apply State.ledMeet_keeps | apply State.enqueue_keeps | split | intro _) | assumption

theorem State.fwActivate_keeps (h : Keeps B M z s) (b_ldg : B .ldg) : Keeps B M z (State.fwActivate s x1) := by
  unfold State.fwActivate
  try dsimp only
  repeat' first | (with_reducible first | assumption | apply State.complete_keeps | apply State.enqueue_keeps | split | intro _) | assumption

theorem State.userWrite_keeps (h : Keeps B M z s) (b_ldg : B .ldg) (b_mem : B .mem) (b_evt : B .evt) (b_flt : B .flt) (b_tpl : B .tpl) (b_ttb : B .ttb) (b_rail : B .rail) (b_swy : B .swy) (b_sup : B .sup) (b_lpe : B .lpe) (b_lnk : B .lnk) (hM : M) : Keeps B M z (State.userWrite s x1) := by
  unfold State.userWrite
  try dsimp only
  repeat' first | (with_reducible first | assumption | apply State.complete_keeps | apply State.withSource_keeps | apply State.ledMeet_keeps | apply State.enqueue_keeps | split | intro _) | assumption

theorem State.logMoves_keeps (h : Keeps B M z s) (b_ldg : B .ldg) : Keeps B M z (State.logMoves s) := by
  unfold State.logMoves
  try dsimp only
  repeat' first | (with_reducible first | assumption | apply State.put_keeps | apply State.putLane_keeps | split | intro _) | assumption

theorem State.dropStep_keeps (h : Keeps B M z s) : Keeps B M z (State.dropStep s x1) := by
  unfold State.dropStep
  try dsimp only
  repeat' first | (with_reducible first | assumption | split | intro _ | refine keeps_mk ?_ rfl rfl) | assumption

theorem State.moveLane_keeps (h : Keeps B M z s) : Keeps B M z (State.moveLane s x1 x2 x3) := by
  unfold State.moveLane
  try dsimp only
  repeat' first | (with_reducible first | assumption | apply State.dropStep_keeps | apply State.putLane_keeps | split | intro _) | assumption

theorem State.noSpare_keeps (h : Keeps B M z s) (b_mem : B .mem) (b_evt : B .evt) (b_ldg : B .ldg) (b_flt : B .flt) (b_tpl : B .tpl) (b_ttb : B .ttb) (b_rail : B .rail) (b_swy : B .swy) (b_sup : B .sup) (b_lpe : B .lpe) (b_lnk : B .lnk) (hM : M) : Keeps B M z (State.noSpare s x1 x2 x3) := by
  unfold State.noSpare
  try dsimp only
  repeat' first | (with_reducible first | assumption | apply State.setFlagI_keeps | apply State.putBit_keeps | apply State.raise_keeps | apply State.live_keeps | apply State.logRetire_keeps | apply State.put_keeps | apply State.moveLane_keeps | apply State.logMoves_keeps | apply each_keeps | split | intro _) | assumption

theorem State.retire_keeps (h : Keeps B M z s) (b_ldg : B .ldg) (b_mem : B .mem) (b_evt : B .evt) (b_flt : B .flt) (b_tpl : B .tpl) (b_ttb : B .ttb) (b_rail : B .rail) (b_swy : B .swy) (b_sup : B .sup) (b_lpe : B .lpe) (b_lnk : B .lnk) (hM : M) : Keeps B M z (State.retire s x1) := by
  unfold State.retire
  try dsimp only
  repeat' first | (with_reducible first | assumption | apply State.complete_keeps | apply State.noSpare_keeps | apply State.enqueue_keeps | split | intro _) | assumption

theorem State.ledgerRow_keeps (h : Keeps B M z s) (b_mem : B .mem) (b_evt : B .evt) (b_cmd : B .cmd) (b_tpl : B .tpl) (hM : M) (hx3 : ∀ x s, Keeps B M z s → Keeps B M z (x3 x s)) : Keeps B M z (State.ledgerRow s x1 x2 x3) := by
  unfold State.ledgerRow
  try dsimp only
  repeat' first | (with_reducible first | assumption | apply hx3 | apply State.issue_keeps | apply State.withRunning_keeps | apply State.setPhase_keeps | split | intro _) | assumption

theorem execLdgFwWrite_keeps (b_mem : B .mem) (b_evt : B .evt) (b_cmd : B .cmd) (b_tpl : B .tpl) (b_ldg : B .ldg) (b_flt : B .flt) (b_ttb : B .ttb) (b_rail : B .rail) (b_swy : B .swy) (b_sup : B .sup) (b_lpe : B .lpe) (b_lnk : B .lnk) (hM : M) : ∃ t, execLdgFwWrite x0 s = .next t ∧ Keeps B M s t := by
  refine ⟨_, rfl, ?_⟩
  have h : Keeps B M s s := Keeps.refl s
  try dsimp only
  repeat' first | (with_reducible first | assumption | apply State.ledgerRow_keeps | apply State.fwWrite_keeps | split | intro _) | assumption

theorem execLdgFwSeal_keeps (b_mem : B .mem) (b_evt : B .evt) (b_cmd : B .cmd) (b_tpl : B .tpl) (b_ldg : B .ldg) (b_flt : B .flt) (b_ttb : B .ttb) (b_rail : B .rail) (b_swy : B .swy) (b_sup : B .sup) (b_lpe : B .lpe) (b_lnk : B .lnk) (hM : M) : ∃ t, execLdgFwSeal x0 s = .next t ∧ Keeps B M s t := by
  refine ⟨_, rfl, ?_⟩
  have h : Keeps B M s s := Keeps.refl s
  try dsimp only
  repeat' first | (with_reducible first | assumption | apply State.ledgerRow_keeps | apply State.fwSeal_keeps | split | intro _) | assumption

theorem execLdgFwActivate_keeps (b_mem : B .mem) (b_evt : B .evt) (b_cmd : B .cmd) (b_tpl : B .tpl) (b_ldg : B .ldg) (hM : M) : ∃ t, execLdgFwActivate x0 s = .next t ∧ Keeps B M s t := by
  refine ⟨_, rfl, ?_⟩
  have h : Keeps B M s s := Keeps.refl s
  try dsimp only
  repeat' first | (with_reducible first | assumption | apply State.ledgerRow_keeps | apply State.fwActivate_keeps | split | intro _) | assumption

theorem execLdgUserWrite_keeps (b_mem : B .mem) (b_evt : B .evt) (b_cmd : B .cmd) (b_tpl : B .tpl) (b_ldg : B .ldg) (b_flt : B .flt) (b_ttb : B .ttb) (b_rail : B .rail) (b_swy : B .swy) (b_sup : B .sup) (b_lpe : B .lpe) (b_lnk : B .lnk) (hM : M) : ∃ t, execLdgUserWrite x0 s = .next t ∧ Keeps B M s t := by
  refine ⟨_, rfl, ?_⟩
  have h : Keeps B M s s := Keeps.refl s
  try dsimp only
  repeat' first | (with_reducible first | assumption | apply State.ledgerRow_keeps | apply State.userWrite_keeps | split | intro _) | assumption

theorem execLdgRetire_keeps (b_mem : B .mem) (b_evt : B .evt) (b_cmd : B .cmd) (b_tpl : B .tpl) (b_ldg : B .ldg) (b_flt : B .flt) (b_ttb : B .ttb) (b_rail : B .rail) (b_swy : B .swy) (b_sup : B .sup) (b_lpe : B .lpe) (b_lnk : B .lnk) (hM : M) : ∃ t, execLdgRetire x0 s = .next t ∧ Keeps B M s t := by
  refine ⟨_, rfl, ?_⟩
  have h : Keeps B M s s := Keeps.refl s
  try dsimp only
  repeat' first | (with_reducible first | assumption | apply State.ledgerRow_keeps | apply State.retire_keeps | split | intro _) | assumption

theorem State.ledgerAbandon_keeps (h : Keeps B M z s) (b_ldg : B .ldg) : Keeps B M z (State.ledgerAbandon s) := by
  unfold State.ledgerAbandon
  try dsimp only
  repeat' first | (with_reducible first | assumption | apply State.dropStep_keeps | apply State.put_keeps | split | intro _ | refine keeps_mk ?_ rfl rfl) | assumption

theorem State.ledgerReset_keeps (h : Keeps B M z s) (b_ldg : B .ldg) : Keeps B M z (State.ledgerReset s) := by
  unfold State.ledgerReset
  try dsimp only
  repeat' first | (with_reducible first | assumption | apply State.gap_keeps | apply State.ledgerAbandon_keeps | apply State.put_keeps | apply each_keeps | split | intro _ | refine keeps_mk ?_ rfl rfl) | assumption

theorem State.putAcc_keeps (h : Keeps B M z s) (b_gau : B .gau) : Keeps B M z (State.putAcc s x1) := by
  unfold State.putAcc
  try dsimp only
  repeat' first | (with_reducible first | assumption | apply State.wr_keeps | split | intro _ | refine keeps_mk ?_ rfl rfl) | assumption

theorem State.gauShow_keeps (h : Keeps B M z s) (b_gau : B .gau) : Keeps B M z (State.gauShow s) := by
  unfold State.gauShow
  try dsimp only
  repeat' first | (with_reducible first | assumption | apply State.put_keeps | split | intro _) | assumption

theorem State.recomputeQuse_keeps (h : Keeps B M z s) (b_gau : B .gau) : Keeps B M z (State.recomputeQuse s) := by
  unfold State.recomputeQuse
  try dsimp only
  repeat' first | (with_reducible first | assumption | apply State.wr_keeps | apply State.gauShow_keeps | apply State.put_keeps | split | intro _ | refine keeps_mk ?_ rfl rfl) | assumption

theorem State.gaugeRecord_keeps (h : Keeps B M z s) (b_mem : B .mem) (b_evt : B .evt) (b_ldg : B .ldg) (hM : M) : Keeps B M z (State.gaugeRecord s x1) := by
  unfold State.gaugeRecord
  try dsimp only
  repeat' first | (with_reducible first | assumption | apply State.logRec_keeps | split | intro _) | assumption

theorem State.anchor_keeps (h : Keeps B M z s) (b_gau : B .gau) (b_mem : B .mem) (b_evt : B .evt) (b_ldg : B .ldg) (hM : M) : Keeps B M z (State.anchor s x1 x2 x3) := by
  unfold State.anchor
  try dsimp only
  repeat' first | (with_reducible first | assumption | apply State.putAcc_keeps | apply State.putBit_keeps | apply State.wr_keeps | apply State.put_keeps | apply State.gaugeRecord_keeps | apply State.gauShow_keeps | apply State.setFlag_keeps | split | intro _ | refine keeps_mk ?_ rfl rfl) | assumption

theorem State.fullAnchor_keeps (h : Keeps B M z s) (b_gau : B .gau) (b_mem : B .mem) (b_evt : B .evt) (b_ldg : B .ldg) (hM : M) : Keeps B M z (State.fullAnchor s) := by
  unfold State.fullAnchor
  try dsimp only
  repeat' first | (with_reducible first | assumption | apply State.anchor_keeps | split | intro _) | assumption

theorem State.emptyAnchor_keeps (h : Keeps B M z s) (b_gau : B .gau) (b_mem : B .mem) (b_evt : B .evt) (b_ldg : B .ldg) (hM : M) : Keeps B M z (State.emptyAnchor s) := by
  unfold State.emptyAnchor
  try dsimp only
  repeat' first | (with_reducible first | assumption | apply State.anchor_keeps | split | intro _) | assumption

theorem State.gauFreeze_keeps (h : Keeps B M z s) (b_gau : B .gau) (b_mem : B .mem) (b_evt : B .evt) (b_ldg : B .ldg) (hM : M) : Keeps B M z (State.gauFreeze s) := by
  unfold State.gauFreeze
  try dsimp only
  repeat' first | (with_reducible first | assumption | apply State.putBit_keeps | apply State.put_keeps | apply State.gaugeRecord_keeps | apply State.gauShow_keeps | apply State.setFlag_keeps | split | intro _) | assumption

theorem State.setGau_keeps (h : Keeps B M z s) (b_gau : B .gau) : Keeps B M z (State.setGau s x1) := by
  unfold State.setGau
  try dsimp only
  repeat' first | (with_reducible first | assumption | apply State.gauShow_keeps | apply State.put_keeps | split | intro _) | assumption

theorem State.gauPack_keeps (h : Keeps B M z s) (b_gau : B .gau) : Keeps B M z (State.gauPack s) := by
  unfold State.gauPack
  try dsimp only
  repeat' first | (with_reducible first | assumption | apply State.setGau_keeps | split | intro _ | refine keeps_mk ?_ rfl rfl) | assumption

theorem State.gauResume_keeps (h : Keeps B M z s) (b_gau : B .gau) : Keeps B M z (State.gauResume s) := by
  unfold State.gauResume
  try dsimp only
  repeat' first | (with_reducible first | assumption | apply State.setGau_keeps | split | intro _) | assumption

theorem State.discharge_keeps (h : Keeps B M z s) (b_gau : B .gau) (b_mem : B .mem) (b_evt : B .evt) (b_ldg : B .ldg) (hM : M) : Keeps B M z (State.discharge s x1) := by
  unfold State.discharge
  try dsimp only
  repeat' first | (with_reducible first | assumption | apply State.wr_keeps | apply State.gaugeRecord_keeps | apply State.recomputeQuse_keeps | split | intro _ | refine keeps_mk ?_ rfl rfl) | assumption

theorem State.countTick_keeps (h : Keeps B M z s) (b_gau : B .gau) (b_mem : B .mem) (b_evt : B .evt) (b_ldg : B .ldg) (hM : M) : Keeps B M z (State.countTick s x1) := by
  unfold State.countTick
  try dsimp only
  repeat' first | (with_reducible first | assumption | apply State.putAcc_keeps | apply State.discharge_keeps | split | intro _ | refine keeps_mk ?_ rfl rfl) | assumption

theorem State.countEarly_keeps (h : Keeps B M z s) (b_mem : B .mem) (b_evt : B .evt) (b_gau : B .gau) (hM : M) : Keeps B M z (State.countEarly s) := by
  unfold State.countEarly
  try dsimp only
  repeat' first | (with_reducible first | assumption | apply State.setFlag_keeps | apply State.putBit_keeps | split | intro _) | assumption

theorem State.bandTick_keeps (h : Keeps B M z s) (b_gau : B .gau) (b_mem : B .mem) (b_evt : B .evt) (hM : M) : Keeps B M z (State.bandTick s x1) := by
  unfold State.bandTick
  try dsimp only
  repeat' first | (with_reducible first | assumption | apply State.putBit_keeps | apply State.setFlag_keeps | split | intro _ | refine keeps_mk ?_ rfl rfl) | assumption

theorem State.steer_keeps (h : Keeps B M z s) : Keeps B M z (State.steer s x1).2 := by
  unfold State.steer
  try dsimp only
  repeat' first | (with_reducible first | assumption | apply State.drawRat_keeps | split | intro _) | assumption

theorem State.displayTick_keeps (h : Keeps B M z s) (b_gau : B .gau) : Keeps B M z (State.displayTick s x1 x2) := by
  unfold State.displayTick
  try dsimp only
  repeat' first | (with_reducible first | assumption | apply State.steer_keeps | apply State.putBit_keeps | split | intro _ | refine keeps_mk ?_ rfl rfl) | assumption

theorem execGaugeTick_keeps (b_bkp : B .bkp) (b_svy : B .svy) (b_gau : B .gau) (b_mem : B .mem) (b_evt : B .evt) (b_ldg : B .ldg) (hM : M) : ∃ t, execGaugeTick x0 s = .next t ∧ Keeps B M s t := by
  refine ⟨_, rfl, ?_⟩
  have h : Keeps B M s s := Keeps.refl s
  try dsimp only
  repeat' first | (with_reducible first | assumption | apply State.showIbat_keeps | apply State.wr_keeps | apply State.thermal_keeps | apply State.put_keeps | apply State.gauShow_keeps | apply State.displayTick_keeps | apply State.bandTick_keeps | apply State.countEarly_keeps | apply State.countTick_keeps | split | intro _ | refine keeps_mk ?_ rfl rfl) | assumption

theorem execGauStale_keeps (b_mem : B .mem) (b_evt : B .evt) (b_gau : B .gau) (hM : M) : ∃ t, execGauStale s = .next t ∧ Keeps B M s t := by
  refine ⟨_, rfl, ?_⟩
  have h : Keeps B M s s := Keeps.refl s
  try dsimp only
  repeat' first | (with_reducible first | assumption | apply State.setFlag_keeps | apply State.putBit_keeps | split | intro _) | assumption

theorem execGaugeHourlyRecord_keeps (b_mem : B .mem) (b_evt : B .evt) (b_ldg : B .ldg) (hM : M) : ∃ t, execGaugeHourlyRecord s = .next t ∧ Keeps B M s t := by
  refine ⟨_, rfl, ?_⟩
  have h : Keeps B M s s := Keeps.refl s
  try dsimp only
  repeat' first | (with_reducible first | assumption | apply State.gaugeRecord_keeps | split | intro _) | assumption

theorem State.wrCycles_keeps (h : Keeps B M z s) (b_gau : B .gau) (b_mem : B .mem) (b_evt : B .evt) (hM : M) : Keeps B M z (State.wrCycles s x1) := by
  unfold State.wrCycles
  try dsimp only
  repeat' first | (with_reducible first | assumption | apply State.wr_keeps | apply State.setFlag_keeps | split | intro _) | assumption

theorem execGauCyclesWrite_keeps (b_mem : B .mem) (b_evt : B .evt) (b_gau : B .gau) (hM : M) : ∃ t, execGauCyclesWrite x0 x1 x2 s = .next t ∧ Keeps B M s t := by
  refine ⟨_, rfl, ?_⟩
  have h : Keeps B M s s := Keeps.refl s
  try dsimp only
  repeat' first | (with_reducible first | assumption | apply State.guardWrite_keeps | apply State.wrCycles_keeps | split | intro _) | assumption

theorem State.wrGauCfg_keeps (h : Keeps B M z s) (b_gau : B .gau) (bx1 : B x1.block) : Keeps B M z (State.wrGauCfg s x1 x2) := by
  unfold State.wrGauCfg
  try dsimp only
  repeat' first | (with_reducible first | assumption | apply State.recomputeQuse_keeps | apply State.writeRw_keeps | split | intro _) | assumption

theorem execGaugeConfigWrite_keeps (hB : ∀ b, B b) (hM : M) : ∃ t, execGaugeConfigWrite x0 x1 x2 x3 s = .next t ∧ Keeps B M s t := by
  refine ⟨_, rfl, ?_⟩
  have h : Keeps B M s s := Keeps.refl s
  try dsimp only
  repeat' first | (with_reducible first | assumption | apply State.guardWrite_keeps | apply State.wrGauCfg_keeps | split | intro _) | assumption | exact hB _

theorem State.wrGauCtl_keeps (h : Keeps B M z s) (b_gau : B .gau) (b_mem : B .mem) (b_evt : B .evt) (hM : M) : Keeps B M z (State.wrGauCtl s x1) := by
  unfold State.wrGauCtl
  try dsimp only
  repeat' first | (with_reducible first | assumption | apply State.putBit_keeps | apply State.wr_keeps | apply State.put_keeps | apply State.gauShow_keeps | apply State.setFlag_keeps | split | intro _ | refine keeps_mk ?_ rfl rfl) | assumption

theorem execNewpack_keeps (b_mem : B .mem) (b_evt : B .evt) (b_gau : B .gau) (hM : M) : ∃ t, execNewpack x0 x1 x2 s = .next t ∧ Keeps B M s t := by
  refine ⟨_, rfl, ?_⟩
  have h : Keeps B M s s := Keeps.refl s
  try dsimp only
  repeat' first | (with_reducible first | assumption | apply State.guardSent_keeps | apply State.wrGauCtl_keeps | split | intro _) | assumption

theorem State.rdAccLo_keeps (h : Keeps B M z s) : Keeps B M z (State.rdAccLo s x1).2 := by
  unfold State.rdAccLo
  try dsimp only
  repeat' first | (with_reducible first | assumption | split | intro _ | refine keeps_mk ?_ rfl rfl) | assumption

theorem State.setHot_keeps (h : Keeps B M z s) : Keeps B M z (State.setHot s x1 x2) := by
  unfold State.setHot
  try dsimp only
  repeat' first | (with_reducible first | assumption | split | intro _ | refine keeps_mk ?_ rfl rfl) | assumption

theorem State.hotMark_keeps (h : Keeps B M z s) : Keeps B M z (State.hotMark s x1) := by
  unfold State.hotMark
  try dsimp only
  repeat' first | (with_reducible first | assumption | apply State.setHot_keeps | split | intro _) | assumption

theorem State.park_keeps (h : Keeps B M z s) (b_lpe : B .lpe) (b_swy : B .swy) : Keeps B M z (State.park s x1 x2) := by
  unfold State.park
  try dsimp only
  repeat' first | (with_reducible first | assumption | apply State.setHot_keeps | apply State.unsettle_keeps | apply State.put_keeps | apply State.message_keeps | apply State.putStgX_keeps | split | intro _) | assumption

theorem State.unpark_keeps (h : Keeps B M z s) (b_lpe : B .lpe) (b_swy : B .swy) : Keeps B M z (State.unpark s x1 x2) := by
  unfold State.unpark
  try dsimp only
  repeat' first | (with_reducible first | assumption | apply State.message_keeps | apply State.stageTest_keeps | split | intro _) | assumption

theorem State.ffMode_keeps (h : Keeps B M z s) (b_pol : B .pol) : Keeps B M z (State.ffMode s x1 x2) := by
  unfold State.ffMode
  try dsimp only
  repeat' first | (with_reducible first | assumption | apply State.draw_keeps | apply State.putBit_keeps | apply State.message_keeps | split | intro _ | refine keeps_mk ?_ rfl rfl) | assumption

theorem State.ffReturn_keeps (h : Keeps B M z s) (b_pol : B .pol) : Keeps B M z (State.ffReturn s) := by
  unfold State.ffReturn
  try dsimp only
  repeat' first | (with_reducible first | assumption | apply State.ffMode_keeps | apply each_keeps | split | intro _) | assumption

theorem State.rideBegin_keeps (h : Keeps B M z s) (b_pol : B .pol) : Keeps B M z (State.rideBegin s x1) := by
  unfold State.rideBegin
  try dsimp only
  repeat' first | (with_reducible first | assumption | apply State.putBit_keeps | split | intro _ | refine keeps_mk ?_ rfl rfl) | assumption

theorem State.setChg_keeps (h : Keeps B M z s) (b_bkp : B .bkp) (b_mem : B .mem) (b_evt : B .evt) (b_gau : B .gau) (b_ldg : B .ldg) (hM : M) : Keeps B M z (State.setChg s x1) := by
  unfold State.setChg
  try dsimp only
  repeat' first | (with_reducible first | assumption | apply State.put_keeps | apply State.condFall_keeps | apply State.happen_keeps | apply State.fullAnchor_keeps | apply State.condRise_keeps | apply State.chargerLoops_keeps | split | intro _) | assumption

theorem State.setPath_keeps (h : Keeps B M z s) (b_pol : B .pol) (b_bkp : B .bkp) (b_flt : B .flt) : Keeps B M z (State.setPath s x1) := by
  unfold State.setPath
  try dsimp only
  repeat' first | (with_reducible first | assumption | apply State.ffReturn_keeps | apply State.put_keeps | apply State.live_keeps | apply State.putBit_keeps | split | intro _) | assumption

theorem State.putSrcOk_keeps (h : Keeps B M z s) (b_bkp : B .bkp) : Keeps B M z (State.putSrcOk s x1) := by
  unfold State.putSrcOk
  try dsimp only
  repeat' first | (with_reducible first | assumption | apply State.putBit_keeps | split | intro _) | assumption

theorem State.enterBattery_keeps (h : Keeps B M z s) (b_pol : B .pol) (b_bkp : B .bkp) (b_flt : B .flt) : Keeps B M z (State.enterBattery s) := by
  unfold State.enterBattery
  try dsimp only
  repeat' first | (with_reducible first | assumption | apply State.setPath_keeps | split | intro _) | assumption

theorem State.chgStart_keeps (h : Keeps B M z s) (b_bkp : B .bkp) (b_mem : B .mem) (b_evt : B .evt) (b_gau : B .gau) (b_ldg : B .ldg) (hM : M) : Keeps B M z (State.chgStart s) := by
  unfold State.chgStart
  try dsimp only
  repeat' first | (with_reducible first | assumption | apply State.setChg_keeps | split | intro _) | assumption

theorem execSourceLoss_keeps (b_bkp : B .bkp) (b_pol : B .pol) (b_mem : B .mem) (b_evt : B .evt) (b_gau : B .gau) (b_ldg : B .ldg) (b_flt : B .flt) (hM : M) : ∃ t, execSourceLoss x0 x1 s = .next t ∧ Keeps B M s t := by
  refine ⟨_, rfl, ?_⟩
  have h : Keeps B M s s := Keeps.refl s
  try dsimp only
  repeat' first | (with_reducible first | assumption | apply State.putSrcOk_keeps | apply State.rideBegin_keeps | apply State.setChg_keeps | apply State.setPath_keeps | apply State.setFlag_keeps | apply State.addSat_keeps | split | intro _) | assumption

theorem execHandoverComplete_keeps (b_pol : B .pol) (b_bkp : B .bkp) (b_flt : B .flt) : ∃ t, execHandoverComplete x0 s = .next t ∧ Keeps B M s t := by
  refine ⟨_, rfl, ?_⟩
  have h : Keeps B M s s := Keeps.refl s
  try dsimp only
  repeat' first | (with_reducible first | assumption | apply State.enterBattery_keeps | apply State.putSrcOk_keeps | split | intro _) | assumption

theorem execHandoverTimeout_keeps (b_flt : B .flt) (b_tpl : B .tpl) (b_mem : B .mem) (b_evt : B .evt) (b_ttb : B .ttb) (b_rail : B .rail) (b_swy : B .swy) (b_sup : B .sup) (b_ldg : B .ldg) (b_lpe : B .lpe) (b_lnk : B .lnk) (hM : M) : ∃ t, execHandoverTimeout s = .next t ∧ Keeps B M s t := by
  refine ⟨_, rfl, ?_⟩
  have h : Keeps B M s s := Keeps.refl s
  try dsimp only
  repeat' first | (with_reducible first | assumption | apply State.raise_keeps | split | intro _) | assumption

theorem execSysSag_keeps (b_flt : B .flt) (b_tpl : B .tpl) (b_mem : B .mem) (b_evt : B .evt) (b_ttb : B .ttb) (b_rail : B .rail) (b_swy : B .swy) (b_sup : B .sup) (b_ldg : B .ldg) (b_lpe : B .lpe) (b_lnk : B .lnk) (hM : M) : ∃ t, execSysSag s = .next t ∧ Keeps B M s t := by
  refine ⟨_, rfl, ?_⟩
  have h : Keeps B M s s := Keeps.refl s
  try dsimp only
  repeat' first | (with_reducible first | assumption | apply State.raise_keeps | split | intro _) | assumption

theorem execSourceReturn_keeps (b_bkp : B .bkp) (b_pol : B .pol) (b_flt : B .flt) : ∃ t, execSourceReturn s = .next t ∧ Keeps B M s t := by
  refine ⟨_, rfl, ?_⟩
  have h : Keeps B M s s := Keeps.refl s
  try dsimp only
  repeat' first | (with_reducible first | assumption | apply State.putSrcOk_keeps | apply State.setPath_keeps | split | intro _) | assumption

theorem State.rejectReturn_keeps (h : Keeps B M z s) (b_mem : B .mem) (b_evt : B .evt) (b_bkp : B .bkp) (hM : M) : Keeps B M z (State.rejectReturn s) := by
  unfold State.rejectReturn
  try dsimp only
  repeat' first | (with_reducible first | assumption | apply State.setFlag_keeps | apply State.addSat_keeps | split | intro _) | assumption

theorem execPathRetrej_keeps (b_bkp : B .bkp) (b_mem : B .mem) (b_evt : B .evt) (b_pol : B .pol) (b_flt : B .flt) (hM : M) : ∃ t, execPathRetrej s = .next t ∧ Keeps B M s t := by
  refine ⟨_, rfl, ?_⟩
  have h : Keeps B M s s := Keeps.refl s
  try dsimp only
  repeat' first | (with_reducible first | assumption | apply State.putSrcOk_keeps | apply State.rejectReturn_keeps | apply State.setPath_keeps | split | intro _) | assumption

theorem execHandbackStart_keeps (b_pol : B .pol) (b_bkp : B .bkp) (b_flt : B .flt) : ∃ t, execHandbackStart s = .next t ∧ Keeps B M s t := by
  refine ⟨_, rfl, ?_⟩
  have h : Keeps B M s s := Keeps.refl s
  try dsimp only
  repeat' first | (with_reducible first | assumption | apply State.setPath_keeps | split | intro _) | assumption

theorem execPathHandback_keeps (b_bkp : B .bkp) (b_mem : B .mem) (b_evt : B .evt) (b_gau : B .gau) (b_ldg : B .ldg) (b_pol : B .pol) (b_flt : B .flt) (hM : M) : ∃ t, execPathHandback s = .next t ∧ Keeps B M s t := by
  refine ⟨_, rfl, ?_⟩
  have h : Keeps B M s s := Keeps.refl s
  try dsimp only
  repeat' first | (with_reducible first | assumption | apply State.chgStart_keeps | apply State.happen_keeps | apply State.setPath_keeps | split | intro _) | assumption

theorem execHandbackTimeout_keeps (b_mem : B .mem) (b_evt : B .evt) (b_bkp : B .bkp) (b_pol : B .pol) (b_flt : B .flt) (hM : M) : ∃ t, execHandbackTimeout s = .next t ∧ Keeps B M s t := by
  refine ⟨_, rfl, ?_⟩
  have h : Keeps B M s s := Keeps.refl s
  try dsimp only
  repeat' first | (with_reducible first | assumption | apply State.setFlag_keeps | apply State.rejectReturn_keeps | apply State.enterBattery_keeps | split | intro _) | assumption

theorem execBatCut_keeps (b_flt : B .flt) (b_tpl : B .tpl) (b_mem : B .mem) (b_evt : B .evt) (b_ttb : B .ttb) (b_rail : B .rail) (b_swy : B .swy) (b_sup : B .sup) (b_ldg : B .ldg) (b_lpe : B .lpe) (b_lnk : B .lnk) (b_gau : B .gau) (b_bkp : B .bkp) (hM : M) : ∃ t, execBatCut s = .next t ∧ Keeps B M s t := by
  refine ⟨_, rfl, ?_⟩
  have h : Keeps B M s s := Keeps.refl s
  try dsimp only
  repeat' first | (with_reducible first | assumption | apply State.raise_keeps | apply State.emptyAnchor_keeps | apply State.setFlag_keeps | apply State.live_keeps | apply State.putBit_keeps | split | intro _) | assumption

theorem State.contact_keeps (h : Keeps B M z s) (b_bkp : B .bkp) : Keeps B M z (State.contact s x1) := by
  unfold State.contact
  try dsimp only
  repeat' first | (with_reducible first | assumption | apply State.put_keeps | split | intro _) | assumption

theorem State.dropHeld_keeps (h : Keeps B M z s) (b_rail : B .rail) (b_ttb : B .ttb) : Keeps B M z (State.dropHeld s) := by
  unfold State.dropHeld
  try dsimp only
  repeat' first | (with_reducible first | assumption | apply State.put_keeps | apply State.dropRequests_keeps | apply each_keeps | split | intro _) | assumption

theorem State.allOff_keeps (h : Keeps B M z s) (b_mem : B .mem) (b_evt : B .evt) (b_ttb : B .ttb) (b_pwr : B .pwr) (b_rail : B .rail) (b_swy : B .swy) (b_sup : B .sup) (b_ldg : B .ldg) (b_lpe : B .lpe) (b_flt : B .flt) (b_tpl : B .tpl) (b_lnk : B .lnk) (b_pol : B .pol) (hM : M) : Keeps B M z (State.allOff s) := by
  unfold State.allOff
  try dsimp only
  repeat' first | (with_reducible first | assumption | apply State.hostGroup_keeps | apply State.railOff_keeps | apply each_keeps | split | intro _) | assumption

theorem State.wrShip_keeps (h : Keeps B M z s) (b_mem : B .mem) (b_evt : B .evt) (b_ttb : B .ttb) (b_pwr : B .pwr) (b_rail : B .rail) (b_swy : B .swy) (b_sup : B .sup) (b_ldg : B .ldg) (b_lpe : B .lpe) (b_flt : B .flt) (b_tpl : B .tpl) (b_lnk : B .lnk) (b_pol : B .pol) (b_bkp : B .bkp) (hM : M) : Keeps B M z (State.wrShip s x1) := by
  unfold State.wrShip
  try dsimp only
  repeat' first | (with_reducible first | assumption | apply State.allOff_keeps | apply State.dropHeld_keeps | apply State.putBit_keeps | split | intro _) | assumption

theorem execShipRequest_keeps (b_mem : B .mem) (b_evt : B .evt) (b_ttb : B .ttb) (b_pwr : B .pwr) (b_rail : B .rail) (b_swy : B .swy) (b_sup : B .sup) (b_ldg : B .ldg) (b_lpe : B .lpe) (b_flt : B .flt) (b_tpl : B .tpl) (b_lnk : B .lnk) (b_pol : B .pol) (b_bkp : B .bkp) (hM : M) : ∃ t, execShipRequest x0 s = .next t ∧ Keeps B M s t := by
  refine ⟨_, rfl, ?_⟩
  have h : Keeps B M s s := Keeps.refl s
  try dsimp only
  repeat' first | (with_reducible first | assumption | apply State.guardWrite_keeps | apply State.wrShip_keeps | apply State.contact_keeps | split | intro _) | assumption

theorem execShipCancel_keeps (b_mem : B .mem) (b_evt : B .evt) (b_ttb : B .ttb) (b_pwr : B .pwr) (b_rail : B .rail) (b_swy : B .swy) (b_sup : B .sup) (b_ldg : B .ldg) (b_lpe : B .lpe) (b_flt : B .flt) (b_tpl : B .tpl) (b_lnk : B .lnk) (b_pol : B .pol) (b_bkp : B .bkp) (hM : M) : ∃ t, execShipCancel x0 s = .next t ∧ Keeps B M s t := by
  refine ⟨_, rfl, ?_⟩
  have h : Keeps B M s s := Keeps.refl s
  try dsimp only
  repeat' first | (with_reducible first | assumption | apply State.guardWrite_keeps | apply State.wrShip_keeps | apply State.contact_keeps | split | intro _) | assumption

theorem execButtonChange_keeps (b_bkp : B .bkp) : ∃ t, execButtonChange x0 s = .next t ∧ Keeps B M s t := by
  refine ⟨_, rfl, ?_⟩
  have h : Keeps B M s s := Keeps.refl s
  try dsimp only
  repeat' first | (with_reducible first | assumption | apply State.putBit_keeps | split | intro _ | refine keeps_mk ?_ rfl rfl) | assumption

theorem State.chgFollow_keeps (h : Keeps B M z s) (b_bkp : B .bkp) (b_mem : B .mem) (b_evt : B .evt) (b_gau : B .gau) (b_ldg : B .ldg) (hM : M) : Keeps B M z (State.chgFollow x0 s) := by
  unfold State.chgFollow
  try dsimp only
  repeat' first | (with_reducible first | assumption | apply State.setChg_keeps | apply State.chgStart_keeps | split | intro _) | assumption

theorem State.wrBatcfg_keeps (h : Keeps B M z s) (b_bkp : B .bkp) (b_gau : B .gau) (b_mem : B .mem) (b_evt : B .evt) (b_ldg : B .ldg) (hM : M) : Keeps B M z (State.wrBatcfg s x1) := by
  unfold State.wrBatcfg
  try dsimp only
  repeat' first | (with_reducible first | assumption | apply State.writeRw_keeps | apply State.put_keeps | apply State.gauPack_keeps | apply State.chgFollow_keeps | apply State.setFlag_keeps | split | intro _) | assumption

theorem execBkpBatcfgWrite_keeps (b_mem : B .mem) (b_evt : B .evt) (b_bkp : B .bkp) (b_gau : B .gau) (b_ldg : B .ldg) (hM : M) : ∃ t, execBkpBatcfgWrite x0 x1 x2 s = .next t ∧ Keeps B M s t := by
  refine ⟨_, rfl, ?_⟩
  have h : Keeps B M s s := Keeps.refl s
  try dsimp only
  repeat' first | (with_reducible first | assumption | apply State.guardWrite_keeps | apply State.wrBatcfg_keeps | apply State.contact_keeps | split | intro _) | assumption

theorem State.wrChg_keeps (h : Keeps B M z s) (b_bkp : B .bkp) (b_mem : B .mem) (b_evt : B .evt) (b_gau : B .gau) (b_ldg : B .ldg) (hM : M) : Keeps B M z (State.wrChg s x1 x2) := by
  unfold State.wrChg
  try dsimp only
  repeat' first | (with_reducible first | assumption | apply State.putBit_keeps | apply State.writeRw_keeps | apply State.chgFollow_keeps | apply State.setFlag_keeps | split | intro _) | assumption

theorem execBkpChgWrite_keeps (b_mem : B .mem) (b_evt : B .evt) (b_bkp : B .bkp) (b_gau : B .gau) (b_ldg : B .ldg) (hM : M) : ∃ t, execBkpChgWrite x0 x1 x2 s = .next t ∧ Keeps B M s t := by
  refine ⟨_, rfl, ?_⟩
  have h : Keeps B M s s := Keeps.refl s
  try dsimp only
  repeat' first | (with_reducible first | assumption | apply State.guardWrite_keeps | apply State.wrChg_keeps | apply State.contact_keeps | split | intro _) | assumption

theorem State.wrPath_keeps (h : Keeps B M z s) (b_bkp : B .bkp) : Keeps B M z (State.wrPath s x1) := by
  unfold State.wrPath
  try dsimp only
  repeat' first | (with_reducible first | assumption | apply State.writeRw_keeps | split | intro _) | assumption

theorem execBkpPathWrite_keeps (b_mem : B .mem) (b_evt : B .evt) (b_bkp : B .bkp) (hM : M) : ∃ t, execBkpPathWrite x0 x1 x2 s = .next t ∧ Keeps B M s t := by
  refine ⟨_, rfl, ?_⟩
  have h : Keeps B M s s := Keeps.refl s
  try dsimp only
  repeat' first | (with_reducible first | assumption | apply State.guardWrite_keeps | apply State.wrPath_keeps | apply State.contact_keeps | split | intro _) | assumption

theorem State.wrQual_keeps (h : Keeps B M z s) (b_bkp : B .bkp) : Keeps B M z (State.wrQual s x1) := by
  unfold State.wrQual
  try dsimp only
  repeat' first | (with_reducible first | assumption | apply State.writeRw_keeps | split | intro _) | assumption

theorem execBkpQualWrite_keeps (b_mem : B .mem) (b_evt : B .evt) (b_bkp : B .bkp) (hM : M) : ∃ t, execBkpQualWrite x0 x1 x2 s = .next t ∧ Keeps B M s t := by
  refine ⟨_, rfl, ?_⟩
  have h : Keeps B M s s := Keeps.refl s
  try dsimp only
  repeat' first | (with_reducible first | assumption | apply State.guardWrite_keeps | apply State.wrQual_keeps | apply State.contact_keeps | split | intro _) | assumption

theorem State.wrBkpTimer_keeps (h : Keeps B M z s) (b_bkp : B .bkp) : Keeps B M z (State.wrBkpTimer s x1) := by
  unfold State.wrBkpTimer
  try dsimp only
  repeat' first | (with_reducible first | assumption | apply State.writeRw_keeps | split | intro _) | assumption

theorem State.wrBtn_keeps (h : Keeps B M z s) (b_bkp : B .bkp) : Keeps B M z (State.wrBtn s x1) := by
  unfold State.wrBtn
  try dsimp only
  repeat' first | (with_reducible first | assumption | apply State.writeRw_keeps | split | intro _) | assumption

theorem execKick_keeps (b_mem : B .mem) (b_evt : B .evt) (b_bkp : B .bkp) (hM : M) : ∃ t, execKick x0 x1 x2 s = .next t ∧ Keeps B M s t := by
  refine ⟨_, rfl, ?_⟩
  have h : Keeps B M s s := Keeps.refl s
  try dsimp only
  repeat' first | (with_reducible first | assumption | apply State.guardWrite_keeps | apply State.contact_keeps | apply State.writeRw_keeps | split | intro _) | assumption

theorem execChgWdog_keeps (b_bkp : B .bkp) (b_mem : B .mem) (b_evt : B .evt) (b_gau : B .gau) (b_ldg : B .ldg) (hM : M) : ∃ t, execChgWdog s = .next t ∧ Keeps B M s t := by
  refine ⟨_, rfl, ?_⟩
  have h : Keeps B M s s := Keeps.refl s
  try dsimp only
  repeat' first | (with_reducible first | assumption | apply State.put_keeps | apply State.wr_keeps | apply State.setFlag_keeps | apply State.putBit_keeps | apply State.chgFollow_keeps | split | intro _) | assumption

theorem State.wrBkpFlag_keeps (h : Keeps B M z s) (b_mem : B .mem) (b_evt : B .evt) (b_bkp : B .bkp) (b_gau : B .gau) (b_ldg : B .ldg) (hM : M) : Keeps B M z (State.wrBkpFlag s x1) := by
  unfold State.wrBkpFlag
  try dsimp only
  repeat' first | (with_reducible first | assumption | apply State.clearFlags_keeps | apply State.setChg_keeps | split | intro _) | assumption

theorem execBkpFlagWrite_keeps (b_mem : B .mem) (b_evt : B .evt) (b_bkp : B .bkp) (b_gau : B .gau) (b_ldg : B .ldg) (hM : M) : ∃ t, execBkpFlagWrite x0 x1 x2 s = .next t ∧ Keeps B M s t := by
  refine ⟨_, rfl, ?_⟩
  have h : Keeps B M s s := Keeps.refl s
  try dsimp only
  repeat' first | (with_reducible first | assumption | apply State.guardWrite_keeps | apply State.wrBkpFlag_keeps | apply State.contact_keeps | split | intro _) | assumption

theorem execCheckEnd_keeps (b_bkp : B .bkp) (b_mem : B .mem) (b_evt : B .evt) (b_gau : B .gau) (b_ldg : B .ldg) (hM : M) : ∃ t, execCheckEnd x0 s = .next t ∧ Keeps B M s t := by
  refine ⟨_, rfl, ?_⟩
  have h : Keeps B M s s := Keeps.refl s
  try dsimp only
  repeat' first | (with_reducible first | assumption | apply State.setChg_keeps | split | intro _) | assumption

theorem execPrechargeEnd_keeps (b_bkp : B .bkp) (b_mem : B .mem) (b_evt : B .evt) (b_gau : B .gau) (b_ldg : B .ldg) (hM : M) : ∃ t, execPrechargeEnd s = .next t ∧ Keeps B M s t := by
  refine ⟨_, rfl, ?_⟩
  have h : Keeps B M s s := Keeps.refl s
  try dsimp only
  repeat' first | (with_reducible first | assumption | apply State.setChg_keeps | split | intro _) | assumption

theorem execCvEntry_keeps (b_bkp : B .bkp) (b_mem : B .mem) (b_evt : B .evt) (b_gau : B .gau) (b_ldg : B .ldg) (hM : M) : ∃ t, execCvEntry s = .next t ∧ Keeps B M s t := by
  refine ⟨_, rfl, ?_⟩
  have h : Keeps B M s s := Keeps.refl s
  try dsimp only
  repeat' first | (with_reducible first | assumption | apply State.setChg_keeps | split | intro _) | assumption

theorem execChgDone_keeps (b_bkp : B .bkp) (b_mem : B .mem) (b_evt : B .evt) (b_gau : B .gau) (b_ldg : B .ldg) (hM : M) : ∃ t, execChgDone s = .next t ∧ Keeps B M s t := by
  refine ⟨_, rfl, ?_⟩
  have h : Keeps B M s s := Keeps.refl s
  try dsimp only
  repeat' first | (with_reducible first | assumption | apply State.setChg_keeps | split | intro _) | assumption

theorem execRecharge_keeps (b_bkp : B .bkp) (b_mem : B .mem) (b_evt : B .evt) (b_gau : B .gau) (b_ldg : B .ldg) (hM : M) : ∃ t, execRecharge s = .next t ∧ Keeps B M s t := by
  refine ⟨_, rfl, ?_⟩
  have h : Keeps B M s s := Keeps.refl s
  try dsimp only
  repeat' first | (with_reducible first | assumption | apply State.setChg_keeps | split | intro _) | assumption

theorem execPackTempOut_keeps (b_bkp : B .bkp) (b_mem : B .mem) (b_evt : B .evt) (b_gau : B .gau) (b_ldg : B .ldg) (hM : M) : ∃ t, execPackTempOut s = .next t ∧ Keeps B M s t := by
  refine ⟨_, rfl, ?_⟩
  have h : Keeps B M s s := Keeps.refl s
  try dsimp only
  repeat' first | (with_reducible first | assumption | apply State.setChg_keeps | split | intro _) | assumption

theorem execPackTempBack_keeps (b_bkp : B .bkp) (b_mem : B .mem) (b_evt : B .evt) (b_gau : B .gau) (b_ldg : B .ldg) (hM : M) : ∃ t, execPackTempBack s = .next t ∧ Keeps B M s t := by
  refine ⟨_, rfl, ?_⟩
  have h : Keeps B M s s := Keeps.refl s
  try dsimp only
  repeat' first | (with_reducible first | assumption | apply State.setChg_keeps | split | intro _) | assumption

theorem execBatAbsent_keeps (b_gau : B .gau) (b_mem : B .mem) (b_evt : B .evt) (b_ldg : B .ldg) (b_bkp : B .bkp) (hM : M) : ∃ t, execBatAbsent s = .next t ∧ Keeps B M s t := by
  refine ⟨_, rfl, ?_⟩
  have h : Keeps B M s s := Keeps.refl s
  try dsimp only
  repeat' first | (with_reducible first | assumption | apply State.gauFreeze_keeps | apply State.setFlag_keeps | apply State.putBit_keeps | apply State.setChg_keeps | split | intro _) | assumption

theorem execBatPresent_keeps (b_gau : B .gau) (b_mem : B .mem) (b_evt : B .evt) (b_bkp : B .bkp) (b_ldg : B .ldg) (hM : M) : ∃ t, execBatPresent s = .next t ∧ Keeps B M s t := by
  refine ⟨_, rfl, ?_⟩
  have h : Keeps B M s s := Keeps.refl s
  try dsimp only
  repeat' first | (with_reducible first | assumption | apply State.gauResume_keeps | apply State.happen_keeps | apply State.putBit_keeps | apply State.setChg_keeps | apply State.chgStart_keeps | split | intro _) | assumption

theorem execChgTimer_keeps (b_flt : B .flt) (b_tpl : B .tpl) (b_mem : B .mem) (b_evt : B .evt) (b_ttb : B .ttb) (b_rail : B .rail) (b_swy : B .swy) (b_sup : B .sup) (b_ldg : B .ldg) (b_lpe : B .lpe) (b_lnk : B .lnk) (b_bkp : B .bkp) (b_gau : B .gau) (hM : M) : ∃ t, execChgTimer s = .next t ∧ Keeps B M s t := by
  refine ⟨_, rfl, ?_⟩
  have h : Keeps B M s s := Keeps.refl s
  try dsimp only
  repeat' first | (with_reducible first | assumption | apply State.raise_keeps | apply State.setFlag_keeps | apply State.setChg_keeps | split | intro _) | assumption

theorem execChgOv_keeps (b_flt : B .flt) (b_tpl : B .tpl) (b_mem : B .mem) (b_evt : B .evt) (b_ttb : B .ttb) (b_rail : B .rail) (b_swy : B .swy) (b_sup : B .sup) (b_ldg : B .ldg) (b_lpe : B .lpe) (b_lnk : B .lnk) (b_bkp : B .bkp) (b_gau : B .gau) (hM : M) : ∃ t, execChgOv s = .next t ∧ Keeps B M s t := by
  refine ⟨_, rfl, ?_⟩
  have h : Keeps B M s s := Keeps.refl s
  try dsimp only
  repeat' first | (with_reducible first | assumption | apply State.raise_keeps | apply State.setFlag_keeps | apply State.setChg_keeps | split | intro _) | assumption

theorem State.periodStart_keeps (h : Keeps B M z s) (b_wdg : B .wdg) : Keeps B M z (State.periodStart s x1) := by
  unfold State.periodStart
  try dsimp only
  repeat' first | (with_reducible first | assumption | apply State.put_keeps | apply State.putBit_keeps | split | intro _) | assumption

theorem State.wrWdgCfg_keeps (h : Keeps B M z s) (b_mem : B .mem) (b_evt : B .evt) (b_wdg : B .wdg) (hM : M) : Keeps B M z (State.wrWdgCfg s x1 x2) := by
  unfold State.wrWdgCfg
  try dsimp only
  repeat' first | (with_reducible first | assumption | apply State.setFlag_keeps | apply State.writeRw_keeps | apply State.periodStart_keeps | apply State.put_keeps | apply State.putBit_keeps | split | intro _) | assumption

theorem State.ownTasks_keeps (h : Keeps B M z s) (b_mem : B .mem) (b_evt : B .evt) (b_wdg : B .wdg) (hM : M) : Keeps B M z (State.ownTasks s) := by
  unfold State.ownTasks
  try dsimp only
  repeat' first | (with_reducible first | assumption | apply State.wrWdgCfg_keeps | split | intro _) | assumption

theorem State.wrWdgCtl_keeps (h : Keeps B M z s) (b_mem : B .mem) (b_evt : B .evt) (b_wdg : B .wdg) (hM : M) : Keeps B M z (State.wrWdgCtl s x1) := by
  unfold State.wrWdgCtl
  try dsimp only
  repeat' first | (with_reducible first | assumption | apply State.setFlag_keeps | apply State.writeRw_keeps | split | intro _) | assumption

theorem execTaskRegister_keeps (b_mem : B .mem) (b_evt : B .evt) (b_wdg : B .wdg) (hM : M) : ∃ t, execTaskRegister x0 x1 x2 x3 s = .next t ∧ Keeps B M s t := by
  refine ⟨_, rfl, ?_⟩
  have h : Keeps B M s s := Keeps.refl s
  try dsimp only
  repeat' first | (with_reducible first | assumption | apply State.guardWrite_keeps | apply State.wrWdgCfg_keeps | split | intro _) | assumption

theorem execWdgCtlWrite_keeps (b_mem : B .mem) (b_evt : B .evt) (b_wdg : B .wdg) (hM : M) : ∃ t, execWdgCtlWrite x0 x1 x2 s = .next t ∧ Keeps B M s t := by
  refine ⟨_, rfl, ?_⟩
  have h : Keeps B M s s := Keeps.refl s
  try dsimp only
  repeat' first | (with_reducible first | assumption | apply State.guardWrite_keeps | apply State.wrWdgCtl_keeps | split | intro _) | assumption

theorem State.gatesDown_keeps (h : Keeps B M z s) (b_ttb : B .ttb) : Keeps B M z (State.gatesDown s) := by
  unfold State.gatesDown
  try dsimp only
  repeat' first | (with_reducible first | assumption | apply State.resetLow_keeps | apply each_keeps | split | intro _ | refine keeps_mk ?_ rfl rfl) | assumption

theorem State.cxEnd_keeps (h : Keeps B M z s) (b_twb : B .twb) (b_mem : B .mem) (b_evt : B .evt) (hM : M) : Keeps B M z (State.cxEnd s x1 x2) := by
  unfold State.cxEnd
  try dsimp only
  repeat' first | (with_reducible first | assumption | apply State.put_keeps | apply State.putBit_keeps | apply State.setFlagI_keeps | split | intro _ | refine keeps_mk ?_ rfl rfl) | assumption

theorem State.cxAbort_keeps (h : Keeps B M z s) (b_twb : B .twb) (b_mem : B .mem) (b_evt : B .evt) (hM : M) : Keeps B M z (State.cxAbort s) := by
  unfold State.cxAbort
  try dsimp only
  repeat' first | (with_reducible first | assumption | apply State.draw_keeps | apply State.cxEnd_keeps | split | intro _) | assumption

theorem State.deepAbandon_keeps (h : Keeps B M z s) (b_pwr : B .pwr) : Keeps B M z (State.deepAbandon s) := by
  unfold State.deepAbandon
  try dsimp only
  repeat' first | (with_reducible first | assumption | apply State.put_keeps | split | intro _ | refine keeps_mk ?_ rfl rfl) | assumption

theorem State.expire_keeps (h : Keeps B M z s) (b_wdg : B .wdg) (b_pwr : B .pwr) (b_twb : B .twb) (b_mem : B .mem) (b_evt : B .evt) (b_ldg : B .ldg) (b_ttb : B .ttb) (b_rail : B .rail) (b_swy : B .swy) (b_sup : B .sup) (b_lpe : B .lpe) (b_flt : B .flt) (b_tpl : B .tpl) (b_lnk : B .lnk) (b_pol : B .pol) (hM : M) : Keeps B M z (State.expire s x1 x2 x3) := by
  unfold State.expire
  try dsimp only
  repeat' first | (with_reducible first | assumption | apply State.wr_keeps | apply State.addSat_keeps | apply State.deepAbandon_keeps | apply State.cxAbort_keeps | apply State.ledgerAbandon_keeps | apply State.allOff_keeps | apply State.rampDown_keeps | apply State.gatesDown_keeps | apply each_keeps | split | intro _ | refine keeps_mk ?_ rfl rfl) | assumption

theorem execDrainTimeout_keeps (b_ttb : B .ttb) : ∃ t, execDrainTimeout s = .next t ∧ Keeps B M s t := by
  refine ⟨_, rfl, ?_⟩
  have h : Keeps B M s s := Keeps.refl s
  try dsimp only
  repeat' first | (with_reducible first | assumption | apply State.gatesDown_keeps | split | intro _ | refine keeps_mk ?_ rfl rfl) | assumption

theorem State.tokenIn_keeps (h : Keeps B M z s) (b_wdg : B .wdg) : Keeps B M z (State.tokenIn s x1).1 := by
  unfold State.tokenIn
  try dsimp only
  repeat' first | (with_reducible first | assumption | apply State.put_keeps | apply State.putBit_keeps | split | intro _) | assumption

theorem State.periodsEnd_keeps (h : Keeps B M z s) (b_wdg : B .wdg) : Keeps B M z (State.periodsEnd s x1) := by
  unfold State.periodsEnd
  try dsimp only
  repeat' first | (with_reducible first | assumption | apply State.periodStart_keeps | apply each_keeps | split | intro _) | assumption

theorem State.fails_keeps (h : Keeps B M z s) (b_wdg : B .wdg) (b_pwr : B .pwr) (b_twb : B .twb) (b_mem : B .mem) (b_evt : B .evt) (b_ldg : B .ldg) (b_ttb : B .ttb) (b_rail : B .rail) (b_swy : B .swy) (b_sup : B .sup) (b_lpe : B .lpe) (b_flt : B .flt) (b_tpl : B .tpl) (b_lnk : B .lnk) (b_pol : B .pol) (hM : M) : Keeps B M z (State.fails s x1) := by
  unfold State.fails
  try dsimp only
  repeat' first | (with_reducible first | assumption | apply State.expire_keeps | split | intro _) | assumption

theorem State.edgeReport_keeps (h : Keeps B M z s) (b_mem : B .mem) (b_evt : B .evt) (b_wdg : B .wdg) (hM : M) : Keeps B M z (State.edgeReport s x1 x2) := by
  unfold State.edgeReport
  try dsimp only
  repeat' first | (with_reducible first | assumption | apply State.setFlagI_keeps | apply State.addSat_keeps | apply State.wr_keeps | split | intro _) | assumption

theorem State.tokenEdge_keeps (h : Keeps B M z s) (b_mem : B .mem) (b_evt : B .evt) (b_wdg : B .wdg) (hM : M) : Keeps B M z (State.tokenEdge s x1 x2).1 := by
  unfold State.tokenEdge
  try dsimp only
  repeat' first | (with_reducible first | assumption | apply State.edgeReport_keeps | apply State.tokenIn_keeps | apply State.putBit_keeps | apply State.periodStart_keeps | split | intro _) | assumption

theorem State.judgeToken_keeps (h : Keeps B M z s) (b_mem : B .mem) (b_evt : B .evt) (b_wdg : B .wdg) (hM : M) : Keeps B M z (State.judgeToken s x1 x2 x3).1 := by
  unfold State.judgeToken
  try dsimp only
  repeat' first | (with_reducible first | assumption | apply State.setFlagI_keeps | apply State.tokenEdge_keeps | apply State.tokenIn_keeps | split | intro _) | assumption

theorem State.wrToken_keeps (h : Keeps B M z s) (b_mem : B .mem) (b_evt : B .evt) (b_wdg : B .wdg) (b_pwr : B .pwr) (b_twb : B .twb) (b_ldg : B .ldg) (b_ttb : B .ttb) (b_rail : B .rail) (b_swy : B .swy) (b_sup : B .sup) (b_lpe : B .lpe) (b_flt : B .flt) (b_tpl : B .tpl) (b_lnk : B .lnk) (b_pol : B .pol) (hM : M) : Keeps B M z (State.wrToken s x1 x2 x3 x4) := by
  unfold State.wrToken
  try dsimp only
  repeat' first | (with_reducible first | assumption | apply State.judgeToken_keeps | apply State.fails_keeps | apply State.periodsEnd_keeps | split | intro _) | assumption

theorem execToken_keeps (b_mem : B .mem) (b_evt : B .evt) (b_wdg : B .wdg) (b_pwr : B .pwr) (b_twb : B .twb) (b_ldg : B .ldg) (b_ttb : B .ttb) (b_rail : B .rail) (b_swy : B .swy) (b_sup : B .sup) (b_lpe : B .lpe) (b_flt : B .flt) (b_tpl : B .tpl) (b_lnk : B .lnk) (b_pol : B .pol) (hM : M) : ∃ t, execToken x0 x1 x2 x3 s = .next t ∧ Keeps B M s t := by
  refine ⟨_, rfl, ?_⟩
  have h : Keeps B M s s := Keeps.refl s
  try dsimp only
  repeat' first | (with_reducible first | assumption | apply State.guardSent_keeps | apply State.wrToken_keeps | split | intro _) | assumption

theorem execWindowOpen_keeps (b_wdg : B .wdg) : ∃ t, execWindowOpen x0 s = .next t ∧ Keeps B M s t := by
  refine ⟨_, rfl, ?_⟩
  have h : Keeps B M s s := Keeps.refl s
  try dsimp only
  repeat' first | (with_reducible first | assumption | apply State.putBit_keeps | split | intro _) | assumption

theorem execPeriodEnd_keeps (b_wdg : B .wdg) (b_pwr : B .pwr) (b_twb : B .twb) (b_mem : B .mem) (b_evt : B .evt) (b_ldg : B .ldg) (b_ttb : B .ttb) (b_rail : B .rail) (b_swy : B .swy) (b_sup : B .sup) (b_lpe : B .lpe) (b_flt : B .flt) (b_tpl : B .tpl) (b_lnk : B .lnk) (b_pol : B .pol) (hM : M) : ∃ t, execPeriodEnd x0 x1 s = .next t ∧ Keeps B M s t := by
  refine ⟨_, rfl, ?_⟩
  have h : Keeps B M s s := Keeps.refl s
  try dsimp only
  repeat' first | (with_reducible first | assumption | apply State.fails_keeps | apply State.periodsEnd_keeps | split | intro _) | assumption

theorem execWdgWarn_keeps (b_mem : B .mem) (b_evt : B .evt) (b_wdg : B .wdg) (hM : M) : ∃ t, execWdgWarn x0 s = .next t ∧ Keeps B M s t := by
  refine ⟨_, rfl, ?_⟩
  have h : Keeps B M s s := Keeps.refl s
  try dsimp only
  repeat' first | (with_reducible first | assumption | apply State.setFlagI_keeps | split | intro _) | assumption

end Sys2Proof.Machine
end

