-- ==== Sys2Proof/Laws/KeepsLine.lean ====
section
/-! SUPPORT. What the operations of the Line, events, flows, station time, crossings, policy and the survey converters keep. -/

namespace Sys2Proof.Machine

variable {B : Block → Prop} {M : Prop} {z s : State}

theorem State.setTim_keeps (h : Keeps B M z s) (b_tim : B .tim) (b_mem : B .mem) (b_evt : B .evt) (hM : M) : Keeps B M z (State.setTim s x1) := by
  unfold State.setTim
  try dsimp only
  repeat' first | (with_reducible first | assumption | apply State.put_keeps | apply State.setFlag_keeps | split | intro _) | assumption

theorem State.timFollow_keeps (h : Keeps B M z s) (b_tim : B .tim) (b_mem : B .mem) (b_evt : B .evt) (hM : M) : Keeps B M z (State.timFollow s) := by
  unfold State.timFollow
  try dsimp only
  repeat' first | (with_reducible first | assumption | apply State.setTim_keeps | apply State.put_keeps | apply State.putBit_keeps | split | intro _ | refine keeps_mk ?_ rfl rfl) | assumption

theorem State.sendRouted_keeps (h : Keeps B M z s) : Keeps B M z (State.sendRouted s x1) := by
  unfold State.sendRouted
  try dsimp only
  repeat' first | (with_reducible first | assumption | apply State.send_keeps | split | intro _) | assumption

theorem State.sendPath_keeps (h : Keeps B M z s) : Keeps B M z (State.sendPath s x1 x2 x3) := by
  unfold State.sendPath
  try dsimp only
  repeat' first | (with_reducible first | assumption | apply State.send_keeps | split | intro _) | assumption

theorem State.unreach_keeps (h : Keeps B M z s) (b_mem : B .mem) (b_evt : B .evt) (b_lnk : B .lnk) (hM : M) : Keeps B M z (State.unreach s x1 x2) := by
  unfold State.unreach
  try dsimp only
  repeat' first | (with_reducible first | assumption | apply State.setFlagI_keeps | apply State.addSat_keeps | split | intro _) | assumption

theorem State.portChar_keeps (h : Keeps B M z s) : Keeps B M z (State.portChar s x1) := by
  unfold State.portChar
  try dsimp only
  repeat' first | (with_reducible first | assumption | split | intro _ | refine keeps_mk ?_ rfl rfl) | assumption

theorem State.setPort_keeps (h : Keeps B M z s) (b_lnk : B .lnk) : Keeps B M z (State.setPort s x1 x2) := by
  unfold State.setPort
  try dsimp only
  repeat' first | (with_reducible first | assumption | apply State.put_keeps | split | intro _) | assumption

theorem State.dropTx_keeps (h : Keeps B M z s) : Keeps B M z (State.dropTx s x1 x2) := by
  unfold State.dropTx
  try dsimp only
  repeat' first | (with_reducible first | assumption | split | intro _ | refine keeps_mk ?_ rfl rfl) | assumption

theorem State.portOff_keeps (h : Keeps B M z s) (b_tim : B .tim) (b_lnk : B .lnk) : Keeps B M z (State.portOff s x1) := by
  unfold State.portOff
  try dsimp only
  repeat' first | (with_reducible first | assumption | apply State.putBit_keeps | apply State.wr_keeps | apply State.dropTx_keeps | split | intro _ | refine keeps_mk ?_ rfl rfl) | assumption

theorem State.followPort_keeps (h : Keeps B M z s) (b_flt : B .flt) (b_lnk : B .lnk) (b_tim : B .tim) : Keeps B M z (State.followPort s x1) := by
  unfold State.followPort
  try dsimp only
  repeat' first | (with_reducible first | assumption | apply State.live_keeps | apply State.setPort_keeps | apply State.portOff_keeps | split | intro _) | assumption

theorem State.followEn_keeps (h : Keeps B M z s) (b_flt : B .flt) (b_lnk : B .lnk) (b_tim : B .tim) : Keeps B M z (State.followEn s) := by
  unfold State.followEn
  try dsimp only
  repeat' first | (with_reducible first | assumption | apply State.followPort_keeps | apply each_keeps | split | intro _) | assumption

theorem State.requeue_keeps (h : Keeps B M z s) (b_mem : B .mem) (b_evt : B .evt) (b_lnk : B .lnk) (hM : M) : Keeps B M z (State.requeue s x1 x2) := by
  unfold State.requeue
  try dsimp only
  repeat' first | (with_reducible first | assumption | apply State.unreach_keeps | apply State.send_keeps | split | intro _) | assumption

theorem State.surveyEnd_keeps (h : Keeps B M z s) (b_lnk : B .lnk) (b_ldg : B .ldg) : Keeps B M z (State.surveyEnd s x1 x2 x3) := by
  unfold State.surveyEnd
  try dsimp only
  repeat' first | (with_reducible first | assumption | apply State.put_keeps | apply State.putBit_keeps | apply State.complete_keeps | split | intro _ | refine keeps_mk ?_ rfl rfl) | assumption

theorem State.portLost_keeps (h : Keeps B M z s) (b_lnk : B .lnk) (b_flt : B .flt) (b_tpl : B .tpl) (b_mem : B .mem) (b_evt : B .evt) (b_ttb : B .ttb) (b_rail : B .rail) (b_swy : B .swy) (b_sup : B .sup) (b_ldg : B .ldg) (b_lpe : B .lpe) (hM : M) : Keeps B M z (State.portLost s x1) := by
  unfold State.portLost
  try dsimp only
  repeat' first | (with_reducible first | assumption | apply State.addSat_keeps | apply State.setPort_keeps | apply State.dropTx_keeps | apply State.raise_keeps | apply State.live_keeps | apply State.setFlagI_keeps | apply State.requeue_keeps | apply State.surveyEnd_keeps | apply each_keeps | split | intro _) | assumption

theorem State.wrLnkCfg_keeps (h : Keeps B M z s) (b_flt : B .flt) (b_lnk : B .lnk) (b_tim : B .tim) : Keeps B M z (State.wrLnkCfg s x1 x2) := by
  unfold State.wrLnkCfg
  try dsimp only
  repeat' first | (with_reducible first | assumption | apply State.followEn_keeps | apply State.writeRw_keeps | split | intro _) | assumption

theorem State.wrPortCfg_keeps (h : Keeps B M z s) (b_flt : B .flt) (b_lnk : B .lnk) (b_tim : B .tim) : Keeps B M z (State.wrPortCfg s x1 x2) := by
  unfold State.wrPortCfg
  try dsimp only
  repeat' first | (with_reducible first | assumption | apply State.followEn_keeps | apply State.writeRw_keeps | split | intro _) | assumption

theorem State.wrPool_keeps (h : Keeps B M z s) (b_lnk : B .lnk) : Keeps B M z (State.wrPool s x1) := by
  unfold State.wrPool
  try dsimp only
  repeat' first | (with_reducible first | assumption | apply State.writeRw_keeps | split | intro _) | assumption

theorem State.wrRtB_keeps (h : Keeps B M z s) : Keeps B M z (State.wrRtB s x1 x2) := by
  unfold State.wrRtB
  try dsimp only
  repeat' first | (with_reducible first | assumption | split | intro _ | refine keeps_mk ?_ rfl rfl) | assumption

theorem State.wrRtA_keeps (h : Keeps B M z s) (b_lnk : B .lnk) : Keeps B M z (State.wrRtA s x1 x2) := by
  unfold State.wrRtA
  try dsimp only
  repeat' first | (with_reducible first | assumption | apply State.writeRw_keeps | apply State.wr_keeps | split | intro _ | refine keeps_mk ?_ rfl rfl) | assumption

theorem State.wrTripctl_keeps (h : Keeps B M z s) (b_mem : B .mem) (b_evt : B .evt) (b_lnk : B .lnk) (hM : M) : Keeps B M z (State.wrTripctl s x1 x2) := by
  unfold State.wrTripctl
  try dsimp only
  repeat' first | (with_reducible first | assumption | apply State.sendTrip_keeps | split | intro _) | assumption

theorem State.headerError_keeps (h : Keeps B M z s) (b_mem : B .mem) (b_evt : B .evt) (b_lnk : B .lnk) (hM : M) : Keeps B M z (State.headerError s x1) := by
  unfold State.headerError
  try dsimp only
  repeat' first | (with_reducible first | assumption | apply State.setFlagI_keeps | apply State.addSat_keeps | split | intro _) | assumption

theorem execFrameHeaderReceive_keeps (b_mem : B .mem) (b_evt : B .evt) (b_lnk : B .lnk) (hM : M) : ∃ t, execFrameHeaderReceive x0 x1 s = .next t ∧ Keeps B M s t := by
  refine ⟨_, rfl, ?_⟩
  have h : Keeps B M s s := Keeps.refl s
  try dsimp only
  repeat' first | (with_reducible first | assumption | apply State.headerError_keeps | apply State.send_keeps | apply State.setFlagI_keeps | apply State.addSat_keeps | apply State.unreach_keeps | apply each_keeps | split | intro _) | assumption

theorem State.stomp_keeps (h : Keeps B M z s) (b_lnk : B .lnk) : Keeps B M z (State.stomp s x1 x2) := by
  unfold State.stomp
  try dsimp only
  repeat' first | (with_reducible first | assumption | apply State.addSat_keeps | split | intro _ | refine keeps_mk ?_ rfl rfl) | assumption

theorem execFrameCrcFail_keeps (b_lnk : B .lnk) (b_flt : B .flt) (b_tpl : B .tpl) (b_mem : B .mem) (b_evt : B .evt) (b_ttb : B .ttb) (b_rail : B .rail) (b_swy : B .swy) (b_sup : B .sup) (b_ldg : B .ldg) (b_lpe : B .lpe) (hM : M) : ∃ t, execFrameCrcFail x0 x1 s = .next t ∧ Keeps B M s t := by
  refine ⟨_, rfl, ?_⟩
  have h : Keeps B M s s := Keeps.refl s
  try dsimp only
  repeat' first | (with_reducible first | assumption | apply State.send_keeps | apply State.stomp_keeps | apply State.addSat_keeps | apply State.raise_keeps | apply each_keeps | split | intro _) | assumption

theorem execCheckTransmit_keeps : ∃ t, execCheckTransmit x0 s = .next t ∧ Keeps B M s t := by
  refine ⟨_, rfl, ?_⟩
  have h : Keeps B M s s := Keeps.refl s
  try dsimp only
  repeat' first | (with_reducible first | assumption | apply State.send_keeps | split | intro _) | assumption

theorem State.noteCheck_keeps (h : Keeps B M z s) (b_lnk : B .lnk) : Keeps B M z (State.noteCheck s x1 x2) := by
  unfold State.noteCheck
  try dsimp only
  repeat' first | (with_reducible first | assumption | apply State.wr_keeps | split | intro _ | refine keeps_mk ?_ rfl rfl) | assumption

theorem execCheckReceive_keeps (b_lnk : B .lnk) (b_flt : B .flt) (b_tpl : B .tpl) (b_mem : B .mem) (b_evt : B .evt) (b_ttb : B .ttb) (b_rail : B .rail) (b_swy : B .swy) (b_sup : B .sup) (b_ldg : B .ldg) (b_lpe : B .lpe) (hM : M) : ∃ t, execCheckReceive x0 x1 s = .next t ∧ Keeps B M s t := by
  refine ⟨_, rfl, ?_⟩
  have h : Keeps B M s s := Keeps.refl s
  try dsimp only
  repeat' first | (with_reducible first | assumption | apply State.noteCheck_keeps | apply State.setPort_keeps | apply State.portLost_keeps | apply State.setFlagI_keeps | split | intro _) | assumption

theorem execPortAligned_keeps (b_lnk : B .lnk) : ∃ t, execPortAligned x0 s = .next t ∧ Keeps B M s t := by
  refine ⟨_, rfl, ?_⟩
  have h : Keeps B M s s := Keeps.refl s
  try dsimp only
  repeat' first | (with_reducible first | assumption | apply State.setPort_keeps | split | intro _) | assumption

theorem execAlignLost_keeps (b_lnk : B .lnk) : ∃ t, execAlignLost x0 s = .next t ∧ Keeps B M s t := by
  refine ⟨_, rfl, ?_⟩
  have h : Keeps B M s s := Keeps.refl s
  try dsimp only
  repeat' first | (with_reducible first | assumption | apply State.setPort_keeps | split | intro _) | assumption

theorem execPortUp_keeps (b_tim : B .tim) (b_flt : B .flt) (b_lnk : B .lnk) (b_mem : B .mem) (b_evt : B .evt) (hM : M) : ∃ t, execPortUp x0 s = .next t ∧ Keeps B M s t := by
  refine ⟨_, rfl, ?_⟩
  have h : Keeps B M s s := Keeps.refl s
  try dsimp only
  repeat' first | (with_reducible first | assumption | apply State.putBit_keeps | apply State.live_keeps | apply State.setPort_keeps | apply State.setFlagI_keeps | split | intro _ | refine keeps_mk ?_ rfl rfl) | assumption

theorem execCheckTimeout_keeps (b_lnk : B .lnk) (b_flt : B .flt) (b_tpl : B .tpl) (b_mem : B .mem) (b_evt : B .evt) (b_ttb : B .ttb) (b_rail : B .rail) (b_swy : B .swy) (b_sup : B .sup) (b_ldg : B .ldg) (b_lpe : B .lpe) (hM : M) : ∃ t, execCheckTimeout x0 s = .next t ∧ Keeps B M s t := by
  refine ⟨_, rfl, ?_⟩
  have h : Keeps B M s s := Keeps.refl s
  try dsimp only
  repeat' first | (with_reducible first | assumption | apply State.portLost_keeps | split | intro _ | refine keeps_mk ?_ rfl rfl) | assumption

theorem execLosAssert_keeps (b_lnk : B .lnk) (b_flt : B .flt) (b_tpl : B .tpl) (b_mem : B .mem) (b_evt : B .evt) (b_ttb : B .ttb) (b_rail : B .rail) (b_swy : B .swy) (b_sup : B .sup) (b_ldg : B .ldg) (b_lpe : B .lpe) (hM : M) : ∃ t, execLosAssert x0 s = .next t ∧ Keeps B M s t := by
  refine ⟨_, rfl, ?_⟩
  have h : Keeps B M s s := Keeps.refl s
  try dsimp only
  repeat' first | (with_reducible first | assumption | apply State.portLost_keeps | split | intro _) | assumption

theorem execLnkCfgWrite_keeps (b_mem : B .mem) (b_evt : B .evt) (b_flt : B .flt) (b_lnk : B .lnk) (b_tim : B .tim) (hM : M) : ∃ t, execLnkCfgWrite x0 x1 x2 s = .next t ∧ Keeps B M s t := by
  refine ⟨_, rfl, ?_⟩
  have h : Keeps B M s s := Keeps.refl s
  try dsimp only
  repeat' first | (with_reducible first | assumption | apply State.guardWrite_keeps | apply State.wrLnkCfg_keeps | split | intro _) | assumption

theorem execRtBWrite_keeps (b_mem : B .mem) (b_evt : B .evt) (hM : M) : ∃ t, execRtBWrite x0 x1 x2 x3 s = .next t ∧ Keeps B M s t := by
  refine ⟨_, rfl, ?_⟩
  have h : Keeps B M s s := Keeps.refl s
  try dsimp only
  repeat' first | (with_reducible first | assumption | apply State.guardWrite_keeps | apply State.wrRtB_keeps | split | intro _) | assumption

theorem execRtAWrite_keeps (b_mem : B .mem) (b_evt : B .evt) (b_lnk : B .lnk) (hM : M) : ∃ t, execRtAWrite x0 x1 x2 x3 s = .next t ∧ Keeps B M s t := by
  refine ⟨_, rfl, ?_⟩
  have h : Keeps B M s s := Keeps.refl s
  try dsimp only
  repeat' first | (with_reducible first | assumption | apply State.guardWrite_keeps | apply State.wrRtA_keeps | split | intro _) | assumption

theorem execTripSend_keeps (b_mem : B .mem) (b_evt : B .evt) (b_lnk : B .lnk) (hM : M) : ∃ t, execTripSend x0 x1 x2 s = .next t ∧ Keeps B M s t := by
  refine ⟨_, rfl, ?_⟩
  have h : Keeps B M s s := Keeps.refl s
  try dsimp only
  repeat' first | (with_reducible first | assumption | apply State.guardSent_keeps | apply State.wrTripctl_keeps | split | intro _) | assumption

theorem State.putSurvey_keeps (h : Keeps B M z s) : Keeps B M z (State.putSurvey s x1) := by
  unfold State.putSurvey
  try dsimp only
  repeat' first | (with_reducible first | assumption | split | intro _ | refine keeps_mk ?_ rfl rfl) | assumption

theorem State.sendProbe_keeps (h : Keeps B M z s) : Keeps B M z (State.sendProbe s x1 x2) := by
  unfold State.sendProbe
  try dsimp only
  repeat' first | (with_reducible first | assumption | apply State.sendPath_keeps | split | intro _) | assumption

theorem State.probeMore_keeps (h : Keeps B M z s) : Keeps B M z (State.probeMore x0 s x2) := by
  induction x0 generalizing s x2 with
  | zero =>
    unfold State.probeMore
    try dsimp only
    repeat' first | (with_reducible first | assumption | apply State.sendProbe_keeps | apply State.putSurvey_keeps | split)
  | succ n ih =>
    unfold State.probeMore
    try dsimp only
    repeat' first | (with_reducible first | assumption | apply ih | apply State.sendProbe_keeps | apply State.putSurvey_keeps | split)

theorem State.surveyOn_keeps (h : Keeps B M z s) (b_lnk : B .lnk) (b_ldg : B .ldg) : Keeps B M z (State.surveyOn s x1) := by
  unfold State.surveyOn
  try dsimp only
  repeat' first | (with_reducible first | assumption | apply State.surveyEnd_keeps | apply State.putSurvey_keeps | apply State.probeMore_keeps | split | intro _) | assumption

theorem State.surveyStart_keeps (h : Keeps B M z s) (b_ldg : B .ldg) (b_lnk : B .lnk) : Keeps B M z (State.surveyStart s x1) := by
  unfold State.surveyStart
  try dsimp only
  repeat' first | (with_reducible first | assumption | apply State.complete_keeps | apply State.surveyOn_keeps | apply State.putBit_keeps | apply State.setPhase_keeps | split | intro _) | assumption

theorem State.replyIn_keeps (h : Keeps B M z s) (b_lnk : B .lnk) (b_ldg : B .ldg) : Keeps B M z (State.replyIn s x1 x2 x3 x4 x5 x6 x7 x8) := by
  unfold State.replyIn
  try dsimp only
  repeat' first | (with_reducible first | assumption | apply State.surveyOn_keeps | split | intro _) | assumption

theorem execReplyReceive_keeps (b_lnk : B .lnk) (b_ldg : B .ldg) (b_mem : B .mem) (b_evt : B .evt) (hM : M) : ∃ t, execReplyReceive x0 x1 s = .next t ∧ Keeps B M s t := by
  refine ⟨_, rfl, ?_⟩
  have h : Keeps B M s s := Keeps.refl s
  try dsimp only
  repeat' first | (with_reducible first | assumption | apply State.draw_keeps | apply State.surveyEnd_keeps | apply State.setFlagI_keeps | apply State.replyIn_keeps | split | intro _) | assumption

theorem execProbeTimeout_keeps (b_lnk : B .lnk) (b_ldg : B .ldg) : ∃ t, execProbeTimeout s = .next t ∧ Keeps B M s t := by
  refine ⟨_, rfl, ?_⟩
  have h : Keeps B M s s := Keeps.refl s
  try dsimp only
  repeat' first | (with_reducible first | assumption | apply State.surveyOn_keeps | apply State.putSurvey_keeps | apply State.sendProbe_keeps | split | intro _) | assumption

theorem State.takeAddr_keeps (h : Keeps B M z s) (b_lnk : B .lnk) (b_tim : B .tim) (b_mem : B .mem) (b_evt : B .evt) (hM : M) : Keeps B M z (State.takeAddr s x1 x2 x3 x4 x5 x6 x7) := by
  unfold State.takeAddr
  try dsimp only
  repeat' first | (with_reducible first | assumption | apply State.wr_keeps | apply State.timFollow_keeps | apply State.setFlagI_keeps | apply State.put_keeps | split | intro _) | assumption

theorem State.putRoutes_keeps (h : Keeps B M z s) (b_lnk : B .lnk) : Keeps B M z (State.putRoutes s x1 x2) := by
  fun_induction State.putRoutes s x1 x2 with
  | case1 _ _ _ _ _ _ ih => exact ih (State.wr_keeps (State.wr_keeps h b_lnk) b_lnk)
  | case2 => exact h
  | case3 => exact h

theorem State.clearRoutes_keeps (h : Keeps B M z s) (b_lnk : B .lnk) : Keeps B M z (State.clearRoutes s x1) := by
  unfold State.clearRoutes
  try dsimp only
  repeat' first | (with_reducible first | assumption | apply State.putBit_keeps | apply each_keeps | split | intro _) | assumption

theorem State.sendRoutes_keeps (h : Keeps B M z s) : Keeps B M z (State.sendRoutes s x1 x2 x3 x4) := by
  induction x2 generalizing s x3 x4 with
  | zero => unfold State.sendRoutes; exact h
  | succ n ih =>
    unfold State.sendRoutes
    cases x4 with
    | nil => exact h
    | cons b t => exact ih (State.sendPath_keeps h)

theorem State.assignTo_keeps (h : Keeps B M z s) (b_lnk : B .lnk) (b_tim : B .tim) (b_mem : B .mem) (b_evt : B .evt) (hM : M) : Keeps B M z (State.assignTo s x1 x2 x3 x4) := by
  unfold State.assignTo
  try dsimp only
  repeat' first | (with_reducible first | assumption | apply State.takeAddr_keeps | apply State.sendPath_keeps | split | intro _) | assumption

theorem State.routeTo_keeps (h : Keeps B M z s) (b_lnk : B .lnk) (b_mem : B .mem) (b_evt : B .evt) (hM : M) : Keeps B M z (State.routeTo s x1 x2 x3).2 := by
  unfold State.routeTo
  try dsimp only
  repeat' first | (with_reducible first | assumption | apply State.clearRoutes_keeps | apply State.putRoutes_keeps | apply State.setFlagI_keeps | apply State.putBit_keeps | apply State.sendRoutes_keeps | split | intro _) | assumption

theorem State.routeAll_keeps (h : Keeps B M z s) (b_lnk : B .lnk) (b_mem : B .mem) (b_evt : B .evt) (hM : M) : Keeps B M z (State.routeAll s x1 x2 x3).2 := by
  induction x3 generalizing s x1 x2 with
  | nil =>
    unfold State.routeAll
    try dsimp only
    repeat' first | (with_reducible first | assumption | apply State.routeTo_keeps | split) | assumption
  | cons b t ih =>
    unfold State.routeAll
    try dsimp only
    repeat' first | (with_reducible first | assumption | apply ih | apply State.routeTo_keeps | split) | assumption

theorem State.surveyAssign_keeps (h : Keeps B M z s) (b_lnk : B .lnk) (b_tim : B .tim) (b_mem : B .mem) (b_evt : B .evt) (b_ldg : B .ldg) (hM : M) : Keeps B M z (State.surveyAssign s x1) := by
  unfold State.surveyAssign
  try dsimp only
  repeat' first | (with_reducible first | assumption | apply State.assignTo_keeps | apply State.routeAll_keeps | apply State.surveyEnd_keeps | apply each_keeps | split | intro _) | assumption

theorem execLineSurvey_keeps (b_mem : B .mem) (b_evt : B .evt) (b_cmd : B .cmd) (b_tpl : B .tpl) (b_ldg : B .ldg) (b_lnk : B .lnk) (b_tim : B .tim) (hM : M) : ∃ t, execLineSurvey x0 s = .next t ∧ Keeps B M s t := by
  refine ⟨_, rfl, ?_⟩
  have h : Keeps B M s s := Keeps.refl s
  try dsimp only
  repeat' first | (with_reducible first | assumption | apply State.issue_keeps | apply State.withRunning_keeps | apply State.surveyStart_keeps | apply State.surveyEnd_keeps | apply State.surveyAssign_keeps | split | intro _) | assumption

theorem execSurveyReceive_keeps : ∃ t, execSurveyReceive x0 x1 s = .next t ∧ Keeps B M s t := by
  refine ⟨_, rfl, ?_⟩
  have h : Keeps B M s s := Keeps.refl s
  try dsimp only
  repeat' first | (with_reducible first | assumption | apply State.sendPath_keeps | split | intro _ | refine keeps_mk ?_ rfl rfl) | assumption

theorem State.surveyUid_keeps (h : Keeps B M z s) : Keeps B M z (State.surveyUid s).2 := by
  unfold State.surveyUid
  try dsimp only
  repeat' first | (with_reducible first | assumption | apply State.draw_keeps | split | intro _) | assumption

theorem execAssignReceive_keeps (b_lnk : B .lnk) (b_tim : B .tim) (b_mem : B .mem) (b_evt : B .evt) (hM : M) : ∃ t, execAssignReceive x0 x1 s = .next t ∧ Keeps B M s t := by
  refine ⟨_, rfl, ?_⟩
  have h : Keeps B M s s := Keeps.refl s
  try dsimp only
  repeat' first | (with_reducible first | assumption | apply State.surveyUid_keeps | apply State.takeAddr_keeps | split | intro _) | assumption

theorem execRouteReceive_keeps (b_lnk : B .lnk) (b_mem : B .mem) (b_evt : B .evt) (hM : M) : ∃ t, execRouteReceive x0 x1 s = .next t ∧ Keeps B M s t := by
  refine ⟨_, rfl, ?_⟩
  have h : Keeps B M s s := Keeps.refl s
  try dsimp only
  repeat' first | (with_reducible first | assumption | apply State.putRoutes_keeps | apply State.clearRoutes_keeps | apply State.draw_keeps | apply State.setFlagI_keeps | apply State.putBit_keeps | split | intro _) | assumption

theorem execTripReceive_keeps (b_lnk : B .lnk) (b_flt : B .flt) (b_tpl : B .tpl) (b_mem : B .mem) (b_evt : B .evt) (b_ttb : B .ttb) (b_rail : B .rail) (b_swy : B .swy) (b_sup : B .sup) (b_ldg : B .ldg) (b_lpe : B .lpe) (hM : M) : ∃ t, execTripReceive x0 x1 s = .next t ∧ Keeps B M s t := by
  refine ⟨_, rfl, ?_⟩
  have h : Keeps B M s s := Keeps.refl s
  try dsimp only
  repeat' first | (with_reducible first | assumption | apply State.send_keeps | apply State.wr_keeps | apply State.raise_keeps | apply State.addSat_keeps | apply each_keeps | split | intro _ | refine keeps_mk ?_ rfl rfl) | assumption

theorem execTripKeyExpiry_keeps : ∃ t, execTripKeyExpiry s = .next t ∧ Keeps B M s t := by
  refine ⟨_, rfl, ?_⟩
  have h : Keeps B M s s := Keeps.refl s
  try dsimp only
  repeat' first | (with_reducible first | assumption | split | intro _ | refine keeps_mk ?_ rfl rfl) | assumption

theorem State.resample_keeps (h : Keeps B M z s) (b_mem : B .mem) (b_evt : B .evt) (hM : M) : Keeps B M z (State.resample s x1) := by
  unfold State.resample
  try dsimp only
  repeat' first | (with_reducible first | assumption | apply State.occur_keeps | split | intro _) | assumption

theorem State.irqPins_keeps (h : Keeps B M z s) : Keeps B M z (State.irqPins s) := by
  unfold State.irqPins
  try dsimp only
  repeat' first | (with_reducible first | assumption | split | intro _ | refine keeps_mk ?_ rfl rfl) | assumption

theorem State.putStack_keeps (h : Keeps B M z s) : Keeps B M z (State.putStack s x1 x2) := by
  unfold State.putStack
  try dsimp only
  repeat' first | (with_reducible first | assumption | split | intro _ | refine keeps_mk ?_ rfl rfl) | assumption

theorem State.putOrder_keeps (h : Keeps B M z s) : Keeps B M z (State.putOrder s x1 x2) := by
  unfold State.putOrder
  try dsimp only
  repeat' first | (with_reducible first | assumption | split | intro _ | refine keeps_mk ?_ rfl rfl) | assumption

theorem State.qPut_keeps (h : Keeps B M z s) (b_mem : B .mem) (b_evt : B .evt) (hM : M) : Keeps B M z (State.qPut s x1 x2 x3 x4 x5) := by
  unfold State.qPut
  try dsimp only
  repeat' first | (with_reducible first | assumption | apply State.sramWrite_keeps | apply State.irqPins_keeps | apply State.putOrder_keeps | apply State.put_keeps | split | intro _ | refine keeps_mk ?_ rfl rfl) | assumption

theorem State.writeGap_keeps (h : Keeps B M z s) (b_mem : B .mem) (b_evt : B .evt) (hM : M) : Keeps B M z (State.writeGap s x1 x2) := by
  unfold State.writeGap
  try dsimp only
  repeat' first | (with_reducible first | assumption | apply State.qPut_keeps | split | intro _ | refine keeps_mk ?_ rfl rfl) | assumption

theorem State.writeMsg_keeps (h : Keeps B M z s) (b_mem : B .mem) (b_evt : B .evt) (hM : M) : Keeps B M z (State.writeMsg s x1 x2) := by
  unfold State.writeMsg
  try dsimp only
  repeat' first | (with_reducible first | assumption | apply State.recordQueued_keeps | apply State.setFlagI_keeps | apply State.addSat_keeps | apply State.gap_keeps | apply State.qPut_keeps | split | intro _ | refine keeps_mk ?_ rfl rfl) | assumption

theorem State.storm_keeps (h : Keeps B M z s) (b_evt : B .evt) : Keeps B M z (State.storm s x1) := by
  unfold State.storm
  try dsimp only
  repeat' first | (with_reducible first | assumption | apply State.putSrc_keeps | apply State.message_keeps | apply State.putBit_keeps | split | intro _) | assumption

theorem State.writeSignal_keeps (h : Keeps B M z s) (b_mem : B .mem) (b_evt : B .evt) (hM : M) : Keeps B M z (State.writeSignal s x1 x2) := by
  unfold State.writeSignal
  try dsimp only
  repeat' first | (with_reducible first | assumption | apply State.qPut_keeps | apply State.putSrc_keeps | apply State.storm_keeps | apply State.putBit_keeps | split | intro _) | assumption

theorem State.writeNext_keeps (h : Keeps B M z s) (b_mem : B .mem) (b_evt : B .evt) (hM : M) : Keeps B M z (State.writeNext s x1) := by
  unfold State.writeNext
  try dsimp only
  repeat' first | (with_reducible first | assumption | apply State.writeGap_keeps | apply State.writeMsg_keeps | apply State.writeSignal_keeps | split | intro _) | assumption

theorem State.coreWake_keeps (h : Keeps B M z s) (b_pwr : B .pwr) : Keeps B M z (State.coreWake s) := by
  unfold State.coreWake
  try dsimp only
  repeat' first | (with_reducible first | assumption | apply State.put_keeps | split | intro _ | refine keeps_mk ?_ rfl rfl) | assumption

theorem execEventQueueWrite_keeps (b_pwr : B .pwr) (b_mem : B .mem) (b_evt : B .evt) (b_flt : B .flt) (b_tpl : B .tpl) (b_ttb : B .ttb) (b_rail : B .rail) (b_swy : B .swy) (b_sup : B .sup) (b_ldg : B .ldg) (b_lpe : B .lpe) (b_lnk : B .lnk) (hM : M) : ∃ t, execEventQueueWrite x0 s = .next t ∧ Keeps B M s t := by
  refine ⟨_, rfl, ?_⟩
  have h : Keeps B M s s := Keeps.refl s
  try dsimp only
  repeat' first | (with_reducible first | assumption | apply State.coreWake_keeps | apply State.writeNext_keeps | apply State.metNow_keeps | split | intro _) | assumption

theorem execEventOccurrence_keeps (b_mem : B .mem) (b_evt : B .evt) (hM : M) : ∃ t, execEventOccurrence x0 x1 x2 x3 s = .next t ∧ Keeps B M s t := by
  refine ⟨_, rfl, ?_⟩
  have h : Keeps B M s s := Keeps.refl s
  try dsimp only
  repeat' first | (with_reducible first | assumption | apply State.message_keeps | apply State.condRise_keeps | apply State.condFall_keeps | split | intro _) | assumption

theorem execStormWindowClose_keeps : ∃ t, execStormWindowClose x0 s = .next t ∧ Keeps B M s t := by
  refine ⟨_, rfl, ?_⟩
  have h : Keeps B M s s := Keeps.refl s
  try dsimp only
  repeat' first | (with_reducible first | assumption | apply State.putSrc_keeps | split | intro _) | assumption

theorem State.swOccur_keeps (h : Keeps B M z s) (b_mem : B .mem) (b_evt : B .evt) (hM : M) : Keeps B M z (State.swOccur s x1) := by
  unfold State.swOccur
  try dsimp only
  repeat' first | (with_reducible first | assumption | apply State.occurNow_keeps | split | intro _ | refine keeps_mk ?_ rfl rfl) | assumption

theorem State.discard_keeps (h : Keeps B M z s) (b_evt : B .evt) : Keeps B M z (State.discard s x1) := by
  unfold State.discard
  try dsimp only
  repeat' first | (with_reducible first | assumption | apply State.putBit_keeps | apply State.putSrc_keeps | split | intro _) | assumption

theorem State.wrPend_keeps (h : Keeps B M z s) (b_mem : B .mem) (b_evt : B .evt) (hM : M) : Keeps B M z (State.wrPend s x1 x2) := by
  unfold State.wrPend
  try dsimp only
  repeat' first | (with_reducible first | assumption | apply State.swOccur_keeps | apply State.discard_keeps | apply each_keeps | split | intro _) | assumption

theorem State.release_keeps (h : Keeps B M z s) (b_mem : B .mem) (b_evt : B .evt) (hM : M) : Keeps B M z (State.release s x1) := by
  unfold State.release
  try dsimp only
  repeat' first | (with_reducible first | assumption | apply State.putSrc_keeps | apply State.occurNow_keeps | split | intro _) | assumption

theorem State.thaw_keeps (h : Keeps B M z s) (b_mem : B .mem) (b_evt : B .evt) (hM : M) : Keeps B M z (State.thaw s) := by
  unfold State.thaw
  try dsimp only
  repeat' first | (with_reducible first | assumption | apply State.release_keeps | apply State.putBit_keeps | apply each_keeps | split | intro _) | assumption

theorem State.wrEvtCtl_keeps (h : Keeps B M z s) (b_evt : B .evt) (b_mem : B .mem) (hM : M) : Keeps B M z (State.wrEvtCtl s x1) := by
  unfold State.wrEvtCtl
  try dsimp only
  repeat' first | (with_reducible first | assumption | apply State.putBit_keeps | apply State.thaw_keeps | split | intro _) | assumption

theorem State.wrEvtCfg_keeps (h : Keeps B M z s) (b_evt : B .evt) (b_mem : B .mem) (hM : M) : Keeps B M z (State.wrEvtCfg s x1 x2) := by
  unfold State.wrEvtCfg
  try dsimp only
  repeat' first | (with_reducible first | assumption | apply State.writeRw_keeps | apply State.resample_keeps | split | intro _) | assumption

theorem execPendWrite_keeps (b_mem : B .mem) (b_evt : B .evt) (hM : M) : ∃ t, execPendWrite x0 x1 x2 x3 s = .next t ∧ Keeps B M s t := by
  refine ⟨_, rfl, ?_⟩
  have h : Keeps B M s s := Keeps.refl s
  try dsimp only
  repeat' first | (with_reducible first | assumption | apply State.guardWrite_keeps | apply State.wrPend_keeps | split | intro _) | assumption

theorem execFreezeWrite_keeps (b_mem : B .mem) (b_evt : B .evt) (hM : M) : ∃ t, execFreezeWrite x0 x1 x2 s = .next t ∧ Keeps B M s t := by
  refine ⟨_, rfl, ?_⟩
  have h : Keeps B M s s := Keeps.refl s
  try dsimp only
  repeat' first | (with_reducible first | assumption | apply State.guardWrite_keeps | apply State.wrEvtCtl_keeps | split | intro _) | assumption

theorem execFreezeExpiry_keeps (b_mem : B .mem) (b_evt : B .evt) (hM : M) : ∃ t, execFreezeExpiry s = .next t ∧ Keeps B M s t := by
  refine ⟨_, rfl, ?_⟩
  have h : Keeps B M s s := Keeps.refl s
  try dsimp only
  repeat' first | (with_reducible first | assumption | apply State.setFlag_keeps | apply State.thaw_keeps | split | intro _) | assumption

theorem State.putRec_keeps (h : Keeps B M z s) (b_evt : B .evt) : Keeps B M z (State.putRec s x1 x2 x3 x4 x5) := by
  unfold State.putRec
  try dsimp only
  repeat' first | (with_reducible first | assumption | apply State.wr_keeps | split | intro _) | assumption

theorem State.unqueue_keeps (h : Keeps B M z s) : Keeps B M z (State.unqueue s x1 x2) := by
  unfold State.unqueue
  try dsimp only
  repeat' first | (with_reducible first | assumption | split | intro _ | refine keeps_mk ?_ rfl rfl) | assumption

theorem State.takeRec_keeps (h : Keeps B M z s) (b_evt : B .evt) : Keeps B M z (State.takeRec s x1) := by
  unfold State.takeRec
  try dsimp only
  repeat' first | (with_reducible first | assumption | apply State.unqueue_keeps | apply State.irqPins_keeps | apply State.putOrder_keeps | apply State.put_keeps | split | intro _) | assumption

theorem State.take_keeps (h : Keeps B M z s) (b_evt : B .evt) (b_mem : B .mem) (b_flt : B .flt) (b_tpl : B .tpl) (b_ttb : B .ttb) (b_rail : B .rail) (b_swy : B .swy) (b_sup : B .sup) (b_ldg : B .ldg) (b_lpe : B .lpe) (b_lnk : B .lnk) (hM : M) : Keeps B M z (State.take s x1) := by
  unfold State.take
  try dsimp only
  repeat' first | (with_reducible first | assumption | apply State.putRec_keeps | apply State.putBit_keeps | apply State.eccRange_keeps | apply State.putStack_keeps | apply State.takeRec_keeps | apply State.sramUe_keeps | apply each_keeps | split | intro _) | assumption

theorem State.eoi_keeps (h : Keeps B M z s) (b_mem : B .mem) (b_evt : B .evt) (hM : M) : Keeps B M z (State.eoi s x1) := by
  unfold State.eoi
  try dsimp only
  repeat' first | (with_reducible first | assumption | apply State.setFlagI_keeps | apply State.putStack_keeps | apply State.resample_keeps | split | intro _) | assumption

theorem execTake_keeps (b_mem : B .mem) (b_evt : B .evt) (b_flt : B .flt) (b_tpl : B .tpl) (b_ttb : B .ttb) (b_rail : B .rail) (b_swy : B .swy) (b_sup : B .sup) (b_ldg : B .ldg) (b_lpe : B .lpe) (b_lnk : B .lnk) (hM : M) : ∃ t, execTake x0 x1 s = .next t ∧ Keeps B M s t := by
  refine ⟨_, rfl, ?_⟩
  have h : Keeps B M s s := Keeps.refl s
  try dsimp only
  repeat' first | (with_reducible first | assumption | apply State.guardWrite_keeps | apply State.take_keeps | split | intro _) | assumption

theorem execEoi_keeps (b_mem : B .mem) (b_evt : B .evt) (hM : M) : ∃ t, execEoi x0 x1 s = .next t ∧ Keeps B M s t := by
  refine ⟨_, rfl, ?_⟩
  have h : Keeps B M s s := Keeps.refl s
  try dsimp only
  repeat' first | (with_reducible first | assumption | apply State.guardWrite_keeps | apply State.eoi_keeps | split | intro _) | assumption

theorem State.wrQueue_keeps (h : Keeps B M z s) (hB : ∀ b, B b) (hM : M) : Keeps B M z (State.wrQueue s x1 x2 x3) := by
  unfold State.wrQueue
  try dsimp only
  repeat' first | (with_reducible first | assumption | apply State.writeRw_keeps | apply State.wr_keeps | apply State.setFlagI_keeps | split | intro _) | assumption | exact hB _

theorem execQueueConfigWrite_keeps (hB : ∀ b, B b) (hM : M) : ∃ t, execQueueConfigWrite x0 x1 x2 x3 x4 s = .next t ∧ Keeps B M s t := by
  refine ⟨_, rfl, ?_⟩
  have h : Keeps B M s s := Keeps.refl s
  try dsimp only
  repeat' first | (with_reducible first | assumption | apply State.guardWrite_keeps | apply State.wrQueue_keeps | split | intro _) | assumption | exact hB _

theorem State.putFlow_keeps (h : Keeps B M z s) : Keeps B M z (State.putFlow s x1 x2) := by
  unfold State.putFlow
  try dsimp only
  repeat' first | (with_reducible first | assumption | split | intro _ | refine keeps_mk ?_ rfl rfl) | assumption

theorem State.flowFrame_keeps (h : Keeps B M z s) : Keeps B M z (State.flowFrame s x1 x2 x3 x4 x5).2 := by
  unfold State.flowFrame
  try dsimp only
  repeat' first | (with_reducible first | assumption | apply State.draw_keeps | split | intro _) | assumption

theorem State.transmit_keeps (h : Keeps B M z s) (b_mem : B .mem) (b_evt : B .evt) (b_flt : B .flt) (b_tpl : B .tpl) (b_ttb : B .ttb) (b_rail : B .rail) (b_swy : B .swy) (b_sup : B .sup) (b_ldg : B .ldg) (b_lpe : B .lpe) (b_lnk : B .lnk) (hM : M) : Keeps B M z (State.transmit s x1 x2) := by
  unfold State.transmit
  try dsimp only
  repeat' first | (with_reducible first | assumption | apply State.flowFrame_keeps | apply State.send_keeps | apply State.eccRange_keeps | apply State.dmaRestart_keeps | apply State.dmaHalt_keeps | apply State.sramUe_keeps | split | intro _) | assumption

theorem State.flowPush_keeps (h : Keeps B M z s) (b_flw : B .flw) (b_mem : B .mem) (b_evt : B .evt) (b_flt : B .flt) (b_tpl : B .tpl) (b_ttb : B .ttb) (b_rail : B .rail) (b_swy : B .swy) (b_sup : B .sup) (b_ldg : B .ldg) (b_lpe : B .lpe) (b_lnk : B .lnk) (hM : M) : Keeps B M z (State.flowPush s x1 x2 x3 x4 x5) := by
  unfold State.flowPush
  try dsimp only
  repeat' first | (with_reducible first | assumption | apply State.putFlow_keeps | apply State.put_keeps | apply State.transmit_keeps | split | intro _) | assumption

theorem State.txRefuse_keeps (h : Keeps B M z s) (b_mem : B .mem) (b_evt : B .evt) (b_flw : B .flw) (hM : M) : Keeps B M z (State.txRefuse s x1 x2 x3) := by
  unfold State.txRefuse
  try dsimp only
  repeat' first | (with_reducible first | assumption | apply State.setFlagI_keeps | apply State.putBank_keeps | split | intro _) | assumption

theorem State.wrTxgo_keeps (h : Keeps B M z s) (b_mem : B .mem) (b_evt : B .evt) (b_flw : B .flw) (b_flt : B .flt) (b_tpl : B .tpl) (b_ttb : B .ttb) (b_rail : B .rail) (b_swy : B .swy) (b_sup : B .sup) (b_ldg : B .ldg) (b_lpe : B .lpe) (b_lnk : B .lnk) (hM : M) : Keeps B M z (State.wrTxgo s x1 x2) := by
  unfold State.wrTxgo
  try dsimp only
  repeat' first | (with_reducible first | assumption | apply State.txRefuse_keeps | apply State.putBank_keeps | apply State.flowPush_keeps | split | intro _) | assumption

theorem State.sendAck_keeps (h : Keeps B M z s) : Keeps B M z (State.sendAck s x1) := by
  unfold State.sendAck
  try dsimp only
  repeat' first | (with_reducible first | assumption | apply State.flowFrame_keeps | apply State.sendRouted_keeps | split | intro _) | assumption

theorem State.flowClosed_keeps (h : Keeps B M z s) (b_flw : B .flw) (b_ldg : B .ldg) : Keeps B M z (State.flowClosed s x1 x2) := by
  unfold State.flowClosed
  try dsimp only
  repeat' first | (with_reducible first | assumption | apply State.putFlow_keeps | apply State.put_keeps | apply State.complete_keeps | split | intro _) | assumption

theorem State.flowBroken_keeps (h : Keeps B M z s) (b_flw : B .flw) (b_mem : B .mem) (b_evt : B .evt) (hM : M) : Keeps B M z (State.flowBroken s x1 x2) := by
  unfold State.flowBroken
  try dsimp only
  repeat' first | (with_reducible first | assumption | apply State.putFlow_keeps | apply State.put_keeps | apply State.setFlagI_keeps | apply State.gap_keeps | split | intro _) | assumption

theorem State.wrRxread_keeps (h : Keeps B M z s) (b_flw : B .flw) : Keeps B M z (State.wrRxread s x1 x2) := by
  unfold State.wrRxread
  try dsimp only
  repeat' first | (with_reducible first | assumption | apply State.put_keeps | split | intro _) | assumption

theorem State.wrNotLine_keeps (h : Keeps B M z s) (bx2 : B x2.block) : Keeps B M z (State.wrNotLine s x1 x2 x3) := by
  unfold State.wrNotLine
  try dsimp only
  repeat' first | (with_reducible first | assumption | apply State.writeRw_keeps | split | intro _) | assumption

theorem State.flowReset_keeps (h : Keeps B M z s) : Keeps B M z (State.flowReset s) := by
  unfold State.flowReset
  try dsimp only
  repeat' first | (with_reducible first | assumption | split | intro _ | refine keeps_mk ?_ rfl rfl) | assumption

theorem State.flowGaps_keeps (h : Keeps B M z s) : Keeps B M z (State.flowGaps s) := by
  unfold State.flowGaps
  try dsimp only
  repeat' first | (with_reducible first | assumption | apply State.gap_keeps | apply each_keeps | split | intro _ | refine keeps_mk ?_ rfl rfl) | assumption

theorem State.stepTime_keeps (h : Keeps B M z s) : Keeps B M z (State.stepTime s x1) := by
  unfold State.stepTime
  try dsimp only
  repeat' first | (with_reducible first | assumption | split | intro _ | refine keeps_mk ?_ rfl rfl) | assumption

theorem State.wrSetctl_keeps (h : Keeps B M z s) (b_mem : B .mem) (b_evt : B .evt) (b_tim : B .tim) (hM : M) : Keeps B M z (State.wrSetctl s x1 x2) := by
  unfold State.wrSetctl
  try dsimp only
  repeat' first | (with_reducible first | assumption | apply State.setFlag_keeps | apply State.stepTime_keeps | split | intro _) | assumption

theorem State.rdNowLo_keeps (h : Keeps B M z s) : Keeps B M z (State.rdNowLo s x1).2 := by
  unfold State.rdNowLo
  try dsimp only
  repeat' first | (with_reducible first | assumption | apply State.putBank_keeps | split | intro _) | assumption

theorem State.armMark_keeps (h : Keeps B M z s) (b_tim : B .tim) (b_mem : B .mem) (b_evt : B .evt) (hM : M) : Keeps B M z (State.armMark s x1) := by
  unfold State.armMark
  try dsimp only
  repeat' first | (with_reducible first | assumption | apply State.putBit_keeps | apply State.setFlagI_keeps | split | intro _ | refine keeps_mk ?_ rfl rfl) | assumption

theorem State.putBankWords_keeps (h : Keeps B M z s) (b_tim : B .tim) : Keeps B M z (State.putBankWords s x1 x2) := by
  unfold State.putBankWords
  try dsimp only
  repeat' first | (with_reducible first | assumption | apply State.wr_keeps | apply each_keeps | split | intro _) | assumption

theorem State.flowOpen_keeps (h : Keeps B M z s) (b_ldg : B .ldg) (b_flw : B .flw) : Keeps B M z (State.flowOpen s x1) := by
  unfold State.flowOpen
  try dsimp only
  repeat' first | (with_reducible first | assumption | apply State.complete_keeps | apply State.wr_keeps | apply State.putFlow_keeps | split | intro _ | refine keeps_mk ?_ rfl rfl) | assumption

theorem State.flowClose_keeps (h : Keeps B M z s) (b_ldg : B .ldg) (b_flw : B .flw) : Keeps B M z (State.flowClose s x1) := by
  unfold State.flowClose
  try dsimp only
  repeat' first | (with_reducible first | assumption | apply State.complete_keeps | apply State.putFlow_keeps | apply State.flowClosed_keeps | apply State.put_keeps | split | intro _) | assumption

theorem execFlwOpen_keeps (b_mem : B .mem) (b_evt : B .evt) (b_cmd : B .cmd) (b_tpl : B .tpl) (b_ldg : B .ldg) (b_flw : B .flw) (hM : M) : ∃ t, execFlwOpen x0 s = .next t ∧ Keeps B M s t := by
  refine ⟨_, rfl, ?_⟩
  have h : Keeps B M s s := Keeps.refl s
  try dsimp only
  repeat' first | (with_reducible first | assumption | apply State.ledgerRow_keeps | apply State.flowOpen_keeps | split | intro _) | assumption

theorem execFlwClose_keeps (b_mem : B .mem) (b_evt : B .evt) (b_cmd : B .cmd) (b_tpl : B .tpl) (b_ldg : B .ldg) (b_flw : B .flw) (hM : M) : ∃ t, execFlwClose x0 s = .next t ∧ Keeps B M s t := by
  refine ⟨_, rfl, ?_⟩
  have h : Keeps B M s s := Keeps.refl s
  try dsimp only
  repeat' first | (with_reducible first | assumption | apply State.ledgerRow_keeps | apply State.flowClose_keeps | split | intro _) | assumption

theorem execFlowSend_keeps (b_mem : B .mem) (b_evt : B .evt) (b_flw : B .flw) (b_flt : B .flt) (b_tpl : B .tpl) (b_ttb : B .ttb) (b_rail : B .rail) (b_swy : B .swy) (b_sup : B .sup) (b_ldg : B .ldg) (b_lpe : B .lpe) (b_lnk : B .lnk) (hM : M) : ∃ t, execFlowSend x0 x1 x2 s = .next t ∧ Keeps B M s t := by
  refine ⟨_, rfl, ?_⟩
  have h : Keeps B M s s := Keeps.refl s
  try dsimp only
  repeat' first | (with_reducible first | assumption | apply State.guardSent_keeps | apply State.wrTxgo_keeps | split | intro _) | assumption

theorem execRxreadWrite_keeps (b_mem : B .mem) (b_evt : B .evt) (b_flw : B .flw) (hM : M) : ∃ t, execRxreadWrite x0 x1 x2 x3 s = .next t ∧ Keeps B M s t := by
  refine ⟨_, rfl, ?_⟩
  have h : Keeps B M s s := Keeps.refl s
  try dsimp only
  repeat' first | (with_reducible first | assumption | apply State.guardWrite_keeps | apply State.wrRxread_keeps | split | intro _) | assumption

theorem execRetransmitTimeout_keeps (b_flw : B .flw) (b_ldg : B .ldg) (b_mem : B .mem) (b_evt : B .evt) (b_flt : B .flt) (b_tpl : B .tpl) (b_ttb : B .ttb) (b_rail : B .rail) (b_swy : B .swy) (b_sup : B .sup) (b_lpe : B .lpe) (b_lnk : B .lnk) (hM : M) : ∃ t, execRetransmitTimeout x0 s = .next t ∧ Keeps B M s t := by
  refine ⟨_, rfl, ?_⟩
  have h : Keeps B M s s := Keeps.refl s
  try dsimp only
  repeat' first | (with_reducible first | assumption | apply State.addSat_keeps | apply State.put_keeps | apply State.putFlow_keeps | apply State.flowClosed_keeps | apply State.gap_keeps | apply State.flowBroken_keeps | apply State.transmit_keeps | apply each_keeps | split | intro _) | assumption

theorem State.takeFabric_keeps (h : Keeps B M z s) (b_evt : B .evt) (b_mem : B .mem) (b_flt : B .flt) (b_tpl : B .tpl) (b_ttb : B .ttb) (b_rail : B .rail) (b_swy : B .swy) (b_sup : B .sup) (b_ldg : B .ldg) (b_lpe : B .lpe) (b_lnk : B .lnk) (hM : M) : Keeps B M z (State.takeFabric x0 s).2 := by
  induction x0 generalizing s with
  | zero =>
    unfold State.takeFabric
    try dsimp only
    repeat' first | (with_reducible first | assumption | apply State.take_keeps | apply State.eoi_keeps | split | intro _) | assumption
  | succ n ih =>
    unfold State.takeFabric
    try dsimp only
    repeat' first | (with_reducible first | assumption | apply State.take_keeps | apply State.eoi_keeps | apply ih | split | intro _) | assumption

theorem execEventForward_keeps (b_mem : B .mem) (b_evt : B .evt) (b_flw : B .flw) (b_flt : B .flt) (b_tpl : B .tpl) (b_ttb : B .ttb) (b_rail : B .rail) (b_swy : B .swy) (b_sup : B .sup) (b_ldg : B .ldg) (b_lpe : B .lpe) (b_lnk : B .lnk) (hM : M) : ∃ t, execEventForward s = .next t ∧ Keeps B M s t := by
  refine ⟨_, rfl, ?_⟩
  have h : Keeps B M s s := Keeps.refl s
  try dsimp only
  repeat' first | (with_reducible first | assumption | apply State.setFlagI_keeps | apply State.takeFabric_keeps | apply State.flowPush_keeps | split | intro _) | assumption

theorem execSyncPeriod_keeps : ∃ t, execSyncPeriod s = .next t ∧ Keeps B M s t := by
  refine ⟨_, rfl, ?_⟩
  have h : Keeps B M s s := Keeps.refl s
  try dsimp only
  repeat' first | (with_reducible first | assumption | apply State.send_keeps | apply each_keeps | split | intro _ | refine keeps_mk ?_ rfl rfl) | assumption

theorem State.syncTake_keeps (h : Keeps B M z s) (b_tim : B .tim) (b_mem : B .mem) (b_evt : B .evt) (hM : M) : Keeps B M z (State.syncTake s x1 x2) := by
  unfold State.syncTake
  try dsimp only
  repeat' first | (with_reducible first | assumption | apply State.put_keeps | apply State.setFlag_keeps | apply State.stepTime_keeps | apply State.setTim_keeps | split | intro _ | refine keeps_mk ?_ rfl rfl) | assumption

theorem execSyncReceive_keeps (b_tim : B .tim) (b_mem : B .mem) (b_evt : B .evt) (hM : M) : ∃ t, execSyncReceive x0 x1 s = .next t ∧ Keeps B M s t := by
  refine ⟨_, rfl, ?_⟩
  have h : Keeps B M s s := Keeps.refl s
  try dsimp only
  repeat' first | (with_reducible first | assumption | apply State.syncTake_keeps | split | intro _) | assumption

theorem execReqReceive_keeps : ∃ t, execReqReceive x0 x1 s = .next t ∧ Keeps B M s t := by
  refine ⟨_, rfl, ?_⟩
  have h : Keeps B M s s := Keeps.refl s
  try dsimp only
  repeat' first | (with_reducible first | assumption | apply State.send_keeps | split | intro _) | assumption

theorem execRespReceive_keeps (b_tim : B .tim) : ∃ t, execRespReceive x0 x1 s = .next t ∧ Keeps B M s t := by
  refine ⟨_, rfl, ?_⟩
  have h : Keeps B M s s := Keeps.refl s
  try dsimp only
  repeat' first | (with_reducible first | assumption | apply State.wr_keeps | split | intro _ | refine keeps_mk ?_ rfl rfl) | assumption

theorem execTimeSet_keeps (b_mem : B .mem) (b_evt : B .evt) (b_tim : B .tim) (hM : M) : ∃ t, execTimeSet x0 x1 x2 s = .next t ∧ Keeps B M s t := by
  refine ⟨_, rfl, ?_⟩
  have h : Keeps B M s s := Keeps.refl s
  try dsimp only
  repeat' first | (with_reducible first | assumption | apply State.guardSent_keeps | apply State.wrSetctl_keeps | split | intro _) | assumption

theorem execHoldover_keeps (b_tim : B .tim) (b_mem : B .mem) (b_evt : B .evt) (hM : M) : ∃ t, execHoldover s = .next t ∧ Keeps B M s t := by
  refine ⟨_, rfl, ?_⟩
  have h : Keeps B M s s := Keeps.refl s
  try dsimp only
  repeat' first | (with_reducible first | assumption | apply State.setTim_keeps | split | intro _ | refine keeps_mk ?_ rfl rfl) | assumption

theorem State.summitMark_keeps (h : Keeps B M z s) (b_ldg : B .ldg) (b_tim : B .tim) (b_mem : B .mem) (b_evt : B .evt) (hM : M) : Keeps B M z (State.summitMark s x1) := by
  unfold State.summitMark
  try dsimp only
  repeat' first | (with_reducible first | assumption | apply State.complete_keeps | apply State.armMark_keeps | apply State.send_keeps | apply each_keeps | split | intro _) | assumption

theorem execSummitMark_keeps (b_mem : B .mem) (b_evt : B .evt) (b_cmd : B .cmd) (b_tpl : B .tpl) (b_ldg : B .ldg) (b_tim : B .tim) (hM : M) : ∃ t, execSummitMark x0 s = .next t ∧ Keeps B M s t := by
  refine ⟨_, rfl, ?_⟩
  have h : Keeps B M s s := Keeps.refl s
  try dsimp only
  repeat' first | (with_reducible first | assumption | apply State.ledgerRow_keeps | apply State.summitMark_keeps | split | intro _) | assumption

theorem execMarkReceive_keeps (b_mem : B .mem) (b_evt : B .evt) (b_tim : B .tim) (hM : M) : ∃ t, execMarkReceive x0 x1 s = .next t ∧ Keeps B M s t := by
  refine ⟨_, rfl, ?_⟩
  have h : Keeps B M s s := Keeps.refl s
  try dsimp only
  repeat' first | (with_reducible first | assumption | apply State.setFlagI_keeps | apply State.armMark_keeps | split | intro _) | assumption

theorem execMarkLatch_keeps (b_tim : B .tim) (b_mem : B .mem) (b_evt : B .evt) (hM : M) : ∃ t, execMarkLatch x0 s = .next t ∧ Keeps B M s t := by
  refine ⟨_, rfl, ?_⟩
  have h : Keeps B M s s := Keeps.refl s
  try dsimp only
  repeat' first | (with_reducible first | assumption | apply State.put_keeps | apply State.setFlagI_keeps | split | intro _ | refine keeps_mk ?_ rfl rfl) | assumption

theorem execTimMarkdone_keeps (b_tim : B .tim) (b_mem : B .mem) (b_evt : B .evt) (b_ldg : B .ldg) (hM : M) : ∃ t, execTimMarkdone x0 s = .next t ∧ Keeps B M s t := by
  refine ⟨_, rfl, ?_⟩
  have h : Keeps B M s s := Keeps.refl s
  try dsimp only
  repeat' first | (with_reducible first | assumption | apply State.putBit_keeps | apply State.putBankWords_keeps | apply State.setFlagI_keeps | apply State.complete_keeps | split | intro _ | refine keeps_mk ?_ rfl rfl) | assumption

theorem State.wrTwbCfg_keeps (h : Keeps B M z s) (b_twb : B .twb) : Keeps B M z (State.wrTwbCfg s x1) := by
  unfold State.wrTwbCfg
  try dsimp only
  repeat' first | (with_reducible first | assumption | apply State.writeRw_keeps | split | intro _) | assumption

theorem State.wrCxcfg_keeps (h : Keeps B M z s) (b_twb : B .twb) : Keeps B M z (State.wrCxcfg s x1) := by
  unfold State.wrCxcfg
  try dsimp only
  repeat' first | (with_reducible first | assumption | apply State.writeRw_keeps | split | intro _) | assumption

theorem State.readArea_keeps (h : Keeps B M z s) (b_mem : B .mem) (b_evt : B .evt) (b_flt : B .flt) (b_tpl : B .tpl) (b_ttb : B .ttb) (b_rail : B .rail) (b_swy : B .swy) (b_sup : B .sup) (b_ldg : B .ldg) (b_lpe : B .lpe) (b_lnk : B .lnk) (hM : M) : Keeps B M z (State.readArea s x1 x2).2 := by
  induction x2 generalizing s x1 with
  | zero =>
    unfold State.readArea
    try dsimp only
    repeat' first | (with_reducible first | assumption | apply State.memRead_keeps | split | intro _) | assumption
  | succ n ih =>
    unfold State.readArea
    try dsimp only
    repeat' first | (with_reducible first | assumption | apply State.memRead_keeps | apply ih | split | intro _) | assumption

theorem State.wrCxgo_keeps (h : Keeps B M z s) (b_twb : B .twb) (b_mem : B .mem) (b_evt : B .evt) (b_flt : B .flt) (b_tpl : B .tpl) (b_ttb : B .ttb) (b_rail : B .rail) (b_swy : B .swy) (b_sup : B .sup) (b_ldg : B .ldg) (b_lpe : B .lpe) (b_lnk : B .lnk) (hM : M) : Keeps B M z (State.wrCxgo s x1) := by
  unfold State.wrCxgo
  try dsimp only
  repeat' first | (with_reducible first | assumption | apply State.put_keeps | apply State.readArea_keeps | apply State.putBit_keeps | split | intro _ | refine keeps_mk ?_ rfl rfl) | assumption

theorem State.storeArea_keeps (h : Keeps B M z s) (b_mem : B .mem) (b_evt : B .evt) (b_flt : B .flt) (b_tpl : B .tpl) (b_ttb : B .ttb) (b_rail : B .rail) (b_swy : B .swy) (b_sup : B .sup) (b_ldg : B .ldg) (b_lpe : B .lpe) (b_lnk : B .lnk) (hM : M) : Keeps B M z (State.storeArea s x1 x2 x3) := by
  induction x2 generalizing s x1 x3 with
  | zero =>
    unfold State.storeArea
    try dsimp only
    repeat' first | (with_reducible first | assumption | apply State.sramNarrow_keeps | split | intro _) | assumption
  | succ n ih =>
    unfold State.storeArea
    try dsimp only
    repeat' first | (with_reducible first | assumption | apply State.sramNarrow_keeps | apply ih | split | intro _) | assumption

theorem State.sleepNow_keeps (h : Keeps B M z s) (b_pwr : B .pwr) : Keeps B M z (State.sleepNow s) := by
  unfold State.sleepNow
  try dsimp only
  repeat' first | (with_reducible first | assumption | apply State.put_keeps | split | intro _ | refine keeps_mk ?_ rfl rfl) | assumption

theorem State.cxFinish_keeps (h : Keeps B M z s) (b_twb : B .twb) (b_mem : B .mem) (b_evt : B .evt) (b_pwr : B .pwr) (hM : M) : Keeps B M z (State.cxFinish s x1 x2) := by
  unfold State.cxFinish
  try dsimp only
  repeat' first | (with_reducible first | assumption | apply State.cxEnd_keeps | apply State.sleepNow_keeps | split | intro _) | assumption

theorem execCxgo_keeps (b_mem : B .mem) (b_evt : B .evt) (b_twb : B .twb) (b_flt : B .flt) (b_tpl : B .tpl) (b_ttb : B .ttb) (b_rail : B .rail) (b_swy : B .swy) (b_sup : B .sup) (b_ldg : B .ldg) (b_lpe : B .lpe) (b_lnk : B .lnk) (hM : M) : ∃ t, execCxgo x0 x1 x2 s = .next t ∧ Keeps B M s t := by
  refine ⟨_, rfl, ?_⟩
  have h : Keeps B M s s := Keeps.refl s
  try dsimp only
  repeat' first | (with_reducible first | assumption | apply State.guardSent_keeps | apply State.wrCxgo_keeps | split | intro _) | assumption

theorem execCxdone_keeps (b_twb : B .twb) (b_mem : B .mem) (b_evt : B .evt) (b_pwr : B .pwr) (b_flt : B .flt) (b_tpl : B .tpl) (b_ttb : B .ttb) (b_rail : B .rail) (b_swy : B .swy) (b_sup : B .sup) (b_ldg : B .ldg) (b_lpe : B .lpe) (b_lnk : B .lnk) (hM : M) : ∃ t, execCxdone x0 s = .next t ∧ Keeps B M s t := by
  refine ⟨_, rfl, ?_⟩
  have h : Keeps B M s s := Keeps.refl s
  try dsimp only
  repeat' first | (with_reducible first | assumption | apply State.cxFinish_keeps | apply State.storeArea_keeps | split | intro _) | assumption

theorem execArbitrationLost_keeps (b_twb : B .twb) (b_mem : B .mem) (b_evt : B .evt) (b_pwr : B .pwr) (hM : M) : ∃ t, execArbitrationLost s = .next t ∧ Keeps B M s t := by
  refine ⟨_, rfl, ?_⟩
  have h : Keeps B M s s := Keeps.refl s
  try dsimp only
  repeat' first | (with_reducible first | assumption | apply State.addSat_keeps | apply State.draw_keeps | apply State.cxFinish_keeps | apply State.setFlag_keeps | split | intro _) | assumption

theorem State.wakeNack_keeps (h : Keeps B M z s) (b_mem : B .mem) (b_evt : B .evt) (b_twb : B .twb) (hM : M) : Keeps B M z (State.wakeNack s) := by
  unfold State.wakeNack
  try dsimp only
  repeat' first | (with_reducible first | assumption | apply State.setFlag_keeps | split | intro _ | refine keeps_mk ?_ rfl rfl) | assumption

theorem execWakenack_keeps (b_mem : B .mem) (b_evt : B .evt) (b_twb : B .twb) (hM : M) : ∃ t, execWakenack s = .next t ∧ Keeps B M s t := by
  refine ⟨_, rfl, ?_⟩
  have h : Keeps B M s s := Keeps.refl s
  try dsimp only
  repeat' first | (with_reducible first | assumption | apply State.wakeNack_keeps | split | intro _) | assumption

theorem State.answer_keeps (h : Keeps B M z s) : Keeps B M z (State.answer s x1 x2) := by
  unfold State.answer
  try dsimp only
  repeat' first | (with_reducible first | assumption | split | intro _ | refine keeps_mk ?_ rfl rfl) | assumption

theorem State.monLine_keeps (h : Keeps B M z s) (b_mem : B .mem) (b_evt : B .evt) (b_mon : B .mon) (hM : M) (hx2 : ∀ s, Keeps B M z s → Keeps B M z (x2 s)) : Keeps B M z (State.monLine s x1 x2) := by
  unfold State.monLine
  try dsimp only
  repeat' first | (with_reducible first | assumption | apply hx2 | apply State.answer_keeps | apply State.setFlag_keeps | split | intro _ | refine keeps_mk ?_ rfl rfl) | assumption

theorem State.monCmd_keeps (h : Keeps B M z s) (b_mem : B .mem) (b_evt : B .evt) (b_mon : B .mon) (hM : M) (hx2 : ∀ s, Keeps B M z s → Keeps B M z (x2 s)) : Keeps B M z (State.monCmd s x1 x2) := by
  unfold State.monCmd
  try dsimp only
  repeat' first | (with_reducible first | assumption | apply hx2 | apply State.monLine_keeps | split | intro _) | assumption

theorem State.setBaud_keeps (h : Keeps B M z s) (b_mon : B .mon) : Keeps B M z (State.setBaud s x1) := by
  unfold State.setBaud
  try dsimp only
  repeat' first | (with_reducible first | assumption | apply State.put_keeps | split | intro _ | refine keeps_mk ?_ rfl rfl) | assumption

theorem State.wrMonCfg_keeps (h : Keeps B M z s) (b_mon : B .mon) : Keeps B M z (State.wrMonCfg s x1 x2) := by
  unfold State.wrMonCfg
  try dsimp only
  repeat' first | (with_reducible first | assumption | apply State.putBit_keeps | apply State.put_keeps | apply State.setBaud_keeps | split | intro _) | assumption

theorem execMonCfgWrite_keeps (b_mem : B .mem) (b_evt : B .evt) (b_mon : B .mon) (hM : M) : ∃ t, execMonCfgWrite x0 x1 x2 s = .next t ∧ Keeps B M s t := by
  refine ⟨_, rfl, ?_⟩
  have h : Keeps B M s s := Keeps.refl s
  try dsimp only
  repeat' first | (with_reducible first | assumption | apply State.guardWrite_keeps | apply State.wrMonCfg_keeps | split | intro _) | assumption

theorem execBaud_keeps (b_mem : B .mem) (b_evt : B .evt) (b_mon : B .mon) (hM : M) : ∃ t, execBaud x0 s = .next t ∧ Keeps B M s t := by
  refine ⟨_, rfl, ?_⟩
  have h : Keeps B M s s := Keeps.refl s
  try dsimp only
  repeat' first | (with_reducible first | assumption | apply State.monCmd_keeps | apply State.answer_keeps | apply State.setBaud_keeps | split | intro _) | assumption

theorem execBaudrev_keeps (b_mem : B .mem) (b_evt : B .evt) (b_mon : B .mon) (hM : M) : ∃ t, execBaudrev s = .next t ∧ Keeps B M s t := by
  refine ⟨_, rfl, ?_⟩
  have h : Keeps B M s s := Keeps.refl s
  try dsimp only
  repeat' first | (with_reducible first | assumption | apply State.setFlag_keeps | apply State.put_keeps | split | intro _ | refine keeps_mk ?_ rfl rfl) | assumption

theorem execMonBadLine_keeps (b_mem : B .mem) (b_evt : B .evt) (b_mon : B .mon) (hM : M) : ∃ t, execMonBadLine x0 s = .next t ∧ Keeps B M s t := by
  refine ⟨_, rfl, ?_⟩
  have h : Keeps B M s s := Keeps.refl s
  try dsimp only
  repeat' first | (with_reducible first | assumption | apply State.answer_keeps | apply State.setFlag_keeps | split | intro _) | assumption

theorem State.lockNow_keeps (h : Keeps B M z s) (b_mon : B .mon) : Keeps B M z (State.lockNow s) := by
  unfold State.lockNow
  try dsimp only
  repeat' first | (with_reducible first | assumption | apply State.putBit_keeps | split | intro _) | assumption

theorem execLk_keeps (b_mem : B .mem) (b_evt : B .evt) (b_mon : B .mon) (hM : M) : ∃ t, execLk s = .next t ∧ Keeps B M s t := by
  refine ⟨_, rfl, ?_⟩
  have h : Keeps B M s s := Keeps.refl s
  try dsimp only
  repeat' first | (with_reducible first | assumption | apply State.monCmd_keeps | apply State.answer_keeps | apply State.lockNow_keeps | split | intro _) | assumption

theorem execUnlockIdleExpiry_keeps (b_mon : B .mon) : ∃ t, execUnlockIdleExpiry s = .next t ∧ Keeps B M s t := by
  refine ⟨_, rfl, ?_⟩
  have h : Keeps B M s s := Keeps.refl s
  try dsimp only
  repeat' first | (with_reducible first | assumption | apply State.lockNow_keeps | split | intro _) | assumption

theorem execLockoutEnd_keeps (b_mon : B .mon) : ∃ t, execLockoutEnd s = .next t ∧ Keeps B M s t := by
  refine ⟨_, rfl, ?_⟩
  have h : Keeps B M s s := Keeps.refl s
  try dsimp only
  repeat' first | (with_reducible first | assumption | apply State.put_keeps | split | intro _) | assumption

theorem State.unlockTry_keeps (h : Keeps B M z s) (b_mem : B .mem) (b_evt : B .evt) (b_mon : B .mon) (hM : M) : Keeps B M z (State.unlockTry s x1) := by
  unfold State.unlockTry
  try dsimp only
  repeat' first | (with_reducible first | assumption | apply State.answer_keeps | apply State.setFlag_keeps | apply State.put_keeps | apply State.putBit_keeps | apply State.setFlagI_keeps | split | intro _ | refine keeps_mk ?_ rfl rfl) | assumption

theorem execUl_keeps (b_mem : B .mem) (b_evt : B .evt) (b_mon : B .mon) (hM : M) : ∃ t, execUl x0 s = .next t ∧ Keeps B M s t := by
  refine ⟨_, rfl, ?_⟩
  have h : Keeps B M s s := Keeps.refl s
  try dsimp only
  repeat' first | (with_reducible first | assumption | apply State.monCmd_keeps | apply State.answer_keeps | apply State.draw_keeps | apply State.unlockTry_keeps | split | intro _ | refine keeps_mk ?_ rfl rfl) | assumption

theorem State.wrXngCtl_keeps (h : Keeps B M z s) (b_mem : B .mem) (b_evt : B .evt) (b_xng : B .xng) (hM : M) : Keeps B M z (State.wrXngCtl s x1) := by
  unfold State.wrXngCtl
  try dsimp only
  repeat' first | (with_reducible first | assumption | apply State.setFlag_keeps | apply State.writeRw_keeps | apply State.clearFlags_keeps | split | intro _ | refine keeps_mk ?_ rfl rfl) | assumption

theorem State.wrXngTake_keeps (h : Keeps B M z s) (b_mem : B .mem) (b_evt : B .evt) (b_xng : B .xng) (hM : M) : Keeps B M z (State.wrXngTake s x1) := by
  unfold State.wrXngTake
  try dsimp only
  repeat' first | (with_reducible first | assumption | apply State.clearFlags_keeps | split | intro _ | refine keeps_mk ?_ rfl rfl) | assumption

theorem execLegacyWrite_keeps (b_mem : B .mem) (b_evt : B .evt) (b_xng : B .xng) (hM : M) : ∃ t, execLegacyWrite x0 x1 x2 s = .next t ∧ Keeps B M s t := by
  refine ⟨_, rfl, ?_⟩
  have h : Keeps B M s s := Keeps.refl s
  try dsimp only
  repeat' first | (with_reducible first | assumption | apply State.guardWrite_keeps | apply State.wrXngCtl_keeps | split | intro _) | assumption

theorem execTakeRelease_keeps (b_mem : B .mem) (b_evt : B .evt) (b_xng : B .xng) (hM : M) : ∃ t, execTakeRelease x0 x1 x2 s = .next t ∧ Keeps B M s t := by
  refine ⟨_, rfl, ?_⟩
  have h : Keeps B M s s := Keeps.refl s
  try dsimp only
  repeat' first | (with_reducible first | assumption | apply State.guardWrite_keeps | apply State.wrXngTake_keeps | split | intro _) | assumption

theorem State.crossFails_keeps (h : Keeps B M z s) (b_xng : B .xng) (b_flt : B .flt) (b_tpl : B .tpl) (b_mem : B .mem) (b_evt : B .evt) (b_ttb : B .ttb) (b_rail : B .rail) (b_swy : B .swy) (b_sup : B .sup) (b_ldg : B .ldg) (b_lpe : B .lpe) (b_lnk : B .lnk) (hM : M) : Keeps B M z (State.crossFails s x1) := by
  unfold State.crossFails
  try dsimp only
  repeat' first | (with_reducible first | assumption | apply State.put_keeps | apply State.addSat_keeps | apply State.raise_keeps | apply State.setFlagI_keeps | split | intro _) | assumption

theorem execXngStuck_keeps (b_xng : B .xng) (b_flt : B .flt) (b_tpl : B .tpl) (b_mem : B .mem) (b_evt : B .evt) (b_ttb : B .ttb) (b_rail : B .rail) (b_swy : B .swy) (b_sup : B .sup) (b_ldg : B .ldg) (b_lpe : B .lpe) (b_lnk : B .lnk) (hM : M) : ∃ t, execXngStuck x0 x1 s = .next t ∧ Keeps B M s t := by
  refine ⟨_, rfl, ?_⟩
  have h : Keeps B M s s := Keeps.refl s
  try dsimp only
  repeat' first | (with_reducible first | assumption | apply State.deliver_keeps | apply State.crossFails_keeps | apply State.addSat_keeps | split | intro _) | assumption

theorem execCrossingTimeout_keeps (b_xng : B .xng) (b_flt : B .flt) (b_tpl : B .tpl) (b_mem : B .mem) (b_evt : B .evt) (b_ttb : B .ttb) (b_rail : B .rail) (b_swy : B .swy) (b_sup : B .sup) (b_ldg : B .ldg) (b_lpe : B .lpe) (b_lnk : B .lnk) (hM : M) : ∃ t, execCrossingTimeout x0 s = .next t ∧ Keeps B M s t := by
  refine ⟨_, rfl, ?_⟩
  have h : Keeps B M s s := Keeps.refl s
  try dsimp only
  repeat' first | (with_reducible first | assumption | apply State.crossFails_keeps | split | intro _) | assumption

theorem State.phasePark_keeps (h : Keeps B M z s) (b_lpe : B .lpe) (b_swy : B .swy) : Keeps B M z (State.phasePark s x1) := by
  unfold State.phasePark
  try dsimp only
  repeat' first | (with_reducible first | assumption | apply State.park_keeps | split | intro _) | assumption

theorem State.putPhase_keeps (h : Keeps B M z s) : Keeps B M z (State.putPhase s x1 x2 x3) := by
  unfold State.putPhase
  try dsimp only
  repeat' first | (with_reducible first | assumption | split | intro _ | refine keeps_mk ?_ rfl rfl) | assumption

theorem State.phaseCount_keeps (h : Keeps B M z s) (b_lpe : B .lpe) (b_swy : B .swy) : Keeps B M z (State.phaseCount s x1) := by
  unfold State.phaseCount
  try dsimp only
  repeat' first | (with_reducible first | assumption | apply State.putPhase_keeps | apply State.unpark_keeps | apply State.phasePark_keeps | split | intro _) | assumption

theorem State.phaseLock_keeps (h : Keeps B M z s) (b_lpe : B .lpe) (b_swy : B .swy) : Keeps B M z (State.phaseLock s) := by
  unfold State.phaseLock
  try dsimp only
  repeat' first | (with_reducible first | assumption | apply State.unpark_keeps | apply each_keeps | split | intro _ | refine keeps_mk ?_ rfl rfl) | assumption

theorem execPhaseCountEval_keeps (b_swy : B .swy) (b_lpe : B .lpe) : ∃ t, execPhaseCountEval x0 s = .next t ∧ Keeps B M s t := by
  refine ⟨_, rfl, ?_⟩
  have h : Keeps B M s s := Keeps.refl s
  try dsimp only
  repeat' first | (with_reducible first | assumption | apply State.measure_keeps | apply State.phaseLock_keeps | apply State.phaseCount_keeps | apply each_keeps | split | intro _ | refine keeps_mk ?_ rfl rfl) | assumption

theorem State.derate_keeps (h : Keeps B M z s) (b_pol : B .pol) : Keeps B M z (State.derate s x1) := by
  unfold State.derate
  try dsimp only
  repeat' first | (with_reducible first | assumption | apply State.put_keeps | apply State.message_keeps | split | intro _ | refine keeps_mk ?_ rfl rfl) | assumption

theorem execDerateEval_keeps (b_swy : B .swy) (b_pol : B .pol) : ∃ t, execDerateEval x0 s = .next t ∧ Keeps B M s t := by
  refine ⟨_, rfl, ?_⟩
  have h : Keeps B M s s := Keeps.refl s
  try dsimp only
  repeat' first | (with_reducible first | assumption | apply State.measure_keeps | apply State.derate_keeps | apply each_keeps | split | intro _) | assumption

theorem execOtPark_keeps (b_lpe : B .lpe) (b_swy : B .swy) (b_flt : B .flt) (b_tpl : B .tpl) (b_mem : B .mem) (b_evt : B .evt) (b_ttb : B .ttb) (b_rail : B .rail) (b_sup : B .sup) (b_ldg : B .ldg) (b_lnk : B .lnk) (hM : M) : ∃ t, execOtPark x0 s = .next t ∧ Keeps B M s t := by
  refine ⟨_, rfl, ?_⟩
  have h : Keeps B M s s := Keeps.refl s
  try dsimp only
  repeat' first | (with_reducible first | assumption | apply State.park_keeps | apply State.raise_keeps | apply State.live_keeps | split | intro _) | assumption

theorem State.ffwd_keeps (h : Keeps B M z s) (b_pol : B .pol) : Keeps B M z (State.ffwd s x1) := by
  unfold State.ffwd
  try dsimp only
  repeat' first | (with_reducible first | assumption | apply State.ffMode_keeps | split | intro _ | refine keeps_mk ?_ rfl rfl) | assumption

theorem execFfwdEval_keeps (b_pol : B .pol) : ∃ t, execFfwdEval x0 s = .next t ∧ Keeps B M s t := by
  refine ⟨_, rfl, ?_⟩
  have h : Keeps B M s s := Keeps.refl s
  try dsimp only
  repeat' first | (with_reducible first | assumption | apply State.ffwd_keeps | apply each_keeps | split | intro _ | refine keeps_mk ?_ rfl rfl) | assumption

theorem State.rideShed_keeps (h : Keeps B M z s) (b_pol : B .pol) (b_rail : B .rail) (b_swy : B .swy) (b_mem : B .mem) (b_evt : B .evt) (b_ttb : B .ttb) (b_sup : B .sup) (b_ldg : B .ldg) (b_lpe : B .lpe) (hM : M) : Keeps B M z (State.rideShed s) := by
  unfold State.rideShed
  try dsimp only
  repeat' first | (with_reducible first | assumption | apply State.put_keeps | apply State.putBit_keeps | apply State.railOff_keeps | apply State.message_keeps | apply State.setFlag_keeps | apply State.setFlagI_keeps | split | intro _ | refine keeps_mk ?_ rfl rfl) | assumption

theorem State.rideWait_keeps (h : Keeps B M z s) : Keeps B M z (State.rideWait s).2 := by
  unfold State.rideWait
  try dsimp only
  repeat' first | (with_reducible first | assumption | split | intro _ | refine keeps_mk ?_ rfl rfl) | assumption

theorem execRideEval_keeps (b_mem : B .mem) (b_evt : B .evt) (b_pol : B .pol) (b_rail : B .rail) (b_swy : B .swy) (b_ttb : B .ttb) (b_sup : B .sup) (b_ldg : B .ldg) (b_lpe : B .lpe) (hM : M) : ∃ t, execRideEval x0 s = .next t ∧ Keeps B M s t := by
  refine ⟨_, rfl, ?_⟩
  have h : Keeps B M s s := Keeps.refl s
  try dsimp only
  repeat' first | (with_reducible first | assumption | apply State.setFlagI_keeps | apply State.putBit_keeps | apply State.put_keeps | apply State.rideWait_keeps | apply State.rideShed_keeps | split | intro _ | refine keeps_mk ?_ rfl rfl) | assumption

theorem State.restoreFrom_keeps (h : Keeps B M z s) (b_pol : B .pol) (b_mem : B .mem) (b_evt : B .evt) (b_ttb : B .ttb) (b_pwr : B .pwr) (b_rail : B .rail) (b_swy : B .swy) (b_sup : B .sup) (b_ldg : B .ldg) (b_lpe : B .lpe) (b_flt : B .flt) (b_tpl : B .tpl) (b_lnk : B .lnk) (hM : M) : Keeps B M z (State.restoreFrom s x1) := by
  induction x1 generalizing s with
  | nil =>
    unfold State.restoreFrom
    try dsimp only
    repeat' first | (with_reducible first | assumption | apply State.putBit_keeps | apply State.unshed_keeps | apply State.groupOn_keeps | apply State.railOn_keeps | apply State.message_keeps | split | intro _ | refine keeps_mk ?_ rfl rfl) | assumption
  | cons y l ih =>
    unfold State.restoreFrom
    try dsimp only
    repeat' first | (with_reducible first | assumption | apply State.putBit_keeps | apply State.unshed_keeps | apply State.groupOn_keeps | apply State.railOn_keeps | apply State.message_keeps | apply ih | split | intro _ | refine keeps_mk ?_ rfl rfl) | assumption

theorem execRideEpisodeEnd_keeps (b_pol : B .pol) (b_mem : B .mem) (b_evt : B .evt) (b_ttb : B .ttb) (b_pwr : B .pwr) (b_rail : B .rail) (b_swy : B .swy) (b_sup : B .sup) (b_ldg : B .ldg) (b_lpe : B .lpe) (b_flt : B .flt) (b_tpl : B .tpl) (b_lnk : B .lnk) (hM : M) : ∃ t, execRideEpisodeEnd s = .next t ∧ Keeps B M s t := by
  refine ⟨_, rfl, ?_⟩
  have h : Keeps B M s s := Keeps.refl s
  try dsimp only
  repeat' first | (with_reducible first | assumption | apply State.putBit_keeps | apply State.put_keeps | apply State.restoreFrom_keeps | split | intro _) | assumption

theorem execPolRideRestore_keeps (b_pol : B .pol) (b_mem : B .mem) (b_evt : B .evt) (b_ttb : B .ttb) (b_pwr : B .pwr) (b_rail : B .rail) (b_swy : B .swy) (b_sup : B .sup) (b_ldg : B .ldg) (b_lpe : B .lpe) (b_flt : B .flt) (b_tpl : B .tpl) (b_lnk : B .lnk) (hM : M) : ∃ t, execPolRideRestore s = .next t ∧ Keeps B M s t := by
  refine ⟨_, rfl, ?_⟩
  have h : Keeps B M s s := Keeps.refl s
  try dsimp only
  repeat' first | (with_reducible first | assumption | apply State.restoreFrom_keeps | split | intro _) | assumption

theorem execPolLockWrite_keeps (b_mem : B .mem) (b_evt : B .evt) (b_pol : B .pol) (hM : M) : ∃ t, execPolLockWrite x0 x1 x2 s = .next t ∧ Keeps B M s t := by
  refine ⟨_, rfl, ?_⟩
  have h : Keeps B M s s := Keeps.refl s
  try dsimp only
  repeat' first | (with_reducible first | assumption | apply State.guardWrite_keeps | apply State.plainWrite_keeps | split | intro _) | assumption

theorem State.wrPolPhase_keeps (h : Keeps B M z s) (b_pol : B .pol) : Keeps B M z (State.wrPolPhase s x1 x2) := by
  unfold State.wrPolPhase
  try dsimp only
  repeat' first | (with_reducible first | assumption | apply State.writeRw_keeps | split | intro _) | assumption

theorem State.wrPolDer_keeps (h : Keeps B M z s) (b_pol : B .pol) : Keeps B M z (State.wrPolDer s x1 x2) := by
  unfold State.wrPolDer
  try dsimp only
  repeat' first | (with_reducible first | assumption | apply State.writeRw_keeps | split | intro _) | assumption

theorem execPolLimitWrite_keeps (b_mem : B .mem) (b_evt : B .evt) (b_pol : B .pol) (hM : M) : ∃ t, execPolLimitWrite x0 x1 x2 x3 x4 s = .next t ∧ Keeps B M s t := by
  refine ⟨_, rfl, ?_⟩
  have h : Keeps B M s s := Keeps.refl s
  try dsimp only
  repeat' first | (with_reducible first | assumption | apply State.guardWrite_keeps | apply State.wrPolPhase_keeps | apply State.wrPolDer_keeps | split | intro _) | assumption

theorem State.wrRide_keeps (h : Keeps B M z s) (b_pol : B .pol) : Keeps B M z (State.wrRide s x1) := by
  unfold State.wrRide
  try dsimp only
  repeat' first | (with_reducible first | assumption | apply State.writeRw_keeps | split | intro _) | assumption

theorem State.putConv_keeps (h : Keeps B M z s) : Keeps B M z (State.putConv s x1 x2) := by
  unfold State.putConv
  try dsimp only
  repeat' first | (with_reducible first | assumption | split | intro _ | refine keeps_mk ?_ rfl rfl) | assumption

theorem State.beginScan_keeps (h : Keeps B M z s) : Keeps B M z (State.beginScan s x1) := by
  unfold State.beginScan
  try dsimp only
  repeat' first | (with_reducible first | assumption | apply State.putConv_keeps | split | intro _) | assumption

theorem State.wrCvCtl_keeps (h : Keeps B M z s) (b_svy : B .svy) : Keeps B M z (State.wrCvCtl s x1 x2) := by
  unfold State.wrCvCtl
  try dsimp only
  repeat' first | (with_reducible first | assumption | apply State.writeRw_keeps | apply State.putConv_keeps | apply State.put_keeps | apply State.beginScan_keeps | split | intro _) | assumption

theorem execScanStart_keeps : ∃ t, execScanStart x0 s = .next t ∧ Keeps B M s t := by
  refine ⟨_, rfl, ?_⟩
  have h : Keeps B M s s := Keeps.refl s
  try dsimp only
  repeat' first | (with_reducible first | assumption | apply State.beginScan_keeps | apply State.putConv_keeps | split | intro _) | assumption

theorem execStart_keeps (b_mem : B .mem) (b_evt : B .evt) (b_svy : B .svy) (hM : M) : ∃ t, execStart x0 x1 s = .next t ∧ Keeps B M s t := by
  refine ⟨_, rfl, ?_⟩
  have h : Keeps B M s s := Keeps.refl s
  try dsimp only
  repeat' first | (with_reducible first | assumption | apply State.guardWrite_keeps | apply State.wrCvCtl_keeps | split | intro _) | assumption

theorem State.rdCvData_keeps (h : Keeps B M z s) (b_svy : B .svy) : Keeps B M z (State.rdCvData s x1).2 := by
  unfold State.rdCvData
  try dsimp only
  repeat' first | (with_reducible first | assumption | apply State.wr_keeps | split | intro _) | assumption

theorem State.ringPut_keeps (h : Keeps B M z s) (b_svy : B .svy) (b_mem : B .mem) (b_evt : B .evt) (b_flt : B .flt) (b_tpl : B .tpl) (b_ttb : B .ttb) (b_rail : B .rail) (b_swy : B .swy) (b_sup : B .sup) (b_ldg : B .ldg) (b_lpe : B .lpe) (b_lnk : B .lnk) (hM : M) : Keeps B M z (State.ringPut s x1 x2) := by
  unfold State.ringPut
  try dsimp only
  repeat' first | (with_reducible first | assumption | apply State.rdCvData_keeps | apply State.setFlag_keeps | apply State.addSat_keeps | apply State.putBit_keeps | apply State.sramUe_keeps | apply State.dmaHalt_keeps | apply State.sramWrite_keeps | apply State.put_keeps | split | intro _) | assumption

theorem State.scanResult_keeps (h : Keeps B M z s) (b_svy : B .svy) (b_mem : B .mem) (b_evt : B .evt) (b_flt : B .flt) (b_tpl : B .tpl) (b_ttb : B .ttb) (b_rail : B .rail) (b_swy : B .swy) (b_sup : B .sup) (b_ldg : B .ldg) (b_lpe : B .lpe) (b_lnk : B .lnk) (hM : M) : Keeps B M z (State.scanResult s x1 x2 x3 x4) := by
  unfold State.scanResult
  try dsimp only
  repeat' first | (with_reducible first | assumption | apply State.putConv_keeps | apply State.wr_keeps | apply State.setFlag_keeps | apply State.addSat_keeps | apply State.ringPut_keeps | split | intro _) | assumption

theorem State.putFactors_keeps (h : Keeps B M z s) (b_svy : B .svy) : Keeps B M z (State.putFactors s x1 x2) := by
  unfold State.putFactors
  try dsimp only
  repeat' first | (with_reducible first | assumption | apply State.wr_keeps | apply each_keeps | split | intro _) | assumption

theorem State.correctBack_keeps (h : Keeps B M z s) (b_svy : B .svy) (b_flt : B .flt) (b_tpl : B .tpl) (b_mem : B .mem) (b_evt : B .evt) (b_ttb : B .ttb) (b_rail : B .rail) (b_swy : B .swy) (b_sup : B .sup) (b_ldg : B .ldg) (b_lpe : B .lpe) (b_lnk : B .lnk) (hM : M) : Keeps B M z (State.correctBack s x1 x2) := by
  unfold State.correctBack
  try dsimp only
  repeat' first | (with_reducible first | assumption | apply State.putFactors_keeps | apply State.live_keeps | apply State.raise_keeps | apply State.setFlag_keeps | split | intro _) | assumption

theorem State.wrCvFlag_keeps (h : Keeps B M z s) (b_mem : B .mem) (b_evt : B .evt) (b_svy : B .svy) (hM : M) : Keeps B M z (State.wrCvFlag s x1 x2) := by
  unfold State.wrCvFlag
  try dsimp only
  repeat' first | (with_reducible first | assumption | apply State.clearFlagsBut_keeps | split | intro _) | assumption

theorem State.claimMoves_keeps (h : Keeps B M z s) : Keeps B M z (State.claimMoves s x1 x2 x3) := by
  unfold State.claimMoves
  try dsimp only
  repeat' first | (with_reducible first | assumption | apply State.putConv_keeps | split | intro _) | assumption

theorem State.senseJoins_keeps (h : Keeps B M z s) (b_rail : B .rail) (b_lpe : B .lpe) (b_swy : B .swy) : Keeps B M z (State.senseJoins s x1) := by
  unfold State.senseJoins
  try dsimp only
  repeat' first | (with_reducible first | assumption | apply State.startGo_keeps | split | intro _ | refine keeps_mk ?_ rfl rfl) | assumption

theorem State.stageWarm_keeps (h : Keeps B M z s) (b_swy : B .swy) : Keeps B M z (State.stageWarm s x1) := by
  unfold State.stageWarm
  try dsimp only
  repeat' first | (with_reducible first | assumption | apply State.thermal_keeps | apply State.hotMark_keeps | apply State.put_keeps | split | intro _) | assumption

theorem State.tapRead_keeps (h : Keeps B M z s) (b_rail : B .rail) (b_lpe : B .lpe) (b_swy : B .swy) (b_bkp : B .bkp) : Keeps B M z (State.tapRead s x1 x2) := by
  unfold State.tapRead
  try dsimp only
  repeat' first | (with_reducible first | assumption | apply State.senseJoins_keeps | apply State.vinSeen_keeps | apply State.stageWarm_keeps | apply State.showIbat_keeps | apply State.put_keeps | split | intro _) | assumption

theorem execConversionResult_keeps (b_rail : B .rail) (b_lpe : B .lpe) (b_swy : B .swy) (b_bkp : B .bkp) (b_svy : B .svy) (b_flt : B .flt) (b_tpl : B .tpl) (b_mem : B .mem) (b_evt : B .evt) (b_ttb : B .ttb) (b_sup : B .sup) (b_ldg : B .ldg) (b_lnk : B .lnk) (hM : M) : ∃ t, execConversionResult x0 x1 s = .next t ∧ Keeps B M s t := by
  refine ⟨_, rfl, ?_⟩
  have h : Keeps B M s s := Keeps.refl s
  try dsimp only
  repeat' first | (with_reducible first | assumption | apply State.tapRead_keeps | apply State.wr_keeps | apply State.claimMoves_keeps | apply State.correctBack_keeps | apply State.scanResult_keeps | split | intro _) | assumption

theorem State.wrDmaCfg_keeps (h : Keeps B M z s) (b_svy : B .svy) (b_mem : B .mem) (b_evt : B .evt) (hM : M) : Keeps B M z (State.wrDmaCfg s x1 x2) := by
  unfold State.wrDmaCfg
  try dsimp only
  repeat' first | (with_reducible first | assumption | apply State.writeRw_keeps | apply State.putBit_keeps | apply State.put_keeps | apply State.dmaRestart_keeps | apply State.setFlag_keeps | split | intro _) | assumption

theorem execDmaEnable_keeps (b_mem : B .mem) (b_evt : B .evt) (b_svy : B .svy) (hM : M) : ∃ t, execDmaEnable x0 x1 x2 x3 s = .next t ∧ Keeps B M s t := by
  refine ⟨_, rfl, ?_⟩
  have h : Keeps B M s s := Keeps.refl s
  try dsimp only
  repeat' first | (with_reducible first | assumption | apply State.guardWrite_keeps | apply State.wrDmaCfg_keeps | split | intro _) | assumption

theorem State.wrDmaPtr_keeps (h : Keeps B M z s) (b_svy : B .svy) : Keeps B M z (State.wrDmaPtr s x1 x2) := by
  unfold State.wrDmaPtr
  try dsimp only
  repeat' first | (with_reducible first | assumption | apply State.writeRw_keeps | split | intro _) | assumption

theorem State.wrFactor_keeps (h : Keeps B M z s) (b_mem : B .mem) (b_evt : B .evt) (b_svy : B .svy) (bx2 : B x2.block) (hM : M) : Keeps B M z (State.wrFactor s x1 x2 x3) := by
  unfold State.wrFactor
  try dsimp only
  repeat' first | (with_reducible first | assumption | apply State.writeRw_keeps | apply State.setFlagI_keeps | split | intro _) | assumption

theorem execSliceFactorWrite_keeps (hB : ∀ b, B b) (hM : M) : ∃ t, execSliceFactorWrite x0 x1 x2 x3 x4 x5 s = .next t ∧ Keeps B M s t := by
  refine ⟨_, rfl, ?_⟩
  have h : Keeps B M s s := Keeps.refl s
  try dsimp only
  repeat' first | (with_reducible first | assumption | apply State.guardWrite_keeps | apply State.wrFactor_keeps | split | intro _) | assumption | exact hB _

theorem State.trigger_keeps (h : Keeps B M z s) (b_mem : B .mem) (b_evt : B .evt) (b_svy : B .svy) (hM : M) : Keeps B M z (State.trigger s) := by
  unfold State.trigger
  try dsimp only
  repeat' first | (with_reducible first | assumption | apply State.beginScan_keeps | apply State.setFlag_keeps | apply State.putBit_keeps | apply State.wr_keeps | apply each_keeps | split | intro _) | assumption

theorem execCommonTrigger_keeps (b_mem : B .mem) (b_evt : B .evt) (b_svy : B .svy) (hM : M) : ∃ t, execCommonTrigger s = .next t ∧ Keeps B M s t := by
  refine ⟨_, rfl, ?_⟩
  have h : Keeps B M s s := Keeps.refl s
  try dsimp only
  repeat' first | (with_reducible first | assumption | apply State.trigger_keeps | split | intro _) | assumption

theorem State.wrTrig_keeps (h : Keeps B M z s) (b_svy : B .svy) (b_mem : B .mem) (b_evt : B .evt) (hM : M) : Keeps B M z (State.wrTrig s x1) := by
  unfold State.wrTrig
  try dsimp only
  repeat' first | (with_reducible first | assumption | apply State.writeRw_keeps | apply State.trigger_keeps | split | intro _) | assumption

theorem execFire_keeps (b_mem : B .mem) (b_evt : B .evt) (b_svy : B .svy) (hM : M) : ∃ t, execFire x0 s = .next t ∧ Keeps B M s t := by
  refine ⟨_, rfl, ?_⟩
  have h : Keeps B M s s := Keeps.refl s
  try dsimp only
  repeat' first | (with_reducible first | assumption | apply State.guardWrite_keeps | apply State.wrTrig_keeps | split | intro _) | assumption

theorem State.calNext_keeps (h : Keeps B M z s) (b_ldg : B .ldg) (b_svy : B .svy) : Keeps B M z (State.calNext s x1) := by
  unfold State.calNext
  try dsimp only
  repeat' first | (with_reducible first | assumption | apply State.complete_keeps | apply State.putBit_keeps | apply State.putConv_keeps | split | intro _ | refine keeps_mk ?_ rfl rfl) | assumption

theorem State.calStop_keeps (h : Keeps B M z s) (b_svy : B .svy) (b_ldg : B .ldg) : Keeps B M z (State.calStop s x1 x2) := by
  unfold State.calStop
  try dsimp only
  repeat' first | (with_reducible first | assumption | apply State.putBit_keeps | apply State.complete_keeps | apply each_keeps | split | intro _ | refine keeps_mk ?_ rfl rfl) | assumption

theorem State.startUpCalOne_keeps (h : Keeps B M z s) (b_svy : B .svy) (b_flt : B .flt) (b_tpl : B .tpl) (b_mem : B .mem) (b_evt : B .evt) (b_ttb : B .ttb) (b_rail : B .rail) (b_swy : B .swy) (b_sup : B .sup) (b_ldg : B .ldg) (b_lpe : B .lpe) (b_lnk : B .lnk) (hM : M) : Keeps B M z (State.startUpCalOne s x1 x2) := by
  unfold State.startUpCalOne
  try dsimp only
  repeat' first | (with_reducible first | assumption | apply State.putBit_keeps | apply State.putFactors_keeps | apply State.raise_keeps | split | intro _) | assumption

theorem State.startUpCal_keeps (h : Keeps B M z s) (b_svy : B .svy) (b_flt : B .flt) (b_tpl : B .tpl) (b_mem : B .mem) (b_evt : B .evt) (b_ttb : B .ttb) (b_rail : B .rail) (b_swy : B .swy) (b_sup : B .sup) (b_ldg : B .ldg) (b_lpe : B .lpe) (b_lnk : B .lnk) (hM : M) : Keeps B M z (State.startUpCal s x1) := by
  unfold State.startUpCal
  try dsimp only
  repeat' first | (with_reducible first | assumption | apply State.startUpCalOne_keeps | apply each_keeps | split | intro _) | assumption

theorem execSurveyCal_keeps (b_mem : B .mem) (b_evt : B .evt) (b_cmd : B .cmd) (b_tpl : B .tpl) (b_ldg : B .ldg) (b_svy : B .svy) (hM : M) : ∃ t, execSurveyCal x0 s = .next t ∧ Keeps B M s t := by
  refine ⟨_, rfl, ?_⟩
  have h : Keeps B M s s := Keeps.refl s
  try dsimp only
  repeat' first | (with_reducible first | assumption | apply State.issue_keeps | apply State.withRunning_keeps | apply State.calNext_keeps | split | intro _) | assumption

theorem execConverterCalDone_keeps (b_svy : B .svy) (b_ldg : B .ldg) : ∃ t, execConverterCalDone x0 x1 s = .next t ∧ Keeps B M s t := by
  refine ⟨_, rfl, ?_⟩
  have h : Keeps B M s s := Keeps.refl s
  try dsimp only
  repeat' first | (with_reducible first | assumption | apply State.putBit_keeps | apply State.calNext_keeps | apply State.putFactors_keeps | apply State.calStop_keeps | split | intro _) | assumption

end Sys2Proof.Machine
end

