-- ==== Sys2Proof/Laws/KeepsPower.lean ====
section
/-! SUPPORT. What the operations of power, register accesses, the trackplan and the start-up keep. -/

namespace Sys2Proof.Machine

variable {B : Block → Prop} {M : Prop} {z s : State}

theorem State.clearRegs_keeps (h : Keeps B M z s) (hB : ∀ b, B b) : Keeps B M z (State.clearRegs s x1 x2) := keeps_regs h hB rfl rfl rfl rfl

theorem State.endLive_keeps (h : Keeps B M z s) (b_flt : B .flt) : Keeps B M z (State.endLive s x1) := by
  unfold State.endLive
  try dsimp only
  repeat' first | (with_reducible first | assumption | apply State.live_keeps | apply each_keeps | split | intro _) | assumption

theorem State.dropSram_keeps (h : Keeps B M z s) (hM : M) : Keeps B M z (State.dropSram s x1) := keeps_mem h hM rfl (memFilter_wf _ _) rfl rfl rfl

theorem State.cmdReset_keeps (h : Keeps B M z s) : Keeps B M z (State.cmdReset s) := by
  unfold State.cmdReset
  try dsimp only
  repeat' first | (with_reducible first | assumption | apply State.gap_keeps | apply each_keeps | split | intro _ | refine keeps_mk ?_ rfl rfl) | assumption

theorem State.dropQueue_keeps (h : Keeps B M z s) (b_evt : B .evt) : Keeps B M z (State.dropQueue s x1) := by
  unfold State.dropQueue
  try dsimp only
  repeat' first | (with_reducible first | assumption | apply State.gap_keeps | apply State.putOrder_keeps | apply State.put_keeps | apply each_keeps | split | intro _) | assumption

theorem State.eventReset_keeps (h : Keeps B M z s) (b_evt : B .evt) : Keeps B M z (State.eventReset s x1) := by
  unfold State.eventReset
  try dsimp only
  repeat' first | (with_reducible first | assumption | apply State.gap_keeps | apply State.dropQueue_keeps | apply each_keeps | split | intro _ | refine keeps_mk ?_ rfl rfl) | assumption

theorem State.queueFresh_keeps (h : Keeps B M z s) (b_evt : B .evt) : Keeps B M z (State.queueFresh s x1) := by
  unfold State.queueFresh
  try dsimp only
  repeat' first | (with_reducible first | assumption | apply State.wr_keeps | split | intro _) | assumption

theorem State.clearStg_keeps (h : Keeps B M z s) (b_ldg : B .ldg) (b_swy : B .swy) : Keeps B M z (State.clearStg s) := by
  unfold State.clearStg
  try dsimp only
  repeat' first | (with_reducible first | assumption | apply State.regangEnd_keeps | split | intro _ | refine keeps_mk ?_ rfl rfl) | assumption

theorem State.clearAdc_keeps (h : Keeps B M z s) (b_svy : B .svy) (b_ldg : B .ldg) : Keeps B M z (State.clearAdc s) := by
  unfold State.clearAdc
  try dsimp only
  repeat' first | (with_reducible first | assumption | apply State.calStop_keeps | split | intro _ | refine keeps_mk ?_ rfl rfl) | assumption

theorem State.clearChg_keeps (h : Keeps B M z s) (b_bkp : B .bkp) : Keeps B M z (State.clearChg s) := by
  unfold State.clearChg
  try dsimp only
  repeat' first | (with_reducible first | assumption | apply State.chargerLoops_keeps | apply State.put_keeps | split | intro _ | refine keeps_mk ?_ rfl rfl) | assumption

theorem State.clearLink_keeps (h : Keeps B M z s) (b_lnk : B .lnk) (b_ldg : B .ldg) : Keeps B M z (State.clearLink s) := by
  unfold State.clearLink
  try dsimp only
  repeat' first | (with_reducible first | assumption | apply State.surveyEnd_keeps | apply State.complete_keeps | apply State.flowReset_keeps | apply each_keeps | split | intro _ | refine keeps_mk ?_ rfl rfl) | assumption

theorem State.clearDom_keeps (h : Keeps B M z s) (b_ldg : B .ldg) (b_swy : B .swy) (b_svy : B .svy) (b_bkp : B .bkp) (b_lnk : B .lnk) (b_mem : B .mem) : Keeps B M z (State.clearDom s x1) := by
  unfold State.clearDom
  try dsimp only
  repeat' first | (with_reducible first | assumption | apply State.clearStg_keeps | apply State.clearAdc_keeps | apply State.clearChg_keeps | apply State.clearLink_keeps | apply State.otpReset_keeps | apply State.ledgerReset_keeps | apply State.put_keeps | split | intro _ | refine keeps_mk ?_ rfl rfl) | assumption

theorem State.downDoms_keeps (h : Keeps B M z s) (hB : ∀ b, B b) : Keeps B M z (State.downDoms s x1 x2) := by
  have h2 := State.endLive_keeps (x1 := x1) (State.clearRegs_keeps (x1 := x1) (x2 := x2) (each_keeps (B := B) (M := M)
    (l := [Dom.stg, .eng, .seq, .chg, .adc, .link, .core, .nvm].filter x1.contains) h fun d s k => State.clearDom_keeps (x1 := d) k (hB _) (hB _) (hB _) (hB _) (hB _) (hB _)) hB) (hB _)
  exact ⟨h2.pending, h2.mem, h2.marks, fun x => powerTree_drop (h2.power x), h2.regs, h2.bytes⟩

theorem State.condsDown_keeps (h : Keeps B M z s) (b_mem : B .mem) (b_evt : B .evt) (hM : M) : Keeps B M z (State.condsDown s x1 x2) := by
  unfold State.condsDown
  try dsimp only
  repeat' first | (with_reducible first | assumption | apply State.condFall_keeps | apply State.happen_keeps | apply each_keeps | split | intro _) | assumption

theorem State.deviceReset_keeps (h : Keeps B M z s) (hB : ∀ b, B b) (hM : M) : Keeps B M z (State.deviceReset s x1 x2) := by
  unfold State.deviceReset
  try dsimp only
  repeat' first | (with_reducible first | assumption | apply State.downDoms_keeps | apply State.eventReset_keeps | apply State.cmdReset_keeps | apply State.dropSram_keeps | apply State.put_keeps | apply State.clearRegs_keeps | apply State.putBit_keeps | apply State.faultPin_keeps | apply State.irqPins_keeps | apply State.queueFresh_keeps | apply each_keeps | split | intro _ | refine keeps_mk ?_ rfl rfl | refine keeps_aon ?_ rfl rfl) | assumption | exact hB _

theorem State.freshAon_keeps (h : Keeps B M z s) (hB : ∀ b, B b) (hM : M) : Keeps B M z (State.freshAon s x1) := by
  have h0 := State.ledgerAbandon_keeps (State.otpReset_keeps h) (hB _)
  exact ⟨h.pending, fun x => memFilter_wf _ _ (h0.mem x), h0.marks, fun _ => powerTree_aon, fun r x => absurd (hB _) x, fun x => absurd hM x⟩

theorem State.deepBegin_keeps (h : Keeps B M z s) (b_pwr : B .pwr) : Keeps B M z (State.deepBegin s) := by
  unfold State.deepBegin
  try dsimp only
  repeat' first | (with_reducible first | assumption | apply State.put_keeps | apply State.putBit_keeps | split | intro _ | refine keeps_mk ?_ rfl rfl) | assumption

theorem State.deepRefuse_keeps (h : Keeps B M z s) (b_mem : B .mem) (b_evt : B .evt) (b_pwr : B .pwr) (hM : M) : Keeps B M z (State.deepRefuse s x1) := by
  unfold State.deepRefuse
  try dsimp only
  repeat' first | (with_reducible first | assumption | apply State.setFlagI_keeps | apply State.put_keeps | split | intro _) | assumption

theorem State.deepRequest_keeps (h : Keeps B M z s) (b_mem : B .mem) (b_evt : B .evt) (b_pwr : B .pwr) (hM : M) : Keeps B M z (State.deepRequest s) := by
  unfold State.deepRequest
  try dsimp only
  repeat' first | (with_reducible first | assumption | apply State.deepRefuse_keeps | apply State.putBit_keeps | apply State.deepBegin_keeps | split | intro _) | assumption

theorem State.sleepRequest_keeps (h : Keeps B M z s) (b_pwr : B .pwr) : Keeps B M z (State.sleepRequest s) := by
  unfold State.sleepRequest
  try dsimp only
  repeat' first | (with_reducible first | assumption | apply State.sleepNow_keeps | split | intro _ | refine keeps_mk ?_ rfl rfl) | assumption

theorem State.wrPwrCtl_keeps (h : Keeps B M z s) (b_pwr : B .pwr) (b_mem : B .mem) (b_evt : B .evt) (hM : M) : Keeps B M z (State.wrPwrCtl s x1) := by
  unfold State.wrPwrCtl
  try dsimp only
  repeat' first | (with_reducible first | assumption | apply State.writeRw_keeps | apply State.sleepRequest_keeps | apply State.deepRequest_keeps | apply State.deepDrop_keeps | split | intro _) | assumption

theorem execSleepRequest_keeps (b_mem : B .mem) (b_evt : B .evt) (b_pwr : B .pwr) (hM : M) : ∃ t, execSleepRequest x0 x1 x2 s = .next t ∧ Keeps B M s t := by
  refine ⟨_, rfl, ?_⟩
  have h : Keeps B M s s := Keeps.refl s
  try dsimp only
  repeat' first | (with_reducible first | assumption | apply State.guardWrite_keeps | apply State.wrPwrCtl_keeps | split | intro _) | assumption

theorem execDeepRequest_keeps (b_mem : B .mem) (b_evt : B .evt) (b_pwr : B .pwr) (hM : M) : ∃ t, execDeepRequest x0 x1 x2 s = .next t ∧ Keeps B M s t := by
  refine ⟨_, rfl, ?_⟩
  have h : Keeps B M s s := Keeps.refl s
  try dsimp only
  repeat' first | (with_reducible first | assumption | apply State.guardWrite_keeps | apply State.wrPwrCtl_keeps | split | intro _) | assumption

theorem execDeepDrop_keeps (b_mem : B .mem) (b_evt : B .evt) (b_pwr : B .pwr) (hM : M) : ∃ t, execDeepDrop x0 x1 x2 s = .next t ∧ Keeps B M s t := by
  refine ⟨_, rfl, ?_⟩
  have h : Keeps B M s s := Keeps.refl s
  try dsimp only
  repeat' first | (with_reducible first | assumption | apply State.guardWrite_keeps | apply State.wrPwrCtl_keeps | split | intro _) | assumption

theorem execDeepHoldTimeout_keeps (b_mem : B .mem) (b_evt : B .evt) (b_pwr : B .pwr) (hM : M) : ∃ t, execDeepHoldTimeout s = .next t ∧ Keeps B M s t := by
  refine ⟨_, rfl, ?_⟩
  have h : Keeps B M s s := Keeps.refl s
  try dsimp only
  repeat' first | (with_reducible first | assumption | apply State.deepDrop_keeps | split | intro _) | assumption

theorem State.deepPowerDown_keeps (h : Keeps B M z s) (hB : ∀ b, B b) (hM : M) : Keeps B M z (State.deepPowerDown s) := by
  unfold State.deepPowerDown
  try dsimp only
  repeat' first | (with_reducible first | assumption | apply State.dropSram_keeps | apply State.clearDom_keeps | apply State.put_keeps | apply State.endLive_keeps | apply State.clearRegs_keeps | apply State.faultPin_keeps | apply State.irqPins_keeps | apply each_keeps | split | intro _ | refine keeps_mk ?_ rfl rfl | refine keeps_aon ?_ rfl rfl) | assumption | exact hB _

theorem execDeepEntry_keeps (hB : ∀ b, B b) (hM : M) : ∃ t, execDeepEntry s = .next t ∧ Keeps B M s t := by
  refine ⟨_, rfl, ?_⟩
  have h : Keeps B M s s := Keeps.refl s
  try dsimp only
  repeat' first | (with_reducible first | assumption | apply State.deepPowerDown_keeps | apply State.deepBegin_keeps | split | intro _) | assumption | exact hB _

theorem State.flushLog_keeps (h : Keeps B M z s) (b_ldg : B .ldg) (b_mem : B .mem) (b_evt : B .evt) (b_flt : B .flt) (b_tpl : B .tpl) (b_ttb : B .ttb) (b_rail : B .rail) (b_swy : B .swy) (b_sup : B .sup) (b_lpe : B .lpe) (b_lnk : B .lnk) (hM : M) : Keeps B M z (State.flushLog x0 s) := by
  induction x0 generalizing s with
  | zero =>
    unfold State.flushLog
    try dsimp only
    repeat' first | (with_reducible first | assumption | apply State.refill_keeps | apply State.jobDone_keeps | apply State.putLane_keeps | apply State.runStep_keeps | apply foldl_keeps | split | intro _) | assumption
  | succ n ih =>
    unfold State.flushLog
    try dsimp only
    repeat' first | (with_reducible first | assumption | apply State.refill_keeps | apply State.jobDone_keeps | apply State.putLane_keeps | apply State.runStep_keeps | apply ih | apply foldl_keeps | split | intro _) | assumption

theorem State.shipStore_keeps (h : Keeps B M z s) (hB : ∀ b, B b) : Keeps B M z (State.shipStore x0 s) := by
  unfold State.shipStore
  exact State.wr_keeps (keeps_regs h hB rfl rfl rfl rfl) (hB _)

theorem State.goDark_keeps (h : Keeps B M z s) (hB : ∀ b, B b) (hM : M) : Keeps B M z (State.goDark s x1 x2) := by
  unfold State.goDark
  try dsimp only
  repeat' first | (with_reducible first | assumption | apply State.flushLog_keeps | apply State.gaugeRecord_keeps | apply State.shipStore_keeps | apply State.freshAon_keeps | apply State.put_keeps | split | intro _ | refine keeps_mk ?_ rfl rfl | refine keeps_aon ?_ rfl rfl) | assumption | exact hB _

theorem execShipEntry_keeps (hB : ∀ b, B b) (hM : M) : ∃ t, execShipEntry s = .next t ∧ Keeps B M s t := by
  refine ⟨_, rfl, ?_⟩
  have h : Keeps B M s s := Keeps.refl s
  try dsimp only
  repeat' first | (with_reducible first | assumption | apply State.goDark_keeps | split | intro _) | assumption | exact hB _

theorem execDepletedEntry_keeps (hB : ∀ b, B b) (hM : M) : ∃ t, execDepletedEntry s = .next t ∧ Keeps B M s t := by
  refine ⟨_, rfl, ?_⟩
  have h : Keeps B M s s := Keeps.refl s
  try dsimp only
  repeat' first | (with_reducible first | assumption | apply State.goDark_keeps | split | intro _) | assumption | exact hB _

theorem State.wakeDark_keeps (h : Keeps B M z s) (b_bkp : B .bkp) : Keeps B M z (State.wakeDark s x1 x2) := by
  unfold State.wakeDark
  try dsimp only
  repeat' first | (with_reducible first | assumption | apply State.put_keeps | split | intro _ | refine keeps_mk ?_ rfl rfl) | assumption

theorem execShipWakeButton_keeps (b_pol : B .pol) (b_bkp : B .bkp) (b_flt : B .flt) : ∃ t, execShipWakeButton s = .next t ∧ Keeps B M s t := by
  refine ⟨_, rfl, ?_⟩
  have h : Keeps B M s s := Keeps.refl s
  try dsimp only
  repeat' first | (with_reducible first | assumption | apply State.enterBattery_keeps | apply State.wakeDark_keeps | split | intro _ | refine keeps_mk ?_ rfl rfl) | assumption

theorem execSourceWake_keeps (b_bkp : B .bkp) : ∃ t, execSourceWake s = .next t ∧ Keeps B M s t := by
  refine ⟨_, rfl, ?_⟩
  have h : Keeps B M s s := Keeps.refl s
  try dsimp only
  repeat' first | (with_reducible first | assumption | apply State.wakeDark_keeps | apply State.putSrcOk_keeps | split | intro _) | assumption

theorem execLongPress_keeps (hB : ∀ b, B b) (hM : M) : ∃ t, execLongPress s = .next t ∧ Keeps B M s t := by
  refine ⟨_, rfl, ?_⟩
  have h : Keeps B M s s := Keeps.refl s
  try dsimp only
  repeat' first | (with_reducible first | assumption | apply State.putBit_keeps | apply State.setPath_keeps | apply State.setChg_keeps | apply State.gatesDown_keeps | apply State.draw_keeps | apply State.deviceReset_keeps | split | intro _ | refine keeps_mk ?_ rfl rfl | refine keeps_aon ?_ rfl rfl) | assumption | exact hB _

theorem execOpenEnd_keeps (b_pol : B .pol) (b_bkp : B .bkp) (b_flt : B .flt) : ∃ t, execOpenEnd s = .next t ∧ Keeps B M s t := by
  refine ⟨_, rfl, ?_⟩
  have h : Keeps B M s s := Keeps.refl s
  try dsimp only
  repeat' first | (with_reducible first | assumption | apply State.enterBattery_keeps | split | intro _ | refine keeps_mk ?_ rfl rfl) | assumption

theorem execWatchdogReset_keeps (hB : ∀ b, B b) (hM : M) : ∃ t, execWatchdogReset s = .next t ∧ Keeps B M s t := by
  refine ⟨_, rfl, ?_⟩
  have h : Keeps B M s s := Keeps.refl s
  try dsimp only
  repeat' first | (with_reducible first | assumption | apply State.deviceReset_keeps | split | intro _) | assumption | exact hB _

theorem execAonPowerOn_keeps (hB : ∀ b, B b) (hM : M) : ∃ t, execAonPowerOn s = .next t ∧ Keeps B M s t := by
  refine ⟨_, rfl, ?_⟩
  have h : Keeps B M s s := Keeps.refl s
  try dsimp only
  repeat' first | (with_reducible first | assumption | apply State.freshAon_keeps | split | intro _) | assumption | exact hB _

theorem execDomainBrownout_keeps (hB : ∀ b, B b) (hM : M) : ∃ t, execDomainBrownout x0 s = .next t ∧ Keeps B M s t := by
  refine ⟨_, rfl, ?_⟩
  have h : Keeps B M s s := Keeps.refl s
  try dsimp only
  repeat' first | (with_reducible first | assumption | apply State.freshAon_keeps | apply State.deviceReset_keeps | apply State.downDoms_keeps | apply State.condsDown_keeps | split | intro _) | assumption | exact hB _

theorem execRefclkLoss_keeps (b_flt : B .flt) (b_tpl : B .tpl) (b_mem : B .mem) (b_evt : B .evt) (b_ttb : B .ttb) (b_rail : B .rail) (b_swy : B .swy) (b_sup : B .sup) (b_ldg : B .ldg) (b_lpe : B .lpe) (b_lnk : B .lnk) (hM : M) : ∃ t, execRefclkLoss s = .next t ∧ Keeps B M s t := by
  refine ⟨_, rfl, ?_⟩
  have h : Keeps B M s s := Keeps.refl s
  try dsimp only
  repeat' first | (with_reducible first | assumption | apply State.raise_keeps | apply State.live_keeps | split | intro _ | refine keeps_mk ?_ rfl rfl) | assumption

theorem execRefclkReturn_keeps (b_flt : B .flt) : ∃ t, execRefclkReturn s = .next t ∧ Keeps B M s t := by
  refine ⟨_, rfl, ?_⟩
  have h : Keeps B M s s := Keeps.refl s
  try dsimp only
  repeat' first | (with_reducible first | assumption | apply State.live_keeps | split | intro _ | refine keeps_mk ?_ rfl rfl) | assumption

theorem State.cancelLate_keeps (h : Keeps B M z s) (b_mem : B .mem) (b_evt : B .evt) (b_cmd : B .cmd) (hM : M) : Keeps B M z (State.cancelLate s x1) := by
  unfold State.cancelLate
  try dsimp only
  repeat' first | (with_reducible first | assumption | apply State.setFlagI_keeps | split | intro _) | assumption

theorem State.dropJob_keeps (h : Keeps B M z s) (b_ldg : B .ldg) : Keeps B M z (State.dropJob s x1) := by
  unfold State.dropJob
  try dsimp only
  repeat' first | (with_reducible first | assumption | apply State.putLane_keeps | apply State.put_keeps | split | intro _ | refine keeps_mk ?_ rfl rfl) | assumption

theorem State.cancelLedger_keeps (h : Keeps B M z s) (b_ldg : B .ldg) (b_mem : B .mem) (b_evt : B .evt) (b_cmd : B .cmd) (hM : M) : Keeps B M z (State.cancelLedger s x1 x2) := by
  unfold State.cancelLedger
  try dsimp only
  repeat' first | (with_reducible first | assumption | apply State.kick_keeps | apply State.complete_keeps | apply State.dropJob_keeps | apply State.cancelLate_keeps | split | intro _) | assumption

theorem State.cancelReload_keeps (h : Keeps B M z s) (b_ldg : B .ldg) (b_tpl : B .tpl) (b_mem : B .mem) (b_evt : B .evt) (b_cmd : B .cmd) (hM : M) : Keeps B M z (State.cancelReload s x1 x2) := by
  unfold State.cancelReload
  try dsimp only
  repeat' first | (with_reducible first | assumption | apply State.complete_keeps | apply State.reloadAbort_keeps | apply State.cancelLate_keeps | split | intro _) | assumption

theorem State.cancelRunning_keeps (h : Keeps B M z s) (b_ldg : B .ldg) (b_tpl : B .tpl) (b_mem : B .mem) (b_evt : B .evt) (b_cmd : B .cmd) (b_swy : B .swy) (b_svy : B .svy) (hM : M) : Keeps B M z (State.cancelRunning s x1 x2) := by
  unfold State.cancelRunning
  try dsimp only
  repeat' first | (with_reducible first | assumption | apply State.cancelReload_keeps | apply State.regangCancel_keeps | apply State.complete_keeps | apply State.regangIdle_keeps | apply State.calStop_keeps | apply State.putSlot_keeps | apply State.cancelLedger_keeps | apply State.cancelLate_keeps | split | intro _) | assumption

theorem State.wrCancel_keeps (h : Keeps B M z s) (b_mem : B .mem) (b_evt : B .evt) (b_cmd : B .cmd) (b_ldg : B .ldg) (b_tpl : B .tpl) (b_swy : B .swy) (b_svy : B .svy) (hM : M) : Keeps B M z (State.wrCancel s x1 x2) := by
  unfold State.wrCancel
  try dsimp only
  repeat' first | (with_reducible first | assumption | apply State.setFlagI_keeps | apply State.putSlot_keeps | apply State.cancelRunning_keeps | apply State.cancelLate_keeps | split | intro _) | assumption

theorem execCmdCancel_keeps (b_mem : B .mem) (b_evt : B .evt) (b_cmd : B .cmd) (b_ldg : B .ldg) (b_tpl : B .tpl) (b_swy : B .swy) (b_svy : B .svy) (hM : M) : ∃ t, execCmdCancel x0 x1 x2 s = .next t ∧ Keeps B M s t := by
  refine ⟨_, rfl, ?_⟩
  have h : Keeps B M s s := Keeps.refl s
  try dsimp only
  repeat' first | (with_reducible first | assumption | apply State.guardSent_keeps | apply State.wrCancel_keeps | split | intro _) | assumption

theorem State.capture_keeps (h : Keeps B M z s) (b_mem : B .mem) (b_evt : B .evt) (b_xng : B .xng) (hM : M) : Keeps B M z (State.capture s x1) := by
  unfold State.capture
  try dsimp only
  repeat' first | (with_reducible first | assumption | apply State.setFlagI_keeps | apply State.addSat_keeps | split | intro _ | refine keeps_mk ?_ rfl rfl) | assumption

theorem execGroupCapture_keeps (b_mem : B .mem) (b_evt : B .evt) (b_xng : B .xng) (hM : M) : ∃ t, execGroupCapture x0 s = .next t ∧ Keeps B M s t := by
  refine ⟨_, rfl, ?_⟩
  have h : Keeps B M s s := Keeps.refl s
  try dsimp only
  repeat' first | (with_reducible first | assumption | apply State.capture_keeps | split | intro _) | assumption

theorem State.rdHeld_keeps (h : Keeps B M z s) (b_mem : B .mem) (b_evt : B .evt) (b_xng : B .xng) (hM : M) : Keeps B M z (State.rdHeld s x1 x2).2 := by
  unfold State.rdHeld
  try dsimp only
  repeat' first | (with_reducible first | assumption | apply State.capture_keeps | split | intro _) | assumption

theorem State.rdNowEven_keeps (h : Keeps B M z s) : Keeps B M z (State.rdNowEven s x1).2 := by
  unfold State.rdNowEven
  try dsimp only
  repeat' first | (with_reducible first | assumption | apply State.rdNowLo_keeps | split | intro _) | assumption

theorem State.readPlain_keeps (h : Keeps B M z s) (hB : ∀ b, B b) : Keeps B M z (State.readPlain s x1 x2).2 := by
  unfold State.readPlain
  try dsimp only
  repeat' first | (with_reducible first | assumption | apply State.rdNowEven_keeps | apply State.rdAccLo_keeps | apply State.rdCvData_keeps | apply State.wr_keeps | split | intro _) | assumption | exact hB _

theorem State.readReg_keeps (h : Keeps B M z s) (hB : ∀ b, B b) (hM : M) : Keeps B M z (State.readReg s x1 x2).2 := by
  unfold State.readReg
  try dsimp only
  repeat' first | (with_reducible first | assumption | apply State.readPlain_keeps | apply State.rdHeld_keeps | apply State.agree_keeps | split | intro _) | assumption | exact hB _

theorem State.readSram_keeps (h : Keeps B M z s) (b_mem : B .mem) (b_evt : B .evt) (b_flt : B .flt) (b_tpl : B .tpl) (b_ttb : B .ttb) (b_rail : B .rail) (b_swy : B .swy) (b_sup : B .sup) (b_ldg : B .ldg) (b_lpe : B .lpe) (b_lnk : B .lnk) (hM : M) : Keeps B M z (State.readSram s x1 x2).2 := by
  unfold State.readSram
  try dsimp only
  repeat' first | (with_reducible first | assumption | apply State.memRead_keeps | apply State.raise_keeps | split | intro _) | assumption

theorem State.readWindow_keeps (h : Keeps B M z s) (b_mem : B .mem) (b_evt : B .evt) (b_flt : B .flt) (b_tpl : B .tpl) (b_ttb : B .ttb) (b_rail : B .rail) (b_swy : B .swy) (b_sup : B .sup) (b_ldg : B .ldg) (b_lpe : B .lpe) (b_lnk : B .lnk) (hM : M) : Keeps B M z (State.readWindow s x1).2 := by
  unfold State.readWindow
  try dsimp only
  repeat' first | (with_reducible first | assumption | apply State.draw_keeps | apply State.memRead_keeps | apply State.otpRead_keeps | split | intro _) | assumption

theorem State.readWord_keeps (h : Keeps B M z s) (hB : ∀ b, B b) (hM : M) : Keeps B M z (State.readWord s x1 x2).2 := by
  unfold State.readWord
  try dsimp only
  repeat' first | (with_reducible first | assumption | apply State.readSram_keeps | apply State.readWindow_keeps | apply State.guardRead_keeps | apply State.readReg_keeps | apply State.accessOff_keeps | split | intro _) | assumption | exact hB _

theorem State.iaddrNext_keeps (h : Keeps B M z s) (b_sys : B .sys) : Keeps B M z (State.iaddrNext s) := by
  unfold State.iaddrNext
  try dsimp only
  repeat' first | (with_reducible first | assumption | apply State.wr_keeps | split | intro _) | assumption

theorem State.readIdata_keeps (h : Keeps B M z s) (hB : ∀ b, B b) (hM : M) : Keeps B M z (State.readIdata s x1).2 := by
  unfold State.readIdata
  try dsimp only
  repeat' first | (with_reducible first | assumption | apply State.draw_keeps | apply State.memRead_keeps | apply State.readWord_keeps | apply State.iaddrNext_keeps | split | intro _) | assumption | exact hB _

theorem State.busRead_keeps (h : Keeps B M z s) (hB : ∀ b, B b) (hM : M) : Keeps B M z (State.busRead s x1 x2).2 := by
  unfold State.busRead
  try dsimp only
  repeat' first | (with_reducible first | assumption | apply State.guardRead_keeps | apply State.readIdata_keeps | apply State.readWord_keeps | split | intro _) | assumption | exact hB _

theorem execIdataRead_keeps (hB : ∀ b, B b) (hM : M) : ∃ t, execIdataRead x0 s = .next t ∧ Keeps B M s t := by
  refine ⟨_, rfl, ?_⟩
  have h : Keeps B M s s := Keeps.refl s
  try dsimp only
  repeat' first | (with_reducible first | assumption | apply State.deliver_keeps | apply State.busRead_keeps | split | intro _) | assumption | exact hB _

theorem execAccLoRead_keeps (hB : ∀ b, B b) (hM : M) : ∃ t, execAccLoRead x0 s = .next t ∧ Keeps B M s t := by
  refine ⟨_, rfl, ?_⟩
  have h : Keeps B M s s := Keeps.refl s
  try dsimp only
  repeat' first | (with_reducible first | assumption | apply State.deliver_keeps | apply State.busRead_keeps | split | intro _) | assumption | exact hB _

theorem execTimNowLoRead_keeps (hB : ∀ b, B b) (hM : M) : ∃ t, execTimNowLoRead x0 s = .next t ∧ Keeps B M s t := by
  refine ⟨_, rfl, ?_⟩
  have h : Keeps B M s s := Keeps.refl s
  try dsimp only
  repeat' first | (with_reducible first | assumption | apply State.deliver_keeps | apply State.busRead_keeps | split | intro _) | assumption | exact hB _

theorem execDataRead_keeps (hB : ∀ b, B b) (hM : M) : ∃ t, execDataRead x0 x1 s = .next t ∧ Keeps B M s t := by
  refine ⟨_, rfl, ?_⟩
  have h : Keeps B M s s := Keeps.refl s
  try dsimp only
  repeat' first | (with_reducible first | assumption | apply State.deliver_keeps | apply State.busRead_keeps | split | intro _) | assumption | exact hB _

theorem State.wrWinbase_keeps (h : Keeps B M z s) (b_sys : B .sys) : Keeps B M z (State.wrWinbase s x1) := by
  unfold State.wrWinbase
  try dsimp only
  repeat' first | (with_reducible first | assumption | apply State.putBit_keeps | apply State.writeRw_keeps | split | intro _) | assumption

theorem State.wrHoldmax_keeps (h : Keeps B M z s) (b_tpl : B .tpl) : Keeps B M z (State.wrHoldmax s x1) := by
  unfold State.wrHoldmax
  try dsimp only
  repeat' first | (with_reducible first | assumption | apply State.writeRw_keeps | split | intro _) | assumption

theorem State.wrParam_keeps (h : Keeps B M z s) : Keeps B M z (State.wrParam s x1 x2 x3 x4) := by
  unfold State.wrParam
  try dsimp only
  repeat' first | (with_reducible first | assumption | apply State.putBank_keeps | split | intro _) | assumption

theorem State.wrTxaddr_keeps (h : Keeps B M z s) : Keeps B M z (State.wrTxaddr s x1 x2 x3) := by
  unfold State.wrTxaddr
  try dsimp only
  repeat' first | (with_reducible first | assumption | apply State.putBank_keeps | split | intro _) | assumption

theorem State.storeBkp_keeps (h : Keeps B M z s) (hB : ∀ b, B b) (hM : M) : Keeps B M z (State.storeBkp s x1 x2 x3) := by
  unfold State.storeBkp
  try dsimp only
  repeat' first | (with_reducible first | assumption | apply State.contact_keeps | apply State.wrBatcfg_keeps | apply State.wrChg_keeps | apply State.wrPath_keeps | apply State.wrQual_keeps | apply State.wrBkpTimer_keeps | apply State.writeRw_keeps | apply State.wrShip_keeps | apply State.wrBtn_keeps | apply State.wrBkpFlag_keeps | apply State.plainWrite_keeps | split | intro _) | assumption | exact hB _

theorem State.storePower_keeps (h : Keeps B M z s) (hB : ∀ b, B b) (hM : M) : Keeps B M z (State.storePower s x1 x2) := by
  unfold State.storePower
  try dsimp only
  repeat' first | (with_reducible first | assumption | apply State.wrStgCfg_keeps | apply State.wrPnt_keeps | apply State.wrStgFlag_keeps | apply State.wrXbrMod_keeps | apply State.wrXbrShare_keeps | apply State.wrPntt_keeps | apply State.wrIagg_keeps | apply State.wrRailCtl_keeps | apply State.wrVset_keeps | apply State.wrRamp_keeps | apply State.wrDis_keeps | apply State.wrLpeState_keeps | apply State.wrLpeFlag_keeps | apply State.wrLpeShed_keeps | apply State.wrLpsCtl_keeps | apply State.wrLpsCfg_keeps | apply State.wrLpsOut_keeps | apply State.wrLpsIn_keeps | apply State.wrLpsPlain_keeps | apply State.wrCoef_keeps | apply State.wrStep_keeps | apply State.wrRstCfg_keeps | apply State.wrBout_keeps | apply State.wrMinoff_keeps | apply State.wrFirst_keeps | apply State.wrSupCfg_keeps | apply State.wrSupFlag_keeps | apply State.wrCvCtl_keeps | apply State.wrCvFlag_keeps | apply State.wrDmaCfg_keeps | apply State.wrDmaPtr_keeps | apply State.wrFactor_keeps | apply State.wrTrig_keeps | apply State.wrPolPhase_keeps | apply State.wrPolDer_keeps | apply State.wrRide_keeps | apply State.plainWrite_keeps | split | intro _) | assumption | exact hB _

theorem State.storeCommon_keeps (h : Keeps B M z s) (hB : ∀ b, B b) (hM : M) : Keeps B M z (State.storeCommon s x1 x2 x3) := by
  unfold State.storeCommon
  try dsimp only
  repeat' first | (with_reducible first | assumption | apply State.wrWinbase_keeps | apply State.wrHoldmax_keeps | apply State.wrCycles_keeps | apply State.wrGauCfg_keeps | apply State.wrGauCtl_keeps | apply State.wrFltCfg_keeps | apply State.wrFltTgt_keeps | apply State.wrFltStat_keeps | apply State.wrFltCtl_keeps | apply State.wrFltForce_keeps | apply State.wrFltHost_keeps | apply State.wrFltInj_keeps | apply State.wrEvtCfg_keeps | apply State.wrPend_keeps | apply State.wrEvtCtl_keeps | apply State.wrQueue_keeps | apply State.take_keeps | apply State.eoi_keeps | apply State.issueOp_keeps | apply State.wrCancel_keeps | apply State.wrPretire_keeps | apply State.wrOtpProg_keeps | apply State.wrOtpLc_keeps | apply State.wrWdgCfg_keeps | apply State.wrWdgCtl_keeps | apply State.wrToken_keeps | apply State.wrLnkCfg_keeps | apply State.wrPortCfg_keeps | apply State.wrPool_keeps | apply State.wrRtA_keeps | apply State.wrRtB_keeps | apply State.wrTripctl_keeps | apply State.wrTxgo_keeps | apply State.wrRxread_keeps | apply State.wrNotLine_keeps | apply State.wrSetctl_keeps | apply State.wrTwbCfg_keeps | apply State.wrCxcfg_keeps | apply State.wrCxgo_keeps | apply State.wrMonCfg_keeps | apply State.wrXngCtl_keeps | apply State.wrXngTake_keeps | apply State.wrPwrCtl_keeps | apply State.plainWrite_keeps | split | intro _) | assumption | exact hB _

theorem State.storeReg_keeps (h : Keeps B M z s) (hB : ∀ b, B b) (hM : M) : Keeps B M z (State.storeReg s x1 x2 x3 x4) := by
  unfold State.storeReg
  try dsimp only
  repeat' first | (with_reducible first | assumption | apply State.wrParam_keeps | apply State.wrTxaddr_keeps | apply State.wrQuery_keeps | apply State.storeBkp_keeps | apply State.storePower_keeps | apply State.storeCommon_keeps | split | intro _) | assumption | exact hB _

theorem State.storeWord_keeps (h : Keeps B M z s) (hB : ∀ b, B b) (hM : M) : Keeps B M z (State.storeWord s x1 x2 x3 x4) := by
  unfold State.storeWord
  try dsimp only
  repeat' first | (with_reducible first | assumption | apply State.sramNarrow_keeps | apply State.guardGroup_keeps | apply State.wrGroupCtl_keeps | apply State.busLpsCtl_keeps | apply State.guardWrite_keeps | apply State.storeReg_keeps | apply State.accessOff_keeps | split | intro _) | assumption | exact hB _

theorem State.storeIdata_keeps (h : Keeps B M z s) (hB : ∀ b, B b) (hM : M) : Keeps B M z (State.storeIdata s x1 x2 x3) := by
  unfold State.storeIdata
  try dsimp only
  repeat' first | (with_reducible first | assumption | apply State.iaddrNext_keeps | apply State.storeWord_keeps | split | intro _) | assumption | exact hB _

theorem State.busStore_keeps (h : Keeps B M z s) (hB : ∀ b, B b) (hM : M) : Keeps B M z (State.busStore s x1 x2 x3 x4) := by
  unfold State.busStore
  try dsimp only
  repeat' first | (with_reducible first | assumption | apply State.guardWrite_keeps | apply State.storeIdata_keeps | apply State.storeWord_keeps | split | intro _) | assumption | exact hB _

theorem execRegisterWrite_keeps (hB : ∀ b, B b) (hM : M) : ∃ t, execRegisterWrite x0 x1 x2 x3 s = .next t ∧ Keeps B M s t := by
  refine ⟨_, rfl, ?_⟩
  have h : Keeps B M s s := Keeps.refl s
  try dsimp only
  repeat' first | (with_reducible first | assumption | apply State.busStore_keeps | split | intro _) | assumption | exact hB _

theorem execWinbaseWrite_keeps (hB : ∀ b, B b) (hM : M) : ∃ t, execWinbaseWrite x0 x1 x2 s = .next t ∧ Keeps B M s t := by
  refine ⟨_, rfl, ?_⟩
  have h : Keeps B M s s := Keeps.refl s
  try dsimp only
  repeat' first | (with_reducible first | assumption | apply State.busStore_keeps | split | intro _) | assumption | exact hB _

theorem execIdataWrite_keeps (hB : ∀ b, B b) (hM : M) : ∃ t, execIdataWrite x0 x1 x2 s = .next t ∧ Keeps B M s t := by
  refine ⟨_, rfl, ?_⟩
  have h : Keeps B M s s := Keeps.refl s
  try dsimp only
  repeat' first | (with_reducible first | assumption | apply State.busStore_keeps | split | intro _) | assumption | exact hB _

theorem execHoldmaxWrite_keeps (hB : ∀ b, B b) (hM : M) : ∃ t, execHoldmaxWrite x0 x1 x2 s = .next t ∧ Keeps B M s t := by
  refine ⟨_, rfl, ?_⟩
  have h : Keeps B M s s := Keeps.refl s
  try dsimp only
  repeat' first | (with_reducible first | assumption | apply State.busStore_keeps | split | intro _) | assumption | exact hB _

theorem State.tplRefused_keeps (h : Keeps B M z s) (b_tpl : B .tpl) : Keeps B M z (State.tplRefused s x1) := by
  unfold State.tplRefused
  try dsimp only
  repeat' first | (with_reducible first | assumption | apply State.put_keeps | apply State.wr_keeps | apply State.draw_keeps | split | intro _) | assumption

theorem State.applyReg_keeps (h : Keeps B M z s) (hB : ∀ b, B b) (hM : M) : Keeps B M z (State.applyReg s x1 x2) := by
  unfold State.applyReg
  try dsimp only
  repeat' first | (with_reducible first | assumption | apply State.cfgApplied_keeps | apply State.writeRw_keeps | apply State.faultPin_keeps | apply State.storeReg_keeps | split | intro _) | assumption | exact hB _

theorem State.applyEntry_keeps (h : Keeps B M z s) (hB : ∀ b, B b) (hM : M) : Keeps B M z (State.applyEntry s x1) := by
  unfold State.applyEntry
  try dsimp only
  repeat' first | (with_reducible first | assumption | apply State.applyReg_keeps | split | intro _) | assumption | exact hB _

theorem State.applyAll_keeps (h : Keeps B M z s) (hB : ∀ b, B b) (hM : M) : Keeps B M z (State.applyAll s x1) := by
  unfold State.applyAll
  try dsimp only
  repeat' first | (with_reducible first | assumption | apply State.applyEntry_keeps | apply each_keeps | split | intro _) | assumption | exact hB _

theorem State.resetReg_keeps (h : Keeps B M z s) (b_lpe : B .lpe) (b_gau : B .gau) (b_bkp : B .bkp) (b_mem : B .mem) (b_evt : B .evt) (b_ldg : B .ldg) (bx1 : B x1.block) (hM : M) : Keeps B M z (State.resetReg s x1) := by
  unfold State.resetReg
  try dsimp only
  repeat' first | (with_reducible first | assumption | apply State.cfgApplied_keeps | apply State.writeRw_keeps | apply State.recomputeQuse_keeps | apply State.wrBatcfg_keeps | split | intro _) | assumption

theorem State.afterRegs_keeps (h : Keeps B M z s) (b_swy : B .swy) (b_mem : B .mem) (b_evt : B .evt) (hM : M) : Keeps B M z (State.afterRegs s) := by
  unfold State.afterRegs
  try dsimp only
  repeat' first | (with_reducible first | assumption | apply State.faultPin_keeps | apply State.showExcluded_keeps | split | intro _) | assumption

theorem State.resetRegs_keeps (h : Keeps B M z s) (hB : ∀ b, B b) (hM : M) : Keeps B M z (State.resetRegs s x1) := by
  unfold State.resetRegs
  try dsimp only
  repeat' first | (with_reducible first | assumption | apply State.afterRegs_keeps | apply State.resetReg_keeps | apply each_keeps | split | intro _) | assumption | exact hB _

theorem State.setReg_keeps (h : Keeps B M z s) (hB : ∀ b, B b) (hM : M) : Keeps B M z (State.setReg s x1 x2) := by
  unfold State.setReg
  try dsimp only
  repeat' first | (with_reducible first | assumption | apply State.resetReg_keeps | apply State.applyReg_keeps | apply foldl_keeps | split | intro _) | assumption | exact hB _

theorem State.setRegs_keeps (h : Keeps B M z s) (hB : ∀ b, B b) (hM : M) : Keeps B M z (State.setRegs s x1 x2) := by
  unfold State.setRegs
  try dsimp only
  repeat' first | (with_reducible first | assumption | apply State.afterRegs_keeps | apply State.setReg_keeps | apply each_keeps | split | intro _) | assumption | exact hB _

theorem State.applyDomain_keeps (h : Keeps B M z s) (hB : ∀ b, B b) (hM : M) : Keeps B M z (State.applyDomain s x1) := by
  unfold State.applyDomain
  try dsimp only
  repeat' first | (with_reducible first | assumption | apply State.applyAll_keeps | split | intro _) | assumption | exact hB _

theorem State.closeSlots_keeps (h : Keeps B M z s) (b_mem : B .mem) (b_evt : B .evt) (b_lpe : B .lpe) (hM : M) : Keeps B M z (State.closeSlots s x1) := by
  unfold State.closeSlots
  try dsimp only
  repeat' first | (with_reducible first | assumption | apply State.closeSlot_keeps | apply each_keeps | split | intro _) | assumption

theorem State.showStream_keeps (h : Keeps B M z s) (b_tpl : B .tpl) : Keeps B M z (State.showStream s x1) := by
  unfold State.showStream
  try dsimp only
  repeat' first | (with_reducible first | assumption | apply State.put_keeps | apply State.wr_keeps | split | intro _) | assumption

theorem State.reReact_keeps (h : Keeps B M z s) (b_tpl : B .tpl) (b_mem : B .mem) (b_evt : B .evt) (b_ttb : B .ttb) (b_rail : B .rail) (b_swy : B .swy) (b_sup : B .sup) (b_ldg : B .ldg) (b_lpe : B .lpe) (hM : M) : Keeps B M z (State.reReact s) := by
  unfold State.reReact
  try dsimp only
  repeat' first | (with_reducible first | assumption | apply State.react_keeps | apply each_keeps | split | intro _) | assumption

theorem State.resetsLow_keeps (h : Keeps B M z s) (b_ttb : B .ttb) : Keeps B M z (State.resetsLow s) := by
  unfold State.resetsLow
  try dsimp only
  repeat' first | (with_reducible first | assumption | apply State.putBit_keeps | apply State.resetLow_keeps | apply each_keeps | split | intro _) | assumption

theorem State.tplRuns_keeps (h : Keeps B M z s) (b_tpl : B .tpl) (b_mem : B .mem) (b_evt : B .evt) (b_lpe : B .lpe) (b_ttb : B .ttb) (b_rail : B .rail) (b_swy : B .swy) (b_sup : B .sup) (b_ldg : B .ldg) (hM : M) : Keeps B M z (State.tplRuns s x1 x2) := by
  unfold State.tplRuns
  try dsimp only
  repeat' first | (with_reducible first | assumption | apply State.showStream_keeps | apply State.setTpl_keeps | apply State.closeSlots_keeps | apply State.markUnnamed_keeps | apply State.resetsLow_keeps | apply State.put_keeps | apply State.reReact_keeps | apply State.happen_keeps | split | intro _ | refine keeps_mk ?_ rfl rfl) | assumption

theorem State.tplNone_keeps (h : Keeps B M z s) (b_ttb : B .ttb) (b_lpe : B .lpe) (b_tpl : B .tpl) : Keeps B M z (State.tplNone s) := by
  unfold State.tplNone
  try dsimp only
  repeat' first | (with_reducible first | assumption | apply State.dropRequests_keeps | apply State.resetsLow_keeps | apply State.openSlot_keeps | apply State.wr_keeps | apply State.setTpl_keeps | apply each_keeps | split | intro _ | refine keeps_mk ?_ rfl rfl) | assumption

theorem State.applyStream_keeps (h : Keeps B M z s) (hB : ∀ b, B b) (hM : M) : Keeps B M z (State.applyStream s x1).2 := by
  unfold State.applyStream
  try dsimp only
  repeat' first | (with_reducible first | assumption | apply State.applyAll_keeps | apply State.resetRegs_keeps | split | intro _ | refine keeps_mk ?_ rfl rfl | refine keeps_aon ?_ rfl rfl) | assumption | exact hB _

theorem State.bootTry_keeps (h : Keeps B M z s) (hB : ∀ b, B b) (hM : M) : Keeps B M z (State.bootTry s x1).2 := by
  unfold State.bootTry
  try dsimp only
  repeat' first | (with_reducible first | assumption | apply State.ledMeet_keeps | apply State.tplRefused_keeps | apply State.applyStream_keeps | split | intro _) | assumption | exact hB _

theorem State.bootRuns_keeps (h : Keeps B M z s) (b_tpl : B .tpl) (b_mem : B .mem) (b_evt : B .evt) (b_lpe : B .lpe) (b_ttb : B .ttb) (b_rail : B .rail) (b_swy : B .swy) (b_sup : B .sup) (b_ldg : B .ldg) (hM : M) : Keeps B M z (State.bootRuns s x1 x2) := by
  unfold State.bootRuns
  try dsimp only
  repeat' first | (with_reducible first | assumption | apply State.wr_keeps | apply State.put_keeps | apply State.putBit_keeps | apply State.tplRuns_keeps | apply State.happen_keeps | split | intro _) | assumption

theorem State.bootLoad_keeps (h : Keeps B M z s) (hB : ∀ b, B b) (hM : M) : Keeps B M z (State.bootLoad s) := by
  unfold State.bootLoad
  try dsimp only
  repeat' first | (with_reducible first | assumption | apply State.happen_keeps | apply State.tplNone_keeps | apply State.bootTry_keeps | apply State.bootRuns_keeps | split | intro _) | assumption | exact hB _

theorem execBootLoad_keeps (hB : ∀ b, B b) (hM : M) : ∃ t, execBootLoad s = .next t ∧ Keeps B M s t := by
  refine ⟨_, rfl, ?_⟩
  have h : Keeps B M s s := Keeps.refl s
  try dsimp only
  repeat' first | (with_reducible first | assumption | apply State.bootLoad_keeps | split | intro _) | assumption | exact hB _

theorem State.loadStage_keeps (h : Keeps B M z s) (b_mem : B .mem) (b_evt : B .evt) (b_flt : B .flt) (b_tpl : B .tpl) (b_ttb : B .ttb) (b_rail : B .rail) (b_swy : B .swy) (b_sup : B .sup) (b_ldg : B .ldg) (b_lpe : B .lpe) (b_lnk : B .lnk) (hM : M) (hx2 : ∀ s, Keeps B M z s → Keeps B M z (x2 s)) : Keeps B M z (State.loadStage s x1 x2) := by
  unfold State.loadStage
  try dsimp only
  repeat' first | (with_reducible first | assumption | apply hx2 | apply State.eccRange_keeps | apply State.readSram_keeps | split | intro _) | assumption

theorem State.refuseCmd_keeps (h : Keeps B M z s) (b_tpl : B .tpl) (b_ldg : B .ldg) : Keeps B M z (State.refuseCmd s x1 x2 x3) := by
  unfold State.refuseCmd
  try dsimp only
  repeat' first | (with_reducible first | assumption | apply State.tplRefused_keeps | apply State.complete_keeps | split | intro _) | assumption

theorem State.commitStream_keeps (h : Keeps B M z s) (b_ldg : B .ldg) : Keeps B M z (State.commitStream s x1 x2 x3) := by
  unfold State.commitStream
  try dsimp only
  repeat' first | (with_reducible first | assumption | apply State.enqueue_keeps | split | intro _) | assumption

theorem State.commitLoad_keeps (h : Keeps B M z s) (b_ldg : B .ldg) (b_tpl : B .tpl) : Keeps B M z (State.commitLoad s x1 x2) := by
  unfold State.commitLoad
  try dsimp only
  repeat' first | (with_reducible first | assumption | apply State.tplUnsaved_keeps | apply State.commitStream_keeps | split | intro _) | assumption

theorem State.tplVerify_keeps (h : Keeps B M z s) (b_mem : B .mem) (b_evt : B .evt) (b_flt : B .flt) (b_tpl : B .tpl) (b_ttb : B .ttb) (b_rail : B .rail) (b_swy : B .swy) (b_sup : B .sup) (b_ldg : B .ldg) (b_lpe : B .lpe) (b_lnk : B .lnk) (hM : M) : Keeps B M z (State.tplVerify s x1) := by
  unfold State.tplVerify
  try dsimp only
  repeat' first | (with_reducible first | assumption | apply State.loadStage_keeps | apply State.refuseCmd_keeps | apply State.complete_keeps | split | intro _) | assumption

theorem State.tplStore_keeps (h : Keeps B M z s) (b_mem : B .mem) (b_evt : B .evt) (b_flt : B .flt) (b_tpl : B .tpl) (b_ttb : B .ttb) (b_rail : B .rail) (b_swy : B .swy) (b_sup : B .sup) (b_ldg : B .ldg) (b_lpe : B .lpe) (b_lnk : B .lnk) (hM : M) : Keeps B M z (State.tplStore s x1) := by
  unfold State.tplStore
  try dsimp only
  repeat' first | (with_reducible first | assumption | apply State.loadStage_keeps | apply State.refuseCmd_keeps | apply State.complete_keeps | apply State.withSource_keeps | apply State.commitStream_keeps | split | intro _) | assumption

theorem State.loadFailed_keeps (h : Keeps B M z s) (hB : ∀ b, B b) (hM : M) : Keeps B M z (State.loadFailed s x1 x2) := by
  unfold State.loadFailed
  try dsimp only
  repeat' first | (with_reducible first | assumption | apply State.resetRegs_keeps | apply State.tplRefused_keeps | apply State.applyStream_keeps | apply State.tplNone_keeps | apply State.setTpl_keeps | apply State.closeSlots_keeps | apply State.complete_keeps | split | intro _) | assumption | exact hB _

theorem State.tplLoadAll_keeps (h : Keeps B M z s) (hB : ∀ b, B b) (hM : M) : Keeps B M z (State.tplLoadAll s x1) := by
  unfold State.tplLoadAll
  try dsimp only
  repeat' first | (with_reducible first | assumption | apply State.loadStage_keeps | apply State.refuseCmd_keeps | apply State.openSlot_keeps | apply State.resetRegs_keeps | apply State.applyStream_keeps | apply State.setReg_keeps | apply State.commitLoad_keeps | apply State.tplRuns_keeps | apply State.loadFailed_keeps | apply each_keeps | split | intro _) | assumption | exact hB _

theorem State.putReload_keeps (h : Keeps B M z s) : Keeps B M z (State.putReload s x1) := by
  unfold State.putReload
  try dsimp only
  repeat' first | (with_reducible first | assumption | split | intro _ | refine keeps_mk ?_ rfl rfl) | assumption

theorem State.runRequests_keeps (h : Keeps B M z s) (b_ttb : B .ttb) (b_mem : B .mem) (b_evt : B .evt) (b_pwr : B .pwr) (b_rail : B .rail) (b_swy : B .swy) (b_sup : B .sup) (b_ldg : B .ldg) (b_lpe : B .lpe) (b_flt : B .flt) (b_tpl : B .tpl) (b_lnk : B .lnk) (b_pol : B .pol) (hM : M) : Keeps B M z (State.runRequests s x1) := by
  unfold State.runRequests
  try dsimp only
  repeat' first | (with_reducible first | assumption | apply State.put_keeps | apply State.hostGroupOn_keeps | apply State.groupOff_keeps | apply each_keeps | split | intro _ | refine keeps_mk ?_ rfl rfl) | assumption

theorem State.reloadRefused_keeps (h : Keeps B M z s) (b_tpl : B .tpl) (b_ldg : B .ldg) (b_ttb : B .ttb) (b_mem : B .mem) (b_evt : B .evt) (b_pwr : B .pwr) (b_rail : B .rail) (b_swy : B .swy) (b_sup : B .sup) (b_lpe : B .lpe) (b_flt : B .flt) (b_lnk : B .lnk) (b_pol : B .pol) (hM : M) : Keeps B M z (State.reloadRefused s x1 x2) := by
  unfold State.reloadRefused
  try dsimp only
  repeat' first | (with_reducible first | assumption | apply State.refuseCmd_keeps | apply State.runRequests_keeps | apply State.loadOver_keeps | split | intro _) | assumption

theorem State.reloadValidate_keeps (h : Keeps B M z s) (b_mem : B .mem) (b_evt : B .evt) (b_flt : B .flt) (b_tpl : B .tpl) (b_ttb : B .ttb) (b_rail : B .rail) (b_swy : B .swy) (b_sup : B .sup) (b_ldg : B .ldg) (b_lpe : B .lpe) (b_lnk : B .lnk) (b_pwr : B .pwr) (b_pol : B .pol) (hM : M) : Keeps B M z (State.reloadValidate s x1) := by
  unfold State.reloadValidate
  try dsimp only
  repeat' first | (with_reducible first | assumption | apply State.loadStage_keeps | apply State.reloadRefused_keeps | apply State.putReload_keeps | apply State.groupOff_keeps | apply State.setTpl_keeps | apply each_keeps | split | intro _) | assumption

theorem State.reloadOpen_keeps (h : Keeps B M z s) (b_tpl : B .tpl) (b_lpe : B .lpe) : Keeps B M z (State.reloadOpen s x1) := by
  unfold State.reloadOpen
  try dsimp only
  repeat' first | (with_reducible first | assumption | apply State.setTpl_keeps | apply State.openSlot_keeps | apply State.putReload_keeps | apply each_keeps | split | intro _) | assumption

theorem State.reloadApply_keeps (h : Keeps B M z s) (hB : ∀ b, B b) (hM : M) : Keeps B M z (State.reloadApply s x1) := by
  unfold State.reloadApply
  try dsimp only
  repeat' first | (with_reducible first | assumption | apply State.reloadAbort_keeps | apply State.setTpl_keeps | apply State.applyAll_keeps | apply State.resetRegs_keeps | split | intro _ | refine keeps_mk ?_ rfl rfl | refine keeps_aon ?_ rfl rfl) | assumption | exact hB _

theorem State.reloadVerify_keeps (h : Keeps B M z s) (b_tpl : B .tpl) : Keeps B M z (State.reloadVerify s x1) := by
  unfold State.reloadVerify
  try dsimp only
  repeat' first | (with_reducible first | assumption | apply State.setTpl_keeps | apply State.reloadAbort_keeps | split | intro _) | assumption

theorem State.liveRamps_keeps (h : Keeps B M z s) (b_lpe : B .lpe) : Keeps B M z (State.liveRamps s x1) := by
  unfold State.liveRamps
  try dsimp only
  repeat' first | (with_reducible first | assumption | apply State.rampToVset_keeps | apply each_keeps | split | intro _) | assumption

theorem State.reloadClose_keeps (h : Keeps B M z s) (b_tpl : B .tpl) (b_mem : B .mem) (b_evt : B .evt) (b_lpe : B .lpe) (b_ttb : B .ttb) (b_swy : B .swy) (b_pwr : B .pwr) (b_rail : B .rail) (b_sup : B .sup) (b_ldg : B .ldg) (b_flt : B .flt) (b_lnk : B .lnk) (b_pol : B .pol) (hM : M) : Keeps B M z (State.reloadClose s x1) := by
  unfold State.reloadClose
  try dsimp only
  repeat' first | (with_reducible first | assumption | apply State.put_keeps | apply State.showStream_keeps | apply State.closeSlots_keeps | apply State.markUnnamed_keeps | apply State.setTpl_keeps | apply State.afterRegs_keeps | apply State.runRequests_keeps | apply State.liveRamps_keeps | split | intro _ | refine keeps_mk ?_ rfl rfl) | assumption

theorem State.reloadRestart_keeps (h : Keeps B M z s) (b_mem : B .mem) (b_evt : B .evt) (b_ttb : B .ttb) (b_pwr : B .pwr) (b_rail : B .rail) (b_swy : B .swy) (b_sup : B .sup) (b_ldg : B .ldg) (b_lpe : B .lpe) (b_flt : B .flt) (b_tpl : B .tpl) (b_lnk : B .lnk) (hM : M) : Keeps B M z (State.reloadRestart s x1) := by
  unfold State.reloadRestart
  try dsimp only
  repeat' first | (with_reducible first | assumption | apply State.groupOn_keeps | apply State.setTpl_keeps | apply State.putReload_keeps | apply each_keeps | split | intro _) | assumption

theorem State.restoreSection_keeps (h : Keeps B M z s) (hB : ∀ b, B b) (hM : M) : Keeps B M z (State.restoreSection s x1).2 := by
  unfold State.restoreSection
  try dsimp only
  repeat' first | (with_reducible first | assumption | apply State.openSlot_keeps | apply State.setRegs_keeps | apply each_keeps | split | intro _ | refine keeps_mk ?_ rfl rfl | refine keeps_aon ?_ rfl rfl) | assumption | exact hB _

theorem State.runDeferred_keeps (h : Keeps B M z s) (b_rail : B .rail) (b_swy : B .swy) (b_mem : B .mem) (b_evt : B .evt) (b_ttb : B .ttb) (b_sup : B .sup) (b_ldg : B .ldg) (b_lpe : B .lpe) (hM : M) : Keeps B M z (State.runDeferred s x1) := by
  unfold State.runDeferred
  try dsimp only
  repeat' first | (with_reducible first | assumption | apply State.railOff_keeps | apply State.groupOff_keeps | apply State.boutFast_keeps | apply each_keeps | split | intro _) | assumption

theorem State.reloadRestore_keeps (h : Keeps B M z s) (hB : ∀ b, B b) (hM : M) : Keeps B M z (State.reloadRestore s x1 x2) := by
  unfold State.reloadRestore
  try dsimp only
  repeat' first | (with_reducible first | assumption | apply State.restoreSection_keeps | apply State.closeSlots_keeps | apply State.put_keeps | apply State.dropRequests_keeps | apply State.loadOver_keeps | apply State.raise_keeps | apply State.runDeferred_keeps | apply State.gap_keeps | apply State.complete_keeps | apply State.happen_keeps | split | intro _) | assumption | exact hB _

theorem State.tplLoadDomain_keeps (h : Keeps B M z s) (hB : ∀ b, B b) (hM : M) : Keeps B M z (State.tplLoadDomain s x1) := by
  unfold State.tplLoadDomain
  try dsimp only
  repeat' first | (with_reducible first | assumption | apply State.refuseCmd_keeps | apply State.reloadRestore_keeps | apply State.reloadValidate_keeps | apply State.reloadOpen_keeps | apply State.reloadApply_keeps | apply State.reloadVerify_keeps | apply State.reloadClose_keeps | apply State.reloadRestart_keeps | apply State.commitLoad_keeps | apply State.setPhase_keeps | split | intro _) | assumption | exact hB _

theorem execHoldTimeout_keeps (b_tpl : B .tpl) : ∃ t, execHoldTimeout s = .next t ∧ Keeps B M s t := by
  refine ⟨_, rfl, ?_⟩
  have h : Keeps B M s s := Keeps.refl s
  try dsimp only
  repeat' first | (with_reducible first | assumption | apply State.reloadAbort_keeps | split | intro _) | assumption

theorem execSafeReloadResume_keeps (b_tpl : B .tpl) : ∃ t, execSafeReloadResume s = .next t ∧ Keeps B M s t := by
  refine ⟨_, rfl, ?_⟩
  have h : Keeps B M s s := Keeps.refl s
  try dsimp only
  repeat' first | (with_reducible first | assumption | apply State.setTpl_keeps | split | intro _) | assumption

theorem State.reloadUnstarted_keeps (h : Keeps B M z s) (b_ttb : B .ttb) (b_mem : B .mem) (b_evt : B .evt) (b_pwr : B .pwr) (b_rail : B .rail) (b_swy : B .swy) (b_sup : B .sup) (b_ldg : B .ldg) (b_lpe : B .lpe) (b_flt : B .flt) (b_tpl : B .tpl) (b_lnk : B .lnk) (b_pol : B .pol) (hM : M) : Keeps B M z (State.reloadUnstarted s x1) := by
  unfold State.reloadUnstarted
  try dsimp only
  repeat' first | (with_reducible first | assumption | apply State.runRequests_keeps | apply State.loadOver_keeps | split | intro _) | assumption

theorem execCommandStart_keeps (b_ldg : B .ldg) (b_ttb : B .ttb) (b_mem : B .mem) (b_evt : B .evt) (b_pwr : B .pwr) (b_rail : B .rail) (b_swy : B .swy) (b_sup : B .sup) (b_lpe : B .lpe) (b_flt : B .flt) (b_tpl : B .tpl) (b_lnk : B .lnk) (b_pol : B .pol) (hM : M) : ∃ t, execCommandStart x0 s = .next t ∧ Keeps B M s t := by
  refine ⟨_, rfl, ?_⟩
  have h : Keeps B M s s := Keeps.refl s
  try dsimp only
  repeat' first | (with_reducible first | assumption | apply State.putSlot_keeps | apply State.complete_keeps | apply State.reloadUnstarted_keeps | apply State.regangBegin_keeps | apply State.reloadBegin_keeps | apply State.reloadAccept_keeps | split | intro _ | refine keeps_mk ?_ rfl rfl) | assumption

theorem execTplVerify_keeps (b_mem : B .mem) (b_evt : B .evt) (b_cmd : B .cmd) (b_tpl : B .tpl) (b_flt : B .flt) (b_ttb : B .ttb) (b_rail : B .rail) (b_swy : B .swy) (b_sup : B .sup) (b_ldg : B .ldg) (b_lpe : B .lpe) (b_lnk : B .lnk) (hM : M) : ∃ t, execTplVerify x0 s = .next t ∧ Keeps B M s t := by
  refine ⟨_, rfl, ?_⟩
  have h : Keeps B M s s := Keeps.refl s
  try dsimp only
  repeat' first | (with_reducible first | assumption | apply State.ledgerRow_keeps | apply State.tplVerify_keeps | split | intro _) | assumption

theorem execTplLoadAll_keeps (hB : ∀ b, B b) (hM : M) : ∃ t, execTplLoadAll x0 s = .next t ∧ Keeps B M s t := by
  refine ⟨_, rfl, ?_⟩
  have h : Keeps B M s s := Keeps.refl s
  try dsimp only
  repeat' first | (with_reducible first | assumption | apply State.ledgerRow_keeps | apply State.tplLoadAll_keeps | split | intro _) | assumption | exact hB _

theorem execTplLoadDomain_keeps (hB : ∀ b, B b) (hM : M) : ∃ t, execTplLoadDomain x0 s = .next t ∧ Keeps B M s t := by
  refine ⟨_, rfl, ?_⟩
  have h : Keeps B M s s := Keeps.refl s
  try dsimp only
  repeat' first | (with_reducible first | assumption | apply State.issue_keeps | apply State.withRunning_keeps | apply State.tplLoadDomain_keeps | split | intro _) | assumption | exact hB _

theorem execTplStore_keeps (b_mem : B .mem) (b_evt : B .evt) (b_cmd : B .cmd) (b_tpl : B .tpl) (b_flt : B .flt) (b_ttb : B .ttb) (b_rail : B .rail) (b_swy : B .swy) (b_sup : B .sup) (b_ldg : B .ldg) (b_lpe : B .lpe) (b_lnk : B .lnk) (hM : M) : ∃ t, execTplStore x0 s = .next t ∧ Keeps B M s t := by
  refine ⟨_, rfl, ?_⟩
  have h : Keeps B M s s := Keeps.refl s
  try dsimp only
  repeat' first | (with_reducible first | assumption | apply State.ledgerRow_keeps | apply State.tplStore_keeps | split | intro _) | assumption

theorem execSwyRegang_keeps (b_mem : B .mem) (b_evt : B .evt) (b_cmd : B .cmd) (b_tpl : B .tpl) (b_ldg : B .ldg) (b_swy : B .swy) (b_lpe : B .lpe) (hM : M) : ∃ t, execSwyRegang x0 s = .next t ∧ Keeps B M s t := by
  refine ⟨_, rfl, ?_⟩
  have h : Keeps B M s s := Keeps.refl s
  try dsimp only
  repeat' first | (with_reducible first | assumption | apply State.ledgerRow_keeps | apply State.regangStart_keeps | split | intro _) | assumption

theorem State.domOn_keeps (h : Keeps B M z s) : Keeps B M z (State.domOn s x1) := by
  unfold State.domOn
  split
  · exact h
  · next hn =>
    refine ⟨h.pending, h.mem, h.marks, fun x => powerTree_add (h.power x) fun p hp => ?_, h.regs, h.bytes⟩
    simp [hp, State.powered] at hn
    exact hn.2

theorem State.powerUp_keeps (h : Keeps B M z s) (b_flt : B .flt) (b_lnk : B .lnk) (b_tim : B .tim) (b_mem : B .mem) (b_evt : B .evt) (b_bkp : B .bkp) (b_gau : B .gau) (b_ldg : B .ldg) (hM : M) : Keeps B M z (State.powerUp s x1) := by
  unfold State.powerUp
  try dsimp only
  repeat' first | (with_reducible first | assumption | apply State.domOn_keeps | apply State.flowGaps_keeps | apply State.followEn_keeps | apply State.timFollow_keeps | apply State.otpLink_keeps | apply State.chgStart_keeps | split | intro _) | assumption

theorem State.powerAll_keeps (h : Keeps B M z s) (b_flt : B .flt) (b_lnk : B .lnk) (b_tim : B .tim) (b_mem : B .mem) (b_evt : B .evt) (b_bkp : B .bkp) (b_gau : B .gau) (b_ldg : B .ldg) (hM : M) : Keeps B M z (State.powerAll s x1) := by
  unfold State.powerAll
  try dsimp only
  repeat' first | (with_reducible first | assumption | apply State.powerUp_keeps | apply each_keeps | split | intro _) | assumption

theorem State.groupsOff_keeps (h : Keeps B M z s) (b_mem : B .mem) (b_evt : B .evt) (hM : M) : Keeps B M z (State.groupsOff s) := by
  unfold State.groupsOff
  try dsimp only
  repeat' first | (with_reducible first | assumption | apply State.condRise_keeps | apply each_keeps | split | intro _) | assumption

theorem execDomainPowerUp_keeps (hB : ∀ b, B b) (hM : M) : ∃ t, execDomainPowerUp x0 s = .next t ∧ Keeps B M s t := by
  refine ⟨_, rfl, ?_⟩
  have h : Keeps B M s s := Keeps.refl s
  try dsimp only
  repeat' first | (with_reducible first | assumption | apply State.groupsOff_keeps | apply State.powerUp_keeps | apply State.applyDomain_keeps | split | intro _) | assumption | exact hB _

theorem State.sealBad_keeps (h : Keeps B M z s) (b_flt : B .flt) (b_tpl : B .tpl) (b_mem : B .mem) (b_evt : B .evt) (b_ttb : B .ttb) (b_rail : B .rail) (b_swy : B .swy) (b_sup : B .sup) (b_ldg : B .ldg) (b_lpe : B .lpe) (b_lnk : B .lnk) (hM : M) : Keeps B M z (State.sealBad s x1) := by
  unfold State.sealBad
  try dsimp only
  repeat' first | (with_reducible first | assumption | apply State.raise_keeps | apply State.setFlagI_keeps | split | intro _) | assumption

theorem State.restoreRegion_keeps (h : Keeps B M z s) (b_flt : B .flt) (b_tpl : B .tpl) (b_mem : B .mem) (b_evt : B .evt) (b_ttb : B .ttb) (b_rail : B .rail) (b_swy : B .swy) (b_sup : B .sup) (b_ldg : B .ldg) (b_lpe : B .lpe) (b_lnk : B .lnk) (hM : M) : Keeps B M z (State.restoreRegion s x1) := by
  unfold State.restoreRegion
  try dsimp only
  repeat' first | (with_reducible first | assumption | apply State.raise_keeps | apply State.live_keeps | apply State.putBit_keeps | apply State.put_keeps | split | intro _) | assumption

theorem State.restorePage_keeps (h : Keeps B M z s) (b_mem : B .mem) : Keeps B M z (State.restorePage s x1) := by
  unfold State.restorePage
  try dsimp only
  repeat' first | (with_reducible first | assumption | apply State.wr_keeps | split | intro _) | assumption

theorem State.restoreGauge_keeps (h : Keeps B M z s) (b_gau : B .gau) : Keeps B M z (State.restoreGauge s) := by
  unfold State.restoreGauge
  try dsimp only
  repeat' first | (with_reducible first | assumption | apply State.wr_keeps | split | intro _ | refine keeps_mk ?_ rfl rfl) | assumption

theorem State.ledgerSearch_keeps (h : Keeps B M z s) (b_mem : B .mem) (b_evt : B .evt) (b_flt : B .flt) (b_tpl : B .tpl) (b_ttb : B .ttb) (b_rail : B .rail) (b_swy : B .swy) (b_sup : B .sup) (b_ldg : B .ldg) (b_lpe : B .lpe) (b_lnk : B .lnk) (hM : M) : Keeps B M z (State.ledgerSearch s x1) := by
  unfold State.ledgerSearch
  try dsimp only
  repeat' first | (with_reducible first | assumption | apply State.ledMeet_keeps | apply State.restoreRegion_keeps | apply State.put_keeps | apply State.wr_keeps | apply State.putBit_keeps | apply State.sealBad_keeps | apply each_keeps | split | intro _) | assumption

theorem State.chooseFirmware_keeps (h : Keeps B M z s) (b_ldg : B .ldg) (b_mem : B .mem) (b_evt : B .evt) (b_flt : B .flt) (b_tpl : B .tpl) (b_ttb : B .ttb) (b_rail : B .rail) (b_swy : B .swy) (b_sup : B .sup) (b_lpe : B .lpe) (b_lnk : B .lnk) (hM : M) : Keeps B M z (State.chooseFirmware s) := by
  unfold State.chooseFirmware
  try dsimp only
  repeat' first | (with_reducible first | assumption | apply State.putBit_keeps | apply State.put_keeps | apply State.setFlag_keeps | apply State.ledMeet_keeps | split | intro _ | refine keeps_mk ?_ rfl rfl) | assumption

theorem State.startAon_keeps (h : Keeps B M z s) (hB : ∀ b, B b) (hM : M) : Keeps B M z (State.startAon s x1) := by
  unfold State.startAon
  try dsimp only
  repeat' first | (with_reducible first | assumption | apply State.freshAon_keeps | apply State.putBit_keeps | apply State.put_keeps | split | intro _) | assumption | exact hB _

theorem State.showAddr_keeps (h : Keeps B M z s) (b_twb : B .twb) : Keeps B M z (State.showAddr s) := by
  unfold State.showAddr
  try dsimp only
  repeat' first | (with_reducible first | assumption | apply State.put_keeps | split | intro _) | assumption

theorem State.startBase_keeps (h : Keeps B M z s) (b_mem : B .mem) (b_evt : B .evt) (b_flt : B .flt) (b_tpl : B .tpl) (b_ttb : B .ttb) (b_rail : B .rail) (b_swy : B .swy) (b_sup : B .sup) (b_ldg : B .ldg) (b_lpe : B .lpe) (b_lnk : B .lnk) (b_otp : B .otp) (b_gau : B .gau) (b_svy : B .svy) (b_twb : B .twb) (hM : M) : Keeps B M z (State.startBase s x1 x2) := by
  unfold State.startBase
  try dsimp only
  repeat' first | (with_reducible first | assumption | apply State.ledgerSearch_keeps | apply State.otpScan_keeps | apply State.domOn_keeps | apply State.restoreGauge_keeps | apply State.startUpCal_keeps | apply State.showAddr_keeps | apply State.irqPins_keeps | split | intro _) | assumption

theorem State.startRecord_keeps (h : Keeps B M z s) (b_mem : B .mem) (b_evt : B .evt) (b_ldg : B .ldg) (b_pwr : B .pwr) (hM : M) : Keeps B M z (State.startRecord s x1) := by
  unfold State.startRecord
  try dsimp only
  repeat' first | (with_reducible first | assumption | apply State.logRec_keeps | apply State.happen_keeps | apply State.put_keeps | split | intro _) | assumption

theorem State.startReports_keeps (h : Keeps B M z s) (b_mem : B .mem) (b_evt : B .evt) (b_ldg : B .ldg) (b_flt : B .flt) (b_tpl : B .tpl) (b_ttb : B .ttb) (b_rail : B .rail) (b_swy : B .swy) (b_sup : B .sup) (b_lpe : B .lpe) (b_lnk : B .lnk) (b_wdg : B .wdg) (b_bkp : B .bkp) (hM : M) : Keeps B M z (State.startReports s x1) := by
  unfold State.startReports
  try dsimp only
  repeat' first | (with_reducible first | assumption | apply State.setFlag_keeps | apply State.raise_keeps | apply State.putBit_keeps | split | intro _ | refine keeps_mk ?_ rfl rfl) | assumption

theorem State.startFirmware_keeps (h : Keeps B M z s) (b_mem : B .mem) (b_evt : B .evt) (b_flt : B .flt) (b_lnk : B .lnk) (b_tim : B .tim) (b_bkp : B .bkp) (b_gau : B .gau) (b_ldg : B .ldg) (b_wdg : B .wdg) (b_ttb : B .ttb) (b_tpl : B .tpl) (hM : M) : Keeps B M z (State.startFirmware s x1) := by
  unfold State.startFirmware
  try dsimp only
  repeat' first | (with_reducible first | assumption | apply State.groupsOff_keeps | apply State.powerAll_keeps | apply State.ownTasks_keeps | apply State.timFollow_keeps | apply State.otpAddr_keeps | apply State.boutCheck_keeps | apply State.setTpl_keeps | apply State.flowGaps_keeps | split | intro _) | assumption

theorem State.startCore_keeps (h : Keeps B M z s) (b_ldg : B .ldg) (b_mem : B .mem) (b_evt : B .evt) (b_flt : B .flt) (b_tpl : B .tpl) (b_ttb : B .ttb) (b_rail : B .rail) (b_swy : B .swy) (b_sup : B .sup) (b_lpe : B .lpe) (b_lnk : B .lnk) (b_tim : B .tim) (b_bkp : B .bkp) (b_gau : B .gau) (b_wdg : B .wdg) (b_pwr : B .pwr) (hM : M) : Keeps B M z (State.startCore s x1) := by
  unfold State.startCore
  try dsimp only
  repeat' first | (with_reducible first | assumption | apply State.chooseFirmware_keeps | apply State.restorePage_keeps | apply State.startFirmware_keeps | apply State.startReports_keeps | apply State.startRecord_keeps | apply State.kick_keeps | apply State.answer_keeps | apply each_keeps | split | intro _ | refine keeps_mk ?_ rfl rfl) | assumption

theorem execStartUp_keeps (hB : ∀ b, B b) (hM : M) : ∃ t, execStartUp x0 x1 s = .next t ∧ Keeps B M s t := by
  refine ⟨_, rfl, ?_⟩
  have h : Keeps B M s s := Keeps.refl s
  try dsimp only
  repeat' first | (with_reducible first | assumption | apply State.put_keeps | apply State.startAon_keeps | apply State.startCore_keeps | apply State.startBase_keeps | split | intro _ | refine keeps_mk ?_ rfl rfl | refine keeps_aon ?_ rfl rfl) | assumption | exact hB _

theorem execLoaderRestart_keeps : ∃ t, execLoaderRestart s = .next t ∧ Keeps B M s t := by
  refine ⟨_, rfl, ?_⟩
  have h : Keeps B M s s := Keeps.refl s
  try dsimp only
  repeat' first | (with_reducible first | assumption | split | intro _ | refine keeps_mk ?_ rfl rfl) | assumption

theorem State.wakeNote_keeps (h : Keeps B M z s) (b_mem : B .mem) (b_evt : B .evt) (b_pwr : B .pwr) (hM : M) : Keeps B M z (State.wakeNote s x1) := by
  unfold State.wakeNote
  try dsimp only
  repeat' first | (with_reducible first | assumption | apply State.setFlagI_keeps | apply State.put_keeps | split | intro _) | assumption

theorem State.wakeStream_keeps (h : Keeps B M z s) (hB : ∀ b, B b) (hM : M) : Keeps B M z (State.wakeStream s) := by
  unfold State.wakeStream
  try dsimp only
  repeat' first | (with_reducible first | assumption | apply State.ledMeet_keeps | apply State.applyStream_keeps | apply State.happen_keeps | apply State.tplNone_keeps | apply State.tplRuns_keeps | split | intro _) | assumption | exact hB _

theorem State.wakeDeep_keeps (h : Keeps B M z s) (hB : ∀ b, B b) (hM : M) : Keeps B M z (State.wakeDeep s x1 x2) := by
  unfold State.wakeDeep
  try dsimp only
  repeat' first | (with_reducible first | assumption | apply State.ledgerSearch_keeps | apply State.otpScan_keeps | apply State.domOn_keeps | apply State.showAddr_keeps | apply State.irqPins_keeps | apply State.setFlag_keeps | apply State.flowGaps_keeps | apply State.startUpCal_keeps | apply State.powerAll_keeps | apply State.periodStart_keeps | apply State.kick_keeps | apply State.wakeStream_keeps | apply State.boutCheck_keeps | apply State.wakeNote_keeps | apply each_keeps | split | intro _ | refine keeps_mk ?_ rfl rfl | refine keeps_aon ?_ rfl rfl) | assumption | exact hB _

theorem State.wake_keeps (h : Keeps B M z s) (hB : ∀ b, B b) (hM : M) : Keeps B M z (State.wake s x1 x2) := by
  unfold State.wake
  try dsimp only
  repeat' first | (with_reducible first | assumption | apply State.wakeNote_keeps | apply State.put_keeps | apply State.deepAbandon_keeps | apply State.wakeDeep_keeps | split | intro _ | refine keeps_mk ?_ rfl rfl | refine keeps_aon ?_ rfl rfl) | assumption | exact hB _

theorem execWake_keeps (hB : ∀ b, B b) (hM : M) : ∃ t, execWake x0 x1 s = .next t ∧ Keeps B M s t := by
  refine ⟨_, rfl, ?_⟩
  have h : Keeps B M s s := Keeps.refl s
  try dsimp only
  repeat' first | (with_reducible first | assumption | apply State.wake_keeps | split | intro _) | assumption | exact hB _

theorem execPwrTimerExpiry_keeps (hB : ∀ b, B b) (hM : M) : ∃ t, execPwrTimerExpiry x0 s = .next t ∧ Keeps B M s t := by
  refine ⟨_, rfl, ?_⟩
  have h : Keeps B M s s := Keeps.refl s
  try dsimp only
  repeat' first | (with_reducible first | assumption | apply State.wake_keeps | apply State.wr_keeps | split | intro _) | assumption | exact hB _

theorem execCoreBout_keeps (hB : ∀ b, B b) (hM : M) : ∃ t, execCoreBout x0 s = .next t ∧ Keeps B M s t := by
  refine ⟨_, rfl, ?_⟩
  have h : Keeps B M s s := Keeps.refl s
  try dsimp only
  repeat' first | (with_reducible first | assumption | apply State.raise_keeps | apply State.downDoms_keeps | apply State.condsDown_keeps | apply State.groupsOff_keeps | apply State.powerAll_keeps | apply State.closeSlots_keeps | apply State.applyAll_keeps | apply State.reReact_keeps | apply State.happen_keeps | split | intro _) | assumption | exact hB _

end Sys2Proof.Machine
end

