-- ==== Sys2Proof/Laws/KeepsRows.lean ====
section
/-! SUPPORT. What the operations of the bus interfaces, the Lookout, dumps and the tick keep. -/

namespace Sys2Proof.Machine

variable {B : Block → Prop} {M : Prop} {z s : State}

theorem State.remRead_keeps (h : Keeps B M z s) (hB : ∀ b, B b) (hM : M) : Keeps B M z (State.remRead s x1 x2).2 := by
  induction x2 generalizing s x1 with
  | zero =>
    unfold State.remRead
    try dsimp only
    repeat' first | (with_reducible first | assumption | apply State.busRead_keeps | split | intro _) | assumption | exact hB _
  | succ n ih =>
    unfold State.remRead
    try dsimp only
    repeat' first | (with_reducible first | assumption | apply State.busRead_keeps | apply ih | split | intro _) | assumption | exact hB _

theorem State.remWrite_keeps (h : Keeps B M z s) (hB : ∀ b, B b) (hM : M) : Keeps B M z (State.remWrite s x1 x2) := by
  induction x2 generalizing s x1 with
  | nil =>
    unfold State.remWrite
    try dsimp only
    repeat' first | (with_reducible first | assumption | apply State.gap_keeps | apply State.busStore_keeps | split | intro _) | assumption | exact hB _
  | cons y l ih =>
    unfold State.remWrite
    try dsimp only
    repeat' first | (with_reducible first | assumption | apply State.gap_keeps | apply State.busStore_keeps | apply ih | split | intro _) | assumption | exact hB _

theorem State.remReply_keeps (h : Keeps B M z s) (b_flw : B .flw) (b_mem : B .mem) (b_evt : B .evt) (b_flt : B .flt) (b_tpl : B .tpl) (b_ttb : B .ttb) (b_rail : B .rail) (b_swy : B .swy) (b_sup : B .sup) (b_ldg : B .ldg) (b_lpe : B .lpe) (b_lnk : B .lnk) (hM : M) : Keeps B M z (State.remReply s x1 x2 x3 x4 x5) := by
  unfold State.remReply
  try dsimp only
  repeat' first | (with_reducible first | assumption | apply State.flowPush_keeps | split | intro _) | assumption

theorem State.remExec_keeps (h : Keeps B M z s) (hB : ∀ b, B b) (hM : M) : Keeps B M z (State.remExec s x1 x2) := by
  unfold State.remExec
  try dsimp only
  repeat' first | (with_reducible first | assumption | apply State.remRead_keeps | apply State.remReply_keeps | apply State.remWrite_keeps | apply State.draw_keeps | apply State.setFlagI_keeps | split | intro _) | assumption | exact hB _

theorem State.sramWords_keeps (h : Keeps B M z s) (b_mem : B .mem) (hM : M) : Keeps B M z (State.sramWords s x1 x2) := by
  induction x2 generalizing s x1 with
  | nil =>
    unfold State.sramWords
    try dsimp only
    repeat' first | (with_reducible first | assumption | apply State.sramWrite_keeps | split | intro _) | assumption
  | cons y l ih =>
    unfold State.sramWords
    try dsimp only
    repeat' first | (with_reducible first | assumption | apply State.sramWrite_keeps | apply ih | split | intro _) | assumption

theorem State.rxStore_keeps (h : Keeps B M z s) (b_mem : B .mem) (b_evt : B .evt) (b_flt : B .flt) (b_tpl : B .tpl) (b_ttb : B .ttb) (b_rail : B .rail) (b_swy : B .swy) (b_sup : B .sup) (b_ldg : B .ldg) (b_lpe : B .lpe) (b_lnk : B .lnk) (hM : M) : Keeps B M z (State.rxStore s x1 x2 x3 x4) := by
  unfold State.rxStore
  try dsimp only
  repeat' first | (with_reducible first | assumption | apply State.dmaRestart_keeps | apply State.dmaHalt_keeps | apply State.sramUe_keeps | apply State.sramWords_keeps | apply State.putFlow_keeps | split | intro _) | assumption

theorem State.rxDeliver_keeps (h : Keeps B M z s) (hB : ∀ b, B b) (hM : M) : Keeps B M z (State.rxDeliver s x1 x2 x3) := by
  unfold State.rxDeliver
  try dsimp only
  repeat' first | (with_reducible first | assumption | apply State.sramWords_keeps | apply State.dmaRestart_keeps | apply State.put_keeps | apply State.putFlow_keeps | apply State.setFlagI_keeps | apply State.remExec_keeps | split | intro _) | assumption | exact hB _

theorem State.rxDrain_keeps (h : Keeps B M z s) (hB : ∀ b, B b) (hM : M) : Keeps B M z (State.rxDrain x0 s x2 x3) := by
  induction x0 generalizing s x2 x3 with
  | zero =>
    unfold State.rxDrain
    try dsimp only
    repeat' first | (with_reducible first | assumption | apply State.rxDeliver_keeps | split | intro _) | assumption | exact hB _
  | succ n ih =>
    unfold State.rxDrain
    try dsimp only
    repeat' first | (with_reducible first | assumption | apply State.rxDeliver_keeps | apply ih | split | intro _) | assumption | exact hB _

theorem State.rxDup_keeps (h : Keeps B M z s) (b_flw : B .flw) : Keeps B M z (State.rxDup s) := by
  unfold State.rxDup
  try dsimp only
  repeat' first | (with_reducible first | assumption | apply State.addSat_keeps | split | intro _) | assumption

theorem State.rxWindow_keeps (h : Keeps B M z s) (hB : ∀ b, B b) (hM : M) : Keeps B M z (State.rxWindow s x1 x2 x3 x4) := by
  unfold State.rxWindow
  try dsimp only
  repeat' first | (with_reducible first | assumption | apply State.rxDrain_keeps | apply State.rxDup_keeps | apply State.rxStore_keeps | apply State.sendAck_keeps | split | intro _) | assumption | exact hB _

theorem State.rxNewer_keeps (h : Keeps B M z s) (b_flw : B .flw) (b_mem : B .mem) (b_evt : B .evt) (b_ldg : B .ldg) (hM : M) : Keeps B M z (State.rxNewer s x1) := by
  unfold State.rxNewer
  try dsimp only
  repeat' first | (with_reducible first | assumption | apply State.flowBroken_keeps | apply State.flowClosed_keeps | split | intro _) | assumption

theorem State.rxFrame_keeps (h : Keeps B M z s) (hB : ∀ b, B b) (hM : M) : Keeps B M z (State.rxFrame s x1 x2 x3 x4) := by
  unfold State.rxFrame
  try dsimp only
  repeat' first | (with_reducible first | assumption | apply State.rxWindow_keeps | apply State.putFlow_keeps | apply State.setFlagI_keeps | apply State.rxNewer_keeps | split | intro _) | assumption | exact hB _

theorem execDataReceive_keeps (hB : ∀ b, B b) (hM : M) : ∃ t, execDataReceive x0 x1 s = .next t ∧ Keeps B M s t := by
  refine ⟨_, rfl, ?_⟩
  have h : Keeps B M s s := Keeps.refl s
  try dsimp only
  repeat' first | (with_reducible first | assumption | apply State.rxFrame_keeps | split | intro _) | assumption | exact hB _

theorem execRemoteReceive_keeps (hB : ∀ b, B b) (hM : M) : ∃ t, execRemoteReceive x0 x1 s = .next t ∧ Keeps B M s t := by
  refine ⟨_, rfl, ?_⟩
  have h : Keeps B M s s := Keeps.refl s
  try dsimp only
  repeat' first | (with_reducible first | assumption | apply State.rxFrame_keeps | split | intro _) | assumption | exact hB _

theorem State.ackTake_keeps (h : Keeps B M z s) (hB : ∀ b, B b) (hM : M) : Keeps B M z (State.ackTake s x1 x2 x3 x4) := by
  unfold State.ackTake
  try dsimp only
  repeat' first | (with_reducible first | assumption | apply State.putFlow_keeps | apply State.setFlagI_keeps | apply State.put_keeps | apply State.flowClosed_keeps | apply State.rxDrain_keeps | apply State.sendAck_keeps | split | intro _) | assumption | exact hB _

theorem execAckReceive_keeps (hB : ∀ b, B b) (hM : M) : ∃ t, execAckReceive x0 x1 s = .next t ∧ Keeps B M s t := by
  refine ⟨_, rfl, ?_⟩
  have h : Keeps B M s s := Keeps.refl s
  try dsimp only
  repeat' first | (with_reducible first | assumption | apply State.ackTake_keeps | split | intro _) | assumption | exact hB _

theorem State.setPtr_keeps (h : Keeps B M z s) (b_twb : B .twb) : Keeps B M z (State.setPtr s x1) := by
  unfold State.setPtr
  try dsimp only
  repeat' first | (with_reducible first | assumption | apply State.put_keeps | split | intro _) | assumption

theorem State.twbWhy_keeps (h : Keeps B M z s) (b_sys : B .sys) : Keeps B M z (State.twbWhy s x1) := by
  unfold State.twbWhy
  try dsimp only
  repeat' first | (with_reducible first | assumption | apply State.put_keeps | split | intro _) | assumption

theorem State.twbDisc_keeps (h : Keeps B M z s) (b_twb : B .twb) (b_sys : B .sys) : Keeps B M z (State.twbDisc s x1) := by
  unfold State.twbDisc
  try dsimp only
  repeat' first | (with_reducible first | assumption | apply State.addSat_keeps | apply State.putBit_keeps | apply State.twbWhy_keeps | split | intro _) | assumption

theorem State.twbDone_keeps (h : Keeps B M z s) (b_twb : B .twb) : Keeps B M z (State.twbDone s) := by
  unfold State.twbDone
  try dsimp only
  repeat' first | (with_reducible first | assumption | apply State.addSat_keeps | split | intro _) | assumption

theorem State.twbWord_keeps (h : Keeps B M z s) (hB : ∀ b, B b) (hM : M) : Keeps B M z (State.twbWord s x1 x2 x3) := by
  unfold State.twbWord
  try dsimp only
  repeat' first | (with_reducible first | assumption | apply State.busStore_keeps | split | intro _ | refine keeps_mk ?_ rfl rfl | refine keeps_aon ?_ rfl rfl) | assumption | exact hB _

theorem State.twbApply_keeps (h : Keeps B M z s) (hB : ∀ b, B b) (hM : M) : Keeps B M z (State.twbApply x0 x1 s x3 x4) := by
  induction x1 generalizing s x0 x3 x4 with
  | zero =>
    unfold State.twbApply
    try dsimp only
    repeat' first | (with_reducible first | assumption | apply State.twbWord_keeps | split | intro _) | assumption | exact hB _
  | succ n ih =>
    unfold State.twbApply
    try dsimp only
    repeat' first | (with_reducible first | assumption | apply State.twbWord_keeps | apply ih | split | intro _) | assumption | exact hB _

theorem State.twbWriteAt_keeps (h : Keeps B M z s) (hB : ∀ b, B b) (hM : M) : Keeps B M z (State.twbWriteAt s x1 x2 x3) := by
  unfold State.twbWriteAt
  try dsimp only
  repeat' first | (with_reducible first | assumption | apply State.setFlagI_keeps | apply State.twbDisc_keeps | apply State.setFlag_keeps | apply State.twbApply_keeps | apply State.twbDone_keeps | apply State.setPtr_keeps | split | intro _) | assumption | exact hB _

theorem State.twbWrite_keeps (h : Keeps B M z s) (hB : ∀ b, B b) (hM : M) : Keeps B M z (State.twbWrite s x1) := by
  unfold State.twbWrite
  try dsimp only
  repeat' first | (with_reducible first | assumption | apply State.twbWriteAt_keeps | split | intro _) | assumption | exact hB _

theorem State.twbDropped_keeps (h : Keeps B M z s) (b_twb : B .twb) (b_sys : B .sys) : Keeps B M z (State.twbDropped s x1) := by
  unfold State.twbDropped
  try dsimp only
  repeat' first | (with_reducible first | assumption | apply State.twbDisc_keeps | apply State.gap_keeps | split | intro _) | assumption

theorem execTwbWriteTransaction_keeps (hB : ∀ b, B b) (hM : M) : ∃ t, execTwbWriteTransaction x0 s = .next t ∧ Keeps B M s t := by
  refine ⟨_, rfl, ?_⟩
  have h : Keeps B M s s := Keeps.refl s
  try dsimp only
  repeat' first | (with_reducible first | assumption | apply State.wakeNack_keeps | apply State.twbDropped_keeps | apply State.twbWrite_keeps | split | intro _) | assumption | exact hB _

theorem State.twbBytes_keeps (h : Keeps B M z s) (hB : ∀ b, B b) (hM : M) : Keeps B M z (State.twbBytes x0 x1 x2 s x4 x5).2 := by
  induction x2 generalizing s x0 x1 x4 x5 with
  | zero =>
    unfold State.twbBytes
    try dsimp only
    repeat' first | (with_reducible first | assumption | apply State.busRead_keeps | split | intro _) | assumption | exact hB _
  | succ n ih =>
    unfold State.twbBytes
    try dsimp only
    repeat' first | (with_reducible first | assumption | apply State.busRead_keeps | apply ih | split | intro _) | assumption | exact hB _

theorem State.twbData_keeps (h : Keeps B M z s) (hB : ∀ b, B b) (hM : M) : Keeps B M z (State.twbData s x1).2 := by
  unfold State.twbData
  try dsimp only
  repeat' first | (with_reducible first | assumption | apply State.twbBytes_keeps | apply State.setFlag_keeps | apply State.setPtr_keeps | split | intro _) | assumption | exact hB _

theorem State.twbRead_keeps (h : Keeps B M z s) (hB : ∀ b, B b) (hM : M) : Keeps B M z (State.twbRead s x1).2 := by
  unfold State.twbRead
  try dsimp only
  repeat' first | (with_reducible first | assumption | apply State.twbData_keeps | split | intro _) | assumption | exact hB _

theorem execTwbReadTransaction_keeps (hB : ∀ b, B b) (hM : M) : ∃ t, execTwbReadTransaction x0 s = .next t ∧ Keeps B M s t := by
  refine ⟨_, rfl, ?_⟩
  have h : Keeps B M s s := Keeps.refl s
  try dsimp only
  repeat' first | (with_reducible first | assumption | apply State.wakeNack_keeps | apply State.twbRead_keeps | apply State.twbDone_keeps | split | intro _ | refine keeps_mk ?_ rfl rfl | refine keeps_aon ?_ rfl rfl) | assumption | exact hB _

theorem execTwbTimeout_keeps (hB : ∀ b, B b) (hM : M) : ∃ t, execTwbTimeout x0 s = .next t ∧ Keeps B M s t := by
  refine ⟨_, rfl, ?_⟩
  have h : Keeps B M s s := Keeps.refl s
  try dsimp only
  repeat' first | (with_reducible first | assumption | apply State.setFlag_keeps | apply State.twbDisc_keeps | apply State.twbData_keeps | apply State.twbWhy_keeps | split | intro _ | refine keeps_mk ?_ rfl rfl | refine keeps_aon ?_ rfl rfl) | assumption | exact hB _

theorem State.monBoth_keeps (h : Keeps B M z s) (b_mem : B .mem) (b_evt : B .evt) (b_mon : B .mon) (hM : M) (hx2 : ∀ s, Keeps B M z s → Keeps B M z (x2 s)) : Keeps B M z (State.monBoth s x1 x2) := by
  unfold State.monBoth
  try dsimp only
  repeat' first | (with_reducible first | assumption | apply hx2 | apply State.monLine_keeps | split | intro _) | assumption

theorem State.monRead_keeps (h : Keeps B M z s) (hB : ∀ b, B b) (hM : M) : Keeps B M z (State.monRead s x1 x2).2 := by
  induction x2 generalizing s x1 with
  | zero =>
    unfold State.monRead
    try dsimp only
    repeat' first | (with_reducible first | assumption | apply State.busRead_keeps | split | intro _) | assumption | exact hB _
  | succ n ih =>
    unfold State.monRead
    try dsimp only
    repeat' first | (with_reducible first | assumption | apply State.busRead_keeps | apply ih | split | intro _) | assumption | exact hB _

theorem execRd_keeps (hB : ∀ b, B b) (hM : M) : ∃ t, execRd x0 x1 s = .next t ∧ Keeps B M s t := by
  refine ⟨_, rfl, ?_⟩
  have h : Keeps B M s s := Keeps.refl s
  try dsimp only
  repeat' first | (with_reducible first | assumption | apply State.monBoth_keeps | apply State.monRead_keeps | apply State.answer_keeps | split | intro _) | assumption | exact hB _

theorem State.monWrite_keeps (h : Keeps B M z s) (hB : ∀ b, B b) (hM : M) : Keeps B M z (State.monWrite s x1 x2) := by
  induction x2 generalizing s x1 with
  | nil =>
    unfold State.monWrite
    try dsimp only
    repeat' first | (with_reducible first | assumption | apply State.answer_keeps | apply State.gap_keeps | apply State.setFlag_keeps | apply State.busStore_keeps | split | intro _) | assumption | exact hB _
  | cons y l ih =>
    unfold State.monWrite
    try dsimp only
    repeat' first | (with_reducible first | assumption | apply State.answer_keeps | apply State.gap_keeps | apply State.setFlag_keeps | apply State.busStore_keeps | apply ih | split | intro _) | assumption | exact hB _

theorem execWr_keeps (hB : ∀ b, B b) (hM : M) : ∃ t, execWr x0 x1 s = .next t ∧ Keeps B M s t := by
  refine ⟨_, rfl, ?_⟩
  have h : Keeps B M s s := Keeps.refl s
  try dsimp only
  repeat' first | (with_reducible first | assumption | apply State.monBoth_keeps | apply State.monWrite_keeps | apply State.answer_keeps | split | intro _) | assumption | exact hB _

theorem execRails_keeps (b_mem : B .mem) (b_evt : B .evt) (b_mon : B .mon) (hM : M) : ∃ t, execRails x0 x1 s = .next t ∧ Keeps B M s t := by
  refine ⟨_, rfl, ?_⟩
  have h : Keeps B M s s := Keeps.refl s
  try dsimp only
  repeat' first | (with_reducible first | assumption | apply State.monCmd_keeps | apply State.answer_keeps | split | intro _) | assumption

theorem execFlt_keeps (b_mem : B .mem) (b_evt : B .evt) (b_mon : B .mon) (hM : M) : ∃ t, execFlt s = .next t ∧ Keeps B M s t := by
  refine ⟨_, rfl, ?_⟩
  have h : Keeps B M s s := Keeps.refl s
  try dsimp only
  repeat' first | (with_reducible first | assumption | apply State.monCmd_keeps | apply State.answer_keeps | split | intro _) | assumption

theorem State.monRecords_keeps (h : Keeps B M z s) (hB : ∀ b, B b) (hM : M) : Keeps B M z (State.monRecords s x1 x2 x3).2 := by
  induction x2 generalizing s x1 x3 with
  | zero =>
    unfold State.monRecords
    try dsimp only
    repeat' first | (with_reducible first | assumption | apply State.monRead_keeps | split | intro _) | assumption | exact hB _
  | succ n ih =>
    unfold State.monRecords
    try dsimp only
    repeat' first | (with_reducible first | assumption | apply State.monRead_keeps | apply ih | split | intro _) | assumption | exact hB _

theorem execEv_keeps (hB : ∀ b, B b) (hM : M) : ∃ t, execEv x0 x1 s = .next t ∧ Keeps B M s t := by
  refine ⟨_, rfl, ?_⟩
  have h : Keeps B M s s := Keeps.refl s
  try dsimp only
  repeat' first | (with_reducible first | assumption | apply State.monCmd_keeps | apply State.monRecords_keeps | apply State.answer_keeps | split | intro _) | assumption | exact hB _

theorem State.monLog_keeps (h : Keeps B M z s) (hB : ∀ b, B b) (hM : M) : Keeps B M z (State.monLog s x1).2 := by
  induction x1 generalizing s with
  | nil =>
    unfold State.monLog
    try dsimp only
    repeat' first | (with_reducible first | assumption | apply State.monRead_keeps | split | intro _) | assumption | exact hB _
  | cons y l ih =>
    unfold State.monLog
    try dsimp only
    repeat' first | (with_reducible first | assumption | apply State.monRead_keeps | apply ih | split | intro _) | assumption | exact hB _

theorem execLog_keeps (hB : ∀ b, B b) (hM : M) : ∃ t, execLog x0 s = .next t ∧ Keeps B M s t := by
  refine ⟨_, rfl, ?_⟩
  have h : Keeps B M s s := Keeps.refl s
  try dsimp only
  repeat' first | (with_reducible first | assumption | apply State.monCmd_keeps | apply State.monLog_keeps | apply State.answer_keeps | split | intro _) | assumption | exact hB _

theorem execDump_keeps (hB : ∀ b, B b) (hM : M) : ∃ t, execDump x0 x1 s = .next t ∧ Keeps B M s t := by
  refine ⟨_, rfl, ?_⟩
  have h : Keeps B M s s := Keeps.refl s
  try dsimp only
  repeat' first | (with_reducible first | assumption | apply State.monCmd_keeps | apply State.answer_keeps | apply State.monRead_keeps | split | intro _) | assumption | exact hB _

theorem State.monParams_keeps (h : Keeps B M z s) (hB : ∀ b, B b) (hM : M) : Keeps B M z (State.monParams s x1 x2) := by
  induction x2 generalizing s x1 with
  | nil =>
    unfold State.monParams
    try dsimp only
    repeat' first | (with_reducible first | assumption | apply State.busStore_keeps | split | intro _) | assumption | exact hB _
  | cons y l ih =>
    unfold State.monParams
    try dsimp only
    repeat' first | (with_reducible first | assumption | apply State.busStore_keeps | apply ih | split | intro _) | assumption | exact hB _

theorem execCm_keeps (hB : ∀ b, B b) (hM : M) : ∃ t, execCm x0 x1 s = .next t ∧ Keeps B M s t := by
  refine ⟨_, rfl, ?_⟩
  have h : Keeps B M s s := Keeps.refl s
  try dsimp only
  repeat' first | (with_reducible first | assumption | apply State.monBoth_keeps | apply State.issue_keeps | apply State.monParams_keeps | apply State.busRead_keeps | apply State.answer_keeps | split | intro _) | assumption | exact hB _

theorem execQy_keeps (hB : ∀ b, B b) (hM : M) : ∃ t, execQy x0 s = .next t ∧ Keeps B M s t := by
  refine ⟨_, rfl, ?_⟩
  have h : Keeps B M s s := Keeps.refl s
  try dsimp only
  repeat' first | (with_reducible first | assumption | apply State.monBoth_keeps | apply State.busStore_keeps | apply State.busRead_keeps | apply State.answer_keeps | split | intro _) | assumption | exact hB _

theorem execId_keeps : ∃ t, execId s = .next t ∧ Keeps B M s t := by
  refine ⟨_, rfl, ?_⟩
  have h : Keeps B M s s := Keeps.refl s
  try dsimp only
  repeat' first | (with_reducible first | assumption | apply State.answer_keeps | split | intro _ | refine keeps_mk ?_ rfl rfl) | assumption

theorem State.dumpRead_keeps (h : Keeps B M z s) (b_mem : B .mem) (b_evt : B .evt) (b_flt : B .flt) (b_tpl : B .tpl) (b_ttb : B .ttb) (b_rail : B .rail) (b_swy : B .swy) (b_sup : B .sup) (b_ldg : B .ldg) (b_lpe : B .lpe) (b_lnk : B .lnk) (hM : M) : Keeps B M z (State.dumpRead s x1).2 := by
  unfold State.dumpRead
  try dsimp only
  repeat' first | (with_reducible first | assumption | apply State.eccRange_keeps | apply State.putWord_keeps | apply State.sramUe_keeps | apply State.raise_keeps | apply each_keeps | split | intro _) | assumption

theorem execDumpStart_keeps (b_mem : B .mem) (b_evt : B .evt) (b_flt : B .flt) (b_tpl : B .tpl) (b_ttb : B .ttb) (b_rail : B .rail) (b_swy : B .swy) (b_sup : B .sup) (b_ldg : B .ldg) (b_lpe : B .lpe) (b_lnk : B .lnk) (hM : M) : ∃ t, execDumpStart s = .next t ∧ Keeps B M s t := by
  refine ⟨_, rfl, ?_⟩
  have h : Keeps B M s s := Keeps.refl s
  try dsimp only
  repeat' first | (with_reducible first | assumption | apply State.dumpRead_keeps | apply State.enqueue_keeps | split | intro _ | refine keeps_mk ?_ rfl rfl) | assumption

theorem State.linkTick_keeps (h : Keeps B M z s) : Keeps B M z (State.linkTick s) := by
  unfold State.linkTick
  try dsimp only
  repeat' first | (with_reducible first | assumption | apply State.portChar_keeps | apply State.stationTick_keeps | apply each_keeps | split | intro _) | assumption

theorem State.agesTick_keeps (h : Keeps B M z s) (hB : ∀ b, B b) : Keeps B M z (State.agesTick s) := keeps_regs h hB rfl rfl rfl rfl

theorem State.rampTick_keeps (h : Keeps B M z s) (b_rail : B .rail) : Keeps B M z (State.rampTick s x1) := by
  unfold State.rampTick
  try dsimp only
  repeat' first | (with_reducible first | assumption | apply State.put_keeps | split | intro _ | refine keeps_mk ?_ rfl rfl) | assumption

theorem State.shareTick_keeps (h : Keeps B M z s) (b_swy : B .swy) : Keeps B M z (State.shareTick s x1) := by
  unfold State.shareTick
  try dsimp only
  repeat' first | (with_reducible first | assumption | apply State.putStgX_keeps | apply State.put_keeps | split | intro _) | assumption

theorem State.usTick_keeps (h : Keeps B M z s) (hB : ∀ b, B b) : Keeps B M z (State.usTick s) := by
  unfold State.usTick
  try dsimp only
  repeat' first | (with_reducible first | assumption | apply State.agesTick_keeps | apply State.rampTick_keeps | apply State.shareTick_keeps | apply each_keeps | split | intro _) | assumption | exact hB _

theorem State.railEnergy_keeps (h : Keeps B M z s) : Keeps B M z (State.railEnergy s x1) := by
  unfold State.railEnergy
  try dsimp only
  repeat' first | (with_reducible first | assumption | split | intro _ | refine keeps_mk ?_ rfl rfl) | assumption

theorem State.energyTick_keeps (h : Keeps B M z s) : Keeps B M z (State.energyTick s) := by
  unfold State.energyTick
  try dsimp only
  repeat' first | (with_reducible first | assumption | apply State.railEnergy_keeps | apply each_keeps | split | intro _) | assumption

theorem State.msTick_keeps (h : Keeps B M z s) (b_wdg : B .wdg) : Keeps B M z (State.msTick s) := by
  unfold State.msTick
  try dsimp only
  repeat' first | (with_reducible first | assumption | apply State.addSat_keeps | apply State.energyTick_keeps | apply each_keeps | split | intro _) | assumption

theorem State.secondsDown_keeps (h : Keeps B M z s) (bx1 : B x1.block) : Keeps B M z (State.secondsDown s x1 x2) := by
  unfold State.secondsDown
  try dsimp only
  repeat' first | (with_reducible first | assumption | apply State.put_keeps | split | intro _) | assumption

theorem State.keeperSecond_keeps (h : Keeps B M z s) (b_gau : B .gau) (b_bkp : B .bkp) (b_pwr : B .pwr) (b_mon : B .mon) : Keeps B M z (State.keeperSecond s) := by
  unfold State.keeperSecond
  try dsimp only
  repeat' first | (with_reducible first | assumption | apply State.wr_keeps | apply State.secondsDown_keeps | split | intro _) | assumption

theorem State.localSecond_keeps (h : Keeps B M z s) (b_rail : B .rail) : Keeps B M z (State.localSecond s) := by
  unfold State.localSecond
  try dsimp only
  repeat' first | (with_reducible first | assumption | apply State.wr_keeps | apply each_keeps | split | intro _) | assumption

theorem State.localTick_keeps (h : Keeps B M z s) (hB : ∀ b, B b) : Keeps B M z (State.localTick s) := by
  unfold State.localTick
  try dsimp only
  repeat' first | (with_reducible first | assumption | apply State.usTick_keeps | apply State.msTick_keeps | apply State.localSecond_keeps | split | intro _ | refine keeps_mk ?_ rfl rfl | refine keeps_aon ?_ rfl rfl) | assumption | exact hB _

theorem State.tick_keeps (h : Keeps B M z s) (hB : ∀ b, B b) : Keeps B M z (State.tick s) := by
  unfold State.tick
  try dsimp only
  repeat' first | (with_reducible first | assumption | apply State.keeperSecond_keeps | apply State.linkTick_keeps | apply State.localTick_keeps | split | intro _ | refine keeps_mk ?_ rfl rfl | refine keeps_aon ?_ rfl rfl) | assumption | exact hB _

end Sys2Proof.Machine
end

