-- ==== Sys2Proof/Laws/KeepsExec.lean ====
section
/-! SUPPORT. What the operations of every command keep. -/

namespace Sys2Proof.Machine

variable {B : Block → Prop} {M : Prop} {z s : State}

theorem exec_keeps (hB : ∀ b, B b) (hM : M) : ∃ t, exec x0 s = .next t ∧ Keeps B M s t := by
  cases x0 with
  | registerWrite => simp only [exec]; exact execRegisterWrite_keeps hB hM
  | winbaseWrite => simp only [exec]; exact execWinbaseWrite_keeps hB hM
  | idataRead => simp only [exec]; exact execIdataRead_keeps hB hM
  | idataWrite => simp only [exec]; exact execIdataWrite_keeps hB hM
  | domainPowerUp => simp only [exec]; exact execDomainPowerUp_keeps hB hM
  | nopConfig => simp only [exec]; exact execNopConfig_keeps (hB _) (hB _) (hB _) (hB _) hM
  | nopLedger => simp only [exec]; exact execNopLedger_keeps (hB _) (hB _) (hB _) (hB _) hM
  | nopCalibration => simp only [exec]; exact execNopCalibration_keeps (hB _) (hB _) (hB _) (hB _) hM
  | nopFabric => simp only [exec]; exact execNopFabric_keeps (hB _) (hB _) (hB _) (hB _) hM
  | tplVerify => simp only [exec]; exact execTplVerify_keeps (hB _) (hB _) (hB _) (hB _) (hB _) (hB _) (hB _) (hB _) (hB _) (hB _) (hB _) (hB _) hM
  | tplStore => simp only [exec]; exact execTplStore_keeps (hB _) (hB _) (hB _) (hB _) (hB _) (hB _) (hB _) (hB _) (hB _) (hB _) (hB _) (hB _) hM
  | tplLoadAll => simp only [exec]; exact execTplLoadAll_keeps hB hM
  | tplLoadDomain => simp only [exec]; exact execTplLoadDomain_keeps hB hM
  | holdmaxWrite => simp only [exec]; exact execHoldmaxWrite_keeps hB hM
  | stgCfgWrite => simp only [exec]; exact execStgCfgWrite_keeps (hB _) (hB _) (hB _) hM
  | pntCfgWrite => simp only [exec]; exact execPntCfgWrite_keeps (hB _) (hB _) (hB _) hM
  | valleyComparatorFire => simp only [exec]; exact execValleyComparatorFire_keeps (hB _) (hB _) (hB _) (hB _) hM
  | zeroCurrentDetect => simp only [exec]; exact execZeroCurrentDetect_keeps (hB _)
  | negativeLimit => simp only [exec]; exact execNegativeLimit_keeps (hB _) (hB _) (hB _) hM
  | ocTimeout => simp only [exec]; exact execOcTimeout_keeps (hB _) (hB _) (hB _) (hB _) (hB _) (hB _) (hB _) (hB _) (hB _) (hB _) (hB _) hM
  | aggregateLimit => simp only [exec]; exact execAggregateLimit_keeps (hB _) (hB _)
  | hsshortDetect => simp only [exec]; exact execHsshortDetect_keeps (hB _) (hB _) (hB _) (hB _) (hB _) (hB _) (hB _) (hB _) (hB _) (hB _) (hB _) (hB _) hM
  | testWindowEnd => simp only [exec]; exact execTestWindowEnd_keeps (hB _)
  | bootEnd => simp only [exec]; exact execBootEnd_keeps (hB _) (hB _) (hB _) (hB _) (hB _) hM
  | shareRampEnd => simp only [exec]; exact execShareRampEnd_keeps (hB _) (hB _)
  | leaveCurrentZero => simp only [exec]; exact execLeaveCurrentZero_keeps (hB _) (hB _) (hB _) (hB _) (hB _) hM
  | leaveTimeout => simp only [exec]; exact execLeaveTimeout_keeps (hB _) (hB _) (hB _) (hB _) (hB _) hM
  | stgFlagWrite => simp only [exec]; exact execStgFlagWrite_keeps (hB _) (hB _) (hB _) hM
  | watershedTick => simp only [exec]; exact execWatershedTick_keeps (hB _)
  | pointSettled => simp only [exec]; exact execPointSettled_keeps (hB _) (hB _)
  | swyRegang => simp only [exec]; exact execSwyRegang_keeps (hB _) (hB _) (hB _) (hB _) (hB _) (hB _) (hB _) hM
  | loopSampleTrigger => simp only [exec]; exact execLoopSampleTrigger_keeps (hB _) (hB _) (hB _) (hB _) (hB _) (hB _) (hB _) (hB _) (hB _) (hB _) (hB _) (hB _) hM
  | loopSampleDone => simp only [exec]; exact execLoopSampleDone_keeps (hB _) (hB _) (hB _) hM
  | tempoWindowEnd => simp only [exec]; exact execTempoWindowEnd_keeps (hB _) (hB _) (hB _) hM
  | loopRestored => simp only [exec]; exact execLoopRestored_keeps (hB _)
  | rminReset => simp only [exec]; exact execRminReset_keeps (hB _) (hB _) (hB _) hM
  | lpeShedWrite => simp only [exec]; exact execLpeShedWrite_keeps (hB _) (hB _) (hB _) hM
  | loopOpenRequest => simp only [exec]; exact execLoopOpenRequest_keeps (hB _) (hB _) (hB _) hM
  | loopCloseRequest => simp only [exec]; exact execLoopCloseRequest_keeps (hB _) (hB _) (hB _) hM
  | loopCloseCleared => simp only [exec]; exact execLoopCloseCleared_keeps (hB _) (hB _) (hB _) hM
  | lpsCfgWrite => simp only [exec]; exact execLpsCfgWrite_keeps (hB _) (hB _) (hB _) (hB _) hM
  | lpsOutWrite => simp only [exec]; exact execLpsOutWrite_keeps (hB _) (hB _) (hB _) hM
  | lpsInWrite => simp only [exec]; exact execLpsInWrite_keeps (hB _) (hB _) (hB _) (hB _) hM
  | loopParamWrite => simp only [exec]; exact execLoopParamWrite_keeps hB hM
  | coefWrite => simp only [exec]; exact execCoefWrite_keeps (hB _) (hB _) (hB _) hM
  | loopOpenlong => simp only [exec]; exact execLoopOpenlong_keeps (hB _) (hB _) (hB _) (hB _) (hB _) (hB _) (hB _) (hB _) (hB _) (hB _) (hB _) hM
  | watchSettleEnd => simp only [exec]; exact execWatchSettleEnd_keeps
  | loopFollow => simp only [exec]; exact execLoopFollow_keeps (hB _) (hB _) (hB _) (hB _) (hB _) (hB _) (hB _) (hB _) (hB _) (hB _) (hB _) hM
  | loopModel => simp only [exec]; exact execLoopModel_keeps (hB _) (hB _) (hB _) (hB _) (hB _) (hB _) (hB _) (hB _) (hB _) (hB _) (hB _) hM
  | railOnRequest => simp only [exec]; exact execRailOnRequest_keeps (hB _) (hB _) (hB _) (hB _) (hB _) (hB _) (hB _) (hB _) (hB _) (hB _) (hB _) (hB _) (hB _) hM
  | railOffRequest => simp only [exec]; exact execRailOffRequest_keeps (hB _) (hB _) (hB _) (hB _) (hB _) (hB _) (hB _) (hB _) hM
  | onDelayEnd => simp only [exec]; exact execOnDelayEnd_keeps (hB _) (hB _) (hB _) (hB _) (hB _) (hB _) (hB _) (hB _) (hB _) (hB _) (hB _) hM
  | offDelayEnd => simp only [exec]; exact execOffDelayEnd_keeps (hB _) (hB _) (hB _) (hB _) (hB _) (hB _) (hB _) (hB _) hM
  | setpointReached => simp only [exec]; exact execSetpointReached_keeps (hB _)
  | dischargeDone => simp only [exec]; exact execDischargeDone_keeps (hB _) (hB _) (hB _) (hB _) (hB _) (hB _) (hB _) (hB _) (hB _) (hB _) (hB _) (hB _) hM
  | dischargeTimeout => simp only [exec]; exact execDischargeTimeout_keeps (hB _) (hB _) (hB _) (hB _) (hB _) (hB _) (hB _) (hB _) (hB _) (hB _) (hB _) (hB _) hM
  | startTimeout => simp only [exec]; exact execStartTimeout_keeps (hB _) (hB _) (hB _) (hB _) (hB _) (hB _) (hB _) (hB _) (hB _) (hB _) (hB _) hM
  | vsetWrite => simp only [exec]; exact execVsetWrite_keeps (hB _) (hB _) (hB _) (hB _) hM
  | pgAssert => simp only [exec]; exact execPgAssert_keeps (hB _) (hB _) (hB _) (hB _) (hB _) (hB _) (hB _) (hB _) (hB _) (hB _) (hB _) hM
  | groupOnRequest => simp only [exec]; exact execGroupOnRequest_keeps (hB _) (hB _) (hB _) (hB _) (hB _) (hB _) (hB _) (hB _) (hB _) (hB _) (hB _) (hB _) (hB _) hM
  | groupOffRequest => simp only [exec]; exact execGroupOffRequest_keeps (hB _) (hB _) (hB _) (hB _) (hB _) (hB _) (hB _) (hB _) (hB _) (hB _) (hB _) (hB _) (hB _) hM
  | stepHoldEnd => simp only [exec]; exact execStepHoldEnd_keeps (hB _) (hB _) (hB _) (hB _) (hB _) (hB _) (hB _) (hB _) (hB _) (hB _) (hB _) (hB _) hM
  | stepWrite => simp only [exec]; exact execStepWrite_keeps (hB _) (hB _) (hB _) hM
  | boutStart => simp only [exec]; exact execBoutStart_keeps (hB _) (hB _) (hB _) (hB _) (hB _) (hB _) (hB _) (hB _) (hB _) hM
  | vinBelowVon => simp only [exec]; exact execVinBelowVon_keeps (hB _)
  | ttbBoutWrite => simp only [exec]; exact execTtbBoutWrite_keeps (hB _) (hB _) (hB _) hM
  | ovCrossing => simp only [exec]; exact execOvCrossing_keeps (hB _) (hB _) (hB _) (hB _) (hB _) (hB _) (hB _) (hB _) (hB _) (hB _) (hB _) hM
  | uvCrossing => simp only [exec]; exact execUvCrossing_keeps (hB _) (hB _) (hB _) (hB _) (hB _) (hB _) (hB _) (hB _) (hB _) (hB _) (hB _) hM
  | crossingEnd => simp only [exec]; exact execCrossingEnd_keeps (hB _) (hB _)
  | resetRelease => simp only [exec]; exact execResetRelease_keeps (hB _)
  | conversionResult => simp only [exec]; exact execConversionResult_keeps (hB _) (hB _) (hB _) (hB _) (hB _) (hB _) (hB _) (hB _) (hB _) (hB _) (hB _) (hB _) (hB _) hM
  | gaugeTick => simp only [exec]; exact execGaugeTick_keeps (hB _) (hB _) (hB _) (hB _) (hB _) (hB _) hM
  | surveyCal => simp only [exec]; exact execSurveyCal_keeps (hB _) (hB _) (hB _) (hB _) (hB _) (hB _) hM
  | converterCalDone => simp only [exec]; exact execConverterCalDone_keeps (hB _) (hB _)
  | scanStart => simp only [exec]; exact execScanStart_keeps
  | start => simp only [exec]; exact execStart_keeps (hB _) (hB _) (hB _) hM
  | dataRead => simp only [exec]; exact execDataRead_keeps hB hM
  | dmaEnable => simp only [exec]; exact execDmaEnable_keeps (hB _) (hB _) (hB _) hM
  | sliceFactorWrite => simp only [exec]; exact execSliceFactorWrite_keeps hB hM
  | fire => simp only [exec]; exact execFire_keeps (hB _) (hB _) (hB _) hM
  | sourceLoss => simp only [exec]; exact execSourceLoss_keeps (hB _) (hB _) (hB _) (hB _) (hB _) (hB _) (hB _) hM
  | handoverComplete => simp only [exec]; exact execHandoverComplete_keeps (hB _) (hB _) (hB _)
  | shipRequest => simp only [exec]; exact execShipRequest_keeps (hB _) (hB _) (hB _) (hB _) (hB _) (hB _) (hB _) (hB _) (hB _) (hB _) (hB _) (hB _) (hB _) (hB _) hM
  | shipCancel => simp only [exec]; exact execShipCancel_keeps (hB _) (hB _) (hB _) (hB _) (hB _) (hB _) (hB _) (hB _) (hB _) (hB _) (hB _) (hB _) (hB _) (hB _) hM
  | buttonChange => simp only [exec]; exact execButtonChange_keeps (hB _)
  | bkpBatcfgWrite => simp only [exec]; exact execBkpBatcfgWrite_keeps (hB _) (hB _) (hB _) (hB _) (hB _) hM
  | bkpChgWrite => simp only [exec]; exact execBkpChgWrite_keeps (hB _) (hB _) (hB _) (hB _) (hB _) hM
  | bkpPathWrite => simp only [exec]; exact execBkpPathWrite_keeps (hB _) (hB _) (hB _) hM
  | bkpQualWrite => simp only [exec]; exact execBkpQualWrite_keeps (hB _) (hB _) (hB _) hM
  | checkEnd => simp only [exec]; exact execCheckEnd_keeps (hB _) (hB _) (hB _) (hB _) (hB _) hM
  | bkpFlagWrite => simp only [exec]; exact execBkpFlagWrite_keeps (hB _) (hB _) (hB _) (hB _) (hB _) hM
  | kick => simp only [exec]; exact execKick_keeps (hB _) (hB _) (hB _) hM
  | gauCyclesWrite => simp only [exec]; exact execGauCyclesWrite_keeps (hB _) (hB _) (hB _) hM
  | gaugeConfigWrite => simp only [exec]; exact execGaugeConfigWrite_keeps hB hM
  | newpack => simp only [exec]; exact execNewpack_keeps (hB _) (hB _) (hB _) hM
  | accLoRead => simp only [exec]; exact execAccLoRead_keeps hB hM
  | phaseCountEval => simp only [exec]; exact execPhaseCountEval_keeps (hB _) (hB _)
  | derateEval => simp only [exec]; exact execDerateEval_keeps (hB _) (hB _)
  | otPark => simp only [exec]; exact execOtPark_keeps (hB _) (hB _) (hB _) (hB _) (hB _) (hB _) (hB _) (hB _) (hB _) (hB _) (hB _) hM
  | ffwdEval => simp only [exec]; exact execFfwdEval_keeps (hB _)
  | rideEval => simp only [exec]; exact execRideEval_keeps (hB _) (hB _) (hB _) (hB _) (hB _) (hB _) (hB _) (hB _) (hB _) hM
  | polLockWrite => simp only [exec]; exact execPolLockWrite_keeps (hB _) (hB _) (hB _) hM
  | polLimitWrite => simp only [exec]; exact execPolLimitWrite_keeps (hB _) (hB _) (hB _) hM
  | faultRaise => simp only [exec]; exact execFaultRaise_keeps (hB _) (hB _) (hB _) (hB _) (hB _) (hB _) (hB _) (hB _) (hB _) (hB _) (hB _) hM
  | faultClear => simp only [exec]; exact execFaultClear_keeps (hB _) (hB _) (hB _) (hB _) (hB _) (hB _) (hB _) hM
  | fltCfgWrite => simp only [exec]; exact execFltCfgWrite_keeps (hB _) (hB _) (hB _) hM
  | fltTgtWrite => simp only [exec]; exact execFltTgtWrite_keeps (hB _) (hB _) (hB _) hM
  | cntclr => simp only [exec]; exact execCntclr_keeps (hB _) (hB _) (hB _) hM
  | fltForceWrite => simp only [exec]; exact execFltForceWrite_keeps (hB _) (hB _) (hB _) hM
  | injectionUnlock => simp only [exec]; exact execInjectionUnlock_keeps (hB _) (hB _) (hB _) hM
  | go => simp only [exec]; exact execGo_keeps (hB _) (hB _) (hB _) hM
  | injectionResult => simp only [exec]; exact execInjectionResult_keeps (hB _) (hB _) (hB _) (hB _) (hB _) (hB _) (hB _) (hB _) (hB _) (hB _) (hB _) hM
  | fltHostRaise => simp only [exec]; exact execFltHostRaise_keeps (hB _) (hB _) (hB _) (hB _) (hB _) (hB _) (hB _) (hB _) (hB _) (hB _) (hB _) hM
  | eventOccurrence => simp only [exec]; exact execEventOccurrence_keeps (hB _) (hB _) hM
  | eventQueueWrite => simp only [exec]; exact execEventQueueWrite_keeps (hB _) (hB _) (hB _) (hB _) (hB _) (hB _) (hB _) (hB _) (hB _) (hB _) (hB _) (hB _) hM
  | stormWindowClose => simp only [exec]; exact execStormWindowClose_keeps
  | pendWrite => simp only [exec]; exact execPendWrite_keeps (hB _) (hB _) hM
  | freezeWrite => simp only [exec]; exact execFreezeWrite_keeps (hB _) (hB _) hM
  | take => simp only [exec]; exact execTake_keeps (hB _) (hB _) (hB _) (hB _) (hB _) (hB _) (hB _) (hB _) (hB _) (hB _) (hB _) hM
  | eoi => simp only [exec]; exact execEoi_keeps (hB _) (hB _) hM
  | queueConfigWrite => simp only [exec]; exact execQueueConfigWrite_keeps hB hM
  | commandStart => simp only [exec]; exact execCommandStart_keeps (hB _) (hB _) (hB _) (hB _) (hB _) (hB _) (hB _) (hB _) (hB _) (hB _) (hB _) (hB _) (hB _) hM
  | unknownOp => simp only [exec]; exact execUnknownOp_keeps (hB _) (hB _) (hB _) (hB _) hM
  | cmdCancel => simp only [exec]; exact execCmdCancel_keeps (hB _) (hB _) (hB _) (hB _) (hB _) (hB _) (hB _) hM
  | cmdQuery => simp only [exec]; exact execCmdQuery_keeps (hB _) (hB _) (hB _) hM
  | scrubStep => simp only [exec]; exact execScrubStep_keeps (hB _) (hB _) (hB _) (hB _) (hB _) (hB _) (hB _) (hB _) (hB _) (hB _) (hB _) hM
  | memPretireWrite => simp only [exec]; exact execMemPretireWrite_keeps (hB _) (hB _) hM
  | ldgRetire => simp only [exec]; exact execLdgRetire_keeps (hB _) (hB _) (hB _) (hB _) (hB _) (hB _) (hB _) (hB _) (hB _) (hB _) (hB _) (hB _) hM
  | ledgerStepDone => simp only [exec]; exact execLedgerStepDone_keeps (hB _) (hB _) (hB _) (hB _) (hB _) (hB _) (hB _) (hB _) (hB _) (hB _) (hB _) hM
  | ldgFwWrite => simp only [exec]; exact execLdgFwWrite_keeps (hB _) (hB _) (hB _) (hB _) (hB _) (hB _) (hB _) (hB _) (hB _) (hB _) (hB _) (hB _) hM
  | ldgFwSeal => simp only [exec]; exact execLdgFwSeal_keeps (hB _) (hB _) (hB _) (hB _) (hB _) (hB _) (hB _) (hB _) (hB _) (hB _) (hB _) (hB _) hM
  | ldgFwActivate => simp only [exec]; exact execLdgFwActivate_keeps (hB _) (hB _) (hB _) (hB _) (hB _) hM
  | ldgUserWrite => simp only [exec]; exact execLdgUserWrite_keeps (hB _) (hB _) (hB _) (hB _) (hB _) (hB _) (hB _) (hB _) (hB _) (hB _) (hB _) (hB _) hM
  | otpProgram => simp only [exec]; exact execOtpProgram_keeps (hB _) (hB _) (hB _) hM
  | otpDone => simp only [exec]; exact execOtpDone_keeps (hB _) (hB _) (hB _) (hB _) (hB _) (hB _) (hB _) (hB _) (hB _) (hB _) (hB _) (hB _) hM
  | lifecycleTransition => simp only [exec]; exact execLifecycleTransition_keeps (hB _) (hB _) (hB _) hM
  | taskRegister => simp only [exec]; exact execTaskRegister_keeps (hB _) (hB _) (hB _) hM
  | token => simp only [exec]; exact execToken_keeps (hB _) (hB _) (hB _) (hB _) (hB _) (hB _) (hB _) (hB _) (hB _) (hB _) (hB _) (hB _) (hB _) (hB _) (hB _) hM
  | windowOpen => simp only [exec]; exact execWindowOpen_keeps (hB _)
  | periodEnd => simp only [exec]; exact execPeriodEnd_keeps (hB _) (hB _) (hB _) (hB _) (hB _) (hB _) (hB _) (hB _) (hB _) (hB _) (hB _) (hB _) (hB _) (hB _) (hB _) hM
  | wdgWarn => simp only [exec]; exact execWdgWarn_keeps (hB _) (hB _) (hB _) hM
  | wdgCtlWrite => simp only [exec]; exact execWdgCtlWrite_keeps (hB _) (hB _) (hB _) hM
  | checkTransmit => simp only [exec]; exact execCheckTransmit_keeps
  | frameHeaderReceive => simp only [exec]; exact execFrameHeaderReceive_keeps (hB _) (hB _) (hB _) hM
  | frameCrcFail => simp only [exec]; exact execFrameCrcFail_keeps (hB _) (hB _) (hB _) (hB _) (hB _) (hB _) (hB _) (hB _) (hB _) (hB _) (hB _) hM
  | checkReceive => simp only [exec]; exact execCheckReceive_keeps (hB _) (hB _) (hB _) (hB _) (hB _) (hB _) (hB _) (hB _) (hB _) (hB _) (hB _) hM
  | portAligned => simp only [exec]; exact execPortAligned_keeps (hB _)
  | alignLost => simp only [exec]; exact execAlignLost_keeps (hB _)
  | portUp => simp only [exec]; exact execPortUp_keeps (hB _) (hB _) (hB _) (hB _) (hB _) hM
  | checkTimeout => simp only [exec]; exact execCheckTimeout_keeps (hB _) (hB _) (hB _) (hB _) (hB _) (hB _) (hB _) (hB _) (hB _) (hB _) (hB _) hM
  | losAssert => simp only [exec]; exact execLosAssert_keeps (hB _) (hB _) (hB _) (hB _) (hB _) (hB _) (hB _) (hB _) (hB _) (hB _) (hB _) hM
  | lnkCfgWrite => simp only [exec]; exact execLnkCfgWrite_keeps (hB _) (hB _) (hB _) (hB _) (hB _) hM
  | rtBWrite => simp only [exec]; exact execRtBWrite_keeps (hB _) (hB _) hM
  | rtAWrite => simp only [exec]; exact execRtAWrite_keeps (hB _) (hB _) (hB _) hM
  | lineSurvey => simp only [exec]; exact execLineSurvey_keeps (hB _) (hB _) (hB _) (hB _) (hB _) (hB _) (hB _) hM
  | surveyReceive => simp only [exec]; exact execSurveyReceive_keeps
  | replyReceive => simp only [exec]; exact execReplyReceive_keeps (hB _) (hB _) (hB _) (hB _) hM
  | assignReceive => simp only [exec]; exact execAssignReceive_keeps (hB _) (hB _) (hB _) (hB _) hM
  | routeReceive => simp only [exec]; exact execRouteReceive_keeps (hB _) (hB _) (hB _) hM
  | tripSend => simp only [exec]; exact execTripSend_keeps (hB _) (hB _) (hB _) hM
  | tripReceive => simp only [exec]; exact execTripReceive_keeps (hB _) (hB _) (hB _) (hB _) (hB _) (hB _) (hB _) (hB _) (hB _) (hB _) (hB _) hM
  | flwOpen => simp only [exec]; exact execFlwOpen_keeps (hB _) (hB _) (hB _) (hB _) (hB _) (hB _) hM
  | flwClose => simp only [exec]; exact execFlwClose_keeps (hB _) (hB _) (hB _) (hB _) (hB _) (hB _) hM
  | flowSend => simp only [exec]; exact execFlowSend_keeps (hB _) (hB _) (hB _) (hB _) (hB _) (hB _) (hB _) (hB _) (hB _) (hB _) (hB _) (hB _) hM
  | dataReceive => simp only [exec]; exact execDataReceive_keeps hB hM
  | ackReceive => simp only [exec]; exact execAckReceive_keeps hB hM
  | retransmitTimeout => simp only [exec]; exact execRetransmitTimeout_keeps (hB _) (hB _) (hB _) (hB _) (hB _) (hB _) (hB _) (hB _) (hB _) (hB _) (hB _) (hB _) hM
  | rxreadWrite => simp only [exec]; exact execRxreadWrite_keeps (hB _) (hB _) (hB _) hM
  | remoteReceive => simp only [exec]; exact execRemoteReceive_keeps hB hM
  | syncReceive => simp only [exec]; exact execSyncReceive_keeps (hB _) (hB _) (hB _) hM
  | reqReceive => simp only [exec]; exact execReqReceive_keeps
  | respReceive => simp only [exec]; exact execRespReceive_keeps (hB _)
  | timeSet => simp only [exec]; exact execTimeSet_keeps (hB _) (hB _) (hB _) hM
  | timNowLoRead => simp only [exec]; exact execTimNowLoRead_keeps hB hM
  | summitMark => simp only [exec]; exact execSummitMark_keeps (hB _) (hB _) (hB _) (hB _) (hB _) (hB _) hM
  | markReceive => simp only [exec]; exact execMarkReceive_keeps (hB _) (hB _) (hB _) hM
  | markLatch => simp only [exec]; exact execMarkLatch_keeps (hB _) (hB _) (hB _) hM
  | timMarkdone => simp only [exec]; exact execTimMarkdone_keeps (hB _) (hB _) (hB _) (hB _) hM
  | twbWriteTransaction => simp only [exec]; exact execTwbWriteTransaction_keeps hB hM
  | twbReadTransaction => simp only [exec]; exact execTwbReadTransaction_keeps hB hM
  | twbTimeout => simp only [exec]; exact execTwbTimeout_keeps hB hM
  | cxgo => simp only [exec]; exact execCxgo_keeps (hB _) (hB _) (hB _) (hB _) (hB _) (hB _) (hB _) (hB _) (hB _) (hB _) (hB _) (hB _) hM
  | cxdone => simp only [exec]; exact execCxdone_keeps (hB _) (hB _) (hB _) (hB _) (hB _) (hB _) (hB _) (hB _) (hB _) (hB _) (hB _) (hB _) (hB _) hM
  | rd => simp only [exec]; exact execRd_keeps hB hM
  | wr => simp only [exec]; exact execWr_keeps hB hM
  | rails => simp only [exec]; exact execRails_keeps (hB _) (hB _) (hB _) hM
  | ev => simp only [exec]; exact execEv_keeps hB hM
  | log => simp only [exec]; exact execLog_keeps hB hM
  | dump => simp only [exec]; exact execDump_keeps hB hM
  | cm => simp only [exec]; exact execCm_keeps hB hM
  | qy => simp only [exec]; exact execQy_keeps hB hM
  | ul => simp only [exec]; exact execUl_keeps (hB _) (hB _) (hB _) hM
  | baud => simp only [exec]; exact execBaud_keeps (hB _) (hB _) (hB _) hM
  | monBadLine => simp only [exec]; exact execMonBadLine_keeps (hB _) (hB _) (hB _) hM
  | monCfgWrite => simp only [exec]; exact execMonCfgWrite_keeps (hB _) (hB _) (hB _) hM
  | legacyWrite => simp only [exec]; exact execLegacyWrite_keeps (hB _) (hB _) (hB _) hM
  | takeRelease => simp only [exec]; exact execTakeRelease_keeps (hB _) (hB _) (hB _) hM
  | groupCapture => simp only [exec]; exact execGroupCapture_keeps (hB _) (hB _) (hB _) hM
  | xngStuck => simp only [exec]; exact execXngStuck_keeps (hB _) (hB _) (hB _) (hB _) (hB _) (hB _) (hB _) (hB _) (hB _) (hB _) (hB _) (hB _) hM
  | crossingTimeout => simp only [exec]; exact execCrossingTimeout_keeps (hB _) (hB _) (hB _) (hB _) (hB _) (hB _) (hB _) (hB _) (hB _) (hB _) (hB _) (hB _) hM
  | sleepRequest => simp only [exec]; exact execSleepRequest_keeps (hB _) (hB _) (hB _) hM
  | deepRequest => simp only [exec]; exact execDeepRequest_keeps (hB _) (hB _) (hB _) hM
  | deepDrop => simp only [exec]; exact execDeepDrop_keeps (hB _) (hB _) (hB _) hM
  | wake => simp only [exec]; exact execWake_keeps hB hM
  | pwrTimerExpiry => simp only [exec]; exact execPwrTimerExpiry_keeps hB hM
  | startUp => simp only [exec]; exact execStartUp_keeps hB hM
  | coreBout => simp only [exec]; exact execCoreBout_keeps hB hM
  | domainBrownout => simp only [exec]; exact execDomainBrownout_keeps hB hM
  | faultCauseGone => simp only [exec]; exact execFaultCauseGone_keeps (hB _)
  | bootLoad => simp only [exec]; exact execBootLoad_keeps hB hM
  | safeReloadResume => simp only [exec]; exact execSafeReloadResume_keeps (hB _)
  | holdTimeout => simp only [exec]; exact execHoldTimeout_keeps (hB _)
  | swyAggOc => simp only [exec]; exact execSwyAggOc_keeps (hB _) (hB _) (hB _) (hB _) (hB _) (hB _) (hB _) (hB _) (hB _) (hB _) (hB _) hM
  | minoffEnd => simp only [exec]; exact execMinoffEnd_keeps (hB _) (hB _) (hB _) (hB _) (hB _) (hB _) (hB _) (hB _) (hB _) (hB _) (hB _) (hB _) hM
  | vinQualified => simp only [exec]; exact execVinQualified_keeps (hB _) (hB _) (hB _) (hB _) (hB _) (hB _) (hB _) (hB _) (hB _) (hB _) (hB _) (hB _) hM
  | commonTrigger => simp only [exec]; exact execCommonTrigger_keeps (hB _) (hB _) (hB _) hM
  | handoverTimeout => simp only [exec]; exact execHandoverTimeout_keeps (hB _) (hB _) (hB _) (hB _) (hB _) (hB _) (hB _) (hB _) (hB _) (hB _) (hB _) hM
  | sysSag => simp only [exec]; exact execSysSag_keeps (hB _) (hB _) (hB _) (hB _) (hB _) (hB _) (hB _) (hB _) (hB _) (hB _) (hB _) hM
  | sourceReturn => simp only [exec]; exact execSourceReturn_keeps (hB _) (hB _) (hB _)
  | pathRetrej => simp only [exec]; exact execPathRetrej_keeps (hB _) (hB _) (hB _) (hB _) (hB _) hM
  | handbackStart => simp only [exec]; exact execHandbackStart_keeps (hB _) (hB _) (hB _)
  | pathHandback => simp only [exec]; exact execPathHandback_keeps (hB _) (hB _) (hB _) (hB _) (hB _) (hB _) (hB _) hM
  | handbackTimeout => simp only [exec]; exact execHandbackTimeout_keeps (hB _) (hB _) (hB _) (hB _) (hB _) hM
  | batCut => simp only [exec]; exact execBatCut_keeps (hB _) (hB _) (hB _) (hB _) (hB _) (hB _) (hB _) (hB _) (hB _) (hB _) (hB _) (hB _) (hB _) hM
  | depletedEntry => simp only [exec]; exact execDepletedEntry_keeps hB hM
  | shipEntry => simp only [exec]; exact execShipEntry_keeps hB hM
  | shipWakeButton => simp only [exec]; exact execShipWakeButton_keeps (hB _) (hB _) (hB _)
  | sourceWake => simp only [exec]; exact execSourceWake_keeps (hB _)
  | longPress => simp only [exec]; exact execLongPress_keeps hB hM
  | openEnd => simp only [exec]; exact execOpenEnd_keeps (hB _) (hB _) (hB _)
  | prechargeEnd => simp only [exec]; exact execPrechargeEnd_keeps (hB _) (hB _) (hB _) (hB _) (hB _) hM
  | cvEntry => simp only [exec]; exact execCvEntry_keeps (hB _) (hB _) (hB _) (hB _) (hB _) hM
  | chgDone => simp only [exec]; exact execChgDone_keeps (hB _) (hB _) (hB _) (hB _) (hB _) hM
  | recharge => simp only [exec]; exact execRecharge_keeps (hB _) (hB _) (hB _) (hB _) (hB _) hM
  | packTempOut => simp only [exec]; exact execPackTempOut_keeps (hB _) (hB _) (hB _) (hB _) (hB _) hM
  | packTempBack => simp only [exec]; exact execPackTempBack_keeps (hB _) (hB _) (hB _) (hB _) (hB _) hM
  | batAbsent => simp only [exec]; exact execBatAbsent_keeps (hB _) (hB _) (hB _) (hB _) (hB _) hM
  | batPresent => simp only [exec]; exact execBatPresent_keeps (hB _) (hB _) (hB _) (hB _) (hB _) hM
  | chgTimer => simp only [exec]; exact execChgTimer_keeps (hB _) (hB _) (hB _) (hB _) (hB _) (hB _) (hB _) (hB _) (hB _) (hB _) (hB _) (hB _) (hB _) hM
  | chgOv => simp only [exec]; exact execChgOv_keeps (hB _) (hB _) (hB _) (hB _) (hB _) (hB _) (hB _) (hB _) (hB _) (hB _) (hB _) (hB _) (hB _) hM
  | chgWdog => simp only [exec]; exact execChgWdog_keeps (hB _) (hB _) (hB _) (hB _) (hB _) hM
  | gauStale => simp only [exec]; exact execGauStale_keeps (hB _) (hB _) (hB _) hM
  | gaugeHourlyRecord => simp only [exec]; exact execGaugeHourlyRecord_keeps (hB _) (hB _) (hB _) hM
  | rideEpisodeEnd => simp only [exec]; exact execRideEpisodeEnd_keeps (hB _) (hB _) (hB _) (hB _) (hB _) (hB _) (hB _) (hB _) (hB _) (hB _) (hB _) (hB _) (hB _) hM
  | polRideRestore => simp only [exec]; exact execPolRideRestore_keeps (hB _) (hB _) (hB _) (hB _) (hB _) (hB _) (hB _) (hB _) (hB _) (hB _) (hB _) (hB _) (hB _) hM
  | faultNRelease => simp only [exec]; exact execFaultNRelease_keeps
  | testEnFall => simp only [exec]; exact execTestEnFall_keeps (hB _)
  | injectionUnlockExpiry => simp only [exec]; exact execInjectionUnlockExpiry_keeps (hB _)
  | freezeExpiry => simp only [exec]; exact execFreezeExpiry_keeps (hB _) (hB _) hM
  | pageCopyDone => simp only [exec]; exact execPageCopyDone_keeps (hB _) (hB _) (hB _) hM
  | ledgerCommit => simp only [exec]; exact execLedgerCommit_keeps (hB _) (hB _) (hB _) (hB _) hM
  | ledgerWriteFail => simp only [exec]; exact execLedgerWriteFail_keeps (hB _) (hB _) (hB _) (hB _) hM
  | eraseSuspend => simp only [exec]; exact execEraseSuspend_keeps
  | eraseResume => simp only [exec]; exact execEraseResume_keeps
  | loaderRestart => simp only [exec]; exact execLoaderRestart_keeps
  | dumpStart => simp only [exec]; exact execDumpStart_keeps (hB _) (hB _) (hB _) (hB _) (hB _) (hB _) (hB _) (hB _) (hB _) (hB _) (hB _) hM
  | drainTimeout => simp only [exec]; exact execDrainTimeout_keeps (hB _)
  | watchdogReset => simp only [exec]; exact execWatchdogReset_keeps hB hM
  | probeTimeout => simp only [exec]; exact execProbeTimeout_keeps (hB _) (hB _)
  | tripKeyExpiry => simp only [exec]; exact execTripKeyExpiry_keeps
  | eventForward => simp only [exec]; exact execEventForward_keeps (hB _) (hB _) (hB _) (hB _) (hB _) (hB _) (hB _) (hB _) (hB _) (hB _) (hB _) (hB _) hM
  | syncPeriod => simp only [exec]; exact execSyncPeriod_keeps
  | holdover => simp only [exec]; exact execHoldover_keeps (hB _) (hB _) (hB _) hM
  | wakenack => simp only [exec]; exact execWakenack_keeps (hB _) (hB _) (hB _) hM
  | arbitrationLost => simp only [exec]; exact execArbitrationLost_keeps (hB _) (hB _) (hB _) (hB _) hM
  | id => simp only [exec]; exact execId_keeps
  | flt => simp only [exec]; exact execFlt_keeps (hB _) (hB _) (hB _) hM
  | lk => simp only [exec]; exact execLk_keeps (hB _) (hB _) (hB _) hM
  | baudrev => simp only [exec]; exact execBaudrev_keeps (hB _) (hB _) (hB _) hM
  | lockoutEnd => simp only [exec]; exact execLockoutEnd_keeps (hB _)
  | unlockIdleExpiry => simp only [exec]; exact execUnlockIdleExpiry_keeps (hB _)
  | deepHoldTimeout => simp only [exec]; exact execDeepHoldTimeout_keeps (hB _) (hB _) (hB _) hM
  | deepEntry => simp only [exec]; exact execDeepEntry_keeps hB hM
  | aonPowerOn => simp only [exec]; exact execAonPowerOn_keeps hB hM
  | refclkLoss => simp only [exec]; exact execRefclkLoss_keeps (hB _) (hB _) (hB _) (hB _) (hB _) (hB _) (hB _) (hB _) (hB _) (hB _) (hB _) hM
  | refclkReturn => simp only [exec]; exact execRefclkReturn_keeps (hB _)

end Sys2Proof.Machine
end

