-- ==== Sys2Proof/Laws/Shared.lean ====
section
/-!
SUPPORT. What the operations shared by many commands do: words of memory, a bus write that reaches a register, the
setting of a flag, the end of a command.
-/

namespace Sys2Proof.Machine

variable {s : State}

/-! ### Words of memory -/

@[simp] theorem State.byte_putByte (a k : Nat) (b : Byte) (h : s.memOk) :
    (s.putByte a b).byte k = if k = a then b else s.byte k := memGet_memPut s.mem a k b h

theorem State.putByte_memOk (a : Nat) (b : Byte) (h : s.memOk) : (s.putByte a b).memOk := memPut_wf _ _ _ h

theorem State.byte_putWord (a k : Nat) (w : Word) (h : s.memOk) :
    (s.putWord a w).byte k = if k < a ∨ a + 4 ≤ k then s.byte k else byteOf w (k - a) := by
  have h1 := State.putByte_memOk a (byteOf w 0) h
  have h2 := State.putByte_memOk (a + 1) (byteOf w 1) h1
  have h3 := State.putByte_memOk (a + 2) (byteOf w 2) h2
  unfold State.putWord
  rw [State.byte_putByte _ _ _ h3, State.byte_putByte _ _ _ h2, State.byte_putByte _ _ _ h1, State.byte_putByte _ _ _ h]
  by_cases k3 : k = a + 3
  · rw [if_pos k3, if_neg (by omega), k3, Nat.add_sub_cancel_left]
  by_cases k2 : k = a + 2
  · rw [if_neg k3, if_pos k2, if_neg (by omega), k2, Nat.add_sub_cancel_left]
  by_cases k1 : k = a + 1
  · rw [if_neg k3, if_neg k2, if_pos k1, if_neg (by omega), k1, Nat.add_sub_cancel_left]
  by_cases k0 : k = a
  · rw [if_neg k3, if_neg k2, if_neg k1, if_pos k0, if_neg (by omega), k0, Nat.sub_self]
  rw [if_neg k3, if_neg k2, if_neg k1, if_neg k0, if_pos (by omega)]

theorem wordOf_byteOf (w : Word) : wordOf (byteOf w 0) (byteOf w 1) (byteOf w 2) (byteOf w 3) = w := by
  apply BitVec.eq_of_toNat_eq
  have hw := w.isLt
  simp only [wordOf, byteOf, BitVec.toNat_ofNat, Nat.shiftRight_eq_div_pow]
  omega

theorem State.word_putWord (a : Nat) (w : Word) (h : s.memOk) : (s.putWord a w).word a = w := by
  simp only [State.word, State.byte_putWord _ _ _ h]
  rw [if_neg (by omega), if_neg (by omega), if_neg (by omega), if_neg (by omega), Nat.sub_self, Nat.add_sub_cancel_left,
    Nat.add_sub_cancel_left, Nat.add_sub_cancel_left]
  exact wordOf_byteOf w

/-- A whole word stored in SRAM by software or a channel (R291, R294). -/
theorem State.byte_sramWrite (a k : Nat) (w : Word) : (s.sramWrite a w).byte k = (s.putWord a w).byte k := by
  unfold State.sramWrite
  simp only
  split <;> rfl

theorem State.word_sramWrite (a : Nat) (w : Word) (h : s.memOk) : (s.sramWrite a w).word a = w := by
  have := State.word_putWord a w h
  simpa only [State.word, State.byte_sramWrite] using this

/-! ### Writes that reach a register -/

theorem State.takes_accepts {r : Reg} (h : s.takes r = true) : s.accepts = true := by
  simp only [State.takes, Bool.and_eq_true] at h
  exact h.1.1.1

/-- A bus write to the address of a register that takes it runs the register's own rule. -/
theorem State.busStore_reg {i : Iface} {a : Nat} {v : Word} {be : BitVec 4} {r : Reg} (h : s.takes r = true)
    (ha : Reg.ofAddr (wordAddr a) = some r) (hs : sramEnd ≤ wordAddr a) (hi : wordAddr a ≠ 0x4000000C)
    (hg : ∀ g, r ≠ .TTB_G_CTL g) (hl : ∀ k, r ≠ .LPS_CTL k) : s.busStore i a v be = s.storeReg i r v be := by
  unfold State.busStore
  rw [if_neg hi]
  unfold State.storeWord
  rw [if_neg (by simp [State.takes_accepts h]), if_neg (by omega), ha]
  split
  · next g => exact absurd (Option.some.inj (by assumption)) (hg _)
  · next k => exact absurd (Option.some.inj (by assumption)) (hl _)
  · next heq => cases heq; exact State.guardWrite_takes h
  · next heq => cases heq

/-! ### Flags -/

@[simp] theorem bitsOf_zero : bitsOf 0#32 = [] := by decide

@[simp] theorem State.clearFlags_zero (r : Reg) : s.clearFlags r 0#32 = s := by
  simp [State.clearFlags, each]

/-- A flag that is set reads 1, and its register's other bits stay; in a block that no event record and no error log
touches. -/
theorem State.rd_setFlagI (r : Reg) (b info code : Nat) (hm : r.block ≠ .mem) (he : r.block ≠ .evt) :
    (s.setFlagI r b info code).rd r = if s.bit r b then s.rd r else wputBit (s.rd r) b true := by
  unfold State.setFlagI
  split
  · rfl
  · split
    · simp
    · next src _ _ =>
      have k : Keeps (fun x => x = .mem ∨ x = .evt) True (s.putBit r b true) ((s.putBit r b true).condRise src info code (s.evtLive src)) :=
        State.condRise_keeps (Keeps.refl _) (.inl rfl) (.inr rfl) trivial
      rw [k.regs r (by simp [hm, he])]
      simp

theorem State.bit_setFlagI (r : Reg) (b info code : Nat) (hb : b < 32) (hm : r.block ≠ .mem) (he : r.block ≠ .evt) :
    (s.setFlagI r b info code).bit r b = true := by
  unfold State.bit
  rw [State.rd_setFlagI r b info code hm he]
  split
  · assumption
  · exact wbit_wputBit _ _ _ hb

theorem State.bit_setFlag (r : Reg) (b : Nat) (hb : b < 32) (hm : r.block ≠ .mem) (he : r.block ≠ .evt) :
    (s.setFlag r b).bit r b = true := State.bit_setFlagI r b _ _ hb hm he

/-- Setting a flag changes no register but its own outside the blocks MEM and EVT. -/
theorem State.rd_setFlag_other (r q : Reg) (b info code : Nat) (hq : q ≠ r) (hm : q.block ≠ .mem) (he : q.block ≠ .evt) :
    (s.setFlagI r b info code).rd q = s.rd q := by
  unfold State.setFlagI
  split
  · rfl
  · split
    · simp [hq]
    · next src _ _ =>
      have k : Keeps (fun x => x = .mem ∨ x = .evt) True (s.putBit r b true) ((s.putBit r b true).condRise src info code (s.evtLive src)) :=
        State.condRise_keeps (Keeps.refl _) (.inl rfl) (.inr rfl) trivial
      rw [k.regs q (by simp [hm, he])]
      simp [hq]

end Sys2Proof.Machine
end

