-- ==== Sys2Proof/Laws/Steady.lean ====
section
/-!
SUPPORT. Operations that store nothing of their own: memory changes only where a further occurrence is counted into a
record that stands in an event queue already (R267).
-/

namespace Sys2Proof.Machine

/-- From `s` to `t` no record joins a queue, the queues stay where they are, and memory changes only in records queued
in `s`. -/
structure Steady (s t : State) : Prop where
  queued : ∀ i q k, (t.src i).queued = some (q, k) → (s.src i).queued = some (q, k)
  base : ∀ q, t.rd (.EVT_QBASE q) = s.rd (.EVT_QBASE q)
  bytes : s.memOk → t.memOk ∧ ∀ a, s.outsideRecords a → t.byte a = s.byte a

variable {z s : State}

theorem Steady.refl (s : State) : Steady s s := ⟨fun _ _ _ h => h, fun _ => rfl, fun h => ⟨h, fun _ _ => rfl⟩⟩

/-- A change of fields other than registers, memory and the sources of events. -/
theorem steady_mk {pending clock pins rdata ev cm tp sw lp tt sv ga po fl me ld ln fw tm ot wd tb mo xg pw}
    (h : Steady z s) (he : ev.srcs = s.ev.srcs) :
    Steady z (State.mk pending s.regs s.mem clock pins rdata ev cm tp sw lp tt sv ga po fl me ld ln fw tm ot wd tb mo xg pw) :=
  ⟨fun i q k hq => h.queued i q k (by unfold State.src at hq ⊢; exact he ▸ hq), h.base, h.bytes⟩

theorem each_steady {α : Type} {l : List α} {f : α → State → State} (h : Steady z s)
    (hf : ∀ x s, Steady z s → Steady z (f x s)) : Steady z (each l f s) := by
  unfold each
  induction l generalizing s with
  | nil => exact h
  | cons x t ih => exact ih (hf x s h)

theorem foldl_steady {α : Type} {l : List α} {f : State → α → State} (h : Steady z s)
    (hf : ∀ s x, Steady z s → Steady z (f s x)) : Steady z (l.foldl f s) :=
  each_steady h fun x s => hf s x

end Sys2Proof.Machine
end

