-- ==== Sys2Proof/Laws/SteadyBase.lean ====
section
/-! SUPPORT. The operations of registers, memory, events, commands, rails, faults and register accesses store into queued event records alone. -/

namespace Sys2Proof.Machine

variable {z s : State}

theorem State.deliver_steady (h : Steady z x1.2) : Steady z (State.deliver x0 x1) := by
  unfold State.deliver
  try dsimp only
  repeat' first | (with_reducible first | assumption | refine steady_mk ?_ rfl) | (intro _ he; cases he) | (intro he; cases he)

theorem State.wr_steady (h : Steady z s) (hx1 : ∀ q, x1 ≠ .EVT_QBASE q) : Steady z (State.wr s x1 x2) := by
  refine ⟨h.queued, fun q => ?_, h.bytes⟩
  rw [State.rd_wr, if_neg (fun e => hx1 q e.symm)]
  exact h.base q

theorem State.put_steady (h : Steady z s) (hx1 : ∀ q, x1 ≠ .EVT_QBASE q) : Steady z (State.put s x1 x2 x3) := by
  unfold State.put
  try dsimp only
  repeat' first | (with_reducible first | assumption | apply State.wr_steady | split | intro _) | (intro _ he; cases he) | (intro he; cases he)

theorem State.putBit_steady (h : Steady z s) (hx1 : ∀ q, x1 ≠ .EVT_QBASE q) : Steady z (State.putBit s x1 x2 x3) := by
  unfold State.putBit
  try dsimp only
  repeat' first | (with_reducible first | assumption | apply State.wr_steady | split | intro _) | (intro _ he; cases he) | (intro he; cases he)

theorem State.addSat_steady (h : Steady z s) (hx1 : ∀ q, x1 ≠ .EVT_QBASE q) : Steady z (State.addSat s x1 x2 x3) := by
  unfold State.addSat
  try dsimp only
  repeat' first | (with_reducible first | assumption | apply State.put_steady | split | intro _) | (intro _ he; cases he) | (intro he; cases he)

theorem State.stationTick_steady (h : Steady z s) : Steady z (State.stationTick s) := by
  unfold State.stationTick
  try dsimp only
  repeat' first | (with_reducible first | assumption | split | intro _ | refine steady_mk ?_ rfl) | (intro _ he; cases he) | (intro he; cases he)

theorem State.draw_steady (h : Steady z s) : Steady z (State.draw s).2 := by
  unfold State.draw
  try dsimp only
  repeat' first | (with_reducible first | assumption | split | intro _ | refine steady_mk ?_ rfl) | (intro _ he; cases he) | (intro he; cases he)

theorem State.putSrc_steady (h : Steady z s) (hq : x2.queued = (s.src x1).queued) : Steady z (State.putSrc s x1 x2) := by
  refine ⟨fun i q k hk => h.queued i q k ?_, h.base, h.bytes⟩
  unfold State.putSrc State.src at hk
  rw [Tab.get_set] at hk
  split at hk
  · next e => rw [e, ← hq]; exact hk
  · exact hk

theorem State.recordWrite_base (s : State) (a q : Nat) (w : Word) :
    (s.recordWrite a w).rd (.EVT_QBASE q) = s.rd (.EVT_QBASE q) := by
  have k : Keeps (fun b => b = .mem) True s (s.recordWrite a w) := State.recordWrite_keeps (Keeps.refl s) rfl trivial
  exact k.regs _ (by show ¬ (Block.evt = Block.mem); decide)

theorem State.sramWrite_srcs (s : State) (a : Nat) (w : Word) : (s.sramWrite a w).ev = s.ev := by
  unfold State.sramWrite; dsimp only; split <;> rfl

theorem State.recordWrite_ev (s : State) (a : Nat) (w : Word) : (s.recordWrite a w).ev = s.ev := by
  unfold State.recordWrite
  dsimp only
  split
  · rfl
  · split <;> rw [State.sramWrite_srcs]

theorem State.recordWrite_memOk (s : State) (a : Nat) (w : Word) (hs : s.memOk) : (s.recordWrite a w).memOk := by
  have k : Keeps (fun b => b = .mem) True s (s.recordWrite a w) := State.recordWrite_keeps (Keeps.refl s) rfl trivial
  exact k.mem hs

/-- Outside its word a record's write leaves memory alone (R267, R294). -/
theorem State.byte_recordWrite_off (s : State) (a k : Nat) (w : Word) (hs : s.memOk) (ho : k < a ∨ a + 4 ≤ k) :
    (s.recordWrite a w).byte k = s.byte k := by
  unfold State.recordWrite
  dsimp only
  split
  · rfl
  · split
    · rw [State.byte_sramWrite, State.byte_putWord _ _ _ (by exact hs), if_pos ho]; rfl
    · rw [State.byte_sramWrite, State.byte_putWord _ _ _ hs, if_pos ho]

theorem State.bumpRecord_steady (h : Steady z s) (hq : ∃ i, (s.src i).queued = some (x1, x2)) :
    Steady z (State.bumpRecord s x1 x2 x3 x4 x5 x6) := by
  obtain ⟨i, hi⟩ := hq
  have ha : s.recAddr x1 x2 = z.recAddr x1 x2 := by unfold State.recAddr; rw [h.base]
  unfold State.bumpRecord
  dsimp only
  refine ⟨fun j q k hk => h.queued j q k ?_, fun q => by rw [State.recordWrite_base, State.recordWrite_base]; exact h.base q,
    fun hz => ?_⟩
  · unfold State.src at hk ⊢
    rw [State.recordWrite_ev, State.recordWrite_ev] at hk
    exact hk
  · obtain ⟨hs, hb⟩ := h.bytes hz
    refine ⟨State.recordWrite_memOk _ _ _ (State.recordWrite_memOk _ _ _ hs), fun a hout => ?_⟩
    have o := hout i x1 x2 (h.queued i x1 x2 hi)
    rw [← ha] at o
    rw [State.byte_recordWrite_off _ _ _ _ (State.recordWrite_memOk _ _ _ hs) (by omega),
      State.byte_recordWrite_off _ _ _ _ hs (by omega)]
    exact hb a hout

theorem State.occurNow_steady (h : Steady z s) : Steady z (State.occurNow s x1 x2 x3 x4 x5 x6 x7 x8) := by
  unfold State.occurNow
  dsimp only
  split
  · next q k hk => exact State.bumpRecord_steady h ⟨_, hk⟩
  · exact State.putBit_steady (State.putSrc_steady h rfl) (by intro q hq; cases hq)

theorem State.occur_steady (h : Steady z s) : Steady z (State.occur s x1 x2 x3 x4 x5) := by
  unfold State.occur
  try dsimp only
  repeat' first | (with_reducible first | assumption | apply State.putSrc_steady | apply State.occurNow_steady | split | intro _) | (intro _ he; cases he) | (intro he; cases he) | rfl

theorem State.condRise_steady (h : Steady z s) : Steady z (State.condRise s x1 x2 x3 x4) := by
  unfold State.condRise
  try dsimp only
  repeat' first | (with_reducible first | assumption | apply State.putSrc_steady | apply State.occur_steady | split | intro _) | (intro _ he; cases he) | (intro he; cases he) | rfl

theorem State.condFall_steady (h : Steady z s) : Steady z (State.condFall s x1 x2 x3) := by
  unfold State.condFall
  try dsimp only
  repeat' first | (with_reducible first | assumption | apply State.occur_steady | split | intro _) | (intro _ he; cases he) | (intro he; cases he)

theorem State.happen_steady (h : Steady z s) : Steady z (State.happen s x1 x2 x3) := by
  unfold State.happen
  try dsimp only
  repeat' first | (with_reducible first | assumption | apply State.condFall_steady | apply State.condRise_steady | split | intro _) | (intro _ he; cases he) | (intro he; cases he)

theorem State.setFlagI_steady (h : Steady z s) (hx1 : ∀ q, x1 ≠ .EVT_QBASE q) : Steady z (State.setFlagI s x1 x2 x3 x4) := by
  unfold State.setFlagI
  try dsimp only
  repeat' first | (with_reducible first | assumption | apply State.putBit_steady | apply State.condRise_steady | split | intro _) | (intro _ he; cases he) | (intro he; cases he)

theorem State.setFlag_steady (h : Steady z s) (hx1 : ∀ q, x1 ≠ .EVT_QBASE q) : Steady z (State.setFlag s x1 x2) := by
  unfold State.setFlag
  try dsimp only
  repeat' first | (with_reducible first | assumption | apply State.setFlagI_steady | split | intro _) | (intro _ he; cases he) | (intro he; cases he)

theorem State.clearFlag_steady (h : Steady z s) (hx1 : ∀ q, x1 ≠ .EVT_QBASE q) : Steady z (State.clearFlag s x1 x2) := by
  unfold State.clearFlag
  try dsimp only
  repeat' first | (with_reducible first | assumption | apply State.putBit_steady | apply State.condFall_steady | split | intro _) | (intro _ he; cases he) | (intro he; cases he)

theorem State.clearFlags_steady (h : Steady z s) (hx1 : ∀ q, x1 ≠ .EVT_QBASE q) : Steady z (State.clearFlags s x1 x2) := by
  unfold State.clearFlags
  try dsimp only
  repeat' first | (with_reducible first | assumption | apply State.clearFlag_steady | apply each_steady | split | intro _) | (intro _ he; cases he) | (intro he; cases he)

theorem State.clearFlagsBut_steady (h : Steady z s) (hx1 : ∀ q, x1 ≠ .EVT_QBASE q) : Steady z (State.clearFlagsBut s x1 x2 x3) := by
  unfold State.clearFlagsBut
  try dsimp only
  repeat' first | (with_reducible first | assumption | apply State.clearFlags_steady | split | intro _) | (intro _ he; cases he) | (intro he; cases he)

theorem State.message_steady (h : Steady z s) : Steady z (State.message s x1 x2 x3 x4) := by
  unfold State.message
  try dsimp only
  repeat' first | (with_reducible first | assumption | split | intro _ | refine steady_mk ?_ rfl) | (intro _ he; cases he) | (intro he; cases he)

theorem State.gap_steady (h : Steady z s) : Steady z (State.gap s x1 x2 x3 x4) := by
  unfold State.gap
  try dsimp only
  repeat' first | (with_reducible first | assumption | split | intro _ | refine steady_mk ?_ rfl) | (intro _ he; cases he) | (intro he; cases he)

theorem State.logRec_steady (h : Steady z s) : Steady z (State.logRec s x1 x2 x3 x4) := by
  unfold State.logRec
  try dsimp only
  repeat' first | (with_reducible first | assumption | apply State.setFlag_steady | apply State.gap_steady | apply State.addSat_steady | split | intro _ | refine steady_mk ?_ rfl) | (intro _ he; cases he) | (intro he; cases he)

theorem State.putSlot_steady (h : Steady z s) : Steady z (State.putSlot s x1 x2) := by
  unfold State.putSlot
  try dsimp only
  repeat' first | (with_reducible first | assumption | split | intro _ | refine steady_mk ?_ rfl) | (intro _ he; cases he) | (intro he; cases he)

theorem State.complete_steady (h : Steady z s) : Steady z (State.complete s x1 x2 x3) := by
  unfold State.complete
  try dsimp only
  repeat' first | (with_reducible first | assumption | apply State.putSlot_steady | apply State.put_steady | apply State.message_steady | split | intro _ | refine steady_mk ?_ rfl) | (intro _ he; cases he) | (intro he; cases he)

theorem State.recordQueued_steady (h : Steady z s) : Steady z (State.recordQueued s x1) := by
  unfold State.recordQueued
  try dsimp only
  repeat' first | (with_reducible first | assumption | apply State.putSlot_steady | split | intro _) | (intro _ he; cases he) | (intro he; cases he)

theorem State.setPhase_steady (h : Steady z s) : Steady z (State.setPhase s x1 x2) := by
  unfold State.setPhase
  try dsimp only
  repeat' first | (with_reducible first | assumption | apply State.putSlot_steady | split | intro _) | (intro _ he; cases he) | (intro he; cases he)

theorem State.setTpl_steady (h : Steady z s) : Steady z (State.setTpl s x1 x2) := by
  unfold State.setTpl
  try dsimp only
  repeat' first | (with_reducible first | assumption | apply State.put_steady | split | intro _) | (intro _ he; cases he) | (intro he; cases he)

theorem State.reloadAccept_steady (h : Steady z s) : Steady z (State.reloadAccept s x1) := by
  unfold State.reloadAccept
  try dsimp only
  repeat' first | (with_reducible first | assumption | apply State.wr_steady | split | intro _ | refine steady_mk ?_ rfl) | (intro _ he; cases he) | (intro he; cases he)

theorem State.reloadNext_steady (h : Steady z s) : Steady z (State.reloadNext s) := by
  unfold State.reloadNext
  try dsimp only
  repeat' first | (with_reducible first | assumption | apply State.reloadAccept_steady | split | intro _) | (intro _ he; cases he) | (intro he; cases he)

theorem State.loadOver_steady (h : Steady z s) : Steady z (State.loadOver s x1) := by
  unfold State.loadOver
  try dsimp only
  repeat' first | (with_reducible first | assumption | apply State.reloadNext_steady | apply State.setTpl_steady | split | intro _ | refine steady_mk ?_ rfl) | (intro _ he; cases he) | (intro he; cases he)

theorem State.joinSense_steady (h : Steady z s) : Steady z (State.joinSense s x1) := by
  unfold State.joinSense
  try dsimp only
  repeat' first | (with_reducible first | assumption | split | intro _ | refine steady_mk ?_ rfl) | (intro _ he; cases he) | (intro he; cases he)

theorem State.thermal_steady (h : Steady z s) : Steady z (State.thermal s x1 x2 x3).2 := by
  unfold State.thermal
  try dsimp only
  repeat' first | (with_reducible first | assumption | apply State.draw_steady | split | intro _) | (intro _ he; cases he) | (intro he; cases he)

theorem State.putStgX_steady (h : Steady z s) : Steady z (State.putStgX s x1 x2) := by
  unfold State.putStgX
  try dsimp only
  repeat' first | (with_reducible first | assumption | split | intro _ | refine steady_mk ?_ rfl) | (intro _ he; cases he) | (intro he; cases he)

theorem State.showExcluded_steady (h : Steady z s) : Steady z (State.showExcluded s) := by
  unfold State.showExcluded
  try dsimp only
  repeat' first | (with_reducible first | assumption | apply State.put_steady | apply State.setFlag_steady | apply each_steady | split | intro _) | (intro _ he; cases he) | (intro he; cases he)

theorem State.openPoints_steady (h : Steady z s) : Steady z (State.openPoints s x1) := by
  unfold State.openPoints
  try dsimp only
  repeat' first | (with_reducible first | assumption | apply State.put_steady | split | intro _ | refine steady_mk ?_ rfl) | (intro _ he; cases he) | (intro he; cases he)

theorem State.closePoint_steady (h : Steady z s) : Steady z (State.closePoint s x1 x2) := by
  unfold State.closePoint
  try dsimp only
  repeat' first | (with_reducible first | assumption | apply State.put_steady | split | intro _ | refine steady_mk ?_ rfl) | (intro _ he; cases he) | (intro he; cases he)

theorem State.stageRest_steady (h : Steady z s) : Steady z (State.stageRest s x1 x2) := by
  unfold State.stageRest
  try dsimp only
  repeat' first | (with_reducible first | assumption | apply State.put_steady | apply State.putStgX_steady | split | intro _ | refine steady_mk ?_ rfl) | (intro _ he; cases he) | (intro he; cases he)

theorem State.stageOff_steady (h : Steady z s) : Steady z (State.stageOff s x1) := by
  unfold State.stageOff
  try dsimp only
  repeat' first | (with_reducible first | assumption | apply State.put_steady | apply State.openPoints_steady | apply State.stageRest_steady | split | intro _) | (intro _ he; cases he) | (intro he; cases he)

theorem State.stageLatch_steady (h : Steady z s) : Steady z (State.stageLatch s x1) := by
  unfold State.stageLatch
  try dsimp only
  repeat' first | (with_reducible first | assumption | apply State.put_steady | apply State.stageRest_steady | split | intro _) | (intro _ he; cases he) | (intro he; cases he)

theorem State.regangIdle_steady (h : Steady z s) : Steady z (State.regangIdle s) := by
  unfold State.regangIdle
  try dsimp only
  repeat' first | (with_reducible first | assumption | apply State.wr_steady | split | intro _) | (intro _ he; cases he) | (intro he; cases he)

theorem State.regangEnd_steady (h : Steady z s) : Steady z (State.regangEnd s x1 x2 x3) := by
  unfold State.regangEnd
  try dsimp only
  repeat' first | (with_reducible first | assumption | apply State.complete_steady | apply State.regangIdle_steady | split | intro _ | refine steady_mk ?_ rfl) | (intro _ he; cases he) | (intro he; cases he)

theorem State.regangDropStage_steady (h : Steady z s) : Steady z (State.regangDropStage s x1) := by
  unfold State.regangDropStage
  try dsimp only
  repeat' first | (with_reducible first | assumption | apply State.showExcluded_steady | apply State.put_steady | apply State.stageOff_steady | split | intro _) | (intro _ he; cases he) | (intro he; cases he)

theorem State.regangOff_steady (h : Steady z s) : Steady z (State.regangOff s x1 x2) := by
  unfold State.regangOff
  try dsimp only
  repeat' first | (with_reducible first | assumption | apply State.regangEnd_steady | apply State.regangDropStage_steady | split | intro _ | refine steady_mk ?_ rfl) | (intro _ he; cases he) | (intro he; cases he)

theorem State.regangDown_steady (h : Steady z s) : Steady z (State.regangDown s x1) := by
  unfold State.regangDown
  try dsimp only
  repeat' first | (with_reducible first | assumption | apply State.regangEnd_steady | apply State.regangDropStage_steady | split | intro _) | (intro _ he; cases he) | (intro he; cases he)

theorem State.regangLatch_steady (h : Steady z s) : Steady z (State.regangLatch s x1) := by
  unfold State.regangLatch
  try dsimp only
  repeat' first | (with_reducible first | assumption | apply State.regangEnd_steady | apply State.showExcluded_steady | apply State.stageLatch_steady | apply State.put_steady | split | intro _) | (intro _ he; cases he) | (intro he; cases he)

theorem State.putLoopX_steady (h : Steady z s) : Steady z (State.putLoopX s x1 x2) := by
  unfold State.putLoopX
  try dsimp only
  repeat' first | (with_reducible first | assumption | split | intro _ | refine steady_mk ?_ rfl) | (intro _ he; cases he) | (intro he; cases he)

theorem State.clearSections_steady (h : Steady z s) : Steady z (State.clearSections s x1) := by
  unfold State.clearSections
  try dsimp only
  repeat' first | (with_reducible first | assumption | split | intro _ | refine steady_mk ?_ rfl) | (intro _ he; cases he) | (intro he; cases he)

theorem State.putDest_steady (h : Steady z s) : Steady z (State.putDest s x1 x2) := by
  unfold State.putDest
  try dsimp only
  repeat' first | (with_reducible first | assumption | split | intro _ | refine steady_mk ?_ rfl) | (intro _ he; cases he) | (intro he; cases he)

theorem State.zeroLoops_steady (h : Steady z s) : Steady z (State.zeroLoops s x1) := by
  unfold State.zeroLoops
  try dsimp only
  repeat' first | (with_reducible first | assumption | apply State.putDest_steady | apply State.clearSections_steady | apply State.putLoopX_steady | apply each_steady | split | intro _) | (intro _ he; cases he) | (intro he; cases he)

theorem State.unsettle_steady (h : Steady z s) : Steady z (State.unsettle s x1) := by
  unfold State.unsettle
  try dsimp only
  repeat' first | (with_reducible first | assumption | apply State.putLoopX_steady | apply State.put_steady | apply each_steady | split | intro _) | (intro _ he; cases he) | (intro he; cases he)

theorem State.railFailure_steady (h : Steady z s) : Steady z (State.railFailure s x1 x2) := by
  unfold State.railFailure
  try dsimp only
  repeat' first | (with_reducible first | assumption | apply State.addSat_steady | apply State.logRec_steady | apply State.wr_steady | split | intro _) | (intro _ he; cases he) | (intro he; cases he)

theorem State.resetLow_steady (h : Steady z s) : Steady z (State.resetLow s x1) := by
  unfold State.resetLow
  try dsimp only
  repeat' first | (with_reducible first | assumption | apply State.putBit_steady | split | intro _) | (intro _ he; cases he) | (intro he; cases he)

theorem State.pgLow_steady (h : Steady z s) : Steady z (State.pgLow s x1) := by
  unfold State.pgLow
  try dsimp only
  repeat' first | (with_reducible first | assumption | apply State.condFall_steady | apply State.putBit_steady | apply State.resetLow_steady | apply each_steady | split | intro _) | (intro _ he; cases he) | (intro he; cases he)

theorem State.dropTests_steady (h : Steady z s) : Steady z (State.dropTests s x1) := by
  unfold State.dropTests
  try dsimp only
  repeat' first | (with_reducible first | assumption | apply State.stageOff_steady | apply each_steady | split | intro _) | (intro _ he; cases he) | (intro he; cases he)

theorem State.leaveOn_steady (h : Steady z s) : Steady z (State.leaveOn s x1) := by
  unfold State.leaveOn
  try dsimp only
  repeat' first | (with_reducible first | assumption | apply State.dropTests_steady | apply State.pgLow_steady | apply State.put_steady | split | intro _ | refine steady_mk ?_ rfl) | (intro _ he; cases he) | (intro he; cases he)

theorem State.setRail_steady (h : Steady z s) : Steady z (State.setRail s x1 x2) := by
  unfold State.setRail
  try dsimp only
  repeat' first | (with_reducible first | assumption | apply State.put_steady | split | intro _) | (intro _ he; cases he) | (intro he; cases he)

theorem State.stopRamp_steady (h : Steady z s) : Steady z (State.stopRamp s x1) := by
  unfold State.stopRamp
  try dsimp only
  repeat' first | (with_reducible first | assumption | split | intro _ | refine steady_mk ?_ rfl) | (intro _ he; cases he) | (intro he; cases he)

theorem State.startRamp_steady (h : Steady z s) : Steady z (State.startRamp s x1 x2 x3 x4) := by
  unfold State.startRamp
  try dsimp only
  repeat' first | (with_reducible first | assumption | apply State.unsettle_steady | split | intro _ | refine steady_mk ?_ rfl) | (intro _ he; cases he) | (intro he; cases he)

theorem State.boutCheck_steady (h : Steady z s) : Steady z (State.boutCheck s) := by
  unfold State.boutCheck
  try dsimp only
  repeat' first | (with_reducible first | assumption | apply State.putBit_steady | apply State.happen_steady | split | intro _ | refine steady_mk ?_ rfl) | (intro _ he; cases he) | (intro he; cases he)

theorem State.railToOff_steady (h : Steady z s) : Steady z (State.railToOff s x1) := by
  unfold State.railToOff
  try dsimp only
  repeat' first | (with_reducible first | assumption | apply State.stopRamp_steady | apply State.leaveOn_steady | apply State.put_steady | apply State.setRail_steady | apply State.stageOff_steady | apply State.zeroLoops_steady | apply State.boutCheck_steady | apply each_steady | split | intro _) | (intro _ he; cases he) | (intro he; cases he)

theorem State.rampDown_steady (h : Steady z s) : Steady z (State.rampDown s x1) := by
  unfold State.rampDown
  try dsimp only
  repeat' first | (with_reducible first | assumption | apply State.regangOff_steady | apply State.startRamp_steady | apply State.setRail_steady | apply State.leaveOn_steady | split | intro _) | (intro _ he; cases he) | (intro he; cases he)

theorem State.railOff_steady (h : Steady z s) : Steady z (State.railOff s x1 x2) := by
  unfold State.railOff
  try dsimp only
  repeat' first | (with_reducible first | assumption | apply State.put_steady | apply State.railToOff_steady | apply State.regangOff_steady | apply State.setFlag_steady | apply State.rampDown_steady | apply State.setRail_steady | apply State.leaveOn_steady | split | intro _) | (intro _ he; cases he) | (intro he; cases he)

theorem State.latchRail_steady (h : Steady z s) : Steady z (State.latchRail s x1 x2) := by
  unfold State.latchRail
  try dsimp only
  repeat' first | (with_reducible first | assumption | apply State.regangLatch_steady | apply State.stageLatch_steady | apply State.stopRamp_steady | apply State.leaveOn_steady | apply State.put_steady | apply State.setRail_steady | apply State.setFlag_steady | apply State.zeroLoops_steady | apply State.railFailure_steady | apply State.boutCheck_steady | apply each_steady | split | intro _ | refine steady_mk ?_ rfl) | (intro _ he; cases he) | (intro he; cases he)

theorem State.putGrpX_steady (h : Steady z s) : Steady z (State.putGrpX s x1 x2) := by
  unfold State.putGrpX
  try dsimp only
  repeat' first | (with_reducible first | assumption | split | intro _ | refine steady_mk ?_ rfl) | (intro _ he; cases he) | (intro he; cases he)

theorem State.classBCheck_steady (h : Steady z s) : Steady z (State.classBCheck s x1) := by
  unfold State.classBCheck
  try dsimp only
  repeat' first | (with_reducible first | assumption | apply State.put_steady | split | intro _) | (intro _ he; cases he) | (intro he; cases he)

theorem State.setGroup_steady (h : Steady z s) : Steady z (State.setGroup s x1 x2) := by
  unfold State.setGroup
  try dsimp only
  repeat' first | (with_reducible first | assumption | apply State.put_steady | apply State.condFall_steady | apply State.condRise_steady | split | intro _) | (intro _ he; cases he) | (intro he; cases he)

theorem State.groupToOff_steady (h : Steady z s) : Steady z (State.groupToOff s x1) := by
  unfold State.groupToOff
  try dsimp only
  repeat' first | (with_reducible first | assumption | apply State.setGroup_steady | apply State.put_steady | apply State.classBCheck_steady | apply State.putGrpX_steady | split | intro _) | (intro _ he; cases he) | (intro he; cases he)

theorem State.stepReverse_steady (h : Steady z s) : Steady z (State.stepReverse s x1 x2 x3) := by
  unfold State.stepReverse
  try dsimp only
  repeat' first | (with_reducible first | assumption | apply State.putGrpX_steady | apply State.put_steady | apply State.railOff_steady | apply State.putBit_steady | apply State.resetLow_steady | apply State.message_steady | split | intro _) | (intro _ he; cases he) | (intro he; cases he)

theorem State.groupOff_steady (h : Steady z s) : Steady z (State.groupOff s x1 x2) := by
  unfold State.groupOff
  try dsimp only
  repeat' first | (with_reducible first | assumption | apply State.groupToOff_steady | apply State.stepReverse_steady | apply State.setGroup_steady | apply State.setFlag_steady | split | intro _) | (intro _ he; cases he) | (intro he; cases he)

theorem State.groupStartFail_steady (h : Steady z s) : Steady z (State.groupStartFail s x1) := by
  unfold State.groupStartFail
  try dsimp only
  repeat' first | (with_reducible first | assumption | apply State.setFlag_steady | apply State.putGrpX_steady | apply State.put_steady | apply State.groupOff_steady | split | intro _) | (intro _ he; cases he) | (intro he; cases he)

theorem State.groupLatched_steady (h : Steady z s) : Steady z (State.groupLatched s x1) := by
  unfold State.groupLatched
  try dsimp only
  repeat' first | (with_reducible first | assumption | apply State.groupStartFail_steady | apply State.put_steady | split | intro _) | (intro _ he; cases he) | (intro he; cases he)

theorem State.send_steady (h : Steady z s) : Steady z (State.send s x1 x2) := by
  unfold State.send
  try dsimp only
  repeat' first | (with_reducible first | assumption | split | intro _ | refine steady_mk ?_ rfl) | (intro _ he; cases he) | (intro he; cases he)

theorem State.sendTrip_steady (h : Steady z s) : Steady z (State.sendTrip s x1) := by
  unfold State.sendTrip
  try dsimp only
  repeat' first | (with_reducible first | assumption | apply State.send_steady | apply State.setFlagI_steady | apply State.addSat_steady | apply each_steady | split | intro _ | refine steady_mk ?_ rfl) | (intro _ he; cases he) | (intro he; cases he)

theorem State.reloadAbort_steady (h : Steady z s) : Steady z (State.reloadAbort s x1) := by
  unfold State.reloadAbort
  try dsimp only
  repeat' first | (with_reducible first | assumption | apply State.wr_steady | split | intro _ | refine steady_mk ?_ rfl) | (intro _ he; cases he) | (intro he; cases he)

theorem State.faultPin_steady (h : Steady z s) : Steady z (State.faultPin s) := by
  unfold State.faultPin
  try dsimp only
  repeat' first | (with_reducible first | assumption | split | intro _ | refine steady_mk ?_ rfl) | (intro _ he; cases he) | (intro he; cases he)

theorem State.reactA_steady (h : Steady z s) : Steady z (State.reactA s x1) := by
  unfold State.reactA
  try dsimp only
  repeat' first | (with_reducible first | assumption | apply State.groupLatched_steady | apply State.latchRail_steady | apply each_steady | split | intro _) | (intro _ he; cases he) | (intro he; cases he)

theorem State.groupOffLater_steady (h : Steady z s) : Steady z (State.groupOffLater s x1 x2) := by
  unfold State.groupOffLater
  try dsimp only
  repeat' first | (with_reducible first | assumption | apply State.groupOff_steady | split | intro _ | refine steady_mk ?_ rfl) | (intro _ he; cases he) | (intro he; cases he)

theorem State.railOffLater_steady (h : Steady z s) : Steady z (State.railOffLater s x1 x2) := by
  unfold State.railOffLater
  try dsimp only
  repeat' first | (with_reducible first | assumption | apply State.railOff_steady | split | intro _ | refine steady_mk ?_ rfl) | (intro _ he; cases he) | (intro he; cases he)

theorem State.groupOffB_steady (h : Steady z s) : Steady z (State.groupOffB s x1) := by
  unfold State.groupOffB
  try dsimp only
  repeat' first | (with_reducible first | assumption | apply State.put_steady | apply State.groupOffLater_steady | apply each_steady | split | intro _) | (intro _ he; cases he) | (intro he; cases he)

theorem State.railOffB_steady (h : Steady z s) : Steady z (State.railOffB s x1 x2) := by
  unfold State.railOffB
  try dsimp only
  repeat' first | (with_reducible first | assumption | apply State.railOffLater_steady | split | intro _ | refine steady_mk ?_ rfl) | (intro _ he; cases he) | (intro he; cases he)

theorem State.offsWait_steady (h : Steady z s) : Steady z (State.offsWait s x1) := by
  unfold State.offsWait
  try dsimp only
  repeat' first | (with_reducible first | assumption | split | intro _ | refine steady_mk ?_ rfl) | (intro _ he; cases he) | (intro he; cases he)

theorem State.reactB_steady (h : Steady z s) : Steady z (State.reactB s x1) := by
  unfold State.reactB
  try dsimp only
  repeat' first | (with_reducible first | assumption | apply State.regangDown_steady | apply State.offsWait_steady | apply State.railOffB_steady | apply State.groupOffB_steady | apply each_steady | split | intro _) | (intro _ he; cases he) | (intro he; cases he)

theorem State.react_steady (h : Steady z s) : Steady z (State.react s x1 x2) := by
  unfold State.react
  try dsimp only
  repeat' first | (with_reducible first | assumption | apply State.reloadAbort_steady | apply State.reactA_steady | apply State.reactB_steady | split | intro _) | (intro _ he; cases he) | (intro he; cases he)

theorem State.countFault_steady (h : Steady z s) : Steady z (State.countFault s x1) := by
  unfold State.countFault
  try dsimp only
  repeat' first | (with_reducible first | assumption | apply State.addSat_steady | split | intro _) | (intro _ he; cases he) | (intro he; cases he)

theorem State.live_steady (h : Steady z s) : Steady z (State.live s x1 x2) := by
  unfold State.live
  try dsimp only
  repeat' first | (with_reducible first | assumption | apply State.putBit_steady | split | intro _) | (intro _ he; cases he) | (intro he; cases he)

theorem State.captureFirst_steady (h : Steady z s) : Steady z (State.captureFirst s x1 x2 x3) := by
  unfold State.captureFirst
  try dsimp only
  repeat' first | (with_reducible first | assumption | apply State.wr_steady | split | intro _) | (intro _ he; cases he) | (intro he; cases he)

theorem State.logFault_steady (h : Steady z s) : Steady z (State.logFault s x1 x2 x3 x4) := by
  unfold State.logFault
  try dsimp only
  repeat' first | (with_reducible first | assumption | apply State.logRec_steady | split | intro _) | (intro _ he; cases he) | (intro he; cases he)

theorem State.requestDump_steady (h : Steady z s) : Steady z (State.requestDump s x1 x2) := by
  unfold State.requestDump
  try dsimp only
  repeat' first | (with_reducible first | assumption | split | intro _ | refine steady_mk ?_ rfl) | (intro _ he; cases he) | (intro he; cases he)

theorem State.faultMessage_steady (h : Steady z s) : Steady z (State.faultMessage s x1 x2 x3 x4) := by
  unfold State.faultMessage
  try dsimp only
  repeat' first | (with_reducible first | assumption | apply State.message_steady | split | intro _) | (intro _ he; cases he) | (intro he; cases he)

theorem State.raiseNew_steady (h : Steady z s) : Steady z (State.raiseNew s x1 x2 x3) := by
  unfold State.raiseNew
  try dsimp only
  repeat' first | (with_reducible first | assumption | apply State.countFault_steady | apply State.put_steady | apply State.putBit_steady | apply State.faultPin_steady | apply State.react_steady | apply State.logFault_steady | apply State.captureFirst_steady | apply State.requestDump_steady | apply State.sendTrip_steady | apply State.faultMessage_steady | split | intro _ | refine steady_mk ?_ rfl) | (intro _ he; cases he) | (intro he; cases he)

theorem State.raise_steady (h : Steady z s) : Steady z (State.raise s x1 x2 x3) := by
  unfold State.raise
  try dsimp only
  repeat' first | (with_reducible first | assumption | apply State.countFault_steady | apply State.raiseNew_steady | split | intro _) | (intro _ he; cases he) | (intro he; cases he)

theorem State.unlatch_steady (h : Steady z s) : Steady z (State.unlatch s) := by
  unfold State.unlatch
  try dsimp only
  repeat' first | (with_reducible first | assumption | apply State.setRail_steady | apply State.stageOff_steady | apply each_steady | split | intro _) | (intro _ he; cases he) | (intro he; cases he)

theorem State.clearFault_steady (h : Steady z s) : Steady z (State.clearFault s x1) := by
  unfold State.clearFault
  try dsimp only
  repeat' first | (with_reducible first | assumption | apply State.putBit_steady | apply State.faultPin_steady | apply State.classBCheck_steady | apply State.unlatch_steady | apply State.faultMessage_steady | apply State.logFault_steady | apply each_steady | split | intro _ | refine steady_mk ?_ rfl) | (intro _ he; cases he) | (intro he; cases he)

theorem State.ovFires_steady (h : Steady z s) : Steady z (State.ovFires s x1) := by
  unfold State.ovFires
  try dsimp only
  repeat' first | (with_reducible first | assumption | apply State.raise_steady | apply State.railFailure_steady | apply State.pgLow_steady | apply State.setFlag_steady | split | intro _) | (intro _ he; cases he) | (intro he; cases he)

theorem State.uvFires_steady (h : Steady z s) : Steady z (State.uvFires s x1) := by
  unfold State.uvFires
  try dsimp only
  repeat' first | (with_reducible first | assumption | apply State.raise_steady | apply State.railFailure_steady | apply State.pgLow_steady | apply State.setFlag_steady | split | intro _) | (intro _ he; cases he) | (intro he; cases he)

theorem State.armOv_steady (h : Steady z s) : Steady z (State.armOv s x1) := by
  unfold State.armOv
  try dsimp only
  repeat' first | (with_reducible first | assumption | apply State.put_steady | apply State.ovFires_steady | split | intro _) | (intro _ he; cases he) | (intro he; cases he)

theorem State.armUv_steady (h : Steady z s) : Steady z (State.armUv s x1) := by
  unfold State.armUv
  try dsimp only
  repeat' first | (with_reducible first | assumption | apply State.put_steady | apply State.uvFires_steady | split | intro _) | (intro _ he; cases he) | (intro he; cases he)

theorem State.deepDrop_steady (h : Steady z s) : Steady z (State.deepDrop s x1) := by
  unfold State.deepDrop
  try dsimp only
  repeat' first | (with_reducible first | assumption | apply State.setFlagI_steady | apply State.put_steady | apply State.putBit_steady | split | intro _) | (intro _ he; cases he) | (intro he; cases he)

theorem State.unshed_steady (h : Steady z s) : Steady z (State.unshed s x1) := by
  unfold State.unshed
  try dsimp only
  repeat' first | (with_reducible first | assumption | apply State.put_steady | apply State.putBit_steady | split | intro _ | refine steady_mk ?_ rfl) | (intro _ he; cases he) | (intro he; cases he)

theorem State.railStart_steady (h : Steady z s) : Steady z (State.railStart s x1) := by
  unfold State.railStart
  try dsimp only
  repeat' first | (with_reducible first | assumption | apply State.armOv_steady | apply State.joinSense_steady | apply State.setRail_steady | split | intro _) | (intro _ he; cases he) | (intro he; cases he)

theorem State.railHold_steady (h : Steady z s) : Steady z (State.railHold s x1) := by
  unfold State.railHold
  try dsimp only
  repeat' first | (with_reducible first | assumption | apply State.setFlag_steady | apply State.put_steady | split | intro _) | (intro _ he; cases he) | (intro he; cases he)

theorem State.rampToVset_steady (h : Steady z s) : Steady z (State.rampToVset s x1) := by
  unfold State.rampToVset
  try dsimp only
  repeat' first | (with_reducible first | assumption | apply State.startRamp_steady | split | intro _) | (intro _ he; cases he) | (intro he; cases he)

theorem State.railOnNow_steady (h : Steady z s) : Steady z (State.railOnNow s x1) := by
  unfold State.railOnNow
  try dsimp only
  repeat' first | (with_reducible first | assumption | apply State.deepDrop_steady | apply State.railStart_steady | apply State.railHold_steady | apply State.setRail_steady | apply State.rampToVset_steady | apply State.setFlag_steady | split | intro _) | (intro _ he; cases he) | (intro he; cases he)

theorem State.railOn_steady (h : Steady z s) : Steady z (State.railOn s x1) := by
  unfold State.railOn
  try dsimp only
  repeat' first | (with_reducible first | assumption | apply State.setFlag_steady | apply State.railOnNow_steady | split | intro _) | (intro _ he; cases he) | (intro he; cases he)

theorem State.railRampUp_steady (h : Steady z s) : Steady z (State.railRampUp s x1) := by
  unfold State.railRampUp
  try dsimp only
  repeat' first | (with_reducible first | assumption | apply State.put_steady | apply State.rampToVset_steady | apply State.setRail_steady | split | intro _) | (intro _ he; cases he) | (intro he; cases he)

theorem State.stageTest_steady (h : Steady z s) : Steady z (State.stageTest s x1) := by
  unfold State.stageTest
  try dsimp only
  repeat' first | (with_reducible first | assumption | apply State.unsettle_steady | apply State.putStgX_steady | apply State.put_steady | split | intro _) | (intro _ he; cases he) | (intro he; cases he)

theorem State.stageBegin_steady (h : Steady z s) : Steady z (State.stageBegin s x1 x2) := by
  unfold State.stageBegin
  try dsimp only
  repeat' first | (with_reducible first | assumption | apply State.stageTest_steady | apply State.unsettle_steady | apply State.putStgX_steady | apply State.closePoint_steady | split | intro _) | (intro _ he; cases he) | (intro he; cases he)

theorem State.startFail_steady (h : Steady z s) : Steady z (State.startFail s x1 x2) := by
  unfold State.startFail
  try dsimp only
  repeat' first | (with_reducible first | assumption | apply State.railFailure_steady | apply State.setFlag_steady | apply State.regangOff_steady | apply State.railToOff_steady | apply State.rampDown_steady | apply State.groupStartFail_steady | apply State.raise_steady | split | intro _) | (intro _ he; cases he) | (intro he; cases he)

theorem State.startGo_steady (h : Steady z s) : Steady z (State.startGo s x1) := by
  unfold State.startGo
  try dsimp only
  repeat' first | (with_reducible first | assumption | apply State.railRampUp_steady | apply State.stageBegin_steady | apply each_steady | split | intro _) | (intro _ he; cases he) | (intro he; cases he)

theorem State.railEnterStart_steady (h : Steady z s) : Steady z (State.railEnterStart s x1) := by
  unfold State.railEnterStart
  try dsimp only
  repeat' first | (with_reducible first | assumption | apply State.setRail_steady | apply State.startFail_steady | apply State.startGo_steady | split | intro _) | (intro _ he; cases he) | (intro he; cases he)

theorem State.gangRuns_steady (h : Steady z s) : Steady z (State.gangRuns s x1) := by
  unfold State.gangRuns
  try dsimp only
  repeat' first | (with_reducible first | assumption | apply State.putStgX_steady | apply State.put_steady | apply State.railRampUp_steady | apply each_steady | split | intro _) | (intro _ he; cases he) | (intro he; cases he)

theorem State.runHeld_steady (h : Steady z s) : Steady z (State.runHeld s x1) := by
  unfold State.runHeld
  try dsimp only
  repeat' first | (with_reducible first | assumption | apply State.railOn_steady | apply State.put_steady | split | intro _) | (intro _ he; cases he) | (intro he; cases he)

theorem State.stepForward_steady (h : Steady z s) : Steady z (State.stepForward s x1 x2) := by
  unfold State.stepForward
  try dsimp only
  repeat' first | (with_reducible first | assumption | apply State.putGrpX_steady | apply State.setGroup_steady | apply State.put_steady | apply State.groupStartFail_steady | apply State.railOn_steady | apply State.putBit_steady | apply State.message_steady | split | intro _) | (intro _ he; cases he) | (intro he; cases he)

theorem State.groupOn_steady (h : Steady z s) : Steady z (State.groupOn s x1) := by
  unfold State.groupOn
  try dsimp only
  repeat' first | (with_reducible first | assumption | apply State.setFlag_steady | apply State.deepDrop_steady | apply State.stepForward_steady | apply State.setGroup_steady | split | intro _) | (intro _ he; cases he) | (intro he; cases he)

theorem State.stepNext_steady (h : Steady z s) : Steady z (State.stepNext s x1) := by
  unfold State.stepNext
  try dsimp only
  repeat' first | (with_reducible first | assumption | apply State.stepForward_steady | apply State.groupToOff_steady | apply State.stepReverse_steady | split | intro _) | (intro _ he; cases he) | (intro he; cases he)

theorem State.boutRestart_steady (h : Steady z s) : Steady z (State.boutRestart s) := by
  unfold State.boutRestart
  try dsimp only
  repeat' first | (with_reducible first | assumption | apply State.groupOn_steady | apply State.logRec_steady | apply State.happen_steady | apply each_steady | split | intro _ | refine steady_mk ?_ rfl) | (intro _ he; cases he) | (intro he; cases he)

theorem State.accessOff_steady (h : Steady z s) : Steady z (State.accessOff s x1) := by
  unfold State.accessOff
  try dsimp only
  repeat' first | (with_reducible first | assumption | apply State.happen_steady | split | intro _) | (intro _ he; cases he) | (intro he; cases he)

theorem State.guardWrite_steady (h : Steady z s) (hx2 : ∀ s, Steady z s → Steady z (x2 s)) : Steady z (State.guardWrite s x1 x2) := by
  unfold State.guardWrite
  try dsimp only
  repeat' first | (with_reducible first | assumption | apply hx2 | apply State.accessOff_steady | apply State.happen_steady | split | intro _) | (intro _ he; cases he) | (intro he; cases he)

theorem State.guardRead_steady (h : Steady z s) (hx2 : ∀ s, Steady z s → Steady z (x2 s).2) : Steady z (State.guardRead s x1 x2).2 := by
  unfold State.guardRead
  try dsimp only
  repeat' first | (with_reducible first | assumption | apply hx2 | apply State.accessOff_steady | split) | (intro _ he; cases he) | (intro he; cases he)

theorem State.guardSent_steady (h : Steady z s) (hx3 : ∀ s, Steady z s → Steady z (x3 s)) : Steady z (State.guardSent s x1 x2 x3) := by
  unfold State.guardSent
  try dsimp only
  repeat' first | (with_reducible first | assumption | apply hx3 | apply State.guardWrite_steady | split | intro _) | (intro _ he; cases he) | (intro he; cases he)

theorem State.writeRw_steady (h : Steady z s) (hx1 : ∀ q, x1 ≠ .EVT_QBASE q) : Steady z (State.writeRw s x1 x2) := by
  unfold State.writeRw
  try dsimp only
  repeat' first | (with_reducible first | assumption | apply State.wr_steady | split | intro _) | (intro _ he; cases he) | (intro he; cases he)

theorem State.plainWrite_steady (h : Steady z s) (hx1 : ∀ q, x1 ≠ .EVT_QBASE q) : Steady z (State.plainWrite s x1 x2) := by
  unfold State.plainWrite
  try dsimp only
  repeat' first | (with_reducible first | assumption | apply State.clearFlags_steady | apply State.writeRw_steady | split | intro _) | (intro _ he; cases he) | (intro he; cases he)

end Sys2Proof.Machine
end

