-- ==== Sys2Proof/Laws/SteadyRails.lean ====
section
/-! SUPPORT. The operations of the timetable, the signal box, the switchyard, the mailbox and the loop engines store into queued event records alone. -/

namespace Sys2Proof.Machine

variable {z s : State}

theorem State.logError_steady (h : Steady z s) : Steady z (State.logError s x1 x2 x3 x4 x5 x6) := by
  unfold State.logError
  try dsimp only
  repeat' first | (with_reducible first | assumption | apply State.wr_steady | apply State.setFlagI_steady | apply State.setFlag_steady | apply State.addSat_steady | split | intro _) | (intro _ he; cases he) | (intro he; cases he)

theorem State.corrected_steady (h : Steady z s) : Steady z (State.corrected s x1 x2 x3 x4) := by
  unfold State.corrected
  try dsimp only
  repeat' first | (with_reducible first | assumption | apply State.addSat_steady | apply State.logError_steady | apply State.setFlagI_steady | split | intro _) | (intro _ he; cases he) | (intro he; cases he)

theorem State.sramUe_steady (h : Steady z s) : Steady z (State.sramUe s x1 x2 x3 x4) := by
  unfold State.sramUe
  try dsimp only
  repeat' first | (with_reducible first | assumption | apply State.raise_steady | apply State.logError_steady | split | intro _) | (intro _ he; cases he) | (intro he; cases he)

theorem State.nvmUe_steady (h : Steady z s) : Steady z (State.nvmUe s x1 x2 x3) := by
  unfold State.nvmUe
  try dsimp only
  repeat' first | (with_reducible first | assumption | apply State.raise_steady | apply State.logError_steady | split | intro _) | (intro _ he; cases he) | (intro he; cases he)

theorem State.eccMeet_steady (h : Steady z s) : Steady z (State.eccMeet s x1 x2) := by
  unfold State.eccMeet
  try dsimp only
  repeat' first | (with_reducible first | assumption | apply State.corrected_steady | split | intro _ | refine steady_mk ?_ rfl) | (intro _ he; cases he) | (intro he; cases he)

theorem State.eccRange_steady (h : Steady z s) : Steady z (State.eccRange s x1 x2 x3) := by
  unfold State.eccRange
  try dsimp only
  repeat' first | (with_reducible first | assumption | apply State.eccMeet_steady | apply each_steady | split | intro _) | (intro _ he; cases he) | (intro he; cases he)

theorem State.ledMeet_steady (h : Steady z s) : Steady z (State.ledMeet s x1 x2 x3) := by
  unfold State.ledMeet
  try dsimp only
  repeat' first | (with_reducible first | assumption | apply State.eccRange_steady | apply State.nvmUe_steady | apply each_steady | split | intro _) | (intro _ he; cases he) | (intro he; cases he)

theorem State.memRead_steady (h : Steady z s) : Steady z (State.memRead s x1 x2 x3).2 := by
  unfold State.memRead
  try dsimp only
  repeat' first | (with_reducible first | assumption | apply State.eccMeet_steady | apply State.sramUe_steady | apply State.nvmUe_steady | split | intro _) | (intro _ he; cases he) | (intro he; cases he)

theorem State.metNow_steady (h : Steady z s) : Steady z (State.metNow s) := by
  unfold State.metNow
  try dsimp only
  repeat' first | (with_reducible first | assumption | apply State.sramUe_steady | apply State.corrected_steady | apply State.put_steady | apply each_steady | split | intro _ | refine steady_mk ?_ rfl) | (intro _ he; cases he) | (intro he; cases he)

theorem State.dmaHalt_steady (h : Steady z s) : Steady z (State.dmaHalt s x1 x2) := by
  unfold State.dmaHalt
  try dsimp only
  repeat' first | (with_reducible first | assumption | apply State.gap_steady | apply State.setFlagI_steady | apply State.putBit_steady | split | intro _) | (intro _ he; cases he) | (intro he; cases he)

theorem State.dmaRestart_steady (h : Steady z s) : Steady z (State.dmaRestart s x1) := by
  unfold State.dmaRestart
  try dsimp only
  repeat' first | (with_reducible first | assumption | apply State.putBit_steady | split | intro _) | (intro _ he; cases he) | (intro he; cases he)

theorem State.scrubWord_steady (h : Steady z s) : Steady z (State.scrubWord s x1) := by
  unfold State.scrubWord
  try dsimp only
  repeat' first | (with_reducible first | assumption | apply State.eccMeet_steady | apply State.sramUe_steady | split | intro _) | (intro _ he; cases he) | (intro he; cases he)

theorem State.wrPretire_steady (h : Steady z s) : Steady z (State.wrPretire s x1) := by
  unfold State.wrPretire
  try dsimp only
  repeat' first | (with_reducible first | assumption | apply State.setFlagI_steady | apply State.put_steady | split | intro _ | refine steady_mk ?_ rfl) | (intro _ he; cases he) | (intro he; cases he)

theorem execMemPretireWrite_steady : ∃ t, execMemPretireWrite x0 x1 x2 s = .next t ∧ Steady s t := by
  refine ⟨_, rfl, ?_⟩
  have h : Steady s s := Steady.refl s
  try dsimp only
  repeat' first | (with_reducible first | assumption | apply State.guardSent_steady | apply State.wrPretire_steady | split | intro _) | (intro _ he; cases he) | (intro he; cases he)

theorem State.copyPage_steady (h : Steady z s) : Steady z (State.copyPage s x1) := by
  unfold State.copyPage
  try dsimp only
  repeat' first | (with_reducible first | assumption | apply State.eccRange_steady | apply State.logError_steady | apply each_steady | split | intro _) | (intro _ he; cases he) | (intro he; cases he)

theorem execPageCopyDone_steady : ∃ t, execPageCopyDone s = .next t ∧ Steady s t := by
  refine ⟨_, rfl, ?_⟩
  have h : Steady s s := Steady.refl s
  try dsimp only
  repeat' first | (with_reducible first | assumption | apply State.copyPage_steady | apply State.put_steady | apply State.wr_steady | apply State.logRec_steady | apply State.setFlagI_steady | split | intro _ | refine steady_mk ?_ rfl) | (intro _ he; cases he) | (intro he; cases he)

theorem State.wrFltCfg_steady (h : Steady z s) : Steady z (State.wrFltCfg s x1 x2) := by
  unfold State.wrFltCfg
  try dsimp only
  repeat' first | (with_reducible first | assumption | apply State.writeRw_steady | apply State.setFlag_steady | apply State.faultPin_steady | split | intro _) | (intro _ he; cases he) | (intro he; cases he)

theorem State.wrFltTgt_steady (h : Steady z s) : Steady z (State.wrFltTgt s x1 x2) := by
  unfold State.wrFltTgt
  try dsimp only
  repeat' first | (with_reducible first | assumption | apply State.writeRw_steady | apply State.setFlag_steady | split | intro _) | (intro _ he; cases he) | (intro he; cases he)

theorem State.wrFltStat_steady (h : Steady z s) : Steady z (State.wrFltStat s x1 x2) := by
  unfold State.wrFltStat
  try dsimp only
  repeat' first | (with_reducible first | assumption | apply State.clearFault_steady | apply each_steady | split | intro _) | (intro _ he; cases he) | (intro he; cases he)

theorem State.wrFltCtl_steady (h : Steady z s) : Steady z (State.wrFltCtl s x1) := by
  unfold State.wrFltCtl
  try dsimp only
  repeat' first | (with_reducible first | assumption | apply State.wr_steady | apply each_steady | split | intro _) | (intro _ he; cases he) | (intro he; cases he)

theorem State.wrFltForce_steady (h : Steady z s) : Steady z (State.wrFltForce s x1) := by
  unfold State.wrFltForce
  try dsimp only
  repeat' first | (with_reducible first | assumption | apply State.writeRw_steady | apply State.setFlag_steady | split | intro _) | (intro _ he; cases he) | (intro he; cases he)

theorem State.wrFltHost_steady (h : Steady z s) : Steady z (State.wrFltHost s x1) := by
  unfold State.wrFltHost
  try dsimp only
  repeat' first | (with_reducible first | assumption | apply State.raise_steady | apply each_steady | split | intro _) | (intro _ he; cases he) | (intro he; cases he)

theorem State.injectGo_steady (h : Steady z s) : Steady z (State.injectGo s) := by
  unfold State.injectGo
  try dsimp only
  repeat' first | (with_reducible first | assumption | apply State.putBit_steady | apply State.addSat_steady | apply State.setFlag_steady | apply State.put_steady | split | intro _ | refine steady_mk ?_ rfl) | (intro _ he; cases he) | (intro he; cases he)

theorem State.wrFltInj_steady (h : Steady z s) : Steady z (State.wrFltInj s x1) := by
  unfold State.wrFltInj
  try dsimp only
  repeat' first | (with_reducible first | assumption | apply State.writeRw_steady | apply State.injectGo_steady | apply State.putBit_steady | split | intro _ | refine steady_mk ?_ rfl) | (intro _ he; cases he) | (intro he; cases he)

theorem State.fetchUe_steady (h : Steady z s) : Steady z (State.fetchUe s) := by
  unfold State.fetchUe
  try dsimp only
  repeat' first | (with_reducible first | assumption | apply State.sramUe_steady | apply State.raise_steady | apply foldl_steady | split | intro _) | (intro _ he; cases he) | (intro he; cases he)

theorem execFaultRaise_steady : ∃ t, execFaultRaise x0 x1 s = .next t ∧ Steady s t := by
  refine ⟨_, rfl, ?_⟩
  have h : Steady s s := Steady.refl s
  try dsimp only
  repeat' first | (with_reducible first | assumption | apply State.fetchUe_steady | apply State.raise_steady | apply State.live_steady | split | intro _) | (intro _ he; cases he) | (intro he; cases he)

theorem execFaultCauseGone_steady : ∃ t, execFaultCauseGone x0 s = .next t ∧ Steady s t := by
  refine ⟨_, rfl, ?_⟩
  have h : Steady s s := Steady.refl s
  try dsimp only
  repeat' first | (with_reducible first | assumption | apply State.live_steady | split | intro _) | (intro _ he; cases he) | (intro he; cases he)

theorem execFaultClear_steady : ∃ t, execFaultClear x0 x1 x2 x3 s = .next t ∧ Steady s t := by
  refine ⟨_, rfl, ?_⟩
  have h : Steady s s := Steady.refl s
  try dsimp only
  repeat' first | (with_reducible first | assumption | apply State.guardWrite_steady | apply State.wrFltStat_steady | split | intro _) | (intro _ he; cases he) | (intro he; cases he)

theorem execFaultNRelease_steady : ∃ t, execFaultNRelease s = .next t ∧ Steady s t := by
  refine ⟨_, rfl, ?_⟩
  have h : Steady s s := Steady.refl s
  try dsimp only
  repeat' first | (with_reducible first | assumption | apply State.faultPin_steady | split | intro _ | refine steady_mk ?_ rfl) | (intro _ he; cases he) | (intro he; cases he)

theorem execFltCfgWrite_steady : ∃ t, execFltCfgWrite x0 x1 x2 x3 s = .next t ∧ Steady s t := by
  refine ⟨_, rfl, ?_⟩
  have h : Steady s s := Steady.refl s
  try dsimp only
  repeat' first | (with_reducible first | assumption | apply State.guardWrite_steady | apply State.wrFltCfg_steady | split | intro _) | (intro _ he; cases he) | (intro he; cases he)

theorem execFltTgtWrite_steady : ∃ t, execFltTgtWrite x0 x1 x2 x3 s = .next t ∧ Steady s t := by
  refine ⟨_, rfl, ?_⟩
  have h : Steady s s := Steady.refl s
  try dsimp only
  repeat' first | (with_reducible first | assumption | apply State.guardWrite_steady | apply State.wrFltTgt_steady | split | intro _) | (intro _ he; cases he) | (intro he; cases he)

theorem execCntclr_steady : ∃ t, execCntclr x0 x1 x2 s = .next t ∧ Steady s t := by
  refine ⟨_, rfl, ?_⟩
  have h : Steady s s := Steady.refl s
  try dsimp only
  repeat' first | (with_reducible first | assumption | apply State.guardSent_steady | apply State.wrFltCtl_steady | split | intro _) | (intro _ he; cases he) | (intro he; cases he)

theorem execFltForceWrite_steady : ∃ t, execFltForceWrite x0 x1 x2 s = .next t ∧ Steady s t := by
  refine ⟨_, rfl, ?_⟩
  have h : Steady s s := Steady.refl s
  try dsimp only
  repeat' first | (with_reducible first | assumption | apply State.guardWrite_steady | apply State.wrFltForce_steady | split | intro _) | (intro _ he; cases he) | (intro he; cases he)

theorem execTestEnFall_steady : ∃ t, execTestEnFall s = .next t ∧ Steady s t := by
  refine ⟨_, rfl, ?_⟩
  have h : Steady s s := Steady.refl s
  try dsimp only
  repeat' first | (with_reducible first | assumption | apply State.putBit_steady | split | intro _ | refine steady_mk ?_ rfl) | (intro _ he; cases he) | (intro he; cases he)

theorem execInjectionUnlock_steady : ∃ t, execInjectionUnlock x0 x1 x2 s = .next t ∧ Steady s t := by
  refine ⟨_, rfl, ?_⟩
  have h : Steady s s := Steady.refl s
  try dsimp only
  repeat' first | (with_reducible first | assumption | apply State.guardWrite_steady | apply State.wrFltInj_steady | split | intro _) | (intro _ he; cases he) | (intro he; cases he)

theorem execInjectionUnlockExpiry_steady : ∃ t, execInjectionUnlockExpiry s = .next t ∧ Steady s t := by
  refine ⟨_, rfl, ?_⟩
  have h : Steady s s := Steady.refl s
  try dsimp only
  repeat' first | (with_reducible first | assumption | apply State.putBit_steady | split | intro _) | (intro _ he; cases he) | (intro he; cases he)

theorem execGo_steady : ∃ t, execGo x0 x1 x2 s = .next t ∧ Steady s t := by
  refine ⟨_, rfl, ?_⟩
  have h : Steady s s := Steady.refl s
  try dsimp only
  repeat' first | (with_reducible first | assumption | apply State.guardWrite_steady | apply State.wrFltInj_steady | split | intro _) | (intro _ he; cases he) | (intro he; cases he)

theorem execInjectionResult_steady : ∃ t, execInjectionResult x0 s = .next t ∧ Steady s t := by
  refine ⟨_, rfl, ?_⟩
  have h : Steady s s := Steady.refl s
  try dsimp only
  repeat' first | (with_reducible first | assumption | apply State.put_steady | apply State.raise_steady | split | intro _ | refine steady_mk ?_ rfl) | (intro _ he; cases he) | (intro he; cases he)

theorem execFltHostRaise_steady : ∃ t, execFltHostRaise x0 x1 x2 s = .next t ∧ Steady s t := by
  refine ⟨_, rfl, ?_⟩
  have h : Steady s s := Steady.refl s
  try dsimp only
  repeat' first | (with_reducible first | assumption | apply State.guardSent_steady | apply State.wrFltHost_steady | split | intro _) | (intro _ he; cases he) | (intro he; cases he)

theorem State.putBank_steady (h : Steady z s) : Steady z (State.putBank s x1 x2) := by
  unfold State.putBank
  try dsimp only
  repeat' first | (with_reducible first | assumption | split | intro _ | refine steady_mk ?_ rfl) | (intro _ he; cases he) | (intro he; cases he)

theorem State.refuseIssue_steady (h : Steady z s) : Steady z (State.refuseIssue s x1 x2 x3) := by
  unfold State.refuseIssue
  try dsimp only
  repeat' first | (with_reducible first | assumption | apply State.setFlagI_steady | apply State.putBank_steady | split | intro _) | (intro _ he; cases he) | (intro he; cases he)

theorem State.reloadBegin_steady (h : Steady z s) : Steady z (State.reloadBegin s x1) := by
  unfold State.reloadBegin
  try dsimp only
  repeat' first | (with_reducible first | assumption | apply State.put_steady | split | intro _ | refine steady_mk ?_ rfl) | (intro _ he; cases he) | (intro he; cases he)

theorem State.acceptCmd_steady (h : Steady z s) : Steady z (State.acceptCmd s x1 x2 x3) := by
  unfold State.acceptCmd
  try dsimp only
  repeat' first | (with_reducible first | assumption | apply State.putBank_steady | apply State.putSlot_steady | apply State.reloadAccept_steady | apply State.reloadBegin_steady | split | intro _ | refine steady_mk ?_ rfl) | (intro _ he; cases he) | (intro he; cases he)

theorem State.issueOp_steady (h : Steady z s) : Steady z (State.issueOp s x1 x2) := by
  unfold State.issueOp
  try dsimp only
  repeat' first | (with_reducible first | assumption | apply State.refuseIssue_steady | apply State.acceptCmd_steady | split | intro _) | (intro _ he; cases he) | (intro he; cases he)

theorem State.issue_steady (h : Steady z s) : Steady z (State.issue s x1 x2) := by
  unfold State.issue
  try dsimp only
  repeat' first | (with_reducible first | assumption | apply State.guardWrite_steady | apply State.issueOp_steady | split | intro _) | (intro _ he; cases he) | (intro he; cases he)

theorem State.withRunning_steady (h : Steady z s) (hx2 : ∀ x s, Steady z s → Steady z (x2 x s)) : Steady z (State.withRunning s x1 x2) := by
  unfold State.withRunning
  try dsimp only
  repeat' first | (with_reducible first | assumption | apply hx2 | split | intro _) | (intro _ he; cases he) | (intro he; cases he)

theorem State.nop_steady (h : Steady z s) : Steady z (State.nop s x1 x2) := by
  unfold State.nop
  try dsimp only
  repeat' first | (with_reducible first | assumption | apply State.issue_steady | split | intro _) | (intro _ he; cases he) | (intro he; cases he)

theorem execNopConfig_steady : ∃ t, execNopConfig x0 s = .next t ∧ Steady s t := by
  refine ⟨_, rfl, ?_⟩
  have h : Steady s s := Steady.refl s
  try dsimp only
  repeat' first | (with_reducible first | assumption | apply State.nop_steady | split | intro _) | (intro _ he; cases he) | (intro he; cases he)

theorem execNopLedger_steady : ∃ t, execNopLedger x0 s = .next t ∧ Steady s t := by
  refine ⟨_, rfl, ?_⟩
  have h : Steady s s := Steady.refl s
  try dsimp only
  repeat' first | (with_reducible first | assumption | apply State.nop_steady | split | intro _) | (intro _ he; cases he) | (intro he; cases he)

theorem execNopCalibration_steady : ∃ t, execNopCalibration x0 s = .next t ∧ Steady s t := by
  refine ⟨_, rfl, ?_⟩
  have h : Steady s s := Steady.refl s
  try dsimp only
  repeat' first | (with_reducible first | assumption | apply State.nop_steady | split | intro _) | (intro _ he; cases he) | (intro he; cases he)

theorem execNopFabric_steady : ∃ t, execNopFabric x0 s = .next t ∧ Steady s t := by
  refine ⟨_, rfl, ?_⟩
  have h : Steady s s := Steady.refl s
  try dsimp only
  repeat' first | (with_reducible first | assumption | apply State.nop_steady | split | intro _) | (intro _ he; cases he) | (intro he; cases he)

theorem execUnknownOp_steady : ∃ t, execUnknownOp x0 x1 s = .next t ∧ Steady s t := by
  refine ⟨_, rfl, ?_⟩
  have h : Steady s s := Steady.refl s
  try dsimp only
  repeat' first | (with_reducible first | assumption | apply State.issue_steady | split | intro _) | (intro _ he; cases he) | (intro he; cases he)

theorem State.wrQuery_steady (h : Steady z s) : Steady z (State.wrQuery s x1 x2) := by
  unfold State.wrQuery
  try dsimp only
  repeat' first | (with_reducible first | assumption | apply State.putBank_steady | apply State.setFlagI_steady | split | intro _) | (intro _ he; cases he) | (intro he; cases he)

theorem execCmdQuery_steady : ∃ t, execCmdQuery x0 x1 x2 s = .next t ∧ Steady s t := by
  refine ⟨_, rfl, ?_⟩
  have h : Steady s s := Steady.refl s
  try dsimp only
  repeat' first | (with_reducible first | assumption | apply State.guardWrite_steady | apply State.wrQuery_steady | split | intro _) | (intro _ he; cases he) | (intro he; cases he)

theorem State.wrStgCfg_steady (h : Steady z s) : Steady z (State.wrStgCfg s x1 x2) := by
  unfold State.wrStgCfg
  try dsimp only
  repeat' first | (with_reducible first | assumption | apply State.setFlag_steady | apply State.showExcluded_steady | apply State.writeRw_steady | apply State.put_steady | split | intro _) | (intro _ he; cases he) | (intro he; cases he)

theorem State.wrPnt_steady (h : Steady z s) : Steady z (State.wrPnt s x1 x2) := by
  unfold State.wrPnt
  try dsimp only
  repeat' first | (with_reducible first | assumption | apply State.showExcluded_steady | apply State.writeRw_steady | split | intro _) | (intro _ he; cases he) | (intro he; cases he)

theorem State.wrStgFlag_steady (h : Steady z s) : Steady z (State.wrStgFlag s x1 x2) := by
  unfold State.wrStgFlag
  try dsimp only
  repeat' first | (with_reducible first | assumption | apply State.clearFlagsBut_steady | apply State.stageRest_steady | split | intro _) | (intro _ he; cases he) | (intro he; cases he)

theorem State.wrXbrMod_steady (h : Steady z s) : Steady z (State.wrXbrMod s x1 x2) := by
  unfold State.wrXbrMod
  try dsimp only
  repeat' first | (with_reducible first | assumption | apply State.writeRw_steady | split | intro _) | (intro _ he; cases he) | (intro he; cases he)

theorem State.wrXbrShare_steady (h : Steady z s) : Steady z (State.wrXbrShare s x1 x2) := by
  unfold State.wrXbrShare
  try dsimp only
  repeat' first | (with_reducible first | assumption | apply State.writeRw_steady | split | intro _) | (intro _ he; cases he) | (intro he; cases he)

theorem State.wrPntt_steady (h : Steady z s) : Steady z (State.wrPntt s x1) := by
  unfold State.wrPntt
  try dsimp only
  repeat' first | (with_reducible first | assumption | apply State.writeRw_steady | split | intro _) | (intro _ he; cases he) | (intro he; cases he)

theorem State.wrIagg_steady (h : Steady z s) : Steady z (State.wrIagg s x1) := by
  unfold State.wrIagg
  try dsimp only
  repeat' first | (with_reducible first | assumption | apply State.writeRw_steady | split | intro _) | (intro _ he; cases he) | (intro he; cases he)

theorem execStgCfgWrite_steady : ∃ t, execStgCfgWrite x0 x1 x2 x3 s = .next t ∧ Steady s t := by
  refine ⟨_, rfl, ?_⟩
  have h : Steady s s := Steady.refl s
  try dsimp only
  repeat' first | (with_reducible first | assumption | apply State.guardWrite_steady | apply State.wrStgCfg_steady | split | intro _) | (intro _ he; cases he) | (intro he; cases he)

theorem execPntCfgWrite_steady : ∃ t, execPntCfgWrite x0 x1 x2 x3 s = .next t ∧ Steady s t := by
  refine ⟨_, rfl, ?_⟩
  have h : Steady s s := Steady.refl s
  try dsimp only
  repeat' first | (with_reducible first | assumption | apply State.guardWrite_steady | apply State.wrPnt_steady | split | intro _) | (intro _ he; cases he) | (intro he; cases he)

theorem execStgFlagWrite_steady : ∃ t, execStgFlagWrite x0 x1 x2 x3 s = .next t ∧ Steady s t := by
  refine ⟨_, rfl, ?_⟩
  have h : Steady s s := Steady.refl s
  try dsimp only
  repeat' first | (with_reducible first | assumption | apply State.guardWrite_steady | apply State.wrStgFlag_steady | split | intro _) | (intro _ he; cases he) | (intro he; cases he)

theorem State.triggerReaches_steady (h : Steady z s) : Steady z (State.triggerReaches s x1 x2) := by
  unfold State.triggerReaches
  try dsimp only
  repeat' first | (with_reducible first | assumption | apply State.live_steady | apply State.put_steady | split | intro _) | (intro _ he; cases he) | (intro he; cases he)

theorem State.takeTrigger_steady (h : Steady z s) : Steady z (State.takeTrigger s x1 x2 x3) := by
  unfold State.takeTrigger
  try dsimp only
  repeat' first | (with_reducible first | assumption | apply State.put_steady | apply State.setFlag_steady | apply State.putStgX_steady | split | intro _ | refine steady_mk ?_ rfl) | (intro _ he; cases he) | (intro he; cases he)

theorem State.passTrigger_steady (h : Steady z s) : Steady z (State.passTrigger s x1 x2 x3) := by
  induction x3 generalizing s x1 x2 with
  | nil =>
    unfold State.passTrigger
    try dsimp only
    repeat' first | (with_reducible first | assumption | apply State.triggerReaches_steady | apply State.takeTrigger_steady | split | refine steady_mk ?_ rfl) | (intro _ he; cases he) | (intro he; cases he)
  | cons b t ih =>
    unfold State.passTrigger
    try dsimp only
    repeat' first | (with_reducible first | assumption | apply ih | apply State.triggerReaches_steady | apply State.takeTrigger_steady | split | refine steady_mk ?_ rfl) | (intro _ he; cases he) | (intro he; cases he)

theorem State.serveWaiting_steady (h : Steady z s) : Steady z (State.serveWaiting s x1 x2).2 := by
  unfold State.serveWaiting
  try dsimp only
  repeat' first | (with_reducible first | assumption | apply State.passTrigger_steady | split | intro _ | refine steady_mk ?_ rfl) | (intro _ he; cases he) | (intro he; cases he)

theorem execValleyComparatorFire_steady : ∃ t, execValleyComparatorFire x0 x1 s = .next t ∧ Steady s t := by
  refine ⟨_, rfl, ?_⟩
  have h : Steady s s := Steady.refl s
  try dsimp only
  repeat' first | (with_reducible first | assumption | apply State.serveWaiting_steady | apply State.passTrigger_steady | split | intro _) | (intro _ he; cases he) | (intro he; cases he)

theorem execZeroCurrentDetect_steady : ∃ t, execZeroCurrentDetect x0 s = .next t ∧ Steady s t := by
  refine ⟨_, rfl, ?_⟩
  have h : Steady s s := Steady.refl s
  try dsimp only
  repeat' first | (with_reducible first | assumption | apply State.putStgX_steady | apply State.put_steady | split | intro _) | (intro _ he; cases he) | (intro he; cases he)

theorem execNegativeLimit_steady : ∃ t, execNegativeLimit x0 s = .next t ∧ Steady s t := by
  refine ⟨_, rfl, ?_⟩
  have h : Steady s s := Steady.refl s
  try dsimp only
  repeat' first | (with_reducible first | assumption | apply State.setFlag_steady | apply State.putStgX_steady | apply State.put_steady | split | intro _) | (intro _ he; cases he) | (intro he; cases he)

theorem execOcTimeout_steady : ∃ t, execOcTimeout x0 s = .next t ∧ Steady s t := by
  refine ⟨_, rfl, ?_⟩
  have h : Steady s s := Steady.refl s
  try dsimp only
  repeat' first | (with_reducible first | assumption | apply State.raise_steady | apply State.setFlag_steady | split | intro _) | (intro _ he; cases he) | (intro he; cases he)

theorem State.measure_steady (h : Steady z s) : Steady z (State.measure s x1) := by
  unfold State.measure
  try dsimp only
  repeat' first | (with_reducible first | assumption | apply State.put_steady | apply each_steady | split | intro _) | (intro _ he; cases he) | (intro he; cases he)

theorem execAggregateLimit_steady : ∃ t, execAggregateLimit x0 s = .next t ∧ Steady s t := by
  refine ⟨_, rfl, ?_⟩
  have h : Steady s s := Steady.refl s
  try dsimp only
  repeat' first | (with_reducible first | assumption | apply State.measure_steady | apply State.live_steady | apply State.put_steady | split | intro _) | (intro _ he; cases he) | (intro he; cases he)

theorem execSwyAggOc_steady : ∃ t, execSwyAggOc s = .next t ∧ Steady s t := by
  refine ⟨_, rfl, ?_⟩
  have h : Steady s s := Steady.refl s
  try dsimp only
  repeat' first | (with_reducible first | assumption | apply State.raise_steady | apply State.setFlag_steady | split | intro _) | (intro _ he; cases he) | (intro he; cases he)

theorem State.regangSet_steady (h : Steady z s) : Steady z (State.regangSet s x1 x2) := by
  unfold State.regangSet
  try dsimp only
  repeat' first | (with_reducible first | assumption | apply State.wr_steady | split | intro _ | refine steady_mk ?_ rfl) | (intro _ he; cases he) | (intro he; cases he)

theorem State.regangAdd_steady (h : Steady z s) : Steady z (State.regangAdd s x1) := by
  unfold State.regangAdd
  try dsimp only
  repeat' first | (with_reducible first | assumption | apply State.regangEnd_steady | apply State.showExcluded_steady | apply State.put_steady | apply State.stageTest_steady | apply State.regangSet_steady | apply State.putStgX_steady | apply State.closePoint_steady | split | intro _) | (intro _ he; cases he) | (intro he; cases he)

theorem State.regangShedDone_steady (h : Steady z s) : Steady z (State.regangShedDone s x1) := by
  unfold State.regangShedDone
  try dsimp only
  repeat' first | (with_reducible first | assumption | apply State.showExcluded_steady | apply State.put_steady | apply State.stageOff_steady | apply State.regangEnd_steady | apply State.regangAdd_steady | split | intro _) | (intro _ he; cases he) | (intro he; cases he)

theorem State.regangBegin_steady (h : Steady z s) : Steady z (State.regangBegin s x1) := by
  unfold State.regangBegin
  try dsimp only
  repeat' first | (with_reducible first | assumption | apply State.wr_steady | split | intro _) | (intro _ he; cases he) | (intro he; cases he)

theorem State.regangStart_steady (h : Steady z s) : Steady z (State.regangStart s x1) := by
  unfold State.regangStart
  try dsimp only
  repeat' first | (with_reducible first | assumption | apply State.complete_steady | apply State.regangIdle_steady | apply State.regangShedDone_steady | apply State.regangSet_steady | apply State.unsettle_steady | apply State.put_steady | apply State.putStgX_steady | apply State.regangAdd_steady | split | intro _) | (intro _ he; cases he) | (intro he; cases he)

theorem State.regangCancel_steady (h : Steady z s) : Steady z (State.regangCancel s x1) := by
  unfold State.regangCancel
  try dsimp only
  repeat' first | (with_reducible first | assumption | apply State.regangEnd_steady | apply State.put_steady | apply State.putStgX_steady | apply State.regangDropStage_steady | split | intro _) | (intro _ he; cases he) | (intro he; cases he)

theorem execPointSettled_steady : ∃ t, execPointSettled x0 s = .next t ∧ Steady s t := by
  refine ⟨_, rfl, ?_⟩
  have h : Steady s s := Steady.refl s
  try dsimp only
  repeat' first | (with_reducible first | assumption | apply State.stageTest_steady | apply State.regangSet_steady | split | intro _) | (intro _ he; cases he) | (intro he; cases he)

theorem State.putRise_steady (h : Steady z s) : Steady z (State.putRise s x1 x2) := by
  unfold State.putRise
  try dsimp only
  repeat' first | (with_reducible first | assumption | apply State.put_steady | split | intro _) | (intro _ he; cases he) | (intro he; cases he)

theorem execHsshortDetect_steady : ∃ t, execHsshortDetect x0 x1 s = .next t ∧ Steady s t := by
  refine ⟨_, rfl, ?_⟩
  have h : Steady s s := Steady.refl s
  try dsimp only
  repeat' first | (with_reducible first | assumption | apply State.put_steady | apply State.putRise_steady | apply State.setFlag_steady | apply State.openPoints_steady | apply State.stageRest_steady | apply State.raise_steady | apply State.setFlagI_steady | apply State.regangEnd_steady | apply State.showExcluded_steady | apply State.startFail_steady | split | intro _) | (intro _ he; cases he) | (intro he; cases he)

theorem execTestWindowEnd_steady : ∃ t, execTestWindowEnd x0 x1 s = .next t ∧ Steady s t := by
  refine ⟨_, rfl, ?_⟩
  have h : Steady s s := Steady.refl s
  try dsimp only
  repeat' first | (with_reducible first | assumption | apply State.put_steady | apply State.putRise_steady | apply State.regangSet_steady | split | intro _) | (intro _ he; cases he) | (intro he; cases he)

theorem State.stageJoin_steady (h : Steady z s) : Steady z (State.stageJoin s x1) := by
  unfold State.stageJoin
  try dsimp only
  repeat' first | (with_reducible first | assumption | apply State.unsettle_steady | apply State.putStgX_steady | apply State.put_steady | split | intro _) | (intro _ he; cases he) | (intro he; cases he)

theorem execBootEnd_steady : ∃ t, execBootEnd x0 x1 s = .next t ∧ Steady s t := by
  refine ⟨_, rfl, ?_⟩
  have h : Steady s s := Steady.refl s
  try dsimp only
  repeat' first | (with_reducible first | assumption | apply State.stageJoin_steady | apply State.showExcluded_steady | apply State.put_steady | apply State.gangRuns_steady | apply State.putStgX_steady | split | intro _) | (intro _ he; cases he) | (intro he; cases he)

theorem execShareRampEnd_steady : ∃ t, execShareRampEnd x0 s = .next t ∧ Steady s t := by
  refine ⟨_, rfl, ?_⟩
  have h : Steady s s := Steady.refl s
  try dsimp only
  repeat' first | (with_reducible first | assumption | apply State.put_steady | apply State.regangEnd_steady | apply State.putStgX_steady | split | intro _ | refine steady_mk ?_ rfl) | (intro _ he; cases he) | (intro he; cases he)

theorem State.leaveDone_steady (h : Steady z s) : Steady z (State.leaveDone s x1) := by
  unfold State.leaveDone
  try dsimp only
  repeat' first | (with_reducible first | assumption | apply State.stageRest_steady | apply State.regangShedDone_steady | apply State.stageOff_steady | split | intro _) | (intro _ he; cases he) | (intro he; cases he)

theorem execLeaveCurrentZero_steady : ∃ t, execLeaveCurrentZero x0 s = .next t ∧ Steady s t := by
  refine ⟨_, rfl, ?_⟩
  have h : Steady s s := Steady.refl s
  try dsimp only
  repeat' first | (with_reducible first | assumption | apply State.leaveDone_steady | split | intro _) | (intro _ he; cases he) | (intro he; cases he)

theorem execLeaveTimeout_steady : ∃ t, execLeaveTimeout x0 s = .next t ∧ Steady s t := by
  refine ⟨_, rfl, ?_⟩
  have h : Steady s s := Steady.refl s
  try dsimp only
  repeat' first | (with_reducible first | assumption | apply State.leaveDone_steady | split | intro _) | (intro _ he; cases he) | (intro he; cases he)

theorem State.putTrim_steady (h : Steady z s) : Steady z (State.putTrim s x1 x2) := by
  unfold State.putTrim
  try dsimp only
  repeat' first | (with_reducible first | assumption | apply State.putStgX_steady | apply State.put_steady | split | intro _) | (intro _ he; cases he) | (intro he; cases he)

theorem State.wsMark_steady (h : Steady z s) : Steady z (State.wsMark s x1 x2 x3) := by
  unfold State.wsMark
  try dsimp only
  repeat' first | (with_reducible first | assumption | apply State.message_steady | split | intro _ | refine steady_mk ?_ rfl) | (intro _ he; cases he) | (intro he; cases he)

theorem State.wsAtLimit_steady (h : Steady z s) : Steady z (State.wsAtLimit s x1 x2 x3) := by
  unfold State.wsAtLimit
  try dsimp only
  repeat' first | (with_reducible first | assumption | apply State.message_steady | split | intro _ | refine steady_mk ?_ rfl) | (intro _ he; cases he) | (intro he; cases he)

theorem State.watershed_steady (h : Steady z s) : Steady z (State.watershed s x1) := by
  unfold State.watershed
  try dsimp only
  repeat' first | (with_reducible first | assumption | apply State.wsMark_steady | apply State.wsAtLimit_steady | apply State.putTrim_steady | apply each_steady | split | intro _) | (intro _ he; cases he) | (intro he; cases he)

theorem execWatershedTick_steady : ∃ t, execWatershedTick x0 s = .next t ∧ Steady s t := by
  refine ⟨_, rfl, ?_⟩
  have h : Steady s s := Steady.refl s
  try dsimp only
  repeat' first | (with_reducible first | assumption | apply State.watershed_steady | apply State.measure_steady | apply each_steady | split | intro _) | (intro _ he; cases he) | (intro he; cases he)

theorem State.drawRat_steady (h : Steady z s) : Steady z (State.drawRat s).2 := by
  unfold State.drawRat
  try dsimp only
  repeat' first | (with_reducible first | assumption | apply State.draw_steady | split | intro _) | (intro _ he; cases he) | (intro he; cases he)

theorem State.showIbat_steady (h : Steady z s) : Steady z (State.showIbat s x1) := by
  unfold State.showIbat
  try dsimp only
  repeat' first | (with_reducible first | assumption | apply State.put_steady | split | intro _) | (intro _ he; cases he) | (intro he; cases he)

theorem State.feedback_steady (h : Steady z s) : Steady z (State.feedback s x1).2 := by
  unfold State.feedback
  try dsimp only
  repeat' first | (with_reducible first | assumption | apply State.draw_steady | split | intro _) | (intro _ he; cases he) | (intro he; cases he)

theorem State.agree_steady (h : Steady z s) : Steady z (State.agree s x1 x2) := by
  unfold State.agree
  try dsimp only
  repeat' first | (with_reducible first | assumption | apply State.draw_steady | apply State.addSat_steady | split | intro _ | refine steady_mk ?_ rfl) | (intro _ he; cases he) | (intro he; cases he)

theorem State.reference_steady (h : Steady z s) : Steady z (State.reference s x1).2 := by
  unfold State.reference
  try dsimp only
  repeat' first | (with_reducible first | assumption | apply State.draw_steady | split | intro _) | (intro _ he; cases he) | (intro he; cases he)

theorem State.zeroSlot_steady (h : Steady z s) : Steady z (State.zeroSlot s x1) := by
  unfold State.zeroSlot
  try dsimp only
  repeat' first | (with_reducible first | assumption | apply State.putDest_steady | apply State.clearSections_steady | apply State.putLoopX_steady | split | intro _) | (intro _ he; cases he) | (intro he; cases he)

theorem State.chargerLoops_steady (h : Steady z s) : Steady z (State.chargerLoops s) := by
  unfold State.chargerLoops
  try dsimp only
  repeat' first | (with_reducible first | assumption | apply State.putLoopX_steady | apply State.zeroSlot_steady | apply each_steady | split | intro _) | (intro _ he; cases he) | (intro he; cases he)

theorem State.hostRailOn_steady (h : Steady z s) : Steady z (State.hostRailOn s x1) := by
  unfold State.hostRailOn
  try dsimp only
  repeat' first | (with_reducible first | assumption | apply State.setFlag_steady | apply State.railOn_steady | apply State.unshed_steady | split | intro _) | (intro _ he; cases he) | (intro he; cases he)

theorem State.hostGroupOn_steady (h : Steady z s) : Steady z (State.hostGroupOn s x1) := by
  unfold State.hostGroupOn
  try dsimp only
  repeat' first | (with_reducible first | assumption | apply State.groupOn_steady | apply State.unshed_steady | apply each_steady | split | intro _) | (intro _ he; cases he) | (intro he; cases he)

theorem State.hostRailOff_steady (h : Steady z s) : Steady z (State.hostRailOff s x1) := by
  unfold State.hostRailOff
  try dsimp only
  repeat' first | (with_reducible first | assumption | apply State.setFlag_steady | apply State.railOff_steady | split | intro _) | (intro _ he; cases he) | (intro he; cases he)

theorem State.wrRailCtl_steady (h : Steady z s) : Steady z (State.wrRailCtl s x1 x2) := by
  unfold State.wrRailCtl
  try dsimp only
  repeat' first | (with_reducible first | assumption | apply State.writeRw_steady | apply State.hostRailOn_steady | apply State.hostRailOff_steady | split | intro _) | (intro _ he; cases he) | (intro he; cases he)

theorem State.wrVset_steady (h : Steady z s) : Steady z (State.wrVset s x1 x2) := by
  unfold State.wrVset
  try dsimp only
  repeat' first | (with_reducible first | assumption | apply State.writeRw_steady | apply State.rampToVset_steady | split | intro _) | (intro _ he; cases he) | (intro he; cases he)

theorem State.wrRamp_steady (h : Steady z s) (hx1 : ∀ q, x1 ≠ .EVT_QBASE q) : Steady z (State.wrRamp s x1 x2) := by
  unfold State.wrRamp
  try dsimp only
  repeat' first | (with_reducible first | assumption | apply State.writeRw_steady | split | intro _) | (intro _ he; cases he) | (intro he; cases he)

theorem State.wrDis_steady (h : Steady z s) : Steady z (State.wrDis s x1 x2) := by
  unfold State.wrDis
  try dsimp only
  repeat' first | (with_reducible first | assumption | apply State.writeRw_steady | split | intro _) | (intro _ he; cases he) | (intro he; cases he)

theorem State.holdRequest_steady (h : Steady z s) : Steady z (State.holdRequest s x1 x2) := by
  unfold State.holdRequest
  try dsimp only
  repeat' first | (with_reducible first | assumption | apply State.put_steady | split | intro _ | refine steady_mk ?_ rfl) | (intro _ he; cases he) | (intro he; cases he)

theorem State.hostGroup_steady (h : Steady z s) : Steady z (State.hostGroup s x1 x2) := by
  unfold State.hostGroup
  try dsimp only
  repeat' first | (with_reducible first | assumption | apply State.setFlag_steady | apply State.holdRequest_steady | apply State.hostGroupOn_steady | apply State.groupOff_steady | split | intro _) | (intro _ he; cases he) | (intro he; cases he)

theorem State.dropRequests_steady (h : Steady z s) : Steady z (State.dropRequests s x1) := by
  unfold State.dropRequests
  try dsimp only
  repeat' first | (with_reducible first | assumption | apply State.put_steady | apply each_steady | split | intro _ | refine steady_mk ?_ rfl) | (intro _ he; cases he) | (intro he; cases he)

theorem State.wrGroupCtl_steady (h : Steady z s) : Steady z (State.wrGroupCtl s x1 x2) := by
  unfold State.wrGroupCtl
  try dsimp only
  repeat' first | (with_reducible first | assumption | apply State.hostGroup_steady | split | intro _) | (intro _ he; cases he) | (intro he; cases he)

theorem State.markUnnamed_steady (h : Steady z s) : Steady z (State.markUnnamed s) := by
  unfold State.markUnnamed
  try dsimp only
  repeat' first | (with_reducible first | assumption | apply State.putBit_steady | apply each_steady | split | intro _) | (intro _ he; cases he) | (intro he; cases he)

theorem State.wrStep_steady (h : Steady z s) : Steady z (State.wrStep s x1 x2 x3) := by
  unfold State.wrStep
  try dsimp only
  repeat' first | (with_reducible first | assumption | apply State.wr_steady | apply State.setFlag_steady | apply State.markUnnamed_steady | split | intro _) | (intro _ he; cases he) | (intro he; cases he)

theorem State.wrRstCfg_steady (h : Steady z s) : Steady z (State.wrRstCfg s x1 x2) := by
  unfold State.wrRstCfg
  try dsimp only
  repeat' first | (with_reducible first | assumption | apply State.writeRw_steady | split | intro _) | (intro _ he; cases he) | (intro he; cases he)

theorem State.wrBout_steady (h : Steady z s) : Steady z (State.wrBout s x1) := by
  unfold State.wrBout
  try dsimp only
  repeat' first | (with_reducible first | assumption | apply State.writeRw_steady | split | intro _) | (intro _ he; cases he) | (intro he; cases he)

theorem State.wrMinoff_steady (h : Steady z s) : Steady z (State.wrMinoff s x1) := by
  unfold State.wrMinoff
  try dsimp only
  repeat' first | (with_reducible first | assumption | apply State.writeRw_steady | split | intro _) | (intro _ he; cases he) | (intro he; cases he)

theorem State.wrFirst_steady (h : Steady z s) : Steady z (State.wrFirst s x1) := by
  unfold State.wrFirst
  try dsimp only
  repeat' first | (with_reducible first | assumption | apply State.put_steady | apply State.putBit_steady | split | intro _) | (intro _ he; cases he) | (intro he; cases he)

theorem State.wrSupCfg_steady (h : Steady z s) : Steady z (State.wrSupCfg s x1 x2) := by
  unfold State.wrSupCfg
  try dsimp only
  repeat' first | (with_reducible first | assumption | apply State.writeRw_steady | split | intro _) | (intro _ he; cases he) | (intro he; cases he)

theorem State.wrSupFlag_steady (h : Steady z s) : Steady z (State.wrSupFlag s x1 x2) := by
  unfold State.wrSupFlag
  try dsimp only
  repeat' first | (with_reducible first | assumption | apply State.clearFlagsBut_steady | split | intro _) | (intro _ he; cases he) | (intro he; cases he)

theorem execRailOnRequest_steady : ∃ t, execRailOnRequest x0 x1 s = .next t ∧ Steady s t := by
  refine ⟨_, rfl, ?_⟩
  have h : Steady s s := Steady.refl s
  try dsimp only
  repeat' first | (with_reducible first | assumption | apply State.guardWrite_steady | apply State.hostRailOn_steady | split | intro _) | (intro _ he; cases he) | (intro he; cases he)

theorem execRailOffRequest_steady : ∃ t, execRailOffRequest x0 x1 s = .next t ∧ Steady s t := by
  refine ⟨_, rfl, ?_⟩
  have h : Steady s s := Steady.refl s
  try dsimp only
  repeat' first | (with_reducible first | assumption | apply State.guardWrite_steady | apply State.hostRailOff_steady | split | intro _) | (intro _ he; cases he) | (intro he; cases he)

theorem execVsetWrite_steady : ∃ t, execVsetWrite x0 x1 x2 x3 s = .next t ∧ Steady s t := by
  refine ⟨_, rfl, ?_⟩
  have h : Steady s s := Steady.refl s
  try dsimp only
  repeat' first | (with_reducible first | assumption | apply State.guardWrite_steady | apply State.wrVset_steady | split | intro _) | (intro _ he; cases he) | (intro he; cases he)

theorem State.guardGroup_steady (h : Steady z s) (hx1 : ∀ s, Steady z s → Steady z (x1 s)) : Steady z (State.guardGroup s x1) := by
  unfold State.guardGroup
  try dsimp only
  repeat' first | (with_reducible first | assumption | apply hx1 | apply State.accessOff_steady | split | intro _) | (intro _ he; cases he) | (intro he; cases he)

theorem execGroupOnRequest_steady : ∃ t, execGroupOnRequest x0 x1 s = .next t ∧ Steady s t := by
  refine ⟨_, rfl, ?_⟩
  have h : Steady s s := Steady.refl s
  try dsimp only
  repeat' first | (with_reducible first | assumption | apply State.guardGroup_steady | apply State.hostGroup_steady | split | intro _) | (intro _ he; cases he) | (intro he; cases he)

theorem execGroupOffRequest_steady : ∃ t, execGroupOffRequest x0 x1 s = .next t ∧ Steady s t := by
  refine ⟨_, rfl, ?_⟩
  have h : Steady s s := Steady.refl s
  try dsimp only
  repeat' first | (with_reducible first | assumption | apply State.guardGroup_steady | apply State.hostGroup_steady | split | intro _) | (intro _ he; cases he) | (intro he; cases he)

theorem execStepWrite_steady : ∃ t, execStepWrite x0 x1 x2 x3 x4 s = .next t ∧ Steady s t := by
  refine ⟨_, rfl, ?_⟩
  have h : Steady s s := Steady.refl s
  try dsimp only
  repeat' first | (with_reducible first | assumption | apply State.guardWrite_steady | apply State.wrStep_steady | split | intro _) | (intro _ he; cases he) | (intro he; cases he)

theorem execTtbBoutWrite_steady : ∃ t, execTtbBoutWrite x0 x1 x2 s = .next t ∧ Steady s t := by
  refine ⟨_, rfl, ?_⟩
  have h : Steady s s := Steady.refl s
  try dsimp only
  repeat' first | (with_reducible first | assumption | apply State.guardWrite_steady | apply State.wrBout_steady | split | intro _) | (intro _ he; cases he) | (intro he; cases he)

theorem execOnDelayEnd_steady : ∃ t, execOnDelayEnd x0 x1 s = .next t ∧ Steady s t := by
  refine ⟨_, rfl, ?_⟩
  have h : Steady s s := Steady.refl s
  try dsimp only
  repeat' first | (with_reducible first | assumption | apply State.railEnterStart_steady | split | intro _) | (intro _ he; cases he) | (intro he; cases he)

theorem execOffDelayEnd_steady : ∃ t, execOffDelayEnd x0 s = .next t ∧ Steady s t := by
  refine ⟨_, rfl, ?_⟩
  have h : Steady s s := Steady.refl s
  try dsimp only
  repeat' first | (with_reducible first | assumption | apply State.rampDown_steady | split | intro _) | (intro _ he; cases he) | (intro he; cases he)

theorem execSetpointReached_steady : ∃ t, execSetpointReached x0 s = .next t ∧ Steady s t := by
  refine ⟨_, rfl, ?_⟩
  have h : Steady s s := Steady.refl s
  try dsimp only
  repeat' first | (with_reducible first | assumption | apply State.stopRamp_steady | apply State.put_steady | apply State.setRail_steady | split | intro _) | (intro _ he; cases he) | (intro he; cases he)

theorem execDischargeDone_steady : ∃ t, execDischargeDone x0 s = .next t ∧ Steady s t := by
  refine ⟨_, rfl, ?_⟩
  have h : Steady s s := Steady.refl s
  try dsimp only
  repeat' first | (with_reducible first | assumption | apply State.runHeld_steady | apply State.railToOff_steady | split | intro _) | (intro _ he; cases he) | (intro he; cases he)

theorem execDischargeTimeout_steady : ∃ t, execDischargeTimeout x0 x1 s = .next t ∧ Steady s t := by
  refine ⟨_, rfl, ?_⟩
  have h : Steady s s := Steady.refl s
  try dsimp only
  repeat' first | (with_reducible first | assumption | apply State.railFailure_steady | apply State.logRec_steady | apply State.setFlag_steady | apply State.runHeld_steady | apply State.raise_steady | apply State.railToOff_steady | split | intro _ | refine steady_mk ?_ rfl) | (intro _ he; cases he) | (intro he; cases he)

theorem execStartTimeout_steady : ∃ t, execStartTimeout x0 s = .next t ∧ Steady s t := by
  refine ⟨_, rfl, ?_⟩
  have h : Steady s s := Steady.refl s
  try dsimp only
  repeat' first | (with_reducible first | assumption | apply State.startFail_steady | split | intro _) | (intro _ he; cases he) | (intro he; cases he)

theorem execPgAssert_steady : ∃ t, execPgAssert x0 s = .next t ∧ Steady s t := by
  refine ⟨_, rfl, ?_⟩
  have h : Steady s s := Steady.refl s
  try dsimp only
  repeat' first | (with_reducible first | assumption | apply State.condRise_steady | apply State.putBit_steady | apply State.armUv_steady | split | intro _ | refine steady_mk ?_ rfl) | (intro _ he; cases he) | (intro he; cases he)

theorem execStepHoldEnd_steady : ∃ t, execStepHoldEnd x0 s = .next t ∧ Steady s t := by
  refine ⟨_, rfl, ?_⟩
  have h : Steady s s := Steady.refl s
  try dsimp only
  repeat' first | (with_reducible first | assumption | apply State.stepNext_steady | split | intro _) | (intro _ he; cases he) | (intro he; cases he)

theorem State.groupOffBout_steady (h : Steady z s) : Steady z (State.groupOffBout s x1) := by
  unfold State.groupOffBout
  try dsimp only
  repeat' first | (with_reducible first | assumption | apply State.groupOffLater_steady | apply State.put_steady | split | intro _) | (intro _ he; cases he) | (intro he; cases he)

theorem State.boutFast_steady (h : Steady z s) : Steady z (State.boutFast s x1) := by
  unfold State.boutFast
  try dsimp only
  repeat' first | (with_reducible first | assumption | apply State.rampDown_steady | apply each_steady | split | intro _) | (intro _ he; cases he) | (intro he; cases he)

theorem State.vinRose_steady (h : Steady z s) : Steady z (State.vinRose s) := by
  unfold State.vinRose
  try dsimp only
  repeat' first | (with_reducible first | assumption | split | intro _ | refine steady_mk ?_ rfl) | (intro _ he; cases he) | (intro he; cases he)

theorem State.vinSeen_steady (h : Steady z s) : Steady z (State.vinSeen s) := by
  unfold State.vinSeen
  try dsimp only
  repeat' first | (with_reducible first | assumption | apply State.vinRose_steady | split | intro _ | refine steady_mk ?_ rfl) | (intro _ he; cases he) | (intro he; cases he)

theorem execBoutStart_steady : ∃ t, execBoutStart x0 s = .next t ∧ Steady s t := by
  refine ⟨_, rfl, ?_⟩
  have h : Steady s s := Steady.refl s
  try dsimp only
  repeat' first | (with_reducible first | assumption | apply State.vinSeen_steady | apply State.regangDown_steady | apply State.reloadAbort_steady | apply State.addSat_steady | apply State.putBit_steady | apply State.put_steady | apply State.groupOffBout_steady | apply State.dropRequests_steady | apply State.railOffLater_steady | apply State.boutFast_steady | apply State.boutCheck_steady | apply State.happen_steady | apply each_steady | split | intro _ | refine steady_mk ?_ rfl) | (intro _ he; cases he) | (intro he; cases he)

theorem execMinoffEnd_steady : ∃ t, execMinoffEnd s = .next t ∧ Steady s t := by
  refine ⟨_, rfl, ?_⟩
  have h : Steady s s := Steady.refl s
  try dsimp only
  repeat' first | (with_reducible first | assumption | apply State.boutRestart_steady | apply State.putBit_steady | split | intro _) | (intro _ he; cases he) | (intro he; cases he)

theorem execVinQualified_steady : ∃ t, execVinQualified s = .next t ∧ Steady s t := by
  refine ⟨_, rfl, ?_⟩
  have h : Steady s s := Steady.refl s
  try dsimp only
  repeat' first | (with_reducible first | assumption | apply State.vinRose_steady | apply State.putBit_steady | apply State.boutRestart_steady | split | intro _ | refine steady_mk ?_ rfl) | (intro _ he; cases he) | (intro he; cases he)

theorem execVinBelowVon_steady : ∃ t, execVinBelowVon x0 s = .next t ∧ Steady s t := by
  refine ⟨_, rfl, ?_⟩
  have h : Steady s s := Steady.refl s
  try dsimp only
  repeat' first | (with_reducible first | assumption | apply State.vinSeen_steady | apply State.vinRose_steady | apply State.putBit_steady | split | intro _) | (intro _ he; cases he) | (intro he; cases he)

theorem execOvCrossing_steady : ∃ t, execOvCrossing x0 s = .next t ∧ Steady s t := by
  refine ⟨_, rfl, ?_⟩
  have h : Steady s s := Steady.refl s
  try dsimp only
  repeat' first | (with_reducible first | assumption | apply State.pgLow_steady | apply State.live_steady | apply State.put_steady | apply State.ovFires_steady | split | intro _) | (intro _ he; cases he) | (intro he; cases he)

theorem execUvCrossing_steady : ∃ t, execUvCrossing x0 s = .next t ∧ Steady s t := by
  refine ⟨_, rfl, ?_⟩
  have h : Steady s s := Steady.refl s
  try dsimp only
  repeat' first | (with_reducible first | assumption | apply State.live_steady | apply State.put_steady | apply State.uvFires_steady | split | intro _) | (intro _ he; cases he) | (intro he; cases he)

theorem execCrossingEnd_steady : ∃ t, execCrossingEnd x0 x1 s = .next t ∧ Steady s t := by
  refine ⟨_, rfl, ?_⟩
  have h : Steady s s := Steady.refl s
  try dsimp only
  repeat' first | (with_reducible first | assumption | apply State.live_steady | apply State.put_steady | split | intro _) | (intro _ he; cases he) | (intro he; cases he)

theorem execResetRelease_steady : ∃ t, execResetRelease x0 s = .next t ∧ Steady s t := by
  refine ⟨_, rfl, ?_⟩
  have h : Steady s s := Steady.refl s
  try dsimp only
  repeat' first | (with_reducible first | assumption | apply State.putBit_steady | split | intro _) | (intro _ he; cases he) | (intro he; cases he)

theorem State.late_steady (h : Steady z s) : Steady z (State.late s x1) := by
  unfold State.late
  try dsimp only
  repeat' first | (with_reducible first | assumption | apply State.putLoopX_steady | apply State.raise_steady | apply State.setFlag_steady | apply State.addSat_steady | split | intro _) | (intro _ he; cases he) | (intro he; cases he)

theorem State.putEngX_steady (h : Steady z s) : Steady z (State.putEngX s x1 x2) := by
  unfold State.putEngX
  try dsimp only
  repeat' first | (with_reducible first | assumption | split | intro _ | refine steady_mk ?_ rfl) | (intro _ he; cases he) | (intro he; cases he)

theorem State.setPrate_steady (h : Steady z s) : Steady z (State.setPrate s x1 x2) := by
  unfold State.setPrate
  try dsimp only
  repeat' first | (with_reducible first | assumption | apply State.put_steady | apply State.putLoopX_steady | split | intro _) | (intro _ he; cases he) | (intro he; cases he)

theorem State.atTrigger_steady (h : Steady z s) : Steady z (State.atTrigger s x1) := by
  unfold State.atTrigger
  try dsimp only
  repeat' first | (with_reducible first | assumption | apply State.putLoopX_steady | apply State.setPrate_steady | split | intro _) | (intro _ he; cases he) | (intro he; cases he)

theorem State.startSample_steady (h : Steady z s) : Steady z (State.startSample s x1) := by
  unfold State.startSample
  try dsimp only
  repeat' first | (with_reducible first | assumption | apply State.feedback_steady | apply State.reference_steady | apply State.agree_steady | apply State.putLoopX_steady | split | intro _) | (intro _ he; cases he) | (intro he; cases he)

theorem execLoopSampleTrigger_steady : ∃ t, execLoopSampleTrigger x0 s = .next t ∧ Steady s t := by
  refine ⟨_, rfl, ?_⟩
  have h : Steady s s := Steady.refl s
  try dsimp only
  repeat' first | (with_reducible first | assumption | apply State.late_steady | apply State.startSample_steady | apply State.atTrigger_steady | apply State.zeroSlot_steady | split | intro _) | (intro _ he; cases he) | (intro he; cases he)

theorem State.chanV_steady (h : Steady z s) : Steady z (State.chanV s x1).2 := by
  unfold State.chanV
  try dsimp only
  repeat' first | (with_reducible first | assumption | apply State.drawRat_steady | split | intro _) | (intro _ he; cases he) | (intro he; cases he)

theorem State.plantV_steady (h : Steady z s) : Steady z (State.plantV s x1 x2).2 := by
  unfold State.plantV
  try dsimp only
  repeat' first | (with_reducible first | assumption | apply State.chanV_steady | apply State.drawRat_steady | split | intro _) | (intro _ he; cases he) | (intro he; cases he)

theorem State.modelStep_steady (h : Steady z s) : Steady z (State.modelStep s x1 x2 x3 x4 x5 x6) := by
  unfold State.modelStep
  try dsimp only
  repeat' first | (with_reducible first | assumption | apply State.putLoopX_steady | apply State.put_steady | split | intro _) | (intro _ he; cases he) | (intro he; cases he)

theorem State.watchSample_steady (h : Steady z s) : Steady z (State.watchSample s x1 x2 x3) := by
  unfold State.watchSample
  try dsimp only
  repeat' first | (with_reducible first | assumption | apply State.plantV_steady | apply State.putLoopX_steady | apply State.modelStep_steady | apply State.drawRat_steady | apply State.put_steady | split | intro _) | (intro _ he; cases he) | (intro he; cases he)

theorem State.cascadeIn_steady (h : Steady z s) : Steady z (State.cascadeIn s x1).2 := by
  unfold State.cascadeIn
  try dsimp only
  repeat' first | (with_reducible first | assumption | apply State.draw_steady | split | intro _) | (intro _ he; cases he) | (intro he; cases he)

theorem State.sampleDone_steady (h : Steady z s) : Steady z (State.sampleDone s x1 x2 x3) := by
  unfold State.sampleDone
  try dsimp only
  repeat' first | (with_reducible first | assumption | apply State.cascadeIn_steady | apply State.putLoopX_steady | apply State.putDest_steady | apply State.setFlag_steady | apply State.watchSample_steady | apply foldl_steady | split | intro _ | refine steady_mk ?_ rfl) | (intro _ he; cases he) | (intro he; cases he)

theorem execLoopSampleDone_steady : ∃ t, execLoopSampleDone x0 x1 s = .next t ∧ Steady s t := by
  refine ⟨_, rfl, ?_⟩
  have h : Steady s s := Steady.refl s
  try dsimp only
  repeat' first | (with_reducible first | assumption | apply State.sampleDone_steady | split | intro _) | (intro _ he; cases he) | (intro he; cases he)

theorem State.showSlack_steady (h : Steady z s) : Steady z (State.showSlack s x1 x2) := by
  unfold State.showSlack
  try dsimp only
  repeat' first | (with_reducible first | assumption | apply State.put_steady | apply State.draw_steady | split | intro _) | (intro _ he; cases he) | (intro he; cases he)

theorem State.shedOne_steady (h : Steady z s) : Steady z (State.shedOne s x1) := by
  unfold State.shedOne
  try dsimp only
  repeat' first | (with_reducible first | assumption | apply State.putEngX_steady | apply State.putLoopX_steady | apply State.message_steady | apply State.setFlag_steady | split | intro _) | (intro _ he; cases he) | (intro he; cases he)

theorem execTempoWindowEnd_steady : ∃ t, execTempoWindowEnd x0 x1 s = .next t ∧ Steady s t := by
  refine ⟨_, rfl, ?_⟩
  have h : Steady s s := Steady.refl s
  try dsimp only
  repeat' first | (with_reducible first | assumption | apply State.putEngX_steady | apply State.put_steady | apply State.setFlag_steady | apply State.draw_steady | apply State.showSlack_steady | apply State.shedOne_steady | split | intro _) | (intro _ he; cases he) | (intro he; cases he)

theorem execLoopRestored_steady : ∃ t, execLoopRestored x0 s = .next t ∧ Steady s t := by
  refine ⟨_, rfl, ?_⟩
  have h : Steady s s := Steady.refl s
  try dsimp only
  repeat' first | (with_reducible first | assumption | apply State.putLoopX_steady | apply State.setPrate_steady | apply State.message_steady | apply State.putEngX_steady | split | intro _) | (intro _ he; cases he) | (intro he; cases he)

theorem State.wrLpeState_steady (h : Steady z s) : Steady z (State.wrLpeState s x1 x2) := by
  unfold State.wrLpeState
  try dsimp only
  repeat' first | (with_reducible first | assumption | apply State.put_steady | split | intro _) | (intro _ he; cases he) | (intro he; cases he)

theorem execRminReset_steady : ∃ t, execRminReset x0 x1 s = .next t ∧ Steady s t := by
  refine ⟨_, rfl, ?_⟩
  have h : Steady s s := Steady.refl s
  try dsimp only
  repeat' first | (with_reducible first | assumption | apply State.guardWrite_steady | apply State.wrLpeState_steady | split | intro _) | (intro _ he; cases he) | (intro he; cases he)

theorem State.wrLpeShed_steady (h : Steady z s) : Steady z (State.wrLpeShed s x1 x2) := by
  unfold State.wrLpeShed
  try dsimp only
  repeat' first | (with_reducible first | assumption | apply State.writeRw_steady | split | intro _) | (intro _ he; cases he) | (intro he; cases he)

theorem State.wrLpeFlag_steady (h : Steady z s) : Steady z (State.wrLpeFlag s x1 x2) := by
  unfold State.wrLpeFlag
  try dsimp only
  repeat' first | (with_reducible first | assumption | apply State.clearFlagsBut_steady | split | intro _) | (intro _ he; cases he) | (intro he; cases he)

theorem execLpeShedWrite_steady : ∃ t, execLpeShedWrite x0 x1 x2 x3 s = .next t ∧ Steady s t := by
  refine ⟨_, rfl, ?_⟩
  have h : Steady s s := Steady.refl s
  try dsimp only
  repeat' first | (with_reducible first | assumption | apply State.guardWrite_steady | apply State.wrLpeShed_steady | split | intro _) | (intro _ he; cases he) | (intro he; cases he)

theorem State.openSlot_steady (h : Steady z s) : Steady z (State.openSlot s x1 x2) := by
  unfold State.openSlot
  try dsimp only
  repeat' first | (with_reducible first | assumption | apply State.put_steady | apply State.putLoopX_steady | split | intro _) | (intro _ he; cases he) | (intro he; cases he)

theorem State.cfgRateNow_steady (h : Steady z s) : Steady z (State.cfgRateNow s x1) := by
  unfold State.cfgRateNow
  try dsimp only
  repeat' first | (with_reducible first | assumption | apply State.putLoopX_steady | apply State.setPrate_steady | apply State.putEngX_steady | split | intro _) | (intro _ he; cases he) | (intro he; cases he)

theorem State.closeNow_steady (h : Steady z s) : Steady z (State.closeNow s x1 x2) := by
  unfold State.closeNow
  try dsimp only
  repeat' first | (with_reducible first | assumption | apply State.clearSections_steady | apply State.put_steady | apply State.cfgRateNow_steady | apply State.putLoopX_steady | apply State.zeroSlot_steady | split | intro _) | (intro _ he; cases he) | (intro he; cases he)

theorem State.closeSlot_steady (h : Steady z s) : Steady z (State.closeSlot s x1 x2) := by
  unfold State.closeSlot
  try dsimp only
  repeat' first | (with_reducible first | assumption | apply State.setFlag_steady | apply State.closeNow_steady | split | intro _) | (intro _ he; cases he) | (intro he; cases he)

theorem State.wrLpsCtl_steady (h : Steady z s) : Steady z (State.wrLpsCtl s x1 x2) := by
  unfold State.wrLpsCtl
  try dsimp only
  repeat' first | (with_reducible first | assumption | apply State.writeRw_steady | apply State.openSlot_steady | apply State.closeSlot_steady | split | intro _) | (intro _ he; cases he) | (intro he; cases he)

theorem State.closeBlocked_steady (h : Steady z s) : Steady z (State.closeBlocked s x1 x2) := by
  unfold State.closeBlocked
  try dsimp only
  repeat' first | (with_reducible first | assumption | apply State.setFlag_steady | split | intro _) | (intro _ he; cases he) | (intro he; cases he)

theorem State.busLpsCtl_steady (h : Steady z s) : Steady z (State.busLpsCtl s x1 x2) := by
  unfold State.busLpsCtl
  try dsimp only
  repeat' first | (with_reducible first | assumption | apply State.guardWrite_steady | apply State.closeBlocked_steady | apply State.wrLpsCtl_steady | split | intro _) | (intro _ he; cases he) | (intro he; cases he)

theorem State.loopReq_steady (h : Steady z s) : Steady z (State.loopReq s x1 x2) := by
  unfold State.loopReq
  try dsimp only
  repeat' first | (with_reducible first | assumption | apply State.busLpsCtl_steady | split | intro _) | (intro _ he; cases he) | (intro he; cases he)

theorem execLoopOpenRequest_steady : ∃ t, execLoopOpenRequest x0 x1 s = .next t ∧ Steady s t := by
  refine ⟨_, rfl, ?_⟩
  have h : Steady s s := Steady.refl s
  try dsimp only
  repeat' first | (with_reducible first | assumption | apply State.loopReq_steady | split | intro _) | (intro _ he; cases he) | (intro he; cases he)

theorem execLoopCloseRequest_steady : ∃ t, execLoopCloseRequest x0 x1 s = .next t ∧ Steady s t := by
  refine ⟨_, rfl, ?_⟩
  have h : Steady s s := Steady.refl s
  try dsimp only
  repeat' first | (with_reducible first | assumption | apply State.loopReq_steady | split | intro _) | (intro _ he; cases he) | (intro he; cases he)

theorem execLoopCloseCleared_steady : ∃ t, execLoopCloseCleared x0 x1 s = .next t ∧ Steady s t := by
  refine ⟨_, rfl, ?_⟩
  have h : Steady s s := Steady.refl s
  try dsimp only
  repeat' first | (with_reducible first | assumption | apply State.loopReq_steady | split | intro _) | (intro _ he; cases he) | (intro he; cases he)

theorem State.ifOpen_steady (h : Steady z s) (hx2 : ∀ s, Steady z s → Steady z (x2 s)) : Steady z (State.ifOpen s x1 x2) := by
  unfold State.ifOpen
  try dsimp only
  repeat' first | (with_reducible first | assumption | apply hx2 | apply State.setFlag_steady | split | intro _) | (intro _ he; cases he) | (intro he; cases he)

theorem State.leaveDest_steady (h : Steady z s) : Steady z (State.leaveDest s x1) := by
  unfold State.leaveDest
  try dsimp only
  repeat' first | (with_reducible first | assumption | split | intro _ | refine steady_mk ?_ rfl) | (intro _ he; cases he) | (intro he; cases he)

theorem State.cfgApplied_steady (h : Steady z s) : Steady z (State.cfgApplied s x1) := by
  unfold State.cfgApplied
  try dsimp only
  repeat' first | (with_reducible first | assumption | apply State.cfgRateNow_steady | apply State.put_steady | apply State.leaveDest_steady | split | intro _) | (intro _ he; cases he) | (intro he; cases he)

theorem State.tapReject_steady (h : Steady z s) : Steady z (State.tapReject s x1) := by
  unfold State.tapReject
  try dsimp only
  repeat' first | (with_reducible first | assumption | apply State.setFlagI_steady | split | intro _) | (intro _ he; cases he) | (intro he; cases he)

theorem State.wrLpsCfg_steady (h : Steady z s) : Steady z (State.wrLpsCfg s x1 x2) := by
  unfold State.wrLpsCfg
  try dsimp only
  repeat' first | (with_reducible first | assumption | apply State.ifOpen_steady | apply State.writeRw_steady | apply State.setFlag_steady | apply State.tapReject_steady | apply State.cfgApplied_steady | split | intro _) | (intro _ he; cases he) | (intro he; cases he)

theorem execLpsCfgWrite_steady : ∃ t, execLpsCfgWrite x0 x1 x2 x3 s = .next t ∧ Steady s t := by
  refine ⟨_, rfl, ?_⟩
  have h : Steady s s := Steady.refl s
  try dsimp only
  repeat' first | (with_reducible first | assumption | apply State.guardWrite_steady | apply State.wrLpsCfg_steady | split | intro _) | (intro _ he; cases he) | (intro he; cases he)

theorem State.wrLpsOut_steady (h : Steady z s) : Steady z (State.wrLpsOut s x1 x2) := by
  unfold State.wrLpsOut
  try dsimp only
  repeat' first | (with_reducible first | assumption | apply State.ifOpen_steady | apply State.writeRw_steady | apply State.leaveDest_steady | apply State.setFlag_steady | split | intro _) | (intro _ he; cases he) | (intro he; cases he)

theorem execLpsOutWrite_steady : ∃ t, execLpsOutWrite x0 x1 x2 x3 s = .next t ∧ Steady s t := by
  refine ⟨_, rfl, ?_⟩
  have h : Steady s s := Steady.refl s
  try dsimp only
  repeat' first | (with_reducible first | assumption | apply State.guardWrite_steady | apply State.wrLpsOut_steady | split | intro _) | (intro _ he; cases he) | (intro he; cases he)

theorem State.wrLpsIn_steady (h : Steady z s) : Steady z (State.wrLpsIn s x1 x2) := by
  unfold State.wrLpsIn
  try dsimp only
  repeat' first | (with_reducible first | assumption | apply State.ifOpen_steady | apply State.writeRw_steady | apply State.tapReject_steady | split | intro _) | (intro _ he; cases he) | (intro he; cases he)

theorem execLpsInWrite_steady : ∃ t, execLpsInWrite x0 x1 x2 x3 s = .next t ∧ Steady s t := by
  refine ⟨_, rfl, ?_⟩
  have h : Steady s s := Steady.refl s
  try dsimp only
  repeat' first | (with_reducible first | assumption | apply State.guardWrite_steady | apply State.wrLpsIn_steady | split | intro _) | (intro _ he; cases he) | (intro he; cases he)

theorem State.wrLpsPlain_steady (h : Steady z s) (hx2 : ∀ q, x2 ≠ .EVT_QBASE q) : Steady z (State.wrLpsPlain s x1 x2 x3) := by
  unfold State.wrLpsPlain
  try dsimp only
  repeat' first | (with_reducible first | assumption | apply State.ifOpen_steady | apply State.writeRw_steady | split | intro _) | (intro _ he; cases he) | (intro he; cases he)

theorem State.wrCoef_steady (h : Steady z s) : Steady z (State.wrCoef s x1 x2 x3 x4) := by
  unfold State.wrCoef
  try dsimp only
  repeat' first | (with_reducible first | assumption | apply State.wrLpsPlain_steady | apply State.writeRw_steady | split | intro _) | (intro _ he; cases he) | (intro he; cases he)

theorem execCoefWrite_steady : ∃ t, execCoefWrite x0 x1 x2 x3 x4 x5 s = .next t ∧ Steady s t := by
  refine ⟨_, rfl, ?_⟩
  have h : Steady s s := Steady.refl s
  try dsimp only
  repeat' first | (with_reducible first | assumption | apply State.guardWrite_steady | apply State.wrCoef_steady | split | intro _) | (intro _ he; cases he) | (intro he; cases he)

theorem State.trip_steady (h : Steady z s) : Steady z (State.trip s x1 x2 x3) := by
  unfold State.trip
  try dsimp only
  repeat' first | (with_reducible first | assumption | apply State.put_steady | apply State.raise_steady | apply State.setFlag_steady | apply State.putLoopX_steady | split | intro _) | (intro _ he; cases he) | (intro he; cases he)

theorem execLoopOpenlong_steady : ∃ t, execLoopOpenlong x0 s = .next t ∧ Steady s t := by
  refine ⟨_, rfl, ?_⟩
  have h : Steady s s := Steady.refl s
  try dsimp only
  repeat' first | (with_reducible first | assumption | apply State.raise_steady | apply State.setFlag_steady | split | intro _) | (intro _ he; cases he) | (intro he; cases he)

theorem execWatchSettleEnd_steady : ∃ t, execWatchSettleEnd x0 s = .next t ∧ Steady s t := by
  refine ⟨_, rfl, ?_⟩
  have h : Steady s s := Steady.refl s
  try dsimp only
  repeat' first | (with_reducible first | assumption | apply State.putLoopX_steady | split | intro _) | (intro _ he; cases he) | (intro he; cases he)

theorem execLoopFollow_steady : ∃ t, execLoopFollow x0 s = .next t ∧ Steady s t := by
  refine ⟨_, rfl, ?_⟩
  have h : Steady s s := Steady.refl s
  try dsimp only
  repeat' first | (with_reducible first | assumption | apply State.trip_steady | split | intro _) | (intro _ he; cases he) | (intro he; cases he)

theorem execLoopModel_steady : ∃ t, execLoopModel x0 s = .next t ∧ Steady s t := by
  refine ⟨_, rfl, ?_⟩
  have h : Steady s s := Steady.refl s
  try dsimp only
  repeat' first | (with_reducible first | assumption | apply State.trip_steady | split | intro _) | (intro _ he; cases he) | (intro he; cases he)

end Sys2Proof.Machine
end

