-- ==== Sys2Proof/Laws/SteadyStore.lean ====
section
/-! SUPPORT. The operations of memory protection, the ledger, the gauge, the backup path, the watchdog and the OTP store into queued event records alone. -/

namespace Sys2Proof.Machine

variable {z s : State}

theorem State.otp_steady (h : Steady z s) : Steady z (State.otp s x1) := by
  unfold State.otp
  try dsimp only
  repeat' first | (with_reducible first | assumption | split | intro _ | refine steady_mk ?_ rfl) | (intro _ he; cases he) | (intro he; cases he)

theorem State.otpRead_steady (h : Steady z s) : Steady z (State.otpRead s x1).2 := by
  unfold State.otpRead
  try dsimp only
  repeat' first | (with_reducible first | assumption | apply State.draw_steady | split | intro _) | (intro _ he; cases he) | (intro he; cases he)

theorem State.toSpare_steady (h : Steady z s) : Steady z (State.toSpare s x1 x2 x3) := by
  unfold State.toSpare
  try dsimp only
  repeat' first | (with_reducible first | assumption | apply State.setFlagI_steady | apply State.otp_steady | split | intro _) | (intro _ he; cases he) | (intro he; cases he)

theorem State.redirect_steady (h : Steady z s) : Steady z (State.redirect s x1 x2 x3).2 := by
  induction x3 generalizing s with
  | nil =>
    unfold State.redirect
    cases s.nextSpare with
    | none => exact h
    | some k => exact State.toSpare_steady h
  | cons b t ih =>
    unfold State.redirect
    cases s.nextSpare with
    | none => exact h
    | some k =>
      cases b
      · exact State.toSpare_steady h
      · exact ih (State.otp_steady h)
      · exact ih (State.otp_steady h)

theorem State.otpCorrected_steady (h : Steady z s) : Steady z (State.otpCorrected s x1) := by
  unfold State.otpCorrected
  try dsimp only
  repeat' first | (with_reducible first | assumption | apply State.otp_steady | apply State.put_steady | apply State.putBit_steady | apply State.raise_steady | apply State.live_steady | split | intro _) | (intro _ he; cases he) | (intro he; cases he)

theorem State.showLc_steady (h : Steady z s) : Steady z (State.showLc s) := by
  unfold State.showLc
  try dsimp only
  repeat' first | (with_reducible first | assumption | apply State.put_steady | apply State.putBit_steady | split | intro _) | (intro _ he; cases he) | (intro he; cases he)

theorem State.addMark_steady (h : Steady z s) : Steady z (State.addMark s x1) := by
  unfold State.addMark
  try dsimp only
  repeat' first | (with_reducible first | assumption | apply State.otp_steady | split | intro _) | (intro _ he; cases he) | (intro he; cases he)

theorem State.trimsLost_steady (h : Steady z s) : Steady z (State.trimsLost s) := by
  unfold State.trimsLost
  try dsimp only
  repeat' first | (with_reducible first | assumption | apply State.raise_steady | apply State.putBit_steady | split | intro _) | (intro _ he; cases he) | (intro he; cases he)

theorem State.cellLost_steady (h : Steady z s) : Steady z (State.cellLost s x1) := by
  unfold State.cellLost
  try dsimp only
  repeat' first | (with_reducible first | assumption | apply State.otp_steady | split | intro _) | (intro _ he; cases he) | (intro he; cases he)

theorem State.otpLost_steady (h : Steady z s) : Steady z (State.otpLost s x1) := by
  unfold State.otpLost
  try dsimp only
  repeat' first | (with_reducible first | assumption | apply State.cellLost_steady | apply State.trimsLost_steady | apply State.showLc_steady | apply State.addMark_steady | apply State.setFlagI_steady | split | intro _) | (intro _ he; cases he) | (intro he; cases he)

theorem State.otpReject_steady (h : Steady z s) : Steady z (State.otpReject s x1) := by
  unfold State.otpReject
  try dsimp only
  repeat' first | (with_reducible first | assumption | apply State.setFlagI_steady | apply State.put_steady | split | intro _) | (intro _ he; cases he) | (intro he; cases he)

theorem State.otpStart_steady (h : Steady z s) : Steady z (State.otpStart s x1 x2 x3) := by
  unfold State.otpStart
  try dsimp only
  repeat' first | (with_reducible first | assumption | apply State.putBit_steady | apply State.otp_steady | split | intro _) | (intro _ he; cases he) | (intro he; cases he)

theorem State.wrOtpProg_steady (h : Steady z s) : Steady z (State.wrOtpProg s x1 x2) := by
  unfold State.wrOtpProg
  try dsimp only
  repeat' first | (with_reducible first | assumption | apply State.otpReject_steady | apply State.otpStart_steady | split | intro _) | (intro _ he; cases he) | (intro he; cases he)

theorem State.wrOtpLc_steady (h : Steady z s) : Steady z (State.wrOtpLc s x1 x2) := by
  unfold State.wrOtpLc
  try dsimp only
  repeat' first | (with_reducible first | assumption | apply State.otpReject_steady | apply State.otpStart_steady | split | intro _) | (intro _ he; cases he) | (intro he; cases he)

theorem execOtpProgram_steady : ∃ t, execOtpProgram x0 x1 x2 s = .next t ∧ Steady s t := by
  refine ⟨_, rfl, ?_⟩
  have h : Steady s s := Steady.refl s
  try dsimp only
  repeat' first | (with_reducible first | assumption | apply State.guardSent_steady | apply State.wrOtpProg_steady | split | intro _) | (intro _ he; cases he) | (intro he; cases he)

theorem execLifecycleTransition_steady : ∃ t, execLifecycleTransition x0 x1 x2 s = .next t ∧ Steady s t := by
  refine ⟨_, rfl, ?_⟩
  have h : Steady s s := Steady.refl s
  try dsimp only
  repeat' first | (with_reducible first | assumption | apply State.guardSent_steady | apply State.wrOtpLc_steady | split | intro _) | (intro _ he; cases he) | (intro he; cases he)

theorem State.otpStored_steady (h : Steady z s) : Steady z (State.otpStored s x1) := by
  unfold State.otpStored
  try dsimp only
  repeat' first | (with_reducible first | assumption | apply State.showLc_steady | apply State.addMark_steady | apply State.otp_steady | split | intro _) | (intro _ he; cases he) | (intro he; cases he)

theorem State.otpMoved_steady (h : Steady z s) : Steady z (State.otpMoved s x1) := by
  unfold State.otpMoved
  try dsimp only
  repeat' first | (with_reducible first | assumption | apply State.showLc_steady | apply State.addMark_steady | split | intro _) | (intro _ he; cases he) | (intro he; cases he)

theorem State.otpEnd_steady (h : Steady z s) : Steady z (State.otpEnd s x1 x2) := by
  unfold State.otpEnd
  try dsimp only
  repeat' first | (with_reducible first | assumption | apply State.put_steady | apply State.setFlagI_steady | apply State.putBit_steady | split | intro _) | (intro _ he; cases he) | (intro he; cases he)

theorem State.otpRetry_steady (h : Steady z s) : Steady z (State.otpRetry s x1 x2) := by
  unfold State.otpRetry
  try dsimp only
  repeat' first | (with_reducible first | assumption | apply State.draw_steady | apply State.redirect_steady | apply State.otp_steady | apply State.otpEnd_steady | apply State.otpMoved_steady | apply State.otpCorrected_steady | apply State.otpStored_steady | apply State.otpLost_steady | split | intro _) | (intro _ he; cases he) | (intro he; cases he)

theorem execOtpDone_steady : ∃ t, execOtpDone x0 s = .next t ∧ Steady s t := by
  refine ⟨_, rfl, ?_⟩
  have h : Steady s s := Steady.refl s
  try dsimp only
  repeat' first | (with_reducible first | assumption | apply State.otp_steady | apply State.otpEnd_steady | apply State.otpStored_steady | apply State.otpRetry_steady | split | intro _) | (intro _ he; cases he) | (intro he; cases he)

theorem State.otpReset_steady (h : Steady z s) : Steady z (State.otpReset s) := by
  unfold State.otpReset
  try dsimp only
  repeat' first | (with_reducible first | assumption | apply State.draw_steady | apply State.otp_steady | apply State.addMark_steady | split | intro _) | (intro _ he; cases he) | (intro he; cases he)

theorem State.scanFind_steady (h : Steady z s) : Steady z (State.scanFind s x1) := by
  unfold State.scanFind
  try dsimp only
  repeat' first | (with_reducible first | assumption | apply State.otp_steady | apply State.addSat_steady | apply State.redirect_steady | apply State.otpCorrected_steady | apply State.otpLost_steady | apply State.cellLost_steady | split | intro _) | (intro _ he; cases he) | (intro he; cases he)

theorem State.otpScan_steady (h : Steady z s) : Steady z (State.otpScan s x1) := by
  unfold State.otpScan
  try dsimp only
  repeat' first | (with_reducible first | assumption | apply State.putBit_steady | apply State.wr_steady | apply State.live_steady | apply State.otp_steady | apply State.showLc_steady | apply State.scanFind_steady | apply foldl_steady | split | intro _) | (intro _ he; cases he) | (intro he; cases he)

theorem State.otpLink_steady (h : Steady z s) : Steady z (State.otpLink s) := by
  unfold State.otpLink
  try dsimp only
  repeat' first | (with_reducible first | assumption | apply State.putBit_steady | apply State.wr_steady | split | intro _) | (intro _ he; cases he) | (intro he; cases he)

theorem State.otpAddr_steady (h : Steady z s) : Steady z (State.otpAddr s) := by
  unfold State.otpAddr
  try dsimp only
  repeat' first | (with_reducible first | assumption | apply State.wr_steady | split | intro _) | (intro _ he; cases he) | (intro he; cases he)

theorem State.putLane_steady (h : Steady z s) : Steady z (State.putLane s x1 x2) := by
  unfold State.putLane
  try dsimp only
  repeat' first | (with_reducible first | assumption | split | intro _ | refine steady_mk ?_ rfl) | (intro _ he; cases he) | (intro he; cases he)

theorem State.refill_steady (h : Steady z s) : Steady z (State.refill s) := by
  unfold State.refill
  try dsimp only
  repeat' first | (with_reducible first | assumption | apply State.putLane_steady | split | intro _ | refine steady_mk ?_ rfl) | (intro _ he; cases he) | (intro he; cases he)

theorem State.kick_steady (h : Steady z s) : Steady z (State.kick s) := by
  unfold State.kick
  try dsimp only
  repeat' first | (with_reducible first | assumption | apply State.refill_steady | apply State.put_steady | apply State.putLane_steady | split | intro _ | refine steady_mk ?_ rfl) | (intro _ he; cases he) | (intro he; cases he)

theorem State.enqueue_steady (h : Steady z s) : Steady z (State.enqueue s x1 x2) := by
  unfold State.enqueue
  try dsimp only
  repeat' first | (with_reducible first | assumption | apply State.kick_steady | apply State.putLane_steady | split | intro _) | (intro _ he; cases he) | (intro he; cases he)

theorem State.dropFactory_steady (h : Steady z s) : Steady z (State.dropFactory s x1) := by
  unfold State.dropFactory
  try dsimp only
  repeat' first | (with_reducible first | assumption | split | intro _ | refine steady_mk ?_ rfl) | (intro _ he; cases he) | (intro he; cases he)

theorem State.tplCommitted_steady (h : Steady z s) : Steady z (State.tplCommitted s x1 x2 x3) := by
  unfold State.tplCommitted
  try dsimp only
  repeat' first | (with_reducible first | assumption | apply State.wr_steady | apply State.complete_steady | apply State.loadOver_steady | split | intro _) | (intro _ he; cases he) | (intro he; cases he)

theorem State.tplUnsaved_steady (h : Steady z s) : Steady z (State.tplUnsaved s x1) := by
  unfold State.tplUnsaved
  try dsimp only
  repeat' first | (with_reducible first | assumption | apply State.complete_steady | apply State.loadOver_steady | apply State.put_steady | split | intro _) | (intro _ he; cases he) | (intro he; cases he)

theorem State.finish_steady (h : Steady z s) : Steady z (State.finish s x1 x2 x3) := by
  unfold State.finish
  try dsimp only
  repeat' first | (with_reducible first | assumption | apply State.complete_steady | split | intro _) | (intro _ he; cases he) | (intro he; cases he)

theorem State.logRetire_steady (h : Steady z s) : Steady z (State.logRetire s x1 x2 x3) := by
  unfold State.logRetire
  try dsimp only
  repeat' first | (with_reducible first | assumption | apply State.logRec_steady | split | intro _) | (intro _ he; cases he) | (intro he; cases he)

theorem State.bankReadBack_steady (h : Steady z s) : Steady z (State.bankReadBack s x1).2 := by
  unfold State.bankReadBack
  try dsimp only
  repeat' first | (with_reducible first | assumption | apply State.ledMeet_steady | split | intro _) | (intro _ he; cases he) | (intro he; cases he)

theorem State.soleWrite_steady (h : Steady z s) : Steady z (State.soleWrite s x1 x2) := by
  unfold State.soleWrite
  try dsimp only
  repeat' first | (with_reducible first | assumption | split | intro _ | refine steady_mk ?_ rfl) | (intro _ he; cases he) | (intro he; cases he)

theorem execLedgerWriteFail_steady : ∃ t, execLedgerWriteFail s = .next t ∧ Steady s t := by
  refine ⟨_, rfl, ?_⟩
  have h : Steady s s := Steady.refl s
  try dsimp only
  repeat' first | (with_reducible first | assumption | apply State.setFlagI_steady | apply State.wr_steady | apply State.putLane_steady | apply State.complete_steady | apply State.tplUnsaved_steady | apply State.finish_steady | apply State.kick_steady | split | intro _ | refine steady_mk ?_ rfl) | (intro _ he; cases he) | (intro he; cases he)

theorem execEraseSuspend_steady : ∃ t, execEraseSuspend s = .next t ∧ Steady s t := by
  refine ⟨_, rfl, ?_⟩
  have h : Steady s s := Steady.refl s
  try dsimp only
  repeat' first | (with_reducible first | assumption | split | intro _ | refine steady_mk ?_ rfl) | (intro _ he; cases he) | (intro he; cases he)

theorem execEraseResume_steady : ∃ t, execEraseResume s = .next t ∧ Steady s t := by
  refine ⟨_, rfl, ?_⟩
  have h : Steady s s := Steady.refl s
  try dsimp only
  repeat' first | (with_reducible first | assumption | split | intro _ | refine steady_mk ?_ rfl) | (intro _ he; cases he) | (intro he; cases he)

theorem State.withSource_steady (h : Steady z s) (hx4 : ∀ x s, Steady z s → Steady z (x4 x s)) : Steady z (State.withSource s x1 x2 x3 x4) := by
  unfold State.withSource
  try dsimp only
  repeat' first | (with_reducible first | assumption | apply hx4 | apply State.eccRange_steady | apply State.dmaRestart_steady | apply State.complete_steady | apply State.dmaHalt_steady | apply State.sramUe_steady | split | intro _) | (intro _ he; cases he) | (intro he; cases he)

theorem State.fwWrite_steady (h : Steady z s) : Steady z (State.fwWrite s x1) := by
  unfold State.fwWrite
  try dsimp only
  repeat' first | (with_reducible first | assumption | apply State.complete_steady | apply State.withSource_steady | apply State.enqueue_steady | apply State.put_steady | split | intro _ | refine steady_mk ?_ rfl) | (intro _ he; cases he) | (intro he; cases he)

theorem State.fwSeal_steady (h : Steady z s) : Steady z (State.fwSeal s x1) := by
  unfold State.fwSeal
  try dsimp only
  repeat' first | (with_reducible first | assumption | apply State.complete_steady | apply State.ledMeet_steady | apply State.enqueue_steady | split | intro _) | (intro _ he; cases he) | (intro he; cases he)

theorem State.fwActivate_steady (h : Steady z s) : Steady z (State.fwActivate s x1) := by
  unfold State.fwActivate
  try dsimp only
  repeat' first | (with_reducible first | assumption | apply State.complete_steady | apply State.enqueue_steady | split | intro _) | (intro _ he; cases he) | (intro he; cases he)

theorem State.userWrite_steady (h : Steady z s) : Steady z (State.userWrite s x1) := by
  unfold State.userWrite
  try dsimp only
  repeat' first | (with_reducible first | assumption | apply State.complete_steady | apply State.withSource_steady | apply State.ledMeet_steady | apply State.enqueue_steady | split | intro _) | (intro _ he; cases he) | (intro he; cases he)

theorem State.logMoves_steady (h : Steady z s) : Steady z (State.logMoves s) := by
  unfold State.logMoves
  try dsimp only
  repeat' first | (with_reducible first | assumption | apply State.put_steady | apply State.putLane_steady | split | intro _) | (intro _ he; cases he) | (intro he; cases he)

theorem State.dropStep_steady (h : Steady z s) : Steady z (State.dropStep s x1) := by
  unfold State.dropStep
  try dsimp only
  repeat' first | (with_reducible first | assumption | split | intro _ | refine steady_mk ?_ rfl) | (intro _ he; cases he) | (intro he; cases he)

theorem State.moveLane_steady (h : Steady z s) : Steady z (State.moveLane s x1 x2 x3) := by
  unfold State.moveLane
  try dsimp only
  repeat' first | (with_reducible first | assumption | apply State.dropStep_steady | apply State.putLane_steady | split | intro _) | (intro _ he; cases he) | (intro he; cases he)

theorem State.noSpare_steady (h : Steady z s) : Steady z (State.noSpare s x1 x2 x3) := by
  unfold State.noSpare
  try dsimp only
  repeat' first | (with_reducible first | assumption | apply State.setFlagI_steady | apply State.putBit_steady | apply State.raise_steady | apply State.live_steady | apply State.logRetire_steady | apply State.put_steady | apply State.moveLane_steady | apply State.logMoves_steady | apply each_steady | split | intro _) | (intro _ he; cases he) | (intro he; cases he)

theorem State.retire_steady (h : Steady z s) : Steady z (State.retire s x1) := by
  unfold State.retire
  try dsimp only
  repeat' first | (with_reducible first | assumption | apply State.complete_steady | apply State.noSpare_steady | apply State.enqueue_steady | split | intro _) | (intro _ he; cases he) | (intro he; cases he)

theorem State.ledgerRow_steady (h : Steady z s) (hx3 : ∀ x s, Steady z s → Steady z (x3 x s)) : Steady z (State.ledgerRow s x1 x2 x3) := by
  unfold State.ledgerRow
  try dsimp only
  repeat' first | (with_reducible first | assumption | apply hx3 | apply State.issue_steady | apply State.withRunning_steady | apply State.setPhase_steady | split | intro _) | (intro _ he; cases he) | (intro he; cases he)

theorem execLdgFwWrite_steady : ∃ t, execLdgFwWrite x0 s = .next t ∧ Steady s t := by
  refine ⟨_, rfl, ?_⟩
  have h : Steady s s := Steady.refl s
  try dsimp only
  repeat' first | (with_reducible first | assumption | apply State.ledgerRow_steady | apply State.fwWrite_steady | split | intro _) | (intro _ he; cases he) | (intro he; cases he)

theorem execLdgFwSeal_steady : ∃ t, execLdgFwSeal x0 s = .next t ∧ Steady s t := by
  refine ⟨_, rfl, ?_⟩
  have h : Steady s s := Steady.refl s
  try dsimp only
  repeat' first | (with_reducible first | assumption | apply State.ledgerRow_steady | apply State.fwSeal_steady | split | intro _) | (intro _ he; cases he) | (intro he; cases he)

theorem execLdgFwActivate_steady : ∃ t, execLdgFwActivate x0 s = .next t ∧ Steady s t := by
  refine ⟨_, rfl, ?_⟩
  have h : Steady s s := Steady.refl s
  try dsimp only
  repeat' first | (with_reducible first | assumption | apply State.ledgerRow_steady | apply State.fwActivate_steady | split | intro _) | (intro _ he; cases he) | (intro he; cases he)

theorem execLdgUserWrite_steady : ∃ t, execLdgUserWrite x0 s = .next t ∧ Steady s t := by
  refine ⟨_, rfl, ?_⟩
  have h : Steady s s := Steady.refl s
  try dsimp only
  repeat' first | (with_reducible first | assumption | apply State.ledgerRow_steady | apply State.userWrite_steady | split | intro _) | (intro _ he; cases he) | (intro he; cases he)

theorem execLdgRetire_steady : ∃ t, execLdgRetire x0 s = .next t ∧ Steady s t := by
  refine ⟨_, rfl, ?_⟩
  have h : Steady s s := Steady.refl s
  try dsimp only
  repeat' first | (with_reducible first | assumption | apply State.ledgerRow_steady | apply State.retire_steady | split | intro _) | (intro _ he; cases he) | (intro he; cases he)

theorem State.ledgerAbandon_steady (h : Steady z s) : Steady z (State.ledgerAbandon s) := by
  unfold State.ledgerAbandon
  try dsimp only
  repeat' first | (with_reducible first | assumption | apply State.dropStep_steady | apply State.put_steady | split | intro _ | refine steady_mk ?_ rfl) | (intro _ he; cases he) | (intro he; cases he)

theorem State.ledgerReset_steady (h : Steady z s) : Steady z (State.ledgerReset s) := by
  unfold State.ledgerReset
  try dsimp only
  repeat' first | (with_reducible first | assumption | apply State.gap_steady | apply State.ledgerAbandon_steady | apply State.put_steady | apply each_steady | split | intro _ | refine steady_mk ?_ rfl) | (intro _ he; cases he) | (intro he; cases he)

theorem State.putAcc_steady (h : Steady z s) : Steady z (State.putAcc s x1) := by
  unfold State.putAcc
  try dsimp only
  repeat' first | (with_reducible first | assumption | apply State.wr_steady | split | intro _ | refine steady_mk ?_ rfl) | (intro _ he; cases he) | (intro he; cases he)

theorem State.gauShow_steady (h : Steady z s) : Steady z (State.gauShow s) := by
  unfold State.gauShow
  try dsimp only
  repeat' first | (with_reducible first | assumption | apply State.put_steady | split | intro _) | (intro _ he; cases he) | (intro he; cases he)

theorem State.recomputeQuse_steady (h : Steady z s) : Steady z (State.recomputeQuse s) := by
  unfold State.recomputeQuse
  try dsimp only
  repeat' first | (with_reducible first | assumption | apply State.wr_steady | apply State.gauShow_steady | apply State.put_steady | split | intro _ | refine steady_mk ?_ rfl) | (intro _ he; cases he) | (intro he; cases he)

theorem State.gaugeRecord_steady (h : Steady z s) : Steady z (State.gaugeRecord s x1) := by
  unfold State.gaugeRecord
  try dsimp only
  repeat' first | (with_reducible first | assumption | apply State.logRec_steady | split | intro _) | (intro _ he; cases he) | (intro he; cases he)

theorem State.anchor_steady (h : Steady z s) : Steady z (State.anchor s x1 x2 x3) := by
  unfold State.anchor
  try dsimp only
  repeat' first | (with_reducible first | assumption | apply State.putAcc_steady | apply State.putBit_steady | apply State.wr_steady | apply State.put_steady | apply State.gaugeRecord_steady | apply State.gauShow_steady | apply State.setFlag_steady | split | intro _ | refine steady_mk ?_ rfl) | (intro _ he; cases he) | (intro he; cases he)

theorem State.fullAnchor_steady (h : Steady z s) : Steady z (State.fullAnchor s) := by
  unfold State.fullAnchor
  try dsimp only
  repeat' first | (with_reducible first | assumption | apply State.anchor_steady | split | intro _) | (intro _ he; cases he) | (intro he; cases he)

theorem State.emptyAnchor_steady (h : Steady z s) : Steady z (State.emptyAnchor s) := by
  unfold State.emptyAnchor
  try dsimp only
  repeat' first | (with_reducible first | assumption | apply State.anchor_steady | split | intro _) | (intro _ he; cases he) | (intro he; cases he)

theorem State.gauFreeze_steady (h : Steady z s) : Steady z (State.gauFreeze s) := by
  unfold State.gauFreeze
  try dsimp only
  repeat' first | (with_reducible first | assumption | apply State.putBit_steady | apply State.put_steady | apply State.gaugeRecord_steady | apply State.gauShow_steady | apply State.setFlag_steady | split | intro _) | (intro _ he; cases he) | (intro he; cases he)

theorem State.setGau_steady (h : Steady z s) : Steady z (State.setGau s x1) := by
  unfold State.setGau
  try dsimp only
  repeat' first | (with_reducible first | assumption | apply State.gauShow_steady | apply State.put_steady | split | intro _) | (intro _ he; cases he) | (intro he; cases he)

theorem State.gauPack_steady (h : Steady z s) : Steady z (State.gauPack s) := by
  unfold State.gauPack
  try dsimp only
  repeat' first | (with_reducible first | assumption | apply State.setGau_steady | split | intro _ | refine steady_mk ?_ rfl) | (intro _ he; cases he) | (intro he; cases he)

theorem State.gauResume_steady (h : Steady z s) : Steady z (State.gauResume s) := by
  unfold State.gauResume
  try dsimp only
  repeat' first | (with_reducible first | assumption | apply State.setGau_steady | split | intro _) | (intro _ he; cases he) | (intro he; cases he)

theorem State.discharge_steady (h : Steady z s) : Steady z (State.discharge s x1) := by
  unfold State.discharge
  try dsimp only
  repeat' first | (with_reducible first | assumption | apply State.wr_steady | apply State.gaugeRecord_steady | apply State.recomputeQuse_steady | split | intro _ | refine steady_mk ?_ rfl) | (intro _ he; cases he) | (intro he; cases he)

theorem State.countTick_steady (h : Steady z s) : Steady z (State.countTick s x1) := by
  unfold State.countTick
  try dsimp only
  repeat' first | (with_reducible first | assumption | apply State.putAcc_steady | apply State.discharge_steady | split | intro _ | refine steady_mk ?_ rfl) | (intro _ he; cases he) | (intro he; cases he)

theorem State.countEarly_steady (h : Steady z s) : Steady z (State.countEarly s) := by
  unfold State.countEarly
  try dsimp only
  repeat' first | (with_reducible first | assumption | apply State.setFlag_steady | apply State.putBit_steady | split | intro _) | (intro _ he; cases he) | (intro he; cases he)

theorem State.bandTick_steady (h : Steady z s) : Steady z (State.bandTick s x1) := by
  unfold State.bandTick
  try dsimp only
  repeat' first | (with_reducible first | assumption | apply State.putBit_steady | apply State.setFlag_steady | split | intro _ | refine steady_mk ?_ rfl) | (intro _ he; cases he) | (intro he; cases he)

theorem State.steer_steady (h : Steady z s) : Steady z (State.steer s x1).2 := by
  unfold State.steer
  try dsimp only
  repeat' first | (with_reducible first | assumption | apply State.drawRat_steady | split | intro _) | (intro _ he; cases he) | (intro he; cases he)

theorem State.displayTick_steady (h : Steady z s) : Steady z (State.displayTick s x1 x2) := by
  unfold State.displayTick
  try dsimp only
  repeat' first | (with_reducible first | assumption | apply State.steer_steady | apply State.putBit_steady | split | intro _ | refine steady_mk ?_ rfl) | (intro _ he; cases he) | (intro he; cases he)

theorem execGaugeTick_steady : ∃ t, execGaugeTick x0 s = .next t ∧ Steady s t := by
  refine ⟨_, rfl, ?_⟩
  have h : Steady s s := Steady.refl s
  try dsimp only
  repeat' first | (with_reducible first | assumption | apply State.showIbat_steady | apply State.wr_steady | apply State.thermal_steady | apply State.put_steady | apply State.gauShow_steady | apply State.displayTick_steady | apply State.bandTick_steady | apply State.countEarly_steady | apply State.countTick_steady | split | intro _ | refine steady_mk ?_ rfl) | (intro _ he; cases he) | (intro he; cases he)

theorem execGauStale_steady : ∃ t, execGauStale s = .next t ∧ Steady s t := by
  refine ⟨_, rfl, ?_⟩
  have h : Steady s s := Steady.refl s
  try dsimp only
  repeat' first | (with_reducible first | assumption | apply State.setFlag_steady | apply State.putBit_steady | split | intro _) | (intro _ he; cases he) | (intro he; cases he)

theorem execGaugeHourlyRecord_steady : ∃ t, execGaugeHourlyRecord s = .next t ∧ Steady s t := by
  refine ⟨_, rfl, ?_⟩
  have h : Steady s s := Steady.refl s
  try dsimp only
  repeat' first | (with_reducible first | assumption | apply State.gaugeRecord_steady | split | intro _) | (intro _ he; cases he) | (intro he; cases he)

theorem State.wrCycles_steady (h : Steady z s) : Steady z (State.wrCycles s x1) := by
  unfold State.wrCycles
  try dsimp only
  repeat' first | (with_reducible first | assumption | apply State.wr_steady | apply State.setFlag_steady | split | intro _) | (intro _ he; cases he) | (intro he; cases he)

theorem execGauCyclesWrite_steady : ∃ t, execGauCyclesWrite x0 x1 x2 s = .next t ∧ Steady s t := by
  refine ⟨_, rfl, ?_⟩
  have h : Steady s s := Steady.refl s
  try dsimp only
  repeat' first | (with_reducible first | assumption | apply State.guardWrite_steady | apply State.wrCycles_steady | split | intro _) | (intro _ he; cases he) | (intro he; cases he)

theorem State.wrGauCfg_steady (h : Steady z s) (hx1 : ∀ q, x1 ≠ .EVT_QBASE q) : Steady z (State.wrGauCfg s x1 x2) := by
  unfold State.wrGauCfg
  try dsimp only
  repeat' first | (with_reducible first | assumption | apply State.recomputeQuse_steady | apply State.writeRw_steady | split | intro _) | (intro _ he; cases he) | (intro he; cases he)

theorem State.wrGauCtl_steady (h : Steady z s) : Steady z (State.wrGauCtl s x1) := by
  unfold State.wrGauCtl
  try dsimp only
  repeat' first | (with_reducible first | assumption | apply State.putBit_steady | apply State.wr_steady | apply State.put_steady | apply State.gauShow_steady | apply State.setFlag_steady | split | intro _ | refine steady_mk ?_ rfl) | (intro _ he; cases he) | (intro he; cases he)

theorem execNewpack_steady : ∃ t, execNewpack x0 x1 x2 s = .next t ∧ Steady s t := by
  refine ⟨_, rfl, ?_⟩
  have h : Steady s s := Steady.refl s
  try dsimp only
  repeat' first | (with_reducible first | assumption | apply State.guardSent_steady | apply State.wrGauCtl_steady | split | intro _) | (intro _ he; cases he) | (intro he; cases he)

theorem State.rdAccLo_steady (h : Steady z s) : Steady z (State.rdAccLo s x1).2 := by
  unfold State.rdAccLo
  try dsimp only
  repeat' first | (with_reducible first | assumption | split | intro _ | refine steady_mk ?_ rfl) | (intro _ he; cases he) | (intro he; cases he)

theorem State.setHot_steady (h : Steady z s) : Steady z (State.setHot s x1 x2) := by
  unfold State.setHot
  try dsimp only
  repeat' first | (with_reducible first | assumption | split | intro _ | refine steady_mk ?_ rfl) | (intro _ he; cases he) | (intro he; cases he)

theorem State.hotMark_steady (h : Steady z s) : Steady z (State.hotMark s x1) := by
  unfold State.hotMark
  try dsimp only
  repeat' first | (with_reducible first | assumption | apply State.setHot_steady | split | intro _) | (intro _ he; cases he) | (intro he; cases he)

theorem State.park_steady (h : Steady z s) : Steady z (State.park s x1 x2) := by
  unfold State.park
  try dsimp only
  repeat' first | (with_reducible first | assumption | apply State.setHot_steady | apply State.unsettle_steady | apply State.put_steady | apply State.message_steady | apply State.putStgX_steady | split | intro _) | (intro _ he; cases he) | (intro he; cases he)

theorem State.unpark_steady (h : Steady z s) : Steady z (State.unpark s x1 x2) := by
  unfold State.unpark
  try dsimp only
  repeat' first | (with_reducible first | assumption | apply State.message_steady | apply State.stageTest_steady | split | intro _) | (intro _ he; cases he) | (intro he; cases he)

theorem State.ffMode_steady (h : Steady z s) : Steady z (State.ffMode s x1 x2) := by
  unfold State.ffMode
  try dsimp only
  repeat' first | (with_reducible first | assumption | apply State.draw_steady | apply State.putBit_steady | apply State.message_steady | split | intro _ | refine steady_mk ?_ rfl) | (intro _ he; cases he) | (intro he; cases he)

theorem State.ffReturn_steady (h : Steady z s) : Steady z (State.ffReturn s) := by
  unfold State.ffReturn
  try dsimp only
  repeat' first | (with_reducible first | assumption | apply State.ffMode_steady | apply each_steady | split | intro _) | (intro _ he; cases he) | (intro he; cases he)

theorem State.rideBegin_steady (h : Steady z s) : Steady z (State.rideBegin s x1) := by
  unfold State.rideBegin
  try dsimp only
  repeat' first | (with_reducible first | assumption | apply State.putBit_steady | split | intro _ | refine steady_mk ?_ rfl) | (intro _ he; cases he) | (intro he; cases he)

theorem State.setChg_steady (h : Steady z s) : Steady z (State.setChg s x1) := by
  unfold State.setChg
  try dsimp only
  repeat' first | (with_reducible first | assumption | apply State.put_steady | apply State.condFall_steady | apply State.happen_steady | apply State.fullAnchor_steady | apply State.condRise_steady | apply State.chargerLoops_steady | split | intro _) | (intro _ he; cases he) | (intro he; cases he)

theorem State.setPath_steady (h : Steady z s) : Steady z (State.setPath s x1) := by
  unfold State.setPath
  try dsimp only
  repeat' first | (with_reducible first | assumption | apply State.ffReturn_steady | apply State.put_steady | apply State.live_steady | apply State.putBit_steady | split | intro _) | (intro _ he; cases he) | (intro he; cases he)

theorem State.putSrcOk_steady (h : Steady z s) : Steady z (State.putSrcOk s x1) := by
  unfold State.putSrcOk
  try dsimp only
  repeat' first | (with_reducible first | assumption | apply State.putBit_steady | split | intro _) | (intro _ he; cases he) | (intro he; cases he)

theorem State.enterBattery_steady (h : Steady z s) : Steady z (State.enterBattery s) := by
  unfold State.enterBattery
  try dsimp only
  repeat' first | (with_reducible first | assumption | apply State.setPath_steady | split | intro _) | (intro _ he; cases he) | (intro he; cases he)

theorem State.chgStart_steady (h : Steady z s) : Steady z (State.chgStart s) := by
  unfold State.chgStart
  try dsimp only
  repeat' first | (with_reducible first | assumption | apply State.setChg_steady | split | intro _) | (intro _ he; cases he) | (intro he; cases he)

theorem execSourceLoss_steady : ∃ t, execSourceLoss x0 x1 s = .next t ∧ Steady s t := by
  refine ⟨_, rfl, ?_⟩
  have h : Steady s s := Steady.refl s
  try dsimp only
  repeat' first | (with_reducible first | assumption | apply State.putSrcOk_steady | apply State.rideBegin_steady | apply State.setChg_steady | apply State.setPath_steady | apply State.setFlag_steady | apply State.addSat_steady | split | intro _) | (intro _ he; cases he) | (intro he; cases he)

theorem execHandoverComplete_steady : ∃ t, execHandoverComplete x0 s = .next t ∧ Steady s t := by
  refine ⟨_, rfl, ?_⟩
  have h : Steady s s := Steady.refl s
  try dsimp only
  repeat' first | (with_reducible first | assumption | apply State.enterBattery_steady | apply State.putSrcOk_steady | split | intro _) | (intro _ he; cases he) | (intro he; cases he)

theorem execHandoverTimeout_steady : ∃ t, execHandoverTimeout s = .next t ∧ Steady s t := by
  refine ⟨_, rfl, ?_⟩
  have h : Steady s s := Steady.refl s
  try dsimp only
  repeat' first | (with_reducible first | assumption | apply State.raise_steady | split | intro _) | (intro _ he; cases he) | (intro he; cases he)

theorem execSysSag_steady : ∃ t, execSysSag s = .next t ∧ Steady s t := by
  refine ⟨_, rfl, ?_⟩
  have h : Steady s s := Steady.refl s
  try dsimp only
  repeat' first | (with_reducible first | assumption | apply State.raise_steady | split | intro _) | (intro _ he; cases he) | (intro he; cases he)

theorem execSourceReturn_steady : ∃ t, execSourceReturn s = .next t ∧ Steady s t := by
  refine ⟨_, rfl, ?_⟩
  have h : Steady s s := Steady.refl s
  try dsimp only
  repeat' first | (with_reducible first | assumption | apply State.putSrcOk_steady | apply State.setPath_steady | split | intro _) | (intro _ he; cases he) | (intro he; cases he)

theorem State.rejectReturn_steady (h : Steady z s) : Steady z (State.rejectReturn s) := by
  unfold State.rejectReturn
  try dsimp only
  repeat' first | (with_reducible first | assumption | apply State.setFlag_steady | apply State.addSat_steady | split | intro _) | (intro _ he; cases he) | (intro he; cases he)

theorem execPathRetrej_steady : ∃ t, execPathRetrej s = .next t ∧ Steady s t := by
  refine ⟨_, rfl, ?_⟩
  have h : Steady s s := Steady.refl s
  try dsimp only
  repeat' first | (with_reducible first | assumption | apply State.putSrcOk_steady | apply State.rejectReturn_steady | apply State.setPath_steady | split | intro _) | (intro _ he; cases he) | (intro he; cases he)

theorem execHandbackStart_steady : ∃ t, execHandbackStart s = .next t ∧ Steady s t := by
  refine ⟨_, rfl, ?_⟩
  have h : Steady s s := Steady.refl s
  try dsimp only
  repeat' first | (with_reducible first | assumption | apply State.setPath_steady | split | intro _) | (intro _ he; cases he) | (intro he; cases he)

theorem execPathHandback_steady : ∃ t, execPathHandback s = .next t ∧ Steady s t := by
  refine ⟨_, rfl, ?_⟩
  have h : Steady s s := Steady.refl s
  try dsimp only
  repeat' first | (with_reducible first | assumption | apply State.chgStart_steady | apply State.happen_steady | apply State.setPath_steady | split | intro _) | (intro _ he; cases he) | (intro he; cases he)

theorem execHandbackTimeout_steady : ∃ t, execHandbackTimeout s = .next t ∧ Steady s t := by
  refine ⟨_, rfl, ?_⟩
  have h : Steady s s := Steady.refl s
  try dsimp only
  repeat' first | (with_reducible first | assumption | apply State.setFlag_steady | apply State.rejectReturn_steady | apply State.enterBattery_steady | split | intro _) | (intro _ he; cases he) | (intro he; cases he)

theorem execBatCut_steady : ∃ t, execBatCut s = .next t ∧ Steady s t := by
  refine ⟨_, rfl, ?_⟩
  have h : Steady s s := Steady.refl s
  try dsimp only
  repeat' first | (with_reducible first | assumption | apply State.raise_steady | apply State.emptyAnchor_steady | apply State.setFlag_steady | apply State.live_steady | apply State.putBit_steady | split | intro _) | (intro _ he; cases he) | (intro he; cases he)

theorem State.contact_steady (h : Steady z s) : Steady z (State.contact s x1) := by
  unfold State.contact
  try dsimp only
  repeat' first | (with_reducible first | assumption | apply State.put_steady | split | intro _) | (intro _ he; cases he) | (intro he; cases he)

theorem State.dropHeld_steady (h : Steady z s) : Steady z (State.dropHeld s) := by
  unfold State.dropHeld
  try dsimp only
  repeat' first | (with_reducible first | assumption | apply State.put_steady | apply State.dropRequests_steady | apply each_steady | split | intro _) | (intro _ he; cases he) | (intro he; cases he)

theorem State.allOff_steady (h : Steady z s) : Steady z (State.allOff s) := by
  unfold State.allOff
  try dsimp only
  repeat' first | (with_reducible first | assumption | apply State.hostGroup_steady | apply State.railOff_steady | apply each_steady | split | intro _) | (intro _ he; cases he) | (intro he; cases he)

theorem State.wrShip_steady (h : Steady z s) : Steady z (State.wrShip s x1) := by
  unfold State.wrShip
  try dsimp only
  repeat' first | (with_reducible first | assumption | apply State.allOff_steady | apply State.dropHeld_steady | apply State.putBit_steady | split | intro _) | (intro _ he; cases he) | (intro he; cases he)

theorem execShipRequest_steady : ∃ t, execShipRequest x0 s = .next t ∧ Steady s t := by
  refine ⟨_, rfl, ?_⟩
  have h : Steady s s := Steady.refl s
  try dsimp only
  repeat' first | (with_reducible first | assumption | apply State.guardWrite_steady | apply State.wrShip_steady | apply State.contact_steady | split | intro _) | (intro _ he; cases he) | (intro he; cases he)

theorem execShipCancel_steady : ∃ t, execShipCancel x0 s = .next t ∧ Steady s t := by
  refine ⟨_, rfl, ?_⟩
  have h : Steady s s := Steady.refl s
  try dsimp only
  repeat' first | (with_reducible first | assumption | apply State.guardWrite_steady | apply State.wrShip_steady | apply State.contact_steady | split | intro _) | (intro _ he; cases he) | (intro he; cases he)

theorem execButtonChange_steady : ∃ t, execButtonChange x0 s = .next t ∧ Steady s t := by
  refine ⟨_, rfl, ?_⟩
  have h : Steady s s := Steady.refl s
  try dsimp only
  repeat' first | (with_reducible first | assumption | apply State.putBit_steady | split | intro _ | refine steady_mk ?_ rfl) | (intro _ he; cases he) | (intro he; cases he)

theorem State.chgFollow_steady (h : Steady z s) : Steady z (State.chgFollow x0 s) := by
  unfold State.chgFollow
  try dsimp only
  repeat' first | (with_reducible first | assumption | apply State.setChg_steady | apply State.chgStart_steady | split | intro _) | (intro _ he; cases he) | (intro he; cases he)

theorem State.wrBatcfg_steady (h : Steady z s) : Steady z (State.wrBatcfg s x1) := by
  unfold State.wrBatcfg
  try dsimp only
  repeat' first | (with_reducible first | assumption | apply State.writeRw_steady | apply State.put_steady | apply State.gauPack_steady | apply State.chgFollow_steady | apply State.setFlag_steady | split | intro _) | (intro _ he; cases he) | (intro he; cases he)

theorem execBkpBatcfgWrite_steady : ∃ t, execBkpBatcfgWrite x0 x1 x2 s = .next t ∧ Steady s t := by
  refine ⟨_, rfl, ?_⟩
  have h : Steady s s := Steady.refl s
  try dsimp only
  repeat' first | (with_reducible first | assumption | apply State.guardWrite_steady | apply State.wrBatcfg_steady | apply State.contact_steady | split | intro _) | (intro _ he; cases he) | (intro he; cases he)

theorem State.wrChg_steady (h : Steady z s) : Steady z (State.wrChg s x1 x2) := by
  unfold State.wrChg
  try dsimp only
  repeat' first | (with_reducible first | assumption | apply State.putBit_steady | apply State.writeRw_steady | apply State.chgFollow_steady | apply State.setFlag_steady | split | intro _) | (intro _ he; cases he) | (intro he; cases he)

theorem execBkpChgWrite_steady : ∃ t, execBkpChgWrite x0 x1 x2 s = .next t ∧ Steady s t := by
  refine ⟨_, rfl, ?_⟩
  have h : Steady s s := Steady.refl s
  try dsimp only
  repeat' first | (with_reducible first | assumption | apply State.guardWrite_steady | apply State.wrChg_steady | apply State.contact_steady | split | intro _) | (intro _ he; cases he) | (intro he; cases he)

theorem State.wrPath_steady (h : Steady z s) : Steady z (State.wrPath s x1) := by
  unfold State.wrPath
  try dsimp only
  repeat' first | (with_reducible first | assumption | apply State.writeRw_steady | split | intro _) | (intro _ he; cases he) | (intro he; cases he)

theorem execBkpPathWrite_steady : ∃ t, execBkpPathWrite x0 x1 x2 s = .next t ∧ Steady s t := by
  refine ⟨_, rfl, ?_⟩
  have h : Steady s s := Steady.refl s
  try dsimp only
  repeat' first | (with_reducible first | assumption | apply State.guardWrite_steady | apply State.wrPath_steady | apply State.contact_steady | split | intro _) | (intro _ he; cases he) | (intro he; cases he)

theorem State.wrQual_steady (h : Steady z s) : Steady z (State.wrQual s x1) := by
  unfold State.wrQual
  try dsimp only
  repeat' first | (with_reducible first | assumption | apply State.writeRw_steady | split | intro _) | (intro _ he; cases he) | (intro he; cases he)

theorem execBkpQualWrite_steady : ∃ t, execBkpQualWrite x0 x1 x2 s = .next t ∧ Steady s t := by
  refine ⟨_, rfl, ?_⟩
  have h : Steady s s := Steady.refl s
  try dsimp only
  repeat' first | (with_reducible first | assumption | apply State.guardWrite_steady | apply State.wrQual_steady | apply State.contact_steady | split | intro _) | (intro _ he; cases he) | (intro he; cases he)

theorem State.wrBkpTimer_steady (h : Steady z s) : Steady z (State.wrBkpTimer s x1) := by
  unfold State.wrBkpTimer
  try dsimp only
  repeat' first | (with_reducible first | assumption | apply State.writeRw_steady | split | intro _) | (intro _ he; cases he) | (intro he; cases he)

theorem State.wrBtn_steady (h : Steady z s) : Steady z (State.wrBtn s x1) := by
  unfold State.wrBtn
  try dsimp only
  repeat' first | (with_reducible first | assumption | apply State.writeRw_steady | split | intro _) | (intro _ he; cases he) | (intro he; cases he)

theorem execKick_steady : ∃ t, execKick x0 x1 x2 s = .next t ∧ Steady s t := by
  refine ⟨_, rfl, ?_⟩
  have h : Steady s s := Steady.refl s
  try dsimp only
  repeat' first | (with_reducible first | assumption | apply State.guardWrite_steady | apply State.contact_steady | apply State.writeRw_steady | split | intro _) | (intro _ he; cases he) | (intro he; cases he)

theorem execChgWdog_steady : ∃ t, execChgWdog s = .next t ∧ Steady s t := by
  refine ⟨_, rfl, ?_⟩
  have h : Steady s s := Steady.refl s
  try dsimp only
  repeat' first | (with_reducible first | assumption | apply State.put_steady | apply State.wr_steady | apply State.setFlag_steady | apply State.putBit_steady | apply State.chgFollow_steady | split | intro _) | (intro _ he; cases he) | (intro he; cases he)

theorem State.wrBkpFlag_steady (h : Steady z s) : Steady z (State.wrBkpFlag s x1) := by
  unfold State.wrBkpFlag
  try dsimp only
  repeat' first | (with_reducible first | assumption | apply State.clearFlags_steady | apply State.setChg_steady | split | intro _) | (intro _ he; cases he) | (intro he; cases he)

theorem execBkpFlagWrite_steady : ∃ t, execBkpFlagWrite x0 x1 x2 s = .next t ∧ Steady s t := by
  refine ⟨_, rfl, ?_⟩
  have h : Steady s s := Steady.refl s
  try dsimp only
  repeat' first | (with_reducible first | assumption | apply State.guardWrite_steady | apply State.wrBkpFlag_steady | apply State.contact_steady | split | intro _) | (intro _ he; cases he) | (intro he; cases he)

theorem execCheckEnd_steady : ∃ t, execCheckEnd x0 s = .next t ∧ Steady s t := by
  refine ⟨_, rfl, ?_⟩
  have h : Steady s s := Steady.refl s
  try dsimp only
  repeat' first | (with_reducible first | assumption | apply State.setChg_steady | split | intro _) | (intro _ he; cases he) | (intro he; cases he)

theorem execPrechargeEnd_steady : ∃ t, execPrechargeEnd s = .next t ∧ Steady s t := by
  refine ⟨_, rfl, ?_⟩
  have h : Steady s s := Steady.refl s
  try dsimp only
  repeat' first | (with_reducible first | assumption | apply State.setChg_steady | split | intro _) | (intro _ he; cases he) | (intro he; cases he)

theorem execCvEntry_steady : ∃ t, execCvEntry s = .next t ∧ Steady s t := by
  refine ⟨_, rfl, ?_⟩
  have h : Steady s s := Steady.refl s
  try dsimp only
  repeat' first | (with_reducible first | assumption | apply State.setChg_steady | split | intro _) | (intro _ he; cases he) | (intro he; cases he)

theorem execChgDone_steady : ∃ t, execChgDone s = .next t ∧ Steady s t := by
  refine ⟨_, rfl, ?_⟩
  have h : Steady s s := Steady.refl s
  try dsimp only
  repeat' first | (with_reducible first | assumption | apply State.setChg_steady | split | intro _) | (intro _ he; cases he) | (intro he; cases he)

theorem execRecharge_steady : ∃ t, execRecharge s = .next t ∧ Steady s t := by
  refine ⟨_, rfl, ?_⟩
  have h : Steady s s := Steady.refl s
  try dsimp only
  repeat' first | (with_reducible first | assumption | apply State.setChg_steady | split | intro _) | (intro _ he; cases he) | (intro he; cases he)

theorem execPackTempOut_steady : ∃ t, execPackTempOut s = .next t ∧ Steady s t := by
  refine ⟨_, rfl, ?_⟩
  have h : Steady s s := Steady.refl s
  try dsimp only
  repeat' first | (with_reducible first | assumption | apply State.setChg_steady | split | intro _) | (intro _ he; cases he) | (intro he; cases he)

theorem execPackTempBack_steady : ∃ t, execPackTempBack s = .next t ∧ Steady s t := by
  refine ⟨_, rfl, ?_⟩
  have h : Steady s s := Steady.refl s
  try dsimp only
  repeat' first | (with_reducible first | assumption | apply State.setChg_steady | split | intro _) | (intro _ he; cases he) | (intro he; cases he)

theorem execBatAbsent_steady : ∃ t, execBatAbsent s = .next t ∧ Steady s t := by
  refine ⟨_, rfl, ?_⟩
  have h : Steady s s := Steady.refl s
  try dsimp only
  repeat' first | (with_reducible first | assumption | apply State.gauFreeze_steady | apply State.setFlag_steady | apply State.putBit_steady | apply State.setChg_steady | split | intro _) | (intro _ he; cases he) | (intro he; cases he)

theorem execBatPresent_steady : ∃ t, execBatPresent s = .next t ∧ Steady s t := by
  refine ⟨_, rfl, ?_⟩
  have h : Steady s s := Steady.refl s
  try dsimp only
  repeat' first | (with_reducible first | assumption | apply State.gauResume_steady | apply State.happen_steady | apply State.putBit_steady | apply State.setChg_steady | apply State.chgStart_steady | split | intro _) | (intro _ he; cases he) | (intro he; cases he)

theorem execChgTimer_steady : ∃ t, execChgTimer s = .next t ∧ Steady s t := by
  refine ⟨_, rfl, ?_⟩
  have h : Steady s s := Steady.refl s
  try dsimp only
  repeat' first | (with_reducible first | assumption | apply State.raise_steady | apply State.setFlag_steady | apply State.setChg_steady | split | intro _) | (intro _ he; cases he) | (intro he; cases he)

theorem execChgOv_steady : ∃ t, execChgOv s = .next t ∧ Steady s t := by
  refine ⟨_, rfl, ?_⟩
  have h : Steady s s := Steady.refl s
  try dsimp only
  repeat' first | (with_reducible first | assumption | apply State.raise_steady | apply State.setFlag_steady | apply State.setChg_steady | split | intro _) | (intro _ he; cases he) | (intro he; cases he)

theorem State.periodStart_steady (h : Steady z s) : Steady z (State.periodStart s x1) := by
  unfold State.periodStart
  try dsimp only
  repeat' first | (with_reducible first | assumption | apply State.put_steady | apply State.putBit_steady | split | intro _) | (intro _ he; cases he) | (intro he; cases he)

theorem State.wrWdgCfg_steady (h : Steady z s) : Steady z (State.wrWdgCfg s x1 x2) := by
  unfold State.wrWdgCfg
  try dsimp only
  repeat' first | (with_reducible first | assumption | apply State.setFlag_steady | apply State.writeRw_steady | apply State.periodStart_steady | apply State.put_steady | apply State.putBit_steady | split | intro _) | (intro _ he; cases he) | (intro he; cases he)

theorem State.ownTasks_steady (h : Steady z s) : Steady z (State.ownTasks s) := by
  unfold State.ownTasks
  try dsimp only
  repeat' first | (with_reducible first | assumption | apply State.wrWdgCfg_steady | split | intro _) | (intro _ he; cases he) | (intro he; cases he)

theorem State.wrWdgCtl_steady (h : Steady z s) : Steady z (State.wrWdgCtl s x1) := by
  unfold State.wrWdgCtl
  try dsimp only
  repeat' first | (with_reducible first | assumption | apply State.setFlag_steady | apply State.writeRw_steady | split | intro _) | (intro _ he; cases he) | (intro he; cases he)

theorem execTaskRegister_steady : ∃ t, execTaskRegister x0 x1 x2 x3 s = .next t ∧ Steady s t := by
  refine ⟨_, rfl, ?_⟩
  have h : Steady s s := Steady.refl s
  try dsimp only
  repeat' first | (with_reducible first | assumption | apply State.guardWrite_steady | apply State.wrWdgCfg_steady | split | intro _) | (intro _ he; cases he) | (intro he; cases he)

theorem execWdgCtlWrite_steady : ∃ t, execWdgCtlWrite x0 x1 x2 s = .next t ∧ Steady s t := by
  refine ⟨_, rfl, ?_⟩
  have h : Steady s s := Steady.refl s
  try dsimp only
  repeat' first | (with_reducible first | assumption | apply State.guardWrite_steady | apply State.wrWdgCtl_steady | split | intro _) | (intro _ he; cases he) | (intro he; cases he)

theorem State.gatesDown_steady (h : Steady z s) : Steady z (State.gatesDown s) := by
  unfold State.gatesDown
  try dsimp only
  repeat' first | (with_reducible first | assumption | apply State.resetLow_steady | apply each_steady | split | intro _ | refine steady_mk ?_ rfl) | (intro _ he; cases he) | (intro he; cases he)

theorem State.cxEnd_steady (h : Steady z s) : Steady z (State.cxEnd s x1 x2) := by
  unfold State.cxEnd
  try dsimp only
  repeat' first | (with_reducible first | assumption | apply State.put_steady | apply State.putBit_steady | apply State.setFlagI_steady | split | intro _ | refine steady_mk ?_ rfl) | (intro _ he; cases he) | (intro he; cases he)

theorem State.cxAbort_steady (h : Steady z s) : Steady z (State.cxAbort s) := by
  unfold State.cxAbort
  try dsimp only
  repeat' first | (with_reducible first | assumption | apply State.draw_steady | apply State.cxEnd_steady | split | intro _) | (intro _ he; cases he) | (intro he; cases he)

theorem State.deepAbandon_steady (h : Steady z s) : Steady z (State.deepAbandon s) := by
  unfold State.deepAbandon
  try dsimp only
  repeat' first | (with_reducible first | assumption | apply State.put_steady | split | intro _ | refine steady_mk ?_ rfl) | (intro _ he; cases he) | (intro he; cases he)

theorem State.expire_steady (h : Steady z s) : Steady z (State.expire s x1 x2 x3) := by
  unfold State.expire
  try dsimp only
  repeat' first | (with_reducible first | assumption | apply State.wr_steady | apply State.addSat_steady | apply State.deepAbandon_steady | apply State.cxAbort_steady | apply State.ledgerAbandon_steady | apply State.allOff_steady | apply State.rampDown_steady | apply State.gatesDown_steady | apply each_steady | split | intro _ | refine steady_mk ?_ rfl) | (intro _ he; cases he) | (intro he; cases he)

theorem execDrainTimeout_steady : ∃ t, execDrainTimeout s = .next t ∧ Steady s t := by
  refine ⟨_, rfl, ?_⟩
  have h : Steady s s := Steady.refl s
  try dsimp only
  repeat' first | (with_reducible first | assumption | apply State.gatesDown_steady | split | intro _ | refine steady_mk ?_ rfl) | (intro _ he; cases he) | (intro he; cases he)

theorem State.tokenIn_steady (h : Steady z s) : Steady z (State.tokenIn s x1).1 := by
  unfold State.tokenIn
  try dsimp only
  repeat' first | (with_reducible first | assumption | apply State.put_steady | apply State.putBit_steady | split | intro _) | (intro _ he; cases he) | (intro he; cases he)

theorem State.periodsEnd_steady (h : Steady z s) : Steady z (State.periodsEnd s x1) := by
  unfold State.periodsEnd
  try dsimp only
  repeat' first | (with_reducible first | assumption | apply State.periodStart_steady | apply each_steady | split | intro _) | (intro _ he; cases he) | (intro he; cases he)

theorem State.fails_steady (h : Steady z s) : Steady z (State.fails s x1) := by
  unfold State.fails
  try dsimp only
  repeat' first | (with_reducible first | assumption | apply State.expire_steady | split | intro _) | (intro _ he; cases he) | (intro he; cases he)

theorem State.edgeReport_steady (h : Steady z s) : Steady z (State.edgeReport s x1 x2) := by
  unfold State.edgeReport
  try dsimp only
  repeat' first | (with_reducible first | assumption | apply State.setFlagI_steady | apply State.addSat_steady | apply State.wr_steady | split | intro _) | (intro _ he; cases he) | (intro he; cases he)

theorem State.tokenEdge_steady (h : Steady z s) : Steady z (State.tokenEdge s x1 x2).1 := by
  unfold State.tokenEdge
  try dsimp only
  repeat' first | (with_reducible first | assumption | apply State.edgeReport_steady | apply State.tokenIn_steady | apply State.putBit_steady | apply State.periodStart_steady | split | intro _) | (intro _ he; cases he) | (intro he; cases he)

theorem State.judgeToken_steady (h : Steady z s) : Steady z (State.judgeToken s x1 x2 x3).1 := by
  unfold State.judgeToken
  try dsimp only
  repeat' first | (with_reducible first | assumption | apply State.setFlagI_steady | apply State.tokenEdge_steady | apply State.tokenIn_steady | split | intro _) | (intro _ he; cases he) | (intro he; cases he)

theorem State.wrToken_steady (h : Steady z s) : Steady z (State.wrToken s x1 x2 x3 x4) := by
  unfold State.wrToken
  try dsimp only
  repeat' first | (with_reducible first | assumption | apply State.judgeToken_steady | apply State.fails_steady | apply State.periodsEnd_steady | split | intro _) | (intro _ he; cases he) | (intro he; cases he)

theorem execToken_steady : ∃ t, execToken x0 x1 x2 x3 s = .next t ∧ Steady s t := by
  refine ⟨_, rfl, ?_⟩
  have h : Steady s s := Steady.refl s
  try dsimp only
  repeat' first | (with_reducible first | assumption | apply State.guardSent_steady | apply State.wrToken_steady | split | intro _) | (intro _ he; cases he) | (intro he; cases he)

theorem execWindowOpen_steady : ∃ t, execWindowOpen x0 s = .next t ∧ Steady s t := by
  refine ⟨_, rfl, ?_⟩
  have h : Steady s s := Steady.refl s
  try dsimp only
  repeat' first | (with_reducible first | assumption | apply State.putBit_steady | split | intro _) | (intro _ he; cases he) | (intro he; cases he)

theorem execPeriodEnd_steady : ∃ t, execPeriodEnd x0 x1 s = .next t ∧ Steady s t := by
  refine ⟨_, rfl, ?_⟩
  have h : Steady s s := Steady.refl s
  try dsimp only
  repeat' first | (with_reducible first | assumption | apply State.fails_steady | apply State.periodsEnd_steady | split | intro _) | (intro _ he; cases he) | (intro he; cases he)

theorem execWdgWarn_steady : ∃ t, execWdgWarn x0 s = .next t ∧ Steady s t := by
  refine ⟨_, rfl, ?_⟩
  have h : Steady s s := Steady.refl s
  try dsimp only
  repeat' first | (with_reducible first | assumption | apply State.setFlagI_steady | split | intro _) | (intro _ he; cases he) | (intro he; cases he)

end Sys2Proof.Machine
end

