-- ==== Sys2Proof/Laws/SteadyLine.lean ====
section
/-! SUPPORT. The operations of the Line, events, flows, station time, crossings, policy and the survey converters store into queued event records alone. -/

namespace Sys2Proof.Machine

variable {z s : State}

theorem State.setTim_steady (h : Steady z s) : Steady z (State.setTim s x1) := by
  unfold State.setTim
  try dsimp only
  repeat' first | (with_reducible first | assumption | apply State.put_steady | apply State.setFlag_steady | split | intro _) | (intro _ he; cases he) | (intro he; cases he)

theorem State.timFollow_steady (h : Steady z s) : Steady z (State.timFollow s) := by
  unfold State.timFollow
  try dsimp only
  repeat' first | (with_reducible first | assumption | apply State.setTim_steady | apply State.put_steady | apply State.putBit_steady | split | intro _ | refine steady_mk ?_ rfl) | (intro _ he; cases he) | (intro he; cases he)

theorem State.sendRouted_steady (h : Steady z s) : Steady z (State.sendRouted s x1) := by
  unfold State.sendRouted
  try dsimp only
  repeat' first | (with_reducible first | assumption | apply State.send_steady | split | intro _) | (intro _ he; cases he) | (intro he; cases he)

theorem State.sendPath_steady (h : Steady z s) : Steady z (State.sendPath s x1 x2 x3) := by
  unfold State.sendPath
  try dsimp only
  repeat' first | (with_reducible first | assumption | apply State.send_steady | split | intro _) | (intro _ he; cases he) | (intro he; cases he)

theorem State.unreach_steady (h : Steady z s) : Steady z (State.unreach s x1 x2) := by
  unfold State.unreach
  try dsimp only
  repeat' first | (with_reducible first | assumption | apply State.setFlagI_steady | apply State.addSat_steady | split | intro _) | (intro _ he; cases he) | (intro he; cases he)

theorem State.portChar_steady (h : Steady z s) : Steady z (State.portChar s x1) := by
  unfold State.portChar
  try dsimp only
  repeat' first | (with_reducible first | assumption | split | intro _ | refine steady_mk ?_ rfl) | (intro _ he; cases he) | (intro he; cases he)

theorem State.setPort_steady (h : Steady z s) : Steady z (State.setPort s x1 x2) := by
  unfold State.setPort
  try dsimp only
  repeat' first | (with_reducible first | assumption | apply State.put_steady | split | intro _) | (intro _ he; cases he) | (intro he; cases he)

theorem State.dropTx_steady (h : Steady z s) : Steady z (State.dropTx s x1 x2) := by
  unfold State.dropTx
  try dsimp only
  repeat' first | (with_reducible first | assumption | split | intro _ | refine steady_mk ?_ rfl) | (intro _ he; cases he) | (intro he; cases he)

theorem State.portOff_steady (h : Steady z s) : Steady z (State.portOff s x1) := by
  unfold State.portOff
  try dsimp only
  repeat' first | (with_reducible first | assumption | apply State.putBit_steady | apply State.wr_steady | apply State.dropTx_steady | split | intro _ | refine steady_mk ?_ rfl) | (intro _ he; cases he) | (intro he; cases he)

theorem State.followPort_steady (h : Steady z s) : Steady z (State.followPort s x1) := by
  unfold State.followPort
  try dsimp only
  repeat' first | (with_reducible first | assumption | apply State.live_steady | apply State.setPort_steady | apply State.portOff_steady | split | intro _) | (intro _ he; cases he) | (intro he; cases he)

theorem State.followEn_steady (h : Steady z s) : Steady z (State.followEn s) := by
  unfold State.followEn
  try dsimp only
  repeat' first | (with_reducible first | assumption | apply State.followPort_steady | apply each_steady | split | intro _) | (intro _ he; cases he) | (intro he; cases he)

theorem State.requeue_steady (h : Steady z s) : Steady z (State.requeue s x1 x2) := by
  unfold State.requeue
  try dsimp only
  repeat' first | (with_reducible first | assumption | apply State.unreach_steady | apply State.send_steady | split | intro _) | (intro _ he; cases he) | (intro he; cases he)

theorem State.surveyEnd_steady (h : Steady z s) : Steady z (State.surveyEnd s x1 x2 x3) := by
  unfold State.surveyEnd
  try dsimp only
  repeat' first | (with_reducible first | assumption | apply State.put_steady | apply State.putBit_steady | apply State.complete_steady | split | intro _ | refine steady_mk ?_ rfl) | (intro _ he; cases he) | (intro he; cases he)

theorem State.portLost_steady (h : Steady z s) : Steady z (State.portLost s x1) := by
  unfold State.portLost
  try dsimp only
  repeat' first | (with_reducible first | assumption | apply State.addSat_steady | apply State.setPort_steady | apply State.dropTx_steady | apply State.raise_steady | apply State.live_steady | apply State.setFlagI_steady | apply State.requeue_steady | apply State.surveyEnd_steady | apply each_steady | split | intro _) | (intro _ he; cases he) | (intro he; cases he)

theorem State.wrLnkCfg_steady (h : Steady z s) : Steady z (State.wrLnkCfg s x1 x2) := by
  unfold State.wrLnkCfg
  try dsimp only
  repeat' first | (with_reducible first | assumption | apply State.followEn_steady | apply State.writeRw_steady | split | intro _) | (intro _ he; cases he) | (intro he; cases he)

theorem State.wrPortCfg_steady (h : Steady z s) : Steady z (State.wrPortCfg s x1 x2) := by
  unfold State.wrPortCfg
  try dsimp only
  repeat' first | (with_reducible first | assumption | apply State.followEn_steady | apply State.writeRw_steady | split | intro _) | (intro _ he; cases he) | (intro he; cases he)

theorem State.wrPool_steady (h : Steady z s) : Steady z (State.wrPool s x1) := by
  unfold State.wrPool
  try dsimp only
  repeat' first | (with_reducible first | assumption | apply State.writeRw_steady | split | intro _) | (intro _ he; cases he) | (intro he; cases he)

theorem State.wrRtB_steady (h : Steady z s) : Steady z (State.wrRtB s x1 x2) := by
  unfold State.wrRtB
  try dsimp only
  repeat' first | (with_reducible first | assumption | split | intro _ | refine steady_mk ?_ rfl) | (intro _ he; cases he) | (intro he; cases he)

theorem State.wrRtA_steady (h : Steady z s) : Steady z (State.wrRtA s x1 x2) := by
  unfold State.wrRtA
  try dsimp only
  repeat' first | (with_reducible first | assumption | apply State.writeRw_steady | apply State.wr_steady | split | intro _ | refine steady_mk ?_ rfl) | (intro _ he; cases he) | (intro he; cases he)

theorem State.wrTripctl_steady (h : Steady z s) : Steady z (State.wrTripctl s x1 x2) := by
  unfold State.wrTripctl
  try dsimp only
  repeat' first | (with_reducible first | assumption | apply State.sendTrip_steady | split | intro _) | (intro _ he; cases he) | (intro he; cases he)

theorem State.headerError_steady (h : Steady z s) : Steady z (State.headerError s x1) := by
  unfold State.headerError
  try dsimp only
  repeat' first | (with_reducible first | assumption | apply State.setFlagI_steady | apply State.addSat_steady | split | intro _) | (intro _ he; cases he) | (intro he; cases he)

theorem execFrameHeaderReceive_steady : ∃ t, execFrameHeaderReceive x0 x1 s = .next t ∧ Steady s t := by
  refine ⟨_, rfl, ?_⟩
  have h : Steady s s := Steady.refl s
  try dsimp only
  repeat' first | (with_reducible first | assumption | apply State.headerError_steady | apply State.send_steady | apply State.setFlagI_steady | apply State.addSat_steady | apply State.unreach_steady | apply each_steady | split | intro _) | (intro _ he; cases he) | (intro he; cases he)

theorem State.stomp_steady (h : Steady z s) : Steady z (State.stomp s x1 x2) := by
  unfold State.stomp
  try dsimp only
  repeat' first | (with_reducible first | assumption | apply State.addSat_steady | split | intro _ | refine steady_mk ?_ rfl) | (intro _ he; cases he) | (intro he; cases he)

theorem execFrameCrcFail_steady : ∃ t, execFrameCrcFail x0 x1 s = .next t ∧ Steady s t := by
  refine ⟨_, rfl, ?_⟩
  have h : Steady s s := Steady.refl s
  try dsimp only
  repeat' first | (with_reducible first | assumption | apply State.send_steady | apply State.stomp_steady | apply State.addSat_steady | apply State.raise_steady | apply each_steady | split | intro _) | (intro _ he; cases he) | (intro he; cases he)

theorem execCheckTransmit_steady : ∃ t, execCheckTransmit x0 s = .next t ∧ Steady s t := by
  refine ⟨_, rfl, ?_⟩
  have h : Steady s s := Steady.refl s
  try dsimp only
  repeat' first | (with_reducible first | assumption | apply State.send_steady | split | intro _) | (intro _ he; cases he) | (intro he; cases he)

theorem State.noteCheck_steady (h : Steady z s) : Steady z (State.noteCheck s x1 x2) := by
  unfold State.noteCheck
  try dsimp only
  repeat' first | (with_reducible first | assumption | apply State.wr_steady | split | intro _ | refine steady_mk ?_ rfl) | (intro _ he; cases he) | (intro he; cases he)

theorem execCheckReceive_steady : ∃ t, execCheckReceive x0 x1 s = .next t ∧ Steady s t := by
  refine ⟨_, rfl, ?_⟩
  have h : Steady s s := Steady.refl s
  try dsimp only
  repeat' first | (with_reducible first | assumption | apply State.noteCheck_steady | apply State.setPort_steady | apply State.portLost_steady | apply State.setFlagI_steady | split | intro _) | (intro _ he; cases he) | (intro he; cases he)

theorem execPortAligned_steady : ∃ t, execPortAligned x0 s = .next t ∧ Steady s t := by
  refine ⟨_, rfl, ?_⟩
  have h : Steady s s := Steady.refl s
  try dsimp only
  repeat' first | (with_reducible first | assumption | apply State.setPort_steady | split | intro _) | (intro _ he; cases he) | (intro he; cases he)

theorem execAlignLost_steady : ∃ t, execAlignLost x0 s = .next t ∧ Steady s t := by
  refine ⟨_, rfl, ?_⟩
  have h : Steady s s := Steady.refl s
  try dsimp only
  repeat' first | (with_reducible first | assumption | apply State.setPort_steady | split | intro _) | (intro _ he; cases he) | (intro he; cases he)

theorem execPortUp_steady : ∃ t, execPortUp x0 s = .next t ∧ Steady s t := by
  refine ⟨_, rfl, ?_⟩
  have h : Steady s s := Steady.refl s
  try dsimp only
  repeat' first | (with_reducible first | assumption | apply State.putBit_steady | apply State.live_steady | apply State.setPort_steady | apply State.setFlagI_steady | split | intro _ | refine steady_mk ?_ rfl) | (intro _ he; cases he) | (intro he; cases he)

theorem execCheckTimeout_steady : ∃ t, execCheckTimeout x0 s = .next t ∧ Steady s t := by
  refine ⟨_, rfl, ?_⟩
  have h : Steady s s := Steady.refl s
  try dsimp only
  repeat' first | (with_reducible first | assumption | apply State.portLost_steady | split | intro _ | refine steady_mk ?_ rfl) | (intro _ he; cases he) | (intro he; cases he)

theorem execLosAssert_steady : ∃ t, execLosAssert x0 s = .next t ∧ Steady s t := by
  refine ⟨_, rfl, ?_⟩
  have h : Steady s s := Steady.refl s
  try dsimp only
  repeat' first | (with_reducible first | assumption | apply State.portLost_steady | split | intro _) | (intro _ he; cases he) | (intro he; cases he)

theorem execLnkCfgWrite_steady : ∃ t, execLnkCfgWrite x0 x1 x2 s = .next t ∧ Steady s t := by
  refine ⟨_, rfl, ?_⟩
  have h : Steady s s := Steady.refl s
  try dsimp only
  repeat' first | (with_reducible first | assumption | apply State.guardWrite_steady | apply State.wrLnkCfg_steady | split | intro _) | (intro _ he; cases he) | (intro he; cases he)

theorem execRtBWrite_steady : ∃ t, execRtBWrite x0 x1 x2 x3 s = .next t ∧ Steady s t := by
  refine ⟨_, rfl, ?_⟩
  have h : Steady s s := Steady.refl s
  try dsimp only
  repeat' first | (with_reducible first | assumption | apply State.guardWrite_steady | apply State.wrRtB_steady | split | intro _) | (intro _ he; cases he) | (intro he; cases he)

theorem execRtAWrite_steady : ∃ t, execRtAWrite x0 x1 x2 x3 s = .next t ∧ Steady s t := by
  refine ⟨_, rfl, ?_⟩
  have h : Steady s s := Steady.refl s
  try dsimp only
  repeat' first | (with_reducible first | assumption | apply State.guardWrite_steady | apply State.wrRtA_steady | split | intro _) | (intro _ he; cases he) | (intro he; cases he)

theorem execTripSend_steady : ∃ t, execTripSend x0 x1 x2 s = .next t ∧ Steady s t := by
  refine ⟨_, rfl, ?_⟩
  have h : Steady s s := Steady.refl s
  try dsimp only
  repeat' first | (with_reducible first | assumption | apply State.guardSent_steady | apply State.wrTripctl_steady | split | intro _) | (intro _ he; cases he) | (intro he; cases he)

theorem State.putSurvey_steady (h : Steady z s) : Steady z (State.putSurvey s x1) := by
  unfold State.putSurvey
  try dsimp only
  repeat' first | (with_reducible first | assumption | split | intro _ | refine steady_mk ?_ rfl) | (intro _ he; cases he) | (intro he; cases he)

theorem State.sendProbe_steady (h : Steady z s) : Steady z (State.sendProbe s x1 x2) := by
  unfold State.sendProbe
  try dsimp only
  repeat' first | (with_reducible first | assumption | apply State.sendPath_steady | split | intro _) | (intro _ he; cases he) | (intro he; cases he)

theorem State.probeMore_steady (h : Steady z s) : Steady z (State.probeMore x0 s x2) := by
  induction x0 generalizing s x2 with
  | zero =>
    unfold State.probeMore
    try dsimp only
    repeat' first | (with_reducible first | assumption | apply State.sendProbe_steady | apply State.putSurvey_steady | split) | (intro _ he; cases he) | (intro he; cases he)
  | succ n ih =>
    unfold State.probeMore
    try dsimp only
    repeat' first | (with_reducible first | assumption | apply ih | apply State.sendProbe_steady | apply State.putSurvey_steady | split) | (intro _ he; cases he) | (intro he; cases he)

theorem State.surveyOn_steady (h : Steady z s) : Steady z (State.surveyOn s x1) := by
  unfold State.surveyOn
  try dsimp only
  repeat' first | (with_reducible first | assumption | apply State.surveyEnd_steady | apply State.putSurvey_steady | apply State.probeMore_steady | split | intro _) | (intro _ he; cases he) | (intro he; cases he)

theorem State.surveyStart_steady (h : Steady z s) : Steady z (State.surveyStart s x1) := by
  unfold State.surveyStart
  try dsimp only
  repeat' first | (with_reducible first | assumption | apply State.complete_steady | apply State.surveyOn_steady | apply State.putBit_steady | apply State.setPhase_steady | split | intro _) | (intro _ he; cases he) | (intro he; cases he)

theorem State.replyIn_steady (h : Steady z s) : Steady z (State.replyIn s x1 x2 x3 x4 x5 x6 x7 x8) := by
  unfold State.replyIn
  try dsimp only
  repeat' first | (with_reducible first | assumption | apply State.surveyOn_steady | split | intro _) | (intro _ he; cases he) | (intro he; cases he)

theorem execReplyReceive_steady : ∃ t, execReplyReceive x0 x1 s = .next t ∧ Steady s t := by
  refine ⟨_, rfl, ?_⟩
  have h : Steady s s := Steady.refl s
  try dsimp only
  repeat' first | (with_reducible first | assumption | apply State.draw_steady | apply State.surveyEnd_steady | apply State.setFlagI_steady | apply State.replyIn_steady | split | intro _) | (intro _ he; cases he) | (intro he; cases he)

theorem execProbeTimeout_steady : ∃ t, execProbeTimeout s = .next t ∧ Steady s t := by
  refine ⟨_, rfl, ?_⟩
  have h : Steady s s := Steady.refl s
  try dsimp only
  repeat' first | (with_reducible first | assumption | apply State.surveyOn_steady | apply State.putSurvey_steady | apply State.sendProbe_steady | split | intro _) | (intro _ he; cases he) | (intro he; cases he)

theorem State.takeAddr_steady (h : Steady z s) : Steady z (State.takeAddr s x1 x2 x3 x4 x5 x6 x7) := by
  unfold State.takeAddr
  try dsimp only
  repeat' first | (with_reducible first | assumption | apply State.wr_steady | apply State.timFollow_steady | apply State.setFlagI_steady | apply State.put_steady | split | intro _) | (intro _ he; cases he) | (intro he; cases he)

theorem State.putRoutes_steady (h : Steady z s) : Steady z (State.putRoutes s x1 x2) := by
  fun_induction State.putRoutes s x1 x2 with
  | case1 _ _ _ _ _ _ ih => exact ih (State.wr_steady (State.wr_steady h (by intro _ he; cases he)) (by intro _ he; cases he))
  | case2 => exact h
  | case3 => exact h

theorem State.clearRoutes_steady (h : Steady z s) : Steady z (State.clearRoutes s x1) := by
  unfold State.clearRoutes
  try dsimp only
  repeat' first | (with_reducible first | assumption | apply State.putBit_steady | apply each_steady | split | intro _) | (intro _ he; cases he) | (intro he; cases he)

theorem State.sendRoutes_steady (h : Steady z s) : Steady z (State.sendRoutes s x1 x2 x3 x4) := by
  induction x2 generalizing s x3 x4 with
  | zero => unfold State.sendRoutes; exact h
  | succ n ih =>
    unfold State.sendRoutes
    cases x4 with
    | nil => exact h
    | cons b t => exact ih (State.sendPath_steady h)

theorem State.assignTo_steady (h : Steady z s) : Steady z (State.assignTo s x1 x2 x3 x4) := by
  unfold State.assignTo
  try dsimp only
  repeat' first | (with_reducible first | assumption | apply State.takeAddr_steady | apply State.sendPath_steady | split | intro _) | (intro _ he; cases he) | (intro he; cases he)

theorem State.routeTo_steady (h : Steady z s) : Steady z (State.routeTo s x1 x2 x3).2 := by
  unfold State.routeTo
  try dsimp only
  repeat' first | (with_reducible first | assumption | apply State.clearRoutes_steady | apply State.putRoutes_steady | apply State.setFlagI_steady | apply State.putBit_steady | apply State.sendRoutes_steady | split | intro _) | (intro _ he; cases he) | (intro he; cases he)

theorem State.routeAll_steady (h : Steady z s) : Steady z (State.routeAll s x1 x2 x3).2 := by
  induction x3 generalizing s x1 x2 with
  | nil =>
    unfold State.routeAll
    try dsimp only
    repeat' first | (with_reducible first | assumption | apply State.routeTo_steady | split) | (intro _ he; cases he) | (intro he; cases he)
  | cons b t ih =>
    unfold State.routeAll
    try dsimp only
    repeat' first | (with_reducible first | assumption | apply ih | apply State.routeTo_steady | split) | (intro _ he; cases he) | (intro he; cases he)

theorem State.surveyAssign_steady (h : Steady z s) : Steady z (State.surveyAssign s x1) := by
  unfold State.surveyAssign
  try dsimp only
  repeat' first | (with_reducible first | assumption | apply State.assignTo_steady | apply State.routeAll_steady | apply State.surveyEnd_steady | apply each_steady | split | intro _) | (intro _ he; cases he) | (intro he; cases he)

theorem execLineSurvey_steady : ∃ t, execLineSurvey x0 s = .next t ∧ Steady s t := by
  refine ⟨_, rfl, ?_⟩
  have h : Steady s s := Steady.refl s
  try dsimp only
  repeat' first | (with_reducible first | assumption | apply State.issue_steady | apply State.withRunning_steady | apply State.surveyStart_steady | apply State.surveyEnd_steady | apply State.surveyAssign_steady | split | intro _) | (intro _ he; cases he) | (intro he; cases he)

theorem execSurveyReceive_steady : ∃ t, execSurveyReceive x0 x1 s = .next t ∧ Steady s t := by
  refine ⟨_, rfl, ?_⟩
  have h : Steady s s := Steady.refl s
  try dsimp only
  repeat' first | (with_reducible first | assumption | apply State.sendPath_steady | split | intro _ | refine steady_mk ?_ rfl) | (intro _ he; cases he) | (intro he; cases he)

theorem State.surveyUid_steady (h : Steady z s) : Steady z (State.surveyUid s).2 := by
  unfold State.surveyUid
  try dsimp only
  repeat' first | (with_reducible first | assumption | apply State.draw_steady | split | intro _) | (intro _ he; cases he) | (intro he; cases he)

theorem execAssignReceive_steady : ∃ t, execAssignReceive x0 x1 s = .next t ∧ Steady s t := by
  refine ⟨_, rfl, ?_⟩
  have h : Steady s s := Steady.refl s
  try dsimp only
  repeat' first | (with_reducible first | assumption | apply State.surveyUid_steady | apply State.takeAddr_steady | split | intro _) | (intro _ he; cases he) | (intro he; cases he)

theorem execRouteReceive_steady : ∃ t, execRouteReceive x0 x1 s = .next t ∧ Steady s t := by
  refine ⟨_, rfl, ?_⟩
  have h : Steady s s := Steady.refl s
  try dsimp only
  repeat' first | (with_reducible first | assumption | apply State.putRoutes_steady | apply State.clearRoutes_steady | apply State.draw_steady | apply State.setFlagI_steady | apply State.putBit_steady | split | intro _) | (intro _ he; cases he) | (intro he; cases he)

theorem execTripReceive_steady : ∃ t, execTripReceive x0 x1 s = .next t ∧ Steady s t := by
  refine ⟨_, rfl, ?_⟩
  have h : Steady s s := Steady.refl s
  try dsimp only
  repeat' first | (with_reducible first | assumption | apply State.send_steady | apply State.wr_steady | apply State.raise_steady | apply State.addSat_steady | apply each_steady | split | intro _ | refine steady_mk ?_ rfl) | (intro _ he; cases he) | (intro he; cases he)

theorem execTripKeyExpiry_steady : ∃ t, execTripKeyExpiry s = .next t ∧ Steady s t := by
  refine ⟨_, rfl, ?_⟩
  have h : Steady s s := Steady.refl s
  try dsimp only
  repeat' first | (with_reducible first | assumption | split | intro _ | refine steady_mk ?_ rfl) | (intro _ he; cases he) | (intro he; cases he)

theorem State.resample_steady (h : Steady z s) : Steady z (State.resample s x1) := by
  unfold State.resample
  try dsimp only
  repeat' first | (with_reducible first | assumption | apply State.occur_steady | split | intro _) | (intro _ he; cases he) | (intro he; cases he)

theorem State.irqPins_steady (h : Steady z s) : Steady z (State.irqPins s) := by
  unfold State.irqPins
  try dsimp only
  repeat' first | (with_reducible first | assumption | split | intro _ | refine steady_mk ?_ rfl) | (intro _ he; cases he) | (intro he; cases he)

theorem State.putStack_steady (h : Steady z s) : Steady z (State.putStack s x1 x2) := by
  unfold State.putStack
  try dsimp only
  repeat' first | (with_reducible first | assumption | split | intro _ | refine steady_mk ?_ rfl) | (intro _ he; cases he) | (intro he; cases he)

theorem State.putOrder_steady (h : Steady z s) : Steady z (State.putOrder s x1 x2) := by
  unfold State.putOrder
  try dsimp only
  repeat' first | (with_reducible first | assumption | split | intro _ | refine steady_mk ?_ rfl) | (intro _ he; cases he) | (intro he; cases he)

theorem State.storm_steady (h : Steady z s) : Steady z (State.storm s x1) := by
  unfold State.storm
  try dsimp only
  repeat' first | (with_reducible first | assumption | apply State.putSrc_steady | apply State.message_steady | apply State.putBit_steady | split | intro _) | (intro _ he; cases he) | (intro he; cases he) | rfl

theorem State.coreWake_steady (h : Steady z s) : Steady z (State.coreWake s) := by
  unfold State.coreWake
  try dsimp only
  repeat' first | (with_reducible first | assumption | apply State.put_steady | split | intro _ | refine steady_mk ?_ rfl) | (intro _ he; cases he) | (intro he; cases he)

theorem execEventOccurrence_steady : ∃ t, execEventOccurrence x0 x1 x2 x3 s = .next t ∧ Steady s t := by
  refine ⟨_, rfl, ?_⟩
  have h : Steady s s := Steady.refl s
  try dsimp only
  repeat' first | (with_reducible first | assumption | apply State.message_steady | apply State.condRise_steady | apply State.condFall_steady | split | intro _) | (intro _ he; cases he) | (intro he; cases he)

theorem execStormWindowClose_steady : ∃ t, execStormWindowClose x0 s = .next t ∧ Steady s t := by
  refine ⟨_, rfl, ?_⟩
  have h : Steady s s := Steady.refl s
  try dsimp only
  repeat' first | (with_reducible first | assumption | apply State.putSrc_steady | split | intro _) | (intro _ he; cases he) | (intro he; cases he) | rfl

theorem State.swOccur_steady (h : Steady z s) : Steady z (State.swOccur s x1) := by
  unfold State.swOccur
  try dsimp only
  repeat' first | (with_reducible first | assumption | apply State.occurNow_steady | split | intro _ | refine steady_mk ?_ rfl) | (intro _ he; cases he) | (intro he; cases he)

theorem State.discard_steady (h : Steady z s) : Steady z (State.discard s x1) := by
  unfold State.discard
  try dsimp only
  repeat' first | (with_reducible first | assumption | apply State.putBit_steady | apply State.putSrc_steady | split | intro _) | (intro _ he; cases he) | (intro he; cases he) | rfl

theorem State.wrPend_steady (h : Steady z s) : Steady z (State.wrPend s x1 x2) := by
  unfold State.wrPend
  try dsimp only
  repeat' first | (with_reducible first | assumption | apply State.swOccur_steady | apply State.discard_steady | apply each_steady | split | intro _) | (intro _ he; cases he) | (intro he; cases he)

theorem State.release_steady (h : Steady z s) : Steady z (State.release s x1) := by
  unfold State.release
  try dsimp only
  repeat' first | (with_reducible first | assumption | apply State.putSrc_steady | apply State.occurNow_steady | split | intro _) | (intro _ he; cases he) | (intro he; cases he) | rfl

theorem State.thaw_steady (h : Steady z s) : Steady z (State.thaw s) := by
  unfold State.thaw
  try dsimp only
  repeat' first | (with_reducible first | assumption | apply State.release_steady | apply State.putBit_steady | apply each_steady | split | intro _) | (intro _ he; cases he) | (intro he; cases he)

theorem State.wrEvtCtl_steady (h : Steady z s) : Steady z (State.wrEvtCtl s x1) := by
  unfold State.wrEvtCtl
  try dsimp only
  repeat' first | (with_reducible first | assumption | apply State.putBit_steady | apply State.thaw_steady | split | intro _) | (intro _ he; cases he) | (intro he; cases he)

theorem State.wrEvtCfg_steady (h : Steady z s) : Steady z (State.wrEvtCfg s x1 x2) := by
  unfold State.wrEvtCfg
  try dsimp only
  repeat' first | (with_reducible first | assumption | apply State.writeRw_steady | apply State.resample_steady | split | intro _) | (intro _ he; cases he) | (intro he; cases he)

theorem execPendWrite_steady : ∃ t, execPendWrite x0 x1 x2 x3 s = .next t ∧ Steady s t := by
  refine ⟨_, rfl, ?_⟩
  have h : Steady s s := Steady.refl s
  try dsimp only
  repeat' first | (with_reducible first | assumption | apply State.guardWrite_steady | apply State.wrPend_steady | split | intro _) | (intro _ he; cases he) | (intro he; cases he)

theorem execFreezeWrite_steady : ∃ t, execFreezeWrite x0 x1 x2 s = .next t ∧ Steady s t := by
  refine ⟨_, rfl, ?_⟩
  have h : Steady s s := Steady.refl s
  try dsimp only
  repeat' first | (with_reducible first | assumption | apply State.guardWrite_steady | apply State.wrEvtCtl_steady | split | intro _) | (intro _ he; cases he) | (intro he; cases he)

theorem execFreezeExpiry_steady : ∃ t, execFreezeExpiry s = .next t ∧ Steady s t := by
  refine ⟨_, rfl, ?_⟩
  have h : Steady s s := Steady.refl s
  try dsimp only
  repeat' first | (with_reducible first | assumption | apply State.setFlag_steady | apply State.thaw_steady | split | intro _) | (intro _ he; cases he) | (intro he; cases he)

theorem State.putRec_steady (h : Steady z s) : Steady z (State.putRec s x1 x2 x3 x4 x5) := by
  unfold State.putRec
  try dsimp only
  repeat' first | (with_reducible first | assumption | apply State.wr_steady | split | intro _) | (intro _ he; cases he) | (intro he; cases he)

theorem State.unqueue_steady (h : Steady z s) : Steady z (State.unqueue s x1 x2) := by
  refine ⟨fun i q k hk => h.queued i q k ?_, h.base, h.bytes⟩
  unfold State.unqueue State.src Tab.get at hk
  unfold State.src Tab.get
  dsimp only at hk
  generalize s.ev.srcs = l at hk ⊢
  induction l with
  | nil => exact hk
  | cons e t ih =>
    rw [List.map_cons, List.find?_cons] at hk
    rw [List.find?_cons]
    by_cases c : e.1 = i
    · by_cases c2 : e.2.queued = some (x1, x2)
      · simp [c, c2] at hk
      · simpa [c, c2] using hk
    · have c' : (if e.2.queued = some (x1, x2) then (e.1, ({ e.2 with queued := none } : EvSrc)) else e).1 = e.1 := by split <;> rfl
      simp only [c', c, decide_false] at hk ⊢
      exact ih hk

theorem State.takeRec_steady (h : Steady z s) : Steady z (State.takeRec s x1) := by
  unfold State.takeRec
  try dsimp only
  repeat' first | (with_reducible first | assumption | apply State.unqueue_steady | apply State.irqPins_steady | apply State.putOrder_steady | apply State.put_steady | split | intro _) | (intro _ he; cases he) | (intro he; cases he)

theorem State.take_steady (h : Steady z s) : Steady z (State.take s x1) := by
  unfold State.take
  try dsimp only
  repeat' first | (with_reducible first | assumption | apply State.putRec_steady | apply State.putBit_steady | apply State.eccRange_steady | apply State.putStack_steady | apply State.takeRec_steady | apply State.sramUe_steady | apply each_steady | split | intro _) | (intro _ he; cases he) | (intro he; cases he)

theorem State.eoi_steady (h : Steady z s) : Steady z (State.eoi s x1) := by
  unfold State.eoi
  try dsimp only
  repeat' first | (with_reducible first | assumption | apply State.setFlagI_steady | apply State.putStack_steady | apply State.resample_steady | split | intro _) | (intro _ he; cases he) | (intro he; cases he)

theorem execTake_steady : ∃ t, execTake x0 x1 s = .next t ∧ Steady s t := by
  refine ⟨_, rfl, ?_⟩
  have h : Steady s s := Steady.refl s
  try dsimp only
  repeat' first | (with_reducible first | assumption | apply State.guardWrite_steady | apply State.take_steady | split | intro _) | (intro _ he; cases he) | (intro he; cases he)

theorem execEoi_steady : ∃ t, execEoi x0 x1 s = .next t ∧ Steady s t := by
  refine ⟨_, rfl, ?_⟩
  have h : Steady s s := Steady.refl s
  try dsimp only
  repeat' first | (with_reducible first | assumption | apply State.guardWrite_steady | apply State.eoi_steady | split | intro _) | (intro _ he; cases he) | (intro he; cases he)

theorem State.putFlow_steady (h : Steady z s) : Steady z (State.putFlow s x1 x2) := by
  unfold State.putFlow
  try dsimp only
  repeat' first | (with_reducible first | assumption | split | intro _ | refine steady_mk ?_ rfl) | (intro _ he; cases he) | (intro he; cases he)

theorem State.flowFrame_steady (h : Steady z s) : Steady z (State.flowFrame s x1 x2 x3 x4 x5).2 := by
  unfold State.flowFrame
  try dsimp only
  repeat' first | (with_reducible first | assumption | apply State.draw_steady | split | intro _) | (intro _ he; cases he) | (intro he; cases he)

theorem State.transmit_steady (h : Steady z s) : Steady z (State.transmit s x1 x2) := by
  unfold State.transmit
  try dsimp only
  repeat' first | (with_reducible first | assumption | apply State.flowFrame_steady | apply State.send_steady | apply State.eccRange_steady | apply State.dmaRestart_steady | apply State.dmaHalt_steady | apply State.sramUe_steady | split | intro _) | (intro _ he; cases he) | (intro he; cases he)

theorem State.flowPush_steady (h : Steady z s) : Steady z (State.flowPush s x1 x2 x3 x4 x5) := by
  unfold State.flowPush
  try dsimp only
  repeat' first | (with_reducible first | assumption | apply State.putFlow_steady | apply State.put_steady | apply State.transmit_steady | split | intro _) | (intro _ he; cases he) | (intro he; cases he)

theorem State.txRefuse_steady (h : Steady z s) : Steady z (State.txRefuse s x1 x2 x3) := by
  unfold State.txRefuse
  try dsimp only
  repeat' first | (with_reducible first | assumption | apply State.setFlagI_steady | apply State.putBank_steady | split | intro _) | (intro _ he; cases he) | (intro he; cases he)

theorem State.wrTxgo_steady (h : Steady z s) : Steady z (State.wrTxgo s x1 x2) := by
  unfold State.wrTxgo
  try dsimp only
  repeat' first | (with_reducible first | assumption | apply State.txRefuse_steady | apply State.putBank_steady | apply State.flowPush_steady | split | intro _) | (intro _ he; cases he) | (intro he; cases he)

theorem State.sendAck_steady (h : Steady z s) : Steady z (State.sendAck s x1) := by
  unfold State.sendAck
  try dsimp only
  repeat' first | (with_reducible first | assumption | apply State.flowFrame_steady | apply State.sendRouted_steady | split | intro _) | (intro _ he; cases he) | (intro he; cases he)

theorem State.flowClosed_steady (h : Steady z s) : Steady z (State.flowClosed s x1 x2) := by
  unfold State.flowClosed
  try dsimp only
  repeat' first | (with_reducible first | assumption | apply State.putFlow_steady | apply State.put_steady | apply State.complete_steady | split | intro _) | (intro _ he; cases he) | (intro he; cases he)

theorem State.flowBroken_steady (h : Steady z s) : Steady z (State.flowBroken s x1 x2) := by
  unfold State.flowBroken
  try dsimp only
  repeat' first | (with_reducible first | assumption | apply State.putFlow_steady | apply State.put_steady | apply State.setFlagI_steady | apply State.gap_steady | split | intro _) | (intro _ he; cases he) | (intro he; cases he)

theorem State.wrRxread_steady (h : Steady z s) : Steady z (State.wrRxread s x1 x2) := by
  unfold State.wrRxread
  try dsimp only
  repeat' first | (with_reducible first | assumption | apply State.put_steady | split | intro _) | (intro _ he; cases he) | (intro he; cases he)

theorem State.wrNotLine_steady (h : Steady z s) (hx2 : ∀ q, x2 ≠ .EVT_QBASE q) : Steady z (State.wrNotLine s x1 x2 x3) := by
  unfold State.wrNotLine
  try dsimp only
  repeat' first | (with_reducible first | assumption | apply State.writeRw_steady | split | intro _) | (intro _ he; cases he) | (intro he; cases he)

theorem State.flowReset_steady (h : Steady z s) : Steady z (State.flowReset s) := by
  unfold State.flowReset
  try dsimp only
  repeat' first | (with_reducible first | assumption | split | intro _ | refine steady_mk ?_ rfl) | (intro _ he; cases he) | (intro he; cases he)

theorem State.flowGaps_steady (h : Steady z s) : Steady z (State.flowGaps s) := by
  unfold State.flowGaps
  try dsimp only
  repeat' first | (with_reducible first | assumption | apply State.gap_steady | apply each_steady | split | intro _ | refine steady_mk ?_ rfl) | (intro _ he; cases he) | (intro he; cases he)

theorem State.stepTime_steady (h : Steady z s) : Steady z (State.stepTime s x1) := by
  unfold State.stepTime
  try dsimp only
  repeat' first | (with_reducible first | assumption | split | intro _ | refine steady_mk ?_ rfl) | (intro _ he; cases he) | (intro he; cases he)

theorem State.wrSetctl_steady (h : Steady z s) : Steady z (State.wrSetctl s x1 x2) := by
  unfold State.wrSetctl
  try dsimp only
  repeat' first | (with_reducible first | assumption | apply State.setFlag_steady | apply State.stepTime_steady | split | intro _) | (intro _ he; cases he) | (intro he; cases he)

theorem State.rdNowLo_steady (h : Steady z s) : Steady z (State.rdNowLo s x1).2 := by
  unfold State.rdNowLo
  try dsimp only
  repeat' first | (with_reducible first | assumption | apply State.putBank_steady | split | intro _) | (intro _ he; cases he) | (intro he; cases he)

theorem State.armMark_steady (h : Steady z s) : Steady z (State.armMark s x1) := by
  unfold State.armMark
  try dsimp only
  repeat' first | (with_reducible first | assumption | apply State.putBit_steady | apply State.setFlagI_steady | split | intro _ | refine steady_mk ?_ rfl) | (intro _ he; cases he) | (intro he; cases he)

theorem State.putBankWords_steady (h : Steady z s) : Steady z (State.putBankWords s x1 x2) := by
  unfold State.putBankWords
  try dsimp only
  repeat' first | (with_reducible first | assumption | apply State.wr_steady | apply each_steady | split | intro _) | (intro _ he; cases he) | (intro he; cases he)

theorem State.flowOpen_steady (h : Steady z s) : Steady z (State.flowOpen s x1) := by
  unfold State.flowOpen
  try dsimp only
  repeat' first | (with_reducible first | assumption | apply State.complete_steady | apply State.wr_steady | apply State.putFlow_steady | split | intro _ | refine steady_mk ?_ rfl) | (intro _ he; cases he) | (intro he; cases he)

theorem State.flowClose_steady (h : Steady z s) : Steady z (State.flowClose s x1) := by
  unfold State.flowClose
  try dsimp only
  repeat' first | (with_reducible first | assumption | apply State.complete_steady | apply State.putFlow_steady | apply State.flowClosed_steady | apply State.put_steady | split | intro _) | (intro _ he; cases he) | (intro he; cases he)

theorem execFlwOpen_steady : ∃ t, execFlwOpen x0 s = .next t ∧ Steady s t := by
  refine ⟨_, rfl, ?_⟩
  have h : Steady s s := Steady.refl s
  try dsimp only
  repeat' first | (with_reducible first | assumption | apply State.ledgerRow_steady | apply State.flowOpen_steady | split | intro _) | (intro _ he; cases he) | (intro he; cases he)

theorem execFlwClose_steady : ∃ t, execFlwClose x0 s = .next t ∧ Steady s t := by
  refine ⟨_, rfl, ?_⟩
  have h : Steady s s := Steady.refl s
  try dsimp only
  repeat' first | (with_reducible first | assumption | apply State.ledgerRow_steady | apply State.flowClose_steady | split | intro _) | (intro _ he; cases he) | (intro he; cases he)

theorem execFlowSend_steady : ∃ t, execFlowSend x0 x1 x2 s = .next t ∧ Steady s t := by
  refine ⟨_, rfl, ?_⟩
  have h : Steady s s := Steady.refl s
  try dsimp only
  repeat' first | (with_reducible first | assumption | apply State.guardSent_steady | apply State.wrTxgo_steady | split | intro _) | (intro _ he; cases he) | (intro he; cases he)

theorem execRxreadWrite_steady : ∃ t, execRxreadWrite x0 x1 x2 x3 s = .next t ∧ Steady s t := by
  refine ⟨_, rfl, ?_⟩
  have h : Steady s s := Steady.refl s
  try dsimp only
  repeat' first | (with_reducible first | assumption | apply State.guardWrite_steady | apply State.wrRxread_steady | split | intro _) | (intro _ he; cases he) | (intro he; cases he)

theorem execRetransmitTimeout_steady : ∃ t, execRetransmitTimeout x0 s = .next t ∧ Steady s t := by
  refine ⟨_, rfl, ?_⟩
  have h : Steady s s := Steady.refl s
  try dsimp only
  repeat' first | (with_reducible first | assumption | apply State.addSat_steady | apply State.put_steady | apply State.putFlow_steady | apply State.flowClosed_steady | apply State.gap_steady | apply State.flowBroken_steady | apply State.transmit_steady | apply each_steady | split | intro _) | (intro _ he; cases he) | (intro he; cases he)

theorem State.takeFabric_steady (h : Steady z s) : Steady z (State.takeFabric x0 s).2 := by
  induction x0 generalizing s with
  | zero =>
    unfold State.takeFabric
    try dsimp only
    repeat' first | (with_reducible first | assumption | apply State.take_steady | apply State.eoi_steady | split | intro _) | (intro _ he; cases he) | (intro he; cases he)
  | succ n ih =>
    unfold State.takeFabric
    try dsimp only
    repeat' first | (with_reducible first | assumption | apply State.take_steady | apply State.eoi_steady | apply ih | split | intro _) | (intro _ he; cases he) | (intro he; cases he)

theorem execEventForward_steady : ∃ t, execEventForward s = .next t ∧ Steady s t := by
  refine ⟨_, rfl, ?_⟩
  have h : Steady s s := Steady.refl s
  try dsimp only
  repeat' first | (with_reducible first | assumption | apply State.setFlagI_steady | apply State.takeFabric_steady | apply State.flowPush_steady | split | intro _) | (intro _ he; cases he) | (intro he; cases he)

theorem execSyncPeriod_steady : ∃ t, execSyncPeriod s = .next t ∧ Steady s t := by
  refine ⟨_, rfl, ?_⟩
  have h : Steady s s := Steady.refl s
  try dsimp only
  repeat' first | (with_reducible first | assumption | apply State.send_steady | apply each_steady | split | intro _ | refine steady_mk ?_ rfl) | (intro _ he; cases he) | (intro he; cases he)

theorem State.syncTake_steady (h : Steady z s) : Steady z (State.syncTake s x1 x2) := by
  unfold State.syncTake
  try dsimp only
  repeat' first | (with_reducible first | assumption | apply State.put_steady | apply State.setFlag_steady | apply State.stepTime_steady | apply State.setTim_steady | split | intro _ | refine steady_mk ?_ rfl) | (intro _ he; cases he) | (intro he; cases he)

theorem execSyncReceive_steady : ∃ t, execSyncReceive x0 x1 s = .next t ∧ Steady s t := by
  refine ⟨_, rfl, ?_⟩
  have h : Steady s s := Steady.refl s
  try dsimp only
  repeat' first | (with_reducible first | assumption | apply State.syncTake_steady | split | intro _) | (intro _ he; cases he) | (intro he; cases he)

theorem execReqReceive_steady : ∃ t, execReqReceive x0 x1 s = .next t ∧ Steady s t := by
  refine ⟨_, rfl, ?_⟩
  have h : Steady s s := Steady.refl s
  try dsimp only
  repeat' first | (with_reducible first | assumption | apply State.send_steady | split | intro _) | (intro _ he; cases he) | (intro he; cases he)

theorem execRespReceive_steady : ∃ t, execRespReceive x0 x1 s = .next t ∧ Steady s t := by
  refine ⟨_, rfl, ?_⟩
  have h : Steady s s := Steady.refl s
  try dsimp only
  repeat' first | (with_reducible first | assumption | apply State.wr_steady | split | intro _ | refine steady_mk ?_ rfl) | (intro _ he; cases he) | (intro he; cases he)

theorem execTimeSet_steady : ∃ t, execTimeSet x0 x1 x2 s = .next t ∧ Steady s t := by
  refine ⟨_, rfl, ?_⟩
  have h : Steady s s := Steady.refl s
  try dsimp only
  repeat' first | (with_reducible first | assumption | apply State.guardSent_steady | apply State.wrSetctl_steady | split | intro _) | (intro _ he; cases he) | (intro he; cases he)

theorem execHoldover_steady : ∃ t, execHoldover s = .next t ∧ Steady s t := by
  refine ⟨_, rfl, ?_⟩
  have h : Steady s s := Steady.refl s
  try dsimp only
  repeat' first | (with_reducible first | assumption | apply State.setTim_steady | split | intro _ | refine steady_mk ?_ rfl) | (intro _ he; cases he) | (intro he; cases he)

theorem State.summitMark_steady (h : Steady z s) : Steady z (State.summitMark s x1) := by
  unfold State.summitMark
  try dsimp only
  repeat' first | (with_reducible first | assumption | apply State.complete_steady | apply State.armMark_steady | apply State.send_steady | apply each_steady | split | intro _) | (intro _ he; cases he) | (intro he; cases he)

theorem execSummitMark_steady : ∃ t, execSummitMark x0 s = .next t ∧ Steady s t := by
  refine ⟨_, rfl, ?_⟩
  have h : Steady s s := Steady.refl s
  try dsimp only
  repeat' first | (with_reducible first | assumption | apply State.ledgerRow_steady | apply State.summitMark_steady | split | intro _) | (intro _ he; cases he) | (intro he; cases he)

theorem execMarkReceive_steady : ∃ t, execMarkReceive x0 x1 s = .next t ∧ Steady s t := by
  refine ⟨_, rfl, ?_⟩
  have h : Steady s s := Steady.refl s
  try dsimp only
  repeat' first | (with_reducible first | assumption | apply State.setFlagI_steady | apply State.armMark_steady | split | intro _) | (intro _ he; cases he) | (intro he; cases he)

theorem execMarkLatch_steady : ∃ t, execMarkLatch x0 s = .next t ∧ Steady s t := by
  refine ⟨_, rfl, ?_⟩
  have h : Steady s s := Steady.refl s
  try dsimp only
  repeat' first | (with_reducible first | assumption | apply State.put_steady | apply State.setFlagI_steady | split | intro _ | refine steady_mk ?_ rfl) | (intro _ he; cases he) | (intro he; cases he)

theorem execTimMarkdone_steady : ∃ t, execTimMarkdone x0 s = .next t ∧ Steady s t := by
  refine ⟨_, rfl, ?_⟩
  have h : Steady s s := Steady.refl s
  try dsimp only
  repeat' first | (with_reducible first | assumption | apply State.putBit_steady | apply State.putBankWords_steady | apply State.setFlagI_steady | apply State.complete_steady | split | intro _ | refine steady_mk ?_ rfl) | (intro _ he; cases he) | (intro he; cases he)

theorem State.wrTwbCfg_steady (h : Steady z s) : Steady z (State.wrTwbCfg s x1) := by
  unfold State.wrTwbCfg
  try dsimp only
  repeat' first | (with_reducible first | assumption | apply State.writeRw_steady | split | intro _) | (intro _ he; cases he) | (intro he; cases he)

theorem State.wrCxcfg_steady (h : Steady z s) : Steady z (State.wrCxcfg s x1) := by
  unfold State.wrCxcfg
  try dsimp only
  repeat' first | (with_reducible first | assumption | apply State.writeRw_steady | split | intro _) | (intro _ he; cases he) | (intro he; cases he)

theorem State.readArea_steady (h : Steady z s) : Steady z (State.readArea s x1 x2).2 := by
  induction x2 generalizing s x1 with
  | zero =>
    unfold State.readArea
    try dsimp only
    repeat' first | (with_reducible first | assumption | apply State.memRead_steady | split | intro _) | (intro _ he; cases he) | (intro he; cases he)
  | succ n ih =>
    unfold State.readArea
    try dsimp only
    repeat' first | (with_reducible first | assumption | apply State.memRead_steady | apply ih | split | intro _) | (intro _ he; cases he) | (intro he; cases he)

theorem State.wrCxgo_steady (h : Steady z s) : Steady z (State.wrCxgo s x1) := by
  unfold State.wrCxgo
  try dsimp only
  repeat' first | (with_reducible first | assumption | apply State.put_steady | apply State.readArea_steady | apply State.putBit_steady | split | intro _ | refine steady_mk ?_ rfl) | (intro _ he; cases he) | (intro he; cases he)

theorem State.sleepNow_steady (h : Steady z s) : Steady z (State.sleepNow s) := by
  unfold State.sleepNow
  try dsimp only
  repeat' first | (with_reducible first | assumption | apply State.put_steady | split | intro _ | refine steady_mk ?_ rfl) | (intro _ he; cases he) | (intro he; cases he)

theorem State.cxFinish_steady (h : Steady z s) : Steady z (State.cxFinish s x1 x2) := by
  unfold State.cxFinish
  try dsimp only
  repeat' first | (with_reducible first | assumption | apply State.cxEnd_steady | apply State.sleepNow_steady | split | intro _) | (intro _ he; cases he) | (intro he; cases he)

theorem execCxgo_steady : ∃ t, execCxgo x0 x1 x2 s = .next t ∧ Steady s t := by
  refine ⟨_, rfl, ?_⟩
  have h : Steady s s := Steady.refl s
  try dsimp only
  repeat' first | (with_reducible first | assumption | apply State.guardSent_steady | apply State.wrCxgo_steady | split | intro _) | (intro _ he; cases he) | (intro he; cases he)

theorem execArbitrationLost_steady : ∃ t, execArbitrationLost s = .next t ∧ Steady s t := by
  refine ⟨_, rfl, ?_⟩
  have h : Steady s s := Steady.refl s
  try dsimp only
  repeat' first | (with_reducible first | assumption | apply State.addSat_steady | apply State.draw_steady | apply State.cxFinish_steady | apply State.setFlag_steady | split | intro _) | (intro _ he; cases he) | (intro he; cases he)

theorem State.wakeNack_steady (h : Steady z s) : Steady z (State.wakeNack s) := by
  unfold State.wakeNack
  try dsimp only
  repeat' first | (with_reducible first | assumption | apply State.setFlag_steady | split | intro _ | refine steady_mk ?_ rfl) | (intro _ he; cases he) | (intro he; cases he)

theorem execWakenack_steady : ∃ t, execWakenack s = .next t ∧ Steady s t := by
  refine ⟨_, rfl, ?_⟩
  have h : Steady s s := Steady.refl s
  try dsimp only
  repeat' first | (with_reducible first | assumption | apply State.wakeNack_steady | split | intro _) | (intro _ he; cases he) | (intro he; cases he)

theorem State.answer_steady (h : Steady z s) : Steady z (State.answer s x1 x2) := by
  unfold State.answer
  try dsimp only
  repeat' first | (with_reducible first | assumption | split | intro _ | refine steady_mk ?_ rfl) | (intro _ he; cases he) | (intro he; cases he)

theorem State.monLine_steady (h : Steady z s) (hx2 : ∀ s, Steady z s → Steady z (x2 s)) : Steady z (State.monLine s x1 x2) := by
  unfold State.monLine
  try dsimp only
  repeat' first | (with_reducible first | assumption | apply hx2 | apply State.answer_steady | apply State.setFlag_steady | split | intro _ | refine steady_mk ?_ rfl) | (intro _ he; cases he) | (intro he; cases he)

theorem State.monCmd_steady (h : Steady z s) (hx2 : ∀ s, Steady z s → Steady z (x2 s)) : Steady z (State.monCmd s x1 x2) := by
  unfold State.monCmd
  try dsimp only
  repeat' first | (with_reducible first | assumption | apply hx2 | apply State.monLine_steady | split | intro _) | (intro _ he; cases he) | (intro he; cases he)

theorem State.setBaud_steady (h : Steady z s) : Steady z (State.setBaud s x1) := by
  unfold State.setBaud
  try dsimp only
  repeat' first | (with_reducible first | assumption | apply State.put_steady | split | intro _ | refine steady_mk ?_ rfl) | (intro _ he; cases he) | (intro he; cases he)

theorem State.wrMonCfg_steady (h : Steady z s) : Steady z (State.wrMonCfg s x1 x2) := by
  unfold State.wrMonCfg
  try dsimp only
  repeat' first | (with_reducible first | assumption | apply State.putBit_steady | apply State.put_steady | apply State.setBaud_steady | split | intro _) | (intro _ he; cases he) | (intro he; cases he)

theorem execMonCfgWrite_steady : ∃ t, execMonCfgWrite x0 x1 x2 s = .next t ∧ Steady s t := by
  refine ⟨_, rfl, ?_⟩
  have h : Steady s s := Steady.refl s
  try dsimp only
  repeat' first | (with_reducible first | assumption | apply State.guardWrite_steady | apply State.wrMonCfg_steady | split | intro _) | (intro _ he; cases he) | (intro he; cases he)

theorem execBaud_steady : ∃ t, execBaud x0 s = .next t ∧ Steady s t := by
  refine ⟨_, rfl, ?_⟩
  have h : Steady s s := Steady.refl s
  try dsimp only
  repeat' first | (with_reducible first | assumption | apply State.monCmd_steady | apply State.answer_steady | apply State.setBaud_steady | split | intro _) | (intro _ he; cases he) | (intro he; cases he)

theorem execBaudrev_steady : ∃ t, execBaudrev s = .next t ∧ Steady s t := by
  refine ⟨_, rfl, ?_⟩
  have h : Steady s s := Steady.refl s
  try dsimp only
  repeat' first | (with_reducible first | assumption | apply State.setFlag_steady | apply State.put_steady | split | intro _ | refine steady_mk ?_ rfl) | (intro _ he; cases he) | (intro he; cases he)

theorem execMonBadLine_steady : ∃ t, execMonBadLine x0 s = .next t ∧ Steady s t := by
  refine ⟨_, rfl, ?_⟩
  have h : Steady s s := Steady.refl s
  try dsimp only
  repeat' first | (with_reducible first | assumption | apply State.answer_steady | apply State.setFlag_steady | split | intro _) | (intro _ he; cases he) | (intro he; cases he)

theorem State.lockNow_steady (h : Steady z s) : Steady z (State.lockNow s) := by
  unfold State.lockNow
  try dsimp only
  repeat' first | (with_reducible first | assumption | apply State.putBit_steady | split | intro _) | (intro _ he; cases he) | (intro he; cases he)

theorem execLk_steady : ∃ t, execLk s = .next t ∧ Steady s t := by
  refine ⟨_, rfl, ?_⟩
  have h : Steady s s := Steady.refl s
  try dsimp only
  repeat' first | (with_reducible first | assumption | apply State.monCmd_steady | apply State.answer_steady | apply State.lockNow_steady | split | intro _) | (intro _ he; cases he) | (intro he; cases he)

theorem execUnlockIdleExpiry_steady : ∃ t, execUnlockIdleExpiry s = .next t ∧ Steady s t := by
  refine ⟨_, rfl, ?_⟩
  have h : Steady s s := Steady.refl s
  try dsimp only
  repeat' first | (with_reducible first | assumption | apply State.lockNow_steady | split | intro _) | (intro _ he; cases he) | (intro he; cases he)

theorem execLockoutEnd_steady : ∃ t, execLockoutEnd s = .next t ∧ Steady s t := by
  refine ⟨_, rfl, ?_⟩
  have h : Steady s s := Steady.refl s
  try dsimp only
  repeat' first | (with_reducible first | assumption | apply State.put_steady | split | intro _) | (intro _ he; cases he) | (intro he; cases he)

theorem State.unlockTry_steady (h : Steady z s) : Steady z (State.unlockTry s x1) := by
  unfold State.unlockTry
  try dsimp only
  repeat' first | (with_reducible first | assumption | apply State.answer_steady | apply State.setFlag_steady | apply State.put_steady | apply State.putBit_steady | apply State.setFlagI_steady | split | intro _ | refine steady_mk ?_ rfl) | (intro _ he; cases he) | (intro he; cases he)

theorem execUl_steady : ∃ t, execUl x0 s = .next t ∧ Steady s t := by
  refine ⟨_, rfl, ?_⟩
  have h : Steady s s := Steady.refl s
  try dsimp only
  repeat' first | (with_reducible first | assumption | apply State.monCmd_steady | apply State.answer_steady | apply State.draw_steady | apply State.unlockTry_steady | split | intro _ | refine steady_mk ?_ rfl) | (intro _ he; cases he) | (intro he; cases he)

theorem State.wrXngCtl_steady (h : Steady z s) : Steady z (State.wrXngCtl s x1) := by
  unfold State.wrXngCtl
  try dsimp only
  repeat' first | (with_reducible first | assumption | apply State.setFlag_steady | apply State.writeRw_steady | apply State.clearFlags_steady | split | intro _ | refine steady_mk ?_ rfl) | (intro _ he; cases he) | (intro he; cases he)

theorem State.wrXngTake_steady (h : Steady z s) : Steady z (State.wrXngTake s x1) := by
  unfold State.wrXngTake
  try dsimp only
  repeat' first | (with_reducible first | assumption | apply State.clearFlags_steady | split | intro _ | refine steady_mk ?_ rfl) | (intro _ he; cases he) | (intro he; cases he)

theorem execLegacyWrite_steady : ∃ t, execLegacyWrite x0 x1 x2 s = .next t ∧ Steady s t := by
  refine ⟨_, rfl, ?_⟩
  have h : Steady s s := Steady.refl s
  try dsimp only
  repeat' first | (with_reducible first | assumption | apply State.guardWrite_steady | apply State.wrXngCtl_steady | split | intro _) | (intro _ he; cases he) | (intro he; cases he)

theorem execTakeRelease_steady : ∃ t, execTakeRelease x0 x1 x2 s = .next t ∧ Steady s t := by
  refine ⟨_, rfl, ?_⟩
  have h : Steady s s := Steady.refl s
  try dsimp only
  repeat' first | (with_reducible first | assumption | apply State.guardWrite_steady | apply State.wrXngTake_steady | split | intro _) | (intro _ he; cases he) | (intro he; cases he)

theorem State.crossFails_steady (h : Steady z s) : Steady z (State.crossFails s x1) := by
  unfold State.crossFails
  try dsimp only
  repeat' first | (with_reducible first | assumption | apply State.put_steady | apply State.addSat_steady | apply State.raise_steady | apply State.setFlagI_steady | split | intro _) | (intro _ he; cases he) | (intro he; cases he)

theorem execXngStuck_steady : ∃ t, execXngStuck x0 x1 s = .next t ∧ Steady s t := by
  refine ⟨_, rfl, ?_⟩
  have h : Steady s s := Steady.refl s
  try dsimp only
  repeat' first | (with_reducible first | assumption | apply State.deliver_steady | apply State.crossFails_steady | apply State.addSat_steady | split | intro _) | (intro _ he; cases he) | (intro he; cases he)

theorem execCrossingTimeout_steady : ∃ t, execCrossingTimeout x0 s = .next t ∧ Steady s t := by
  refine ⟨_, rfl, ?_⟩
  have h : Steady s s := Steady.refl s
  try dsimp only
  repeat' first | (with_reducible first | assumption | apply State.crossFails_steady | split | intro _) | (intro _ he; cases he) | (intro he; cases he)

theorem State.phasePark_steady (h : Steady z s) : Steady z (State.phasePark s x1) := by
  unfold State.phasePark
  try dsimp only
  repeat' first | (with_reducible first | assumption | apply State.park_steady | split | intro _) | (intro _ he; cases he) | (intro he; cases he)

theorem State.putPhase_steady (h : Steady z s) : Steady z (State.putPhase s x1 x2 x3) := by
  unfold State.putPhase
  try dsimp only
  repeat' first | (with_reducible first | assumption | split | intro _ | refine steady_mk ?_ rfl) | (intro _ he; cases he) | (intro he; cases he)

theorem State.phaseCount_steady (h : Steady z s) : Steady z (State.phaseCount s x1) := by
  unfold State.phaseCount
  try dsimp only
  repeat' first | (with_reducible first | assumption | apply State.putPhase_steady | apply State.unpark_steady | apply State.phasePark_steady | split | intro _) | (intro _ he; cases he) | (intro he; cases he)

theorem State.phaseLock_steady (h : Steady z s) : Steady z (State.phaseLock s) := by
  unfold State.phaseLock
  try dsimp only
  repeat' first | (with_reducible first | assumption | apply State.unpark_steady | apply each_steady | split | intro _ | refine steady_mk ?_ rfl) | (intro _ he; cases he) | (intro he; cases he)

theorem execPhaseCountEval_steady : ∃ t, execPhaseCountEval x0 s = .next t ∧ Steady s t := by
  refine ⟨_, rfl, ?_⟩
  have h : Steady s s := Steady.refl s
  try dsimp only
  repeat' first | (with_reducible first | assumption | apply State.measure_steady | apply State.phaseLock_steady | apply State.phaseCount_steady | apply each_steady | split | intro _ | refine steady_mk ?_ rfl) | (intro _ he; cases he) | (intro he; cases he)

theorem State.derate_steady (h : Steady z s) : Steady z (State.derate s x1) := by
  unfold State.derate
  try dsimp only
  repeat' first | (with_reducible first | assumption | apply State.put_steady | apply State.message_steady | split | intro _ | refine steady_mk ?_ rfl) | (intro _ he; cases he) | (intro he; cases he)

theorem execDerateEval_steady : ∃ t, execDerateEval x0 s = .next t ∧ Steady s t := by
  refine ⟨_, rfl, ?_⟩
  have h : Steady s s := Steady.refl s
  try dsimp only
  repeat' first | (with_reducible first | assumption | apply State.measure_steady | apply State.derate_steady | apply each_steady | split | intro _) | (intro _ he; cases he) | (intro he; cases he)

theorem execOtPark_steady : ∃ t, execOtPark x0 s = .next t ∧ Steady s t := by
  refine ⟨_, rfl, ?_⟩
  have h : Steady s s := Steady.refl s
  try dsimp only
  repeat' first | (with_reducible first | assumption | apply State.park_steady | apply State.raise_steady | apply State.live_steady | split | intro _) | (intro _ he; cases he) | (intro he; cases he)

theorem State.ffwd_steady (h : Steady z s) : Steady z (State.ffwd s x1) := by
  unfold State.ffwd
  try dsimp only
  repeat' first | (with_reducible first | assumption | apply State.ffMode_steady | split | intro _ | refine steady_mk ?_ rfl) | (intro _ he; cases he) | (intro he; cases he)

theorem execFfwdEval_steady : ∃ t, execFfwdEval x0 s = .next t ∧ Steady s t := by
  refine ⟨_, rfl, ?_⟩
  have h : Steady s s := Steady.refl s
  try dsimp only
  repeat' first | (with_reducible first | assumption | apply State.ffwd_steady | apply each_steady | split | intro _ | refine steady_mk ?_ rfl) | (intro _ he; cases he) | (intro he; cases he)

theorem State.rideShed_steady (h : Steady z s) : Steady z (State.rideShed s) := by
  unfold State.rideShed
  try dsimp only
  repeat' first | (with_reducible first | assumption | apply State.put_steady | apply State.putBit_steady | apply State.railOff_steady | apply State.message_steady | apply State.setFlag_steady | apply State.setFlagI_steady | split | intro _ | refine steady_mk ?_ rfl) | (intro _ he; cases he) | (intro he; cases he)

theorem State.rideWait_steady (h : Steady z s) : Steady z (State.rideWait s).2 := by
  unfold State.rideWait
  try dsimp only
  repeat' first | (with_reducible first | assumption | split | intro _ | refine steady_mk ?_ rfl) | (intro _ he; cases he) | (intro he; cases he)

theorem execRideEval_steady : ∃ t, execRideEval x0 s = .next t ∧ Steady s t := by
  refine ⟨_, rfl, ?_⟩
  have h : Steady s s := Steady.refl s
  try dsimp only
  repeat' first | (with_reducible first | assumption | apply State.setFlagI_steady | apply State.putBit_steady | apply State.put_steady | apply State.rideWait_steady | apply State.rideShed_steady | split | intro _ | refine steady_mk ?_ rfl) | (intro _ he; cases he) | (intro he; cases he)

theorem State.restoreFrom_steady (h : Steady z s) : Steady z (State.restoreFrom s x1) := by
  induction x1 generalizing s with
  | nil =>
    unfold State.restoreFrom
    try dsimp only
    repeat' first | (with_reducible first | assumption | apply State.putBit_steady | apply State.unshed_steady | apply State.groupOn_steady | apply State.railOn_steady | apply State.message_steady | split | intro _ | refine steady_mk ?_ rfl) | (intro _ he; cases he) | (intro he; cases he)
  | cons y l ih =>
    unfold State.restoreFrom
    try dsimp only
    repeat' first | (with_reducible first | assumption | apply State.putBit_steady | apply State.unshed_steady | apply State.groupOn_steady | apply State.railOn_steady | apply State.message_steady | apply ih | split | intro _ | refine steady_mk ?_ rfl) | (intro _ he; cases he) | (intro he; cases he)

theorem execRideEpisodeEnd_steady : ∃ t, execRideEpisodeEnd s = .next t ∧ Steady s t := by
  refine ⟨_, rfl, ?_⟩
  have h : Steady s s := Steady.refl s
  try dsimp only
  repeat' first | (with_reducible first | assumption | apply State.putBit_steady | apply State.put_steady | apply State.restoreFrom_steady | split | intro _) | (intro _ he; cases he) | (intro he; cases he)

theorem execPolRideRestore_steady : ∃ t, execPolRideRestore s = .next t ∧ Steady s t := by
  refine ⟨_, rfl, ?_⟩
  have h : Steady s s := Steady.refl s
  try dsimp only
  repeat' first | (with_reducible first | assumption | apply State.restoreFrom_steady | split | intro _) | (intro _ he; cases he) | (intro he; cases he)

theorem execPolLockWrite_steady : ∃ t, execPolLockWrite x0 x1 x2 s = .next t ∧ Steady s t := by
  refine ⟨_, rfl, ?_⟩
  have h : Steady s s := Steady.refl s
  try dsimp only
  repeat' first | (with_reducible first | assumption | apply State.guardWrite_steady | apply State.plainWrite_steady | split | intro _) | (intro _ he; cases he) | (intro he; cases he)

theorem State.wrPolPhase_steady (h : Steady z s) : Steady z (State.wrPolPhase s x1 x2) := by
  unfold State.wrPolPhase
  try dsimp only
  repeat' first | (with_reducible first | assumption | apply State.writeRw_steady | split | intro _) | (intro _ he; cases he) | (intro he; cases he)

theorem State.wrPolDer_steady (h : Steady z s) : Steady z (State.wrPolDer s x1 x2) := by
  unfold State.wrPolDer
  try dsimp only
  repeat' first | (with_reducible first | assumption | apply State.writeRw_steady | split | intro _) | (intro _ he; cases he) | (intro he; cases he)

theorem execPolLimitWrite_steady : ∃ t, execPolLimitWrite x0 x1 x2 x3 x4 s = .next t ∧ Steady s t := by
  refine ⟨_, rfl, ?_⟩
  have h : Steady s s := Steady.refl s
  try dsimp only
  repeat' first | (with_reducible first | assumption | apply State.guardWrite_steady | apply State.wrPolPhase_steady | apply State.wrPolDer_steady | split | intro _) | (intro _ he; cases he) | (intro he; cases he)

theorem State.wrRide_steady (h : Steady z s) : Steady z (State.wrRide s x1) := by
  unfold State.wrRide
  try dsimp only
  repeat' first | (with_reducible first | assumption | apply State.writeRw_steady | split | intro _) | (intro _ he; cases he) | (intro he; cases he)

theorem State.putConv_steady (h : Steady z s) : Steady z (State.putConv s x1 x2) := by
  unfold State.putConv
  try dsimp only
  repeat' first | (with_reducible first | assumption | split | intro _ | refine steady_mk ?_ rfl) | (intro _ he; cases he) | (intro he; cases he)

theorem State.beginScan_steady (h : Steady z s) : Steady z (State.beginScan s x1) := by
  unfold State.beginScan
  try dsimp only
  repeat' first | (with_reducible first | assumption | apply State.putConv_steady | split | intro _) | (intro _ he; cases he) | (intro he; cases he)

theorem State.wrCvCtl_steady (h : Steady z s) : Steady z (State.wrCvCtl s x1 x2) := by
  unfold State.wrCvCtl
  try dsimp only
  repeat' first | (with_reducible first | assumption | apply State.writeRw_steady | apply State.putConv_steady | apply State.put_steady | apply State.beginScan_steady | split | intro _) | (intro _ he; cases he) | (intro he; cases he)

theorem execScanStart_steady : ∃ t, execScanStart x0 s = .next t ∧ Steady s t := by
  refine ⟨_, rfl, ?_⟩
  have h : Steady s s := Steady.refl s
  try dsimp only
  repeat' first | (with_reducible first | assumption | apply State.beginScan_steady | apply State.putConv_steady | split | intro _) | (intro _ he; cases he) | (intro he; cases he)

theorem execStart_steady : ∃ t, execStart x0 x1 s = .next t ∧ Steady s t := by
  refine ⟨_, rfl, ?_⟩
  have h : Steady s s := Steady.refl s
  try dsimp only
  repeat' first | (with_reducible first | assumption | apply State.guardWrite_steady | apply State.wrCvCtl_steady | split | intro _) | (intro _ he; cases he) | (intro he; cases he)

theorem State.rdCvData_steady (h : Steady z s) : Steady z (State.rdCvData s x1).2 := by
  unfold State.rdCvData
  try dsimp only
  repeat' first | (with_reducible first | assumption | apply State.wr_steady | split | intro _) | (intro _ he; cases he) | (intro he; cases he)

theorem State.putFactors_steady (h : Steady z s) : Steady z (State.putFactors s x1 x2) := by
  unfold State.putFactors
  try dsimp only
  repeat' first | (with_reducible first | assumption | apply State.wr_steady | apply each_steady | split | intro _) | (intro _ he; cases he) | (intro he; cases he)

theorem State.correctBack_steady (h : Steady z s) : Steady z (State.correctBack s x1 x2) := by
  unfold State.correctBack
  try dsimp only
  repeat' first | (with_reducible first | assumption | apply State.putFactors_steady | apply State.live_steady | apply State.raise_steady | apply State.setFlag_steady | split | intro _) | (intro _ he; cases he) | (intro he; cases he)

theorem State.wrCvFlag_steady (h : Steady z s) : Steady z (State.wrCvFlag s x1 x2) := by
  unfold State.wrCvFlag
  try dsimp only
  repeat' first | (with_reducible first | assumption | apply State.clearFlagsBut_steady | split | intro _) | (intro _ he; cases he) | (intro he; cases he)

theorem State.claimMoves_steady (h : Steady z s) : Steady z (State.claimMoves s x1 x2 x3) := by
  unfold State.claimMoves
  try dsimp only
  repeat' first | (with_reducible first | assumption | apply State.putConv_steady | split | intro _) | (intro _ he; cases he) | (intro he; cases he)

theorem State.senseJoins_steady (h : Steady z s) : Steady z (State.senseJoins s x1) := by
  unfold State.senseJoins
  try dsimp only
  repeat' first | (with_reducible first | assumption | apply State.startGo_steady | split | intro _ | refine steady_mk ?_ rfl) | (intro _ he; cases he) | (intro he; cases he)

theorem State.stageWarm_steady (h : Steady z s) : Steady z (State.stageWarm s x1) := by
  unfold State.stageWarm
  try dsimp only
  repeat' first | (with_reducible first | assumption | apply State.thermal_steady | apply State.hotMark_steady | apply State.put_steady | split | intro _) | (intro _ he; cases he) | (intro he; cases he)

theorem State.tapRead_steady (h : Steady z s) : Steady z (State.tapRead s x1 x2) := by
  unfold State.tapRead
  try dsimp only
  repeat' first | (with_reducible first | assumption | apply State.senseJoins_steady | apply State.vinSeen_steady | apply State.stageWarm_steady | apply State.showIbat_steady | apply State.put_steady | split | intro _) | (intro _ he; cases he) | (intro he; cases he)

theorem State.wrDmaCfg_steady (h : Steady z s) : Steady z (State.wrDmaCfg s x1 x2) := by
  unfold State.wrDmaCfg
  try dsimp only
  repeat' first | (with_reducible first | assumption | apply State.writeRw_steady | apply State.putBit_steady | apply State.put_steady | apply State.dmaRestart_steady | apply State.setFlag_steady | split | intro _) | (intro _ he; cases he) | (intro he; cases he)

theorem execDmaEnable_steady : ∃ t, execDmaEnable x0 x1 x2 x3 s = .next t ∧ Steady s t := by
  refine ⟨_, rfl, ?_⟩
  have h : Steady s s := Steady.refl s
  try dsimp only
  repeat' first | (with_reducible first | assumption | apply State.guardWrite_steady | apply State.wrDmaCfg_steady | split | intro _) | (intro _ he; cases he) | (intro he; cases he)

theorem State.wrDmaPtr_steady (h : Steady z s) : Steady z (State.wrDmaPtr s x1 x2) := by
  unfold State.wrDmaPtr
  try dsimp only
  repeat' first | (with_reducible first | assumption | apply State.writeRw_steady | split | intro _) | (intro _ he; cases he) | (intro he; cases he)

theorem State.wrFactor_steady (h : Steady z s) (hx2 : ∀ q, x2 ≠ .EVT_QBASE q) : Steady z (State.wrFactor s x1 x2 x3) := by
  unfold State.wrFactor
  try dsimp only
  repeat' first | (with_reducible first | assumption | apply State.writeRw_steady | apply State.setFlagI_steady | split | intro _) | (intro _ he; cases he) | (intro he; cases he)

theorem State.trigger_steady (h : Steady z s) : Steady z (State.trigger s) := by
  unfold State.trigger
  try dsimp only
  repeat' first | (with_reducible first | assumption | apply State.beginScan_steady | apply State.setFlag_steady | apply State.putBit_steady | apply State.wr_steady | apply each_steady | split | intro _) | (intro _ he; cases he) | (intro he; cases he)

theorem execCommonTrigger_steady : ∃ t, execCommonTrigger s = .next t ∧ Steady s t := by
  refine ⟨_, rfl, ?_⟩
  have h : Steady s s := Steady.refl s
  try dsimp only
  repeat' first | (with_reducible first | assumption | apply State.trigger_steady | split | intro _) | (intro _ he; cases he) | (intro he; cases he)

theorem State.wrTrig_steady (h : Steady z s) : Steady z (State.wrTrig s x1) := by
  unfold State.wrTrig
  try dsimp only
  repeat' first | (with_reducible first | assumption | apply State.writeRw_steady | apply State.trigger_steady | split | intro _) | (intro _ he; cases he) | (intro he; cases he)

theorem execFire_steady : ∃ t, execFire x0 s = .next t ∧ Steady s t := by
  refine ⟨_, rfl, ?_⟩
  have h : Steady s s := Steady.refl s
  try dsimp only
  repeat' first | (with_reducible first | assumption | apply State.guardWrite_steady | apply State.wrTrig_steady | split | intro _) | (intro _ he; cases he) | (intro he; cases he)

theorem State.calNext_steady (h : Steady z s) : Steady z (State.calNext s x1) := by
  unfold State.calNext
  try dsimp only
  repeat' first | (with_reducible first | assumption | apply State.complete_steady | apply State.putBit_steady | apply State.putConv_steady | split | intro _ | refine steady_mk ?_ rfl) | (intro _ he; cases he) | (intro he; cases he)

theorem State.calStop_steady (h : Steady z s) : Steady z (State.calStop s x1 x2) := by
  unfold State.calStop
  try dsimp only
  repeat' first | (with_reducible first | assumption | apply State.putBit_steady | apply State.complete_steady | apply each_steady | split | intro _ | refine steady_mk ?_ rfl) | (intro _ he; cases he) | (intro he; cases he)

theorem State.startUpCalOne_steady (h : Steady z s) : Steady z (State.startUpCalOne s x1 x2) := by
  unfold State.startUpCalOne
  try dsimp only
  repeat' first | (with_reducible first | assumption | apply State.putBit_steady | apply State.putFactors_steady | apply State.raise_steady | split | intro _) | (intro _ he; cases he) | (intro he; cases he)

theorem State.startUpCal_steady (h : Steady z s) : Steady z (State.startUpCal s x1) := by
  unfold State.startUpCal
  try dsimp only
  repeat' first | (with_reducible first | assumption | apply State.startUpCalOne_steady | apply each_steady | split | intro _) | (intro _ he; cases he) | (intro he; cases he)

theorem execSurveyCal_steady : ∃ t, execSurveyCal x0 s = .next t ∧ Steady s t := by
  refine ⟨_, rfl, ?_⟩
  have h : Steady s s := Steady.refl s
  try dsimp only
  repeat' first | (with_reducible first | assumption | apply State.issue_steady | apply State.withRunning_steady | apply State.calNext_steady | split | intro _) | (intro _ he; cases he) | (intro he; cases he)

theorem execConverterCalDone_steady : ∃ t, execConverterCalDone x0 x1 s = .next t ∧ Steady s t := by
  refine ⟨_, rfl, ?_⟩
  have h : Steady s s := Steady.refl s
  try dsimp only
  repeat' first | (with_reducible first | assumption | apply State.putBit_steady | apply State.calNext_steady | apply State.putFactors_steady | apply State.calStop_steady | split | intro _) | (intro _ he; cases he) | (intro he; cases he)

end Sys2Proof.Machine
end

