-- ==== Sys2Proof/Laws/SteadyPower.lean ====
section
/-! SUPPORT. The operations of power, register accesses, the trackplan and the start-up store into queued event records alone. -/

namespace Sys2Proof.Machine

variable {z s : State}

theorem State.endLive_steady (h : Steady z s) : Steady z (State.endLive s x1) := by
  unfold State.endLive
  try dsimp only
  repeat' first | (with_reducible first | assumption | apply State.live_steady | apply each_steady | split | intro _) | (intro _ he; cases he) | (intro he; cases he)

theorem State.cmdReset_steady (h : Steady z s) : Steady z (State.cmdReset s) := by
  unfold State.cmdReset
  try dsimp only
  repeat' first | (with_reducible first | assumption | apply State.gap_steady | apply each_steady | split | intro _ | refine steady_mk ?_ rfl) | (intro _ he; cases he) | (intro he; cases he)

theorem State.dropQueue_steady (h : Steady z s) : Steady z (State.dropQueue s x1) := by
  unfold State.dropQueue
  try dsimp only
  repeat' first | (with_reducible first | assumption | apply State.gap_steady | apply State.putOrder_steady | apply State.put_steady | apply each_steady | split | intro _) | (intro _ he; cases he) | (intro he; cases he)

theorem State.clearStg_steady (h : Steady z s) : Steady z (State.clearStg s) := by
  unfold State.clearStg
  try dsimp only
  repeat' first | (with_reducible first | assumption | apply State.regangEnd_steady | split | intro _ | refine steady_mk ?_ rfl) | (intro _ he; cases he) | (intro he; cases he)

theorem State.clearAdc_steady (h : Steady z s) : Steady z (State.clearAdc s) := by
  unfold State.clearAdc
  try dsimp only
  repeat' first | (with_reducible first | assumption | apply State.calStop_steady | split | intro _ | refine steady_mk ?_ rfl) | (intro _ he; cases he) | (intro he; cases he)

theorem State.clearChg_steady (h : Steady z s) : Steady z (State.clearChg s) := by
  unfold State.clearChg
  try dsimp only
  repeat' first | (with_reducible first | assumption | apply State.chargerLoops_steady | apply State.put_steady | split | intro _ | refine steady_mk ?_ rfl) | (intro _ he; cases he) | (intro he; cases he)

theorem State.clearLink_steady (h : Steady z s) : Steady z (State.clearLink s) := by
  unfold State.clearLink
  try dsimp only
  repeat' first | (with_reducible first | assumption | apply State.surveyEnd_steady | apply State.complete_steady | apply State.flowReset_steady | apply each_steady | split | intro _ | refine steady_mk ?_ rfl) | (intro _ he; cases he) | (intro he; cases he)

theorem State.clearDom_steady (h : Steady z s) : Steady z (State.clearDom s x1) := by
  unfold State.clearDom
  try dsimp only
  repeat' first | (with_reducible first | assumption | apply State.clearStg_steady | apply State.clearAdc_steady | apply State.clearChg_steady | apply State.clearLink_steady | apply State.otpReset_steady | apply State.ledgerReset_steady | apply State.put_steady | split | intro _ | refine steady_mk ?_ rfl) | (intro _ he; cases he) | (intro he; cases he)

theorem State.condsDown_steady (h : Steady z s) : Steady z (State.condsDown s x1 x2) := by
  unfold State.condsDown
  try dsimp only
  repeat' first | (with_reducible first | assumption | apply State.condFall_steady | apply State.happen_steady | apply each_steady | split | intro _) | (intro _ he; cases he) | (intro he; cases he)

theorem State.deepBegin_steady (h : Steady z s) : Steady z (State.deepBegin s) := by
  unfold State.deepBegin
  try dsimp only
  repeat' first | (with_reducible first | assumption | apply State.put_steady | apply State.putBit_steady | split | intro _ | refine steady_mk ?_ rfl) | (intro _ he; cases he) | (intro he; cases he)

theorem State.deepRefuse_steady (h : Steady z s) : Steady z (State.deepRefuse s x1) := by
  unfold State.deepRefuse
  try dsimp only
  repeat' first | (with_reducible first | assumption | apply State.setFlagI_steady | apply State.put_steady | split | intro _) | (intro _ he; cases he) | (intro he; cases he)

theorem State.deepRequest_steady (h : Steady z s) : Steady z (State.deepRequest s) := by
  unfold State.deepRequest
  try dsimp only
  repeat' first | (with_reducible first | assumption | apply State.deepRefuse_steady | apply State.putBit_steady | apply State.deepBegin_steady | split | intro _) | (intro _ he; cases he) | (intro he; cases he)

theorem State.sleepRequest_steady (h : Steady z s) : Steady z (State.sleepRequest s) := by
  unfold State.sleepRequest
  try dsimp only
  repeat' first | (with_reducible first | assumption | apply State.sleepNow_steady | split | intro _ | refine steady_mk ?_ rfl) | (intro _ he; cases he) | (intro he; cases he)

theorem State.wrPwrCtl_steady (h : Steady z s) : Steady z (State.wrPwrCtl s x1) := by
  unfold State.wrPwrCtl
  try dsimp only
  repeat' first | (with_reducible first | assumption | apply State.writeRw_steady | apply State.sleepRequest_steady | apply State.deepRequest_steady | apply State.deepDrop_steady | split | intro _) | (intro _ he; cases he) | (intro he; cases he)

theorem execSleepRequest_steady : ∃ t, execSleepRequest x0 x1 x2 s = .next t ∧ Steady s t := by
  refine ⟨_, rfl, ?_⟩
  have h : Steady s s := Steady.refl s
  try dsimp only
  repeat' first | (with_reducible first | assumption | apply State.guardWrite_steady | apply State.wrPwrCtl_steady | split | intro _) | (intro _ he; cases he) | (intro he; cases he)

theorem execDeepRequest_steady : ∃ t, execDeepRequest x0 x1 x2 s = .next t ∧ Steady s t := by
  refine ⟨_, rfl, ?_⟩
  have h : Steady s s := Steady.refl s
  try dsimp only
  repeat' first | (with_reducible first | assumption | apply State.guardWrite_steady | apply State.wrPwrCtl_steady | split | intro _) | (intro _ he; cases he) | (intro he; cases he)

theorem execDeepDrop_steady : ∃ t, execDeepDrop x0 x1 x2 s = .next t ∧ Steady s t := by
  refine ⟨_, rfl, ?_⟩
  have h : Steady s s := Steady.refl s
  try dsimp only
  repeat' first | (with_reducible first | assumption | apply State.guardWrite_steady | apply State.wrPwrCtl_steady | split | intro _) | (intro _ he; cases he) | (intro he; cases he)

theorem execDeepHoldTimeout_steady : ∃ t, execDeepHoldTimeout s = .next t ∧ Steady s t := by
  refine ⟨_, rfl, ?_⟩
  have h : Steady s s := Steady.refl s
  try dsimp only
  repeat' first | (with_reducible first | assumption | apply State.deepDrop_steady | split | intro _) | (intro _ he; cases he) | (intro he; cases he)

theorem State.wakeDark_steady (h : Steady z s) : Steady z (State.wakeDark s x1 x2) := by
  unfold State.wakeDark
  try dsimp only
  repeat' first | (with_reducible first | assumption | apply State.put_steady | split | intro _ | refine steady_mk ?_ rfl) | (intro _ he; cases he) | (intro he; cases he)

theorem execShipWakeButton_steady : ∃ t, execShipWakeButton s = .next t ∧ Steady s t := by
  refine ⟨_, rfl, ?_⟩
  have h : Steady s s := Steady.refl s
  try dsimp only
  repeat' first | (with_reducible first | assumption | apply State.enterBattery_steady | apply State.wakeDark_steady | split | intro _ | refine steady_mk ?_ rfl) | (intro _ he; cases he) | (intro he; cases he)

theorem execSourceWake_steady : ∃ t, execSourceWake s = .next t ∧ Steady s t := by
  refine ⟨_, rfl, ?_⟩
  have h : Steady s s := Steady.refl s
  try dsimp only
  repeat' first | (with_reducible first | assumption | apply State.wakeDark_steady | apply State.putSrcOk_steady | split | intro _) | (intro _ he; cases he) | (intro he; cases he)

theorem execOpenEnd_steady : ∃ t, execOpenEnd s = .next t ∧ Steady s t := by
  refine ⟨_, rfl, ?_⟩
  have h : Steady s s := Steady.refl s
  try dsimp only
  repeat' first | (with_reducible first | assumption | apply State.enterBattery_steady | split | intro _ | refine steady_mk ?_ rfl) | (intro _ he; cases he) | (intro he; cases he)

theorem execRefclkLoss_steady : ∃ t, execRefclkLoss s = .next t ∧ Steady s t := by
  refine ⟨_, rfl, ?_⟩
  have h : Steady s s := Steady.refl s
  try dsimp only
  repeat' first | (with_reducible first | assumption | apply State.raise_steady | apply State.live_steady | split | intro _ | refine steady_mk ?_ rfl) | (intro _ he; cases he) | (intro he; cases he)

theorem execRefclkReturn_steady : ∃ t, execRefclkReturn s = .next t ∧ Steady s t := by
  refine ⟨_, rfl, ?_⟩
  have h : Steady s s := Steady.refl s
  try dsimp only
  repeat' first | (with_reducible first | assumption | apply State.live_steady | split | intro _ | refine steady_mk ?_ rfl) | (intro _ he; cases he) | (intro he; cases he)

theorem State.cancelLate_steady (h : Steady z s) : Steady z (State.cancelLate s x1) := by
  unfold State.cancelLate
  try dsimp only
  repeat' first | (with_reducible first | assumption | apply State.setFlagI_steady | split | intro _) | (intro _ he; cases he) | (intro he; cases he)

theorem State.dropJob_steady (h : Steady z s) : Steady z (State.dropJob s x1) := by
  unfold State.dropJob
  try dsimp only
  repeat' first | (with_reducible first | assumption | apply State.putLane_steady | apply State.put_steady | split | intro _ | refine steady_mk ?_ rfl) | (intro _ he; cases he) | (intro he; cases he)

theorem State.cancelLedger_steady (h : Steady z s) : Steady z (State.cancelLedger s x1 x2) := by
  unfold State.cancelLedger
  try dsimp only
  repeat' first | (with_reducible first | assumption | apply State.kick_steady | apply State.complete_steady | apply State.dropJob_steady | apply State.cancelLate_steady | split | intro _) | (intro _ he; cases he) | (intro he; cases he)

theorem State.cancelReload_steady (h : Steady z s) : Steady z (State.cancelReload s x1 x2) := by
  unfold State.cancelReload
  try dsimp only
  repeat' first | (with_reducible first | assumption | apply State.complete_steady | apply State.reloadAbort_steady | apply State.cancelLate_steady | split | intro _) | (intro _ he; cases he) | (intro he; cases he)

theorem State.cancelRunning_steady (h : Steady z s) : Steady z (State.cancelRunning s x1 x2) := by
  unfold State.cancelRunning
  try dsimp only
  repeat' first | (with_reducible first | assumption | apply State.cancelReload_steady | apply State.regangCancel_steady | apply State.complete_steady | apply State.regangIdle_steady | apply State.calStop_steady | apply State.putSlot_steady | apply State.cancelLedger_steady | apply State.cancelLate_steady | split | intro _) | (intro _ he; cases he) | (intro he; cases he)

theorem State.wrCancel_steady (h : Steady z s) : Steady z (State.wrCancel s x1 x2) := by
  unfold State.wrCancel
  try dsimp only
  repeat' first | (with_reducible first | assumption | apply State.setFlagI_steady | apply State.putSlot_steady | apply State.cancelRunning_steady | apply State.cancelLate_steady | split | intro _) | (intro _ he; cases he) | (intro he; cases he)

theorem execCmdCancel_steady : ∃ t, execCmdCancel x0 x1 x2 s = .next t ∧ Steady s t := by
  refine ⟨_, rfl, ?_⟩
  have h : Steady s s := Steady.refl s
  try dsimp only
  repeat' first | (with_reducible first | assumption | apply State.guardSent_steady | apply State.wrCancel_steady | split | intro _) | (intro _ he; cases he) | (intro he; cases he)

theorem State.capture_steady (h : Steady z s) : Steady z (State.capture s x1) := by
  unfold State.capture
  try dsimp only
  repeat' first | (with_reducible first | assumption | apply State.setFlagI_steady | apply State.addSat_steady | split | intro _ | refine steady_mk ?_ rfl) | (intro _ he; cases he) | (intro he; cases he)

theorem execGroupCapture_steady : ∃ t, execGroupCapture x0 s = .next t ∧ Steady s t := by
  refine ⟨_, rfl, ?_⟩
  have h : Steady s s := Steady.refl s
  try dsimp only
  repeat' first | (with_reducible first | assumption | apply State.capture_steady | split | intro _) | (intro _ he; cases he) | (intro he; cases he)

theorem State.rdHeld_steady (h : Steady z s) : Steady z (State.rdHeld s x1 x2).2 := by
  unfold State.rdHeld
  try dsimp only
  repeat' first | (with_reducible first | assumption | apply State.capture_steady | split | intro _) | (intro _ he; cases he) | (intro he; cases he)

theorem State.rdNowEven_steady (h : Steady z s) : Steady z (State.rdNowEven s x1).2 := by
  unfold State.rdNowEven
  try dsimp only
  repeat' first | (with_reducible first | assumption | apply State.rdNowLo_steady | split | intro _) | (intro _ he; cases he) | (intro he; cases he)

theorem State.readSram_steady (h : Steady z s) : Steady z (State.readSram s x1 x2).2 := by
  unfold State.readSram
  try dsimp only
  repeat' first | (with_reducible first | assumption | apply State.memRead_steady | apply State.raise_steady | split | intro _) | (intro _ he; cases he) | (intro he; cases he)

theorem State.readWindow_steady (h : Steady z s) : Steady z (State.readWindow s x1).2 := by
  unfold State.readWindow
  try dsimp only
  repeat' first | (with_reducible first | assumption | apply State.draw_steady | apply State.memRead_steady | apply State.otpRead_steady | split | intro _) | (intro _ he; cases he) | (intro he; cases he)

theorem State.iaddrNext_steady (h : Steady z s) : Steady z (State.iaddrNext s) := by
  unfold State.iaddrNext
  try dsimp only
  repeat' first | (with_reducible first | assumption | apply State.wr_steady | split | intro _) | (intro _ he; cases he) | (intro he; cases he)

theorem State.wrWinbase_steady (h : Steady z s) : Steady z (State.wrWinbase s x1) := by
  unfold State.wrWinbase
  try dsimp only
  repeat' first | (with_reducible first | assumption | apply State.putBit_steady | apply State.writeRw_steady | split | intro _) | (intro _ he; cases he) | (intro he; cases he)

theorem State.wrHoldmax_steady (h : Steady z s) : Steady z (State.wrHoldmax s x1) := by
  unfold State.wrHoldmax
  try dsimp only
  repeat' first | (with_reducible first | assumption | apply State.writeRw_steady | split | intro _) | (intro _ he; cases he) | (intro he; cases he)

theorem State.wrParam_steady (h : Steady z s) : Steady z (State.wrParam s x1 x2 x3 x4) := by
  unfold State.wrParam
  try dsimp only
  repeat' first | (with_reducible first | assumption | apply State.putBank_steady | split | intro _) | (intro _ he; cases he) | (intro he; cases he)

theorem State.wrTxaddr_steady (h : Steady z s) : Steady z (State.wrTxaddr s x1 x2 x3) := by
  unfold State.wrTxaddr
  try dsimp only
  repeat' first | (with_reducible first | assumption | apply State.putBank_steady | split | intro _) | (intro _ he; cases he) | (intro he; cases he)

theorem State.tplRefused_steady (h : Steady z s) : Steady z (State.tplRefused s x1) := by
  unfold State.tplRefused
  try dsimp only
  repeat' first | (with_reducible first | assumption | apply State.put_steady | apply State.wr_steady | apply State.draw_steady | split | intro _) | (intro _ he; cases he) | (intro he; cases he)

theorem State.resetReg_steady (h : Steady z s) (hx1 : ∀ q, x1 ≠ .EVT_QBASE q) : Steady z (State.resetReg s x1) := by
  unfold State.resetReg
  try dsimp only
  repeat' first | (with_reducible first | assumption | apply State.cfgApplied_steady | apply State.writeRw_steady | apply State.recomputeQuse_steady | apply State.wrBatcfg_steady | split | intro _) | (intro _ he; cases he) | (intro he; cases he)

theorem State.afterRegs_steady (h : Steady z s) : Steady z (State.afterRegs s) := by
  unfold State.afterRegs
  try dsimp only
  repeat' first | (with_reducible first | assumption | apply State.faultPin_steady | apply State.showExcluded_steady | split | intro _) | (intro _ he; cases he) | (intro he; cases he)

theorem State.closeSlots_steady (h : Steady z s) : Steady z (State.closeSlots s x1) := by
  unfold State.closeSlots
  try dsimp only
  repeat' first | (with_reducible first | assumption | apply State.closeSlot_steady | apply each_steady | split | intro _) | (intro _ he; cases he) | (intro he; cases he)

theorem State.showStream_steady (h : Steady z s) : Steady z (State.showStream s x1) := by
  unfold State.showStream
  try dsimp only
  repeat' first | (with_reducible first | assumption | apply State.put_steady | apply State.wr_steady | split | intro _) | (intro _ he; cases he) | (intro he; cases he)

theorem State.reReact_steady (h : Steady z s) : Steady z (State.reReact s) := by
  unfold State.reReact
  try dsimp only
  repeat' first | (with_reducible first | assumption | apply State.react_steady | apply each_steady | split | intro _) | (intro _ he; cases he) | (intro he; cases he)

theorem State.resetsLow_steady (h : Steady z s) : Steady z (State.resetsLow s) := by
  unfold State.resetsLow
  try dsimp only
  repeat' first | (with_reducible first | assumption | apply State.putBit_steady | apply State.resetLow_steady | apply each_steady | split | intro _) | (intro _ he; cases he) | (intro he; cases he)

theorem State.tplRuns_steady (h : Steady z s) : Steady z (State.tplRuns s x1 x2) := by
  unfold State.tplRuns
  try dsimp only
  repeat' first | (with_reducible first | assumption | apply State.showStream_steady | apply State.setTpl_steady | apply State.closeSlots_steady | apply State.markUnnamed_steady | apply State.resetsLow_steady | apply State.put_steady | apply State.reReact_steady | apply State.happen_steady | split | intro _ | refine steady_mk ?_ rfl) | (intro _ he; cases he) | (intro he; cases he)

theorem State.tplNone_steady (h : Steady z s) : Steady z (State.tplNone s) := by
  unfold State.tplNone
  try dsimp only
  repeat' first | (with_reducible first | assumption | apply State.dropRequests_steady | apply State.resetsLow_steady | apply State.openSlot_steady | apply State.wr_steady | apply State.setTpl_steady | apply each_steady | split | intro _ | refine steady_mk ?_ rfl) | (intro _ he; cases he) | (intro he; cases he)

theorem State.bootRuns_steady (h : Steady z s) : Steady z (State.bootRuns s x1 x2) := by
  unfold State.bootRuns
  try dsimp only
  repeat' first | (with_reducible first | assumption | apply State.wr_steady | apply State.put_steady | apply State.putBit_steady | apply State.tplRuns_steady | apply State.happen_steady | split | intro _) | (intro _ he; cases he) | (intro he; cases he)

theorem State.loadStage_steady (h : Steady z s) (hx2 : ∀ s, Steady z s → Steady z (x2 s)) : Steady z (State.loadStage s x1 x2) := by
  unfold State.loadStage
  try dsimp only
  repeat' first | (with_reducible first | assumption | apply hx2 | apply State.eccRange_steady | apply State.readSram_steady | split | intro _) | (intro _ he; cases he) | (intro he; cases he)

theorem State.refuseCmd_steady (h : Steady z s) : Steady z (State.refuseCmd s x1 x2 x3) := by
  unfold State.refuseCmd
  try dsimp only
  repeat' first | (with_reducible first | assumption | apply State.tplRefused_steady | apply State.complete_steady | split | intro _) | (intro _ he; cases he) | (intro he; cases he)

theorem State.commitStream_steady (h : Steady z s) : Steady z (State.commitStream s x1 x2 x3) := by
  unfold State.commitStream
  try dsimp only
  repeat' first | (with_reducible first | assumption | apply State.enqueue_steady | split | intro _) | (intro _ he; cases he) | (intro he; cases he)

theorem State.commitLoad_steady (h : Steady z s) : Steady z (State.commitLoad s x1 x2) := by
  unfold State.commitLoad
  try dsimp only
  repeat' first | (with_reducible first | assumption | apply State.tplUnsaved_steady | apply State.commitStream_steady | split | intro _) | (intro _ he; cases he) | (intro he; cases he)

theorem State.tplVerify_steady (h : Steady z s) : Steady z (State.tplVerify s x1) := by
  unfold State.tplVerify
  try dsimp only
  repeat' first | (with_reducible first | assumption | apply State.loadStage_steady | apply State.refuseCmd_steady | apply State.complete_steady | split | intro _) | (intro _ he; cases he) | (intro he; cases he)

theorem State.tplStore_steady (h : Steady z s) : Steady z (State.tplStore s x1) := by
  unfold State.tplStore
  try dsimp only
  repeat' first | (with_reducible first | assumption | apply State.loadStage_steady | apply State.refuseCmd_steady | apply State.complete_steady | apply State.withSource_steady | apply State.commitStream_steady | split | intro _) | (intro _ he; cases he) | (intro he; cases he)

theorem State.putReload_steady (h : Steady z s) : Steady z (State.putReload s x1) := by
  unfold State.putReload
  try dsimp only
  repeat' first | (with_reducible first | assumption | split | intro _ | refine steady_mk ?_ rfl) | (intro _ he; cases he) | (intro he; cases he)

theorem State.runRequests_steady (h : Steady z s) : Steady z (State.runRequests s x1) := by
  unfold State.runRequests
  try dsimp only
  repeat' first | (with_reducible first | assumption | apply State.put_steady | apply State.hostGroupOn_steady | apply State.groupOff_steady | apply each_steady | split | intro _ | refine steady_mk ?_ rfl) | (intro _ he; cases he) | (intro he; cases he)

theorem State.reloadRefused_steady (h : Steady z s) : Steady z (State.reloadRefused s x1 x2) := by
  unfold State.reloadRefused
  try dsimp only
  repeat' first | (with_reducible first | assumption | apply State.refuseCmd_steady | apply State.runRequests_steady | apply State.loadOver_steady | split | intro _) | (intro _ he; cases he) | (intro he; cases he)

theorem State.reloadValidate_steady (h : Steady z s) : Steady z (State.reloadValidate s x1) := by
  unfold State.reloadValidate
  try dsimp only
  repeat' first | (with_reducible first | assumption | apply State.loadStage_steady | apply State.reloadRefused_steady | apply State.putReload_steady | apply State.groupOff_steady | apply State.setTpl_steady | apply each_steady | split | intro _) | (intro _ he; cases he) | (intro he; cases he)

theorem State.reloadOpen_steady (h : Steady z s) : Steady z (State.reloadOpen s x1) := by
  unfold State.reloadOpen
  try dsimp only
  repeat' first | (with_reducible first | assumption | apply State.setTpl_steady | apply State.openSlot_steady | apply State.putReload_steady | apply each_steady | split | intro _) | (intro _ he; cases he) | (intro he; cases he)

theorem State.reloadVerify_steady (h : Steady z s) : Steady z (State.reloadVerify s x1) := by
  unfold State.reloadVerify
  try dsimp only
  repeat' first | (with_reducible first | assumption | apply State.setTpl_steady | apply State.reloadAbort_steady | split | intro _) | (intro _ he; cases he) | (intro he; cases he)

theorem State.liveRamps_steady (h : Steady z s) : Steady z (State.liveRamps s x1) := by
  unfold State.liveRamps
  try dsimp only
  repeat' first | (with_reducible first | assumption | apply State.rampToVset_steady | apply each_steady | split | intro _) | (intro _ he; cases he) | (intro he; cases he)

theorem State.reloadClose_steady (h : Steady z s) : Steady z (State.reloadClose s x1) := by
  unfold State.reloadClose
  try dsimp only
  repeat' first | (with_reducible first | assumption | apply State.put_steady | apply State.showStream_steady | apply State.closeSlots_steady | apply State.markUnnamed_steady | apply State.setTpl_steady | apply State.afterRegs_steady | apply State.runRequests_steady | apply State.liveRamps_steady | split | intro _ | refine steady_mk ?_ rfl) | (intro _ he; cases he) | (intro he; cases he)

theorem State.reloadRestart_steady (h : Steady z s) : Steady z (State.reloadRestart s x1) := by
  unfold State.reloadRestart
  try dsimp only
  repeat' first | (with_reducible first | assumption | apply State.groupOn_steady | apply State.setTpl_steady | apply State.putReload_steady | apply each_steady | split | intro _) | (intro _ he; cases he) | (intro he; cases he)

theorem State.runDeferred_steady (h : Steady z s) : Steady z (State.runDeferred s x1) := by
  unfold State.runDeferred
  try dsimp only
  repeat' first | (with_reducible first | assumption | apply State.railOff_steady | apply State.groupOff_steady | apply State.boutFast_steady | apply each_steady | split | intro _) | (intro _ he; cases he) | (intro he; cases he)

theorem execHoldTimeout_steady : ∃ t, execHoldTimeout s = .next t ∧ Steady s t := by
  refine ⟨_, rfl, ?_⟩
  have h : Steady s s := Steady.refl s
  try dsimp only
  repeat' first | (with_reducible first | assumption | apply State.reloadAbort_steady | split | intro _) | (intro _ he; cases he) | (intro he; cases he)

theorem execSafeReloadResume_steady : ∃ t, execSafeReloadResume s = .next t ∧ Steady s t := by
  refine ⟨_, rfl, ?_⟩
  have h : Steady s s := Steady.refl s
  try dsimp only
  repeat' first | (with_reducible first | assumption | apply State.setTpl_steady | split | intro _) | (intro _ he; cases he) | (intro he; cases he)

theorem State.reloadUnstarted_steady (h : Steady z s) : Steady z (State.reloadUnstarted s x1) := by
  unfold State.reloadUnstarted
  try dsimp only
  repeat' first | (with_reducible first | assumption | apply State.runRequests_steady | apply State.loadOver_steady | split | intro _) | (intro _ he; cases he) | (intro he; cases he)

theorem execCommandStart_steady : ∃ t, execCommandStart x0 s = .next t ∧ Steady s t := by
  refine ⟨_, rfl, ?_⟩
  have h : Steady s s := Steady.refl s
  try dsimp only
  repeat' first | (with_reducible first | assumption | apply State.putSlot_steady | apply State.complete_steady | apply State.reloadUnstarted_steady | apply State.regangBegin_steady | apply State.reloadBegin_steady | apply State.reloadAccept_steady | split | intro _ | refine steady_mk ?_ rfl) | (intro _ he; cases he) | (intro he; cases he)

theorem execTplVerify_steady : ∃ t, execTplVerify x0 s = .next t ∧ Steady s t := by
  refine ⟨_, rfl, ?_⟩
  have h : Steady s s := Steady.refl s
  try dsimp only
  repeat' first | (with_reducible first | assumption | apply State.ledgerRow_steady | apply State.tplVerify_steady | split | intro _) | (intro _ he; cases he) | (intro he; cases he)

theorem execTplStore_steady : ∃ t, execTplStore x0 s = .next t ∧ Steady s t := by
  refine ⟨_, rfl, ?_⟩
  have h : Steady s s := Steady.refl s
  try dsimp only
  repeat' first | (with_reducible first | assumption | apply State.ledgerRow_steady | apply State.tplStore_steady | split | intro _) | (intro _ he; cases he) | (intro he; cases he)

theorem execSwyRegang_steady : ∃ t, execSwyRegang x0 s = .next t ∧ Steady s t := by
  refine ⟨_, rfl, ?_⟩
  have h : Steady s s := Steady.refl s
  try dsimp only
  repeat' first | (with_reducible first | assumption | apply State.ledgerRow_steady | apply State.regangStart_steady | split | intro _) | (intro _ he; cases he) | (intro he; cases he)

theorem State.domOn_steady (h : Steady z s) : Steady z (State.domOn s x1) := by
  unfold State.domOn
  try dsimp only
  repeat' first | (with_reducible first | assumption | split | intro _ | refine steady_mk ?_ rfl) | (intro _ he; cases he) | (intro he; cases he)

theorem State.powerUp_steady (h : Steady z s) : Steady z (State.powerUp s x1) := by
  unfold State.powerUp
  try dsimp only
  repeat' first | (with_reducible first | assumption | apply State.domOn_steady | apply State.flowGaps_steady | apply State.followEn_steady | apply State.timFollow_steady | apply State.otpLink_steady | apply State.chgStart_steady | split | intro _) | (intro _ he; cases he) | (intro he; cases he)

theorem State.powerAll_steady (h : Steady z s) : Steady z (State.powerAll s x1) := by
  unfold State.powerAll
  try dsimp only
  repeat' first | (with_reducible first | assumption | apply State.powerUp_steady | apply each_steady | split | intro _) | (intro _ he; cases he) | (intro he; cases he)

theorem State.groupsOff_steady (h : Steady z s) : Steady z (State.groupsOff s) := by
  unfold State.groupsOff
  try dsimp only
  repeat' first | (with_reducible first | assumption | apply State.condRise_steady | apply each_steady | split | intro _) | (intro _ he; cases he) | (intro he; cases he)

theorem State.sealBad_steady (h : Steady z s) : Steady z (State.sealBad s x1) := by
  unfold State.sealBad
  try dsimp only
  repeat' first | (with_reducible first | assumption | apply State.raise_steady | apply State.setFlagI_steady | split | intro _) | (intro _ he; cases he) | (intro he; cases he)

theorem State.restoreRegion_steady (h : Steady z s) : Steady z (State.restoreRegion s x1) := by
  unfold State.restoreRegion
  try dsimp only
  repeat' first | (with_reducible first | assumption | apply State.raise_steady | apply State.live_steady | apply State.putBit_steady | apply State.put_steady | split | intro _) | (intro _ he; cases he) | (intro he; cases he)

theorem State.restorePage_steady (h : Steady z s) : Steady z (State.restorePage s x1) := by
  unfold State.restorePage
  try dsimp only
  repeat' first | (with_reducible first | assumption | apply State.wr_steady | split | intro _) | (intro _ he; cases he) | (intro he; cases he)

theorem State.restoreGauge_steady (h : Steady z s) : Steady z (State.restoreGauge s) := by
  unfold State.restoreGauge
  try dsimp only
  repeat' first | (with_reducible first | assumption | apply State.wr_steady | split | intro _ | refine steady_mk ?_ rfl) | (intro _ he; cases he) | (intro he; cases he)

theorem State.ledgerSearch_steady (h : Steady z s) : Steady z (State.ledgerSearch s x1) := by
  unfold State.ledgerSearch
  try dsimp only
  repeat' first | (with_reducible first | assumption | apply State.ledMeet_steady | apply State.restoreRegion_steady | apply State.put_steady | apply State.wr_steady | apply State.putBit_steady | apply State.sealBad_steady | apply each_steady | split | intro _) | (intro _ he; cases he) | (intro he; cases he)

theorem State.chooseFirmware_steady (h : Steady z s) : Steady z (State.chooseFirmware s) := by
  unfold State.chooseFirmware
  try dsimp only
  repeat' first | (with_reducible first | assumption | apply State.putBit_steady | apply State.put_steady | apply State.setFlag_steady | apply State.ledMeet_steady | split | intro _ | refine steady_mk ?_ rfl) | (intro _ he; cases he) | (intro he; cases he)

theorem State.showAddr_steady (h : Steady z s) : Steady z (State.showAddr s) := by
  unfold State.showAddr
  try dsimp only
  repeat' first | (with_reducible first | assumption | apply State.put_steady | split | intro _) | (intro _ he; cases he) | (intro he; cases he)

theorem State.startBase_steady (h : Steady z s) : Steady z (State.startBase s x1 x2) := by
  unfold State.startBase
  try dsimp only
  repeat' first | (with_reducible first | assumption | apply State.ledgerSearch_steady | apply State.otpScan_steady | apply State.domOn_steady | apply State.restoreGauge_steady | apply State.startUpCal_steady | apply State.showAddr_steady | apply State.irqPins_steady | split | intro _) | (intro _ he; cases he) | (intro he; cases he)

theorem State.startRecord_steady (h : Steady z s) : Steady z (State.startRecord s x1) := by
  unfold State.startRecord
  try dsimp only
  repeat' first | (with_reducible first | assumption | apply State.logRec_steady | apply State.happen_steady | apply State.put_steady | split | intro _) | (intro _ he; cases he) | (intro he; cases he)

theorem State.startReports_steady (h : Steady z s) : Steady z (State.startReports s x1) := by
  unfold State.startReports
  try dsimp only
  repeat' first | (with_reducible first | assumption | apply State.setFlag_steady | apply State.raise_steady | apply State.putBit_steady | split | intro _ | refine steady_mk ?_ rfl) | (intro _ he; cases he) | (intro he; cases he)

theorem State.startFirmware_steady (h : Steady z s) : Steady z (State.startFirmware s x1) := by
  unfold State.startFirmware
  try dsimp only
  repeat' first | (with_reducible first | assumption | apply State.groupsOff_steady | apply State.powerAll_steady | apply State.ownTasks_steady | apply State.timFollow_steady | apply State.otpAddr_steady | apply State.boutCheck_steady | apply State.setTpl_steady | apply State.flowGaps_steady | split | intro _) | (intro _ he; cases he) | (intro he; cases he)

theorem State.startCore_steady (h : Steady z s) : Steady z (State.startCore s x1) := by
  unfold State.startCore
  try dsimp only
  repeat' first | (with_reducible first | assumption | apply State.chooseFirmware_steady | apply State.restorePage_steady | apply State.startFirmware_steady | apply State.startReports_steady | apply State.startRecord_steady | apply State.kick_steady | apply State.answer_steady | apply each_steady | split | intro _ | refine steady_mk ?_ rfl) | (intro _ he; cases he) | (intro he; cases he)

theorem execLoaderRestart_steady : ∃ t, execLoaderRestart s = .next t ∧ Steady s t := by
  refine ⟨_, rfl, ?_⟩
  have h : Steady s s := Steady.refl s
  try dsimp only
  repeat' first | (with_reducible first | assumption | split | intro _ | refine steady_mk ?_ rfl) | (intro _ he; cases he) | (intro he; cases he)

theorem State.wakeNote_steady (h : Steady z s) : Steady z (State.wakeNote s x1) := by
  unfold State.wakeNote
  try dsimp only
  repeat' first | (with_reducible first | assumption | apply State.setFlagI_steady | apply State.put_steady | split | intro _) | (intro _ he; cases he) | (intro he; cases he)

end Sys2Proof.Machine
end

