-- ==== Sys2Proof/Laws/SteadyRows.lean ====
section
/-! SUPPORT. The operations of the bus interfaces, the Lookout, dumps and the tick store into queued event records alone. -/

namespace Sys2Proof.Machine

variable {z s : State}

theorem State.remReply_steady (h : Steady z s) : Steady z (State.remReply s x1 x2 x3 x4 x5) := by
  unfold State.remReply
  try dsimp only
  repeat' first | (with_reducible first | assumption | apply State.flowPush_steady | split | intro _) | (intro _ he; cases he) | (intro he; cases he)

theorem State.rxDup_steady (h : Steady z s) : Steady z (State.rxDup s) := by
  unfold State.rxDup
  try dsimp only
  repeat' first | (with_reducible first | assumption | apply State.addSat_steady | split | intro _) | (intro _ he; cases he) | (intro he; cases he)

theorem State.rxNewer_steady (h : Steady z s) : Steady z (State.rxNewer s x1) := by
  unfold State.rxNewer
  try dsimp only
  repeat' first | (with_reducible first | assumption | apply State.flowBroken_steady | apply State.flowClosed_steady | split | intro _) | (intro _ he; cases he) | (intro he; cases he)

theorem State.setPtr_steady (h : Steady z s) : Steady z (State.setPtr s x1) := by
  unfold State.setPtr
  try dsimp only
  repeat' first | (with_reducible first | assumption | apply State.put_steady | split | intro _) | (intro _ he; cases he) | (intro he; cases he)

theorem State.twbWhy_steady (h : Steady z s) : Steady z (State.twbWhy s x1) := by
  unfold State.twbWhy
  try dsimp only
  repeat' first | (with_reducible first | assumption | apply State.put_steady | split | intro _) | (intro _ he; cases he) | (intro he; cases he)

theorem State.twbDisc_steady (h : Steady z s) : Steady z (State.twbDisc s x1) := by
  unfold State.twbDisc
  try dsimp only
  repeat' first | (with_reducible first | assumption | apply State.addSat_steady | apply State.putBit_steady | apply State.twbWhy_steady | split | intro _) | (intro _ he; cases he) | (intro he; cases he)

theorem State.twbDone_steady (h : Steady z s) : Steady z (State.twbDone s) := by
  unfold State.twbDone
  try dsimp only
  repeat' first | (with_reducible first | assumption | apply State.addSat_steady | split | intro _) | (intro _ he; cases he) | (intro he; cases he)

theorem State.twbDropped_steady (h : Steady z s) : Steady z (State.twbDropped s x1) := by
  unfold State.twbDropped
  try dsimp only
  repeat' first | (with_reducible first | assumption | apply State.twbDisc_steady | apply State.gap_steady | split | intro _) | (intro _ he; cases he) | (intro he; cases he)

theorem State.monBoth_steady (h : Steady z s) (hx2 : ∀ s, Steady z s → Steady z (x2 s)) : Steady z (State.monBoth s x1 x2) := by
  unfold State.monBoth
  try dsimp only
  repeat' first | (with_reducible first | assumption | apply hx2 | apply State.monLine_steady | split | intro _) | (intro _ he; cases he) | (intro he; cases he)

theorem execRails_steady : ∃ t, execRails x0 x1 s = .next t ∧ Steady s t := by
  refine ⟨_, rfl, ?_⟩
  have h : Steady s s := Steady.refl s
  try dsimp only
  repeat' first | (with_reducible first | assumption | apply State.monCmd_steady | apply State.answer_steady | split | intro _) | (intro _ he; cases he) | (intro he; cases he)

theorem execFlt_steady : ∃ t, execFlt s = .next t ∧ Steady s t := by
  refine ⟨_, rfl, ?_⟩
  have h : Steady s s := Steady.refl s
  try dsimp only
  repeat' first | (with_reducible first | assumption | apply State.monCmd_steady | apply State.answer_steady | split | intro _) | (intro _ he; cases he) | (intro he; cases he)

theorem execId_steady : ∃ t, execId s = .next t ∧ Steady s t := by
  refine ⟨_, rfl, ?_⟩
  have h : Steady s s := Steady.refl s
  try dsimp only
  repeat' first | (with_reducible first | assumption | apply State.answer_steady | split | intro _ | refine steady_mk ?_ rfl) | (intro _ he; cases he) | (intro he; cases he)

theorem State.linkTick_steady (h : Steady z s) : Steady z (State.linkTick s) := by
  unfold State.linkTick
  try dsimp only
  repeat' first | (with_reducible first | assumption | apply State.portChar_steady | apply State.stationTick_steady | apply each_steady | split | intro _) | (intro _ he; cases he) | (intro he; cases he)

theorem State.rampTick_steady (h : Steady z s) : Steady z (State.rampTick s x1) := by
  unfold State.rampTick
  try dsimp only
  repeat' first | (with_reducible first | assumption | apply State.put_steady | split | intro _ | refine steady_mk ?_ rfl) | (intro _ he; cases he) | (intro he; cases he)

theorem State.shareTick_steady (h : Steady z s) : Steady z (State.shareTick s x1) := by
  unfold State.shareTick
  try dsimp only
  repeat' first | (with_reducible first | assumption | apply State.putStgX_steady | apply State.put_steady | split | intro _) | (intro _ he; cases he) | (intro he; cases he)

theorem State.railEnergy_steady (h : Steady z s) : Steady z (State.railEnergy s x1) := by
  unfold State.railEnergy
  try dsimp only
  repeat' first | (with_reducible first | assumption | split | intro _ | refine steady_mk ?_ rfl) | (intro _ he; cases he) | (intro he; cases he)

theorem State.energyTick_steady (h : Steady z s) : Steady z (State.energyTick s) := by
  unfold State.energyTick
  try dsimp only
  repeat' first | (with_reducible first | assumption | apply State.railEnergy_steady | apply each_steady | split | intro _) | (intro _ he; cases he) | (intro he; cases he)

theorem State.msTick_steady (h : Steady z s) : Steady z (State.msTick s) := by
  unfold State.msTick
  try dsimp only
  repeat' first | (with_reducible first | assumption | apply State.addSat_steady | apply State.energyTick_steady | apply each_steady | split | intro _) | (intro _ he; cases he) | (intro he; cases he)

theorem State.secondsDown_steady (h : Steady z s) (hx1 : ∀ q, x1 ≠ .EVT_QBASE q) : Steady z (State.secondsDown s x1 x2) := by
  unfold State.secondsDown
  try dsimp only
  repeat' first | (with_reducible first | assumption | apply State.put_steady | split | intro _) | (intro _ he; cases he) | (intro he; cases he)

theorem State.keeperSecond_steady (h : Steady z s) : Steady z (State.keeperSecond s) := by
  unfold State.keeperSecond
  try dsimp only
  repeat' first | (with_reducible first | assumption | apply State.wr_steady | apply State.secondsDown_steady | split | intro _) | (intro _ he; cases he) | (intro he; cases he)

theorem State.localSecond_steady (h : Steady z s) : Steady z (State.localSecond s) := by
  unfold State.localSecond
  try dsimp only
  repeat' first | (with_reducible first | assumption | apply State.wr_steady | apply each_steady | split | intro _) | (intro _ he; cases he) | (intro he; cases he)

end Sys2Proof.Machine
end

