-- ==== Sys2Proof/WellFormed.lean ====
section
/-!
DEFINITION. Commands that the part can meet: an interface that exists, a 32-bit address, fields no wider than the registers
they come from, a frame no longer than its LEN field can say.
-/

namespace Sys2Proof

/-- An interface that exists: eight DMA channels (Table 13.2). -/
def Iface.wf : Iface → Bool
  | .dma n => decide (n < 8)
  | _ => true

/-- An issue through an interface that exists. -/
def CmdAct.wf : CmdAct → Bool
  | .issue i => i.wf
  | .advance => true

/-- A frame: LEN has nine bits (Table 17.2). -/
def Frame.wf (f : Frame) : Bool := decide (f.payload.length < 512)

/-- An address of the 32-bit map (R20). -/
def addrWf (a : Nat) : Bool := decide (a < 2 ^ 32)

/-- A command the part can meet. -/
def Instr.wf : Instr → Bool
  | .registerWrite i addr _ _ => i.wf && addrWf addr
  | .winbaseWrite i _ _ => i.wf
  | .idataRead i => i.wf
  | .idataWrite i _ _ => i.wf
  | .domainPowerUp _ => true
  | .nopConfig a => a.wf
  | .nopLedger a => a.wf
  | .nopCalibration a => a.wf
  | .nopFabric a => a.wf
  | .tplVerify a => a.wf
  | .tplStore a => a.wf
  | .tplLoadAll a => a.wf
  | .tplLoadDomain a => a.wf
  | .holdmaxWrite i _ _ => i.wf
  | .stgCfgWrite i _ _ _ => i.wf
  | .pntCfgWrite i _ _ _ => i.wf
  | .valleyComparatorFire _ _ => true
  | .zeroCurrentDetect _ => true
  | .negativeLimit _ => true
  | .ocTimeout _ => true
  | .aggregateLimit _ => true
  | .hsshortDetect _ _ => true
  | .testWindowEnd _ _ => true
  | .bootEnd _ _ => true
  | .shareRampEnd _ => true
  | .leaveCurrentZero _ => true
  | .leaveTimeout _ => true
  | .stgFlagWrite i _ _ _ => i.wf
  | .watershedTick _ => true
  | .pointSettled _ => true
  | .swyRegang a => a.wf
  | .loopSampleTrigger _ => true
  | .loopSampleDone _ _ => true
  | .tempoWindowEnd _ _ => true
  | .loopRestored _ => true
  | .rminReset i _ => i.wf
  | .lpeShedWrite i _ _ _ => i.wf
  | .loopOpenRequest i _ => i.wf
  | .loopCloseRequest i _ => i.wf
  | .loopCloseCleared i _ => i.wf
  | .lpsCfgWrite i _ _ _ => i.wf
  | .lpsOutWrite i _ _ _ => i.wf
  | .lpsInWrite i _ _ _ => i.wf
  | .loopParamWrite i _ _ _ _ => i.wf
  | .coefWrite i _ _ _ _ _ => i.wf
  | .loopOpenlong _ => true
  | .watchSettleEnd _ => true
  | .loopFollow _ => true
  | .loopModel _ => true
  | .railOnRequest i _ => i.wf
  | .railOffRequest i _ => i.wf
  | .onDelayEnd _ _ => true
  | .offDelayEnd _ => true
  | .setpointReached _ => true
  | .dischargeDone _ => true
  | .dischargeTimeout _ _ => true
  | .startTimeout _ => true
  | .vsetWrite i _ _ _ => i.wf
  | .pgAssert _ => true
  | .groupOnRequest i _ => i.wf
  | .groupOffRequest i _ => i.wf
  | .stepHoldEnd _ => true
  | .stepWrite i _ _ _ _ => i.wf
  | .boutStart _ => true
  | .vinBelowVon _ => true
  | .ttbBoutWrite i _ _ => i.wf
  | .ovCrossing _ => true
  | .uvCrossing _ => true
  | .crossingEnd _ _ => true
  | .resetRelease _ => true
  | .conversionResult _ _ => true
  | .gaugeTick _ => true
  | .surveyCal a => a.wf
  | .converterCalDone _ _ => true
  | .scanStart _ => true
  | .start i _ => i.wf
  | .dataRead i _ => i.wf
  | .dmaEnable i _ _ _ => i.wf
  | .sliceFactorWrite i _ _ _ _ _ => i.wf
  | .fire i => i.wf
  | .sourceLoss _ _ => true
  | .handoverComplete _ => true
  | .shipRequest i => i.wf
  | .shipCancel i => i.wf
  | .buttonChange _ => true
  | .bkpBatcfgWrite i _ _ => i.wf
  | .bkpChgWrite i _ _ => i.wf
  | .bkpPathWrite i _ _ => i.wf
  | .bkpQualWrite i _ _ => i.wf
  | .checkEnd _ => true
  | .bkpFlagWrite i _ _ => i.wf
  | .kick i _ _ => i.wf
  | .gauCyclesWrite i _ _ => i.wf
  | .gaugeConfigWrite i _ _ _ => i.wf
  | .newpack i _ _ => i.wf
  | .accLoRead i => i.wf
  | .phaseCountEval _ => true
  | .derateEval _ => true
  | .otPark _ => true
  | .ffwdEval _ => true
  | .rideEval _ => true
  | .polLockWrite i _ _ => i.wf
  | .polLimitWrite i _ _ _ _ => i.wf
  | .faultRaise _ _ => true
  | .faultClear i _ _ _ => i.wf
  | .fltCfgWrite i _ _ _ => i.wf
  | .fltTgtWrite i _ _ _ => i.wf
  | .cntclr i _ _ => i.wf
  | .fltForceWrite i _ _ => i.wf
  | .injectionUnlock i _ _ => i.wf
  | .go i _ _ => i.wf
  | .injectionResult _ => true
  | .fltHostRaise i _ _ => i.wf
  | .eventOccurrence _ _ info code => decide (info < 65536) && decide (code < 256)
  | .eventQueueWrite _ => true
  | .stormWindowClose _ => true
  | .pendWrite i _ _ _ => i.wf
  | .freezeWrite i _ _ => i.wf
  | .take i _ => i.wf
  | .eoi i _ => i.wf
  | .queueConfigWrite i _ _ _ _ => i.wf
  | .commandStart _ => true
  | .unknownOp i _ => i.wf
  | .cmdCancel i _ _ => i.wf
  | .cmdQuery i _ _ => i.wf
  | .scrubStep _ => true
  | .memPretireWrite i _ _ => i.wf
  | .ldgRetire a => a.wf
  | .ledgerStepDone _ => true
  | .ldgFwWrite a => a.wf
  | .ldgFwSeal a => a.wf
  | .ldgFwActivate a => a.wf
  | .ldgUserWrite a => a.wf
  | .otpProgram i _ _ => i.wf
  | .otpDone _ => true
  | .lifecycleTransition i _ _ => i.wf
  | .taskRegister i _ _ _ => i.wf
  | .token i _ _ _ => i.wf
  | .windowOpen _ => true
  | .periodEnd _ _ => true
  | .wdgWarn _ => true
  | .wdgCtlWrite i _ _ => i.wf
  | .checkTransmit _ => true
  | .frameHeaderReceive _ f => f.wf
  | .frameCrcFail _ f => f.wf
  | .checkReceive _ f => f.wf
  | .portAligned _ => true
  | .alignLost _ => true
  | .portUp _ => true
  | .checkTimeout _ => true
  | .losAssert _ => true
  | .lnkCfgWrite i _ _ => i.wf
  | .rtBWrite i _ _ _ => i.wf
  | .rtAWrite i _ _ _ => i.wf
  | .lineSurvey a => a.wf
  | .surveyReceive _ f => f.wf
  | .replyReceive _ f => f.wf
  | .assignReceive _ f => f.wf
  | .routeReceive _ f => f.wf
  | .tripSend i _ _ => i.wf
  | .tripReceive _ f => f.wf
  | .flwOpen a => a.wf
  | .flwClose a => a.wf
  | .flowSend i _ _ => i.wf
  | .dataReceive _ f => f.wf
  | .ackReceive _ f => f.wf
  | .retransmitTimeout _ => true
  | .rxreadWrite i _ _ _ => i.wf
  | .remoteReceive _ f => f.wf
  | .syncReceive _ f => f.wf
  | .reqReceive _ f => f.wf
  | .respReceive _ f => f.wf
  | .timeSet i _ _ => i.wf
  | .timNowLoRead i => i.wf
  | .summitMark a => a.wf
  | .markReceive _ f => f.wf
  | .markLatch _ => true
  | .timMarkdone _ => true
  | .twbWriteTransaction _ => true
  | .twbReadTransaction _ => true
  | .twbTimeout _ => true
  | .cxgo i _ _ => i.wf
  | .cxdone _ => true
  | .rd _ _ => true
  | .wr _ _ => true
  | .rails _ _ => true
  | .ev _ _ => true
  | .log _ => true
  | .dump _ _ => true
  | .cm _ _ => true
  | .qy _ => true
  | .ul _ => true
  | .baud _ => true
  | .monBadLine _ => true
  | .monCfgWrite i _ _ => i.wf
  | .legacyWrite i _ _ => i.wf
  | .takeRelease i _ _ => i.wf
  | .groupCapture _ => true
  | .xngStuck _ i => i.wf
  | .crossingTimeout _ => true
  | .sleepRequest i _ _ => i.wf
  | .deepRequest i _ _ => i.wf
  | .deepDrop i _ _ => i.wf
  | .wake _ _ => true
  | .pwrTimerExpiry _ => true
  | .startUp _ _ => true
  | .coreBout _ => true
  | .domainBrownout _ => true
  | .faultCauseGone _ => true
  | .bootLoad => true
  | .safeReloadResume => true
  | .holdTimeout => true
  | .swyAggOc => true
  | .minoffEnd => true
  | .vinQualified => true
  | .commonTrigger => true
  | .handoverTimeout => true
  | .sysSag => true
  | .sourceReturn => true
  | .pathRetrej => true
  | .handbackStart => true
  | .pathHandback => true
  | .handbackTimeout => true
  | .batCut => true
  | .depletedEntry => true
  | .shipEntry => true
  | .shipWakeButton => true
  | .sourceWake => true
  | .longPress => true
  | .openEnd => true
  | .prechargeEnd => true
  | .cvEntry => true
  | .chgDone => true
  | .recharge => true
  | .packTempOut => true
  | .packTempBack => true
  | .batAbsent => true
  | .batPresent => true
  | .chgTimer => true
  | .chgOv => true
  | .chgWdog => true
  | .gauStale => true
  | .gaugeHourlyRecord => true
  | .rideEpisodeEnd => true
  | .polRideRestore => true
  | .faultNRelease => true
  | .testEnFall => true
  | .injectionUnlockExpiry => true
  | .freezeExpiry => true
  | .pageCopyDone => true
  | .ledgerCommit => true
  | .ledgerWriteFail => true
  | .eraseSuspend => true
  | .eraseResume => true
  | .loaderRestart => true
  | .dumpStart => true
  | .drainTimeout => true
  | .watchdogReset => true
  | .probeTimeout => true
  | .tripKeyExpiry => true
  | .eventForward => true
  | .syncPeriod => true
  | .holdover => true
  | .wakenack => true
  | .arbitrationLost => true
  | .id => true
  | .flt => true
  | .lk => true
  | .baudrev => true
  | .lockoutEnd => true
  | .unlockIdleExpiry => true
  | .deepHoldTimeout => true
  | .deepEntry => true
  | .aonPowerOn => true
  | .refclkLoss => true
  | .refclkReturn => true

end Sys2Proof
end

