-- ==== Sys2Proof/Tests/Slice0.lean ====
section
/-!
SUPPORT. Tests of the model: the published check values of the two CRCs, ill-formed commands that the well-formedness
check refuses, single steps whose results the spec's worked examples state, and for every clause of a statement that has
hypotheses a state and operands that meet them together.
-/

namespace Sys2Proof.Tests

set_option linter.unusedVariables false
set_option Elab.async false

open Sys2Proof Sys2Proof.Machine
open Host (Outcome)


/-! ### Ill-formed commands are refused, one for each check -/

theorem test_wf_interface : Instr.wf (.shipRequest (.dma 8)) = false := by decide
theorem test_wf_interface_last : Instr.wf (.shipRequest (.dma 7)) = true := by decide
theorem test_wf_issue : Instr.wf (.tplVerify (.issue (.dma 8))) = false := by decide
theorem test_wf_advance : Instr.wf (.tplVerify .advance) = true := by decide
theorem test_wf_address : Instr.wf (.registerWrite .core 0x100000000 0#32 0xF#4) = false := by decide
theorem test_wf_address_top : Instr.wf (.registerWrite .core 0xFFFFFFFC 0#32 0xF#4) = true := by decide
theorem test_wf_write_interface : Instr.wf (.registerWrite (.dma 9) 0x40000000 0#32 0xF#4) = false := by decide
theorem test_wf_frame : Instr.wf (.dataReceive 0 ⟨⟨0#32, 0#32, 0#32, 0#32, List.replicate 512 0#8, 0#32, true, false⟩, false⟩) = false := by
  decide +kernel
theorem test_wf_frame_longest :
    Instr.wf (.dataReceive 0 ⟨⟨0#32, 0#32, 0#32, 0#32, List.replicate 511 0#8, 0#32, true, false⟩, false⟩) = true := by decide +kernel

/-! ### Published check values -/

/-- The nine ASCII bytes "123456789". -/
def nine : List Byte := [0x31#8, 0x32#8, 0x33#8, 0x34#8, 0x35#8, 0x36#8, 0x37#8, 0x38#8, 0x39#8]
/-- R37: the CRC-32 of the nine bytes. -/
theorem test_crc32 : crc32 nine = 0xCBF43926#32 := by decide +kernel
/-- R353: the CRC-16 of the nine bytes. -/
theorem test_crc16 : crc16 nine = 0x29B1#16 := by decide +kernel
/-- No word spells a command: the table gives no row any bits. -/
theorem test_no_word : decodeTableWord 32 0 = none := by decide
/-- The outcome is a next state of which `p` holds. -/
def nextIs (o : Outcome State Fault Refusal) (p : State → Bool) : Bool :=
  match o with
  | .next t => p t
  | _ => false

/-! ### States the witnesses are built from -/

def up : State := { pw := { on := [.aon, .nvm, .core, .seq, .adc, .eng, .stg, .chg, .link], mc := .firmware, start := none }, tp := { released := true } }
/-- `up` in life-cycle state DEPLOYED. -/
def dep : State := up.wr .OTP_STATUS 2#32
/-- The command of slot 3 runs. -/
def cmdAt (op : Nat) (p0 p1 p2 : Word) (s : State) : State :=
  { s with cm := { slots := [(3, { gen := 7, st := .running, op := op, p0 := p0, p1 := p1, p2 := p2, stage := 0x100#32, stageLen := 108 })], running := [(op / 64, 3)], lastSlot := 3 } }
def sWords : List Word := [0x314B5254#32, 0x400100#32, 0x1B01640#32, 0x6C#32, 0x5#32, 0x1#32, 0x0#32, 0x0#32, 0x0#32, 0x0#32, 0x0#32, 0x0#32, 0x0#32, 0x0#32, 0x7128A73E#32, 0x0#32, 0xFF01#32, 0x50#32, 0x14#32, 0xD66E9EBC#32, 0x100002#32, 0x10005#32, 0x124#32, 0xFFFF#32, 0x64#32, 0x4C414553#32, 0x13A28B1A#32]
/-- A valid stream stands in SRAM at 0x100. -/
def staged (s : State) : State := { s with mem := ((List.range 108).zip (bytesOfWords sWords)).filterMap fun e => if e.2 = 0#8 then none else some (0x100 + e.1, e.2) }
def cmd (op : Nat) (p0 p1 p2 : Word) : State := cmdAt op p0 p1 p2 (staged dep)
def rld : Reload := { slot := 3, dom := 1, restart := false, safe := false, groupsUp := [] }
def rel (r : Reload) (ph : Nat) (s : State) : State := { (s.setTpl 3 ph) with tp := { s.tp with reload := some r } }

/-- Stages 4 and 5 run rail 2. -/
def gang2 (s : State) : State :=
  ((((s.put (.STG_STATE 4) Fld.STG_STATE_STATE 4).put (.STG_STATE 5) Fld.STG_STATE_STATE 4).put (.STG_CFG 4) Fld.STG_CFG_RAIL 2).put
    (.STG_CFG 5) Fld.STG_CFG_RAIL 2).put (.RAIL_STATUS 2) Fld.RAIL_STATUS_STATE 4 |>.put (.STG_CFG 4) Fld.STG_CFG_HOME 2 |>.put (.STG_CFG 5) Fld.STG_CFG_HOME 2
def shedW : State := gang2 (cmd 0x10 0x1F04 0 0)
/-- Firmware slot 1 carries the seal of an empty image. -/
def sealedFw : State := { dep with mem := ((bytesOfWords ([0x4B4E4142#32, 0x100#32, 1#32, 0#32] ++ List.replicate 56 0#32)).zip (List.range 240) |>.map fun e => (0x100BFF00 + e.2, e.1)).filter (fun e => e.2 != 0xFF#8) ++ [(0x100BFFFC, 0xD0#8), (0x100BFFFD, 0xAE#8), (0x100BFFFE, 0xBE#8), (0x100BFFFF, 0x9F#8)] }
/-- A write of a kind is at work in a lane, for slot 3. -/
def job (l : Nat) (k : LdgKind) (st : List LdgStep) : State := { (cmd 0x45 0 0 0) with ld := { lanes := [(l, [{ kind := k, steps := st, slot := some 3, begun := true }])], cur := some l } }
/-- LDG_FW_ACTIVATE of that slot runs. -/
def sealedCmd : State := cmdAt 0x44 0 0 0 sealedFw
theorem sealed_crc : crc32 (bytesOfWords (sealedCmd.ledWords (bankBase 0 1) 0 ++ sealedCmd.ledWords (trailerAt 0 1) 0xF0)) = 0x9FBEAED0#32 := by
  have e : bytesOfWords (sealedCmd.ledWords (bankBase 0 1) 0 ++ sealedCmd.ledWords (trailerAt 0 1) 0xF0) =
      (bytesOfWords [0x4B4E4142#32, 0x100#32, 1#32, 0#32] ++ List.replicate 32 0#8) ++ (List.replicate 48 0#8 ++ (List.replicate 48 0#8 ++ (List.replicate 48 0#8 ++ List.replicate 48 0#8))) := by decide +kernel
  have z (a b : Word) (h : (List.replicate 48 0#8).foldl crcByte a = b) (l : List Byte) : (List.replicate 48 0#8 ++ l).foldl crcByte a = l.foldl crcByte b := by
    rw [List.foldl_append, h]
  rw [e]
  unfold crc32
  rw [List.foldl_append, show (bytesOfWords [0x4B4E4142#32, 0x100#32, 1#32, 0#32] ++ List.replicate 32 0#8).foldl crcByte 0xFFFFFFFF#32 = 0x60befa3e#32 by decide +kernel,
    z _ 0x29beafe3#32 (by decide +kernel), z _ 0xe6518d55#32 (by decide +kernel), z _ 0xcaca3f5f#32 (by decide +kernel)]
  decide +kernel
theorem bankSt_valid (s : State) (r b n : Nat) (c : Word) (hn : (s.ledWord (trailerAt r b + 12)).toNat = n)
    (hc : crc32 (bytesOfWords (s.ledWords (bankBase r b) n ++ s.ledWords (trailerAt r b) 0xF0)) = c)
    (hg : s.bankGone r b = false) (hf : ¬(r = 0 ∧ b = 0 ∧ s.ld.factory = true))
    (h0 : (s.ledWord (trailerAt r b + 0xFC) == 0xFFFFFFFF#32 || s.tornIn (trailerAt r b) 0xF0 || s.tornIn (trailerAt r b + 0xFC) 4) = false)
    (h1 : (s.ledWord (trailerAt r b) == 0x4B4E4142#32 && s.ledWord (trailerAt r b + 4) == BitVec.ofNat 32 (r + 256 * b) &&
      inRange 1 0xFFFFFFFE (s.ledWord (trailerAt r b + 8)).toNat && n % 4 == 0 && n ≤ regionSize r - 256 &&
      c == s.ledWord (trailerAt r b + 0xFC)) = true) :
    s.bankSt r b = .valid (s.ledWord (trailerAt r b + 8)).toNat n := by
  subst hn hc
  unfold State.bankSt
  dsimp only
  rw [if_neg (by rw [hg]; decide), if_neg hf, if_neg (by rw [h0]; decide), if_pos h1]
theorem bankSeq_valid (s : State) (r b q n : Nat) (h : s.bankSt r b = .valid q n) : s.bankSeq r b = q := by
  unfold State.bankSeq
  rw [h]
theorem sealed_seq : sealedCmd.bankSeq 0 sealedCmd.fwTarget = 1 :=
  (bankSeq_valid _ _ _ _ _ (bankSt_valid sealedCmd 0 1 0 _ (by decide +kernel) sealed_crc (by decide +kernel) (by decide) (by decide +kernel) (by decide +kernel))).trans (by decide +kernel)
/-- The content of trackplan bank A and its trailer with SEQ 1. -/
def bootLow : List Host.Cell := ((bytesOfWords sWords).zip (List.range 108) |>.map fun (e : Byte × Nat) => (0x100C0000 + e.2, e.1)).filter (fun e => e.2 != 0xFF#8)
def bootHigh : List Host.Cell := ((bytesOfWords ([0x4B4E4142#32, 1#32, 1#32, 108#32] ++ List.replicate 56 0#32)).zip (List.range 240) |>.map fun (e : Byte × Nat) => (0x100CFF00 + e.2, e.1)) ++
  [(0x100CFFFC, 0x8A#8), (0x100CFFFD, 0x2B#8), (0x100CFFFE, 0x5F#8), (0x100CFFFF, 0xAA#8)]
/-- Trackplan bank A holds that stream, sealed. -/
def booted : State := { (dep.setTpl 1 0) with mem := bootLow ++ bootHigh }
def bootTop : State := { (dep.setTpl 1 0) with mem := bootHigh }
theorem memGet_append (l m : List Host.Cell) (a : Nat) (h : ∀ e ∈ l, e.1 ≠ a) : memGet (l ++ m) a = memGet m a := by
  induction l with
  | nil => rfl
  | cons e t ih =>
    have h1 := h e (by simp)
    have h2 := ih fun e he => h e (List.mem_cons_of_mem _ he)
    simp only [List.cons_append, memGet, h1, if_false, h2]
theorem bootLow_keys : ∀ e ∈ bootLow, e.1 < 0x100C1000 := by decide +kernel
theorem booted_word (a : Nat) (h : 0x100C1000 ≤ a) : booted.ledWord a = bootTop.ledWord a := by
  have g (k : Nat) (hk : 0x100C1000 ≤ k) : booted.byte k = bootTop.byte k :=
    memGet_append _ _ _ fun e he => by have := bootLow_keys e he; omega
  have hb : booted.sramBad a = bootTop.sramBad a := rfl
  unfold State.ledWord State.word
  rw [hb, g a h, g (a + 1) (by omega), g (a + 2) (by omega), g (a + 3) (by omega)]
theorem booted_top (a n : Nat) (h : 0x100C1000 ≤ a) : booted.ledWords a n = bootTop.ledWords a n := by
  unfold State.ledWords
  exact List.map_congr_left fun i _ => booted_word _ (by omega)
theorem booted_words : booted.ledWords (bankBase 1 0) 108 = sWords := by decide +kernel
theorem booted_crc : crc32 (bytesOfWords (booted.ledWords (bankBase 1 0) 108 ++ booted.ledWords (trailerAt 1 0) 0xF0)) = 0xaa5f2b8a#32 := by
  have e : bytesOfWords (sWords ++ bootTop.ledWords (trailerAt 1 0) 0xF0) =
      (bytesOfWords sWords).take 36 ++ (((bytesOfWords sWords).drop 36).take 36 ++ ((bytesOfWords sWords).drop 72 ++ (bytesOfWords [0x4B4E4142#32, 1#32, 1#32, 108#32] ++ List.replicate 32 0#8 ++
       (List.replicate 48 0#8 ++ (List.replicate 48 0#8 ++ (List.replicate 48 0#8 ++ List.replicate 48 0#8)))))) := by
    unfold bytesOfWords
    rw [List.flatMap_append]
    have e2 : List.flatMap (fun w => [byteOf w 0, byteOf w 1, byteOf w 2, byteOf w 3]) (bootTop.ledWords (trailerAt 1 0) 0xF0) =
       (bytesOfWords [0x4B4E4142#32, 1#32, 1#32, 108#32] ++ List.replicate 32 0#8 ++ (List.replicate 48 0#8 ++ (List.replicate 48 0#8 ++ (List.replicate 48 0#8 ++ List.replicate 48 0#8)))) := by decide +kernel
    rw [e2]
    decide +kernel
  have z (a b : Word) (x l : List Byte) (h : x.foldl crcByte a = b) : (x ++ l).foldl crcByte a = l.foldl crcByte b := by
    rw [List.foldl_append, h]
  rw [booted_words, booted_top _ _ (by decide), e]
  unfold crc32
  rw [z _ 0xbe2dfb8d#32 _ _ (by decide +kernel), z _ 0x4c96e483#32 _ _ (by decide +kernel), z _ 0xdebb20e3#32 _ _ (by decide +kernel),
    z _ 0x51c22630#32 _ _ (by decide +kernel), z _ 0xa3fc83da#32 _ _ (by decide +kernel), z _ 0xd836cac1#32 _ _ (by decide +kernel), z _ 0x957a980c#32 _ _ (by decide +kernel)]
  decide +kernel
theorem booted_st : booted.bankSt 1 0 = .valid 1 108 := by
  rw [bankSt_valid booted 1 0 108 _ (by rw [booted_word _ (by decide)]; decide +kernel) booted_crc (by decide) (by decide)
    (by rw [booted_word _ (by decide)]; decide +kernel)
    (by rw [booted_word _ (by decide), booted_word _ (by decide), booted_word _ (by decide), booted_word _ (by decide)]; decide +kernel),
    booted_word _ (by decide)]
  decide +kernel
theorem booted_other : booted.bankSeq 1 1 = 0 := by
  have h : booted.bankSt 1 1 = .empty := by
    unfold State.bankSt
    dsimp only
    rw [if_neg (by decide), if_neg (by decide), if_pos]
    rw [booted_word _ (by decide)]
    have : bootTop.ledWord (trailerAt 1 1 + 0xFC) = 0xFFFFFFFF#32 := by decide +kernel
    rw [this]
    rfl
  unfold State.bankSeq
  rw [h]
theorem stored_valid (s : State) (b q n : Nat) (h : s.bankSt 1 b = .valid q n) : s.storedStream b = bytesOfWords (s.ledWords (bankBase 1 b) n) := by
  unfold State.storedStream
  rw [h]
theorem banks_first (s : State) (h : s.bankSeq 1 0 = 1) (h1 : s.bankSeq 1 1 = 0) : s.bootBanks = [0] := by
  unfold State.bootBanks State.newestBank
  rw [h, h1]
  simp [h1]
theorem try_good (s u : State) (b : Nat) (l : List Byte) (h : s.storedStream b = l) (hu : s.ledMeet (bankBase 1 b) l.length 2 = u)
    (h1 : u.lcRefuses = false) (h2 : checkStream u.dieRev l = none) (h3 : (u.applyStream l).1 = true) : (s.bootTry b).1 = true := by
  unfold State.bootTry
  simp only [h, hu]
  rw [h1]
  simp [h2, h3]
theorem booted_stream : booted.storedStream 0 = bytesOfWords sWords :=
  (stored_valid booted 0 1 108 booted_st).trans (congrArg bytesOfWords booted_words)
theorem booted_banks : booted.bootBanks = [0] := banks_first _ (bankSeq_valid _ _ _ _ _ booted_st) booted_other
theorem booted_try : (booted.bootTry 0).1 = true := try_good _ booted _ _ booted_stream (by decide +kernel) (by decide +kernel) (by decide +kernel) (by decide +kernel)
/-- Every port is UP; the station is 5. -/
def lk : State := each (List.range 4) (fun p s => s.put (.LNK_P_STATE p) Fld.LNK_P_STATE_STATE 3) (up.wr .LNK_ADDR 0x00010005#32)
/-- A survey whose probe over port 1 is outstanding. -/
def svy (r : Nat) : Survey := { slot := 3, keep := false, routes := false, maxhop := 3, epoch := 2, found := [{ uid := 0, path := [], arrival := none, addr := 0, pref := 0 }], probes := [{ path := [1], retries := r }] }
/-- LINE_SURVEY of slot 3 runs it. -/
def lks (v : Survey) : State := { (cmdAt 0xC1 0x300 0 0 lk) with ln := { survey := some v } }
/-- A DATA frame from 7 to 9. -/
def fDat : Frame := { w0 := 0x18009007#32, w1 := 0x00280000#32, w2 := 0x00000000#32, w3 := 0x0000e879#32, payload := [], crc := 0xf5a3a963#32, eof := true, charError := false }
/-- It expires here. -/
def fOld : Frame := { w0 := 0x18009007#32, w1 := 0x00080000#32, w2 := 0x00000000#32, w3 := 0x00009311#32, payload := [], crc := 0xf5a3a963#32, eof := true, charError := false }
/-- A DATA frame for station 5. -/
def fOwn : Frame := { w0 := 0x18005007#32, w1 := 0x00080000#32, w2 := 0x00000000#32, w3 := 0x00007c61#32, payload := [], crc := 0x71df22a5#32, eof := true, charError := false }
/-- A CHECK with RXOK. -/
def fChk : Frame := { w0 := 0x3c000007#32, w1 := 0x00000000#32, w2 := 0x00000000#32, w3 := 0x6000d5e2#32, payload := [], crc := 0xc13386ac#32, eof := true, charError := false }
/-- A CHECK without RXOK. -/
def fBad : Frame := { w0 := 0x3c000007#32, w1 := 0x00000000#32, w2 := 0x00000000#32, w3 := 0x4000d5e2#32, payload := [], crc := 0xfa5da664#32, eof := true, charError := false }
/-- A SURVEY. -/
def fSur : Frame := { w0 := 0x5a001006#32, w1 := 0x08000010#32, w2 := 0x00000003#32, w3 := 0x00006eb7#32, payload := [0x77#8, 0x00#8, 0x00#8, 0x00#8, 0x00#8, 0x00#8, 0x00#8, 0x00#8, 0x06#8, 0x00#8, 0x03#8, 0x00#8, 0x00#8, 0x00#8, 0x00#8, 0x00#8], crc := 0x5faaea2f#32, eof := true, charError := false }
/-- An ASSIGN. -/
def fAsg : Frame := { w0 := 0x7a001006#32, w1 := 0x08000010#32, w2 := 0x00000003#32, w3 := 0x0000c4cd#32, payload := [0x00#8, 0x00#8, 0x00#8, 0x00#8, 0x00#8, 0x00#8, 0x00#8, 0x00#8, 0x09#8, 0x10#8, 0x03#8, 0x00#8, 0x06#8, 0x00#8, 0x04#8, 0x00#8], crc := 0x542ca9b2#32, eof := true, charError := false }
/-- A ROUTE. -/
def fRt : Frame := { w0 := 0x8a001006#32, w1 := 0x08000010#32, w2 := 0x00000003#32, w3 := 0x0000f6f5#32, payload := [0x03#8, 0x01#8, 0x01#8, 0x00#8, 0x00#8, 0x00#8, 0x00#8, 0x00#8, 0x09#8, 0x00#8, 0x00#8, 0x8c#8, 0x05#8, 0x00#8, 0x00#8, 0x00#8], crc := 0x716e2cf0#32, eof := true, charError := false }
/-- A TRIP. -/
def fTrp : Frame := { w0 := 0x4cfff007#32, w1 := 0x00180000#32, w2 := 0x00120307#32, w3 := 0x0000741c#32, payload := [], crc := 0x3415e922#32, eof := true, charError := false }
/-- A REPLY. -/
def fRep : Frame := { w0 := 0x6a001006#32, w1 := 0x08000020#32, w2 := 0x00000003#32, w3 := 0x00003c6b#32, payload := [0x88#8, 0x00#8, 0x00#8, 0x00#8, 0x00#8, 0x00#8, 0x00#8, 0x00#8, 0x00#8, 0x00#8, 0x00#8, 0x00#8, 0x00#8, 0x00#8, 0x00#8, 0x00#8, 0x03#8, 0x00#8, 0x00#8, 0x00#8, 0x03#8, 0x00#8, 0x00#8, 0x00#8, 0x00#8, 0x00#8, 0x00#8, 0x00#8, 0x00#8, 0x00#8, 0x00#8, 0x00#8], crc := 0x58c0860b#32, eof := true, charError := false }
/-- A REPLY of a higher epoch. -/
def fRep2 : Frame := { w0 := 0x6a001006#32, w1 := 0x08000020#32, w2 := 0x00000003#32, w3 := 0x00003c6b#32, payload := [0x88#8, 0x00#8, 0x00#8, 0x00#8, 0x00#8, 0x00#8, 0x00#8, 0x00#8, 0x00#8, 0x00#8, 0x05#8, 0x00#8, 0x00#8, 0x00#8, 0x00#8, 0x00#8, 0x03#8, 0x00#8, 0x00#8, 0x00#8, 0x03#8, 0x00#8, 0x00#8, 0x00#8, 0x00#8, 0x00#8, 0x00#8, 0x00#8, 0x00#8, 0x00#8, 0x00#8, 0x00#8], crc := 0x134971cb#32, eof := true, charError := false }
/-- A DATA frame for context 3. -/
def fD3 : Frame := { w0 := 0x18005007#32, w1 := 0x002c1804#32, w2 := 0x00000001#32, w3 := 0x00009af0#32, payload := [0x44#8, 0x33#8, 0x22#8, 0x11#8], crc := 0x63101295#32, eof := true, charError := false }
/-- The same of a newer incarnation. -/
def fD9 : Frame := { w0 := 0x18005007#32, w1 := 0x002c1804#32, w2 := 0x00000009#32, w3 := 0x000097b2#32, payload := [0x44#8, 0x33#8, 0x22#8, 0x11#8], crc := 0x651c646b#32, eof := true, charError := false }
/-- An ACK for context 3. -/
def fA3 : Frame := { w0 := 0x28005007#32, w1 := 0x002c1800#32, w2 := 0x00010001#32, w3 := 0x0011be36#32, payload := [], crc := 0x3f57ba55#32, eof := true, charError := false }
/-- A REMOTE read of one word. -/
def fR3 : Frame := { w0 := 0x98005007#32, w1 := 0x002c1808#32, w2 := 0x00000001#32, w3 := 0x0000f424#32, payload := [0x01#8, 0x01#8, 0x07#8, 0x00#8, 0x00#8, 0x01#8, 0x00#8, 0x00#8], crc := 0x9e26031d#32, eof := true, charError := false }
/-- A SYNC. -/
def fSyn : Frame := { w0 := 0xac000007#32, w1 := 0x00000010#32, w2 := 0x00000001#32, w3 := 0x0000d843#32, payload := [0x00#8, 0x00#8, 0x00#8, 0x00#8, 0x00#8, 0x00#8, 0x00#8, 0x00#8, 0x14#8, 0x00#8, 0x02#8, 0x00#8, 0x01#8, 0x00#8, 0x00#8, 0x00#8], crc := 0xf450cce6#32, eof := true, charError := false }
/-- A SYNC far off. -/
def fSynF : Frame := { w0 := 0xac000007#32, w1 := 0x00000010#32, w2 := 0x00000001#32, w3 := 0x0000d843#32, payload := [0xe8#8, 0x03#8, 0x00#8, 0x00#8, 0x00#8, 0x00#8, 0x00#8, 0x00#8, 0x14#8, 0x00#8, 0x02#8, 0x00#8, 0x01#8, 0x00#8, 0x00#8, 0x00#8], crc := 0xf38259a3#32, eof := true, charError := false }
/-- A REQ. -/
def fReq : Frame := { w0 := 0xac000007#32, w1 := 0x00000010#32, w2 := 0x00000002#32, w3 := 0x000016a3#32, payload := [0x00#8, 0x00#8, 0x00#8, 0x00#8, 0x00#8, 0x00#8, 0x00#8, 0x00#8, 0x00#8, 0x00#8, 0x00#8, 0x00#8, 0x00#8, 0x00#8, 0x00#8, 0x00#8], crc := 0xa1cb9c71#32, eof := true, charError := false }
/-- A RESP. -/
def fRsp : Frame := { w0 := 0xac000007#32, w1 := 0x00000018#32, w2 := 0x00000003#32, w3 := 0x00001948#32, payload := [0x00#8, 0x00#8, 0x00#8, 0x00#8, 0x00#8, 0x00#8, 0x00#8, 0x00#8, 0x00#8, 0x00#8, 0x00#8, 0x00#8, 0x00#8, 0x00#8, 0x00#8, 0x00#8, 0x00#8, 0x00#8, 0x00#8, 0x00#8, 0x00#8, 0x00#8, 0x00#8, 0x00#8], crc := 0x9aa2befa#32, eof := true, charError := false }
/-- A MARK. -/
def fMrk : Frame := { w0 := 0xbcfff000#32, w1 := 0x00280010#32, w2 := 0x00000000#32, w3 := 0x00003434#32, payload := [0xe8#8, 0x03#8, 0x00#8, 0x00#8, 0x00#8, 0x00#8, 0x00#8, 0x00#8, 0x06#8, 0x00#8, 0x01#8, 0x00#8, 0x00#8, 0x00#8, 0x00#8, 0x00#8], crc := 0x81b4b15a#32, eof := true, charError := false }
/-- Context 3 is OPEN towards station 7; the transmit list and the held frames are given. -/
def fl3 (out : List TxItem) (st : Nat) : State :=
  { ((lk.wr (.FLW_F_CFG 3) 0x00007030#32).put (.FLW_F_CFG 3) Fld.FLW_F_CFG_STATE st).wr (.FLW_F_RXBASE 3) 0x1000#32 with
    fw := { ctx := [(3, { out := out })], inc := [(3, 1)] } }
/-- A command of slot 3 over context 3. -/
def fcmd (op : Nat) (p0 p1 : Word) (s : State) : State := { (cmdAt op p0 p1 0 s) with fw := s.fw }
def tx0 : TxItem := { seq := 0, typ := 1, addr := 0, len := 4 }

/-! ### Single steps against the spec's worked examples -/

/-- A step runs the command at the front of the queue; an idle step lets 4 ns pass. -/
theorem test_step_front : nextIs (step { State.reset with pending := [.holdTimeout, .aonPowerOn] }) (fun t => t.pending == [.aonPowerOn]) = true := by
  decide +kernel
theorem test_step_idle : nextIs (step State.reset) (fun t => t.pending == []) = true := by decide +kernel
/-- R22: right after reset CORE is down, and a write of its registers is ignored. -/
theorem test_unpowered : nextIs (exec (.registerWrite .core 0x40000018 0x100#32 0xF#4) State.reset) (fun t => decide (t.rd .SYS_IADDR = 0#32)) = true := by
  decide +kernel
/-- Chapter 19, the write to RAIL05_VSET and RAIL05_DLY: 850 mV and an on-delay of 100 µs. -/
def railBytes : List Byte := [0x32#8, 0x88#8, 0x52#8, 0x03#8, 0x00#8, 0x00#8, 0x00#8, 0x00#8, 0x0A#8, 0x00#8]
theorem test_twb_write : nextIs (exec (.twbWriteTransaction { addr := 0x58#7, bytes := railBytes, begun := false }) up)
    (fun t => decide (t.rd (.RAIL_VSET 5) = 0x352#32) && decide (t.rd (.RAIL_DLY 5) = 0xA0000#32)) = true := by decide +kernel
/-- The same write begun at 0x329C: the fifth data byte is not acknowledged, and PAGEX is set. -/
theorem test_twb_page : nextIs (exec (.twbWriteTransaction { addr := 0x58#7, bytes := 0x32#8 :: 0x9C#8 :: railBytes.drop 2, begun := false }) up)
    (fun t => decide (t.rd (.RAIL_PG 5) = 0x352#32) && decide (t.rd (.RAIL_FLAG 5) = 0#32)) = true := by decide +kernel
/-- Table 12.3: with slot 3 allocated last and slot 4 at generation 17, the next handle is 0x0484. -/
def mailbox : State :=
  { dep with cm := { slots := [(4, { gen := 17 }), (5, { gen := 17 })], lastSlot := 3, banks := [(.core, { p0 := 0x50A#32 })] } }
theorem test_issue_handle : nextIs (exec (.nopConfig (.issue .core)) mailbox)
    (fun t => decide (getF (t.bank .core).result Fld.CMD_RESULT_HANDLE = 0x0484)) = true := by decide +kernel
/-- Table 13.3, step 4: page 0xF4 is retired into spare 0. -/
def weak : State := { up with me := { copy := some (0, 0xF4) } }
theorem test_page_copy : nextIs (exec .pageCopyDone weak)
    (fun t => decide (t.rd (.MEM_PMAP 0) = 0x800000F4#32) && decide (t.view .core .MEM_STATUS = 3#32)) = true := by decide +kernel
/-- Table 10.3: source 61 with Class A is raised: rail 5 is latched, FAULT_N is low and FLT_FIRST holds source, class and cause 0. -/
def overvolt : State := ((((up.put (.RAIL_STATUS 5) Fld.RAIL_STATUS_STATE 4).wr (.FLT_CFG 61) 0x90000003#32).put (.SUP_STATUS 5) Fld.SUP_STATUS_OVARM 1).put
  (.RAIL_STATUS 5) Fld.RAIL_STATUS_PG 1)
theorem test_overvoltage : nextIs (exec (.ovCrossing 5) overvolt)
    (fun t => decide (t.railSt 5 = 8) && t.bit (.FLT_STAT 1) 29 && decide (t.fld (.SUP_STATUS 5) Fld.SUP_STATUS_OVARM = 0) &&
      decide (getF (t.rd .FLT_FIRST) Fld.FLT_FIRST_SOURCE = 61)) = true := by decide +kernel
/-- Table 20.4: the reply to RAILS 05 on that rail, latched. -/
def latchedRail : State :=
  ((up.put (.RAIL_STATUS 5) Fld.RAIL_STATUS_STATE 8).wr (.RAIL_FLAG 5) 1#32).wr .OTP_STATUS 2#32
theorem test_rails : nextIs (exec (.rails 5 5) latchedRail) (fun t => t.mo.reply == [[5, 8, 0, 0, 1]] && t.mo.status == 0) = true := by decide +kernel
/-- Table 08.1: CAP 4799.9 mAh with 3.0 % reserve is a GAU_QUSE of 16 761 251 mC. -/
def pack : State := ((up.wr .GAU_CYCLES 600#32).wr .BKP_BATCFG 0x000A0BB8#32).wr .BKP_SHUNT 0x00050005#32
theorem test_quse : nextIs (exec (.gaugeConfigWrite .core true 0x001E0000#32 0xF#4) (pack.wr .GAU_DESIGN 0x029B1388#32))
    (fun t => decide (t.rd .GAU_QUSE = 16761251#32)) = true := by decide +kernel
/-- Chapter 16: host firmware registers task 02. -/
theorem test_register_task : nextIs (exec (.taskRegister .core 2 0x800780C8#32 0xF#4) up)
    (fun t => decide (t.view .core .WDG_STATUS = 4#32) && decide (t.rd (.WDG_T_CFG 2) = 0x800780C8#32)) = true := by decide +kernel


/-! ### Every hypothesis can be met -/

theorem wit_RegisterAccess_register_write : ∃ (i : Iface) (v : Word) (be : BitVec 4) (s : State), s.takes .SYS_IADDR =
  true :=
  ⟨.core, 5, 0xF, up, by decide +kernel⟩
theorem wit_RegisterAccess_sram_write : ∃ (i : Iface) (v : Word) (a : Nat) (s : State), s.accepts = true ∧ s.sramServed
  a = true ∧ a < 0x40000 ∧ a % 4 = 0 ∧ s.memOk :=
  ⟨.core, 5, 0x100, up, by decide +kernel⟩
theorem wit_RegisterAccess_winbase : ∃ (b : Nat) (i : Iface) (v : Word) (be : BitVec 4) (s : State), s.takes
  .SYS_WINBASE = true ∧ b = getF (s.merged .SYS_WINBASE v be) Fld.SYS_WINBASE_BASE ∧ (b ≤ 3 ∨ 0x1000 ≤ b ∧ b ≤ 0x101F ∨
  b = 0x2000 ∨ b = 0x4000 ∨ b = 0x4001) :=
  ⟨2, .twoWire, 2, 0xF, up, by decide +kernel⟩
theorem wit_RegisterAccess_winbase_bad : ∃ (b : Nat) (i : Iface) (v : Word) (be : BitVec 4) (s : State), s.takes
  .SYS_WINBASE = true ∧ b = getF (s.merged .SYS_WINBASE v be) Fld.SYS_WINBASE_BASE ∧ (¬ (b ≤ 3 ∨ 0x1000 ≤ b ∧ b ≤
  0x101F ∨ b = 0x2000 ∨ b = 0x4000 ∨ b = 0x4001)) :=
  ⟨4, .twoWire, 4, 0xF, up, by decide +kernel⟩
theorem wit_RegisterAccess_idata_read : ∃ (i : Iface) (a : Nat) (s : State), s.served = true ∧ s.powered .aon = true ∧
  a = wordAddr (s.rd .SYS_IADDR).toNat ∧ a < 0x40000 ∧ s.sramServed a = true ∧ s.sramBad a = none :=
  ⟨.twoWire, 0, up, by decide +kernel⟩
theorem wit_RegisterAccess_idata_write : ∃ (i : Iface) (v : Word) (a : Nat) (s : State), s.takes .SYS_IDATA = true ∧ a
  = wordAddr (s.rd .SYS_IADDR).toNat ∧ a < 0x40000 ∧ s.sramServed a = true ∧ s.memOk :=
  ⟨.twoWire, 7, 0, up, by decide +kernel⟩
theorem wit_RegisterAccess_domain_power_up : ∃ (d p : Dom) (s : State), s.accepts = true ∧ s.pw.start = none ∧ s.pw.mc
  = .firmware ∧ s.powered d = false ∧ Dom.parent d = some p ∧ s.powered p = true ∧ (d ≠ .link ∨ s.pins.refclk = true)
  :=
  ⟨.link, .core, { up with pins := { up.pins with refclk := true }, pw := { up.pw with on := [.aon, .nvm, .core] } },
    by decide +kernel⟩
theorem wit_RegisterAccess_domain_brownout : ∃ (d : Dom) (s : State), s.powered d = true ∧ d ≠ .aon ∧ d ≠ .nvm ∧ d ≠
  .core :=
  ⟨.seq, up, by decide +kernel⟩
theorem wit_RegisterAccess_refclk_loss : ∃ (s : State), s.pins.refclk = true ∧ s.powered .link = true :=
  ⟨{ up with pins := { up.pins with refclk := true } }, by decide +kernel⟩
theorem wit_TrackplanStaged_verify : ∃ (k : Nat) (s : State), s.begins 0x01 k ∧ s.firstBad (s.slot k).stage.toNat
  (s.slot k).stageLen = none ∧ keysIn s.me.soft (s.slot k).stage.toNat (s.slot k).stageLen = [] ∧ keysIn s.me.votes
  (s.slot k).stage.toNat (s.slot k).stageLen = [] ∧ s.checkStaged k true = none :=
  ⟨3, cmd 1 0 0 0, by decide +kernel⟩
theorem wit_TrackplanStaged_verify_refused : ∃ (x : TplRef) (k : Nat) (s : State), s.begins 0x01 k ∧ s.firstBad (s.slot
  k).stage.toNat (s.slot k).stageLen = none ∧ keysIn s.me.soft (s.slot k).stage.toNat (s.slot k).stageLen = [] ∧ keysIn
  s.me.votes (s.slot k).stage.toNat (s.slot k).stageLen = [] ∧ s.checkStaged k true = some x :=
  ⟨{ code := 0x0D }, 3, cmdAt 1 0 0 0 (staged up), by decide +kernel⟩
theorem wit_TrackplanStaged_store : ∃ (k : Nat) (s : State), s.begins 0x41 k ∧ s.firstBad (s.slot k).stage.toNat
  (s.slot k).stageLen = none ∧ keysIn s.me.soft (s.slot k).stage.toNat (s.slot k).stageLen = [] ∧ keysIn s.me.votes
  (s.slot k).stage.toNat (s.slot k).stageLen = [] ∧ s.checkStaged k true = none ∧ s.readOnly 1 = false :=
  ⟨3, cmd 0x41 0 0 0, by decide +kernel⟩
theorem wit_TrackplanStaged_load_all : ∃ (u : State) (p : Bool × State) (k : Nat) (s : State), s.begins 0x02 k ∧
  s.firstBad (s.slot k).stage.toNat (s.slot k).stageLen = none ∧ keysIn s.me.soft (s.slot k).stage.toNat (s.slot
  k).stageLen = [] ∧ keysIn s.me.votes (s.slot k).stage.toNat (s.slot k).stageLen = [] ∧ (s.checkStaged k (s.tplSt == 0
  || allRails.all fun n => s.railSt n == rOff) = none) ∧ u = (each allSlots (fun j s => s.openSlot j false) (s.setPhase
  k 1)).resetRegs ((loadRegs s.tp.stream ++ loadRegs (s.staged k)).filter (· != .BKP_BATCFG)) ∧ p = (u.setReg
  (streamEntries (s.staged k)) .BKP_BATCFG).applyStream (s.staged k) :=
  ⟨_, _, 3, cmd 2 0 0 0, by exact ⟨by decide +kernel, by decide +kernel, by decide +kernel, by decide +kernel,
    by decide +kernel, rfl, rfl⟩⟩
theorem wit_TrackplanReload_begin : ∃ (i : Iface) (k : Nat) (s : State), s.admits i 0x03 k = true ∧ s.runningSlot 0 =
  none ∧ s.cm.waiting = [] ∧ s.reloadReady = true :=
  ⟨.core, 0, dep.setTpl 2 0, by decide +kernel⟩
theorem wit_TrackplanReload_open : ∃ (r : Reload) (k : Nat) (s : State), s.runningSlot 0 = some k ∧ (s.slot k).op =
  0x03 ∧ s.tp.reload = some r ∧ r.slot = k ∧ r.abort = none ∧ s.tplPhase = 3 :=
  ⟨rld, 3, rel rld 3 (cmd 3 1 0 0), by decide +kernel⟩
theorem wit_TrackplanReload_verify : ∃ (r : Reload) (k : Nat) (s : State), s.runningSlot 0 = some k ∧ (s.slot k).op =
  0x03 ∧ s.tp.reload = some r ∧ r.slot = k ∧ r.abort = none ∧ s.tplPhase = 5 ∧ s.readBack (domEntries r.staged r.dom) =
  true :=
  ⟨rld, 3, rel rld 5 (cmd 3 1 0 0), by decide +kernel⟩
theorem wit_TrackplanReload_restored : ∃ (r : Reload) (c : Nat) (k : Nat) (s : State), s.runningSlot 0 = some k ∧
  (s.slot k).op = 0x03 ∧ s.tp.reload = some r ∧ r.slot = k ∧ r.abort = some c :=
  ⟨{ rld with abort := some 0x20 }, 0x20, 3, rel { rld with abort := some 0x20 } 9 (cmd 3 1 0 0), by decide +kernel⟩
theorem wit_TrackplanReload_holdmax : ∃ (i : Iface) (v : Word) (s : State), s.takes .TPL_HOLDMAX = true :=
  ⟨.twoWire, 9, up, by decide +kernel⟩
theorem wit_TrackplanReload_boot : ∃ (b : Nat) (l : List Nat) (s : State), s.pw.mc = .firmware ∧ s.tplSt = 1 ∧
  s.wd.expired = false ∧ s.bootBanks = b :: l ∧ (s.bootTry b).1 = true :=
  ⟨0, [], booted, by exact ⟨rfl, by decide +kernel, rfl, booted_banks, booted_try⟩⟩
theorem wit_TrackplanReload_boot_none : ∃ (s : State), s.pw.mc = .firmware ∧ s.tplSt = 1 ∧ s.wd.expired = false ∧
  s.bootBanks = [] :=
  ⟨dep.setTpl 1 0, by decide +kernel⟩
theorem wit_TrackplanReload_hold_timeout : ∃ (r : Reload) (s : State), s.tp.reload = some r ∧ r.safe = false ∧ r.abort
  = none ∧ 4 ≤ s.tplPhase ∧ s.tplPhase ≤ 6 :=
  ⟨rld, rel rld 5 dep, by decide +kernel⟩
theorem wit_TrackplanReload_safe_resume : ∃ (r : Reload) (s : State), s.tp.reload = some r ∧ s.tplPhase = 2 ∧ r.abort =
  none ∧ s.safeDone r = true :=
  ⟨{ rld with safe := true }, rel { rld with safe := true } 2 dep, by decide +kernel⟩
theorem wit_StageWrites_cfg_idle : ∃ (i : Iface) (v : Word) (m : Fin 24) (s : State), s.takes (.STG_CFG m) = true ∧
  getF v Fld.STG_CFG_DEMODE ≠ 3 ∧ s.badRail m (getF v Fld.STG_CFG_RAIL) = false ∧ s.badRail m (getF v Fld.STG_CFG_HOME)
  = false ∧ s.gangFull m (getF v Fld.STG_CFG_RAIL) = false ∧ (s.stgSt m = 0 ∨ s.stgSt m = 7 ∨ s.stgSt m = 8) ∧
  s.idleOrOff (s.stgRail m) = true ∧ s.idleOrOff (getF v Fld.STG_CFG_RAIL) = true :=
  ⟨.core, 0x1F1F1080, 4, up, by decide +kernel⟩
theorem wit_StageWrites_cfg_live : ∃ (i : Iface) (v : Word) (m : Fin 24) (s : State), s.takes (.STG_CFG m) = true ∧
  getF v Fld.STG_CFG_DEMODE ≠ 3 ∧ s.badRail m (getF v Fld.STG_CFG_RAIL) = false ∧ s.badRail m (getF v Fld.STG_CFG_HOME)
  = false ∧ s.gangFull m (getF v Fld.STG_CFG_RAIL) = false ∧ s.stgSt m = 4 :=
  ⟨.core, 0x1F1F1080, 4, (up).put (.STG_STATE 4) Fld.STG_STATE_STATE 4, by decide +kernel⟩
theorem wit_StageWrites_cfg_owner : ∃ (i : Iface) (v : Word) (m : Fin 24) (s : State), s.takes (.STG_CFG m) = true ∧
  s.badRail m (getF v Fld.STG_CFG_RAIL) = true ∧ getF v Fld.STG_CFG_DEMODE ≠ 3 :=
  ⟨.core, 0x1E1F1080, 4, up, by decide +kernel⟩
theorem wit_StageWrites_point : ∃ (i : Iface) (v : Word) (k : Fin 8) (s : State), s.takes (.PNT_CFG k) = true ∧ k.val ∉
  s.pins.closed :=
  ⟨.core, 0x80000503, 2, up, by decide +kernel⟩
theorem wit_StageWrites_point_closed : ∃ (i : Iface) (v : Word) (k : Fin 8) (s : State), s.takes (.PNT_CFG k) = true ∧
  k.val ∈ s.pins.closed :=
  ⟨.core, 0x80000503, 2, { up with pins := { closed := [2] } }, by decide +kernel⟩
theorem wit_StageWrites_unblock : ∃ (i : Iface) (m : Fin 24) (s : State), s.takes (.STG_FLAG m) = true ∧ s.stgSt m = 7
  ∧ s.latched m = false :=
  ⟨.core, 4, (up.putBit (.STG_FLAG 4) 0 true).put (.STG_STATE 4) Fld.STG_STATE_STATE 7, by decide +kernel⟩
theorem wit_StageCycles_fire : ∃ (n : Fin 16) (f : Fire) (m : Nat) (l : List Nat) (s : State), s.rotation n = m :: l ∧
  f.busy.getLsbD m = false ∧ s.aboveVlim f m = false ∧ n.val ∉ s.sw.waiting :=
  ⟨0, { vin := 48000, vout := 1000, busy := 0, cur := [], dutyMax := false }, 4, [], ((up).put (.STG_STATE 4)
    Fld.STG_STATE_STATE 4).put (.STG_CFG 4) Fld.STG_CFG_RAIL 0, by decide +kernel⟩
theorem wit_StageCycles_fire_none : ∃ (n : Fin 16) (f : Fire) (s : State), s.rotation n = [] :=
  ⟨0, { vin := 48000, vout := 1000, busy := 0, cur := [], dutyMax := false }, up, by decide +kernel⟩
theorem wit_StageCycles_zero_current : ∃ (m : Fin 24) (s : State), s.switches m = true ∧ s.emulates m = true ∧
  s.compOut (0x60 + m) true = true :=
  ⟨4, (up).put (.STG_STATE 4) Fld.STG_STATE_STATE 4, by decide +kernel⟩
theorem wit_StageCycles_negative : ∃ (m : Fin 24) (s : State), s.switches m = true ∧ s.emulates m = false :=
  ⟨4, ((up).put (.STG_STATE 4) Fld.STG_STATE_STATE 4).put (.STG_CFG 4) Fld.STG_CFG_DEMODE 2, by decide +kernel⟩
theorem wit_StageCycles_oc : ∃ (m : Fin 24) (s : State), s.fld (.STG_STATE m) Fld.STG_STATE_VLIMACT = 1 :=
  ⟨4, up.put (.STG_STATE 4) Fld.STG_STATE_VLIMACT 1, by decide +kernel⟩
theorem wit_StageCycles_aggregate_oc : ∃ (s : State), s.fld .SWY_STATUS Fld.SWY_STATUS_AGGACT = 1 :=
  ⟨up.put .SWY_STATUS Fld.SWY_STATUS_AGGACT 1, by decide +kernel⟩
theorem wit_StageCycles_watershed_decay : ∃ (l : List StageMeas) (n m : Nat) (s : State), n < 16 ∧ m ∈ s.inRotation n ∧
  (((s.inRotation n).filter fun x => s.stgSt x == 3 || s.stgSt x == 4).length < 5 ∨ s.bit .POL_LOCK 1 = true) :=
  ⟨[], 0, 4, (((up).put (.STG_STATE 4) Fld.STG_STATE_STATE 4).put (.STG_CFG 4) Fld.STG_CFG_RAIL 0).putStgX 4
    { trim := 9 }, by decide +kernel⟩
theorem wit_StageStates_point_settled : ∃ (k : Fin 8) (m : Nat) (s : State), m = s.fld (.PNT_CFG k) Fld.PNT_CFG_STAGE ∧
  k.val ∈ s.pins.closed ∧ (s.stgX m).settling = true :=
  ⟨1, 0, ({ up with pins := { closed := [1] } } : State).putStgX 0 { settling := true }, by decide +kernel⟩
theorem wit_StageStates_short_found : ∃ (v : Nat) (m : Fin 24) (s : State), s.stgSt m = 1 ∧ s.testFails m v = true ∧
  s.sw.regang = none :=
  ⟨9000, 4, (up).put (.STG_STATE 4) Fld.STG_STATE_STATE 1, by decide +kernel⟩
theorem wit_StageStates_test_passed : ∃ (v : Nat) (m : Fin 24) (s : State), s.stgSt m = 1 ∧ s.testFails m v = false :=
  ⟨0, 4, (up).put (.STG_STATE 4) Fld.STG_STATE_STATE 1, by decide +kernel⟩
theorem wit_StageStates_boot_join : ∃ (m : Fin 24) (s : State), s.stgSt m = 2 ∧ s.sw.regang = none ∧ (16 ≤ s.stgRail m
  ∨ s.railSt (s.stgRail m) ≠ 2) :=
  ⟨4, (up).put (.STG_STATE 4) Fld.STG_STATE_STATE 2, by decide +kernel⟩
theorem wit_StageStates_boot_gang : ∃ (m : Fin 24) (s : State), s.stgSt m = 2 ∧ s.sw.regang = none ∧ s.stgRail m < 16 ∧
  s.railSt (s.stgRail m) = 2 ∧ m.val ∈ s.startable (s.stgRail m) ∧ (∀ x ∈ s.startable (s.stgRail m), x = m.val ∨
  (s.stgX x).booted = true) :=
  ⟨4, (((up).put (.STG_STATE 4) Fld.STG_STATE_STATE 2).put (.STG_CFG 4) Fld.STG_CFG_RAIL 0).put (.STG_CFG 4)
    Fld.STG_CFG_HOME 0 |>.put (.RAIL_STATUS 0) Fld.RAIL_STATUS_STATE 2, by decide +kernel⟩
theorem wit_StageStates_joined : ∃ (m : Fin 24) (s : State), s.stgSt m = 3 ∧ s.sw.regang = none :=
  ⟨4, (up).put (.STG_STATE 4) Fld.STG_STATE_STATE 3, by decide +kernel⟩
theorem wit_StageStates_drained : ∃ (m : Fin 24) (s : State), s.stgSt m = 5 :=
  ⟨4, (up).put (.STG_STATE 4) Fld.STG_STATE_STATE 5, by decide +kernel⟩
theorem wit_StageStates_parked : ∃ (c : Instr) (m : Fin 24) (s : State), (c = .leaveCurrentZero m ∨ c = .leaveTimeout
  m) ∧ s.stgSt m = 5 ∧ (s.stgX m).drained = true ∧ (s.stgX m).parking = true :=
  ⟨.leaveTimeout 4, 4, ((up).put (.STG_STATE 4) Fld.STG_STATE_STATE 5).putStgX 4 { drained := true, parking := true },
    by decide +kernel⟩
theorem wit_StageStates_left : ∃ (c : Instr) (m : Fin 24) (s : State), (c = .leaveCurrentZero m ∨ c = .leaveTimeout m)
  ∧ s.stgSt m = 5 ∧ (s.stgX m).drained = true ∧ (s.stgX m).parking = false ∧ s.sw.regang = none :=
  ⟨.leaveCurrentZero 4, 4, ((up).put (.STG_STATE 4) Fld.STG_STATE_STATE 5).putStgX 4 { drained := true },
    by decide +kernel⟩
theorem wit_StageStates_regang_refused : ∃ (k m r : Nat) (s : State), s.begins 0x10 k ∧ m = getF (s.slot k).p0 ⟨4, 0⟩ ∧
  r = getF (s.slot k).p0 ⟨12, 8⟩ ∧ s.regangJudge m r ≠ 0 :=
  ⟨3, 4, 0x1F, cmd 0x10 0x1F04 0 0, by decide +kernel⟩
theorem wit_StageStates_regang_add : ∃ (k m r : Nat) (s : State), s.begins 0x10 k ∧ m = getF (s.slot k).p0 ⟨4, 0⟩ ∧ r =
  getF (s.slot k).p0 ⟨12, 8⟩ ∧ r < 16 ∧ 16 ≤ s.stgRail m ∧ s.regangJudge m r = 0 ∧ s.railSt r = 0 :=
  ⟨3, 4, 2, (cmd 0x10 0x204 0 0).put (.STG_CFG 4) Fld.STG_CFG_HOME 2, by decide +kernel⟩
theorem wit_StageStates_regang_shed : ∃ (k m : Nat) (s : State), s.begins 0x10 k ∧ m = getF (s.slot k).p0 ⟨4, 0⟩ ∧ getF
  (s.slot k).p0 ⟨12, 8⟩ = 0x1F ∧ s.stgRail m < 16 ∧ s.regangJudge m 0x1F = 0 ∧ s.railSt (s.stgRail m) ≠ 0 ∧ s.stgSt m =
  4 :=
  ⟨3, 4, shedW, by decide +kernel⟩
theorem wit_LoopSamples_sample : ∃ (r : Rat) (k : Fin 32) (s : State), s.loopsWork = true ∧ s.slotSt k = 2 ∧ s.tapReady
  k = true ∧ s.computes k = true ∧ (s.loopX k).sample = none ∧ (s.slotTap k).1 ≠ 3 ∧ s.slotRef k = some r :=
  ⟨0, 5,
    ({ (((((up).wr (.LPS_CFG 5) 0x01000001#32)).put (.LPS_CTL 5) Fld.LPS_CTL_STATE 2).wr (.LPS_IN 5) 0#32).put (.RAIL_STATUS 0) Fld.RAIL_STATUS_STATE 4 with clock := { localTicks := 1024000#64 }, sv := { convs := [(0, { tapped := [(0, 1023900)] })] } }
    : State), by decide +kernel⟩
theorem wit_LoopSamples_late : ∃ (x : Sample) (k : Fin 32) (s : State), s.loopsWork = true ∧ s.tapReady k = true ∧
  s.slotSt k = 2 ∧ s.computes k = true ∧ (s.loopX k).sample = some x :=
  ⟨{ fb := 1, ref := 2, tick := 0 }, 5,
    ({ (((((up).wr (.LPS_CFG 5) 0x01000001#32)).put (.LPS_CTL 5) Fld.LPS_CTL_STATE 2).wr (.LPS_IN 5) 0#32).put (.RAIL_STATUS 0) Fld.RAIL_STATUS_STATE 4 with clock := { localTicks := 1024000#64 }, sv := { convs := [(0, { tapped := [(0, 1023900)] })] } }
    : State).putLoopX 5 { sample := some { fb := 1, ref := 2, tick := 0 } }, by decide +kernel⟩
theorem wit_LoopSamples_done : ∃ (x : Sample) (d : Rat) (u : Int) (k : Fin 32) (s : State), (s.loopX k).sample = some x
  ∧ s.loopsWork = true ∧ s.slotSt k = 2 ∧ s.engineServes (slotEngine k) = some k.val ∧ u = roundOpen (x.ref - x.fb) *
  4096 ∧ -(2 ^ 31) ≤ u ∧ u < 2 ^ 31 :=
  ⟨{ fb := 1, ref := 3, tick := 0 }, 0, 8192, 5, (((((up).wr (.LPS_CFG 5) 0x01000001#32)).put (.LPS_CTL 5)
    Fld.LPS_CTL_STATE 2).put (.RAIL_STATUS 0) Fld.RAIL_STATUS_STATE 4).putLoopX 5
    { sample := some { fb := 1, ref := 3, tick := 0 } }, by decide +kernel⟩
theorem wit_LoopSamples_tempo : ∃ (e : Fin 8) (c p : Nat) (s : State), s.powered .eng = true ∧ (s.engX e).prevCount =
  some p :=
  ⟨1, 200, 300, up.putEngX 1 { prevCount := some 300 }, by decide +kernel⟩
theorem wit_LoopSamples_tempo_first : ∃ (e : Fin 8) (c : Nat) (s : State), s.powered .eng = true ∧ (s.engX e).prevCount
  = none :=
  ⟨1, 200, up, by decide +kernel⟩
theorem wit_LoopSamples_restored : ∃ (e : Fin 8) (k c : Nat) (l : List Nat) (s : State), (s.engX e).shed = k :: l ∧
  s.powered .eng = true ∧ s.bit .POL_LOCK 5 = false ∧ s.fld (.LPE_TEMPO e) Fld.LPE_TEMPO_RATE ≠ 0 ∧ (s.fld (.LPE_SHED
  e) Fld.LPE_SHED_RESTTH : Rat) ≤ s.slackAt e (s.fld (.LPE_TEMPO e) Fld.LPE_TEMPO_RATE) (fun j => if j = k then
  rateFaster (s.prate k) else s.prate j) ∧ c = (if (s.loopX k).shedTo = none then rateFaster (s.prate k) else s.prate
  k) :=
  ⟨1, 5, 2, [], ((up.putEngX 1 { shed := [5] }).put (.LPE_TEMPO 1) Fld.LPE_TEMPO_RATE 300).put (.LPS_STAT 5)
    Fld.LPS_STAT_PRATE 4, by decide +kernel⟩
theorem wit_LoopSamples_rmin : ∃ (i : Iface) (e : Fin 8) (s : State), s.takes (.LPE_STATE e) = true :=
  ⟨.twoWire, 3, up, by decide +kernel⟩
theorem wit_LoopSamples_shed_write : ∃ (i : Iface) (e : Fin 8) (v : Word) (s : State), s.takes (.LPE_SHED e) = true :=
  ⟨.twoWire, 3, 0x3264, up, by decide +kernel⟩
theorem wit_LoopRequests_open : ∃ (i : Iface) (k : Fin 32) (s : State), s.takes (.LPS_CTL k) = true ∧ (s.slotSt k = 2 ∨
  s.slotSt k = 3) :=
  ⟨.core, 5, (up).put (.LPS_CTL 5) Fld.LPS_CTL_STATE 2, by decide +kernel⟩
theorem wit_LoopRequests_close : ∃ (i : Iface) (k : Fin 32) (s : State), s.takes (.LPS_CTL k) = true ∧ s.slotSt k = 1 ∧
  s.computes k = true :=
  ⟨.core, 5, ((((up).wr (.LPS_CFG 5) 0x01000001#32)).put (.LPS_CTL 5) Fld.LPS_CTL_STATE 1).put (.RAIL_STATUS 0)
    Fld.RAIL_STATUS_STATE 4, by decide +kernel⟩
theorem wit_LoopRequests_close_cleared : ∃ (i : Iface) (k : Fin 32) (s : State), s.takes (.LPS_CTL k) = true ∧ s.slotSt
  k = 1 :=
  ⟨.core, 5, ({ up with lp := { sections := [((1, 0), { s1 := 4, s2 := 5 })] } } |>.wr (.LPS_CFG 5) 0x01000001#32).put
    (.LPS_CTL 5) Fld.LPS_CTL_STATE 1, by decide +kernel⟩
theorem wit_LoopRequests_close_refused : ∃ (c : Instr) (i : Iface) (k : Fin 32) (s : State), (c = .loopCloseRequest i k
  ∨ c = .loopCloseCleared i k) ∧ s.takes (.LPS_CTL k) = true ∧ (s.slotSt k = 0 ∨ s.slotSt k = 3 ∧ s.latched (188 + k) =
  true) :=
  ⟨.loopCloseRequest .core 5, .core, 5, up, by decide +kernel⟩
theorem wit_LoopRequests_openlong : ∃ (k : Fin 32) (s : State), s.slotSt k = 1 ∧ (s.loopX k).hostOpen = true ∧ s.fld
  (.LPS_IN k) Fld.LPS_IN_RAIL < 20 ∧ s.railSt (s.fld (.LPS_IN k) Fld.LPS_IN_RAIL) ≠ 0 ∧ s.fld (.LPS_CLOSE k)
  Fld.LPS_CLOSE_OPENMAX ≠ 0 :=
  ⟨5, (((((up).put (.LPS_CTL 5) Fld.LPS_CTL_STATE 1).wr (.LPS_IN 5) 0#32).putLoopX 5 { hostOpen := true }).put
    (.RAIL_STATUS 0) Fld.RAIL_STATUS_STATE 4).put (.LPS_CLOSE 5) Fld.LPS_CLOSE_OPENMAX 9, by decide +kernel⟩
theorem wit_LoopRequests_settled : ∃ (k : Fin 32) (s : State), s.slotSt k = 2 ∧ s.unsettled k = false ∧ (s.loopX
  k).exceeded = false :=
  ⟨5, (((up).put (.LPS_CTL 5) Fld.LPS_CTL_STATE 2).put (.LPS_MODEL 5) Fld.LPS_MODEL_CAP 9).put (.LPS_MODEL 5)
    Fld.LPS_MODEL_IND 9, by decide +kernel⟩
theorem wit_LoopRequests_follow : ∃ (k : Fin 32) (s : State), s.slotSt k = 2 ∧ s.modelWatch k = false ∧ (s.loopX
  k).exceeded = true :=
  ⟨5, ((up).put (.LPS_CTL 5) Fld.LPS_CTL_STATE 2).putLoopX 5 { exceeded := true }, by decide +kernel⟩
theorem wit_LoopRequests_model : ∃ (k : Fin 32) (s : State), s.modelWatch k = true ∧ max 1 (getF (s.loopX k).act.mwatch
  Fld.LPS_MWATCH_CNT) ≤ s.fld (.LPS_STAT k) Fld.LPS_STAT_MWCNT :=
  ⟨5, (((((up).put (.LPS_CTL 5) Fld.LPS_CTL_STATE 2).put (.LPS_MODEL 5) Fld.LPS_MODEL_CAP 9).put (.LPS_MODEL 5)
    Fld.LPS_MODEL_IND 9).putLoopX 5 { settling := false }).put (.LPS_STAT 5) Fld.LPS_STAT_MWCNT 200, by decide +kernel⟩
theorem wit_LoopWrites_cfg : ∃ (i : Iface) (v : Word) (k : Fin 32) (s : State), s.takes (.LPS_CFG k) = true ∧ s.slotSt
  k ≠ 2 ∧ getF v Fld.LPS_CFG_KIND ≤ 5 ∧ cfgFields v = true ∧ (s.writeRw (.LPS_CFG k) v).placeOk (slotEngine k) = true ∧
  (s.writeRw (.LPS_CFG k) v).destsApart = true ∧ (s.writeRw (.LPS_CFG k) v).tapsOk = true ∧ ((s.writeRw (.LPS_CFG k)
  v).slotUsed k = false ∨ (s.writeRw (.LPS_CFG k) v).destOk k = true) :=
  ⟨.core, 0x01000101, 5, up, by decide +kernel⟩
theorem wit_LoopWrites_closed_cfg : ∃ (i : Iface) (v : Word) (k : Fin 32) (s : State), s.slotSt k = 2 ∧ s.takes
  (.LPS_CFG k) = true :=
  ⟨.core, 0x01000101, 5, (up).put (.LPS_CTL 5) Fld.LPS_CTL_STATE 2, by decide +kernel⟩
theorem wit_LoopWrites_closed_out : ∃ (i : Iface) (v : Word) (k : Fin 32) (s : State), s.slotSt k = 2 ∧ s.takes
  (.LPS_OUT k) = true :=
  ⟨.core, 0x01000101, 5, (up).put (.LPS_CTL 5) Fld.LPS_CTL_STATE 2, by decide +kernel⟩
theorem wit_LoopWrites_closed_tap : ∃ (i : Iface) (v : Word) (k : Fin 32) (s : State), s.slotSt k = 2 ∧ s.takes
  (.LPS_IN k) = true :=
  ⟨.core, 0x01000101, 5, (up).put (.LPS_CTL 5) Fld.LPS_CTL_STATE 2, by decide +kernel⟩
theorem wit_LoopWrites_closed_ref : ∃ (i : Iface) (v : Word) (k : Fin 32) (s : State), s.slotSt k = 2 ∧ s.takes
  (.LPS_REF k) = true :=
  ⟨.core, 0x01000101, 5, (up).put (.LPS_CTL 5) Fld.LPS_CTL_STATE 2, by decide +kernel⟩
theorem wit_LoopWrites_closed_model : ∃ (i : Iface) (v : Word) (k : Fin 32) (s : State), s.slotSt k = 2 ∧ s.takes
  (.LPS_MODEL k) = true :=
  ⟨.core, 0x01000101, 5, (up).put (.LPS_CTL 5) Fld.LPS_CTL_STATE 2, by decide +kernel⟩
theorem wit_LoopWrites_out : ∃ (i : Iface) (v : Word) (k : Fin 32) (s : State), s.takes (.LPS_OUT k) = true ∧ s.slotSt
  k ≠ 2 ∧ getF v Fld.LPS_OUT_DEST ≤ 5 ∧ (s.writeRw (.LPS_OUT k) v).destOk k = true ∧ (s.writeRw (.LPS_OUT k)
  v).destsApart = true :=
  ⟨.core, 0x60000101, 5, up, by decide +kernel⟩
theorem wit_LoopWrites_tap : ∃ (i : Iface) (v : Word) (k : Fin 32) (s : State), s.takes (.LPS_IN k) = true ∧ s.slotSt k
  ≠ 2 ∧ getF v Fld.LPS_IN_REFSRC ≤ 1 ∧ (s.writeRw (.LPS_IN k) v).tapsOk = true :=
  ⟨.core, 0x40000001, 5, up, by decide +kernel⟩
theorem wit_LoopWrites_tap_bad : ∃ (i : Iface) (v : Word) (k : Fin 32) (s : State), s.takes (.LPS_IN k) = true ∧
  s.slotSt k ≠ 2 ∧ getF v Fld.LPS_IN_REFSRC ≤ 1 ∧ (s.writeRw (.LPS_IN k) v).tapsOk = false :=
  ⟨.core, 0x04000000, 5, ((((((up).wr (.LPS_CFG 5) 0x01000001#32)).wr (.LPS_CFG 6) 0x01000001#32).wr (.LPS_CFG 7)
    0x01000001#32).wr (.LPS_CFG 8) 0x01000001#32).wr (.LPS_IN 6) 0x01000000#32 |>.wr (.LPS_IN 7) 0x02000000#32 |>.wr
    (.LPS_IN 8) 0x03000000#32, by decide +kernel⟩
theorem wit_LoopWrites_param : ∃ (p : LoopParam) (r : Reg) (i : Iface) (v : Word) (k : Fin 32) (s : State), (p, r) ∈
  [(LoopParam.ref, Reg.LPS_REF k), (.model, .LPS_MODEL k)] ∧ s.takes r = true ∧ s.slotSt k ≠ 2 :=
  ⟨.model, .LPS_MODEL 5, .core, 9, 5, up, by decide +kernel⟩
theorem wit_LoopWrites_coef : ∃ (i : Iface) (e : Fin 8) (j : Fin 12) (c : Fin 5) (v : Word) (s : State), s.takes (.COF
  e j c) = true ∧ (∀ k ∈ s.coveringSlots e j, s.slotSt k ≠ 2) :=
  ⟨.core, 1, 2, 3, 0x80000001, up, by decide +kernel⟩
theorem wit_LoopWrites_coef_closed : ∃ (i : Iface) (e : Fin 8) (j : Fin 12) (c : Fin 5) (v : Word) (k : Nat) (s :
  State), s.takes (.COF e j c) = true ∧ (s.coveringSlots e j).head? = some k ∧ s.slotSt k = 2 :=
  ⟨.core, 1, 0, 3, 0x80000001, 5, (((up).wr (.LPS_CFG 5) 0x01000001#32)).put (.LPS_CTL 5) Fld.LPS_CTL_STATE 2,
    by decide +kernel⟩
theorem wit_RailRequests_on : ∃ (i : Iface) (n : Fin 20) (s : State), s.takes (.RAIL_CTL n) = true ∧ s.tp.released =
  true ∧ s.railGroup n = none ∧ s.railRefused n = false ∧ s.railSt n = 0 ∧ s.bit (.SUP_STATUS n) 1 = false :=
  ⟨.core, 3,
    ({ up with tp := { released := true, owners := [{ dom := 1, safe := false, rails := 0xFFFFF, stages := 0, slots := 0, groups := 255, faults := 0 }] } }
    : State).put (.RAIL_VSET 3) Fld.RAIL_VSET_VSET 900, by decide +kernel⟩
theorem wit_RailRequests_on_refused : ∃ (i : Iface) (n : Fin 20) (s : State), s.takes (.RAIL_CTL n) = true ∧
  (s.tp.released = false ∨ (s.railGroup n).isSome = true ∨ s.railRefused n = true) :=
  ⟨.core, 3, up, by decide +kernel⟩
theorem wit_RailRequests_off : ∃ (i : Iface) (n : Fin 20) (s : State), s.takes (.RAIL_CTL n) = true ∧ s.railGroup n =
  none ∧ s.railSt n = 4 ∧ s.fastOff = false ∧ s.sw.regang = none :=
  ⟨.core, 3, (up).put (.RAIL_STATUS 3) Fld.RAIL_STATUS_STATE 4, by decide +kernel⟩
theorem wit_RailRequests_off_grouped : ∃ (i : Iface) (n : Fin 20) (s : State), s.takes (.RAIL_CTL n) = true ∧
  (s.railGroup n).isSome = true :=
  ⟨.core, 3, up.wr (.TTB_STEP 2 0) 0x10030000#32, by decide +kernel⟩
theorem wit_RailRequests_start_gang : ∃ (n : Fin 20) (s : State), s.railSt n = 1 ∧ n.val < 16 ∧ s.startable n ≠ [] :=
  ⟨2, (gang2 up).put (.RAIL_STATUS 2) Fld.RAIL_STATUS_STATE 1, by decide +kernel⟩
theorem wit_RailRequests_start_ldo : ∃ (n : Fin 20) (s : State), s.railSt n = 1 ∧ 16 ≤ n.val ∧ s.sensed n = true :=
  ⟨17, (up).put (.RAIL_STATUS 17) Fld.RAIL_STATUS_STATE 1, by decide +kernel⟩
theorem wit_RailRequests_off_delay : ∃ (n : Fin 20) (s : State), s.railSt n = 5 :=
  ⟨17, (up).put (.RAIL_STATUS 17) Fld.RAIL_STATUS_STATE 5, by decide +kernel⟩
theorem wit_RailRequests_reached : ∃ (r : Ramp) (n : Fin 20) (s : State), s.tt.ramps.lookup n.val = some r :=
  ⟨{ start := 0, target := 900, slope := 1 }, 17,
    ({ up with tt := { ramps := [(17, { start := 0, target := 900, slope := 1 })] } }).put (.RAIL_STATUS 17)
    Fld.RAIL_STATUS_STATE 3, by decide +kernel⟩
theorem wit_RailRequests_discharged : ∃ (n : Fin 20) (s : State), s.railSt n = 7 ∧ s.fld (.RAIL_STATUS n)
  Fld.RAIL_STATUS_PEND = 0 ∧ s.discharged n = true :=
  ⟨17, (up).put (.RAIL_STATUS 17) Fld.RAIL_STATUS_STATE 7, by decide +kernel⟩
theorem wit_RailRequests_not_discharged : ∃ (n : Fin 20) (s : State), s.railSt n = 7 ∧ s.fld (.RAIL_STATUS n)
  Fld.RAIL_STATUS_PEND = 0 :=
  ⟨17, (up).put (.RAIL_STATUS 17) Fld.RAIL_STATUS_STATE 7, by decide +kernel⟩
theorem wit_RailRequests_no_pg : ∃ (n : Fin 20) (s : State), s.railSt n = 4 ∧ n.val ∉ s.tt.pgSince :=
  ⟨17, (up).put (.RAIL_STATUS 17) Fld.RAIL_STATUS_STATE 4, by decide +kernel⟩
theorem wit_RailRequests_pg : ∃ (n : Fin 20) (s : State), s.railSt n = 4 ∧ s.fld (.RAIL_STATUS n) Fld.RAIL_STATUS_PG =
  0 ∧ s.fld (.SUP_STATUS n) Fld.SUP_STATUS_UV = 0 ∧ s.fld (.SUP_STATUS n) Fld.SUP_STATUS_OV = 0 ∧ n.val ∉ s.tt.pgSince
  :=
  ⟨17, (up).put (.RAIL_STATUS 17) Fld.RAIL_STATUS_STATE 4, by decide +kernel⟩
theorem wit_RailRequests_vset : ∃ (i : Iface) (v : Word) (n : Fin 20) (s : State), s.takes (.RAIL_VSET n) = true :=
  ⟨.core, 900, 17, (up).put (.RAIL_STATUS 17) Fld.RAIL_STATUS_STATE 4, by decide +kernel⟩
theorem wit_Groups_on_delay : ∃ (i : Iface) (g : Fin 8) (s : State), s.takes (.TTB_G_CTL g) = true ∧ s.tp.reload = none
  ∧ s.tp.released = true ∧ s.fld (.TTB_G_STATUS g) Fld.TTB_G_STATUS_CLASSB = 0 ∧ s.tt.bout.inForce = false ∧ s.shipPend
  = false ∧ s.groupSt g = 0 ∧ s.stepOp g 0 = 2 :=
  ⟨.core, 2, up.wr (.TTB_STEP 2 0) 0x20000009#32, by decide +kernel⟩
theorem wit_Groups_on_refused : ∃ (i : Iface) (g : Fin 8) (s : State), s.takes (.TTB_G_CTL g) = true ∧ s.tp.reload =
  none ∧ (s.tp.released = false ∨ s.fld (.TTB_G_STATUS g) Fld.TTB_G_STATUS_CLASSB = 1 ∨ s.tt.bout.inForce = true ∨
  s.shipPend = true) :=
  ⟨.core, 2, { up with tp := {} }, by decide +kernel⟩
theorem wit_Groups_held : ∃ (i : Iface) (b : Bool) (r : Reload) (g : Fin 8) (s : State), s.accepts = true ∧ s.loader =
  false ∧ s.powered .seq = true ∧ s.tp.reload = some r ∧ s.groupDom g = some r.dom ∧ s.tplPhase ≠ 7 ∧ s.tplPhase ≠ 8 ∧
  (b = false ∨ s.tp.released = true ∧ s.shipPend = false ∧ s.tt.bout.inForce = false) :=
  ⟨.core, true, rld, 2, rel rld 4
    { up with tp := { released := true, owners := [{ dom := 1, safe := false, rails := 0, stages := 0, slots := 0, groups := 255, faults := 0 }] } },
    by decide +kernel⟩
theorem wit_Groups_off : ∃ (i : Iface) (g : Fin 8) (s : State), s.takes (.TTB_G_CTL g) = true ∧ s.tp.reload = none ∧
  s.groupSt g = 2 ∧ s.seqLen g ≠ 0 ∧ s.stepOp g (s.seqLen g - 1) = 2 :=
  ⟨.core, 2, (up.wr (.TTB_STEP 2 0) 0x20000009#32).put (.TTB_G_STATUS 2) Fld.TTB_G_STATUS_STATE 2, by decide +kernel⟩
theorem wit_Groups_up : ∃ (g : Fin 8) (s : State), s.groupSt g = 1 ∧ s.holdDone g = true ∧ s.seqLen g ≤ s.fld
  (.TTB_G_STATUS g) Fld.TTB_G_STATUS_STEP + 1 ∧ s.fld (.TTB_G_STATUS g) Fld.TTB_G_STATUS_STEP < 63 :=
  ⟨2, (up.wr (.TTB_STEP 2 0) 0x20000009#32).put (.TTB_G_STATUS 2) Fld.TTB_G_STATUS_STATE 1, by decide +kernel⟩
theorem wit_Groups_down : ∃ (g : Fin 8) (s : State), s.groupSt g = 3 ∧ s.holdDone g = true ∧ s.fld (.TTB_G_STATUS g)
  Fld.TTB_G_STATUS_STEP = 0 :=
  ⟨2, (up.wr (.TTB_STEP 2 0) 0x20000009#32).put (.TTB_G_STATUS 2) Fld.TTB_G_STATUS_STATE 3, by decide +kernel⟩
theorem wit_Groups_step : ∃ (i : Iface) (g : Fin 8) (j : Fin 64) (v : Word) (s : State), s.takes (.TTB_STEP g j) = true
  ∧ s.groupSt g = 0 ∧ stepOk v = true ∧ (s.wr (.TTB_STEP g j) v).seqRules = true :=
  ⟨.core, 2, 5, 0x20000009, up, by decide +kernel⟩
theorem wit_Groups_step_bad : ∃ (i : Iface) (g : Fin 8) (j : Fin 64) (v : Word) (s : State), s.takes (.TTB_STEP g j) =
  true ∧ (s.groupSt g ≠ 0 ∨ stepOk v = false ∨ (s.wr (.TTB_STEP g j) v).seqRules = false) :=
  ⟨.core, 2, 5, 0x30000009, up, by decide +kernel⟩
theorem wit_BrownOut_start : ∃ (s : State), s.tt.bout.inForce = false :=
  ⟨(up).put (.RAIL_STATUS 3) Fld.RAIL_STATUS_STATE 4, by decide +kernel⟩
theorem wit_BrownOut_minoff : ∃ (s : State), s.fld .TTB_BSTAT Fld.TTB_BSTAT_MINOFF = 1 :=
  ⟨({ up with tt := { bout := { inForce := true } } } : State).wr .TTB_BSTAT 6#32, by decide +kernel⟩
theorem wit_BrownOut_qualified : ∃ (s : State), s.tt.bout.inForce = true ∧ s.bit .TTB_BSTAT 0 = false ∧ s.bit
  .TTB_BSTAT 1 = false :=
  ⟨{ up with tt := { bout := { inForce := true } } }, by decide +kernel⟩
theorem wit_BrownOut_limits : ∃ (i : Iface) (v : Word) (s : State), s.takes .TTB_BOUT = true :=
  ⟨.core, 0x10040, up, by decide +kernel⟩
theorem wit_BrownOut_ov : ∃ (n : Fin 20) (s : State), s.fld (.SUP_STATUS n) Fld.SUP_STATUS_OVARM = 1 ∧ s.compOut n true
  = true :=
  ⟨17, up.put (.SUP_STATUS 17) Fld.SUP_STATUS_OVARM 1, by decide +kernel⟩
theorem wit_BrownOut_uv : ∃ (n : Fin 20) (s : State), s.fld (.SUP_STATUS n) Fld.SUP_STATUS_UVARM = 1 ∧ s.compOut (0x20
  + n) true = true :=
  ⟨17, up.put (.SUP_STATUS 17) Fld.SUP_STATUS_UVARM 1, by decide +kernel⟩
theorem wit_BrownOut_unarmed : ∃ (n : Fin 20) (s : State), s.fld (.SUP_STATUS n) Fld.SUP_STATUS_OVARM = 0 ∧ s.compOut n
  true = true :=
  ⟨17, up, by decide +kernel⟩
theorem wit_BrownOut_crossing_ends : ∃ (b : Bool) (n : Fin 20) (s : State), s.compOut (if b then n.val else 0x20 +
  n.val) false = false :=
  ⟨true, 17, up.put (.SUP_STATUS 17) Fld.SUP_STATUS_OV 1, by decide +kernel⟩
theorem wit_BrownOut_release : ∃ (x : Fin 4) (s : State), s.tp.released = true ∧ s.bit .TTB_RSTSTAT (4 + x) = true ∧
  s.fld (.TTB_RST_CFG x) Fld.TTB_RST_CFG_MASK ≠ 0 ∧ (∀ n ∈ List.range 20, (s.fld (.TTB_RST_CFG x)
  Fld.TTB_RST_CFG_MASK).testBit n = true → s.fld (.RAIL_STATUS n) Fld.RAIL_STATUS_PG = 1) :=
  ⟨1, ((up.wr (.TTB_RST_CFG 1) 8#32).wr (.RAIL_STATUS 3) 0x14#32).wr .TTB_RSTSTAT 0x22#32, by decide +kernel⟩
theorem wit_ConverterSurvey_result : ∃ (r : ConvResult) (x : Fin 3) (s : State), s.powered .adc = true ∧ chanUsed x
  r.ch = true :=
  ⟨{ ch := 4, code := 0x1234, claim := .tap, factors := none, encBad := false }, 1, up, by decide +kernel⟩
theorem wit_ConverterSurvey_result_scan : ∃ (r : ConvResult) (x : Fin 3) (s : State), s.powered .adc = true ∧ chanUsed
  x r.ch = true ∧ r.scan = true ∧ (s.conv x).left.head? = some r.ch.val ∧ (s.conv x).scan < 256 ∧ s.fld
  (.SVY_CV_DMA_CFG x) Fld.SVY_CV_DMA_CFG_EN = 0 :=
  ⟨{ ch := 4, code := 0x1234, claim := .scan, factors := none, encBad := false }, 1, up.putConv 1
    { left := [4, 5], scan := 255 }, by decide +kernel⟩
theorem wit_ConverterSurvey_scan : ∃ (x : Fin 3) (s : State), s.powered .adc = true ∧ s.scanIdle x = true ∧ s.cvMode x
  = 1 ∧ s.cvMask x ≠ [] :=
  ⟨1, (up.put (.SVY_CV_CTL 1) Fld.SVY_CV_CTL_MODE 1).wr (.SVY_CV_MASK 1) 0x12#32, by decide +kernel⟩
theorem wit_ConverterSurvey_start : ∃ (i : Iface) (x : Fin 3) (s : State), s.takes (.SVY_CV_CTL x) = true ∧ s.scanIdle
  x = true ∧ s.cvMode x = 2 ∧ s.cvMask x ≠ [] :=
  ⟨.core, 1, (up.put (.SVY_CV_CTL 1) Fld.SVY_CV_CTL_MODE 2).wr (.SVY_CV_MASK 1) 0x12#32, by decide +kernel⟩
theorem wit_ConverterSurvey_data : ∃ (i : Iface) (x : Fin 3) (s : State), s.served = true ∧ s.loader = false ∧
  s.powered .adc = true :=
  ⟨.line, 1, up.wr (.SVY_CV_DATA 1) 0xC4001234#32, by decide +kernel⟩
theorem wit_ConverterSurvey_ring : ∃ (i : Iface) (v : Word) (x : Fin 3) (s : State), s.takes (.SVY_CV_DMA_CFG x) = true
  ∧ wbit v 31 = true ∧ s.ringOk x (getF v Fld.SVY_CV_DMA_CFG_LEN) = true ∧ s.fld (.SVY_CV_DMA_CFG x)
  Fld.SVY_CV_DMA_CFG_EN = 0 :=
  ⟨.core, 0x80000040, 1, up.wr (.SVY_CV_DMA_PTR 1) 0x00050000#32 |>.wr (.SVY_CV_DMA_BASE 1) 0x1000#32,
    by decide +kernel⟩
theorem wit_ConverterSurvey_ring_bad : ∃ (i : Iface) (v : Word) (x : Fin 3) (s : State), s.takes (.SVY_CV_DMA_CFG x) =
  true ∧ wbit v 31 = true ∧ s.ringOk x (getF v Fld.SVY_CV_DMA_CFG_LEN) = false :=
  ⟨.core, 0x80000004, 1, up, by decide +kernel⟩
theorem wit_ConverterSurvey_factor : ∃ (i : Iface) (v : Word) (k : Fin 4) (b : Bool) (r : Reg) (x : Fin 3) (s : State),
  r = (if b then Reg.SVY_CV_SL_SK x k else Reg.SVY_CV_SL_OG x k) ∧ s.takes r = true ∧ s.cvMode x = 0 ∧ s.calibrating x
  = false :=
  ⟨.core, 5, 2, true, Reg.SVY_CV_SL_SK 1 2, 1, up, by decide +kernel⟩
theorem wit_ConverterSurvey_factor_bad : ∃ (i : Iface) (v : Word) (k : Fin 4) (b : Bool) (r : Reg) (x : Fin 3) (s :
  State), r = (if b then Reg.SVY_CV_SL_SK x k else Reg.SVY_CV_SL_OG x k) ∧ s.takes r = true ∧ (s.cvMode x ≠ 0 ∨
  s.calibrating x = true) :=
  ⟨.core, 5, 2, true, Reg.SVY_CV_SL_SK 1 2, 1, up.put (.SVY_CV_CTL 1) Fld.SVY_CV_CTL_MODE 2, by decide +kernel⟩
theorem wit_ConverterSurvey_fire : ∃ (i : Iface) (x : Fin 3) (l : List Nat) (s : State), l = ((List.range 3).filter fun
  y => s.cvMode y == 3 && !s.calibrating y && !(s.cvMask y).isEmpty && (s.conv y).left.isEmpty) ∧ s.takes .SVY_TRIG =
  true ∧ s.fld .SVY_TRIG Fld.SVY_TRIG_SRC = 2 ∧ s.cvMode x = 3 ∧ s.calibrating x = false ∧ s.cvMask x ≠ [] ∧ (s.conv
  x).left = [] :=
  ⟨.core, 1, _, ((up.put (.SVY_CV_CTL 1) Fld.SVY_CV_CTL_MODE 3).wr (.SVY_CV_MASK 1) 0x12#32).put .SVY_TRIG
    Fld.SVY_TRIG_SRC 2, by exact ⟨rfl, by decide +kernel⟩⟩
theorem wit_ConverterSurvey_common : ∃ (x : Fin 3) (l : List Nat) (s : State), l = ((List.range 3).filter fun y =>
  s.cvMode y == 3 && !s.calibrating y && !(s.cvMask y).isEmpty && (s.conv y).left.isEmpty) ∧ s.powered .adc = true ∧
  s.fld .SVY_TRIG Fld.SVY_TRIG_SRC = 1 ∧ s.fld .SVY_TRIG Fld.SVY_TRIG_PERIOD ≠ 0 ∧ s.cvMode x = 3 ∧ s.calibrating x =
  false ∧ s.cvMask x ≠ [] ∧ (s.conv x).left = [] :=
  ⟨1, _, (((up.put (.SVY_CV_CTL 1) Fld.SVY_CV_CTL_MODE 3).wr (.SVY_CV_MASK 1) 0x12#32).put .SVY_TRIG Fld.SVY_TRIG_SRC
    1).put .SVY_TRIG Fld.SVY_TRIG_PERIOD 7, by exact ⟨rfl, by decide +kernel⟩⟩
theorem wit_ConverterSurvey_cal : ∃ (k y : Nat) (l : List Nat) (s : State), s.runningSlot 2 = some k ∧ (s.slot k).op =
  0x81 ∧ s.powered .adc = true ∧ s.sv.cal = none ∧ (([0, 1, 2].filter fun x => (s.slot k).p0.getLsbD x) = y :: l) :=
  ⟨3, 1, [2], cmdAt 0x81 6 0 0 up, by decide +kernel⟩
theorem wit_ConverterSurvey_cal_done : ∃ (c : CalRun) (w : List Word) (x : Fin 3) (s : State), s.sv.cal = some c ∧
  c.todo.head? = some x.val ∧ x.val ∉ c.todo.tail :=
  ⟨{ slot := 3, todo := [1, 2] }, [1, 2, 3, 4, 5, 6, 7, 8], 1,
    { up with sv := { cal := some { slot := 3, todo := [1, 2] } } }, by decide +kernel⟩
theorem wit_ConverterSurvey_cal_end : ∃ (c : CalRun) (k : Nat) (w : List Word) (x : Fin 3) (s : State), s.sv.cal = some
  c ∧ c.todo = [x.val] ∧ c.slot = k :=
  ⟨{ slot := 3, todo := [1] }, 3, [1, 2, 3, 4, 5, 6, 7, 8], 1,
    { cmdAt 0x81 6 0 0 up with sv := { cal := some { slot := 3, todo := [1] } } }, by decide +kernel⟩
theorem wit_BackupPath_loss : ∃ (a b : Bool) (s : State), (s.path = 1 ∨ s.path = 5) ∧ (a || s.compOut 0x80 true) = true
  :=
  ⟨false, true, ((up).put .BKP_STATUS Fld.BKP_STATUS_CHGSTATE 3).put .BKP_STATUS Fld.BKP_STATUS_PATH 1,
    by decide +kernel⟩
theorem wit_BackupPath_complete : ∃ (a : Bool) (s : State), s.path = 2 ∧ s.powered .chg = true :=
  ⟨true, (up).put .BKP_STATUS Fld.BKP_STATUS_PATH 2, by decide +kernel⟩
theorem wit_BackupPath_timeout : ∃ (s : State), s.path = 2 :=
  ⟨(up).put .BKP_STATUS Fld.BKP_STATUS_PATH 2, by decide +kernel⟩
theorem wit_BackupPath_sag : ∃ (s : State), s.path = 3 :=
  ⟨(up).put .BKP_STATUS Fld.BKP_STATUS_PATH 3, by decide +kernel⟩
theorem wit_BackupPath_return : ∃ (s : State), s.path = 3 ∧ s.compOut 0x81 true = true :=
  ⟨(up).put .BKP_STATUS Fld.BKP_STATUS_PATH 3, by decide +kernel⟩
theorem wit_BackupPath_reject : ∃ (s : State), s.path = 4 ∧ s.compOut 0x81 false = false :=
  ⟨(up).put .BKP_STATUS Fld.BKP_STATUS_PATH 4, by decide +kernel⟩
theorem wit_BackupPath_handback_start : ∃ (s : State), s.path = 4 :=
  ⟨(up).put .BKP_STATUS Fld.BKP_STATUS_PATH 4, by decide +kernel⟩
theorem wit_BackupPath_handback : ∃ (s : State), s.path = 5 :=
  ⟨(up).put .BKP_STATUS Fld.BKP_STATUS_PATH 5, by decide +kernel⟩
theorem wit_BackupPath_handback_timeout : ∃ (s : State), s.path = 5 :=
  ⟨(up).put .BKP_STATUS Fld.BKP_STATUS_PATH 5, by decide +kernel⟩
theorem wit_BackupPath_cut : ∃ (s : State), (s.path = 3 ∨ s.path = 4) ∧ s.fld .BKP_BATCFG Fld.BKP_BATCFG_NCELL ≠ 0 ∧
  s.fld .BKP_STATUS Fld.BKP_STATUS_CUT = 0 :=
  ⟨((up).put .BKP_STATUS Fld.BKP_STATUS_PATH 3).put .BKP_BATCFG Fld.BKP_BATCFG_NCELL 13, by decide +kernel⟩
theorem wit_BackupPath_ship : ∃ (i : Iface) (s : State), s.takes .BKP_SHIP = true :=
  ⟨.core, up.put (.RAIL_STATUS 4) Fld.RAIL_STATUS_PEND 1, by decide +kernel⟩
theorem wit_BackupPath_ship_cancel : ∃ (i : Iface) (s : State), s.takes .BKP_SHIP = true :=
  ⟨.core, up.put .BKP_STATUS Fld.BKP_STATUS_SHIPPEND 1, by decide +kernel⟩
theorem wit_BackupPath_depleted : ∃ (s : State), s.fld .BKP_STATUS Fld.BKP_STATUS_CUT = 1 ∧ s.railsDown = true ∧
  (s.path = 3 ∨ s.path = 4) ∧ s.wd.expired = false :=
  ⟨((up).put .BKP_STATUS Fld.BKP_STATUS_PATH 3).put .BKP_STATUS Fld.BKP_STATUS_CUT 1, by decide +kernel⟩
theorem wit_BackupPath_shipped : ∃ (s : State), s.shipPend = true ∧ s.railsDown = true ∧ s.path = 3 ∧ s.wd.expired =
  false :=
  ⟨((up).put .BKP_STATUS Fld.BKP_STATUS_PATH 3).put .BKP_STATUS Fld.BKP_STATUS_SHIPPEND 1, by decide +kernel⟩
theorem wit_BackupPath_ship_wake : ∃ (s : State), s.pw.mode = .ship ∧ s.pins.btnLow = true :=
  ⟨{ up with pw := { mode := .ship, start := none }, pins := { btnLow := true } }, by decide +kernel⟩
theorem wit_BackupPath_source_wake : ∃ (s : State), (s.pw.mode = .ship ∨ s.pw.mode = .depleted) :=
  ⟨{ up with pw := { mode := .depleted, start := none } }, by decide +kernel⟩
theorem wit_BackupPath_long_press : ∃ (s : State), s.fld .BKP_BTN Fld.BKP_BTN_LPEN = 1 ∧ s.pins.pressTimer = true ∧
  s.pw.mode ≠ .ship ∧ s.pw.mode ≠ .depleted ∧ s.path ≠ 6 :=
  ⟨({ up with pins := { btnLow := true, pressTimer := true } } : State).put .BKP_BTN Fld.BKP_BTN_LPEN 1,
    by decide +kernel⟩
theorem wit_BackupPath_open_end : ∃ (s : State), s.path = 6 :=
  ⟨(up).put .BKP_STATUS Fld.BKP_STATUS_PATH 6, by decide +kernel⟩
theorem wit_Charger_check : ∃ (v : Nat) (s : State), s.chargerWorks = true ∧ s.chgSt = 1 :=
  ⟨30000, ((up).put .BKP_STATUS Fld.BKP_STATUS_CHGSTATE 1).put .BKP_BATCFG Fld.BKP_BATCFG_NCELL 13, by decide +kernel⟩
theorem wit_Charger_precharge : ∃ (s : State), s.chargerWorks = true ∧ s.chgSt = 2 :=
  ⟨(up).put .BKP_STATUS Fld.BKP_STATUS_CHGSTATE 2, by decide +kernel⟩
theorem wit_Charger_cv : ∃ (s : State), s.chargerWorks = true ∧ s.chgSt = 3 :=
  ⟨(up).put .BKP_STATUS Fld.BKP_STATUS_CHGSTATE 3, by decide +kernel⟩
theorem wit_Charger_done : ∃ (s : State), s.chargerWorks = true ∧ s.chgSt = 4 ∧ s.fld .BKP_CHG Fld.BKP_CHG_TERM = 1 :=
  ⟨((up).put .BKP_STATUS Fld.BKP_STATUS_CHGSTATE 4).put .BKP_CHG Fld.BKP_CHG_TERM 1, by decide +kernel⟩
theorem wit_Charger_recharge : ∃ (s : State), s.chargerWorks = true ∧ s.chgSt = 5 :=
  ⟨(up).put .BKP_STATUS Fld.BKP_STATUS_CHGSTATE 5, by decide +kernel⟩
theorem wit_Charger_hot : ∃ (s : State), s.chargerWorks = true ∧ 1 ≤ s.chgSt ∧ s.chgSt ≤ 5 :=
  ⟨(up).put .BKP_STATUS Fld.BKP_STATUS_CHGSTATE 3, by decide +kernel⟩
theorem wit_Charger_cool : ∃ (s : State), s.chargerWorks = true ∧ s.chgSt = 6 :=
  ⟨(up).put .BKP_STATUS Fld.BKP_STATUS_CHGSTATE 6, by decide +kernel⟩
theorem wit_Charger_absent : ∃ (s : State), s.chargerWorks = true ∧ s.chgSt ≠ 0 ∧ s.chgSt ≠ 8 :=
  ⟨(up).put .BKP_STATUS Fld.BKP_STATUS_CHGSTATE 3, by decide +kernel⟩
theorem wit_Charger_present : ∃ (s : State), s.chargerWorks = true ∧ s.fld .BKP_STATUS Fld.BKP_STATUS_ABSENT = 1 ∧
  s.chgSt = 8 :=
  ⟨(up.put .BKP_STATUS Fld.BKP_STATUS_ABSENT 1).put .BKP_STATUS Fld.BKP_STATUS_CHGSTATE 8, by decide +kernel⟩
theorem wit_Charger_timer : ∃ (s : State), s.chargerWorks = true ∧ s.charging = true :=
  ⟨(up).put .BKP_STATUS Fld.BKP_STATUS_CHGSTATE 3, by decide +kernel⟩
theorem wit_Charger_over : ∃ (s : State), s.chargerWorks = true ∧ s.charging = true ∧ s.compOut 0x84 true = true :=
  ⟨(up).put .BKP_STATUS Fld.BKP_STATUS_CHGSTATE 3, by decide +kernel⟩
theorem wit_Charger_watchdog : ∃ (s : State), s.fld .BKP_CHG Fld.BKP_CHG_EN = 1 ∧ s.fld .BKP_WDT Fld.BKP_WDT_REMAIN ≠ 0
  :=
  ⟨(up.put .BKP_CHG Fld.BKP_CHG_EN 1).put .BKP_WDT Fld.BKP_WDT_REMAIN 4, by decide +kernel⟩
theorem wit_Charger_kick : ∃ (i : Iface) (v : Word) (s : State), s.takes .BKP_WDT = true ∧ hostIface i = true :=
  ⟨.twoWire, 7, up, by decide +kernel⟩
theorem wit_Charger_batcfg : ∃ (i : Iface) (v : Word) (s : State), s.takes .BKP_BATCFG = true ∧ 2000 ≤ getF v
  Fld.BKP_BATCFG_VCUT ∧ getF v Fld.BKP_BATCFG_VCUT ≤ 3500 ∧ getF v Fld.BKP_BATCFG_CHEM = s.fld .BKP_BATCFG
  Fld.BKP_BATCFG_CHEM ∧ (s.writeRw .BKP_BATCFG v).chgLegal = true :=
  ⟨.core, 0x000A0A00, up.put .BKP_CHG Fld.BKP_CHG_ICHG 100, by decide +kernel⟩
theorem wit_Charger_batcfg_bad : ∃ (i : Iface) (v : Word) (s : State), s.takes .BKP_BATCFG = true ∧ 2000 ≤ getF v
  Fld.BKP_BATCFG_VCUT ∧ getF v Fld.BKP_BATCFG_VCUT ≤ 3500 ∧ getF v Fld.BKP_BATCFG_CHEM = s.fld .BKP_BATCFG
  Fld.BKP_BATCFG_CHEM ∧ (s.writeRw .BKP_BATCFG v).chgLegal = false :=
  ⟨.core, 0x001F0A00, up.put .BKP_CHG Fld.BKP_CHG_ICHG 100, by decide +kernel⟩
theorem wit_Charger_settings : ∃ (i : Iface) (v : Word) (s : State), s.takes .BKP_CHG = true ∧ (s.writeRw .BKP_CHG
  v).chgLegal = true :=
  ⟨.line, 0x80FA0064, up.put .BKP_STATUS Fld.BKP_STATUS_WDEXP 1, by decide +kernel⟩
theorem wit_Charger_settings_bad : ∃ (i : Iface) (v : Word) (s : State), s.takes .BKP_CHG = true ∧ (s.writeRw .BKP_CHG
  v).chgLegal = false :=
  ⟨.line, 0x80FA0004, up, by decide +kernel⟩
theorem wit_Charger_thresholds : ∃ (i : Iface) (v : Word) (s : State), s.takes .BKP_PATH = true :=
  ⟨.line, 0x00200010, up, by decide +kernel⟩
theorem wit_Charger_qualify : ∃ (i : Iface) (v : Word) (s : State), s.takes .BKP_QUAL = true :=
  ⟨.line, 0x01000020, up, by decide +kernel⟩
theorem wit_Charger_flags : ∃ (b : Nat) (i : Iface) (v : Word) (s : State), s.takes .BKP_FLAG = true ∧ b < 10 ∧ wbit v
  b = true :=
  ⟨3, .line, 0x8, up.wr .BKP_FLAG 0xFF#32, by decide +kernel⟩
theorem wit_Charger_fault_left : ∃ (i : Iface) (v : Word) (s : State), s.takes .BKP_FLAG = true ∧ s.chgSt = 7 ∧ wbit v
  2 = true ∧ wbit v 3 = true ∧ s.latched 231 = false ∧ s.latched 232 = false :=
  ⟨.line, 0xC, ((up).put .BKP_STATUS Fld.BKP_STATUS_CHGSTATE 7).wr .BKP_FLAG 0xFF#32, by decide +kernel⟩
theorem wit_Gauge_tick : ∃ (g : GaugeSample) (s : State), s.powered .adc = true ∧ s.powered .chg = true ∧ s.fld
  .BKP_BATCFG Fld.BKP_BATCFG_NCELL ≠ 0 ∧ (s.gauSt = 1 ∨ s.gauSt = 2) :=
  ⟨{ bat := 50000, bth := 7, shunt := -900 }, (up.put .GAU_STATUS Fld.GAU_STATUS_STATE 1).put .BKP_BATCFG
    Fld.BKP_BATCFG_NCELL 13, by decide +kernel⟩
theorem wit_Gauge_tick_frozen : ∃ (g : GaugeSample) (s : State), s.powered .adc = true ∧ s.powered .chg = true ∧
  (s.gauSt = 0 ∨ s.gauSt = 3 ∨ s.fld .BKP_BATCFG Fld.BKP_BATCFG_NCELL = 0) :=
  ⟨{ bat := 50000, bth := 7, shunt := -900 }, up.put .GAU_STATUS Fld.GAU_STATUS_STATE 3, by decide +kernel⟩
theorem wit_Gauge_stale : ∃ (s : State), max 1 (s.fld .GAU_CFG Fld.GAU_CFG_STALE) * 86400 ≤ (s.rd .GAU_AGE).toNat ∧
  s.fld .GAU_STATUS Fld.GAU_STATUS_ANCHOR_STALE = 0 :=
  ⟨up.wr .GAU_AGE 0x0FFFFFFF#32, by decide +kernel⟩
theorem wit_Gauge_hourly : ∃ (s : State), (s.gauSt = 1 ∨ s.gauSt = 2) ∧ s.ld.logBuf.length < 31 ∧ s.bit .LDG_STATUS 10
  = false :=
  ⟨up.put .GAU_STATUS Fld.GAU_STATUS_STATE 2, by decide +kernel⟩
theorem wit_Gauge_config : ∃ (b : Bool) (r : Reg) (i : Iface) (v : Word) (s : State), r = (if b then Reg.GAU_CFG else
  Reg.GAU_DESIGN) ∧ s.takes r = true :=
  ⟨false, .GAU_DESIGN, .core, 0x00100FA0, up, by decide +kernel⟩
theorem wit_Gauge_acc_read : ∃ (i : Iface) (s : State), s.served = true ∧ s.loader = false ∧ s.powered .chg = true :=
  ⟨.line, up.wr .GAU_ACC_HI 7#32, by decide +kernel⟩
theorem wit_Policy_unpark : ∃ (l : List StageMeas) (n m : Nat) (s u : State), u = s.measure l ∧ s.policyWorks = true ∧
  n < 16 ∧ s.bit .POL_LOCK 0 = false ∧ s.bit (.POL_R_PHASE n) 19 = true ∧ s.polSuspended n = false ∧ s.gangMoving n =
  false ∧ u.phaseHigh n = true ∧ 1 ≤ s.po.phHigh.get n 0 ∧ u.coolest ((u.unparkable n).filter fun m => decide (u.temp m
  < u.tmax n)) = some m :=
  ⟨[{ stage := 4, iavg := 10000 }], 2, 5, (({ (gang2 up) with po := { phHigh := [(2, 1)] } } : State).put (.STG_STATE
    5) Fld.STG_STATE_STATE 6).putBit (.POL_R_PHASE 2) 19 true, _, by exact ⟨rfl, by decide +kernel⟩⟩
theorem wit_Policy_park : ∃ (l : List StageMeas) (n m : Nat) (s u : State), u = s.measure l ∧ s.policyWorks = true ∧ n
  < 16 ∧ s.bit .POL_LOCK 0 = false ∧ s.bit (.POL_R_PHASE n) 19 = true ∧ s.polSuspended n = false ∧ s.gangMoving n =
  false ∧ u.phaseHigh n = false ∧ u.phaseLow n = true ∧ 10 ≤ s.po.phLow.get n 0 ∧ (∀ x ∈ s.gang n, s.fld (.STG_STATE x)
  Fld.STG_STATE_VLIMACT = 0) ∧ u.hottest ((u.gang n).filter u.parkable) = some m ∧ u.derateWants n m = false ∧ s.fld
  (.POL_R_PHASE n) Fld.POL_R_PHASE_MINPH ≤ ((u.rotating n).filter (· != m)).length ∧ u.rotCurrent n < 8 * sumR
  (((u.rotating n).filter (· != m)).map u.effVlim) / 10 :=
  ⟨[], 2, 5, ((({ (gang2 up) with po := { phLow := [(2, 10)] } } : State).put (.STG_CFG 4) Fld.STG_CFG_PARKOK 1).put
    (.STG_CFG 5) Fld.STG_CFG_PARKOK 1).putBit (.POL_R_PHASE 2) 19 true, _, by exact ⟨rfl, by decide +kernel⟩⟩
theorem wit_Policy_locked : ∃ (l : List StageMeas) (n m : Nat) (s : State), s.policyWorks = true ∧ s.bit .POL_LOCK 0 =
  true ∧ s.po.lockSeen = false ∧ n < 16 ∧ s.railSt n = 4 ∧ s.polSuspended n = false ∧ s.gangMoving n = false ∧
  (s.unparkable n).head? = some m :=
  ⟨[], 2, 5, ((((gang2 up).put (.STG_STATE 5) Fld.STG_STATE_STATE 6).wr .POL_LOCK 1#32).put (.POL_R_DER 2)
    Fld.POL_R_DER_TMAX 90), by decide +kernel⟩
theorem wit_Policy_derate : ∃ (l : List StageMeas) (n m : Nat) (s : State), s.policyWorks = true ∧ s.bit .POL_LOCK 3 =
  false ∧ n < 16 ∧ s.bit (.POL_R_DER n) 31 = true ∧ s.polSuspended n = false ∧ (s.measure l).hottest ((s.measure
  l).inRotation n) = some m :=
  ⟨[{ stage := 5, iavg := 100 }], 2, 5, (gang2 up).wr (.POL_R_DER 2) 0x80505A14#32, by decide +kernel⟩
theorem wit_Policy_otpark : ∃ (m : Fin 24) (s : State), s.stgRail m < 16 ∧ s.policyWorks = true ∧ s.bit (.POL_R_DER
  (s.stgRail m)) 31 = true ∧ s.bit .POL_LOCK 3 = false ∧ s.polSuspended (s.stgRail m) = false ∧ s.gangMoving (s.stgRail
  m) = false ∧ m.val ∈ s.inRotation (s.stgRail m) ∧ s.tmax (s.stgRail m) ≤ s.temp m :=
  ⟨5, (gang2 up).wr (.POL_R_DER 2) 0x80505A14#32 |>.put (.STG_MEAS 5) Fld.STG_MEAS_TEMP 2000, by decide +kernel⟩
theorem wit_Policy_ffwd : ∃ (f : FfwdIn) (s : State), s.policyWorks = true ∧ s.bit .POL_LOCK 2 = false ∧ s.bit
  (.POL_R_CFG f.rail) 31 = true ∧ s.polSuspended f.rail = false ∧ s.bit (.POL_R_STATE f.rail) 8 = false ∧ 10 * s.fld
  (.POL_R_CFG f.rail) Fld.POL_R_CFG_FFRIP < f.ripple ∧ 9 ≤ s.po.ffAbove.get f.rail 0 ∧ f.waited = true :=
  ⟨{ rail := 2, ripple := 60, waited := true }, ({ (gang2 up) with po := { ffAbove := [(2, 9)] } } : State).wr
    (.POL_R_CFG 2) 0x80000500#32, by decide +kernel⟩
theorem wit_Policy_ffwd_count : ∃ (f : FfwdIn) (s : State), s.policyWorks = true ∧ s.bit .POL_LOCK 2 = false ∧ s.bit
  (.POL_R_CFG f.rail) 31 = true ∧ s.polSuspended f.rail = false ∧ s.bit (.POL_R_STATE f.rail) 8 = true ∧ 2 * f.ripple <
  10 * s.fld (.POL_R_CFG f.rail) Fld.POL_R_CFG_FFRIP :=
  ⟨{ rail := 2, ripple := 6, waited := false }, (({ (gang2 up) with po := { ffBelow := [(2, 99)] } } : State).wr
    (.POL_R_CFG 2) 0x80000500#32).putBit (.POL_R_STATE 2) 8 true, by decide +kernel⟩
theorem wit_Policy_lock : ∃ (i : Iface) (v : Word) (s : State), s.takes .POL_LOCK = true :=
  ⟨.core, 0x1D, up, by decide +kernel⟩
theorem wit_Policy_limit_phase : ∃ (i : Iface) (v : Word) (n : Fin 20) (s : State), s.takes (.POL_R_PHASE n) = true :=
  ⟨.core, 0x0808283C#32, 2, up, by decide +kernel⟩
theorem wit_Policy_limit_der : ∃ (i : Iface) (v : Word) (n : Fin 20) (s : State), s.takes (.POL_R_DER n) = true :=
  ⟨.core, 0x80505A14#32, 2, up, by decide +kernel⟩
theorem wit_RideThrough_predict : ∃ (r : RideIn) (s : State), s.bit .POL_STATUS 0 = true ∧ s.policyWorks = true ∧ s.fld
  .GAU_SOC Fld.GAU_SOC_VALID ≠ 0 ∧ r.ibat < 0 ∧ s.ga.err ≤ s.ga.acc :=
  ⟨{ ibat := -5, time := 10 }, ((({ (gang2 up) with ga := { acc := 100000 } } : State).wr .POL_STATUS 1#32).wr
    .POL_RIDE 0x0A0000C8#32).put .GAU_SOC Fld.GAU_SOC_VALID 1, by decide +kernel⟩
theorem wit_RideThrough_shed : ∃ (r : RideIn) (n : Nat) (s : State), s.bit .POL_STATUS 0 = true ∧ s.policyWorks = true
  ∧ s.fld .GAU_SOC Fld.GAU_SOC_VALID ≠ 0 ∧ r.ibat < 0 ∧ (s.ga.acc : Rat) ≤ s.ga.err ∧ r.time < (s.fld .POL_RIDE
  Fld.POL_RIDE_THOLD : Rat) ∧ s.po.wait = none ∧ s.po.rideOver = false ∧ s.bit .POL_LOCK 4 = false ∧ s.shedNext = some
  n :=
  ⟨{ ibat := -5, time := 10 }, 2,
    ({ (((({ (gang2 up) with ga := { acc := 100000 } } : State).wr .POL_STATUS 1#32).wr .POL_RIDE 0x0A0000C8#32).put .GAU_SOC Fld.GAU_SOC_VALID 1) with ga := { acc := -4 } }
    : State).put (.POL_R_CFG 2) Fld.POL_R_CFG_PRIO 3, by decide +kernel⟩
theorem wit_RideThrough_unknown : ∃ (r : RideIn) (s : State), s.bit .POL_STATUS 0 = true ∧ s.policyWorks = true ∧ s.fld
  .GAU_SOC Fld.GAU_SOC_VALID = 0 :=
  ⟨{ ibat := -5, time := 10 }, up.wr .POL_STATUS 1#32, by decide +kernel⟩
theorem wit_RideThrough_over : ∃ (s : State), s.bit .POL_STATUS 0 = true ∧ s.fld .BKP_STATUS Fld.BKP_STATUS_PATH = 1 ∧
  (s.po.shed = [] ∨ s.bit .POL_LOCK 4 = true) :=
  ⟨(up.wr .POL_STATUS 1#32).put .BKP_STATUS Fld.BKP_STATUS_PATH 1, by decide +kernel⟩
theorem wit_RideThrough_restore : ∃ (n : Nat) (l : List Nat) (s : State), s.policyWorks = true ∧ s.bit .POL_STATUS 1 =
  true ∧ s.bit .POL_LOCK 4 = false ∧ s.restoreDone = true ∧ s.po.shed = n :: l ∧ s.railSt n ≠ 4 ∧ s.rideDeferred n =
  false :=
  ⟨17, [2], ({ up with po := { shed := [17, 2] } } : State).wr .POL_STATUS 2#32, by decide +kernel⟩
theorem wit_Faults_raise : ∃ (f : Fin 256) (cause : Fin 16) (s : State), s.dark = false ∧ s.causeOut f true = true ∧
  (f.val ≠ 233 ∨ cause.val ≠ 0) :=
  ⟨252, 3, up, by decide +kernel⟩
theorem wit_Faults_first : ∃ (f : Fin 256) (cause : Fin 16) (s : State), s.dark = false ∧ s.causeOut f true = true ∧
  (f.val ≠ 233 ∨ cause.val ≠ 0) ∧ s.latched f = false ∧ s.fld (.FLT_CFG f) Fld.FLT_CFG_CLASS ≠ 0 ∧ s.bit .FLT_FIRST 31
  = false :=
  ⟨252, 3, up.put (.FLT_CFG 252) Fld.FLT_CFG_CLASS 1, by decide +kernel⟩
theorem wit_Faults_fetch : ∃ (s : State), s.dark = false :=
  ⟨up, by decide +kernel⟩
theorem wit_Faults_gone : ∃ (f : Fin 256) (s : State), s.bit (.FLT_CFG f) 28 = true ∧ s.causeOut f false = false ∧
  s.causeStands f = false :=
  ⟨60, (up.wr (.FLT_CFG 60) 0x10000000#32).live 60 true, by decide +kernel⟩
theorem wit_Faults_clear : ∃ (i : Iface) (w : Fin 8) (b : Fin 32) (s : State), s.takes (.FLT_STAT w) = true :=
  ⟨.core, 7, 28, up.raise 252 1, by decide +kernel⟩
theorem wit_Faults_config : ∃ (i : Iface) (f : Fin 256) (v : Word) (s : State), s.takes (.FLT_CFG f) = true ∧ getF v
  Fld.FLT_CFG_CLASS ≠ 3 :=
  ⟨.core, 252, 0x00000021#32, up, by decide +kernel⟩
theorem wit_Faults_targets : ∃ (i : Iface) (f : Fin 256) (v : Word) (s : State), s.takes (.FLT_TGT f) = true :=
  ⟨.core, 252, 0x00000021#32, up, by decide +kernel⟩
theorem wit_Faults_counts : ∃ (i : Iface) (v : Word) (s : State), s.takes .FLT_CTL = true :=
  ⟨.core, 0x80009600#32, up.raise 252 1, by decide +kernel⟩
theorem wit_Faults_host : ∃ (i : Iface) (v : Word) (s : State), s.takes .FLT_HOST = true :=
  ⟨.core, 5, up, by decide +kernel⟩
theorem wit_Injection_force : ∃ (i : Iface) (v : Word) (s : State), s.takes .FLT_FORCE = true :=
  ⟨.core, 0x80000005#32, { (up.wr .OTP_STATUS 1#32) with pins := { testEn := true } }, by decide +kernel⟩
theorem wit_Injection_key1 : ∃ (i : Iface) (v : Word) (s : State), s.takes .FLT_INJ = true ∧ wbit v 31 = false ∧ getF v
  Fld.FLT_INJ_KEY = 0x3C :=
  ⟨.core, 0x3C0000#32, up, by decide +kernel⟩
theorem wit_Injection_key2 : ∃ (i : Iface) (v : Word) (s : State), s.takes .FLT_INJ = true ∧ wbit v 31 = false ∧ getF v
  Fld.FLT_INJ_KEY = 0xC3 ∧ s.keyFresh = true :=
  ⟨.core, 0xC30000#32, { up with fl := { key1 := some 0 } }, by decide +kernel⟩
theorem wit_Injection_go : ∃ (i : Iface) (v : Word) (s : State), s.takes .FLT_INJ = true ∧ wbit v 31 = true ∧ (getF v
  Fld.FLT_INJ_CHK ≠ 2 ∨ s.powered .link = true) :=
  ⟨.core, 0x80000001#32, (up.wr .OTP_STATUS 1#32).wr .FLT_INJSTAT 0x100#32, by decide +kernel⟩
theorem wit_Injection_result : ∃ (d : Bool) (c u : Nat) (dry : Bool) (s : State), s.fl.injection = some (c, u, dry) :=
  ⟨true, 2, 1, true, { up with fl := { injection := some (2, 1, true) } }, by decide +kernel⟩
theorem wit_EventSources_message : ∃ (f : Fin 256) (b : Bool) (info code : Nat) (s : State), evtNamed f = true ∧ s.dark
  = false ∧ evtIsMessage f = true :=
  ⟨1, true, 5, 6, up, by decide +kernel⟩
theorem wit_EventSources_edge : ∃ (f : Fin 256) (b : Bool) (info code : Nat) (s : State), evtNamed f = true ∧ s.dark =
  false ∧ evtIsMessage f = false ∧ s.frozen = false ∧ (s.src f).queued = none ∧ ((s.sense f = 3 ∨ (s.sense f = 1 ∧ b =
  true) ∨ (s.sense f = 2 ∧ b = false))) :=
  ⟨112, true, 5, 6, up.put (.EVT_CFG 112) Fld.EVT_CFG_SENSE 1, by decide +kernel⟩
theorem wit_EventSources_frozen : ∃ (f : Fin 256) (info code : Nat) (s : State), evtNamed f = true ∧ s.dark = false ∧
  evtIsMessage f = false ∧ s.frozen = true ∧ s.sense f = 1 :=
  ⟨112, 5, 6, (up.put (.EVT_CFG 112) Fld.EVT_CFG_SENSE 1).wr .EVT_CTL 0x80000000#32, by decide +kernel⟩
theorem wit_EventSources_pend : ∃ (i : Iface) (w : Fin 8) (v : Word) (s : State), s.takes (.EVT_PEND w) = true ∧ (∀ b ∈
  List.range 32, evtIsMessage (32 * w + b) = false ∧ (s.src (32 * w + b)).queued = none) :=
  ⟨.core, 7, 0x00FF0001, up.wr (.EVT_PEND 7) 3#32, by decide +kernel⟩
theorem wit_EventSources_freeze : ∃ (i : Iface) (v : Word) (s : State), s.takes .EVT_CTL = true ∧ wbit v 31 = true :=
  ⟨.core, 0x80000000#32, up, by decide +kernel⟩
theorem wit_EventSources_thaw : ∃ (i : Iface) (v : Word) (s : State), s.takes .EVT_CTL = true ∧ wbit v 31 = false ∧
  s.frozen = true :=
  ⟨.core, 0, ({ up with ev := { srcs := [(112, { held := 3 })] } } : State).wr .EVT_CTL 0x80000000#32,
    by decide +kernel⟩
theorem wit_EventSources_expiry : ∃ (s : State), s.frozen = true :=
  ⟨up.wr .EVT_CTL 0x80000000#32, by decide +kernel⟩
theorem wit_EventQueues_write_message : ∃ (q : Fin 3) (m : EvMsg) (s u : State), u = s.metNow ∧ u.powered .core = true
  ∧ u.memOk ∧ u.ev.gaps.find? (fun g => g.queue == q.val) = none ∧ u.nextMsg q = some m ∧ u.qFull q = false :=
  ⟨0, { src := 1, info := 7, code := 2, stamp := {} },
    (({ up with ev := { msgs := [{ src := 1, info := 7, code := 2, stamp := {} }] } } : State).wr (.EVT_QSIZE 0)
    16#32).wr (.EVT_EN 0) 2#32, _, by exact ⟨rfl, by decide +kernel⟩⟩
theorem wit_EventQueues_write_full : ∃ (q : Fin 3) (m : EvMsg) (s u : State), u = s.metNow ∧ u.powered .core = true ∧
  u.ev.gaps.find? (fun g => g.queue == q.val) = none ∧ u.nextMsg q = some m ∧ u.qFull q = true :=
  ⟨0, { src := 1, info := 7, code := 2, stamp := {} },
    ((({ up with ev := { msgs := [{ src := 1, info := 7, code := 2, stamp := {} }] } } : State).wr (.EVT_QSIZE 0)
    16#32).wr (.EVT_EN 0) 2#32).put (.EVT_QPTR 0) Fld.EVT_QPTR_WPTR 15, _, by exact ⟨rfl, by decide +kernel⟩⟩
theorem wit_EventQueues_completion : ∃ (q : Fin 3) (m : EvMsg) (s u : State), u = s.metNow ∧ u.powered .core = true ∧
  u.ev.gaps.find? (fun g => g.queue == q.val) = none ∧ u.nextMsg q = some m ∧ 3 ≤ m.src ∧ m.src ≤ 6 ∧ m.sw = false ∧
  (u.slot (m.info % 64)).st = .ended ∧ (u.slot (m.info % 64)).gen = m.info / 64 :=
  ⟨0, { src := 3, info := 451, code := 0, stamp := {} },
    { (up.wr (.EVT_QSIZE 0) 16#32) with ev := { msgs := [{ src := 3, info := 451, code := 0, stamp := {} }] }, cm := { slots := [(3, { gen := 7, st := .ended })] } },
    _, by exact ⟨rfl, by decide +kernel⟩⟩
theorem wit_EventQueues_write_signal : ∃ (q : Fin 3) (f : Nat) (s u : State), u = s.metNow ∧ u.powered .core = true ∧
  u.memOk ∧ u.ev.gaps.find? (fun g => g.queue == q.val) = none ∧ u.nextMsg q = none ∧ f ∈ u.eligible q ∧ (∀ b ∈
  u.eligible q, f = b ∨ u.before f b = true) ∧ u.qFull q = false :=
  ⟨0, 112, ((((({ (up) with ev := { srcs := [(112, { waiting := 2 })] } } : State).wr (.EVT_QSIZE 0) 16#32)).put
    (.EVT_CFG 112) Fld.EVT_CFG_PRIO 3).putBit (.EVT_EN 3) 16 true).putBit (.EVT_PEND 3) 16 true, _, by exact ⟨rfl,
    by decide +kernel⟩⟩
theorem wit_EventQueues_write_gap : ∃ (q : Fin 3) (g : Gap) (s u : State), u = s.metNow ∧ u.powered .core = true ∧
  u.memOk ∧ u.ev.gaps.find? (fun g => g.queue == q.val) = some g ∧ u.qFull q = false :=
  ⟨0, { stream := 1, index := 2, count := 3, queue := 0 },
    ({ up with ev := { gaps := [{ stream := 1, index := 2, count := 3, queue := 0 }] } } : State).wr (.EVT_QSIZE 0)
    16#32, _, by exact ⟨rfl, by decide +kernel⟩⟩
theorem wit_EventQueues_take : ∃ (i : Iface) (q : Fin 3) (s : State), s.takes (.EVT_QTAKE q) = true ∧ qServes i q =
  true ∧ s.qEmpty q = false ∧ (s.stack q).length < 8 ∧ s.takeBad q = [] ∧ keysIn s.me.soft (s.recAddr q (s.qRead q)) 16
  = [] ∧ keysIn s.me.votes (s.recAddr q (s.qRead q)) 16 = [] :=
  ⟨.line, 0, (up.wr (.EVT_QSIZE 0) 16#32).put (.EVT_QPTR 0) Fld.EVT_QPTR_WPTR 1, by decide +kernel⟩
theorem wit_EventQueues_take_none : ∃ (i : Iface) (q : Fin 3) (s : State), s.takes (.EVT_QTAKE q) = true ∧ qServes i q
  = true ∧ (s.qEmpty q = true ∨ 8 ≤ (s.stack q).length) :=
  ⟨.line, 0, up.wr (.EVT_QSIZE 0) 16#32, by decide +kernel⟩
theorem wit_EventQueues_foreign : ∃ (i : Iface) (q : Fin 3) (s : State), s.takes (.EVT_QTAKE q) = true ∧ s.takes
  (.EVT_QEOI q) = true ∧ q ≠ 0 ∧ i ≠ .core :=
  ⟨.line, 1, up, by decide +kernel⟩
theorem wit_EventQueues_eoi : ∃ (i : Iface) (q : Fin 3) (p f : Nat) (l : List (Nat × Nat)) (s : State), s.takes
  (.EVT_QEOI q) = true ∧ qServes i q = true ∧ s.stack q = (p, f) :: l :=
  ⟨.line, 0, 3, 112, [], { up with ev := { prios := [(0, [(3, 112)])] } }, by decide +kernel⟩
theorem wit_EventQueues_eoi_empty : ∃ (i : Iface) (q : Fin 3) (s : State), s.takes (.EVT_QEOI q) = true ∧ qServes i q =
  true ∧ s.stack q = [] :=
  ⟨.line, 0, up, by decide +kernel⟩
theorem wit_EventQueues_configure : ∃ (i : Iface) (b : Bool) (q : Fin 3) (r : Reg) (v : Word) (s : State), r = (if b
  then Reg.EVT_QSIZE q else Reg.EVT_QBASE q) ∧ s.takes r = true ∧ s.qEmpty q = true ∧ s.stack q = [] ∧ (s.writeRw r
  v).queueOk q ((s.writeRw r v).recAddr q 0) ((s.writeRw r v).qSize q) = true :=
  ⟨.core, true, 0, .EVT_QSIZE 0, 32, ((((up.wr (.EVT_QSIZE 0) 16#32).wr (.EVT_QSIZE 1) 16#32).wr (.EVT_QSIZE 2)
    32#32).wr (.EVT_QBASE 1) 0x400#32).wr (.EVT_QBASE 2) 0x800#32, by decide +kernel⟩
theorem wit_EventQueues_configure_bad : ∃ (i : Iface) (b : Bool) (q : Fin 3) (r : Reg) (v : Word) (s : State), r = (if
  b then Reg.EVT_QSIZE q else Reg.EVT_QBASE q) ∧ s.takes r = true ∧ (s.qEmpty q = false ∨ s.stack q ≠ [] ∨ (s.writeRw r
  v).queueOk q ((s.writeRw r v).recAddr q 0) ((s.writeRw r v).qSize q) = false) :=
  ⟨.core, true, 0, .EVT_QSIZE 0, 33, ((((up.wr (.EVT_QSIZE 0) 16#32).wr (.EVT_QSIZE 1) 16#32).wr (.EVT_QSIZE 2)
    32#32).wr (.EVT_QBASE 1) 0x400#32).wr (.EVT_QBASE 2) 0x800#32, by decide +kernel⟩
theorem wit_MailboxIssue_accept : ∃ (i : Iface) (c : Instr) (op k : Nat) (s : State), (c, op) ∈ ([(.nopConfig (.issue
  i), 0x00), (.tplVerify (.issue i), 0x01), (.tplLoadAll (.issue i), 0x02), (.tplLoadDomain (.issue i), 0x03),
  (.swyRegang (.issue i), 0x10), (.nopLedger (.issue i), 0x40), (.tplStore (.issue i), 0x41), (.ldgFwWrite (.issue i),
  0x42), (.ldgFwSeal (.issue i), 0x43), (.ldgFwActivate (.issue i), 0x44), (.ldgUserWrite (.issue i), 0x45),
  (.ldgRetire (.issue i), 0x46), (.nopCalibration (.issue i), 0x80), (.surveyCal (.issue i), 0x81), (.nopFabric (.issue
  i), 0xC0), (.lineSurvey (.issue i), 0xC1), (.summitMark (.issue i), 0xC2), (.flwOpen (.issue i), 0xC3), (.flwClose
  (.issue i), 0xC4)] : List (Instr × Nat)) ∧ s.admits i op k = true :=
  ⟨.core, .tplVerify (.issue .core), 1, 0, up, by decide +kernel⟩
theorem wit_MailboxIssue_unknown : ∃ (i : Iface) (op : BitVec 8) (s : State), s.takes .CMD_ISSUE = true ∧ s.loader =
  false ∧ opKnown op.toNat = false :=
  ⟨.twoWire, 0x3F, up, by decide +kernel⟩
theorem wit_MailboxIssue_no_rights : ∃ (i : Iface) (op : BitVec 8) (s : State), s.takes .CMD_ISSUE = true ∧ s.loader =
  false ∧ opKnown op.toNat = true ∧ s.mayIssue i op.toNat = false :=
  ⟨.line, 1, up, by decide +kernel⟩
theorem wit_MailboxIssue_full : ∃ (i : Iface) (op : BitVec 8) (s : State), s.takes .CMD_ISSUE = true ∧ s.loader = false
  ∧ opKnown op.toNat = true ∧ s.mayIssue i op.toNat = true ∧ s.outstanding = 32 :=
  ⟨.core, 1, { up with cm := { slots := (List.range 32).map fun k => (k, { st := .waiting }) } }, by decide +kernel⟩
theorem wit_MailboxStart_start : ∃ (l : Fin 4) (k : Nat) (s : State), (s.pw.mc = .firmware ∨ s.pw.mc = .loader) ∧
  s.runningSlot l = none ∧ s.cm.waiting.find? (fun k => opLane (s.slot k).op == l.val) = some k ∧ (s.slot k).cancelled
  = false ∧ opNop (s.slot k).op = false :=
  ⟨0, 5, { up with cm := { slots := [(5, { st := .waiting, op := 3 })], waiting := [5] } }, by decide +kernel⟩
theorem wit_MailboxStart_nop : ∃ (l : Fin 4) (k : Nat) (s : State), (s.pw.mc = .firmware ∨ s.pw.mc = .loader) ∧
  s.runningSlot l = none ∧ s.cm.waiting.find? (fun k => opLane (s.slot k).op == l.val) = some k ∧ (s.slot k).cancelled
  = false ∧ opNop (s.slot k).op = true :=
  ⟨1, 5, { up with cm := { slots := [(5, { st := .waiting, op := 0x40, gen := 9 })], waiting := [5] } },
    by decide +kernel⟩
theorem wit_MailboxStart_cancel_waiting : ∃ (i : Iface) (v : Word) (s : State), s.takes .CMD_CANCEL = true ∧ s.stale
  (getF v Fld.CMD_CANCEL_HANDLE) = false ∧ (s.slot (getF v Fld.CMD_CANCEL_HANDLE % 64)).st = .waiting :=
  ⟨.core, 0x45, { up with cm := { slots := [(5, { gen := 1, st := .waiting, op := 3 })], waiting := [5] } },
    by decide +kernel⟩
theorem wit_MailboxStart_cancel_stale : ∃ (i : Iface) (v : Word) (s : State), s.takes .CMD_CANCEL = true ∧ s.stale
  (getF v Fld.CMD_CANCEL_HANDLE) = true :=
  ⟨.core, 0x85, up, by decide +kernel⟩
theorem wit_MailboxStart_cancelled_start : ∃ (l : Fin 4) (k : Nat) (s : State), (s.pw.mc = .firmware ∨ s.pw.mc =
  .loader) ∧ s.runningSlot l = none ∧ s.cm.waiting.find? (fun k => opLane (s.slot k).op == l.val) = some k ∧ (s.slot
  k).cancelled = true :=
  ⟨1, 5,
    { up with cm := { slots := [(5, { st := .waiting, op := 0x41, gen := 9, cancelled := true })], waiting := [5] } },
    by decide +kernel⟩
theorem wit_MailboxStart_query : ∃ (i : Iface) (v : Word) (s : State), s.takes .CMD_QUERY = true :=
  ⟨.line, 0x70085, up, by decide +kernel⟩
theorem wit_MemoryProtection_scrub_clean : ∃ (s : State), s.bit .MEM_CFG 31 = true ∧ s.powered .core = true ∧ s.me.met
  = [] ∧ s.sramBad (4 * s.me.scrub) = none ∧ s.me.soft.lookup (4 * s.me.scrub) = none ∧ s.me.votes.lookup (4 *
  s.me.scrub) = none :=
  ⟨(up.wr .MEM_CFG 0x80000000#32), by decide +kernel⟩
theorem wit_MemoryProtection_scrub_correct : ∃ (syn : BitVec 7) (s : State), s.bit .MEM_CFG 31 = true ∧ s.powered .core
  = true ∧ s.me.met = [] ∧ s.me.scrub < 65536 ∧ s.sramBad (4 * s.me.scrub) = none ∧ s.me.soft.lookup (4 * s.me.scrub) =
  some syn ∧ s.me.votes.lookup (4 * s.me.scrub) = none :=
  ⟨5, { (up.wr .MEM_CFG 0x80000000#32) with me := { valid := [0], soft := [(0, 5)] } }, by decide +kernel⟩
theorem wit_MemoryProtection_scrub_bad : ∃ (syn : BitVec 7) (s : State), s.bit .MEM_CFG 31 = true ∧ s.powered .core =
  true ∧ s.me.met = [] ∧ s.sramBad (4 * s.me.scrub) = some syn ∧ s.me.votes.lookup (4 * s.me.scrub) = none ∧
  s.me.soft.lookup (4 * s.me.scrub) = none :=
  ⟨5, { (up.wr .MEM_CFG 0x80000000#32) with me := { valid := [0], bad := [(0, 5)] } }, by decide +kernel⟩
theorem wit_MemoryProtection_upset : ∃ (a : Nat) (x y : BitVec 7) (s : State), s.bit .MEM_CFG 31 = false ∧ a % 4 = 0 ∧
  a < 0x40000 ∧ s.wordValid a = true ∧ s.sramBad a = none ∧ s.me.soft.lookup a = none ∧ x ≠ y :=
  ⟨0x100, 1, 2, { (up.wr .MEM_CFG 0#32) with me := { valid := [0x40] } }, by decide +kernel⟩
theorem wit_MemoryProtection_pretire : ∃ (i : Iface) (v : Word) (k : Nat) (s : State), s.takes .MEM_PRETIRE = true ∧
  wbit v 31 = true ∧ getF v Fld.MEM_PRETIRE_KEY = 0x69 ∧ s.freeSpare = some k ∧ s.me.copy = none ∧ (∀ j ∈ List.range 4,
  s.bit (.MEM_PMAP j) 31 = true → s.fld (.MEM_PMAP j) Fld.MEM_PMAP_PAGE ≠ getF v Fld.MEM_PRETIRE_PAGE) :=
  ⟨.core, 0x80690005, 0, up, by decide +kernel⟩
theorem wit_MemoryProtection_pretire_full : ∃ (i : Iface) (v : Word) (s : State), s.takes .MEM_PRETIRE = true ∧ wbit v
  31 = true ∧ getF v Fld.MEM_PRETIRE_KEY = 0x69 ∧ (s.freeSpare = none ∨ s.me.copy.isSome = true) :=
  ⟨.core, 0x80690005, { up with me := { copy := some (0, 3) } }, by decide +kernel⟩
theorem wit_MemoryProtection_copied : ∃ (k p : Nat) (s : State), s.me.copy = some (k, p) :=
  ⟨0, 5, { up with me := { copy := some (0, 5) } }, by decide +kernel⟩
theorem wit_MemoryProtection_retire : ∃ (r b n : Nat) (k : Nat) (s : State), s.begins 0x46 k ∧ (s.slot k).p0.toNat %
  4096 = 0 ∧ regionOf (s.slot k).p0.toNat = some (r, b) ∧ ((List.range 64).find? (fun n => !(s.ld.map.any fun e => e.2
  == 0x1A0 + n)) = some n) :=
  ⟨2, 0, 0, 3, cmd 0x46 0x100E1000 0 0, by decide +kernel⟩
theorem wit_MemoryProtection_retire_bad : ∃ (k : Nat) (s : State), s.begins 0x46 k ∧ ((s.slot k).p0.toNat % 4096 ≠ 0 ∨
  regionOf (s.slot k).p0.toNat = none) :=
  ⟨3, cmd 0x46 0x100E1004 0 0, by decide +kernel⟩
theorem wit_MemoryProtection_no_spare : ∃ (r b : Nat) (k : Nat) (s : State), s.begins 0x46 k ∧ (s.slot k).p0.toNat %
  4096 = 0 ∧ regionOf (s.slot k).p0.toNat = some (r, b) ∧ (∀ n ∈ List.range 64, ∃ e ∈ s.ld.map, e.2 = 0x1A0 + n) :=
  ⟨2, 0, 3, { (cmd 0x46 0x100E1000 0 0) with ld := { map := (List.range 64).map fun i => (i, 0x1A0 + i) } },
    by decide +kernel⟩
theorem wit_LedgerLanes_program : ∃ (l a : Nat) (d : List Byte) (rest : List LdgStep) (j : LdgJob) (q : List LdgJob) (s
  : State), s.ld.cur = some l ∧ s.ld.suspended = false ∧ s.ld.tries < 3 ∧ s.lane l = j :: q ∧ j.steps = .program a d ::
  rest ∧ (rest ≠ [] ∨ j.bank.isSome = true) ∧ rest.head?.any LdgStep.isCompare = false :=
  ⟨1, 0x101E0000, [7], [], { kind := .bank 4 0 1, steps := [.program 0x101E0000 [7]], slot := some 3, begun := true },
    [], job 1 (.bank 4 0 1) [.program 0x101E0000 [7]], by decide +kernel⟩
theorem wit_LedgerLanes_erase : ∃ (l b : Nat) (rest : List LdgStep) (j : LdgJob) (q : List LdgJob) (s : State),
  s.ld.cur = some l ∧ s.ld.suspended = false ∧ s.ld.tries < 3 ∧ s.lane l = j :: q ∧ j.steps = .erase b :: rest ∧ (rest
  ≠ [] ∨ j.bank.isSome = true) ∧ rest.head?.any LdgStep.isCompare = false :=
  ⟨1, 0x1E0, [], { kind := .bank 4 0 1, steps := [.erase 0x1E0], slot := some 3, begun := true }, [], job 1 (.bank 4 0
    1) [.erase 0x1E0], by decide +kernel⟩
theorem wit_LedgerLanes_written : ∃ (l a k : Nat) (d : List Byte) (j : LdgJob) (q : List LdgJob) (s : State), s.ld.cur
  = some l ∧ s.ld.suspended = false ∧ s.ld.tries < 3 ∧ s.lane l = j :: q ∧ j.steps = [.program a d] ∧ j.kind = .fwWrite
  ∧ j.slot = some k :=
  ⟨1, 0x101E0000, 3, [7], { kind := .fwWrite, steps := [.program 0x101E0000 [7]], slot := some 3, begun := true }, [],
    job 1 .fwWrite [.program 0x101E0000 [7]], by decide +kernel⟩
theorem wit_LedgerLanes_retry : ∃ (l : Nat) (j : LdgJob) (q : List LdgJob) (s : State), s.ld.cur = some l ∧
  s.ld.suspended = false ∧ s.ld.tries < 3 ∧ s.lane l = j :: q :=
  ⟨1, { kind := .fwWrite, steps := [.program 0x101E0000 [7]], slot := some 3, begun := true }, [], job 1 .fwWrite
    [.program 0x101E0000 [7]], by decide +kernel⟩
theorem wit_LedgerLanes_mismatch : ∃ (l a x : Nat) (d c : List Byte) (rest : List LdgStep) (j : LdgJob) (q : List
  LdgJob) (s u : State), s.ld.cur = some l ∧ s.ld.suspended = false ∧ s.ld.tries < 3 ∧ s.lane l = j :: q ∧ l ≠ 2 ∧
  j.steps = .program a d :: .compare x c :: rest ∧ u = s.programBytes a d ∧ keysIn u.me.soft x c.length = [] ∧ keysIn
  u.me.votes x c.length = [] ∧ keysIn u.me.bad x c.length = [] ∧ u.readsBack x c = false :=
  ⟨1, 0x101E0000, 0x101E0000, [7, 7, 7, 7], [8, 8, 8, 8], [],
    { kind := .bank 4 0 1, steps := [.program 0x101E0000 [7, 7, 7, 7], .compare 0x101E0000 [8, 8, 8, 8]], slot := some 3, begun := true },
    [], job 1 (.bank 4 0 1) [.program 0x101E0000 [7, 7, 7, 7], .compare 0x101E0000 [8, 8, 8, 8]], _, by exact ⟨rfl,
    rfl, by decide +kernel, rfl, by decide +kernel, rfl, rfl, by decide +kernel⟩⟩
theorem wit_LedgerLanes_commit : ∃ (l r b n k : Nat) (j : LdgJob) (q : List LdgJob) (s : State), s.wd.expired = false ∧
  s.commitLane = some l ∧ s.lane l = j :: q ∧ j.kind = .bank r b n ∧ j.slot = some k ∧ (r = 0 ∨ r = 2 ∨ r = 4) :=
  ⟨1, 4, 0, 1, 3, { kind := .bank 4 0 1, steps := [], slot := some 3, begun := true }, [], job 1 (.bank 4 0 1) [],
    by decide +kernel⟩
theorem wit_LedgerLanes_commit_load : ∃ (l b n k : Nat) (j : LdgJob) (q : List LdgJob) (s : State), s.wd.expired =
  false ∧ s.commitLane = some l ∧ s.lane l = j :: q ∧ j.kind = .bank 1 b n ∧ j.slot = some k ∧ (s.slot k).op ≠ 0x41 ∧
  (∀ r ∈ s.tp.reload, r.slot = k) ∧ s.waitingLoads = [] :=
  ⟨0, 1, 7, 3, { kind := .bank 1 1 7, steps := [], slot := some 3, begun := true }, [], job 0 (.bank 1 1 7) [],
    by decide +kernel⟩
theorem wit_LedgerLanes_commit_next_load : ∃ (l b n k i : Nat) (w : List Nat) (j : LdgJob) (q : List LdgJob) (s :
  State), s.wd.expired = false ∧ s.commitLane = some l ∧ s.lane l = j :: q ∧ j.kind = .bank 1 b n ∧ j.slot = some k ∧
  (s.slot k).op ≠ 0x41 ∧ (∀ r ∈ s.tp.reload, r.slot = k) ∧ s.waitingLoads = i :: w ∧ i ≠ k :=
  ⟨0, 1, 7, 3, 5, [], { kind := .bank 1 1 7, steps := [], slot := some 3, begun := true }, [],
    { (job 0 (.bank 1 1 7) []) with cm := { slots := [(5, { gen := 1, st := .waiting, op := 3 })], waiting := [5] } },
    by decide +kernel⟩
theorem wit_LedgerLanes_commit_dump : ∃ (l b n : Nat) (d : DumpReq) (j : LdgJob) (q : List LdgJob) (s : State),
  s.wd.expired = false ∧ s.commitLane = some l ∧ s.lane l = j :: q ∧ j.kind = .bank 3 b n ∧ s.ld.dump = some d :=
  ⟨3, 1, 1, { src := 55, trap := 2, stamp := {} }, { kind := .bank 3 1 1, steps := [], slot := none, begun := true },
    [],
    { up with mem := [(0x1019FF0C, 0#8), (0x1019FF0D, 0#8), (0x1019FF0E, 0#8), (0x1019FF0F, 0#8)], ld := { lanes := [(3, [{ kind := .bank 3 1 1, steps := [], slot := none, begun := true }])], cur := none, dump := some { src := 55, trap := 2, stamp := {} } } },
    by decide +kernel⟩
theorem wit_LedgerLanes_fail : ∃ (l r b n a k : Nat) (d : List Byte) (j : LdgJob) (rest : List LdgStep) (q : List
  LdgJob) (s : State), s.ld.cur = some l ∧ 3 ≤ s.ld.tries ∧ s.lane l = j :: q ∧ j.kind = .bank r b n ∧ j.steps =
  .program a d :: rest ∧ j.slot = some k ∧ r ≠ 1 ∧ r ≠ 3 :=
  ⟨1, 4, 0, 1, 0x101E0000, 3, [7],
    { kind := .bank 4 0 1, steps := [.program 0x101E0000 [7]], slot := some 3, begun := true }, [], [],
    { (job 1 (.bank 4 0 1) [.program 0x101E0000 [7]]) with ld := { (job 1 (.bank 4 0 1) [.program 0x101E0000 [7]]).ld with tries := 3 } },
    by decide +kernel⟩
theorem wit_LedgerLanes_suspend : ∃ (s : State), s.bit .LDG_STATUS 3 = true ∧ s.ld.cur.isSome = true :=
  ⟨(job 1 .fwWrite [.erase 0]).wr .LDG_STATUS 8#32, by decide +kernel⟩
theorem wit_LedgerCommands_fw_write : ∃ (a n o : Nat) (k : Nat) (s : State), s.begins 0x42 k ∧ a = (s.slot k).p0.toNat
  ∧ n = (s.slot k).p1.toNat ∧ o = (s.slot k).p2.toNat ∧ a % 4 = 0 ∧ n % 4 = 0 ∧ o % 4 = 0 ∧ 0 < n ∧ n ≤ 65536 ∧ o + n ≤
  392960 ∧ s.badSource a n = false ∧ s.readOnly 0 = false ∧ (s.single 0 = false ∨ s.abandoned 0 ≠ s.fwInactive ∨ wbit
  (s.slot k).p3 0 = true) ∧ (s.bit .LDG_STATUS 2 = false ∨ ∀ e ∈ s.ld.fwDone, ¬(e.1 < o + n ∧ o < e.1 + e.2)) ∧
  s.firstBad a n = none ∧ keysIn s.me.soft a n = [] ∧ keysIn s.me.votes a n = [] :=
  ⟨0x100, 64, 0, 3, cmd 0x42 0x100 64 0, by decide +kernel⟩
theorem wit_LedgerCommands_fw_write_bad : ∃ (a n o : Nat) (k : Nat) (s : State), s.begins 0x42 k ∧ a = (s.slot
  k).p0.toNat ∧ n = (s.slot k).p1.toNat ∧ o = (s.slot k).p2.toNat ∧ (a % 4 ≠ 0 ∨ n % 4 ≠ 0 ∨ o % 4 ≠ 0 ∨ n = 0 ∨ 65536
  < n ∨ 392960 < o + n) :=
  ⟨0x100, 63, 0, 3, cmd 0x42 0x100 63 0, by decide +kernel⟩
theorem wit_LedgerCommands_fw_seal : ∃ (k : Nat) (s : State), s.begins 0x43 k ∧ s.bit .LDG_STATUS 2 = true ∧ s.readOnly
  0 = false ∧ keysIn s.me.soft (bankBase 0 s.fwTarget) s.fwSpan = [] ∧ keysIn s.me.votes (bankBase 0 s.fwTarget)
  s.fwSpan = [] ∧ keysIn s.me.bad (bankBase 0 s.fwTarget) s.fwSpan = [] :=
  ⟨3, (cmd 0x43 0 0 0).wr .LDG_STATUS 4#32, by decide +kernel⟩
theorem wit_LedgerCommands_fw_seal_closed : ∃ (k : Nat) (s : State), s.begins 0x43 k ∧ s.bit .LDG_STATUS 2 = false :=
  ⟨3, cmd 0x43 0 0 0, by decide +kernel⟩
theorem wit_LedgerCommands_fw_activate : ∃ (k : Nat) (s : State), s.begins 0x44 k ∧ s.bankSeq 0 s.fwTarget ≠ 0 ∧
  s.fwKept = false ∧ s.readOnly 0 = false :=
  ⟨3, sealedCmd, by exact ⟨by decide +kernel, by rw [sealed_seq]; decide, by decide +kernel, by decide +kernel⟩⟩
theorem wit_LedgerCommands_fw_activate_bad : ∃ (k : Nat) (s : State), s.begins 0x44 k ∧ (s.bankSeq 0 s.fwTarget = 0 ∨
  s.fwKept = true) :=
  ⟨3, cmd 0x44 0 0 0, by decide +kernel⟩
theorem wit_LedgerCommands_user : ∃ (a n o : Nat) (k : Nat) (s : State), s.begins 0x45 k ∧ a = (s.slot k).p0.toNat ∧ n
  = (s.slot k).p1.toNat ∧ o = (s.slot k).p2.toNat ∧ o + n ≤ 65280 ∧ s.badSource a n = false ∧ s.readOnly 4 = false ∧
  s.firstBad a n = none ∧ keysIn s.me.soft a n = [] ∧ keysIn s.me.votes a n = [] ∧ (∀ b ∈ s.newestBank 4, keysIn
  s.me.soft (bankBase 4 b) 65280 = [] ∧ keysIn s.me.votes (bankBase 4 b) 65280 = [] ∧ keysIn s.me.bad (bankBase 4 b)
  65280 = []) :=
  ⟨0x100, 64, 0, 3, cmd 0x45 0x100 64 0, by decide +kernel⟩
theorem wit_LedgerCommands_user_bad : ∃ (a n o : Nat) (k : Nat) (s : State), s.begins 0x45 k ∧ a = (s.slot k).p0.toNat
  ∧ n = (s.slot k).p1.toNat ∧ o = (s.slot k).p2.toNat ∧ (65280 < o + n ∨ s.badSource a n = true ∨ s.readOnly 4 = true)
  :=
  ⟨0x100, 64, 65279, 3, cmd 0x45 0x100 64 65279, by decide +kernel⟩
theorem wit_LedgerCommands_dump : ∃ (d : DumpReq) (s : State), s.ld.dump = some d ∧ d.started = false ∧ s.accepts =
  true ∧ s.pw.mc = .firmware ∧ s.readOnly 3 = false ∧ keysIn s.me.soft 0x3C000 0x4000 = [] ∧ keysIn s.me.votes 0x3C000
  0x4000 = [] ∧ keysIn s.me.bad 0x3C000 0x4000 = [] :=
  ⟨{ src := 55, trap := 2, stamp := {} }, { up with ld := { dump := some { src := 55, trap := 2, stamp := {} } } },
    by decide +kernel⟩
theorem wit_LedgerCommands_restart : ∃ (s : State), s.loader = true ∧ s.ld.restart = true :=
  ⟨{ up with pw := { up.pw with mc := .loader }, ld := { restart := true } }, by decide +kernel⟩
theorem wit_OtpCommands_program : ∃ (i : Iface) (v : Word) (s : State), s.takes .OTP_PROG = true ∧ wbit v 31 = true ∧
  (if i = .line then 8 else if getF v Fld.OTP_PROG_KEY ≠ 0xB7 then 5 else if s.bit .OTP_STATUS 4 then 4 else if
  s.otpAllowed (s.fld .OTP_ROW Fld.OTP_ROW_ROW) = false then 2 else if s.otpUsed (s.fld .OTP_ROW Fld.OTP_ROW_ROW) then
  3 else 0) = 0 :=
  ⟨.core, 0x8000B700, ((up.wr .OTP_STATUS 1#32).wr .OTP_ROW 100#32), by decide +kernel⟩
theorem wit_OtpCommands_program_refused : ∃ (i : Iface) (v : Word) (c : Nat) (s : State), s.takes .OTP_PROG = true ∧
  wbit v 31 = true ∧ c = (if i = .line then 8 else if getF v Fld.OTP_PROG_KEY ≠ 0xB7 then 5 else if s.bit .OTP_STATUS 4
  then 4 else if s.otpAllowed (s.fld .OTP_ROW Fld.OTP_ROW_ROW) = false then 2 else if s.otpUsed (s.fld .OTP_ROW
  Fld.OTP_ROW_ROW) then 3 else 0) ∧ c ≠ 0 :=
  ⟨.line, 0x8000B700, 8, ((up.wr .OTP_STATUS 1#32).wr .OTP_ROW 100#32), by decide +kernel⟩
theorem wit_OtpCommands_transition : ∃ (i : Iface) (v : Word) (s : State), s.takes .OTP_LC = true ∧ wbit v 31 = true ∧
  ((if i = .line then 8 else if getF v Fld.OTP_LC_KEY ≠ 0x4D then 5 else if s.bit .OTP_STATUS 4 then 4 else if
  lcFollows s.lifeCycle (getF v Fld.OTP_LC_TARGET) = false then 6 else if s.lifeCycle = 0 ∧ s.pins.testEn = false then
  2 else 0) = 0) :=
  ⟨.core, 0x80004D02, ((up.wr .OTP_STATUS 1#32).wr .OTP_ROW 100#32), by decide +kernel⟩
theorem wit_OtpCommands_transition_refused : ∃ (i : Iface) (v : Word) (c : Nat) (s : State), s.takes .OTP_LC = true ∧
  wbit v 31 = true ∧ (c = (if i = .line then 8 else if getF v Fld.OTP_LC_KEY ≠ 0x4D then 5 else if s.bit .OTP_STATUS 4
  then 4 else if lcFollows s.lifeCycle (getF v Fld.OTP_LC_TARGET) = false then 6 else if s.lifeCycle = 0 ∧
  s.pins.testEn = false then 2 else 0)) ∧ c ≠ 0 :=
  ⟨.core, 0x80004D01, 6, ((up.wr .OTP_STATUS 1#32).wr .OTP_ROW 100#32), by decide +kernel⟩
theorem wit_OtpCommands_done : ∃ (r : OtpOutcome) (p : OtpProg) (s : State), s.ot.prog = some p ∧ r.strict = true :=
  ⟨⟨true, [], true⟩, ⟨100, 7, none⟩,
    { ((up.wr .OTP_STATUS 1#32).wr .OTP_ROW 100#32) with ot := { prog := some ⟨100, 7, none⟩ } }, by decide +kernel⟩
theorem wit_OtpCommands_redirected : ∃ (r : OtpOutcome) (p : OtpProg) (k : Nat) (s : State), s.ot.prog = some p ∧
  r.strict = false ∧ r.tries = [] ∧ s.nextSpare = some k :=
  ⟨⟨false, [], true⟩, ⟨100, 7, none⟩, 0,
    { ((up.wr .OTP_STATUS 1#32).wr .OTP_ROW 100#32) with ot := { prog := some ⟨100, 7, none⟩ } }, by decide +kernel⟩
theorem wit_OtpCommands_no_spare : ∃ (r : OtpOutcome) (p : OtpProg) (s : State), s.ot.prog = some p ∧ r.strict = false
  ∧ s.nextSpare = none :=
  ⟨⟨false, [], true⟩, ⟨100, 7, none⟩,
    { ((up.wr .OTP_STATUS 1#32).wr .OTP_ROW 100#32) with ot := { prog := some ⟨100, 7, none⟩, redir := (List.range 16).map fun k => (k, 0x40000000#32) } },
    by decide +kernel⟩
theorem wit_Tokens_accepted : ∃ (i : Iface) (v : Word) (n : Nat) (s : State), s.takes .WDG_TOKEN = true ∧ n = getF v
  Fld.WDG_TOKEN_TASK ∧ s.wdgReg n = true ∧ ownerIs (s.fld (.WDG_T_CFG n) Fld.WDG_T_CFG_OWNER) i = true ∧ getF v
  Fld.WDG_TOKEN_TOKEN = s.fld (.WDG_T_STAT n) Fld.WDG_T_STAT_NEXT ∧ s.inWindow n = true ∧ s.tokened n = false :=
  ⟨.line, 0x7C02, 2, (((up.wr (.WDG_T_CFG 2) 0x80000064#32).put (.WDG_T_CFG 2) Fld.WDG_T_CFG_OWNER (ifaceNum .line)).wr
    (.WDG_T_STAT 2) 0x7C010000#32), by decide +kernel⟩
theorem wit_Tokens_double : ∃ (i : Iface) (v : Word) (n : Nat) (s : State), s.takes .WDG_TOKEN = true ∧ n = getF v
  Fld.WDG_TOKEN_TASK ∧ s.wdgReg n = true ∧ ownerIs (s.fld (.WDG_T_CFG n) Fld.WDG_T_CFG_OWNER) i = true ∧ getF v
  Fld.WDG_TOKEN_TOKEN = s.fld (.WDG_T_STAT n) Fld.WDG_T_STAT_NEXT ∧ s.inWindow n = true ∧ s.tokened n = true :=
  ⟨.line, 0x7C02, 2, (((up.wr (.WDG_T_CFG 2) 0x80000064#32).put (.WDG_T_CFG 2) Fld.WDG_T_CFG_OWNER (ifaceNum .line)).wr
    (.WDG_T_STAT 2) 0x7C010000#32).putBit (.WDG_T_STAT 2) 17 true, by decide +kernel⟩
theorem wit_Tokens_early : ∃ (i : Iface) (v : Word) (n : Nat) (s : State), s.takes .WDG_TOKEN = true ∧ n = getF v
  Fld.WDG_TOKEN_TASK ∧ s.wdgReg n = true ∧ ownerIs (s.fld (.WDG_T_CFG n) Fld.WDG_T_CFG_OWNER) i = true ∧ getF v
  Fld.WDG_TOKEN_TOKEN = s.fld (.WDG_T_STAT n) Fld.WDG_T_STAT_NEXT ∧ s.inWindow n = false :=
  ⟨.line, 0x7C02, 2, (((up.wr (.WDG_T_CFG 2) 0x80000064#32).put (.WDG_T_CFG 2) Fld.WDG_T_CFG_OWNER (ifaceNum .line)).wr
    (.WDG_T_STAT 2) 0x7C010000#32).putBit (.WDG_T_STAT 2) 16 false, by decide +kernel⟩
theorem wit_Tokens_wrong : ∃ (i : Iface) (v : Word) (n : Nat) (e : Option EdgeDecision) (s : State), s.takes .WDG_TOKEN
  = true ∧ n = getF v Fld.WDG_TOKEN_TASK ∧ s.wdgReg n = true ∧ ownerIs (s.fld (.WDG_T_CFG n) Fld.WDG_T_CFG_OWNER) i =
  true ∧ getF v Fld.WDG_TOKEN_TOKEN ≠ s.fld (.WDG_T_STAT n) Fld.WDG_T_STAT_NEXT :=
  ⟨.line, 0x7B02, 2, none, (((up.wr (.WDG_T_CFG 2) 0x80000064#32).put (.WDG_T_CFG 2) Fld.WDG_T_CFG_OWNER (ifaceNum
    .line)).wr (.WDG_T_STAT 2) 0x7C010000#32), by decide +kernel⟩
theorem wit_Tokens_foreign : ∃ (i : Iface) (v : Word) (n : Nat) (e : Option EdgeDecision) (s : State), s.takes
  .WDG_TOKEN = true ∧ n = getF v Fld.WDG_TOKEN_TASK ∧ (s.wdgReg n = false ∨ ownerIs (s.fld (.WDG_T_CFG n)
  Fld.WDG_T_CFG_OWNER) i = false) :=
  ⟨.core, 0x7C02, 2, none, (((up.wr (.WDG_T_CFG 2) 0x80000064#32).put (.WDG_T_CFG 2) Fld.WDG_T_CFG_OWNER (ifaceNum
    .line)).wr (.WDG_T_STAT 2) 0x7C010000#32), by decide +kernel⟩
theorem wit_Tokens_edge : ∃ (i : Iface) (v : Word) (n : Nat) (e : EdgeDecision) (s : State), s.takes .WDG_TOKEN = true
  ∧ n = getF v Fld.WDG_TOKEN_TASK ∧ s.wdgReg n = true ∧ ownerIs (s.fld (.WDG_T_CFG n) Fld.WDG_T_CFG_OWNER) i = true ∧
  getF v Fld.WDG_TOKEN_TOKEN = s.fld (.WDG_T_STAT n) Fld.WDG_T_STAT_NEXT :=
  ⟨.line, 0x7C02, 2, ⟨false, true⟩, (((up.wr (.WDG_T_CFG 2) 0x80000064#32).put (.WDG_T_CFG 2) Fld.WDG_T_CFG_OWNER
    (ifaceNum .line)).wr (.WDG_T_STAT 2) 0x7C010000#32), by decide +kernel⟩
theorem wit_WatchdogPeriods_register : ∃ (i : Iface) (n : Fin 8) (v : Word) (s : State), s.takes (.WDG_T_CFG n) = true
  ∧ s.wdgReg n = false ∧ 2 ≤ getF v Fld.WDG_T_CFG_PERIOD ∧ getF v Fld.WDG_T_CFG_WINOPEN < getF v Fld.WDG_T_CFG_PERIOD ∧
  wbit v 31 = true :=
  ⟨.core, 2, 0x80032064, up, by decide +kernel⟩
theorem wit_WatchdogPeriods_register_refused : ∃ (i : Iface) (n : Fin 8) (v : Word) (s : State), s.takes (.WDG_T_CFG n)
  = true ∧ (s.wdgReg n = true ∨ getF v Fld.WDG_T_CFG_PERIOD < 2 ∨ getF v Fld.WDG_T_CFG_PERIOD ≤ getF v
  Fld.WDG_T_CFG_WINOPEN) :=
  ⟨.core, 2, 0x80032064, ((up.wr (.WDG_T_CFG 2) 0x80000064#32).put (.WDG_T_CFG 2) Fld.WDG_T_CFG_OWNER (ifaceNum
    .line)), by decide +kernel⟩
theorem wit_WatchdogPeriods_ctl : ∃ (i : Iface) (v : Word) (s : State), s.takes .WDG_CTL = true ∧ (∀ n ∈ List.range 8,
  2 ≤ n → s.wdgReg n = false) :=
  ⟨.core, 0x80000010, up, by decide +kernel⟩
theorem wit_WatchdogPeriods_open : ∃ (n : Fin 8) (s : State), s.taskRuns n = true :=
  ⟨2, ((up.wr (.WDG_T_CFG 2) 0x80000064#32).put (.WDG_T_CFG 2) Fld.WDG_T_CFG_OWNER (ifaceNum .line)),
    by decide +kernel⟩
theorem wit_WatchdogPeriods_period : ∃ (n : Fin 8) (s : State), s.taskRuns n = true ∧ s.tokened n = true :=
  ⟨2, (((up.wr (.WDG_T_CFG 2) 0x80000064#32).put (.WDG_T_CFG 2) Fld.WDG_T_CFG_OWNER (ifaceNum .line)).wr (.WDG_T_STAT
    2) 0x7C010000#32).putBit (.WDG_T_STAT 2) 17 true, by decide +kernel⟩
theorem wit_WatchdogPeriods_late : ∃ (n : Fin 8) (s : State), s.taskRuns n = true ∧ s.tokened n = false ∧ s.wd.expired
  = false :=
  ⟨2, (((up.wr (.WDG_T_CFG 2) 0x80000064#32).put (.WDG_T_CFG 2) Fld.WDG_T_CFG_OWNER (ifaceNum .line)).wr (.WDG_T_STAT
    2) 0x7C010000#32), by decide +kernel⟩
theorem wit_WatchdogPeriods_late_again : ∃ (n : Fin 8) (o : BitVec 8) (s : State), s.taskRuns n = true ∧ s.wd.expired =
  true :=
  ⟨2, 0, { (up.wr (.WDG_T_CFG 2) 0x80000064#32) with wd := { expired := true } }, by decide +kernel⟩
theorem wit_WatchdogPeriods_late_more : ∃ (n m : Fin 8) (s : State), n < m ∧ s.taskRuns n = true ∧ s.taskRuns m = true
  ∧ s.tokened n = false ∧ s.tokened m = false ∧ s.wd.expired = false :=
  ⟨2, 3, ((up.wr (.WDG_T_CFG 2) 0x80000064#32).wr (.WDG_T_CFG 3) 0x80000064#32), by decide +kernel⟩
theorem wit_WatchdogPeriods_drained : ∃ (s : State), s.wd.draining = true :=
  ⟨{ up with wd := { expired := true, draining := true } }, by decide +kernel⟩
theorem wit_WatchdogPeriods_reset : ∃ (s : State), s.wd.expired = true ∧ (s.railsDown = true ∨ s.pins.gatesOff = true)
  :=
  ⟨{ up with wd := { expired := true }, pins := { gatesOff := true } }, by decide +kernel⟩
theorem wit_Frames_forward : ∃ (p : Fin 4) (f : Frame) (s : State), s.receives p = true ∧ f.headerOk = true ∧ f.typ ≠ 3
  ∧ f.typ ≠ 4 ∧ f.typ ≠ 10 ∧ s.isUp p = true ∧ (s.route1 p f).expired = false ∧ (s.route1 p f).unreach = false :=
  ⟨1, fDat, lk.wr .LNK_DEFAULT 0xA0#32, by decide +kernel⟩
theorem wit_Frames_expired : ∃ (p : Fin 4) (f : Frame) (s : State), s.receives p = true ∧ f.headerOk = true ∧ f.typ ≠ 3
  ∧ f.typ ≠ 4 ∧ f.typ ≠ 10 ∧ s.isUp p = true ∧ (s.route1 p f).expired = true ∧ (s.route1 p f).unreach = false :=
  ⟨1, fOld, lk.wr .LNK_DEFAULT 0xA0#32, by decide +kernel⟩
theorem wit_Frames_unreachable : ∃ (p : Fin 4) (f : Frame) (s : State), s.receives p = true ∧ f.headerOk = true ∧ f.typ
  ≠ 3 ∧ f.typ ≠ 4 ∧ f.typ ≠ 10 ∧ s.isUp p = true ∧ (s.route1 p f).expired = false ∧ (s.route1 p f).unreach = true :=
  ⟨1, fDat, lk, by decide +kernel⟩
theorem wit_Frames_header_error : ∃ (p : Fin 4) (f : Frame) (s : State), s.receives p = true ∧ f.headerOk = false :=
  ⟨1, { fDat with w3 := 1 }, lk, by decide +kernel⟩
theorem wit_Frames_crc_fail : ∃ (p : Fin 4) (f : Frame) (s : State), s.receives p = true ∧ f.headerOk = true ∧ f.eof =
  true ∧ f.crc ≠ f.crcOf ∧ (f.typ = 3 ∨ s.isUp p = true) :=
  ⟨1, { fOwn with crc := 1 }, lk, by decide +kernel⟩
theorem wit_Frames_check_send : ∃ (p : Fin 4) (s : State), s.powered .link = true ∧ s.portSt p ≠ 0 :=
  ⟨1, lk, by decide +kernel⟩
theorem wit_Frames_check_receive : ∃ (p : Fin 4) (f : Frame) (s : State), s.receives p = true ∧ f.good = true ∧ f.typ =
  3 ∧ (s.portSt p ≠ 3 ∨ wbit f.w3 29 = true ∨ s.ln.half.get p.val 0 = 0) :=
  ⟨1, fChk, lk, by decide +kernel⟩
theorem wit_Frames_half_loss : ∃ (p : Fin 4) (f : Frame) (s : State), s.receives p = true ∧ f.good = true ∧ f.typ = 3 ∧
  s.portSt p = 3 ∧ wbit f.w3 29 = false ∧ 1 ≤ s.ln.half.get p.val 0 :=
  ⟨1, fBad, { lk with ln := { half := [(1, 1)] } }, by decide +kernel⟩
theorem wit_Frames_aligned : ∃ (p : Fin 4) (s : State), s.powered .link = true ∧ s.portSt p = 1 :=
  ⟨1, up.setPort 1 1, by decide +kernel⟩
theorem wit_Frames_align_lost : ∃ (p : Fin 4) (s : State), s.powered .link = true ∧ s.portSt p = 2 :=
  ⟨1, up.setPort 1 2, by decide +kernel⟩
theorem wit_Frames_port_up : ∃ (p : Fin 4) (s : State), s.powered .link = true ∧ s.portSt p = 2 ∧ s.bit (.LNK_P_STATE
  p) 9 = true :=
  ⟨1, (up.setPort 1 2).putBit (.LNK_P_STATE 1) 9 true, by decide +kernel⟩
theorem wit_Frames_timeout : ∃ (p : Fin 4) (s : State), s.isUp p = true :=
  ⟨1, lk, by decide +kernel⟩
theorem wit_Frames_no_timeout : ∃ (p : Fin 4) (s : State), s.isUp p = false :=
  ⟨1, up, by decide +kernel⟩
theorem wit_Frames_los : ∃ (p : Fin 4) (s : State), s.isUp p = true :=
  ⟨1, lk, by decide +kernel⟩
theorem wit_LineRegisters_config : ∃ (i : Iface) (v : Word) (s : State), s.takes .LNK_CFG = true :=
  ⟨.core, 0xC0FF0003, lk, by decide +kernel⟩
theorem wit_LineRegisters_staged : ∃ (i : Iface) (e : Fin 64) (v : Word) (s : State), s.takes (.LNK_RT_B e) = true :=
  ⟨.core, 5, 0x83, up, by decide +kernel⟩
theorem wit_LineRegisters_applied : ∃ (i : Iface) (e : Fin 64) (v b : Word) (s : State), s.takes (.LNK_RT_A e) = true ∧
  s.ln.stagedB.lookup e.val = some b :=
  ⟨.core, 5, 0x8C000009, 3, { up with ln := { stagedB := [(5, 3#32)] } }, by decide +kernel⟩
theorem wit_LineRegisters_trip : ∃ (i : Iface) (v : Word) (s : State), s.takes .LNK_TRIPCTL = true ∧ i ≠ .line ∧ wbit v
  31 = true ∧ getF v Fld.LNK_TRIPCTL_KEY = 0xE1 :=
  ⟨.core, 0x80E10000, lk, by decide +kernel⟩
theorem wit_LineRegisters_trip_no : ∃ (i : Iface) (v : Word) (s : State), s.takes .LNK_TRIPCTL = true ∧ (i = .line ∨
  wbit v 31 = false ∨ getF v Fld.LNK_TRIPCTL_KEY ≠ 0xE1) :=
  ⟨.line, 0x80E10000, lk, by decide +kernel⟩
theorem wit_LineRegisters_trip_in : ∃ (p : Fin 4) (f : Frame) (s : State), s.forHere p f 4 = true ∧ (f.src ≠ s.ownAddr
  ∨ f.arg0.toNat / 65536 ≠ (s.rd .LNK_UID_LO).toNat % 65536) ∧ tripKey f ∉ s.ln.keys :=
  ⟨1, fTrp, lk, by decide +kernel⟩
theorem wit_LineRegisters_trip_known : ∃ (p : Fin 4) (f : Frame) (s : State), tripKey f ∈ s.ln.keys :=
  ⟨1, fTrp, { lk with ln := { keys := [tripKey fTrp] } }, by decide +kernel⟩
theorem wit_LineRegisters_routes : ∃ (p : Fin 4) (f : Frame) (a n u e r : Nat) (s : State), s.forHere p f 8 = true ∧ a
  = (f.word 0).toNat % 256 ∧ n = (f.word 0).toNat / 256 % 256 ∧ 1 ≤ n ∧ n ≤ 30 ∧ f.payload.length = 8 + 8 * n ∧
  s.ln.lastSurvey = some (u, e, r) ∧ s.notLower e u = true :=
  ⟨1, fRt, 3, 1, 0x77, 3, 6, { lk with ln := { lastSurvey := some (0x77, 3, 6) } }, by decide +kernel⟩
theorem wit_LineSurvey_start : ∃ (k : Nat) (s : State), s.begins 0xC1 k ∧ s.ln.survey = none ∧ s.bit .LNK_CFG 31 = true
  ∧ 1 ≤ getF (s.slot k).p0 ⟨12, 8⟩ ∧ getF (s.slot k).p0 ⟨12, 8⟩ ≤ 24 ∧ (s.slot k).cancelled = false :=
  ⟨3, ({ (lks (svy 2)) with ln := {} } : State).wr .LNK_CFG 0x80000000#32, by decide +kernel⟩
theorem wit_LineSurvey_not_root : ∃ (k : Nat) (s : State), s.begins 0xC1 k ∧ s.ln.survey = none ∧ s.bit .LNK_CFG 31 =
  false :=
  ⟨3, { (lks (svy 2)) with ln := {} }, by decide +kernel⟩
theorem wit_LineSurvey_finish : ∃ (v : Survey) (k : Nat) (s : State), s.runningSlot 3 = some k ∧ (s.slot k).op = 0xC1 ∧
  s.ln.survey = some v ∧ v.todo = [] ∧ v.probes = [] ∧ (s.slot k).cancelled = false :=
  ⟨{ (svy 2) with probes := [] }, 3, lks { (svy 2) with probes := [] }, by decide +kernel⟩
theorem wit_LineSurvey_reply : ∃ (v : Survey) (p : Fin 4) (f : Frame) (s : State), s.ln.survey = some v ∧ s.forHere p f
  6 = true ∧ f.payload.length = 32 ∧ (∃ b ∈ v.probes, b.path = f.backPath p) ∧ (f.word 2).toNat / 65536 < v.epoch ∧
  v.byUid ((f.word 0).toNat + 2 ^ 32 * (f.word 1).toNat) = none ∧ (f.backPath p).length ≤ v.maxhop ∧ (s.slot
  v.slot).cancelled = false :=
  ⟨svy 2, 1, fRep, lks (svy 2), by decide +kernel⟩
theorem wit_LineSurvey_conflict : ∃ (v : Survey) (p : Fin 4) (f : Frame) (s : State), s.ln.survey = some v ∧ s.forHere
  p f 6 = true ∧ f.payload.length = 32 ∧ (∃ b ∈ v.probes, b.path = f.backPath p) ∧ v.epoch < (f.word 2).toNat / 65536
  :=
  ⟨svy 2, 1, fRep2, lks (svy 2), by decide +kernel⟩
theorem wit_LineSurvey_again : ∃ (v : Survey) (b : Probe) (l : List Probe) (s : State), s.ln.survey = some v ∧ v.probes
  = b :: l ∧ b.retries ≠ 0 ∧ (s.slot v.slot).cancelled = false :=
  ⟨svy 2, { path := [1], retries := 2 }, [], lks (svy 2), by decide +kernel⟩
theorem wit_LineSurvey_given_up : ∃ (v : Survey) (b : Probe) (l : List Probe) (s : State), s.ln.survey = some v ∧
  v.probes = b :: l ∧ b.retries = 0 ∧ v.todo = [] ∧ (s.slot v.slot).cancelled = false :=
  ⟨svy 0, { path := [1], retries := 0 }, [], lks (svy 0), by decide +kernel⟩
theorem wit_LineSurvey_surveyed : ∃ (p : Fin 4) (f : Frame) (s : State), s.forHere p f 5 = true ∧ f.payload.length = 16
  :=
  ⟨1, fSur, lk, by decide +kernel⟩
theorem wit_LineSurvey_assigned : ∃ (u e r : Nat) (p : Fin 4) (f : Frame) (s : State), s.forHere p f 7 = true ∧
  f.payload.length = 16 ∧ f.word 0 = s.rd .LNK_UID_LO ∧ f.word 1 = s.rd .LNK_UID_HI ∧ s.ln.lastSurvey = some (u, e, r)
  ∧ s.notLower ((f.word 2).toNat / 65536) u = true :=
  ⟨0x77, 3, 6, 1, fAsg, { lk with ln := { lastSurvey := some (0x77, 3, 6) } }, by decide +kernel⟩
theorem wit_Flows_open : ∃ (f : Nat) (k : Nat) (s : State), s.begins 0xC3 k ∧ f = getF (s.slot k).p0 ⟨6, 0⟩ ∧ s.flowSt
  f = 0 ∧ getF (s.slot k).p0 ⟨31, 20⟩ ≠ 0 ∧ getF (s.slot k).p0 ⟨31, 20⟩ ≠ 4095 ∧ (s.slot k).p1.toNat % 4 = 0 ∧
  s.badSource (s.slot k).p1.toNat 4352 = false :=
  ⟨3, 3, cmdAt 0xC3 0x00720303 0x1000 0 lk, by decide +kernel⟩
theorem wit_Flows_open_refused : ∃ (f : Nat) (k : Nat) (s : State), s.begins 0xC3 k ∧ f = getF (s.slot k).p0 ⟨6, 0⟩ ∧
  s.flowSt f ≠ 0 :=
  ⟨3, 3, fcmd 0xC3 0x00720303 0x1000 (fl3 [] 1), by decide +kernel⟩
theorem wit_Flows_close_now : ∃ (f : Nat) (k : Nat) (s : State), s.begins 0xC4 k ∧ f = getF (s.slot k).p0 ⟨6, 0⟩ ∧
  (s.flowSt f = 3 ∨ s.flowSt f ≠ 0 ∧ (s.flow f).out = []) :=
  ⟨3, 3, fcmd 0xC4 3 0 (fl3 [] 1), by decide +kernel⟩
theorem wit_Flows_close_wait : ∃ (f : Nat) (k : Nat) (s : State), s.begins 0xC4 k ∧ f = getF (s.slot k).p0 ⟨6, 0⟩ ∧
  (s.flowSt f = 1 ∨ s.flowSt f = 2) ∧ (s.flow f).out ≠ [] :=
  ⟨3, 3, fcmd 0xC4 3 0 (fl3 [tx0] 1), by decide +kernel⟩
theorem wit_Flows_close_none : ∃ (f : Nat) (k : Nat) (s : State), s.begins 0xC4 k ∧ f = getF (s.slot k).p0 ⟨6, 0⟩ ∧
  s.flowSt f = 0 :=
  ⟨3, 3, fcmd 0xC4 3 0 lk, by decide +kernel⟩
theorem wit_Flows_send : ∃ (i : Iface) (v : Word) (f : Nat) (s : State), s.takes .FLW_TXGO = true ∧ f = getF v
  Fld.FLW_TXGO_FLOW ∧ getF v Fld.FLW_TXGO_TYPE ≠ 0 ∧ s.flowSt f = 1 ∧ s.txFull f = false ∧ lenOk (getF v
  Fld.FLW_TXGO_LEN) = true ∧ (s.bank i).txAddr.toNat + getF v Fld.FLW_TXGO_LEN ≤ 0x40000 :=
  ⟨.core, 0x40030004, 3, fl3 [] 1, by decide +kernel⟩
theorem wit_Flows_send_refused : ∃ (i : Iface) (v : Word) (f : Nat) (s : State), s.takes .FLW_TXGO = true ∧ f = getF v
  Fld.FLW_TXGO_FLOW ∧ getF v Fld.FLW_TXGO_TYPE ≠ 0 ∧ (s.flowSt f ≠ 1 ∨ s.txFull f = true ∨ lenOk (getF v
  Fld.FLW_TXGO_LEN) = false ∨ 0x40000 < (s.bank i).txAddr.toNat + getF v Fld.FLW_TXGO_LEN) :=
  ⟨.core, 0x40030005, 3, fl3 [] 1, by decide +kernel⟩
theorem wit_Flows_rxread : ∃ (i : Iface) (f : Fin 128) (v : Word) (s : State), s.takes (.FLW_F_RX f) = true :=
  ⟨.core, 3, 0x00020000, (fl3 [] 1).wr (.FLW_F_RX 3) 4#32, by decide +kernel⟩
theorem wit_Flows_data : ∃ (p : Fin 4) (f : Frame) (s : State), (s.flowTakes p f 1 = true ∨ s.flowTakes p f 12 = true)
  ∧ s.memOk ∧ (s.src 200).queued = none ∧ (s.flow f.flow).held = [] ∧ ((s.flow f.flow).bound = none ∨ (s.flow
  f.flow).bound = some (getF f.arg0 ⟨15, 0⟩)) ∧ getF f.arg0 ⟨31, 16⟩ = s.rxNext f.flow ∧ seqDiff (getF f.arg0 ⟨31, 16⟩)
  (s.rxRead f.flow) < 16 :=
  ⟨1, fD3, fl3 [] 1, by decide +kernel⟩
theorem wit_Flows_store_fails : ∃ (p : Fin 4) (f : Frame) (s : State), (s.flowTakes p f 1 = true ∨ s.flowTakes p f 12 =
  true) ∧ f.payload ≠ [] ∧ (s.flow f.flow).held = [] ∧ (s.flow f.flow).closing = none ∧ (s.flow f.flow).bound = some
  (getF f.arg0 ⟨15, 0⟩) ∧ getF f.arg0 ⟨31, 16⟩ = s.rxNext f.flow ∧ seqDiff (getF f.arg0 ⟨31, 16⟩) (s.rxRead f.flow) <
  16 :=
  ⟨1, fD3, { (fl3 [] 1) with fw := { ctx := [(3, { bound := some 1 })], inc := [(3, 1)] } }, by decide +kernel⟩
theorem wit_Flows_newer : ∃ (b : Nat) (p : Fin 4) (f : Frame) (x : Bool) (s : State), (s.flowTakes p f 1 = true ∨
  s.flowTakes p f 12 = true) ∧ (s.flow f.flow).bound = some b ∧ getF f.arg0 ⟨15, 0⟩ ≠ b ∧ seqDiff (getF f.arg0 ⟨15, 0⟩)
  b < 32768 ∧ (s.flow f.flow).closing = none :=
  ⟨1, 1, fD9, false, { (fl3 [] 1) with fw := { ctx := [(3, { bound := some 1 })], inc := [(3, 1)] } },
    by decide +kernel⟩
theorem wit_Flows_older : ∃ (b : Nat) (p : Fin 4) (f : Frame) (x : Bool) (s : State), (s.flowTakes p f 1 = true ∨
  s.flowTakes p f 12 = true) ∧ (s.flow f.flow).bound = some b ∧ getF f.arg0 ⟨15, 0⟩ ≠ b ∧ 32768 ≤ seqDiff (getF f.arg0
  ⟨15, 0⟩) b :=
  ⟨11, 1, fD9, true, { (fl3 [] 1) with fw := { ctx := [(3, { bound := some 11 })], inc := [(3, 1)] } },
    by decide +kernel⟩
theorem wit_Flows_remote_read : ∃ (p : Fin 4) (f : Frame) (s : State), s.flowTakes p f 9 = true ∧ remOp f.payload = 1 ∧
  s.remStatus f.payload = 0 ∧ s.flowSt f.flow = 1 ∧ s.txFull f.flow = false ∧ (s.flow f.flow).held = [] ∧ ((s.flow
  f.flow).bound = none ∨ (s.flow f.flow).bound = some (getF f.arg0 ⟨15, 0⟩)) ∧ getF f.arg0 ⟨31, 16⟩ = s.rxNext f.flow ∧
  seqDiff (getF f.arg0 ⟨31, 16⟩) (s.rxRead f.flow) < 16 :=
  ⟨1, fR3, (fl3 [] 1).wr .FLW_REM 0x80000000#32, by decide +kernel⟩
theorem wit_Flows_remote_refused : ∃ (p : Fin 4) (f : Frame) (s : State), s.flowTakes p f 9 = true ∧ remOp f.payload <
  128 ∧ s.remStatus f.payload ≠ 0 ∧ s.flowSt f.flow = 1 ∧ s.txFull f.flow = false ∧ (s.flow f.flow).held = [] ∧
  ((s.flow f.flow).bound = none ∨ (s.flow f.flow).bound = some (getF f.arg0 ⟨15, 0⟩)) ∧ getF f.arg0 ⟨31, 16⟩ = s.rxNext
  f.flow ∧ seqDiff (getF f.arg0 ⟨31, 16⟩) (s.rxRead f.flow) < 16 :=
  ⟨1, fR3, (fl3 [] 1).wr .FLW_REM 0#32, by decide +kernel⟩
theorem wit_Flows_ack : ∃ (n : Nat) (p : Fin 4) (f : Frame) (s : State), s.flowTakes p f 2 = true ∧ getF f.arg0 ⟨15, 0⟩
  = s.flowInc f.flow ∧ n = seqDiff (getF f.arg0 ⟨31, 16⟩) (s.txAck f.flow) ∧ 1 ≤ n ∧ n ≤ (s.flow f.flow).out.length ∧
  s.flowSt f.flow = 1 ∧ (s.flow f.flow).held = [] :=
  ⟨1, 1, fA3, fl3 [tx0] 1, by decide +kernel⟩
theorem wit_Flows_ack_closes : ∃ (n k : Nat) (p : Fin 4) (f : Frame) (s : State), s.flowTakes p f 2 = true ∧ getF
  f.arg0 ⟨15, 0⟩ = s.flowInc f.flow ∧ n = seqDiff (getF f.arg0 ⟨31, 16⟩) (s.txAck f.flow) ∧ n = (s.flow
  f.flow).out.length ∧ s.flowSt f.flow = 2 ∧ (s.flow f.flow).closing = some k :=
  ⟨1, 3, 1, fA3, { (fl3 [tx0] 2) with fw := { ctx := [(3, { out := [tx0], closing := some 3 })], inc := [(3, 1)] } },
    by decide +kernel⟩
theorem wit_Flows_retry : ∃ (f : Fin 128) (s : State), s.powered .link = true ∧ s.flowLive f = true ∧ (s.flow f).out ≠
  [] ∧ (s.flow f).tries + 1 < max 1 (s.fld .FLW_CFG Fld.FLW_CFG_RETRY) :=
  ⟨3, (fl3 [tx0] 1).wr .FLW_CFG 0x08000000#32, by decide +kernel⟩
theorem wit_Flows_broken : ∃ (f : Fin 128) (s : State), s.powered .link = true ∧ s.flowSt f = 1 ∧ (s.flow f).out ≠ [] ∧
  max 1 (s.fld .FLW_CFG Fld.FLW_CFG_RETRY) ≤ (s.flow f).tries + 1 :=
  ⟨3, (fl3 [tx0] 1).wr .FLW_CFG 0#32, by decide +kernel⟩
theorem wit_Flows_events : ∃ (f : Nat) (s : State), f = s.fld .FLW_EVTFWD Fld.FLW_EVTFWD_FLOW ∧ s.powered .link = true
  ∧ s.bit .FLW_EVTFWD 31 = true ∧ s.qEmpty 2 = false ∧ s.flowSt f = 1 ∧ s.txFull f = false :=
  ⟨3, ((((fl3 [] 1).wr .FLW_EVTFWD 0x80000000#32).put .FLW_EVTFWD Fld.FLW_EVTFWD_FLOW 3).wr (.EVT_QSIZE 2) 16#32).put
    (.EVT_QPTR 2) Fld.EVT_QPTR_WPTR 1, by decide +kernel⟩
theorem wit_Flows_events_held : ∃ (f : Nat) (s : State), f = s.fld .FLW_EVTFWD Fld.FLW_EVTFWD_FLOW ∧ s.powered .link =
  true ∧ s.bit .FLW_EVTFWD 31 = true ∧ s.qEmpty 2 = false ∧ (s.flowSt f ≠ 1 ∨ s.txFull f = true) :=
  ⟨3, ((((lk).wr .FLW_EVTFWD 0x80000000#32).put .FLW_EVTFWD Fld.FLW_EVTFWD_FLOW 3).wr (.EVT_QSIZE 2) 16#32).put
    (.EVT_QPTR 2) Fld.EVT_QPTR_WPTR 1, by decide +kernel⟩
theorem wit_StationTime_sync : ∃ (e : Rat) (p : Fin 4) (f : Frame) (s : State), s.timeIn p f 1 16 = true ∧ s.isRoot =
  false ∧ s.syncPort = some p.val ∧ leNat ((f.payload.drop 12).take 2) = s.fld .LNK_ADDR Fld.LNK_ADDR_EPOCH ∧ leNat
  ((f.payload.drop 14).take 2) = s.fld .LNK_ROOT Fld.LNK_ROOT_ADDR ∧ e = (stampAt f.payload 0 + (s.fld (.TIM_DELAY p)
  Fld.TIM_DELAY_DELAY : Rat) - s.timeTenths) ∧ -10000 ≤ e ∧ e ≤ 10000 :=
  ⟨20, 1, fSyn, lk.wr .LNK_DEFAULT 0x90#32, by decide +kernel⟩
theorem wit_StationTime_sync_step : ∃ (e : Rat) (p : Fin 4) (f : Frame) (s : State), s.timeIn p f 1 16 = true ∧
  s.isRoot = false ∧ s.syncPort = some p.val ∧ leNat ((f.payload.drop 12).take 2) = s.fld .LNK_ADDR Fld.LNK_ADDR_EPOCH
  ∧ leNat ((f.payload.drop 14).take 2) = s.fld .LNK_ROOT Fld.LNK_ROOT_ADDR ∧ e = (stampAt f.payload 0 + (s.fld
  (.TIM_DELAY p) Fld.TIM_DELAY_DELAY : Rat) - s.timeTenths) ∧ (e < -10000 ∨ 10000 < e) :=
  ⟨40020, 1, fSynF, lk.wr .LNK_DEFAULT 0x90#32, by decide +kernel⟩
theorem wit_StationTime_answer : ∃ (p : Fin 4) (f : Frame) (s : State), s.timeIn p f 2 16 = true :=
  ⟨1, fReq, lk, by decide +kernel⟩
theorem wit_StationTime_delay : ∃ (t1 : Rat) (p : Fin 4) (f : Frame) (s : State), s.timeIn p f 3 24 = true ∧
  s.tm.t1.lookup p.val = some t1 :=
  ⟨0, 1, fRsp, { lk with tm := { t1 := [(1, 0)] }, clock := { lk.clock with station := 100#64 } }, by decide +kernel⟩
theorem wit_StationTime_set : ∃ (i : Iface) (v : Word) (s : State), s.takes .TIM_SETCTL = true ∧ wbit v 31 = true ∧
  getF v Fld.TIM_SETCTL_KEY = 0x7E :=
  ⟨.core, 0x80007E00, (lk.wr .LNK_ROOT 5#32).wr .TIM_SET_LO 77#32, by decide +kernel⟩
theorem wit_StationTime_holdover : ∃ (s : State), s.powered .link = true ∧ s.isRoot = false ∧ (s.timSt = 2 ∨ s.timSt =
  3) :=
  ⟨lk.put .TIM_STATUS Fld.TIM_STATUS_STATE 3, by decide +kernel⟩
theorem wit_StationTime_mark : ∃ (x : Time) (k : Nat) (s : State), s.begins 0xC2 k ∧ x = BitVec.ofNat 64 ((s.slot
  k).p0.toNat + 2 ^ 32 * (s.slot k).p1.toNat) ∧ s.isRoot = true ∧ s.clock.station.toNat + 12500 ≤ x.toNat ∧ s.armed
  ((s.slot k).p2.toNat % 65536 % 4) = false :=
  ⟨20000, 3, cmdAt 0xC2 20000 0 6 (lk.wr .LNK_ROOT 5#32), by decide +kernel⟩
theorem wit_StationTime_mark_refused : ∃ (x : Time) (k : Nat) (s : State), s.begins 0xC2 k ∧ x = BitVec.ofNat 64
  ((s.slot k).p0.toNat + 2 ^ 32 * (s.slot k).p1.toNat) ∧ (s.isRoot = false ∨ x.toNat < s.clock.station.toNat + 12500 ∨
  s.armed ((s.slot k).p2.toNat % 65536 % 4) = true) :=
  ⟨20000, 3, cmdAt 0xC2 20000 0 6 lk, by decide +kernel⟩
theorem wit_StationTime_mark_in : ∃ (x : Time) (n : Nat) (p : Fin 4) (f : Frame) (s : State), s.forHere p f 11 = true ∧
  f.payload.length = 16 ∧ f.src = s.fld .LNK_ROOT Fld.LNK_ROOT_ADDR ∧ leNat ((f.payload.drop 10).take 2) = s.fld
  .LNK_ADDR Fld.LNK_ADDR_EPOCH ∧ x = BitVec.ofNat 64 (leNat (f.payload.take 8)) ∧ n = leNat ((f.payload.drop 8).take 2)
  :=
  ⟨1000, 6, 1, fMrk, lk, by decide +kernel⟩
theorem wit_StationTime_latch : ∃ (b : Fin 4) (m : MarkX) (s : State), s.tm.marks.lookup b.val = some m ∧ s.powered
  .link = true ∧ s.armed b = true ∧ m.sampled = none ∧ m.time.toNat ≤ s.clock.station.toNat :=
  ⟨2, { num := 6, time := 1000#64, slot := some 3 },
    ({ lk with tm := { marks := [(2, { num := 6, time := 1000#64, slot := some 3 })] }, clock := { lk.clock with station := 1001#64 } }
    : State).putBit .TIM_MARKSTAT 6 true, by decide +kernel⟩
theorem wit_StationTime_done : ∃ (b : Fin 4) (m : MarkX) (l : List Word) (s : State), s.tm.marks.lookup b.val = some m
  ∧ m.sampled = some l :=
  ⟨2, { num := 6, time := 1000#64, slot := some 3, sampled := some [1, 2, 3] }, [1, 2, 3],
    { lk with tm := { marks := [(2, { num := 6, time := 1000#64, slot := some 3, sampled := some [1, 2, 3] })] } },
    by decide +kernel⟩
theorem wit_TwoWireTarget_word : ∃ (x : TwbWrite) (hi lo : Byte) (w : Word) (s : State), s.twbOwn x.addr = true ∧
  s.twbSleeps = false ∧ s.accepts = true ∧ s.bit .TWB_CFG 31 = false ∧ s.loader = false ∧ x.bytes = hi :: lo ::
  bytesOfWords [w] ∧ lo.toNat % 4 = 0 :=
  ⟨⟨0x58#7, [1, 0, 4, 3, 2, 1], false⟩, 1, 0, 0x01020304, up.wr .TWB_CFG 0#32, by decide +kernel⟩
theorem wit_TwoWireTarget_pointer : ∃ (x : TwbWrite) (hi lo : Byte) (data : List Byte) (s : State), s.twbOwn x.addr =
  true ∧ s.twbSleeps = false ∧ s.accepts = true ∧ s.bit .TWB_CFG 31 = false ∧ x.bytes = hi :: lo :: data :=
  ⟨⟨0x58#7, [1, 30, 4, 3, 2, 1], false⟩, 1, 30, [4, 3, 2, 1], up.wr .TWB_CFG 0#32, by decide +kernel⟩
theorem wit_TwoWireTarget_pec_bad : ∃ (x : TwbWrite) (hi lo : Byte) (data : List Byte) (p : Byte) (s : State), s.twbOwn
  x.addr = true ∧ s.twbSleeps = false ∧ s.accepts = true ∧ s.bit .TWB_CFG 31 = true ∧ x.bytes = hi :: lo :: (data ++
  [p]) ∧ p ≠ crc8 (addrByte x.addr false :: hi :: lo :: data) :=
  ⟨⟨0x58#7, [1, 0, 4, 9], false⟩, 1, 0, [4], 9, up.wr .TWB_CFG 0x80000000#32, by decide +kernel⟩
theorem wit_TwoWireTarget_dropped : ∃ (x : TwbWrite) (hi lo : Byte) (data : List Byte) (s : State), s.twbOwn x.addr =
  true ∧ s.twbSleeps = false ∧ s.served = true ∧ s.wd.expired = true ∧ s.bit .TWB_CFG 31 = false ∧ x.begun = true ∧
  x.bytes = hi :: lo :: data :=
  ⟨⟨0x58#7, [1, 0, 4, 3, 2, 1], true⟩, 1, 0, [4, 3, 2, 1], { (up.wr .TWB_CFG 0#32) with wd := { expired := true } },
    by decide +kernel⟩
theorem wit_TwoWireTarget_not_own : ∃ (x : TwbWrite) (y : TwbRead) (s : State), s.twbOwn x.addr = false ∧ s.twbOwn
  y.addr = false :=
  ⟨⟨0x10#7, [], false⟩, ⟨0x10#7, [], 3⟩, up, by decide +kernel⟩
theorem wit_TwoWireTarget_read_word : ∃ (x : TwbRead) (s : State), s.twbOwn x.addr = true ∧ s.twbSleeps = false ∧
  s.accepts = true ∧ s.bit .TWB_CFG 31 = false ∧ x.n = 4 ∧ s.twbPtr % 4 = 0 ∧ s.twbPtr + 4 ≤ 0xFF00 ∧ s.loader = false
  :=
  ⟨⟨0x58#7, [], 4⟩, up.wr .TWB_CFG 0#32, by decide +kernel⟩
theorem wit_TwoWireTarget_read_length : ∃ (x : TwbRead) (s : State), s.twbOwn x.addr = true ∧ s.twbSleeps = false ∧
  s.accepts = true :=
  ⟨⟨0x58#7, [], 7⟩, up.wr .TWB_CFG 0#32, by decide +kernel⟩
theorem wit_TwoWireTarget_timeout_write : ∃ (s : State), s.accepts = true ∧ s.twbSleeps = false ∧ s.bit .TWB_CFG 30 =
  true :=
  ⟨up.wr .TWB_CFG 0x40000000#32, by decide +kernel⟩
theorem wit_TwoWireTarget_timeout_read : ∃ (n : Nat) (s : State), s.accepts = true ∧ s.twbSleeps = false ∧ s.bit
  .TWB_CFG 30 = true :=
  ⟨5, up.wr .TWB_CFG 0x40000000#32, by decide +kernel⟩
theorem wit_TwoWireTarget_nack : ∃ (s : State), (s.pw.mode = .sleep ∨ s.pw.mode = .deep) ∧ s.pw.nack = false :=
  ⟨{ up with pw := { up.pw with mode := .sleep } }, by decide +kernel⟩
theorem wit_TwoWireController_go : ∃ (i : Iface) (v : Word) (s : State), s.takes .TWB_CXGO = true ∧ wbit v 31 = true ∧
  (¬(s.tb.cx.isSome = true ∨ 32 < getF (s.rd .TWB_CXCFG) Fld.TWB_CXCFG_WLEN ∨ 32 < getF (s.rd .TWB_CXCFG)
  Fld.TWB_CXCFG_RLEN ∨ (getF (s.rd .TWB_CXCFG) Fld.TWB_CXCFG_WLEN = 0 ∧ getF (s.rd .TWB_CXCFG) Fld.TWB_CXCFG_RLEN = 0)
  ∨ getF (s.rd .TWB_CXCFG) Fld.TWB_CXCFG_TADDR = s.twbAddr ∨ s.badSource (s.rd .TWB_CXBUF).toNat 64 = true)) :=
  ⟨.core, 0x80000000, ((up.wr .TWB_CXCFG 0x01500204#32).wr .TWB_CXBUF 0x100#32).wr .TWB_STATUS 0x5800#32,
    by decide +kernel⟩
theorem wit_TwoWireController_refused : ∃ (i : Iface) (v : Word) (s : State), s.takes .TWB_CXGO = true ∧ wbit v 31 =
  true ∧ (s.tb.cx.isSome = true ∨ 32 < getF (s.rd .TWB_CXCFG) Fld.TWB_CXCFG_WLEN ∨ 32 < getF (s.rd .TWB_CXCFG)
  Fld.TWB_CXCFG_RLEN ∨ (getF (s.rd .TWB_CXCFG) Fld.TWB_CXCFG_WLEN = 0 ∧ getF (s.rd .TWB_CXCFG) Fld.TWB_CXCFG_RLEN = 0)
  ∨ getF (s.rd .TWB_CXCFG) Fld.TWB_CXCFG_TADDR = s.twbAddr ∨ s.badSource (s.rd .TWB_CXBUF).toNat 64 = true) :=
  ⟨.core, 0x80000000, up, by decide +kernel⟩
theorem wit_TwoWireController_done : ∃ (r : CxOutcome) (c : CxRun) (s : State), s.tb.cx = some c :=
  ⟨⟨.ok, 4, [7, 8]⟩, { cfg := 0x01500204#32, buf := 0x100, send := [1, 2, 3, 4] },
    ({ up with tb := { cx := some { cfg := 0x01500204#32, buf := 0x100, send := [1, 2, 3, 4] } } } : State),
    by decide +kernel⟩
theorem wit_TwoWireController_lost : ∃ (c : CxRun) (s : State), s.tb.cx = some c :=
  ⟨{ cfg := 0x01500204#32, buf := 0x100, send := [1, 2, 3, 4] },
    ({ up with tb := { cx := some { cfg := 0x01500204#32, buf := 0x100, send := [1, 2, 3, 4] } } } : State),
    by decide +kernel⟩
theorem wit_LookoutReads_rd : ∃ (a : Word) (n : Nat) (s : State), s.monServes = true ∧ s.bit .MON_CFG 31 = false ∧ 1 ≤
  s.lookoutRights ∧ 1 ≤ n ∧ n ≤ 64 ∧ wordRange a n = true :=
  ⟨0x100, 1, (up.wr .OTP_STATUS 1#32), by decide +kernel⟩
theorem wit_LookoutReads_rd_bad : ∃ (a : Word) (n : Nat) (s : State), s.monServes = true ∧ s.bit .MON_CFG 31 = false ∧
  1 ≤ s.lookoutRights ∧ (n = 0 ∨ 64 < n ∨ wordRange a n = false) :=
  ⟨0x101, 1, (up.wr .OTP_STATUS 1#32), by decide +kernel⟩
theorem wit_LookoutReads_rights : ∃ (a : Word) (n : Nat) (l : List Word) (s : State), s.monServes = true ∧ s.bit
  .MON_CFG 31 = false ∧ s.lookoutRights = 1 :=
  ⟨0x100, 1, [7], { (up.wr .OTP_STATUS 3#32) with ev := { srcs := [] } }, by decide +kernel⟩
theorem wit_LookoutReads_disabled : ∃ (a : Word) (n : Nat) (s : State), s.monServes = true ∧ s.bit .MON_CFG 31 = true
  :=
  ⟨0x100, 1, up.wr .MON_CFG 0x80000000#32, by decide +kernel⟩
theorem wit_LookoutReads_rails : ∃ (lo hi : Nat) (s : State), s.monServes = true ∧ s.bit .MON_CFG 31 = false ∧ 1 ≤
  s.lookoutRights ∧ lo ≤ hi ∧ hi < 20 :=
  ⟨2, 5, (up.wr .OTP_STATUS 1#32), by decide +kernel⟩
theorem wit_LookoutReads_faults : ∃ (s : State), s.monServes = true ∧ s.bit .MON_CFG 31 = false ∧ 1 ≤ s.lookoutRights
  :=
  ⟨(up.wr .OTP_STATUS 1#32).raise 252 1, by decide +kernel⟩
theorem wit_LookoutReads_ev : ∃ (q n : Nat) (s : State), s.monServes = true ∧ s.bit .MON_CFG 31 = false ∧ 1 ≤
  s.lookoutRights ∧ q < 3 ∧ n ≤ 16 :=
  ⟨0, 3, (up.wr .OTP_STATUS 1#32), by decide +kernel⟩
theorem wit_LookoutReads_log : ∃ (n : Nat) (s : State), s.monServes = true ∧ s.bit .MON_CFG 31 = false ∧ 1 ≤
  s.lookoutRights ∧ n ≤ 64 ∧ s.me.soft = [] ∧ s.me.votes = [] ∧ s.me.bad = [] :=
  ⟨3, (up.wr .OTP_STATUS 1#32), by decide +kernel⟩
theorem wit_LookoutReads_dump : ∃ (o n : Nat) (s : State), s.monServes = true ∧ s.bit .MON_CFG 31 = false ∧ 1 ≤
  s.lookoutRights ∧ o % 4 = 0 ∧ o + 4 * n ≤ 0x40000 :=
  ⟨0, 3, (up.wr .OTP_STATUS 1#32), by decide +kernel⟩
theorem wit_LookoutReads_qy : ∃ (h : Nat) (s : State), s.monServes = true ∧ s.bit .MON_CFG 31 = false ∧ 1 ≤
  s.lookoutRights ∧ s.takes .CMD_QUERY = true :=
  ⟨0x85, (up.wr .OTP_STATUS 1#32), by decide +kernel⟩
theorem wit_LookoutReads_id : ∃ (s : State), s.monServes = true :=
  ⟨up, by decide +kernel⟩
theorem wit_LookoutWrites_wr : ∃ (a : Word) (l : List Word) (s : State), s.monServes = true ∧ s.bit .MON_CFG 31 = false
  ∧ 2 ≤ s.lookoutRights ∧ 1 ≤ l.length ∧ l.length ≤ 8 ∧ wordRange a l.length = true ∧ a.toNat + 4 * l.length ≤ 0x40000
  ∧ s.memOk :=
  ⟨0x100, [1, 2, 3], (up.wr .OTP_STATUS 1#32), by decide +kernel⟩
theorem wit_LookoutWrites_wr_bad : ∃ (a : Word) (l : List Word) (s : State), s.monServes = true ∧ s.bit .MON_CFG 31 =
  false ∧ 2 ≤ s.lookoutRights ∧ (l.length = 0 ∨ 8 < l.length ∨ wordRange a l.length = false) :=
  ⟨0x100, [], (up.wr .OTP_STATUS 1#32), by decide +kernel⟩
theorem wit_LookoutWrites_cm : ∃ (op k : Nat) (l : List Word) (s : State), s.monServes = true ∧ s.bit .MON_CFG 31 =
  false ∧ 2 ≤ s.lookoutRights ∧ opKnown op = true ∧ l.length ≤ 4 ∧ s.admits .lookout op k = true :=
  ⟨1, 0, [7], (up.wr .OTP_STATUS 1#32), by decide +kernel⟩
theorem wit_LookoutWrites_baud : ∃ (b : Nat) (s : State), s.monServes = true ∧ s.bit .MON_CFG 31 = false ∧ b ≤ 7 :=
  ⟨3, up, by decide +kernel⟩
theorem wit_LookoutWrites_baud_back : ∃ (s : State), s.mo.newRate = true ∧ s.powered .core = true :=
  ⟨{ up with mo := { newRate := true } }, by decide +kernel⟩
theorem wit_LookoutWrites_bad_line : ∃ (e : MonError) (s : State), (s.monServes = true ∨ s.monLoader = true) :=
  ⟨.overflow, up, by decide +kernel⟩
theorem wit_LookoutWrites_lock : ∃ (s : State), s.monServes = true ∧ s.bit .MON_CFG 31 = false :=
  ⟨({ (up.wr .OTP_STATUS 3#32) with mo := { challenge := some 5#32 }, ot := { rows := [(96, 1#32), (97, 2#32), (98, 3#32), (99, 4#32)] } }
    : State).wr .MON_STAT 8#32, by decide +kernel⟩
theorem wit_LookoutWrites_lockout : ∃ (s : State), s.fld .MON_STAT Fld.MON_STAT_LOCKREM ≠ 0 :=
  ⟨up.wr .MON_STAT 0x00010300#32, by decide +kernel⟩
theorem wit_LookoutWrites_challenge : ∃ (s : State), s.monServes = true ∧ s.bit .MON_CFG 31 = false ∧ s.fld .MON_STAT
  Fld.MON_STAT_LOCKREM = 0 :=
  ⟨up, by decide +kernel⟩
theorem wit_LookoutWrites_unlocked : ∃ (c w : Word) (s : State), s.monServes = true ∧ s.bit .MON_CFG 31 = false ∧ s.fld
  .MON_STAT Fld.MON_STAT_LOCKREM = 0 ∧ s.secret ≠ [0#32, 0#32, 0#32, 0#32] ∧ s.mo.challenge = some c ∧ w = crc32
  (bytesOfWords (c :: s.secret)) :=
  ⟨5, 0x67e1d428,
    ({ (up.wr .OTP_STATUS 3#32) with mo := { challenge := some 5#32 }, ot := { rows := [(96, 1#32), (97, 2#32), (98, 3#32), (99, 4#32)] } }
    : State), by decide +kernel⟩
theorem wit_LookoutWrites_not_unlocked : ∃ (c w : Word) (s : State), s.monServes = true ∧ s.bit .MON_CFG 31 = false ∧
  s.fld .MON_STAT Fld.MON_STAT_LOCKREM = 0 ∧ s.secret ≠ [0#32, 0#32, 0#32, 0#32] ∧ s.mo.challenge = some c ∧ w ≠ crc32
  (bytesOfWords (c :: s.secret)) ∧ s.fld .MON_STAT Fld.MON_STAT_FAILS < 3 :=
  ⟨5, 7,
    ({ (up.wr .OTP_STATUS 3#32) with mo := { challenge := some 5#32 }, ot := { rows := [(96, 1#32), (97, 2#32), (98, 3#32), (99, 4#32)] } }
    : State), by decide +kernel⟩
theorem wit_LookoutWrites_locked_out : ∃ (r : Option Word) (s : State), s.monServes = true ∧ s.bit .MON_CFG 31 = false
  ∧ s.fld .MON_STAT Fld.MON_STAT_LOCKREM ≠ 0 :=
  ⟨none, up.wr .MON_STAT 0x00010300#32, by decide +kernel⟩
theorem wit_LookoutWrites_config : ∃ (i : Iface) (v : Word) (s : State), s.takes .MON_CFG = true :=
  ⟨.twoWire, 0x80001402, up, by decide +kernel⟩
theorem wit_Crossings_legacy : ∃ (i : Iface) (v : Word) (s : State), s.takes .XNG_CTL = true ∧ wbit v 0 ≠ s.bit
  .XNG_CTL 0 :=
  ⟨.core, 1, up, by decide +kernel⟩
theorem wit_Crossings_legacy_same : ∃ (i : Iface) (v : Word) (s : State), s.takes .XNG_CTL = true ∧ wbit v 0 = s.bit
  .XNG_CTL 0 :=
  ⟨.core, 0, up, by decide +kernel⟩
theorem wit_Crossings_release : ∃ (i : Iface) (v : Word) (s : State), s.takes .XNG_TAKE = true :=
  ⟨.core, 1, { ((up.wr .XNG_CTL 1#32).wr .XNG_TAKE 5#32) with xg := { hold := [(0, [])] } }, by decide +kernel⟩
theorem wit_Crossings_capture : ∃ (g : Fin 4) (s : State), s.powered .core = true ∧ s.bit .XNG_CTL 0 = true ∧ s.powered
  (groupPower g) = true ∧ s.xg.hold.lookup g.val = none :=
  ⟨0, (up.wr .XNG_CTL 1#32), by decide +kernel⟩
theorem wit_Crossings_stuck : ∃ (c : Fin 16) (i : Iface) (s : State), s.powered .core = true ∧ c.val < 5 :=
  ⟨3, .line, { up with xg := { agreed := [(3, 77#32)] } }, by decide +kernel⟩
theorem wit_Crossings_timeout : ∃ (c : Fin 16) (s : State), s.powered .core = true ∧ 8 ≤ c.val ∧ c.val ≤ 10 :=
  ⟨9, up, by decide +kernel⟩
theorem wit_Crossings_now : ∃ (i : Iface) (s : State), s.served = true ∧ s.loader = false ∧ s.powered .link = true ∧
  s.legacyFor i = false :=
  ⟨.line, { up with clock := { station := 0x700000009#64 } }, by decide +kernel⟩
theorem wit_Crossings_now_held : ∃ (i : Iface) (l : List (Reg × Word)) (s : State), s.served = true ∧ s.loader = false
  ∧ s.powered .link = true ∧ s.legacyFor i = true ∧ s.xg.hold.lookup 0 = some l :=
  ⟨.twoWire, [(.TIM_NOW_LO, 9)], { (up.wr .XNG_CTL 1#32) with xg := { hold := [(0, [(.TIM_NOW_LO, 9)])] } },
    by decide +kernel⟩
theorem wit_PowerModes_sleep : ∃ (i : Iface) (v : Word) (s : State), s.takes .PWR_CTL = true ∧ getF v Fld.PWR_CTL_REQ =
  1 ∧ s.pw.mode = .active ∧ s.tb.cx = none :=
  ⟨.core, 0x40000000, up, by decide +kernel⟩
theorem wit_PowerModes_sleep_waits : ∃ (i : Iface) (v : Word) (s : State), s.takes .PWR_CTL = true ∧ getF v
  Fld.PWR_CTL_REQ = 1 ∧ s.pw.mode = .active ∧ s.tb.cx.isSome = true :=
  ⟨.core, 0x40000000, { up with tb := { cx := some { cfg := 0, buf := 0, send := [] } } }, by decide +kernel⟩
theorem wit_PowerModes_deep_refused : ∃ (i : Iface) (v : Word) (s : State), s.takes .PWR_CTL = true ∧ getF v
  Fld.PWR_CTL_REQ = 2 ∧ (s.railsOff = false ∨ s.shipPend = true) :=
  ⟨.core, 0x80000000, up.put (.RAIL_STATUS 3) Fld.RAIL_STATUS_STATE 4, by decide +kernel⟩
theorem wit_PowerModes_deep_held : ∃ (i : Iface) (v : Word) (s : State), s.takes .PWR_CTL = true ∧ getF v
  Fld.PWR_CTL_REQ = 2 ∧ s.railsOff = true ∧ s.shipPend = false ∧ s.deepHeld = true :=
  ⟨.core, 0x80000000, { up with cm := { slots := [(0, { st := .waiting })] } }, by decide +kernel⟩
theorem wit_PowerModes_deep_begins : ∃ (i : Iface) (v : Word) (s : State), s.takes .PWR_CTL = true ∧ getF v
  Fld.PWR_CTL_REQ = 2 ∧ s.railsOff = true ∧ s.shipPend = false ∧ s.deepHeld = false :=
  ⟨.core, 0x80000000, up, by decide +kernel⟩
theorem wit_PowerModes_dropped : ∃ (i : Iface) (v : Word) (s : State), s.takes .PWR_CTL = true ∧ getF v Fld.PWR_CTL_REQ
  = 3 ∧ s.bit .PWR_STATUS 4 = true :=
  ⟨.core, 0xC0000000, up.wr .PWR_STATUS 0x10#32, by decide +kernel⟩
theorem wit_PowerModes_held_too_long : ∃ (s : State), s.bit .PWR_STATUS 4 = true :=
  ⟨up.wr .PWR_STATUS 0x10#32, by decide +kernel⟩
theorem wit_PowerModes_hold_ends : ∃ (s : State), s.wd.expired = false ∧ s.pw.mode ≠ .deepEntry ∧ s.bit .PWR_STATUS 4 =
  true ∧ s.deepHeld = false :=
  ⟨up.wr .PWR_STATUS 0x10#32, by decide +kernel⟩
theorem wit_PowerModes_enter : ∃ (s : State), s.wd.expired = false ∧ s.pw.mode = .deepEntry :=
  ⟨({ (up) with pw := { (up).pw with mode := .deepEntry } } : State), by decide +kernel⟩
theorem wit_PowerModes_wake_sleep : ∃ (w : Fin 6) (l : StartIn) (s : State), s.pw.mode = .sleep :=
  ⟨2, { scan := [], cal := [] }, ({ (up) with pw := { (up).pw with mode := .sleep } } : State), by decide +kernel⟩
theorem wit_PowerModes_wake_entry : ∃ (w : Fin 6) (l : StartIn) (s : State), s.pw.mode = .deepEntry ∧ s.bit .PWR_WAKE w
  = true :=
  ⟨2, { scan := [], cal := [] },
    ({ (up.wr .PWR_WAKE 0x3F#32) with pw := { (up.wr .PWR_WAKE 0x3F#32).pw with mode := .deepEntry } } : State),
    by decide +kernel⟩
theorem wit_PowerModes_wake_deep : ∃ (w : Fin 6) (l : StartIn) (s : State), s.pw.mode = .deep ∧ s.bit .PWR_WAKE w =
  true ∧ s.pw.start = none :=
  ⟨2, { scan := [], cal := [] },
    ({ (up.wr .PWR_WAKE 0x3F#32) with pw := { (up.wr .PWR_WAKE 0x3F#32).pw with mode := .deep } } : State),
    by decide +kernel⟩
theorem wit_PowerModes_timer : ∃ (l : StartIn) (s : State), s.pw.mode = .deep ∧ s.rd .PWR_TIMER ≠ 0#32 :=
  ⟨{ scan := [], cal := [] }, ({ (up.wr .PWR_TIMER 5#32) with pw := { (up.wr .PWR_TIMER 5#32).pw with mode := .deep } }
    : State), by decide +kernel⟩
theorem wit_Starts_start : ∃ (c : StartCause) (l : StartIn) (s : State), startFits s.pw.start c = true :=
  ⟨.powerOn, { scan := [], cal := [] }, { up with pw := { start := some .powerOn } }, by decide +kernel⟩
theorem wit_Starts_no_start : ∃ (c : StartCause) (l : StartIn) (s : State), startFits s.pw.start c = false :=
  ⟨.powerOn, { scan := [], cal := [] }, up, by decide +kernel⟩
theorem wit_Starts_restart : ∃ (d : Dom) (s : State), s.accepts = true ∧ s.pw.mc = .firmware ∧ s.pw.start = none ∧ d ≠
  .core ∧ d ∈ Dom.below .core ∧ (Dom.parent d).any s.powered = true :=
  ⟨.seq, up, by decide +kernel⟩
theorem wit_Starts_core_brownout : ∃ (d : Dom) (s : State), s.powered d = true ∧ (d = .nvm ∨ d = .core) :=
  ⟨.core, up, by decide +kernel⟩
theorem wit_StepTakesFront_front : ∃ (c : Instr) (r : List Instr) (s : State), s.pending = c :: r :=
  ⟨.refclkReturn, [], { up with pending := [.refclkReturn] }, by decide⟩
theorem wit_IdleTick_idle : ∃ (s : State), s.pending = [] :=
  ⟨up, by decide⟩
theorem wit_MemoryStaysCanonical_step : ∃ (s t : State), s.memOk ∧ Sys2Proof.Machine.step s = .next t :=
  ⟨State.reset, State.reset.tick, by exact ⟨by decide, rfl⟩⟩
theorem wit_PowerStaysATree_step : ∃ (s t : State), s.powerOk ∧ Sys2Proof.Machine.step s = .next t :=
  ⟨State.reset, State.reset.tick, by exact ⟨powerTree_aon, rfl⟩⟩
theorem wit_MarksAreNeverLost_step : ∃ (m : Nat) (s t : State), m ∈ s.ot.marks ∧ Sys2Proof.Machine.step s = .next t :=
  ⟨64, State.reset, State.reset.tick, by exact ⟨by decide, rfl⟩⟩
theorem wit_RegisterFrame_blocks : ∃ (c : Instr) (r : Reg) (s t : State), exec c s = .next t ∧ r.block ∉ frameBlocks c
  :=
  ⟨.setpointReached 17, .SYS_IADDR, up, up, by exact ⟨by rfl, by decide⟩⟩
theorem wit_OwnRegisters_own : ∃ (c : Instr) (r : Reg) (l : List Reg) (s t : State), ownRegs c = some l ∧ exec c s =
  .next t ∧ r ∉ l ∧ r.block ≠ .evt ∧ r.block ≠ .mem :=
  ⟨.setpointReached 17, .SYS_IADDR, [.RAIL_STATUS 17], up, up, by exact ⟨by rfl, by rfl, by decide, by decide, by
    decide⟩⟩
theorem wit_MemoryFrame_records : ∃ (c : Instr) (a : Nat) (s t : State), storesNothing c = true ∧ exec c s = .next t ∧
  s.memOk ∧ s.outsideRecords a :=
  ⟨.setpointReached 17, 5, up, up, by exact ⟨by decide, by rfl, by decide, fun _ _ _ h => by cases h⟩⟩
theorem wit_MemoryFrame_none : ∃ (c : Instr) (s t : State), touchesNoMemory c = true ∧ exec c s = .next t :=
  ⟨.setpointReached 17, up, up, by exact ⟨by decide, by rfl⟩⟩
theorem wit_UnpoweredAccess_write : ∃ (i : Iface) (a : Nat) (v : Word) (be : BitVec 4) (r : Reg) (s : State), s.accepts
  = true ∧ s.loader = false ∧ Reg.ofAddr (wordAddr a) = some r ∧ s.powered r.block.dom = false :=
  ⟨.core, 0x40002000, 5, 0xF, .STG_CFG 0, ({ up with pw := { up.pw with on := [.aon, .nvm, .core] } } : State),
    by decide +kernel⟩
theorem wit_UnpoweredAccess_event : ∃ (b : Block) (s : State), s.frozen = false ∧ (s.src 2).queued = none :=
  ⟨.swy, up, by decide +kernel⟩
theorem wit_UnpoweredAccess_write_gap : ∃ (i : Iface) (a : Nat) (v : Word) (be : BitVec 4) (b : Block) (s : State),
  s.accepts = true ∧ s.loader = false ∧ Block.ofAddr (wordAddr a) = some b ∧ Reg.ofAddr (wordAddr a) = none ∧ s.powered
  b.dom = false :=
  ⟨.core, 0x40002FFC, 5, 0xF, .swy, ({ up with pw := { up.pw with on := [.aon, .nvm, .core] } } : State),
    by decide +kernel⟩
theorem wit_UnpoweredAccess_read_gap : ∃ (i : Iface) (b : Block) (s : State), s.served = true ∧ s.loader = false ∧
  s.powered .aon = true ∧ Block.ofAddr (wordAddr (s.rd .SYS_IADDR).toNat) = some b ∧ Reg.ofAddr (wordAddr (s.rd
  .SYS_IADDR).toNat) = none ∧ s.powered b.dom = false :=
  ⟨.twoWire, .swy, ({ up with pw := { up.pw with on := [.aon, .nvm, .core] } } : State).wr .SYS_IADDR 0x40002FFC#32,
    by decide +kernel⟩
theorem wit_UnpoweredAccess_read : ∃ (i : Iface) (r : Reg) (s : State), s.served = true ∧ s.loader = false ∧ s.powered
  .aon = true ∧ Reg.ofAddr (wordAddr (s.rd .SYS_IADDR).toNat) = some r ∧ s.powered r.block.dom = false :=
  ⟨.twoWire, .STG_CFG 0, ({ up with pw := { up.pw with on := [.aon, .nvm, .core] } } : State).wr .SYS_IADDR
    0x40002000#32, by decide +kernel⟩
theorem wit_IgnoredWrites_shed : ∃ (i : Iface) (v : Word) (be : BitVec 4) (e : Fin 8) (s : State), s.takes (.LPE_SHED
  e) = true ∧ (getF (s.merged (.LPE_SHED e) v be) Fld.LPE_SHED_SHEDTH < 10 ∨ 90 < getF (s.merged (.LPE_SHED e) v be)
  Fld.LPE_SHED_SHEDTH ∨ getF (s.merged (.LPE_SHED e) v be) Fld.LPE_SHED_RESTTH < getF (s.merged (.LPE_SHED e) v be)
  Fld.LPE_SHED_SHEDTH + 50) :=
  ⟨.core, 0x3263, 0xF, 3, up, by decide +kernel⟩
theorem wit_IgnoredWrites_step : ∃ (i : Iface) (v : Word) (be : BitVec 4) (g : Fin 8) (j : Fin 64) (q : Reg) (s :
  State), s.takes (.TTB_STEP g j) = true ∧ s.fld (.TTB_G_STATUS g) Fld.TTB_G_STATUS_STATE ≠ 0 :=
  ⟨.core, 0x20000009, 0xF, 2, 5, .SYS_IADDR, up.put (.TTB_G_STATUS 2) Fld.TTB_G_STATUS_STATE 2, by decide +kernel⟩
theorem wit_IgnoredWrites_brown : ∃ (i : Iface) (v : Word) (be : BitVec 4) (s : State), s.takes .TTB_BOUT = true ∧
  (getF (s.merged .TTB_BOUT v be) Fld.TTB_BOUT_VOFF < 60 ∨ getF (s.merged .TTB_BOUT v be) Fld.TTB_BOUT_VON < getF
  (s.merged .TTB_BOUT v be) Fld.TTB_BOUT_VOFF + 3) :=
  ⟨.core, 0x40, 0xF, up, by decide +kernel⟩
theorem wit_IgnoredWrites_path : ∃ (i : Iface) (v : Word) (be : BitVec 4) (q : Reg) (s : State), s.takes .BKP_PATH =
  true ∧ getF (s.merged .BKP_PATH v be) Fld.BKP_PATH_SRC_ON < getF (s.merged .BKP_PATH v be) Fld.BKP_PATH_SRC_OFF + 3
  :=
  ⟨.core, 0x10, 0xF, .SYS_IADDR, up, by decide +kernel⟩
theorem wit_IgnoredWrites_qualify : ∃ (i : Iface) (v : Word) (be : BitVec 4) (q : Reg) (s : State), s.takes .BKP_QUAL =
  true ∧ (getF (s.merged .BKP_QUAL v be) Fld.BKP_QUAL_QUAL < 20 ∨ 1000 < getF (s.merged .BKP_QUAL v be)
  Fld.BKP_QUAL_QUAL ∨ getF (s.merged .BKP_QUAL v be) Fld.BKP_QUAL_HBMIN < 200 ∨ 10000 < getF (s.merged .BKP_QUAL v be)
  Fld.BKP_QUAL_HBMIN) :=
  ⟨.core, 0x10, 0xF, .SYS_IADDR, up, by decide +kernel⟩
theorem wit_IgnoredWrites_phase : ∃ (i : Iface) (v : Word) (be : BitVec 4) (n : Fin 20) (s : State), s.takes
  (.POL_R_PHASE n) = true ∧ (getF (s.merged (.POL_R_PHASE n) v be) Fld.POL_R_PHASE_LOW < 10 ∨ 90 < getF (s.merged
  (.POL_R_PHASE n) v be) Fld.POL_R_PHASE_LOW ∨ getF (s.merged (.POL_R_PHASE n) v be) Fld.POL_R_PHASE_HIGH < getF
  (s.merged (.POL_R_PHASE n) v be) Fld.POL_R_PHASE_LOW + 10 ∨ 100 < getF (s.merged (.POL_R_PHASE n) v be)
  Fld.POL_R_PHASE_HIGH ∨ getF (s.merged (.POL_R_PHASE n) v be) Fld.POL_R_PHASE_MINPH = 0 ∨ 8 < getF (s.merged
  (.POL_R_PHASE n) v be) Fld.POL_R_PHASE_MINPH) :=
  ⟨.core, 0x08082864, 0xF, 2, up, by decide +kernel⟩
theorem wit_IgnoredWrites_derate : ∃ (i : Iface) (v : Word) (be : BitVec 4) (n : Fin 20) (s : State), s.takes
  (.POL_R_DER n) = true ∧ (toSigned 8 (getF (s.merged (.POL_R_DER n) v be) Fld.POL_R_DER_TMAX) < toSigned 8 (getF
  (s.merged (.POL_R_DER n) v be) Fld.POL_R_DER_TDER) + 5 ∨ getF (s.merged (.POL_R_DER n) v be) Fld.POL_R_DER_FMIN < 10
  ∨ 100 < getF (s.merged (.POL_R_DER n) v be) Fld.POL_R_DER_FMIN) :=
  ⟨.core, 0x80505014, 0xF, 2, up, by decide +kernel⟩
theorem wit_IgnoredWrites_watchdog : ∃ (i : Iface) (v : Word) (be : BitVec 4) (n : Nat) (q : Reg) (s : State), s.takes
  .WDG_CTL = true ∧ 2 ≤ n ∧ n < 8 ∧ s.wdgReg n = true :=
  ⟨.core, 0x80000010, 0xF, 2, .SYS_IADDR, up.wr (.WDG_T_CFG 2) 0x80032064#32, by decide +kernel⟩
theorem wit_GaugeWrites_cycles : ∃ (i : Iface) (v : Word) (be : BitVec 4) (s : State), s.takes .GAU_CYCLES = true ∧
  s.gauSt = 1 :=
  ⟨.core, 90, 0xF, up.put .GAU_STATUS Fld.GAU_STATUS_STATE 1, by decide +kernel⟩
theorem wit_GaugeWrites_cycles_refused : ∃ (i : Iface) (v : Word) (be : BitVec 4) (s : State), s.takes .GAU_CYCLES =
  true ∧ s.gauSt ≠ 1 :=
  ⟨.core, 90, 0xF, up, by decide +kernel⟩
theorem wit_GaugeWrites_newpack : ∃ (i : Iface) (v : Word) (be : BitVec 4) (s : State), s.takes .GAU_CTL = true ∧ wbit
  (v &&& byteMask be) 31 = true ∧ getF (v &&& byteMask be) Fld.GAU_CTL_KEY = 0xA5 :=
  ⟨.core, 0x8000A500, 0xF, up.wr .GAU_STATUS 0x32#32, by decide +kernel⟩
theorem wit_GaugeWrites_newpack_key : ∃ (i : Iface) (v : Word) (be : BitVec 4) (s : State), s.takes .GAU_CTL = true ∧
  getF (v &&& byteMask be) Fld.GAU_CTL_KEY ≠ 0xA5 :=
  ⟨.core, 0x8000A400, 0xF, up, by decide +kernel⟩
theorem wit_WatchdogWarning_warn : ∃ (n : Fin 8) (r : Reg) (s : State), s.taskRuns n = true ∧ s.tokened n = false :=
  ⟨2, .WDG_CTL, (up.wr (.WDG_T_CFG 2) 0x80032064#32).putBit (.WDG_T_STAT 2) 16 true, by decide +kernel⟩
theorem wit_WatchdogWarning_event : ∃ (n : Fin 8) (s : State), s.taskRuns n = true ∧ s.tokened n = false ∧ s.bit
  .WDG_FLAG 1 = false ∧ s.frozen = false ∧ (s.src 153).queued = none ∧ (s.src 153).waiting = 0 ∧ s.sense 153 ≠ 2 :=
  ⟨2, ((up.wr (.WDG_T_CFG 2) 0x80032064#32).putBit (.WDG_T_STAT 2) 16 true), by decide +kernel⟩
theorem wit_BusCommands_store : ∃ (i : Iface) (a : Nat) (r : Reg) (v : Word) (be : BitVec 4) (s : State), Reg.ofAddr
  (wordAddr a) = some r ∧ r.stored = true ∧ s.takes r = true :=
  ⟨.twoWire, 0x40000008, .SYS_IADDR, 0x123, 0x3, up, by decide +kernel⟩
theorem wit_BusCommands_sram : ∃ (i : Iface) (v : Word) (a : Nat) (s : State), s.accepts = true ∧ s.sramServed a = true
  ∧ a < 0x40000 ∧ a % 4 = 0 ∧ s.memOk :=
  ⟨.core, 5, 0x3FFFC, up, by decide +kernel⟩
theorem wit_BusCommands_window : ∃ (i : Iface) (v w : Word) (be : BitVec 4) (b : Nat) (s : State), s.takes .SYS_WINBASE
  = true ∧ w = s.merged .SYS_WINBASE v be ∧ b = getF w Fld.SYS_WINBASE_BASE :=
  ⟨.twoWire, 0x101F, 0x101F, 0x3, 0x101F, up, by decide +kernel⟩
theorem wit_BusCommands_read_sram : ∃ (i : Iface) (a : Nat) (s : State), s.served = true ∧ s.powered .aon = true ∧ a =
  wordAddr (s.rd .SYS_IADDR).toNat ∧ a < 0x40000 ∧ s.sramServed a = true ∧ s.sramBad a = none :=
  ⟨.twoWire, 0x3FFFC, up.wr .SYS_IADDR 0x3FFFC#32, by decide +kernel⟩
theorem wit_BusCommands_read_register : ∃ (i : Iface) (r : Reg) (s : State), s.served = true ∧ s.loader = false ∧
  s.powered .aon = true ∧ Reg.ofAddr (wordAddr (s.rd .SYS_IADDR).toNat) = some r ∧ r.stored = true ∧ s.powered
  r.block.dom = true :=
  ⟨.twoWire, .PWR_WAKE, up.wr .SYS_IADDR (BitVec.ofNat 32 (Reg.addr .PWR_WAKE)), by decide +kernel⟩
theorem wit_BusCommands_write_sram : ∃ (i : Iface) (v : Word) (a : Nat) (s : State), s.takes .SYS_IDATA = true ∧ a =
  wordAddr (s.rd .SYS_IADDR).toNat ∧ a < 0x40000 ∧ s.sramServed a = true ∧ s.memOk :=
  ⟨.twoWire, 7, 0x3FFFC, up.wr .SYS_IADDR 0x3FFFC#32, by decide +kernel⟩
theorem wit_BusCommands_write_register : ∃ (i : Iface) (r : Reg) (v : Word) (be : BitVec 4) (u s : State), s.takes
  .SYS_IDATA = true ∧ Reg.ofAddr (wordAddr (s.rd .SYS_IADDR).toNat) = some r ∧ r.stored = true ∧ s.takes r = true ∧ u =
  (s.wr r ((s.rd r &&& ~~~ r.rw) ||| (s.merged r v be &&& r.rw))) :=
  ⟨.line, .PWR_WAKE, 7, 0x1, _, up.wr .SYS_IADDR (BitVec.ofNat 32 (Reg.addr .PWR_WAKE)), by exact ⟨by decide +kernel,
    by decide +kernel, by decide +kernel, by decide +kernel, rfl⟩⟩
theorem wit_BusCommands_power_up : ∃ (d p : Dom) (s : State), s.accepts = true ∧ s.pw.start = none ∧ s.pw.mc =
  .firmware ∧ s.powered d = false ∧ Dom.parent d = some p ∧ s.powered p = true ∧ (d ≠ .link ∨ s.pins.refclk = true) :=
  ⟨.link, .core, { up with pins := { up.pins with refclk := true }, pw := { up.pw with on := [.aon, .nvm, .core] } },
    by decide +kernel⟩
theorem wit_BusCommands_brownout : ∃ (d : Dom) (s : State), s.powered d = true ∧ d ≠ .aon ∧ d ≠ .nvm ∧ d ≠ .core :=
  ⟨.seq, up, by decide +kernel⟩
theorem wit_BusCommands_clock_lost : ∃ (s : State), s.pins.refclk = true ∧ s.powered .link = true ∧ s.dark = false :=
  ⟨{ up with pins := { up.pins with refclk := true } }, by decide +kernel⟩
theorem wit_SwitchyardWrites_cfg_ninth : ∃ (i : Iface) (v w : Word) (be : BitVec 4) (m : Fin 24) (s : State), s.takes
  (.STG_CFG m) = true ∧ w = s.merged (.STG_CFG m) v be ∧ (s.badRail m (getF w Fld.STG_CFG_RAIL) = true ∨ s.badRail m
  (getF w Fld.STG_CFG_HOME) = true ∨ s.gangFull m (getF w Fld.STG_CFG_RAIL) = true) :=
  ⟨.core, 0x1E1F1080, 0x1E1F1080, 0xF, 4, up, by decide +kernel⟩
theorem wit_SwitchyardWrites_cfg_whole : ∃ (i : Iface) (v w : Word) (be : BitVec 4) (m : Fin 24) (s : State), s.takes
  (.STG_CFG m) = true ∧ w = (if getF (s.merged (.STG_CFG m) v be) Fld.STG_CFG_DEMODE = 3 then putF (s.merged (.STG_CFG
  m) v be) Fld.STG_CFG_DEMODE 0 else s.merged (.STG_CFG m) v be) ∧ s.badRail m (getF w Fld.STG_CFG_RAIL) = false ∧
  s.badRail m (getF w Fld.STG_CFG_HOME) = false ∧ s.gangFull m (getF w Fld.STG_CFG_RAIL) = false ∧ (s.stgSt m = 0 ∨
  s.stgSt m = 7 ∨ s.stgSt m = 8) ∧ s.idleOrOff (s.stgRail m) = true ∧ s.idleOrOff (getF w Fld.STG_CFG_RAIL) = true :=
  ⟨.core, 0x021F10C0, 0x021F1000, 0xF, 4, up, by decide +kernel⟩
theorem wit_SwitchyardWrites_cfg_live : ∃ (i : Iface) (v w : Word) (be : BitVec 4) (m : Fin 24) (s : State), s.takes
  (.STG_CFG m) = true ∧ w = (if getF (s.merged (.STG_CFG m) v be) Fld.STG_CFG_DEMODE = 3 then putF (s.merged (.STG_CFG
  m) v be) Fld.STG_CFG_DEMODE 0 else s.merged (.STG_CFG m) v be) ∧ s.badRail m (getF w Fld.STG_CFG_RAIL) = false ∧
  s.badRail m (getF w Fld.STG_CFG_HOME) = false ∧ s.gangFull m (getF w Fld.STG_CFG_RAIL) = false ∧ ((s.stgSt m ≠ 0 ∧
  s.stgSt m ≠ 7 ∧ s.stgSt m ≠ 8) ∨ s.idleOrOff (s.stgRail m) = false ∨ s.idleOrOff (getF w Fld.STG_CFG_RAIL) = false)
  :=
  ⟨.core, 0x40, _, 0x1, 4, (up).put (.STG_STATE 4) Fld.STG_STATE_STATE 4, by exact ⟨by decide +kernel, rfl,
    by decide +kernel⟩⟩
theorem wit_SwitchyardWrites_point : ∃ (i : Iface) (v : Word) (be : BitVec 4) (k : Fin 8) (s : State), s.takes
  (.PNT_CFG k) = true ∧ k.val ∉ s.pins.closed :=
  ⟨.core, 0x80000503, 0xF, 2, up, by decide +kernel⟩
theorem wit_SwitchyardWrites_point_closed : ∃ (i : Iface) (v : Word) (be : BitVec 4) (k : Fin 8) (s : State), s.takes
  (.PNT_CFG k) = true ∧ k.val ∈ s.pins.closed :=
  ⟨.core, 0x80000503, 0xF, 2, { up with pins := { closed := [2] } }, by decide +kernel⟩
theorem wit_SwitchyardWrites_flags : ∃ (i : Iface) (v : Word) (be : BitVec 4) (m : Fin 24) (b : Fin 32) (s : State),
  s.takes (.STG_FLAG m) = true :=
  ⟨.core, 5, 0x1, 4, 2, up.wr (.STG_FLAG 4) 0xFF#32, by decide +kernel⟩
theorem wit_SwitchyardWrites_unblocked : ∃ (i : Iface) (v : Word) (be : BitVec 4) (m : Fin 24) (s : State), s.takes
  (.STG_FLAG m) = true :=
  ⟨.core, 1, 0x1, 4, (up.putBit (.STG_FLAG 4) 0 true).put (.STG_STATE 4) Fld.STG_STATE_STATE 7, by decide +kernel⟩

end Sys2Proof.Tests
end

/-!
SUPPORT. Flags that a write clears, and the switchyard's registers under the operations that its writes share: what a
read sees after each of them.
-/

namespace Sys2Proof.Machine

open Host (Outcome)

variable {s : State} {q : Reg}

/-! ### Clearing flags (R7) -/

theorem State.rd_each {α : Type} {f : α → State → State} (l : List α) (h : ∀ x s, (f x s).rd q = s.rd q) :
    (each l f s).rd q = s.rd q := by
  unfold each
  induction l generalizing s with
  | nil => rfl
  | cons x t ih => exact (ih (s := f x s)).trans (h x s)

/-- The fall of a condition reaches the registers of EVT and MEM alone. -/
theorem State.rd_condFall (src info code : Nat) (hm : q.block ≠ .mem) (he : q.block ≠ .evt) :
    (s.condFall src info code).rd q = s.rd q :=
  (State.condFall_keeps (B := fun x => x = .mem ∨ x = .evt) (M := True) (Keeps.refl s) (.inl rfl) (.inr rfl) trivial).regs q
    (by simp [hm, he])

theorem State.rd_clearFlag (r : Reg) (b : Nat) (hm : q.block ≠ .mem) (he : q.block ≠ .evt) :
    (s.clearFlag r b).rd q = if q = r ∧ s.bit r b = true then wputBit (s.rd r) b false else s.rd q := by
  unfold State.clearFlag
  by_cases hb : s.bit r b = true
  · have hp : (s.putBit r b false).rd q = if q = r then wputBit (s.rd r) b false else s.rd q := State.rd_putBit ..
    rw [if_pos hb]
    split
    · simp [hp, hb]
    · simp [State.rd_condFall _ _ _ hm he, hp, hb]
  · simp [hb]

theorem State.bit_clearFlag (r : Reg) (b j : Nat) (hb : b < 32) (hm : r.block ≠ .mem) (he : r.block ≠ .evt) :
    (s.clearFlag r b).bit r j = (s.bit r j && !decide (j = b)) := by
  unfold State.bit
  rw [State.rd_clearFlag r b hm he]
  by_cases hj : j = b
  · subst hj
    by_cases hs : s.bit r j = true
    · simp [hs, hb]
    · simp [hs, show wbit (s.rd r) j = false by simpa [State.bit] using hs]
  · split
    · simp [wbit_wputBit_other _ _ _ _ hb hj, hj]
    · simp [hj]

/-- A list of flags cleared one after the other: exactly those of the list read 0. -/
theorem State.bit_each_clearFlag (r : Reg) (j : Nat) (l : List Nat) (hl : ∀ b ∈ l, b < 32) (hm : r.block ≠ .mem)
    (he : r.block ≠ .evt) : (each l (fun b s => s.clearFlag r b) s).bit r j = (s.bit r j && !decide (j ∈ l)) := by
  unfold each
  induction l generalizing s with
  | nil => simp
  | cons b t ih =>
    rw [List.foldl_cons, ih fun x hx => hl x (List.mem_cons_of_mem b hx),
      State.bit_clearFlag r b j (hl b List.mem_cons_self) hm he]
    simp [Bool.and_assoc]

theorem mem_bitsOf (w : Word) (j : Nat) : j ∈ bitsOf w ↔ wbit w j = true := by
  simp only [bitsOf, wbit, List.mem_filter, List.mem_range, and_iff_right_iff_imp]
  exact BitVec.lt_of_getLsbD

theorem State.bit_clearFlags (r : Reg) (w : Word) (j : Nat) (hm : r.block ≠ .mem) (he : r.block ≠ .evt) :
    (s.clearFlags r w).bit r j = (s.bit r j && !wbit w j) := by
  unfold State.clearFlags
  rw [State.bit_each_clearFlag r j _ (fun b hb => BitVec.lt_of_getLsbD ((mem_bitsOf w b).mp hb)) hm he]
  simp [mem_bitsOf]

theorem State.rd_clearFlags_other (r : Reg) (w : Word) (hq : q ≠ r) (hm : q.block ≠ .mem) (he : q.block ≠ .evt) :
    (s.clearFlags r w).rd q = s.rd q :=
  State.rd_each _ fun b s => by rw [State.rd_clearFlag r b hm he, if_neg fun h => hq h.1]

/-! ### The switchyard's shared operations -/

@[simp] theorem block_stgCfg (m : Nat) : (Reg.STG_CFG m).block = .swy := rfl
@[simp] theorem block_stgFlag (m : Nat) : (Reg.STG_FLAG m).block = .swy := rfl
@[simp] theorem block_stgState (m : Nat) : (Reg.STG_STATE m).block = .swy := rfl
@[simp] theorem block_pntCfg (k : Nat) : (Reg.PNT_CFG k).block = .swy := rfl
@[simp] theorem block_fltStat (k : Nat) : (Reg.FLT_STAT k).block = .flt := rfl

/-- Showing the exclusion of the stages changes their states and flags alone (R76). -/
theorem State.rd_showExcluded (hs : ∀ m, q ≠ .STG_STATE m) (hf : ∀ m, q ≠ .STG_FLAG m) (hm : q.block ≠ .mem)
    (he : q.block ≠ .evt) : s.showExcluded.rd q = s.rd q := by
  refine State.rd_each _ fun m s => ?_
  have hp : (s.put (.STG_STATE m) Fld.STG_STATE_EXCL (b2n (s.excluded m))).rd q = s.rd q := by simp [hs m]
  dsimp only
  split
  · exact (State.rd_setFlag_other _ _ _ _ _ (hf m) hm he).trans hp
  · exact hp

/-- The registers that a stage's coming to rest writes (R90, R92). -/
theorem State.rd_stageRest_eq (m st : Nat) : (s.stageRest m st).rd q = (((s.put (.STG_STATE m) Fld.STG_STATE_STATE st).put
    (.STG_STATE m) Fld.STG_STATE_SHARE 0).put (.STG_TRIM m) Fld.STG_TRIM_TRIM 0).rd q := rfl

theorem State.rd_stageRest_other (m st : Nat) (hs : q ≠ .STG_STATE m) (ht : q ≠ .STG_TRIM m) :
    (s.stageRest m st).rd q = s.rd q := by
  simp [State.rd_stageRest_eq, hs, ht]

theorem State.stgSt_stageRest (m st : Nat) : (s.stageRest m st).stgSt m = st % 16 := by
  have hr : (s.stageRest m st).rd (.STG_STATE m) =
      putF (putF (s.rd (.STG_STATE m)) Fld.STG_STATE_STATE st) Fld.STG_STATE_SHARE 0 := by
    simp [State.rd_stageRest_eq]
  rw [State.stgSt, State.fld, hr, getF_putF_other _ _ _ _ rfl (by decide), getF_putF _ _ _ rfl]
  rfl

/-! ### Writes of STG_CFG (R78) -/

/-- The word of a write of STG_CFG as it is judged and stored: DEMODE 0b11 counts as 0b00. -/
def stgCfgWord (w : Word) : Word :=
  if getF w Fld.STG_CFG_DEMODE = 3 then putF w Fld.STG_CFG_DEMODE 0 else w

/-- The ownership and gang-size rules turn a write of STG_CFG down. -/
def State.stgCfgRefused (s : State) (m : Nat) (w : Word) : Bool :=
  s.badRail m (getF w Fld.STG_CFG_RAIL) || s.badRail m (getF w Fld.STG_CFG_HOME) || s.gangFull m (getF w Fld.STG_CFG_RAIL)

/-- The stage and its rails are at rest, so that a write of STG_CFG is stored whole. -/
def State.stgCfgIdle (s : State) (m : Nat) (w : Word) : Bool :=
  (s.stgSt m == gOff || s.stgSt m == gBlocked || s.stgSt m == gLatched) && s.idleOrOff (s.stgRail m) &&
    s.idleOrOff (getF w Fld.STG_CFG_RAIL)

/-- The judgement does not look at DEMODE. -/
theorem State.stgCfgRefused_stgCfgWord (m : Nat) (w : Word) : s.stgCfgRefused m (stgCfgWord w) = s.stgCfgRefused m w := by
  unfold stgCfgWord
  split
  · unfold State.stgCfgRefused
    rw [getF_putF_other _ _ Fld.STG_CFG_RAIL _ rfl (by decide), getF_putF_other _ _ Fld.STG_CFG_HOME _ rfl (by decide)]
  · rfl

theorem State.wrStgCfg_eq (m : Nat) (w : Word) : s.wrStgCfg m w =
    if s.stgCfgRefused m (stgCfgWord w) then s.setFlag (.STG_FLAG m) 7
    else if s.stgCfgIdle m (stgCfgWord w) then (s.writeRw (.STG_CFG m) (stgCfgWord w)).showExcluded
    else ((s.put (.STG_CFG m) Fld.STG_CFG_DEMODE (getF (stgCfgWord w) Fld.STG_CFG_DEMODE)).put (.STG_CFG m)
      Fld.STG_CFG_PARKOK (getF (stgCfgWord w) Fld.STG_CFG_PARKOK)).setFlag (.STG_FLAG m) 6 := rfl

theorem State.rd_showExcluded_stgCfg (m : Nat) : s.showExcluded.rd (.STG_CFG m) = s.rd (.STG_CFG m) :=
  State.rd_showExcluded (by simp) (by simp) (by simp) (by simp)

theorem State.rd_showExcluded_pntCfg (k : Nat) : s.showExcluded.rd (.PNT_CFG k) = s.rd (.PNT_CFG k) :=
  State.rd_showExcluded (by simp) (by simp) (by simp) (by simp)

theorem State.rd_setFlag_stgFlag_stgCfg (m b : Nat) : (s.setFlag (.STG_FLAG m) b).rd (.STG_CFG m) = s.rd (.STG_CFG m) :=
  State.rd_setFlag_other _ _ _ _ _ (by simp) (by simp) (by simp)

/-- A flag of a stage that is set leaves the stage's other flags. -/
theorem State.bit_setFlag_stgFlag_other (m b j : Nat) (hb : b < 32) (hj : j ≠ b) :
    (s.setFlag (.STG_FLAG m) b).bit (.STG_FLAG m) j = s.bit (.STG_FLAG m) j := by
  unfold State.bit State.setFlag
  rw [State.rd_setFlagI _ _ _ _ (by simp) (by simp)]
  split
  · rfl
  · exact wbit_wputBit_other _ _ _ _ hb hj

theorem State.wrStgCfg_refused (m : Nat) (w : Word) (h : s.stgCfgRefused m w = true) :
    (s.wrStgCfg m w).rd (.STG_CFG m) = s.rd (.STG_CFG m) ∧ (s.wrStgCfg m w).bit (.STG_FLAG m) 7 = true ∧
    (s.wrStgCfg m w).bit (.STG_FLAG m) 6 = s.bit (.STG_FLAG m) 6 := by
  rw [State.wrStgCfg_eq, State.stgCfgRefused_stgCfgWord, if_pos h]
  exact ⟨State.rd_setFlag_stgFlag_stgCfg m 7, State.bit_setFlag _ _ (by decide) (by simp) (by simp),
    State.bit_setFlag_stgFlag_other m 7 6 (by decide) (by decide)⟩

theorem State.wrStgCfg_whole (m : Nat) (w : Word) (h : s.stgCfgRefused m (stgCfgWord w) = false)
    (hi : s.stgCfgIdle m (stgCfgWord w) = true) : (s.wrStgCfg m w).rd (.STG_CFG m) =
      (s.rd (.STG_CFG m) &&& ~~~ Reg.rw (.STG_CFG m)) ||| (stgCfgWord w &&& Reg.rw (.STG_CFG m)) := by
  rw [State.wrStgCfg_eq, if_neg (by simp [h]), if_pos hi, State.rd_showExcluded_stgCfg, State.rd_writeRw, if_pos rfl]

theorem State.wrStgCfg_live (m : Nat) (w : Word) (h : s.stgCfgRefused m (stgCfgWord w) = false)
    (hi : s.stgCfgIdle m (stgCfgWord w) = false) :
    (s.wrStgCfg m w).rd (.STG_CFG m) = putF (putF (s.rd (.STG_CFG m)) Fld.STG_CFG_DEMODE
      (getF (stgCfgWord w) Fld.STG_CFG_DEMODE)) Fld.STG_CFG_PARKOK (getF (stgCfgWord w) Fld.STG_CFG_PARKOK) ∧
    (s.wrStgCfg m w).bit (.STG_FLAG m) 6 = true := by
  rw [State.wrStgCfg_eq, if_neg (by simp [h]), if_neg (by simp [hi])]
  refine ⟨?_, State.bit_setFlag _ _ (by decide) (by simp) (by simp)⟩
  rw [State.rd_setFlag_stgFlag_stgCfg, State.rd_put, if_pos rfl, State.rd_put, if_pos rfl]

/-! ### Writes of PNT_CFG and STG_FLAG (R89, R99) -/

theorem State.wrPnt_open (k : Nat) (w : Word) (h : k ∉ s.pins.closed) : (s.wrPnt k w).rd (.PNT_CFG k) =
    (s.rd (.PNT_CFG k) &&& ~~~ Reg.rw (.PNT_CFG k)) ||| (w &&& Reg.rw (.PNT_CFG k)) := by
  unfold State.wrPnt
  rw [if_neg (by simpa using h), State.rd_showExcluded_pntCfg, State.rd_writeRw, if_pos rfl]

theorem State.wrPnt_closed (k : Nat) (w : Word) (h : k ∈ s.pins.closed) : s.wrPnt k w = s :=
  if_pos (by simpa using h)

/-- STG_FLAG has no RW field: a narrow write puts together the bytes sent and zeros. -/
theorem State.merged_stgFlag (m : Nat) (v : Word) (be : BitVec 4) :
    s.merged (.STG_FLAG m) v be = v &&& byteMask be := by
  simp [State.merged, show Reg.rw (.STG_FLAG m) = 0#32 from rfl]

/-- The clearing of a stage's flags leaves its state and the fault sources. -/
theorem State.stgSt_clearFlags (m : Nat) (w : Word) : (s.clearFlags (.STG_FLAG m) w).stgSt m = s.stgSt m := by
  simp only [State.stgSt, State.fld]
  rw [State.rd_clearFlags_other _ _ (by simp) (by simp) (by simp)]

theorem State.latched_clearFlags (m f : Nat) (w : Word) : (s.clearFlags (.STG_FLAG m) w).latched f = s.latched f := by
  simp only [State.latched, State.bit]
  rw [State.rd_clearFlags_other _ _ (by simp) (by simp) (by simp)]

/-- HSSHORT written 1 frees a stage that is BLOCKED while its source is clear. -/
theorem State.wrStgFlag_eq (m : Nat) (w : Word) : s.wrStgFlag m w =
    let s1 := s.clearFlags (.STG_FLAG m) (w &&& Reg.w1c (.STG_FLAG m) &&& ~~~ s.stgCause m)
    if wbit w 0 = true ∧ s.stgSt m = gBlocked ∧ s.latched m = false then s1.stageRest m gOff else s1 := by
  simp [State.wrStgFlag, State.clearFlagsBut, State.stgSt_clearFlags, State.latched_clearFlags, and_assoc]

theorem State.bit_wrStgFlag (m : Nat) (w : Word) (b : Nat) (hb : b < 32) : (s.wrStgFlag m w).bit (.STG_FLAG m) b =
    (s.bit (.STG_FLAG m) b && !(wbit (w &&& Reg.w1c (.STG_FLAG m)) b && !wbit (s.stgCause m) b)) := by
  have hc : (s.wrStgFlag m w).bit (.STG_FLAG m) b =
      (s.clearFlags (.STG_FLAG m) (w &&& Reg.w1c (.STG_FLAG m) &&& ~~~ s.stgCause m)).bit (.STG_FLAG m) b := by
    rw [State.wrStgFlag_eq]
    dsimp only
    split
    · unfold State.bit
      rw [State.rd_stageRest_other _ _ (by simp) (by simp)]
    · rfl
  rw [hc, State.bit_clearFlags _ _ _ (by simp) (by simp)]
  simp [wbit, hb]

theorem State.stgSt_wrStgFlag (m : Nat) (w : Word) : (s.wrStgFlag m w).stgSt m =
    if wbit w 0 = true ∧ s.stgSt m = gBlocked ∧ s.latched m = false then gOff else s.stgSt m := by
  rw [State.wrStgFlag_eq]
  dsimp only
  split
  · exact State.stgSt_stageRest m gOff
  · exact State.stgSt_clearFlags m _

/-! ### The commands -/

variable {i : Iface} {v : Word} {be : BitVec 4}

theorem exec_stgCfgWrite {m : Fin 24} (h : s.takes (.STG_CFG m) = true) :
    exec (.stgCfgWrite i m v be) s = .next (s.wrStgCfg m (s.merged (.STG_CFG m) v be)) :=
  congrArg Outcome.next (State.guardWrite_takes h)

theorem exec_pntCfgWrite {k : Fin 8} (h : s.takes (.PNT_CFG k) = true) :
    exec (.pntCfgWrite i k v be) s = .next (s.wrPnt k (s.merged (.PNT_CFG k) v be)) :=
  congrArg Outcome.next (State.guardWrite_takes h)

theorem exec_stgFlagWrite {m : Fin 24} (h : s.takes (.STG_FLAG m) = true) :
    exec (.stgFlagWrite i m v be) s = .next (s.wrStgFlag m (v &&& byteMask be)) :=
  congrArg Outcome.next ((State.guardWrite_takes h).trans (by rw [State.merged_stgFlag]))

/-- Settles O60: each clause is the lemma of the register's own write that covers its case. -/
theorem switchyardWrites : Obligations.SwitchyardWrites := by
  unfold Obligations.SwitchyardWrites
  refine ⟨?refused, ?whole, ?live, ?pntOpen, ?pntClosed, ?flags, ?unblocked⟩
  case refused =>
    intro i v w be m s ht hw hr
    subst hw
    exact ⟨_, exec_stgCfgWrite ht, State.wrStgCfg_refused m _ (by simpa [State.stgCfgRefused, or_assoc] using hr)⟩
  case whole =>
    intro i v w be m s ht hw hrail hhome hgang hst hold hnew
    subst hw
    exact ⟨_, exec_stgCfgWrite ht, State.wrStgCfg_whole m _
      (by simp [State.stgCfgRefused, stgCfgWord, hrail, hhome, hgang])
      (by simp [State.stgCfgIdle, stgCfgWord, hold, hnew, hst, or_assoc])⟩
  case live =>
    intro i v w be m s ht hw hrail hhome hgang hbusy
    subst hw
    refine ⟨_, exec_stgCfgWrite ht, State.wrStgCfg_live m _
      (by simp [State.stgCfgRefused, stgCfgWord, hrail, hhome, hgang]) ?_⟩
    rcases hbusy with ⟨h0, h7, h8⟩ | hold | hnew
    · simp [State.stgCfgIdle, h0, h7, h8]
    · simp [State.stgCfgIdle, hold]
    · simp [State.stgCfgIdle, stgCfgWord, hnew]
  case pntOpen =>
    intro i v be k s ht hk
    exact ⟨_, exec_pntCfgWrite ht, State.wrPnt_open k _ hk⟩
  case pntClosed =>
    intro i v be k s ht hk
    rw [exec_pntCfgWrite ht, State.wrPnt_closed k _ hk]
  case flags =>
    intro i v be m b s ht
    exact ⟨_, exec_stgFlagWrite ht, State.bit_wrStgFlag m _ b b.isLt⟩
  case unblocked =>
    intro i v be m s ht
    exact ⟨_, exec_stgFlagWrite ht, State.stgSt_wrStgFlag m _⟩

end Sys2Proof.Machine

/-!
SUPPORT. A read through SYS_IDATA of a word that stands in a queued event record: the correction of a single-bit error in
that word raises MEM_CE, whose occurrence counts into the record (R267, R290, R301) before the word is delivered.
-/

namespace Sys2Proof.Machine

/-- The firmware runs with AON, NVM and CORE up; one occurrence of source 120 (MEM_CE) is queued at 0x3C000, its flag is
clear again, an upset has hit the record's second word, which holds the count, and SYS_IADDR names that word. -/
def ceRecordHit : State :=
  (((({ pw := { on := [.aon, .nvm, .core], mc := .firmware, start := none } } : State).putSrc 120
    { waiting := 1, rise := true }).writeSignal 0 120).upset ⟨0x3C004, .bit 7#7⟩).wr .SYS_IADDR 0x3C004#32

/-- The word that SYS_IADDR names is served and undamaged: its one wrong bit is one that a read corrects. -/
theorem ceRecordHit_readable : ceRecordHit.served = true ∧ ceRecordHit.powered .aon = true ∧
    0x3C004 = wordAddr (ceRecordHit.rd .SYS_IADDR).toNat ∧ ceRecordHit.sramServed 0x3C004 = true ∧
    ceRecordHit.sramBad 0x3C004 = none := by decide +kernel

/-- The record counts one occurrence. -/
theorem ceRecordHit_word : ceRecordHit.word 0x3C004 = 0x00010000#32 := by decide +kernel

/-- The read delivers a count of two. -/
theorem ceRecordHit_busRead : (ceRecordHit.busRead .core 0x4000000C).1 = 0x00020000#32 := by decide +kernel

theorem exec_idataRead (i : Iface) (s : State) :
    exec (.idataRead i) s = .next (State.deliver i (s.busRead i 0x4000000C)) := rfl

theorem State.rdata_deliver (i : Iface) (p : Word × State) (d : Word) : (State.deliver i p).rdata.get i d = p.1 := by
  simp [State.deliver]

theorem ceRecordHit_idataRead {t : State} (h : exec (.idataRead .core) ceRecordHit = .next t) :
    t.rdata.get .core 0#32 ≠ ceRecordHit.word 0x3C004 := by
  rw [exec_idataRead] at h
  cases h
  rw [State.rdata_deliver, ceRecordHit_busRead, ceRecordHit_word]
  decide

/-- Refutes O1: a word of a queued record of MEM_CE that holds a correctable error is undamaged, and its read through
SYS_IDATA delivers the count that the correction has raised, not the word that stood there. -/
theorem not_registerAccess : ¬ Obligations.RegisterAccess := by
  unfold Obligations.RegisterAccess
  rintro ⟨-, -, -, -, idataRead, -⟩
  obtain ⟨served, aon, addr, sram, good⟩ := ceRecordHit_readable
  obtain ⟨t, ht, hword, -⟩ := idataRead .core _ _ served aon addr (by decide) sram good
  exact ceRecordHit_idataRead ht hword

/-- Refutes O59 by the same read: SYS_IDATA delivers another word than the one that stood there. -/
theorem not_busCommands : ¬ Obligations.BusCommands := by
  unfold Obligations.BusCommands
  rintro ⟨-, -, -, idataRead, -⟩
  obtain ⟨served, aon, addr, sram, good⟩ := ceRecordHit_readable
  obtain ⟨t, ht, hword, -⟩ := idataRead .core _ _ served aon addr (by decide) sram good
  exact ceRecordHit_idataRead ht hword

end Sys2Proof.Machine

/-!
SUPPORT. A step as a whole (R31, R32): the command at the front of the queue, or a tick; and what each of them keeps of
memory and of the power domains.
-/

namespace Sys2Proof.Machine

variable {s t : State}

theorem step_front {c : Instr} {r : List Instr} (h : s.pending = c :: r) : step s = exec c { s with pending := r } := by
  simp only [step, h]

theorem step_idle (h : s.pending = []) : step s = .next s.tick := by
  simp only [step, h]

/-- A step takes at most the front of the queue, and keeps what every command and the tick keep. -/
theorem step_keeps (h : step s = .next t) : Keeps (fun _ => True) True { s with pending := s.pending.tail } t := by
  cases hp : s.pending with
  | nil =>
    have hs : ({ s with pending := [].tail } : State) = s := by cases s; cases hp; rfl
    rw [step_idle hp] at h
    cases h
    rw [hs]
    exact State.tick_keeps (Keeps.refl s) fun _ => trivial
  | cons c r =>
    obtain ⟨u, hu, hk⟩ := exec_keeps (x0 := c) (s := { s with pending := r }) (fun _ => trivial) trivial
    rw [step_front hp, hu] at h
    cases h
    exact hk

/-- Settles O43. -/
theorem stepTakesFront : Obligations.StepTakesFront := by
  unfold Obligations.StepTakesFront
  intro c r s hp
  exact step_front hp

/-- Settles O47: no command and no tick leaves the canonical form of memory. -/
theorem memoryStaysCanonical : Obligations.MemoryStaysCanonical := by
  unfold Obligations.MemoryStaysCanonical
  intro s t hmem hstep
  exact (step_keeps hstep).mem hmem

/-- Settles O48: no command and no tick leaves a domain up whose parent is down. -/
theorem powerStaysATree : Obligations.PowerStaysATree := by
  unfold Obligations.PowerStaysATree
  intro s t htree hstep
  exact (step_keeps hstep).power htree

end Sys2Proof.Machine

/-!
SUPPORT. An access to a block of an unpowered domain (R22): the event it raises leaves the power of the domains, and is
pending and counted; each way to such a block ends in that event.
-/

namespace Sys2Proof.Machine

variable {s : State} {i : Iface}

/-! ### An occurrence of an event leaves the power state -/

@[simp] theorem State.pw_sramWrite (a : Nat) (w : Word) : (s.sramWrite a w).pw = s.pw := by
  unfold State.sramWrite
  dsimp only
  split <;> rfl

@[simp] theorem State.pw_recordWrite (a : Nat) (w : Word) : (s.recordWrite a w).pw = s.pw := by
  unfold State.recordWrite
  dsimp only
  split
  · rfl
  · split <;> simp

@[simp] theorem State.pw_putSrc (f : Nat) (e : EvSrc) : (s.putSrc f e).pw = s.pw := rfl

@[simp] theorem State.pw_occurNow (f n : Nat) (rise fall sw : Bool) (first : Stamp) (info code : Nat) :
    (s.occurNow f n rise fall sw first info code).pw = s.pw := by
  unfold State.occurNow
  dsimp only
  split
  · simp [State.bumpRecord]
  · simp

@[simp] theorem State.pw_occur (f : Nat) (rise fall : Bool) (info code : Nat) :
    (s.occur f rise fall info code).pw = s.pw := by
  unfold State.occur
  split <;> simp

@[simp] theorem State.pw_condRise (f info code : Nat) (others : Bool) : (s.condRise f info code others).pw = s.pw := by
  unfold State.condRise
  dsimp only
  split
  · split <;> simp
  all_goals simp

@[simp] theorem State.pw_condFall (f info code : Nat) : (s.condFall f info code).pw = s.pw := by
  unfold State.condFall
  split <;> simp

@[simp] theorem State.pw_happen (f info code : Nat) : (s.happen f info code).pw = s.pw := by
  simp [State.happen]

@[simp] theorem State.pw_accessOff (b : Block) : (s.accessOff b).pw = s.pw := State.pw_happen ..

/-- The event of an unpowered block reaches the registers of EVT and MEM alone. -/
theorem State.rd_accessOff (b : Block) {q : Reg} (he : q.block ≠ .evt) (hm : q.block ≠ .mem) :
    (s.accessOff b).rd q = s.rd q :=
  (State.accessOff_keeps (B := fun x => x = .mem ∨ x = .evt) (M := True) (Keeps.refl s) (.inl rfl) (.inr rfl) trivial).regs q
    (by simp [hm, he])

/-! ### A happening of a source that has no record in a queue (R259, R261) -/

variable {f : Nat}

@[simp] theorem State.src_putSrc (f g : Nat) (e : EvSrc) : (s.putSrc f e).src g = if g = f then e else s.src g :=
  Tab.get_set ..

@[simp] theorem State.rd_putSrc (e : EvSrc) (q : Reg) : (s.putSrc f e).rd q = s.rd q := rfl
@[simp] theorem State.src_putBit (r : Reg) (b : Nat) (v : Bool) : (s.putBit r b v).src f = s.src f := rfl

/-- A source counts towards its next record: FREEZE is not in force, and no record of the source stands in a queue. -/
def State.counts (s : State) (f : Nat) : Prop := s.frozen = false ∧ (s.src f).queued = none

/-- The PEND bit of a source. -/
def State.pend (s : State) (f : Nat) : Bool := s.bit (.EVT_PEND (f / 32)) (f % 32)

/-- From `s` to `t` source `f` has counted `n` occurrences; what decides how it counts the next one is the same. -/
structure Counted (f n : Nat) (s t : State) : Prop where
  counts : s.counts f → t.counts f
  sense : t.sense f = s.sense f
  waiting : (t.src f).waiting = (s.src f).waiting + n
  pend : 0 < n ∨ s.pend f = true → t.pend f = true

theorem Counted.refl (s : State) : Counted f 0 s s := ⟨id, rfl, rfl, by simp⟩

theorem Counted.trans {n m : Nat} {s t u : State} (h : Counted f n s t) (k : Counted f m t u) : Counted f (n + m) s u where
  counts hc := k.counts (h.counts hc)
  sense := k.sense.trans h.sense
  waiting := by rw [k.waiting, h.waiting, Nat.add_assoc]
  pend hp := k.pend (by
    rcases hp with hn | hs
    · rcases Nat.eq_zero_or_pos m with rfl | hm
      · exact .inr (h.pend (.inl hn))
      · exact .inl hm
    · exact .inr (h.pend (.inr hs)))

/-- The INFO and CODE of the latest rise are no occurrence. -/
theorem counted_lastInfo (info code : Nat) :
    Counted f 0 s (s.putSrc f { s.src f with lastInfo := info, lastCode := code }) where
  counts := fun ⟨hfrozen, hqueued⟩ => ⟨hfrozen, by simpa using hqueued⟩
  sense := rfl
  waiting := by simp
  pend hp := hp.resolve_left (Nat.lt_irrefl 0)

theorem counted_occur (h : s.counts f) (rise fall : Bool) (info code : Nat) :
    Counted f 1 s (s.occur f rise fall info code) := by
  obtain ⟨hfrozen, hqueued⟩ := h
  unfold State.occur State.occurNow
  rw [if_neg (by simp [hfrozen])]
  simp only [hqueued]
  exact ⟨fun _ => ⟨by simpa [State.frozen, State.bit] using hfrozen, by simp⟩, by simp [State.sense, State.fld],
    by simp, fun _ => by simp [State.pend, State.bit, Nat.mod_lt]⟩

/-- SENSE is a field of two bits: level, rising, falling, both (R259). -/
theorem State.sense_cases (s : State) (f : Nat) : s.sense f = 0 ∨ s.sense f = 1 ∨ s.sense f = 2 ∨ s.sense f = 3 := by
  have hlt : s.sense f < 4 := Nat.mod_lt _ (by decide)
  omega

/-- A rise counts but where SENSE is falling (2). -/
theorem counted_condRise (h : s.counts f) (info code : Nat) :
    Counted f (if s.sense f = 2 then 0 else 1) s (s.condRise f info code false) := by
  have hlast := counted_lastInfo (s := s) (f := f) info code
  have hrise := hlast.trans (counted_occur (hlast.counts h) true false info code)
  rcases s.sense_cases f with hs | hs | hs | hs <;> simp only [State.condRise, hs]
  · exact hrise
  · exact hrise
  · exact hlast
  · exact hrise

/-- A fall counts where SENSE is falling (2) or both (3). -/
theorem counted_condFall (h : s.counts f) (info code : Nat) :
    Counted f (if s.sense f < 2 then 0 else 1) s (s.condFall f info code) := by
  rcases s.sense_cases f with hs | hs | hs | hs <;> simp only [State.condFall, hs]
  · exact Counted.refl s
  · exact Counted.refl s
  · exact counted_occur h false true info code
  · exact counted_occur h false true info code

/-- A happening is a rise and a fall: it counts once, and twice where SENSE is both (3). -/
theorem counted_happen (h : s.counts f) (info code : Nat) :
    Counted f (if s.sense f = 3 then 2 else 1) s (s.happen f info code) := by
  have hrise := counted_condRise h info code
  have hboth := hrise.trans (counted_condFall (hrise.counts h) info code)
  have hn : (if s.sense f = 2 then 0 else 1) + (if (s.condRise f info code false).sense f < 2 then 0 else 1) =
      if s.sense f = 3 then 2 else 1 := by
    rw [hrise.sense]
    rcases s.sense_cases f with hs | hs | hs | hs <;> rw [hs] <;> rfl
  exact hn ▸ hboth

/-! ### The ways to a block of an unpowered domain -/

theorem Reg.ofAddr_sysIdata : Reg.ofAddr 0x4000000C = some .SYS_IDATA := by decide +kernel

/-- The registers lie in their blocks, above SRAM. -/
theorem Block.ofAddr_above_sram {a : Nat} {b : Block} (h : Block.ofAddr a = some b) : sramEnd ≤ a := by
  unfold Block.ofAddr at h
  split at h
  · unfold sramEnd; omega
  · cases h

theorem Reg.ofAddr_block {a : Nat} {r : Reg} (h : Reg.ofAddr a = some r) : ∃ b, Block.ofAddr a = some b := by
  obtain ⟨b, hb, -⟩ := Option.bind_eq_some_iff.mp h
  exact ⟨b, hb⟩

/-- A write of a register reaches it through the guard of its block, whatever rule the register has; an unpowered block
stops it there. -/
theorem State.guardWrite_off {r : Reg} {k : State → State} (ha : s.accepts = true) (hl : s.loader = false)
    (hp : s.powered r.block.dom = false) : s.guardWrite r k = s.accessOff r.block := by
  unfold State.guardWrite
  rw [if_neg (by simp [ha, hl]), if_pos (by simp [hp])]

theorem State.guardRead_off {r : Reg} {k : State → Word × State} (hs : s.served = true) (hl : s.loader = false)
    (hp : s.powered r.block.dom = false) : s.guardRead r k = (0#32, s.accessOff r.block) := by
  unfold State.guardRead
  rw [if_neg (by simp [hs, hl]), if_pos (by simp [hp])]

theorem State.guardRead_on {r : Reg} {k : State → Word × State} (hs : s.served = true) (hl : s.loader = false)
    (hp : s.powered r.block.dom = true) : s.guardRead r k = k s := by
  unfold State.guardRead
  rw [if_neg (by simp [hs, hl]), if_neg (by simp [hp])]

theorem State.guardGroup_off {k : State → State} (ha : s.accepts = true) (hl : s.loader = false)
    (hp : s.powered .seq = false) : s.guardGroup k = s.accessOff .ttb := by
  unfold State.guardGroup
  rw [if_neg (by simp [ha, hl]), if_pos (by simp [hp])]

/-- The early refusal of a close request needs the engines powered. -/
theorem State.busLpsCtl_off {k : Nat} {w : Word} (ha : s.accepts = true) (hl : s.loader = false)
    (hp : s.powered .eng = false) : s.busLpsCtl k w = s.accessOff .lpe := by
  have hc : s.closeBlocked k w = s := if_neg (by simp [hp])
  unfold State.busLpsCtl
  rw [hc]
  exact State.guardWrite_off ha hl hp

theorem State.storeWord_off {a : Nat} {v : Word} {be : BitVec 4} {r : Reg} (ha : s.accepts = true)
    (hl : s.loader = false) (hr : Reg.ofAddr a = some r) (hp : s.powered r.block.dom = false) :
    s.storeWord i a v be = s.accessOff r.block := by
  obtain ⟨b, hb⟩ := Reg.ofAddr_block hr
  have hsram := Block.ofAddr_above_sram hb
  unfold State.storeWord
  rw [if_neg (by simp [ha]), if_neg (by omega), hr]
  split
  next heq => cases heq; exact State.guardGroup_off ha hl hp
  next heq => cases heq; exact State.busLpsCtl_off ha hl hp
  next heq => cases heq; exact State.guardWrite_off ha hl hp
  next heq => cases heq

theorem State.storeWord_gap_off {a : Nat} {v : Word} {be : BitVec 4} {b : Block} (ha : s.accepts = true)
    (hl : s.loader = false) (hb : Block.ofAddr a = some b) (hr : Reg.ofAddr a = none) (hp : s.powered b.dom = false) :
    s.storeWord i a v be = s.accessOff b := by
  have hsram := Block.ofAddr_above_sram hb
  unfold State.storeWord
  rw [if_neg (by simp [ha]), if_neg (by omega), hr]
  simp [hb, hp, hl]

theorem State.readWord_off {a : Nat} {r : Reg} (hs : s.served = true) (hl : s.loader = false)
    (hr : Reg.ofAddr a = some r) (hp : s.powered r.block.dom = false) :
    s.readWord i a = (0#32, s.accessOff r.block) := by
  obtain ⟨b, hb⟩ := Reg.ofAddr_block hr
  have hsram := Block.ofAddr_above_sram hb
  unfold State.readWord
  rw [if_neg (by simp [hs]), if_neg (by omega)]
  simp only [hb, hr]
  exact State.guardRead_off hs hl hp

theorem State.readWord_gap_off {a : Nat} {b : Block} (hs : s.served = true) (hl : s.loader = false)
    (hb : Block.ofAddr a = some b) (hr : Reg.ofAddr a = none) (hp : s.powered b.dom = false) :
    s.readWord i a = (0#32, s.accessOff b) := by
  have hsram := Block.ofAddr_above_sram hb
  unfold State.readWord
  rw [if_neg (by simp [hs]), if_neg (by omega)]
  simp [hb, hr, hp, hl]

/-- A write to an address other than that of SYS_IDATA is a write of its word; SYS_IDATA itself stands in AON. -/
theorem State.busStore_off {a : Nat} {v : Word} {be : BitVec 4} {r : Reg} (ha : s.accepts = true)
    (hl : s.loader = false) (hr : Reg.ofAddr (wordAddr a) = some r) (hp : s.powered r.block.dom = false) :
    s.busStore i a v be = s.accessOff r.block := by
  unfold State.busStore
  dsimp only
  split
  next hidata =>
    rw [hidata, Reg.ofAddr_sysIdata] at hr
    cases hr
    exact State.guardWrite_off ha hl hp
  next => exact State.storeWord_off ha hl hr hp

theorem State.busStore_gap_off {a : Nat} {v : Word} {be : BitVec 4} {b : Block} (ha : s.accepts = true)
    (hl : s.loader = false) (hb : Block.ofAddr (wordAddr a) = some b) (hr : Reg.ofAddr (wordAddr a) = none)
    (hp : s.powered b.dom = false) : s.busStore i a v be = s.accessOff b := by
  unfold State.busStore
  dsimp only
  rw [if_neg fun hidata => by rw [hidata, Reg.ofAddr_sysIdata] at hr; cases hr]
  exact State.storeWord_gap_off ha hl hb hr hp

/-- A read of SYS_IDATA that finds 0 and an event at the word SYS_IADDR names delivers that 0 with that event. -/
theorem exec_idataRead_off {b c : Block} {a : Nat} (hs : s.served = true) (hl : s.loader = false)
    (haon : s.powered .aon = true) (ha : a = wordAddr (s.rd .SYS_IADDR).toNat) (hb : Block.ofAddr a = some b)
    (hidata : a ≠ 0x4000000C) (hread : s.readWord i a = (0#32, s.accessOff c)) :
    ∃ t, exec (.idataRead i) s = .next t ∧ t.rdata.get i 7#32 = 0#32 ∧ t.pw = s.pw ∧ t.ev = (s.accessOff c).ev := by
  have hsram := Block.ofAddr_above_sram hb
  have hword : s.readIdata i = (0#32, (s.accessOff c).iaddrNext) := by
    unfold State.readIdata
    rw [← ha]
    simp [hidata, hread, show ¬ a < sramEnd by omega]
  have hbus : s.busRead i 0x4000000C = (0#32, (s.accessOff c).iaddrNext) := by
    unfold State.busRead
    dsimp only
    rw [if_pos (by decide), State.guardRead_on (r := .SYS_IDATA) hs hl haon, hword]
  rw [exec_idataRead, hbus]
  refine ⟨_, rfl, State.rdata_deliver .., ?_, rfl⟩
  simp [State.deliver, State.iaddrNext]

/-- Settles O54: each clause is the lemma of its way to the block, or what the event counts. -/
theorem unpoweredAccess : Obligations.UnpoweredAccess := by
  unfold Obligations.UnpoweredAccess
  refine ⟨?write, ?event, ?writeGap, ?readGap, ?read⟩
  case write =>
    intro i a v be r s ha hl hr hp
    exact ⟨_, congrArg Host.Outcome.next (State.busStore_off ha hl hr hp), rfl,
      fun q he hm => State.rd_accessOff _ he hm, State.pw_accessOff _⟩
  case event =>
    intro b s hfrozen hqueued
    have h : Counted 2 (if s.sense 2 = 3 then 2 else 1) s (s.accessOff b) := counted_happen ⟨hfrozen, hqueued⟩ _ _
    exact ⟨h.pend (.inl (by split <;> decide)), h.waiting⟩
  case writeGap =>
    intro i a v be b s ha hl hb hr hp
    exact congrArg Host.Outcome.next (State.busStore_gap_off ha hl hb hr hp)
  case readGap =>
    intro i b s hs hl haon hb hr hp
    refine exec_idataRead_off hs hl haon rfl hb (fun hidata => ?_) (State.readWord_gap_off hs hl hb hr hp)
    rw [hidata, Reg.ofAddr_sysIdata] at hr
    cases hr
  case read =>
    intro i r s hs hl haon hr hp
    obtain ⟨b, hb⟩ := Reg.ofAddr_block hr
    refine exec_idataRead_off hs hl haon rfl hb (fun hidata => ?_) (State.readWord_off hs hl hr hp)
    rw [hidata, Reg.ofAddr_sysIdata] at hr
    cases hr
    exact absurd haon (by simp [show s.powered .aon = false from hp])

end Sys2Proof.Machine

/-!
SUPPORT. What the operations on the way down leave alone: an occurrence of an event changes registers, memory, the
events and the marks of damaged words; shutdowns of rails and groups and the parts of a raise leave the trackplan
machinery.
-/

namespace Sys2Proof.Machine

variable {s t u : State}

/-! ### An occurrence of an event -/

/-- From `s` to `t` nothing changes but registers, memory, the events and the marks of damaged words. -/
def EventsOnly (s t : State) : Prop := ∃ regs mem ev me, t = { s with regs := regs, mem := mem, ev := ev, me := me }

theorem EventsOnly.refl (s : State) : EventsOnly s s := ⟨_, _, _, _, rfl⟩

theorem EventsOnly.trans (h : EventsOnly s t) (k : EventsOnly t u) : EventsOnly s u := by
  obtain ⟨regs, mem, ev, me, rfl⟩ := h
  obtain ⟨regs', mem', ev', me', rfl⟩ := k
  exact ⟨regs', mem', ev', me', rfl⟩

theorem EventsOnly.tp (h : EventsOnly s t) : t.tp = s.tp := by
  obtain ⟨regs, mem, ev, me, rfl⟩ := h
  rfl

theorem EventsOnly.cm (h : EventsOnly s t) : t.cm = s.cm := by
  obtain ⟨regs, mem, ev, me, rfl⟩ := h
  rfl

theorem State.sramWrite_eventsOnly (a : Nat) (w : Word) : EventsOnly s (s.sramWrite a w) := by
  unfold State.sramWrite
  dsimp only
  split <;> exact ⟨_, _, _, _, rfl⟩

theorem State.recordWrite_eventsOnly (a : Nat) (w : Word) : EventsOnly s (s.recordWrite a w) := by
  unfold State.recordWrite
  dsimp only
  split
  · exact ⟨_, _, _, _, rfl⟩
  · split
    · refine EventsOnly.trans ?_ (State.sramWrite_eventsOnly a w)
      exact ⟨_, _, _, _, rfl⟩
    · exact State.sramWrite_eventsOnly a w

theorem State.occurNow_eventsOnly (f n : Nat) (rise fall sw : Bool) (first : Stamp) (info code : Nat) :
    EventsOnly s (s.occurNow f n rise fall sw first info code) := by
  unfold State.occurNow
  dsimp only
  split
  · exact (State.recordWrite_eventsOnly ..).trans (State.recordWrite_eventsOnly ..)
  · exact ⟨_, _, _, _, rfl⟩

theorem State.occur_eventsOnly (f : Nat) (rise fall : Bool) (info code : Nat) :
    EventsOnly s (s.occur f rise fall info code) := by
  unfold State.occur
  split
  · exact ⟨_, _, _, _, rfl⟩
  · exact State.occurNow_eventsOnly ..

theorem State.condRise_eventsOnly (f info code : Nat) (others : Bool) :
    EventsOnly s (s.condRise f info code others) := by
  have hlast : EventsOnly s (s.putSrc f { s.src f with lastInfo := info, lastCode := code }) := ⟨_, _, _, _, rfl⟩
  have hrise := hlast.trans (State.occur_eventsOnly f true false info code)
  unfold State.condRise
  dsimp only
  split
  · split
    · exact hlast
    · exact hrise
  · exact hrise
  · exact hlast
  · exact hrise

theorem State.condFall_eventsOnly (f info code : Nat) : EventsOnly s (s.condFall f info code) := by
  unfold State.condFall
  split
  · exact .refl s
  · exact .refl s
  · exact State.occur_eventsOnly ..

theorem State.setFlagI_eventsOnly (r : Reg) (b info code : Nat) : EventsOnly s (s.setFlagI r b info code) := by
  have hbit : EventsOnly s (s.putBit r b true) := ⟨_, _, _, _, rfl⟩
  unfold State.setFlagI
  split
  · exact .refl s
  · split
    · exact hbit
    · exact hbit.trans (State.condRise_eventsOnly ..)

@[simp] theorem State.cm_setFlagI (r : Reg) (b info code : Nat) : (s.setFlagI r b info code).cm = s.cm :=
  (State.setFlagI_eventsOnly r b info code).cm

@[simp] theorem State.tp_condRise (f info code : Nat) (others : Bool) : (s.condRise f info code others).tp = s.tp :=
  (State.condRise_eventsOnly f info code others).tp

@[simp] theorem State.tp_condFall (f info code : Nat) : (s.condFall f info code).tp = s.tp :=
  (State.condFall_eventsOnly f info code).tp

@[simp] theorem State.tp_happen (f info code : Nat) : (s.happen f info code).tp = s.tp :=
  (State.tp_condFall ..).trans (State.tp_condRise ..)

@[simp] theorem State.tp_setFlagI (r : Reg) (b info code : Nat) : (s.setFlagI r b info code).tp = s.tp :=
  (State.setFlagI_eventsOnly r b info code).tp

@[simp] theorem State.tp_setFlag (r : Reg) (b : Nat) : (s.setFlag r b).tp = s.tp := State.tp_setFlagI ..

/-! ### Rails, groups and stages on the way down, and the raise of a fault -/

theorem State.tp_each {α : Type} (l : List α) {f : α → State → State} (h : ∀ x s, (f x s).tp = s.tp) :
    (each l f s).tp = s.tp := by
  unfold each
  induction l generalizing s with
  | nil => rfl
  | cons x t ih => exact (ih (s := f x s)).trans (h x s)

@[simp] theorem State.tp_logRec (kind len : Nat) (stamp : Stamp) (l : List Word) :
    (s.logRec kind len stamp l).tp = s.tp := by
  unfold State.logRec
  split
  · exact State.tp_setFlag ..
  · rfl

@[simp] theorem State.tp_complete (k code detail : Nat) : (s.complete k code detail).tp = s.tp := by
  unfold State.complete
  dsimp only
  split <;> rfl

@[simp] theorem State.tp_stageRest (m st : Nat) : (s.stageRest m st).tp = s.tp := rfl

@[simp] theorem State.tp_stageOff (m : Nat) : (s.stageOff m).tp = s.tp := by
  unfold State.stageOff
  dsimp only
  split <;> rfl

@[simp] theorem State.tp_stageLatch (m : Nat) : (s.stageLatch m).tp = s.tp := by
  unfold State.stageLatch
  dsimp only
  split
  · rfl
  · split <;> rfl

@[simp] theorem State.tp_showExcluded : s.showExcluded.tp = s.tp := by
  refine State.tp_each _ fun m s => ?_
  dsimp only
  split <;> simp

@[simp] theorem State.tp_regangEnd (g : Regang) (code : Nat) (shed : Bool) : (s.regangEnd g code shed).tp = s.tp :=
  State.tp_complete ..

@[simp] theorem State.tp_regangDropStage (m : Nat) : (s.regangDropStage m).tp = s.tp := by
  simp [State.regangDropStage]

@[simp] theorem State.tp_regangOff (n code : Nat) : (s.regangOff n code).tp = s.tp := by
  unfold State.regangOff
  split
  · rfl
  · split
    · split
      · simp
      · split <;> rfl
    · split <;> simp

@[simp] theorem State.tp_regangDown (code : Nat) : (s.regangDown code).tp = s.tp := by
  unfold State.regangDown
  split
  · rfl
  · split <;> simp

@[simp] theorem State.tp_regangLatch (n : Nat) : (s.regangLatch n).tp = s.tp := by
  unfold State.regangLatch
  split
  · rfl
  · split <;> simp

@[simp] theorem State.tp_zeroLoops (n : Nat) : (s.zeroLoops n).tp = s.tp := by
  refine State.tp_each _ fun k s => ?_
  dsimp only [State.putLoopX, State.putDest]
  split <;> rfl

@[simp] theorem State.tp_unsettle (n : Nat) : (s.unsettle n).tp = s.tp := State.tp_each _ fun _ _ => rfl

@[simp] theorem State.tp_railFailure (n cause : Nat) : (s.railFailure n cause).tp = s.tp := by
  unfold State.railFailure
  dsimp only
  split
  · rfl
  · simp

@[simp] theorem State.tp_pgLow (n : Nat) : (s.pgLow n).tp = s.tp := by
  unfold State.pgLow
  dsimp only
  split
  · exact (State.tp_each _ fun x s => (rfl : (s.resetLow x).tp = s.tp)).trans (State.tp_condFall ..)
  · rfl

@[simp] theorem State.tp_dropTests (n : Nat) : (s.dropTests n).tp = s.tp :=
  State.tp_each _ fun _ _ => State.tp_stageOff _

@[simp] theorem State.tp_leaveOn (n : Nat) : (s.leaveOn n).tp = s.tp :=
  (State.tp_dropTests n).trans (State.tp_pgLow n)

@[simp] theorem State.tp_setRail (n st : Nat) : (s.setRail n st).tp = s.tp := rfl
@[simp] theorem State.tp_stopRamp (n : Nat) : (s.stopRamp n).tp = s.tp := rfl
@[simp] theorem State.tp_startRamp (n target full time : Nat) : (s.startRamp n target full time).tp = s.tp :=
  State.tp_unsettle n

@[simp] theorem State.tp_boutCheck : s.boutCheck.tp = s.tp := by
  unfold State.boutCheck
  dsimp only
  split
  · exact State.tp_happen ..
  · rfl

@[simp] theorem State.tp_railToOff (n : Nat) : (s.railToOff n).tp = s.tp := by
  unfold State.railToOff
  simp [State.tp_each]

@[simp] theorem State.tp_rampDown (n : Nat) : (s.rampDown n).tp = s.tp := by
  simp [State.rampDown]

@[simp] theorem State.tp_railOff (n code : Nat) : (s.railOff n code).tp = s.tp := by
  unfold State.railOff
  dsimp only
  split
  · simp
  · split
    · simp
    · split
      · split <;> simp
      · split
        · split <;> simp
        · rfl

@[simp] theorem State.tp_latchRail (src n : Nat) : (s.latchRail src n).tp = s.tp := by
  simp [State.latchRail, State.tp_each, apply_ite State.tp]

@[simp] theorem State.tp_classBCheck (g : Nat) : (s.classBCheck g).tp = s.tp := by
  unfold State.classBCheck
  split <;> rfl

@[simp] theorem State.tp_setGroup (g st : Nat) : (s.setGroup g st).tp = s.tp := by
  unfold State.setGroup
  dsimp only
  split
  · rfl
  · (repeat' split) <;> simp

@[simp] theorem State.tp_putGrpX (g : Nat) (x : GroupX) : (s.putGrpX g x).tp = s.tp := rfl

@[simp] theorem State.tp_groupToOff (g : Nat) : (s.groupToOff g).tp = s.tp := by
  simp [State.groupToOff]

@[simp] theorem State.tp_stepReverse (g j code : Nat) : (s.stepReverse g j code).tp = s.tp := by
  unfold State.stepReverse
  dsimp only
  split
  · simp
  all_goals rfl

@[simp] theorem State.tp_groupOff (g code : Nat) : (s.groupOff g code).tp = s.tp := by
  unfold State.groupOff
  split
  · split <;> simp
  · simp
  · rfl

@[simp] theorem State.tp_groupStartFail (n : Nat) : (s.groupStartFail n).tp = s.tp := by
  unfold State.groupStartFail
  dsimp only
  split
  · rfl
  · split
    · split <;> simp
    · rfl

@[simp] theorem State.tp_groupLatched (n : Nat) : (s.groupLatched n).tp = s.tp := by
  unfold State.groupLatched
  split
  · rfl
  · split
    · simp
    · split <;> rfl

@[simp] theorem State.tp_reactA (f : Nat) : (s.reactA f).tp = s.tp := State.tp_each _ fun n s => by simp

@[simp] theorem State.tp_faultPin : s.faultPin.tp = s.tp := by
  unfold State.faultPin
  (repeat' split) <;> rfl

@[simp] theorem State.tp_captureFirst (f cls cause : Nat) : (s.captureFirst f cls cause).tp = s.tp := by
  unfold State.captureFirst
  split <;> rfl

@[simp] theorem State.tp_logFault (f cls cause : Nat) (clear : Bool) : (s.logFault f cls cause clear).tp = s.tp := by
  unfold State.logFault
  split <;> simp

@[simp] theorem State.tp_requestDump (f cause : Nat) : (s.requestDump f cause).tp = s.tp := by
  unfold State.requestDump
  split <;> rfl

@[simp] theorem State.tp_sendTrip (f : Nat) : (s.sendTrip f).tp = s.tp :=
  (State.tp_setFlagI ..).trans (State.tp_each _ fun _ _ => rfl)

@[simp] theorem State.tp_boutFast (p : Nat → Bool) : (s.boutFast p).tp = s.tp := by
  unfold State.boutFast
  split
  · exact State.tp_each _ fun n s => State.tp_rampDown n
  · rfl

@[simp] theorem State.tp_runDeferred (r : Reload) : (s.runDeferred r).tp = s.tp := by
  simp [State.runDeferred, State.tp_each]

/-! ### A write that enters its lane -/

@[simp] theorem State.tp_refill : s.refill.tp = s.tp := by
  unfold State.refill
  split
  · split <;> rfl
  · rfl

@[simp] theorem State.tp_kick : s.kick.tp = s.tp := by
  unfold State.kick
  dsimp only
  split
  · exact State.tp_refill
  · split
    · exact State.tp_refill
    · split <;> exact State.tp_refill

@[simp] theorem State.tp_enqueue (l : Nat) (j : LdgJob) : (s.enqueue l j).tp = s.tp := State.tp_kick

end Sys2Proof.Machine

/-!
SUPPORT. A trackplan runs on (R54, R66): what reactions of faults, shutdowns and the ends of commands leave of the
running stream, of the reload under way and of TPL_STATUS.
-/

namespace Sys2Proof.Machine

variable {s t u : State}

/-- The trackplan that runs, with its owners and the release of its timetable, is the same in two states. -/
structure SameStream (s t : State) : Prop where
  stream : t.tp.stream = s.tp.stream
  owners : t.tp.owners = s.tp.owners
  released : t.tp.released = s.tp.released

/-- The trackplan runs on: a reload is under way in both states or in none, and with none TPL_STATUS is the same. -/
structure RunsOn (s t : State) : Prop extends SameStream s t where
  reload : t.tp.reload.isSome = s.tp.reload.isSome
  status : s.tp.reload = none → t.rd .TPL_STATUS = s.rd .TPL_STATUS

theorem SameStream.trans (h : SameStream s t) (k : SameStream t u) : SameStream s u :=
  ⟨k.stream.trans h.stream, k.owners.trans h.owners, k.released.trans h.released⟩

theorem SameStream.of_tp (h : t.tp = s.tp) : SameStream s t := ⟨by rw [h], by rw [h], by rw [h]⟩

theorem RunsOn.refl (s : State) : RunsOn s s := ⟨.of_tp rfl, rfl, fun _ => rfl⟩

theorem RunsOn.trans (h : RunsOn s t) (k : RunsOn t u) : RunsOn s u where
  toSameStream := h.toSameStream.trans k.toSameStream
  reload := k.reload.trans h.reload
  status hs := (k.status (by simpa [hs] using h.reload)).trans (h.status hs)

theorem RunsOn.of_tp (h : t.tp = s.tp) (hs : t.rd .TPL_STATUS = s.rd .TPL_STATUS) : RunsOn s t :=
  ⟨.of_tp h, by rw [h], fun _ => hs⟩

/-- Under a reload only the record of the reload changes. -/
theorem RunsOn.of_reload {r r' : Reload} (hs : s.tp.reload = some r)
    (ht : t.tp = { s.tp with reload := some r' }) : RunsOn s t :=
  ⟨⟨by rw [ht], by rw [ht], by rw [ht]⟩, by rw [ht, hs]; rfl, fun hn => by rw [hn] at hs; cases hs⟩

theorem RunsOn.ite {c : Prop} [Decidable c] (h : RunsOn s t) : RunsOn s (if c then t else s) := by
  split
  · exact h
  · exact .refl s

theorem each_runsOn {α : Type} (l : List α) {f : α → State → State} (h : ∀ x s, RunsOn s (f x s)) :
    RunsOn s (each l f s) := by
  unfold each
  induction l generalizing s with
  | nil => exact .refl s
  | cons x t ih => exact (h x s).trans ih

/-- An operation that reaches no register of TPL and leaves the trackplan machinery. -/
theorem Keeps.runsOn (k : Keeps (· ≠ .tpl) True s t) (h : t.tp = s.tp) : RunsOn s t :=
  .of_tp h (k.regs _ (by decide))

theorem State.happen_runsOn (f info code : Nat) : RunsOn s (s.happen f info code) :=
  (State.happen_keeps (Keeps.refl s) (by decide) (by decide) trivial).runsOn (State.tp_happen ..)

theorem State.complete_runsOn (k code detail : Nat) : RunsOn s (s.complete k code detail) :=
  (State.complete_keeps (Keeps.refl s) (by decide)).runsOn (State.tp_complete ..)

theorem State.railOff_runsOn (n code : Nat) : RunsOn s (s.railOff n code) :=
  Keeps.runsOn (by apply State.railOff_keeps (Keeps.refl s) <;> decide) (State.tp_railOff ..)

theorem State.groupOff_runsOn (g code : Nat) : RunsOn s (s.groupOff g code) :=
  Keeps.runsOn (by apply State.groupOff_keeps (Keeps.refl s) <;> decide) (State.tp_groupOff ..)

theorem State.regangDown_runsOn (code : Nat) : RunsOn s (s.regangDown code) :=
  Keeps.runsOn (by apply State.regangDown_keeps (Keeps.refl s) <;> decide) (State.tp_regangDown ..)

theorem State.reactA_runsOn (f : Nat) : RunsOn s (s.reactA f) :=
  Keeps.runsOn (by apply State.reactA_keeps (Keeps.refl s) <;> decide) (State.tp_reactA ..)

theorem State.runDeferred_runsOn (r : Reload) : RunsOn s (s.runDeferred r) :=
  Keeps.runsOn (by apply State.runDeferred_keeps (Keeps.refl s) <;> decide) (State.tp_runDeferred ..)

theorem State.put_runsOn {r : Reg} (f : Field) (v : Nat) (h : .TPL_STATUS ≠ r) : RunsOn s (s.put r f v) :=
  .of_tp rfl (by simp [h])

/-- A shutdown's off request takes effect, or is noted in the reload whose restore it waits for (R70). -/
theorem State.groupOffLater_runsOn (g code : Nat) : RunsOn s (s.groupOffLater g code) := by
  unfold State.groupOffLater
  split
  next r hr =>
    split
    · exact .of_reload hr rfl
    · exact State.groupOff_runsOn g code
  next => exact State.groupOff_runsOn g code

theorem State.railOffLater_runsOn (n code : Nat) : RunsOn s (s.railOffLater n code) := by
  unfold State.railOffLater
  split
  next r hr =>
    split
    · exact .of_reload hr rfl
    · exact State.railOff_runsOn n code
  next => exact State.railOff_runsOn n code

theorem State.groupOffB_runsOn (g : Nat) : RunsOn s (s.groupOffB g) :=
  ((State.put_runsOn _ _ (by simp)).trans (each_runsOn _ fun _ _ => State.put_runsOn _ _ (by simp))).trans
    (State.groupOffLater_runsOn g 0x21)

theorem State.railOffB_runsOn (f n : Nat) : RunsOn s (s.railOffB f n) := by
  unfold State.railOffB
  refine RunsOn.trans ?_ (State.railOffLater_runsOn n 0x21)
  exact .of_tp rfl rfl

theorem State.offsWait_runsOn (f : Nat) : RunsOn s (s.offsWait f) := by
  unfold State.offsWait
  split
  next r hr =>
    split
    · exact .of_reload hr rfl
    · exact .refl s
  next => exact .refl s

theorem State.reactB_runsOn (f : Nat) : RunsOn s (s.reactB f) := by
  unfold State.reactB
  split
  · exact .refl s
  · exact (RunsOn.ite (State.regangDown_runsOn 0x21)).trans
      (((each_runsOn _ fun g _ => State.groupOffB_runsOn g).trans
        (each_runsOn _ fun n _ => State.railOffB_runsOn f n)).trans (State.offsWait_runsOn f))

/-- An abort marks the reload and shows it in TPL_STATUS (R68); without a reload nothing changes. -/
theorem State.reloadAbort_runsOn (code : Nat) : RunsOn s (s.reloadAbort code) := by
  unfold State.reloadAbort
  split
  next => exact .refl s
  next r hr =>
    dsimp only
    split
    · exact .of_reload hr rfl
    · exact .refl s

/-- The reactions of a fault source leave the trackplan running (Table 10.2). -/
theorem State.react_runsOn (f cls : Nat) : RunsOn s (s.react f cls) := by
  have hclass {u : State} (hu : RunsOn s u) :
      RunsOn s (if cls = 2 then u.reactA f else if cls = 1 then u.reactB f else u) := by
    split
    · exact hu.trans (State.reactA_runsOn f)
    · split
      · exact hu.trans (State.reactB_runsOn f)
      · exact hu
  unfold State.react
  refine hclass ?_
  split
  · exact RunsOn.ite (State.reloadAbort_runsOn 0x21)
  · exact .refl s

theorem State.reReact_runsOn : RunsOn s s.reReact := by
  have hpass (cls : Nat) (s : State) : RunsOn s (each (List.range 256) (fun f s =>
      if s.latched f && s.fld (.FLT_CFG f) Fld.FLT_CFG_CLASS == cls then s.react f cls else s) s) :=
    each_runsOn _ fun f _ => RunsOn.ite (State.react_runsOn f cls)
  exact (hpass 2 s).trans (hpass 1 _)

/-- The captures, the record and the messages of a raise (R248 to R251) leave the trackplan running. -/
theorem State.captureFirst_runsOn (f cls cause : Nat) : RunsOn s (s.captureFirst f cls cause) :=
  (State.captureFirst_keeps (Keeps.refl s) (by decide)).runsOn (State.tp_captureFirst ..)

theorem State.logFault_runsOn (f cls cause : Nat) (clear : Bool) : RunsOn s (s.logFault f cls cause clear) :=
  (State.logFault_keeps (Keeps.refl s) (by decide) (by decide) (by decide) trivial).runsOn (State.tp_logFault ..)

theorem State.requestDump_runsOn (f cause : Nat) : RunsOn s (s.requestDump f cause) :=
  (State.requestDump_keeps (Keeps.refl s)).runsOn (State.tp_requestDump ..)

theorem State.sendTrip_runsOn (f : Nat) : RunsOn s (s.sendTrip f) :=
  (State.sendTrip_keeps (Keeps.refl s) (by decide) (by decide) (by decide) trivial).runsOn (State.tp_sendTrip ..)

theorem State.faultPin_runsOn : RunsOn s s.faultPin :=
  (State.faultPin_keeps (Keeps.refl s)).runsOn State.tp_faultPin

theorem State.message_runsOn (src info code n : Nat) : RunsOn s (s.message src info code n) := .of_tp rfl rfl

theorem State.countFault_runsOn (f : Nat) : RunsOn s (s.countFault f) := State.put_runsOn _ _ (by simp)

/-- A raise of a fault source leaves the trackplan running (R239). -/
theorem State.raise_runsOn (f cause : Nat) : RunsOn s (s.raise f cause) := by
  unfold State.raise
  split
  · exact State.countFault_runsOn f
  · have hbit : RunsOn s (s.putBit (.FLT_STAT (f / 32)) (f % 32) true) := .of_tp rfl (by simp)
    have hcount := (hbit.trans (State.put_runsOn (r := .FLT_CAUSE (f / 8)) (causeField f) cause (by simp))).trans
      (State.countFault_runsOn f)
    have hreact (cls : Nat) := (hcount.trans (State.react_runsOn f cls)).trans State.faultPin_runsOn
    have hlog (cls : Nat) :=
      ((hreact cls).trans (State.captureFirst_runsOn f cls cause)).trans (State.logFault_runsOn f cls cause false)
    unfold State.raiseNew
    exact (((hlog _).trans (RunsOn.ite (State.requestDump_runsOn f cause))).trans
      (RunsOn.ite (State.sendTrip_runsOn f))).trans (State.message_runsOn ..)

end Sys2Proof.Machine

/-!
SUPPORT. The mailbox: slots and completion (R282), and the acceptance or refusal of an issue in the order of R278.
-/

namespace Sys2Proof.Machine

variable {s : State}

/-! ### Commands: slots, completion, the lane row -/

@[simp] theorem State.slot_putSlot (k j : Nat) (c : CmdSlot) :
    (s.putSlot k c).slot j = if j = k then c else s.slot j := Tab.get_set ..

/-- A completed command's slot holds its code and detail, whatever its lane (R282). -/
theorem State.slot_complete (k code detail : Nat) : (s.complete k code detail).slot k =
    { s.slot k with st := .ended, code := code, detail := detail, phase := 0 } := by
  unfold State.complete
  dsimp only
  split <;> exact (Tab.get_set ..).trans (if_pos rfl)

theorem State.ended_complete (k code detail : Nat) : (s.complete k code detail).ended k code := by
  rw [State.ended, State.slot_complete]
  exact ⟨rfl, rfl⟩

theorem State.lastMessage_complete (k code detail : Nat) : (s.complete k code detail).lastMessage
    (3 + opLane (s.slot k).op) (handleOf k (s.slot k).gen) code := by
  unfold State.complete State.message
  exact ⟨_, List.getLast?_concat .., rfl, rfl, rfl⟩

@[simp] theorem State.mem_complete (k code detail : Nat) : (s.complete k code detail).mem = s.mem := by
  unfold State.complete
  dsimp only
  split <;> rfl

/-- Only the ledger lane shows its results in registers. -/
theorem State.regs_complete {k : Nat} (h : opLane (s.slot k).op ≠ 1) (code detail : Nat) :
    (s.complete k code detail).regs = s.regs := by
  unfold State.complete
  simp only [if_neg h]
  rfl

theorem State.withRunning_eq {op k : Nat} {f : Nat → State → State} (hrun : s.runningSlot (opLane op) = some k)
    (hop : (s.slot k).op = op) : s.withRunning op f = f k s := by
  simp [State.withRunning, hrun, hop]

/-- A command that begins does its first work, with its phase noted. -/
theorem State.ledgerRow_begins {op k : Nat} {f : Nat → State → State} (h : s.begins op k) :
    s.ledgerRow .advance op f = f k (s.setPhase k 1) := by
  obtain ⟨hrun, hop, hphase⟩ := h
  exact (State.withRunning_eq hrun hop).trans (if_pos hphase)

/-! ### Acceptance of a command (R278, R280) -/

/-- The command that an interface's bank issues, as its slot holds it. -/
def State.issued (s : State) (i : Iface) (op k : Nat) : CmdSlot :=
  let b := s.bank i
  { gen := nextGen (s.slot k).gen, st := .waiting, op := op, p0 := b.p0, p1 := b.p1, p2 := b.p2, p3 := b.p3,
    stage := s.rd .TPL_STAGE, stageLen := s.fld .TPL_STAGELEN Fld.TPL_STAGELEN_LEN,
    groupsUp := allGroups.filter (fun g => s.groupSt g != 0),
    railsLive := allRails.filter (fun n => s.railSt n != rOff) }

/-- The mailbox once a command has been accepted: its slot and its place in the order of acceptance, its handle for the
interface. -/
def State.accepted (s : State) (i : Iface) (op k : Nat) : State :=
  let s1 := (s.putSlot k (s.issued i op k)).putBank i { s.bank i with
    result := putF 0#32 Fld.CMD_RESULT_HANDLE (handleOf k (nextGen (s.slot k).gen)) }
  { s1 with cm := { s1.cm with waiting := s1.cm.waiting ++ [k], lastSlot := k } }

/-- The lane of an opcode neither runs a command nor holds one that waits. -/
def State.laneIdle (s : State) (op : Nat) : Bool :=
  (s.runningSlot (opLane op)).isNone && !(s.cm.waiting.any fun j => opLane (s.slot j).op == opLane op)

theorem State.acceptCmd_eq (i : Iface) (op k : Nat) : s.acceptCmd i op k =
    if op = 0x03 ∧ s.reloadReady = true then
      if s.laneIdle op then ((s.accepted i op k).reloadAccept k).reloadBegin k else (s.accepted i op k).reloadAccept k
    else s.accepted i op k := rfl

@[simp] theorem State.cm_reloadAccept (k : Nat) : (s.reloadAccept k).cm = s.cm := rfl
@[simp] theorem State.mem_reloadAccept (k : Nat) : (s.reloadAccept k).mem = s.mem := rfl

@[simp] theorem State.cm_reloadBegin (k : Nat) : (s.reloadBegin k).cm = s.cm := by
  unfold State.reloadBegin
  split
  · split <;> rfl
  · rfl

@[simp] theorem State.mem_reloadBegin (k : Nat) : (s.reloadBegin k).mem = s.mem := by
  unfold State.reloadBegin
  split
  · split <;> rfl
  · rfl

/-- A reload that is accepted with its command shows in the registers of TPL alone, not in the mailbox. -/
theorem State.cm_acceptCmd (i : Iface) (op k : Nat) : (s.acceptCmd i op k).cm = (s.accepted i op k).cm := by
  rw [State.acceptCmd_eq]
  split
  · split <;> simp
  · rfl

theorem State.mem_acceptCmd (i : Iface) (op k : Nat) : (s.acceptCmd i op k).mem = s.mem := by
  rw [State.acceptCmd_eq]
  split
  · split <;> simp [State.accepted, State.putSlot, State.putBank]
  · rfl

theorem State.slot_accepted (i : Iface) (op k : Nat) : (s.accepted i op k).slot k = s.issued i op k := by
  simp [State.accepted, State.slot, State.putSlot, State.putBank]

theorem State.slot_acceptCmd (i : Iface) (op k : Nat) : (s.acceptCmd i op k).slot k = s.issued i op k := by
  rw [State.slot, State.cm_acceptCmd]
  exact State.slot_accepted i op k

theorem State.result_acceptCmd (i : Iface) (op k : Nat) : ((s.acceptCmd i op k).bank i).result =
    putF 0#32 Fld.CMD_RESULT_HANDLE (handleOf k (nextGen (s.slot k).gen)) := by
  unfold State.bank
  rw [State.cm_acceptCmd]
  simp [State.accepted, State.putSlot, State.putBank]

/-- An issue that is admitted is a write of CMD_ISSUE that takes, for a known opcode, into the free slot (R278). -/
theorem State.issue_admits {i : Iface} {op k : Nat} (h : s.admits i op k = true) (hknown : opKnown op = true) :
    s.issue i op = s.acceptCmd i op k := by
  simp only [State.admits, Bool.and_eq_true, beq_iff_eq] at h
  obtain ⟨⟨⟨htakes, hloader⟩, hmay⟩, hslot⟩ := h
  unfold State.issue
  rw [State.guardWrite_takes htakes]
  unfold State.issueOp
  have hserved : ¬ (s.loader && opLane op != 1) = true := by
    rcases Bool.or_eq_true_iff.mp hloader with hoff | hlane
    · simp only [Bool.not_eq_true'] at hoff
      simp only [hoff, Bool.false_and, Bool.false_eq_true, not_false_eq_true]
    · simp only [bne, hlane, Bool.not_true, Bool.and_false, Bool.false_eq_true, not_false_eq_true]
  rw [if_neg hserved, if_neg (by simp [hknown]), if_neg (by simp [hmay]), hslot]

/-- With 32 commands outstanding the search for a slot finds none. -/
theorem State.slotOrder_full (h : s.outstanding = 32) : s.slotOrder.find? (fun k => !s.slotBusy k) = none := by
  have hbusy : ∀ k ∈ allSlots, s.slotBusy k = true := by
    have hlength : (allSlots.filter s.slotBusy).length = allSlots.length := h
    exact List.length_filter_eq_length_iff.mp hlength
  rw [List.find?_eq_none]
  intro k hk
  obtain ⟨j, -, rfl⟩ := List.mem_map.mp hk
  simp [hbusy _ (List.mem_range.mpr (Nat.mod_lt _ (by decide : 0 < 32)))]

/-- The first check of R278 that fails gives the code of the refusal and its flag. -/
theorem State.issueOp_unknown {i : Iface} {op : Nat} (hl : s.loader = false) (hk : opKnown op = false) :
    s.issueOp i op = s.refuseIssue i 2 1 := by
  simp [State.issueOp, hl, hk]

theorem State.issueOp_noRights {i : Iface} {op : Nat} (hl : s.loader = false) (hk : opKnown op = true)
    (hm : s.mayIssue i op = false) : s.issueOp i op = s.refuseIssue i 3 4 := by
  simp [State.issueOp, hl, hk, hm]

theorem State.issueOp_full {i : Iface} {op : Nat} (hl : s.loader = false) (hk : opKnown op = true)
    (hm : s.mayIssue i op = true) (hf : s.outstanding = 32) : s.issueOp i op = s.refuseIssue i 1 0 := by
  simp [State.issueOp, hl, hk, hm, State.slotOrder_full hf]

/-- A refusal shows its code in the interface's result and its flag; no slot and no waiting command changes. -/
theorem State.refuseIssue_shows (i : Iface) (code flag : Nat) (hf : flag < 32) :
    (s.refuseIssue i code flag).cm.slots = s.cm.slots ∧ (s.refuseIssue i code flag).cm.waiting = s.cm.waiting ∧
    ((s.refuseIssue i code flag).bank i).result = putF 0#32 Fld.CMD_RESULT_REFUSE code ∧
    (s.refuseIssue i code flag).bit .CMD_FLAG flag = true := by
  unfold State.refuseIssue State.bank
  refine ⟨?_, ?_, ?_, State.bit_setFlagI _ _ _ _ hf (by decide) (by decide)⟩
  all_goals simp [State.putBank]

theorem exec_unknownOp {i : Iface} {op : BitVec 8} (h : s.takes .CMD_ISSUE = true) :
    exec (.unknownOp i op) s = .next (s.issueOp i op.toNat) :=
  congrArg Host.Outcome.next (State.guardWrite_takes h)

/-- The rows of Table 12.1 as an interface issues them, each with its opcode. -/
def issueRows (i : Iface) : List (Instr × Nat) :=
  [(.nopConfig (.issue i), 0x00), (.tplVerify (.issue i), 0x01), (.tplLoadAll (.issue i), 0x02),
    (.tplLoadDomain (.issue i), 0x03), (.swyRegang (.issue i), 0x10), (.nopLedger (.issue i), 0x40),
    (.tplStore (.issue i), 0x41), (.ldgFwWrite (.issue i), 0x42), (.ldgFwSeal (.issue i), 0x43),
    (.ldgFwActivate (.issue i), 0x44), (.ldgUserWrite (.issue i), 0x45), (.ldgRetire (.issue i), 0x46),
    (.nopCalibration (.issue i), 0x80), (.surveyCal (.issue i), 0x81), (.nopFabric (.issue i), 0xC0),
    (.lineSurvey (.issue i), 0xC1), (.summitMark (.issue i), 0xC2), (.flwOpen (.issue i), 0xC3),
    (.flwClose (.issue i), 0xC4)]

theorem exec_issueRows (i : Iface) (s : State) :
    ∀ r ∈ issueRows i, opKnown r.2 = true ∧ exec r.1 s = .next (s.issue i r.2) := by
  simp only [issueRows, List.forall_mem_cons, List.not_mem_nil, false_implies, implies_true, and_true]
  and_intros <;> rfl

/-- Settles O23: an accepted issue fills the free slot; the refusals are the checks of R278 in their order. -/
theorem mailboxIssue : Obligations.MailboxIssue := by
  unfold Obligations.MailboxIssue
  refine ⟨?accepted, ?unknown, ?noRights, ?full⟩
  case accepted =>
    intro i c op k s hrow hadmits
    obtain ⟨hknown, hexec⟩ := exec_issueRows i s (c, op) hrow
    rw [State.issue_admits hadmits hknown] at hexec
    have hslot := State.slot_acceptCmd (s := s) i op k
    refine ⟨_, hexec, ?_⟩
    rw [State.cm_acceptCmd, State.result_acceptCmd, State.mem_acceptCmd, hslot]
    exact ⟨rfl, rfl, rfl, rfl, rfl, rfl, rfl, rfl, rfl, rfl, rfl⟩
  case unknown =>
    intro i op s htakes hloader hknown
    rw [exec_unknownOp htakes, State.issueOp_unknown hloader hknown]
    exact ⟨_, rfl, State.refuseIssue_shows i 2 1 (by decide)⟩
  case noRights =>
    intro i op s htakes hloader hknown hmay
    rw [exec_unknownOp htakes, State.issueOp_noRights hloader hknown hmay]
    exact ⟨_, rfl, State.refuseIssue_shows i 3 4 (by decide)⟩
  case full =>
    intro i op s htakes hloader hknown hmay hfull
    rw [exec_unknownOp htakes, State.issueOp_full hloader hknown hmay hfull]
    exact ⟨_, rfl, State.refuseIssue_shows i 1 0 (by decide)⟩

end Sys2Proof.Machine

/-!
SUPPORT. Staged streams (R57, R58): the commands on a stage that needs no correction, the bank write they begin, and the
stream that comes to run.
-/

namespace Sys2Proof.Machine

variable {s t : State}

/-! ### The staged stream of a command -/

/-- No word of the staged area of a command needs a correction, and none is damaged (Table 13.1). -/
structure State.StageClean (s : State) (k : Nat) : Prop where
  good : s.firstBad (s.slot k).stage.toNat (s.slot k).stageLen = none
  soft : keysIn s.me.soft (s.slot k).stage.toNat (s.slot k).stageLen = []
  votes : keysIn s.me.votes (s.slot k).stage.toNat (s.slot k).stageLen = []

theorem State.slot_setPhase (k ph : Nat) : (s.setPhase k ph).slot k = { s.slot k with phase := ph } := by
  simp [State.setPhase]

theorem State.StageClean.setPhase {k : Nat} (h : s.StageClean k) (ph : Nat) : (s.setPhase k ph).StageClean k := by
  obtain ⟨good, soft, votes⟩ := h
  constructor <;> rw [State.slot_setPhase] <;> assumption

theorem State.staged_setPhase (k ph : Nat) : (s.setPhase k ph).staged k = s.staged k := by
  unfold State.staged
  rw [State.slot_setPhase]
  rfl

theorem State.checkStaged_setPhase (k ph : Nat) (b : Bool) : (s.setPhase k ph).checkStaged k b = s.checkStaged k b := by
  unfold State.checkStaged State.stageBad
  rw [State.staged_setPhase, State.slot_setPhase]
  rfl

theorem State.eccRange_clean {a n src : Nat} (hs : keysIn s.me.soft a n = []) (hv : keysIn s.me.votes a n = []) :
    s.eccRange a n src = s := by
  simp [State.eccRange, hs, hv, each]

theorem State.loadStage_clean {k : Nat} {f : State → State} (h : s.StageClean k) : s.loadStage k f = f s := by
  unfold State.loadStage
  split
  · rfl
  · simp [State.eccRange_clean h.soft h.votes, h.good]

/-- A ledger command whose source is whole takes its bytes as they stand; only the mark of channel 3 is touched. -/
theorem State.withSource_clean {k a n : Nat} {f : List Byte → State → State} (hb : s.firstBad a n = none)
    (hs : keysIn s.me.soft a n = []) (hv : keysIn s.me.votes a n = []) :
    s.withSource k a n f = f (s.bytes a n) (s.dmaRestart 3) := by
  unfold State.withSource
  rw [State.eccRange_clean (s := s.dmaRestart 3) hs hv]
  simp only [show (s.dmaRestart 3).firstBad a n = none from hb]
  rfl

/-! ### What the three commands do with a staged stream that they may read -/

theorem State.tplVerify_good {k : Nat} (h : s.StageClean k) (hc : s.checkStaged k true = none) :
    s.tplVerify k = s.complete k 0 0 := by
  unfold State.tplVerify
  rw [State.loadStage_clean h, hc]

theorem State.tplVerify_refused {k : Nat} {x : TplRef} (h : s.StageClean k) (hc : s.checkStaged k true = some x) :
    s.tplVerify k = s.refuseCmd k x true := by
  unfold State.tplVerify
  rw [State.loadStage_clean h, hc]

theorem State.tplStore_clean {k : Nat} (h : s.StageClean k) (hc : s.checkStaged k true = none)
    (hw : s.readOnly 1 = false) : s.tplStore k = (s.dmaRestart 3).commitStream 1 k (s.staged k) := by
  unfold State.tplStore
  rw [State.loadStage_clean h]
  simp [hc, hw, State.withSource_clean h.good h.soft h.votes, State.staged]

/-- A report shows its code in LASTREF, and stores nothing. -/
theorem State.lastref_tplRefused (x : TplRef) :
    (s.tplRefused x).fld .TPL_STATUS Fld.TPL_STATUS_LASTREF = x.code % 256 := by
  unfold State.tplRefused
  dsimp only
  split <;> simp [State.fld, getF_putF _ Fld.TPL_STATUS_LASTREF _ rfl, Field.width]

@[simp] theorem State.mem_tplRefused (x : TplRef) : (s.tplRefused x).mem = s.mem := by
  unfold State.tplRefused
  dsimp only
  split <;> rfl

@[simp] theorem State.lane_putLane (l m : Nat) (js : List LdgJob) :
    (s.putLane l js).lane m = if m = l then js else s.lane m := Tab.get_set ..

theorem State.writing_refill {l : Nat} {kind : LdgKind} {k : Option Nat} (h : s.writing l kind k) :
    s.refill.writing l kind k := by
  unfold State.refill
  split
  next r rest hlane hbuf =>
    split
    · have hl : l ≠ 2 := by rintro rfl; simp [State.writing, hlane] at h
      obtain ⟨j, hj, hkind⟩ := h
      exact ⟨j, by simpa [State.lane, State.putLane, hl] using hj, hkind⟩
    · exact h
  next => exact h

/-- The next step's begin marks the first write of a lane; every write keeps its kind and its command. -/
theorem State.writing_kick {l : Nat} {kind : LdgKind} {k : Option Nat} (h : s.writing l kind k) :
    s.kick.writing l kind k := by
  obtain ⟨j, hj, hkind⟩ := State.writing_refill h
  unfold State.kick
  dsimp only
  split
  · exact ⟨j, hj, hkind⟩
  · split
    next => exact ⟨j, hj, hkind⟩
    next m hm =>
      split
      next => exact ⟨j, hj, hkind⟩
      next first rest hlane =>
        by_cases hl : l = m
        · subst hl
          rcases List.mem_cons.mp (hlane ▸ hj) with rfl | hrest
          · exact ⟨{ j with begun := true, steps := s.refill.freshSteps j.steps },
              by simp [State.lane, State.putLane, State.put_eq], hkind⟩
          · exact ⟨j, by simp [State.lane, State.putLane, State.put_eq, hrest], hkind⟩
        · exact ⟨j, by simpa [State.lane, State.putLane, State.put_eq, hl] using hj, hkind⟩

theorem State.writing_enqueue (l : Nat) (j : LdgJob) : (s.enqueue l j).writing l j.kind j.slot :=
  State.writing_kick ⟨j, by simp, rfl, rfl⟩

/-! The mark of a channel bears on neither the place nor the number of a bank write. -/

theorem State.rd_dmaRestart (ch : Nat) {q : Reg} (hq : q ≠ .MEM_DMASTAT) : (s.dmaRestart ch).rd q = s.rd q := by
  simp [State.dmaRestart, hq]

theorem State.single_dmaRestart (ch r : Nat) : (s.dmaRestart ch).single r = s.single r :=
  congrArg (wbit · (16 + r)) (State.rd_dmaRestart ch (by simp))

theorem State.abandoned_dmaRestart (ch r : Nat) : (s.dmaRestart ch).abandoned r = s.abandoned r :=
  congrArg (getF · _) (State.rd_dmaRestart ch (by simp))

theorem State.commitBank_dmaRestart (ch : Nat) : (s.dmaRestart ch).commitBank = s.commitBank := by
  simp [State.commitBank, State.single_dmaRestart, State.abandoned_dmaRestart, State.tplBank, State.fld,
    State.rd_dmaRestart]

theorem State.bankSt_dmaRestart (ch r b : Nat) : (s.dmaRestart ch).bankSt r b = s.bankSt r b := by
  unfold State.bankSt State.bankGone
  rw [State.single_dmaRestart, State.abandoned_dmaRestart]
  rfl

theorem State.newSeq_dmaRestart (ch r : Nat) : (s.dmaRestart ch).newSeq r = s.newSeq r := by
  simp [State.newSeq, State.bankSeq, State.bankSt_dmaRestart]

theorem State.rd_complete (k code detail : Nat) {q : Reg} (hq : q.block ≠ .ldg) :
    (s.complete k code detail).rd q = s.rd q :=
  (State.complete_keeps (B := (· = .ldg)) (M := False) (Keeps.refl s) rfl).regs q hq

/-- A refused command ends with the code of its failure, which LASTREF shows (R51, R283). -/
theorem State.refuseCmd_ends (k : Nat) (x : TplRef) (detail : Bool) :
    (s.refuseCmd k x detail).ended k x.code ∧
    (s.refuseCmd k x detail).fld .TPL_STATUS Fld.TPL_STATUS_LASTREF = x.code % 256 ∧
    (s.refuseCmd k x detail).mem = s.mem := by
  refine ⟨State.ended_complete .., ?_, (State.mem_complete ..).trans (State.mem_tplRefused x)⟩
  unfold State.refuseCmd State.fld
  rw [State.rd_complete _ _ _ (by decide)]
  exact State.lastref_tplRefused x

/-- A bank write of the trackplan enters its lane with its number; the store sees nothing of it yet (R307). -/
theorem State.commitStream_begins (lane k : Nat) (l : List Byte) :
    (s.commitStream lane k l).writing lane (.bank 1 s.commitBank (s.newSeq 1)) (some k) ∧
    (s.commitStream lane k l).rd .TPL_STATUS = s.rd .TPL_STATUS ∧ (s.commitStream lane k l).mem = s.mem := by
  have hkeeps : Keeps (· = .ldg) False s (s.commitStream lane k l) := State.enqueue_keeps (Keeps.refl s) rfl
  exact ⟨State.writing_enqueue lane _, hkeeps.regs _ (by decide), hkeeps.bytes id⟩

/-- What TPL_STORE does with a good stream (R58): the write takes its place and its number as the command begins. -/
theorem State.tplStore_begins {k : Nat} (h : s.StageClean k) (hc : s.checkStaged k true = none)
    (hw : s.readOnly 1 = false) : (s.tplStore k).writing 1 (.bank 1 s.commitBank (s.newSeq 1)) (some k) ∧
    (s.tplStore k).rd .TPL_STATUS = s.rd .TPL_STATUS ∧ (s.tplStore k).mem = s.mem := by
  rw [State.tplStore_clean h hc hw]
  have hbegins := (s.dmaRestart 3).commitStream_begins 1 k (s.staged k)
  rw [State.commitBank_dmaRestart, State.newSeq_dmaRestart, State.rd_dmaRestart 3 (by decide)] at hbegins
  exact hbegins

/-! ### A stream that runs -/

theorem State.sameStream_reloadNext : SameStream s s.reloadNext := by
  unfold State.reloadNext
  split
  · split
    · exact ⟨rfl, rfl, rfl⟩
    · exact .of_tp rfl
  · exact .of_tp rfl

/-- The end of a load command changes the record of the reload alone. -/
theorem State.sameStream_loadOver (k : Nat) : SameStream s (s.loadOver k) := by
  unfold State.loadOver
  refine SameStream.trans ?_ State.sameStream_reloadNext
  exact ⟨rfl, rfl, rfl⟩

/-- The commit of a load, or its failure on a read-only region, leaves the running stream (R59, R63). -/
theorem State.sameStream_commitLoad (k : Nat) (l : List Byte) : SameStream s (s.commitLoad k l) := by
  unfold State.commitLoad
  split
  · refine SameStream.trans ?_ (.of_tp (State.tp_complete ..))
    refine SameStream.trans ?_ (State.sameStream_loadOver k)
    exact .of_tp rfl
  · exact .of_tp (State.tp_enqueue ..)

/-- A stream that comes to run is the running one, with its own OWNER records, and the timetable is released (R54). -/
structure State.Running (s : State) (l : List Byte) : Prop where
  stream : s.tp.stream = l
  owners : s.tp.owners = streamOwners l
  released : s.tp.released = true

theorem State.Running.of_same {l : List Byte} (h : s.Running l) (k : SameStream s t) : t.Running l :=
  ⟨k.stream.trans h.stream, k.owners.trans h.owners, k.released.trans h.released⟩

theorem State.tplRuns_running (l : List Byte) (ph : Nat) : (s.tplRuns l ph).Running l := by
  unfold State.tplRuns
  refine State.Running.of_same ?_ ((State.happen_runsOn 7 0 0).trans State.reReact_runsOn).toSameStream
  exact ⟨rfl, rfl, rfl⟩

/-- TPL_LOAD_ALL of a good stream: the loops open, the registers of the old and the new stream but BATCFG at reset, the
new stream applied (R53, R54). -/
def State.appliedWhole (s : State) (k : Nat) : Bool × State :=
  let u := (each allSlots (fun j s => s.openSlot j false) s).resetRegs
    ((loadRegs s.tp.stream ++ loadRegs (s.staged k)).filter (· != .BKP_BATCFG))
  (u.setReg (streamEntries (s.staged k)) .BKP_BATCFG).applyStream (s.staged k)

theorem State.tplLoadAll_clean {k : Nat} (h : s.StageClean k)
    (hc : s.checkStaged k (s.tplSt == 0 || allRails.all fun n => s.railSt n == rOff) = none) :
    s.tplLoadAll k = if (s.appliedWhole k).1
      then ((s.appliedWhole k).2.tplRuns (s.staged k) 8).commitLoad k (s.staged k)
      else (s.appliedWhole k).2.loadFailed k s.tp.stream := by
  unfold State.tplLoadAll
  dsimp only
  rw [State.loadStage_clean h, hc]
  rfl

/-- The load takes the stream over when read-back agrees, and else ends with 0x23. -/
theorem State.tplLoadAll_ends {k : Nat} (h : s.StageClean k)
    (hc : s.checkStaged k (s.tplSt == 0 || allRails.all fun n => s.railSt n == rOff) = none) :
    if (s.appliedWhole k).1 then (s.tplLoadAll k).Running (s.staged k) else (s.tplLoadAll k).ended k 0x23 := by
  rw [State.tplLoadAll_clean h hc]
  split
  · exact (State.tplRuns_running _ 8).of_same (State.sameStream_commitLoad k _)
  · exact State.ended_complete ..

/-- Settles O2: each clause is what the command does in the state in which it notes its phase. -/
theorem trackplanStaged : Obligations.TrackplanStaged := by
  unfold Obligations.TrackplanStaged
  refine ⟨?verify, ?verifyRefused, ?store, ?loadAll⟩
  case verify =>
    intro k s hbegins good soft votes hcheck
    have hrow := State.ledgerRow_begins (f := fun k s => s.tplVerify k) hbegins
    obtain ⟨-, hop, -⟩ := hbegins
    have hclean := State.StageClean.setPhase ⟨good, soft, votes⟩ 1
    have hslot := State.slot_setPhase (s := s) k 1
    rw [State.tplVerify_good hclean ((State.checkStaged_setPhase k 1 true).trans hcheck)] at hrow
    refine ⟨_, congrArg Host.Outcome.next hrow, State.ended_complete .., ?_, ?_, State.mem_complete ..⟩
    · have hmessage := State.lastMessage_complete (s := s.setPhase k 1) k 0 0
      rw [hslot] at hmessage
      simpa [hop, opLane] using hmessage
    · exact State.regs_complete (by rw [hslot]; simp [hop, opLane]) 0 0
  case verifyRefused =>
    intro x k s hbegins good soft votes hcheck
    have hrow := State.ledgerRow_begins (f := fun k s => s.tplVerify k) hbegins
    have hclean := State.StageClean.setPhase ⟨good, soft, votes⟩ 1
    rw [State.tplVerify_refused hclean ((State.checkStaged_setPhase k 1 true).trans hcheck)] at hrow
    exact ⟨_, congrArg Host.Outcome.next hrow, State.refuseCmd_ends k x true⟩
  case store =>
    intro k s hbegins good soft votes hcheck hwritable
    have hclean := State.StageClean.setPhase ⟨good, soft, votes⟩ 1
    exact ⟨_, congrArg Host.Outcome.next (State.ledgerRow_begins hbegins),
      State.tplStore_begins hclean ((State.checkStaged_setPhase k 1 true).trans hcheck) hwritable⟩
  case loadAll =>
    intro u p k s hbegins good soft votes hcheck hu hp
    have hclean := State.StageClean.setPhase ⟨good, soft, votes⟩ 1
    have happlied : p = (s.setPhase k 1).appliedWhole k := by
      rw [hp, hu, State.appliedWhole, State.staged_setPhase]
      rfl
    have hends := State.tplLoadAll_ends hclean ((State.checkStaged_setPhase k 1 _).trans hcheck)
    rw [State.staged_setPhase, ← happlied] at hends
    refine ⟨_, congrArg Host.Outcome.next (State.ledgerRow_begins hbegins), ?_⟩
    by_cases hback : p.1 = true
    · rw [if_pos hback] at hends ⊢
      exact ⟨hends.stream, hends.released, hends.owners⟩
    · rw [if_neg hback] at hends ⊢
      exact hends

end Sys2Proof.Machine

/-!
SUPPORT. Partial reloads (R60 to R73): what TPL_STATUS shows of each phase, how a restore ends, TPL_HOLDMAX and the load
at boot.
-/

namespace Sys2Proof.Machine

variable {s t : State}

/-! ### The state and the phase that TPL_STATUS shows -/

theorem State.tplSt_setTpl (st ph : Nat) : (s.setTpl st ph).tplSt = st % 8 := by
  simp [State.tplSt, State.setTpl, State.fld, getF_putF _ Fld.TPL_STATUS_STATE _ rfl, Field.width,
    getF_putF_other _ Fld.TPL_STATUS_PHASE Fld.TPL_STATUS_STATE _ rfl (by decide)]

theorem State.tplPhase_setTpl (st ph : Nat) : (s.setTpl st ph).tplPhase = ph % 16 := by
  simp [State.tplPhase, State.setTpl, State.fld, getF_putF _ Fld.TPL_STATUS_PHASE _ rfl, Field.width]

/-! ### The end of a reload -/

/-- An accepted reload that waits is under way from now on; without one nothing changes. -/
theorem State.reloadNext_idle (h : s.reloadNext.tp.reload = none) : s.reloadNext = s := by
  unfold State.reloadNext at h ⊢
  split
  next k ks hwaiting =>
    rw [hwaiting] at h
    split
    next hready =>
      simp only [if_pos hready] at h
      cases h
    next => rfl
  next => rfl

/-- The record of a load command's reload is closed; the next accepted reload has not been looked for yet. -/
def State.loadClosed (s : State) (k : Nat) : State :=
  let s1 : State := { s with tp := { s.tp with reload := s.tp.reload.filter fun r => r.slot != k } }
  s1.setTpl (if s1.tp.reload.isSome then 3 else 2) 0

theorem State.loadClosed_idle {k : Nat} (h : (s.loadClosed k).tp.reload = none) :
    (s.loadClosed k).tplSt = 2 ∧ (s.loadClosed k).tplPhase = 0 := by
  have hnone : s.tp.reload.filter (fun r => r.slot != k) = none := h
  refine ⟨(State.tplSt_setTpl ..).trans ?_, State.tplPhase_setTpl ..⟩
  simp only [hnone]
  rfl

/-- With no reload left, the trackplan that runs shows again (R67). -/
theorem State.loadOver_idle {k : Nat} (h : (s.loadOver k).tp.reload = none) :
    (s.loadOver k).tplSt = 2 ∧ (s.loadOver k).tplPhase = 0 := by
  have hnext : s.loadOver k = s.loadClosed k := State.reloadNext_idle h
  rw [hnext] at h ⊢
  exact State.loadClosed_idle h

theorem State.dropRequests_runsOn (p : Nat → Bool) : RunsOn s (s.dropRequests p) := by
  unfold State.dropRequests
  refine RunsOn.trans (each_runsOn (s.tp.held.filter fun q => p q.dom)
    fun q s => State.put_runsOn (r := .TTB_G_STATUS q.grp) Fld.TTB_G_STATUS_HELD 0 (by simp)) ?_
  exact ⟨⟨rfl, rfl, rfl⟩, rfl, fun _ => rfl⟩

theorem State.gap_runsOn (stream index n queue : Nat) : RunsOn s (s.gap stream index n queue) := .of_tp rfl rfl

/-- The previous section is set again and its loops close, or its domain is marked FAILED (R69, R71). -/
def State.restored (s : State) (r : Reload) : State :=
  let p := s.restoreSection r
  if p.1 then p.2.closeSlots (allSlots.filter fun k => p.2.slotDom k == some r.dom)
  else p.2.put .TPL_DOMMASK Fld.TPL_DOMMASK_FAILED (p.2.fld .TPL_DOMMASK Fld.TPL_DOMMASK_FAILED ||| 2 ^ r.dom)

/-- What follows in a restore - requests dropped, the fault of a failed one, off requests that waited, the gap and the
event, the command's end - leaves the trackplan as the end of the load has left it (R69 to R71). -/
theorem State.reloadRestore_runsOn (r : Reload) (code : Nat) :
    RunsOn ((s.restored r).loadOver r.slot) (s.reloadRestore r code) := by
  unfold State.reloadRestore
  refine RunsOn.trans ?_ (State.complete_runsOn ..)
  refine RunsOn.trans ?_ (State.happen_runsOn ..)
  have hdrop := State.dropRequests_runsOn (s := (s.restored r).loadOver r.slot) fun x => x == r.dom
  have hraise : RunsOn ((s.restored r).loadOver r.slot)
      (if (s.restoreSection r).1 then ((s.restored r).loadOver r.slot).dropRequests fun x => x == r.dom
       else (((s.restored r).loadOver r.slot).dropRequests fun x => x == r.dom).raise 52 r.dom) := by
    split
    · exact hdrop
    · exact hdrop.trans (State.raise_runsOn 52 r.dom)
  have hdeferred := hraise.trans (State.runDeferred_runsOn r)
  split
  · exact hdeferred
  · exact hdeferred.trans (State.gap_runsOn ..)

/-- A restore ends the command with the abort's code, and the trackplan runs unless another reload is accepted. -/
theorem State.reloadRestore_ends (r : Reload) (code : Nat) : (s.reloadRestore r code).ended r.slot code ∧
    ((s.reloadRestore r code).tp.reload = none →
      (s.reloadRestore r code).tplSt = 2 ∧ (s.reloadRestore r code).tplPhase = 0) := by
  refine ⟨State.ended_complete .., fun hnone => ?_⟩
  have hruns := State.reloadRestore_runsOn (s := s) r code
  have hover : ((s.restored r).loadOver r.slot).tp.reload = none := by
    have hreload := hruns.reload
    rw [hnone] at hreload
    simpa using hreload.symm
  have hidle := State.loadOver_idle hover
  unfold State.tplSt State.tplPhase State.fld at hidle ⊢
  rw [hruns.status hover]
  exact hidle

/-! ### The phases of a reload -/

section
variable {r : Reload} {k : Nat}

/-- The running TPL_LOAD_DOMAIN works on the reload that is under way. -/
theorem State.tplLoadDomain_restores {c : Nat} (hr : s.tp.reload = some r) (hk : r.slot = k) (ha : r.abort = some c) :
    s.tplLoadDomain k = s.reloadRestore r c := by
  simp [State.tplLoadDomain, hr, ha, hk]

theorem State.tplLoadDomain_opens (hr : s.tp.reload = some r) (hk : r.slot = k) (ha : r.abort = none)
    (hp : s.tplPhase = 3) : s.tplLoadDomain k = s.reloadOpen r := by
  simp [State.tplLoadDomain, hr, ha, hk, hp]

theorem State.tplLoadDomain_verifies (hr : s.tp.reload = some r) (hk : r.slot = k) (ha : r.abort = none)
    (hp : s.tplPhase = 5) : s.tplLoadDomain k = s.reloadVerify r := by
  simp [State.tplLoadDomain, hr, ha, hk, hp]

end

theorem exec_tplLoadDomain_advance {k : Nat} (hrun : s.runningSlot 0 = some k) (hop : (s.slot k).op = 0x03) :
    exec (.tplLoadDomain .advance) s = .next (s.tplLoadDomain k) :=
  congrArg Host.Outcome.next (State.withRunning_eq hrun hop)

/-! ### A reload that starts with its acceptance -/

theorem State.reloadAccept_reload (k : Nat) : (s.reloadAccept k).tp.reload = some
    { slot := k, dom := (s.slot k).loadDom, restart := wbit (s.slot k).p0 8, safe := false,
      groupsUp := (s.slot k).groupsUp } := rfl

/-- The word of TPL_STATUS as an accepted reload shows it (R66). -/
theorem State.reloadAccept_shows (k : Nat) : (s.reloadAccept k).tplSt = 3 ∧ (s.reloadAccept k).tplPhase = 0 ∧
    (s.reloadAccept k).fld .TPL_STATUS Fld.TPL_STATUS_DOMAIN = (s.slot k).loadDom % 16 := by
  have hrd : (s.reloadAccept k).rd .TPL_STATUS = putF (putF (putF (s.rd .TPL_STATUS) Fld.TPL_STATUS_STATE 3)
      Fld.TPL_STATUS_DOMAIN (s.slot k).loadDom) Fld.TPL_STATUS_PHASE 0 := (State.rd_wr ..).trans (if_pos rfl)
  simp only [State.tplSt, State.tplPhase, State.fld, hrd]
  refine ⟨?_, getF_putF _ _ _ rfl, ?_⟩
  · rw [getF_putF_other _ _ _ _ rfl (by decide), getF_putF_other _ _ _ _ rfl (by decide), getF_putF _ _ _ rfl]
    rfl
  · rw [getF_putF_other _ _ _ _ rfl (by decide), getF_putF _ _ _ rfl]
    rfl

/-- The begin of the accepted reload shows phase 1 (R63). -/
theorem State.reloadBegin_shows {r : Reload} {k : Nat} (hr : s.tp.reload = some r) (hk : r.slot = k)
    (hp : s.tplPhase = 0) : (s.reloadBegin k).tplSt = s.tplSt ∧ (s.reloadBegin k).tplPhase = 1 ∧
    (s.reloadBegin k).fld .TPL_STATUS Fld.TPL_STATUS_DOMAIN = s.fld .TPL_STATUS Fld.TPL_STATUS_DOMAIN ∧
    (s.reloadBegin k).tp.reload.map (·.slot) = some k := by
  have hbegin : s.reloadBegin k = { s.put .TPL_STATUS Fld.TPL_STATUS_PHASE 1 with tp := { s.tp with
      reload := some { r with holdmax := s.fld .TPL_HOLDMAX Fld.TPL_HOLDMAX_TIME } } } := by
    simp [State.reloadBegin, hr, hk, hp]
  have hrd : (s.reloadBegin k).rd .TPL_STATUS = putF (s.rd .TPL_STATUS) Fld.TPL_STATUS_PHASE 1 := by
    rw [hbegin]
    exact (State.rd_wr ..).trans (if_pos rfl)
  simp only [State.tplSt, State.tplPhase, State.fld, hrd]
  refine ⟨getF_putF_other _ _ _ _ rfl (by decide), getF_putF _ _ _ rfl, getF_putF_other _ _ _ _ rfl (by decide), ?_⟩
  rw [hbegin]
  exact congrArg some hk

/-- TPL_LOAD_DOMAIN, accepted while the config lane is idle and the trackplan runs, begins at once (R60, R66). -/
theorem State.acceptCmd_reload (i : Iface) (k : Nat) (hready : s.reloadReady = true) (hidle : s.laneIdle 0x03 = true) :
    s.acceptCmd i 0x03 k = ((s.accepted i 0x03 k).reloadAccept k).reloadBegin k := by
  rw [State.acceptCmd_eq, if_pos ⟨rfl, hready⟩, if_pos hidle]

theorem State.acceptCmd_reload_shows (i : Iface) (k : Nat) (hready : s.reloadReady = true)
    (hidle : s.laneIdle 0x03 = true) : (s.acceptCmd i 0x03 k).tplSt = 3 ∧ (s.acceptCmd i 0x03 k).tplPhase = 1 ∧
    (s.acceptCmd i 0x03 k).fld .TPL_STATUS Fld.TPL_STATUS_DOMAIN = getF (s.bank i).p0 ⟨3, 0⟩ ∧
    (s.acceptCmd i 0x03 k).tp.reload.map (·.slot) = some k := by
  obtain ⟨hst, hphase, hdom⟩ := (s.accepted i 0x03 k).reloadAccept_shows k
  obtain ⟨hst', hphase', hdom', hslot⟩ := State.reloadBegin_shows (State.reloadAccept_reload k) rfl hphase
  rw [State.acceptCmd_reload i k hready hidle]
  refine ⟨hst'.trans hst, hphase', hdom'.trans (hdom.trans ?_), hslot⟩
  rw [State.slot_accepted]
  exact Nat.mod_eq_of_lt (Nat.mod_lt _ (by decide))

/-! ### TPL_HOLDMAX -/

/-- A field whose bits a mask holds reads as written. -/
theorem getF_masked (a v m : Word) (f : Field) (h : ∀ j < f.width, m.getLsbD (f.lo + j) = true) :
    getF ((a &&& ~~~ m) ||| (v &&& m)) f = getF v f := by
  refine Nat.eq_of_testBit_eq fun j => ?_
  rw [getF_testBit, getF_testBit]
  by_cases hj : j < f.width
  · simp [h j hj, hj]
  · simp [hj]

theorem State.merged_whole (r : Reg) (v : Word) : s.merged r v 0xF#4 = v := by
  have hmask : byteMask 0xF#4 = BitVec.allOnes 32 := by decide
  simp [State.merged, hmask, -BitVec.reduceAllOnes]

theorem exec_holdmaxWrite {i : Iface} {v : Word} (h : s.takes .TPL_HOLDMAX = true) :
    exec (.holdmaxWrite i v 0xF#4) s = .next (s.wrHoldmax v) := by
  have hstore : s.busStore i 0x40001018 v 0xF#4 = s.storeReg i .TPL_HOLDMAX v 0xF#4 :=
    State.busStore_reg h (by decide +kernel) (by decide) (by decide) (by simp) (by simp)
  refine congrArg Host.Outcome.next (hstore.trans ?_)
  exact congrArg s.wrHoldmax (State.merged_whole .TPL_HOLDMAX v)

theorem State.holdmax_wrHoldmax (v : Word) : (s.wrHoldmax v).fld .TPL_HOLDMAX Fld.TPL_HOLDMAX_TIME =
    if 10 ≤ getF v Fld.TPL_HOLDMAX_TIME ∧ getF v Fld.TPL_HOLDMAX_TIME ≤ 5000 then getF v Fld.TPL_HOLDMAX_TIME
    else s.fld .TPL_HOLDMAX Fld.TPL_HOLDMAX_TIME := by
  unfold State.wrHoldmax
  by_cases hrange : 10 ≤ getF v Fld.TPL_HOLDMAX_TIME ∧ getF v Fld.TPL_HOLDMAX_TIME ≤ 5000
  · rw [if_pos hrange, if_pos (by simpa [inRange] using hrange), State.fld, State.rd_writeRw, if_pos rfl]
    exact getF_masked _ _ _ _ (by decide)
  · rw [if_neg hrange, if_neg (by simpa [inRange] using hrange)]

/-! ### The load at boot, and the aborts -/

theorem exec_bootLoad (hmc : s.pw.mc = .firmware) (hst : s.tplSt = 1) (hwd : s.wd.expired = false) :
    exec .bootLoad s = .next s.bootLoad :=
  congrArg Host.Outcome.next (if_pos (by simp [hmc, hst, hwd]))

/-- The first bank that is accepted runs. -/
theorem State.bootLoad_first {b : Nat} {l : List Nat} (hb : s.bootBanks = b :: l) (ht : (s.bootTry b).1 = true) :
    s.bootLoad = (s.bootTry b).2.bootRuns b false := by
  simp [State.bootLoad, hb, ht]

theorem State.bootRuns_running (b : Nat) (older : Bool) : (s.bootRuns b older).Running (s.storedStream b) :=
  State.tplRuns_running _ 0

theorem State.bootLoad_none (hb : s.bootBanks = []) : s.bootLoad = s.tplNone.happen 9 0 0 := by
  simp [State.bootLoad, hb]

theorem State.rd_happen (f info code : Nat) {q : Reg} (hm : q.block ≠ .mem) (he : q.block ≠ .evt) :
    (s.happen f info code).rd q = s.rd q :=
  (State.happen_keeps (B := fun x => x = .mem ∨ x = .evt) (M := True) (Keeps.refl s) (.inl rfl) (.inr rfl)
    trivial).regs q (by simp [hm, he])

/-- The registers of TPL say that no stream runs. -/
def State.unconfigured (s : State) : State :=
  (((s.setTpl 0 0).wr .TPL_ID 0#32).wr .TPL_BUILD 0#32).wr .TPL_DOMMASK 0#32

theorem State.tplSt_unconfigured : s.unconfigured.tplSt = 0 := by
  have hrd : s.unconfigured.rd .TPL_STATUS = (s.setTpl 0 0).rd .TPL_STATUS := by simp [State.unconfigured]
  exact (congrArg (getF · _) hrd).trans (State.tplSt_setTpl ..)

theorem State.rd_of_regs (h : t.regs = s.regs) (q : Reg) : t.rd q = s.rd q := by
  rw [State.rd, State.rd, h]

/-- Unconfigured (R55): STATE 0, no identity, no stream. -/
theorem State.tplNone_shows : s.tplNone.tplSt = 0 ∧ s.tplNone.rd .TPL_ID = 0#32 ∧ s.tplNone.tp.stream = [] := by
  obtain ⟨u, hu⟩ : ∃ u : State, s.tplNone.regs = u.unconfigured.regs := by
    unfold State.tplNone
    generalize State.dropRequests _ _ = u
    exact ⟨u, rfl⟩
  rw [State.tplSt, State.fld, State.rd_of_regs hu, State.rd_of_regs hu]
  exact ⟨u.tplSt_unconfigured, by simp [State.unconfigured], rfl⟩

/-- An abort shows STATE 4, PHASE 9 and its code (R68). -/
theorem State.reloadAbort_shows {r : Reload} (code : Nat) (hr : s.tp.reload = some r) (ha : r.abort = none)
    (h1 : 1 ≤ s.tplPhase) (h6 : s.tplPhase ≤ 6) :
    (s.reloadAbort code).tplSt = 4 ∧ (s.reloadAbort code).tplPhase = 9 ∧
    (s.reloadAbort code).fld .TPL_STATUS Fld.TPL_STATUS_LASTREF = code % 256 ∧
    (s.reloadAbort code).tp.reload = some { r with abort := some code } := by
  have habort : s.reloadAbort code = { s.wr .TPL_STATUS (putF (putF (putF (s.rd .TPL_STATUS) Fld.TPL_STATUS_STATE 4)
      Fld.TPL_STATUS_PHASE 9) Fld.TPL_STATUS_LASTREF code) with
      tp := { s.tp with reload := some { r with abort := some code } } } := by
    unfold State.reloadAbort
    simp only [hr]
    exact if_pos ⟨by simp [ha], h1, h6⟩
  have hrd : (s.reloadAbort code).rd .TPL_STATUS = putF (putF (putF (s.rd .TPL_STATUS) Fld.TPL_STATUS_STATE 4)
      Fld.TPL_STATUS_PHASE 9) Fld.TPL_STATUS_LASTREF code := by
    rw [habort]
    exact (State.rd_wr ..).trans (if_pos rfl)
  simp only [State.tplSt, State.tplPhase, State.fld, hrd]
  refine ⟨?_, ?_, getF_putF _ _ _ rfl, by rw [habort]⟩
  · rw [getF_putF_other _ _ _ _ rfl (by decide), getF_putF_other _ _ _ _ rfl (by decide), getF_putF _ _ _ rfl]
    rfl
  · rw [getF_putF_other _ _ _ _ rfl (by decide), getF_putF _ _ _ rfl]
    rfl

/-- Settles O3: each clause is the lemma of its phase, of the load at boot, or of the abort. -/
theorem trackplanReload : Obligations.TrackplanReload := by
  unfold Obligations.TrackplanReload
  refine ⟨?begins, ?opens, ?verifies, ?restored, ?holdmax, ?boots, ?unconfigured, ?times, ?resumes⟩
  case begins =>
    intro i k s hadmits hrun hwaiting hready
    have hissue : exec (.tplLoadDomain (.issue i)) s = .next (s.acceptCmd i 0x03 k) :=
      congrArg Host.Outcome.next (State.issue_admits hadmits rfl)
    exact ⟨_, hissue, State.acceptCmd_reload_shows i k hready (by simp [State.laneIdle, opLane, hrun, hwaiting])⟩
  case opens =>
    intro r k s hrun hop hr hk ha hp
    rw [exec_tplLoadDomain_advance hrun hop, State.tplLoadDomain_opens hr hk ha hp]
    exact ⟨_, rfl, State.tplSt_setTpl .., State.tplPhase_setTpl ..⟩
  case verifies =>
    intro r k s hrun hop hr hk ha hp hback
    rw [exec_tplLoadDomain_advance hrun hop, State.tplLoadDomain_verifies hr hk ha hp]
    exact congrArg Host.Outcome.next (if_pos hback)
  case restored =>
    intro r c k s hrun hop hr hk ha
    rw [exec_tplLoadDomain_advance hrun hop, State.tplLoadDomain_restores hr hk ha, ← hk]
    exact ⟨_, rfl, State.reloadRestore_ends r c⟩
  case holdmax =>
    intro i v s htakes
    exact ⟨_, exec_holdmaxWrite htakes, State.holdmax_wrHoldmax v⟩
  case boots =>
    intro b l s hmc hst hwd hbanks htry
    rw [exec_bootLoad hmc hst hwd, State.bootLoad_first hbanks htry]
    have hruns := (s.bootTry b).2.bootRuns_running b false
    exact ⟨_, rfl, hruns.stream, hruns.released, hruns.owners.trans (congrArg streamOwners hruns.stream.symm)⟩
  case unconfigured =>
    intro s hmc hst hwd hbanks
    rw [exec_bootLoad hmc hst hwd, State.bootLoad_none hbanks]
    obtain ⟨hst, hid, hstream⟩ := State.tplNone_shows (s := s)
    refine ⟨_, rfl, ?_, ?_, ?_⟩
    · rw [State.tplSt, State.fld, State.rd_happen _ _ _ (by decide) (by decide)]
      exact hst
    · rw [State.rd_happen _ _ _ (by decide) (by decide)]
      exact hid
    · rw [State.tp_happen]
      exact hstream
  case times =>
    intro r s hr hsafe ha h4 h6
    have htimeout : exec .holdTimeout s = .next (s.reloadAbort 0x22) := by
      refine congrArg Host.Outcome.next ?_
      simp [hr, hsafe, inRange, h4, h6]
    exact ⟨_, htimeout, State.reloadAbort_shows 0x22 hr ha (by omega) h6⟩
  case resumes =>
    intro r s hr hp ha hdone
    refine congrArg Host.Outcome.next ?_
    simp [hr, hp, ha, hdone]

end Sys2Proof.Machine

/-!
SUPPORT. Loop slots and engines: what a read sees of them after each update, and the fields of their registers.
-/

namespace Sys2Proof.Machine

variable {s t : State}

/-! ### Blocks and writable bits -/

@[simp] theorem block_lpsCtl (k : Nat) : (Reg.LPS_CTL k).block = .lpe := rfl
@[simp] theorem block_lpsCfg (k : Nat) : (Reg.LPS_CFG k).block = .lpe := rfl
@[simp] theorem block_lpsIn (k : Nat) : (Reg.LPS_IN k).block = .lpe := rfl
@[simp] theorem block_lpsRef (k : Nat) : (Reg.LPS_REF k).block = .lpe := rfl
@[simp] theorem block_lpsOut (k : Nat) : (Reg.LPS_OUT k).block = .lpe := rfl
@[simp] theorem block_lpsModel (k : Nat) : (Reg.LPS_MODEL k).block = .lpe := rfl
@[simp] theorem block_lpsStat (k : Nat) : (Reg.LPS_STAT k).block = .lpe := rfl
@[simp] theorem block_lpsFlag (k : Nat) : (Reg.LPS_FLAG k).block = .lpe := rfl
@[simp] theorem block_lpeTempo (e : Nat) : (Reg.LPE_TEMPO e).block = .lpe := rfl
@[simp] theorem block_lpeFlag (e : Nat) : (Reg.LPE_FLAG e).block = .lpe := rfl
@[simp] theorem block_cof (e j c : Nat) : (Reg.COF e j c).block = .lpe := rfl

/-- A field none of whose bits a mask holds keeps its value. -/
theorem getF_unmasked (a v m : Word) (f : Field) (h : ∀ j < f.width, m.getLsbD (f.lo + j) = false) :
    getF ((a &&& ~~~ m) ||| (v &&& m)) f = getF a f := by
  refine Nat.eq_of_testBit_eq fun j => ?_
  rw [getF_testBit, getF_testBit]
  by_cases hj : j < f.width
  · have hm : ¬ m.getLsbD (f.lo + j) = true := by simp [h j hj]
    rw [BitVec.getLsbD_or, BitVec.getLsbD_and, BitVec.getLsbD_and, BitVec.getLsbD_not]
    by_cases h32 : f.lo + j < 32
    · simp only [hm, h32, decide_true, Bool.not_false, Bool.and_true, Bool.and_false, Bool.or_false]
    · simp only [BitVec.getLsbD_of_ge _ _ (Nat.le_of_not_lt h32), Bool.false_and, Bool.or_self]
  · simp [hj]

theorem getF_lt (w : Word) (f : Field) : getF w f < 2 ^ f.width := Nat.mod_lt _ (Nat.two_pow_pos _)

/-! ### Hidden state of slots and engines -/

@[simp] theorem State.rd_putLoopX (k : Nat) (x : LoopX) (q : Reg) : (s.putLoopX k x).rd q = s.rd q := rfl
@[simp] theorem State.regs_putLoopX (k : Nat) (x : LoopX) : (s.putLoopX k x).regs = s.regs := rfl
@[simp] theorem State.loopX_putLoopX (k j : Nat) (x : LoopX) :
    (s.putLoopX k x).loopX j = if j = k then x else s.loopX j := Tab.get_set ..
@[simp] theorem State.engX_putLoopX (k e : Nat) (x : LoopX) : (s.putLoopX k x).engX e = s.engX e := rfl
@[simp] theorem State.sections_putLoopX (k : Nat) (x : LoopX) : (s.putLoopX k x).lp.sections = s.lp.sections := rfl
@[simp] theorem State.dests_putLoopX (k : Nat) (x : LoopX) : (s.putLoopX k x).lp.dests = s.lp.dests := rfl

@[simp] theorem State.rd_putEngX (e : Nat) (x : EngineX) (q : Reg) : (s.putEngX e x).rd q = s.rd q := rfl
@[simp] theorem State.regs_putEngX (e : Nat) (x : EngineX) : (s.putEngX e x).regs = s.regs := rfl
@[simp] theorem State.engX_putEngX (e j : Nat) (x : EngineX) :
    (s.putEngX e x).engX j = if j = e then x else s.engX j := Tab.get_set ..
@[simp] theorem State.sections_putEngX (e : Nat) (x : EngineX) : (s.putEngX e x).lp.sections = s.lp.sections := rfl

@[simp] theorem State.loopX_put (r : Reg) (f : Field) (v k : Nat) : (s.put r f v).loopX k = s.loopX k := rfl
@[simp] theorem State.engX_put (r : Reg) (f : Field) (v e : Nat) : (s.put r f v).engX e = s.engX e := rfl
@[simp] theorem State.loopX_draw (k : Nat) : s.draw.2.loopX k = s.loopX k := rfl

@[simp] theorem State.rd_clearSections (k : Nat) (q : Reg) : (s.clearSections k).rd q = s.rd q := rfl
@[simp] theorem State.rd_putDest (d : Nat × Nat) (v : Rat) (q : Reg) : (s.putDest d v).rd q = s.rd q := by
  unfold State.putDest
  split <;> rfl
@[simp] theorem State.rd_leaveDest (d : Nat × Nat) (q : Reg) : (s.leaveDest d).rd q = s.rd q := by
  unfold State.leaveDest
  split <;> rfl
@[simp] theorem State.loopX_putDest (d : Nat × Nat) (v : Rat) (k : Nat) : (s.putDest d v).loopX k = s.loopX k := by
  unfold State.putDest
  split <;> rfl
@[simp] theorem State.sections_putDest (d : Nat × Nat) (v : Rat) : (s.putDest d v).lp.sections = s.lp.sections := by
  unfold State.putDest
  split <;> rfl
@[simp] theorem State.rd_zeroSlot (k : Nat) (q : Reg) : (s.zeroSlot k).rd q = s.rd q := by
  simp [State.zeroSlot]

/-! ### Flags -/

theorem EventsOnly.lp (h : EventsOnly s t) : t.lp = s.lp := by
  obtain ⟨regs, mem, ev, me, rfl⟩ := h
  rfl

@[simp] theorem State.lp_setFlagI (r : Reg) (b info code : Nat) : (s.setFlagI r b info code).lp = s.lp :=
  (State.setFlagI_eventsOnly r b info code).lp
@[simp] theorem State.lp_setFlag (r : Reg) (b : Nat) : (s.setFlag r b).lp = s.lp := State.lp_setFlagI ..
@[simp] theorem State.loopX_setFlag (r : Reg) (b k : Nat) : (s.setFlag r b).loopX k = s.loopX k := by simp [State.loopX]
@[simp] theorem State.engX_setFlag (r : Reg) (b e : Nat) : (s.setFlag r b).engX e = s.engX e := by simp [State.engX]

/-- Outside MEM and EVT a flag leaves every other register. -/
theorem State.rd_setFlag (r q : Reg) (b : Nat) (hq : q ≠ r) (hm : q.block ≠ .mem) (he : q.block ≠ .evt) :
    (s.setFlag r b).rd q = s.rd q := State.rd_setFlag_other _ _ _ _ _ hq hm he

/-- A flag that is set stays when another flag of its register is set. -/
theorem State.bit_setFlag_of_bit {r : Reg} {b j : Nat} (hb : b < 32) (hm : r.block ≠ .mem) (he : r.block ≠ .evt)
    (h : s.bit r j = true) : (s.setFlag r b).bit r j = true := by
  by_cases hj : j = b
  · rw [hj]
    exact State.bit_setFlag r b hb hm he
  · unfold State.bit at h ⊢
    rw [State.setFlag, State.rd_setFlagI _ _ _ _ hm he]
    split
    · exact h
    · rw [wbit_wputBit_other _ _ _ _ hb hj, h]

end Sys2Proof.Machine

/-!
SUPPORT. What a raise of a fault leaves of the loop engines: its reactions start a new settle time of loops (R123), which
clears MWCNT in LPSss_STAT, and reach no other register of the block; the source stays latched (R239).
-/

namespace Sys2Proof.Machine

variable {s t u : State}

/-- From `s` to `t` the registers of the loop engines stay but for MWCNT in LPSss_STAT. -/
structure LoopRegsStay (s t : State) : Prop where
  regs : ∀ q : Reg, q.block = .lpe → (∀ k, q ≠ .LPS_STAT k) → t.rd q = s.rd q
  stat : ∀ k f, f.hi < Fld.LPS_STAT_MWCNT.lo ∨ Fld.LPS_STAT_MWCNT.hi < f.lo →
    t.fld (.LPS_STAT k) f = s.fld (.LPS_STAT k) f

theorem LoopRegsStay.refl (s : State) : LoopRegsStay s s := ⟨fun _ _ _ => rfl, fun _ _ _ => rfl⟩

theorem LoopRegsStay.trans (h : LoopRegsStay s t) (k : LoopRegsStay t u) : LoopRegsStay s u :=
  ⟨fun q hb hq => (k.regs q hb hq).trans (h.regs q hb hq), fun n f hf => (k.stat n f hf).trans (h.stat n f hf)⟩

theorem LoopRegsStay.of_keeps (h : Keeps (· ≠ .lpe) True s t) : LoopRegsStay s t :=
  ⟨fun q hb _ => h.regs q (by simp [hb]), fun k f _ => congrArg (getF · f) (h.regs (.LPS_STAT k) (by simp))⟩

theorem LoopRegsStay.of_regs (h : t.regs = s.regs) : LoopRegsStay s t :=
  ⟨fun q _ _ => State.rd_of_regs h q, fun k f _ => congrArg (getF · f) (State.rd_of_regs h (.LPS_STAT k))⟩

theorem LoopRegsStay.ite {c : Prop} [Decidable c] (h : LoopRegsStay s t) : LoopRegsStay s (if c then t else s) := by
  split
  · exact h
  · exact .refl s

theorem each_loopRegsStay {α : Type} (l : List α) {f : α → State → State} (h : ∀ x s, LoopRegsStay s (f x s)) :
    LoopRegsStay s (each l f s) := by
  unfold each
  induction l generalizing s with
  | nil => exact .refl s
  | cons x t ih => exact (h x s).trans ih

theorem State.put_loopRegsStay {r : Reg} (f : Field) (v : Nat) (h : r.block ≠ .lpe) : LoopRegsStay s (s.put r f v) :=
  .of_keeps (State.put_keeps (Keeps.refl s) h)

/-! ### Rails and groups on the way down -/

@[simp] theorem block_railStatus (n : Nat) : (Reg.RAIL_STATUS n).block = .rail := rfl
@[simp] theorem block_railFlag (n : Nat) : (Reg.RAIL_FLAG n).block = .rail := rfl
@[simp] theorem block_groupStatus (g : Nat) : (Reg.TTB_G_STATUS g).block = .ttb := rfl
@[simp] theorem block_groupFlag (g : Nat) : (Reg.TTB_G_FLAG g).block = .ttb := rfl
@[simp] theorem block_fltCause (w : Nat) : (Reg.FLT_CAUSE w).block = .flt := rfl

/-- The settle time of a loop runs again (R123). -/
theorem State.unsettle_loopRegsStay (n : Nat) : LoopRegsStay s (s.unsettle n) := by
  refine each_loopRegsStay _ fun k s => ⟨fun q _ hq => ?_, fun j f hf => ?_⟩
  · rw [State.rd_putLoopX, State.rd_put, if_neg (hq k)]
  · rw [State.fld, State.fld, State.rd_putLoopX, State.rd_put]
    split
    next hj => rw [hj]; exact getF_putF_other _ _ _ _ rfl hf
    next => rfl

theorem State.startRamp_loopRegsStay (n target full time : Nat) : LoopRegsStay s (s.startRamp n target full time) := by
  unfold State.startRamp
  dsimp only
  refine LoopRegsStay.trans ?_ (State.unsettle_loopRegsStay n)
  exact .of_regs rfl

theorem State.rampDown_loopRegsStay (n : Nat) : LoopRegsStay s (s.rampDown n) := by
  have hdown : Keeps (· ≠ .lpe) True s (((s.regangOff n 0x39).leaveOn n).setRail n rRampDown) := by
    apply State.setRail_keeps
    · apply State.leaveOn_keeps
      · apply State.regangOff_keeps (Keeps.refl s) <;> decide
      all_goals decide
    · decide
  exact (LoopRegsStay.of_keeps hdown).trans (State.startRamp_loopRegsStay ..)

theorem State.regangOff_loopRegsStay (n code : Nat) : LoopRegsStay s (s.regangOff n code) :=
  .of_keeps (by apply State.regangOff_keeps (Keeps.refl s) <;> decide)

theorem State.setFlag_loopRegsStay {r : Reg} (b : Nat) (h : r.block ≠ .lpe) : LoopRegsStay s (s.setFlag r b) :=
  .of_keeps (State.setFlag_keeps (Keeps.refl s) (by decide) (by decide) h trivial)

theorem State.railOff_loopRegsStay (n code : Nat) : LoopRegsStay s (s.railOff n code) := by
  unfold State.railOff
  have hpend : LoopRegsStay s (s.put (.RAIL_STATUS n) Fld.RAIL_STATUS_PEND 0) := State.put_loopRegsStay _ _ (by simp)
  have hoff := hpend.trans (State.regangOff_loopRegsStay n code)
  have hramp := hoff.trans (State.rampDown_loopRegsStay n)
  dsimp only
  split
  · refine hoff.trans (.of_keeps ?_)
    apply State.railToOff_keeps (Keeps.refl _) <;> decide
  split
  · exact hramp.trans (State.setFlag_loopRegsStay 2 (by simp))
  split
  · split
    · exact hramp
    · refine hoff.trans (.of_keeps ?_)
      apply State.setRail_keeps
      · apply State.leaveOn_keeps (Keeps.refl _) <;> decide
      · decide
  split
  · split
    · exact hramp
    · exact hoff
  · exact hpend

theorem State.stepReverse_loopRegsStay (g j code : Nat) : LoopRegsStay s (s.stepReverse g j code) := by
  have hstep : LoopRegsStay s (((s.put (.TTB_G_STATUS g) Fld.TTB_G_STATUS_STEP j).put (.TTB_G_STATUS g)
      Fld.TTB_G_STATUS_DIR 1).putGrpX g {}) :=
    ((State.put_loopRegsStay _ _ (by simp)).trans (State.put_loopRegsStay _ _ (by simp))).trans (.of_regs rfl)
  unfold State.stepReverse
  dsimp only
  split
  · exact hstep.trans (State.railOff_loopRegsStay ..)
  · refine hstep.trans (.of_keeps ?_)
    apply State.putBit_keeps
    · apply State.resetLow_keeps (Keeps.refl _); decide
    · decide
  · exact hstep.trans (.of_regs rfl)
  · exact hstep

theorem State.setGroup_loopRegsStay (g st : Nat) : LoopRegsStay s (s.setGroup g st) :=
  .of_keeps (by apply State.setGroup_keeps (Keeps.refl s) <;> decide)

theorem State.groupOff_loopRegsStay (g code : Nat) : LoopRegsStay s (s.groupOff g code) := by
  unfold State.groupOff
  split
  · split
    · refine .of_keeps ?_
      apply State.groupToOff_keeps (Keeps.refl s) <;> decide
    · exact (State.setGroup_loopRegsStay g 3).trans (State.stepReverse_loopRegsStay ..)
  · exact ((State.setGroup_loopRegsStay g 3).trans (State.setFlag_loopRegsStay 0 (by simp))).trans
      (State.stepReverse_loopRegsStay ..)
  · exact .refl s

theorem State.groupStartFail_loopRegsStay (n : Nat) : LoopRegsStay s (s.groupStartFail n) := by
  unfold State.groupStartFail
  split
  · exact .refl s
  next g _ =>
    have hflag : LoopRegsStay s (s.setFlag (.TTB_G_FLAG g) 1) := State.setFlag_loopRegsStay 1 (by simp)
    split
    · dsimp only
      split
      · exact (hflag.trans (State.put_loopRegsStay _ _ (by simp))).trans (.of_regs rfl)
      · exact hflag.trans (State.groupOff_loopRegsStay ..)
    · exact .refl s

theorem State.groupLatched_loopRegsStay (n : Nat) : LoopRegsStay s (s.groupLatched n) := by
  unfold State.groupLatched
  split
  · exact .refl s
  · split
    · exact State.groupStartFail_loopRegsStay n
    · exact .ite (State.put_loopRegsStay _ _ (by simp))

/-! ### The reactions of the classes (Table 10.2) -/

theorem State.reactA_loopRegsStay (f : Nat) : LoopRegsStay s (s.reactA f) := by
  refine each_loopRegsStay _ fun n s => LoopRegsStay.trans (.of_keeps ?_) (State.groupLatched_loopRegsStay n)
  apply State.latchRail_keeps (Keeps.refl s) <;> decide

theorem State.groupOffLater_loopRegsStay (g code : Nat) : LoopRegsStay s (s.groupOffLater g code) := by
  unfold State.groupOffLater
  split
  · split
    · exact .of_regs rfl
    · exact State.groupOff_loopRegsStay g code
  · exact State.groupOff_loopRegsStay g code

theorem State.railOffLater_loopRegsStay (n code : Nat) : LoopRegsStay s (s.railOffLater n code) := by
  unfold State.railOffLater
  split
  · split
    · exact .of_regs rfl
    · exact State.railOff_loopRegsStay n code
  · exact State.railOff_loopRegsStay n code

theorem State.groupOffB_loopRegsStay (g : Nat) : LoopRegsStay s (s.groupOffB g) :=
  ((State.put_loopRegsStay _ _ (by simp)).trans
    (each_loopRegsStay _ fun _ _ => State.put_loopRegsStay _ _ (by simp))).trans
      (State.groupOffLater_loopRegsStay g 0x21)

theorem State.railOffB_loopRegsStay (f n : Nat) : LoopRegsStay s (s.railOffB f n) := by
  unfold State.railOffB
  dsimp only
  refine LoopRegsStay.trans ?_ (State.railOffLater_loopRegsStay n 0x21)
  exact .of_regs rfl

theorem State.reactB_loopRegsStay (f : Nat) : LoopRegsStay s (s.reactB f) := by
  have hregang : LoopRegsStay s (s.regangDown 0x21) :=
    .of_keeps (by apply State.regangDown_keeps (Keeps.refl s) <;> decide)
  unfold State.reactB
  split
  · exact .refl s
  · exact (LoopRegsStay.ite hregang).trans (((each_loopRegsStay _ fun g _ => State.groupOffB_loopRegsStay g).trans
      (each_loopRegsStay _ fun n _ => State.railOffB_loopRegsStay f n)).trans
        (.of_keeps (State.offsWait_keeps (Keeps.refl _))))

theorem State.react_loopRegsStay (f cls : Nat) : LoopRegsStay s (s.react f cls) := by
  have habort : LoopRegsStay s (match s.tp.reload with
      | some r => if cls ≠ 0 ∧ s.faultDom f = some r.dom then s.reloadAbort 0x21 else s
      | none => s) := by
    split
    · exact .ite (.of_keeps (State.reloadAbort_keeps (Keeps.refl s) (by decide)))
    · exact .refl s
  unfold State.react
  dsimp only
  split
  · exact habort.trans (State.reactA_loopRegsStay f)
  · split
    · exact habort.trans (State.reactB_loopRegsStay f)
    · exact habort

/-! ### The raise (R239) -/

/-- The source's bit, its cause and its count, the first part of a raise. -/
def State.raiseMarks (s : State) (f cause : Nat) : State :=
  ((s.putBit (.FLT_STAT (f / 32)) (f % 32) true).put (.FLT_CAUSE (f / 8)) (causeField f) cause).countFault f

theorem State.latched_raiseMarks (f cause : Nat) : (s.raiseMarks f cause).latched f = true := by
  have hrd : (s.raiseMarks f cause).rd (.FLT_STAT (f / 32)) = wputBit (s.rd (.FLT_STAT (f / 32))) (f % 32) true := by
    simp [State.raiseMarks, State.countFault, State.addSat]
  rw [State.latched, State.bit, hrd]
  exact wbit_wputBit _ _ _ (Nat.mod_lt _ (by decide))

theorem State.raiseMarks_loopRegsStay (f cause : Nat) : LoopRegsStay s (s.raiseMarks f cause) :=
  .of_keeps (State.countFault_keeps (State.put_keeps (State.putBit_keeps (Keeps.refl s) (by simp)) (by simp)) (by decide))

/-- The reports of a raise that has reacted: FAULT_N, the captures, the record, the dump and the TRIP (R245, R248 to
R252); `s` is the state of the raise. -/
def State.raiseReports (s u : State) (f cause : Nat) : State :=
  let cls := s.fld (.FLT_CFG f) Fld.FLT_CFG_CLASS
  let s3 := (u.faultPin.captureFirst f cls cause).logFault f cls cause false
  let s4 := if s.bit (.FLT_CFG f) 2 then s3.requestDump f cause else s3
  let s5 := if s.bit (.FLT_CFG f) 4 then s4.sendTrip f else s4
  s5.faultMessage f cls cause false

theorem State.raise_eq (f cause : Nat) : s.raise f cause =
    if s.latched f then s.countFault f
    else s.raiseReports ((s.raiseMarks f cause).react f (s.fld (.FLT_CFG f) Fld.FLT_CFG_CLASS)) f cause := by
  simp [State.raise, State.raiseNew, State.raiseReports, State.raiseMarks]

theorem State.rd_captureFirst {q : Reg} (f cls cause : Nat) (h : q ≠ .FLT_FIRST) (hlo : q ≠ .FLT_FIRSTT_LO)
    (hhi : q ≠ .FLT_FIRSTT_HI) : (s.captureFirst f cls cause).rd q = s.rd q := by
  unfold State.captureFirst
  split
  · rfl
  · simp [h, hlo, hhi]

theorem State.rd_raiseReports {q : Reg} (f cause : Nat) (hb : q.block ∉ [Block.mem, .evt, .ldg, .lnk])
    (h : q ≠ .FLT_FIRST) (hlo : q ≠ .FLT_FIRSTT_LO) (hhi : q ≠ .FLT_FIRSTT_HI) :
    (s.raiseReports u f cause).rd q = u.rd q := by
  have hpin : u.faultPin.rd q = u.rd q := (State.faultPin_keeps (B := fun _ => False) (M := True) (Keeps.refl u)).regs q id
  have hcapture := (State.rd_captureFirst f (s.fld (.FLT_CFG f) Fld.FLT_CFG_CLASS) cause h hlo hhi).trans hpin
  refine Eq.trans (Keeps.regs (B := (· ∈ [Block.mem, .evt, .ldg, .lnk])) (M := True) ?_ q hb) hcapture
  have hlog := State.logFault_keeps (x1 := f) (x2 := s.fld (.FLT_CFG f) Fld.FLT_CFG_CLASS) (x3 := cause) (x4 := false)
    (Keeps.refl (B := (· ∈ [Block.mem, .evt, .ldg, .lnk])) (M := True) (u.faultPin.captureFirst f
      (s.fld (.FLT_CFG f) Fld.FLT_CFG_CLASS) cause)) (by decide) (by decide) (by decide) trivial
  have hdump := State.requestDump_keeps (x1 := f) (x2 := cause) hlog
  unfold State.raiseReports
  refine State.faultMessage_keeps ?_
  split
  · refine State.sendTrip_keeps ?_ (by decide) (by decide) (by decide) trivial
    split
    · exact hdump
    · exact hlog
  · split
    · exact hdump
    · exact hlog

theorem State.raiseReports_loopRegsStay (f cause : Nat) : LoopRegsStay u (s.raiseReports u f cause) where
  regs q hb _ := State.rd_raiseReports f cause (by simp [hb]) (fun h => by rw [h] at hb; cases hb)
    (fun h => by rw [h] at hb; cases hb) (fun h => by rw [h] at hb; cases hb)
  stat k g _ := congrArg (getF · g) (State.rd_raiseReports f cause (by simp) (by simp) (by simp) (by simp))

theorem State.raise_loopRegsStay (f cause : Nat) : LoopRegsStay s (s.raise f cause) := by
  rw [State.raise_eq]
  split
  · exact .of_keeps (State.countFault_keeps (Keeps.refl s) (by decide))
  · exact ((State.raiseMarks_loopRegsStay f cause).trans (State.react_loopRegsStay ..)).trans
      (State.raiseReports_loopRegsStay ..)

/-- A raised source is latched when its reaction is over. -/
theorem State.latched_raise (f cause : Nat) : (s.raise f cause).latched f = true := by
  rw [State.raise_eq]
  by_cases hl : s.latched f = true
  · rw [if_pos hl]
    have hcount : (s.countFault f).rd (.FLT_STAT (f / 32)) = s.rd (.FLT_STAT (f / 32)) := by
      simp [State.countFault, State.addSat]
    rw [State.latched, State.bit, hcount]
    exact hl
  · rw [if_neg hl]
    have hreact : ∀ u : State, ∀ cls, (u.react f cls).rd (.FLT_STAT (f / 32)) = u.rd (.FLT_STAT (f / 32)) := fun u cls =>
      Keeps.regs (B := (· ≠ .flt)) (M := True) (by apply State.react_keeps (Keeps.refl u) <;> decide) _ (by simp)
    rw [State.latched, State.bit, State.rd_raiseReports f cause (by simp) (by simp) (by simp) (by simp), hreact]
    exact State.latched_raiseMarks f cause

end Sys2Proof.Machine

/-!
SUPPORT. The samples of a loop, the tempo of its engine, and the shedding and restoring of rates (R102, R105, R110, R112,
R114, R126).
-/

namespace Sys2Proof.Machine

variable {s t : State}

/-! ### The reference of a sample -/

section
variable {k : Nat} (hsw : t.sw = s.sw) (h : ∀ q, q ≠ .LPS_STAT k → q ≠ .XNG_STAT → t.rd q = s.rd q)
include h

theorem State.chan_congr (x ch : Nat) : t.chan x ch = s.chan x ch := by
  have hrbat : t.rbat = s.rbat := by simp only [State.rbat, State.fld, h .BKP_SHUNT (by simp) (by simp)]
  have hrchg : t.rchg = s.rchg := by simp only [State.rchg, State.fld, h .BKP_SHUNT (by simp) (by simp)]
  have hdivider : t.divider ch = s.divider ch := by
    simp only [State.divider, State.fld, h (.SUP_CFG ch) (by simp) (by simp)]
  simp only [State.chan, hrbat, hrchg, hdivider]

include hsw

theorem State.iout_congr (n : Nat) : t.iout n = s.iout n := by
  have hgang : t.gang n = s.gang n := by
    have hrail : ∀ m, t.stgRail m = s.stgRail m := fun m => congrArg (getF · _) (h (.STG_CFG m) (by simp) (by simp))
    simp only [State.gang, hrail]
  have hrotation : t.inRotation n = s.inRotation n := by
    have hst : ∀ m, t.stgSt m = s.stgSt m := fun m => congrArg (getF · _) (h (.STG_STATE m) (by simp) (by simp))
    simp only [State.inRotation, hgang, hst, State.stgX, hsw]
  have hiavg : t.iavg = s.iavg := by
    funext m
    simp only [State.iavg, State.fld, h (.STG_MEAS m) (by simp) (by simp)]
  simp only [State.iout, hrotation, hiavg]

/-- The reference of a slot depends neither on its LPSss_STAT nor on XNG_STAT. -/
theorem State.slotRef_congr : t.slotRef k = s.slotRef k := by
  have hfld : ∀ q f, q ≠ .LPS_STAT k → q ≠ .XNG_STAT → t.fld q f = s.fld q f := fun q f h1 h2 =>
    congrArg (getF · f) (h q h1 h2)
  have hcharge : t.chgTarget = s.chgTarget := by
    have hst : t.chgSt = s.chgSt := hfld .BKP_STATUS _ (by simp) (by simp)
    rw [State.chgTarget, State.chgTarget, hst, hfld .BKP_CHGLIM _ (by simp) (by simp), hfld .BKP_CHG _ (by simp) (by simp)]
  have hcv : t.cvTarget = s.cvTarget := by
    simp only [State.cvTarget, hfld .BKP_BATCFG _ (by simp) (by simp), hfld .BKP_CHG _ (by simp) (by simp)]
  simp only [State.slotRef, State.slotTap, State.slotKind, State.chan_congr h, State.iout_congr hsw h, hcharge, hcv,
    hfld (.LPS_IN k) _ (by simp) (by simp), hfld (.LPS_REF k) _ (by simp) (by simp), hfld (.LPS_CFG k) _ (by simp) (by simp),
    hfld .BKP_VINREG _ (by simp) (by simp), hfld (.RAIL_STATUS _) _ (by simp) (by simp)]

end

theorem State.destOut_congr (d : Nat × Nat) (hdests : t.lp.dests = s.lp.dests)
    (hcfg : ∀ j, t.rd (.LPS_CFG j) = s.rd (.LPS_CFG j)) (hout : ∀ j, t.rd (.LPS_OUT j) = s.rd (.LPS_OUT j)) :
    t.destOut d = s.destOut d := by
  have hdest : ∀ j, t.slotDest j = s.slotDest j := fun j => by
    have hfld : t.fld (.LPS_OUT j) = s.fld (.LPS_OUT j) := funext fun f => congrArg (getF · f) (hout j)
    rw [State.slotDest, State.slotDest, hfld]
  have hused : ∀ j, t.slotUsed j = s.slotUsed j := fun j => congrArg cfgUsed (hcfg j)
  have hany : (allSlots.any fun j => t.slotUsed j && t.slotDest j == d) =
      allSlots.any fun j => s.slotUsed j && s.slotDest j == d := by
    simp only [hused, hdest]
  rw [State.destOut, State.destOut, hany, hdests]

/-! ### Triggers -/

theorem State.rd_setPrate (k c : Nat) (q : Reg) : (s.setPrate k c).rd q =
    if q = .LPS_STAT k then putF (s.rd (.LPS_STAT k)) Fld.LPS_STAT_PRATE c else s.rd q := by
  simp only [State.setPrate, State.rd_putLoopX, State.rd_put]

theorem State.loopX_setPrate (k c : Nat) : (s.setPrate k c).loopX k =
    { s.loopX k with rateAt := some s.clock.localTicks, shedTo := none } := by
  simp [State.setPrate]

/-- What a trigger changes before it takes a sample: its slot's settings, its rate at most. -/
structure Triggered (k : Nat) (s t : State) : Prop where
  regs : ∀ q, q ≠ .LPS_STAT k → t.rd q = s.rd q
  latecnt : t.fld (.LPS_STAT k) Fld.LPS_STAT_LATECNT = s.fld (.LPS_STAT k) Fld.LPS_STAT_LATECNT
  act : (t.loopX k).act = s.loopSet k
  sw : t.sw = s.sw
  clock : t.clock = s.clock
  dests : t.lp.dests = s.lp.dests

theorem State.atTrigger_triggered (k : Nat) : Triggered k s (s.atTrigger k) := by
  let x : LoopX := { s.loopX k with act := s.loopSet k, settling := (s.loopX k).settling || s.bit (.LPS_CTL k) 8 }
  have hset : Triggered k s (s.putLoopX k x) := ⟨fun _ _ => rfl, rfl, by simp [x], rfl, rfl, rfl⟩
  have hrate : ∀ c, Triggered k s ((s.putLoopX k x).setPrate k c) := fun c =>
    ⟨fun q hq => by rw [State.rd_setPrate, if_neg hq, State.rd_putLoopX],
      by rw [State.fld, State.rd_setPrate, if_pos rfl, getF_putF_other _ _ _ _ rfl (by decide)]; rfl,
      by rw [State.loopX_setPrate]; simp [x], rfl, rfl, rfl⟩
  unfold State.atTrigger
  dsimp only
  split
  · split
    · exact hrate _
    · exact hset
  · exact hset

@[simp] theorem State.lp_agree (g : Nat) (w : Word) : (s.agree g w).lp = s.lp := by
  unfold State.agree
  dsimp only
  split <;> rfl

theorem State.rd_agree (g : Nat) (w : Word) (q : Reg) (h : q ≠ .XNG_STAT) : (s.agree g w).rd q = s.rd q := by
  unfold State.agree
  dsimp only
  split
  · exact (State.rd_put ..).trans (if_neg h)
  · rfl

@[simp] theorem State.sw_agree (g : Nat) (w : Word) : (s.agree g w).sw = s.sw := by
  unfold State.agree
  dsimp only
  split <;> rfl

@[simp] theorem State.localTicks_agree (g : Nat) (w : Word) : (s.agree g w).clock.localTicks = s.clock.localTicks := by
  unfold State.agree
  dsimp only
  split <;> rfl

/-- The sample of a converter's channel at reference `r` (R102). -/
def State.newSample (s : State) (k : Nat) (r : Rat) : Sample :=
  { fb := ((s.tap (s.slotTap k).1 (s.slotTap k).2 : Int) : Rat), ref := r + s.destOut (2, k),
    tick := s.clock.localTicks.toNat / 250 }

theorem State.startSample_eq {r : Rat} {k : Nat} (htap : (s.slotTap k).1 ≠ 3) (href : s.slotRef k = some r) :
    s.startSample k = (s.agree 4 (s.rd (.SVY_CV_TAP (s.slotTap k).1 (s.slotTap k).2))).putLoopX k
      { s.loopX k with sample := some (s.newSample k r) } := by
  have hfb : s.feedback k = (((s.tap (s.slotTap k).1 (s.slotTap k).2 : Int) : Rat), s) := by
    simp [State.feedback, htap]
  obtain ⟨t, ht⟩ : ∃ t, t = s.agree 4 (s.rd (.SVY_CV_TAP (s.slotTap k).1 (s.slotTap k).2)) := ⟨_, rfl⟩
  have hrd : ∀ q, q ≠ .XNG_STAT → t.rd q = s.rd q := fun q hq => by
    rw [ht]
    exact State.rd_agree _ _ q hq
  have hdest : t.destOut (2, k) = s.destOut (2, k) :=
    State.destOut_congr _ (by simp [ht]) (fun j => hrd _ (by simp)) fun j => hrd _ (by simp)
  have hreference : t.reference k = (r + s.destOut (2, k), t) := by
    have hslot : t.slotRef k = some r := (State.slotRef_congr (by simp [ht]) fun q _ hq => hrd q hq).trans href
    simp [State.reference, hslot, hdest]
  unfold State.startSample
  simp only [hfb, if_neg htap, ← ht, hreference]
  simp only [ht, State.newSample, State.loopX, State.lp_agree, State.localTicks_agree]

theorem exec_loopSampleTrigger {k : Fin 32} (hw : s.loopsWork = true) (hst : s.slotSt k = 2) (htap : s.tapReady k = true)
    (hc : s.computes k = true) : exec (.loopSampleTrigger k) s = .next
      (if (s.loopX k).sample.isSome then
        if (s.late k).slotSt k = 2 ∧ (s.late k).computes k = true then ((s.late k).atTrigger k).startSample k else s.late k
      else (s.atTrigger k).startSample k) := by
  refine congrArg Host.Outcome.next ?_
  by_cases hs : (s.loopX k).sample.isSome = true <;> simp [hw, hst, htap, hc, hs]

/-- A trigger whose slot has no sample in progress starts one at the feedback and the reference of its registers. -/
theorem State.trigger_samples {r : Rat} {k : Nat} (htap : (s.slotTap k).1 ≠ 3) (href : s.slotRef k = some r) :
    ((((s.atTrigger k).startSample k).loopX k).sample = some (s.newSample k r)) ∧
    (((s.atTrigger k).startSample k).loopX k).act = s.loopSet k ∧
    ∀ q, q ≠ .LPS_STAT k → q ≠ .XNG_STAT → ((s.atTrigger k).startSample k).rd q = s.rd q := by
  have hu := s.atTrigger_triggered k
  have hslot : (s.atTrigger k).slotTap k = s.slotTap k := by
    simp only [State.slotTap, State.fld, hu.regs (.LPS_IN k) (by simp)]
  have hnew : (s.atTrigger k).newSample k r = s.newSample k r := by
    have hdest := State.destOut_congr (2, k) hu.dests (fun j => hu.regs (.LPS_CFG j) (by simp))
      fun j => hu.regs (.LPS_OUT j) (by simp)
    simp only [State.newSample, hslot, hdest, hu.clock, State.tap, State.fld, hu.regs (.SVY_CV_TAP _ _) (by simp)]
  have href' : (s.atTrigger k).slotRef k = some r := (State.slotRef_congr hu.sw fun q hq _ => hu.regs q hq).trans href
  rw [State.startSample_eq (by rw [hslot]; exact htap) href', hnew]
  refine ⟨by simp, by simp [hu.act], fun q hstat hxng => ?_⟩
  rw [State.rd_putLoopX, State.rd_agree _ _ q hxng, hu.regs q hstat]

/-! ### Late samples (R112) -/

theorem getF_putF_min {w : Word} {f : Field} (n : Nat) (hf : f.ok = true) :
    getF (putF w f (min (2 ^ f.width - 1) n)) f = min (2 ^ f.width - 1) n := by
  have hpos := Nat.two_pow_pos f.width
  rw [getF_putF _ _ _ hf, Nat.mod_eq_of_lt (by omega)]

/-- A late sample is dropped and counted. -/
def State.lateCounted (s : State) (k : Nat) : State :=
  (s.putLoopX k { s.loopX k with sample := none }).addSat (.LPS_STAT k) Fld.LPS_STAT_LATECNT 1

theorem State.late_eq (k : Nat) : s.late k = ((s.lateCounted k).setFlag (.LPS_FLAG k) 2).raise (156 + k) 0 := rfl

theorem State.late_shows (k : Nat) : (s.late k).bit (.LPS_FLAG k) 2 = true ∧ (s.late k).latched (156 + k) = true ∧
    (s.late k).fld (.LPS_STAT k) Fld.LPS_STAT_LATECNT = min 65535 (s.fld (.LPS_STAT k) Fld.LPS_STAT_LATECNT + 1) := by
  have hraise := ((s.lateCounted k).setFlag (.LPS_FLAG k) 2).raise_loopRegsStay (156 + k) 0
  have hcount : (s.lateCounted k).rd (.LPS_STAT k) = putF (s.rd (.LPS_STAT k)) Fld.LPS_STAT_LATECNT
      (satAdd 65535 (s.fld (.LPS_STAT k) Fld.LPS_STAT_LATECNT) 1) := (State.rd_put ..).trans (if_pos rfl)
  rw [State.late_eq]
  refine ⟨?_, State.latched_raise .., ?_⟩
  · rw [State.bit, hraise.regs _ (by simp) (by simp)]
    exact State.bit_setFlag _ _ (by decide) (by simp) (by simp)
  · rw [hraise.stat k _ (by decide), State.fld, State.rd_setFlag _ _ _ (by simp) (by simp) (by simp), hcount]
    exact getF_putF_min (f := Fld.LPS_STAT_LATECNT) _ rfl

/-- The trigger's own sample leaves what a late sample has shown. -/
theorem State.trigger_keepsLate (k : Nat) : ((s.atTrigger k).startSample k).bit (.LPS_FLAG k) 2 = s.bit (.LPS_FLAG k) 2 ∧
    ((s.atTrigger k).startSample k).latched (156 + k) = s.latched (156 + k) ∧
    ((s.atTrigger k).startSample k).fld (.LPS_STAT k) Fld.LPS_STAT_LATECNT = s.fld (.LPS_STAT k) Fld.LPS_STAT_LATECNT := by
  have hu := s.atTrigger_triggered k
  have hstart : ∀ q : Reg, q.block ≠ .xng → ((s.atTrigger k).startSample k).rd q = (s.atTrigger k).rd q :=
    (State.startSample_keeps (B := (· = .xng)) (M := True) (Keeps.refl _) rfl).regs
  refine ⟨?_, ?_, ?_⟩
  · rw [State.bit, State.bit, hstart _ (by simp), hu.regs _ (by simp)]
  · rw [State.latched, State.latched, State.bit, State.bit, hstart _ (by simp), hu.regs _ (by simp)]
  · rw [← hu.latecnt, State.fld, State.fld, hstart _ (by simp)]

/-! ### Finished samples (R105) -/

theorem State.cascadeIn_eq {x : Sample} {u : Int} (hu : u = roundOpen (x.ref - x.fb) * 4096) (hlo : -(2 ^ 31) ≤ u)
    (hhi : u < 2 ^ 31) : s.cascadeIn x = (u, s) := by
  rw [State.cascadeIn, ← hu, if_pos ⟨hlo, hhi⟩]

theorem State.lp_plantV (k : Nat) (fb : Rat) : (s.plantV k fb).2.lp = s.lp := by
  have hchan : ∀ ch, (s.chanV ch).2.lp = s.lp := fun ch => by
    unfold State.chanV
    split <;> rfl
  unfold State.plantV
  split
  · exact hchan _
  · split
    · rfl
    · exact hchan _
    · rfl

/-- The model step of a watch keeps its slot's sample and output. -/
theorem State.modelStep_loopX (k : Nat) (v il duty : Rat) (p : Rat × Rat) (l : Rat) :
    ((s.modelStep k v il duty p l).loopX k).sample = (s.loopX k).sample ∧
    ((s.modelStep k v il duty p l).loopX k).out = (s.loopX k).out := by
  unfold State.modelStep
  simp

theorem State.watchSample_loopX (k : Nat) (x : Sample) (duty : Rat) :
    ((s.watchSample k x duty).loopX k).sample = (s.loopX k).sample ∧
    ((s.watchSample k x duty).loopX k).out = (s.loopX k).out := by
  have hplant : (s.plantV k x.fb).2.loopX k = s.loopX k := by rw [State.loopX, State.lp_plantV, State.loopX]
  unfold State.watchSample
  dsimp only
  split
  · split
    · refine (State.modelStep_loopX ..).imp (·.trans ?_) (·.trans ?_) <;> simp [hplant]
    · refine (State.modelStep_loopX ..).imp (·.trans ?_) (·.trans ?_) <;> simp [hplant, State.drawRat]
    · simp [hplant]
  · simp [hplant]

/-- The output of a finished sample: the cascade's result, clamped and slewed. -/
theorem State.sampleDone_loopX {x : Sample} {u : Int} {k : Nat} (d : Rat) (hin : s.cascadeIn x = (u, s)) :
    ((s.sampleDone k x d).loopX k).sample = none ∧ ((s.sampleDone k x d).loopX k).out =
      (slewed (s.loopX k) ((getF (s.loopX k).act.close Fld.LPS_CLOSE_SLEW : Int) * 4096)
        (clampI (s.outLimits k).1 (s.outLimits k).2 (s.cascade (s.slotSections k) u).1)).1 := by
  unfold State.sampleDone
  simp only [hin]
  refine (State.watchSample_loopX ..).imp (·.trans ?_) (·.trans ?_)
  all_goals split <;> split <;> simp

theorem exec_loopSampleDone {x : Sample} {k : Fin 32} (d : Rat) (hx : (s.loopX k).sample = some x) (hw : s.loopsWork = true)
    (hst : s.slotSt k = 2) (hserves : s.engineServes (slotEngine k) = some k.val) :
    exec (.loopSampleDone k d) s = .next (s.sampleDone k x d) := by
  refine congrArg Host.Outcome.next ?_
  simp [hx, hw, hst, hserves]

/-! ### The tempo of an engine (R110, R113) -/

/-- What follows the count of a window - the slack shown, a rate shed - leaves RATE, TEMPOLOW and the count. -/
structure TempoStays (e : Nat) (s t : State) : Prop where
  tempo : t.rd (.LPE_TEMPO e) = s.rd (.LPE_TEMPO e)
  low : s.bit (.LPE_FLAG e) 0 = true → t.bit (.LPE_FLAG e) 0 = true
  count : (t.engX e).prevCount = (s.engX e).prevCount

theorem TempoStays.refl (e : Nat) (s : State) : TempoStays e s s := ⟨rfl, id, rfl⟩

theorem TempoStays.trans {e : Nat} {u : State} (h : TempoStays e s t) (k : TempoStays e t u) : TempoStays e s u :=
  ⟨k.tempo.trans h.tempo, fun x => k.low (h.low x), k.count.trans h.count⟩

theorem State.putLoad_tempoStays (e v : Nat) (f : Field) : TempoStays e s (s.put (.LPE_LOAD e) f v) := by
  refine ⟨by simp, fun h => ?_, rfl⟩
  simpa [State.bit] using h

theorem State.showSlack_tempoStays (e : Nat) (q : Rat) : TempoStays e s (s.showSlack e q) := by
  unfold State.showSlack
  dsimp only
  split
  · exact State.putLoad_tempoStays ..
  · have hdraw : TempoStays e s s.draw.2 := ⟨rfl, id, rfl⟩
    exact hdraw.trans (State.putLoad_tempoStays ..)

theorem State.setFlag_tempoStays (e b : Nat) {r : Reg} (hb : b < 32) (hr : r.block = .lpe) (htempo : r ≠ .LPE_TEMPO e) :
    TempoStays e s (s.setFlag r b) := by
  refine ⟨State.rd_setFlag _ _ _ htempo.symm (by simp) (by simp), fun h => ?_, by simp⟩
  by_cases he : r = .LPE_FLAG e
  · subst he
    exact State.bit_setFlag_of_bit hb (by simp) (by simp) h
  · rw [State.bit, State.rd_setFlag _ _ _ (Ne.symm he) (by simp) (by simp)]
    exact h

theorem State.shedOne_tempoStays (e : Nat) : TempoStays e s (s.shedOne e) := by
  unfold State.shedOne
  split
  · exact .refl e s
  next k _ =>
    have hmark (c : Nat) : TempoStays e s ((s.putLoopX k { s.loopX k with shedTo := some c }).putEngX e
        { s.engX e with shed := k :: (s.engX e).shed }) := ⟨rfl, id, by simp⟩
    have hmarked := hmark ((rateHalved (s.prate k)).getD (s.prate k))
    refine ((hmarked.trans (State.setFlag_tempoStays e 8 (r := .LPS_FLAG k) (by decide) rfl (by simp))).trans
      (State.setFlag_tempoStays e 1 (r := .LPE_FLAG e) (by decide) rfl (by simp))).trans ?_
    exact ⟨rfl, id, rfl⟩

/-- The count `c` of a window as the engine keeps it, and a rate `r` with its minimum, shown and flagged below 256. -/
def State.windowRate (s : State) (e c r : Nat) : State :=
  let s1 := s.putEngX e { s.engX e with prevCount := some c }
  let m := s1.fld (.LPE_TEMPO e) Fld.LPE_TEMPO_RMIN
  let first := s1.fld (.LPE_TEMPO e) Fld.LPE_TEMPO_RATE == 0 && m == 0
  let s2 := (s1.put (.LPE_TEMPO e) Fld.LPE_TEMPO_RATE r).put (.LPE_TEMPO e) Fld.LPE_TEMPO_RMIN (if first then r else min m r)
  if r < 256 then s2.setFlag (.LPE_FLAG e) 0 else s2

theorem State.windowRate_shows (e c r : Nat) (hr : r < 65536) :
    (s.windowRate e c r).fld (.LPE_TEMPO e) Fld.LPE_TEMPO_RATE = r ∧
    (r < 256 → (s.windowRate e c r).bit (.LPE_FLAG e) 0 = true) ∧ ((s.windowRate e c r).engX e).prevCount = some c := by
  have hrate : ∀ (w : Word) m, getF (putF (putF w Fld.LPE_TEMPO_RATE r) Fld.LPE_TEMPO_RMIN m) Fld.LPE_TEMPO_RATE = r := by
    intro w m
    rw [getF_putF_other _ _ _ _ rfl (by decide), getF_putF _ _ _ rfl]
    exact Nat.mod_eq_of_lt hr
  unfold State.windowRate
  dsimp only
  split
  next hlow =>
    refine ⟨?_, fun _ => State.bit_setFlag _ _ (by decide) (by simp) (by simp), by simp⟩
    rw [State.fld, State.rd_setFlag _ _ _ (by simp) (by simp) (by simp)]
    simp [hrate]
  next hlow => exact ⟨by simp [State.fld, hrate], fun h => absurd h hlow, by simp⟩

/-- The worst slack at the rate `r` is shown (R111). -/
def State.windowSlack (s : State) (e r : Nat) : State :=
  if r = 0 then s.draw.2.put (.LPE_LOAD e) Fld.LPE_LOAD_SLACKNOW s.draw.1.toNat else s.showSlack e (s.slackAt e r s.prate)

/-- A slack below SHEDTH sheds a rate (R113). -/
def State.windowShed (s : State) (e : Nat) : State :=
  if s.slackNow e < (s.fld (.LPE_SHED e) Fld.LPE_SHED_SHEDTH : Int) && !s.bit .POL_LOCK 5 then s.shedOne e else s

theorem State.windowSlack_tempoStays (e r : Nat) : TempoStays e s (s.windowSlack e r) := by
  have hdraw : TempoStays e s s.draw.2 := ⟨rfl, id, rfl⟩
  unfold State.windowSlack
  split
  · exact hdraw.trans (State.putLoad_tempoStays ..)
  · exact State.showSlack_tempoStays ..

theorem State.windowShed_tempoStays (e : Nat) : TempoStays e s (s.windowShed e) := by
  unfold State.windowShed
  split
  · exact State.shedOne_tempoStays e
  · exact .refl e s

/-- The smaller count of two windows is the rate (R110). -/
theorem exec_tempoWindowEnd_rate {e : Fin 8} {p : Nat} (c : Nat) (hp : s.powered .eng = true)
    (hprev : (s.engX e).prevCount = some p) : exec (.tempoWindowEnd e c) s =
      .next (((s.windowRate e c (min 65535 (min p c))).windowSlack e (min 65535 (min p c))).windowShed e) := by
  refine congrArg Host.Outcome.next ((if_pos hp).trans ?_)
  simp only [hprev]
  rfl

theorem exec_tempoWindowEnd_first {e : Fin 8} (c : Nat) (hp : s.powered .eng = true) (hprev : (s.engX e).prevCount = none) :
    exec (.tempoWindowEnd e c) s = .next (s.putEngX e { s.engX e with prevCount := some c }) := by
  refine congrArg Host.Outcome.next ((if_pos hp).trans ?_)
  simp only [hprev]

/-! ### Restoring (R114) -/

theorem rateFaster_lt {c : Nat} (h : c < 8) : rateFaster c < 8 := by
  revert c
  decide

theorem State.prate_lt (k : Nat) : s.prate k < 8 := getF_lt _ _

theorem State.prate_setPrate (k c : Nat) (hc : c < 8) : (s.setPrate k c).prate k = c := by
  rw [State.prate, State.fld, State.rd_setPrate, if_pos rfl, getF_putF _ _ _ rfl]
  exact Nat.mod_eq_of_lt hc

/-- The slot shed last before its entry leaves the list: its waiting halving dropped, or the next faster rate. -/
def State.unhalved (s : State) (k : Nat) : State :=
  if (s.loopX k).shedTo.isSome then s.putLoopX k { s.loopX k with shedTo := none } else s.setPrate k (rateFaster (s.prate k))

theorem State.unhalved_shows (k : Nat) : ((s.unhalved k).loopX k).shedTo = none ∧ (s.unhalved k).prate k =
    if (s.loopX k).shedTo = none then rateFaster (s.prate k) else s.prate k := by
  unfold State.unhalved
  cases hs : (s.loopX k).shedTo with
  | none => exact ⟨by simp [State.loopX_setPrate], by simp [State.prate_setPrate k _ (rateFaster_lt (s.prate_lt k))]⟩
  | some c => exact ⟨by simp, by simp [State.prate, State.fld]⟩

/-- The message of a restored rate ends the restore. -/
def State.rateRestored (s : State) (e k : Nat) (l : List Nat) : State :=
  ((s.unhalved k).putEngX e { (s.unhalved k).engX e with shed := l }).message 19 k ((s.unhalved k).prate k)

theorem exec_loopRestored {e : Fin 8} {k : Nat} {l : List Nat} (hshed : (s.engX e).shed = k :: l)
    (hp : s.powered .eng = true) (hlock : s.bit .POL_LOCK 5 = false) (hrate : s.fld (.LPE_TEMPO e) Fld.LPE_TEMPO_RATE ≠ 0)
    (hslack : (s.fld (.LPE_SHED e) Fld.LPE_SHED_RESTTH : Rat) ≤ s.slackAt e (s.fld (.LPE_TEMPO e) Fld.LPE_TEMPO_RATE)
      (fun j => if j = k then rateFaster (s.prate k) else s.prate j)) :
    exec (.loopRestored e) s = .next (s.rateRestored e k l) := by
  have hexec : exec (.loopRestored e) s = execLoopRestored e s := rfl
  have hguard : (s.powered .eng && !s.bit .POL_LOCK 5 && s.fld (.LPE_TEMPO e) Fld.LPE_TEMPO_RATE != 0 &&
      decide ((s.fld (.LPE_SHED e) Fld.LPE_SHED_RESTTH : Rat) ≤ s.slackAt e (s.fld (.LPE_TEMPO e) Fld.LPE_TEMPO_RATE)
        (fun j => if j = k then rateFaster (s.prate k) else s.prate j))) = true := by
    rw [hp, hlock, decide_eq_true hslack, bne_iff_ne.mpr hrate]
    rfl
  rw [hexec, execLoopRestored, hshed]
  exact congrArg Host.Outcome.next (if_pos hguard)

theorem State.rateRestored_shows (e k : Nat) (l : List Nat) : (s.rateRestored e k l).prate k = (s.unhalved k).prate k ∧
    ((s.rateRestored e k l).loopX k).shedTo = none ∧ ((s.rateRestored e k l).engX e).shed = l ∧
    (s.rateRestored e k l).lastMessage 19 k ((s.unhalved k).prate k) := by
  refine ⟨rfl, s.unhalved_shows k |>.1, ?_, ⟨_, List.getLast?_concat .., rfl, rfl, rfl⟩⟩
  exact congrArg EngineX.shed ((State.engX_putEngX ..).trans (if_pos rfl))

/-! ### Writes of the engine's registers (R110, R126) -/

theorem exec_rminReset {i : Iface} {e : Fin 8} (h : s.takes (.LPE_STATE e) = true) : exec (.rminReset i e) s =
    .next (s.put (.LPE_TEMPO e) Fld.LPE_TEMPO_RMIN (s.fld (.LPE_TEMPO e) Fld.LPE_TEMPO_RATE)) :=
  congrArg Host.Outcome.next ((State.guardWrite_takes h).trans (if_pos (by decide)))

theorem exec_lpeShedWrite {i : Iface} {e : Fin 8} {v : Word} {be : BitVec 4} (h : s.takes (.LPE_SHED e) = true) :
    exec (.lpeShedWrite i e v be) s = .next (s.wrLpeShed e (s.merged (.LPE_SHED e) v be)) :=
  congrArg Host.Outcome.next (State.guardWrite_takes h)

theorem State.wrLpeShed_eq (e : Nat) (w : Word) : s.wrLpeShed e w =
    if 10 ≤ getF w Fld.LPE_SHED_SHEDTH ∧ getF w Fld.LPE_SHED_SHEDTH ≤ 90 ∧
      getF w Fld.LPE_SHED_SHEDTH + 50 ≤ getF w Fld.LPE_SHED_RESTTH then s.writeRw (.LPE_SHED e) w else s := by
  simp [State.wrLpeShed, inRange, and_assoc]

/-- Settles O7: each clause is the lemma of its command, with what the command's state shows. -/
theorem loopSamples : Obligations.LoopSamples := by
  unfold Obligations.LoopSamples
  refine ⟨?sample, ?late, ?done, ?tempo, ?first, ?restored, ?rmin, ?shed⟩
  case sample =>
    intro r k s hw hst hready hc hnone htap href
    obtain ⟨hsample, hact, hregs⟩ := State.trigger_samples htap href
    exact ⟨_, (exec_loopSampleTrigger hw hst hready hc).trans (by simp [hnone]), hsample, hact, hregs⟩
  case late =>
    intro x k s hw hready hst hc hx
    have hexec := exec_loopSampleTrigger hw hst hready hc
    rw [hx, Option.isSome_some, if_pos rfl] at hexec
    have hlate := s.late_shows k
    refine ⟨_, hexec, ?_⟩
    split
    · obtain ⟨hflag, hlatched, hcount⟩ := (s.late k).trigger_keepsLate k
      rw [hflag, hlatched, hcount]
      exact hlate
    · exact hlate
  case done =>
    intro x d u k s hx hw hst hserves hu hlo hhi
    exact ⟨_, exec_loopSampleDone d hx hw hst hserves, State.sampleDone_loopX d (State.cascadeIn_eq hu hlo hhi)⟩
  case tempo =>
    intro e c p s hp hprev
    have hstays := ((s.windowRate e c (min 65535 (min p c))).windowSlack_tempoStays e (min 65535 (min p c))).trans
      (State.windowShed_tempoStays e)
    obtain ⟨hrate, hlow, hcount⟩ := s.windowRate_shows e c (min 65535 (min p c)) (by omega)
    exact ⟨_, exec_tempoWindowEnd_rate c hp hprev, (congrArg (getF · _) hstays.tempo).trans hrate,
      fun h => hstays.low (hlow (by omega)), hstays.count.trans hcount⟩
  case first =>
    intro e c s hp hprev
    exact ⟨_, exec_tempoWindowEnd_first c hp hprev, by simp, by simp⟩
  case restored =>
    intro e k c l s hshed hp hlock hrate hslack hc
    have hrestored := s.rateRestored_shows e k l
    rw [(s.unhalved_shows k).2, ← hc] at hrestored
    exact ⟨_, exec_loopRestored hshed hp hlock hrate hslack, hrestored⟩
  case rmin =>
    intro i e s ht
    exact exec_rminReset ht
  case shed =>
    intro i e v s ht
    rw [exec_lpeShedWrite ht, State.merged_whole, State.wrLpeShed_eq]

end Sys2Proof.Machine

/-!
SUPPORT. Requests to open and close a loop, and its watches (R119 to R125): a write of LPSss_CTL changes no STATE by itself,
a close leaves the slot at its configured rate, a trip leaves it HALTED through every reaction of its fault.
-/

namespace Sys2Proof.Machine

variable {s t : State}

/-! ### Writes of LPSss_CTL -/

/-- A write that the register takes meets no reload of its domain, so the early refusal of R121 does not apply. -/
theorem State.busLpsCtl_takes {k : Nat} (w : Word) (h : s.takes (.LPS_CTL k) = true) : s.busLpsCtl k w = s.wrLpsCtl k w := by
  have hreload : s.underReload (s.slotDom k) = false := by
    have hguard := h
    simp only [State.takes, Bool.and_eq_true, Bool.not_eq_true'] at hguard
    exact hguard.2
  have hblocked : s.closeBlocked k w = s := if_neg (by simp [hreload])
  unfold State.busLpsCtl
  rw [hblocked, State.guardWrite_takes h]

/-- The word of a request: LPSss_CTL as it stands with a REQ code. -/
def State.reqWord (s : State) (k req : Nat) : Word := putF (s.rd (.LPS_CTL k)) Fld.LPS_CTL_REQ req

theorem State.getF_reqWord (k req : Nat) (hr : req < 4) : getF (s.reqWord k req) Fld.LPS_CTL_REQ = req :=
  (getF_putF _ _ _ rfl).trans (Nat.mod_eq_of_lt hr)

theorem State.loopReq_takes {k : Nat} (req : Nat) (h : s.takes (.LPS_CTL k) = true) :
    s.loopReq k req = s.wrLpsCtl k (s.reqWord k req) := State.busLpsCtl_takes _ h

/-- STATE is no writable field. -/
theorem State.slotSt_writeCtl (k : Nat) (w : Word) : (s.writeRw (.LPS_CTL k) w).slotSt k = s.slotSt k := by
  rw [State.slotSt, State.fld, State.rd_writeRw, if_pos rfl, show Reg.rw (.LPS_CTL k) = 0x00000100#32 from rfl]
  exact getF_unmasked _ _ _ _ (by decide)

theorem exec_loopOpenRequest {i : Iface} {k : Fin 32} (h : s.takes (.LPS_CTL k) = true) :
    exec (.loopOpenRequest i k) s = .next ((s.writeRw (.LPS_CTL k) (s.reqWord k 1)).openSlot k true) :=
  congrArg Host.Outcome.next ((State.loopReq_takes 1 h).trans (by simp [State.wrLpsCtl, State.getF_reqWord]))

theorem exec_loopCloseRequest {i : Iface} {k : Fin 32} (h : s.takes (.LPS_CTL k) = true) :
    exec (.loopCloseRequest i k) s = .next ((s.writeRw (.LPS_CTL k) (s.reqWord k 2)).closeSlot k false) :=
  congrArg Host.Outcome.next ((State.loopReq_takes 2 h).trans (by simp [State.wrLpsCtl, State.getF_reqWord]))

theorem exec_loopCloseCleared {i : Iface} {k : Fin 32} (h : s.takes (.LPS_CTL k) = true) :
    exec (.loopCloseCleared i k) s = .next ((s.writeRw (.LPS_CTL k) (s.reqWord k 3)).closeSlot k true) :=
  congrArg Host.Outcome.next ((State.loopReq_takes 3 h).trans (by simp [State.wrLpsCtl, State.getF_reqWord]))

/-! ### Opening (R119) -/

theorem State.slotSt_put (k v : Nat) (hv : v < 8) : (s.put (.LPS_CTL k) Fld.LPS_CTL_STATE v).slotSt k = v := by
  rw [State.slotSt, State.fld, State.rd_put, if_pos rfl, getF_putF _ _ _ rfl]
  exact Nat.mod_eq_of_lt hv

theorem State.openSlot_shows {k : Nat} (host : Bool) (h : s.slotSt k = 2 ∨ s.slotSt k = 3) :
    (s.openSlot k host).slotSt k = 1 ∧ ((s.openSlot k host).loopX k).sample = none ∧
    ((s.openSlot k host).loopX k).hostOpen = host ∧ (s.openSlot k host).lp.dests = s.lp.dests := by
  unfold State.openSlot
  rw [if_pos h]
  exact ⟨State.slotSt_put k 1 (by decide), by simp, by simp, by simp⟩

/-! ### Closing (R120, R121) -/

section
variable {k : Nat} (h : ∀ q, q ≠ .LPS_CTL k → q ≠ .LPS_STAT k → t.rd q = s.rd q)
include h

theorem State.computes_congr : t.computes k = s.computes k := by
  have hkind : t.slotKind k = s.slotKind k := congrArg (getF · _) (h (.LPS_CFG k) (by simp) (by simp))
  have hrail : t.fld (.LPS_IN k) Fld.LPS_IN_RAIL = s.fld (.LPS_IN k) Fld.LPS_IN_RAIL :=
    congrArg (getF · _) (h (.LPS_IN k) (by simp) (by simp))
  have hst : t.railSt = s.railSt := funext fun n => congrArg (getF · _) (h (.RAIL_STATUS n) (by simp) (by simp))
  have hcharging : t.charging = s.charging := by
    have hchg : t.chgSt = s.chgSt := congrArg (getF · _) (h .BKP_STATUS (by simp) (by simp))
    rw [State.charging, State.charging, hchg]
  simp only [State.computes, hkind, hrail, hst, hcharging]

theorem State.slotSections_congr : t.slotSections k = s.slotSections k := by
  have hcfg := h (.LPS_CFG k) (by simp) (by simp)
  simp only [State.slotSections, State.fld, hcfg]

theorem State.cfgRate_congr : t.cfgRate k = s.cfgRate k := congrArg (getF · _) (h (.LPS_CFG k) (by simp) (by simp))

end

theorem State.cfgRate_lt (k : Nat) : s.cfgRate k < 8 := getF_lt _ _

/-- The registers that a return to the configured rate writes. -/
theorem State.rd_cfgRateNow (k : Nat) (q : Reg) (hq : q ≠ .LPS_STAT k) : (s.cfgRateNow k).rd q = s.rd q := by
  unfold State.cfgRateNow
  dsimp only
  rw [State.rd_putEngX]
  split
  · rfl
  · rw [State.rd_setPrate, if_neg hq]

theorem State.prate_cfgRateNow (k : Nat) : (s.cfgRateNow k).prate k = s.cfgRate k := by
  unfold State.cfgRateNow
  dsimp only
  split
  next hrate => exact hrate
  next => exact State.prate_setPrate k _ (s.cfgRate_lt k)

@[simp] theorem State.sections_cfgRateNow (k : Nat) : (s.cfgRateNow k).lp.sections = s.lp.sections := by
  unfold State.cfgRateNow
  dsimp only
  split <;> rfl

/-- The section states that a close keeps, or clears (R120). -/
def State.closeSections (s : State) (k : Nat) (clear : Bool) : State := if clear then s.clearSections k else s

/-- STATE is CLOSED and the counts are 0. -/
def State.closeMarks (s : State) (k : Nat) : State :=
  ((s.put (.LPS_CTL k) Fld.LPS_CTL_STATE 2).put (.LPS_STAT k) Fld.LPS_STAT_LATECNT 0).put (.LPS_STAT k)
    Fld.LPS_STAT_MWCNT 0

/-- A close that is accepted, before a slot that does not compute rests at zero. -/
def State.closed (s : State) (k : Nat) (clear : Bool) : State :=
  let s3 := ((s.closeSections k clear).closeMarks k).cfgRateNow k
  s3.putLoopX k { s3.loopX k with
    sample := none, hostOpen := false, slewing := true, settling := true, exceeded := false, prev := none, iload := none }

theorem State.closeNow_eq (k : Nat) (clear : Bool) : s.closeNow k clear =
    if (s.closed k clear).computes k then s.closed k clear else (s.closed k clear).zeroSlot k := rfl

@[simp] theorem State.rd_closeSections (k : Nat) (clear : Bool) (q : Reg) : (s.closeSections k clear).rd q = s.rd q := by
  cases clear <;> rfl

theorem State.rd_closeMarks (k : Nat) (q : Reg) (hctl : q ≠ .LPS_CTL k) (hstat : q ≠ .LPS_STAT k) :
    (s.closeMarks k).rd q = s.rd q := by
  simp [State.closeMarks, hctl, hstat]

theorem State.slotSt_closeMarks (k : Nat) : (s.closeMarks k).slotSt k = 2 := by
  have hctl : (s.closeMarks k).rd (.LPS_CTL k) = (s.put (.LPS_CTL k) Fld.LPS_CTL_STATE 2).rd (.LPS_CTL k) := by
    simp [State.closeMarks]
  rw [State.slotSt, State.fld, hctl]
  exact State.slotSt_put k 2 (by decide)

theorem State.rd_closed (k : Nat) (clear : Bool) (q : Reg) (hctl : q ≠ .LPS_CTL k) (hstat : q ≠ .LPS_STAT k) :
    (s.closed k clear).rd q = s.rd q := by
  unfold State.closed
  rw [State.rd_putLoopX, State.rd_cfgRateNow k q hstat, State.rd_closeMarks k q hctl hstat, State.rd_closeSections]

theorem State.closed_shows (k : Nat) (clear : Bool) : (s.closed k clear).slotSt k = 2 ∧
    (s.closed k clear).prate k = s.cfgRate k ∧ ((s.closed k clear).loopX k).settling = true ∧
    (s.closed k clear).lp.sections = (s.closeSections k clear).lp.sections := by
  have hrd : ∀ q, q ≠ .LPS_CTL k → q ≠ .LPS_STAT k → ((s.closeSections k clear).closeMarks k).rd q = s.rd q :=
    fun q hctl hstat => (State.rd_closeMarks k q hctl hstat).trans (State.rd_closeSections ..)
  unfold State.closed
  refine ⟨?_, ?_, by rw [State.loopX_putLoopX, if_pos rfl], ?_⟩
  · rw [State.slotSt, State.fld, State.rd_putLoopX, State.rd_cfgRateNow _ _ (by simp)]
    exact State.slotSt_closeMarks k
  · rw [State.prate, State.fld, State.rd_putLoopX, ← State.fld, ← State.prate, State.prate_cfgRateNow,
      State.cfgRate_congr hrd]
  · rw [State.sections_putLoopX, State.sections_cfgRateNow]
    rfl

theorem State.computes_closed (k : Nat) (clear : Bool) : (s.closed k clear).computes k = s.computes k :=
  State.computes_congr fun q hctl hstat => State.rd_closed k clear q hctl hstat

/-- A slot that does not compute rests at zero in addition: STATE and the rate stay. -/
theorem State.closeNow_shows (k : Nat) (clear : Bool) : (s.closeNow k clear).slotSt k = 2 ∧
    (s.closeNow k clear).prate k = s.cfgRate k := by
  obtain ⟨hst, hrate, -, -⟩ := s.closed_shows k clear
  rw [State.closeNow_eq]
  split
  · exact ⟨hst, hrate⟩
  · rw [State.slotSt, State.prate, State.fld, State.fld, State.rd_zeroSlot, State.rd_zeroSlot]
    exact ⟨hst, hrate⟩

/-- A key that a table does not hold reads as the default. -/
theorem Tab.get_of_forall_ne {κ α : Type} [DecidableEq κ] {l : Tab κ α} {q : κ} (d : α) (h : ∀ e ∈ l, e.1 ≠ q) :
    l.get q d = d := by
  have hnone : l.find? (fun e => decide (e.1 = q)) = none := List.find?_eq_none.mpr fun e he => by simp [h e he]
  rw [Tab.get, hnone]
  rfl

/-- The section states of a slot have left a table of states. -/
def SectionsClear (s : State) (k : Nat) (l : Tab (Nat × Nat) Section) : Prop := ∀ e ∈ l, e.1 ∉ s.slotSections k

theorem State.clearSections_clear (k : Nat) : SectionsClear s k (s.clearSections k).lp.sections := by
  intro e he
  simpa using (List.mem_filter.mp he).2

theorem State.zeroSlot_clear {k : Nat} (h : SectionsClear s k t.lp.sections) :
    SectionsClear s k (t.zeroSlot k).lp.sections := by
  intro e he
  simp only [State.zeroSlot, State.sections_putLoopX, State.sections_putDest] at he
  exact h e (List.mem_filter.mp he).1

theorem State.closeNow_clear (k : Nat) : SectionsClear s k (s.closeNow k true).lp.sections := by
  have hclosed : SectionsClear s k (s.closed k true).lp.sections := by
    rw [(s.closed_shows k true).2.2.2]
    exact s.clearSections_clear k
  rw [State.closeNow_eq]
  split
  · exact hclosed
  · exact State.zeroSlot_clear hclosed

theorem State.closeSlot_open {k : Nat} (clear : Bool) (h : s.slotSt k = 1) : s.closeSlot k clear = s.closeNow k clear := by
  simp [State.closeSlot, h]

theorem State.closeSlot_refused {k : Nat} (clear : Bool)
    (h : s.slotSt k = 0 ∨ s.slotSt k = 3 ∧ s.latched (188 + k) = true) : s.closeSlot k clear = s.setFlag (.LPS_FLAG k) 6 := by
  rcases h with h0 | ⟨h3, hl⟩
  · simp [State.closeSlot, h0]
  · simp [State.closeSlot, h3, hl]

theorem State.rd_writeCtl (k : Nat) (w : Word) (q : Reg) (hctl : q ≠ .LPS_CTL k) :
    (s.writeRw (.LPS_CTL k) w).rd q = s.rd q := by
  rw [State.rd_writeRw, if_neg hctl]

/-- A close of an OPEN slot that computes keeps its section states. -/
theorem State.closeSlot_kept_shows {k : Nat} (w : Word) (hst : s.slotSt k = 1) (hcomputes : s.computes k = true) :
    ((s.writeRw (.LPS_CTL k) w).closeSlot k false).slotSt k = 2 ∧
    ((s.writeRw (.LPS_CTL k) w).closeSlot k false).prate k = s.cfgRate k ∧
    (((s.writeRw (.LPS_CTL k) w).closeSlot k false).loopX k).settling = true ∧
    ((s.writeRw (.LPS_CTL k) w).closeSlot k false).lp.sections = s.lp.sections := by
  have hrd : ∀ q, q ≠ .LPS_CTL k → q ≠ .LPS_STAT k → (s.writeRw (.LPS_CTL k) w).rd q = s.rd q :=
    fun q hctl _ => State.rd_writeCtl k w q hctl
  rw [State.closeSlot_open false ((State.slotSt_writeCtl k w).trans hst), State.closeNow_eq, State.computes_closed,
    State.computes_congr hrd, if_pos hcomputes, ← State.cfgRate_congr hrd]
  exact (s.writeRw (.LPS_CTL k) w).closed_shows k false

/-- A cleared close of an OPEN slot leaves none of its section states. -/
theorem State.closeSlot_cleared_shows {k : Nat} (w : Word) (hst : s.slotSt k = 1) :
    ((s.writeRw (.LPS_CTL k) w).closeSlot k true).slotSt k = 2 ∧
    ((s.writeRw (.LPS_CTL k) w).closeSlot k true).prate k = s.cfgRate k ∧
    SectionsClear s k ((s.writeRw (.LPS_CTL k) w).closeSlot k true).lp.sections := by
  have hrd : ∀ q, q ≠ .LPS_CTL k → q ≠ .LPS_STAT k → (s.writeRw (.LPS_CTL k) w).rd q = s.rd q :=
    fun q hctl _ => State.rd_writeCtl k w q hctl
  obtain ⟨hclosed, hrate⟩ := (s.writeRw (.LPS_CTL k) w).closeNow_shows k true
  rw [State.closeSlot_open true ((State.slotSt_writeCtl k w).trans hst), ← State.cfgRate_congr hrd]
  refine ⟨hclosed, hrate, ?_⟩
  unfold SectionsClear
  rw [← State.slotSections_congr hrd]
  exact (s.writeRw (.LPS_CTL k) w).closeNow_clear k

/-- Either close of a slot that may not close leaves CLOSEREJ alone (R121). -/
theorem State.closeSlot_refused_shows {k : Nat} (w : Word) (clear : Bool)
    (h : s.slotSt k = 0 ∨ s.slotSt k = 3 ∧ s.latched (188 + k) = true) :
    ((s.writeRw (.LPS_CTL k) w).closeSlot k clear).bit (.LPS_FLAG k) 6 = true ∧
    ((s.writeRw (.LPS_CTL k) w).closeSlot k clear).slotSt k = s.slotSt k ∧
    ((s.writeRw (.LPS_CTL k) w).closeSlot k clear).lp = s.lp := by
  have hlatched : (s.writeRw (.LPS_CTL k) w).latched (188 + k) = s.latched (188 + k) := by
    simp [State.latched, State.bit]
  rw [State.closeSlot_refused clear (by rwa [State.slotSt_writeCtl, hlatched])]
  refine ⟨State.bit_setFlag _ _ (by decide) (by simp) (by simp), ?_, by simp⟩
  rw [State.slotSt, State.fld, State.rd_setFlag _ _ _ (by simp) (by simp) (by simp), ← State.fld, ← State.slotSt,
    State.slotSt_writeCtl]

/-! ### Watches (R123 to R125) -/

/-- The slot is HALTED and its sample dropped. -/
def State.halted (s : State) (k : Nat) : State :=
  let s1 := s.put (.LPS_CTL k) Fld.LPS_CTL_STATE 3
  s1.putLoopX k { s1.loopX k with sample := none }

theorem State.trip_eq (k flag cause : Nat) :
    s.trip k flag cause = ((s.halted k).setFlag (.LPS_FLAG k) flag).raise (188 + k) cause := rfl

theorem State.slotSt_halted (k : Nat) : (s.halted k).slotSt k = 3 := State.slotSt_put k 3 (by decide)

/-- A trip leaves the slot HALTED with its flag, and its source latched. -/
theorem State.trip_shows (k flag cause : Nat) (hf : flag < 32) : (s.trip k flag cause).slotSt k = 3 ∧
    (s.trip k flag cause).bit (.LPS_FLAG k) flag = true ∧ (s.trip k flag cause).latched (188 + k) = true := by
  have hraise := ((s.halted k).setFlag (.LPS_FLAG k) flag).raise_loopRegsStay (188 + k) cause
  rw [State.trip_eq]
  refine ⟨?_, ?_, State.latched_raise ..⟩
  · rw [State.slotSt, State.fld, hraise.regs _ (by simp) (by simp),
      State.rd_setFlag _ _ _ (by simp) (by simp) (by simp)]
    exact State.slotSt_halted k
  · rw [State.bit, hraise.regs _ (by simp) (by simp)]
    exact State.bit_setFlag _ _ hf (by simp) (by simp)

/-- OPENLONG is raised with its flag. -/
theorem State.openlong_shows (k : Nat) : ((s.setFlag (.LPS_FLAG k) 5).raise (188 + k) 3).bit (.LPS_FLAG k) 5 = true ∧
    ((s.setFlag (.LPS_FLAG k) 5).raise (188 + k) 3).latched (188 + k) = true := by
  refine ⟨?_, State.latched_raise ..⟩
  rw [State.bit, ((s.setFlag (.LPS_FLAG k) 5).raise_loopRegsStay (188 + k) 3).regs _ (by simp) (by simp)]
  exact State.bit_setFlag _ _ (by decide) (by simp) (by simp)

theorem exec_loopOpenlong {k : Fin 32} (hst : s.slotSt k = 1) (hhost : (s.loopX k).hostOpen = true)
    (hrail : s.fld (.LPS_IN k) Fld.LPS_IN_RAIL < 20) (hlive : s.railSt (s.fld (.LPS_IN k) Fld.LPS_IN_RAIL) ≠ 0)
    (hmax : s.fld (.LPS_CLOSE k) Fld.LPS_CLOSE_OPENMAX ≠ 0) :
    exec (.loopOpenlong k) s = .next ((s.setFlag (.LPS_FLAG k) 5).raise (188 + k) 3) :=
  congrArg Host.Outcome.next (if_pos (by simp [hst, hhost, hrail, hlive, hmax]))

/-- The watch of a slot that has settled is the model watch. -/
theorem State.modelWatch_settled {k : Nat} (hst : s.slotSt k = 2) (hsettled : s.unsettled k = false) :
    (s.putLoopX k { s.loopX k with settling := false }).modelWatch k = true := by
  obtain ⟨u, hu⟩ : ∃ u, u = s.putLoopX k { s.loopX k with settling := false } := ⟨_, rfl⟩
  have hx : u.loopX k = { s.loopX k with settling := false } := by rw [hu, State.loopX_putLoopX, if_pos rfl]
  have hunsettled : u.unsettled k = s.unsettled k := by
    unfold State.unsettled
    rw [hx, hu]
    rfl
  have hstu : u.slotSt k = s.slotSt k := by rw [hu]; rfl
  rw [← hu, State.modelWatch, hstu, hst, hunsettled, hsettled, hx]
  rfl

/-- Settles O8: each clause is what its request or its watch shows. -/
theorem loopRequests : Obligations.LoopRequests := by
  unfold Obligations.LoopRequests
  refine ⟨?opens, ?closes, ?cleared, ?refused, ?openlong, ?settled, ?follow, ?model⟩
  case opens =>
    intro i k s ht hst
    obtain ⟨hopen, hsample, hhost, hdests⟩ := State.openSlot_shows (s := s.writeRw (.LPS_CTL k) (s.reqWord k 1)) true
      (by rwa [State.slotSt_writeCtl])
    exact ⟨_, exec_loopOpenRequest ht, hopen, hsample, hhost, hdests⟩
  case closes =>
    intro i k s ht hst hcomputes
    exact ⟨_, exec_loopCloseRequest ht, State.closeSlot_kept_shows _ hst hcomputes⟩
  case cleared =>
    intro i k s ht hst
    obtain ⟨hclosed, hrate, hclear⟩ := State.closeSlot_cleared_shows (s.reqWord k 3) hst
    exact ⟨_, exec_loopCloseCleared ht, hclosed, hrate,
      fun e he => Tab.get_of_forall_ne _ fun x hx hxe => hclear x hx (hxe ▸ he)⟩
  case refused =>
    intro c i k s hc ht hst
    rcases hc with rfl | rfl
    · exact ⟨_, exec_loopCloseRequest ht, State.closeSlot_refused_shows _ _ hst⟩
    · exact ⟨_, exec_loopCloseCleared ht, State.closeSlot_refused_shows _ _ hst⟩
  case openlong =>
    intro k s hst hhost hrail hlive hmax
    exact ⟨_, exec_loopOpenlong hst hhost hrail hlive hmax, s.openlong_shows k⟩
  case settled =>
    intro k s hst hsettled hexceeded
    exact ⟨_, congrArg Host.Outcome.next (if_pos (by simp [hst, hsettled, hexceeded])),
      State.modelWatch_settled hst hsettled, State.regs_putLoopX ..⟩
  case follow =>
    intro k s hst hwatch hexceeded
    exact ⟨_, congrArg Host.Outcome.next (if_pos (by simp [hst, hwatch, hexceeded])), s.trip_shows k 0 1 (by decide)⟩
  case model =>
    intro k s hwatch hcount
    exact ⟨_, congrArg Host.Outcome.next (if_pos (by simp [hwatch, hcount])), s.trip_shows k 1 2 (by decide)⟩

end Sys2Proof.Machine

/-!
SUPPORT. Writes of a slot's configuration and of the coefficients (R101, R103, R117, R164): a CLOSED slot refuses them with
COEFREJ, a slot that is not takes the ones that pass their checks.
-/

namespace Sys2Proof.Machine

variable {s t : State}

/-! ### The commands -/

section
variable {i : Iface} {v : Word} {be : BitVec 4} {k : Fin 32}

theorem exec_lpsCfgWrite (h : s.takes (.LPS_CFG k) = true) :
    exec (.lpsCfgWrite i k v be) s = .next (s.wrLpsCfg k (s.merged (.LPS_CFG k) v be)) :=
  congrArg Host.Outcome.next (State.guardWrite_takes h)

theorem exec_lpsOutWrite (h : s.takes (.LPS_OUT k) = true) :
    exec (.lpsOutWrite i k v be) s = .next (s.wrLpsOut k (s.merged (.LPS_OUT k) v be)) :=
  congrArg Host.Outcome.next (State.guardWrite_takes h)

theorem exec_lpsInWrite (h : s.takes (.LPS_IN k) = true) :
    exec (.lpsInWrite i k v be) s = .next (s.wrLpsIn k (s.merged (.LPS_IN k) v be)) :=
  congrArg Host.Outcome.next (State.guardWrite_takes h)

theorem exec_loopRefWrite (h : s.takes (.LPS_REF k) = true) :
    exec (.loopParamWrite i .ref k v be) s = .next (s.wrLpsPlain k (.LPS_REF k) (s.merged (.LPS_REF k) v be)) :=
  congrArg Host.Outcome.next (State.guardWrite_takes h)

theorem exec_loopModelWrite (h : s.takes (.LPS_MODEL k) = true) :
    exec (.loopParamWrite i .model k v be) s = .next (s.wrLpsPlain k (.LPS_MODEL k) (s.merged (.LPS_MODEL k) v be)) :=
  congrArg Host.Outcome.next (State.guardWrite_takes h)

theorem exec_coefWrite {e : Fin 8} {j : Fin 12} {c : Fin 5} (h : s.takes (.COF e j c) = true) :
    exec (.coefWrite i e j c v be) s = .next (s.wrCoef e j c (s.merged (.COF e j c) v be)) :=
  congrArg Host.Outcome.next (State.guardWrite_takes h)

end

/-! ### Closed slots (R117) -/

theorem State.ifOpen_closed {k : Nat} {f : State → State} (h : s.slotSt k = 2) :
    s.ifOpen k f = s.setFlag (.LPS_FLAG k) 7 := if_pos h

theorem State.ifOpen_open {k : Nat} {f : State → State} (h : s.slotSt k ≠ 2) : s.ifOpen k f = f s := if_neg h

/-- COEFREJ is set, and neither the register nor a slot's hidden state changes. -/
theorem State.ifOpen_closed_shows {k : Nat} {f : State → State} (q : Reg) (h : s.slotSt k = 2) (hq : q.block = .lpe)
    (hflag : q ≠ .LPS_FLAG k) : (s.ifOpen k f).bit (.LPS_FLAG k) 7 = true ∧ (s.ifOpen k f).rd q = s.rd q ∧
    (s.ifOpen k f).lp = s.lp := by
  rw [State.ifOpen_closed h]
  exact ⟨State.bit_setFlag _ _ (by decide) (by simp) (by simp), State.rd_setFlag _ _ _ hflag (by simp [hq]) (by simp [hq]),
    by simp⟩

/-! ### LPSss_CFG (R101, R107) -/

theorem State.rd_cfgApplied (k : Nat) (q : Reg) (hstat : q ≠ .LPS_STAT k) (hctl : q ≠ .LPS_CTL k) :
    (s.cfgApplied k).rd q = s.rd q := by
  have hrate := State.rd_cfgRateNow (s := s) k q hstat
  unfold State.cfgApplied
  dsimp only
  split
  · split
    · rw [State.rd_put, if_neg hctl, hrate]
    · exact hrate
  · rw [State.rd_put, if_neg hctl, State.rd_leaveDest, hrate]

theorem State.slotUsed_congr {k : Nat} (h : t.rd (.LPS_CFG k) = s.rd (.LPS_CFG k)) : t.slotUsed k = s.slotUsed k :=
  congrArg cfgUsed h

/-- STATE and PRATE of a slot as its CFG has them (Table 04.6). -/
theorem State.cfgApplied_shows (k : Nat) : (s.cfgApplied k).prate k = s.cfgRate k ∧ (s.cfgApplied k).slotSt k =
    if s.slotUsed k then (if s.slotSt k = 0 then 1 else s.slotSt k) else 0 := by
  have hused : (s.cfgRateNow k).slotUsed k = s.slotUsed k := State.slotUsed_congr (State.rd_cfgRateNow k _ (by simp))
  have hst : (s.cfgRateNow k).slotSt k = s.slotSt k := congrArg (getF · _) (State.rd_cfgRateNow k _ (by simp))
  have hrate := s.prate_cfgRateNow k
  have hstat : ∀ u v : State, u.rd (.LPS_STAT k) = v.rd (.LPS_STAT k) → u.prate k = v.prate k :=
    fun u v h => congrArg (getF · _) h
  unfold State.cfgApplied
  dsimp only
  rw [hused, hst]
  split
  · split
    · exact ⟨(hstat _ _ (by simp)).trans hrate, State.slotSt_put k 1 (by decide)⟩
    · exact ⟨hrate, hst⟩
  · exact ⟨(hstat _ _ (by simp)).trans hrate, State.slotSt_put k 0 (by decide)⟩

/-- A CFG that passes its checks, with the tap rule (R101, R103, R109, R164). -/
theorem State.wrLpsCfg_stored {k : Nat} {v : Word} (hopen : s.slotSt k ≠ 2) (hkind : getF v Fld.LPS_CFG_KIND ≤ 5)
    (hfields : cfgFields v = true) (hplace : (s.writeRw (.LPS_CFG k) v).placeOk (slotEngine k) = true)
    (hapart : (s.writeRw (.LPS_CFG k) v).destsApart = true) (htaps : (s.writeRw (.LPS_CFG k) v).tapsOk = true)
    (hdest : (s.writeRw (.LPS_CFG k) v).slotUsed k = false ∨ (s.writeRw (.LPS_CFG k) v).destOk k = true) :
    s.wrLpsCfg k v = (s.writeRw (.LPS_CFG k) v).cfgApplied k := by
  have hok : (!(s.writeRw (.LPS_CFG k) v).slotUsed k || (s.writeRw (.LPS_CFG k) v).destOk k) = true := by
    simpa using hdest
  unfold State.wrLpsCfg
  rw [State.ifOpen_open hopen]
  simp only [if_neg (Nat.not_lt.mpr hkind), hfields, hplace, hapart, htaps, hok, Bool.and_self, if_true]

/-! ### LPSss_OUT and LPSss_IN (R103, R164) -/

theorem State.rd_wrLpsOut_stored {k : Nat} {v : Word} (hopen : s.slotSt k ≠ 2) (hcode : getF v Fld.LPS_OUT_DEST ≤ 5)
    (hdest : (s.writeRw (.LPS_OUT k) v).destOk k = true) (hapart : (s.writeRw (.LPS_OUT k) v).destsApart = true) :
    (s.wrLpsOut k v).rd (.LPS_OUT k) = (s.writeRw (.LPS_OUT k) v).rd (.LPS_OUT k) := by
  unfold State.wrLpsOut
  rw [State.ifOpen_open hopen]
  simp only [if_neg (Nat.not_lt.mpr hcode), hdest, hapart, Bool.and_self, if_true]
  split
  · rfl
  · exact State.rd_leaveDest ..

theorem State.wrLpsIn_eq {k : Nat} {v : Word} (hopen : s.slotSt k ≠ 2) (hsrc : getF v Fld.LPS_IN_REFSRC ≤ 1) :
    s.wrLpsIn k v = if (s.writeRw (.LPS_IN k) v).tapsOk then s.writeRw (.LPS_IN k) v
      else s.tapReject (s.writeRw (.LPS_IN k) v) := by
  unfold State.wrLpsIn
  rw [State.ifOpen_open hopen]
  simp only [if_neg (Nat.not_lt.mpr hsrc)]

theorem State.tapReject_shows (k : Nat) : (s.tapReject t).rd (.LPS_IN k) = s.rd (.LPS_IN k) ∧
    (s.tapReject t).bit .SVY_FLAG 1 = true :=
  ⟨State.rd_setFlag_other _ _ _ _ _ (by simp) (by simp) (by simp),
    State.bit_setFlagI _ _ _ _ (by decide) (by decide) (by decide)⟩

/-! ### Coefficients (R117) -/

/-- Every bit of a coefficient is writable. -/
theorem State.writeRw_cof (e j c : Nat) (w : Word) : s.writeRw (.COF e j c) w = s.wr (.COF e j c) w := by
  have hrw : Reg.rw (.COF e j c) = BitVec.allOnes 32 := rfl
  rw [State.writeRw, hrw, BitVec.and_allOnes, BitVec.not_allOnes, BitVec.and_zero, BitVec.zero_or]

theorem State.wrCoef_stored {e j : Nat} (c : Nat) (w : Word) (h : ∀ k ∈ s.coveringSlots e j, s.slotSt k ≠ 2) :
    s.wrCoef e j c w = s.wr (.COF e j c) w := by
  unfold State.wrCoef
  split
  next k hk => exact (State.ifOpen_open (h k (List.mem_of_head? hk))).trans (State.writeRw_cof ..)
  next => exact State.writeRw_cof ..

theorem State.wrCoef_covered {e j k : Nat} (c : Nat) (w : Word) (h : (s.coveringSlots e j).head? = some k) :
    s.wrCoef e j c w = s.wrLpsPlain k (.COF e j c) w := by
  simp only [State.wrCoef, h]

/-- Settles O9: a CLOSED slot refuses each register alike; the others are the lemmas of the registers' own writes. -/
theorem loopWrites : Obligations.LoopWrites := by
  unfold Obligations.LoopWrites
  refine ⟨?cfg, ?closedCfg, ?closedOut, ?closedIn, ?closedRef, ?closedModel, ?out, ?tap, ?tapBad, ?param, ?coef,
    ?coefClosed⟩
  case cfg =>
    intro i v k s ht hopen hkind hfields hplace hapart htaps hdest
    have hwrite := State.wrLpsCfg_stored hopen hkind hfields hplace hapart htaps hdest
    have hexec := exec_lpsCfgWrite (i := i) (v := v) (be := 0xF#4) ht
    rw [State.merged_whole, hwrite] at hexec
    have hcfg : ((s.writeRw (.LPS_CFG k) v).cfgApplied k).rd (.LPS_CFG k) = (s.writeRw (.LPS_CFG k) v).rd (.LPS_CFG k) :=
      State.rd_cfgApplied k _ (by simp) (by simp)
    obtain ⟨hrate, hst⟩ := (s.writeRw (.LPS_CFG k) v).cfgApplied_shows k
    refine ⟨_, hexec, hcfg.trans ((State.rd_writeRw ..).trans (if_pos rfl)),
      hrate.trans (congrArg (getF · _) hcfg.symm), ?_⟩
    have hctl : (s.writeRw (.LPS_CFG k) v).slotSt k = s.slotSt k := by simp [State.slotSt, State.fld]
    rw [hst, State.slotUsed_congr hcfg, hctl]
  case closedCfg =>
    intro i v k s hclosed ht
    exact ⟨_, exec_lpsCfgWrite ht, State.ifOpen_closed_shows _ hclosed (by simp) (by simp)⟩
  case closedOut =>
    intro i v k s hclosed ht
    exact ⟨_, exec_lpsOutWrite ht, State.ifOpen_closed_shows _ hclosed (by simp) (by simp)⟩
  case closedIn =>
    intro i v k s hclosed ht
    exact ⟨_, exec_lpsInWrite ht, State.ifOpen_closed_shows _ hclosed (by simp) (by simp)⟩
  case closedRef =>
    intro i v k s hclosed ht
    exact ⟨_, exec_loopRefWrite ht, State.ifOpen_closed_shows _ hclosed (by simp) (by simp)⟩
  case closedModel =>
    intro i v k s hclosed ht
    exact ⟨_, exec_loopModelWrite ht, State.ifOpen_closed_shows _ hclosed (by simp) (by simp)⟩
  case out =>
    intro i v k s ht hopen hcode hdest hapart
    have hexec := exec_lpsOutWrite (i := i) (v := v) (be := 0xF#4) ht
    rw [State.merged_whole] at hexec
    refine ⟨_, hexec, (State.rd_wrLpsOut_stored hopen hcode hdest hapart).trans ?_⟩
    rw [State.rd_writeRw, if_pos rfl]
  case tap =>
    intro i v k s ht hopen hsrc htaps
    rw [exec_lpsInWrite ht, State.merged_whole, State.wrLpsIn_eq hopen hsrc, if_pos htaps]
  case tapBad =>
    intro i v k s ht hopen hsrc htaps
    rw [exec_lpsInWrite ht, State.merged_whole, State.wrLpsIn_eq hopen hsrc, if_neg (by simp [htaps])]
    exact ⟨_, rfl, State.tapReject_shows k⟩
  case param =>
    intro p r i v k s hp ht hopen
    simp only [List.mem_cons, List.not_mem_nil, or_false] at hp
    rcases hp with hp | hp <;> cases hp
    · rw [exec_loopRefWrite ht, State.merged_whole]
      exact congrArg Host.Outcome.next (State.ifOpen_open hopen)
    · rw [exec_loopModelWrite ht, State.merged_whole]
      exact congrArg Host.Outcome.next (State.ifOpen_open hopen)
  case coef =>
    intro i e j c v s ht hopen
    rw [exec_coefWrite ht, State.merged_whole, State.wrCoef_stored c v hopen]
  case coefClosed =>
    intro i e j c v k s ht hk hclosed
    rw [exec_coefWrite ht, State.wrCoef_covered c _ hk]
    have hshows := fun f => State.ifOpen_closed_shows (f := f) (.COF e j c) hclosed (by simp) (by simp)
    exact ⟨_, rfl, (hshows _).2.1, (hshows _).1⟩

end Sys2Proof.Machine

/-!
SUPPORT. A refused write of a step while the record of its event stands in a queue: the occurrence counts into the
record in place (R267), so that memory changes with the flag.
-/

namespace Sys2Proof.Machine

/-- Group 0 is UP; one occurrence of source 68 (STEPREJ) stands in queue 0 as a record at 0x3C000, and the flag is clear
again. -/
def stepRejRecorded : State :=
  ((({ pw := { on := [.aon, .nvm, .core, .seq], mc := .firmware, start := none } } : State).put (.TTB_G_STATUS 0)
    Fld.TTB_G_STATUS_STATE 2).putSrc 68 { waiting := 1, rise := true }).writeSignal 0 68

theorem stepRejRecorded_takes : stepRejRecorded.takes (.TTB_STEP (0 : Fin 8) (0 : Fin 64)) = true ∧
    stepRejRecorded.fld (.TTB_G_STATUS (0 : Fin 8)) Fld.TTB_G_STATUS_STATE ≠ 0 := by decide +kernel

/-- The refused write finds a count of 1 in the record and leaves a count of 2. -/
theorem stepRejRecorded_counts : stepRejRecorded.word 0x3C004 = 0x00010000#32 ∧
    (stepRejRecorded.wrStep 0 0 (stepRejRecorded.merged (.TTB_STEP 0 0) 0#32 0xF#4)).word 0x3C004 = 0x00020000#32 := by
  decide +kernel

theorem exec_stepWrite {i : Iface} {g : Fin 8} {j : Fin 64} {v : Word} {be : BitVec 4} {s : State}
    (h : s.takes (.TTB_STEP g j) = true) :
    exec (.stepWrite i g j v be) s = .next (s.wrStep g j (s.merged (.TTB_STEP g j) v be)) :=
  congrArg Host.Outcome.next (State.guardWrite_takes h)

/-- Refutes O55: a step write that a group not OFF refuses changes memory when a record of STEPREJ stands in a queue,
since its event is counted into that record (R267). -/
theorem not_ignoredWrites : ¬ Obligations.IgnoredWrites := by
  unfold Obligations.IgnoredWrites
  rintro ⟨-, step, -⟩
  obtain ⟨takes, notOff⟩ := stepRejRecorded_takes
  obtain ⟨before, after⟩ := stepRejRecorded_counts
  obtain ⟨t, ht, -, -, -, hmem⟩ := step .core 0#32 0xF#4 0 0 .SYS_IADDR stepRejRecorded takes notOff
  rw [exec_stepWrite takes] at ht
  cases ht
  have hword := congrArg (fun m => wordOf (memGet m 0x3C004) (memGet m 0x3C005) (memGet m 0x3C006) (memGet m 0x3C007)) hmem
  exact absurd (after.symm.trans (hword.trans before)) (by decide)

end Sys2Proof.Machine

/-!
SUPPORT. The hidden state of the survey converters under the operations that a conversion meets outside them: the readers of
the tap table, the start of a rail, and the raise of a fault with its reactions.
-/

namespace Sys2Proof.Machine

variable {s t : State}

/-! ### Occurrences of events, records and completions -/

theorem EventsOnly.sv (h : EventsOnly s t) : t.sv = s.sv := by
  obtain ⟨regs, mem, ev, me, rfl⟩ := h
  rfl

@[simp] theorem State.sv_condRise (f info code : Nat) (others : Bool) : (s.condRise f info code others).sv = s.sv :=
  (State.condRise_eventsOnly f info code others).sv

@[simp] theorem State.sv_condFall (f info code : Nat) : (s.condFall f info code).sv = s.sv :=
  (State.condFall_eventsOnly f info code).sv

@[simp] theorem State.sv_setFlagI (r : Reg) (b info code : Nat) : (s.setFlagI r b info code).sv = s.sv :=
  (State.setFlagI_eventsOnly r b info code).sv

@[simp] theorem State.sv_setFlag (r : Reg) (b : Nat) : (s.setFlag r b).sv = s.sv := State.sv_setFlagI ..

theorem State.sv_each {α : Type} (l : List α) {f : α → State → State} (h : ∀ x s, (f x s).sv = s.sv) :
    (each l f s).sv = s.sv := by
  unfold each
  induction l generalizing s with
  | nil => rfl
  | cons x t ih => exact (ih (s := f x s)).trans (h x s)

@[simp] theorem State.sv_logRec (kind len : Nat) (stamp : Stamp) (l : List Word) :
    (s.logRec kind len stamp l).sv = s.sv := by
  unfold State.logRec
  split
  · exact State.sv_setFlag ..
  · rfl

@[simp] theorem State.sv_complete (k code detail : Nat) : (s.complete k code detail).sv = s.sv := by
  unfold State.complete
  dsimp only
  split <;> rfl

/-! ### Stages, re-gangs and loops -/

@[simp] theorem State.sv_stageOff (m : Nat) : (s.stageOff m).sv = s.sv := by
  unfold State.stageOff
  dsimp only
  split <;> rfl

@[simp] theorem State.sv_stageLatch (m : Nat) : (s.stageLatch m).sv = s.sv := by
  unfold State.stageLatch
  dsimp only
  split
  · rfl
  · split <;> rfl

@[simp] theorem State.sv_showExcluded : s.showExcluded.sv = s.sv := by
  refine State.sv_each _ fun m s => ?_
  dsimp only
  split <;> simp

@[simp] theorem State.sv_regangEnd (g : Regang) (code : Nat) (shed : Bool) : (s.regangEnd g code shed).sv = s.sv :=
  State.sv_complete ..

@[simp] theorem State.sv_regangDropStage (m : Nat) : (s.regangDropStage m).sv = s.sv := by
  simp [State.regangDropStage]

@[simp] theorem State.sv_regangOff (n code : Nat) : (s.regangOff n code).sv = s.sv := by
  unfold State.regangOff
  (repeat' split) <;> simp

@[simp] theorem State.sv_regangDown (code : Nat) : (s.regangDown code).sv = s.sv := by
  unfold State.regangDown
  (repeat' split) <;> simp

@[simp] theorem State.sv_regangLatch (n : Nat) : (s.regangLatch n).sv = s.sv := by
  unfold State.regangLatch
  (repeat' split) <;> simp

@[simp] theorem State.sv_zeroLoops (n : Nat) : (s.zeroLoops n).sv = s.sv := by
  refine State.sv_each _ fun k s => ?_
  dsimp only [State.putLoopX, State.putDest]
  split <;> rfl

@[simp] theorem State.sv_unsettle (n : Nat) : (s.unsettle n).sv = s.sv := State.sv_each _ fun _ _ => rfl

/-! ### Rails -/

@[simp] theorem State.sv_railFailure (n cause : Nat) : (s.railFailure n cause).sv = s.sv := by
  unfold State.railFailure
  dsimp only
  split
  · rfl
  · simp

@[simp] theorem State.sv_pgLow (n : Nat) : (s.pgLow n).sv = s.sv := by
  unfold State.pgLow
  dsimp only
  split
  · exact (State.sv_each _ fun x s => (rfl : (s.resetLow x).sv = s.sv)).trans (State.sv_condFall ..)
  · rfl

@[simp] theorem State.sv_leaveOn (n : Nat) : (s.leaveOn n).sv = s.sv :=
  (State.sv_each _ fun _ _ => State.sv_stageOff _ : ((s.pgLow n).dropTests n).sv = (s.pgLow n).sv).trans (State.sv_pgLow n)

@[simp] theorem State.sv_setRail (n st : Nat) : (s.setRail n st).sv = s.sv := rfl
@[simp] theorem State.sv_stopRamp (n : Nat) : (s.stopRamp n).sv = s.sv := rfl
@[simp] theorem State.sv_startRamp (n target full time : Nat) : (s.startRamp n target full time).sv = s.sv :=
  State.sv_unsettle n

@[simp] theorem State.sv_boutCheck : s.boutCheck.sv = s.sv := by
  unfold State.boutCheck
  dsimp only
  split
  · simp [State.happen]
  · rfl

@[simp] theorem State.sv_railToOff (n : Nat) : (s.railToOff n).sv = s.sv := by
  simp [State.railToOff, State.sv_each]

@[simp] theorem State.sv_rampDown (n : Nat) : (s.rampDown n).sv = s.sv := by
  simp [State.rampDown]

@[simp] theorem State.sv_railOff (n code : Nat) : (s.railOff n code).sv = s.sv := by
  unfold State.railOff
  dsimp only
  (repeat' split) <;> simp

@[simp] theorem State.sv_latchRail (src n : Nat) : (s.latchRail src n).sv = s.sv := by
  simp [State.latchRail, State.sv_each, apply_ite State.sv]

/-! ### Groups -/

@[simp] theorem State.sv_setGroup (g st : Nat) : (s.setGroup g st).sv = s.sv := by
  unfold State.setGroup
  dsimp only
  (repeat' split) <;> simp

@[simp] theorem State.sv_putGrpX (g : Nat) (x : GroupX) : (s.putGrpX g x).sv = s.sv := rfl

@[simp] theorem State.sv_groupToOff (g : Nat) : (s.groupToOff g).sv = s.sv := by
  unfold State.groupToOff State.classBCheck
  dsimp only
  split <;> simp

@[simp] theorem State.sv_stepReverse (g j code : Nat) : (s.stepReverse g j code).sv = s.sv := by
  unfold State.stepReverse
  dsimp only
  split
  · simp
  all_goals rfl

@[simp] theorem State.sv_groupOff (g code : Nat) : (s.groupOff g code).sv = s.sv := by
  unfold State.groupOff
  (repeat' split) <;> simp

@[simp] theorem State.sv_groupStartFail (n : Nat) : (s.groupStartFail n).sv = s.sv := by
  unfold State.groupStartFail
  dsimp only
  (repeat' split) <;> simp

@[simp] theorem State.sv_groupLatched (n : Nat) : (s.groupLatched n).sv = s.sv := by
  unfold State.groupLatched
  (repeat' split) <;> simp

/-! ### The reactions of the classes and the raise (Table 10.2, R239) -/

/-- An off request takes effect, or is noted in the reload whose restore it waits for (R70). -/
@[simp] theorem State.sv_groupOffLater (g code : Nat) : (s.groupOffLater g code).sv = s.sv := by
  unfold State.groupOffLater
  (repeat' split) <;> simp

@[simp] theorem State.sv_railOffLater (n code : Nat) : (s.railOffLater n code).sv = s.sv := by
  unfold State.railOffLater
  (repeat' split) <;> simp

@[simp] theorem State.sv_groupOffB (g : Nat) : (s.groupOffB g).sv = s.sv :=
  (State.sv_groupOffLater ..).trans (State.sv_each _ fun _ _ => rfl)

@[simp] theorem State.sv_railOffB (f n : Nat) : (s.railOffB f n).sv = s.sv := by
  simp [State.railOffB]

@[simp] theorem State.sv_reactB (f : Nat) : (s.reactB f).sv = s.sv := by
  have hwait : ∀ u : State, (u.offsWait f).sv = u.sv := fun u => by
    unfold State.offsWait
    (repeat' split) <;> rfl
  simp [State.reactB, hwait, State.sv_each, apply_ite State.sv]

@[simp] theorem State.sv_react (f cls : Nat) : (s.react f cls).sv = s.sv := by
  have habort : (s.reloadAbort 0x21).sv = s.sv := by
    unfold State.reloadAbort
    dsimp only
    (repeat' split) <;> rfl
  have hreactA : ∀ u : State, (u.reactA f).sv = u.sv := fun u => State.sv_each _ fun n s => by simp
  unfold State.react
  dsimp only
  (repeat' split) <;> simp [hreactA, habort]

@[simp] theorem State.sv_faultPin : s.faultPin.sv = s.sv := by
  unfold State.faultPin
  (repeat' split) <;> rfl

@[simp] theorem State.sv_captureFirst (f cls cause : Nat) : (s.captureFirst f cls cause).sv = s.sv := by
  unfold State.captureFirst
  split <;> rfl

@[simp] theorem State.sv_logFault (f cls cause : Nat) (clear : Bool) : (s.logFault f cls cause clear).sv = s.sv := by
  unfold State.logFault
  split <;> simp

@[simp] theorem State.sv_requestDump (f cause : Nat) : (s.requestDump f cause).sv = s.sv := by
  unfold State.requestDump
  split <;> rfl

@[simp] theorem State.sv_sendTrip (f : Nat) : (s.sendTrip f).sv = s.sv :=
  (State.sv_setFlagI ..).trans (State.sv_each _ fun _ _ => rfl)

@[simp] theorem State.sv_countFault (f : Nat) : (s.countFault f).sv = s.sv := rfl
@[simp] theorem State.sv_raiseMarks (f cause : Nat) : (s.raiseMarks f cause).sv = s.sv := rfl

@[simp] theorem State.sv_raise (f cause : Nat) : (s.raise f cause).sv = s.sv := by
  have hmessage : ∀ (u : State) cls, (u.faultMessage f cls cause false).sv = u.sv := fun _ _ => rfl
  rw [State.raise_eq]
  simp [State.raiseReports, hmessage, apply_ite State.sv]

/-! ### The readers of the tap table (R161, R162, R165) -/

@[simp] theorem State.sv_railRampUp (n : Nat) : (s.railRampUp n).sv = s.sv := by
  simp [State.railRampUp, State.rampToVset]

@[simp] theorem State.sv_stageBegin (n m : Nat) : (s.stageBegin n m).sv = s.sv := by
  unfold State.stageBegin State.stageTest
  (repeat' split) <;> simp [State.putStgX, State.closePoint]

@[simp] theorem State.sv_startGo (n : Nat) : (s.startGo n).sv = s.sv := by
  simp [State.startGo, State.sv_each, apply_ite State.sv]

/-- The first conversion of a rail's sense channel takes the rail off the list of those that have just joined. -/
theorem State.convs_senseJoins (n : Nat) : (s.senseJoins n).sv.convs = s.sv.convs := by
  unfold State.senseJoins
  dsimp only
  (repeat' split) <;> simp

@[simp] theorem State.sv_vinSeen : s.vinSeen.sv = s.sv := by
  unfold State.vinSeen State.vinRose
  dsimp only
  (repeat' split) <;> rfl

@[simp] theorem State.sv_stageWarm (m : Nat) : (s.stageWarm m).sv = s.sv := by
  have hhot : ∀ u : State, (u.hotMark m).sv = u.sv := fun u => by
    unfold State.hotMark
    (repeat' split) <;> rfl
  have hthermal : ∀ q per w, (s.thermal q per w).2.sv = s.sv := fun q per w => by
    unfold State.thermal
    dsimp only
    (repeat' split) <;> rfl
  simp [State.stageWarm, hhot, hthermal]

@[simp] theorem State.conv_tapRead (x ch y : Nat) : (s.tapRead x ch).conv y = s.conv y := by
  refine congrArg (fun l => Tab.get l y ({} : ConvX)) ?_
  unfold State.tapRead
  (repeat' split) <;> simp [State.convs_senseJoins, State.showIbat]

end Sys2Proof.Machine

/-!
SUPPORT. The result of a conversion (R162, R166, R174): which registers of the survey it reaches after its tap, and the word
that a scan result puts into the data register.
-/

namespace Sys2Proof.Machine

variable {s : State} {x ch : Nat} {q : Reg}

/-! ### Blocks -/

@[simp] theorem block_cvCtl (x : Nat) : (Reg.SVY_CV_CTL x).block = .svy := rfl
@[simp] theorem block_cvMask (x : Nat) : (Reg.SVY_CV_MASK x).block = .svy := rfl
@[simp] theorem block_cvData (x : Nat) : (Reg.SVY_CV_DATA x).block = .svy := rfl
@[simp] theorem block_cvStat (x : Nat) : (Reg.SVY_CV_STAT x).block = .svy := rfl
@[simp] theorem block_cvDmaCfg (x : Nat) : (Reg.SVY_CV_DMA_CFG x).block = .svy := rfl
@[simp] theorem block_cvDmaPtr (x : Nat) : (Reg.SVY_CV_DMA_PTR x).block = .svy := rfl
@[simp] theorem block_cvFlag (x : Nat) : (Reg.SVY_CV_FLAG x).block = .svy := rfl
@[simp] theorem block_cvTap (x c : Nat) : (Reg.SVY_CV_TAP x c).block = .svy := rfl
@[simp] theorem block_slOg (x k : Nat) : (Reg.SVY_CV_SL_OG x k).block = .svy := rfl
@[simp] theorem block_slSk (x k : Nat) : (Reg.SVY_CV_SL_SK x k).block = .svy := rfl
@[simp] theorem block_svyStatus : Reg.SVY_STATUS.block = .svy := rfl
@[simp] theorem block_svyFlag : Reg.SVY_FLAG.block = .svy := rfl

/-! ### Hidden state of the converters -/

theorem State.conv_congr {t : State} (h : t.sv = s.sv) (y : Nat) : t.conv y = s.conv y := by
  rw [State.conv, State.conv, h]

@[simp] theorem State.conv_putConv (y : Nat) (c : ConvX) : (s.putConv x c).conv y = if y = x then c else s.conv y :=
  Tab.get_set ..
@[simp] theorem State.rd_putConv (c : ConvX) : (s.putConv x c).rd q = s.rd q := rfl
@[simp] theorem State.conv_wr (r : Reg) (w : Word) (y : Nat) : (s.wr r w).conv y = s.conv y := rfl
@[simp] theorem State.conv_put (r : Reg) (f : Field) (v y : Nat) : (s.put r f v).conv y = s.conv y := rfl
@[simp] theorem State.conv_putBit (r : Reg) (b : Nat) (v : Bool) (y : Nat) : (s.putBit r b v).conv y = s.conv y := rfl
@[simp] theorem State.conv_writeRw (r : Reg) (w : Word) (y : Nat) : (s.writeRw r w).conv y = s.conv y := rfl
@[simp] theorem State.conv_setFlag (r : Reg) (b y : Nat) : (s.setFlag r b).conv y = s.conv y :=
  State.conv_congr (State.sv_setFlag r b) y
@[simp] theorem State.conv_raise (f cause y : Nat) : (s.raise f cause).conv y = s.conv y :=
  State.conv_congr (State.sv_raise f cause) y

/-- A flag of the survey leaves its other registers. -/
theorem State.rd_setFlag_svy (r : Reg) (b : Nat) (hr : q ≠ r) (hq : q.block = .svy) : (s.setFlag r b).rd q = s.rd q :=
  State.rd_setFlag _ _ _ hr (by simp [hq]) (by simp [hq])

/-- The reactions of a fault reach no register of the survey. -/
theorem State.rd_raise_svy (f cause : Nat) (hq : q.block = .svy) : (s.raise f cause).rd q = s.rd q :=
  Keeps.regs (B := (· ≠ .svy)) (M := True) (by apply State.raise_keeps (Keeps.refl s) <;> decide) q (by simp [hq])

theorem State.rd_tapRead_svy (hq : q.block = .svy) : (s.tapRead x ch).rd q = s.rd q :=
  Keeps.regs (B := (· ≠ .svy)) (M := True) (by apply State.tapRead_keeps (Keeps.refl s) <;> decide) q (by simp [hq])

/-- The schedule of a claim bears neither on the scan under way nor on its number. -/
theorem State.claimMoves_conv (c : Claim) (y : Nat) : ((s.claimMoves x ch c).conv y).left = (s.conv y).left ∧
    ((s.claimMoves x ch c).conv y).scan = (s.conv y).scan := by
  unfold State.claimMoves
  dsimp only
  (repeat' split) <;> simp only [State.conv_putConv, and_self]
  all_goals
    split
    next hy => rw [hy]; exact ⟨rfl, rfl⟩
    next => exact ⟨rfl, rfl⟩

/-! ### Background correction (R166, R167) -/

theorem State.rd_putFactors (l : List Word) (hog : ∀ k, q ≠ .SVY_CV_SL_OG x k) (hsk : ∀ k, q ≠ .SVY_CV_SL_SK x k) :
    (s.putFactors x l).rd q = s.rd q :=
  State.rd_each _ fun k s => by simp [hog k, hsk k]

@[simp] theorem State.sv_putFactors (l : List Word) : (s.putFactors x l).sv = s.sv := State.sv_each _ fun _ _ => rfl

/-- The registers of a converter that neither a factor nor a check of it writes. -/
def Reg.uncorrected (x : Nat) (q : Reg) : Prop :=
  q.block = .svy ∧ q ≠ .SVY_CV_FLAG x ∧ (∀ k, q ≠ .SVY_CV_SL_OG x k) ∧ ∀ k, q ≠ .SVY_CV_SL_SK x k

/-- A failed check of background correction sets a flag and raises its fault. -/
theorem State.rd_checkFails (b f cause : Nat) (hq : q.uncorrected x) :
    ((s.setFlag (.SVY_CV_FLAG x) b).raise f cause).rd q = s.rd q := by
  obtain ⟨hblock, hflag, -, -⟩ := hq
  rw [State.rd_raise_svy _ _ hblock, State.rd_setFlag_svy _ _ hflag hblock]

theorem State.rd_correctBack (r : ConvResult) (hq : q.uncorrected x) : (s.correctBack x r).rd q = s.rd q := by
  have ⟨hblock, _, hog, hsk⟩ := hq
  have hlive : ∀ (u : State) f b, (u.live f b).rd q = u.rd q := fun u f b => by
    have hne : q ≠ .FLT_LIVE (f / 32) := fun h => by rw [h] at hblock; cases hblock
    simp [State.live, hne]
  have hfactors : ∀ l, (s.putFactors x l).rd q = s.rd q := fun l => State.rd_putFactors l hog hsk
  unfold State.correctBack
  dsimp only
  (repeat' split) <;> simp only [State.rd_checkFails _ _ _ hq, hlive, hfactors]

@[simp] theorem State.sv_correctBack (r : ConvResult) : (s.correctBack x r).sv = s.sv := by
  unfold State.correctBack State.live
  dsimp only
  (repeat' split) <;> simp

/-! ### The scan result and its DMA channel (R174, R175) -/

/-- The word a scan result stores: NEW, OVR, FIRST, CH, SCAN and CODE. -/
def dataWord (ovr first : Bool) (ch scan : Nat) (code : BitVec 16) : Word :=
  BitVec.ofNat 32 (2 ^ 31 + 2 ^ 30 * b2n ovr + 2 ^ 29 * b2n first + 2 ^ 24 * ch + 2 ^ 16 * scan + code.toNat)

theorem dataWord_fields (ovr first : Bool) (code : BitVec 16) {scan : Nat} (hch : ch < 32) (hscan : scan < 256) :
    getF (dataWord ovr first ch scan code) Fld.SVY_CV_DATA_CODE = code.toNat ∧
    getF (dataWord ovr first ch scan code) Fld.SVY_CV_DATA_CH = ch ∧
    getF (dataWord ovr first ch scan code) Fld.SVY_CV_DATA_NEW = 1 ∧
    getF (dataWord ovr first ch scan code) Fld.SVY_CV_DATA_SCAN = scan := by
  have hcode := code.isLt
  have hovr : b2n ovr ≤ 1 := by cases ovr <;> decide
  have hfirst : b2n first ≤ 1 := by cases first <;> decide
  simp only [getF, dataWord, BitVec.toNat_ofNat, Field.width, Nat.shiftRight_eq_div_pow]
  omega

/-- The ring and its marks reach of the survey the converter's own DMA registers, its drop count and its flags; its data
register is read out. -/
theorem State.rd_ringPut (encBad : Bool) (hq : q.block = .svy) (hdata : q ≠ .SVY_CV_DATA x) (hstat : q ≠ .SVY_CV_STAT x)
    (hcfg : q ≠ .SVY_CV_DMA_CFG x) (hptr : q ≠ .SVY_CV_DMA_PTR x) (hflag : q ≠ .SVY_CV_FLAG x) :
    (s.ringPut x encBad).rd q = s.rd q := by
  have hue : ∀ a src cause syn, (s.sramUe a src cause syn).rd q = s.rd q := fun a src cause syn =>
    Keeps.regs (B := (· ≠ .svy)) (M := True) (by apply State.sramUe_keeps (Keeps.refl s) <;> decide) q (by simp [hq])
  have hhalt : ∀ (u : State) lost, (u.dmaHalt x lost).rd q = u.rd q := fun u lost =>
    Keeps.regs (B := (· ≠ .svy)) (M := True) (by apply State.dmaHalt_keeps (Keeps.refl u) <;> decide) q (by simp [hq])
  have hstore : ∀ (u : State) a w, (u.sramWrite a w).rd q = u.rd q := fun u a w =>
    Keeps.regs (B := (· ≠ .svy)) (M := True) (by apply State.sramWrite_keeps (Keeps.refl u) <;> decide) q (by simp [hq])
  unfold State.ringPut
  dsimp only
  split
  · simp [State.rd_setFlag_svy _ _ hflag hq, State.addSat, State.rdCvData, hstat, hdata]
  · split
    · simp [hhalt, State.rd_setFlag_svy _ _ hflag hq, hue, hcfg]
    · split <;> simp [hstore, State.rdCvData, hptr, hdata]

/-- A scan result in the data register, its channel taken off the scan. -/
def State.scanStored (s : State) (x ch : Nat) (code : BitVec 16) : State :=
  (s.putConv x { s.conv x with left := (s.conv x).left.drop 1, first := false }).wr (.SVY_CV_DATA x)
    (dataWord (s.bit (.SVY_CV_DATA x) 31 || s.bit (.SVY_CV_DATA x) 30) (s.conv x).first ch (s.conv x).scan code)

/-- The same with an overrun counted and flagged where the result before it has not been read. -/
def State.scanNoted (s : State) (x ch : Nat) (code : BitVec 16) : State :=
  if s.bit (.SVY_CV_DATA x) 31 then
    ((s.scanStored x ch code).addSat (.SVY_CV_STAT x) Fld.SVY_CV_STAT_OVRCNT 1).setFlag (.SVY_CV_FLAG x) 0
  else s.scanStored x ch code

theorem State.scanResult_eq (code : BitVec 16) (encBad : Bool) : s.scanResult x ch code encBad =
    if (s.scanNoted x ch code).bit (.SVY_CV_DMA_CFG x) 31 then (s.scanNoted x ch code).ringPut x encBad
    else s.scanNoted x ch code := rfl

theorem State.rd_scanNoted (code : BitVec 16) (hq : q.block = .svy) (hstat : q ≠ .SVY_CV_STAT x)
    (hflag : q ≠ .SVY_CV_FLAG x) : (s.scanNoted x ch code).rd q = (s.scanStored x ch code).rd q := by
  unfold State.scanNoted
  split
  · rw [State.rd_setFlag_svy _ _ hflag hq]
    simp [State.addSat, hstat]
  · rfl

theorem State.conv_scanNoted (code : BitVec 16) (y : Nat) :
    (s.scanNoted x ch code).conv y = (s.scanStored x ch code).conv y := by
  unfold State.scanNoted
  split <;> simp [State.addSat]

theorem State.rd_scanResult_tap (code : BitVec 16) (encBad : Bool) (y c : Nat) :
    (s.scanResult x ch code encBad).rd (.SVY_CV_TAP y c) = s.rd (.SVY_CV_TAP y c) := by
  have hnoted : (s.scanNoted x ch code).rd (.SVY_CV_TAP y c) = s.rd (.SVY_CV_TAP y c) := by
    rw [State.rd_scanNoted code rfl (by simp) (by simp)]
    simp [State.scanStored]
  rw [State.scanResult_eq]
  split
  · exact (State.rd_ringPut encBad rfl (by simp) (by simp) (by simp) (by simp) (by simp)).trans hnoted
  · exact hnoted

/-- Without a DMA channel a scan result stays in the data register, whether or not it overruns the one before. -/
theorem State.scanResult_shows (code : BitVec 16) (encBad : Bool) (hen : s.bit (.SVY_CV_DMA_CFG x) 31 = false) :
    (∃ ovr, (s.scanResult x ch code encBad).rd (.SVY_CV_DATA x) = dataWord ovr (s.conv x).first ch (s.conv x).scan code) ∧
    ((s.scanResult x ch code encBad).conv x).left = (s.conv x).left.tail := by
  have hring : (s.scanNoted x ch code).bit (.SVY_CV_DMA_CFG x) 31 = false := by
    rw [State.bit, State.rd_scanNoted code rfl (by simp) (by simp)]
    simpa [State.scanStored, State.bit] using hen
  rw [State.scanResult_eq, if_neg (by simp [hring]), State.rd_scanNoted code rfl (by simp) (by simp), State.conv_scanNoted]
  exact ⟨⟨_, (State.rd_wr ..).trans (if_pos rfl)⟩, by simp [State.scanStored]⟩

/-! ### The command -/

/-- A result once its tap is stored, read by its readers and corrected. -/
def State.resultTapped (s : State) (x : Nat) (r : ConvResult) : State :=
  (((s.claimMoves x r.ch r.claim).wr (.SVY_CV_TAP x r.ch) (r.code.zeroExtend 32)).tapRead x r.ch).correctBack x r

theorem exec_conversionResult {r : ConvResult} {x : Fin 3} (hp : s.powered .adc = true) (hc : chanUsed x r.ch = true) :
    exec (.conversionResult x r) s = .next
      (if r.scan && ((s.resultTapped x r).conv x).left.head? == some r.ch.val
        then (s.resultTapped x r).scanResult x r.ch r.code r.encBad else s.resultTapped x r) :=
  congrArg Host.Outcome.next (if_pos (by simp [hp, hc]))

theorem State.rd_claimMoves (c : Claim) : (s.claimMoves x ch c).rd q = s.rd q :=
  (State.claimMoves_keeps (B := fun _ => False) (M := False) (Keeps.refl s)).regs q id

theorem State.rd_resultTapped (r : ConvResult) (hq : q.uncorrected x) :
    (s.resultTapped x r).rd q = if q = .SVY_CV_TAP x r.ch then r.code.zeroExtend 32 else s.rd q := by
  rw [State.resultTapped, State.rd_correctBack r hq, State.rd_tapRead_svy hq.1, State.rd_wr, State.rd_claimMoves]

theorem State.resultTapped_conv (r : ConvResult) (y : Nat) : ((s.resultTapped x r).conv y).left = (s.conv y).left ∧
    ((s.resultTapped x r).conv y).scan = (s.conv y).scan := by
  rw [State.resultTapped, State.conv_congr (State.sv_correctBack r), State.conv_tapRead, State.conv_wr]
  exact State.claimMoves_conv r.claim y

theorem tapWord_fields (code : BitVec 16) : getF (code.zeroExtend 32) Fld.SVY_CV_TAP_CODE = code.toNat ∧
    getF (code.zeroExtend 32) Fld.SVY_CV_TAP_AGE = 0 := by
  have hcode := code.isLt
  simp only [getF, BitVec.toNat_setWidth, Field.width, Nat.shiftRight_eq_div_pow]
  omega

end Sys2Proof.Machine

/-!
SUPPORT. Scans (R173), reads of the data register (R174), and the writes that start a DMA ring (R176) or store a factor
(R172).
-/

namespace Sys2Proof.Machine

variable {s : State} {x : Nat} {q : Reg}

/-! ### Scans -/

@[simp] theorem State.rd_beginScan : (s.beginScan x).rd q = s.rd q :=
  (State.beginScan_keeps (B := fun _ => False) (M := False) (Keeps.refl s)).regs q id

theorem State.conv_beginScan (hmask : s.cvMask x ≠ []) (y : Nat) : (s.beginScan x).conv y =
    if y = x then { s.conv x with left := s.cvMask x, first := true, scan := ((s.conv x).scan + 1) % 256 }
    else s.conv y := by
  unfold State.beginScan
  rw [if_neg hmask, State.conv_putConv]

theorem State.cvMode_congr {t : State} (h : t.rd (.SVY_CV_CTL x) = s.rd (.SVY_CV_CTL x)) : t.cvMode x = s.cvMode x :=
  congrArg (getF · _) h

theorem State.cvMask_congr {t : State} (h : t.rd (.SVY_CV_MASK x) = s.rd (.SVY_CV_MASK x)) : t.cvMask x = s.cvMask x :=
  congrArg bitsOf h

theorem State.calibrating_congr {t : State} (h : t.rd .SVY_STATUS = s.rd .SVY_STATUS) :
    t.calibrating x = s.calibrating x := congrArg (wbit · _) h

theorem exec_scanStart {x : Fin 3} (hp : s.powered .adc = true) (hidle : s.scanIdle x = true) (hmode : s.cvMode x = 1) :
    exec (.scanStart x) s = .next (s.beginScan x) :=
  congrArg Host.Outcome.next ((if_pos (by simp [hp, hidle])).trans (if_pos hmode))

/-- A write that repeats a register with one action bit set, a bit that is not stored, leaves every register. -/
theorem State.rd_writeRw_action (r : Reg) (b : Nat) (hb : b < 32) (hm : r.rw.getLsbD b = false) :
    (s.writeRw r (wputBit (s.rd r) b true)).rd q = s.rd q := by
  rw [State.rd_writeRw]
  split
  next hq =>
    subst hq
    refine BitVec.eq_of_getLsbD_eq fun j hj => ?_
    rw [BitVec.getLsbD_or, BitVec.getLsbD_and, BitVec.getLsbD_and, BitVec.getLsbD_not, wputBit_getLsbD _ _ _ _ hb]
    by_cases hjb : j = b
    · rw [hjb, hm]
      simp [hb]
    · cases q.rw.getLsbD j <;> simp [hj, hjb]
  next => rfl

/-- A write of SVY_CVx_CTL that is START alone. -/
def State.startWritten (s : State) (x : Nat) : State := s.writeRw (.SVY_CV_CTL x) (wputBit (s.rd (.SVY_CV_CTL x)) 31 true)

theorem State.rd_startWritten : (s.startWritten x).rd q = s.rd q :=
  State.rd_writeRw_action (.SVY_CV_CTL x) 31 (by decide) (by decide : (0x0003FFFF#32).getLsbD 31 = false)

theorem State.wrCvCtl_start (hidle : s.scanIdle x = true) (hmode : s.cvMode x = 2) :
    s.wrCvCtl x (wputBit (s.rd (.SVY_CV_CTL x)) 31 true) = (s.startWritten x).beginScan x := by
  have hnew : (s.startWritten x).cvMode x = 2 := (State.cvMode_congr State.rd_startWritten).trans hmode
  have hfree : (s.startWritten x).scanIdle x = true := by
    rw [State.scanIdle, State.calibrating_congr State.rd_startWritten]
    exact hidle
  have hbit : wbit (wputBit (s.rd (.SVY_CV_CTL x)) 31 true) 31 = true := wbit_wputBit _ _ _ (by decide)
  unfold State.startWritten at hnew hfree
  simp [State.wrCvCtl, State.startWritten, hnew, hfree, hmode, hbit]

theorem exec_start {i : Iface} {x : Fin 3} (h : s.takes (.SVY_CV_CTL x) = true) :
    exec (.start i x) s = .next (s.wrCvCtl x (wputBit (s.rd (.SVY_CV_CTL x)) 31 true)) :=
  congrArg Host.Outcome.next (State.guardWrite_takes h)

/-! ### The data register -/

theorem Reg.ofAddr_cvData (x : Fin 3) : Reg.ofAddr (Reg.addr (.SVY_CV_DATA x)) = some (.SVY_CV_DATA x) := by
  revert x
  decide +kernel

theorem wordAddr_cvData (x : Fin 3) : wordAddr (Reg.addr (.SVY_CV_DATA x)) = Reg.addr (.SVY_CV_DATA x) := by
  revert x
  decide

/-- The data register crosses no edge: a read of it is the register's own rule. -/
theorem State.busRead_cvData {i : Iface} (x : Fin 3) (hs : s.served = true) (hl : s.loader = false)
    (hp : s.powered .adc = true) : s.busRead i (Reg.addr (.SVY_CV_DATA x)) = s.rdCvData x := by
  obtain ⟨b, hb⟩ := Reg.ofAddr_block (Reg.ofAddr_cvData x)
  have hsram := Block.ofAddr_above_sram hb
  have hidata : Reg.addr (.SVY_CV_DATA x) ≠ 0x4000000C := fun h => by
    have hreg := Reg.ofAddr_cvData x
    rw [h, Reg.ofAddr_sysIdata] at hreg
    cases hreg
  unfold State.busRead
  dsimp only
  rw [wordAddr_cvData, if_neg hidata]
  unfold State.readWord
  rw [if_neg (by simp [hs]), if_neg (by omega)]
  simp only [hb, Reg.ofAddr_cvData]
  exact State.guardRead_on hs hl hp

theorem exec_dataRead {i : Iface} {x : Fin 3} (hs : s.served = true) (hl : s.loader = false)
    (hp : s.powered .adc = true) : exec (.dataRead i x) s = .next (State.deliver i (s.rdCvData x)) :=
  congrArg (fun p => Host.Outcome.next (State.deliver i p)) (State.busRead_cvData x hs hl hp)

/-! ### The DMA ring (R176) -/

theorem exec_dmaEnable {i : Iface} {v : Word} {x : Fin 3} (h : s.takes (.SVY_CV_DMA_CFG x) = true) :
    exec (.dmaEnable i x v 0xF#4) s = .next (s.wrDmaCfg x v) :=
  congrArg Host.Outcome.next ((State.guardWrite_takes h).trans (by rw [State.merged_whole]))

/-- A ring that starts: its configuration stored, HALTED cleared, WPTR at RPTR, DROPCNT 0. -/
def State.ringStarted (s : State) (x : Nat) (v : Word) : State :=
  let u := (s.writeRw (.SVY_CV_DMA_CFG x) v).putBit (.SVY_CV_DMA_CFG x) 30 false
  ((u.put (.SVY_CV_DMA_PTR x) Fld.SVY_CV_DMA_PTR_WPTR (u.fld (.SVY_CV_DMA_PTR x) Fld.SVY_CV_DMA_PTR_RPTR)).put
    (.SVY_CV_STAT x) Fld.SVY_CV_STAT_DROPCNT 0).dmaRestart x

/-- A field of one bit is that bit. -/
theorem getF_bit (w : Word) (b : Nat) : getF w ⟨b, b⟩ = b2n (wbit w b) := by
  refine Nat.eq_of_testBit_eq fun j => ?_
  rw [getF_testBit]
  cases j with
  | zero => cases h : wbit w b <;> simpa [Field.width, b2n, wbit] using h
  | succ j => cases wbit w b <;> simp [Field.width, b2n, Nat.testBit_succ]

theorem wbit_of_getF_zero {w : Word} {b : Nat} (h : getF w ⟨b, b⟩ = 0) : wbit w b = false := by
  rw [getF_bit] at h
  cases hb : wbit w b
  · rfl
  · rw [hb] at h
    cases h

theorem State.wrDmaCfg_starts {v : Word} (hv : wbit v 31 = true) (hring : s.ringOk x (getF v Fld.SVY_CV_DMA_CFG_LEN) = true)
    (hen : s.fld (.SVY_CV_DMA_CFG x) Fld.SVY_CV_DMA_CFG_EN = 0) : s.wrDmaCfg x v = s.ringStarted x v := by
  have hoff : s.bit (.SVY_CV_DMA_CFG x) 31 = false := wbit_of_getF_zero hen
  unfold State.wrDmaCfg
  rw [if_pos hv, if_pos hring, if_neg (by simp [hoff])]
  rfl

theorem State.wrDmaCfg_refused {v : Word} (hv : wbit v 31 = true)
    (hring : s.ringOk x (getF v Fld.SVY_CV_DMA_CFG_LEN) = false) : s.wrDmaCfg x v = s.setFlag (.SVY_CV_FLAG x) 1 := by
  unfold State.wrDmaCfg
  rw [if_pos hv, if_neg (by simp [hring])]

theorem State.ringStarted_shows {v : Word} (hv : wbit v 31 = true) :
    (s.ringStarted x v).fld (.SVY_CV_DMA_CFG x) Fld.SVY_CV_DMA_CFG_EN = 1 ∧
    (s.ringStarted x v).fld (.SVY_CV_DMA_CFG x) Fld.SVY_CV_DMA_CFG_HALTED = 0 ∧
    (s.ringStarted x v).fld (.SVY_CV_DMA_CFG x) Fld.SVY_CV_DMA_CFG_LEN = getF v Fld.SVY_CV_DMA_CFG_LEN ∧
    (s.ringStarted x v).fld (.SVY_CV_DMA_PTR x) Fld.SVY_CV_DMA_PTR_WPTR =
      s.fld (.SVY_CV_DMA_PTR x) Fld.SVY_CV_DMA_PTR_RPTR ∧
    (s.ringStarted x v).fld (.SVY_CV_STAT x) Fld.SVY_CV_STAT_DROPCNT = 0 := by
  have hcfg : (s.ringStarted x v).rd (.SVY_CV_DMA_CFG x) = wputBit ((s.rd (.SVY_CV_DMA_CFG x) &&&
      ~~~ Reg.rw (.SVY_CV_DMA_CFG x)) ||| (v &&& Reg.rw (.SVY_CV_DMA_CFG x))) 30 false := by
    simp [State.ringStarted, State.rd_dmaRestart]
  have hptr : (s.ringStarted x v).rd (.SVY_CV_DMA_PTR x) = putF (s.rd (.SVY_CV_DMA_PTR x)) Fld.SVY_CV_DMA_PTR_WPTR
      (s.fld (.SVY_CV_DMA_PTR x) Fld.SVY_CV_DMA_PTR_RPTR) := by
    simp [State.ringStarted, State.rd_dmaRestart, State.fld]
  have hstat : (s.ringStarted x v).rd (.SVY_CV_STAT x) = putF (s.rd (.SVY_CV_STAT x)) Fld.SVY_CV_STAT_DROPCNT 0 := by
    simp [State.ringStarted, State.rd_dmaRestart]
  have hrw : Reg.rw (.SVY_CV_DMA_CFG x) = 0x8000FFFF#32 := rfl
  simp only [State.fld, hcfg, hptr, hstat]
  refine ⟨?_, ?_, ?_, ?_, ?_⟩
  · rw [getF_wputBit_other _ _ _ _ (by decide) (by decide), getF_masked _ _ _ _ (by rw [hrw]; decide)]
    rw [getF_bit, hv]
    rfl
  · rw [getF_bit, wbit_wputBit _ _ _ (by decide)]
    rfl
  · rw [getF_wputBit_other _ _ _ _ (by decide) (by decide), getF_masked _ _ _ _ (by rw [hrw]; decide)]
  · rw [getF_putF _ _ _ rfl]
    exact Nat.mod_eq_of_lt (getF_lt ..)
  · rw [getF_putF _ _ _ rfl]
    rfl

/-! ### Factors (R172) -/

theorem exec_sliceFactorWrite {i : Iface} {v : Word} {k : Fin 4} {b : Bool} {r : Reg} {x : Fin 3}
    (hr : r = (if b then Reg.SVY_CV_SL_SK x k else Reg.SVY_CV_SL_OG x k)) (h : s.takes r = true) :
    exec (.sliceFactorWrite i x k b v 0xF#4) s = .next (s.wrFactor x r v) := by
  subst hr
  exact congrArg Host.Outcome.next ((State.guardWrite_takes h).trans (by rw [State.merged_whole]))

theorem block_factor {k : Fin 4} {b : Bool} {r : Reg} {x : Fin 3}
    (hr : r = (if b then Reg.SVY_CV_SL_SK x k else Reg.SVY_CV_SL_OG x k)) : r.block = .svy ∧ r ≠ .SVY_FLAG := by
  subst hr
  cases b <;> exact ⟨rfl, by simp⟩

theorem State.wrFactor_refused {r : Reg} {v : Word} (h : s.cvMode x ≠ 0 ∨ s.calibrating x = true) :
    s.wrFactor x r v = s.setFlagI .SVY_FLAG 0 x 0 := by
  refine if_neg ?_
  rintro ⟨hmode, hcal⟩
  rcases h with h | h
  · exact h hmode
  · rw [h] at hcal
    cases hcal

end Sys2Proof.Machine

/-!
SUPPORT. The common trigger (R177, R178): its scans leave what its shared issue position and its time stamp are computed
from, so that both are those of the state in which the trigger came.
-/

namespace Sys2Proof.Machine

variable {s t : State} {x : Nat} {q : Reg}

/-! ### What the sampling instant depends on -/

/-- The clocks, the power of the domains, the gauge's grid and the registers outside MEM, EVT and SVY are the same. -/
structure SameGrid (s t : State) : Prop where
  clock : t.clock = s.clock
  tm : t.tm = s.tm
  pw : t.pw = s.pw
  gauge : t.sv.gaugeAt = s.sv.gaugeAt
  regs : ∀ q : Reg, q.block ∉ [Block.mem, .evt, .svy] → t.rd q = s.rd q

theorem SameGrid.refl (s : State) : SameGrid s s := ⟨rfl, rfl, rfl, rfl, fun _ _ => rfl⟩

theorem SameGrid.trans {u : State} (h : SameGrid s t) (k : SameGrid t u) : SameGrid s u :=
  ⟨k.clock.trans h.clock, k.tm.trans h.tm, k.pw.trans h.pw, k.gauge.trans h.gauge,
    fun q hq => (k.regs q hq).trans (h.regs q hq)⟩

theorem SameGrid.fld (h : SameGrid s t) (f : Field) (hq : q.block ∉ [Block.mem, .evt, .svy]) : t.fld q f = s.fld q f :=
  congrArg (getF · f) (h.regs q hq)

theorem SameGrid.stationTick (h : SameGrid s t) : SameGrid s.stationTick t.stationTick := by
  obtain ⟨clock, tm, pw, gauge, regs⟩ := h
  have hoffset : t.fld .TIM_OFFSET Fld.TIM_OFFSET_FADJ = s.fld .TIM_OFFSET Fld.TIM_OFFSET_FADJ :=
    congrArg (getF · _) (regs .TIM_OFFSET (by decide))
  exact ⟨by simp only [State.stationTick, clock, tm, hoffset], by simp only [State.stationTick, tm, hoffset], pw, gauge, regs⟩

theorem SameGrid.stationTicks (h : SameGrid s t) (l : List Nat) :
    SameGrid (each l (fun _ s => s.stationTick) s) (each l (fun _ s => s.stationTick) t) := by
  unfold each
  induction l generalizing s t with
  | nil => exact h
  | cons _ l ih => exact ih h.stationTick

theorem SameGrid.stampIn (h : SameGrid s t) (d : Nat) : t.stampIn d = s.stampIn d := by
  unfold State.stampIn State.powered
  rw [h.pw, h.clock, (h.stationTicks (List.range d)).clock]

theorem SameGrid.tapOrder (h : SameGrid s t) (y n : Nat) : t.tapOrder y n = s.tapOrder y n := by
  have hin : ∀ k f, t.fld (.LPS_IN k) f = s.fld (.LPS_IN k) f := fun k f => h.fld f (by simp)
  have hst : ∀ k, t.slotSt k = s.slotSt k := fun k => h.fld _ (by simp)
  have hrate : ∀ k, t.prate k = s.prate k := fun k => h.fld _ (by simp)
  have hphase : ∀ k f, t.fld (.LPS_CFG k) f = s.fld (.LPS_CFG k) f := fun k f => h.fld f (by simp)
  have hslots : t.tapSlots y = s.tapSlots y := by simp only [State.tapSlots, hin, hst]
  have hperiod : t.tapPeriod y = s.tapPeriod y := by
    funext c
    simp only [State.tapPeriod, hslots, hin, hrate]
  simp only [State.tapOrder, hslots, hperiod, State.dueAt, hrate, hphase, hin]

theorem SameGrid.triggerDelay (h : SameGrid s t) (l : List Nat) : t.triggerDelay l = s.triggerDelay l := by
  have htap : t.tapTakes l = s.tapTakes l := by
    funext p
    simp only [State.tapTakes, h.tapOrder]
  have hgauge : t.gaugeTakes = s.gaugeTakes := by
    funext p
    simp only [State.gaugeTakes, h.gauge]
  simp only [State.triggerDelay, h.clock, htap, hgauge]

/-! ### The scans of a trigger -/

/-- A converter that takes part starts its scan, or misses the trigger in its previous one. -/
def State.scanOrMiss (s : State) (x : Nat) : State :=
  if (s.conv x).left.isEmpty then s.beginScan x else s.setFlag (.SVY_CV_FLAG x) 5

theorem State.rd_scanOrMiss (hq : q.block = .svy) (hflag : q ≠ .SVY_CV_FLAG x) : (s.scanOrMiss x).rd q = s.rd q := by
  unfold State.scanOrMiss
  split
  · exact State.rd_beginScan
  · exact State.rd_setFlag_svy _ _ hflag hq

theorem State.scanOrMiss_sameGrid (x : Nat) : SameGrid s (s.scanOrMiss x) := by
  unfold State.scanOrMiss
  split
  · unfold State.beginScan
    dsimp only
    split <;> exact ⟨rfl, rfl, rfl, rfl, fun _ _ => rfl⟩
  · have hregs : ∀ q : Reg, q.block ∉ [Block.mem, .evt, .svy] → (s.setFlag (.SVY_CV_FLAG x) 5).rd q = s.rd q := fun q hq => by
      simp only [List.mem_cons, List.not_mem_nil, or_false, not_or] at hq
      obtain ⟨hmem, hevt, hsvy⟩ := hq
      exact State.rd_setFlag _ _ _ (fun h => hsvy (by rw [h]; rfl)) hmem hevt
    obtain ⟨regs, mem, ev, me, hflag⟩ := State.setFlagI_eventsOnly (s := s) (.SVY_CV_FLAG x) 5
      (((flagSource (.SVY_CV_FLAG x) 5).map (·.2)).getD 0) 0
    refine ⟨?_, ?_, ?_, ?_, hregs⟩ <;> rw [State.setFlag, hflag]

theorem State.conv_scanOrMiss_other {y : Nat} (h : x ≠ y) : (s.scanOrMiss y).conv x = s.conv x := by
  unfold State.scanOrMiss State.beginScan
  dsimp only
  (repeat' split) <;> simp [h]

/-- A converter that takes part and is between scans starts one over its mask, whatever the others do. -/
theorem State.scansStart_left {l : List Nat} (hx : x ∈ l) (hl : l.Nodup) (hleft : (s.conv x).left = [])
    (hmask : s.cvMask x ≠ []) : ((each l (fun y s => s.scanOrMiss y) s).conv x).left = s.cvMask x := by
  have hothers : ∀ (l : List Nat) (s : State), x ∉ l → (each l (fun y s => s.scanOrMiss y) s).conv x = s.conv x := by
    intro l
    unfold each
    induction l with
    | nil => exact fun _ _ => rfl
    | cons y l ih =>
      intro s hn
      obtain ⟨hy, hrest⟩ := not_or.mp (fun h => hn (List.mem_cons.mpr h))
      exact (ih (s.scanOrMiss y) hrest).trans (State.conv_scanOrMiss_other hy)
  induction l generalizing s with
  | nil => cases hx
  | cons y l ih =>
    obtain ⟨hy, hrest⟩ := List.nodup_cons.mp hl
    by_cases hxy : x = y
    · subst hxy
      have hbegin : s.scanOrMiss x = s.beginScan x := if_pos (by simp [hleft])
      exact (congrArg ConvX.left (hothers l (s.scanOrMiss x) hy)).trans
        (by rw [hbegin, State.conv_beginScan hmask, if_pos rfl])
    · have hmask' : (s.scanOrMiss y).cvMask x = s.cvMask x := State.cvMask_congr (State.rd_scanOrMiss rfl (by simp))
      exact (ih ((List.mem_cons.mp hx).resolve_left hxy) hrest (by rw [State.conv_scanOrMiss_other hxy, hleft])
        (by rw [hmask']; exact hmask)).trans hmask'

/-! ### The trigger -/

/-- The converters that take the common trigger. -/
def State.triggered (s : State) : List Nat :=
  (List.range 3).filter fun x => s.cvMode x == 3 && !s.calibrating x && !(s.cvMask x).isEmpty

/-- Those of them that it finds between scans. -/
def State.samplers (s : State) : List Nat := s.triggered.filter fun x => (s.conv x).left.isEmpty

theorem State.samplers_eq : s.samplers = (List.range 3).filter fun y =>
    s.cvMode y == 3 && !s.calibrating y && !(s.cvMask y).isEmpty && (s.conv y).left.isEmpty := by
  simp only [State.samplers, State.triggered, List.filter_filter, Bool.and_comm]

/-- The sampling instant of a state that triggers, in SVY_TSTAMP. -/
def State.stampSampled (s : State) (l : List Nat) : State :=
  let t := s.stampIn (s.triggerDelay l)
  ((s.wr .SVY_TSTAMP_LO (timeLo t.time)).wr .SVY_TSTAMP_HI (timeHi t.time)).putBit .SVY_STATUS 8 t.isLocal

theorem State.trigger_eq : s.trigger =
    if s.samplers = [] then each s.triggered (fun y s => s.scanOrMiss y) s
    else (each s.triggered (fun y s => s.scanOrMiss y) s).stampSampled s.samplers := rfl

theorem State.rd_stampSampled (l : List Nat) : (s.stampSampled l).rd .SVY_TSTAMP_LO =
      timeLo (s.stampIn (s.triggerDelay l)).time ∧
    (s.stampSampled l).rd .SVY_TSTAMP_HI = timeHi (s.stampIn (s.triggerDelay l)).time := by
  simp [State.stampSampled]

theorem State.trigger_samplesAt (h3 : x < 3) (hmode : s.cvMode x = 3) (hcal : s.calibrating x = false)
    (hmask : s.cvMask x ≠ []) (hleft : (s.conv x).left = []) : (s.trigger.conv x).left = s.cvMask x ∧
    s.trigger.rd .SVY_TSTAMP_LO = timeLo (s.stampIn (s.triggerDelay s.samplers)).time ∧
    s.trigger.rd .SVY_TSTAMP_HI = timeHi (s.stampIn (s.triggerDelay s.samplers)).time := by
  have hin : x ∈ s.triggered := by simp [State.triggered, h3, hmode, hcal, hmask]
  have hserved : s.samplers ≠ [] := List.ne_nil_of_mem (List.mem_filter.mpr ⟨hin, by simp [hleft]⟩)
  have hgrid : SameGrid s (each s.triggered (fun y s => s.scanOrMiss y) s) := by
    generalize s.triggered = l
    unfold each
    clear hmode hcal hmask hleft hin hserved
    induction l generalizing s with
    | nil => exact .refl s
    | cons y l ih => exact (State.scanOrMiss_sameGrid y).trans ih
  have hstart := State.scansStart_left hin (List.nodup_range.filter _) hleft hmask
  rw [State.trigger_eq, if_neg hserved]
  obtain ⟨hlo, hhi⟩ := (each s.triggered (fun y s => s.scanOrMiss y) s).rd_stampSampled s.samplers
  rw [hlo, hhi, hgrid.triggerDelay, hgrid.stampIn]
  exact ⟨hstart, rfl, rfl⟩

theorem exec_commonTrigger (hp : s.powered .adc = true) (hsrc : s.fld .SVY_TRIG Fld.SVY_TRIG_SRC = 1)
    (hperiod : s.fld .SVY_TRIG Fld.SVY_TRIG_PERIOD ≠ 0) : exec .commonTrigger s = .next s.trigger :=
  congrArg Host.Outcome.next (if_pos (by simp [hp, hsrc, hperiod]))

/-! ### FIRE -/

/-- A write of SVY_TRIG that is FIRE alone. -/
def State.fireWritten (s : State) : State := s.writeRw .SVY_TRIG (wputBit (s.rd .SVY_TRIG) 29 true)

theorem State.rd_fireWritten : s.fireWritten.rd q = s.rd q :=
  State.rd_writeRw_action .SVY_TRIG 29 (by decide) (by decide)

theorem State.fireWritten_sameGrid : SameGrid s s.fireWritten := ⟨rfl, rfl, rfl, rfl, fun _ _ => State.rd_fireWritten⟩

theorem State.samplers_fireWritten : s.fireWritten.samplers = s.samplers := by
  have hmode : ∀ y, s.fireWritten.cvMode y = s.cvMode y := fun y => State.cvMode_congr State.rd_fireWritten
  have hcal : ∀ y, s.fireWritten.calibrating y = s.calibrating y := fun y => State.calibrating_congr State.rd_fireWritten
  have hmask : ∀ y, s.fireWritten.cvMask y = s.cvMask y := fun y => State.cvMask_congr State.rd_fireWritten
  have hconv : ∀ y, s.fireWritten.conv y = s.conv y := fun _ => rfl
  simp only [State.samplers, State.triggered, hmode, hcal, hmask, hconv]

theorem State.wrTrig_fire (hsrc : s.fld .SVY_TRIG Fld.SVY_TRIG_SRC = 2) :
    s.wrTrig (wputBit (s.rd .SVY_TRIG) 29 true) = s.fireWritten.trigger := by
  have hword : getF (wputBit (s.rd .SVY_TRIG) 29 true) Fld.SVY_TRIG_SRC = 2 :=
    (getF_wputBit_other _ _ _ _ (by decide) (by decide)).trans hsrc
  have hstored : s.fireWritten.fld .SVY_TRIG Fld.SVY_TRIG_SRC = 2 := (congrArg (getF · _) State.rd_fireWritten).trans hsrc
  have hbit : wbit (wputBit (s.rd .SVY_TRIG) 29 true) 29 = true := wbit_wputBit _ _ _ (by decide)
  unfold State.fireWritten at hstored
  simp [State.wrTrig, State.fireWritten, hword, hstored, hbit]

theorem exec_fire {i : Iface} (h : s.takes .SVY_TRIG = true) :
    exec (.fire i) s = .next (s.wrTrig (wputBit (s.rd .SVY_TRIG) 29 true)) :=
  congrArg Host.Outcome.next (State.guardWrite_takes h)

end Sys2Proof.Machine

/-!
SUPPORT. Calibration (R169, R171): the begin of a converter, the factors it installs, and the end of the command.
-/

namespace Sys2Proof.Machine

variable {s : State} {x : Nat} {q : Reg}

/-! ### The next converter of a run -/

/-- A bit that is set, inside the word or not, leaves the others. -/
theorem wbit_wputBit_true_other (w : Word) {i j : Nat} (h : j ≠ i) : wbit (wputBit w i true) j = wbit w j := by
  by_cases hi : i < 32
  · exact wbit_wputBit_other _ _ _ _ hi h
  · have hnone : 1#32 <<< i = 0#32 := BitVec.shiftLeft_eq_zero (Nat.le_of_not_lt hi)
    simp [wputBit, hnone]

theorem State.calNext_begins {r : CalRun} {y : Nat} {l : List Nat} (h : r.todo = y :: l) :
    (s.calNext r).rd q = (s.putBit .SVY_STATUS (4 + y) true).rd q ∧ (s.calNext r).sv.cal = some r ∧
    ((s.calNext r).conv y).left = [] := by
  unfold State.calNext
  rw [h]
  exact ⟨rfl, rfl, by rw [State.conv_putConv, if_pos rfl]⟩

theorem State.calNext_ends {r : CalRun} (h : r.todo = []) :
    s.calNext r = ({ s with sv := { s.sv with cal := none } } : State).complete r.slot 0 r.done := by
  unfold State.calNext
  rw [h]

/-- Of the survey's registers the next converter of a run shows in SVY_STATUS alone. -/
theorem State.rd_calNext (r : CalRun) (hq : q.block = .svy) (hstatus : q ≠ .SVY_STATUS) :
    (s.calNext r).rd q = s.rd q := by
  cases h : r.todo with
  | nil => rw [State.calNext_ends h, State.rd_complete _ _ _ (by simp [hq])]; rfl
  | cons y l => rw [(State.calNext_begins h).1, State.rd_putBit, if_neg hstatus]

/-- In SVY_STATUS it is CALBUSY of that converter. -/
theorem State.bit_calNext {r : CalRun} {j : Nat} (h : ∀ y ∈ r.todo, j ≠ 4 + y) :
    (s.calNext r).bit .SVY_STATUS j = s.bit .SVY_STATUS j := by
  unfold State.bit
  cases hr : r.todo with
  | nil => rw [State.calNext_ends hr, State.rd_complete _ _ _ (by simp)]; rfl
  | cons y l =>
    rw [(State.calNext_begins hr).1, State.rd_putBit, if_pos rfl]
    exact wbit_wputBit_true_other _ (h y (by simp [hr]))

theorem exec_surveyCal_advance {k : Nat} (hrun : s.runningSlot 2 = some k) (hop : (s.slot k).op = 0x81)
    (hp : s.powered .adc = true) (hcal : s.sv.cal = none) : exec (.surveyCal .advance) s = .next
      (s.calNext { slot := k, todo := (List.range 3).filter fun x => (s.slot k).p0.getLsbD x }) :=
  congrArg Host.Outcome.next ((State.withRunning_eq (op := 0x81) hrun hop).trans (if_neg (by simp [hp, hcal])))

/-! ### The end of one converter -/

/-- New factors in force, CALBUSY clear and CALDONE set. -/
def State.calInstalled (s : State) (x : Nat) (l : List Word) : State :=
  ((s.putBit .SVY_STATUS (4 + x) false).putFactors x l).putBit .SVY_STATUS x true

theorem exec_converterCalDone {c : CalRun} {w : List Word} {x : Fin 3} (hcal : s.sv.cal = some c)
    (hx : c.todo.head? = some x.val) : exec (.converterCalDone x { factors := some w }) s = .next
      ((s.calInstalled x w).calNext { c with todo := c.todo.drop 1, done := c.done + 2 ^ x.val }) := by
  refine congrArg Host.Outcome.next ?_
  rw [hcal]
  exact if_pos hx

theorem State.rd_putFactors_og (l : List Word) {k : Nat} (hk : k < 4) :
    (s.putFactors x l).rd (.SVY_CV_SL_OG x k) = l.getD (2 * k) 0#32 := by
  have hcases : k = 0 ∨ k = 1 ∨ k = 2 ∨ k = 3 := by omega
  rcases hcases with rfl | rfl | rfl | rfl <;> simp [State.putFactors, each, List.range_succ]

theorem State.calInstalled_status (l : List Word) (hx : x < 3) : (s.calInstalled x l).calibrating x = false ∧
    (s.calInstalled x l).bit .SVY_STATUS x = true := by
  have hrd : (s.calInstalled x l).rd .SVY_STATUS = wputBit (wputBit (s.rd .SVY_STATUS) (4 + x) false) x true := by
    simp [State.calInstalled, State.rd_putFactors]
  rw [State.calibrating, State.bit, State.bit, hrd]
  exact ⟨by rw [wbit_wputBit_true_other _ (by omega), wbit_wputBit _ _ _ (by omega)], wbit_wputBit _ _ _ (by omega)⟩

theorem State.rd_calInstalled_og (l : List Word) {k : Nat} (hk : k < 4) :
    (s.calInstalled x l).rd (.SVY_CV_SL_OG x k) = l.getD (2 * k) 0#32 := by
  rw [State.calInstalled, State.rd_putBit, if_neg (by simp), State.rd_putFactors_og l hk]

end Sys2Proof.Machine

/-! SUPPORT. The survey converters: each clause assembled from the facts about its command. -/

namespace Sys2Proof.Machine

/-- Settles O13: each clause is the equation of its command, and what the state it leads to shows. -/
theorem converterSurvey : Obligations.ConverterSurvey := by
  unfold Obligations.ConverterSurvey
  refine ⟨?result, ?scanResult, ?scanStart, ?start, ?dataRead, ?ring, ?ringRefused, ?factor, ?factorRefused, ?fire,
    ?commonTrigger, ?calBegins, ?calDone, ?calEnds⟩
  case result =>
    intro r x s hp hc
    have htap : (s.resultTapped x r).rd (.SVY_CV_TAP x r.ch) = r.code.zeroExtend 32 := by
      rw [State.rd_resultTapped r ⟨rfl, by simp, by simp, by simp⟩, if_pos rfl]
    refine ⟨_, exec_conversionResult hp hc, ?_⟩
    have hshown : ∀ t : State, t.rd (.SVY_CV_TAP x r.ch) = r.code.zeroExtend 32 →
        t.fld (.SVY_CV_TAP x r.ch) Fld.SVY_CV_TAP_CODE = r.code.toNat ∧
        t.fld (.SVY_CV_TAP x r.ch) Fld.SVY_CV_TAP_AGE = 0 := fun t ht => by
      rw [State.fld, State.fld, ht]
      exact tapWord_fields r.code
    apply hshown
    split
    · rw [State.rd_scanResult_tap, htap]
    · exact htap
  case scanResult =>
    intro r x s hp hc hscan hhead hnum hen
    obtain ⟨hleft, hscanNo⟩ := s.resultTapped_conv (x := x) r x
    have hoff : (s.resultTapped x r).bit (.SVY_CV_DMA_CFG x) 31 = false := by
      rw [State.bit, State.rd_resultTapped r ⟨rfl, by simp, by simp, by simp⟩, if_neg (by simp)]
      exact wbit_of_getF_zero hen
    refine ⟨_, (exec_conversionResult hp hc).trans (congrArg _ (if_pos (by simp [hscan, hleft, hhead]))), ?_⟩
    obtain ⟨⟨ovr, hdata⟩, htail⟩ := State.scanResult_shows (ch := r.ch) r.code r.encBad hoff
    rw [hscanNo] at hdata
    obtain ⟨hcode, hch, hnew, hscanFld⟩ := dataWord_fields ovr ((s.resultTapped x r).conv x).first r.code r.ch.isLt hnum
    simp only [State.fld, hdata]
    exact ⟨hcode, hch, hnew, hscanFld, by rw [htail, hleft]⟩
  case scanStart =>
    intro x s hp hidle hmode hmask
    refine ⟨_, exec_scanStart hp hidle hmode, ?_⟩
    rw [State.conv_beginScan hmask, if_pos rfl]
    exact ⟨rfl, rfl, rfl⟩
  case start =>
    intro i x s ht hidle hmode hmask
    have hmask' : (s.startWritten x).cvMask x = s.cvMask x := State.cvMask_congr State.rd_startWritten
    rw [exec_start ht, State.wrCvCtl_start hidle hmode]
    refine ⟨_, rfl, ?_⟩
    rw [State.conv_beginScan (by rw [hmask']; exact hmask), if_pos rfl, State.rd_beginScan]
    exact ⟨hmask', rfl, State.rd_startWritten⟩
  case dataRead =>
    intro i x s hs hl hp
    exact ⟨_, exec_dataRead hs hl hp, State.rdata_deliver .., (State.rd_wr ..).trans (if_pos rfl)⟩
  case ring =>
    intro i v x s ht hv hring hen
    rw [exec_dmaEnable ht, State.wrDmaCfg_starts hv hring hen]
    exact ⟨_, rfl, State.ringStarted_shows hv⟩
  case ringRefused =>
    intro i v x s ht hv hring
    rw [exec_dmaEnable ht, State.wrDmaCfg_refused hv hring]
    exact ⟨_, rfl, State.rd_setFlag_svy _ _ (by simp) rfl, State.bit_setFlag _ _ (by decide) (by simp) (by simp)⟩
  case factor =>
    intro i v k b r x s hr ht hmode hcal
    rw [exec_sliceFactorWrite hr ht]
    exact congrArg Host.Outcome.next (if_pos ⟨hmode, hcal⟩)
  case factorRefused =>
    intro i v k b r x s hr ht hbusy
    obtain ⟨hblock, hne⟩ := block_factor hr
    rw [exec_sliceFactorWrite hr ht, State.wrFactor_refused hbusy]
    exact ⟨_, rfl, State.rd_setFlag_other _ _ _ _ _ hne (by simp [hblock]) (by simp [hblock]),
      State.bit_setFlagI _ _ _ _ (by decide) (by simp) (by simp)⟩
  case fire =>
    intro i x l s hl ht hsrc hmode hcal hmask hleft
    have hmask' : s.fireWritten.cvMask x = s.cvMask x := State.cvMask_congr State.rd_fireWritten
    obtain ⟨hscan, hlo, hhi⟩ := State.trigger_samplesAt x.isLt ((State.cvMode_congr State.rd_fireWritten).trans hmode)
      ((State.calibrating_congr State.rd_fireWritten).trans hcal) (by rw [hmask']; exact hmask) (s := s.fireWritten) hleft
    rw [State.samplers_fireWritten, State.fireWritten_sameGrid.triggerDelay, State.fireWritten_sameGrid.stampIn,
      State.samplers_eq, ← hl] at hlo hhi
    rw [exec_fire ht, State.wrTrig_fire hsrc]
    exact ⟨_, rfl, hscan.trans hmask', hlo, hhi⟩
  case commonTrigger =>
    intro x l s hl hp hsrc hperiod hmode hcal hmask hleft
    rw [hl, ← State.samplers_eq]
    exact ⟨_, exec_commonTrigger hp hsrc hperiod, State.trigger_samplesAt x.isLt hmode hcal hmask hleft⟩
  case calBegins =>
    intro k y l s hrun hop hp hcal htodo
    have htodo' : ((List.range 3).filter fun x => (s.slot k).p0.getLsbD x) = y :: l := htodo
    have hy : y < 3 := List.mem_range.mp (List.mem_filter.mp (htodo' ▸ List.mem_cons_self)).1
    obtain ⟨hstatus, hrunning, hleft⟩ := State.calNext_begins (s := s) (q := .SVY_STATUS)
      (r := { slot := k, todo := (List.range 3).filter fun x => (s.slot k).p0.getLsbD x }) htodo'
    refine ⟨_, exec_surveyCal_advance hrun hop hp hcal, ?_, by rw [hrunning]; rfl, hleft⟩
    rw [State.calibrating, State.bit, hstatus, State.rd_putBit, if_pos rfl]
    exact wbit_wputBit _ _ _ (by omega)
  case calDone =>
    intro c w x s hcal hx htail
    obtain ⟨hbusy, hdone⟩ := s.calInstalled_status w x.isLt
    refine ⟨_, exec_converterCalDone hcal hx, ?_, ?_, fun k hk => ?_⟩
    · refine (State.bit_calNext fun y hy => ?_).trans hbusy
      intro heq
      rw [List.drop_one, ← Nat.add_left_cancel heq] at hy
      exact htail hy
    · exact (State.bit_calNext fun y _ => by omega).trans hdone
    · rw [State.rd_calNext _ rfl (by simp), State.rd_calInstalled_og w (List.mem_range.mp hk)]
  case calEnds =>
    intro c k w x s hcal htodo hk
    rw [exec_converterCalDone hcal (by rw [htodo]; rfl), State.calNext_ends (by rw [htodo]; rfl)]
    subst hk
    exact ⟨_, rfl, State.ended_complete .., by rw [State.slot_complete], by rw [State.sv_complete]⟩

end Sys2Proof.Machine

/-!
SUPPORT. The registers of the charger under the operations that its commands share: a change of CHGSTATE (R197), new
settings (R196), host contact (R201), the raise of its faults, and the clearing of its flags.
-/

namespace Sys2Proof.Machine

open Host (Outcome)

variable {s t : State} {q r : Reg}

/-! ### Fields of one bit -/

theorem State.fld_bit_one {b : Nat} : s.fld r ⟨b, b⟩ = 1 ↔ s.bit r b = true := by
  rw [State.fld, getF_bit, State.bit]
  cases wbit (s.rd r) b <;> decide

theorem State.fld_bit_zero {b : Nat} : s.fld r ⟨b, b⟩ = 0 ↔ s.bit r b = false := by
  rw [State.fld, getF_bit, State.bit]
  cases wbit (s.rd r) b <;> decide

theorem State.fld_congr (h : t.rd r = s.rd r) (f : Field) : t.fld r f = s.fld r f := congrArg (getF · f) h

theorem State.bit_congr (h : t.rd r = s.rd r) (b : Nat) : t.bit r b = s.bit r b := congrArg (wbit · b) h

/-! ### A change of the charger's state (R197, R205) -/

/-- What a change of CHGSTATE brings with it - its events, the full anchor at DONE, loops that come to rest - reaches no
register outside MEM, EVT, GAU and LDG. -/
theorem State.rd_setChg {st : Nat} (hst : s.chgSt ≠ st) (hq : q.block ∉ [Block.mem, .evt, .gau, .ldg]) :
    (s.setChg st).rd q = (s.put .BKP_STATUS Fld.BKP_STATUS_CHGSTATE st).rd q := by
  refine Keeps.regs (B := (· ∈ [Block.mem, .evt, .gau, .ldg])) (M := True) ?_ q hq
  have hleft : Keeps (· ∈ [Block.mem, .evt, .gau, .ldg]) True (s.put .BKP_STATUS Fld.BKP_STATUS_CHGSTATE st)
      (if s.chgSt = 5 then (s.put .BKP_STATUS Fld.BKP_STATUS_CHGSTATE st).condFall 81 0 0
        else s.put .BKP_STATUS Fld.BKP_STATUS_CHGSTATE st) := by
    split
    · exact State.condFall_keeps (Keeps.refl _) (by decide) (by decide) trivial
    · exact Keeps.refl _
  have hshown := State.happen_keeps (x1 := 80) (x2 := st) (x3 := 0) hleft (by decide) (by decide) trivial
  unfold State.setChg
  dsimp only
  rw [if_neg hst]
  refine State.chargerLoops_keeps ?_
  split
  · exact State.fullAnchor_keeps (State.condRise_keeps hshown (by decide) (by decide) trivial) (by decide) (by decide)
      (by decide) (by decide) trivial
  · exact hshown

theorem State.setChg_same {st : Nat} (h : s.chgSt = st) : s.setChg st = s := if_pos h

theorem State.chgSt_setChg {st : Nat} (hlt : st < 16) : (s.setChg st).chgSt = st := by
  by_cases hst : s.chgSt = st
  · rw [State.setChg_same hst, hst]
  · rw [State.chgSt, State.fld, State.rd_setChg hst (by decide), State.rd_put, if_pos rfl, getF_putF _ _ _ rfl]
    exact Nat.mod_eq_of_lt hlt

theorem State.rd_setChg_other (st : Nat) (hne : q ≠ .BKP_STATUS) (hq : q.block ∉ [Block.mem, .evt, .gau, .ldg]) :
    (s.setChg st).rd q = s.rd q := by
  by_cases hst : s.chgSt = st
  · rw [State.setChg_same hst]
  · rw [State.rd_setChg hst hq, State.rd_put, if_neg hne]

/-- The bits of BKP_STATUS below CHGSTATE stay. -/
theorem State.bit_setChg (st : Nat) {b : Nat} (hb : b < 12) :
    (s.setChg st).bit .BKP_STATUS b = s.bit .BKP_STATUS b := by
  by_cases hst : s.chgSt = st
  · rw [State.setChg_same hst]
  · rw [State.bit, State.rd_setChg hst (by decide), State.rd_put, if_pos rfl, wbit_putF_other _ _ _ _ rfl (.inl hb),
      State.bit]

/-- A flag of the path leaves the charger's state, and so does a bit of BKP_STATUS below CHGSTATE. -/
theorem State.chgSt_setFlag (b : Nat) : (s.setFlag .BKP_FLAG b).chgSt = s.chgSt :=
  State.fld_congr (State.rd_setFlag _ _ _ (by decide) (by decide) (by decide)) _

theorem State.chgSt_putBit {b : Nat} (v : Bool) (hb : b < 12) : (s.putBit .BKP_STATUS b v).chgSt = s.chgSt := by
  rw [State.chgSt, State.fld, State.rd_putBit, if_pos rfl, getF_wputBit_other _ _ _ _ (by omega) (.inl hb)]
  rfl

theorem State.bit_putBit (r : Reg) {b : Nat} (v : Bool) (hb : b < 32) : (s.putBit r b v).bit r b = v := by
  rw [State.bit, State.rd_putBit, if_pos rfl, wbit_wputBit _ _ _ hb]

/-! ### New settings (R196, R218) -/

/-- New settings act by a change of the charger's state at most: a state that stays is the change to itself. -/
theorem State.chgFollow_setChg (old : State) : ∃ st, old.chgFollow s = s.setChg st := by
  unfold State.chgFollow State.chgStart
  split
  · exact ⟨_, rfl⟩
  · split
    · exact ⟨_, rfl⟩
    · split
      · exact ⟨_, rfl⟩
      · exact ⟨_, (State.setChg_same rfl).symm⟩

theorem State.rd_chgFollow (old : State) (hne : q ≠ .BKP_STATUS) (hq : q.block ∉ [Block.mem, .evt, .gau, .ldg]) :
    (old.chgFollow s).rd q = s.rd q := by
  obtain ⟨st, hst⟩ := State.chgFollow_setChg (s := s) old
  rw [hst, State.rd_setChg_other st hne hq]

theorem State.bit_chgFollow (old : State) {b : Nat} (hb : b < 12) :
    (old.chgFollow s).bit .BKP_STATUS b = s.bit .BKP_STATUS b := by
  obtain ⟨st, hst⟩ := State.chgFollow_setChg (s := s) old
  rw [hst, State.bit_setChg st hb]

/-- Whether settings are legal is a matter of BKP_BATCFG and BKP_CHG alone. -/
theorem State.chgLegal_congr (hb : t.rd .BKP_BATCFG = s.rd .BKP_BATCFG) (hc : t.rd .BKP_CHG = s.rd .BKP_CHG) :
    t.chgLegal = s.chgLegal := by
  unfold State.chgLegal State.cvTarget
  rw [State.fld_congr hb Fld.BKP_BATCFG_NCELL, State.fld_congr hb Fld.BKP_BATCFG_CHEM,
    State.fld_congr hc Fld.BKP_CHG_ICHG, State.fld_congr hc Fld.BKP_CHG_VCELL]

theorem State.rd_gauPack (hq : q.block ≠ .gau) : s.gauPack.rd q = s.rd q :=
  Keeps.regs (B := (· = .gau)) (M := True) (State.gauPack_keeps (Keeps.refl s) rfl) q hq

theorem State.rd_gauFreeze (hq : q.block = .bkp) : s.gauFreeze.rd q = s.rd q :=
  Keeps.regs (B := (· ≠ .bkp)) (M := True) (by apply State.gauFreeze_keeps (Keeps.refl s) <;> decide) q (by simp [hq])

/-- The event and the gauge's answer of a pack that is back reach no register of BKP (R198, R217). -/
theorem State.rd_gauResume_happen (f info code : Nat) (hq : q.block = .bkp) :
    (s.happen f info code).gauResume.rd q = s.rd q :=
  Keeps.regs (B := (· ≠ .bkp)) (M := True) (State.gauResume_keeps
    (by apply State.happen_keeps (Keeps.refl s) <;> decide) (by decide)) q (by simp [hq])

/-! ### Host contact (R201) -/

variable {i : Iface}

theorem State.rd_contact (i : Iface) (hq : q ≠ .BKP_WDT) : (s.contact i).rd q = s.rd q := by
  cases i <;> simp [State.contact, hq]

theorem State.contact_host (h : hostIface i = true) : s.contact i =
    s.put .BKP_WDT Fld.BKP_WDT_REMAIN (10 * (s.fld .BKP_WDT Fld.BKP_WDT_PERIOD + 1)) := by
  cases i with
  | twoWire => rfl
  | lookout => rfl
  | line => rfl
  | _ => cases h

/-! ### The raise of a fault (R239, R248) -/

theorem State.rd_raise_bkp (f cause : Nat) (hq : q.block = .bkp) : (s.raise f cause).rd q = s.rd q :=
  Keeps.regs (B := (· ≠ .bkp)) (M := True) (by apply State.raise_keeps (Keeps.refl s) <;> decide) q (by simp [hq])

/-- The reactions of a class reach no register of the signal box. -/
theorem State.rd_react_flt (f cls : Nat) (hq : q.block = .flt) : (s.react f cls).rd q = s.rd q :=
  Keeps.regs (B := (· ≠ .flt)) (M := True) (by apply State.react_keeps (Keeps.refl s) <;> decide) q (by simp [hq])

/-- The raise of a source that is not latched captures its cause. -/
theorem State.fltCause_raise {f cause : Nat} (hl : s.latched f = false) (hc : cause < 16) :
    (s.raise f cause).fltCause f = cause := by
  have hmarks : (s.raiseMarks f cause).rd (.FLT_CAUSE (f / 8)) =
      putF (s.rd (.FLT_CAUSE (f / 8))) (causeField f) cause := by
    simp [State.raiseMarks, State.countFault, State.addSat]
  have hok : (causeField f).ok = true := by
    rw [Field.ok, Bool.and_eq_true]
    exact ⟨decide_eq_true (Nat.le_add_right _ _), decide_eq_true (show 4 * (f % 8) + 3 < 32 by omega)⟩
  have hwidth : (causeField f).width = 4 := by
    simp only [Field.width, causeField]
    omega
  rw [State.raise_eq, if_neg (by simp [hl]), State.fltCause, State.fld,
    State.rd_raiseReports f cause (by simp) (by simp) (by simp) (by simp), State.rd_react_flt _ _ rfl, hmarks,
    getF_putF _ _ _ hok, hwidth]
  exact Nat.mod_eq_of_lt hc

/-- A charger that goes to FAULT shows it with its flag, and its source is latched (R197, Table 07.7). -/
def State.chgFails (s : State) (flag f cause : Nat) : State := ((s.setChg 7).setFlag .BKP_FLAG flag).raise f cause

theorem State.chgFails_shows {flag : Nat} (f cause : Nat) (hflag : flag < 32) : (s.chgFails flag f cause).chgSt = 7 ∧
    (s.chgFails flag f cause).bit .BKP_FLAG flag = true ∧ (s.chgFails flag f cause).latched f = true := by
  refine ⟨?_, ?_, State.latched_raise f cause⟩
  · refine (State.fld_congr (State.rd_raise_bkp f cause (by decide)) _).trans ?_
    exact (State.chgSt_setFlag flag).trans (State.chgSt_setChg (by decide))
  · refine (State.bit_congr (State.rd_raise_bkp f cause (by decide)) flag).trans ?_
    exact State.bit_setFlag _ _ hflag (by decide) (by decide)

theorem State.fltCause_chgFails {flag f cause : Nat} (hl : s.latched f = false) (hc : cause < 16) :
    (s.chgFails flag f cause).fltCause f = cause := by
  refine State.fltCause_raise ?_ hc
  refine (State.bit_congr ?_ _).trans hl
  rw [State.rd_setFlag _ _ _ (by simp) (by simp) (by simp), State.rd_setChg_other _ (by simp) (by simp)]

/-! ### Writes of the settings (R196, R202) -/

variable {v : Word}

/-- The legality of a write is judged on the registers as the interface found them: contact changes BKP_WDT alone. -/
theorem State.chgLegal_contact (i : Iface) (hr : r = .BKP_BATCFG ∨ r = .BKP_CHG) :
    ((s.contact i).writeRw r v).chgLegal = (s.writeRw r v).chgLegal := by
  have hrd : ∀ q : Reg, q ≠ .BKP_WDT → ((s.contact i).writeRw r v).rd q = (s.writeRw r v).rd q := fun q hq => by
    have hne : r ≠ .BKP_WDT := by rcases hr with rfl | rfl <;> decide
    rw [State.rd_writeRw, State.rd_writeRw, State.rd_contact i hq, State.rd_contact i hne]
  exact State.chgLegal_congr (hrd _ (by decide)) (hrd _ (by decide))

theorem exec_bkpBatcfgWrite (h : s.takes .BKP_BATCFG = true) :
    exec (.bkpBatcfgWrite i v 0xF#4) s = .next ((s.contact i).wrBatcfg v) :=
  congrArg Outcome.next ((State.guardWrite_takes h).trans (congrArg (s.contact i).wrBatcfg (State.merged_whole ..)))

/-- A write of BKP_BATCFG with a VCUT in its range and the present CHEM is stored whole or refused whole. -/
theorem State.wrBatcfg_eq (hlo : 2000 ≤ getF v Fld.BKP_BATCFG_VCUT) (hhi : getF v Fld.BKP_BATCFG_VCUT ≤ 3500)
    (hchem : getF v Fld.BKP_BATCFG_CHEM = s.fld .BKP_BATCFG Fld.BKP_BATCFG_CHEM) : s.wrBatcfg v =
      if (s.writeRw .BKP_BATCFG v).chgLegal then (s.chgFollow (s.writeRw .BKP_BATCFG v)).gauPack
      else s.setFlag .BKP_FLAG 9 := by
  simp [State.wrBatcfg, inRange, hlo, hhi, hchem]

theorem exec_bkpChgWrite (h : s.takes .BKP_CHG = true) :
    exec (.bkpChgWrite i v 0xF#4) s = .next ((s.contact i).wrChg i v) :=
  congrArg Outcome.next ((State.guardWrite_takes h).trans (congrArg ((s.contact i).wrChg i) (State.merged_whole ..)))

/-- A host write ends WDEXP (R202). -/
def State.expiryMet (s : State) (i : Iface) : State := if hostIface i then s.putBit .BKP_STATUS 6 false else s

theorem State.wrChg_eq : s.wrChg i v =
    if ((s.expiryMet i).writeRw .BKP_CHG v).chgLegal then (s.expiryMet i).chgFollow ((s.expiryMet i).writeRw .BKP_CHG v)
    else (s.expiryMet i).setFlag .BKP_FLAG 9 := rfl

theorem State.rd_expiryMet (i : Iface) (hq : q ≠ .BKP_STATUS) : (s.expiryMet i).rd q = s.rd q := by
  unfold State.expiryMet
  split
  · rw [State.rd_putBit, if_neg hq]
  · rfl

theorem State.chgLegal_expiryMet (i : Iface) : ((s.expiryMet i).writeRw .BKP_CHG v).chgLegal =
    (s.writeRw .BKP_CHG v).chgLegal :=
  State.chgLegal_congr (by simp [State.rd_expiryMet]) (by simp [State.rd_expiryMet])

/-! ### The charger watchdog (R201) -/

/-- ICHG, VCELL and TERM as an expiry sets them. -/
def safeWord (w : Word) (chem : Nat) : Word :=
  putF (putF (putF w Fld.BKP_CHG_ICHG 50) Fld.BKP_CHG_VCELL (cellRange chem).1) Fld.BKP_CHG_TERM 1

theorem safeWord_fields (w : Word) (chem : Nat) : getF (safeWord w chem) Fld.BKP_CHG_ICHG = 50 ∧
    getF (safeWord w chem) Fld.BKP_CHG_TERM = 1 ∧
    getF (safeWord w chem) Fld.BKP_CHG_VCELL = if chem = 0 then 4000 else 3200 := by
  unfold safeWord
  refine ⟨?_, getF_putF _ _ _ rfl, ?_⟩
  · rw [getF_putF_other _ _ _ _ rfl (by decide), getF_putF_other _ _ _ _ rfl (by decide), getF_putF _ _ _ rfl]
    rfl
  · rw [getF_putF_other _ _ _ _ rfl (by decide), getF_putF _ _ _ rfl, cellRange]
    split <;> rfl

/-- The count has reached zero. -/
def State.wdtRunOut (s : State) : State := s.put .BKP_WDT Fld.BKP_WDT_REMAIN 0

/-- The safe settings stand in BKP_CHG. -/
def State.safeApplied (s : State) : State :=
  s.wr .BKP_CHG (safeWord (s.rd .BKP_CHG) (s.fld .BKP_BATCFG Fld.BKP_BATCFG_CHEM))

/-- An expiry: the safe settings act, and it is shown and flagged. -/
def State.chgExpired (s : State) : State :=
  ((s.wdtRunOut.chgFollow s.wdtRunOut.safeApplied).putBit .BKP_STATUS 6 true).setFlag .BKP_FLAG 6

theorem exec_chgWdog (hen : s.fld .BKP_CHG Fld.BKP_CHG_EN = 1) (hrun : s.fld .BKP_WDT Fld.BKP_WDT_REMAIN ≠ 0) :
    exec .chgWdog s = .next s.chgExpired :=
  congrArg Outcome.next (if_pos (by simp [State.fld_bit_one.mp hen, hrun]))

theorem State.rd_chgExpired (hst : q ≠ .BKP_STATUS) (hflag : q ≠ .BKP_FLAG)
    (hq : q.block ∉ [Block.mem, .evt, .gau, .ldg]) : s.chgExpired.rd q = s.wdtRunOut.safeApplied.rd q := by
  have hm : q.block ≠ .mem := fun h => hq (by simp [h])
  have he : q.block ≠ .evt := fun h => hq (by simp [h])
  rw [State.chgExpired, State.rd_setFlag _ _ _ hflag hm he, State.rd_putBit, if_neg hst, State.rd_chgFollow _ hst hq]

/-! ### Writes of BKP_WDT, BKP_PATH, BKP_QUAL and BKP_FLAG (R201, R204, R7) -/

theorem exec_kick (h : s.takes .BKP_WDT = true) :
    exec (.kick i v 0xF#4) s = .next ((s.writeRw .BKP_WDT v).contact i) :=
  congrArg Outcome.next ((State.guardWrite_takes h).trans
    (congrArg (fun w => (s.writeRw .BKP_WDT w).contact i) (State.merged_whole ..)))

theorem exec_bkpPathWrite (h : s.takes .BKP_PATH = true) :
    exec (.bkpPathWrite i v 0xF#4) s = .next ((s.contact i).wrPath v) :=
  congrArg Outcome.next ((State.guardWrite_takes h).trans (congrArg (s.contact i).wrPath (State.merged_whole ..)))

theorem exec_bkpQualWrite (h : s.takes .BKP_QUAL = true) :
    exec (.bkpQualWrite i v 0xF#4) s = .next ((s.contact i).wrQual v) :=
  congrArg Outcome.next ((State.guardWrite_takes h).trans (congrArg (s.contact i).wrQual (State.merged_whole ..)))

theorem and_byteMask_whole (v : Word) : v &&& byteMask 0xF#4 = v := by
  have hmask : byteMask 0xF#4 = BitVec.allOnes 32 := by decide
  simp [hmask, -BitVec.reduceAllOnes]

theorem exec_bkpFlagWrite (h : s.takes .BKP_FLAG = true) :
    exec (.bkpFlagWrite i v 0xF#4) s = .next ((s.contact i).wrBkpFlag v) :=
  congrArg Outcome.next ((State.guardWrite_takes h).trans (congrArg (s.contact i).wrBkpFlag (and_byteMask_whole v)))

/-- The flags of BKP_FLAG that are written 1 are cleared. -/
def State.bkpFlagsCleared (s : State) (w : Word) : State := s.clearFlags .BKP_FLAG (w &&& 0x3FF#32)

theorem State.bit_bkpFlagsCleared {b : Nat} (hb : b < 10) (hv : wbit v b = true) :
    (s.bkpFlagsCleared v).bit .BKP_FLAG b = false := by
  have hmask : ∀ b < 10, (0x3FF#32).getLsbD b = true := by decide
  have hw : wbit (v &&& 0x3FF#32) b = true := by
    rw [wbit] at hv ⊢
    rw [BitVec.getLsbD_and, hv, hmask b hb, Bool.and_self]
  rw [State.bkpFlagsCleared, State.bit_clearFlags _ _ _ (by decide) (by decide), hw, Bool.not_true, Bool.and_false]

theorem State.rd_bkpFlagsCleared (w : Word) (hne : q ≠ .BKP_FLAG) (hm : q.block ≠ .mem) (he : q.block ≠ .evt) :
    (s.bkpFlagsCleared w).rd q = s.rd q := State.rd_clearFlags_other _ _ hne hm he

/-- TIMER and OV cleared behind their sources let the charger check again; the flags stand as cleared either way. -/
theorem State.bit_wrBkpFlag (w : Word) (b : Nat) :
    (s.wrBkpFlag w).bit .BKP_FLAG b = (s.bkpFlagsCleared w).bit .BKP_FLAG b := by
  unfold State.wrBkpFlag
  dsimp only
  split
  · exact State.bit_congr (State.rd_setChg_other _ (by decide) (by decide)) b
  · rfl

theorem State.wrBkpFlag_leaves (hst : s.chgSt = 7) (h2 : wbit v 2 = true) (h3 : wbit v 3 = true)
    (hov : s.latched 231 = false) (htimer : s.latched 232 = false) :
    s.wrBkpFlag v = (s.bkpFlagsCleared v).setChg 1 := by
  refine if_pos ⟨?_, by simp [h2], State.bit_bkpFlagsCleared (by decide) h2, State.bit_bkpFlagsCleared (by decide) h3,
    ?_, ?_⟩
  · exact (State.fld_congr (State.rd_bkpFlagsCleared v (by decide) (by decide) (by decide)) _).trans hst
  · exact (State.bit_congr (State.rd_bkpFlagsCleared v (by simp) (by simp) (by simp)) _).trans hov
  · exact (State.bit_congr (State.rd_bkpFlagsCleared v (by simp) (by simp) (by simp)) _).trans htimer

/-- Settles O15: each clause is the equation of its command, and what the state it leads to shows. -/
theorem charger : Obligations.Charger := by
  unfold Obligations.Charger
  refine ⟨?checkEnd, ?preEnd, ?cvEntry, ?done, ?recharge, ?tempOut, ?tempBack, ?absent, ?present, ?timer, ?ov, ?expiry,
    ?kick, ?batcfg, ?batcfgRefused, ?chg, ?chgRefused, ?path, ?qual, ?flag, ?leaves⟩
  case checkEnd =>
    intro v s hworks hst
    refine ⟨_, congrArg Outcome.next (if_pos ⟨hworks, hst⟩), ?_⟩
    dsimp only
    split
    · exact State.chgSt_setChg (by decide)
    · split
      · exact State.chgSt_setChg (by decide)
      · exact State.chgSt_setChg (by decide)
  case preEnd =>
    intro s hworks hst
    exact ⟨_, congrArg Outcome.next (if_pos ⟨hworks, hst⟩), State.chgSt_setChg (by decide)⟩
  case cvEntry =>
    intro s hworks hst
    exact ⟨_, congrArg Outcome.next (if_pos ⟨hworks, hst⟩), State.chgSt_setChg (by decide)⟩
  case done =>
    intro s hworks hst hterm
    exact ⟨_, congrArg Outcome.next (if_pos ⟨hworks, hst, State.fld_bit_one.mp hterm⟩), State.chgSt_setChg (by decide)⟩
  case recharge =>
    intro s hworks hst
    exact ⟨_, congrArg Outcome.next (if_pos ⟨hworks, hst⟩), State.chgSt_setChg (by decide)⟩
  case tempOut =>
    intro s hworks hlo hhi
    exact ⟨_, congrArg Outcome.next (if_pos ⟨hworks, hlo, hhi⟩), State.chgSt_setChg (by decide)⟩
  case tempBack =>
    intro s hworks hst
    exact ⟨_, congrArg Outcome.next (if_pos ⟨hworks, hst⟩), State.chgSt_setChg (by decide)⟩
  case absent =>
    intro s hworks hoff hthere
    refine ⟨_, congrArg Outcome.next (if_pos ⟨hworks, hoff, hthere⟩), ?_, ?_, ?_⟩
    · refine (State.fld_congr (State.rd_gauFreeze (by decide)) _).trans ?_
      exact (State.chgSt_setFlag 5).trans ((State.chgSt_putBit true (by decide)).trans (State.chgSt_setChg (by decide)))
    · refine (State.fld_congr (State.rd_gauFreeze (by decide)) _).trans ?_
      refine (State.fld_congr (State.rd_setFlag _ _ _ (by decide) (by decide) (by decide)) _).trans ?_
      exact State.fld_bit_one.mpr (State.bit_putBit _ _ (by decide))
    · refine (State.bit_congr (State.rd_gauFreeze (by decide)) _).trans ?_
      exact State.bit_setFlag _ _ (by decide) (by decide) (by decide)
  case present =>
    intro s hworks habsent hst
    have hback : ((s.putBit .BKP_STATUS 8 false).happen 84 0 0).gauResume.chgSt = 8 :=
      (State.fld_congr (State.rd_gauResume_happen 84 0 0 (by decide)) _).trans
        ((State.chgSt_putBit _ (by decide)).trans hst)
    refine ⟨_, congrArg Outcome.next ((if_pos (by simp [hworks, State.fld_bit_one.mp habsent])).trans (if_pos hback)),
      State.chgSt_setChg (by decide), State.fld_bit_zero.mpr ?_⟩
    rw [State.bit_setChg 1 (by decide), State.bit_congr (State.rd_gauResume_happen 84 0 0 (by decide))]
    exact State.bit_putBit _ _ (by decide)
  case timer =>
    intro s hworks hcharging
    obtain ⟨hst, hflag, hlatched⟩ := s.chgFails_shows (flag := 3) 232 (if s.chgSt = 2 then 0 else 1) (by decide)
    exact ⟨_, congrArg Outcome.next (if_pos (by simp [hworks, hcharging])), hst, hflag, hlatched,
      fun hclear => State.fltCause_chgFails hclear (by split <;> decide)⟩
  case ov =>
    intro s hworks hcharging hcomp
    exact ⟨_, congrArg Outcome.next (if_pos (by simp [hworks, hcharging, hcomp])),
      s.chgFails_shows (flag := 2) 231 0 (by decide)⟩
  case expiry =>
    intro s hen hrun
    have hchg : s.chgExpired.rd .BKP_CHG = safeWord (s.rd .BKP_CHG) (s.fld .BKP_BATCFG Fld.BKP_BATCFG_CHEM) :=
      (State.rd_chgExpired (by decide) (by decide) (by decide)).trans
        (by simp [State.safeApplied, State.wdtRunOut, State.fld])
    have hwdt : s.chgExpired.rd .BKP_WDT = putF (s.rd .BKP_WDT) Fld.BKP_WDT_REMAIN 0 :=
      (State.rd_chgExpired (by decide) (by decide) (by decide)).trans (by simp [State.safeApplied, State.wdtRunOut])
    obtain ⟨hichg, hterm, hvcell⟩ := safeWord_fields (s.rd .BKP_CHG) (s.fld .BKP_BATCFG Fld.BKP_BATCFG_CHEM)
    refine ⟨_, exec_chgWdog hen hrun, ?_, ?_, ?_, ?_, State.fld_bit_one.mpr ?_,
      State.bit_setFlag _ _ (by decide) (by decide) (by decide)⟩
    · rw [State.fld, hwdt, getF_putF _ _ _ rfl]
      rfl
    · rw [State.fld, hchg, hichg]
    · rw [State.fld, hchg, hterm]
    · rw [State.fld, hchg, hvcell]
    · refine (State.bit_congr (State.rd_setFlag _ _ _ (by decide) (by decide) (by decide)) _).trans ?_
      exact State.bit_putBit _ _ (by decide)
  case kick =>
    intro i v s ht hhost
    have hperiod : (s.writeRw .BKP_WDT v).fld .BKP_WDT Fld.BKP_WDT_PERIOD = getF v Fld.BKP_WDT_PERIOD := by
      rw [State.fld, State.rd_writeRw, if_pos rfl]
      exact getF_masked _ _ _ _ (by decide)
    have hlt : getF v Fld.BKP_WDT_PERIOD < 2 ^ 4 := getF_lt v Fld.BKP_WDT_PERIOD
    rw [exec_kick ht, State.contact_host hhost, hperiod]
    refine ⟨_, rfl, ?_, ?_⟩
    · rw [State.fld, State.rd_put, if_pos rfl, getF_putF_other _ _ _ _ rfl (by decide)]
      exact hperiod
    · rw [State.fld, State.rd_put, if_pos rfl, getF_putF _ _ _ rfl]
      exact Nat.mod_eq_of_lt (show _ < 2 ^ 8 by omega)
  case batcfg =>
    intro i v s ht hlo hhi hchem hlegal
    have hchem' := hchem.trans (State.fld_congr (State.rd_contact i (by decide)) _).symm
    rw [exec_bkpBatcfgWrite ht, State.wrBatcfg_eq hlo hhi hchem', State.chgLegal_contact i (.inl rfl), if_pos hlegal]
    refine ⟨_, rfl, ?_⟩
    rw [State.rd_gauPack (by decide), State.rd_chgFollow _ (by decide) (by decide), State.rd_writeRw, if_pos rfl,
      State.rd_contact i (by decide)]
  case batcfgRefused =>
    intro i v s ht hlo hhi hchem hlegal
    have hchem' := hchem.trans (State.fld_congr (State.rd_contact i (by decide)) _).symm
    rw [exec_bkpBatcfgWrite ht, State.wrBatcfg_eq hlo hhi hchem', State.chgLegal_contact i (.inl rfl),
      if_neg (by simp [hlegal])]
    refine ⟨_, rfl, ?_, State.bit_setFlag _ _ (by decide) (by decide) (by decide)⟩
    rw [State.rd_setFlag _ _ _ (by decide) (by decide) (by decide), State.rd_contact i (by decide)]
  case chg =>
    intro i v s ht hlegal
    rw [exec_bkpChgWrite ht, State.wrChg_eq, State.chgLegal_expiryMet, State.chgLegal_contact i (.inr rfl),
      if_pos hlegal]
    refine ⟨_, rfl, ?_, fun hhost => State.fld_bit_zero.mpr ?_⟩
    · rw [State.rd_chgFollow _ (by decide) (by decide), State.rd_writeRw, if_pos rfl, State.rd_expiryMet i (by decide),
        State.rd_contact i (by decide)]
    · rw [State.bit_chgFollow _ (by decide), State.bit, State.rd_writeRw, if_neg (by decide), State.expiryMet,
        if_pos hhost]
      exact State.bit_putBit _ _ (by decide)
  case chgRefused =>
    intro i v s ht hlegal
    rw [exec_bkpChgWrite ht, State.wrChg_eq, State.chgLegal_expiryMet, State.chgLegal_contact i (.inr rfl),
      if_neg (by simp [hlegal])]
    refine ⟨_, rfl, ?_, State.bit_setFlag _ _ (by decide) (by decide) (by decide)⟩
    rw [State.rd_setFlag _ _ _ (by decide) (by decide) (by decide), State.rd_expiryMet i (by decide),
      State.rd_contact i (by decide)]
  case path =>
    intro i v s ht
    exact exec_bkpPathWrite ht
  case qual =>
    intro i v s ht
    rw [exec_bkpQualWrite ht]
    simp [State.wrQual, inRange, and_assoc]
  case flag =>
    intro b i v s ht hb hv
    exact ⟨_, exec_bkpFlagWrite ht, (State.bit_wrBkpFlag v b).trans (State.bit_bkpFlagsCleared hb hv)⟩
  case leaves =>
    intro i v s ht hst h2 h3 hov htimer
    have hcontact : ∀ q : Reg, q ≠ .BKP_WDT → (s.contact i).rd q = s.rd q := fun q hq => State.rd_contact i hq
    rw [exec_bkpFlagWrite ht, State.wrBkpFlag_leaves ((State.fld_congr (hcontact _ (by decide)) _).trans hst) h2 h3
      ((State.bit_congr (hcontact _ (by simp)) _).trans hov) ((State.bit_congr (hcontact _ (by simp)) _).trans htimer)]
    exact ⟨_, rfl, State.chgSt_setChg (by decide)⟩

end Sys2Proof.Machine

/-!
SUPPORT. The end of a hand-back while the charger cannot work: the path reaches SOURCE, and the charger stays OFF (R12).
-/

namespace Sys2Proof.Machine

/-- The path is HANDBACK with a pack of four cells and EN = 1, and only AON is up. A watchdog reset in HANDBACK leaves
these registers so, since those of BKP live in AON (R345). -/
def handbackOnAon : State :=
  ((State.reset.put .BKP_STATUS Fld.BKP_STATUS_PATH 5).putBit .BKP_CHG 31 true).put .BKP_BATCFG Fld.BKP_BATCFG_NCELL 4

theorem handbackOnAon_ready : handbackOnAon.path = 5 ∧ handbackOnAon.chgSt = 0 ∧ handbackOnAon.bit .BKP_CHG 31 = true ∧
    handbackOnAon.packThere = true := by decide

/-- With CHG, ENG and ADC unpowered the charger does not start. -/
theorem handbackOnAon_stays : ((handbackOnAon.setPath 1).happen 77 0 0).chgStart.chgSt = 0 := by decide

/-- Refutes O14 in its eighth clause, which asks for CHECK of a charger that has no power: the hand-back of
`handbackOnAon` ends with CHGSTATE OFF. -/
theorem not_backupPath : ¬ Obligations.BackupPath := by
  unfold Obligations.BackupPath
  intro h
  obtain ⟨-, -, -, -, -, -, -, hend, -⟩ := h
  obtain ⟨hpath, hidle⟩ := handbackOnAon_ready
  obtain ⟨t, hexec, -, hchecks⟩ := hend handbackOnAon hpath
  have hrun : exec .pathHandback handbackOnAon = .next ((handbackOnAon.setPath 1).happen 77 0 0).chgStart :=
    congrArg Host.Outcome.next (if_pos hpath)
  cases hrun.symm.trans hexec
  exact absurd (handbackOnAon_stays.symm.trans (hchecks hidle)) (by decide)

end Sys2Proof.Machine

/-!
SUPPORT. The gauge: what its shared operations - the display, a record, a new QUSE - leave of the count and of the
registers (R212, R214, R218, R220).
-/

namespace Sys2Proof.Machine

variable {s t : State} {q : Reg}

/-! ### The gauge beside its registers -/

theorem EventsOnly.ga (h : EventsOnly s t) : t.ga = s.ga := by
  obtain ⟨regs, mem, ev, me, rfl⟩ := h
  rfl

@[simp] theorem State.ga_setFlag (r : Reg) (b : Nat) : (s.setFlag r b).ga = s.ga := (State.setFlagI_eventsOnly ..).ga

@[simp] theorem State.ga_logRec (kind len : Nat) (stamp : Stamp) (l : List Word) :
    (s.logRec kind len stamp l).ga = s.ga := by
  unfold State.logRec
  split
  · exact State.ga_setFlag ..
  · rfl

@[simp] theorem State.ga_gaugeRecord (reason : Nat) : (s.gaugeRecord reason).ga = s.ga :=
  (State.ga_logRec ..).trans (State.ga_logRec ..)

@[simp] theorem State.ga_gauShow : s.gauShow.ga = s.ga := by
  unfold State.gauShow
  split <;> rfl

/-! ### Registers under the display and a new QUSE -/

theorem State.rd_gauShow (hq : q ≠ .GAU_SOC) : s.gauShow.rd q = s.rd q := by
  unfold State.gauShow
  split <;> simp [hq]

/-- A record of the gauge reaches registers of MEM, EVT and LDG alone. -/
theorem State.rd_gaugeRecord (reason : Nat) (hq : q.block ∉ [Block.mem, .evt, .ldg]) :
    (s.gaugeRecord reason).rd q = s.rd q :=
  Keeps.regs (B := (· ∈ [Block.mem, .evt, .ldg])) (M := True)
    (by apply State.gaugeRecord_keeps (Keeps.refl s) <;> decide) q hq

theorem State.ga_recomputeQuse : s.recomputeQuse.ga = { s.ga with quse := s.usable } := by
  rw [State.recomputeQuse, State.ga_gauShow]
  split <;> rfl

theorem State.rd_recomputeQuse (hsoc : q ≠ .GAU_SOC) (hst : q ≠ .GAU_STATUS) : s.recomputeQuse.rd q =
    if q = .GAU_QUSE then BitVec.ofInt 32 (roundNear (s.usable / 1000)) else s.rd q := by
  rw [State.recomputeQuse, State.rd_gauShow hsoc]
  split
  · exact State.rd_wr ..
  · rw [State.rd_put, if_neg hst]
    exact State.rd_wr ..

/-- The usable charge is a matter of GAU_DESIGN, GAU_CYCLES and GAU_CFG alone. -/
theorem State.usable_congr (hd : t.rd .GAU_DESIGN = s.rd .GAU_DESIGN) (hc : t.rd .GAU_CYCLES = s.rd .GAU_CYCLES)
    (hg : t.rd .GAU_CFG = s.rd .GAU_CFG) : t.usable = s.usable := by
  unfold State.usable State.fld
  rw [hd, hc, hg]

theorem State.usable_recomputeQuse : s.recomputeQuse.usable = s.usable := by
  apply State.usable_congr <;> rw [State.rd_recomputeQuse (by decide) (by decide)] <;> rfl

end Sys2Proof.Machine

/-!
SUPPORT. Writes of GAU_CYCLES (R213) and of GAU_CTL (R221).
-/

namespace Sys2Proof.Machine

open Host (Outcome)

variable {s : State} {q : Reg} {i : Iface} {v w : Word} {be : BitVec 4}

theorem exec_gauCyclesWrite (h : s.takes .GAU_CYCLES = true) :
    exec (.gauCyclesWrite i v be) s = .next (s.wrCycles (s.merged .GAU_CYCLES v be)) :=
  congrArg Outcome.next (State.guardWrite_takes h)

theorem exec_newpack (h : s.takes .GAU_CTL = true) : exec (.newpack i v be) s =
    .next (if Reg.sent .GAU_CTL be then s.wrGauCtl (v &&& byteMask be) else s) :=
  congrArg Outcome.next (State.guardWrite_takes h)

/-- The byte that holds NEWPACK is one that acts. -/
theorem sent_gauCtl (h : wbit (v &&& byteMask be) 31 = true) : Reg.sent .GAU_CTL be = true := by
  have hacts : ∀ be : BitVec 4, (byteMask be).getLsbD 31 = true → Reg.sent .GAU_CTL be = true := by decide
  rw [wbit, BitVec.getLsbD_and, Bool.and_eq_true] at h
  exact hacts be h.2

theorem State.wrGauCtl_otherKey (h : getF w Fld.GAU_CTL_KEY ≠ 0xA5) : s.wrGauCtl w = s := if_neg (by simp [h])

/-- A new pack starts with no counts and no valid anchor. -/
def State.packCleared (s : State) : State :=
  let s1 := ((s.wr .GAU_CYCLES 0#32).wr .GAU_THRU 0#32).putBit .GAU_STATUS 4 false
  ({ s1 with ga := { s1.ga with thru := 0 } } : State).putBit .GAU_STATUS 5 false

/-- One that is present is counted from NOANCHOR on. -/
def State.packRenewed (s : State) : State :=
  if s.packCleared.packThere then s.packCleared.put .GAU_STATUS Fld.GAU_STATUS_STATE 1 else s.packCleared

theorem State.wrGauCtl_newpack (hnew : wbit w 31 = true) (hkey : getF w Fld.GAU_CTL_KEY = 0xA5) :
    s.wrGauCtl w = (s.packRenewed.setFlag .GAU_FLAG 6).gauShow := if_pos (by simp [hnew, hkey])

theorem State.rd_packCleared : s.packCleared.rd q =
    if q = .GAU_STATUS then wputBit (wputBit (s.rd .GAU_STATUS) 4 false) 5 false
    else if q = .GAU_THRU then 0#32 else if q = .GAU_CYCLES then 0#32 else s.rd q := by
  have hregs : s.packCleared.rd q = ((((s.wr .GAU_CYCLES 0#32).wr .GAU_THRU 0#32).putBit .GAU_STATUS 4 false).putBit
    .GAU_STATUS 5 false).rd q := rfl
  rw [hregs]
  by_cases hq : q = .GAU_STATUS <;> simp [hq]

theorem State.packThere_packCleared : s.packCleared.packThere = s.packThere := by
  simp [State.packThere, State.fld, State.bit, State.rd_packCleared]

theorem State.rd_packRenewed (hq : q ≠ .GAU_STATUS) : s.packRenewed.rd q = s.packCleared.rd q := by
  unfold State.packRenewed
  split
  · rw [State.rd_put, if_neg hq]
  · rfl

/-- STATE stands below the signs of the anchors. -/
theorem State.bit_packRenewed {b : Nat} (hb : 2 < b) :
    s.packRenewed.bit .GAU_STATUS b = s.packCleared.bit .GAU_STATUS b := by
  unfold State.packRenewed
  split
  · rw [State.bit, State.rd_put, if_pos rfl, wbit_putF_other _ _ _ _ rfl (.inr hb), State.bit]
  · rfl

theorem State.packCleared_anchors : s.packCleared.bit .GAU_STATUS 4 = false ∧
    s.packCleared.bit .GAU_STATUS 5 = false := by
  simp [State.bit, State.rd_packCleared, wbit_wputBit_other]

theorem State.gauSt_packRenewed (h : s.packThere = true) : s.packRenewed.gauSt = 1 := by
  rw [State.packRenewed, if_pos (State.packThere_packCleared.trans h), State.gauSt, State.fld, State.rd_put, if_pos rfl,
    getF_putF _ _ _ rfl]
  rfl

/-- Settles O56: each clause is the equation of its write, and what the state it leads to shows. -/
theorem gaugeWrites : Obligations.GaugeWrites := by
  unfold Obligations.GaugeWrites
  refine ⟨?cycles, ?cyclesRefused, ?newpack, ?otherKey⟩
  case cycles =>
    intro i v be s ht hst
    exact (exec_gauCyclesWrite ht).trans (congrArg Outcome.next (if_pos hst))
  case cyclesRefused =>
    intro i v be s ht hst
    exact ⟨_, (exec_gauCyclesWrite ht).trans (congrArg Outcome.next (if_neg hst)),
      State.rd_setFlag _ _ _ (by decide) (by decide) (by decide),
      State.bit_setFlag _ _ (by decide) (by decide) (by decide)⟩
  case newpack =>
    intro i v be s ht hnew hkey
    have hshown : ∀ q : Reg, q ≠ .GAU_SOC → q ≠ .GAU_FLAG → q.block = .gau →
        (s.packRenewed.setFlag .GAU_FLAG 6).gauShow.rd q = s.packRenewed.rd q := fun q hsoc hflag hgau => by
      rw [State.rd_gauShow hsoc, State.rd_setFlag _ _ _ hflag (by simp [hgau]) (by simp [hgau])]
    obtain ⟨hfull, hempty⟩ := s.packCleared_anchors
    rw [exec_newpack ht, if_pos (sent_gauCtl hnew), State.wrGauCtl_newpack hnew hkey]
    refine ⟨_, rfl, ?_, ?_, State.fld_bit_zero.mpr ?_, State.fld_bit_zero.mpr ?_, ?_, fun hthere => ?_⟩
    · rw [hshown _ (by decide) (by decide) rfl, State.rd_packRenewed (by decide), State.rd_packCleared]
      rfl
    · rw [hshown _ (by decide) (by decide) rfl, State.rd_packRenewed (by decide), State.rd_packCleared]
      rfl
    · rw [State.bit_congr (hshown _ (by decide) (by decide) rfl), State.bit_packRenewed (by decide), hfull]
    · rw [State.bit_congr (hshown _ (by decide) (by decide) rfl), State.bit_packRenewed (by decide), hempty]
    · rw [State.bit_congr (State.rd_gauShow (by decide))]
      exact State.bit_setFlag _ _ (by decide) (by decide) (by decide)
    · exact (State.fld_congr (hshown _ (by decide) (by decide) rfl) _).trans (State.gauSt_packRenewed hthere)
  case otherKey =>
    intro i v be s ht hkey
    rw [exec_newpack ht, State.wrGauCtl_otherKey hkey, ite_self]

end Sys2Proof.Machine

/-!
SUPPORT. A tick of the gauge (R206 to R216): what it samples, what it adds to the count, and what follows a count.
-/

namespace Sys2Proof.Machine

open Host (Outcome)

variable {s t u : State} {q : Reg} {g : GaugeSample}

/-! ### What follows a count -/

/-- The gauge registers that follow a count. -/
def countRegs : List Reg := [.GAU_STATUS, .GAU_SOC, .GAU_QUSE, .GAU_CYCLES, .GAU_THRU, .GAU_FLAG]

/-- A register that what follows a count leaves as it is: a record of it reaches MEM, EVT and LDG. -/
abbrev Reg.uncounted (q : Reg) : Prop := q ∉ countRegs ∧ q.block ∉ [Block.mem, .evt, .ldg]

/-- What follows a count - THRU and CYCLES, COUNT_EARLY, the band, the display - leaves ACC itself, and the registers
that do not follow it. -/
structure CountStays (s t : State) : Prop where
  acc : t.ga.acc = s.ga.acc
  regs : ∀ q : Reg, q.uncounted → t.rd q = s.rd q

theorem CountStays.refl (s : State) : CountStays s s := ⟨rfl, fun _ _ => rfl⟩

theorem CountStays.trans (h : CountStays s t) (k : CountStays t u) : CountStays s u :=
  ⟨k.acc.trans h.acc, fun q hq => (k.regs q hq).trans (h.regs q hq)⟩

theorem CountStays.ite {c : Prop} [Decidable c] (h : CountStays s t) (k : CountStays s u) :
    CountStays s (if c then t else u) := by
  split
  · exact h
  · exact k

/-- A change of the gauge's hidden state beside ACC. -/
theorem State.hidden_countStays {x : GaX} (hx : x.acc = s.ga.acc) : CountStays s { s with ga := x } :=
  ⟨hx, fun _ _ => rfl⟩

theorem Reg.uncounted.ne {r : Reg} (h : q.uncounted) (hr : r ∈ countRegs) : q ≠ r := fun he => h.1 (he ▸ hr)

theorem State.wr_countStays {r : Reg} (w : Word) (hr : r ∈ countRegs) : CountStays s (s.wr r w) :=
  ⟨rfl, fun _ hq => (State.rd_wr ..).trans (if_neg (hq.ne hr))⟩

theorem State.putBit_countStays {r : Reg} (b : Nat) (v : Bool) (hr : r ∈ countRegs) : CountStays s (s.putBit r b v) :=
  State.wr_countStays _ hr

theorem State.setFlag_countStays (b : Nat) : CountStays s (s.setFlag .GAU_FLAG b) := by
  refine ⟨by rw [State.ga_setFlag], fun q hq => State.rd_setFlag _ _ _ (hq.ne (by decide)) ?_ ?_⟩
  · exact fun h => hq.2 (by simp [h])
  · exact fun h => hq.2 (by simp [h])

theorem State.gaugeRecord_countStays (reason : Nat) : CountStays s (s.gaugeRecord reason) :=
  ⟨by rw [State.ga_gaugeRecord], fun _ hq => State.rd_gaugeRecord reason hq.2⟩

theorem State.gauShow_countStays : CountStays s s.gauShow :=
  ⟨by rw [State.ga_gauShow], fun _ hq => State.rd_gauShow (hq.ne (by decide))⟩

theorem State.recomputeQuse_countStays : CountStays s s.recomputeQuse :=
  ⟨by rw [State.ga_recomputeQuse], fun _ hq => (State.rd_recomputeQuse (hq.ne (by decide)) (hq.ne (by decide))).trans
    (if_neg (hq.ne (by decide)))⟩

theorem State.discharge_countStays (d : Nat) : CountStays s (s.discharge d) := by
  have hthru (n : Nat) (w : Word) := (State.hidden_countStays (s := s) (x := { s.ga with thru := n }) rfl).trans
    (State.wr_countStays (r := .GAU_THRU) w (by decide))
  unfold State.discharge
  refine CountStays.ite ?_ (hthru _ _)
  exact (((hthru _ _).trans (State.wr_countStays _ (by decide))).trans State.recomputeQuse_countStays).trans
    (State.gaugeRecord_countStays 2)

theorem State.countEarly_countStays : CountStays s s.countEarly := by
  unfold State.countEarly
  refine CountStays.ite (CountStays.ite (.refl s) ?_) (State.putBit_countStays 7 false (by decide))
  exact (State.putBit_countStays 7 true (by decide)).trans (State.setFlag_countStays 3)

theorem State.bandTick_countStays (vm : Rat) : CountStays s (s.bandTick vm) := by
  unfold State.bandTick
  refine CountStays.ite (CountStays.ite ?leave (.refl s)) (CountStays.ite ?enter (.refl s))
  case leave => exact (State.putBit_countStays 8 false (by decide)).trans (State.putBit_countStays 10 false (by decide))
  case enter =>
    have hentry := State.hidden_countStays (s := s) (x := { s.ga with d0 := s.ga.display, v0 := vm }) rfl
    exact ((hentry.trans (State.putBit_countStays 8 true (by decide))).trans
      (State.putBit_countStays 9 true (by decide))).trans (State.setFlag_countStays 2)

theorem State.steer_countStays (vm : Rat) : CountStays s (s.steer vm).2 := by
  unfold State.steer
  dsimp only
  split
  · exact ⟨rfl, fun _ _ => rfl⟩
  · exact .refl s

theorem State.displayTick_countStays (vm prev : Rat) : CountStays s (s.displayTick vm prev) := by
  have hsteer (c : Rat) : CountStays s (if s.bit .GAU_STATUS 8 = true then s.steer vm else (c, s)).2 := by
    split
    · exact State.steer_countStays vm
    · exact .refl s
  unfold State.displayTick
  dsimp only
  refine CountStays.ite (.refl s) ?_
  have hst := hsteer (clampR 0 1 ((s.ga.acc : Rat) / s.quse))
  generalize (if s.bit .GAU_STATUS 8 = true then s.steer vm else (_, s)) = st at hst ⊢
  have hshown (d : Rat) (b : Bool) := (hst.trans (State.hidden_countStays (x := { st.2.ga with display := d }) rfl)).trans
    (State.putBit_countStays (r := .GAU_STATUS) 9 b (by decide))
  exact CountStays.ite ((hshown _ _).trans (State.putBit_countStays 10 true (by decide))) (hshown _ _)

/-! ### The count (R207) -/

theorem State.rd_putAcc (a : Int) : (s.putAcc a).rd q = if q = .GAU_ACC_HI then BitVec.ofNat 32 (ofSigned 64 a / 2 ^ 32)
    else if q = .GAU_ACC_LO then BitVec.ofNat 32 (ofSigned 64 a) else s.rd q := by
  rw [State.putAcc, State.rd_wr, State.rd_wr]
  rfl

/-- ACC with the charge of a tick's code added, at its range. -/
def State.accAfter (s : State) (code : Int) : Int :=
  sat64 (s.ga.acc + roundOpen (s.ga.frac + (code : Rat) * 50 / (s.rbat : Rat)))

/-- A counted tick stores ACC with the charge of its code added, and what follows keeps it. -/
theorem State.countTick_counts (code : Int) : ∃ x : GaX, x.acc = s.accAfter code ∧
    CountStays { s.putAcc (s.accAfter code) with ga := x } (s.countTick code) := by
  unfold State.countTick
  refine ⟨_, ?_, CountStays.ite (State.discharge_countStays _) (.refl _)⟩
  rfl

/-! ### The samples (R206) -/

variable {tmp : Option Rat}

theorem State.rd_thermal (per w : Nat) : (s.thermal tmp per w).2.rd q = s.rd q :=
  (State.thermal_keeps (B := fun _ => False) (M := False) (Keeps.refl s)).regs q id

theorem State.ga_thermal (per w : Nat) : (s.thermal tmp per w).2.ga = s.ga := by
  unfold State.thermal
  split
  · rfl
  · dsimp only
    split <;> rfl

/-- A temperature in the field's range is shown rounded. -/
theorem State.thermal_inRange {p : Rat} {per w : Nat} (hlo : -(2 ^ (w - 1)) ≤ roundOpen (p * per))
    (hhi : roundOpen (p * per) < 2 ^ (w - 1)) : s.thermal (some p) per w = (roundOpen (p * per), s) :=
  if_pos ⟨hlo, hhi⟩

/-- The samples of a tick stand in their taps and in IBAT. -/
def State.gaugeTapped (s : State) (g : GaugeSample) : State :=
  let s0 : State := { s with sv := { s.sv with gaugeAt := some s.clock.localTicks.toNat } }
  (((s0.wr (.SVY_CV_TAP 0 22) (BitVec.ofNat 32 (g.bat % 65536))).wr (.SVY_CV_TAP 1 24) (g.bth.zeroExtend 32)).wr
    (.SVY_CV_TAP 2 0) (BitVec.ofNat 32 (ofSigned 16 g.shunt))).showIbat g.shunt

/-- BAT joins the ticks of which VMEAN is the mean. -/
def State.gaugeSampled (s : State) (g : GaugeSample) : State :=
  let s1 := s.gaugeTapped g
  { s1 with ga := { s1.ga with vbuf := (g.bat :: s1.ga.vbuf).take 4000 } }

/-- The temperature of the pack of a tick. -/
def State.gaugeTemp (s : State) (g : GaugeSample) : Int × State :=
  (s.gaugeSampled g).thermal (ntcTemp g.bth.toNat) 128 16

/-- VMEAN and TEMP are shown. -/
def State.gaugeMeasured (s : State) (g : GaugeSample) : State :=
  let p := s.gaugeTemp g
  (p.2.put .GAU_MEAS Fld.GAU_MEAS_VMEAN (roundOpen (s.gaugeSampled g).vmean).toNat).put .GAU_MEAS Fld.GAU_MEAS_TEMP
    (ofSigned 16 p.1)

/-- What follows a count in its tick. -/
def State.gaugeFollows (s : State) (vm prev : Rat) : State := ((s.countEarly.bandTick vm).displayTick vm prev).gauShow

theorem State.gaugeFollows_countStays (vm prev : Rat) : CountStays s (s.gaugeFollows vm prev) :=
  ((State.countEarly_countStays.trans (State.bandTick_countStays vm)).trans
    (State.displayTick_countStays vm prev)).trans State.gauShow_countStays

/-- The gauge counts: a pack is declared, and STATE is NOANCHOR or COUNTING. -/
def State.gaugeCounts (s : State) : Prop := s.fld .BKP_BATCFG Fld.BKP_BATCFG_NCELL ≠ 0 ∧ (s.gauSt = 1 ∨ s.gauSt = 2)

/-- The registers that a tick which does not count may change. -/
def sampleRegs : List Reg := [.SVY_CV_TAP 0 22, .SVY_CV_TAP 1 24, .SVY_CV_TAP 2 0, .BKP_MEAS, .GAU_MEAS]

theorem State.rd_gaugeTapped (hq : q ≠ .BKP_MEAS) : (s.gaugeTapped g).rd q =
    if q = .SVY_CV_TAP 2 0 then BitVec.ofNat 32 (ofSigned 16 g.shunt)
    else if q = .SVY_CV_TAP 1 24 then g.bth.zeroExtend 32
    else if q = .SVY_CV_TAP 0 22 then BitVec.ofNat 32 (g.bat % 65536) else s.rd q := by
  rw [State.gaugeTapped, State.showIbat, State.rd_put, if_neg hq, State.rd_wr, State.rd_wr, State.rd_wr]
  rfl

theorem State.rd_gaugeMeasured (hq : q ≠ .GAU_MEAS) : (s.gaugeMeasured g).rd q = (s.gaugeTapped g).rd q := by
  rw [State.gaugeMeasured, State.rd_put, if_neg hq, State.rd_put, if_neg hq, State.gaugeTemp, State.rd_thermal]
  rfl

theorem State.rd_gaugeMeasured_other (hq : q ∉ sampleRegs) : (s.gaugeMeasured g).rd q = s.rd q := by
  simp only [sampleRegs, List.mem_cons, List.not_mem_nil, or_false, not_or] at hq
  obtain ⟨hbat, hbth, hshunt, hibat, hmeas⟩ := hq
  rw [State.rd_gaugeMeasured hmeas, State.rd_gaugeTapped hibat, if_neg hshunt, if_neg hbth, if_neg hbat]

theorem State.ga_gaugeMeasured :
    (s.gaugeMeasured g).ga = { s.ga with vbuf := (g.bat :: s.ga.vbuf).take 4000 } :=
  State.ga_thermal (s := s.gaugeSampled g) 128 16

theorem State.gaugeCounts_gaugeMeasured : (s.gaugeMeasured g).gaugeCounts ↔ s.gaugeCounts := by
  rw [State.gaugeCounts, State.gauSt, State.fld_congr (State.rd_gaugeMeasured_other (by decide)),
    State.fld_congr (State.rd_gaugeMeasured_other (by decide))]
  rfl

theorem State.temp_gaugeMeasured {p : Rat} (hp : ntcTemp g.bth.toNat = some p) (hlo : -(2 ^ 15) ≤ roundOpen (p * 128))
    (hhi : roundOpen (p * 128) < 2 ^ 15) :
    (s.gaugeMeasured g).fld .GAU_MEAS Fld.GAU_MEAS_TEMP = ofSigned 16 (roundOpen (p * 128)) := by
  have htemp : (s.gaugeTemp g).1 = roundOpen (p * 128) := by
    rw [State.gaugeTemp, hp]
    exact congrArg Prod.fst (State.thermal_inRange hlo hhi)
  have hwidth : ofSigned 16 (roundOpen (p * 128)) < 2 ^ 16 := by
    unfold ofSigned
    omega
  rw [State.fld, State.gaugeMeasured, State.rd_put, if_pos rfl, getF_putF _ _ _ rfl, htemp]
  exact Nat.mod_eq_of_lt hwidth

theorem exec_gaugeTick_counts (hadc : s.powered .adc = true) (hchg : s.powered .chg = true) (h : s.gaugeCounts) :
    exec (.gaugeTick g) s = .next (((s.gaugeMeasured g).countTick g.shunt).gaugeFollows (s.gaugeSampled g).vmean
      (s.gaugeTapped g).vmean) :=
  congrArg Outcome.next ((if_pos (by simp [hadc, hchg])).trans (if_pos (State.gaugeCounts_gaugeMeasured.mpr h)))

theorem exec_gaugeTick_frozen (hadc : s.powered .adc = true) (hchg : s.powered .chg = true) (h : ¬ s.gaugeCounts) :
    exec (.gaugeTick g) s = .next (s.gaugeMeasured g) :=
  congrArg Outcome.next ((if_pos (by simp [hadc, hchg])).trans (if_neg (mt State.gaugeCounts_gaugeMeasured.mp h)))

theorem State.accAfter_gaugeMeasured (code : Int) : (s.gaugeMeasured g).accAfter code = s.accAfter code := by
  have hrbat : (s.gaugeMeasured g).rbat = s.rbat :=
    congrArg (max 1) (State.fld_congr (State.rd_gaugeMeasured_other (by decide)) _)
  rw [State.accAfter, State.ga_gaugeMeasured, hrbat]
  rfl

/-- What a tick that counts shows: ACC with its charge added, and the samples. -/
theorem exec_gaugeTick_shows (hadc : s.powered .adc = true) (hchg : s.powered .chg = true) (h : s.gaugeCounts) :
    ∃ t, exec (.gaugeTick g) s = .next t ∧ t.ga.acc = s.accAfter g.shunt ∧
      t.rd .GAU_ACC_LO = BitVec.ofNat 32 (ofSigned 64 (s.accAfter g.shunt)) ∧
      ∀ q : Reg, q.uncounted → q ≠ .GAU_ACC_HI → q ≠ .GAU_ACC_LO → t.rd q = (s.gaugeMeasured g).rd q := by
  obtain ⟨x, hacc, hcount⟩ := (s.gaugeMeasured g).countTick_counts g.shunt
  obtain ⟨hstays, hregs⟩ := hcount.trans
    (State.gaugeFollows_countStays (s.gaugeSampled g).vmean (s.gaugeTapped g).vmean)
  rw [State.accAfter_gaugeMeasured] at hacc hregs
  refine ⟨_, exec_gaugeTick_counts hadc hchg h, hstays.trans hacc, ?_, fun q hq hhi hlo => ?_⟩
  · exact (hregs _ (by decide)).trans (State.rd_putAcc _)
  · exact (hregs q hq).trans ((State.rd_putAcc _).trans (by rw [if_neg hhi, if_neg hlo]))

end Sys2Proof.Machine

/-!
SUPPORT. The gauge's other commands: staleness (R211), the hourly record (R220), the writes that compute QUSE anew (R212)
and the read of ACC (R222).
-/

namespace Sys2Proof.Machine

open Host (Outcome)

variable {s : State} {i : Iface}

theorem exec_gauStale (hage : max 1 (s.fld .GAU_CFG Fld.GAU_CFG_STALE) * 86400 ≤ (s.rd .GAU_AGE).toNat)
    (hst : s.bit .GAU_STATUS 6 = false) :
    exec .gauStale s = .next ((s.putBit .GAU_STATUS 6 true).setFlag .GAU_FLAG 4) :=
  congrArg Outcome.next (if_pos ⟨hage, hst⟩)

/-- The buffer of the log has room for `n` records more, and the log takes them. -/
def State.logRoom (s : State) (n : Nat) : Prop := s.ld.logBuf.length + n ≤ 32 ∧ s.bit .LDG_STATUS 10 = false

/-- A record that the log takes joins its buffer, and nothing else changes. -/
theorem State.logRec_joins {n : Nat} (h : s.logRoom (n + 1)) (kind len : Nat) (stamp : Stamp) (l : List Word) :
    (s.logRec kind len stamp l).ld.logBuf.map (·.kind) = s.ld.logBuf.map (·.kind) ++ [kind] ∧
    (s.logRec kind len stamp l).regs = s.regs ∧ (s.logRec kind len stamp l).logRoom n := by
  obtain ⟨hlength, hstatus⟩ := h
  unfold State.logRec
  rw [if_neg (not_or.mpr ⟨by omega, by simp [hstatus]⟩)]
  refine ⟨by simp, rfl, ?_, hstatus⟩
  rw [List.length_append, List.length_singleton]
  omega

theorem State.gaugeRecord_joins (h : s.logRoom 2) (reason : Nat) :
    (s.gaugeRecord reason).ld.logBuf.map (·.kind) = s.ld.logBuf.map (·.kind) ++ [5, 6] ∧
    (s.gaugeRecord reason).regs = s.regs := by
  obtain ⟨hstate, hregs, hroom⟩ := State.logRec_joins h 0x05 3 s.now _
  obtain ⟨hage, hregs', -⟩ := State.logRec_joins hroom 0x06 2 _ _
  refine ⟨hage.trans ?_, hregs'.trans hregs⟩
  rw [hstate, List.append_assoc]
  rfl

theorem exec_gaugeHourlyRecord (h : s.gauSt = 1 ∨ s.gauSt = 2) : exec .gaugeHourlyRecord s = .next (s.gaugeRecord 5) :=
  congrArg Outcome.next (if_pos h)

/-- The register that a configuration write names. -/
def gaugeCfgReg (cfg : Bool) : Reg := if cfg then .GAU_CFG else .GAU_DESIGN

theorem exec_gaugeConfigWrite {cfg : Bool} {v : Word} (h : s.takes (gaugeCfgReg cfg) = true) :
    exec (.gaugeConfigWrite i cfg v 0xF#4) s = .next (s.writeRw (gaugeCfgReg cfg) v).recomputeQuse :=
  congrArg Outcome.next ((State.guardWrite_takes h).trans
    (congrArg (fun w => (s.writeRw (gaugeCfgReg cfg) w).recomputeQuse) (State.merged_whole ..)))

theorem gaugeCfgReg_ne (cfg : Bool) : gaugeCfgReg cfg ≠ .GAU_SOC ∧ gaugeCfgReg cfg ≠ .GAU_STATUS ∧
    gaugeCfgReg cfg ≠ .GAU_QUSE := by
  cases cfg <;> decide

/-- The low word of ACC crosses no edge: a read of it is the register's own rule. -/
theorem State.busRead_accLo (hs : s.served = true) (hl : s.loader = false) (hp : s.powered .chg = true) :
    s.busRead i (Reg.addr .GAU_ACC_LO) = s.rdAccLo i := by
  have hreg : Reg.ofAddr (Reg.addr .GAU_ACC_LO) = some .GAU_ACC_LO := by decide +kernel
  have hword : wordAddr (Reg.addr .GAU_ACC_LO) = Reg.addr .GAU_ACC_LO := by decide
  obtain ⟨b, hb⟩ := Reg.ofAddr_block hreg
  have hsram := Block.ofAddr_above_sram hb
  unfold State.busRead
  dsimp only
  rw [hword, if_neg (by decide)]
  unfold State.readWord
  rw [if_neg (by simp [hs]), if_neg (by omega)]
  simp only [hb, hreg]
  exact State.guardRead_on hs hl hp

theorem exec_accLoRead (hs : s.served = true) (hl : s.loader = false) (hp : s.powered .chg = true) :
    exec (.accLoRead i) s = .next (State.deliver i (s.rdAccLo i)) :=
  congrArg (fun p => Outcome.next (State.deliver i p)) (State.busRead_accLo hs hl hp)

/-- The read leaves the registers, and its interface holds the high word of the same moment. -/
theorem State.deliver_rdAccLo : (State.deliver i (s.rdAccLo i)).rdata.get i 0#32 = s.rd .GAU_ACC_LO ∧
    ((State.deliver i (s.rdAccLo i)).bank i).accHi = s.rd .GAU_ACC_HI ∧
    (State.deliver i (s.rdAccLo i)).regs = s.regs := by
  refine ⟨?_, ?_, rfl⟩
  · exact State.rdata_deliver ..
  · simp [State.deliver, State.rdAccLo, State.bank]

/-- Settles O16: each clause is the equation of its command, and what the state it leads to shows. -/
theorem gauge : Obligations.Gauge := by
  unfold Obligations.Gauge
  refine ⟨?tick, ?frozen, ?stale, ?hourly, ?config, ?read⟩
  case tick =>
    intro g s hadc hchg hpack hst
    obtain ⟨t, hexec, hacc, hlo, hregs⟩ := exec_gaugeTick_shows (g := g) hadc hchg ⟨hpack, hst⟩
    refine ⟨t, hexec, hacc, by rw [hacc, hlo], fun p hp hmin hmax => ?_, ?_⟩
    · exact (State.fld_congr (hregs _ (by decide) (by decide) (by decide)) _).trans
        (State.temp_gaugeMeasured hp hmin hmax)
    · rw [hregs _ (by decide) (by decide) (by decide), State.rd_gaugeMeasured (by decide),
        State.rd_gaugeTapped (by decide)]
      rfl
  case frozen =>
    intro g s hadc hchg hst
    have hidle : ¬ s.gaugeCounts := fun ⟨hpack, hcounts⟩ => by omega
    refine ⟨_, exec_gaugeTick_frozen hadc hchg hidle, ?_, State.rd_gaugeMeasured_other (by decide), ?_⟩
    · rw [State.ga_gaugeMeasured]
    · rw [State.ga_gaugeMeasured]
      rfl
  case stale =>
    intro s hage hst
    refine ⟨_, exec_gauStale hage (State.fld_bit_zero.mp hst), State.fld_bit_one.mpr ?_,
      State.bit_setFlag _ _ (by decide) (by decide) (by decide), State.ga_setFlag ..⟩
    rw [State.bit_congr (State.rd_setFlag _ _ _ (by decide) (by decide) (by decide))]
    exact State.bit_putBit _ _ (by decide)
  case hourly =>
    intro s hst hlength hstatus
    exact ⟨_, exec_gaugeHourlyRecord hst, State.gaugeRecord_joins ⟨by omega, hstatus⟩ 5⟩
  case config =>
    intro b r i v s hr ht
    subst hr
    obtain ⟨hsoc, hstatus, hquse⟩ := gaugeCfgReg_ne b
    refine ⟨_, exec_gaugeConfigWrite ht, ?_, ?_, ?_⟩
    · exact (State.rd_recomputeQuse hsoc hstatus).trans ((if_neg hquse).trans ((State.rd_writeRw ..).trans (if_pos rfl)))
    · rw [State.rd_recomputeQuse (by decide) (by decide), if_pos rfl, State.usable_recomputeQuse]
    · rw [State.ga_recomputeQuse]
      rfl
  case read =>
    intro i s hs hl hp
    exact ⟨_, exec_accLoRead hs hl hp, State.deliver_rdAccLo⟩

end Sys2Proof.Machine

/-!
SUPPORT. What the policy functions share: messages, events beside the hidden state of policy, and suspension, which reads
the reload, the re-gang, the running command and the crossbar alone (R226).
-/

namespace Sys2Proof.Machine

variable {s t : State}

@[simp] theorem block_polState (n : Nat) : (Reg.POL_R_STATE n).block = .pol := rfl

theorem State.lastMessage_message (src info code : Nat) : (s.message src info code).lastMessage src info code :=
  ⟨_, List.getLast?_concat .., rfl, rfl, rfl⟩

theorem EventsOnly.po (h : EventsOnly s t) : t.po = s.po := by
  obtain ⟨regs, mem, ev, me, rfl⟩ := h
  rfl

@[simp] theorem State.po_setFlagI (r : Reg) (b info code : Nat) : (s.setFlagI r b info code).po = s.po :=
  (State.setFlagI_eventsOnly ..).po

@[simp] theorem State.po_setFlag (r : Reg) (b : Nat) : (s.setFlag r b).po = s.po := State.po_setFlagI ..

/-- A choice that keeps or replaces its candidate at each element of a list ends with the first candidate or with an
element. -/
theorem foldl_choice {α : Type} {f : Option α → α → Option α} (hf : ∀ o x, f o x = o ∨ f o x = some x) (l : List α)
    (o : Option α) : l.foldl f o = o ∨ ∃ x ∈ l, l.foldl f o = some x := by
  induction l generalizing o with
  | nil => exact .inl rfl
  | cons x l ih =>
    rcases ih (f o x) with h | ⟨y, hy, h⟩
    · rcases hf o x with hx | hx
      · exact .inl (h.trans hx)
      · exact .inr ⟨x, List.mem_cons_self, h.trans hx⟩
    · exact .inr ⟨y, List.mem_cons_of_mem _ hy, h⟩

theorem mem_of_foldl_choice {α : Type} {f : Option α → α → Option α} (hf : ∀ o x, f o x = o ∨ f o x = some x)
    {l : List α} {y : α} (h : l.foldl f none = some y) : y ∈ l := by
  rcases foldl_choice hf l none with hn | ⟨x, hx, hs⟩
  · cases hn.symm.trans h
  · cases hs.symm.trans h
    exact hx

section
variable (htp : t.tp = s.tp) (hcm : t.cm = s.cm)
include htp

theorem State.railDom_congr (n : Nat) : t.railDom n = s.railDom n := by
  unfold State.railDom
  rw [htp]

include hcm

theorem State.underReload_congr (d : Option Nat) : t.underReload d = s.underReload d := by
  unfold State.underReload State.reloadDoms State.waitingLoads State.slot
  rw [htp, hcm]

theorem State.polBlocked_congr (hregang : t.sw.regang = s.sw.regang) (hrail : ∀ m, t.stgRail m = s.stgRail m) (n : Nat) :
    t.polBlocked n = s.polBlocked n := by
  unfold State.polBlocked State.runningSlot State.slot
  simp only [State.railDom_congr htp, htp, hcm, hregang, hrail]

end

end Sys2Proof.Machine

/-!
SUPPORT. The ride-through budget: the prediction, the rail shed next, a shed, the end of an episode and a restore, with what
each of them shows (R232 to R235).
-/

namespace Sys2Proof.Machine

open Host (Outcome)

variable {s t : State} {q : Reg} {r : RideIn}

/-! ### The prediction (R232) -/

/-- TPRED before its rounding. -/
def State.ridePred (s : State) (r : RideIn) : Rat :=
  if -r.ibat ≤ 0 then 0xFFFF
  else (if (s.ga.acc : Rat) - s.ga.err < 0 then 0 else (s.ga.acc : Rat) - s.ga.err) / (1000 * ((-r.ibat : Int) : Rat))

/-- TLEFT before its rounding. -/
def State.rideLeft (s : State) (r : RideIn) : Rat := (s.fld .POL_RIDE Fld.POL_RIDE_THOLD : Rat) - r.time

theorem State.ridePred_discharging (hi : r.ibat < 0) (hq : s.ga.err ≤ s.ga.acc) :
    s.ridePred r = ((s.ga.acc : Rat) - s.ga.err) / (1000 * (-r.ibat : Rat)) := by
  rw [State.ridePred, if_neg (by omega), if_neg (Rat.not_lt.mpr ((Rat.le_iff_sub_nonneg ..).mp hq)),
    Rat.intCast_neg]

theorem State.ridePred_spent (hi : r.ibat < 0) (hq : (s.ga.acc : Rat) ≤ s.ga.err) : s.ridePred r = 0 := by
  have hnone : (if (s.ga.acc : Rat) - s.ga.err < 0 then 0 else (s.ga.acc : Rat) - s.ga.err) = 0 := by
    split
    · rfl
    next hcharge =>
      exact Rat.le_antisymm (Rat.sub_right_le_iff_le_add.mpr (by rw [Rat.zero_add]; exact hq)) (Rat.not_lt.mp hcharge)
  rw [State.ridePred, if_neg (by omega), hnone, Rat.div_def, Rat.zero_mul]

/-- POL_RIDEPRED shows the prediction. -/
def State.rideShown (s : State) (r : RideIn) : State :=
  (s.put .POL_RIDEPRED Fld.POL_RIDEPRED_TPRED (secShown (s.ridePred r))).put .POL_RIDEPRED Fld.POL_RIDEPRED_TLEFT
    (secShown (s.rideLeft r))

/-- The prediction is shown, and the end of TLEFT noted (R233). -/
def State.rideTimed (s : State) (r : RideIn) : State :=
  if 0 < s.rideLeft r then s.rideShown r
  else { s.rideShown r with po := { (s.rideShown r).po with rideOver := true } }

/-- A prediction short of the hold time sheds a rail, once the rail shed before has been seen OFF (R233). -/
def State.rideDecided (s : State) (r : RideIn) : State :=
  if (s.rideTimed r).po.rideOver = false ∧
      s.ridePred r < s.rideLeft r * (1 + (s.fld .POL_RIDE Fld.POL_RIDE_MARGIN : Rat) / 100) ∧
      (s.rideTimed r).rideWait.1 = true ∧ s.bit .POL_LOCK 4 = false
    then (s.rideTimed r).rideWait.2.rideShed else (s.rideTimed r).rideWait.2

theorem exec_rideEval (hep : s.bit .POL_STATUS 0 = true) (hw : s.policyWorks = true)
    (hvalid : s.fld .GAU_SOC Fld.GAU_SOC_VALID ≠ 0) : exec (.rideEval r) s = .next (s.rideDecided r) := by
  refine congrArg Outcome.next ((if_neg ?_).trans (if_neg hvalid))
  simp [hep, hw]

theorem exec_rideEval_blind (hep : s.bit .POL_STATUS 0 = true) (hw : s.policyWorks = true)
    (hvalid : s.fld .GAU_SOC Fld.GAU_SOC_VALID = 0) : exec (.rideEval r) s = .next
      (if s.bit .POL_STATUS 2 then s else (s.putBit .POL_STATUS 2 true).setFlagI .POL_FLAG 2 0 4) := by
  refine congrArg Outcome.next ((if_neg ?_).trans (if_pos hvalid))
  simp [hep, hw]

theorem secShown_lt (x : Rat) : secShown x < 2 ^ 16 := by
  unfold secShown
  omega

theorem State.rideShown_shows : (s.rideShown r).fld .POL_RIDEPRED Fld.POL_RIDEPRED_TPRED = secShown (s.ridePred r) ∧
    (s.rideShown r).fld .POL_RIDEPRED Fld.POL_RIDEPRED_TLEFT = secShown (s.rideLeft r) := by
  simp only [State.fld, State.rideShown, State.rd_put, if_true]
  rw [getF_putF_other _ _ _ _ rfl (by decide), getF_putF _ _ _ rfl, getF_putF _ _ _ rfl]
  exact ⟨Nat.mod_eq_of_lt (secShown_lt _), Nat.mod_eq_of_lt (secShown_lt _)⟩

theorem State.rd_rideShown (hq : q ≠ .POL_RIDEPRED) : (s.rideShown r).rd q = s.rd q := by
  rw [State.rideShown, State.rd_put, if_neg hq, State.rd_put, if_neg hq]

theorem State.rd_rideTimed : (s.rideTimed r).rd q = (s.rideShown r).rd q := by
  unfold State.rideTimed
  split <;> rfl

theorem State.rd_rideWait : s.rideWait.2.rd q = s.rd q :=
  Keeps.regs (B := fun _ => False) (M := True) (State.rideWait_keeps (Keeps.refl s)) q id

/-! ### A shed (R233, R234) -/

/-- One rail is shed. -/
def State.rideShedRail (s : State) (n : Nat) : State :=
  let s1 := ((s.railOff n).putBit .POL_RIDESHED n true).put (.POL_R_STATE n) Fld.POL_R_STATE_SHED 1
  { s1 with po := { s1.po with shed := n :: s1.po.shed.filter (· != n), wait := some (n, false) } }

theorem State.rideShed_some {n : Nat} (h : s.shedNext = some n) :
    s.rideShed = ((s.rideShedRail n).setFlag .POL_FLAG 1).message 100 (polInfo n 0xFF) 4 := by
  rw [State.rideShed, h]
  rfl

theorem State.rideShed_none (h : s.shedNext = none) :
    s.rideShed = if s.bit .POL_STATUS 3 then s else (s.putBit .POL_STATUS 3 true).setFlagI .POL_FLAG 3 0 4 := by
  rw [State.rideShed, h]

theorem State.rd_railOff_pol (n : Nat) (hq : q.block = .pol) : (s.railOff n).rd q = s.rd q := by
  refine Keeps.regs (B := (· ≠ .pol)) (M := True) ?_ q (by simp [hq])
  apply State.railOff_keeps (Keeps.refl s) <;> decide

theorem State.rd_rideShedRail (n : Nat) (hq : q.block = .pol) : (s.rideShedRail n).rd q =
    if q = .POL_R_STATE n then putF (s.rd (.POL_R_STATE n)) Fld.POL_R_STATE_SHED 1
    else if q = .POL_RIDESHED then wputBit (s.rd .POL_RIDESHED) n true else s.rd q := by
  change (((s.railOff n).putBit .POL_RIDESHED n true).put (.POL_R_STATE n) Fld.POL_R_STATE_SHED 1).rd q = _
  rw [State.rd_put, State.rd_putBit, State.rd_putBit, if_neg (show Reg.POL_R_STATE n ≠ .POL_RIDESHED by simp),
    State.rd_railOff_pol n (block_polState n), State.rd_railOff_pol n rfl, State.rd_railOff_pol n hq]

theorem State.rd_rideShed_pred : s.rideShed.rd .POL_RIDEPRED = s.rd .POL_RIDEPRED := by
  have hpol (u : State) (b info code : Nat) : (u.setFlagI .POL_FLAG b info code).rd .POL_RIDEPRED = u.rd .POL_RIDEPRED :=
    State.rd_setFlag_other _ _ _ _ _ (by simp) (by decide) (by decide)
  cases h : s.shedNext with
  | some n =>
    rw [State.rideShed_some h]
    refine (hpol _ 1 _ _).trans ((State.rd_rideShedRail n rfl).trans ?_)
    rw [if_neg (by simp), if_neg (by simp)]
  | none =>
    rw [State.rideShed_none h]
    split
    · rfl
    · rw [hpol, State.rd_putBit, if_neg (by simp)]

theorem State.rd_rideDecided_pred : (s.rideDecided r).rd .POL_RIDEPRED = (s.rideShown r).rd .POL_RIDEPRED := by
  rw [State.rideDecided, apply_ite (State.rd · .POL_RIDEPRED), State.rd_rideShed_pred, ite_self, State.rd_rideWait,
    State.rd_rideTimed]

theorem State.shedNext_lt {n : Nat} (h : s.shedNext = some n) : n < 20 := by
  have hmem := mem_of_foldl_choice (fun o x => ?_) h
  · exact List.mem_range.mp (List.mem_filter.mp hmem).1
  · cases o with
    | none => exact .inr rfl
    | some y =>
      dsimp only
      split
      · exact .inr rfl
      · exact .inl rfl

/-- A shed shows its rail, waits for it, and tells of it. -/
theorem State.rideShed_shows {n : Nat} (h : s.shedNext = some n) : s.rideShed.bit .POL_RIDESHED n = true ∧
    s.rideShed.fld (.POL_R_STATE n) Fld.POL_R_STATE_SHED = 1 ∧ s.rideShed.po.shed.head? = some n ∧
    s.rideShed.po.wait = some (n, false) ∧ s.rideShed.lastMessage 100 (256 * n + 255) 4 ∧
    s.rideShed.bit .POL_FLAG 1 = true := by
  have hflag {q : Reg} (hne : q ≠ .POL_FLAG) (hq : q.block = .pol) : s.rideShed.rd q = (s.rideShedRail n).rd q := by
    rw [State.rideShed_some h]
    exact State.rd_setFlag _ _ _ hne (by simp [hq]) (by simp [hq])
  have hpo : s.rideShed.po = (s.rideShedRail n).po := by
    rw [State.rideShed_some h]
    exact State.po_setFlag ..
  refine ⟨?_, ?_, by rw [hpo]; rfl, by rw [hpo]; rfl, ?_, ?_⟩
  · rw [State.bit, hflag (by simp) rfl, State.rd_rideShedRail n rfl, if_neg (by simp), if_pos rfl]
    exact wbit_wputBit _ _ _ (Nat.lt_trans (State.shedNext_lt h) (by decide))
  · rw [State.fld, hflag (by simp) rfl, State.rd_rideShedRail n rfl, if_pos rfl]
    exact getF_putF _ _ _ rfl
  · rw [State.rideShed_some h]
    exact State.lastMessage_message ..
  · rw [State.rideShed_some h]
    exact State.bit_setFlag _ _ (by decide) (by decide) (by decide)

/-! ### The rail shed next reads no POL_RIDEPRED -/

section
variable (h : ∀ q, q ≠ .POL_RIDEPRED → t.rd q = s.rd q)
include h

theorem State.railGroup_congr (n : Nat) : t.railGroup n = s.railGroup n := by
  have hstep (g j : Nat) : t.step g j = s.step g j := h _ (by simp)
  simp only [State.railGroup, State.groupRails, State.seqLen, State.stepOp, hstep]

theorem State.shedNext_congr (htp : t.tp = s.tp) (hcm : t.cm = s.cm) (hsw : t.sw = s.sw) : t.shedNext = s.shedNext := by
  have hrail (n : Nat) : t.railSt n = s.railSt n := State.fld_congr (h _ (by simp)) _
  have hgroup (g : Nat) : t.groupSt g = s.groupSt g := State.fld_congr (h _ (by simp)) _
  have hprio (n : Nat) : t.fld (.POL_R_CFG n) Fld.POL_R_CFG_PRIO = s.fld (.POL_R_CFG n) Fld.POL_R_CFG_PRIO :=
    State.fld_congr (h _ (by simp)) _
  have hblocked := State.polBlocked_congr htp hcm (congrArg SwX.regang hsw)
    (fun m => State.fld_congr (h (.STG_CFG m) (by simp)) _)
  have hdeferred (n : Nat) : t.rideDeferred n = s.rideDeferred n := by
    rw [State.rideDeferred, State.railDom_congr htp, State.underReload_congr htp hcm, hblocked]
    rfl
  simp only [State.shedNext, hprio, hrail, hdeferred, hgroup, State.railGroup_congr h]

end

theorem State.shedNext_rideShown : (s.rideShown r).shedNext = s.shedNext :=
  State.shedNext_congr (fun _ hq => State.rd_rideShown hq) rfl rfl rfl

/-! ### The end of an episode and a restore (R234, R235) -/

/-- An episode ends: the status is cleared, and RESTORING shows whether a rail waits to be restored. -/
def State.episodeEnded (s : State) : State :=
  ((((s.putBit .POL_STATUS 0 false).putBit .POL_STATUS 2 false).putBit .POL_STATUS 3 false).put .POL_RIDEPRED
    Fld.POL_RIDEPRED_TLEFT 0).putBit .POL_STATUS 1 (!s.po.shed.isEmpty)

theorem State.rd_episodeEnded : s.episodeEnded.rd q = if q = .POL_STATUS then
      wputBit (wputBit (wputBit (wputBit (s.rd .POL_STATUS) 0 false) 2 false) 3 false) 1 (!s.po.shed.isEmpty)
    else if q = .POL_RIDEPRED then putF (s.rd .POL_RIDEPRED) Fld.POL_RIDEPRED_TLEFT 0 else s.rd q := by
  simp only [State.episodeEnded, State.rd_putBit, State.rd_put, if_true]
  by_cases hst : q = .POL_STATUS <;> simp [hst]

theorem State.episodeEnded_shows : s.episodeEnded.bit .POL_STATUS 0 = false ∧
    s.episodeEnded.fld .POL_RIDEPRED Fld.POL_RIDEPRED_TLEFT = 0 ∧
    s.episodeEnded.bit .POL_STATUS 1 = (!s.po.shed.isEmpty) ∧ s.episodeEnded.bit .POL_STATUS 2 = false ∧
    s.episodeEnded.bit .POL_STATUS 3 = false := by
  simp only [State.bit, State.fld, State.rd_episodeEnded, if_true]
  refine ⟨?_, ?_, wbit_wputBit _ _ _ (by decide), ?_, ?_⟩
  · simp [wbit_wputBit_other]
  · exact getF_putF _ _ _ rfl
  · simp [wbit_wputBit_other]
  · simp [wbit_wputBit_other]

theorem exec_rideEpisodeEnd (hep : s.bit .POL_STATUS 0 = true) (hpath : s.fld .BKP_STATUS Fld.BKP_STATUS_PATH = 1) :
    exec .rideEpisodeEnd s = .next (if s.episodeEnded.bit .POL_LOCK 4 then s.episodeEnded
      else s.episodeEnded.restoreFrom s.po.shed) := by
  refine congrArg Outcome.next (if_pos ?_)
  simp [hep, hpath]

theorem exec_polRideRestore (hw : s.policyWorks = true) (hrest : s.bit .POL_STATUS 1 = true)
    (hlock : s.bit .POL_LOCK 4 = false) (hdone : s.restoreDone = true) :
    exec .polRideRestore s = .next (s.restoreFrom s.po.shed) := by
  refine congrArg Outcome.next (if_pos ?_)
  simp [hw, hrest, hlock, hdone]

theorem State.rd_restoreFrom_nil (q : Reg) :
    (s.restoreFrom []).rd q = if q = .POL_STATUS then wputBit (s.rd .POL_STATUS) 1 false else s.rd q := by
  rw [State.restoreFrom, State.rd_putBit]
  rfl

theorem State.bit_restoreFrom_nil {b : Nat} (hb : b ≠ 1) :
    (s.restoreFrom []).bit .POL_STATUS b = s.bit .POL_STATUS b := by
  rw [State.bit, State.rd_restoreFrom_nil, if_pos rfl]
  exact wbit_wputBit_other _ _ _ _ (by decide) hb

/-- The restore of a rail that is neither ON nor deferred issues its request and tells of it. -/
theorem State.restoreFrom_shows {n : Nat} (l : List Nat) (hst : s.railSt n ≠ 4) (hdef : s.rideDeferred n = false) :
    (s.restoreFrom (n :: l)).po.restoring = some n ∧ (s.restoreFrom (n :: l)).lastMessage 101 (256 * n + 255) 4 := by
  rw [State.restoreFrom, if_neg hst, if_neg (by simp [hdef])]
  exact ⟨rfl, State.lastMessage_message ..⟩

/-- Settles O18: each evaluation, end of an episode and restore is one branch of its command. -/
theorem rideThrough : Obligations.RideThrough := by
  unfold Obligations.RideThrough
  refine ⟨?predicts, ?sheds, ?blind, ?ends, ?restores⟩
  case predicts =>
    intro r s hep hw hvalid hi hq
    refine ⟨_, exec_rideEval hep hw hvalid, ?_⟩
    rw [State.fld_congr State.rd_rideDecided_pred, State.fld_congr State.rd_rideDecided_pred,
      ← State.ridePred_discharging hi hq]
    exact State.rideShown_shows
  case sheds =>
    intro r n s hep hw hvalid hi hq htime hwait hover hlock hnext
    have hleft : 0 < s.rideLeft r := (Rat.lt_iff_sub_pos ..).mp htime
    have htimed : s.rideTimed r = s.rideShown r := if_pos hleft
    have hwaits : (s.rideShown r).rideWait = (true, s.rideShown r) := by
      rw [State.rideWait, show (s.rideShown r).po.wait = none from hwait]
    have hshort : s.ridePred r < s.rideLeft r * (1 + (s.fld .POL_RIDE Fld.POL_RIDE_MARGIN : Rat) / 100) := by
      have hmargin : 0 ≤ (s.fld .POL_RIDE Fld.POL_RIDE_MARGIN : Rat) := Rat.natCast_nonneg
      rw [State.ridePred_spent hi hq]
      exact Rat.mul_pos hleft (by grind)
    refine ⟨_, exec_rideEval hep hw hvalid, ?_⟩
    rw [State.rideDecided, htimed, hwaits, if_pos ⟨hover, hshort, rfl, hlock⟩]
    exact State.rideShed_shows (State.shedNext_rideShown.trans hnext)
  case blind =>
    intro r s hep hw hvalid
    refine ⟨_, exec_rideEval_blind hep hw hvalid, ?_⟩
    split
    next hbit => exact ⟨hbit, rfl, rfl⟩
    next =>
      refine ⟨?_, ?_, State.po_setFlagI ..⟩
      · rw [State.bit_congr (State.rd_setFlag_other _ _ _ _ _ (by simp) (by decide) (by decide))]
        exact State.bit_putBit _ _ (by decide)
      · rw [State.rd_setFlag_other _ _ _ _ _ (by simp) (by decide) (by decide), State.rd_putBit, if_neg (by simp)]
  case ends =>
    intro s hep hpath hrest
    obtain ⟨hepisode, hleft, hrestoring, hblind, hshort⟩ := s.episodeEnded_shows
    have hlocked : s.episodeEnded.bit .POL_LOCK 4 = s.bit .POL_LOCK 4 :=
      State.bit_congr (by rw [State.rd_episodeEnded, if_neg (by simp), if_neg (by simp)]) 4
    refine ⟨_, exec_rideEpisodeEnd hep hpath, ?_⟩
    split
    next => exact ⟨hepisode, hleft, hrestoring, hblind, hshort⟩
    next hopen =>
      have hnone : s.po.shed = [] := hrest.resolve_right fun h => hopen (hlocked.trans h)
      rw [hnone]
      refine ⟨(State.bit_restoreFrom_nil (by decide)).trans hepisode, ?_, ?_,
        (State.bit_restoreFrom_nil (by decide)).trans hblind, (State.bit_restoreFrom_nil (by decide)).trans hshort⟩
      · exact (State.fld_congr ((State.rd_restoreFrom_nil ..).trans (if_neg (by simp))) _).trans hleft
      · rw [State.bit, State.rd_restoreFrom_nil, if_pos rfl]
        exact wbit_wputBit _ _ _ (by decide)
  case restores =>
    intro n l s hw hrest hlock hdone hshed hst hdef
    rw [exec_polRideRestore hw hrest hlock hdone, hshed]
    exact ⟨_, rfl, State.restoreFrom_shows l hst hdef⟩

end Sys2Proof.Machine

/-!
SUPPORT. Decisions on one rail leave what decisions on another rail read: the registers and the hidden state of the other
gang, its counts and its factor (R226 to R229). Fresh measurements leave all of it but the currents.
-/

namespace Sys2Proof.Machine

variable {s t u : State} {n : Nat}

/-- A register that neither a decision of policy nor a fresh measurement writes. -/
def Reg.policyKeeps : Reg → Bool
  | .STG_STATE _ | .STG_MEAS _ | .POL_R_STATE _ => false
  | q => q.block != .lpe

/-- From `s` to `t` all stays that policy reads of rail `n` and its gang, but for measured currents and the counts of
evaluations. -/
structure GangStays (n : Nat) (s t : State) : Prop where
  rd : ∀ q : Reg, q.policyKeeps = true → t.rd q = s.rd q
  stage : ∀ m, s.stgRail m = n → t.rd (.STG_STATE m) = s.rd (.STG_STATE m)
  state : t.rd (.POL_R_STATE n) = s.rd (.POL_R_STATE n)
  temp : ∀ m, t.temp m = s.temp m
  tp : t.tp = s.tp
  cm : t.cm = s.cm
  regang : t.sw.regang = s.sw.regang
  hidden : ∀ m, s.stgRail m = n → t.stgX m = s.stgX m
  hot : ∀ m, s.stgRail m = n → t.po.hot.contains m = s.po.hot.contains m
  derf : t.po.derf.get n 100 = s.po.derf.get n 100

/-- From `s` to `t` all stays that policy reads of rail `n` and its gang, and no message is lost. -/
structure RailStays (n : Nat) (s t : State) : Prop extends GangStays n s t where
  meas : ∀ m, t.rd (.STG_MEAS m) = s.rd (.STG_MEAS m)
  high : t.po.phHigh.get n 0 = s.po.phHigh.get n 0
  low : t.po.phLow.get n 0 = s.po.phLow.get n 0
  msgs : ∀ x ∈ s.ev.msgs, x ∈ t.ev.msgs

theorem State.mem_gang {m : Nat} : m ∈ s.gang n ↔ m < 24 ∧ s.stgRail m = n := by
  simp [State.gang, allStages]

theorem any_congr_left {l : List Nat} {p q : Nat → Bool} (h : ∀ m ∈ l, p m = q m) : l.any p = l.any q := by
  rw [Bool.eq_iff_iff, List.any_eq_true, List.any_eq_true]
  exact exists_congr fun m => and_congr_right fun hm => by rw [h m hm]

/-! ### Gangs, suspension and the choice of a stage -/

namespace GangStays

variable (h : GangStays n s t)
include h

theorem fld {q : Reg} (hq : q.policyKeeps = true) (f : Field) : t.fld q f = s.fld q f := State.fld_congr (h.rd q hq) f

theorem stgRail (m : Nat) : t.stgRail m = s.stgRail m := h.fld rfl _

theorem gang (j : Nat) : t.gang j = s.gang j := by
  simp only [State.gang, h.stgRail]

theorem stgSt {m : Nat} (hm : s.stgRail m = n) : t.stgSt m = s.stgSt m := State.fld_congr (h.stage m hm) _

theorem tmax (j : Nat) : t.tmax j = s.tmax j := by
  rw [State.tmax, h.fld rfl, State.tmax]

theorem polSuspended : t.polSuspended n = s.polSuspended n := by
  have hst : t.railSt n = s.railSt n := h.fld rfl _
  rw [State.polSuspended, State.polBlocked_congr h.tp h.cm h.regang h.stgRail, hst, State.polSuspended]

theorem gangMoving : t.gangMoving n = s.gangMoving n := by
  rw [State.gangMoving, h.gang, State.gangMoving]
  exact any_congr_left fun m hm => by rw [h.stgSt (State.mem_gang.mp hm).2]

theorem rotating : t.rotating n = s.rotating n := by
  rw [State.rotating, h.gang, State.rotating]
  exact List.filter_congr fun m hm => by rw [h.stgSt (State.mem_gang.mp hm).2]

theorem inRotation : t.inRotation n = s.inRotation n := by
  rw [State.inRotation, h.gang, State.inRotation]
  refine List.filter_congr fun m hm => ?_
  rw [h.stgSt (State.mem_gang.mp hm).2, h.hidden m (State.mem_gang.mp hm).2]

theorem unparkable : t.unparkable n = s.unparkable n := by
  rw [State.unparkable, h.gang, State.unparkable]
  refine List.filter_congr fun m hm => ?_
  rw [h.stgSt (State.mem_gang.mp hm).2, h.hot m (State.mem_gang.mp hm).2, h.temp, h.tmax]

theorem parkable {m : Nat} (hm : s.stgRail m = n) : t.parkable m = s.parkable m := by
  have hother : ((t.gang (t.stgRail m)).any fun x => x != m && t.stgSt x == gRun) =
      (s.gang (s.stgRail m)).any fun x => x != m && s.stgSt x == gRun := by
    rw [h.stgRail, hm, h.gang]
    exact any_congr_left fun x hx => by rw [h.stgSt (State.mem_gang.mp hx).2]
  rw [State.parkable, hother, h.fld rfl, h.stgSt hm, State.parkable]

theorem coolest (l : List Nat) : t.coolest l = s.coolest l := by
  simp only [State.coolest, h.temp]

theorem hottest (l : List Nat) : t.hottest l = s.hottest l := by
  simp only [State.hottest, h.temp]

/-- The stage that comes back first. -/
theorem coolestParked : t.coolest ((t.unparkable n).filter fun m => decide (t.temp m < t.tmax n)) =
    s.coolest ((s.unparkable n).filter fun m => decide (s.temp m < s.tmax n)) := by
  simp only [h.coolest, h.unparkable, h.temp, h.tmax]

/-- The stage that is parked first. -/
theorem hottestParkable : t.hottest ((t.gang n).filter t.parkable) = s.hottest ((s.gang n).filter s.parkable) := by
  rw [h.hottest, h.gang, List.filter_congr fun m hm => h.parkable (State.mem_gang.mp hm).2]

theorem derTarget (x : Int) : t.derTarget n x = s.derTarget n x := by
  simp only [State.derTarget, h.tmax, h.fld (q := .POL_R_DER n) rfl]

theorem derateWants (m : Nat) : t.derateWants n m = s.derateWants n m := by
  rw [State.derateWants, State.bit_congr (h.rd _ rfl), State.bit_congr (h.rd _ rfl), h.temp, h.tmax, State.derateWants]

theorem limited : ((t.gang n).any fun m => t.fld (.STG_STATE m) Fld.STG_STATE_VLIMACT == 1) =
    (s.gang n).any fun m => s.fld (.STG_STATE m) Fld.STG_STATE_VLIMACT == 1 := by
  rw [h.gang]
  exact any_congr_left fun m hm => by rw [State.fld_congr (h.stage m (State.mem_gang.mp hm).2)]

theorem trans (k : GangStays n t u) : GangStays n s u where
  rd q hq := (k.rd q hq).trans (h.rd q hq)
  stage m hm := (k.stage m ((h.stgRail m).trans hm)).trans (h.stage m hm)
  state := k.state.trans h.state
  temp m := (k.temp m).trans (h.temp m)
  tp := k.tp.trans h.tp
  cm := k.cm.trans h.cm
  regang := k.regang.trans h.regang
  hidden m hm := (k.hidden m ((h.stgRail m).trans hm)).trans (h.hidden m hm)
  hot m hm := (k.hot m ((h.stgRail m).trans hm)).trans (h.hot m hm)
  derf := k.derf.trans h.derf

end GangStays

theorem GangStays.refl (n : Nat) (s : State) : GangStays n s s :=
  ⟨fun _ _ => rfl, fun _ _ => rfl, rfl, fun _ => rfl, rfl, rfl, rfl, fun _ _ => rfl, fun _ _ => rfl, rfl⟩

/-! ### The currents of a gang -/

namespace RailStays

variable (h : RailStays n s t)
include h

theorem iavg (m : Nat) : t.iavg m = s.iavg m := congrArg (toSigned 16) (State.fld_congr (h.meas m) _)

theorem rotCurrent : t.rotCurrent n = s.rotCurrent n := by
  rw [State.rotCurrent, h.rotating, List.map_congr_left fun m _ => h.iavg m, State.rotCurrent]

theorem inom : t.inom n = s.inom n := by
  rw [State.inom, h.fld rfl, State.inom]

theorem phaseHigh : t.phaseHigh n = s.phaseHigh n := by
  simp only [State.phaseHigh, h.rotating, h.rotCurrent, h.inom, h.fld (q := .POL_R_PHASE n) rfl]

theorem phaseLow : t.phaseLow n = s.phaseLow n := by
  simp only [State.phaseLow, h.rotating, h.rotCurrent, h.inom, h.fld (q := .POL_R_PHASE n) rfl]

theorem effVlim {m : Nat} (hm : s.stgRail m = n) : t.effVlim m = s.effVlim m := by
  have hvlim : t.vlimMa m = s.vlimMa m := by rw [State.vlimMa, h.fld rfl, State.vlimMa]
  have hsum : ((List.range 24).filter fun m => 16 ≤ m).map t.iavg =
      ((List.range 24).filter fun m => 16 ≤ m).map s.iavg :=
    List.map_congr_left fun m _ => h.iavg m
  simp only [State.effVlim, hvlim, hsum, h.stgRail, hm, h.derf, State.bit_congr (h.rd .SWY_STATUS rfl),
    h.fld (q := .SWY_IAGG) rfl]

theorem trans (k : RailStays n t u) : RailStays n s u where
  toGangStays := h.toGangStays.trans k.toGangStays
  meas m := (k.meas m).trans (h.meas m)
  high := k.high.trans h.high
  low := k.low.trans h.low
  msgs x hx := k.msgs x (h.msgs x hx)

end RailStays

theorem RailStays.refl (n : Nat) (s : State) : RailStays n s s :=
  ⟨.refl n s, fun _ => rfl, rfl, rfl, fun _ h => h⟩

theorem each_railStays {α : Type} (l : List α) {f : α → State → State} (hf : ∀ x ∈ l, ∀ s, RailStays n s (f x s)) :
    RailStays n s (each l f s) := by
  unfold each
  induction l generalizing s with
  | nil => exact .refl n s
  | cons x l ih =>
    exact (hf x List.mem_cons_self s).trans (ih fun y hy => hf y (List.mem_cons_of_mem _ hy))

/-- Of decisions on rails in turn, the one on rail `n` finds and leaves what it reads and writes as if it stood alone. -/
theorem each_decides {l : List Nat} (hn : n ∈ l) (hl : l.Nodup) {f : Nat → State → State}
    (hf : ∀ j, j ≠ n → ∀ s, RailStays n s (f j s)) :
    ∃ u, RailStays n s u ∧ RailStays n (f n u) (each l f s) := by
  obtain ⟨l1, l2, rfl⟩ := List.append_of_mem hn
  obtain ⟨-, hl2, hl1⟩ := List.nodup_append.mp hl
  have hnot : n ∉ l2 := (List.nodup_cons.mp hl2).1
  refine ⟨each l1 f s, each_railStays l1 fun x hx => hf x (hl1 x hx n List.mem_cons_self), ?_⟩
  have hsplit : each (l1 ++ n :: l2) f s = each l2 f (f n (each l1 f s)) := by simp [each]
  rw [hsplit]
  exact each_railStays l2 fun x hx => hf x fun hxn => hnot (hxn ▸ hx)

end Sys2Proof.Machine

/-!
SUPPORT. The operations of a decision on the stages of one gang leave every other rail; what a park and an unpark show
(R93).
-/

namespace Sys2Proof.Machine

variable {s : State} {n j m : Nat}

/-! ### Operations on the stages of another gang -/

theorem State.wr_railStays {r : Reg} (w : Word) (hr : r.policyKeeps = false)
    (hstage : ∀ m, s.stgRail m = n → .STG_STATE m ≠ r) (hstate : .POL_R_STATE n ≠ r) (hmeas : ∀ m, .STG_MEAS m ≠ r) :
    RailStays n s (s.wr r w) :=
  { RailStays.refl n s with
    rd := fun q hq => (State.rd_wr ..).trans (if_neg fun h : q = r => Bool.false_ne_true (hr.symm.trans (h ▸ hq)))
    stage := fun m hm => (State.rd_wr ..).trans (if_neg (hstage m hm))
    state := (State.rd_wr ..).trans (if_neg hstate)
    temp := fun m => congrArg (toSigned 12) (State.fld_congr ((State.rd_wr ..).trans (if_neg (hmeas m))) _)
    meas := fun m => (State.rd_wr ..).trans (if_neg (hmeas m)) }

theorem State.message_railStays (src info code : Nat) : RailStays n s (s.message src info code) :=
  { RailStays.refl n s with msgs := fun _ hx => List.mem_append_left _ hx }

theorem State.putPhase_railStays (hj : j ≠ n) (h l : Nat) : RailStays n s (s.putPhase j h l) :=
  { RailStays.refl n s with
    high := (Tab.get_set ..).trans (if_neg hj.symm)
    low := (Tab.get_set ..).trans (if_neg hj.symm) }

theorem State.putStgX_railStays (hm : s.stgRail m ≠ n) (x : StageX) : RailStays n s (s.putStgX m x) :=
  { RailStays.refl n s with hidden := fun k hk => (Tab.get_set ..).trans (if_neg fun h : k = m => hm (h ▸ hk)) }

theorem State.setHot_railStays (hm : s.stgRail m ≠ n) (b : Bool) : RailStays n s (s.setHot m b) :=
  { RailStays.refl n s with
    hot := fun k hk => by
      have hkm : k ≠ m := fun h => hm (h ▸ hk)
      cases b <;> simp [State.setHot, hkm] }

theorem State.setState_railStays (hm : s.stgRail m ≠ n) (f : Field) (v : Nat) : RailStays n s (s.put (.STG_STATE m) f v) :=
  State.wr_railStays _ rfl (fun _ hk h => hm (Reg.STG_STATE.inj h ▸ hk)) (by simp) (by simp)

theorem State.unsettle_railStays : RailStays n s (s.unsettle j) :=
  each_railStays _ fun k _ s => by
    have hcount : RailStays n s (s.put (.LPS_STAT k) Fld.LPS_STAT_MWCNT 0) :=
      State.wr_railStays _ rfl (by simp) (by simp) (by simp)
    exact { hcount with }

theorem State.park_railStays (hm : s.stgRail m ≠ n) (cause : Nat) : RailStays n s (s.park m cause) := by
  have hleave := (State.setHot_railStays hm (cause == 2)).trans
    (State.setState_railStays (s := s.setHot m (cause == 2)) hm Fld.STG_STATE_STATE gLeave)
  have hsettle := hleave.trans (State.unsettle_railStays (j := s.stgRail m))
  exact (hsettle.trans (State.putStgX_railStays (fun h => hm ((hsettle.stgRail m).symm.trans h)) _)).trans
    (State.message_railStays ..)

theorem State.unpark_railStays (hm : s.stgRail m ≠ n) (cause : Nat) : RailStays n s (s.unpark m cause) := by
  have htest := State.setState_railStays hm Fld.STG_STATE_STATE gTest
  exact ((htest.trans (State.putStgX_railStays (fun h => hm ((htest.stgRail m).symm.trans h)) _)).trans
    State.unsettle_railStays).trans (State.message_railStays ..)

theorem State.measure_gangStays (l : List StageMeas) : GangStays n s (s.measure l) := by
  unfold State.measure each
  induction l generalizing s with
  | nil => exact .refl n s
  | cons x l ih =>
    refine GangStays.trans ?_ ih
    exact { GangStays.refl n s with
      rd := fun q hq => (State.rd_put ..).trans (if_neg fun h => by rw [h] at hq; cases hq)
      stage := fun m _ => (State.rd_put ..).trans (if_neg (by simp))
      state := (State.rd_put ..).trans (if_neg (by simp))
      temp := fun m => by
        rw [State.temp, State.fld, State.rd_put]
        split
        next hm => rw [getF_putF_other _ _ _ _ rfl (by decide), ← hm]; rfl
        next => rfl }

/-- Fresh measurements change registers alone. -/
theorem State.measure_eq (l : List StageMeas) : ∃ regs, s.measure l = { s with regs := regs } := by
  unfold State.measure each
  induction l generalizing s with
  | nil => exact ⟨_, rfl⟩
  | cons x l ih => exact ih

/-! ### A park and an unpark (R93) -/

theorem State.unsettle_stgSt (k : Nat) : (s.unsettle j).stgSt k = s.stgSt k :=
  State.fld_congr (Keeps.regs (B := (· = .lpe)) (M := True) (State.unsettle_keeps (Keeps.refl s) rfl) _ (by simp)) _

theorem State.po_unsettle : (s.unsettle j).po = s.po := by
  unfold State.unsettle each
  exact List.foldlRecOn (motive := fun t : State => t.po = s.po) _ _ rfl fun _ h _ _ => h

theorem State.stgSt_setState {k v : Nat} (hv : v < 16) : (s.put (.STG_STATE k) Fld.STG_STATE_STATE v).stgSt k = v := by
  rw [State.stgSt, State.fld, State.rd_put, if_pos rfl, getF_putF _ _ _ rfl]
  exact Nat.mod_eq_of_lt hv

theorem State.unpark_shows (m cause : Nat) : (s.unpark m cause).stgSt m = gTest ∧
    ∃ x ∈ (s.unpark m cause).ev.msgs, x.src = 94 ∧ x.info = polInfo (s.stgRail m) m ∧ x.code = cause :=
  ⟨(State.unsettle_stgSt m).trans (State.stgSt_setState (by decide)),
    _, List.mem_append_right _ (List.mem_singleton_self _), rfl, rfl, rfl⟩

theorem State.park_shows (m cause : Nat) : (s.park m cause).stgSt m = gLeave ∧ ((s.park m cause).stgX m).parking = true ∧
    ∃ x ∈ (s.park m cause).ev.msgs, x.src = 93 ∧ x.info = polInfo (s.stgRail m) m ∧ x.code = cause := by
  refine ⟨(State.unsettle_stgSt m).trans (State.stgSt_setState (by decide)), ?_,
    _, List.mem_append_right _ (List.mem_singleton_self _), rfl, rfl, rfl⟩
  exact congrArg StageX.parking ((Tab.get_set ..).trans (if_pos rfl))

theorem State.hot_park (m : Nat) : m ∈ (s.park m 2).po.hot := by
  have hpo : (s.park m 2).po = (s.setHot m true).po := State.po_unsettle
  rw [hpo]
  exact List.mem_cons_self

end Sys2Proof.Machine

/-! SUPPORT. Phase count on one rail (R227, R228). -/

namespace Sys2Proof.Machine

variable {s : State} {n j m : Nat}

theorem State.coolest_mem {l : List Nat} (h : s.coolest l = some m) : m ∈ l := by
  refine mem_of_foldl_choice (fun o x => ?_) h
  cases o with
  | none => exact .inr rfl
  | some y =>
    dsimp only
    split
    · exact .inr rfl
    · exact .inl rfl

theorem State.hottest_mem {l : List Nat} (h : s.hottest l = some m) : m ∈ l := by
  refine mem_of_foldl_choice (fun o x => ?_) h
  cases o with
  | none => exact .inr rfl
  | some y =>
    dsimp only
    split
    · exact .inr rfl
    · exact .inl rfl

theorem State.unparkable_mem (h : m ∈ s.unparkable n) : s.stgRail m = n :=
  (State.mem_gang.mp (List.mem_filter.mp h).1).2

theorem State.stgRail_unpark (cause : Nat) : (s.unpark m cause).stgRail m = s.stgRail m :=
  (State.unpark_railStays (Nat.succ_ne_self _).symm cause).stgRail m

theorem State.stgRail_park (cause : Nat) : (s.park m cause).stgRail m = s.stgRail m :=
  (State.park_railStays (Nat.succ_ne_self _).symm cause).stgRail m

/-! ### What a decision can do -/

theorem State.phasePark_cases (s : State) (n : Nat) :
    s.phasePark n = s ∨ ∃ m, s.stgRail m = n ∧ s.phasePark n = s.park m 1 := by
  unfold State.phasePark
  split
  · exact .inl rfl
  next m hm =>
    dsimp only
    split
    · exact .inr ⟨m, (State.mem_gang.mp (List.mem_filter.mp (State.hottest_mem hm)).1).2, rfl⟩
    · exact .inl rfl

/-- Evaluations in a row above HIGH, the present one included (R227). -/
def State.highRun (s : State) (n : Nat) : Nat := if s.phaseHigh n then s.po.phHigh.get n 0 + 1 else 0

/-- Evaluations in a row below LOW, the present one included (R227). -/
def State.lowRun (s : State) (n : Nat) : Nat := if s.phaseLow n then s.po.phLow.get n 0 + 1 else 0

/-- The decision on a rail after `h` evaluations in a row above HIGH and `l` below LOW. -/
def State.phaseDecide (s : State) (n h l : Nat) : State :=
  if s.gangMoving n then s
  else if 2 ≤ h || (s.gang n).any (fun m => s.fld (.STG_STATE m) Fld.STG_STATE_VLIMACT == 1) then
    match s.coolest ((s.unparkable n).filter fun m => decide (s.temp m < s.tmax n)) with
    | some m => s.unpark m 1
    | none => s
  else if 11 ≤ l then s.phasePark n else s

theorem State.phaseCount_eq (s : State) (n : Nat) : s.phaseCount n =
    if !s.bit (.POL_R_PHASE n) 19 || s.polSuspended n then s.putPhase n 0 0
    else (s.putPhase n (s.highRun n) (s.lowRun n)).phaseDecide n (s.highRun n) (s.lowRun n) := rfl

/-- A decision at most parks or unparks one stage of the gang (R226). -/
theorem State.phaseDecide_cases (s : State) (n h l : Nat) : s.phaseDecide n h l = s ∨
    ∃ m, s.stgRail m = n ∧ (s.phaseDecide n h l = s.unpark m 1 ∨ s.phaseDecide n h l = s.park m 1) := by
  unfold State.phaseDecide
  split
  · exact .inl rfl
  split
  · split
    next m hm => exact .inr ⟨m, State.unparkable_mem (List.mem_filter.mp (State.coolest_mem hm)).1, .inl rfl⟩
    next => exact .inl rfl
  split
  · exact (s.phasePark_cases n).imp id fun ⟨m, hm, hpark⟩ => ⟨m, hm, .inr hpark⟩
  · exact .inl rfl

theorem State.phaseDecide_railStays (hj : j ≠ n) (h l : Nat) : RailStays n s (s.phaseDecide j h l) := by
  obtain hdecide | ⟨m, rfl, hdecide | hdecide⟩ := s.phaseDecide_cases j h l
  · rw [hdecide]
    exact .refl n s
  · rw [hdecide]
    exact State.unpark_railStays hj 1
  · rw [hdecide]
    exact State.park_railStays hj 1

theorem State.phaseCount_railStays (hj : j ≠ n) (s : State) : RailStays n s (s.phaseCount j) := by
  rw [State.phaseCount_eq]
  split
  · exact State.putPhase_railStays hj 0 0
  · exact (State.putPhase_railStays hj _ _).trans (State.phaseDecide_railStays hj _ _)

/-! ### A decision that parks or unparks -/

theorem State.phaseDecide_unparks {h : Nat} (l : Nat) (hmoving : s.gangMoving n = false) (hh : 2 ≤ h)
    (hcool : s.coolest ((s.unparkable n).filter fun m => decide (s.temp m < s.tmax n)) = some m) :
    s.phaseDecide n h l = s.unpark m 1 := by
  rw [State.phaseDecide, if_neg (by simp [hmoving]), if_pos (by simp [hh]), hcool]

theorem State.phaseDecide_parks {l : Nat} (hmoving : s.gangMoving n = false)
    (hlimit : ((s.gang n).any fun m => s.fld (.STG_STATE m) Fld.STG_STATE_VLIMACT == 1) = false) (hl : 11 ≤ l) :
    s.phaseDecide n 0 l = s.phasePark n := by
  rw [State.phaseDecide, if_neg (by simp [hmoving]), hlimit]
  exact if_pos hl

/-- The stages that stay when one is parked (R227). -/
def State.staying (s : State) (n m : Nat) : List Nat := (s.rotating n).filter (· != m)

theorem State.phasePark_parks (hhot : s.hottest ((s.gang n).filter s.parkable) = some m)
    (hmin : s.fld (.POL_R_PHASE n) Fld.POL_R_PHASE_MINPH ≤ (s.staying n m).length)
    (hload : s.rotCurrent n < 8 * sumR ((s.staying n m).map s.effVlim) / 10) (hspared : s.derateWants n m = false) :
    s.phasePark n = s.park m 1 := by
  rw [State.phasePark, hhot]
  exact if_pos ⟨hmin, hload, hspared⟩

section
variable (hen : s.bit (.POL_R_PHASE n) 19 = true) (hsusp : s.polSuspended n = false) (hmoving : s.gangMoving n = false)
include hen hsusp hmoving

theorem State.phaseCount_unparks (hhigh : s.phaseHigh n = true) (hcount : 1 ≤ s.po.phHigh.get n 0)
    (hcool : s.coolest ((s.unparkable n).filter fun m => decide (s.temp m < s.tmax n)) = some m) :
    ∃ h l, s.phaseCount n = (s.putPhase n h l).unpark m 1 := by
  have hrun : s.highRun n = s.po.phHigh.get n 0 + 1 := if_pos hhigh
  refine ⟨s.highRun n, s.lowRun n, ?_⟩
  rw [State.phaseCount_eq, if_neg (by simp [hen, hsusp])]
  exact State.phaseDecide_unparks _ hmoving (by omega) hcool

theorem State.phaseCount_parks (hhigh : s.phaseHigh n = false) (hlow : s.phaseLow n = true)
    (hcount : 10 ≤ s.po.phLow.get n 0)
    (hlimit : ((s.gang n).any fun m => s.fld (.STG_STATE m) Fld.STG_STATE_VLIMACT == 1) = false)
    (hhot : s.hottest ((s.gang n).filter s.parkable) = some m)
    (hmin : s.fld (.POL_R_PHASE n) Fld.POL_R_PHASE_MINPH ≤ (s.staying n m).length)
    (hload : s.rotCurrent n < 8 * sumR ((s.staying n m).map s.effVlim) / 10) (hspared : s.derateWants n m = false) :
    ∃ h l, s.phaseCount n = (s.putPhase n h l).park m 1 := by
  have hnone : s.highRun n = 0 := if_neg (by simp [hhigh])
  have hrun : s.lowRun n = s.po.phLow.get n 0 + 1 := if_pos hlow
  have hlong : 11 ≤ s.lowRun n := by omega
  refine ⟨0, s.lowRun n, ?_⟩
  rw [State.phaseCount_eq, if_neg (by simp [hen, hsusp]), hnone,
    State.phaseDecide_parks (s := s.putPhase n 0 (s.lowRun n)) hmoving hlimit hlong]
  exact State.phasePark_parks (s := s.putPhase n 0 (s.lowRun n)) hhot hmin hload hspared

end

end Sys2Proof.Machine

/-! SUPPORT. PHASE_COUNT_EVAL: the evaluation of all rails, and the PHASE lock (R225, R227). -/

namespace Sys2Proof.Machine

open Host (Outcome)

variable {s : State} {n m : Nat} {l : List StageMeas}

@[simp] theorem State.policyWorks_measure (l : List StageMeas) : (s.measure l).policyWorks = s.policyWorks := by
  obtain ⟨regs, hregs⟩ := s.measure_eq l
  rw [hregs]
  rfl

@[simp] theorem State.po_measure (l : List StageMeas) : (s.measure l).po = s.po := by
  obtain ⟨regs, hregs⟩ := s.measure_eq l
  rw [hregs]

theorem State.bit_measure {q : Reg} (l : List StageMeas) (hq : q.policyKeeps = true) (b : Nat) :
    (s.measure l).bit q b = s.bit q b :=
  State.bit_congr ((State.measure_gangStays (n := 0) l).rd q hq) b

/-! ### Phase count without its lock -/

/-- Fresh measurements, and the lock is not met any longer. -/
def State.phaseFree (s : State) (l : List StageMeas) : State :=
  { s.measure l with po := { (s.measure l).po with lockSeen := false, lockRails := [] } }

theorem State.phaseFree_railStays : RailStays n (s.measure l) (s.phaseFree l) :=
  { RailStays.refl n (s.measure l) with }

theorem exec_phaseCountEval (hw : s.policyWorks = true) (hlock : s.bit .POL_LOCK 0 = false) :
    exec (.phaseCountEval l) s = .next (each (List.range 16) (fun n s => s.phaseCount n) (s.phaseFree l)) := by
  refine congrArg Outcome.next ((if_neg ?_).trans (if_neg ?_))
  · simp [hw]
  · rw [State.bit_measure l rfl, hlock]
    exact Bool.false_ne_true

/-- The decision on a rail finds what the measurements left of it, and what it does to the rail stands at the end of the
evaluation. -/
theorem exec_phaseCountEval_decides (hw : s.policyWorks = true) (hlock : s.bit .POL_LOCK 0 = false) (hn : n < 16) :
    ∃ u t, exec (.phaseCountEval l) s = .next t ∧ RailStays n (s.measure l) u ∧ RailStays n (u.phaseCount n) t := by
  obtain ⟨u, hu, ht⟩ := each_decides (s := s.phaseFree l) (List.mem_range.mpr hn) List.nodup_range
    fun _ hj => State.phaseCount_railStays hj
  exact ⟨u, _, exec_phaseCountEval hw hlock, State.phaseFree_railStays.trans hu, ht⟩

theorem State.unparked_shows {t : State} {cause : Nat} (hm : s.stgRail m = n) (ht : RailStays n (s.unpark m cause) t) :
    t.stgSt m = 1 ∧ ∃ x ∈ t.ev.msgs, x.src = 94 ∧ x.info = 256 * n + m ∧ x.code = cause := by
  obtain ⟨hst, x, hx, hsrc, hinfo, hcode⟩ := s.unpark_shows m cause
  rw [hm] at hinfo
  exact ⟨(ht.stgSt ((State.stgRail_unpark cause).trans hm)).trans hst, x, ht.msgs x hx, hsrc, hinfo, hcode⟩

theorem State.parked_shows {t : State} {cause : Nat} (hm : s.stgRail m = n) (ht : RailStays n (s.park m cause) t) :
    t.stgSt m = 5 ∧ (t.stgX m).parking = true ∧
      ∃ x ∈ t.ev.msgs, x.src = 93 ∧ x.info = 256 * n + m ∧ x.code = cause := by
  obtain ⟨hst, hparking, x, hx, hsrc, hinfo, hcode⟩ := s.park_shows m cause
  have hrail := (State.stgRail_park (s := s) cause).trans hm
  rw [hm] at hinfo
  exact ⟨(ht.stgSt hrail).trans hst, (congrArg StageX.parking (ht.hidden m hrail)).trans hparking, x, ht.msgs x hx, hsrc,
    hinfo, hcode⟩

section
variable (hw : s.policyWorks = true) (hlock : s.bit .POL_LOCK 0 = false) (hn : n < 16)
  (hen : s.bit (.POL_R_PHASE n) 19 = true) (hsusp : s.polSuspended n = false) (hmoving : s.gangMoving n = false)
include hw hlock hn hen hsusp hmoving

theorem exec_phaseCountEval_unparks (hhigh : (s.measure l).phaseHigh n = true) (hcount : 1 ≤ s.po.phHigh.get n 0)
    (hcool : (s.measure l).coolest (((s.measure l).unparkable n).filter fun m =>
      decide ((s.measure l).temp m < (s.measure l).tmax n)) = some m) :
    ∃ t, exec (.phaseCountEval l) s = .next t ∧ t.stgSt m = 1 ∧
      ∃ x ∈ t.ev.msgs, x.src = 94 ∧ x.info = 256 * n + m ∧ x.code = 1 := by
  obtain ⟨u, t, hexec, hu, ht⟩ := exec_phaseCountEval_decides (l := l) hw hlock hn
  have hs : GangStays n s u := (State.measure_gangStays l).trans hu.toGangStays
  have hrail : u.stgRail m = n :=
    (hu.stgRail m).trans (State.unparkable_mem (List.mem_filter.mp (State.coolest_mem hcool)).1)
  obtain ⟨h, k, hdecide⟩ := State.phaseCount_unparks ((State.bit_congr (hs.rd _ rfl) 19).trans hen)
    (hs.polSuspended.trans hsusp) (hs.gangMoving.trans hmoving) (hu.phaseHigh.trans hhigh)
    (by rw [hu.high, State.po_measure]; exact hcount) (hu.coolestParked.trans hcool)
  rw [hdecide] at ht
  exact ⟨t, hexec, State.unparked_shows (s := u.putPhase n h k) hrail ht⟩

theorem exec_phaseCountEval_parks (hhigh : (s.measure l).phaseHigh n = false) (hlow : (s.measure l).phaseLow n = true)
    (hcount : 10 ≤ s.po.phLow.get n 0) (hlimit : ∀ x ∈ s.gang n, s.fld (.STG_STATE x) Fld.STG_STATE_VLIMACT = 0)
    (hhot : (s.measure l).hottest (((s.measure l).gang n).filter (s.measure l).parkable) = some m)
    (hspared : (s.measure l).derateWants n m = false)
    (hmin : s.fld (.POL_R_PHASE n) Fld.POL_R_PHASE_MINPH ≤ ((s.measure l).staying n m).length)
    (hload : (s.measure l).rotCurrent n < 8 * sumR (((s.measure l).staying n m).map (s.measure l).effVlim) / 10) :
    ∃ t, exec (.phaseCountEval l) s = .next t ∧ t.stgSt m = 5 ∧ (t.stgX m).parking = true ∧
      ∃ x ∈ t.ev.msgs, x.src = 93 ∧ x.info = 256 * n + m ∧ x.code = 1 := by
  obtain ⟨u, t, hexec, hu, ht⟩ := exec_phaseCountEval_decides (l := l) hw hlock hn
  have hs : GangStays n s u := (State.measure_gangStays l).trans hu.toGangStays
  have hrail : u.stgRail m = n :=
    (hu.stgRail m).trans (State.mem_gang.mp (List.mem_filter.mp (State.hottest_mem hhot)).1).2
  have hstay : u.staying n m = (s.measure l).staying n m := congrArg (List.filter (· != m)) hu.rotating
  have hvlim : (u.staying n m).map u.effVlim = ((s.measure l).staying n m).map (s.measure l).effVlim := by
    rw [hstay]
    exact List.map_congr_left fun x hx =>
      hu.effVlim (State.mem_gang.mp (List.mem_filter.mp (List.mem_filter.mp hx).1).1).2
  have hunlimited : ((u.gang n).any fun m => u.fld (.STG_STATE m) Fld.STG_STATE_VLIMACT == 1) = false := by
    rw [hs.limited, List.any_eq_false]
    exact fun x hx => by simp [hlimit x hx]
  obtain ⟨h, k, hdecide⟩ := State.phaseCount_parks ((State.bit_congr (hs.rd _ rfl) 19).trans hen)
    (hs.polSuspended.trans hsusp) (hs.gangMoving.trans hmoving) (hu.phaseHigh.trans hhigh) (hu.phaseLow.trans hlow)
    (by rw [hu.low, State.po_measure]; exact hcount) hunlimited (hu.hottestParkable.trans hhot)
    (by rw [hs.fld rfl, hstay]; exact hmin) (by rw [hu.rotCurrent, hvlim]; exact hload)
    ((hu.derateWants m).trans hspared)
  rw [hdecide] at ht
  exact ⟨t, hexec, State.parked_shows (s := u.putPhase n h k) hrail ht⟩

end

/-! ### The PHASE lock (R225) -/

/-- Fresh measurements, and no count runs under the lock. -/
def State.phaseLocked (s : State) (l : List StageMeas) : State :=
  { s.measure l with po := { (s.measure l).po with phHigh := [], phLow := [] } }

theorem exec_phaseCountEval_locked (hw : s.policyWorks = true) (hlock : s.bit .POL_LOCK 0 = true) :
    exec (.phaseCountEval l) s = .next (s.phaseLocked l).phaseLock := by
  refine congrArg Outcome.next ((if_neg ?_).trans (if_pos ?_))
  · simp [hw]
  · rw [State.bit_measure l rfl, hlock]

/-- The lock is met by its first evaluation: the rails that are ON have their parked stages to unpark. -/
def State.lockMet (s : State) : State :=
  { s with po := { s.po with lockSeen := true, lockRails := (List.range 16).filter fun n => s.railSt n == rOn } }

/-- The rails on which the lock unparks a stage at an evaluation. -/
def State.lockReady (s : State) : List Nat := s.po.lockRails.filter fun n => !s.polSuspended n && !s.gangMoving n

/-- The lowest parked stage of a rail is unparked with cause LOCK. -/
def State.unparkLowest (s : State) (n : Nat) : State :=
  match s.unparkable n with
  | m :: _ => s.unpark m 3
  | [] => s

theorem State.unparkLowest_railStays {j : Nat} (hj : j ≠ n) (s : State) : RailStays n s (s.unparkLowest j) := by
  unfold State.unparkLowest
  split
  next m _ h =>
    refine State.unpark_railStays (fun hm => hj ?_) 3
    exact (State.unparkable_mem (h ▸ List.mem_cons_self)).symm.trans hm
  next => exact .refl n s

theorem State.unparkLowest_head (h : (s.unparkable n).head? = some m) : s.unparkLowest n = s.unpark m 3 := by
  obtain ⟨l, hl⟩ := List.head?_eq_some_iff.mp h
  rw [State.unparkLowest, hl]

theorem State.stgSt_phaseLock (hseen : s.po.lockSeen = false) (m : Nat) : s.phaseLock.stgSt m =
    (each s.lockMet.lockReady (fun n s => s.unparkLowest n) s.lockMet).stgSt m := by
  rw [State.phaseLock, hseen]
  rfl

theorem State.stgSt_phaseLock_lowest (hseen : s.po.lockSeen = false) (hn : n < 16) (hon : s.railSt n = 4)
    (hsusp : s.polSuspended n = false) (hmoving : s.gangMoving n = false) (hm : (s.unparkable n).head? = some m) :
    s.phaseLock.stgSt m = 1 := by
  have hmet : RailStays n s s.lockMet := { RailStays.refl n s with }
  have hready : n ∈ s.lockMet.lockReady := by
    refine List.mem_filter.mpr ⟨List.mem_filter.mpr ⟨List.mem_range.mpr hn, by simp [hon]⟩, ?_⟩
    rw [hmet.polSuspended, hmet.gangMoving, hsusp, hmoving]
    rfl
  obtain ⟨u, hu, ht⟩ := each_decides (s := s.lockMet) hready ((List.nodup_range.filter _).filter _)
    fun _ hj => State.unparkLowest_railStays hj
  have hs : RailStays n s u := hmet.trans hu
  rw [State.unparkLowest_head ((congrArg List.head? hs.unparkable).trans hm)] at ht
  rw [State.stgSt_phaseLock hseen]
  exact (State.unparked_shows ((hs.stgRail m).trans (State.unparkable_mem (List.mem_of_mem_head? hm))) ht).1

theorem exec_phaseCountEval_lock (hw : s.policyWorks = true) (hlock : s.bit .POL_LOCK 0 = true)
    (hseen : s.po.lockSeen = false) (hn : n < 16) (hon : s.railSt n = 4) (hsusp : s.polSuspended n = false)
    (hmoving : s.gangMoving n = false) (hm : (s.unparkable n).head? = some m) :
    ∃ t, exec (.phaseCountEval l) s = .next t ∧ t.stgSt m = 1 := by
  have hs : GangStays n s (s.phaseLocked l) :=
    (State.measure_gangStays l).trans { GangStays.refl n (s.measure l) with }
  refine ⟨_, exec_phaseCountEval_locked hw hlock, State.stgSt_phaseLock_lowest ?_ hn ((hs.fld rfl _).trans hon)
    (hs.polSuspended.trans hsusp) (hs.gangMoving.trans hmoving) ((congrArg List.head? hs.unparkable).trans hm)⟩
  exact (congrArg PoX.lockSeen (State.po_measure l)).trans hseen

end Sys2Proof.Machine

/-! SUPPORT. Derating: the factor of a rail and the park of a hot stage (R229, R230). -/

namespace Sys2Proof.Machine

open Host (Outcome)

variable {s : State} {n j m : Nat} {l : List StageMeas}

/-! ### The factor (R229) -/

/-- A factor moves to another. -/
def State.factorMoved (s : State) (n : Nat) (f : Rat) : State :=
  ({ s with po := { s.po with derf := s.po.derf.set n f } } : State).put (.POL_R_STATE n) Fld.POL_R_STATE_DERF
    (roundOpen f).toNat

/-- The factor of a rail after one evaluation at temperature `x`. -/
def State.nextFactor (s : State) (n : Nat) (x : Int) : Rat :=
  max (min (s.derTarget n x) (s.po.derf.get n 100 + 1)) (s.po.derf.get n 100 - 1)

theorem stepTowards_eq (old f : Rat) : (if f < old - 1 then old - 1 else if old + 1 < f then old + 1 else f) =
    max (min f (old + 1)) (old - 1) := by
  grind

theorem State.derate_none (h : s.hottest (s.inRotation n) = none) : s.derate n = s := by
  rw [State.derate, h]

theorem State.derate_some (h : s.hottest (s.inRotation n) = some m) : s.derate n =
    if !s.bit (.POL_R_DER n) 31 || s.polSuspended n then s
    else if derMark (s.po.derf.get n 100) (s.nextFactor n (s.temp m)) then
      (s.factorMoved n (s.nextFactor n (s.temp m))).message 99 (polInfo n 0xFF) 2
    else s.factorMoved n (s.nextFactor n (s.temp m)) := by
  simp only [State.derate, h, stepTowards_eq]
  rfl

theorem State.factorMoved_railStays (hj : j ≠ n) (f : Rat) : RailStays n s (s.factorMoved j f) := by
  have hderf : RailStays n s { s with po := { s.po with derf := s.po.derf.set j f } } :=
    { RailStays.refl n s with derf := (Tab.get_set ..).trans (if_neg hj.symm) }
  exact hderf.trans (State.wr_railStays _ rfl (by simp) (by simpa using hj.symm) (by simp))

theorem State.derate_railStays (hj : j ≠ n) (s : State) : RailStays n s (s.derate j) := by
  cases h : s.hottest (s.inRotation j) with
  | none =>
    rw [State.derate_none h]
    exact .refl n s
  | some m =>
    have hmoved : RailStays n s (s.factorMoved j (s.nextFactor j (s.temp m))) := State.factorMoved_railStays hj _
    rw [State.derate_some h]
    split
    · exact .refl n s
    split
    · exact hmoved.trans (State.message_railStays ..)
    · exact hmoved

theorem State.factorMoved_shows (f : Rat) : (s.factorMoved n f).po.derf.get n 100 = f ∧
    (s.factorMoved n f).fld (.POL_R_STATE n) Fld.POL_R_STATE_DERF = (roundOpen f).toNat % 256 := by
  refine ⟨(Tab.get_set ..).trans (if_pos rfl), ?_⟩
  rw [State.fld, State.factorMoved, State.rd_put, if_pos rfl]
  exact getF_putF _ _ _ rfl

/-- The factor of a rail on which derating acts. -/
theorem State.derate_shows (hhot : s.hottest (s.inRotation n) = some m) (hen : s.bit (.POL_R_DER n) 31 = true)
    (hsusp : s.polSuspended n = false) : (s.derate n).po.derf.get n 100 = s.nextFactor n (s.temp m) ∧
      (s.derate n).fld (.POL_R_STATE n) Fld.POL_R_STATE_DERF = (roundOpen (s.nextFactor n (s.temp m))).toNat % 256 := by
  rw [State.derate_some hhot, if_neg (by simp [hen, hsusp])]
  split
  · exact State.factorMoved_shows _
  · exact State.factorMoved_shows _

theorem exec_derateEval (hw : s.policyWorks = true) (hlock : s.bit .POL_LOCK 3 = false) :
    exec (.derateEval l) s = .next (each (List.range 16) (fun n s => s.derate n) (s.measure l)) := by
  refine congrArg Outcome.next (if_neg ?_)
  simp [hw, hlock]

theorem exec_derateEval_moves (hw : s.policyWorks = true) (hlock : s.bit .POL_LOCK 3 = false) (hn : n < 16)
    (hen : s.bit (.POL_R_DER n) 31 = true) (hsusp : s.polSuspended n = false)
    (hhot : (s.measure l).hottest ((s.measure l).inRotation n) = some m) :
    ∃ t, exec (.derateEval l) s = .next t ∧
      t.po.derf.get n 100 = max (min ((s.measure l).derTarget n ((s.measure l).temp m)) (s.po.derf.get n 100 + 1))
        (s.po.derf.get n 100 - 1) ∧
      t.fld (.POL_R_STATE n) Fld.POL_R_STATE_DERF = (roundOpen (t.po.derf.get n 100)).toNat % 256 := by
  obtain ⟨u, hu, ht⟩ := each_decides (s := s.measure l) (List.mem_range.mpr hn) List.nodup_range
    fun _ hj => State.derate_railStays hj
  have hs : GangStays n s u := (State.measure_gangStays l).trans hu.toGangStays
  have hnext : u.nextFactor n (u.temp m) = max (min ((s.measure l).derTarget n ((s.measure l).temp m))
      (s.po.derf.get n 100 + 1)) (s.po.derf.get n 100 - 1) := by
    rw [State.nextFactor, hu.derTarget, hu.temp, hs.derf]
  obtain ⟨hfactor, hshown⟩ := State.derate_shows ((hu.hottest _).trans ((congrArg _ hu.inRotation).trans hhot))
    ((State.bit_congr (hs.rd _ rfl) 31).trans hen) (hs.polSuspended.trans hsusp)
  rw [hnext] at hfactor hshown
  have hstands := ht.derf.trans hfactor
  refine ⟨_, exec_derateEval hw hlock, hstands, ?_⟩
  rw [hstands, State.fld_congr ht.state]
  exact hshown

/-! ### The park of a hot stage (R230) -/

/-- OT_PARK acts where derating does, on a stage in rotation at or above TMAX. -/
theorem exec_otPark {m : Fin 24} (hn : s.stgRail m < 16) (hw : s.policyWorks = true)
    (hen : s.bit (.POL_R_DER (s.stgRail m)) 31 = true) (hlock : s.bit .POL_LOCK 3 = false)
    (hsusp : s.polSuspended (s.stgRail m) = false) (hrot : m.val ∈ s.inRotation (s.stgRail m))
    (hhot : s.tmax (s.stgRail m) ≤ s.temp m) : exec (.otPark m) s = .next
      (if s.parkable m then if s.gangMoving (s.stgRail m) then s else s.park m 2
        else if (s.gang (s.stgRail m)).any s.parkable then s
        else (s.live (136 + s.stgRail m) true).raise (136 + s.stgRail m) 0) := by
  refine congrArg Outcome.next (if_pos ?_)
  simp [hn, hw, hen, hlock, hsusp, hrot, hhot]

end Sys2Proof.Machine

/-! SUPPORT. The mode of the VIN sense, and the writes of the policy layer's registers (R231, R236). -/

namespace Sys2Proof.Machine

open Host (Outcome)

variable {s : State} {n : Nat} {i : Iface} {v : Word} {f : FfwdIn}

/-! ### Feed-forward (R231) -/

/-- Evaluations in a row above FFRIP, the present one included. -/
def State.aboveRun (s : State) (f : FfwdIn) : Nat :=
  if 10 * s.fld (.POL_R_CFG f.rail) Fld.POL_R_CFG_FFRIP < f.ripple then s.po.ffAbove.get f.rail 0 + 1 else 0

/-- Evaluations in a row below half of FFRIP, the present one included. -/
def State.belowRun (s : State) (f : FfwdIn) : Nat :=
  if 2 * f.ripple < 10 * s.fld (.POL_R_CFG f.rail) Fld.POL_R_CFG_FFRIP then s.po.ffBelow.get f.rail 0 + 1 else 0

/-- The runs are stored. -/
def State.ffCounted (s : State) (f : FfwdIn) : State :=
  { s with po := { s.po with
    ffAbove := s.po.ffAbove.set f.rail (s.aboveRun f), ffBelow := s.po.ffBelow.set f.rail (s.belowRun f) } }

theorem exec_ffwdEval (hw : s.policyWorks = true) (hlock : s.bit .POL_LOCK 2 = false)
    (hen : s.bit (.POL_R_CFG f.rail) 31 = true) (hsusp : s.polSuspended f.rail = false) :
    exec (.ffwdEval [f]) s = .next
      (if s.bit (.POL_R_STATE f.rail) 8 then
        if 100 ≤ s.belowRun f then (s.ffCounted f).ffMode f.rail false else s.ffCounted f
      else if 10 ≤ s.aboveRun f ∧ f.waited = true then (s.ffCounted f).ffMode f.rail true else s.ffCounted f) := by
  refine congrArg Outcome.next ((if_neg (by simp [hw])).trans ((if_neg (by simp [hlock])).trans ?_))
  exact if_neg (by simp [hen, hsusp])

/-- A switch of the mode stands, and the counts begin afresh. -/
theorem State.ffMode_shows {damp : Bool} (h : s.bit (.POL_R_STATE n) 8 ≠ damp) :
    (s.ffMode n damp).bit (.POL_R_STATE n) 8 = damp ∧ (s.ffMode n damp).po.ffAbove.get n 0 = 0 := by
  rw [State.ffMode, if_neg (by simpa using h)]
  refine ⟨?_, (Tab.get_set ..).trans (if_pos rfl)⟩
  exact State.bit_putBit (s := s) (.POL_R_STATE n) damp (by decide)

/-! ### Writes (R225, R236) -/

theorem exec_polLockWrite (h : s.takes .POL_LOCK = true) :
    exec (.polLockWrite i v 0xF#4) s = .next (s.writeRw .POL_LOCK v) := by
  refine congrArg Outcome.next ((State.guardWrite_takes h).trans ?_)
  rw [State.merged_whole, State.plainWrite, show v &&& Reg.w1c .POL_LOCK = 0#32 from BitVec.and_zero]
  exact State.clearFlags_zero _

theorem exec_polPhaseWrite {n : Fin 20} (h : s.takes (.POL_R_PHASE n) = true) :
    exec (.polLimitWrite i true n v 0xF#4) s = .next (s.wrPolPhase n v) :=
  congrArg Outcome.next ((if_pos rfl).trans ((State.guardWrite_takes h).trans
    (congrArg (s.wrPolPhase n) (State.merged_whole ..))))

theorem exec_polDerWrite {n : Fin 20} (h : s.takes (.POL_R_DER n) = true) :
    exec (.polLimitWrite i false n v 0xF#4) s = .next (s.wrPolDer n v) :=
  congrArg Outcome.next ((if_neg Bool.false_ne_true).trans ((State.guardWrite_takes h).trans
    (congrArg (s.wrPolDer n) (State.merged_whole ..))))

/-- Settles O17: a decision on a rail is left alone by the decisions on the others, and the rest is one branch of its
command. -/
theorem policy : Obligations.Policy := by
  unfold Obligations.Policy
  refine ⟨?unparks, ?parks, ?lock, ?derates, ?hot, ?damps, ?undamps, ?lockWrite, ?phaseWrite, ?derWrite⟩
  case unparks =>
    intro l n m s u hu hw hn hlock hen hsusp hmoving hhigh hcount hcool
    subst hu
    exact exec_phaseCountEval_unparks hw hlock hn hen hsusp hmoving hhigh hcount hcool
  case parks =>
    intro l n m s u hu hw hn hlock hen hsusp hmoving hhigh hlow hcount hlimit hhot hspared hmin hload
    subst hu
    exact exec_phaseCountEval_parks hw hlock hn hen hsusp hmoving hhigh hlow hcount hlimit hhot hspared hmin hload
  case lock =>
    intro l n m s hw hlock hseen hn hon hsusp hmoving hm
    exact exec_phaseCountEval_lock hw hlock hseen hn hon hsusp hmoving hm
  case derates =>
    intro l n m s hw hlock hn hen hsusp hhot
    exact exec_derateEval_moves hw hlock hn hen hsusp hhot
  case hot =>
    intro m s hn hw hen hlock hsusp hmoving hrot hhot
    have hgang : m.val ∈ s.gang (s.stgRail m) := (List.mem_filter.mp hrot).1
    refine ⟨_, exec_otPark hn hw hen hlock hsusp hrot hhot, fun hparks => ?_, fun hnone => ?_⟩
    · rw [if_pos hparks, if_neg (by simp [hmoving])]
      exact ⟨(s.park_shows m 2).1, State.hot_park m⟩
    · rw [if_neg (by simp [hnone m hgang]), if_neg (by simpa using hnone)]
      exact State.latched_raise _ _
  case damps =>
    intro f s hw hlock hen hsusp hdirect hripple hcount hwaited
    have hrun : s.aboveRun f = s.po.ffAbove.get f.rail 0 + 1 := if_pos hripple
    refine ⟨_, exec_ffwdEval hw hlock hen hsusp, ?_⟩
    rw [if_neg (by simp [hdirect]), if_pos ⟨by omega, hwaited⟩]
    exact State.ffMode_shows (s := s.ffCounted f) (fun h => Bool.false_ne_true (hdirect.symm.trans h))
  case undamps =>
    intro f s hw hlock hen hsusp hdamped hripple
    have hrun : s.belowRun f = s.po.ffBelow.get f.rail 0 + 1 := if_pos hripple
    refine ⟨_, exec_ffwdEval hw hlock hen hsusp, ?_⟩
    rw [if_pos hdamped]
    by_cases hcount : 99 ≤ s.po.ffBelow.get f.rail 0
    · rw [if_pos (show 100 ≤ s.belowRun f by omega), if_pos hcount]
      exact (State.ffMode_shows (s := s.ffCounted f) (fun h => Bool.false_ne_true (h.symm.trans hdamped))).1
    · rw [if_neg (show ¬ 100 ≤ s.belowRun f by omega), if_neg hcount]
      exact ⟨((Tab.get_set ..).trans (if_pos rfl)).trans hrun, hdamped⟩
  case lockWrite =>
    intro i v s h
    exact ⟨_, exec_polLockWrite h, (State.rd_writeRw ..).trans (if_pos rfl)⟩
  case phaseWrite =>
    intro i v n s h
    rw [exec_polPhaseWrite h, State.wrPolPhase]
    simp only [inRange, Bool.and_eq_true, decide_eq_true_eq, and_assoc]
  case derWrite =>
    intro i v n s h
    have hrange : ¬ (toSigned 8 (getF v Fld.POL_R_DER_TMAX) < toSigned 8 (getF v Fld.POL_R_DER_TDER) + 5 ∨
          inRange 10 100 (getF v Fld.POL_R_DER_FMIN) = false) ↔
        toSigned 8 (getF v Fld.POL_R_DER_TDER) + 5 ≤ toSigned 8 (getF v Fld.POL_R_DER_TMAX) ∧
          10 ≤ getF v Fld.POL_R_DER_FMIN ∧ getF v Fld.POL_R_DER_FMIN ≤ 100 := by
      simp only [inRange, Bool.and_eq_false_iff, decide_eq_false_iff_not]
      omega
    rw [exec_polDerWrite h, State.wrPolDer, ← ite_not]
    simp only [hrange]

end Sys2Proof.Machine

/-!
SUPPORT. The frame of every command (R239, R242, R259): the blocks that its operations write are those of its row in
`frameBlocks`.
-/

namespace Sys2Proof.Machine

theorem mem_allBlocks (b : Block) : b ∈ allBlocks := by
  cases b <;> decide

/-- Every command, in every state, keeps the registers of the blocks outside its frame: the fact about its operations,
with each block they write found in the row of the command. -/
theorem exec_keeps_frameBlocks (c : Instr) (s : State) :
    ∃ t, exec c s = .next t ∧ Keeps (· ∈ frameBlocks c) True s t := by
  cases c with simp only [exec, frameBlocks]
  | registerWrite => exact execRegisterWrite_keeps mem_allBlocks trivial
  | winbaseWrite => exact execWinbaseWrite_keeps mem_allBlocks trivial
  | idataRead => exact execIdataRead_keeps mem_allBlocks trivial
  | idataWrite => exact execIdataWrite_keeps mem_allBlocks trivial
  | domainPowerUp => exact execDomainPowerUp_keeps mem_allBlocks trivial
  | nopConfig => apply execNopConfig_keeps <;> decide
  | nopLedger => apply execNopLedger_keeps <;> decide
  | nopCalibration => apply execNopCalibration_keeps <;> decide
  | nopFabric => apply execNopFabric_keeps <;> decide
  | tplVerify => apply execTplVerify_keeps <;> decide
  | tplStore => apply execTplStore_keeps <;> decide
  | tplLoadAll => exact execTplLoadAll_keeps mem_allBlocks trivial
  | tplLoadDomain => exact execTplLoadDomain_keeps mem_allBlocks trivial
  | holdmaxWrite => exact execHoldmaxWrite_keeps mem_allBlocks trivial
  | stgCfgWrite => apply execStgCfgWrite_keeps <;> decide
  | pntCfgWrite => apply execPntCfgWrite_keeps <;> decide
  | valleyComparatorFire => apply execValleyComparatorFire_keeps <;> decide
  | zeroCurrentDetect => exact execZeroCurrentDetect_keeps (by decide)
  | negativeLimit => apply execNegativeLimit_keeps <;> decide
  | ocTimeout => apply execOcTimeout_keeps <;> decide
  | aggregateLimit => apply execAggregateLimit_keeps <;> decide
  | hsshortDetect => apply execHsshortDetect_keeps <;> decide
  | testWindowEnd => exact execTestWindowEnd_keeps (by decide)
  | bootEnd => apply execBootEnd_keeps <;> decide
  | shareRampEnd => apply execShareRampEnd_keeps <;> decide
  | leaveCurrentZero => apply execLeaveCurrentZero_keeps <;> decide
  | leaveTimeout => apply execLeaveTimeout_keeps <;> decide
  | stgFlagWrite => apply execStgFlagWrite_keeps <;> decide
  | watershedTick => exact execWatershedTick_keeps (by decide)
  | pointSettled => apply execPointSettled_keeps <;> decide
  | swyRegang => apply execSwyRegang_keeps <;> decide
  | loopSampleTrigger => apply execLoopSampleTrigger_keeps <;> decide
  | loopSampleDone => apply execLoopSampleDone_keeps <;> decide
  | tempoWindowEnd => apply execTempoWindowEnd_keeps <;> decide
  | loopRestored => exact execLoopRestored_keeps (by decide)
  | rminReset => apply execRminReset_keeps <;> decide
  | lpeShedWrite => apply execLpeShedWrite_keeps <;> decide
  | loopOpenRequest => apply execLoopOpenRequest_keeps <;> decide
  | loopCloseRequest => apply execLoopCloseRequest_keeps <;> decide
  | loopCloseCleared => apply execLoopCloseCleared_keeps <;> decide
  | lpsCfgWrite => apply execLpsCfgWrite_keeps <;> decide
  | lpsOutWrite => apply execLpsOutWrite_keeps <;> decide
  | lpsInWrite => apply execLpsInWrite_keeps <;> decide
  | loopParamWrite => exact execLoopParamWrite_keeps mem_allBlocks trivial
  | coefWrite => apply execCoefWrite_keeps <;> decide
  | loopOpenlong => apply execLoopOpenlong_keeps <;> decide
  | watchSettleEnd => exact execWatchSettleEnd_keeps
  | loopFollow => apply execLoopFollow_keeps <;> decide
  | loopModel => apply execLoopModel_keeps <;> decide
  | railOnRequest => apply execRailOnRequest_keeps <;> decide
  | railOffRequest => apply execRailOffRequest_keeps <;> decide
  | onDelayEnd => apply execOnDelayEnd_keeps <;> decide
  | offDelayEnd => apply execOffDelayEnd_keeps <;> decide
  | setpointReached => exact execSetpointReached_keeps (by decide)
  | dischargeDone => apply execDischargeDone_keeps <;> decide
  | dischargeTimeout => apply execDischargeTimeout_keeps <;> decide
  | startTimeout => apply execStartTimeout_keeps <;> decide
  | vsetWrite => apply execVsetWrite_keeps <;> decide
  | pgAssert => apply execPgAssert_keeps <;> decide
  | groupOnRequest => apply execGroupOnRequest_keeps <;> decide
  | groupOffRequest => apply execGroupOffRequest_keeps <;> decide
  | stepHoldEnd => apply execStepHoldEnd_keeps <;> decide
  | stepWrite => apply execStepWrite_keeps <;> decide
  | boutStart => apply execBoutStart_keeps <;> decide
  | vinBelowVon => exact execVinBelowVon_keeps (by decide)
  | ttbBoutWrite => apply execTtbBoutWrite_keeps <;> decide
  | ovCrossing => apply execOvCrossing_keeps <;> decide
  | uvCrossing => apply execUvCrossing_keeps <;> decide
  | crossingEnd => apply execCrossingEnd_keeps <;> decide
  | resetRelease => exact execResetRelease_keeps (by decide)
  | conversionResult => apply execConversionResult_keeps <;> decide
  | gaugeTick => apply execGaugeTick_keeps <;> decide
  | surveyCal => apply execSurveyCal_keeps <;> decide
  | converterCalDone => apply execConverterCalDone_keeps <;> decide
  | scanStart => exact execScanStart_keeps
  | start => apply execStart_keeps <;> decide
  | dataRead => exact execDataRead_keeps mem_allBlocks trivial
  | dmaEnable => apply execDmaEnable_keeps <;> decide
  | sliceFactorWrite => exact execSliceFactorWrite_keeps mem_allBlocks trivial
  | fire => apply execFire_keeps <;> decide
  | sourceLoss => apply execSourceLoss_keeps <;> decide
  | handoverComplete => apply execHandoverComplete_keeps <;> decide
  | shipRequest => apply execShipRequest_keeps <;> decide
  | shipCancel => apply execShipCancel_keeps <;> decide
  | buttonChange => exact execButtonChange_keeps (by decide)
  | bkpBatcfgWrite => apply execBkpBatcfgWrite_keeps <;> decide
  | bkpChgWrite => apply execBkpChgWrite_keeps <;> decide
  | bkpPathWrite => apply execBkpPathWrite_keeps <;> decide
  | bkpQualWrite => apply execBkpQualWrite_keeps <;> decide
  | checkEnd => apply execCheckEnd_keeps <;> decide
  | bkpFlagWrite => apply execBkpFlagWrite_keeps <;> decide
  | kick => apply execKick_keeps <;> decide
  | gauCyclesWrite => apply execGauCyclesWrite_keeps <;> decide
  | gaugeConfigWrite => exact execGaugeConfigWrite_keeps mem_allBlocks trivial
  | newpack => apply execNewpack_keeps <;> decide
  | accLoRead => exact execAccLoRead_keeps mem_allBlocks trivial
  | phaseCountEval => apply execPhaseCountEval_keeps <;> decide
  | derateEval => apply execDerateEval_keeps <;> decide
  | otPark => apply execOtPark_keeps <;> decide
  | ffwdEval => exact execFfwdEval_keeps (by decide)
  | rideEval => apply execRideEval_keeps <;> decide
  | polLockWrite => apply execPolLockWrite_keeps <;> decide
  | polLimitWrite => apply execPolLimitWrite_keeps <;> decide
  | faultRaise => apply execFaultRaise_keeps <;> decide
  | faultClear => apply execFaultClear_keeps <;> decide
  | fltCfgWrite => apply execFltCfgWrite_keeps <;> decide
  | fltTgtWrite => apply execFltTgtWrite_keeps <;> decide
  | cntclr => apply execCntclr_keeps <;> decide
  | fltForceWrite => apply execFltForceWrite_keeps <;> decide
  | injectionUnlock => apply execInjectionUnlock_keeps <;> decide
  | go => apply execGo_keeps <;> decide
  | injectionResult => apply execInjectionResult_keeps <;> decide
  | fltHostRaise => apply execFltHostRaise_keeps <;> decide
  | eventOccurrence => apply execEventOccurrence_keeps <;> decide
  | eventQueueWrite => apply execEventQueueWrite_keeps <;> decide
  | stormWindowClose => exact execStormWindowClose_keeps
  | pendWrite => apply execPendWrite_keeps <;> decide
  | freezeWrite => apply execFreezeWrite_keeps <;> decide
  | take => apply execTake_keeps <;> decide
  | eoi => apply execEoi_keeps <;> decide
  | queueConfigWrite => exact execQueueConfigWrite_keeps mem_allBlocks trivial
  | commandStart => apply execCommandStart_keeps <;> decide
  | unknownOp => apply execUnknownOp_keeps <;> decide
  | cmdCancel => apply execCmdCancel_keeps <;> decide
  | cmdQuery => apply execCmdQuery_keeps <;> decide
  | scrubStep => apply execScrubStep_keeps <;> decide
  | memPretireWrite => apply execMemPretireWrite_keeps <;> decide
  | ldgRetire => apply execLdgRetire_keeps <;> decide
  | ledgerStepDone => apply execLedgerStepDone_keeps <;> decide
  | ldgFwWrite => apply execLdgFwWrite_keeps <;> decide
  | ldgFwSeal => apply execLdgFwSeal_keeps <;> decide
  | ldgFwActivate => apply execLdgFwActivate_keeps <;> decide
  | ldgUserWrite => apply execLdgUserWrite_keeps <;> decide
  | otpProgram => apply execOtpProgram_keeps <;> decide
  | otpDone => apply execOtpDone_keeps <;> decide
  | lifecycleTransition => apply execLifecycleTransition_keeps <;> decide
  | taskRegister => apply execTaskRegister_keeps <;> decide
  | token => apply execToken_keeps <;> decide
  | windowOpen => exact execWindowOpen_keeps (by decide)
  | periodEnd => apply execPeriodEnd_keeps <;> decide
  | wdgWarn => apply execWdgWarn_keeps <;> decide
  | wdgCtlWrite => apply execWdgCtlWrite_keeps <;> decide
  | checkTransmit => exact execCheckTransmit_keeps
  | frameHeaderReceive => apply execFrameHeaderReceive_keeps <;> decide
  | frameCrcFail => apply execFrameCrcFail_keeps <;> decide
  | checkReceive => apply execCheckReceive_keeps <;> decide
  | portAligned => exact execPortAligned_keeps (by decide)
  | alignLost => exact execAlignLost_keeps (by decide)
  | portUp => apply execPortUp_keeps <;> decide
  | checkTimeout => apply execCheckTimeout_keeps <;> decide
  | losAssert => apply execLosAssert_keeps <;> decide
  | lnkCfgWrite => apply execLnkCfgWrite_keeps <;> decide
  | rtBWrite => apply execRtBWrite_keeps <;> decide
  | rtAWrite => apply execRtAWrite_keeps <;> decide
  | lineSurvey => apply execLineSurvey_keeps <;> decide
  | surveyReceive => exact execSurveyReceive_keeps
  | replyReceive => apply execReplyReceive_keeps <;> decide
  | assignReceive => apply execAssignReceive_keeps <;> decide
  | routeReceive => apply execRouteReceive_keeps <;> decide
  | tripSend => apply execTripSend_keeps <;> decide
  | tripReceive => apply execTripReceive_keeps <;> decide
  | flwOpen => apply execFlwOpen_keeps <;> decide
  | flwClose => apply execFlwClose_keeps <;> decide
  | flowSend => apply execFlowSend_keeps <;> decide
  | dataReceive => exact execDataReceive_keeps mem_allBlocks trivial
  | ackReceive => exact execAckReceive_keeps mem_allBlocks trivial
  | retransmitTimeout => apply execRetransmitTimeout_keeps <;> decide
  | rxreadWrite => apply execRxreadWrite_keeps <;> decide
  | remoteReceive => exact execRemoteReceive_keeps mem_allBlocks trivial
  | syncReceive => apply execSyncReceive_keeps <;> decide
  | reqReceive => exact execReqReceive_keeps
  | respReceive => exact execRespReceive_keeps (by decide)
  | timeSet => apply execTimeSet_keeps <;> decide
  | timNowLoRead => exact execTimNowLoRead_keeps mem_allBlocks trivial
  | summitMark => apply execSummitMark_keeps <;> decide
  | markReceive => apply execMarkReceive_keeps <;> decide
  | markLatch => apply execMarkLatch_keeps <;> decide
  | timMarkdone => apply execTimMarkdone_keeps <;> decide
  | twbWriteTransaction => exact execTwbWriteTransaction_keeps mem_allBlocks trivial
  | twbReadTransaction => exact execTwbReadTransaction_keeps mem_allBlocks trivial
  | twbTimeout => exact execTwbTimeout_keeps mem_allBlocks trivial
  | cxgo => apply execCxgo_keeps <;> decide
  | cxdone => apply execCxdone_keeps <;> decide
  | rd => exact execRd_keeps mem_allBlocks trivial
  | wr => exact execWr_keeps mem_allBlocks trivial
  | rails => apply execRails_keeps <;> decide
  | ev => exact execEv_keeps mem_allBlocks trivial
  | log => exact execLog_keeps mem_allBlocks trivial
  | dump => exact execDump_keeps mem_allBlocks trivial
  | cm => exact execCm_keeps mem_allBlocks trivial
  | qy => exact execQy_keeps mem_allBlocks trivial
  | ul => apply execUl_keeps <;> decide
  | baud => apply execBaud_keeps <;> decide
  | monBadLine => apply execMonBadLine_keeps <;> decide
  | monCfgWrite => apply execMonCfgWrite_keeps <;> decide
  | legacyWrite => apply execLegacyWrite_keeps <;> decide
  | takeRelease => apply execTakeRelease_keeps <;> decide
  | groupCapture => apply execGroupCapture_keeps <;> decide
  | xngStuck => apply execXngStuck_keeps <;> decide
  | crossingTimeout => apply execCrossingTimeout_keeps <;> decide
  | sleepRequest => apply execSleepRequest_keeps <;> decide
  | deepRequest => apply execDeepRequest_keeps <;> decide
  | deepDrop => apply execDeepDrop_keeps <;> decide
  | wake => exact execWake_keeps mem_allBlocks trivial
  | pwrTimerExpiry => exact execPwrTimerExpiry_keeps mem_allBlocks trivial
  | startUp => exact execStartUp_keeps mem_allBlocks trivial
  | coreBout => exact execCoreBout_keeps mem_allBlocks trivial
  | domainBrownout => exact execDomainBrownout_keeps mem_allBlocks trivial
  | faultCauseGone => exact execFaultCauseGone_keeps (by decide)
  | bootLoad => exact execBootLoad_keeps mem_allBlocks trivial
  | safeReloadResume => exact execSafeReloadResume_keeps (by decide)
  | holdTimeout => exact execHoldTimeout_keeps (by decide)
  | swyAggOc => apply execSwyAggOc_keeps <;> decide
  | minoffEnd => apply execMinoffEnd_keeps <;> decide
  | vinQualified => apply execVinQualified_keeps <;> decide
  | commonTrigger => apply execCommonTrigger_keeps <;> decide
  | handoverTimeout => apply execHandoverTimeout_keeps <;> decide
  | sysSag => apply execSysSag_keeps <;> decide
  | sourceReturn => apply execSourceReturn_keeps <;> decide
  | pathRetrej => apply execPathRetrej_keeps <;> decide
  | handbackStart => apply execHandbackStart_keeps <;> decide
  | pathHandback => apply execPathHandback_keeps <;> decide
  | handbackTimeout => apply execHandbackTimeout_keeps <;> decide
  | batCut => apply execBatCut_keeps <;> decide
  | depletedEntry => exact execDepletedEntry_keeps mem_allBlocks trivial
  | shipEntry => exact execShipEntry_keeps mem_allBlocks trivial
  | shipWakeButton => apply execShipWakeButton_keeps <;> decide
  | sourceWake => exact execSourceWake_keeps (by decide)
  | longPress => exact execLongPress_keeps mem_allBlocks trivial
  | openEnd => apply execOpenEnd_keeps <;> decide
  | prechargeEnd => apply execPrechargeEnd_keeps <;> decide
  | cvEntry => apply execCvEntry_keeps <;> decide
  | chgDone => apply execChgDone_keeps <;> decide
  | recharge => apply execRecharge_keeps <;> decide
  | packTempOut => apply execPackTempOut_keeps <;> decide
  | packTempBack => apply execPackTempBack_keeps <;> decide
  | batAbsent => apply execBatAbsent_keeps <;> decide
  | batPresent => apply execBatPresent_keeps <;> decide
  | chgTimer => apply execChgTimer_keeps <;> decide
  | chgOv => apply execChgOv_keeps <;> decide
  | chgWdog => apply execChgWdog_keeps <;> decide
  | gauStale => apply execGauStale_keeps <;> decide
  | gaugeHourlyRecord => apply execGaugeHourlyRecord_keeps <;> decide
  | rideEpisodeEnd => apply execRideEpisodeEnd_keeps <;> decide
  | polRideRestore => apply execPolRideRestore_keeps <;> decide
  | faultNRelease => exact execFaultNRelease_keeps
  | testEnFall => exact execTestEnFall_keeps (by decide)
  | injectionUnlockExpiry => exact execInjectionUnlockExpiry_keeps (by decide)
  | freezeExpiry => apply execFreezeExpiry_keeps <;> decide
  | pageCopyDone => apply execPageCopyDone_keeps <;> decide
  | ledgerCommit => apply execLedgerCommit_keeps <;> decide
  | ledgerWriteFail => apply execLedgerWriteFail_keeps <;> decide
  | eraseSuspend => exact execEraseSuspend_keeps
  | eraseResume => exact execEraseResume_keeps
  | loaderRestart => exact execLoaderRestart_keeps
  | dumpStart => apply execDumpStart_keeps <;> decide
  | drainTimeout => exact execDrainTimeout_keeps (by decide)
  | watchdogReset => exact execWatchdogReset_keeps mem_allBlocks trivial
  | probeTimeout => apply execProbeTimeout_keeps <;> decide
  | tripKeyExpiry => exact execTripKeyExpiry_keeps
  | eventForward => apply execEventForward_keeps <;> decide
  | syncPeriod => exact execSyncPeriod_keeps
  | holdover => apply execHoldover_keeps <;> decide
  | wakenack => apply execWakenack_keeps <;> decide
  | arbitrationLost => apply execArbitrationLost_keeps <;> decide
  | id => exact execId_keeps
  | flt => apply execFlt_keeps <;> decide
  | lk => apply execLk_keeps <;> decide
  | baudrev => apply execBaudrev_keeps <;> decide
  | lockoutEnd => exact execLockoutEnd_keeps (by decide)
  | unlockIdleExpiry => exact execUnlockIdleExpiry_keeps (by decide)
  | deepHoldTimeout => apply execDeepHoldTimeout_keeps <;> decide
  | deepEntry => exact execDeepEntry_keeps mem_allBlocks trivial
  | aonPowerOn => exact execAonPowerOn_keeps mem_allBlocks trivial
  | refclkLoss => apply execRefclkLoss_keeps <;> decide
  | refclkReturn => exact execRefclkReturn_keeps (by decide)

/-- Settles O50: what every command keeps, read off for one register. -/
theorem registerFrame : Obligations.RegisterFrame := by
  unfold Obligations.RegisterFrame
  intro c r s t hexec hr
  obtain ⟨u, hu, hkeeps⟩ := exec_keeps_frameBlocks c s
  obtain rfl : u = t := Host.Outcome.next.inj (hu.symm.trans hexec)
  exact hkeeps.regs r hr

end Sys2Proof.Machine

/-!
SUPPORT. The registers of the signal box under the raise and the clear of a fault source, dry raises included: the
status bit, the cause and the count of the source, and the capture of the first raise (R239, R243, R250, R255).
-/

namespace Sys2Proof.Machine

variable {s u : State} {q : Reg} {f g cause : Nat}

/-! ### Registers of the signal box -/

/-- An operation that writes no register of the signal box leaves them all. -/
theorem Keeps.rd_flt (h : Keeps (· ≠ .flt) True s u) (hq : q.block = .flt) : u.rd q = s.rd q :=
  h.regs q (by simp [hq])

/-- The status bits of two sources are one bit of one register only if the sources are the same. -/
theorem State.latched_putBit (f g : Nat) (b : Bool) :
    (s.putBit (.FLT_STAT (f / 32)) (f % 32) b).latched g = if g = f then b else s.latched g := by
  unfold State.latched State.bit
  by_cases hw : g / 32 = f / 32
  · have hrd : (s.putBit (.FLT_STAT (f / 32)) (f % 32) b).rd (.FLT_STAT (g / 32)) =
        wputBit (s.rd (.FLT_STAT (g / 32))) (f % 32) b := by simp [hw]
    rw [hrd]
    by_cases hg : g = f
    · rw [if_pos hg, hg, wbit_wputBit _ _ _ (Nat.mod_lt _ (by decide))]
    · rw [if_neg hg, wbit_wputBit_other _ _ _ _ (Nat.mod_lt _ (by decide)) (by omega)]
  · have hg : g ≠ f := fun h => hw (congrArg (· / 32) h)
    simp [hw, hg]

theorem State.latched_congr (h : ∀ w, u.rd (.FLT_STAT w) = s.rd (.FLT_STAT w)) (f : Nat) : u.latched f = s.latched f :=
  congrArg (wbit · (f % 32)) (h (f / 32))

/-! ### The marks of a raise (R239) -/

theorem State.rd_countFault_other (f : Nat) (hq : ∀ p, q ≠ .FLT_CNT p) : (s.countFault f).rd q = s.rd q := by
  simp [State.countFault, State.addSat, hq]

/-- A count of 16 bits goes up by one and stops at its largest value. -/
theorem State.fltCount_countFault (f : Nat) : (s.countFault f).fltCount f = min 65535 (s.fltCount f + 1) := by
  have hcount (F : Field) (hok : F.ok = true) (hwidth : F.width = 16) :
      getF (putF (s.rd (.FLT_CNT (f / 2))) F (satAdd (2 ^ F.width - 1) (getF (s.rd (.FLT_CNT (f / 2))) F) 1)) F =
        min 65535 (getF (s.rd (.FLT_CNT (f / 2))) F + 1) := by
    rw [getF_putF _ _ _ hok, hwidth, satAdd]
    exact Nat.mod_eq_of_lt (by omega)
  unfold State.countFault State.fltCount State.addSat State.fld
  rw [State.rd_put, if_pos rfl]
  split
  · exact hcount _ rfl rfl
  · exact hcount _ rfl rfl

theorem State.fltCount_congr (h : ∀ p, u.rd (.FLT_CNT p) = s.rd (.FLT_CNT p)) (f : Nat) : u.fltCount f = s.fltCount f :=
  State.fld_congr (h (f / 2)) _

theorem State.fltCount_raiseMarks : (s.raiseMarks f cause).fltCount f = min 65535 (s.fltCount f + 1) := by
  rw [State.raiseMarks, State.fltCount_countFault]
  refine congrArg (fun n => min 65535 (n + 1)) (State.fltCount_congr (fun p => ?_) f)
  simp

/-- A cause is a field of four bits. -/
theorem State.fltCause_raiseMarks (hc : cause < 16) : (s.raiseMarks f cause).fltCause f = cause := by
  have hmarks : (s.raiseMarks f cause).rd (.FLT_CAUSE (f / 8)) =
      putF (s.rd (.FLT_CAUSE (f / 8))) (causeField f) cause := by
    rw [State.raiseMarks, State.rd_countFault_other _ (by simp)]
    simp
  have hok : (causeField f).ok = true := by
    rw [Field.ok, Bool.and_eq_true]
    exact ⟨decide_eq_true (Nat.le_add_right _ _), decide_eq_true (show 4 * (f % 8) + 3 < 32 by omega)⟩
  have hwidth : (causeField f).width = 4 := by
    simp only [Field.width, causeField]
    omega
  rw [State.fltCause, State.fld, hmarks, getF_putF _ _ _ hok, hwidth]
  exact Nat.mod_eq_of_lt hc

theorem State.latched_raiseMarks_eq : (s.raiseMarks f cause).latched g = if g = f then true else s.latched g := by
  rw [← State.latched_putBit]
  refine State.latched_congr (fun w => ?_) g
  rw [State.raiseMarks, State.rd_countFault_other _ (by simp)]
  simp

/-- A raise of a source that is not latched marks no other register of the signal box. -/
theorem State.rd_raiseMarks_other (hs : ∀ w, q ≠ .FLT_STAT w) (hc : ∀ w, q ≠ .FLT_CAUSE w) (hn : ∀ p, q ≠ .FLT_CNT p) :
    (s.raiseMarks f cause).rd q = s.rd q := by
  rw [State.raiseMarks, State.rd_countFault_other _ hn]
  simp [hs, hc]

/-! ### The reaction and the reports of a raise (R242, R248 to R252, R255) -/

/-- A raise up to its captures: the marks, then the reaction and FAULT_N, or the note that the raise is dry. -/
def State.raiseReacts (s : State) (f cause : Nat) (dry : Bool) : State :=
  let s1 := s.raiseMarks f cause
  if dry then { s1 with fl := { s1.fl with dry := f :: s1.fl.dry } }
  else (s1.react f (s.fld (.FLT_CFG f) Fld.FLT_CFG_CLASS)).faultPin

/-- A raise from its captures on, which have left `u`: the record, the dump, the TRIP and the message. -/
def State.raiseTells (s u : State) (f cause : Nat) (dry : Bool) : State :=
  let cls := s.fld (.FLT_CFG f) Fld.FLT_CFG_CLASS
  let s3 := u.logFault f cls cause false
  let s4 := if s.bit (.FLT_CFG f) 2 then s3.requestDump f cause else s3
  let s5 := if s.bit (.FLT_CFG f) 4 && !dry then s4.sendTrip f else s4
  s5.faultMessage f cls cause false

theorem State.raise_parts (dry : Bool) : s.raise f cause dry = if s.latched f then s.countFault f
    else s.raiseTells ((s.raiseReacts f cause dry).captureFirst f (s.fld (.FLT_CFG f) Fld.FLT_CFG_CLASS) cause) f cause dry :=
  rfl

theorem State.rd_raiseReacts (dry : Bool) (hq : q.block = .flt) :
    (s.raiseReacts f cause dry).rd q = (s.raiseMarks f cause).rd q := by
  unfold State.raiseReacts
  dsimp only
  split
  · rfl
  · exact ((State.faultPin_keeps (Keeps.refl _)).rd_flt hq).trans (State.rd_react_flt _ _ hq)

theorem State.rd_raiseTells (dry : Bool) (hq : q.block = .flt) : (s.raiseTells u f cause dry).rd q = u.rd q := by
  refine Keeps.rd_flt ?_ hq
  have hlog := State.logFault_keeps (x1 := f) (x2 := s.fld (.FLT_CFG f) Fld.FLT_CFG_CLASS) (x3 := cause) (x4 := false)
    (Keeps.refl (B := (· ≠ .flt)) (M := True) u) (by decide) (by decide) (by decide) trivial
  have hdump : Keeps (· ≠ .flt) True u (if s.bit (.FLT_CFG f) 2
      then (u.logFault f (s.fld (.FLT_CFG f) Fld.FLT_CFG_CLASS) cause false).requestDump f cause
      else u.logFault f (s.fld (.FLT_CFG f) Fld.FLT_CFG_CLASS) cause false) := by
    split
    · exact State.requestDump_keeps hlog
    · exact hlog
  refine State.faultMessage_keeps ?_
  split
  · exact State.sendTrip_keeps hdump (by decide) (by decide) (by decide) trivial
  · exact hdump

/-- What a raise does to the registers of the signal box beside the capture of the first: it counts, or it marks. -/
theorem State.rd_raise (dry : Bool) (hq : q.block = .flt) (hfirst : q ≠ .FLT_FIRST) (hlo : q ≠ .FLT_FIRSTT_LO)
    (hhi : q ≠ .FLT_FIRSTT_HI) :
    (s.raise f cause dry).rd q = (if s.latched f then s.countFault f else s.raiseMarks f cause).rd q := by
  rw [State.raise_parts]
  split
  · rfl
  · exact ((State.rd_raiseTells dry hq).trans (State.rd_captureFirst _ _ _ hfirst hlo hhi)).trans
      (State.rd_raiseReacts dry hq)

/-- A raise latches its source and no other. -/
theorem State.latched_raise_eq (dry : Bool) : (s.raise f cause dry).latched g = if g = f then true else s.latched g := by
  refine (State.latched_congr (fun w => State.rd_raise dry rfl (by simp) (by simp) (by simp)) g).trans ?_
  split
  next hl =>
    rw [State.latched_congr fun w => State.rd_countFault_other f (by simp)]
    split
    next hg => exact hg ▸ hl
    next => rfl
  next => exact State.latched_raiseMarks_eq

/-- A raise keeps what is latched. -/
theorem State.latched_raise_mono (dry : Bool) (h : s.latched g = true) : (s.raise f cause dry).latched g = true := by
  rw [State.latched_raise_eq, h, ite_self]

theorem State.fltCount_raise (dry : Bool) : (s.raise f cause dry).fltCount f = min 65535 (s.fltCount f + 1) := by
  refine (State.fltCount_congr (fun p => State.rd_raise dry rfl (by simp) (by simp) (by simp)) f).trans ?_
  split
  · exact State.fltCount_countFault f
  · exact State.fltCount_raiseMarks

/-- The cause is the one of the raise that latched the source. -/
theorem State.fltCause_raise_eq (dry : Bool) (hc : cause < 16) :
    (s.raise f cause dry).fltCause f = if s.latched f then s.fltCause f else cause := by
  refine (State.fld_congr (State.rd_raise dry rfl (by simp) (by simp) (by simp)) _).trans ?_
  split
  · exact State.fld_congr (State.rd_countFault_other f (by simp)) _
  · exact State.fltCause_raiseMarks hc

/-- The registers of the signal box that a raise may write. -/
def Reg.raiseWrites : Reg → Bool
  | .FLT_STAT _ | .FLT_CAUSE _ | .FLT_CNT _ | .FLT_FIRST | .FLT_FIRSTT_LO | .FLT_FIRSTT_HI => true
  | _ => false

theorem State.rd_raise_other (dry : Bool) (hq : q.block = .flt) (hw : q.raiseWrites = false) :
    (s.raise f cause dry).rd q = s.rd q := by
  have hne (r : Reg) (hr : r.raiseWrites = true) : q ≠ r := fun h => Bool.false_ne_true (hw.symm.trans (h ▸ hr))
  rw [State.rd_raise dry hq (hne _ rfl) (hne _ rfl) (hne _ rfl)]
  split
  · exact State.rd_countFault_other f fun _ => hne _ rfl
  · exact State.rd_raiseMarks_other (fun _ => hne _ rfl) (fun _ => hne _ rfl) fun _ => hne _ rfl

/-! ### The first classed raise (R250) -/

/-- The word of FLT_FIRST that a raise of a class captures. -/
def firstWord (f cls cause : Nat) (isLocal : Bool) : Word :=
  putF (putF (putF (putF (putF 0#32 Fld.FLT_FIRST_SOURCE f) Fld.FLT_FIRST_CLASS cls) Fld.FLT_FIRST_CAUSE cause)
    Fld.FLT_FIRST_LOCAL (b2n isLocal)) Fld.FLT_FIRST_VALID 1

theorem State.rd_captureFirst_first {cls : Nat} (hcls : cls ≠ 0) (hvalid : s.bit .FLT_FIRST 31 = false) :
    (s.captureFirst f cls cause).rd .FLT_FIRST = firstWord f cls cause s.now.isLocal := by
  unfold State.captureFirst
  rw [if_neg (by simp [hcls, hvalid])]
  simp [firstWord]

theorem firstWord_source (cls : Nat) (isLocal : Bool) (hf : f < 256) :
    getF (firstWord f cls cause isLocal) Fld.FLT_FIRST_SOURCE = f := by
  unfold firstWord
  rw [getF_putF_other _ _ _ _ rfl (by decide), getF_putF_other _ _ _ _ rfl (by decide),
    getF_putF_other _ _ _ _ rfl (by decide), getF_putF_other _ _ _ _ rfl (by decide), getF_putF _ _ _ rfl]
  exact Nat.mod_eq_of_lt hf

theorem firstWord_cause (cls : Nat) (isLocal : Bool) (hc : cause < 16) :
    getF (firstWord f cls cause isLocal) Fld.FLT_FIRST_CAUSE = cause := by
  unfold firstWord
  rw [getF_putF_other _ _ _ _ rfl (by decide), getF_putF_other _ _ _ _ rfl (by decide), getF_putF _ _ _ rfl]
  exact Nat.mod_eq_of_lt hc

theorem firstWord_valid (cls : Nat) (isLocal : Bool) : wbit (firstWord f cls cause isLocal) 31 = true := by
  have hbit (w : Word) : wbit (putF w Fld.FLT_FIRST_VALID 1) 31 = true := by
    rw [wbit, putF_getLsbD _ _ _ _ rfl]
    rfl
  exact hbit _

/-- The first raise of a classed source while FLT_FIRST is free is captured there. -/
theorem State.raise_captures (hf : f < 256) (hc : cause < 16) (hl : s.latched f = false)
    (hcls : s.fld (.FLT_CFG f) Fld.FLT_CFG_CLASS ≠ 0) (hvalid : s.bit .FLT_FIRST 31 = false) :
    (s.raise f cause).fld .FLT_FIRST Fld.FLT_FIRST_SOURCE = f ∧
      (s.raise f cause).fld .FLT_FIRST Fld.FLT_FIRST_CAUSE = cause ∧ (s.raise f cause).bit .FLT_FIRST 31 = true := by
  have hfree : (s.raiseReacts f cause false).bit .FLT_FIRST 31 = false :=
    (State.bit_congr ((State.rd_raiseReacts false rfl).trans (State.rd_raiseMarks_other (by simp) (by simp) (by simp)))
      31).trans hvalid
  obtain ⟨isLocal, hword⟩ : ∃ b, (s.raise f cause).rd .FLT_FIRST =
      firstWord f (s.fld (.FLT_CFG f) Fld.FLT_CFG_CLASS) cause b := by
    rw [State.raise_parts, if_neg (by simp [hl])]
    exact ⟨_, (State.rd_raiseTells false rfl).trans (State.rd_captureFirst_first hcls hfree)⟩
  simp only [State.fld, State.bit, hword]
  exact ⟨firstWord_source _ _ hf, firstWord_cause _ _ hc, firstWord_valid _ _⟩

end Sys2Proof.Machine

/-!
SUPPORT. The clear of a fault source, the fetch of a damaged word, and the writes of the signal box's configuration (R241,
R243, R245, R270, log 192).
-/

namespace Sys2Proof.Machine

open Host (Outcome)

variable {s u : State} {i : Iface} {v : Word}

/-! ### The clear (R243, R248) -/

/-- A clear takes effect: the source is latched, its cause is gone and its reactions are complete. -/
def State.clears (s : State) (f : Nat) : Bool :=
  s.latched f && !s.bit (.FLT_LIVE (f / 32)) (f % 32) && !s.offsHeld f

/-- The status bit and what the source holds are gone. -/
def State.clearMarks (s : State) (f : Nat) : State :=
  let s1 := s.putBit (.FLT_STAT (f / 32)) (f % 32) false
  { s1 with fl := { s1.fl with latches := s1.fl.latches.filter (fun e => e.1 != f),
                               refusals := s1.fl.refusals.filter (fun e => e.1 != f),
                               dry := s1.fl.dry.filter (· != f) } }

/-- What a clear lets go and reports before its message: rails, stages and groups, FAULT_N and the record. -/
def State.clearTells (s u : State) (f : Nat) : State :=
  ((each allGroups (fun g s => s.classBCheck g) u.unlatch).faultPin).logFault f (s.fld (.FLT_CFG f) Fld.FLT_CFG_CLASS)
    (s.fltCause f) true

theorem State.clearFault_eq (f : Nat) : s.clearFault f = if s.clears f
    then (s.clearTells (s.clearMarks f) f).faultMessage f (s.fld (.FLT_CFG f) Fld.FLT_CFG_CLASS) (s.fltCause f) true
    else s := rfl

theorem State.rd_clearTells {q : Reg} (f : Nat) (hq : q.block = .flt) : (s.clearTells u f).rd q = u.rd q := by
  refine Keeps.rd_flt (State.logFault_keeps (State.faultPin_keeps (each_keeps ?_ fun g s h => ?_)) ?_ ?_ ?_ trivial) hq
  · exact State.unlatch_keeps (Keeps.refl u) (by decide) (by decide)
  · exact State.classBCheck_keeps h (by decide)
  all_goals decide

/-- A clear reaches its status bit alone. -/
theorem State.rd_clearFault {q : Reg} (f : Nat) (hq : q.block = .flt) :
    (s.clearFault f).rd q = if s.clears f then (s.putBit (.FLT_STAT (f / 32)) (f % 32) false).rd q else s.rd q := by
  rw [State.clearFault_eq]
  split
  · exact State.rd_clearTells f hq
  · rfl

theorem State.lastMessage_clearFault {f : Nat} (h : s.clears f = true) : (s.clearFault f).lastMessage 0 f
    (128 + 16 * s.fld (.FLT_CFG f) Fld.FLT_CFG_CLASS + s.fltCause f) := by
  rw [State.clearFault_eq, if_pos h]
  exact ⟨_, List.getLast?_concat .., rfl, rfl, rfl⟩

/-- The one bit of a write that clears one source. -/
theorem bitsOf_one (b : Fin 32) : bitsOf (1#32 <<< b.val) = [b.val] := by
  revert b
  decide

/-- To store what a bit reads changes nothing. -/
theorem wputBit_eq_self {w : Word} {b : Nat} {x : Bool} (hb : b < 32) (h : wbit w b = x) : wputBit w b x = w := by
  refine BitVec.eq_of_getLsbD_eq fun j _ => ?_
  rw [wputBit_getLsbD _ _ _ _ hb]
  split
  next hj => exact hj ▸ h.symm
  next => rfl

theorem exec_faultClear {w : Fin 8} (b : Fin 32) (h : s.takes (.FLT_STAT w) = true) :
    exec (.faultClear i w (1#32 <<< b.val) 0xF#4) s = .next (s.clearFault (32 * w + b)) := by
  have hmask : (1#32 <<< b.val) &&& byteMask 0xF#4 = 1#32 <<< b.val := by
    rw [show byteMask 0xF#4 = BitVec.allOnes 32 by decide, BitVec.and_allOnes]
  refine congrArg Outcome.next ((State.guardWrite_takes h).trans ?_)
  rw [hmask, State.wrFltStat, bitsOf_one]
  rfl

/-! ### The fetch of a damaged word (R239, log 192) -/

/-- The entry that an uncorrectable word gets in the error log touches nothing of the signal box. -/
theorem State.rd_logError_flt {q : Reg} (nvm : Bool) (a : Nat) (ue : Bool) (src : Nat) (syn : BitVec 7) (mark : Bool)
    (hq : q.block = .flt) : (s.logError nvm a ue src syn mark).rd q = s.rd q :=
  (State.logError_keeps (Keeps.refl s) (by decide) (by decide) trivial).rd_flt hq

/-- MEM_SRAM_UE is raised in the state of the fetch, its error log set apart; then the trap. -/
theorem State.fetchUe_eq : ∃ u : State, s.fetchUe = (u.raise 233 0).raise 55 1 ∧ u.latched 55 = s.latched 55 := by
  unfold State.fetchUe
  dsimp only
  split
  · exact ⟨_, rfl, State.latched_congr (fun w => State.rd_logError_flt _ _ _ _ _ _ rfl) 55⟩
  · exact ⟨s, rfl, rfl⟩

/-! ### FAULT_N (R245) -/

theorem State.faultN_faultPin (h : s.pins.faultNMin = false) : s.faultPin.pins.faultN = s.anyDrive := by
  unfold State.faultPin
  cases hdrive : s.anyDrive
  · simp [h]
  · cases hpin : s.pins.faultN <;> simp [hpin]

theorem State.regs_faultPin : s.faultPin.regs = s.regs := by
  unfold State.faultPin
  (repeat' split) <;> rfl

/-! ### FLTsss_CFG and FLTsss_TGT (R241) -/

/-- What a register holds after a write of its RW bits. -/
def State.stored (s : State) (r : Reg) (w : Word) : Word := (s.rd r &&& ~~~ r.rw) ||| (w &&& r.rw)

theorem State.rd_writeRw_self (r : Reg) (w : Word) : (s.writeRw r w).rd r = s.stored r w := by
  rw [State.rd_writeRw, if_pos rfl, State.stored]

theorem State.rd_writeRw_other {r q : Reg} (w : Word) (h : q ≠ r) : (s.writeRw r w).rd q = s.rd q := by
  rw [State.rd_writeRw, if_neg h]

/-- A write of FLTsss_CFG that names a class stores its value or is refused with a flag. -/
theorem State.wrFltCfg_eq {f : Nat} (hclass : getF v Fld.FLT_CFG_CLASS ≠ 3) : s.wrFltCfg f v =
    if fltCfgOk f (s.stored (.FLT_CFG f) v) (s.rd (.FLT_TGT f)) = true ∧ (s.latched f = true →
        getF (s.stored (.FLT_CFG f) v) Fld.FLT_CFG_CLASS = s.fld (.FLT_CFG f) Fld.FLT_CFG_CLASS)
    then (s.writeRw (.FLT_CFG f) v).faultPin else s.setFlag .FLT_FLAG 0 := by
  have hcfg : (s.writeRw (.FLT_CFG f) v).rd (.FLT_CFG f) = s.stored (.FLT_CFG f) v := State.rd_writeRw_self ..
  have htgt : (s.writeRw (.FLT_CFG f) v).rd (.FLT_TGT f) = s.rd (.FLT_TGT f) := State.rd_writeRw_other _ (by simp)
  unfold State.wrFltCfg
  dsimp only
  rw [if_neg hclass, State.fld, hcfg, htgt, ← ite_not]
  refine ite_congr (propext ?_) (fun _ => rfl) fun _ => rfl
  simp only [Bool.or_eq_true, Bool.and_eq_true, Bool.not_eq_true', bne_iff_ne, ne_eq, not_or, not_and, Decidable.not_not,
    Bool.not_eq_false]

theorem State.wrFltTgt_eq (f : Nat) : s.wrFltTgt f v =
    if s.fltTgtOk f (s.stored (.FLT_TGT f) v) = true ∧ fltCfgOk f (s.rd (.FLT_CFG f)) (s.stored (.FLT_TGT f) v) = true
    then s.writeRw (.FLT_TGT f) v else s.setFlag .FLT_FLAG 0 := by
  have htgt : (s.writeRw (.FLT_TGT f) v).rd (.FLT_TGT f) = s.stored (.FLT_TGT f) v := State.rd_writeRw_self ..
  have hcfg : (s.writeRw (.FLT_TGT f) v).rd (.FLT_CFG f) = s.rd (.FLT_CFG f) := State.rd_writeRw_other _ (by simp)
  unfold State.wrFltTgt
  dsimp only
  rw [htgt, hcfg]
  simp only [Bool.and_eq_true]

/-- A refused write shows its flag and stores nothing else in the signal box. -/
theorem State.fltRefused_shows {q : Reg} {b : Nat} (hb : b < 32) (hq : q.block = .flt) (hflag : q ≠ .FLT_FLAG) :
    (s.setFlag .FLT_FLAG b).rd q = s.rd q ∧ (s.setFlag .FLT_FLAG b).bit .FLT_FLAG b = true :=
  ⟨State.rd_setFlag _ _ _ hflag (by simp [hq]) (by simp [hq]), State.bit_setFlag _ _ hb (by decide) (by decide)⟩

theorem State.wrFltCfg_shows {f : Nat} (hclass : getF v Fld.FLT_CFG_CLASS ≠ 3) :
    if fltCfgOk f (s.stored (.FLT_CFG f) v) (s.rd (.FLT_TGT f)) = true ∧ (s.latched f = true →
        getF (s.stored (.FLT_CFG f) v) Fld.FLT_CFG_CLASS = s.fld (.FLT_CFG f) Fld.FLT_CFG_CLASS)
    then (s.wrFltCfg f v).rd (.FLT_CFG f) = s.stored (.FLT_CFG f) v
    else (s.wrFltCfg f v).rd (.FLT_CFG f) = s.rd (.FLT_CFG f) ∧ (s.wrFltCfg f v).bit .FLT_FLAG 0 = true := by
  rw [State.wrFltCfg_eq hclass]
  split
  · exact (State.rd_of_regs State.regs_faultPin _).trans (State.rd_writeRw_self ..)
  · exact State.fltRefused_shows (by decide) rfl (by simp)

theorem State.wrFltTgt_shows (f : Nat) :
    if s.fltTgtOk f (s.stored (.FLT_TGT f) v) = true ∧ fltCfgOk f (s.rd (.FLT_CFG f)) (s.stored (.FLT_TGT f) v) = true
    then (s.wrFltTgt f v).rd (.FLT_TGT f) = s.stored (.FLT_TGT f) v
    else (s.wrFltTgt f v).rd (.FLT_TGT f) = s.rd (.FLT_TGT f) ∧ (s.wrFltTgt f v).bit .FLT_FLAG 0 = true := by
  rw [State.wrFltTgt_eq]
  split
  · exact State.rd_writeRw_self ..
  · exact State.fltRefused_shows (by decide) rfl (by simp)

theorem exec_fltCfgWrite {f : Fin 256} (h : s.takes (.FLT_CFG f) = true) :
    exec (.fltCfgWrite i f v 0xF#4) s = .next (s.wrFltCfg f v) :=
  congrArg Outcome.next ((State.guardWrite_takes h).trans (congrArg (s.wrFltCfg f) (State.merged_whole ..)))

theorem exec_fltTgtWrite {f : Fin 256} (h : s.takes (.FLT_TGT f) = true) :
    exec (.fltTgtWrite i f v 0xF#4) s = .next (s.wrFltTgt f v) :=
  congrArg Outcome.next ((State.guardWrite_takes h).trans (congrArg (s.wrFltTgt f) (State.merged_whole ..)))

/-! ### FLT_CTL and FLT_HOST (R238, R270) -/

/-- A whole write of a register of WO fields reaches its rule with all that it sends. -/
theorem State.guardSent_whole {r : Reg} {k : Word → State → State} (h : s.takes r = true) (hsent : r.sent 0xF#4 = true) :
    s.guardSent r 0xF#4 (k (v &&& byteMask 0xF#4)) = k v s := by
  have hmask : v &&& byteMask 0xF#4 = v := by
    rw [show byteMask 0xF#4 = BitVec.allOnes 32 by decide, BitVec.and_allOnes]
  rw [State.guardSent, State.guardWrite_takes h, if_pos hsent, hmask]

theorem exec_cntclr (h : s.takes .FLT_CTL = true) : exec (.cntclr i v 0xF#4) s = .next (s.wrFltCtl v) :=
  congrArg Outcome.next (State.guardSent_whole (k := fun w s => s.wrFltCtl w) h (by decide))

theorem exec_fltHostRaise (h : s.takes .FLT_HOST = true) : exec (.fltHostRaise i v 0xF#4) s = .next (s.wrFltHost v) :=
  congrArg Outcome.next (State.guardSent_whole (k := fun w s => s.wrFltHost w) h (by decide))

/-- Registers set to 0 one after the other all read 0. -/
theorem State.rd_each_zero {k : Nat} (l : List Nat) (h : k ∈ l ∨ s.rd (.FLT_CNT k) = 0#32) :
    (each l (fun p s => s.wr (.FLT_CNT p) 0#32) s).rd (.FLT_CNT k) = 0#32 := by
  unfold each
  induction l generalizing s with
  | nil => exact h.resolve_left List.not_mem_nil
  | cons p t ih =>
    refine ih ?_
    by_cases hk : k = p
    · exact .inr (by simp [hk])
    · rcases h with h | h
      · exact .inl ((List.mem_cons.mp h).resolve_left hk)
      · exact .inr (by simp [h])

/-- Sources raised one after the other are all latched in the end. -/
theorem State.latched_each_raise {k : Nat} (l : List Nat) (h : k ∈ l ∨ s.latched (252 + k) = true) :
    (each l (fun i s => s.raise (252 + i) 0) s).latched (252 + k) = true := by
  unfold each
  induction l generalizing s with
  | nil => exact h.resolve_left List.not_mem_nil
  | cons x t ih =>
    refine ih ?_
    rcases h with h | h
    · rcases List.mem_cons.mp h with rfl | h
      · exact .inr (State.latched_raise _ _)
      · exact .inl h
    · exact .inr (State.latched_raise_mono false h)

/-- The order of the raises, Class A first, leaves out none of those that are named (R242). -/
theorem State.latched_wrFltHost {k : Nat} (hk : k < 4) (hv : wbit v k = true) : (s.wrFltHost v).latched (252 + k) = true := by
  have hnamed : k ∈ (List.range 4).filter fun i => wbit v i := List.mem_filter.mpr ⟨List.mem_range.mpr hk, hv⟩
  refine State.latched_each_raise _ (.inl ?_)
  cases hA : s.fld (.FLT_CFG (252 + k)) Fld.FLT_CFG_CLASS == 2
  · exact List.mem_append_right _ (List.mem_filter.mpr ⟨hnamed, by simp [hA]⟩)
  · exact List.mem_append_left _ (List.mem_filter.mpr ⟨hnamed, hA⟩)

/-! ### The commands -/

/-- A raise that reaches the signal box shows the cause of a LEVEL source, and raises it (R238, R239). -/
def State.causeShown (s : State) (f : Nat) : State := if s.bit (.FLT_CFG f) 28 then s.live f true else s

theorem exec_faultRaise {f : Fin 256} {cause : Fin 16} (hdark : s.dark = false) (hout : s.causeOut f true = true)
    (hfetch : f.val ≠ 233 ∨ cause.val ≠ 0) : exec (.faultRaise f cause) s = .next ((s.causeShown f).raise f cause) := by
  refine congrArg Outcome.next ((if_neg ?_).trans (if_neg ?_))
  · simp [hdark, hout]
  · rintro ⟨rfl, rfl⟩
    exact hfetch.elim (· rfl) (· rfl)

theorem State.rd_causeShown {q : Reg} (f : Nat) (hq : ∀ w, q ≠ .FLT_LIVE w) : (s.causeShown f).rd q = s.rd q := by
  unfold State.causeShown State.live
  split
  · simp [hq]
  · rfl

end Sys2Proof.Machine

/-!
SUPPORT. Fault sources: each clause assembled from the facts about its command.
-/

namespace Sys2Proof.Machine

variable {s : State} {i : Iface} {v : Word}

/-- A raise that reaches the signal box: latch, count, cause and the live bit (R238, R239). -/
theorem State.raise_shows (f : Fin 256) (cause : Fin 16) :
    ((s.causeShown f).raise f cause).latched f = true ∧
      ((s.causeShown f).raise f cause).fltCount f = min 65535 (s.fltCount f + 1) ∧
      ((s.causeShown f).raise f cause).fltCause f = (if s.latched f then s.fltCause f else cause.val) ∧
      (s.bit (.FLT_CFG f) 28 = true → ((s.causeShown f).raise f cause).bit (.FLT_LIVE (f / 32)) (f % 32) = true) := by
  refine ⟨State.latched_raise _ _, ?_, ?_, fun hlevel => ?_⟩
  · rw [State.fltCount_raise, State.fltCount_congr fun p => State.rd_causeShown f (by simp)]
  · rw [State.fltCause_raise_eq _ cause.isLt, State.latched_congr fun w => State.rd_causeShown f (by simp)]
    exact congrArg (fun n => if s.latched f then n else cause.val) (State.fld_congr (State.rd_causeShown f (by simp)) _)
  · rw [State.bit_congr (State.rd_raise_other false rfl rfl),
      State.causeShown, if_pos hlevel]
    exact State.bit_putBit _ _ (Nat.mod_lt _ (by decide))

/-- A clear that is held back by its cause or its reactions changes nothing; else the status bit goes (R243). -/
theorem State.rd_clearFault_stat (w : Fin 8) (b : Fin 32) : (s.clearFault (32 * w + b)).rd (.FLT_STAT w) =
    if s.bit (.FLT_LIVE w) b || s.offsHeld (32 * w + b) then s.rd (.FLT_STAT w)
    else s.rd (.FLT_STAT w) &&& ~~~ (1#32 <<< b.val) := by
  have hw : (32 * w.val + b.val) / 32 = w := by omega
  have hb : (32 * w.val + b.val) % 32 = b := by omega
  rw [State.rd_clearFault _ rfl, State.clears, State.latched, hw, hb]
  by_cases hheld : (s.bit (.FLT_LIVE w) b || s.offsHeld (32 * w + b)) = true
  · rw [if_pos hheld, if_neg]
    intro h
    simp only [Bool.and_eq_true, Bool.not_eq_true'] at h
    obtain ⟨⟨-, hlive⟩, hoffs⟩ := h
    simp [hlive, hoffs] at hheld
  · obtain ⟨hlive, hoffs⟩ := Bool.or_eq_false_iff.mp (Bool.not_eq_true _ ▸ hheld)
    cases hl : s.bit (.FLT_STAT w) b
    · simp only [hlive, hoffs, Bool.or_self, Bool.false_and, Bool.false_eq_true, if_false]
      exact (wputBit_eq_self b.isLt hl).symm
    · simp [hlive, hoffs, wputBit]

/-- Settles O19: each clause is a fact about the operation its command reaches. -/
theorem faults : Obligations.Faults := by
  unfold Obligations.Faults
  refine ⟨?raise, ?first, ?fetch, ?gone, ?clear, ?pin, ?cfg, ?tgt, ?cntclr, ?host⟩
  case raise =>
    intro f cause s hdark hout hfetch
    exact ⟨_, exec_faultRaise hdark hout hfetch, State.raise_shows f cause⟩
  case first =>
    intro f cause s hdark hout hfetch hlatched hclass hvalid
    refine ⟨_, exec_faultRaise hdark hout hfetch, State.raise_captures f.isLt cause.isLt ?_ ?_ ?_⟩
    · exact (State.latched_congr (fun w => State.rd_causeShown f (by simp)) f).trans hlatched
    · rwa [State.fld_congr (State.rd_causeShown (q := .FLT_CFG f) f (by simp))]
    · exact (State.bit_congr (State.rd_causeShown f (by simp)) 31).trans hvalid
  case fetch =>
    intro s hdark
    obtain ⟨u, hfetch, hu⟩ := State.fetchUe_eq (s := s)
    refine ⟨s.fetchUe, congrArg Host.Outcome.next ((if_neg ?_).trans (if_pos ⟨rfl, rfl⟩)), ?_⟩
    · have hout : s.causeOut (233 : Fin 256) true = true := rfl
      rw [hdark, hout]
      decide
    · rw [hfetch]
      refine ⟨State.latched_raise_mono false (State.latched_raise _ _), State.latched_raise _ _, fun hl => ?_⟩
      refine State.fltCause_raise ?_ (by decide)
      rw [State.latched_raise_eq, if_neg (by decide), hu, hl]
  case gone =>
    intro f s hlevel hout hstands
    refine ⟨_, congrArg Host.Outcome.next (if_pos (by simp [hlevel, hout, hstands])), ?_, ?_⟩
    · exact State.bit_putBit _ _ (Nat.mod_lt _ (by decide))
    · exact State.latched_congr (fun w => (State.rd_putBit ..).trans (if_neg (by simp))) f
  case clear =>
    intro i w b s htakes
    refine ⟨_, exec_faultClear b htakes, State.rd_clearFault_stat w b, fun hlatched hlive hoffs => ?_⟩
    have hw : (32 * w.val + b.val) / 32 = w := by omega
    have hb : (32 * w.val + b.val) % 32 = b := by omega
    refine State.lastMessage_clearFault ?_
    rw [State.clears, State.latched, hw, hb, hlatched, hlive, hoffs]
    rfl
  case pin =>
    intro s
    exact ⟨_, rfl, State.faultN_faultPin rfl, State.regs_faultPin⟩
  case cfg =>
    intro i f v s htakes hclass
    exact ⟨_, exec_fltCfgWrite htakes, State.wrFltCfg_shows hclass⟩
  case tgt =>
    intro i f v s htakes
    exact ⟨_, exec_fltTgtWrite htakes, State.wrFltTgt_shows f⟩
  case cntclr =>
    intro i v s htakes
    refine ⟨_, exec_cntclr htakes, ?_⟩
    unfold State.wrFltCtl
    simp only [Bool.and_eq_true, beq_iff_eq]
    split
    · exact fun k hk => State.rd_each_zero _ (.inl hk)
    · rfl
  case host =>
    intro i v s htakes
    exact ⟨_, exec_fltHostRaise htakes, fun k hk hv => State.latched_wrFltHost (List.mem_range.mp hk) hv⟩

end Sys2Proof.Machine

/-!
SUPPORT. The reactions of a fault source and its raise leave the pending checker injection alone (R254, R255): of the
hidden state of the signal box they note latched rails, refused rails and dry sources alone.
-/

namespace Sys2Proof.Machine

variable {s t : State}

/-! ### Occurrences of events, records and completions -/

theorem EventsOnly.fl (h : EventsOnly s t) : t.fl = s.fl := by
  obtain ⟨regs, mem, ev, me, rfl⟩ := h
  rfl

@[simp] theorem State.fl_condRise (f info code : Nat) (others : Bool) : (s.condRise f info code others).fl = s.fl :=
  (State.condRise_eventsOnly f info code others).fl

@[simp] theorem State.fl_condFall (f info code : Nat) : (s.condFall f info code).fl = s.fl :=
  (State.condFall_eventsOnly f info code).fl

@[simp] theorem State.fl_setFlagI (r : Reg) (b info code : Nat) : (s.setFlagI r b info code).fl = s.fl :=
  (State.setFlagI_eventsOnly r b info code).fl

@[simp] theorem State.fl_setFlag (r : Reg) (b : Nat) : (s.setFlag r b).fl = s.fl := State.fl_setFlagI ..

/-- A list of operations of which none reaches the pending injection. -/
theorem State.injection_each {α : Type} (l : List α) {f : α → State → State}
    (h : ∀ x s, (f x s).fl.injection = s.fl.injection) : (each l f s).fl.injection = s.fl.injection := by
  unfold each
  induction l generalizing s with
  | nil => rfl
  | cons x t ih => exact (ih (s := f x s)).trans (h x s)

@[simp] theorem State.injection_logRec (kind len : Nat) (stamp : Stamp) (l : List Word) :
    (s.logRec kind len stamp l).fl.injection = s.fl.injection := by
  unfold State.logRec
  split
  · rw [State.fl_setFlag]
    rfl
  · rfl

@[simp] theorem State.injection_complete (k code detail : Nat) : (s.complete k code detail).fl.injection = s.fl.injection := by
  unfold State.complete
  dsimp only
  split <;> rfl

/-! ### Stages, re-gangs and loops -/

@[simp] theorem State.injection_stageOff (m : Nat) : (s.stageOff m).fl.injection = s.fl.injection := by
  unfold State.stageOff
  dsimp only
  split <;> rfl

@[simp] theorem State.injection_stageLatch (m : Nat) : (s.stageLatch m).fl.injection = s.fl.injection := by
  unfold State.stageLatch
  dsimp only
  split
  · rfl
  · split <;> rfl

@[simp] theorem State.injection_showExcluded : s.showExcluded.fl.injection = s.fl.injection := by
  refine State.injection_each _ fun m s => ?_
  dsimp only
  split <;> simp

@[simp] theorem State.injection_regangEnd (g : Regang) (code : Nat) (shed : Bool) :
    (s.regangEnd g code shed).fl.injection = s.fl.injection := State.injection_complete ..

@[simp] theorem State.injection_regangDropStage (m : Nat) : (s.regangDropStage m).fl.injection = s.fl.injection := by
  simp [State.regangDropStage]

@[simp] theorem State.injection_regangOff (n code : Nat) : (s.regangOff n code).fl.injection = s.fl.injection := by
  unfold State.regangOff
  (repeat' split) <;> simp

@[simp] theorem State.injection_regangDown (code : Nat) : (s.regangDown code).fl.injection = s.fl.injection := by
  unfold State.regangDown
  (repeat' split) <;> simp

@[simp] theorem State.injection_regangLatch (n : Nat) : (s.regangLatch n).fl.injection = s.fl.injection := by
  unfold State.regangLatch
  (repeat' split) <;> simp

@[simp] theorem State.injection_zeroLoops (n : Nat) : (s.zeroLoops n).fl.injection = s.fl.injection := by
  refine State.injection_each _ fun k s => ?_
  dsimp only [State.putLoopX, State.putDest]
  split <;> rfl

/-! ### Rails -/

@[simp] theorem State.injection_railFailure (n cause : Nat) : (s.railFailure n cause).fl.injection = s.fl.injection := by
  unfold State.railFailure
  dsimp only
  split
  · rfl
  · simp

@[simp] theorem State.injection_leaveOn (n : Nat) : (s.leaveOn n).fl.injection = s.fl.injection := by
  have hpg : (s.pgLow n).fl.injection = s.fl.injection := by
    unfold State.pgLow
    dsimp only
    split
    · refine (State.injection_each _ fun x s => ?_).trans (congrArg FlX.injection (State.fl_condFall ..))
      rfl
    · rfl
  exact (State.injection_each _ fun _ _ => State.injection_stageOff _).trans hpg

@[simp] theorem State.injection_setRail (n st : Nat) : (s.setRail n st).fl.injection = s.fl.injection := rfl
@[simp] theorem State.injection_stopRamp (n : Nat) : (s.stopRamp n).fl.injection = s.fl.injection := rfl

@[simp] theorem State.injection_startRamp (n target full time : Nat) :
    (s.startRamp n target full time).fl.injection = s.fl.injection := State.injection_each _ fun _ _ => rfl

@[simp] theorem State.injection_boutCheck : s.boutCheck.fl.injection = s.fl.injection := by
  unfold State.boutCheck
  dsimp only
  split
  · simp [State.happen]
  · rfl

@[simp] theorem State.injection_railToOff (n : Nat) : (s.railToOff n).fl.injection = s.fl.injection := by
  simp [State.railToOff, State.injection_each]

@[simp] theorem State.injection_rampDown (n : Nat) : (s.rampDown n).fl.injection = s.fl.injection := by
  simp [State.rampDown]

@[simp] theorem State.injection_railOff (n code : Nat) : (s.railOff n code).fl.injection = s.fl.injection := by
  unfold State.railOff
  dsimp only
  (repeat' split) <;> simp

@[simp] theorem State.injection_latchRail (src n : Nat) : (s.latchRail src n).fl.injection = s.fl.injection := by
  simp [State.latchRail, State.injection_each, apply_ite (fun s : State => s.fl.injection)]

/-! ### Groups -/

@[simp] theorem State.injection_setGroup (g st : Nat) : (s.setGroup g st).fl.injection = s.fl.injection := by
  unfold State.setGroup
  dsimp only
  (repeat' split) <;> simp

@[simp] theorem State.injection_putGrpX (g : Nat) (x : GroupX) : (s.putGrpX g x).fl.injection = s.fl.injection := rfl

@[simp] theorem State.injection_classBCheck (g : Nat) : (s.classBCheck g).fl.injection = s.fl.injection := by
  unfold State.classBCheck
  split <;> rfl

@[simp] theorem State.injection_groupToOff (g : Nat) : (s.groupToOff g).fl.injection = s.fl.injection := by
  simp [State.groupToOff]

@[simp] theorem State.injection_stepReverse (g j code : Nat) : (s.stepReverse g j code).fl.injection = s.fl.injection := by
  unfold State.stepReverse
  dsimp only
  split
  · simp
  all_goals rfl

@[simp] theorem State.injection_groupOff (g code : Nat) : (s.groupOff g code).fl.injection = s.fl.injection := by
  unfold State.groupOff
  (repeat' split) <;> simp

@[simp] theorem State.injection_groupStartFail (n : Nat) : (s.groupStartFail n).fl.injection = s.fl.injection := by
  unfold State.groupStartFail
  dsimp only
  (repeat' split) <;> simp

@[simp] theorem State.injection_groupLatched (n : Nat) : (s.groupLatched n).fl.injection = s.fl.injection := by
  unfold State.groupLatched
  (repeat' split) <;> simp

/-! ### The reactions of the classes and the raise (Table 10.2, R239) -/

@[simp] theorem State.injection_groupOffLater (g code : Nat) : (s.groupOffLater g code).fl.injection = s.fl.injection := by
  unfold State.groupOffLater
  (repeat' split) <;> simp

@[simp] theorem State.injection_railOffLater (n code : Nat) : (s.railOffLater n code).fl.injection = s.fl.injection := by
  unfold State.railOffLater
  (repeat' split) <;> simp

@[simp] theorem State.injection_reactA (f : Nat) : (s.reactA f).fl.injection = s.fl.injection :=
  State.injection_each _ fun n s => by simp

@[simp] theorem State.injection_groupOffB (g : Nat) : (s.groupOffB g).fl.injection = s.fl.injection :=
  (State.injection_groupOffLater ..).trans (State.injection_each _ fun _ _ => rfl)

@[simp] theorem State.injection_railOffB (f n : Nat) : (s.railOffB f n).fl.injection = s.fl.injection := by
  simp [State.railOffB]

@[simp] theorem State.injection_offsWait (f : Nat) : (s.offsWait f).fl.injection = s.fl.injection := by
  unfold State.offsWait
  (repeat' split) <;> rfl

@[simp] theorem State.injection_reactB (f : Nat) : (s.reactB f).fl.injection = s.fl.injection := by
  simp [State.reactB, State.injection_each, apply_ite (fun s : State => s.fl.injection)]

@[simp] theorem State.injection_reloadAbort (code : Nat) : (s.reloadAbort code).fl.injection = s.fl.injection := by
  unfold State.reloadAbort
  dsimp only
  (repeat' split) <;> rfl

@[simp] theorem State.injection_react (f cls : Nat) : (s.react f cls).fl.injection = s.fl.injection := by
  unfold State.react
  dsimp only
  (repeat' split) <;> simp

@[simp] theorem State.injection_faultPin : s.faultPin.fl.injection = s.fl.injection := by
  unfold State.faultPin
  (repeat' split) <;> rfl

@[simp] theorem State.injection_captureFirst (f cls cause : Nat) :
    (s.captureFirst f cls cause).fl.injection = s.fl.injection := by
  unfold State.captureFirst
  split <;> rfl

@[simp] theorem State.injection_logFault (f cls cause : Nat) (clear : Bool) :
    (s.logFault f cls cause clear).fl.injection = s.fl.injection := by
  unfold State.logFault
  split <;> simp

@[simp] theorem State.injection_requestDump (f cause : Nat) : (s.requestDump f cause).fl.injection = s.fl.injection := by
  unfold State.requestDump
  split <;> rfl

@[simp] theorem State.injection_sendTrip (f : Nat) : (s.sendTrip f).fl.injection = s.fl.injection :=
  (congrArg FlX.injection (State.fl_setFlagI ..)).trans (State.injection_each _ fun _ _ => rfl)

@[simp] theorem State.injection_raiseReacts (f cause : Nat) (dry : Bool) :
    (s.raiseReacts f cause dry).fl.injection = s.fl.injection := by
  unfold State.raiseReacts
  dsimp only
  split
  · rfl
  · exact (State.injection_faultPin.trans (State.injection_react ..)).trans rfl

@[simp] theorem State.injection_raiseTells (f cause : Nat) (dry : Bool) :
    (s.raiseTells t f cause dry).fl.injection = t.fl.injection := by
  have hmessage (u : State) (cls : Nat) : (u.faultMessage f cls cause false).fl.injection = u.fl.injection := rfl
  simp [State.raiseTells, hmessage, apply_ite (fun s : State => s.fl.injection)]

theorem State.injection_raise (f cause : Nat) (dry : Bool) : (s.raise f cause dry).fl.injection = s.fl.injection := by
  rw [State.raise_parts]
  split
  · rfl
  · simp

end Sys2Proof.Machine

/-!
SUPPORT. Comparator force and checker injection (R253 to R255, log 85): FLT_FORCE, the keys and GO of FLT_INJ, and the
result of an injection.
-/

namespace Sys2Proof.Machine

open Host (Outcome)

variable {s : State} {i : Iface} {v : Word}

/-! ### FLT_FORCE (R253) -/

theorem exec_fltForceWrite (h : s.takes .FLT_FORCE = true) : exec (.fltForceWrite i v 0xF#4) s = .next (s.wrFltForce v) :=
  congrArg Outcome.next ((State.guardWrite_takes h).trans (congrArg s.wrFltForce (State.merged_whole ..)))

theorem State.wrFltForce_shows : if s.lifeCycle = 1 ∧ s.pins.testEn = true
    then (s.wrFltForce v).rd .FLT_FORCE = s.stored .FLT_FORCE v
    else (s.wrFltForce v).rd .FLT_FORCE = s.rd .FLT_FORCE ∧ (s.wrFltForce v).bit .FLT_FLAG 2 = true := by
  unfold State.wrFltForce
  simp only [Bool.and_eq_true, beq_iff_eq]
  split
  · exact State.rd_writeRw_self ..
  · exact State.fltRefused_shows (by decide) rfl (by simp)

/-! ### The keys of FLT_INJ (R254, log 85) -/

theorem exec_injectionUnlock (h : s.takes .FLT_INJ = true) :
    exec (.injectionUnlock i v 0xF#4) s = .next (s.wrFltInj v) :=
  congrArg Outcome.next ((State.guardWrite_takes h).trans (congrArg s.wrFltInj (State.merged_whole ..)))

/-- The first key as it stands, or no key. -/
def State.firstKey (s : State) (k : Option Time) : State := { s with fl := { s.fl with key1 := k } }

theorem State.wrFltInj_key1 (hgo : wbit v 31 = false) (hkey : getF v Fld.FLT_INJ_KEY = 0x3C) :
    s.wrFltInj v = (s.writeRw .FLT_INJ v).firstKey (some s.clock.localTicks) := by
  unfold State.wrFltInj
  dsimp only
  rw [if_neg (by simp [hgo]), if_pos hkey]
  rfl

theorem State.wrFltInj_key2 (hgo : wbit v 31 = false) (hkey : getF v Fld.FLT_INJ_KEY = 0xC3) (hfresh : s.keyFresh = true) :
    s.wrFltInj v = ((s.writeRw .FLT_INJ v).firstKey none).putBit .FLT_INJSTAT 8 true := by
  unfold State.wrFltInj
  dsimp only
  rw [if_neg (by simp [hgo]), if_neg (by simp [hkey]), if_pos ⟨hkey, hfresh⟩]
  rfl

/-! ### GO (R254, R255) -/

theorem exec_go (h : s.takes .FLT_INJ = true) : exec (.go i v 0xF#4) s = .next (s.wrFltInj v) :=
  congrArg Outcome.next ((State.guardWrite_takes h).trans (congrArg s.wrFltInj (State.merged_whole ..)))

theorem State.wrFltInj_go (hgo : wbit v 31 = true) : s.wrFltInj v = ((s.writeRw .FLT_INJ v).firstKey none).injectGo :=
  if_pos hgo

/-- Bits that a mask lets through are the written ones. -/
theorem wbit_stored {w m : Word} {b : Nat} (hm : wbit m b = true) : wbit ((w &&& ~~~ m) ||| (v &&& m)) b = wbit v b := by
  have hb : b < 32 := BitVec.lt_of_getLsbD hm
  have hmask : m.getLsbD b = true := hm
  simp [wbit, hmask]

/-- A field that a mask lets through whole is the written one. -/
theorem getF_stored {w m : Word} {F : Field} (hm : ∀ k < F.width, wbit m (F.lo + k) = true) :
    getF ((w &&& ~~~ m) ||| (v &&& m)) F = getF v F := by
  refine Nat.eq_of_testBit_eq fun k => ?_
  rw [getF_testBit, getF_testBit]
  by_cases hk : k < F.width
  · exact congrArg (decide (k < F.width) && ·) (wbit_stored (hm k hk))
  · simp [hk]

/-- An injection is under way: checker, unit, dry. -/
def State.injects (s : State) (c u : Nat) (dry : Bool) : State :=
  { s with fl := { s.fl with injection := some (c, u, dry) } }

/-- On a checker that can be reached a GO depends on the unlock and the state of life alone. -/
theorem State.injectGo_eq (hlink : s.fld .FLT_INJ Fld.FLT_INJ_CHK ≠ 2 ∨ s.powered .link = true) : s.injectGo =
    if s.bit .FLT_INJSTAT 8 = true ∧ 1 ≤ s.lifeCycle ∧ s.lifeCycle ≤ 3
    then ((s.putBit .FLT_INJSTAT 8 false).injects (s.fld .FLT_INJ Fld.FLT_INJ_CHK) (s.fld .FLT_INJ Fld.FLT_INJ_UNIT)
      (s.bit .FLT_INJ 30)).addSat .FLT_INJSTAT Fld.FLT_INJSTAT_INJCNT 1
    else ((s.putBit .FLT_INJSTAT 8 false).put .FLT_INJSTAT Fld.FLT_INJSTAT_RESULT 3).setFlag .FLT_FLAG 1 := by
  have hport : (s.fld .FLT_INJ Fld.FLT_INJ_CHK != 2 || s.powered .link) = true := by simpa using hlink
  unfold State.injectGo
  refine ite_congr (propext ?_) (fun _ => rfl) fun _ => rfl
  rw [hport, Bool.and_true, Bool.and_eq_true, inRange, Bool.and_eq_true, decide_eq_true_eq, decide_eq_true_eq]

/-- A GO ends the unlock, and starts its injection or shows that it is refused. -/
theorem State.injectGo_shows (hlink : s.fld .FLT_INJ Fld.FLT_INJ_CHK ≠ 2 ∨ s.powered .link = true) :
    s.injectGo.bit .FLT_INJSTAT 8 = false ∧ if s.bit .FLT_INJSTAT 8 = true ∧ 1 ≤ s.lifeCycle ∧ s.lifeCycle ≤ 3
      then s.injectGo.fl.injection =
        some (s.fld .FLT_INJ Fld.FLT_INJ_CHK, s.fld .FLT_INJ Fld.FLT_INJ_UNIT, s.bit .FLT_INJ 30)
      else s.injectGo.fld .FLT_INJSTAT Fld.FLT_INJSTAT_RESULT = 3 ∧ s.injectGo.bit .FLT_FLAG 1 = true := by
  have hlocked : (s.putBit .FLT_INJSTAT 8 false).bit .FLT_INJSTAT 8 = false := State.bit_putBit _ _ (by decide)
  have hstat : (((s.putBit .FLT_INJSTAT 8 false).put .FLT_INJSTAT Fld.FLT_INJSTAT_RESULT 3).setFlag .FLT_FLAG 1).rd
      .FLT_INJSTAT = putF ((s.putBit .FLT_INJSTAT 8 false).rd .FLT_INJSTAT) Fld.FLT_INJSTAT_RESULT 3 :=
    (State.fltRefused_shows (by decide) rfl (by simp)).1.trans ((State.rd_put ..).trans (if_pos rfl))
  rw [State.injectGo_eq hlink]
  split
  · refine ⟨?_, rfl⟩
    rw [State.bit, State.addSat, State.rd_put, if_pos rfl, wbit_putF_other _ _ _ _ rfl (by decide)]
    exact hlocked
  · refine ⟨?_, ?_, State.bit_setFlag _ _ (by decide) (by decide) (by decide)⟩
    · rw [State.bit, hstat, wbit_putF_other _ _ _ _ rfl (by decide)]
      exact hlocked
    · rw [State.fld, hstat, getF_putF _ _ _ rfl]
      rfl

/-- A write with GO injects what the same write names. -/
theorem State.wrFltInj_go_shows (hgo : wbit v 31 = true)
    (hlink : getF v Fld.FLT_INJ_CHK ≠ 2 ∨ s.powered .link = true) : (s.wrFltInj v).bit .FLT_INJSTAT 8 = false ∧
      if s.bit .FLT_INJSTAT 8 = true ∧ 1 ≤ s.lifeCycle ∧ s.lifeCycle ≤ 3
      then (s.wrFltInj v).fl.injection = some (getF v Fld.FLT_INJ_CHK, getF v Fld.FLT_INJ_UNIT, wbit v 30)
      else (s.wrFltInj v).fld .FLT_INJSTAT Fld.FLT_INJSTAT_RESULT = 3 ∧ (s.wrFltInj v).bit .FLT_FLAG 1 = true := by
  have hinj : ((s.writeRw .FLT_INJ v).firstKey none).rd .FLT_INJ = s.stored .FLT_INJ v := State.rd_writeRw_self ..
  have hchk : ((s.writeRw .FLT_INJ v).firstKey none).fld .FLT_INJ Fld.FLT_INJ_CHK = getF v Fld.FLT_INJ_CHK := by
    rw [State.fld, hinj]
    exact getF_stored (by decide)
  have hunit : ((s.writeRw .FLT_INJ v).firstKey none).fld .FLT_INJ Fld.FLT_INJ_UNIT = getF v Fld.FLT_INJ_UNIT := by
    rw [State.fld, hinj]
    exact getF_stored (by decide)
  have hdry : ((s.writeRw .FLT_INJ v).firstKey none).bit .FLT_INJ 30 = wbit v 30 := by
    rw [State.bit, hinj]
    exact wbit_stored (by decide)
  have hstat : ((s.writeRw .FLT_INJ v).firstKey none).bit .FLT_INJSTAT 8 = s.bit .FLT_INJSTAT 8 :=
    State.bit_congr (State.rd_writeRw_other v (by simp)) 8
  have hlife : ((s.writeRw .FLT_INJ v).firstKey none).lifeCycle = s.lifeCycle :=
    State.fld_congr (State.rd_writeRw_other v (by simp)) _
  have hgoes := State.injectGo_shows (s := (s.writeRw .FLT_INJ v).firstKey none) (hchk ▸ hlink)
  rw [hchk, hunit, hdry, hstat, hlife] at hgoes
  rw [State.wrFltInj_go hgo]
  exact hgoes

/-! ### The result (R255) -/

/-- The injection is over and its result stands in FLT_INJSTAT. -/
def State.injectionOver (s : State) (d : Bool) : State :=
  ({ s with fl := { s.fl with injection := none } } : State).put .FLT_INJSTAT Fld.FLT_INJSTAT_RESULT (if d then 1 else 2)

theorem exec_injectionResult {d : Bool} {c u : Nat} {dry : Bool} (h : s.fl.injection = some (c, u, dry)) :
    exec (.injectionResult d) s =
      .next ((s.injectionOver d).raise (injSource c u) (if d then 0xF else 0xE) dry) := by
  simp only [exec, execInjectionResult, h]
  rfl

theorem State.latched_injectionOver (d : Bool) (f : Nat) : (s.injectionOver d).latched f = s.latched f :=
  State.latched_congr (fun w => (State.rd_put ..).trans (if_neg (by simp))) f

theorem State.result_injectionOver (d : Bool) :
    (s.injectionOver d).fld .FLT_INJSTAT Fld.FLT_INJSTAT_RESULT = if d then 1 else 2 := by
  unfold State.injectionOver State.fld
  rw [State.rd_put, if_pos rfl, getF_putF _ _ _ rfl]
  cases d <;> rfl

/-- Settles O20: the keys and GO are one branch of a write of FLT_INJ each, and the raise at the end leaves the result. -/
theorem injection : Obligations.Injection := by
  unfold Obligations.Injection
  refine ⟨?force, ?fall, ?key1, ?key2, ?expiry, ?go, ?result⟩
  case force =>
    intro i v s htakes
    exact ⟨_, exec_fltForceWrite htakes, State.wrFltForce_shows⟩
  case fall =>
    intro s
    exact ⟨_, rfl, rfl, State.bit_putBit _ _ (by decide)⟩
  case key1 =>
    intro i v s htakes hgo hkey
    refine ⟨_, exec_injectionUnlock htakes, ?_⟩
    rw [State.wrFltInj_key1 hgo hkey]
    exact ⟨rfl, State.rd_writeRw_other v (by simp)⟩
  case key2 =>
    intro i v s htakes hgo hkey hfresh
    refine ⟨_, exec_injectionUnlock htakes, ?_⟩
    rw [State.wrFltInj_key2 hgo hkey hfresh]
    exact ⟨State.bit_putBit _ _ (by decide), rfl⟩
  case expiry =>
    exact fun _ => rfl
  case go =>
    intro i v s htakes hgo hlink
    exact ⟨_, exec_go htakes, State.wrFltInj_go_shows hgo hlink⟩
  case result =>
    intro d c u dry s hinjection
    have hcause : (if d then 0xF else 0xE : Nat) < 16 := by cases d <;> decide
    refine ⟨_, exec_injectionResult hinjection, State.injection_raise .., ?_, ?_, fun hlatched => ?_⟩
    · exact (State.fld_congr (State.rd_raise_other dry rfl rfl) _).trans (State.result_injectionOver d)
    · rw [State.latched_raise_eq, if_pos rfl]
    · rw [State.fltCause_raise_eq dry hcause, State.latched_injectionOver, hlatched]
      rfl

end Sys2Proof.Machine

/-!
SUPPORT. What every command and every step keeps: the queue behind the command, the life-cycle marks, and on an empty queue
memory as well. A tick moves the keeper clock on by one.
-/

namespace Sys2Proof.Machine

variable {s : State}

/-- Settles O49: no command and no tick takes a mark away (R334). -/
theorem marksAreNeverLost : Obligations.MarksAreNeverLost := by
  unfold Obligations.MarksAreNeverLost
  intro m s t hm hstep
  exact (step_keeps hstep).marks m hm

/-- Settles O46 by what every command keeps. -/
theorem everyCommandCompletes : Obligations.EveryCommandCompletes := by
  unfold Obligations.EveryCommandCompletes
  intro c s
  obtain ⟨t, ht, k⟩ := exec_keeps (B := fun _ => True) (M := True) (x0 := c) (s := s) (fun _ => trivial) trivial
  exact ⟨t, ht, k.pending⟩

/-- Settles O53: the decoder's table is empty. -/
theorem noTableWord : Obligations.NoTableWord := by
  unfold Obligations.NoTableWord
  intro n w s
  have hd : decodeTableWord n w = none := rfl
  exact ⟨hd, by simp [State.withFetchWord, hd]⟩

/-! ### The clocks under a tick -/

/-- What no element of a list changes, the whole list leaves. -/
theorem each_same {α β σ : Type} (g : σ → β) {l : List α} {f : α → σ → σ} (h : ∀ x s, g (f x s) = g s) (s : σ) :
    g (each l f s) = g s := by
  unfold each
  induction l generalizing s with
  | nil => rfl
  | cons x t ih => exact (ih (f x s)).trans (h x s)

theorem State.keeper_keeperSecond : s.keeperSecond.clock = s.clock := by
  simp only [State.keeperSecond, State.secondsDown]
  repeat' split
  all_goals simp

theorem State.clock_portChar (p : Nat) : (s.portChar p).clock = s.clock := by
  unfold State.portChar
  dsimp only
  split
  · rfl
  · rfl
  · split
    · split <;> rfl
    · rfl

theorem State.keeper_linkTick : s.linkTick.clock.keeper = s.clock.keeper := by
  unfold State.linkTick
  rw [each_same State.clock fun p s => s.clock_portChar p]
  rfl

theorem State.clock_usTick : s.usTick.clock = s.clock := by
  have ramps : ∀ (l : List (Nat × Ramp)) (s : State), (each l (fun e s => s.rampTick e) s).clock = s.clock :=
    fun l => each_same State.clock fun e s => rfl
  have shares : ∀ (l : List Nat) (s : State), (each l (fun m s => s.shareTick m) s).clock = s.clock :=
    fun l => each_same State.clock fun m s => rfl
  simp only [State.usTick]
  repeat' split
  all_goals simp [ramps, shares, State.agesTick]

theorem State.clock_msTick : s.msTick.clock = s.clock := by
  have tasks : ∀ (l : List Nat) (s : State),
      (each l (fun t s => s.addSat (.WDG_T_STAT t) Fld.WDG_T_STAT_ELAPSED 1) s).clock = s.clock :=
    fun l => each_same State.clock fun t s => rfl
  have energy : ∀ s : State, s.energyTick.clock = s.clock :=
    each_same State.clock fun n s => by unfold State.railEnergy; dsimp only; split <;> rfl
  simp only [State.msTick]
  split <;> simp [tasks, energy]

theorem State.clock_localSecond : s.localSecond.clock = s.clock := by
  unfold State.localSecond
  split
  · exact each_same State.clock (fun _ _ => State.clock_wr _ _) s
  · rfl

theorem State.keeper_localTick : s.localTick.clock.keeper = s.clock.keeper := by
  simp only [State.localTick]
  repeat' split
  all_goals simp [State.clock_usTick, State.clock_msTick, State.clock_localSecond]

theorem State.keeper_tick : s.tick.clock.keeper = s.clock.keeper + 1 := by
  simp only [State.tick]
  repeat' split
  all_goals simp [State.keeper_keeperSecond, State.keeper_linkTick, State.keeper_localTick]

/-- Settles O44: the tick moves the keeper clock by one and stores nothing. -/
theorem idleTick : Obligations.IdleTick := by
  unfold Obligations.IdleTick
  intro s hp
  have k : Keeps (fun _ => True) False s s.tick := State.tick_keeps (Keeps.refl s) fun _ => trivial
  exact ⟨s.tick, step_idle hp, k.pending.trans hp, State.keeper_tick, k.bytes id⟩

end Sys2Proof.Machine

/-!
SUPPORT. The frame of memory: a command that stores nothing changes memory in queued event records alone, and a command
that raises no event leaves all of it.
-/

namespace Sys2Proof.Machine

/-- A command that stores nothing of its own is steady: the fact about its operations. -/
theorem exec_steady {c : Instr} {s : State} (h : storesNothing c = true) : ∃ t, exec c s = .next t ∧ Steady s t := by
  cases c with
  | nopConfig => exact execNopConfig_steady
  | nopLedger => exact execNopLedger_steady
  | nopCalibration => exact execNopCalibration_steady
  | nopFabric => exact execNopFabric_steady
  | tplVerify => exact execTplVerify_steady
  | tplStore => exact execTplStore_steady
  | stgCfgWrite i => exact execStgCfgWrite_steady (x0 := i)
  | pntCfgWrite i => exact execPntCfgWrite_steady (x0 := i)
  | valleyComparatorFire => exact execValleyComparatorFire_steady
  | zeroCurrentDetect => exact execZeroCurrentDetect_steady
  | negativeLimit => exact execNegativeLimit_steady
  | ocTimeout => exact execOcTimeout_steady
  | aggregateLimit => exact execAggregateLimit_steady
  | hsshortDetect => exact execHsshortDetect_steady
  | testWindowEnd => exact execTestWindowEnd_steady
  | bootEnd _ x1 => exact execBootEnd_steady (x1 := x1)
  | shareRampEnd => exact execShareRampEnd_steady
  | leaveCurrentZero => exact execLeaveCurrentZero_steady
  | leaveTimeout => exact execLeaveTimeout_steady
  | stgFlagWrite x0 => exact execStgFlagWrite_steady (x0 := x0)
  | watershedTick => exact execWatershedTick_steady
  | pointSettled => exact execPointSettled_steady
  | swyRegang => exact execSwyRegang_steady
  | loopSampleTrigger => exact execLoopSampleTrigger_steady
  | loopSampleDone => exact execLoopSampleDone_steady
  | tempoWindowEnd => exact execTempoWindowEnd_steady
  | loopRestored => exact execLoopRestored_steady
  | rminReset x0 => exact execRminReset_steady (x0 := x0)
  | lpeShedWrite x0 => exact execLpeShedWrite_steady (x0 := x0)
  | loopOpenRequest x0 => exact execLoopOpenRequest_steady (x0 := x0)
  | loopCloseRequest x0 => exact execLoopCloseRequest_steady (x0 := x0)
  | loopCloseCleared x0 => exact execLoopCloseCleared_steady (x0 := x0)
  | lpsCfgWrite x0 => exact execLpsCfgWrite_steady (x0 := x0)
  | lpsOutWrite x0 => exact execLpsOutWrite_steady (x0 := x0)
  | lpsInWrite x0 => exact execLpsInWrite_steady (x0 := x0)
  | coefWrite x0 => exact execCoefWrite_steady (x0 := x0)
  | loopOpenlong => exact execLoopOpenlong_steady
  | watchSettleEnd => exact execWatchSettleEnd_steady
  | loopFollow => exact execLoopFollow_steady
  | loopModel => exact execLoopModel_steady
  | railOnRequest x0 => exact execRailOnRequest_steady (x0 := x0)
  | railOffRequest x0 => exact execRailOffRequest_steady (x0 := x0)
  | onDelayEnd _ x1 => exact execOnDelayEnd_steady (x1 := x1)
  | offDelayEnd => exact execOffDelayEnd_steady
  | setpointReached => exact execSetpointReached_steady
  | dischargeDone => exact execDischargeDone_steady
  | dischargeTimeout _ x1 => exact execDischargeTimeout_steady (x1 := x1)
  | startTimeout => exact execStartTimeout_steady
  | vsetWrite x0 => exact execVsetWrite_steady (x0 := x0)
  | pgAssert => exact execPgAssert_steady
  | groupOnRequest x0 => exact execGroupOnRequest_steady (x0 := x0)
  | groupOffRequest x0 => exact execGroupOffRequest_steady (x0 := x0)
  | stepHoldEnd => exact execStepHoldEnd_steady
  | stepWrite x0 => exact execStepWrite_steady (x0 := x0)
  | boutStart x0 => exact execBoutStart_steady (x0 := x0)
  | vinBelowVon x0 => exact execVinBelowVon_steady (x0 := x0)
  | ttbBoutWrite x0 => exact execTtbBoutWrite_steady (x0 := x0)
  | ovCrossing => exact execOvCrossing_steady
  | uvCrossing => exact execUvCrossing_steady
  | crossingEnd => exact execCrossingEnd_steady
  | resetRelease => exact execResetRelease_steady
  | gaugeTick => exact execGaugeTick_steady
  | surveyCal => exact execSurveyCal_steady
  | converterCalDone => exact execConverterCalDone_steady
  | scanStart => exact execScanStart_steady
  | start x0 => exact execStart_steady (x0 := x0)
  | dmaEnable x0 => exact execDmaEnable_steady (x0 := x0)
  | fire x0 => exact execFire_steady (x0 := x0)
  | sourceLoss => exact execSourceLoss_steady
  | handoverComplete => exact execHandoverComplete_steady
  | shipRequest => exact execShipRequest_steady
  | shipCancel => exact execShipCancel_steady
  | buttonChange => exact execButtonChange_steady
  | bkpBatcfgWrite => exact execBkpBatcfgWrite_steady
  | bkpChgWrite => exact execBkpChgWrite_steady
  | bkpPathWrite => exact execBkpPathWrite_steady
  | bkpQualWrite => exact execBkpQualWrite_steady
  | checkEnd => exact execCheckEnd_steady
  | bkpFlagWrite => exact execBkpFlagWrite_steady
  | kick => exact execKick_steady
  | gauCyclesWrite x0 => exact execGauCyclesWrite_steady (x0 := x0)
  | newpack x0 => exact execNewpack_steady (x0 := x0)
  | phaseCountEval => exact execPhaseCountEval_steady
  | derateEval => exact execDerateEval_steady
  | otPark => exact execOtPark_steady
  | ffwdEval => exact execFfwdEval_steady
  | rideEval => exact execRideEval_steady
  | polLockWrite x0 => exact execPolLockWrite_steady (x0 := x0)
  | polLimitWrite x0 => exact execPolLimitWrite_steady (x0 := x0)
  | faultRaise => exact execFaultRaise_steady
  | faultClear x0 => exact execFaultClear_steady (x0 := x0)
  | fltCfgWrite x0 => exact execFltCfgWrite_steady (x0 := x0)
  | fltTgtWrite x0 => exact execFltTgtWrite_steady (x0 := x0)
  | cntclr x0 => exact execCntclr_steady (x0 := x0)
  | fltForceWrite x0 => exact execFltForceWrite_steady (x0 := x0)
  | injectionUnlock x0 => exact execInjectionUnlock_steady (x0 := x0)
  | go x0 => exact execGo_steady (x0 := x0)
  | injectionResult => exact execInjectionResult_steady
  | fltHostRaise x0 => exact execFltHostRaise_steady (x0 := x0)
  | eventOccurrence => exact execEventOccurrence_steady
  | stormWindowClose => exact execStormWindowClose_steady
  | pendWrite x0 => exact execPendWrite_steady (x0 := x0)
  | freezeWrite x0 => exact execFreezeWrite_steady (x0 := x0)
  | take => exact execTake_steady
  | eoi => exact execEoi_steady
  | commandStart => exact execCommandStart_steady
  | unknownOp => exact execUnknownOp_steady
  | cmdCancel => exact execCmdCancel_steady
  | cmdQuery => exact execCmdQuery_steady
  | memPretireWrite x0 => exact execMemPretireWrite_steady (x0 := x0)
  | ldgRetire => exact execLdgRetire_steady
  | ldgFwWrite => exact execLdgFwWrite_steady
  | ldgFwSeal => exact execLdgFwSeal_steady
  | ldgFwActivate => exact execLdgFwActivate_steady
  | ldgUserWrite => exact execLdgUserWrite_steady
  | otpProgram => exact execOtpProgram_steady
  | otpDone => exact execOtpDone_steady
  | lifecycleTransition => exact execLifecycleTransition_steady
  | taskRegister x0 => exact execTaskRegister_steady (x0 := x0)
  | token => exact execToken_steady
  | windowOpen => exact execWindowOpen_steady
  | periodEnd => exact execPeriodEnd_steady
  | wdgWarn => exact execWdgWarn_steady
  | wdgCtlWrite x0 => exact execWdgCtlWrite_steady (x0 := x0)
  | checkTransmit => exact execCheckTransmit_steady
  | frameHeaderReceive => exact execFrameHeaderReceive_steady
  | frameCrcFail => exact execFrameCrcFail_steady
  | checkReceive => exact execCheckReceive_steady
  | portAligned => exact execPortAligned_steady
  | alignLost => exact execAlignLost_steady
  | portUp => exact execPortUp_steady
  | checkTimeout => exact execCheckTimeout_steady
  | losAssert => exact execLosAssert_steady
  | lnkCfgWrite => exact execLnkCfgWrite_steady
  | rtBWrite x0 => exact execRtBWrite_steady (x0 := x0)
  | rtAWrite x0 => exact execRtAWrite_steady (x0 := x0)
  | lineSurvey => exact execLineSurvey_steady
  | surveyReceive => exact execSurveyReceive_steady
  | replyReceive => exact execReplyReceive_steady
  | assignReceive => exact execAssignReceive_steady
  | routeReceive => exact execRouteReceive_steady
  | tripSend => exact execTripSend_steady
  | tripReceive => exact execTripReceive_steady
  | flwOpen => exact execFlwOpen_steady
  | flwClose => exact execFlwClose_steady
  | flowSend => exact execFlowSend_steady
  | retransmitTimeout => exact execRetransmitTimeout_steady
  | rxreadWrite x0 => exact execRxreadWrite_steady (x0 := x0)
  | syncReceive => exact execSyncReceive_steady
  | reqReceive => exact execReqReceive_steady
  | respReceive => exact execRespReceive_steady
  | timeSet => exact execTimeSet_steady
  | summitMark => exact execSummitMark_steady
  | markReceive => exact execMarkReceive_steady
  | markLatch => exact execMarkLatch_steady
  | timMarkdone => exact execTimMarkdone_steady
  | cxgo x0 => exact execCxgo_steady (x0 := x0)
  | rails => exact execRails_steady
  | ul => exact execUl_steady
  | baud => exact execBaud_steady
  | monBadLine => exact execMonBadLine_steady
  | monCfgWrite => exact execMonCfgWrite_steady
  | legacyWrite x0 => exact execLegacyWrite_steady (x0 := x0)
  | takeRelease x0 => exact execTakeRelease_steady (x0 := x0)
  | groupCapture => exact execGroupCapture_steady
  | xngStuck => exact execXngStuck_steady
  | crossingTimeout => exact execCrossingTimeout_steady
  | sleepRequest x0 => exact execSleepRequest_steady (x0 := x0)
  | deepRequest x0 => exact execDeepRequest_steady (x0 := x0)
  | deepDrop x0 => exact execDeepDrop_steady (x0 := x0)
  | faultCauseGone => exact execFaultCauseGone_steady
  | safeReloadResume => exact execSafeReloadResume_steady
  | holdTimeout => exact execHoldTimeout_steady
  | swyAggOc => exact execSwyAggOc_steady
  | minoffEnd => exact execMinoffEnd_steady
  | vinQualified => exact execVinQualified_steady
  | commonTrigger => exact execCommonTrigger_steady
  | handoverTimeout => exact execHandoverTimeout_steady
  | sysSag => exact execSysSag_steady
  | sourceReturn => exact execSourceReturn_steady
  | pathRetrej => exact execPathRetrej_steady
  | handbackStart => exact execHandbackStart_steady
  | pathHandback => exact execPathHandback_steady
  | handbackTimeout => exact execHandbackTimeout_steady
  | batCut => exact execBatCut_steady
  | shipWakeButton => exact execShipWakeButton_steady
  | sourceWake => exact execSourceWake_steady
  | openEnd => exact execOpenEnd_steady
  | prechargeEnd => exact execPrechargeEnd_steady
  | cvEntry => exact execCvEntry_steady
  | chgDone => exact execChgDone_steady
  | recharge => exact execRecharge_steady
  | packTempOut => exact execPackTempOut_steady
  | packTempBack => exact execPackTempBack_steady
  | batAbsent => exact execBatAbsent_steady
  | batPresent => exact execBatPresent_steady
  | chgTimer => exact execChgTimer_steady
  | chgOv => exact execChgOv_steady
  | chgWdog => exact execChgWdog_steady
  | gauStale => exact execGauStale_steady
  | gaugeHourlyRecord => exact execGaugeHourlyRecord_steady
  | rideEpisodeEnd => exact execRideEpisodeEnd_steady
  | polRideRestore => exact execPolRideRestore_steady
  | faultNRelease => exact execFaultNRelease_steady
  | testEnFall => exact execTestEnFall_steady
  | injectionUnlockExpiry => exact execInjectionUnlockExpiry_steady
  | freezeExpiry => exact execFreezeExpiry_steady
  | pageCopyDone => exact execPageCopyDone_steady
  | ledgerWriteFail => exact execLedgerWriteFail_steady
  | eraseSuspend => exact execEraseSuspend_steady
  | eraseResume => exact execEraseResume_steady
  | loaderRestart => exact execLoaderRestart_steady
  | drainTimeout => exact execDrainTimeout_steady
  | probeTimeout => exact execProbeTimeout_steady
  | tripKeyExpiry => exact execTripKeyExpiry_steady
  | eventForward => exact execEventForward_steady
  | syncPeriod => exact execSyncPeriod_steady
  | holdover => exact execHoldover_steady
  | wakenack => exact execWakenack_steady
  | arbitrationLost => exact execArbitrationLost_steady
  | id => exact execId_steady
  | flt => exact execFlt_steady
  | lk => exact execLk_steady
  | baudrev => exact execBaudrev_steady
  | lockoutEnd => exact execLockoutEnd_steady
  | unlockIdleExpiry => exact execUnlockIdleExpiry_steady
  | deepHoldTimeout => exact execDeepHoldTimeout_steady
  | refclkLoss => exact execRefclkLoss_steady
  | refclkReturn => exact execRefclkReturn_steady
  | _ => exact Bool.noConfusion h

/-- A command that raises no event keeps memory: none of its operations stores. -/
theorem exec_keeps_mem {c : Instr} {s : State} (h : touchesNoMemory c = true) :
    ∃ t, exec c s = .next t ∧ Keeps (fun _ => True) False s t := by
  cases c with
  | zeroCurrentDetect => exact execZeroCurrentDetect_keeps trivial
  | aggregateLimit => exact execAggregateLimit_keeps trivial trivial
  | testWindowEnd => exact execTestWindowEnd_keeps trivial
  | shareRampEnd => exact execShareRampEnd_keeps trivial trivial
  | watershedTick => exact execWatershedTick_keeps trivial
  | pointSettled => exact execPointSettled_keeps trivial trivial
  | loopRestored => exact execLoopRestored_keeps trivial
  | watchSettleEnd => exact execWatchSettleEnd_keeps
  | setpointReached => exact execSetpointReached_keeps trivial
  | vinBelowVon u => exact execVinBelowVon_keeps (x0 := u) trivial
  | crossingEnd => exact execCrossingEnd_keeps trivial trivial
  | resetRelease => exact execResetRelease_keeps trivial
  | converterCalDone => exact execConverterCalDone_keeps trivial trivial
  | scanStart => exact execScanStart_keeps
  | handoverComplete => exact execHandoverComplete_keeps trivial trivial trivial
  | buttonChange => exact execButtonChange_keeps trivial
  | phaseCountEval => exact execPhaseCountEval_keeps trivial trivial
  | derateEval => exact execDerateEval_keeps trivial trivial
  | ffwdEval => exact execFfwdEval_keeps trivial
  | stormWindowClose => exact execStormWindowClose_keeps
  | windowOpen => exact execWindowOpen_keeps trivial
  | checkTransmit => exact execCheckTransmit_keeps
  | portAligned => exact execPortAligned_keeps trivial
  | alignLost => exact execAlignLost_keeps trivial
  | surveyReceive => exact execSurveyReceive_keeps
  | reqReceive => exact execReqReceive_keeps
  | respReceive => exact execRespReceive_keeps trivial
  | faultCauseGone => exact execFaultCauseGone_keeps trivial
  | safeReloadResume => exact execSafeReloadResume_keeps trivial
  | holdTimeout => exact execHoldTimeout_keeps trivial
  | sourceReturn => exact execSourceReturn_keeps trivial trivial trivial
  | handbackStart => exact execHandbackStart_keeps trivial trivial trivial
  | shipWakeButton => exact execShipWakeButton_keeps trivial trivial trivial
  | sourceWake => exact execSourceWake_keeps trivial
  | openEnd => exact execOpenEnd_keeps trivial trivial trivial
  | faultNRelease => exact execFaultNRelease_keeps
  | testEnFall => exact execTestEnFall_keeps trivial
  | injectionUnlockExpiry => exact execInjectionUnlockExpiry_keeps trivial
  | eraseSuspend => exact execEraseSuspend_keeps
  | eraseResume => exact execEraseResume_keeps
  | loaderRestart => exact execLoaderRestart_keeps
  | drainTimeout => exact execDrainTimeout_keeps trivial
  | probeTimeout => exact execProbeTimeout_keeps trivial trivial
  | tripKeyExpiry => exact execTripKeyExpiry_keeps
  | syncPeriod => exact execSyncPeriod_keeps
  | id => exact execId_keeps
  | lockoutEnd => exact execLockoutEnd_keeps trivial
  | unlockIdleExpiry => exact execUnlockIdleExpiry_keeps trivial
  | refclkReturn => exact execRefclkReturn_keeps trivial
  | _ => exact Bool.noConfusion h

/-- Settles O52: steady commands leave the bytes outside queued records, and those without an event all of memory. -/
theorem memoryFrame : Obligations.MemoryFrame := by
  unfold Obligations.MemoryFrame
  refine ⟨?stored, ?untouched⟩
  case stored =>
    intro c a s t hc ht hm ha
    obtain ⟨u, hu, k⟩ := exec_steady (s := s) hc
    cases hu.symm.trans ht
    exact (k.bytes hm).2 a ha
  case untouched =>
    intro c s t hc ht
    obtain ⟨u, hu, k⟩ := exec_keeps_mem (s := s) hc
    cases hu.symm.trans ht
    exact k.bytes id

end Sys2Proof.Machine

/-!
SUPPORT. What the sensing of an occurrence leaves alone (R259, R261, R267): of the registers only PEND bits rise and marks of
the error log clear, of the event controller only the sources count, and no source gains or loses its queued record.
-/

namespace Sys2Proof.Machine

variable {s t u : State}

/-- The registers an occurrence may change: PEND of its source, and the rewrite mark of a logged word (R261, R300). -/
def Reg.sensed : Reg → Bool
  | .EVT_PEND _ | .MEM_LOG_INFO _ => true
  | _ => false

/-- From `s` to `t` occurrences are sensed and nothing else happens. -/
structure Senses (s t : State) : Prop where
  only : EventsOnly s t
  rd : ∀ q : Reg, q.sensed = false → t.rd q = s.rd q
  pend : ∀ w b, s.bit (.EVT_PEND w) b = true → t.bit (.EVT_PEND w) b = true
  ev : ∃ srcs, t.ev = { s.ev with srcs := srcs }
  queued : ∀ f, (t.src f).queued = (s.src f).queued

theorem Senses.refl (s : State) : Senses s s := ⟨.refl s, fun _ _ => rfl, fun _ _ h => h, ⟨_, rfl⟩, fun _ => rfl⟩

theorem Senses.trans (h : Senses s t) (k : Senses t u) : Senses s u where
  only := h.only.trans k.only
  rd q hq := (k.rd q hq).trans (h.rd q hq)
  pend w b hb := k.pend w b (h.pend w b hb)
  ev := by
    obtain ⟨x, hx⟩ := h.ev
    obtain ⟨y, hy⟩ := k.ev
    exact ⟨y, by rw [hy, hx]⟩
  queued f := (k.queued f).trans (h.queued f)

theorem Senses.fld (h : Senses s t) {q : Reg} (hq : q.sensed = false) (f : Field) : t.fld q f = s.fld q f :=
  congrArg (getF · f) (h.rd q hq)

theorem Senses.bit (h : Senses s t) {q : Reg} (hq : q.sensed = false) (b : Nat) : t.bit q b = s.bit q b :=
  congrArg (wbit · b) (h.rd q hq)

theorem Senses.stack (h : Senses s t) (q : Nat) : t.stack q = s.stack q := by
  obtain ⟨x, hx⟩ := h.ev
  simp only [State.stack, hx]

/-! ### Stores in queued records (R293, R294, R300) -/

theorem State.rd_sramWrite (a : Nat) (w : Word) {q : Reg} (hq : q.sensed = false) : (s.sramWrite a w).rd q = s.rd q := by
  unfold State.sramWrite
  dsimp only
  split
  · rw [State.rd_put, if_neg (by rintro rfl; cases hq)]
    rfl
  · rfl

theorem State.pend_sramWrite (a : Nat) (x : Word) (w b : Nat) :
    (s.sramWrite a x).bit (.EVT_PEND w) b = s.bit (.EVT_PEND w) b := by
  unfold State.sramWrite
  dsimp only
  split
  · rw [State.bit, State.rd_put, if_neg (by simp)]
    rfl
  · rfl

theorem State.sramWrite_senses (a : Nat) (w : Word) : Senses s (s.sramWrite a w) where
  only := State.sramWrite_eventsOnly a w
  rd _ := State.rd_sramWrite a w
  pend _ _ h := (State.pend_sramWrite ..).trans h
  ev := ⟨s.ev.srcs, State.sramWrite_srcs s a w⟩
  queued f := by simp only [State.src, State.sramWrite_srcs]

theorem State.recordWrite_senses (a : Nat) (w : Word) : Senses s (s.recordWrite a w) := by
  have note : ∀ met : List (Nat × BitVec 7 × Bool), Senses s { s with me := { s.me with met := met } } :=
    fun met => ⟨⟨_, _, _, _, rfl⟩, fun _ _ => rfl, fun _ _ h => h, ⟨_, rfl⟩, fun _ => rfl⟩
  unfold State.recordWrite
  dsimp only
  split
  · exact note _
  · split
    · exact (note _).trans (State.sramWrite_senses a w)
    · exact State.sramWrite_senses a w

/-! ### Occurrences -/

/-- A change of a source that keeps its record's place. -/
theorem State.putSrc_senses {f : Nat} {e : EvSrc} (h : e.queued = (s.src f).queued) : Senses s (s.putSrc f e) where
  only := ⟨_, _, _, _, rfl⟩
  rd _ _ := rfl
  pend _ _ h := h
  ev := ⟨_, rfl⟩
  queued g := by
    rw [State.src_putSrc]
    split
    · next hg => rw [h, hg]
    · rfl

theorem State.pendSet_senses (w b : Nat) (hb : b < 32) : Senses s (s.putBit (.EVT_PEND w) b true) where
  only := ⟨_, _, _, _, rfl⟩
  rd q hq := by rw [State.rd_putBit, if_neg (by rintro rfl; cases hq)]
  pend v c h := by
    rw [State.bit, State.rd_putBit]
    split
    · next hv =>
      rw [wbit, wputBit_getLsbD _ _ _ _ hb]
      split
      · rfl
      · exact (Reg.EVT_PEND.inj hv) ▸ h
    · exact h
  ev := ⟨_, rfl⟩
  queued _ := rfl

theorem State.occurNow_senses (f n : Nat) (rise fall sw : Bool) (first : Stamp) (info code : Nat) :
    Senses s (s.occurNow f n rise fall sw first info code) := by
  unfold State.occurNow
  dsimp only
  split
  · exact (State.recordWrite_senses ..).trans (State.recordWrite_senses ..)
  · refine Senses.trans ?_ (State.pendSet_senses _ _ (Nat.mod_lt _ (by decide)))
    exact State.putSrc_senses rfl

theorem State.occur_senses (f : Nat) (rise fall : Bool) (info code : Nat) : Senses s (s.occur f rise fall info code) := by
  unfold State.occur
  split
  · exact State.putSrc_senses rfl
  · exact State.occurNow_senses ..

theorem State.condRise_senses (f info code : Nat) (others : Bool) : Senses s (s.condRise f info code others) := by
  have hlast : Senses s (s.putSrc f { s.src f with lastInfo := info, lastCode := code }) := State.putSrc_senses rfl
  have hrise := hlast.trans (State.occur_senses f true false info code)
  unfold State.condRise
  dsimp only
  split
  · split
    · exact hlast
    · exact hrise
  · exact hrise
  · exact hlast
  · exact hrise

theorem State.condFall_senses (f info code : Nat) : Senses s (s.condFall f info code) := by
  unfold State.condFall
  split
  · exact .refl s
  · exact .refl s
  · exact State.occur_senses ..

theorem State.happen_senses (f info code : Nat) : Senses s (s.happen f info code) :=
  (State.condRise_senses ..).trans (State.condFall_senses ..)

theorem State.resample_senses (f : Nat) : Senses s (s.resample f) := State.occur_senses ..

/-- A flag that is set: its bit, and the occurrence of its source. -/
theorem State.setFlagI_senses (r : Reg) {b : Nat} (info code : Nat) (hb : b < 32) :
    Senses (s.putBit r b true) (s.setFlagI r b info code) := by
  unfold State.setFlagI
  split
  · next hset =>
    have hs : (s.putBit r b true).rd r = s.rd r := by
      rw [State.rd_putBit, if_pos rfl]
      exact wputBit_eq_self hb hset
    refine ⟨⟨s.regs, _, _, _, rfl⟩, fun q _ => ?_, fun w c h => ?_, ⟨_, rfl⟩, fun _ => rfl⟩
    · by_cases hq : q = r
      · rw [hq, hs]
      · rw [State.rd_putBit, if_neg hq]
    · by_cases hq : Reg.EVT_PEND w = r
      · rw [State.bit, hq, hs] at h
        rw [State.bit, hq]
        exact h
      · rwa [State.bit, State.rd_putBit, if_neg hq] at h
  · split
    · exact .refl _
    · exact State.condRise_senses ..

theorem State.setFlag_senses (r : Reg) {b : Nat} (hb : b < 32) : Senses (s.putBit r b true) (s.setFlag r b) :=
  State.setFlagI_senses r _ _ hb

/-- A set flag in any block reads 1, and the other registers stay but for PEND and the marks. -/
theorem State.rd_setFlagI_any {r q : Reg} {b : Nat} (info code : Nat) (hb : b < 32) (hq : q.sensed = false) :
    (s.setFlagI r b info code).rd q = if q = r then wputBit (s.rd r) b true else s.rd q :=
  ((State.setFlagI_senses r info code hb).rd q hq).trans (State.rd_putBit ..)

theorem State.bit_setFlagI_any {r : Reg} {b : Nat} (info code : Nat) (hb : b < 32) (hr : r.sensed = false) :
    (s.setFlagI r b info code).bit r b = true := by
  rw [State.bit, State.rd_setFlagI_any info code hb hr, if_pos rfl, wbit_wputBit _ _ _ hb]

theorem State.ev_setFlagI (r : Reg) {b : Nat} (info code : Nat) (hb : b < 32) :
    ∃ srcs, (s.setFlagI r b info code).ev = { s.ev with srcs := srcs } := (State.setFlagI_senses r info code hb).ev

end Sys2Proof.Machine

/-! SUPPORT. Event sources: occurrences, PEND, FREEZE and storm windows (R259, R261, R262, R268). -/

namespace Sys2Proof.Machine

variable {s t : State} {i : Iface} {v : Word}

/-! ### An occurrence -/

/-- An occurrence of a signal source is the rise or the fall of its condition. -/
theorem exec_eventOccurrence_signal {f : Fin 256} (b : Bool) (info code : Nat) (hn : evtNamed f = true)
    (hd : s.dark = false) (hm : evtIsMessage f = false) :
    exec (.eventOccurrence f b info code) s =
      .next (if b then s.condRise f info code false else s.condFall f info code) := by
  simp [exec, execEventOccurrence, hn, hd, hm]

theorem exec_eventOccurrence_message {f : Fin 256} (b : Bool) (info code : Nat) (hn : evtNamed f = true)
    (hd : s.dark = false) (hm : evtIsMessage f = true) :
    exec (.eventOccurrence f b info code) s = .next (s.message f info code) := by
  simp [exec, execEventOccurrence, hn, hd, hm]

/-- The latest rise is noted with its INFO and CODE. -/
def State.noteRise (s : State) (f info code : Nat) : State :=
  s.putSrc f { s.src f with lastInfo := info, lastCode := code }

theorem State.waiting_noteRise (f info code : Nat) : ((s.noteRise f info code).src f).waiting = (s.src f).waiting := by
  simp [State.noteRise]

theorem State.held_noteRise (f info code : Nat) : ((s.noteRise f info code).src f).held = (s.src f).held := by
  simp [State.noteRise]

theorem State.condRise_selected {f : Nat} (info code : Nat) (h : s.sense f ≠ 2) :
    s.condRise f info code false = (s.noteRise f info code).occur f true false info code := by
  unfold State.condRise
  split
  · rfl
  · rfl
  · next hs => exact absurd hs h
  · rfl

theorem State.condFall_selected {f : Nat} (info code : Nat) (h : s.sense f = 2 ∨ s.sense f = 3) :
    s.condFall f info code = s.occur f false true info code := by
  rcases h with h | h <;> simp only [State.condFall, h]

/-- The first occurrence that counts towards a record gives it INFO and time (R261). -/
theorem State.occur_shows {f : Nat} (rise fall : Bool) (info code : Nat) (h : s.counts f) :
    (s.occur f rise fall info code).pend f = true ∧
    ((s.occur f rise fall info code).src f).waiting = (s.src f).waiting + 1 ∧
    ((s.src f).waiting = 0 → ((s.occur f rise fall info code).src f).info = info ∧
      ((s.occur f rise fall info code).src f).first = s.now) := by
  have hc := counted_occur h rise fall info code
  refine ⟨hc.pend (.inl Nat.one_pos), hc.waiting, fun hw => ?_⟩
  obtain ⟨hfrozen, hqueued⟩ := h
  simp [State.occur, State.occurNow, hfrozen, hqueued, hw]

/-- Under FREEZE it is held apart (R262). -/
theorem State.occur_frozen {f : Nat} (rise fall : Bool) (info code : Nat) (h : s.frozen = true) :
    (s.occur f rise fall info code).regs = s.regs ∧
    ((s.occur f rise fall info code).src f).held = (s.src f).held + 1 ∧
    ((s.occur f rise fall info code).src f).waiting = (s.src f).waiting := by
  unfold State.occur
  rw [if_pos h]
  exact ⟨rfl, by simp, by simp⟩

theorem exec_stormWindowClose (f : Fin 256) :
    exec (.stormWindowClose f) s = .next (s.putSrc f { s.src f with window := none }) := rfl

/-! ### PEND (R261) -/

theorem exec_pendWrite {w : Fin 8} (h : s.takes (.EVT_PEND w) = true) :
    exec (.pendWrite i w v 0xF#4) s = .next (s.wrPend w v) :=
  congrArg Host.Outcome.next ((State.guardWrite_takes h).trans (by rw [State.merged_whole]))

/-- One bit of a write of EVT_PENDw. -/
def State.pendStep (k : Nat) (w : Word) (b : Nat) (s : State) : State :=
  if wbit w b && !s.bit (.EVT_PEND k) b then s.swOccur (32 * k + b)
  else if !wbit w b && s.bit (.EVT_PEND k) b then s.discard (32 * k + b)
  else s

theorem State.wrPend_eq (k : Nat) (w : Word) : s.wrPend k w = each (List.range 32) (State.pendStep k w) s := rfl

theorem State.bit_putBit_eq (r : Reg) {b j : Nat} (x : Bool) (hb : b < 32) :
    (s.putBit r b x).bit r j = if j = b then x else s.bit r j := by
  rw [State.bit, State.rd_putBit, if_pos rfl, wbit, wputBit_getLsbD _ _ _ _ hb]
  rfl

/-- A signal source in no queue: its PEND bit reads what is written, and no source joins a queue. -/
theorem State.pendStep_shows {k b : Nat} (w : Word) (hb : b < 32) (hm : evtIsMessage (32 * k + b) = false)
    (hq : (s.src (32 * k + b)).queued = none) :
    (∀ j, (s.pendStep k w b).bit (.EVT_PEND k) j = if j = b then wbit w b else s.bit (.EVT_PEND k) j) ∧
    ∀ f, ((s.pendStep k w b).src f).queued = (s.src f).queued := by
  have hdiv : (32 * k + b) / 32 = k := by omega
  have hmod : (32 * k + b) % 32 = b := by omega
  unfold State.pendStep
  split
  · next h =>
    simp only [Bool.and_eq_true] at h
    constructor
    · intro j
      simp only [State.swOccur, hm, State.occurNow, hq, hdiv, hmod, h.1]
      exact State.bit_putBit_eq (.EVT_PEND k) true hb
    · simp only [State.swOccur, hm]
      exact (State.occurNow_senses ..).queued
  · split
    · next h =>
      simp only [Bool.and_eq_true, Bool.not_eq_true'] at h
      constructor
      · intro j
        simp only [State.discard, hdiv, hmod, h.1]
        exact State.bit_putBit_eq (.EVT_PEND k) false hb
      · exact (State.putSrc_senses (s := s) (f := 32 * k + b)
          (e := { s.src (32 * k + b) with waiting := 0, rise := false, fall := false, sw := false }) rfl).queued
    · next h1 h2 =>
      refine ⟨fun j => ?_, fun _ => rfl⟩
      split
      · next hj =>
        subst hj
        cases hw : wbit w j <;> cases hs : s.bit (.EVT_PEND k) j <;> simp [hw, hs] at h1 h2 <;> rfl
      · rfl

theorem State.each_pendStep {k : Nat} (w : Word) (l : List Nat) (hl : ∀ b ∈ l, b < 32)
    (h : ∀ b ∈ l, evtIsMessage (32 * k + b) = false ∧ (s.src (32 * k + b)).queued = none) (j : Nat) :
    (each l (State.pendStep k w) s).bit (.EVT_PEND k) j = if j ∈ l then wbit w j else s.bit (.EVT_PEND k) j := by
  induction l generalizing s with
  | nil => simp [each]
  | cons b l ih =>
    obtain ⟨hm, hq⟩ := h b (by simp)
    obtain ⟨hbit, hqueued⟩ := State.pendStep_shows w (hl b (by simp)) hm hq
    have hstep : each (b :: l) (State.pendStep k w) s = each l (State.pendStep k w) (s.pendStep k w b) := rfl
    rw [hstep, ih (fun c hc => hl c (by simp [hc])) fun c hc =>
      ⟨(h c (by simp [hc])).1, (hqueued _).trans (h c (by simp [hc])).2⟩, hbit]
    by_cases hj : j = b <;> by_cases hjl : j ∈ l <;> simp [hj, hjl]

theorem State.rd_wrPend {w : Fin 8} (h : ∀ b ∈ List.range 32, evtIsMessage (32 * w + b) = false ∧
    (s.src (32 * w + b)).queued = none) : (s.wrPend w v).rd (.EVT_PEND w) = v := by
  refine BitVec.eq_of_getLsbD_eq fun j hj => ?_
  have hbit := State.each_pendStep v (List.range 32) (fun _ => List.mem_range.mp) h j
  rw [if_pos (List.mem_range.mpr hj)] at hbit
  exact hbit

/-! ### FREEZE (R262) -/

theorem exec_freezeWrite (h : s.takes .EVT_CTL = true) :
    exec (.freezeWrite i v 0xF#4) s = .next (s.wrEvtCtl v) :=
  congrArg Host.Outcome.next ((State.guardWrite_takes h).trans (by rw [State.merged_whole]))

/-- The end of the hold of one source: the marks of the hold clear, then its occurrences take effect. -/
theorem State.release_senses (f : Nat) : Senses s (s.release f) := by
  unfold State.release
  dsimp only
  split
  · exact .refl s
  · refine Senses.trans ?_ (State.occurNow_senses ..)
    exact State.putSrc_senses rfl

theorem State.held_occurNow (f n : Nat) (rise fall sw : Bool) (first : Stamp) (info code g : Nat) :
    ((s.occurNow f n rise fall sw first info code).src g).held = (s.src g).held := by
  unfold State.occurNow
  dsimp only
  split
  · simp only [State.bumpRecord, State.src, State.recordWrite_ev]
  · rw [State.src_putBit, State.src_putSrc]
    split
    · next hg => rw [hg]
    · rfl

theorem State.held_release (f g : Nat) : ((s.release f).src g).held = if g = f then 0 else (s.src g).held := by
  unfold State.release
  dsimp only
  split
  · next h =>
    split
    · next hg => rw [hg, h]
    · rfl
  · rw [State.held_occurNow, State.src_putSrc]
    split <;> rfl

theorem State.pend_release {f : Nat} (hheld : 0 < (s.src f).held) (hq : (s.src f).queued = none) :
    (s.release f).pend f = true := by
  unfold State.release
  dsimp only
  rw [if_neg (by omega)]
  simp [State.occurNow, hq, State.pend, State.bit, Nat.mod_lt]

/-- Every source of a list is released: no hold is left, and what was held by a source in no queue is pending. -/
theorem State.each_release (l : List Nat) :
    Senses s (each l (fun f s => s.release f) s) ∧ ∀ f ∈ l, ((each l (fun f s => s.release f) s).src f).held = 0 ∧
      (0 < (s.src f).held → (s.src f).queued = none → (each l (fun f s => s.release f) s).pend f = true) := by
  induction l generalizing s with
  | nil => exact ⟨.refl s, fun f hf => absurd hf (by simp)⟩
  | cons g l ih =>
    have hstep : each (g :: l) (fun f s => s.release f) s = each l (fun f s => s.release f) (s.release g) := rfl
    obtain ⟨hsenses, hl⟩ := ih (s := s.release g)
    have keepsZero : ∀ (l : List Nat) (s : State) (f : Nat), (s.src f).held = 0 →
        ((each l (fun f s => s.release f) s).src f).held = 0 := by
      intro l
      induction l with
      | nil => exact fun _ _ h => h
      | cons x l ih => exact fun s f h => ih (s.release x) f (by rw [State.held_release, h, ite_self])
    rw [hstep]
    refine ⟨(State.release_senses g).trans hsenses, fun f hf => ?_⟩
    by_cases hfg : f = g
    · subst hfg
      exact ⟨keepsZero l _ f (by rw [State.held_release, if_pos rfl]),
        fun hheld hq => hsenses.pend _ _ (State.pend_release hheld hq)⟩
    · obtain ⟨hzero, hpend⟩ := hl f (by simpa [hfg] using hf)
      refine ⟨hzero, fun hheld hq => hpend ?_ (((State.release_senses g).queued f).trans hq)⟩
      rwa [State.held_release, if_neg hfg]

/-- FREEZE is off, as the held occurrences find it. -/
theorem State.thaw_shows : s.thaw.frozen = false ∧ ∀ f ∈ List.range 256, (s.thaw.src f).held = 0 ∧
    (0 < (s.src f).held → (s.src f).queued = none → s.thaw.pend f = true) := by
  obtain ⟨hsenses, hall⟩ := State.each_release (s := s.putBit .EVT_CTL 31 false) (List.range 256)
  refine ⟨?_, hall⟩
  exact (hsenses.bit rfl 31).trans (State.bit_putBit .EVT_CTL false (by decide))

theorem exec_freezeExpiry (h : s.frozen = true) : exec .freezeExpiry s = .next (s.thaw.setFlag .EVT_STAT 12) := by
  simp [exec, execFreezeExpiry, h]

/-- Settles O21: each clause is the lemma of its command. -/
theorem eventSources : Obligations.EventSources := by
  unfold Obligations.EventSources
  refine ⟨?message, ?selected, ?held, ?window, ?pend, ?freeze, ?thaw, ?expiry⟩
  case message =>
    intro f b info code s hn hd hm
    exact ⟨_, exec_eventOccurrence_message b info code hn hd hm, State.lastMessage_message .., rfl⟩
  case selected =>
    intro f b info code s hn hd hm hfrozen hqueued hsense
    refine ⟨_, exec_eventOccurrence_signal b info code hn hd hm, ?_⟩
    cases b with
    | true =>
      rw [if_pos rfl, State.condRise_selected info code (by rcases hsense with h | ⟨h, -⟩ | ⟨-, h⟩ <;> simp_all)]
      have h := State.occur_shows (s := s.noteRise f info code) (f := f) true false info code
        ⟨hfrozen, by simpa [State.noteRise] using hqueued⟩
      rw [State.waiting_noteRise] at h
      exact h
    | false =>
      rw [if_neg (by simp), State.condFall_selected info code (by rcases hsense with h | ⟨-, h⟩ | ⟨h, -⟩ <;> simp_all)]
      exact State.occur_shows false true info code ⟨hfrozen, hqueued⟩
  case held =>
    intro f info code s hn hd hm hfrozen hsense
    refine ⟨_, exec_eventOccurrence_signal true info code hn hd hm, ?_⟩
    rw [if_pos rfl, State.condRise_selected info code (by rw [hsense]; decide)]
    have h := State.occur_frozen (s := s.noteRise f info code) (f := f) true false info code hfrozen
    rw [State.waiting_noteRise, State.held_noteRise] at h
    exact h
  case window =>
    intro f s
    exact ⟨_, exec_stormWindowClose f, by simp, rfl⟩
  case pend =>
    intro i w v s ht h
    exact ⟨_, exec_pendWrite ht, State.rd_wrPend h⟩
  case freeze =>
    intro i v s ht hv
    rw [exec_freezeWrite ht, State.wrEvtCtl, if_pos hv]
  case thaw =>
    intro i v s ht hv hfrozen
    refine ⟨s.thaw, ?_, State.thaw_shows⟩
    rw [exec_freezeWrite ht, State.wrEvtCtl, if_neg (by simp [hv]), if_pos hfrozen]
  case expiry =>
    intro s hfrozen
    have hflag := State.setFlag_senses (s := s.thaw) .EVT_STAT (b := 12) (by decide)
    refine ⟨_, exec_freezeExpiry hfrozen, ?_, State.bit_setFlagI_any _ _ (by decide) rfl⟩
    refine (hflag.bit rfl 31).trans ?_
    rw [State.bit, State.rd_putBit, if_neg (by simp)]
    exact State.thaw_shows.1

end Sys2Proof.Machine

/-!
SUPPORT. What the raise of a fault source with all its reactions leaves alone: the state beyond the registers, memory, the
pins, the waiting events, the trackplan machinery, stages, rails, loops and groups (R239, R242).
-/

namespace Sys2Proof.Machine

variable {s t : State}

/-- The state with everything blanked that the raise of a fault source may change. -/
def State.beyond (s : State) : State :=
  { s with
    regs := [], mem := [], pins := {}, tp := {}, sw := {}, lp := {}, tt := {}, fl := {},
    ev := { s.ev with srcs := [], msgs := [], gaps := [] },
    cm := { s.cm with slots := [], running := [] },
    me := { scrub := s.me.scrub, copy := s.me.copy },
    ld := { s.ld with dump := none, logBuf := [] },
    ln := { s.ln with tx := [], tseq := 0 } }

/-! ### Registers, occurrences of events, records and completions -/

@[simp] theorem State.beyond_tp (x : TpX) : ({ s with tp := x } : State).beyond = s.beyond := rfl
@[simp] theorem State.beyond_sw (x : SwX) : ({ s with sw := x } : State).beyond = s.beyond := rfl
@[simp] theorem State.beyond_tt (x : TtX) : ({ s with tt := x } : State).beyond = s.beyond := rfl
@[simp] theorem State.beyond_fl (x : FlX) : ({ s with fl := x } : State).beyond = s.beyond := rfl
@[simp] theorem State.beyond_wr (r : Reg) (w : Word) : (s.wr r w).beyond = s.beyond := rfl
@[simp] theorem State.beyond_put (r : Reg) (f : Field) (v : Nat) : (s.put r f v).beyond = s.beyond := rfl
@[simp] theorem State.beyond_putBit (r : Reg) (b : Nat) (v : Bool) : (s.putBit r b v).beyond = s.beyond := rfl
@[simp] theorem State.beyond_addSat (r : Reg) (f : Field) (n : Nat) : (s.addSat r f n).beyond = s.beyond := rfl
@[simp] theorem State.beyond_putSrc (f : Nat) (e : EvSrc) : (s.putSrc f e).beyond = s.beyond := rfl
@[simp] theorem State.beyond_message (src info code n : Nat) : (s.message src info code n).beyond = s.beyond := rfl
@[simp] theorem State.beyond_gap (stream index n queue : Nat) : (s.gap stream index n queue).beyond = s.beyond := rfl

@[simp] theorem State.beyond_sramWrite (a : Nat) (w : Word) : (s.sramWrite a w).beyond = s.beyond := by
  unfold State.sramWrite
  dsimp only
  split <;> rfl

@[simp] theorem State.beyond_recordWrite (a : Nat) (w : Word) : (s.recordWrite a w).beyond = s.beyond := by
  unfold State.recordWrite
  dsimp only
  split
  · rfl
  · split
    · exact State.beyond_sramWrite ..
    · exact State.beyond_sramWrite ..

@[simp] theorem State.beyond_occurNow (f n : Nat) (rise fall sw : Bool) (first : Stamp) (info code : Nat) :
    (s.occurNow f n rise fall sw first info code).beyond = s.beyond := by
  unfold State.occurNow
  dsimp only
  split
  · simp [State.bumpRecord]
  · rfl

@[simp] theorem State.beyond_occur (f : Nat) (rise fall : Bool) (info code : Nat) :
    (s.occur f rise fall info code).beyond = s.beyond := by
  unfold State.occur
  split
  · rfl
  · simp

@[simp] theorem State.beyond_condRise (f info code : Nat) (others : Bool) :
    (s.condRise f info code others).beyond = s.beyond := by
  unfold State.condRise
  dsimp only
  split
  · split <;> simp
  all_goals simp

@[simp] theorem State.beyond_condFall (f info code : Nat) : (s.condFall f info code).beyond = s.beyond := by
  unfold State.condFall
  split <;> simp

@[simp] theorem State.beyond_happen (f info code : Nat) : (s.happen f info code).beyond = s.beyond := by
  simp [State.happen]

@[simp] theorem State.beyond_setFlagI (r : Reg) (b info code : Nat) : (s.setFlagI r b info code).beyond = s.beyond := by
  unfold State.setFlagI
  split
  · rfl
  · split <;> simp

@[simp] theorem State.beyond_setFlag (r : Reg) (b : Nat) : (s.setFlag r b).beyond = s.beyond := State.beyond_setFlagI ..

theorem State.each_beyond {α : Type} (l : List α) {f : α → State → State} (h : ∀ x s, (f x s).beyond = s.beyond) :
    (each l f s).beyond = s.beyond := each_same State.beyond h s

@[simp] theorem State.beyond_logRec (kind len : Nat) (stamp : Stamp) (l : List Word) :
    (s.logRec kind len stamp l).beyond = s.beyond := by
  unfold State.logRec
  split
  · exact State.beyond_setFlag ..
  · rfl

@[simp] theorem State.beyond_complete (k code detail : Nat) : (s.complete k code detail).beyond = s.beyond := by
  unfold State.complete
  dsimp only
  split <;> rfl

/-! ### Stages, re-gangs and loops -/

@[simp] theorem State.beyond_stageOff (m : Nat) : (s.stageOff m).beyond = s.beyond := by
  unfold State.stageOff
  dsimp only
  split <;> rfl

@[simp] theorem State.beyond_stageLatch (m : Nat) : (s.stageLatch m).beyond = s.beyond := by
  unfold State.stageLatch
  dsimp only
  split
  · rfl
  · split <;> rfl

@[simp] theorem State.beyond_showExcluded : s.showExcluded.beyond = s.beyond := by
  refine State.each_beyond _ fun m s => ?_
  dsimp only
  split <;> simp

@[simp] theorem State.beyond_regangEnd (g : Regang) (code : Nat) (shed : Bool) : (s.regangEnd g code shed).beyond = s.beyond :=
  State.beyond_complete ..

@[simp] theorem State.beyond_regangDropStage (m : Nat) : (s.regangDropStage m).beyond = s.beyond := by
  simp [State.regangDropStage]

@[simp] theorem State.beyond_regangOff (n code : Nat) : (s.regangOff n code).beyond = s.beyond := by
  unfold State.regangOff
  (repeat' split) <;> simp

@[simp] theorem State.beyond_regangDown (code : Nat) : (s.regangDown code).beyond = s.beyond := by
  unfold State.regangDown
  (repeat' split) <;> simp

@[simp] theorem State.beyond_regangLatch (n : Nat) : (s.regangLatch n).beyond = s.beyond := by
  unfold State.regangLatch
  (repeat' split) <;> simp

@[simp] theorem State.beyond_zeroLoops (n : Nat) : (s.zeroLoops n).beyond = s.beyond := by
  refine State.each_beyond _ fun k s => ?_
  dsimp only [State.putLoopX, State.putDest]
  split <;> rfl

@[simp] theorem State.beyond_unsettle (n : Nat) : (s.unsettle n).beyond = s.beyond := State.each_beyond _ fun _ _ => rfl

/-! ### Rails -/

@[simp] theorem State.beyond_railFailure (n cause : Nat) : (s.railFailure n cause).beyond = s.beyond := by
  unfold State.railFailure
  dsimp only
  split
  · rfl
  · simp

@[simp] theorem State.beyond_pgLow (n : Nat) : (s.pgLow n).beyond = s.beyond := by
  unfold State.pgLow
  dsimp only
  split
  · exact (State.each_beyond _ fun x s => (rfl : (s.resetLow x).beyond = s.beyond)).trans (State.beyond_condFall ..)
  · rfl

@[simp] theorem State.beyond_leaveOn (n : Nat) : (s.leaveOn n).beyond = s.beyond :=
  (State.each_beyond _ fun _ _ => State.beyond_stageOff _ : ((s.pgLow n).dropTests n).beyond = (s.pgLow n).beyond).trans (State.beyond_pgLow n)

@[simp] theorem State.beyond_setRail (n st : Nat) : (s.setRail n st).beyond = s.beyond := rfl
@[simp] theorem State.beyond_stopRamp (n : Nat) : (s.stopRamp n).beyond = s.beyond := rfl
@[simp] theorem State.beyond_startRamp (n target full time : Nat) : (s.startRamp n target full time).beyond = s.beyond :=
  State.beyond_unsettle n

@[simp] theorem State.beyond_boutCheck : s.boutCheck.beyond = s.beyond := by
  unfold State.boutCheck
  dsimp only
  split
  · exact (State.beyond_happen ..).trans rfl
  · rfl

@[simp] theorem State.beyond_railToOff (n : Nat) : (s.railToOff n).beyond = s.beyond := by
  simp [State.railToOff, State.each_beyond]

@[simp] theorem State.beyond_rampDown (n : Nat) : (s.rampDown n).beyond = s.beyond := by
  simp [State.rampDown]

@[simp] theorem State.beyond_railOff (n code : Nat) : (s.railOff n code).beyond = s.beyond := by
  unfold State.railOff
  dsimp only
  (repeat' split) <;> simp

@[simp] theorem State.beyond_latchRail (src n : Nat) : (s.latchRail src n).beyond = s.beyond := by
  simp [State.latchRail, State.each_beyond, apply_ite State.beyond]

/-! ### Groups -/

@[simp] theorem State.beyond_setGroup (g st : Nat) : (s.setGroup g st).beyond = s.beyond := by
  unfold State.setGroup
  dsimp only
  (repeat' split) <;> simp

@[simp] theorem State.beyond_putGrpX (g : Nat) (x : GroupX) : (s.putGrpX g x).beyond = s.beyond := rfl

@[simp] theorem State.beyond_groupToOff (g : Nat) : (s.groupToOff g).beyond = s.beyond := by
  unfold State.groupToOff State.classBCheck
  dsimp only
  split <;> simp

@[simp] theorem State.beyond_stepReverse (g j code : Nat) : (s.stepReverse g j code).beyond = s.beyond := by
  unfold State.stepReverse
  dsimp only
  split
  · simp
  all_goals rfl

@[simp] theorem State.beyond_groupOff (g code : Nat) : (s.groupOff g code).beyond = s.beyond := by
  unfold State.groupOff
  (repeat' split) <;> simp

@[simp] theorem State.beyond_groupStartFail (n : Nat) : (s.groupStartFail n).beyond = s.beyond := by
  unfold State.groupStartFail
  dsimp only
  (repeat' split) <;> simp

@[simp] theorem State.beyond_groupLatched (n : Nat) : (s.groupLatched n).beyond = s.beyond := by
  unfold State.groupLatched
  (repeat' split) <;> simp

/-! ### The reactions of the classes and the raise (Table 10.2, R239) -/

/-- An off request takes effect, or is noted in the reload whose restore it waits for (R70). -/
@[simp] theorem State.beyond_groupOffLater (g code : Nat) : (s.groupOffLater g code).beyond = s.beyond := by
  unfold State.groupOffLater
  (repeat' split) <;> simp

@[simp] theorem State.beyond_railOffLater (n code : Nat) : (s.railOffLater n code).beyond = s.beyond := by
  unfold State.railOffLater
  (repeat' split) <;> simp

@[simp] theorem State.beyond_groupOffB (g : Nat) : (s.groupOffB g).beyond = s.beyond :=
  (State.beyond_groupOffLater ..).trans (State.each_beyond _ fun _ _ => rfl)

@[simp] theorem State.beyond_railOffB (f n : Nat) : (s.railOffB f n).beyond = s.beyond := by
  simp [State.railOffB]

@[simp] theorem State.beyond_reactB (f : Nat) : (s.reactB f).beyond = s.beyond := by
  have hwait : ∀ u : State, (u.offsWait f).beyond = u.beyond := fun u => by
    unfold State.offsWait
    (repeat' split) <;> rfl
  simp [State.reactB, hwait, State.each_beyond, apply_ite State.beyond]

@[simp] theorem State.beyond_react (f cls : Nat) : (s.react f cls).beyond = s.beyond := by
  have habort : (s.reloadAbort 0x21).beyond = s.beyond := by
    unfold State.reloadAbort
    dsimp only
    (repeat' split) <;> rfl
  have hreactA : ∀ u : State, (u.reactA f).beyond = u.beyond := fun u => State.each_beyond _ fun n s => by simp
  unfold State.react
  dsimp only
  (repeat' split) <;> simp [hreactA, habort]

@[simp] theorem State.beyond_faultPin : s.faultPin.beyond = s.beyond := by
  unfold State.faultPin
  (repeat' split) <;> rfl

@[simp] theorem State.beyond_captureFirst (f cls cause : Nat) : (s.captureFirst f cls cause).beyond = s.beyond := by
  unfold State.captureFirst
  split <;> rfl

@[simp] theorem State.beyond_logFault (f cls cause : Nat) (clear : Bool) : (s.logFault f cls cause clear).beyond = s.beyond := by
  unfold State.logFault
  split <;> simp

@[simp] theorem State.beyond_requestDump (f cause : Nat) : (s.requestDump f cause).beyond = s.beyond := by
  unfold State.requestDump
  split <;> rfl

@[simp] theorem State.beyond_sendTrip (f : Nat) : (s.sendTrip f).beyond = s.beyond :=
  (State.beyond_setFlagI ..).trans (State.each_beyond _ fun _ _ => rfl)

@[simp] theorem State.beyond_countFault (f : Nat) : (s.countFault f).beyond = s.beyond := rfl
@[simp] theorem State.beyond_raiseMarks (f cause : Nat) : (s.raiseMarks f cause).beyond = s.beyond := rfl
@[simp] theorem State.beyond_raise (f cause : Nat) (dry : Bool) : (s.raise f cause dry).beyond = s.beyond := by
  have hmessage : ∀ (u : State) cls, (u.faultMessage f cls cause false).beyond = u.beyond := fun _ _ => rfl
  have hreacts : (s.raiseReacts f cause dry).beyond = s.beyond := by
    unfold State.raiseReacts
    dsimp only
    split
    · rfl
    · simp
  rw [State.raise_parts]
  simp [State.raiseTells, hmessage, hreacts, apply_ite State.beyond]

/-! ### Errors of memory (R296, R299, R301) -/

@[simp] theorem State.beyond_logError (nvm : Bool) (a : Nat) (ue : Bool) (src : Nat) (syn : BitVec 7) (mark : Bool) :
    (s.logError nvm a ue src syn mark).beyond = s.beyond := by
  unfold State.logError
  split
  · dsimp only
    split <;> simp
  · split <;> simp

@[simp] theorem State.beyond_corrected (nvm : Bool) (a src : Nat) (syn : BitVec 7) :
    (s.corrected nvm a src syn).beyond = s.beyond := by
  simp [State.corrected]

@[simp] theorem State.beyond_sramUe (a src cause : Nat) (syn : BitVec 7) :
    (s.sramUe a src cause syn).beyond = s.beyond := by
  simp [State.sramUe]

@[simp] theorem State.beyond_nvmUe (a src : Nat) (syn : BitVec 7) : (s.nvmUe a src syn).beyond = s.beyond := by
  simp [State.nvmUe]

@[simp] theorem State.beyond_eccMeet (a src : Nat) : (s.eccMeet a src).beyond = s.beyond := by
  have hvote : (if (s.me.votes.lookup a).isSome then
      ({ s with me := { s.me with votes := without s.me.votes a } } : State).corrected false a src 0x7F#7
      else s).beyond = s.beyond := by
    split
    · exact State.beyond_corrected ..
    · rfl
  unfold State.eccMeet
  dsimp only
  split
  · split
    · exact (State.beyond_corrected ..).trans hvote
    · exact (State.beyond_corrected ..).trans hvote
  · exact hvote

@[simp] theorem State.beyond_eccRange (a n src : Nat) : (s.eccRange a n src).beyond = s.beyond :=
  each_same State.beyond (fun _ _ => State.beyond_eccMeet ..) s

@[simp] theorem State.beyond_metNow : s.metNow.beyond = s.beyond := by
  refine (each_same State.beyond (fun e s => ?_) _).trans rfl
  split
  · exact State.beyond_sramUe ..
  · dsimp only
    split <;> simp

theorem State.powered_of_beyond (h : t.beyond = s.beyond) (d : Dom) : t.powered d = s.powered d := by
  show t.beyond.pw.on.contains d = s.beyond.pw.on.contains d
  rw [h]

@[simp] theorem State.powered_metNow (d : Dom) : s.metNow.powered d = s.powered d :=
  State.powered_of_beyond State.beyond_metNow d

end Sys2Proof.Machine

/-! SUPPORT. Event queues: the records written into a queue, TAKE, EOI and the place of a queue (R263 to R273). -/

namespace Sys2Proof.Machine

variable {s t u : State} {i : Iface} {v : Word} {q : Fin 3}

/-! ### A record in its slot (R263, R271) -/

theorem State.memOk_putWord (a : Nat) (w : Word) (h : s.memOk) : (s.putWord a w).memOk :=
  State.putByte_memOk _ _ (State.putByte_memOk _ _ (State.putByte_memOk _ _ (State.putByte_memOk _ _ h)))

theorem State.memOk_sramWrite (a : Nat) (w : Word) (h : s.memOk) : (s.sramWrite a w).memOk := by
  have hk : Keeps (fun _ => True) True s (s.sramWrite a w) := State.sramWrite_keeps (Keeps.refl s) trivial trivial
  exact hk.mem h

/-- A word beside the one that is written reads as before. -/
theorem State.word_sramWrite_other {a k : Nat} (w : Word) (h : s.memOk) (hk : k + 4 ≤ a ∨ a + 4 ≤ k) :
    (s.sramWrite a w).word k = s.word k := by
  simp only [State.word, State.byte_sramWrite, State.byte_putWord _ _ _ h]
  rw [if_pos (by omega), if_pos (by omega), if_pos (by omega), if_pos (by omega)]

theorem State.word_of_mem (h : t.mem = s.mem) (a : Nat) : t.word a = s.word a := by
  simp only [State.word, State.byte, h]

/-- The four words of a record in a slot. -/
def State.record (s : State) (a : Nat) (w0 w1 w2 w3 : Word) : State :=
  (((s.sramWrite a w0).sramWrite (a + 4) w1).sramWrite (a + 8) w2).sramWrite (a + 12) w3

theorem State.record_senses (a : Nat) (w0 w1 w2 w3 : Word) : Senses s (s.record a w0 w1 w2 w3) :=
  (((State.sramWrite_senses ..).trans (State.sramWrite_senses ..)).trans (State.sramWrite_senses ..)).trans
    (State.sramWrite_senses ..)

theorem State.word_record (a : Nat) (w0 w1 w2 w3 : Word) (h : s.memOk) :
    (s.record a w0 w1 w2 w3).word a = w0 ∧ (s.record a w0 w1 w2 w3).word (a + 4) = w1 := by
  have h0 := State.memOk_sramWrite a w0 h
  have h1 := State.memOk_sramWrite (a + 4) w1 h0
  have h2 := State.memOk_sramWrite (a + 8) w2 h1
  unfold State.record
  constructor
  · rw [State.word_sramWrite_other _ h2 (by omega), State.word_sramWrite_other _ h1 (by omega),
      State.word_sramWrite_other _ h0 (by omega), State.word_sramWrite _ _ h]
  · rw [State.word_sramWrite_other _ h2 (by omega), State.word_sramWrite_other _ h1 (by omega),
      State.word_sramWrite _ _ h0]

/-- WPTR goes on, and the record is counted behind a state that holds its words. -/
def State.recordIn (s u : State) (q src : Nat) : State :=
  (((({ u with ev := { u.ev with written := u.ev.written.set q ((u.ev.written.get q 0 + 1) % 2 ^ 32) } } : State).put
    (.EVT_QPTR q) Fld.EVT_QPTR_WPTR ((s.qWrite q + 1) % s.qSize q))).putOrder q (s.qOrder q ++ [src])).irqPins

theorem State.qPut_eq (q src : Nat) (w0 w1 : Word) (t : Stamp) : s.qPut q src w0 w1 t =
    s.recordIn (s.record (s.recAddr q (s.qWrite q)) w0 w1 (timeLo t.time) (timeHi t.time)) q src := rfl

/-- A record joins a queue: its words stand in the slot that WPTR names, and WPTR goes on. -/
theorem State.rd_qPut (q src : Nat) (w0 w1 : Word) (t : Stamp) {r : Reg} (hr : r.sensed = false) :
    (s.qPut q src w0 w1 t).rd r =
      if r = .EVT_QPTR q then putF (s.rd (.EVT_QPTR q)) Fld.EVT_QPTR_WPTR ((s.qWrite q + 1) % s.qSize q) else s.rd r := by
  have hrec := State.record_senses (s := s) (s.recAddr q (s.qWrite q)) w0 w1 (timeLo t.time) (timeHi t.time)
  have hin : ∀ u : State, (s.recordIn u q src).rd r = (u.put (.EVT_QPTR q) Fld.EVT_QPTR_WPTR
      ((s.qWrite q + 1) % s.qSize q)).rd r := fun _ => rfl
  rw [State.qPut_eq, hin, State.rd_put, hrec.rd _ hr, hrec.rd (.EVT_QPTR q) rfl]

theorem State.mem_qPut (q src : Nat) (w0 w1 : Word) (t : Stamp) : (s.qPut q src w0 w1 t).mem =
    (s.record (s.recAddr q (s.qWrite q)) w0 w1 (timeLo t.time) (timeHi t.time)).mem := by
  have hin : ∀ u : State, (s.recordIn u q src).mem = u.mem := fun _ => rfl
  rw [State.qPut_eq, hin]

theorem State.word_qPut (q src : Nat) (w0 w1 : Word) (t : Stamp) (h : s.memOk) :
    (s.qPut q src w0 w1 t).word (s.recAddr q (s.qWrite q)) = w0 ∧
    (s.qPut q src w0 w1 t).word (s.recAddr q (s.qWrite q) + 4) = w1 := by
  simp only [State.word_of_mem (State.mem_qPut ..)]
  exact State.word_record _ _ _ _ _ h

theorem State.ev_qPut (q src : Nat) (w0 w1 : Word) (t : Stamp) : (s.qPut q src w0 w1 t).ev.msgs = s.ev.msgs ∧
    (s.qPut q src w0 w1 t).ev.gaps = s.ev.gaps ∧ (s.qPut q src w0 w1 t).cm = s.cm := by
  have hrec := State.record_senses (s := s) (s.recAddr q (s.qWrite q)) w0 w1 (timeLo t.time) (timeHi t.time)
  have hin : ∀ u : State, (s.recordIn u q src).ev.msgs = u.ev.msgs ∧ (s.recordIn u q src).ev.gaps = u.ev.gaps ∧
      (s.recordIn u q src).cm = u.cm := fun _ => ⟨rfl, rfl, rfl⟩
  obtain ⟨srcs, hev⟩ := hrec.ev
  rw [State.qPut_eq, (hin _).1, (hin _).2.1, (hin _).2.2, hrec.only.cm, hev]
  exact ⟨rfl, rfl, rfl⟩

/-! ### The command (R263) -/

/-- A record in the core queue ends SLEEP and changes nothing but the mode. -/
theorem State.coreWake_shows : (s.coreWake.ev = s.ev ∧ s.coreWake.cm = s.cm ∧ s.coreWake.mem = s.mem) ∧
    ∀ r : Reg, r ≠ .PWR_STATUS → s.coreWake.rd r = s.rd r := by
  unfold State.coreWake
  split
  · refine ⟨⟨rfl, rfl, rfl⟩, fun r hr => ?_⟩
    rw [State.rd_put, if_neg hr]
    rfl
  · exact ⟨⟨rfl, rfl, rfl⟩, fun _ _ => rfl⟩

/-- What the command shows of the events, the commands, memory and the registers is what the record's writing shows. -/
theorem exec_eventQueueWrite (hu : u = s.metNow) (hc : u.powered .core = true) :
    ∃ t, exec (.eventQueueWrite q) s = .next t ∧ t.ev = (u.writeNext q).ev ∧ t.cm = (u.writeNext q).cm ∧
      t.mem = (u.writeNext q).mem ∧ ∀ r : Reg, r ≠ .PWR_STATUS → t.rd r = (u.writeNext q).rd r := by
  subst hu
  have hexec : exec (.eventQueueWrite q) s =
      .next (if q.val = 1 then (s.metNow.writeNext q).coreWake else s.metNow.writeNext q) := by
    rw [State.powered_metNow] at hc
    simp only [exec, execEventQueueWrite, if_pos hc]
  obtain ⟨⟨hev, hcm, hmem⟩, hrd⟩ := State.coreWake_shows (s := s.metNow.writeNext q)
  refine ⟨_, hexec, ?_⟩
  split
  · exact ⟨hev, hcm, hmem, hrd⟩
  · exact ⟨rfl, rfl, rfl, fun _ _ => rfl⟩

/-- With no gap for the queue its next message goes first. -/
theorem State.writeNext_message {q : Nat} {m : EvMsg} (hg : s.ev.gaps.find? (fun g => g.queue == q) = none)
    (hm : s.nextMsg q = some m) : s.writeNext q = s.writeMsg q m := by
  simp only [State.writeNext, hg, ite_self, hm]

theorem State.writeNext_gap {q : Nat} {g : Gap} (hg : s.ev.gaps.find? (fun g => g.queue == q) = some g)
    (hf : s.qFull q = false) : s.writeNext q = s.writeGap q g := by
  simp only [State.writeNext, hf, hg]
  rfl

/-- Of two sources at most one goes before the other. -/
theorem State.before_asymm {a b : Nat} (h : s.before a b = true) : s.before b a = false := by
  simp only [State.before, Bool.or_eq_true, Bool.and_eq_true, decide_eq_true_eq, beq_iff_eq] at h
  simp only [State.before, Bool.or_eq_false_iff, Bool.and_eq_false_iff, decide_eq_false_iff_not, beq_eq_false_iff_ne]
  omega

theorem State.writeNext_signal {q f : Nat} (hg : s.ev.gaps.find? (fun g => g.queue == q) = none) (hm : s.nextMsg q = none)
    (hf : f ∈ s.eligible q) (hfirst : ∀ b ∈ s.eligible q, f = b ∨ s.before f b = true) :
    s.writeNext q = s.writeSignal q f := by
  have hfind : (s.eligible q).find? (fun a => (s.eligible q).all fun b => a == b || s.before a b) = some f := by
    cases hfd : (s.eligible q).find? (fun a => (s.eligible q).all fun b => a == b || s.before a b) with
    | none =>
      have hn := List.find?_eq_none.mp hfd f hf
      exact absurd (List.all_eq_true.mpr fun b hb => by simpa using hfirst b hb) hn
    | some g =>
      have hall : (s.eligible q).all (fun b => g == b || s.before g b) = true := by
        simpa using List.find?_some (p := fun a => (s.eligible q).all fun b => a == b || s.before a b) hfd
      have hgf := List.all_eq_true.mp hall f hf
      simp only [Bool.or_eq_true, beq_iff_eq] at hgf
      rcases hgf with rfl | hgf
      · rfl
      · rcases hfirst g (List.mem_of_find?_eq_some hfd) with rfl | hfg
        · rfl
        · rw [State.before_asymm hfg] at hgf
          cases hgf
  simp only [State.writeNext, hg, ite_self, hm, hfind]

/-! ### Messages (R263, R272) -/

/-- The message is taken, and the completion it carries is noted. -/
def State.msgTaken (s : State) (m : EvMsg) : State :=
  let s0 : State := { s with ev := { s.ev with msgs := s.ev.msgs.erase m } }
  if inRange 3 6 m.src && !m.sw then s0.recordQueued m.info else s0

theorem State.msgTaken_shows (m : EvMsg) : (s.msgTaken m).regs = s.regs ∧ (s.msgTaken m).mem = s.mem ∧
    (s.msgTaken m).ev = { s.ev with msgs := s.ev.msgs.erase m } := by
  unfold State.msgTaken State.recordQueued
  dsimp only
  (repeat' split) <;> exact ⟨rfl, rfl, rfl⟩

theorem State.slot_msgTaken {m : EvMsg} (h3 : 3 ≤ m.src) (h6 : m.src ≤ 6) (hsw : m.sw = false)
    (hst : (s.slot (m.info % 64)).st = .ended) (hgen : (s.slot (m.info % 64)).gen = m.info / 64) :
    ((s.msgTaken m).slot (m.info % 64)).st = .done := by
  have hs : ∀ x : EvX, ({ s with ev := x } : State).slot (m.info % 64) = s.slot (m.info % 64) := fun _ => rfl
  simp [State.msgTaken, State.recordQueued, inRange, h3, h6, hsw, hs, hst, hgen]

theorem State.rd_of_same_regs (h : t.regs = s.regs) (r : Reg) : t.rd r = s.rd r :=
  congrArg (fun l => Tab.get l r r.reset) h

/-- A full queue drops the message. -/
def State.msgDropped (s : State) (q src : Nat) : State :=
  ((s.gap (gapStream src).1 (gapStream src).2 1 q).addSat (.EVT_QDROP q) Fld.EVT_QDROP_COUNT 1).setFlagI .EVT_STAT (3 + q) q 0

theorem State.qFull_msgTaken (q : Nat) (m : EvMsg) : (s.msgTaken m).qFull q = s.qFull q := by
  obtain ⟨hregs, -, -⟩ := State.msgTaken_shows (s := s) m
  simp only [State.qFull, State.qWrite, State.qRead, State.qSize, State.fld, State.rd_of_same_regs hregs]

theorem State.writeMsg_eq (q : Nat) (m : EvMsg) : s.writeMsg q m =
    if s.qFull q then (s.msgTaken m).msgDropped q m.src
    else (s.msgTaken m).qPut q m.src (recWord0 1 (s.fld (.EVT_CFG m.src) Fld.EVT_CFG_PRIO) false m.sw false false
      m.stamp.isLocal m.code m.src) (recWord1 m.count m.info) m.stamp := by
  rw [← State.qFull_msgTaken q m]
  rfl

theorem exists_mem_addGap (stream index n queue : Nat) (hn : n ≠ 0) (l : List Gap) :
    ∃ g ∈ addGap stream index n queue l, g.queue = queue := by
  induction l with
  | nil => simp [addGap, hn]
  | cons g l ih =>
    unfold addGap
    split
    · next h => exact ⟨_, List.mem_cons_self, h.2.2⟩
    · obtain ⟨x, hx, hq⟩ := ih
      exact ⟨x, by simp [hx], hq⟩

theorem State.fld_addSat (r : Reg) (f : Field) (n : Nat) (hf : f.ok = true) :
    (s.addSat r f n).fld r f = min (2 ^ f.width - 1) (s.fld r f + n) := by
  have hpos := Nat.two_pow_pos f.width
  rw [State.addSat, State.fld, State.rd_put, if_pos rfl, getF_putF _ _ _ hf, satAdd, Nat.mod_eq_of_lt (by omega)]

theorem State.msgDropped_shows (q src : Nat) (hq : q < 3) :
    (s.msgDropped q src).rd (.EVT_QPTR q) = s.rd (.EVT_QPTR q) ∧
    (s.msgDropped q src).fld (.EVT_QDROP q) Fld.EVT_QDROP_COUNT = min 65535 (s.fld (.EVT_QDROP q) Fld.EVT_QDROP_COUNT + 1) ∧
    (s.msgDropped q src).bit .EVT_STAT (3 + q) = true ∧ (∃ g ∈ (s.msgDropped q src).ev.gaps, g.queue = q) ∧
    (s.msgDropped q src).cm = s.cm := by
  have hb : 3 + q < 32 := by omega
  refine ⟨?_, ?_, State.bit_setFlagI_any _ _ hb rfl, ?_, State.cm_setFlagI ..⟩
  · rw [State.msgDropped, State.rd_setFlagI_any _ _ hb rfl, if_neg (by simp), State.addSat, State.rd_put, if_neg (by simp)]
    rfl
  · rw [State.msgDropped, State.fld, State.rd_setFlagI_any _ _ hb rfl, if_neg (by simp)]
    exact State.fld_addSat _ _ _ rfl
  · obtain ⟨srcs, hev⟩ := State.ev_setFlagI (s := (s.gap (gapStream src).1 (gapStream src).2 1 q).addSat (.EVT_QDROP q)
      Fld.EVT_QDROP_COUNT 1) .EVT_STAT q 0 hb
    rw [State.msgDropped, hev]
    exact exists_mem_addGap _ _ _ _ Nat.one_ne_zero _

/-! ### Signals (R261, R263, R268) -/

/-- A storm window counts a queuing: its source masks at the 64th, and what waits and what is queued stays. -/
theorem State.storm_shows (f : Nat) : (s.storm f).mem = s.mem ∧
    ((s.storm f).src f).waiting = (s.src f).waiting ∧ ((s.storm f).src f).queued = (s.src f).queued ∧
    ∀ w, (s.storm f).rd (.EVT_PEND w) = s.rd (.EVT_PEND w) := by
  have hmsg : ∀ (u : State) a b c, (u.message a b c).src f = u.src f := fun _ _ _ _ => rfl
  unfold State.storm
  dsimp only
  split
  · exact ⟨rfl, by simp, by simp, fun _ => rfl⟩
  · split
    · refine ⟨rfl, by simp [hmsg], by simp [hmsg], fun w => ?_⟩
      show (((s.putSrc f _).putBit _ _ false).putBit _ _ true).rd _ = _
      simp
    · exact ⟨rfl, by simp, by simp, fun _ => rfl⟩

theorem State.writeSignal_shows {q f : Nat} (hm : s.memOk) (hf : s.qFull q = false) :
    (s.writeSignal q f).bit (.EVT_PEND (f / 32)) (f % 32) = false ∧ ((s.writeSignal q f).src f).waiting = 0 ∧
    ((s.writeSignal q f).src f).queued = some (q, s.qWrite q) ∧
    (s.writeSignal q f).word (s.recAddr q (s.qWrite q) + 4) = recWord1 (s.src f).waiting (s.src f).info := by
  unfold State.writeSignal
  rw [if_neg (by simp [hf])]
  dsimp only
  obtain ⟨hmem, hwait, hqueued, hpend⟩ := State.storm_shows (s := (((s.qPut q f (recWord0 1 (s.fld (.EVT_CFG f)
    Fld.EVT_CFG_PRIO) (65535 < (s.src f).waiting) (s.src f).sw (s.src f).rise (s.src f).fall (s.src f).first.isLocal
    (s.src f).code f) (recWord1 (s.src f).waiting (s.src f).info) (s.src f).first).putSrc f { s.src f with
      waiting := 0, rise := false, fall := false, sw := false, queued := some (q, s.qWrite q) }).putBit
    (.EVT_PEND (f / 32)) (f % 32) false)) f
  refine ⟨?_, hwait.trans (by simp), hqueued.trans (by simp), ?_⟩
  · rw [State.bit, hpend]
    exact State.bit_putBit _ _ (Nat.mod_lt _ (by decide))
  · rw [State.word_of_mem hmem]
    exact (State.word_qPut q f _ _ _ hm).2

/-! ### Gaps (R273) -/

theorem State.writeGap_shows {q : Nat} {g : Gap} (hm : s.memOk) (hf : s.qFull q = false) :
    g ∉ (s.writeGap q g).ev.gaps ∧
    (s.writeGap q g).word (s.recAddr q (s.qWrite q)) =
      recWord0 2 0 (decide (65535 < g.count)) false false false s.now.isLocal g.stream 0 ∧
    (s.writeGap q g).word (s.recAddr q (s.qWrite q) + 4) = recWord1 g.count g.index := by
  unfold State.writeGap
  rw [if_neg (by simp [hf])]
  dsimp only
  obtain ⟨-, hgaps, -⟩ := State.ev_qPut (s := { s with ev := { s.ev with gaps := s.ev.gaps.filter (fun x => x != g) } }) q 0
    (recWord0 2 0 (65535 < g.count) false false false s.now.isLocal g.stream 0) (recWord1 g.count g.index) s.now
  refine ⟨?_, State.word_qPut (s := { s with ev := { s.ev with gaps := s.ev.gaps.filter (fun x => x != g) } }) q 0 _ _ _ hm⟩
  rw [hgaps]
  simp

/-! ### TAKE and EOI (R264, R265) -/

theorem exec_take (h : s.takes (.EVT_QTAKE q) = true) : exec (.take i q) s = .next (if qServes i q then s.take q else s) :=
  congrArg Host.Outcome.next (State.guardWrite_takes h)

theorem exec_eoi (h : s.takes (.EVT_QEOI q) = true) : exec (.eoi i q) s = .next (if qServes i q then s.eoi q else s) :=
  congrArg Host.Outcome.next (State.guardWrite_takes h)

theorem State.rd_putRec (q : Nat) (w0 w1 w2 w3 : Word) {r : Reg} (hr : ∀ k, r ≠ .EVT_QREC q k) :
    (s.putRec q w0 w1 w2 w3).rd r = s.rd r := by
  simp [State.putRec, hr]

theorem State.rec_putRec (q : Nat) (w0 w1 w2 w3 : Word) : (s.putRec q w0 w1 w2 w3).rd (.EVT_QREC q 0) = w0 ∧
    (s.putRec q w0 w1 w2 w3).rd (.EVT_QREC q 1) = w1 ∧ (s.putRec q w0 w1 w2 w3).rd (.EVT_QREC q 2) = w2 ∧
    (s.putRec q w0 w1 w2 w3).rd (.EVT_QREC q 3) = w3 := by
  simp [State.putRec]

theorem State.rd_takeRec (q : Nat) (r : Reg) : (s.takeRec q).rd r =
    if r = .EVT_QPTR q then putF (s.rd (.EVT_QPTR q)) Fld.EVT_QPTR_RPTR ((s.qRead q + 1) % s.qSize q) else s.rd r := by
  have hun : ∀ k r, (s.unqueue q k).rd r = s.rd r := fun _ _ => rfl
  have hout : ∀ (u : State) l, ((u.putOrder q l).irqPins).rd r = u.rd r := fun _ _ => rfl
  simp only [State.takeRec, hout, State.rd_put, State.qRead, State.qSize, State.fld, hun]

theorem State.rd_putStack (q : Nat) (l : List (Nat × Nat)) (r : Reg) : (s.putStack q l).rd r = s.rd r := rfl

theorem State.stack_putStack (q : Nat) (l : List (Nat × Nat)) : (s.putStack q l).stack q = l := by
  simp [State.stack, State.putStack]

/-- The range holds nothing to correct. -/
theorem State.eccRange_clean_eq {a n src : Nat} (hs : keysIn s.me.soft a n = []) (hv : keysIn s.me.votes a n = []) :
    s.eccRange a n src = s := by
  simp [State.eccRange, hs, hv, each]

/-- TAKE of an undamaged record. -/
theorem State.take_record {q : Nat} (he : s.qEmpty q = false) (hst : (s.stack q).length < 8) (hbad : s.takeBad q = [])
    (hs : keysIn s.me.soft (s.recAddr q (s.qRead q)) 16 = []) (hv : keysIn s.me.votes (s.recAddr q (s.qRead q)) 16 = []) :
    s.take q = ((s.takeRec q).putRec q (s.word (s.recAddr q (s.qRead q))) (s.word (s.recAddr q (s.qRead q) + 4))
      (s.word (s.recAddr q (s.qRead q) + 8)) (s.word (s.recAddr q (s.qRead q) + 12))).putStack q
      ((max (getF (s.word (s.recAddr q (s.qRead q))) ⟨27, 24⟩) ((s.running q).getD 0),
        getF (s.word (s.recAddr q (s.qRead q))) ⟨7, 0⟩) :: s.stack q) := by
  have hw : s.takeWords q = (s.word (s.recAddr q (s.qRead q)), s.word (s.recAddr q (s.qRead q) + 4),
      s.word (s.recAddr q (s.qRead q) + 8), s.word (s.recAddr q (s.qRead q) + 12)) := by
    simp [State.takeWords, hbad]
  unfold State.take
  rw [if_neg (by simp [he]), if_neg (by omega)]
  simp only [State.eccRange_clean_eq hs hv, hbad, hw]
  rfl

theorem State.take_zeros {q : Nat} (h : s.qEmpty q = true ∨ 8 ≤ (s.stack q).length) :
    (s.take q).rd (.EVT_QREC q 0) = 0#32 ∧ (s.take q).rd (.EVT_QPTR q) = s.rd (.EVT_QPTR q) ∧ (s.take q).ev = s.ev := by
  unfold State.take
  split
  · exact ⟨(State.rec_putRec ..).1, State.rd_putRec _ _ _ _ _ (by simp), rfl⟩
  · next he =>
    rw [if_pos (h.resolve_left he), State.rd_putBit, State.rd_putBit, if_neg (by simp), if_neg (by simp)]
    exact ⟨(State.rec_putRec ..).1, State.rd_putRec _ _ _ _ _ (by simp), rfl⟩

theorem State.eoi_top {q p f : Nat} {l : List (Nat × Nat)} (h : s.stack q = (p, f) :: l) :
    (s.eoi q).stack q = l ∧ (s.eoi q).rd (.EVT_QPTR q) = s.rd (.EVT_QPTR q) := by
  have hpop := s.stack_putStack q l
  simp only [State.eoi, h]
  split
  · have k := State.resample_senses (s := s.putStack q l) f
    exact ⟨(k.stack q).trans hpop, k.rd _ rfl⟩
  · exact ⟨hpop, rfl⟩

theorem State.eoi_empty {q : Nat} (hq : q < 3) (h : s.stack q = []) :
    (s.eoi q).stack q = [] ∧ (s.eoi q).bit .EVT_STAT (6 + q) = true := by
  have hb : 6 + q < 32 := by omega
  simp only [State.eoi, h]
  exact ⟨((State.setFlagI_senses .EVT_STAT q 0 hb).stack q).trans h, State.bit_setFlagI_any _ _ hb rfl⟩

/-! ### The place and size of a queue (R271) -/

theorem exec_queueConfigWrite (b : Bool) {r : Reg} (hr : r = if b then Reg.EVT_QSIZE q else Reg.EVT_QBASE q)
    (h : s.takes r = true) : exec (.queueConfigWrite i b q v 0xF#4) s = .next (s.wrQueue b q v) := by
  subst hr
  exact congrArg Host.Outcome.next ((State.guardWrite_takes h).trans (by rw [State.merged_whole]))

/-- Settles O22: each clause is the lemma of its command. -/
theorem eventQueues : Obligations.EventQueues := by
  unfold Obligations.EventQueues
  refine ⟨?message, ?dropped, ?completion, ?signal, ?gap, ?take, ?takeNone, ?coreOnly, ?eoi, ?eoiNone, ?place, ?refused⟩
  case message =>
    intro q m s u hu hc hm hg hmsg hf
    obtain ⟨t, ht, hev, -, hmem, hrd⟩ := exec_eventQueueWrite (q := q) hu hc
    obtain ⟨hregs, htmem, htev⟩ := State.msgTaken_shows (s := u) m
    rw [State.writeNext_message hg hmsg, State.writeMsg_eq, if_neg (by simp [hf])] at hev hmem hrd
    have hreg := State.rd_of_same_regs hregs
    have haddr : (u.msgTaken m).recAddr q ((u.msgTaken m).qWrite q) = u.recAddr q (u.qWrite q) := by
      simp only [State.recAddr, State.qWrite, State.fld, hreg]
    have hword := State.word_qPut (s := u.msgTaken m) q m.src (recWord0 1 (u.fld (.EVT_CFG m.src) Fld.EVT_CFG_PRIO) false
      m.sw false false m.stamp.isLocal m.code m.src) (recWord1 m.count m.info) m.stamp (by rw [State.memOk, htmem]; exact hm)
    rw [haddr] at hword
    refine ⟨t, ht, ?_, ?_, ?_, ?_⟩
    · rw [hrd _ (by simp), State.rd_qPut _ _ _ _ _ rfl, if_pos rfl]
      simp only [State.qWrite, State.qSize, State.fld, hreg]
    · rw [State.word_of_mem hmem]
      exact hword.1
    · rw [State.word_of_mem hmem]
      exact hword.2
    · rw [hev, (State.ev_qPut ..).1, htev]
  case dropped =>
    intro q m s u hu hc hg hmsg hf
    obtain ⟨t, ht, hev, -, -, hrd⟩ := exec_eventQueueWrite (q := q) hu hc
    obtain ⟨hregs, -, -⟩ := State.msgTaken_shows (s := u) m
    have hreg := State.rd_of_same_regs hregs
    rw [State.writeNext_message hg hmsg, State.writeMsg_eq, if_pos hf] at hev hrd
    obtain ⟨hptr, hcount, hflag, hgap, -⟩ := State.msgDropped_shows (s := u.msgTaken m) q m.src q.isLt
    refine ⟨t, ht, ?_, ?_, ?_, ?_⟩
    · rw [hrd _ (by simp), hptr, hreg]
    · rw [State.fld, hrd _ (by simp)]
      refine hcount.trans ?_
      rw [State.fld, hreg]
      rfl
    · rw [State.bit, hrd _ (by simp)]
      exact hflag
    · rw [hev]
      exact hgap
  case completion =>
    intro q m s u hu hc hg hmsg h3 h6 hsw hst hgen
    obtain ⟨t, ht, -, hcm, -, -⟩ := exec_eventQueueWrite (q := q) hu hc
    rw [State.writeNext_message hg hmsg, State.writeMsg_eq] at hcm
    have hdone := State.slot_msgTaken h3 h6 hsw hst hgen
    have hcm' : t.cm = (u.msgTaken m).cm := by
      rw [hcm]
      split
      · exact (State.msgDropped_shows q m.src q.isLt).2.2.2.2
      · exact (State.ev_qPut ..).2.2
    refine ⟨t, ht, ?_⟩
    simp only [State.slot, hcm']
    exact hdone
  case signal =>
    intro q f s u hu hc hm hg hmsg hf hfirst hfull
    obtain ⟨t, ht, hev, -, hmem, hrd⟩ := exec_eventQueueWrite (q := q) hu hc
    rw [State.writeNext_signal hg hmsg hf hfirst] at hev hmem hrd
    obtain ⟨hpend, hwait, hqueued, hword⟩ := State.writeSignal_shows (f := f) hm hfull
    refine ⟨t, ht, ?_, ?_, ?_, ?_⟩
    · rw [State.bit, hrd _ (by simp)]
      exact hpend
    · simp only [State.src, hev]
      exact hwait
    · simp only [State.src, hev]
      exact hqueued
    · rw [State.word_of_mem hmem]
      exact hword
  case gap =>
    intro q g s u hu hc hm hg hfull
    obtain ⟨t, ht, hev, -, hmem, -⟩ := exec_eventQueueWrite (q := q) hu hc
    rw [State.writeNext_gap hg hfull] at hev hmem
    obtain ⟨hgone, hw0, hw1⟩ := State.writeGap_shows (g := g) hm hfull
    refine ⟨t, ht, hev ▸ hgone, ?_, ?_⟩
    · rw [State.word_of_mem hmem]
      exact hw0
    · rw [State.word_of_mem hmem]
      exact hw1
  case take =>
    intro i q s ht hserves he hst hbad hs hv
    refine ⟨s.take q, by rw [exec_take ht, if_pos hserves], ?_⟩
    rw [State.take_record he hst hbad hs hv]
    simp only [State.rd_putStack]
    obtain ⟨h0, h1, h2, h3⟩ := State.rec_putRec (s := s.takeRec q) q (s.word (s.recAddr q (s.qRead q)))
      (s.word (s.recAddr q (s.qRead q) + 4)) (s.word (s.recAddr q (s.qRead q) + 8)) (s.word (s.recAddr q (s.qRead q) + 12))
    refine ⟨h0, h1, h2, h3, ?_, ?_, rfl⟩
    · rw [State.rd_putRec _ _ _ _ _ (by simp), State.rd_takeRec, if_pos rfl]
    · rw [h0, State.running, State.stack_putStack]
      rfl
  case takeNone =>
    intro i q s ht hserves h
    exact ⟨s.take q, by rw [exec_take ht, if_pos hserves], State.take_zeros h⟩
  case coreOnly =>
    intro i q s ht he hq hi
    have hserves : qServes i q = false := by
      have hq0 : q.val ≠ 0 := fun h => hq (Fin.ext h)
      simp [qServes, hq0, hi]
    rw [exec_take ht, exec_eoi he, if_neg (by simp [hserves]), if_neg (by simp [hserves])]
    exact ⟨rfl, rfl⟩
  case eoi =>
    intro i q p f l s ht hserves h
    exact ⟨s.eoi q, by rw [exec_eoi ht, if_pos hserves], State.eoi_top h⟩
  case eoiNone =>
    intro i q s ht hserves h
    exact ⟨s.eoi q, by rw [exec_eoi ht, if_pos hserves], State.eoi_empty q.isLt h⟩
  case place =>
    intro i b q r v s hr ht he hst hok
    rw [exec_queueConfigWrite b hr ht, State.wrQueue, ← hr]
    exact congrArg Host.Outcome.next (if_pos (by simp [he, hst, hok]))
  case refused =>
    intro i b q r v s hr ht h
    have hrefused : s.wrQueue b q v = s.setFlagI .EVT_STAT 13 q 0 := by
      rw [State.wrQueue, ← hr]
      exact if_neg (by simp only [Bool.and_eq_true, List.isEmpty_iff]; rcases h with h | h | h <;> simp [h])
    refine ⟨_, by rw [exec_queueConfigWrite b hr ht, hrefused], ?_, ?_, State.bit_setFlagI_any _ _ (by decide) rfl⟩
    · rw [hr]
      cases b <;> exact (State.rd_setFlagI_any _ _ (by decide) rfl).trans (if_neg (by simp))
    · exact (State.rd_setFlagI_any _ _ (by decide) rfl).trans (if_neg (by simp))

end Sys2Proof.Machine

/-! SUPPORT. The start of a waiting command, its cancel and its query (R281, R285, R286). -/

namespace Sys2Proof.Machine

variable {s t : State} {i : Iface} {v : Word} {l : Fin 4} {k : Nat}

/-! ### The start (R281) -/

theorem Tab.lookup_set {κ α : Type} [DecidableEq κ] (t : Tab κ α) (k : κ) (x : α) : (t.set k x).lookup k = some x := by
  simp [Tab.set]

/-- The first waiting command of a lane leaves its place in the order and runs. -/
def State.started (s : State) (l : Fin 4) (k : Nat) : State :=
  let s1 := s.putSlot k { s.slot k with st := .running }
  { s1 with cm := { s1.cm with waiting := s1.cm.waiting.filter (· != k), running := s1.cm.running.set l.val k } }

theorem State.slot_started : (s.started l k).slot k = { s.slot k with st := .running } := by
  show (s.putSlot k _).slot k = _
  rw [State.slot_putSlot, if_pos rfl]

theorem State.runningSlot_started : (s.started l k).runningSlot l = some k := Tab.lookup_set ..

/-- What a start does beside a cancel and a NOP: a re-gang and a reload show their begin. -/
def State.startedShown (s : State) (k : Nat) : State :=
  if (s.slot k).op = 0x10 then s.regangBegin k
  else if (s.slot k).op = 0x03 then (if s.reloadReady then s.reloadAccept k else s).reloadBegin k
  else s

theorem exec_commandStart (hmc : s.pw.mc = .firmware ∨ s.pw.mc = .loader) (hrun : s.runningSlot l = none)
    (hk : s.cm.waiting.find? (fun k => opLane (s.slot k).op == l.val) = some k) :
    exec (.commandStart l) s = .next (
      if (s.slot k).cancelled then ((s.started l k).reloadUnstarted k).complete k 0x20 0
      else if opNop (s.slot k).op then (s.started l k).complete k 0 0
      else (s.started l k).startedShown k) := by
  have hidle : (s.pw.mc == .off || s.pw.mc == .stopped || (s.runningSlot l).isSome) = false := by
    rcases hmc with h | h <;> simp [h, hrun]
  have hop : ((s.started l k).slot k).op = (s.slot k).op := by rw [State.slot_started]
  simp only [exec, execCommandStart, hidle, hk, State.startedShown, hop]
  rfl

theorem State.startedShown_shows : (s.startedShown k).cm = s.cm ∧ (s.startedShown k).mem = s.mem := by
  have hbegin : ∀ u : State, (u.reloadBegin k).mem = u.mem := fun u => State.mem_reloadBegin k
  have haccept : (if s.reloadReady then s.reloadAccept k else s).cm = s.cm ∧
      (if s.reloadReady then s.reloadAccept k else s).mem = s.mem := by split <;> exact ⟨rfl, rfl⟩
  unfold State.startedShown
  split
  · unfold State.regangBegin
    split <;> exact ⟨rfl, rfl⟩
  · split
    · exact ⟨(State.cm_reloadBegin k).trans haccept.1, (hbegin _).trans haccept.2⟩
    · exact ⟨rfl, rfl⟩

/-- A completed command runs in no lane. -/
theorem State.running_complete (k code detail : Nat) : ∀ e ∈ (s.complete k code detail).cm.running, e.2 ≠ k := by
  have hcm : (s.complete k code detail).cm.running = s.cm.running.filter (fun e => !decide (e.2 = k)) := by
    unfold State.complete
    dsimp only
    split <;> rfl
  intro e he
  rw [hcm, List.mem_filter] at he
  simpa using he.2

theorem State.waiting_complete (k code detail : Nat) : (s.complete k code detail).cm.waiting = s.cm.waiting := by
  unfold State.complete
  dsimp only
  split <;> rfl

/-! ### Cancel and query (R285, R286) -/

theorem exec_cmdCancel (h : s.takes .CMD_CANCEL = true) : exec (.cmdCancel i v 0xF#4) s = .next (s.wrCancel i v) :=
  congrArg Host.Outcome.next (State.guardSent_whole (k := fun w s => s.wrCancel i w) h (by decide))

/-- The value a write of CMD_QUERY puts together of the bytes sent and the bank's own. -/
theorem exec_cmdQuery (h : s.takes .CMD_QUERY = true) : exec (.cmdQuery i v 0xF#4) s = .next (s.wrQuery i v) := by
  have hmask : (v &&& byteMask 0xF#4) ||| ((s.bank i).query &&& ~~~ (byteMask 0xF#4)) = v := by
    rw [and_byteMask_whole, show ~~~ (byteMask 0xF#4) = 0#32 by decide, BitVec.and_zero, BitVec.or_zero]
  exact congrArg Host.Outcome.next ((State.guardWrite_takes h).trans (by rw [hmask]))

theorem State.bank_putBank (b : CmdBank) : (s.putBank i b).bank i = b := (Tab.get_set ..).trans (if_pos rfl)

theorem ofNat_getF_low (v : Word) : BitVec.ofNat 32 (getF v ⟨15, 0⟩) = v &&& 0xFFFF#32 := by
  refine BitVec.eq_of_toNat_eq ?_
  have hv := v.isLt
  rw [BitVec.toNat_ofNat, BitVec.toNat_and]
  simp only [getF, Field.width, Nat.shiftRight_zero, BitVec.toNat_ofNat]
  rw [show 65535 % 2 ^ 32 = 2 ^ 16 - 1 by decide, Nat.and_two_pow_sub_one_eq_mod]
  omega

/-- The handle named for the interface. -/
def State.queryNamed (s : State) (i : Iface) (v : Word) : State :=
  s.putBank i { s.bank i with query := BitVec.ofNat 32 (getF v Fld.CMD_QUERY_HANDLE) }

theorem State.wrQuery_eq : s.wrQuery i v = if s.stale (getF v Fld.CMD_QUERY_HANDLE)
    then (s.queryNamed i v).setFlagI .CMD_FLAG 2 (ifaceNum i) 0 else s.queryNamed i v := rfl

theorem State.wrQuery_shows : ((s.wrQuery i v).bank i).query = v &&& 0xFFFF#32 ∧
    (s.stale (getF v Fld.CMD_QUERY_HANDLE) = true → (s.wrQuery i v).bit .CMD_FLAG 2 = true) ∧
    (s.wrQuery i v).cm.slots = s.cm.slots := by
  have hcm : (s.wrQuery i v).cm = (s.queryNamed i v).cm := by
    rw [State.wrQuery_eq]
    split
    · exact State.cm_setFlagI ..
    · rfl
  refine ⟨?_, fun hstale => ?_, by rw [hcm]; rfl⟩
  · have hbank : (s.wrQuery i v).bank i = (s.queryNamed i v).bank i := by simp only [State.bank, hcm]
    rw [hbank, State.queryNamed, State.bank_putBank]
    exact ofNat_getF_low v
  · rw [State.wrQuery_eq, if_pos hstale]
    exact State.bit_setFlagI_any _ _ (by decide) rfl

/-- Settles O24: each clause is the lemma of its command. -/
theorem mailboxStart : Obligations.MailboxStart := by
  unfold Obligations.MailboxStart
  refine ⟨?start, ?nop, ?cancel, ?stale, ?cancelled, ?query⟩
  case start =>
    intro l k s hmc hrun hk hc hn
    refine ⟨_, exec_commandStart hmc hrun hk, ?_⟩
    rw [if_neg (by simp [hc]), if_neg (by simp [hn])]
    obtain ⟨hcm, hmem⟩ := State.startedShown_shows (s := s.started l k) (k := k)
    have hslot : ((s.started l k).startedShown k).slot k = { s.slot k with st := .running } := by
      rw [State.slot, hcm]
      exact State.slot_started
    refine ⟨?_, by rw [hslot], by rw [hslot], by rw [hcm]; rfl, hmem⟩
    rw [State.runningSlot, hcm]
    exact State.runningSlot_started
  case nop =>
    intro l k s hmc hrun hk hc hn
    refine ⟨_, exec_commandStart hmc hrun hk, ?_⟩
    rw [if_neg (by simp [hc]), if_pos hn]
    have hlane : opLane (s.slot k).op = l := by simpa using List.find?_some hk
    have hmsg := State.lastMessage_complete (s := s.started l k) k 0 0
    rw [State.slot_started] at hmsg
    exact ⟨State.ended_complete .., State.running_complete _ _ _, State.waiting_complete .., hlane ▸ hmsg⟩
  case cancel =>
    intro i v s ht hstale hst
    rw [exec_cmdCancel ht]
    simp [State.wrCancel, hstale, hst]
  case stale =>
    intro i v s ht hstale
    have hflag : s.wrCancel i v = s.setFlagI .CMD_FLAG 2 (ifaceNum i) 0 := if_pos hstale
    rw [exec_cmdCancel ht, hflag]
    exact ⟨_, rfl, State.bit_setFlagI_any _ _ (by decide) rfl, State.cm_setFlagI ..⟩
  case cancelled =>
    intro l k s hmc hrun hk hc
    refine ⟨_, exec_commandStart hmc hrun hk, ?_⟩
    rw [if_pos hc]
    exact ⟨State.ended_complete .., State.running_complete _ _ _⟩
  case query =>
    intro i v s ht
    exact ⟨_, exec_cmdQuery ht, State.wrQuery_shows⟩

end Sys2Proof.Machine

/-!
SUPPORT. A correctable error that the scrubber meets while a record of MEM_CE stands in a queue: its occurrence counts into
the record (R267, R301), and a word of the record whose valid bit has turned over is valid again once it is written (R291).
-/

namespace Sys2Proof.Machine

/-- The firmware runs with AON, NVM and CORE up; one occurrence of source 120 (MEM_CE) is queued at 0x3C000 and its flag is
clear again, two of the three valid bits of the record's second word have turned over, and an upset has hit one bit of the
word at 0, which the scrubber reads next. -/
def scrubUnderRecord : State :=
  let s0 := ((({ pw := { on := [.aon, .nvm, .core], mc := .firmware, start := none } } : State).putSrc 120
    { waiting := 1, rise := true }).writeSignal 0 120).sramWrite 0 1#32
  ((s0.upset ⟨0x3C004, .copy 0⟩).upset ⟨0x3C004, .copy 1⟩).upset ⟨0, .bit 7#7⟩

/-- The state meets what the clause on a correctable error supposes. -/
theorem scrubUnderRecord_correctable : scrubUnderRecord.bit .MEM_CFG 31 = true ∧ scrubUnderRecord.powered .core = true ∧
    scrubUnderRecord.me.met = [] ∧ scrubUnderRecord.me.scrub < 65536 ∧
    scrubUnderRecord.sramBad (4 * scrubUnderRecord.me.scrub) = none ∧
    scrubUnderRecord.me.soft.lookup (4 * scrubUnderRecord.me.scrub) = some 7#7 ∧
    scrubUnderRecord.me.votes.lookup (4 * scrubUnderRecord.me.scrub) = none := by decide +kernel

/-- The state that a step of the scrubber reaches. -/
def scrubbedUnderRecord : State :=
  let s1 := scrubUnderRecord.metNow.scrubWord (4 * scrubUnderRecord.me.scrub)
  { s1 with me := { s1.me with scrub := (scrubUnderRecord.me.scrub + 1) % 65536 } }

theorem exec_scrubStep_underRecord : exec (.scrubStep []) scrubUnderRecord = .next scrubbedUnderRecord :=
  congrArg Host.Outcome.next (if_pos (by decide +kernel))

/-- The count has made the record's second word valid again. -/
theorem scrubbedUnderRecord_valid : scrubbedUnderRecord.me.valid ≠ scrubUnderRecord.me.valid := by decide +kernel

/-- Refutes O25: the correctable error that the scrubber corrects raises MEM_CE, which counts into its queued record; the
record's word was no valid one and becomes one, so the valid bits do not stay. -/
theorem not_memoryProtection : ¬ Obligations.MemoryProtection := by
  unfold Obligations.MemoryProtection
  rintro ⟨-, correctable, -⟩
  obtain ⟨cfg, core, met, low, good, soft, votes⟩ := scrubUnderRecord_correctable
  obtain ⟨t, ht, -, -, -, -, valid⟩ := correctable _ _ cfg core met low good soft votes
  rw [exec_scrubStep_underRecord] at ht
  cases ht
  exact scrubbedUnderRecord_valid valid

end Sys2Proof.Machine

/-!
SUPPORT. A receive channel that halts while a record of MEM_HALT stands in a queue: its occurrence counts into the record
(R267, R297, R298), which stands in memory.
-/

namespace Sys2Proof.Machine

/-- LINK is powered and port 0 is UP, the station's address is 2, context 0 is OPEN to station 1 and bound to its incarnation
1; one occurrence of source 122 (the halt of a channel) is queued at 0x3C000 and its flag is clear again. -/
def flowUnderRecord : State :=
  let s0 := (({ pw := { on := [.aon, .nvm, .core, .link], mc := .firmware, start := none } } : State).putSrc 122
    { waiting := 1, rise := true }).writeSignal 0 122
  let s1 := ((s0.setPort 0 3).put .LNK_ADDR Fld.LNK_ADDR_ADDR 2).put (.FLW_F_CFG 0) Fld.FLW_F_CFG_STATE 1
  (s1.put (.FLW_F_CFG 0) Fld.FLW_F_CFG_PEER 1).putFlow 0 { bound := some 1 }

/-- A DATA frame in sequence of station 1 for context 0, with one word of payload. -/
def dataInSequence : Frame := Frame.make 1 0 false 2 1 0 1 (some 0) 1#32 0 [1#8, 2#8, 3#8, 4#8]

/-- The state and the frame meet what the clause on a wrong encoder supposes. -/
theorem flowUnderRecord_takes : flowUnderRecord.flowTakes (0 : Fin 4) dataInSequence 1 = true ∧ dataInSequence.payload ≠ [] ∧
    (flowUnderRecord.flow dataInSequence.flow).held = [] ∧ (flowUnderRecord.flow dataInSequence.flow).closing = none ∧
    (flowUnderRecord.flow dataInSequence.flow).bound = some (getF dataInSequence.arg0 ⟨15, 0⟩) ∧
    getF dataInSequence.arg0 ⟨31, 16⟩ = flowUnderRecord.rxNext dataInSequence.flow ∧
    seqDiff (getF dataInSequence.arg0 ⟨31, 16⟩) (flowUnderRecord.rxRead dataInSequence.flow) < 16 := by decide +kernel

/-- The state that the frame leaves when its store is found wrong. -/
def flowHaltedUnderRecord : State := flowUnderRecord.rxFrame (0 : Fin 4) dataInSequence.flow dataInSequence true

/-- DATA_RECEIVE of a frame that its context takes. -/
theorem exec_dataReceive {s : State} {p : Fin 4} {f : Frame} (x : Bool) (h : s.flowTakes p f 1 = true) :
    exec (.dataReceive p ⟨f, x⟩) s = .next (s.rxFrame p f.flow f x) :=
  congrArg Host.Outcome.next (if_pos (by simp [h]))

/-- The record of the halts has counted one more. -/
theorem flowHaltedUnderRecord_word : flowHaltedUnderRecord.word 0x3C004 ≠ flowUnderRecord.word 0x3C004 := by
  decide +kernel

/-- Refutes O34: the halt of the channel raises MEM_HALT, which counts into its queued record, so memory does not stay. -/
theorem not_flows : ¬ Obligations.Flows := by
  unfold Obligations.Flows
  rintro ⟨-, -, -, -, -, -, -, -, -, wrongStore, -⟩
  obtain ⟨takes, payload, held, closing, bound, next, window⟩ := flowUnderRecord_takes
  obtain ⟨t, ht, -, -, -, -, mem⟩ := wrongStore 0 dataInSequence flowUnderRecord (.inl takes) payload held closing bound next window
  have halted : flowHaltedUnderRecord = t := Host.Outcome.next.inj ((exec_dataReceive true takes).symm.trans ht)
  rw [← halted] at mem
  exact flowHaltedUnderRecord_word (State.word_of_mem mem 0x3C004)

end Sys2Proof.Machine

/-!
SUPPORT. A line of the Lookout that its rights do not permit while a record of source 239 stands in a queue: the flag's
occurrence counts into the record (R267, R418), which stands in memory.
-/

namespace Sys2Proof.Machine

/-- The firmware serves the Lookout with the rights of FIELD, to read alone; one occurrence of the source of MON_FLAG bit 3 (a
refused line) is queued at 0x3C000, and the flag is clear again. -/
def refusalUnderRecord : State :=
  ((({ pw := { on := [.aon, .nvm, .core], mc := .firmware, start := none } } : State).put .OTP_STATUS Fld.OTP_STATUS_LC 3
    ).putSrc 239 { waiting := 1, rise := true }).writeSignal 0 239

theorem refusalUnderRecord_reads : refusalUnderRecord.monServes = true ∧ refusalUnderRecord.bit .MON_CFG 31 = false ∧
    refusalUnderRecord.lookoutRights = 1 := by decide +kernel

/-- The state that a line leaves which needs the rights to write. -/
def refusedUnderRecord : State :=
  (({ refusalUnderRecord with mo := { refusalUnderRecord.mo with newRate := false } } : State).answer 2).setFlag .MON_FLAG 3

/-- A WR that the rights do not permit. -/
theorem exec_wr_refused {s : State} (a : Word) (l : List Word) (hm : s.monServes = true) (hd : s.bit .MON_CFG 31 = false)
    (hr : s.lookoutRights = 1) : exec (.wr a l) s =
    .next ((({ s with mo := { s.mo with newRate := false } } : State).answer 2).setFlag .MON_FLAG 3) := by
  have hd' : ({ s with mo := { s.mo with newRate := false } } : State).bit .MON_CFG 31 = false := hd
  have hr' : ({ s with mo := { s.mo with newRate := false } } : State).lookoutRights = 1 := hr
  simp [exec, execWr, State.monBoth, State.monLine, hm, hd', hr']

/-- The record of the refused lines has counted one more. -/
theorem refusedUnderRecord_word : refusedUnderRecord.word 0x3C004 ≠ refusalUnderRecord.word 0x3C004 := by decide +kernel

/-- Refutes O38: the refused WR sets MON_FLAG bit 3, whose occurrence counts into its queued record, so memory does not
stay. -/
theorem not_lookoutReads : ¬ Obligations.LookoutReads := by
  unfold Obligations.LookoutReads
  rintro ⟨-, -, refused, -⟩
  obtain ⟨serves, enabled, rights⟩ := refusalUnderRecord_reads
  obtain ⟨t, ht, -, -, mem⟩ := refused 0#32 0 [] refusalUnderRecord serves enabled rights
  have left : refusedUnderRecord = t := Host.Outcome.next.inj ((exec_wr_refused 0#32 [] serves enabled rights).symm.trans ht)
  rw [← left] at mem
  exact refusedUnderRecord_word (State.word_of_mem mem 0x3C004)

end Sys2Proof.Machine

/-!
SUPPORT. The warning of the watchdog (R342): its flag, and the occurrence of WDG_WARN that the flag's rise is; before it, the
parts of the state that an occurrence of an event leaves alone.
-/

namespace Sys2Proof.Machine

variable {s t : State}

theorem EventsOnly.pins (h : EventsOnly s t) : t.pins = s.pins := by
  obtain ⟨regs, mem, ev, me, rfl⟩ := h
  rfl

theorem EventsOnly.clock (h : EventsOnly s t) : t.clock = s.clock := by
  obtain ⟨regs, mem, ev, me, rfl⟩ := h
  rfl

theorem EventsOnly.pw (h : EventsOnly s t) : t.pw = s.pw := by
  obtain ⟨regs, mem, ev, me, rfl⟩ := h
  rfl

theorem EventsOnly.ld (h : EventsOnly s t) : t.ld = s.ld := by
  obtain ⟨regs, mem, ev, me, rfl⟩ := h
  rfl

theorem EventsOnly.ot (h : EventsOnly s t) : t.ot = s.ot := by
  obtain ⟨regs, mem, ev, me, rfl⟩ := h
  rfl

theorem EventsOnly.wd (h : EventsOnly s t) : t.wd = s.wd := by
  obtain ⟨regs, mem, ev, me, rfl⟩ := h
  rfl

theorem EventsOnly.ln (h : EventsOnly s t) : t.ln = s.ln := by
  obtain ⟨regs, mem, ev, me, rfl⟩ := h
  rfl

theorem EventsOnly.fw (h : EventsOnly s t) : t.fw = s.fw := by
  obtain ⟨regs, mem, ev, me, rfl⟩ := h
  rfl

theorem EventsOnly.tm (h : EventsOnly s t) : t.tm = s.tm := by
  obtain ⟨regs, mem, ev, me, rfl⟩ := h
  rfl

theorem EventsOnly.tb (h : EventsOnly s t) : t.tb = s.tb := by
  obtain ⟨regs, mem, ev, me, rfl⟩ := h
  rfl

theorem EventsOnly.mo (h : EventsOnly s t) : t.mo = s.mo := by
  obtain ⟨regs, mem, ev, me, rfl⟩ := h
  rfl

theorem EventsOnly.xg (h : EventsOnly s t) : t.xg = s.xg := by
  obtain ⟨regs, mem, ev, me, rfl⟩ := h
  rfl

theorem EventsOnly.rdata (h : EventsOnly s t) : t.rdata = s.rdata := by
  obtain ⟨regs, mem, ev, me, rfl⟩ := h
  rfl

/-! ### WDG_WARN -/

theorem exec_wdgWarn {n : Fin 8} (hr : s.taskRuns n = true) (ht : s.tokened n = false) :
    exec (.wdgWarn n) s = .next (s.setFlagI .WDG_FLAG 1 n 0) :=
  congrArg Host.Outcome.next (if_pos (by simp [hr, ht]))

/-- Bit 1 of WDG_FLAG is the one flag of WDG_WARN (Table 11.1). -/
theorem flagRegs_wdgWarn : ∀ r ∈ flagRegs, ∀ b ∈ List.range 32, (flagSource r b).map (·.1) = some 153 →
    r = .WDG_FLAG ∧ b = 1 := by decide +kernel

theorem State.evtLive_wdgWarn (h : s.bit .WDG_FLAG 1 = false) : s.evtLive 153 = false := by
  have hnone : flagRegs.any (s.flagLive 153) = false := by
    simp only [List.any_eq_false, State.flagLive, decide_eq_true_eq, Bool.not_eq_true]
    intro r hr b hb hsource
    obtain ⟨rfl, rfl⟩ := flagRegs_wdgWarn r hr b (List.mem_filter.1 hb).1 hsource
    exact absurd ((mem_bitsOf _ _).1 hb) (by simpa [State.bit] using h)
  simpa [State.evtLive] using hnone

/-- A flag that rises is an occurrence of its source where SENSE selects the rise. -/
theorem State.setFlagI_rises {r : Reg} {b f info code i : Nat} (h : s.bit r b = false) (hf : flagSource r b = some (f, i))
    (hlive : s.evtLive f = false) (hsense : (s.putBit r b true).sense f ≠ 2) : s.setFlagI r b info code =
    ((s.putBit r b true).noteRise f info code).occur f true false info code := by
  unfold State.setFlagI
  rw [if_neg (by simp [h]), hf]
  dsimp only
  rw [hlive, State.condRise_selected info code hsense]

/-- Settles O57: the flag is set beside event and memory-protection registers alone; its rise is the source's occurrence. -/
theorem watchdogWarning : Obligations.WatchdogWarning := by
  unfold Obligations.WatchdogWarning
  refine ⟨?warn, ?event⟩
  case warn =>
    intro n r s hr ht
    refine ⟨_, exec_wdgWarn hr ht, State.bit_setFlagI _ _ _ _ (by decide) (by decide) (by decide), ?_, fun h he hm =>
      State.rd_setFlag_other _ _ _ _ _ h hm he⟩
    exact (State.setFlagI_eventsOnly ..).wd
  case event =>
    intro n s hr ht hflag hfrozen hqueued hwaiting hsense
    have hother : ∀ q : Reg, q ≠ .WDG_FLAG → (s.putBit .WDG_FLAG 1 true).rd q = s.rd q := fun q hq => by
      rw [State.rd_putBit, if_neg hq]
    have hshows := State.occur_shows (s := (s.putBit .WDG_FLAG 1 true).noteRise 153 n 0) (f := 153) true false n 0
      ⟨(State.bit_congr (hother _ (by decide)) _).trans hfrozen, by simpa [State.noteRise] using hqueued⟩
    rw [State.waiting_noteRise, State.src_putBit, hwaiting] at hshows
    obtain ⟨hpend, hone, hfirst⟩ := hshows
    rw [exec_wdgWarn hr ht, State.setFlagI_rises hflag rfl (State.evtLive_wdgWarn hflag)
      (by rwa [State.sense, State.fld_congr (hother _ (by simp))])]
    exact ⟨_, rfl, hone, (hfirst rfl).1, hpend⟩

end Sys2Proof.Machine

/-!
SUPPORT. The registers of their own that small commands may change (R7, R259): a relation between a state and the state an
operation leaves, one rule per operation on registers and events, and one lemma per operation of the blocks.
-/

namespace Sys2Proof.Machine

variable {l : List Reg} {s t z : State} {r : Reg}

/-- Beside the registers of a list, and those of the blocks EVT and MEM, every register reads as before. -/
structure Own (l : List Reg) (s t : State) : Prop where
  rd : ∀ q, q ∉ l → q.block ≠ .evt → q.block ≠ .mem → t.rd q = s.rd q

theorem Own.refl (s : State) : Own l s s := ⟨fun _ _ _ _ => rfl⟩

theorem Own.trans {u : State} (h : Own l s t) (k : Own l t u) : Own l s u :=
  ⟨fun q hq he hm => (k.rd q hq he hm).trans (h.rd q hq he hm)⟩

/-- A change of other fields than the registers. -/
theorem Own.of_regs (h : Own l z s) (ht : t.regs = s.regs) : Own l z t :=
  h.trans ⟨fun q _ _ _ => State.rd_of_same_regs ht q⟩

/-- The same for an update of the state that leaves its registers. -/
theorem Own.fields {pending mem clock pins rdata ev cm tp sw lp tt sv ga po fl me ld ln fw tm ot wd tb mo xg pw}
    (h : Own l z s) : Own l z (State.mk pending s.regs mem clock pins rdata ev cm tp sw lp tt sv ga po fl me ld ln fw tm ot wd
      tb mo xg pw) := h.of_regs rfl

/-! ### Operations on registers and events -/

theorem Own.wr (h : Own l z s) (hr : r ∈ l) (w : Word) : Own l z (s.wr r w) :=
  h.trans ⟨fun q hq _ _ => by rw [State.rd_wr, if_neg (by rintro rfl; exact hq hr)]⟩

theorem Own.put (h : Own l z s) (hr : r ∈ l) (f : Field) (n : Nat) : Own l z (s.put r f n) := h.wr hr _
theorem Own.putBit (h : Own l z s) (hr : r ∈ l) (b : Nat) (v : Bool) : Own l z (s.putBit r b v) := h.wr hr _
theorem Own.addSat (h : Own l z s) (hr : r ∈ l) (f : Field) (n : Nat) : Own l z (s.addSat r f n) := h.wr hr _
theorem Own.writeRw (h : Own l z s) (hr : r ∈ l) (w : Word) : Own l z (s.writeRw r w) := h.wr hr _

/-- A register of the blocks EVT and MEM. -/
theorem Own.putBit_mem (h : Own l z s) (hr : r.block = .mem) (b : Nat) (v : Bool) : Own l z (s.putBit r b v) :=
  h.trans ⟨fun q _ _ hm => by rw [State.rd_putBit, if_neg (by rintro rfl; exact hm hr)]⟩

theorem Own.setFlagI (h : Own l z s) (hr : r ∈ l) (b info code : Nat) : Own l z (s.setFlagI r b info code) :=
  h.trans ⟨fun _ hq he hm => State.rd_setFlag_other _ _ _ _ _ (by rintro rfl; exact hq hr) hm he⟩

theorem Own.setFlag (h : Own l z s) (hr : r ∈ l) (b : Nat) : Own l z (s.setFlag r b) := h.setFlagI hr ..

/-- What changes registers of EVT and MEM at most. -/
theorem Own.of_keeps {M : Prop} (h : Own l z s) (k : Keeps (fun b => b = .mem ∨ b = .evt) M s t) : Own l z t :=
  h.trans ⟨fun q _ he hm => k.regs q (by simp [he, hm])⟩

theorem Own.condFall (h : Own l z s) (f info code : Nat) : Own l z (s.condFall f info code) :=
  h.of_keeps (State.condFall_keeps (M := True) (.refl s) (.inl rfl) (.inr rfl) trivial)

theorem Own.happen (h : Own l z s) (f info code : Nat) : Own l z (s.happen f info code) :=
  h.of_keeps (State.happen_keeps (M := True) (.refl s) (.inl rfl) (.inr rfl) trivial)

theorem Own.each {α : Type} {k : List α} {f : α → State → State} (h : Own l z s)
    (hf : ∀ x ∈ k, ∀ s, Own l z s → Own l z (f x s)) : Own l z (each k f s) := by
  induction k generalizing s with
  | nil => exact h
  | cons x k ih => exact ih (hf x (by simp) s h) fun y hy => hf y (by simp [hy])

theorem Own.clearFlag (h : Own l z s) (hr : r ∈ l) (b : Nat) : Own l z (s.clearFlag r b) := by
  unfold State.clearFlag
  split
  · split
    · exact h.putBit hr b false
    · exact (h.putBit hr b false).condFall ..
  · exact h

theorem Own.clearFlags (h : Own l z s) (hr : r ∈ l) (m : Word) : Own l z (s.clearFlags r m) :=
  h.each fun b _ _ hs => hs.clearFlag hr b

theorem Own.plainWrite (h : Own l z s) (hr : r ∈ l) (w : Word) : Own l z (s.plainWrite r w) :=
  (h.writeRw hr w).clearFlags hr _

/-- A write that its guards stop has at most an event (R22, R66, R315, R343). -/
theorem Own.guardWrite {k : State → State} (h : Own l z s) (hk : ∀ s, Own l z s → Own l z (k s)) :
    Own l z (s.guardWrite r k) := by
  unfold State.guardWrite
  split
  · exact h
  · split
    · exact h.happen ..
    · split
      · exact h.happen ..
      · exact hk s h

theorem Own.guardSent {be : BitVec 4} {k : State → State} (h : Own l z s) (hk : ∀ s, Own l z s → Own l z (k s)) :
    Own l z (s.guardSent r be k) :=
  h.guardWrite fun s hs => by
    split
    · exact hk s hs
    · exact hs

/-- One of two states. -/
theorem Own.ite {c : Prop} [Decidable c] {a b : State} (ha : Own l z a) (hb : Own l z b) : Own l z (if c then a else b) := by
  split
  · exact ha
  · exact hb

end Sys2Proof.Machine

/-!
SUPPORT. The own registers of the operations of stages, loops, rails, groups, converters, backup power and gauge.
-/

namespace Sys2Proof.Machine

variable {l : List Reg} {s t z : State}

/-! ### Stages -/

theorem Own.showExcluded (h : Own l z s) (hstate : ∀ m ∈ allStages, .STG_STATE m ∈ l)
    (hflag : ∀ m ∈ allStages, .STG_FLAG m ∈ l) : Own l z s.showExcluded :=
  h.each fun m hm _ hs => .ite ((hs.put (hstate m hm) ..).setFlag (hflag m hm) _) (hs.put (hstate m hm) ..)

theorem Own.wrPnt {k : Nat} (h : Own l z s) (hk : .PNT_CFG k ∈ l) (hstate : ∀ m ∈ allStages, .STG_STATE m ∈ l)
    (hflag : ∀ m ∈ allStages, .STG_FLAG m ∈ l) (w : Word) : Own l z (s.wrPnt k w) :=
  .ite h ((h.writeRw hk w).showExcluded hstate hflag)

theorem Own.putRise {m : Nat} (h : Own l z s) (hm : .STG_TEST m ∈ l) (vsw : Nat) : Own l z (s.putRise m vsw) := h.put hm ..

theorem Own.regangSet (h : Own l z s) (hr : .SWY_STATUS ∈ l) (g : Regang) (phase : Nat) : Own l z (s.regangSet g phase) :=
  (h.wr hr _).of_regs rfl

theorem testWindowEnd_own (m : Fin 24) (vsw : Nat) :
    ∃ u, execTestWindowEnd m vsw s = .next u ∧ Own [.STG_STATE m, .STG_TEST m, .SWY_STATUS] s u := by
  refine ⟨_, rfl, ?_⟩
  have hrise : Own [.STG_STATE m, .STG_TEST m, .SWY_STATUS] s (((s.putRise m vsw).put (.STG_TEST m) Fld.STG_TEST_RESULT 1).put
      (.STG_STATE m) Fld.STG_STATE_STATE gBoot) := (((Own.refl s).putRise (by simp) vsw).put (by simp) _ _).put (by simp) _ _
  split
  · dsimp only
    split
    · exact .ite (hrise.regangSet (by simp) _ 5) hrise
    · exact hrise
  · exact .refl s

/-! ### Loops -/

theorem Own.putLoopX (h : Own l z s) (k : Nat) (x : LoopX) : Own l z (s.putLoopX k x) := h.of_regs rfl

theorem Own.setPrate {k : Nat} (h : Own l z s) (hk : .LPS_STAT k ∈ l) (c : Nat) : Own l z (s.setPrate k c) :=
  (h.put hk Fld.LPS_STAT_PRATE c).of_regs rfl

theorem Own.cfgRateNow {k : Nat} (h : Own l z s) (hk : .LPS_STAT k ∈ l) : Own l z (s.cfgRateNow k) := by
  unfold State.cfgRateNow
  dsimp only
  split
  · exact h.of_regs rfl
  · exact (h.setPrate hk _).of_regs rfl

theorem Own.zeroSlot (h : Own l z s) (k : Nat) : Own l z (s.zeroSlot k) := by
  unfold State.zeroSlot State.putDest
  dsimp only
  split <;> exact h.of_regs rfl

theorem Own.closeNow {k : Nat} (h : Own l z s) (hctl : .LPS_CTL k ∈ l) (hstat : .LPS_STAT k ∈ l) (clear : Bool) :
    Own l z (s.closeNow k clear) := by
  have hsections : Own l z (s.closeSections k clear) := h.trans ⟨fun q _ _ _ => State.rd_closeSections k clear q⟩
  have hmarks : Own l z ((s.closeSections k clear).closeMarks k) :=
    ((hsections.put hctl _ _).put hstat _ _).put hstat _ _
  have hclosed : Own l z (s.closed k clear) := (hmarks.cfgRateNow hstat).putLoopX k _
  rw [State.closeNow_eq]
  exact .ite hclosed (hclosed.zeroSlot k)

theorem Own.openSlot {k : Nat} (h : Own l z s) (hctl : .LPS_CTL k ∈ l) (host : Bool) : Own l z (s.openSlot k host) := by
  unfold State.openSlot
  split
  · exact (h.put hctl _ _).putLoopX k _
  · exact h

theorem Own.closeSlot {k : Nat} (h : Own l z s) (hctl : .LPS_CTL k ∈ l) (hstat : .LPS_STAT k ∈ l) (hflag : .LPS_FLAG k ∈ l)
    (clear : Bool) : Own l z (s.closeSlot k clear) := by
  unfold State.closeSlot
  split
  · exact h
  · exact h.setFlag hflag 6
  · exact .ite (h.setFlag hflag 6) (h.closeNow hctl hstat clear)
  · exact h.closeNow hctl hstat clear

theorem Own.wrLpsCtl {k : Nat} (h : Own l z s) (hctl : .LPS_CTL k ∈ l) (hstat : .LPS_STAT k ∈ l) (hflag : .LPS_FLAG k ∈ l)
    (w : Word) : Own l z (s.wrLpsCtl k w) := by
  have hw := h.writeRw hctl w
  unfold State.wrLpsCtl
  extract_lets s2
  split
  · exact hw.openSlot hctl true
  · exact hw.closeSlot hctl hstat hflag false
  · exact hw.closeSlot hctl hstat hflag true
  · exact hw

theorem Own.loopReq {k : Nat} (h : Own l z s) (hctl : .LPS_CTL k ∈ l) (hstat : .LPS_STAT k ∈ l) (hflag : .LPS_FLAG k ∈ l)
    (req : Nat) : Own l z (s.loopReq k req) := by
  have hblocked : ∀ w, Own l z (s.closeBlocked k w) := fun w => .ite (h.setFlag hflag 6) h
  exact (hblocked _).guardWrite fun s hs => hs.wrLpsCtl hctl hstat hflag _

theorem Own.wrLpsOut {k : Nat} (h : Own l z s) (hout : .LPS_OUT k ∈ l) (hflag : .LPS_FLAG k ∈ l) (w : Word) :
    Own l z (s.wrLpsOut k w) := by
  have hleave : ∀ (u : State) d, (u.leaveDest d).regs = u.regs := fun u d => by
    unfold State.leaveDest
    split <;> rfl
  refine .ite (h.setFlag hflag 7) (.ite (.ite (h.writeRw hout _) ?_) (h.setFlag hflag 9))
  exact (h.writeRw hout _).of_regs (hleave ..)

/-! ### Rails and groups -/

theorem Own.wrVset {n : Nat} (h : Own l z s) (hn : .RAIL_VSET n ∈ l) (hstat : ∀ k ∈ allSlots, .LPS_STAT k ∈ l) (w : Word) :
    Own l z (s.wrVset n w) := by
  have hw := h.writeRw hn w
  have hramp : Own l z ((s.writeRw (.RAIL_VSET n) w).rampToVset n) :=
    Own.each (hw.of_regs rfl) fun k hk s hs => (hs.put (hstat k (List.mem_filter.1 hk).1) Fld.LPS_STAT_MWCNT 0).of_regs rfl
  exact .ite h (.ite hramp hw)

theorem setpointReached_own (n : Fin 20) : ∃ u, execSetpointReached n s = .next u ∧ Own [.RAIL_STATUS n] s u := by
  refine ⟨_, rfl, ?_⟩
  split
  · exact .refl s
  · next r _ =>
    have hset : Own [.RAIL_STATUS n] s ((s.put (.RAIL_STATUS n) Fld.RAIL_STATUS_SETP r.target).stopRamp n) :=
      ((Own.refl s).put (by simp) _ _).of_regs rfl
    exact .ite (hset.put (by simp) _ _) (.ite (hset.put (by simp) _ _) hset)

theorem Own.wrStep {g j : Nat} (h : Own l z s) (hj : .TTB_STEP g j ∈ l) (hflag : .TTB_G_FLAG g ∈ l) (hrst : .TTB_RSTSTAT ∈ l)
    (w : Word) : Own l z (s.wrStep g j w) := by
  have hw := h.wr hj w
  exact .ite (h.setFlag hflag 3) (.ite (hw.each fun x _ _ hs => hs.putBit hrst (4 + x) true) hw)

theorem State.regs_vinRose : s.vinRose.regs = s.regs := by
  unfold State.vinRose
  split <;> rfl

theorem Own.vinSeen (h : Own l z s) : Own l z s.vinSeen := by
  have hmin : ∀ b : Bool, Own l z (if b then ({ s with tt := { s.tt with bout := { s.tt.bout with
      minVin := min (s.vinMv / 10) s.tt.bout.minVin } } } : State) else s) := fun b => .ite (h.of_regs rfl) h
  exact .ite ((hmin _).of_regs State.regs_vinRose) (hmin _)

/-! ### Converters, backup power and gauge -/

theorem Own.wrDmaCfg {x : Nat} (h : Own l z s) (hcfg : .SVY_CV_DMA_CFG x ∈ l) (hptr : .SVY_CV_DMA_PTR x ∈ l)
    (hstat : .SVY_CV_STAT x ∈ l) (hflag : .SVY_CV_FLAG x ∈ l) (w : Word) : Own l z (s.wrDmaCfg x w) := by
  have hw := h.writeRw hcfg w
  refine .ite (.ite (.ite hw ?_) (h.setFlag hflag 1)) hw
  exact (((hw.putBit hcfg 30 false).put hptr _ _).put hstat _ _).putBit_mem rfl _ _

theorem Own.contact (h : Own l z s) (hr : .BKP_WDT ∈ l) (i : Iface) : Own l z (s.contact i) := by
  cases i with
  | core | dma _ => exact h
  | twoWire | lookout | line => exact h.put hr _ _

theorem Own.shipCancelled (h : Own l z s) (hr : .BKP_STATUS ∈ l) : Own l z (s.wrShip 0x40000000#32) := by
  have hkey : (wbit 0x40000000#32 31 && getF 0x40000000#32 Fld.BKP_SHIP_KEY == 0x5A) = false := by decide
  unfold State.wrShip
  rw [hkey]
  exact .ite (h.putBit hr 9 false) h

/-- The path takes BATTERY or QUALIFY, coming from another state than SOURCE. -/
theorem Own.setPath {p : Nat} (h : Own l z s) (hr : .BKP_STATUS ∈ l) (hold : s.path ≠ 1) (hp : p = 3 ∨ p = 4) :
    Own l z (s.setPath p) := by
  unfold State.setPath
  simp only [hold, hp, false_and, if_false, if_true]
  exact h.put hr _ _

theorem Own.enterBattery (h : Own l z s) (hr : .BKP_STATUS ∈ l) (hold : s.path ≠ 1) : Own l z s.enterBattery :=
  .ite (h.setPath hr hold (.inr rfl)) (h.setPath hr hold (.inl rfl))

theorem Own.putSrcOk (h : Own l z s) (hr : .BKP_STATUS ∈ l) (b : Bool) : Own l z (s.putSrcOk b) := h.putBit hr 7 _

theorem State.path_putSrcOk (b : Bool) : (s.putSrcOk b).path = s.path := by
  simp only [State.path, State.putSrcOk, State.fld, State.rd_putBit, if_true]
  exact getF_wputBit_other _ _ _ _ (by decide) (by decide)

theorem handoverComplete_own (src : Bool) : ∃ u, execHandoverComplete src s = .next u ∧ Own [.BKP_STATUS] s u := by
  refine ⟨_, rfl, ?_⟩
  split
  next hpath =>
    exact ((Own.refl s).putSrcOk (by simp) src).enterBattery (by simp) (by rw [State.path_putSrcOk, hpath.1]; decide)
  next => exact .refl s

theorem sourceReturn_own : ∃ u, execSourceReturn s = .next u ∧ Own [.BKP_STATUS] s u := by
  refine ⟨_, rfl, ?_⟩
  have hok : Own [.BKP_STATUS] s (s.putSrcOk true) := (Own.refl s).putSrcOk (by simp) true
  dsimp only
  split
  next hpath => exact hok.setPath (by simp) (by rw [State.path_putSrcOk, hpath.1]; decide) (.inr rfl)
  next => exact hok

theorem openEnd_own : ∃ u, execOpenEnd s = .next u ∧ Own [.BKP_STATUS] s u := by
  refine ⟨_, rfl, ?_⟩
  split
  next hpath => exact ((Own.refl s).enterBattery (by simp) (by rw [hpath]; decide)).fields
  next => exact .refl s

theorem handbackStart_own : ∃ u, execHandbackStart s = .next u ∧ Own [.BKP_STATUS, .FLT_LIVE 7] s u := by
  refine ⟨_, rfl, ?_⟩
  split
  next hpath =>
    unfold State.setPath
    simp only [hpath, show ¬ ((4 : Nat) = 1 ∧ (5 : Nat) ≠ 1) by decide, show ¬ ((5 : Nat) = 3 ∨ (5 : Nat) = 4) by decide,
      if_false]
    exact (((Own.refl s).put (by simp) _ _).putBit (by simp) 10 false).putBit (by simp) _ false
  next => exact .refl s

/-- The charger takes a state other than DONE, and does not leave DONE. -/
theorem Own.setChg {st : Nat} (h : Own l z s) (hr : .BKP_STATUS ∈ l) (hst : st ≠ 5) (hold : s.chgSt ≠ 5) :
    Own l z (s.setChg st) := by
  have hloops : Own l z ((s.put .BKP_STATUS Fld.BKP_STATUS_CHGSTATE st).happen 80 st 0).chargerLoops :=
    ((h.put hr _ _).happen 80 st 0).each fun k _ s hs => .ite (hs.putLoopX k _) ((hs.putLoopX k _).zeroSlot k)
  unfold State.setChg
  simp only [hst, hold, if_false]
  exact .ite h hloops

theorem prechargeEnd_own : ∃ u, execPrechargeEnd s = .next u ∧ Own [.BKP_STATUS] s u := by
  refine ⟨_, rfl, ?_⟩
  split
  next hchg => exact (Own.refl s).setChg (by simp) (by decide) (by rw [hchg.2]; decide)
  next => exact .refl s

theorem cvEntry_own : ∃ u, execCvEntry s = .next u ∧ Own [.BKP_STATUS] s u := by
  refine ⟨_, rfl, ?_⟩
  split
  next hchg => exact (Own.refl s).setChg (by simp) (by decide) (by rw [hchg.2]; decide)
  next => exact .refl s

end Sys2Proof.Machine

/-!
SUPPORT. The own registers of the operations of the signal box, OTP, watchdog, Line, station time, the serial interfaces,
crossings and power modes; then the frame of every small command.
-/

namespace Sys2Proof.Machine

variable {l : List Reg} {s t z : State}

/-! ### Signal box, OTP and watchdog -/

theorem Own.wrFltCfg {f : Nat} (h : Own l z s) (hf : .FLT_CFG f ∈ l) (hflag : .FLT_FLAG ∈ l) (w : Word) :
    Own l z (s.wrFltCfg f w) :=
  .ite (h.setFlag hflag 0) ((h.writeRw hf _).of_regs State.regs_faultPin)

theorem Own.wrFltTgt {f : Nat} (h : Own l z s) (hf : .FLT_TGT f ∈ l) (hflag : .FLT_FLAG ∈ l) (w : Word) :
    Own l z (s.wrFltTgt f w) :=
  .ite (h.writeRw hf w) (h.setFlag hflag 0)

theorem Own.wrFltForce (h : Own l z s) (hf : .FLT_FORCE ∈ l) (hflag : .FLT_FLAG ∈ l) (w : Word) : Own l z (s.wrFltForce w) :=
  .ite (h.writeRw hf w) (h.setFlag hflag 2)

theorem Own.injectGo (h : Own l z s) (hstat : .FLT_INJSTAT ∈ l) (hflag : .FLT_FLAG ∈ l) : Own l z s.injectGo :=
  .ite ((h.putBit hstat 8 false).fields.addSat hstat _ _)
    (((h.putBit hstat 8 false).put hstat _ _).setFlag hflag 1)

theorem Own.wrFltInj (h : Own l z s) (hinj : .FLT_INJ ∈ l) (hstat : .FLT_INJSTAT ∈ l) (hflag : .FLT_FLAG ∈ l) (w : Word) :
    Own l z (s.wrFltInj w) := by
  have hkey : ∀ k, Own l z { s.writeRw .FLT_INJ w with fl := { (s.writeRw .FLT_INJ w).fl with key1 := k } } :=
    fun k => (h.writeRw hinj w).of_regs rfl
  exact .ite ((hkey none).injectGo hstat hflag) (.ite (hkey _) (.ite ((hkey none).putBit hstat 8 true) (hkey none)))

theorem Own.otpReject (h : Own l z s) (hres : .OTP_RESULT ∈ l) (hflag : .OTP_FLAG ∈ l) (code : Nat) :
    Own l z (s.otpReject code) :=
  (h.put hres _ _).setFlagI hflag 1 0 code

theorem Own.otpStart (h : Own l z s) (hstat : .OTP_STATUS ∈ l) (row : Nat) (data : Word) (target : Option Nat) :
    Own l z (s.otpStart row data target) :=
  (h.of_regs (t := s.otp _) rfl).putBit hstat 4 true

theorem Own.wrOtpProg (h : Own l z s) (hstat : .OTP_STATUS ∈ l) (hres : .OTP_RESULT ∈ l) (hflag : .OTP_FLAG ∈ l) (i : Iface)
    (w : Word) : Own l z (s.wrOtpProg i w) := by
  have hno := h.otpReject hres hflag
  exact .ite (hno 8) (.ite h (.ite (hno 5) (.ite (hno 4) (.ite (hno 2) (.ite (hno 3) (h.otpStart hstat _ _ none))))))

theorem Own.wrOtpLc (h : Own l z s) (hstat : .OTP_STATUS ∈ l) (hres : .OTP_RESULT ∈ l) (hflag : .OTP_FLAG ∈ l) (i : Iface)
    (w : Word) : Own l z (s.wrOtpLc i w) := by
  have hno := h.otpReject hres hflag
  exact .ite (hno 8) (.ite h (.ite (hno 5) (.ite (hno 4) (.ite (hno 6) (.ite (hno 2) (h.otpStart hstat _ _ _))))))

theorem Own.periodStart {n : Nat} (h : Own l z s) (hn : .WDG_T_STAT n ∈ l) : Own l z (s.periodStart n) :=
  ((h.putBit hn 17 false).put hn _ _).putBit hn 16 _

theorem Own.wrWdgCfg {n : Nat} (h : Own l z s) (hcfg : .WDG_T_CFG n ∈ l) (hstat : .WDG_T_STAT n ∈ l) (hflag : .WDG_FLAG ∈ l)
    (w : Word) : Own l z (s.wrWdgCfg n w) :=
  .ite (h.setFlag hflag 2) (.ite ((((h.writeRw hcfg w).putBit hcfg 31 true).put hstat _ _).periodStart hstat)
    (h.writeRw hcfg w))

theorem Own.wrWdgCtl (h : Own l z s) (hctl : .WDG_CTL ∈ l) (hflag : .WDG_FLAG ∈ l) (w : Word) : Own l z (s.wrWdgCtl w) :=
  .ite (h.setFlag hflag 2) (h.writeRw hctl w)

/-! ### The Line and station time -/

theorem Own.wrRtA {e : Nat} (h : Own l z s) (ha : .LNK_RT_A e ∈ l) (hb : .LNK_RT_B e ∈ l) (w : Word) :
    Own l z (s.wrRtA e w) := by
  unfold State.wrRtA
  dsimp only
  split
  · exact ((h.writeRw ha w).wr hb _).of_regs rfl
  · exact h.writeRw ha w

theorem respReceive_own (p : Fin 4) (f : Frame) : ∃ u, execRespReceive p f s = .next u ∧ Own [.TIM_DELAY p] s u := by
  refine ⟨_, rfl, ?_⟩
  split
  · exact .refl s
  · exact ((Own.refl s).wr (by simp) _).of_regs rfl

theorem Own.setTim (h : Own l z s) (hstat : .TIM_STATUS ∈ l) (hflag : .TIM_FLAG ∈ l) (st : Nat) : Own l z (s.setTim st) :=
  .ite ((h.put hstat _ _).setFlag hflag 0) (.ite ((h.put hstat _ _).setFlag hflag 1) (h.put hstat _ _))

theorem Own.wrSetctl (h : Own l z s) (hflag : .TIM_FLAG ∈ l) (i : Iface) (w : Word) : Own l z (s.wrSetctl i w) :=
  .ite h (.ite ((h.of_regs (t := s.stepTime _) rfl).setFlag hflag 2) (h.setFlag hflag 7))

theorem Own.armMark (h : Own l z s) (m : MarkX) (hbank : .TIM_BANK (192 * (m.num % 4)) ∈ l) (hstat : .TIM_MARKSTAT ∈ l)
    (hflag : .TIM_FLAG ∈ l) : Own l z (s.armMark m) :=
  ((((h.putBit hbank 31 false).putBit hstat _ false).putBit hstat _ true).fields).setFlagI hflag 3 m.num 0

theorem markReceive_own (p : Fin 4) (f : Frame) : ∃ u, execMarkReceive p f s = .next u ∧
    Own (.TIM_MARKSTAT :: .TIM_FLAG :: (List.range 4).map fun b => .TIM_BANK (192 * b)) s u := by
  refine ⟨_, rfl, ?_⟩
  have hbank : ∀ n : Nat, Reg.TIM_BANK (192 * (n % 4)) ∈
      Reg.TIM_MARKSTAT :: .TIM_FLAG :: (List.range 4).map fun b => .TIM_BANK (192 * b) := fun n =>
    List.mem_cons_of_mem _ (List.mem_cons_of_mem _ (List.mem_map.2 ⟨n % 4, List.mem_range.2 (Nat.mod_lt n (by decide)), rfl⟩))
  have harm := fun (u : State) (hu : Own _ s u) m => hu.armMark m (hbank m.num) (by simp) (by simp)
  have hlate := fun n => (Own.refl s).setFlagI (l := Reg.TIM_MARKSTAT :: .TIM_FLAG :: (List.range 4).map fun b =>
    .TIM_BANK (192 * b)) (r := .TIM_FLAG) (by simp) 5 n 0
  refine .ite (.refl s) (.ite (hlate _) ?_)
  split
  · exact .ite (harm _ (.refl s) _) (harm _ (hlate _) _)
  · exact harm _ (.refl s) _

/-! ### Serial interfaces, crossings and power modes -/

theorem Own.wakeNack (h : Own l z s) (hflag : .TWB_FLAG ∈ l) : Own l z s.wakeNack :=
  .ite h (.ite (h.fields.setFlag hflag 3) h.fields)

/-- A line of the Lookout: one that its rights do not permit sets a flag. -/
theorem Own.monCmd {need : Nat} {f : State → State} (h : Own l z s) (hneed : s.monServes = true → s.lookoutRights < need →
    .MON_FLAG ∈ l) (hf : ∀ s, Own l z s → Own l z (f s)) : Own l z (s.monCmd need f) := by
  unfold State.monCmd
  split
  next hserves =>
    have hline : Own l z { s with mo := { s.mo with newRate := false } } := h.fields
    by_cases hless : s.lookoutRights < need
    · exact .ite hline.fields (.ite (Own.setFlag hline.fields (hneed hserves hless) 3) (hf _ hline))
    · exact .ite hline.fields ((if_neg hless).symm ▸ hf _ hline)
  next => exact h

/-- A station whose firmware serves the Lookout gives it the rights to read at least (Table 15.4). -/
theorem State.lookoutRights_of_monServes (h : s.monServes = true) : 1 ≤ s.lookoutRights := by
  have hmc : s.pw.mc = .firmware := by
    simp only [State.monServes, Bool.and_eq_true, beq_iff_eq] at h
    exact h.1.2
  unfold State.lookoutRights
  rw [hmc]
  rw [if_neg (by decide)]
  split
  · decide
  · decide
  · decide
  · split <;> decide
  · decide

theorem Own.setBaud (h : Own l z s) (hcfg : .MON_CFG ∈ l) (b : Nat) : Own l z (s.setBaud b) :=
  (h.put hcfg Fld.MON_CFG_BAUD _).of_regs rfl

theorem Own.wrMonCfg (h : Own l z s) (hcfg : .MON_CFG ∈ l) (i : Iface) (w : Word) : Own l z (s.wrMonCfg i w) := by
  have hoff : Own l z (if wbit w 31 then s.putBit .MON_CFG 31 true else s) := .ite (h.putBit hcfg 31 true) h
  have hidle := hoff.put hcfg Fld.MON_CFG_IDLE (getF w Fld.MON_CFG_IDLE)
  exact .ite (.ite hidle (hidle.setBaud hcfg _)) h

theorem Own.unlockTry (h : Own l z s) (hstat : .MON_STAT ∈ l) (hflag : .MON_FLAG ∈ l) (w : Word) :
    Own l z (s.unlockTry w) := by
  have hused : Own l z { s with mo := { s.mo with challenge := none } } := h.of_regs rfl
  have hwrong := fun n => (hused.put hstat Fld.MON_STAT_FAILS n).setFlagI hflag 1 n 0
  refine .ite (((hused.putBit hstat 3 true).put hstat _ _).setFlag hflag 0).fields ?_
  exact Own.of_regs (.ite ((hwrong _).put hstat Fld.MON_STAT_LOCKREM 600) (hwrong _)) rfl

theorem Own.wrXngCtl (h : Own l z s) (hctl : .XNG_CTL ∈ l) (htake : .XNG_TAKE ∈ l) (hflag : .XNG_FLAG ∈ l) (w : Word) :
    Own l z (s.wrXngCtl w) := by
  have hset := (h.writeRw hctl w).setFlag hflag 1
  exact .ite h (.ite hset (hset.fields.clearFlags htake _))

theorem Own.wrXngTake (h : Own l z s) (htake : .XNG_TAKE ∈ l) (w : Word) : Own l z (s.wrXngTake w) :=
  h.fields.clearFlags htake _

theorem Own.deepDrop (h : Own l z s) (hstat : .PWR_STATUS ∈ l) (hflag : .PWR_FLAG ∈ l) (why : Nat) :
    Own l z (s.deepDrop why) :=
  .ite (((h.putBit hstat 4 false).put hflag _ _).setFlagI hflag 0 why 0) h

theorem Own.sleepRequest (h : Own l z s) (hstat : .PWR_STATUS ∈ l) : Own l z s.sleepRequest :=
  .ite h (.ite h.fields (h.fields.put hstat _ _))

theorem Own.deepRequest (h : Own l z s) (hstat : .PWR_STATUS ∈ l) (hflag : .PWR_FLAG ∈ l) : Own l z s.deepRequest := by
  have hrefuse := fun why => (h.put hflag Fld.PWR_FLAG_WHY why).setFlagI hflag 0 why 0
  exact .ite (hrefuse 1) (.ite (hrefuse 2) (.ite (h.putBit hstat 4 true)
    ((h.fields.putBit hstat 4 false).put hstat _ _)))

theorem Own.wrPwrCtl (h : Own l z s) (hctl : .PWR_CTL ∈ l) (hstat : .PWR_STATUS ∈ l) (hflag : .PWR_FLAG ∈ l) (w : Word) :
    Own l z (s.wrPwrCtl w) := by
  have hw := h.writeRw hctl w
  unfold State.wrPwrCtl
  extract_lets s1
  split
  · exact hw.sleepRequest hstat
  · exact hw.deepRequest hstat hflag
  · exact hw.deepDrop hstat hflag 1
  · exact hw

theorem monBadLine_own (e : MonError) : ∃ u, execMonBadLine e s = .next u ∧ Own [.MON_FLAG] s u := by
  refine ⟨_, rfl, ?_⟩
  have hflag : Own [.MON_FLAG] s ((s.answer 5).setFlag .MON_FLAG 2) := Own.setFlag (Own.refl s).fields (by simp) 2
  split
  next =>
    cases e with
    | badSyntax => exact (Own.refl s).fields
    | overflow | framing => exact hflag
  next => exact .refl s

theorem ul_own (r : Option Word) : ∃ u, execUl r s = .next u ∧ Own [.MON_STAT, .MON_FLAG] s u := by
  refine ⟨_, rfl, (Own.refl s).monCmd (fun _ hless => absurd hless (by omega)) fun s hs => ?_⟩
  cases r with
  | none => exact .ite hs.fields hs.fields
  | some w => exact .ite hs.fields (.ite hs.fields (hs.unlockTry (by simp) (by simp) w))

end Sys2Proof.Machine

/-!
SUPPORT. The frame of the small commands (R7, R259): each changes the registers that Table `ownRegs` names, and registers of
EVT and MEM, alone.
-/

namespace Sys2Proof.Machine

variable {l : List Reg} {s t : State}

/-- A command that answers a state. -/
theorem Own.of_next {u : State} (h : Own l s u) (ht : (Host.Outcome.next u : Host.Outcome State Fault Refusal) = .next t) :
    Own l s t := by
  cases ht
  exact h

/-- A command that answers some state, of which alone the relation is known. -/
theorem Own.of_exists {o : Host.Outcome State Fault Refusal} (h : ∃ u, o = .next u ∧ Own l s u) (ht : o = .next t) :
    Own l s t := by
  obtain ⟨u, hu, hown⟩ := h
  rw [hu] at ht
  exact hown.of_next ht

/-- The rule of each small command. -/
theorem exec_own {c : Instr} (h : ownRegs c = some l) (ht : exec c s = .next t) : Own l s t := by
  have h0 : ∀ l, Own l s s := fun _ => .refl s
  cases c with
  | pntCfgWrite i k v be =>
    obtain rfl := Option.some.inj h
    exact Own.of_next ((h0 _).guardWrite fun s hs => hs.wrPnt List.mem_cons_self
      (fun _ hm => List.mem_cons_of_mem _ (List.mem_append_left _ (List.mem_map_of_mem hm)))
      (fun _ hm => List.mem_cons_of_mem _ (List.mem_append_right _ (List.mem_map_of_mem hm))) _) ht
  | zeroCurrentDetect m =>
    obtain rfl := Option.some.inj h
    exact Own.of_next (Own.ite (((h0 _).put (by simp) _ _).fields) (h0 _)) ht
  | negativeLimit m =>
    obtain rfl := Option.some.inj h
    exact Own.of_next (Own.ite (Own.setFlag ((h0 _).put (by simp) _ _).fields (by simp) 2) (h0 _)) ht
  | testWindowEnd m vsw =>
    obtain rfl := Option.some.inj h
    exact Own.of_exists (testWindowEnd_own m vsw) ht
  | rminReset i e =>
    obtain rfl := Option.some.inj h
    exact Own.of_next ((h0 _).guardWrite fun s hs => Own.ite (hs.put (by simp) _ _) hs) ht
  | lpeShedWrite i e v be =>
    obtain rfl := Option.some.inj h
    exact Own.of_next ((h0 _).guardWrite fun s hs => Own.ite (hs.writeRw (by simp) _) hs) ht
  | loopOpenRequest i k =>
    obtain rfl := Option.some.inj h
    exact Own.of_next ((h0 _).loopReq (by simp) (by simp) (by simp) 1) ht
  | loopCloseRequest i k =>
    obtain rfl := Option.some.inj h
    exact Own.of_next ((h0 _).loopReq (by simp) (by simp) (by simp) 2) ht
  | loopCloseCleared i k =>
    obtain rfl := Option.some.inj h
    exact Own.of_next ((h0 _).loopReq (by simp) (by simp) (by simp) 3) ht
  | lpsOutWrite i k v be =>
    obtain rfl := Option.some.inj h
    exact Own.of_next ((h0 _).guardWrite fun s hs => hs.wrLpsOut (by simp) (by simp) _) ht
  | setpointReached n =>
    obtain rfl := Option.some.inj h
    exact Own.of_exists (setpointReached_own n) ht
  | vsetWrite i n v be =>
    obtain rfl := Option.some.inj h
    exact Own.of_next ((h0 _).guardWrite fun s hs => hs.wrVset List.mem_cons_self
      (fun _ hk => List.mem_cons_of_mem _ (List.mem_map_of_mem hk)) _) ht
  | stepWrite i g j v be =>
    obtain rfl := Option.some.inj h
    exact Own.of_next ((h0 _).guardWrite fun s hs => hs.wrStep (by simp) (by simp) (by simp) _) ht
  | ttbBoutWrite i v be =>
    obtain rfl := Option.some.inj h
    exact Own.of_next ((h0 _).guardWrite fun s hs => Own.ite (hs.writeRw (by simp) _) hs) ht
  | vinBelowVon i =>
    obtain rfl := Option.some.inj h
    exact Own.of_next ((((h0 _).putBit (by simp) 2 false).of_regs State.regs_vinRose).vinSeen) ht
  | dmaEnable i x v be =>
    obtain rfl := Option.some.inj h
    exact Own.of_next ((h0 _).guardWrite fun s hs => hs.wrDmaCfg (by simp) (by simp) (by simp) (by simp) _) ht
  | shipCancel i =>
    obtain rfl := Option.some.inj h
    exact Own.of_next ((h0 _).guardWrite fun s hs => (hs.contact (by simp) i).shipCancelled (by simp)) ht
  | handoverComplete src =>
    obtain rfl := Option.some.inj h
    exact Own.of_exists (handoverComplete_own src) ht
  | sourceReturn =>
    obtain rfl := Option.some.inj h
    exact Own.of_exists (sourceReturn_own) ht
  | openEnd =>
    obtain rfl := Option.some.inj h
    exact Own.of_exists (openEnd_own) ht
  | prechargeEnd =>
    obtain rfl := Option.some.inj h
    exact Own.of_exists (prechargeEnd_own) ht
  | cvEntry =>
    obtain rfl := Option.some.inj h
    exact Own.of_exists (cvEntry_own) ht
  | handbackStart =>
    obtain rfl := Option.some.inj h
    exact Own.of_exists (handbackStart_own) ht
  | buttonChange low =>
    obtain rfl := Option.some.inj h
    exact Own.of_next ((h0 _).fields.putBit (by simp) _ _) ht
  | gauStale =>
    obtain rfl := Option.some.inj h
    exact Own.of_next (Own.ite (((h0 _).putBit (by simp) 6 true).setFlag (by simp) 4) (h0 _)) ht
  | gauCyclesWrite i v be =>
    obtain rfl := Option.some.inj h
    exact Own.of_next ((h0 _).guardWrite fun s hs => Own.ite (hs.wr (by simp) _) (hs.setFlag (by simp) 5)) ht
  | polLockWrite i v be =>
    obtain rfl := Option.some.inj h
    exact Own.of_next ((h0 _).guardWrite fun s hs => hs.plainWrite (by simp) _) ht
  | fltCfgWrite i f v be =>
    obtain rfl := Option.some.inj h
    exact Own.of_next ((h0 _).guardWrite fun s hs => hs.wrFltCfg (by simp) (by simp) _) ht
  | fltTgtWrite i f v be =>
    obtain rfl := Option.some.inj h
    exact Own.of_next ((h0 _).guardWrite fun s hs => hs.wrFltTgt (by simp) (by simp) _) ht
  | fltForceWrite i v be =>
    obtain rfl := Option.some.inj h
    exact Own.of_next ((h0 _).guardWrite fun s hs => hs.wrFltForce (by simp) (by simp) _) ht
  | injectionUnlock i v be =>
    obtain rfl := Option.some.inj h
    exact Own.of_next ((h0 _).guardWrite fun s hs => hs.wrFltInj (by simp) (by simp) (by simp) _) ht
  | go i v be =>
    obtain rfl := Option.some.inj h
    exact Own.of_next ((h0 _).guardWrite fun s hs => hs.wrFltInj (by simp) (by simp) (by simp) _) ht
  | injectionUnlockExpiry =>
    obtain rfl := Option.some.inj h
    exact Own.of_next ((h0 _).putBit (by simp) 8 false) ht
  | otpProgram i v be =>
    obtain rfl := Option.some.inj h
    exact Own.of_next ((h0 _).guardSent fun s hs => hs.wrOtpProg (by simp) (by simp) (by simp) i _) ht
  | lifecycleTransition i v be =>
    obtain rfl := Option.some.inj h
    exact Own.of_next ((h0 _).guardSent fun s hs => hs.wrOtpLc (by simp) (by simp) (by simp) i _) ht
  | taskRegister i n v be =>
    obtain rfl := Option.some.inj h
    exact Own.of_next ((h0 _).guardWrite fun s hs => hs.wrWdgCfg (by simp) (by simp) (by simp) _) ht
  | windowOpen n =>
    obtain rfl := Option.some.inj h
    exact Own.of_next (Own.ite ((h0 _).putBit (by simp) 16 true) (h0 _)) ht
  | wdgWarn n =>
    obtain rfl := Option.some.inj h
    exact Own.of_next (Own.ite ((h0 _).setFlagI (by simp) 1 n 0) (h0 _)) ht
  | wdgCtlWrite i v be =>
    obtain rfl := Option.some.inj h
    exact Own.of_next ((h0 _).guardWrite fun s hs => hs.wrWdgCtl (by simp) (by simp) _) ht
  | rtAWrite i e v be =>
    obtain rfl := Option.some.inj h
    exact Own.of_next ((h0 _).guardWrite fun s hs => hs.wrRtA (by simp) (by simp) _) ht
  | respReceive p f =>
    obtain rfl := Option.some.inj h
    exact Own.of_exists (respReceive_own p f) ht
  | holdover =>
    obtain rfl := Option.some.inj h
    exact Own.of_next (Own.ite ((h0 _).fields.setTim (by simp) (by simp) 4) (h0 _)) ht
  | timeSet i v be =>
    obtain rfl := Option.some.inj h
    exact Own.of_next ((h0 _).guardSent fun s hs => hs.wrSetctl (by simp) i _) ht
  | markReceive p f =>
    obtain rfl := Option.some.inj h
    exact Own.of_exists (markReceive_own p f) ht
  | wakenack =>
    obtain rfl := Option.some.inj h
    exact Own.of_next ((h0 _).wakeNack (by simp)) ht
  | rails lo hi =>
    obtain rfl := Option.some.inj h
    exact Own.of_next ((h0 []).monCmd (fun hm hless => absurd hless (by have := State.lookoutRights_of_monServes hm; omega))
      fun s hs => .ite hs.fields hs.fields) ht
  | flt =>
    obtain rfl := Option.some.inj h
    exact Own.of_next ((h0 []).monCmd (fun hm hless => absurd hless (by have := State.lookoutRights_of_monServes hm; omega))
      fun s hs => hs.fields) ht
  | id =>
    obtain rfl := Option.some.inj h
    exact Own.of_next (Own.ite (h0 []).fields (h0 [])) ht
  | lk =>
    obtain rfl := Option.some.inj h
    exact Own.of_next ((h0 _).monCmd (fun _ hless => absurd hless (by omega)) fun s hs => Own.fields (hs.putBit (by simp) 3 false)) ht
  | unlockIdleExpiry =>
    obtain rfl := Option.some.inj h
    exact Own.of_next ((h0 _).putBit (by simp) 3 false) ht
  | lockoutEnd =>
    obtain rfl := Option.some.inj h
    exact Own.of_next (Own.ite (h0 _) (((h0 _).put (by simp) _ _).put (by simp) _ _)) ht
  | ul r =>
    obtain rfl := Option.some.inj h
    exact Own.of_exists (ul_own r) ht
  | baud b =>
    obtain rfl := Option.some.inj h
    exact Own.of_next ((h0 _).monCmd (fun _ hless => absurd hless (by omega)) fun s hs =>
      .ite hs.fields (Own.fields (hs.setBaud (by simp) b))) ht
  | baudrev =>
    obtain rfl := Option.some.inj h
    exact Own.of_next (Own.ite (((h0 _).fields.put (by simp) _ _).setFlag (by simp) 4) (h0 _)) ht
  | monBadLine e =>
    obtain rfl := Option.some.inj h
    exact Own.of_exists (monBadLine_own e) ht
  | monCfgWrite i v be =>
    obtain rfl := Option.some.inj h
    exact Own.of_next ((h0 _).guardWrite fun s hs => hs.wrMonCfg (by simp) i _) ht
  | legacyWrite i v be =>
    obtain rfl := Option.some.inj h
    exact Own.of_next ((h0 _).guardWrite fun s hs => hs.wrXngCtl (by simp) (by simp) (by simp) _) ht
  | takeRelease i v be =>
    obtain rfl := Option.some.inj h
    exact Own.of_next ((h0 _).guardWrite fun s hs => hs.wrXngTake (by simp) _) ht
  | groupCapture g =>
    obtain rfl := Option.some.inj h
    exact Own.of_next (Own.ite (((h0 _).fields.addSat (by simp) _ _).setFlagI (by simp) _ _ _) (h0 _)) ht
  | sleepRequest i v be =>
    obtain rfl := Option.some.inj h
    exact Own.of_next ((h0 _).guardWrite fun s hs => hs.wrPwrCtl (by simp) (by simp) (by simp) _) ht
  | deepHoldTimeout =>
    obtain rfl := Option.some.inj h
    exact Own.of_next ((h0 _).deepDrop (by simp) (by simp) 3) ht
  | _ => cases h

/-- Settles O51: the rule of the command, read at one register. -/
theorem ownRegisters : Obligations.OwnRegisters := by
  unfold Obligations.OwnRegisters
  intro c r l s t h ht hr he hm
  exact (exec_own h ht).rd r hr he hm

end Sys2Proof.Machine

/-!
SUPPORT. What a field or bit of a register reads after a write of a field, of a bit or of a flag: the same field, another
field, another register.
-/

namespace Sys2Proof.Machine

variable {s t : State} {r q : Reg}

theorem State.fld_put (r : Reg) {f : Field} (v : Nat) (hf : f.ok = true) : (s.put r f v).fld r f = v % 2 ^ f.width := by
  rw [State.fld, State.rd_put, if_pos rfl, getF_putF _ _ _ hf]

theorem State.fld_put_field (r : Reg) {f g : Field} (v : Nat) (hf : f.ok = true) (hg : g.hi < f.lo ∨ f.hi < g.lo) :
    (s.put r f v).fld r g = s.fld r g := by
  rw [State.fld, State.rd_put, if_pos rfl, getF_putF_other _ _ _ _ hf hg]
  rfl

theorem State.fld_wr_reg (w : Word) (h : q ≠ r) (g : Field) : (s.wr r w).fld q g = s.fld q g := by
  rw [State.fld, State.rd_wr, if_neg h]
  rfl

theorem State.bit_wr_reg (w : Word) (h : q ≠ r) (b : Nat) : (s.wr r w).bit q b = s.bit q b := by
  rw [State.bit, State.rd_wr, if_neg h]
  rfl

theorem State.fld_put_reg (f : Field) (v : Nat) (h : q ≠ r) (g : Field) : (s.put r f v).fld q g = s.fld q g :=
  State.fld_wr_reg _ h g

theorem State.bit_put_reg (f : Field) (v : Nat) (h : q ≠ r) (b : Nat) : (s.put r f v).bit q b = s.bit q b :=
  State.bit_wr_reg _ h b

theorem State.bit_put_field (r : Reg) {f : Field} (v : Nat) {b : Nat} (hf : f.ok = true) (hb : b < f.lo ∨ f.hi < b) :
    (s.put r f v).bit r b = s.bit r b := by
  rw [State.bit, State.rd_put, if_pos rfl, wbit_putF_other _ _ _ _ hf hb]
  rfl

theorem State.fld_putBit_reg (b : Nat) (v : Bool) (h : q ≠ r) (g : Field) : (s.putBit r b v).fld q g = s.fld q g :=
  State.fld_wr_reg _ h g

theorem State.bit_putBit_reg (b : Nat) (v : Bool) (h : q ≠ r) (j : Nat) : (s.putBit r b v).bit q j = s.bit q j :=
  State.bit_wr_reg _ h j

theorem State.fld_putBit_field (r : Reg) {b : Nat} (v : Bool) {g : Field} (hb : b < 32) (hg : b < g.lo ∨ g.hi < b) :
    (s.putBit r b v).fld r g = s.fld r g := by
  rw [State.fld, State.rd_putBit, if_pos rfl, getF_wputBit_other _ _ _ _ hb hg]
  rfl

theorem State.bit_putBit_bit (r : Reg) {b j : Nat} (v : Bool) (hb : b < 32) (hj : j ≠ b) :
    (s.putBit r b v).bit r j = s.bit r j := by
  rw [State.bit_putBit_eq r v hb, if_neg hj]

theorem State.fld_addSat_reg (f : Field) (n : Nat) (h : q ≠ r) (g : Field) : (s.addSat r f n).fld q g = s.fld q g :=
  State.fld_wr_reg _ h g

theorem State.bit_addSat_reg (f : Field) (n : Nat) (h : q ≠ r) (b : Nat) : (s.addSat r f n).bit q b = s.bit q b :=
  State.bit_wr_reg _ h b

theorem State.rd_addSat_reg (f : Field) (n : Nat) (h : q ≠ r) : (s.addSat r f n).rd q = s.rd q := by
  rw [State.addSat, State.rd_put, if_neg h]

/-! ### Flags -/

theorem State.rd_setFlagI_reg {b : Nat} (info code : Nat) (hb : b < 32) (hq : q.sensed = false) (h : q ≠ r) :
    (s.setFlagI r b info code).rd q = s.rd q := by
  rw [State.rd_setFlagI_any info code hb hq, if_neg h]

theorem State.fld_setFlagI_reg {b : Nat} (info code : Nat) (hb : b < 32) (hq : q.sensed = false) (h : q ≠ r) (g : Field) :
    (s.setFlagI r b info code).fld q g = s.fld q g :=
  State.fld_congr (State.rd_setFlagI_reg info code hb hq h) g

theorem State.bit_setFlagI_reg {b : Nat} (info code : Nat) (hb : b < 32) (hq : q.sensed = false) (h : q ≠ r) (j : Nat) :
    (s.setFlagI r b info code).bit q j = s.bit q j :=
  State.bit_congr (State.rd_setFlagI_reg info code hb hq h) j

theorem State.fld_setFlagI_field {b : Nat} (info code : Nat) {g : Field} (hb : b < 32) (hr : r.sensed = false)
    (hg : b < g.lo ∨ g.hi < b) : (s.setFlagI r b info code).fld r g = s.fld r g := by
  rw [State.fld, State.rd_setFlagI_any info code hb hr, if_pos rfl, getF_wputBit_other _ _ _ _ hb hg]
  rfl

theorem State.bit_setFlagI_eq {b : Nat} (info code : Nat) (hb : b < 32) (hr : r.sensed = false) (j : Nat) :
    (s.setFlagI r b info code).bit r j = (s.bit r j || decide (j = b)) := by
  rw [State.bit, State.rd_setFlagI_any info code hb hr, if_pos rfl, wbit, wputBit_getLsbD _ _ _ _ hb]
  by_cases h : j = b <;> simp [h, State.bit, wbit]

end Sys2Proof.Machine

/-!
SUPPORT. Controller transfers of the two-wire bus (R409 to R411): their begin, their end and a lost arbitration.
-/

namespace Sys2Proof.Machine

variable {s : State}

@[simp] theorem length_bytesOfWords (l : List Word) : (bytesOfWords l).length = 4 * l.length := by
  induction l with
  | nil => rfl
  | cons w l ih =>
    rw [bytesOfWords, List.flatMap_cons, List.length_append, ← bytesOfWords, ih, List.length_cons]
    simp only [List.length_cons, List.length_nil]
    omega

theorem State.length_readArea (n : Nat) : ∀ (a : Nat) (s : State), (s.readArea a n).1.length = n := by
  induction n with
  | zero => exact fun _ _ => rfl
  | succ n ih => exact fun a s => congrArg (· + 1) (ih _ _)

/-- The transfer that TWB_CXCFG and TWB_CXBUF name is one that the controller does not make (R409). -/
def State.cxIllegal (s : State) : Prop :=
  s.tb.cx.isSome = true ∨ 32 < getF (s.rd .TWB_CXCFG) Fld.TWB_CXCFG_WLEN ∨ 32 < getF (s.rd .TWB_CXCFG) Fld.TWB_CXCFG_RLEN ∨
    (getF (s.rd .TWB_CXCFG) Fld.TWB_CXCFG_WLEN = 0 ∧ getF (s.rd .TWB_CXCFG) Fld.TWB_CXCFG_RLEN = 0) ∨
    getF (s.rd .TWB_CXCFG) Fld.TWB_CXCFG_TADDR = s.twbAddr ∨ s.badSource (s.rd .TWB_CXBUF).toNat 64 = true

theorem exec_cxgo {i : Iface} {v : Word} (h : s.takes .TWB_CXGO = true) :
    exec (.cxgo i v 0xF#4) s = .next (s.wrCxgo v) :=
  congrArg Host.Outcome.next (State.guardSent_whole (k := fun w s => s.wrCxgo w) h (by decide))

theorem State.wrCxgo_illegal {w : Word} (hw : wbit w 31 = true) (h : s.cxIllegal) :
    s.wrCxgo w = s.put .TWB_CXSTAT Fld.TWB_CXSTAT_RESULT 6 := by
  unfold State.wrCxgo
  rw [if_neg (by simp [hw]), if_pos (by simpa [State.cxIllegal, or_assoc] using h)]

/-- The state in which a legal transfer runs. -/
def State.cxBegun (s : State) : State :=
  let c := s.rd .TWB_CXCFG
  let buf := (s.rd .TWB_CXBUF).toNat
  let wl := getF c Fld.TWB_CXCFG_WLEN
  let r := s.readArea buf ((wl + 3) / 4)
  { r.2 with tb := { r.2.tb with cx := some { cfg := c, buf := buf, send := (bytesOfWords r.1).take wl } } }

theorem State.wrCxgo_legal {w : Word} (hw : wbit w 31 = true) (h : ¬ s.cxIllegal) : s.wrCxgo w =
    ((s.cxBegun.putBit .TWB_STATUS 2 true).putBit .TWB_STATUS 1 true).put .TWB_CXSTAT Fld.TWB_CXSTAT_TRIES 0 := by
  unfold State.wrCxgo
  rw [if_neg (by simp [hw]), if_neg (by simpa [State.cxIllegal, or_assoc] using h)]
  rfl

theorem State.cx_cxBegun : ∃ c, s.cxBegun.tb.cx = some c ∧ c.cfg = s.rd .TWB_CXCFG ∧ c.buf = (s.rd .TWB_CXBUF).toNat ∧
    c.send.length = getF (s.rd .TWB_CXCFG) Fld.TWB_CXCFG_WLEN := by
  refine ⟨_, rfl, rfl, rfl, ?_⟩
  rw [List.length_take, length_bytesOfWords, State.length_readArea]
  omega

/-! ### The end of a transfer -/

theorem State.cxEnd_shows (res done : Nat) : (s.cxEnd res done).tb.cx = none ∧
    (s.cxEnd res done).fld .TWB_CXSTAT Fld.TWB_CXSTAT_RESULT = res % 16 ∧
    (s.cxEnd res done).fld .TWB_CXSTAT Fld.TWB_CXSTAT_DONE = done % 64 ∧
    (s.cxEnd res done).bit .TWB_STATUS 2 = false ∧ (s.cxEnd res done).bit .TWB_STATUS 1 = false ∧
    (s.cxEnd res done).bit .TWB_FLAG 4 = true := by
  unfold State.cxEnd
  extract_lets s1 s2
  refine ⟨?_, ?_, ?_, ?_, ?_, State.bit_setFlagI_any _ _ (by decide) rfl⟩
  · rw [(State.setFlagI_eventsOnly ..).tb]
    rfl
  · rw [State.fld_setFlagI_reg _ _ (by decide) rfl (by decide), State.fld_put_field _ _ (by decide) (by decide),
      State.fld_put _ _ (by decide)]
    rfl
  · rw [State.fld_setFlagI_reg _ _ (by decide) rfl (by decide), State.fld_put _ _ (by decide)]
    rfl
  · rw [State.bit_setFlagI_reg _ _ (by decide) rfl (by decide), State.bit_put_reg _ _ (by decide),
      State.bit_put_reg _ _ (by decide), State.bit_putBit_bit _ _ (by decide) (by decide), State.bit_putBit _ _ (by decide)]
  · rw [State.bit_setFlagI_reg _ _ (by decide) rfl (by decide), State.bit_put_reg _ _ (by decide),
      State.bit_put_reg _ _ (by decide), State.bit_putBit _ _ (by decide)]

/-- A SLEEP request that waited changes the mode and PWR_STATUS alone. -/
theorem State.cxFinish_eq (res done : Nat) : (s.cxFinish res done).tb = (s.cxEnd res done).tb ∧
    ∀ q, q ≠ .PWR_STATUS → (s.cxFinish res done).rd q = (s.cxEnd res done).rd q := by
  unfold State.cxFinish
  extract_lets s1
  split
  · refine ⟨rfl, fun q hq => ?_⟩
    rw [State.sleepNow, State.rd_put, if_neg hq]
    rfl
  · exact ⟨rfl, fun _ _ => rfl⟩

theorem State.cxFinish_shows (res done : Nat) : (s.cxFinish res done).tb.cx = none ∧
    (s.cxFinish res done).fld .TWB_CXSTAT Fld.TWB_CXSTAT_RESULT = res % 16 ∧
    (s.cxFinish res done).fld .TWB_CXSTAT Fld.TWB_CXSTAT_DONE = done % 64 ∧
    (s.cxFinish res done).bit .TWB_STATUS 2 = false ∧ (s.cxFinish res done).bit .TWB_STATUS 1 = false ∧
    ∀ b, (s.cxFinish res done).bit .TWB_FLAG b = (s.cxEnd res done).bit .TWB_FLAG b := by
  obtain ⟨hcx, hres, hdone, h2, h1, -⟩ := State.cxEnd_shows (s := s) res done
  obtain ⟨htb, hrd⟩ := State.cxFinish_eq (s := s) res done
  refine ⟨by rw [htb, hcx], ?_, ?_, ?_, ?_, fun b => State.bit_congr (hrd _ (by decide)) b⟩
  · rw [State.fld_congr (hrd _ (by decide)), hres]
  · rw [State.fld_congr (hrd _ (by decide)), hdone]
  · rw [State.bit_congr (hrd _ (by decide)), h2]
  · rw [State.bit_congr (hrd _ (by decide)), h1]

theorem exec_cxdone {c : CxRun} (r : CxOutcome) (h : s.tb.cx = some c) : exec (.cxdone r) s =
    .next ((s.storeArea (c.buf + 32) 8 (r.data.take (getF c.cfg Fld.TWB_CXCFG_RLEN))).cxFinish (cxCode r.res)
      ((if r.res = .ok then c.send.length else min r.wrote c.send.length) +
        (r.data.take (getF c.cfg Fld.TWB_CXCFG_RLEN)).length)) := by
  simp only [exec, execCxdone, h]

theorem exec_arbitrationLost {c : CxRun} (h : s.tb.cx = some c) : exec .arbitrationLost s =
    .next (if s.fld .TWB_CXSTAT Fld.TWB_CXSTAT_TRIES < getF c.cfg Fld.TWB_CXCFG_RETRY then
        s.addSat .TWB_CXSTAT Fld.TWB_CXSTAT_TRIES 1
      else ((s.addSat .TWB_CXSTAT Fld.TWB_CXSTAT_TRIES 1).draw.2.setFlag .TWB_FLAG 5).cxFinish 4
        ((s.addSat .TWB_CXSTAT Fld.TWB_CXSTAT_TRIES 1).draw.1.toNat % (c.send.length + getF c.cfg Fld.TWB_CXCFG_RLEN))) := by
  simp only [exec, execArbitrationLost, h]

/-- Settles O37: each clause is the lemma of its command's outcome. -/
theorem twoWireController : Obligations.TwoWireController := by
  unfold Obligations.TwoWireController
  refine ⟨?begins, ?refused, ?ends, ?lost⟩
  case begins =>
    intro i v s ht hv hlegal
    obtain ⟨c, hc, hcfg, hbuf, hsend⟩ := State.cx_cxBegun (s := s)
    refine ⟨_, (exec_cxgo ht).trans (congrArg _ (State.wrCxgo_legal hv hlegal)), ?_⟩
    have htb : ∀ u : State, (((u.putBit .TWB_STATUS 2 true).putBit .TWB_STATUS 1 true).put .TWB_CXSTAT
        Fld.TWB_CXSTAT_TRIES 0).tb = u.tb := fun _ => rfl
    rw [htb, hc]
    refine ⟨congrArg some hcfg, congrArg some hbuf, congrArg some hsend, ?_, ?_⟩
    · rw [State.bit_put_reg _ _ (by decide), State.bit_putBit_bit _ _ (by decide) (by decide),
        State.bit_putBit _ _ (by decide)]
    · rw [State.bit_put_reg _ _ (by decide), State.bit_putBit _ _ (by decide)]
  case refused =>
    intro i v s ht hv hillegal
    rw [exec_cxgo ht, State.wrCxgo_illegal hv hillegal]
  case ends =>
    intro r c s hc
    refine ⟨_, exec_cxdone r hc, ?_⟩
    obtain ⟨hcx, hres, hdone, h2, h1, hflag⟩ := State.cxFinish_shows
      (s := s.storeArea (c.buf + 32) 8 (r.data.take (getF c.cfg Fld.TWB_CXCFG_RLEN))) (cxCode r.res)
      ((if r.res = .ok then c.send.length else min r.wrote c.send.length) +
        (r.data.take (getF c.cfg Fld.TWB_CXCFG_RLEN)).length)
    refine ⟨hcx, hres.trans ?_, hdone.trans (by rw [List.length_take]), h2, h1, ?_⟩
    · cases r.res <;> rfl
    · obtain ⟨-, -, -, -, -, hflag4⟩ := State.cxEnd_shows
        (s := s.storeArea (c.buf + 32) 8 (r.data.take (getF c.cfg Fld.TWB_CXCFG_RLEN))) (cxCode r.res)
        ((if r.res = .ok then c.send.length else min r.wrote c.send.length) +
          (r.data.take (getF c.cfg Fld.TWB_CXCFG_RLEN)).length)
      exact (hflag 4).trans hflag4
  case lost =>
    intro c s hc
    refine ⟨_, exec_arbitrationLost hc, ?_⟩
    split
    next hretry =>
      have hlt := getF_lt c.cfg Fld.TWB_CXCFG_RETRY
      refine ⟨rfl, ?_⟩
      rw [State.fld_addSat _ _ _ (by decide)]
      simp only [Field.width] at hlt ⊢
      omega
    next =>
      obtain ⟨hcx, hres, -, -, -, hflag⟩ := State.cxFinish_shows
        (s := (s.addSat .TWB_CXSTAT Fld.TWB_CXSTAT_TRIES 1).draw.2.setFlag .TWB_FLAG 5) 4
        ((s.addSat .TWB_CXSTAT Fld.TWB_CXSTAT_TRIES 1).draw.1.toNat % (c.send.length + getF c.cfg Fld.TWB_CXCFG_RLEN))
      refine ⟨hcx, hres, (hflag 5).trans ?_⟩
      unfold State.cxEnd
      extract_lets s1 s2
      rw [State.bit_setFlagI_eq _ _ (by decide) rfl, State.bit_put_reg _ _ (by decide), State.bit_put_reg _ _ (by decide),
        State.bit_putBit_reg _ _ (by decide), State.bit_putBit_reg _ _ (by decide)]
      exact Bool.or_eq_true_iff.2 (.inl (State.bit_setFlagI_any _ _ (by decide) rfl))

end Sys2Proof.Machine

/-!
SUPPORT. Tokens of the watchdog: what an expiry records and leaves alone, and what each check of a token does (R340, R341,
R343).
-/

namespace Sys2Proof.Machine

variable {s t : State}

/-! ### What a shutdown leaves of the state beyond -/

@[simp] theorem State.beyond_holdRequest (g : Nat) (on : Bool) : (s.holdRequest g on).beyond = s.beyond := rfl

theorem State.beyond_hostGroup_off (g : Nat) : (s.hostGroup g false).beyond = s.beyond := by
  unfold State.hostGroup
  rw [if_neg (by simp)]
  split <;> simp

@[simp] theorem State.beyond_allOff : s.allOff.beyond = s.beyond :=
  (State.each_beyond _ fun _ _ => State.beyond_railOff ..).trans
    (State.each_beyond _ fun g _ => State.beyond_hostGroup_off g)

@[simp] theorem State.beyond_gatesDown : s.gatesDown.beyond = s.beyond := State.each_beyond _ fun _ _ => rfl

theorem State.wd_of_beyond (h : t.beyond = s.beyond) : t.wd = s.wd := by
  change t.beyond.wd = s.beyond.wd
  rw [h]

/-! ### An expiry -/

/-- An expiry with its task, its kind and its moment recorded. -/
def State.expiryNoted (s : State) (t kind : Nat) (more : Bool) : State :=
  let n := s.now
  let w := putF (putF (putF (putF (s.rd .WDG_LAST) Fld.WDG_LAST_TASK t) Fld.WDG_LAST_KIND kind) Fld.WDG_LAST_MORE (b2n more))
    Fld.WDG_LAST_LOCAL (b2n n.isLocal)
  (((s.wr .WDG_LAST (wputBit w 31 true)).addSat .WDG_LAST Fld.WDG_LAST_COUNT 1).wr .WDG_LASTT_LO (timeLo n.time)).wr
    .WDG_LASTT_HI (timeHi n.time)

/-- What runs is abandoned, and the watchdog has expired. -/
def State.expiryBegun (s : State) : State :=
  let s2 := s.ledgerAbandon.cxAbort.deepAbandon
  { s2 with wd := { expired := true, draining := s2.bit .WDG_CTL 31 } }

/-- The shutdown: everything is ramped down, or the gates go off at once. -/
def State.expiryDown (s : State) : State :=
  if s.wd.draining then
    each (allRails.filter fun n => s.allOff.railSt n == rOffDelay) (fun n s => s.rampDown n) s.allOff
  else s.gatesDown

theorem State.expire_eq {n k : Nat} {m : Bool} (h : s.wd.expired = false) :
    s.expire n k m = (s.expiryNoted n k m).expiryBegun.expiryDown := by
  unfold State.expire
  rw [if_neg (by simp [h])]
  rfl

theorem State.expire_of_expired {n k : Nat} {m : Bool} (h : s.wd.expired = true) : s.expire n k m = s := if_pos h

theorem State.wd_expiryDown : s.expiryDown.wd = s.wd := by
  refine State.wd_of_beyond ?_
  unfold State.expiryDown
  split
  · exact (State.each_beyond _ fun n _ => State.beyond_rampDown n).trans State.beyond_allOff
  · exact State.beyond_gatesDown

/-- Only the watchdog's own block is promised to stay. -/
def offWdg (b : Block) : Prop := b ≠ .wdg

theorem State.expiryBegun_keeps : Keeps offWdg True s s.expiryBegun :=
  keeps_mk (State.deepAbandon_keeps (State.cxAbort_keeps (State.ledgerAbandon_keeps (Keeps.refl s) (by simp [offWdg]))
    (by simp [offWdg]) (by simp [offWdg]) (by simp [offWdg]) trivial) (by simp [offWdg])) rfl rfl

theorem State.expiryDown_keeps : Keeps offWdg True s s.expiryDown := by
  have hall : Keeps offWdg True s s.allOff := by
    apply State.allOff_keeps (Keeps.refl s) <;> simp [offWdg]
  unfold State.expiryDown
  split
  · refine each_keeps hall fun n s h => ?_
    apply State.rampDown_keeps h <;> simp [offWdg]
  · exact State.gatesDown_keeps (Keeps.refl s) (by simp [offWdg])

/-- The shutdown of an expiry touches no register of the watchdog. -/
theorem State.rd_expire {n k : Nat} {m : Bool} {r : Reg} (h : s.wd.expired = false) (hr : r.block = .wdg) :
    (s.expire n k m).rd r = (s.expiryNoted n k m).rd r := by
  rw [State.expire_eq h]
  exact ((State.expiryBegun_keeps.trans State.expiryDown_keeps).regs r (by simp [offWdg, hr]))

theorem State.expired_expire {n k : Nat} {m : Bool} : (s.expire n k m).wd.expired = true := by
  by_cases h : s.wd.expired = true
  · rw [State.expire_of_expired h, h]
  · rw [State.expire_eq (by simpa using h), State.wd_expiryDown]
    rfl

/-- The watchdog's registers beside those of the last expiry stay. -/
theorem State.rd_expire_other {n k : Nat} {m : Bool} {r : Reg} (hr : r.block = .wdg) (hlast : r ≠ .WDG_LAST)
    (hlo : r ≠ .WDG_LASTT_LO) (hhi : r ≠ .WDG_LASTT_HI) : (s.expire n k m).rd r = s.rd r := by
  by_cases h : s.wd.expired = true
  · rw [State.expire_of_expired h]
  · rw [State.rd_expire (by simpa using h) hr, State.expiryNoted, State.rd_wr, if_neg hhi, State.rd_wr, if_neg hlo,
      State.rd_addSat_reg _ _ hlast, State.rd_wr, if_neg hlast]

/-- What WDG_LAST shows after an expiry. -/
structure Expired (s t : State) (n k : Nat) : Prop where
  expired : t.wd.expired = true
  task : t.fld .WDG_LAST Fld.WDG_LAST_TASK = n
  valid : t.bit .WDG_LAST 31 = true
  count : t.fld .WDG_LAST Fld.WDG_LAST_COUNT = min 255 (s.fld .WDG_LAST Fld.WDG_LAST_COUNT + 1)
  kind : t.fld .WDG_LAST Fld.WDG_LAST_KIND = k

theorem State.expire_shows {n k : Nat} {m : Bool} (h : s.wd.expired = false) (hn : n < 8) (hk : k < 8) :
    Expired s (s.expire n k m) n k := by
  have hlast : (s.expire n k m).rd .WDG_LAST = (s.expiryNoted n k m).rd .WDG_LAST := State.rd_expire h rfl
  refine ⟨State.expired_expire, (State.fld_congr hlast _).trans ?task, (State.bit_congr hlast _).trans ?valid,
    (State.fld_congr hlast _).trans ?count, (State.fld_congr hlast _).trans ?kind⟩
  all_goals
    unfold State.expiryNoted
    dsimp only
  case task =>
    rw [State.fld_wr_reg _ (by decide), State.fld_wr_reg _ (by decide)]
    unfold State.addSat
    rw [State.fld_put_field _ _ (by decide) (by decide), State.fld, State.rd_wr, if_pos rfl,
      getF_wputBit_other _ _ _ _ (by decide) (by decide), getF_putF_other _ _ _ _ (by decide) (by decide),
      getF_putF_other _ _ _ _ (by decide) (by decide), getF_putF_other _ _ _ _ (by decide) (by decide),
      getF_putF _ _ _ (by decide)]
    exact Nat.mod_eq_of_lt hn
  case valid =>
    rw [State.bit_wr_reg _ (by decide), State.bit_wr_reg _ (by decide)]
    unfold State.addSat
    rw [State.bit_put_field _ _ (by decide) (by decide), State.bit, State.rd_wr, if_pos rfl, wbit_wputBit _ _ _ (by decide)]
  case count =>
    rw [State.fld_wr_reg _ (by decide), State.fld_wr_reg _ (by decide), State.fld_addSat _ _ _ (by decide), State.fld,
      State.rd_wr, if_pos rfl, getF_wputBit_other _ _ _ _ (by decide) (by decide),
      getF_putF_other _ _ _ _ (by decide) (by decide), getF_putF_other _ _ _ _ (by decide) (by decide),
      getF_putF_other _ _ _ _ (by decide) (by decide), getF_putF_other _ _ _ _ (by decide) (by decide)]
    rfl
  case kind =>
    rw [State.fld_wr_reg _ (by decide), State.fld_wr_reg _ (by decide)]
    unfold State.addSat
    rw [State.fld_put_field _ _ (by decide) (by decide), State.fld, State.rd_wr, if_pos rfl,
      getF_wputBit_other _ _ _ _ (by decide) (by decide), getF_putF_other _ _ _ _ (by decide) (by decide),
      getF_putF_other _ _ _ _ (by decide) (by decide), getF_putF _ _ _ (by decide)]
    exact Nat.mod_eq_of_lt hk

end Sys2Proof.Machine

/-!
SUPPORT. A write of WDG_TOKEN at a moment of its own: the checks in their order, and what each outcome shows (R340, R341).
-/

namespace Sys2Proof.Machine

variable {s t : State}

/-! ### The write and its one failure -/

theorem exec_token {i : Iface} {v : Word} {e : Option EdgeDecision} (h : s.takes .WDG_TOKEN = true) :
    exec (.token i v 0xF#4 ⟨e, 0#8⟩) s = .next (s.wrToken i v e 0#8) := by
  refine congrArg Host.Outcome.next ?_
  rw [State.guardSent_whole (k := fun w s => s.wrToken i w e 0#8) h (by decide)]

theorem State.expired_of_takes {r : Reg} (h : s.takes r = true) : s.wd.expired = false := by
  simp only [State.takes, State.accepts, Bool.and_eq_true, Bool.not_eq_true'] at h
  exact h.1.1.1.2

/-- One failure of a moment is an expiry of its task. -/
theorem State.fails_single {n k : Nat} (hn : n < 8) : s.fails [(n, k)] = s.expire n k false := by
  have hone : allTasks.filterMap (fun j => [(n, k)].find? fun e => e.1 == j) = [(n, k)] := by
    interval_cases n <;> rfl
  rw [State.fails, hone]
  rfl

/-- A token at a moment at which no other task's period ends: its own failure, if it has one, is the expiry. -/
theorem State.wrToken_alone (i : Iface) (w : Word) (e : Option EdgeDecision) :
    s.wrToken i w e 0#8 = match (s.judgeToken i w e).2 with
      | some k => (s.judgeToken i w e).1.expire (getF w Fld.WDG_TOKEN_TASK) k false
      | none => (s.judgeToken i w e).1 := by
  have hdue : (s.judgeToken i w e).1.periodsDue 0#8 = [] := by simp [State.periodsDue]
  unfold State.wrToken
  dsimp only
  rw [hdue]
  cases (s.judgeToken i w e).2 with
  | some k => exact State.fails_single (getF_lt w Fld.WDG_TOKEN_TASK)
  | none => rfl

/-! ### The checks -/

section

variable {i : Iface} {w : Word} {n : Nat} {e : Option EdgeDecision} (hn : n = getF w Fld.WDG_TOKEN_TASK)
include hn

theorem State.judgeToken_notOwner (h : s.wdgReg n = false ∨ ownerIs (s.fld (.WDG_T_CFG n) Fld.WDG_T_CFG_OWNER) i = false) :
    s.judgeToken i w e = (s.setFlagI .WDG_FLAG 3 (ifaceNum i) 0, none) := by
  subst hn
  exact if_pos (by rcases h with h | h <;> simp [h])

variable (hreg : s.wdgReg n = true) (howner : ownerIs (s.fld (.WDG_T_CFG n) Fld.WDG_T_CFG_OWNER) i = true)
include hreg howner

theorem State.judgeToken_wrong (hv : getF w Fld.WDG_TOKEN_TOKEN ≠ s.fld (.WDG_T_STAT n) Fld.WDG_T_STAT_NEXT) :
    s.judgeToken i w e = (s, some kBadToken) := by
  subst hn
  unfold State.judgeToken
  rw [if_neg (by simp [hreg, howner]), if_pos hv]

theorem State.judgeToken_edge {d : EdgeDecision}
    (hv : getF w Fld.WDG_TOKEN_TOKEN = s.fld (.WDG_T_STAT n) Fld.WDG_T_STAT_NEXT) :
    s.judgeToken i w (some d) = s.tokenEdge n d := by
  subst hn
  unfold State.judgeToken
  rw [if_neg (by simp [hreg, howner]), if_neg (by simp [hv])]

theorem State.judgeToken_none (hv : getF w Fld.WDG_TOKEN_TOKEN = s.fld (.WDG_T_STAT n) Fld.WDG_T_STAT_NEXT) :
    s.judgeToken i w none = if s.inWindow n then s.tokenIn n else (s, some kEarly) := by
  subst hn
  unfold State.judgeToken
  rw [if_neg (by simp [hreg, howner]), if_neg (by simp [hv])]

end

/-! ### Acceptance and periods -/

theorem State.tokenIn_double {n : Nat} (h : s.tokened n = true) : s.tokenIn n = (s, some kDouble) := if_pos h

theorem State.tokenIn_accepted {n : Nat} (h : s.tokened n = false) : s.tokenIn n =
    ((s.putBit (.WDG_T_STAT n) 17 true).put (.WDG_T_STAT n) Fld.WDG_T_STAT_NEXT
      (s.fld (.WDG_T_STAT n) Fld.WDG_T_STAT_NEXT + 0x35), none) := if_neg (by simp [h])

theorem State.rd_tokenIn_other {n : Nat} {r : Reg} (h : r ≠ .WDG_T_STAT n) : (s.tokenIn n).1.rd r = s.rd r := by
  unfold State.tokenIn
  split
  · rfl
  · rw [State.rd_put, if_neg h, State.rd_putBit, if_neg h]

theorem State.rd_periodStart_other {n : Nat} {r : Reg} (h : r ≠ .WDG_T_STAT n) : (s.periodStart n).rd r = s.rd r := by
  unfold State.periodStart
  dsimp only
  rw [State.rd_putBit, if_neg h, State.rd_put, if_neg h, State.rd_putBit, if_neg h]

theorem State.tokened_accepted {n : Nat} (h : s.tokened n = false) : (s.tokenIn n).1.tokened n = true := by
  rw [State.tokenIn_accepted h, State.tokened, State.bit_put_field _ _ (by decide) (by decide),
    State.bit_putBit_eq _ _ (by decide), if_pos rfl]

theorem State.next_accepted {n : Nat} (h : s.tokened n = false) : (s.tokenIn n).1.fld (.WDG_T_STAT n) Fld.WDG_T_STAT_NEXT =
    (s.fld (.WDG_T_STAT n) Fld.WDG_T_STAT_NEXT + 0x35) % 256 := by
  rw [State.tokenIn_accepted h, State.fld_put _ _ (by decide)]
  rfl

theorem State.inWindow_accepted {n : Nat} (h : s.tokened n = false) : (s.tokenIn n).1.inWindow n = s.inWindow n := by
  rw [State.tokenIn_accepted h, State.inWindow, State.bit_put_field _ _ (by decide) (by decide),
    State.bit_putBit_bit _ _ (by decide) (by decide)]
  rfl

theorem State.wd_accepted {n : Nat} (h : s.tokened n = false) : (s.tokenIn n).1.wd = s.wd := by
  rw [State.tokenIn_accepted h]
  rfl

/-! ### Edges -/

variable {n : Nat} {d : EdgeDecision}

theorem State.rd_edgeReport_other {r : Reg} (hq : r.sensed = false) (hflag : r ≠ .WDG_FLAG) (hedge : r ≠ .WDG_EDGE) :
    (s.edgeReport n d).rd r = s.rd r := by
  unfold State.edgeReport
  dsimp only
  rw [State.rd_setFlagI_reg _ _ (by decide) hq hflag, State.rd_addSat_reg _ _ hedge, State.rd_wr, if_neg hedge]

theorem State.wd_edgeReport : (s.edgeReport n d).wd = s.wd := (State.setFlagI_eventsOnly ..).wd

theorem State.flag_edgeReport : (s.edgeReport n d).bit .WDG_FLAG 0 = true :=
  State.bit_setFlagI _ _ _ _ (by decide) (by decide) (by decide)

/-- WDG_EDGE as a decision leaves it, beside its count. -/
theorem State.edge_edgeReport (hn : n < 8) : (s.edgeReport n d).bit .WDG_EDGE 31 = true ∧
    (s.edgeReport n d).fld .WDG_EDGE Fld.WDG_EDGE_TASK = n ∧ (s.edgeReport n d).bit .WDG_EDGE 9 = d.closing ∧
    (s.edgeReport n d).bit .WDG_EDGE 8 = !d.won := by
  unfold State.edgeReport State.addSat
  dsimp only
  rw [State.bit_setFlagI_reg _ _ (by decide) rfl (by decide), State.fld_setFlagI_reg _ _ (by decide) rfl (by decide),
    State.bit_setFlagI_reg _ _ (by decide) rfl (by decide), State.bit_setFlagI_reg _ _ (by decide) rfl (by decide),
    State.bit_put_field _ _ (by decide) (by decide), State.fld_put_field _ _ (by decide) (by decide),
    State.bit_put_field _ _ (by decide) (by decide), State.bit_put_field _ _ (by decide) (by decide),
    State.bit, State.fld, State.bit, State.bit, State.rd_wr, if_pos rfl]
  refine ⟨wbit_wputBit _ _ _ (by decide), ?task, ?edge, ?lost⟩
  case task =>
    rw [getF_wputBit_other _ _ _ _ (by decide) (by decide), getF_putF_other _ _ _ _ (by decide) (by decide),
      getF_putF_other _ _ _ _ (by decide) (by decide), getF_putF _ _ _ (by decide)]
    exact Nat.mod_eq_of_lt hn
  case edge =>
    rw [wbit_wputBit_other _ _ _ _ (by decide) (by decide), wbit, putF_getLsbD _ _ _ _ (by decide)]
    cases d.closing <;> rfl
  case lost =>
    rw [wbit_wputBit_other _ _ _ _ (by decide) (by decide), wbit_putF_other _ _ _ _ (by decide) (by decide), wbit,
      putF_getLsbD _ _ _ _ (by decide)]
    cases d.won <;> rfl

theorem State.rd_tokenEdge_other {r : Reg} (h : r ≠ .WDG_T_STAT n) :
    (s.tokenEdge n d).1.rd r = (s.edgeReport n d).rd r := by
  unfold State.tokenEdge
  dsimp only
  split
  · rw [State.rd_tokenIn_other h, State.rd_putBit, if_neg h]
  · rw [State.rd_putBit, if_neg h]
  · rw [State.rd_periodStart_other h, State.rd_tokenIn_other h]
  · rw [State.rd_periodStart_other h]

end Sys2Proof.Machine

/-!
SUPPORT. The outcomes of a token: accepted, an expiry of its task, flagged, or reported at an edge.
-/

namespace Sys2Proof.Machine

variable {s : State}

/-- A token whose judgement is a failure makes its task expire. -/
theorem exec_token_failed {i : Iface} {v : Word} {n k : Nat} {e : Option EdgeDecision} (h : s.takes .WDG_TOKEN = true)
    (hn : n = getF v Fld.WDG_TOKEN_TASK) (hj : (s.judgeToken i v e).2 = some k) :
    exec (.token i v 0xF#4 ⟨e, 0#8⟩) s = .next ((s.judgeToken i v e).1.expire n k false) := by
  rw [exec_token h, State.wrToken_alone, hj, hn]

/-- A token whose judgement is no failure leaves what the judgement leaves. -/
theorem exec_token_passed {i : Iface} {v : Word} {e : Option EdgeDecision} (h : s.takes .WDG_TOKEN = true)
    (hj : (s.judgeToken i v e).2 = none) :
    exec (.token i v 0xF#4 ⟨e, 0#8⟩) s = .next (s.judgeToken i v e).1 := by
  rw [exec_token h, State.wrToken_alone, hj]

/-- A failure that the checks find without an edge leaves the state to the expiry as it is. -/
theorem exec_token_expires {i : Iface} {v : Word} {n k : Nat} {e : Option EdgeDecision} (h : s.takes .WDG_TOKEN = true)
    (hn : n = getF v Fld.WDG_TOKEN_TASK) (hk : k < 8) (hj : s.judgeToken i v e = (s, some k)) :
    ∃ t, exec (.token i v 0xF#4 ⟨e, 0#8⟩) s = .next t ∧ t.wd.expired = true ∧ t.fld .WDG_LAST Fld.WDG_LAST_TASK = n ∧
      t.bit .WDG_LAST 31 = true ∧ t.fld .WDG_LAST Fld.WDG_LAST_COUNT = min 255 (s.fld .WDG_LAST Fld.WDG_LAST_COUNT + 1) ∧
      t.fld .WDG_LAST Fld.WDG_LAST_KIND = k := by
  have hshows : Expired s (s.expire n k false) n k :=
    State.expire_shows (State.expired_of_takes h) (hn ▸ getF_lt v Fld.WDG_TOKEN_TASK) hk
  refine ⟨_, exec_token_failed h hn (congrArg Prod.snd hj), ?_⟩
  rw [hj]
  exact ⟨hshows.expired, hshows.task, hshows.valid, hshows.count, hshows.kind⟩

/-- What WDG_EDGE and WDG_FLAG show of a token at an edge stays, whether it fails or not. -/
theorem exec_token_edge {i : Iface} {v : Word} {n : Nat} {d : EdgeDecision} (h : s.takes .WDG_TOKEN = true)
    (hn : n = getF v Fld.WDG_TOKEN_TASK) (hj : s.judgeToken i v (some d) = s.tokenEdge n d) :
    ∃ t, exec (.token i v 0xF#4 ⟨some d, 0#8⟩) s = .next t ∧ t.rd .WDG_EDGE = (s.edgeReport n d).rd .WDG_EDGE ∧
      t.rd .WDG_FLAG = (s.edgeReport n d).rd .WDG_FLAG ∧ ((s.tokenEdge n d).2 = none → t = (s.tokenEdge n d).1) ∧
      ((s.tokenEdge n d).2 ≠ none → t.wd.expired = true) := by
  rcases hfail : (s.tokenEdge n d).2 with _ | k
  · exact ⟨_, exec_token_passed h (hj ▸ hfail), hj ▸ State.rd_tokenEdge_other (by simp),
      hj ▸ State.rd_tokenEdge_other (by simp), fun _ => by rw [hj], fun hne => absurd rfl hne⟩
  · refine ⟨_, exec_token_failed h hn (hj ▸ hfail), ?_, ?_, fun hne => absurd hne (by simp), fun _ => State.expired_expire⟩
    · rw [State.rd_expire_other rfl (by simp) (by simp) (by simp), hj, State.rd_tokenEdge_other (by simp)]
    · rw [State.rd_expire_other rfl (by simp) (by simp) (by simp), hj, State.rd_tokenEdge_other (by simp)]

/-- An opening edge that is won opens the window before the token is judged. -/
theorem State.tokenEdge_opened {n : Nat} {d : EdgeDecision} (hopen : d.closing = false) (hwon : d.won = true)
    (h : s.tokened n = false) : (s.tokenEdge n d).2 = none ∧ (s.tokenEdge n d).1.tokened n = true ∧
      (s.tokenEdge n d).1.inWindow n = true ∧ (s.tokenEdge n d).1.wd = s.wd := by
  have hedge : s.tokenEdge n d = ((s.edgeReport n d).putBit (.WDG_T_STAT n) 16 true).tokenIn n := by
    rw [State.tokenEdge, hopen, hwon]
  have hfree : ((s.edgeReport n d).putBit (.WDG_T_STAT n) 16 true).tokened n = false := by
    rw [State.tokened, State.bit_putBit_bit _ _ (by decide) (by decide)]
    exact (State.bit_congr (State.rd_edgeReport_other rfl (by simp) (by simp)) _).trans h
  rw [hedge]
  refine ⟨by rw [State.tokenIn_accepted hfree], State.tokened_accepted hfree, ?_, (State.wd_accepted hfree).trans
    State.wd_edgeReport⟩
  rw [State.inWindow_accepted hfree, State.inWindow, State.bit_putBit_eq _ _ (by decide), if_pos rfl]

theorem State.tokenEdge_early {n : Nat} {d : EdgeDecision} (hopen : d.closing = false) (hlost : d.won = false) :
    (s.tokenEdge n d).2 = some kEarly := by
  rw [State.tokenEdge, hopen, hlost]

theorem State.tokenEdge_late {n : Nat} {d : EdgeDecision} (hclose : d.closing = true) (hlost : d.won = false)
    (h : s.tokened n = false) : (s.tokenEdge n d).2 = some kLate := by
  have hfree : (s.edgeReport n d).tokened n = false :=
    (State.bit_congr (State.rd_edgeReport_other rfl (by simp) (by simp)) _).trans h
  rw [State.tokenEdge, hclose, hlost]
  exact if_neg (by simp [hfree])

/-- Settles O29: each check of a token has one outcome; an expiry shows its task and kind, and its shutdown leaves the
watchdog's registers alone. -/
theorem tokens : Obligations.Tokens := by
  unfold Obligations.Tokens
  refine ⟨?accepted, ?double, ?early, ?wrong, ?stranger, ?edge⟩
  case accepted =>
    intro i v n s h hn hreg howner hv hwindow hfree
    have hj : s.judgeToken i v none = s.tokenIn n := (State.judgeToken_none hn hreg howner hv).trans (if_pos hwindow)
    refine ⟨_, exec_token_passed h (by rw [hj, State.tokenIn_accepted hfree]), ?_⟩
    rw [hj]
    exact ⟨State.tokened_accepted hfree, State.next_accepted hfree, State.wd_accepted hfree⟩
  case double =>
    intro i v n s h hn hreg howner hv hwindow htoken
    exact exec_token_expires h hn (by decide)
      (((State.judgeToken_none hn hreg howner hv).trans (if_pos hwindow)).trans (State.tokenIn_double htoken))
  case early =>
    intro i v n s h hn hreg howner hv hwindow
    exact exec_token_expires h hn (by decide)
      ((State.judgeToken_none hn hreg howner hv).trans (if_neg (by simp [hwindow])))
  case wrong =>
    intro i v n e s h hn hreg howner hv
    exact exec_token_expires h hn (by decide) (State.judgeToken_wrong hn hreg howner hv)
  case stranger =>
    intro i v n e s h hn hother
    have hj := State.judgeToken_notOwner (e := e) hn hother
    refine ⟨_, exec_token_passed h (congrArg Prod.snd hj), ?_⟩
    rw [hj]
    exact ⟨State.bit_setFlagI _ _ _ _ (by decide) (by decide) (by decide),
      State.rd_setFlagI_reg _ _ (by decide) rfl (by simp), (State.setFlagI_eventsOnly ..).wd⟩
  case edge =>
    intro i v n d s h hn hreg howner hv
    obtain ⟨t, hexec, hedge, hflag, hpassed, hfailed⟩ :=
      exec_token_edge h hn (State.judgeToken_edge hn hreg howner hv)
    obtain ⟨hvalid, htask, hclosing, hlost⟩ :=
      State.edge_edgeReport (s := s) (n := n) (d := d) (hn ▸ getF_lt v Fld.WDG_TOKEN_TASK)
    refine ⟨t, hexec, (State.bit_congr hedge _).trans hvalid, (State.fld_congr hedge _).trans htask,
      (State.bit_congr hedge _).trans hclosing, (State.bit_congr hedge _).trans hlost,
      (State.bit_congr hflag _).trans State.flag_edgeReport, fun hopen hwon hfree => ?_, fun hopen hlost => ?_,
      fun hclose hlost hfree => ?_⟩
    · obtain ⟨hnone, hshows⟩ := State.tokenEdge_opened hopen hwon hfree
      rw [hpassed hnone]
      exact hshows
    · exact hfailed (by simp [State.tokenEdge_early hopen hlost])
    · exact hfailed (by simp [State.tokenEdge_late hclose hlost hfree])

end Sys2Proof.Machine

/-!
SUPPORT. Programs of the OTP and life-cycle transitions: the refusals of a write in their order, and the three ends of a
program (R329, R330, R333, R334).
-/

namespace Sys2Proof.Machine

variable {s : State}

/-! ### Refusals and the begin -/

/-- The code of Table 15.2 with which a program is refused, 0 for none. -/
def State.otpProgCode (s : State) (i : Iface) (w : Word) : Nat :=
  if i = .line then 8 else if getF w Fld.OTP_PROG_KEY ≠ 0xB7 then 5 else if s.bit .OTP_STATUS 4 then 4
  else if s.otpAllowed (s.fld .OTP_ROW Fld.OTP_ROW_ROW) = false then 2
  else if s.otpUsed (s.fld .OTP_ROW Fld.OTP_ROW_ROW) then 3 else 0

/-- The code with which a life-cycle transition is refused, 0 for none. -/
def State.otpLcCode (s : State) (i : Iface) (w : Word) : Nat :=
  if i = .line then 8 else if getF w Fld.OTP_LC_KEY ≠ 0x4D then 5 else if s.bit .OTP_STATUS 4 then 4
  else if lcFollows s.lifeCycle (getF w Fld.OTP_LC_TARGET) = false then 6
  else if s.lifeCycle = 0 ∧ s.pins.testEn = false then 2 else 0

theorem State.wrOtpProg_eq {i : Iface} {w : Word} (hgo : wbit w 31 = true) : s.wrOtpProg i w =
    if s.otpProgCode i w = 0 then s.otpStart (s.fld .OTP_ROW Fld.OTP_ROW_ROW) (s.rd .OTP_DATA) none
    else s.otpReject (s.otpProgCode i w) := by
  unfold State.wrOtpProg State.otpProgCode
  by_cases hline : i = .line
  · simp [hline]
  by_cases hkey : getF w Fld.OTP_PROG_KEY = 0xB7
  swap
  · simp [hline, hgo, hkey]
  cases hbusy : s.bit .OTP_STATUS 4
  swap
  · simp [hline, hgo, hkey]
  cases hallowed : s.otpAllowed (s.fld .OTP_ROW Fld.OTP_ROW_ROW)
  · simp [hline, hgo, hkey, hallowed]
  cases hused : s.otpUsed (s.fld .OTP_ROW Fld.OTP_ROW_ROW) <;>
    simp [hline, hgo, hkey, hallowed, hused]

theorem State.wrOtpLc_eq {i : Iface} {w : Word} (hgo : wbit w 31 = true) : s.wrOtpLc i w =
    if s.otpLcCode i w = 0 then s.otpStart (63 + getF w Fld.OTP_LC_TARGET) 0#32 (some (getF w Fld.OTP_LC_TARGET))
    else s.otpReject (s.otpLcCode i w) := by
  unfold State.wrOtpLc State.otpLcCode
  by_cases hline : i = .line
  · simp [hline]
  by_cases hkey : getF w Fld.OTP_LC_KEY = 0x4D
  swap
  · simp [hline, hgo, hkey]
  cases hbusy : s.bit .OTP_STATUS 4
  swap
  · simp [hline, hgo, hkey]
  cases hnext : lcFollows s.lifeCycle (getF w Fld.OTP_LC_TARGET)
  · simp [hline, hgo, hkey, hnext]
  by_cases hpin : s.lifeCycle = 0 ∧ s.pins.testEn = false
  · rw [hpin.1] at hnext
    simp [hline, hgo, hkey, hnext, hpin]
  · simp [hline, hgo, hkey, hnext, hpin]

theorem exec_otpProgram {i : Iface} {v : Word} (h : s.takes .OTP_PROG = true) :
    exec (.otpProgram i v 0xF#4) s = .next (s.wrOtpProg i v) := by
  refine congrArg Host.Outcome.next ?_
  rw [State.guardSent, State.guardWrite_takes h, if_pos (by decide), State.merged_whole]

theorem exec_lifecycleTransition {i : Iface} {v : Word} (h : s.takes .OTP_LC = true) :
    exec (.lifecycleTransition i v 0xF#4) s = .next (s.wrOtpLc i v) := by
  refine congrArg Host.Outcome.next ?_
  rw [State.guardSent, State.guardWrite_takes h, if_pos (by decide), State.merged_whole]

theorem State.otpReject_shows {c : Nat} (hc : c < 16) : (s.otpReject c).fld .OTP_RESULT Fld.OTP_RESULT_CODE = c ∧
    (s.otpReject c).bit .OTP_FLAG 1 = true ∧ (s.otpReject c).ot = s.ot := by
  refine ⟨?_, State.bit_setFlagI _ _ _ _ (by decide) (by decide) (by decide), (State.setFlagI_eventsOnly ..).ot⟩
  rw [State.otpReject, State.fld_setFlagI_reg _ _ (by decide) rfl (by decide), State.fld_put _ _ (by decide)]
  exact Nat.mod_eq_of_lt hc

theorem State.otpProgCode_lt (i : Iface) (w : Word) : s.otpProgCode i w < 16 := by
  unfold State.otpProgCode
  split_ifs <;> decide

theorem State.otpLcCode_lt (i : Iface) (w : Word) : s.otpLcCode i w < 16 := by
  unfold State.otpLcCode
  split_ifs <;> decide

theorem State.busy_otpStart (row : Nat) (data : Word) (target : Option Nat) :
    (s.otpStart row data target).bit .OTP_STATUS 4 = true := by
  rw [State.otpStart, State.bit_putBit_eq _ _ (by decide), if_pos rfl]

theorem State.lifeCycle_otpStart (row : Nat) (data : Word) (target : Option Nat) :
    (s.otpStart row data target).lifeCycle = s.lifeCycle :=
  State.fld_putBit_field (s := s.otp _) _ _ (by decide) (by decide)

/-! ### The end of a program -/

section

variable (p : OtpProg) (code : Nat)

/-- The state in which the end of a program has shown its result. -/
def State.otpResult (s : State) (p : OtpProg) (code : Nat) : State :=
  (((s.put .OTP_RESULT Fld.OTP_RESULT_ROW p.row).put .OTP_RESULT Fld.OTP_RESULT_CODE code).putBit .OTP_STATUS 4
    false).setFlagI .OTP_FLAG 0 p.row code

/-- A transition that has ended well sets LCDONE as well. -/
theorem State.otpEnd_cases : s.otpEnd p code = s.otpResult p code ∨
    ∃ t, s.otpEnd p code = (s.otpResult p code).setFlagI .OTP_FLAG 3 t 0 := by
  unfold State.otpEnd
  dsimp only
  split
  · split
    · exact .inr ⟨_, rfl⟩
    · exact .inl rfl
  · exact .inl rfl

theorem State.rd_otpEnd {q : Reg} (hq : q.sensed = false) (h : q ≠ .OTP_FLAG) :
    (s.otpEnd p code).rd q = (s.otpResult p code).rd q := by
  rcases State.otpEnd_cases (s := s) p code with hend | ⟨t, hend⟩
  · rw [hend]
  · rw [hend, State.rd_setFlagI_reg _ _ (by decide) hq h]

theorem State.ot_otpEnd : (s.otpEnd p code).ot = s.ot := by
  have hresult : (s.otpResult p code).ot = s.ot := (State.setFlagI_eventsOnly ..).ot
  rcases State.otpEnd_cases (s := s) p code with hend | ⟨t, hend⟩
  · rw [hend, hresult]
  · rw [hend, (State.setFlagI_eventsOnly ..).ot, hresult]

theorem State.done_otpEnd : (s.otpEnd p code).bit .OTP_FLAG 0 = true := by
  have hresult : (s.otpResult p code).bit .OTP_FLAG 0 = true :=
    State.bit_setFlagI _ _ _ _ (by decide) (by decide) (by decide)
  rcases State.otpEnd_cases (s := s) p code with hend | ⟨t, hend⟩
  · rw [hend, hresult]
  · rw [hend, State.bit_setFlagI_eq _ _ (by decide) rfl, hresult, Bool.true_or]

theorem State.rd_otpEnd_status : (s.otpEnd p code).rd .OTP_STATUS = wputBit (s.rd .OTP_STATUS) 4 false := by
  rw [State.rd_otpEnd _ _ rfl (by decide), State.otpResult, State.rd_setFlagI_reg _ _ (by decide) rfl (by decide),
    State.rd_putBit, if_pos rfl, State.rd_put, if_neg (by decide), State.rd_put, if_neg (by decide)]

theorem State.rd_otpEnd_other {q : Reg} (hq : q.sensed = false) (hflag : q ≠ .OTP_FLAG) (hresult : q ≠ .OTP_RESULT)
    (hstatus : q ≠ .OTP_STATUS) : (s.otpEnd p code).rd q = s.rd q := by
  rw [State.rd_otpEnd _ _ hq hflag, State.otpResult, State.rd_setFlagI_reg _ _ (by decide) hq hflag, State.rd_putBit,
    if_neg hstatus, State.rd_put, if_neg hresult, State.rd_put, if_neg hresult]

theorem State.code_otpEnd (hc : code < 16) : (s.otpEnd p code).fld .OTP_RESULT Fld.OTP_RESULT_CODE = code := by
  rw [State.fld_congr (State.rd_otpEnd _ _ rfl (by decide)), State.otpResult,
    State.fld_setFlagI_reg _ _ (by decide) rfl (by decide), State.fld_putBit_reg _ _ (by decide),
    State.fld_put _ _ (by decide)]
  exact Nat.mod_eq_of_lt hc

theorem State.row_otpEnd : (s.otpEnd p code).fld .OTP_RESULT Fld.OTP_RESULT_ROW = p.row % 512 := by
  rw [State.fld_congr (State.rd_otpEnd _ _ rfl (by decide)), State.otpResult,
    State.fld_setFlagI_reg _ _ (by decide) rfl (by decide), State.fld_putBit_reg _ _ (by decide),
    State.fld_put_field _ _ (by decide) (by decide), State.fld_put _ _ (by decide)]
  rfl

theorem State.busy_otpEnd : (s.otpEnd p code).bit .OTP_STATUS 4 = false := by
  rw [State.bit, State.rd_otpEnd_status, wbit_wputBit _ _ _ (by decide)]

theorem State.status_otpEnd {b : Nat} (h : b ≠ 4) : (s.otpEnd p code).bit .OTP_STATUS b = s.bit .OTP_STATUS b := by
  rw [State.bit, State.rd_otpEnd_status, wbit_wputBit_other _ _ _ _ (by decide) h]
  rfl

theorem State.lifeCycle_otpEnd : (s.otpEnd p code).lifeCycle = s.lifeCycle := by
  rw [State.lifeCycle, State.fld, State.rd_otpEnd_status, getF_wputBit_other _ _ _ _ (by decide) (by decide)]
  rfl

theorem State.latched_otpEnd (f : Nat) : (s.otpEnd p code).latched f = s.latched f :=
  State.latched_congr (fun _ => State.rd_otpEnd_other _ _ rfl (by simp) (by simp) (by simp)) f

end

end Sys2Proof.Machine

/-!
SUPPORT. What a program stores: the row, the mark or a spare, and what stays when none is left (R330, R333 to R335).
-/

namespace Sys2Proof.Machine

variable {s : State}

/-! ### Marks, rows and what the raise of a source leaves -/

@[simp] theorem State.ot_showLc : s.showLc.ot = s.ot := by
  unfold State.showLc
  dsimp only
  split <;> rfl

theorem State.mem_marks_addMark (row : Nat) : row ∈ (s.addMark row).ot.marks := by
  change row ∈ if s.ot.marks.contains row then s.ot.marks else row :: s.ot.marks
  split
  next h => simpa using h
  next => exact List.mem_cons_self

theorem State.lcOf_congr {t : State} (h : t.ot = s.ot) : t.lcOf = s.lcOf := by
  unfold State.lcOf
  rw [h]

/-- LC shows the state of the marks. -/
theorem State.lifeCycle_showLc : s.showLc.lifeCycle = s.lcOf := by
  have hput : (s.put .OTP_STATUS Fld.OTP_STATUS_LC s.lcOf).fld .OTP_STATUS Fld.OTP_STATUS_LC = s.lcOf := by
    rw [State.fld_put _ _ (by decide), State.lcOf]
    split_ifs <;> rfl
  unfold State.showLc
  dsimp only
  split
  · exact hput
  · rw [State.lifeCycle, State.fld_putBit_reg _ _ (by decide), hput]

theorem State.rd_showLc_other {q : Reg} (hstatus : q ≠ .OTP_STATUS) (hforce : q ≠ .FLT_FORCE) : s.showLc.rd q = s.rd q := by
  unfold State.showLc
  dsimp only
  split
  · rw [State.rd_put, if_neg hstatus]
  · rw [State.rd_putBit, if_neg hforce, State.rd_put, if_neg hstatus]

theorem State.ot_of_beyond {t : State} (h : t.beyond = s.beyond) : t.ot = s.ot := by
  change t.beyond.ot = s.beyond.ot
  rw [h]

theorem State.ot_raise (f cause : Nat) : (s.raise f cause).ot = s.ot := State.ot_of_beyond (State.beyond_raise ..)

/-- The raise of a source leaves the OTP's registers alone. -/
theorem State.rd_raise_otp {f cause : Nat} {q : Reg} (hq : q.block = .otp) : (s.raise f cause).rd q = s.rd q := by
  have h : Keeps (· ≠ Block.otp) True s (s.raise f cause) := by
    apply State.raise_keeps (Keeps.refl s) <;> simp
  exact h.regs q (by simp [hq])

/-! ### A good program -/

theorem State.otpStored_holds (p : OtpProg) : if p.target = none then
    (s.otpStored p).ot.rows.get (s.otpCell p.row) 0#32 = p.data else
    p.row ∈ (s.otpStored p).ot.marks ∧ (s.otpStored p).lifeCycle = (s.otpStored p).lcOf := by
  unfold State.otpStored
  cases p.target with
  | none => exact (Tab.get_set ..).trans (if_pos rfl)
  | some t =>
    rw [if_neg (by simp)]
    dsimp only
    refine ⟨?_, State.lifeCycle_showLc.trans (State.lcOf_congr State.ot_showLc).symm⟩
    rw [State.ot_showLc]
    exact State.mem_marks_addMark p.row

theorem State.prog_otpStored (p : OtpProg) : (s.otpStored p).ot.prog = s.ot.prog := by
  unfold State.otpStored
  cases p.target with
  | none => rfl
  | some t => rw [State.ot_showLc]; rfl

/-! ### A program that failed -/

theorem State.prog_otpMoved (p : OtpProg) : (s.otpMoved p).ot.prog = s.ot.prog := by
  unfold State.otpMoved
  cases p.target with
  | none => rfl
  | some t => rw [State.ot_showLc]; rfl

theorem State.redir_otpMoved (p : OtpProg) : (s.otpMoved p).ot.redir = s.ot.redir := by
  unfold State.otpMoved
  cases p.target with
  | none => rfl
  | some t => rw [State.ot_showLc]; rfl

/-- With a free spare and no failing try, the row's value stands in the spare. -/
theorem State.redirect_spare {k row : Nat} {v : Word} (h : s.nextSpare = some k) :
    s.redirect row v [] = (true, s.toSpare row k v) := by
  rw [State.redirect, h]

/-- With no free spare nothing is redirected. -/
theorem State.redirect_none {row : Nat} {v : Word} {l : List SpareTry} (h : s.nextSpare = none) :
    s.redirect row v l = (false, s) := by
  cases l <;> rw [State.redirect, h]

/-- The array behind a row whose program did not match holds what the state draws. -/
def State.otpMismatched (s : State) (p : OtpProg) : State :=
  s.draw.2.otp fun o => { o with rows := o.rows.set (s.otpCell p.row) s.draw.1 }

/-- The end of a program that did not match, by what its redirection came to. -/
theorem State.otpRetry_eq {p : OtpProg} {r : OtpOutcome} {b : Bool} {u : State}
    (h : (s.otpMismatched p).redirect p.row p.data r.tries = (b, u)) :
    s.otpRetry p r = if b then (u.otpMoved p).otpEnd p 1
      else if r.decodes then ((u.otpStored p).otpCorrected p.row).otpEnd p 7 else (u.otpLost p.row).otpEnd p 7 := by
  unfold State.otpRetry
  dsimp only
  rw [← State.otpMismatched, h]

theorem State.otpRetry_spare {p : OtpProg} {r : OtpOutcome} {k : Nat} (hr : r.tries = []) (h : s.nextSpare = some k) :
    s.otpRetry p r = (((s.otpMismatched p).toSpare p.row k p.data).otpMoved p).otpEnd p 1 := by
  have hnext : (s.otpMismatched p).nextSpare = some k := h
  have hredirect := State.redirect_spare (row := p.row) (v := p.data) hnext
  rw [← hr] at hredirect
  rw [State.otpRetry_eq hredirect, if_pos rfl]

theorem State.otpRetry_none {p : OtpProg} {r : OtpOutcome} (h : s.nextSpare = none) :
    s.otpRetry p r = if r.decodes then (((s.otpMismatched p).otpStored p).otpCorrected p.row).otpEnd p 7
      else ((s.otpMismatched p).otpLost p.row).otpEnd p 7 := by
  have hnext : (s.otpMismatched p).nextSpare = none := h
  rw [State.otpRetry_eq (State.redirect_none hnext), if_neg (by simp)]

theorem State.ot_toSpare (row k : Nat) (v : Word) : (s.toSpare row k v).ot =
    { s.ot with redir := s.ot.redir.set k (redirWord true false row), rows := s.ot.rows.set (512 + k) v,
                lost := s.ot.lost.filter (· != 512 + k) } := (State.setFlagI_eventsOnly ..).ot

theorem State.otpCorrected_shows (row : Nat) : row ∈ (s.otpCorrected row).ot.corrected ∧
    (s.otpCorrected row).latched 249 = true ∧ (s.otpCorrected row).bit .OTP_STATUS 5 = true ∧
    (s.otpCorrected row).ot.prog = s.ot.prog := by
  unfold State.otpCorrected
  refine ⟨?row, State.latched_raise _ _, ?degraded, ?prog⟩
  case row =>
    rw [State.ot_raise]
    change row ∈ if s.ot.corrected.contains row then s.ot.corrected else row :: s.ot.corrected
    split
    next h => simpa using h
    next => exact List.mem_cons_self
  case degraded =>
    rw [State.bit_congr (State.rd_raise_otp rfl)]
    unfold State.live
    rw [State.bit_putBit_reg _ _ (by simp), State.bit_put_reg _ _ (by decide), State.bit_putBit_eq _ _ (by decide), if_pos rfl]
  case prog =>
    rw [State.ot_raise]
    rfl

/-- What a row that cannot be decoded and cannot move leaves, by the rows of Table 15.3. -/
theorem State.otpLost_shows (row : Nat) : (s.otpLost row).ot.prog = s.ot.prog ∧ if row < 64 then
    (s.otpLost row).bit .OTP_STATUS 6 = true ∧ (s.otpLost row).latched 53 = true
    else if row < 68 then row ∈ (s.otpLost row).ot.marks else s.otpCell row ∈ (s.otpLost row).ot.lost := by
  unfold State.otpLost
  dsimp only
  split
  next =>
    refine ⟨?_, ?_, State.latched_raise ..⟩
    · rw [State.trimsLost, State.ot_raise]
      rfl
    · rw [State.trimsLost, State.bit_congr (State.rd_raise_otp rfl), State.bit_putBit_eq _ _ (by decide), if_pos rfl]
  next =>
    split
    next =>
      rw [State.ot_showLc]
      exact ⟨rfl, State.mem_marks_addMark row⟩
    next =>
      rw [(State.setFlagI_eventsOnly ..).ot]
      refine ⟨rfl, ?_⟩
      change s.otpCell row ∈ if s.ot.lost.contains (s.otpCell row) then s.ot.lost else s.otpCell row :: s.ot.lost
      split
      next h => simpa using h
      next => exact List.mem_cons_self

theorem exec_otpDone {p : OtpProg} {r : OtpOutcome} (h : s.ot.prog = some p) : exec (.otpDone r) s =
    .next (if r.strict then ((s.otp fun o => { o with prog := none }).otpStored p).otpEnd p 0
      else (s.otp fun o => { o with prog := none }).otpRetry p r) := by
  refine congrArg Host.Outcome.next ?_
  rw [h]

end Sys2Proof.Machine

/-!
SUPPORT. The begin, the refusal and the end of an OTP operation, put together.
-/

namespace Sys2Proof.Machine

variable {s : State}

theorem State.otpEnd_holds {p : OtpProg} : if p.target = none then
    ((s.otpStored p).otpEnd p 0).ot.rows.get (s.otpCell p.row) 0#32 = p.data else
    p.row ∈ ((s.otpStored p).otpEnd p 0).ot.marks ∧
      ((s.otpStored p).otpEnd p 0).lifeCycle = ((s.otpStored p).otpEnd p 0).lcOf := by
  have hstored := State.otpStored_holds (s := s) p
  rw [State.lifeCycle_otpEnd, State.lcOf_congr (State.ot_otpEnd p 0), State.ot_otpEnd]
  exact hstored

/-- Settles O28: a write is refused with the first code that applies or begins a program, and each end of a program shows its
code, with what it stored. -/
theorem otpCommands : Obligations.OtpCommands := by
  unfold Obligations.OtpCommands
  refine ⟨?begins, ?refused, ?lcBegins, ?lcRefused, ?good, ?spare, ?noSpare⟩
  case begins =>
    intro i v s h hgo hcode
    have heq : s.otpProgCode i v = 0 := hcode
    refine ⟨_, exec_otpProgram h, ?_⟩
    rw [State.wrOtpProg_eq hgo, if_pos heq]
    exact ⟨rfl, State.busy_otpStart .., rfl⟩
  case refused =>
    intro i v c s h hgo hcode hc
    have heq : c = s.otpProgCode i v := hcode
    refine ⟨_, exec_otpProgram h, ?_⟩
    rw [State.wrOtpProg_eq hgo, ← heq, if_neg hc]
    exact State.otpReject_shows (heq ▸ State.otpProgCode_lt i v)
  case lcBegins =>
    intro i v s h hgo hcode
    have heq : s.otpLcCode i v = 0 := hcode
    refine ⟨_, exec_lifecycleTransition h, ?_⟩
    rw [State.wrOtpLc_eq hgo, if_pos heq]
    exact ⟨rfl, State.busy_otpStart .., State.lifeCycle_otpStart ..⟩
  case lcRefused =>
    intro i v c s h hgo hcode hc
    have heq : c = s.otpLcCode i v := hcode
    refine ⟨_, exec_lifecycleTransition h, ?_⟩
    rw [State.wrOtpLc_eq hgo, ← heq, if_neg hc]
    exact State.otpReject_shows (heq ▸ State.otpLcCode_lt i v)
  case good =>
    intro r p s hprog hstrict
    refine ⟨_, exec_otpDone hprog, ?_⟩
    rw [if_pos hstrict]
    refine ⟨?_, State.code_otpEnd _ _ (by decide), State.row_otpEnd .., State.busy_otpEnd .., State.done_otpEnd ..,
      State.otpEnd_holds⟩
    rw [State.ot_otpEnd, State.prog_otpStored]
    rfl
  case spare =>
    intro r p k s hprog hstrict htries hnext
    refine ⟨_, exec_otpDone hprog, ?_⟩
    have hspare : (s.otp fun o => { o with prog := none }).nextSpare = some k := hnext
    rw [if_neg (by simp [hstrict]), State.otpRetry_spare htries hspare]
    refine ⟨?_, State.code_otpEnd _ _ (by decide), ?_, fun htarget => ?_⟩
    · rw [State.ot_otpEnd, State.prog_otpMoved, State.ot_toSpare]
      rfl
    · rw [State.ot_otpEnd, State.redir_otpMoved, State.ot_toSpare]
      exact (Tab.get_set ..).trans (if_pos rfl)
    · have hmoved (u : State) : u.otpMoved p = u := by rw [State.otpMoved, htarget]
      rw [State.ot_otpEnd, hmoved, State.ot_toSpare]
      exact (Tab.get_set ..).trans (if_pos rfl)
  case noSpare =>
    intro r p s hprog hstrict hnext
    refine ⟨_, exec_otpDone hprog, ?_⟩
    have hnone : (s.otp fun o => { o with prog := none }).nextSpare = none := hnext
    rw [if_neg (by simp [hstrict]), State.otpRetry_none hnone]
    cases hdecodes : r.decodes with
    | true =>
      rw [if_pos rfl, if_pos rfl, State.ot_otpEnd, State.latched_otpEnd, State.status_otpEnd _ _ (by decide)]
      obtain ⟨hrow, hlatched, hdegraded, hidle⟩ := State.otpCorrected_shows
        (s := ((s.otp fun o => { o with prog := none }).otpMismatched p).otpStored p) p.row
      refine ⟨hidle.trans ?_, State.code_otpEnd _ _ (by decide), hrow, hlatched, hdegraded⟩
      rw [State.prog_otpStored]
      rfl
    | false =>
      rw [if_neg (by simp), if_neg (by simp), State.ot_otpEnd, State.latched_otpEnd, State.status_otpEnd _ _ (by decide)]
      obtain ⟨hidle, hlost⟩ := State.otpLost_shows (s := (s.otp fun o => { o with prog := none }).otpMismatched p) p.row
      exact ⟨hidle.trans rfl, State.code_otpEnd _ _ (by decide), hlost⟩

end Sys2Proof.Machine

/-!
SUPPORT. Clock crossings: legacy mode and its hold copies, captures, crossings that fail, and reads of station time (R427 to
R432).
-/

namespace Sys2Proof.Machine

variable {s t : State}

theorem Tab.get_eq_lookup {κ α : Type} [DecidableEq κ] (l : Tab κ α) (k : κ) (d : α) :
    l.get k d = (l.lookup k).getD d := by
  induction l with
  | nil => rfl
  | cons e l ih =>
    obtain ⟨q, x⟩ := e
    rw [Tab.get] at ih ⊢
    by_cases h : q = k
    · simp [h]
    · have hne : (k == q) = false := beq_eq_false_iff_ne.2 (Ne.symm h)
      simp [h, List.lookup_cons, hne, ih]

/-! ### Legacy mode and releases -/

theorem exec_legacyWrite {i : Iface} {v : Word} (h : s.takes .XNG_CTL = true) :
    exec (.legacyWrite i v 0xF#4) s = .next (s.wrXngCtl v) :=
  congrArg Host.Outcome.next ((State.guardWrite_takes h).trans (congrArg s.wrXngCtl (State.merged_whole ..)))

theorem exec_takeRelease {i : Iface} {v : Word} (h : s.takes .XNG_TAKE = true) :
    exec (.takeRelease i v 0xF#4) s = .next (s.wrXngTake v) :=
  congrArg Host.Outcome.next ((State.guardWrite_takes h).trans (congrArg s.wrXngTake (and_byteMask_whole v)))

/-- Legacy mode as a write changes it, before the copies are dropped. -/
def State.legacySet (s : State) (w : Word) : State := (s.writeRw .XNG_CTL w).setFlag .XNG_FLAG 1

theorem State.wrXngCtl_changed {w : Word} (h : wbit w 0 ≠ s.bit .XNG_CTL 0) : s.wrXngCtl w =
    if wbit w 0 then s.legacySet w
    else ({ s.legacySet w with xg := { (s.legacySet w).xg with hold := [] } } : State).clearFlags .XNG_TAKE 0xF#32 :=
  if_neg h

theorem State.legacySet_shows (w : Word) : (s.legacySet w).bit .XNG_CTL 0 = wbit w 0 ∧ (s.legacySet w).bit .XNG_FLAG 1 = true := by
  refine ⟨?_, State.bit_setFlagI _ _ _ _ (by decide) (by decide) (by decide)⟩
  unfold State.legacySet State.setFlag
  rw [State.bit_setFlagI_reg _ _ (by decide) rfl (by decide), State.bit, State.rd_writeRw, if_pos rfl]
  simp [wbit, show Reg.rw .XNG_CTL = 1#32 from rfl]

/-- Clearing bits of XNG_TAKE leaves the other registers of the block. -/
theorem State.bit_clearTake_other {w : Word} {q : Reg} {b : Nat} (hq : q ≠ .XNG_TAKE) (hm : q.block ≠ .mem)
    (he : q.block ≠ .evt) : (s.clearFlags .XNG_TAKE w).bit q b = s.bit q b :=
  State.bit_congr (State.rd_clearFlags_other _ _ hq hm he) b

theorem State.beyond_clearFlag (r : Reg) (b : Nat) : (s.clearFlag r b).beyond = s.beyond := by
  unfold State.clearFlag
  split
  · split <;> simp
  · rfl

theorem State.beyond_clearFlags (r : Reg) (w : Word) : (s.clearFlags r w).beyond = s.beyond :=
  State.each_beyond _ fun _ _ => State.beyond_clearFlag ..

theorem State.xg_clearFlags (r : Reg) (w : Word) : (s.clearFlags r w).xg = s.xg := by
  change (s.clearFlags r w).beyond.xg = s.beyond.xg
  rw [State.beyond_clearFlags]

/-- The bits of XNG_TAKE that a write names and that are set. -/
def State.released (s : State) (w : Word) : List Nat := (bitsOf w).filter fun g => g < 4 && s.bit .XNG_TAKE g

theorem State.xg_wrXngTake (w : Word) : (s.wrXngTake w).xg.hold = s.xg.hold.filter fun e => !(s.released w).contains e.1 := by
  unfold State.wrXngTake
  rw [State.xg_clearFlags]
  rfl

/-- The copy of a group whose bit is named is gone. -/
theorem State.hold_wrXngTake {w : Word} {g : Nat} (hg : g < 4) (hset : s.bit .XNG_TAKE g = true) (hw : wbit w g = true) :
    (s.wrXngTake w).xg.hold.lookup g = none := by
  have hmem : g ∈ s.released w := List.mem_filter.2 ⟨(mem_bitsOf w g).2 hw, by simp [hg, hset]⟩
  rw [State.xg_wrXngTake, List.lookup_eq_none_iff]
  intro e he
  have hkept := (List.mem_filter.1 he).2
  by_contra hsame
  have hgroup : g = e.1 := by simpa using hsame
  rw [← hgroup] at hkept
  simp [hmem] at hkept

theorem State.take_wrXngTake {w : Word} {g : Nat} (hg : g < 4) :
    (s.wrXngTake w).bit .XNG_TAKE g = (s.bit .XNG_TAKE g && !wbit w g) := by
  unfold State.wrXngTake
  rw [State.bit_clearFlags _ _ _ (by decide) (by decide)]
  have hmask : wbit (w &&& 0xF#32) g = wbit w g := by
    interval_cases g <;> simp [wbit]
  rw [hmask]
  rfl

/-! ### Captures -/

theorem exec_groupCapture {g : Fin 4} (hcore : s.powered .core = true) (hlegacy : s.bit .XNG_CTL 0 = true)
    (hp : s.powered (groupPower g) = true) (hnone : s.xg.hold.lookup g.val = none) :
    exec (.groupCapture g) s = .next (s.capture g) :=
  congrArg Host.Outcome.next (if_pos (by simp [hcore, hlegacy, hp, hnone]))

theorem State.capture_shows (g : Fin 4) : (s.capture g).bit .XNG_TAKE g = true ∧
    (s.capture g).xg.hold.lookup g.val = some ((groupRegs g).map fun r => (r, s.captured r)) ∧
    (s.capture g).fld .XNG_STAT Fld.XNG_STAT_CAPT = min 65535 (s.fld .XNG_STAT Fld.XNG_STAT_CAPT + 1) := by
  unfold State.capture
  refine ⟨State.bit_setFlagI _ _ _ _ (by omega) (by decide) (by decide), ?_, ?_⟩
  · rw [(State.setFlagI_eventsOnly ..).xg]
    exact Tab.lookup_set ..
  · rw [State.fld_setFlagI_reg _ _ (by omega) rfl (by decide), State.fld_addSat _ _ _ (by decide)]
    rfl

/-! ### Crossings that fail -/

theorem State.rd_raise_xng {f cause : Nat} {q : Reg} (hq : q.block = .xng) : (s.raise f cause).rd q = s.rd q := by
  have h : Keeps (· ≠ Block.xng) True s (s.raise f cause) := by
    apply State.raise_keeps (Keeps.refl s) <;> simp
  exact h.regs q (by simp [hq])

/-- The failure of a crossing noted, before its source is raised. -/
def State.crossNoted (s : State) (c : Nat) : State :=
  ((s.addSat .XNG_STUCKINFO Fld.XNG_STUCKINFO_COUNT 1).put .XNG_STUCKINFO Fld.XNG_STUCKINFO_CROSSING c).setFlagI .XNG_FLAG 0 c 0

theorem State.crossFails_shows {c : Nat} (hc : c < 16) : (s.crossFails c).bit .XNG_FLAG 0 = true ∧
    (s.crossFails c).fld .XNG_STUCKINFO Fld.XNG_STUCKINFO_CROSSING = c ∧ (s.crossFails c).latched 251 = true := by
  refine ⟨?flag, ?info, State.latched_raise ..⟩
  case flag =>
    exact (State.bit_congr (State.rd_raise_xng rfl) _).trans
      (State.bit_setFlagI _ _ _ _ (by decide) (by decide) (by decide))
  case info =>
    refine (State.fld_congr (State.rd_raise_xng rfl) _).trans ?_
    rw [State.fld_setFlagI_reg _ _ (by decide) rfl (by decide), State.fld_put _ _ (by decide)]
    exact Nat.mod_eq_of_lt hc

theorem State.rd_crossNoted {c : Nat} {q : Reg} (hq : q.block = .flt) : (s.crossNoted c).rd q = s.rd q := by
  have hne (r : Reg) (hr : r.block = .xng) : q ≠ r := fun h => by rw [h, hr] at hq; cases hq
  have hplain : q.sensed = false := by
    unfold Reg.sensed
    split
    · cases hq
    · cases hq
    · rfl
  rw [State.crossNoted, State.rd_setFlagI_reg _ _ (by decide) hplain (hne _ rfl), State.rd_put, if_neg (hne _ rfl),
    State.rd_addSat_reg _ _ (hne _ rfl)]

theorem State.cause_crossFails {c : Nat} (hc : c < 16) (h : s.latched 251 = false) : (s.crossFails c).fltCause 251 = c := by
  change ((s.crossNoted c).raise 251 c).fltCause 251 = c
  rw [State.fltCause_raise_eq false hc, State.latched_congr (fun _ => State.rd_crossNoted rfl), h, if_neg (by simp)]

theorem State.rdata_crossFails (c : Nat) : (s.crossFails c).rdata = s.rdata := by
  have hbeyond : (s.crossFails c).beyond = s.beyond := by simp [State.crossFails]
  change (s.crossFails c).beyond.rdata = s.beyond.rdata
  rw [hbeyond]

/-! ### Reads of station time -/

/-- A read at the address of a register of a powered block is the register's own rule. -/
theorem State.busRead_reg {i : Iface} {a : Nat} {r : Reg} (hs : s.served = true) (hl : s.loader = false)
    (hp : s.powered r.block.dom = true) (hreg : Reg.ofAddr a = some r) (hword : wordAddr a = a) (hi : a ≠ 0x4000000C) :
    s.busRead i a = s.readReg i r := by
  obtain ⟨b, hb⟩ := Reg.ofAddr_block hreg
  have hsram := Block.ofAddr_above_sram hb
  unfold State.busRead
  dsimp only
  rw [hword, if_neg hi]
  unfold State.readWord
  rw [if_neg (by simp [hs]), if_neg (by omega)]
  simp only [hb, hreg]
  exact State.guardRead_on hs hl hp

theorem State.busRead_timNowLo {i : Iface} (hs : s.served = true) (hl : s.loader = false) (hp : s.powered .link = true) :
    s.busRead i (Reg.addr .TIM_NOW_LO) = s.readReg i .TIM_NOW_LO :=
  State.busRead_reg hs hl hp (by decide +kernel) (by decide) (by decide)

theorem exec_timNowLoRead {i : Iface} (hs : s.served = true) (hl : s.loader = false) (hp : s.powered .link = true) :
    exec (.timNowLoRead i) s = .next (State.deliver i (s.readReg i .TIM_NOW_LO)) :=
  congrArg (fun p => Host.Outcome.next (State.deliver i p)) (State.busRead_timNowLo hs hl hp)

theorem State.readReg_timNowLo_native {i : Iface} (h : s.legacyFor i = false) :
    s.readReg i .TIM_NOW_LO = ((s.rdNowEven i).1, (s.rdNowEven i).2.agree 0 (s.rdNowEven i).1) := by
  unfold State.readReg
  exact if_neg (by simp [h])

theorem State.readReg_timNowLo_held {i : Iface} {l : List (Reg × Word)} (h : s.legacyFor i = true)
    (hl : s.xg.hold.lookup 0 = some l) : s.readReg i .TIM_NOW_LO = (Tab.get l .TIM_NOW_LO 0#32, s) := by
  have hread : s.readReg i .TIM_NOW_LO = s.rdHeld 0 .TIM_NOW_LO := if_pos h
  rw [hread, State.rdHeld, hl]
  simp [Tab.get_eq_lookup, hl]

theorem State.bank_agree {i : Iface} (g : Nat) (w : Word) : (s.agree g w).bank i = s.bank i := by
  unfold State.agree
  dsimp only
  split <;> rfl

end Sys2Proof.Machine

/-!
SUPPORT. The obligation on clock crossings.
-/

namespace Sys2Proof.Machine

/-- Settles O40: copies and their bits go together, a crossing that fails shows its number, and a read of station time is the
even tick or the copy. -/
theorem crossings : Obligations.Crossings := by
  unfold Obligations.Crossings
  refine ⟨?changed, ?same, ?released, ?captured, ?stuck, ?timeout, ?native, ?held⟩
  case changed =>
    intro i v s h hne
    obtain ⟨hlegacy, hflag⟩ := State.legacySet_shows (s := s) v
    refine ⟨_, exec_legacyWrite h, ?_⟩
    rw [State.wrXngCtl_changed hne]
    cases hv : wbit v 0 with
    | true =>
      rw [if_pos rfl]
      exact ⟨hlegacy.trans hv, hflag, fun hno => nomatch hno⟩
    | false =>
      rw [if_neg (by simp)]
      refine ⟨?_, ?_, fun _ => ⟨?_, fun g hg => ?_⟩⟩
      · rw [State.bit_clearTake_other (by decide) (by decide) (by decide)]
        exact hlegacy.trans hv
      · rw [State.bit_clearTake_other (by decide) (by decide) (by decide)]
        exact hflag
      · rw [State.xg_clearFlags]
      · have hnamed : wbit 0xF#32 g = true := by
          have hlt := List.mem_range.1 hg
          interval_cases g <;> rfl
        rw [State.bit_clearFlags _ _ _ (by decide) (by decide), hnamed]
        simp
  case same =>
    intro i v s h heq
    rw [exec_legacyWrite h, State.wrXngCtl, if_pos heq]
  case released =>
    intro i v s h
    exact ⟨_, exec_takeRelease h, fun g hg => ⟨State.take_wrXngTake (List.mem_range.1 hg),
      State.hold_wrXngTake (List.mem_range.1 hg)⟩⟩
  case captured =>
    intro g s hcore hlegacy hp hnone
    exact ⟨_, exec_groupCapture hcore hlegacy hp hnone, State.capture_shows g⟩
  case stuck =>
    intro c i s hcore hc
    refine ⟨_, congrArg Host.Outcome.next (if_pos (by simp [hcore, hc])), ?_⟩
    obtain ⟨hflag, hinfo, hlatched⟩ := State.crossFails_shows
      (s := (State.deliver i (s.xg.agreed.get c 0#32, s)).addSat .XNG_STAT Fld.XNG_STAT_RETRY 1) c.isLt
    refine ⟨?_, hflag, hinfo, hlatched, fun hclear => State.cause_crossFails c.isLt ?_⟩
    · rw [State.rdata_crossFails]
      exact (Tab.get_set ..).trans (if_pos rfl)
    · exact (State.latched_congr (fun _ => State.rd_addSat_reg _ _ (by simp)) _).trans hclear
  case timeout =>
    intro c s hcore hlow hhigh
    exact ⟨_, congrArg Host.Outcome.next (if_pos (by simp [hcore, inRange, hlow, hhigh])), State.crossFails_shows c.isLt⟩
  case native =>
    intro i s hs hl hp hlegacy
    refine ⟨_, exec_timNowLoRead hs hl hp, ?_⟩
    rw [State.readReg_timNowLo_native hlegacy]
    refine ⟨(Tab.get_set ..).trans (if_pos rfl), ?_⟩
    exact congrArg CmdBank.timHi ((State.bank_agree 0 _).trans (State.bank_putBank _))
  case held =>
    intro i l s hs hl hp hlegacy hcopy
    refine ⟨_, exec_timNowLoRead hs hl hp, ?_⟩
    rw [State.readReg_timNowLo_held hlegacy hcopy]
    exact ⟨(Tab.get_set ..).trans (if_pos rfl), rfl, rfl⟩

end Sys2Proof.Machine

/-!
SUPPORT. Lines of the Lookout that the firmware takes, and the words a WR stores (R415, R416, R419).
-/

namespace Sys2Proof.Machine

variable {s t : State}

/-! ### A line is taken -/

/-- A well-formed line has come: the wait for one at a new rate is over. -/
def State.heard (s : State) : State := { s with mo := { s.mo with newRate := false } }

section

variable {need : Nat} {f : State → State} (hm : s.monServes = true) (hd : s.bit .MON_CFG 31 = false)
  (hr : need ≤ s.lookoutRights)
include hd hr

theorem State.monLine_taken : s.monLine need f = f s.heard := by
  have hd' : s.heard.bit .MON_CFG 31 = false := hd
  have hr' : ¬ s.heard.lookoutRights < need := Nat.not_lt.2 hr
  change (if s.heard.bit .MON_CFG 31 then _ else if s.heard.lookoutRights < need then _ else f s.heard) = _
  rw [if_neg (by simp [hd']), if_neg hr']

include hm

theorem State.monCmd_taken : s.monCmd need f = f s.heard := (if_pos hm).trans (State.monLine_taken hd hr)

theorem State.monBoth_taken : s.monBoth need f = f s.heard := (if_pos hm).trans (State.monLine_taken hd hr)

end

theorem State.accepts_of_monServes (h : s.monServes = true) : s.accepts = true := by
  simp only [State.monServes, Bool.and_eq_true] at h
  exact h.1.1.1

theorem State.loader_of_monServes (h : s.monServes = true) : s.loader = false := by
  simp only [State.monServes, Bool.and_eq_true, beq_iff_eq] at h
  rw [State.loader, h.1.2]
  rfl

/-! ### Words of a WR -/

/-- The firmware takes words of a WR for SRAM. -/
structure Writable (s : State) : Prop where
  accepts : s.accepts = true
  loader : s.loader = false
  rights : 2 ≤ s.lookoutRights
  memOk : s.memOk

theorem State.accepts_of_same (hpw : t.pw = s.pw) (hwd : t.wd = s.wd) : t.accepts = s.accepts := by
  simp only [State.accepts, State.served, State.powered, hpw, hwd]

theorem State.lookoutRights_of_same (hpw : t.pw = s.pw) (hotp : t.rd .OTP_STATUS = s.rd .OTP_STATUS)
    (hmon : t.rd .MON_STAT = s.rd .MON_STAT) : t.lookoutRights = s.lookoutRights := by
  unfold State.lookoutRights
  rw [State.fld_congr hotp, State.bit_congr hmon, hpw]

theorem Writable.sramWrite (h : Writable s) (a : Nat) (w : Word) : Writable (s.sramWrite a w) := by
  have hpw : (s.sramWrite a w).pw = s.pw := (State.sramWrite_eventsOnly a w).pw
  refine ⟨(State.accepts_of_same hpw (State.sramWrite_eventsOnly a w).wd).trans h.accepts, ?_, ?_,
    State.memOk_sramWrite a w h.memOk⟩
  · rw [State.loader, hpw]
    exact h.loader
  · rw [State.lookoutRights_of_same hpw (State.rd_sramWrite a w rfl) (State.rd_sramWrite a w rfl)]
    exact h.rights

/-- A bus write of a whole word of SRAM stores it. -/
theorem State.busStore_sram {i : Iface} {a : Nat} {w : Word} (ha : s.accepts = true) (hl : s.loader = false)
    (halign : a % 4 = 0) (hsram : a < 0x40000) : s.busStore i a w 0xF#4 = s.sramWrite a w := by
  have hword : wordAddr a = a := by
    unfold wordAddr
    omega
  have hserved : s.sramServed a = true := by simp [State.sramServed, hl]
  unfold State.busStore
  rw [hword, if_neg (by omega)]
  unfold State.storeWord
  rw [if_neg (by simp [ha]), if_pos (by simpa [sramEnd] using hsram), if_pos hserved]
  rfl

theorem State.expired_of_accepts (h : s.accepts = true) : s.wd.expired = false := by
  simp only [State.accepts, Bool.and_eq_true, Bool.not_eq_true'] at h
  exact h.2

theorem State.monWrite_cons {a : Nat} {w : Word} {l : List Word} (h : Writable s) (halign : a % 4 = 0) (hsram : a < 0x40000) :
    s.monWrite a (w :: l) = (s.sramWrite a w).monWrite (a + 4) l := by
  rw [State.monWrite, if_neg (by simp [State.expired_of_accepts h.accepts]), if_neg ?_,
    State.busStore_sram h.accepts h.loader halign hsram]
  have hrights := h.rights
  simp only [Bool.and_eq_true, decide_eq_true_eq]
  omega

/-- The words of a WR stand at their addresses, and the bytes beside them stay. -/
theorem State.monWrite_stores {a : Nat} {l : List Word} (h : Writable s) (halign : a % 4 = 0)
    (hsram : a + 4 * l.length ≤ 0x40000) : (s.monWrite a l).mo.status = 0 ∧
      (∀ j < l.length, (s.monWrite a l).word (a + 4 * j) = l.getD j 0#32) ∧
      ∀ k, k + 4 ≤ a → (s.monWrite a l).word k = s.word k := by
  induction l generalizing a s with
  | nil => exact ⟨rfl, fun j hj => absurd hj (Nat.not_lt_zero j), fun _ _ => rfl⟩
  | cons w l ih =>
    rw [List.length_cons] at hsram
    rw [State.monWrite_cons h halign (by omega)]
    obtain ⟨hstatus, hwords, hbelow⟩ := ih (h.sramWrite a w) (by omega : (a + 4) % 4 = 0) (by omega)
    refine ⟨hstatus, fun j hj => ?_, fun k hk => ?_⟩
    · cases j with
      | zero => exact (hbelow a (by omega)).trans (State.word_sramWrite a w h.memOk)
      | succ j =>
        rw [show a + 4 * (j + 1) = a + 4 + 4 * j by omega]
        exact hwords j (Nat.lt_of_succ_lt_succ hj)
    · exact (hbelow k (by omega)).trans (State.word_sramWrite_other w h.memOk (.inl hk))

end Sys2Proof.Machine

/-!
SUPPORT. A CM line of the Lookout: the parameters it names, the issue, and the handle it prints (R419).
-/

namespace Sys2Proof.Machine

variable {s t : State}

/-! ### Parameters -/

/-- A bank with one of its parameters replaced. -/
def CmdBank.setParam (b : CmdBank) (n : Nat) (w : Word) : CmdBank :=
  match n with
  | 0 => { b with p0 := w }
  | 1 => { b with p1 := w }
  | 2 => { b with p2 := w }
  | _ => { b with p3 := w }

/-- A bank with parameters replaced from one on. -/
def CmdBank.setParams (b : CmdBank) (n : Nat) : List Word → CmdBank
  | [] => b
  | w :: l => (b.setParam n w).setParams (n + 1) l

/-- The first two parameters of a bank behind a list of at most four. -/
theorem CmdBank.setParams_shows (b : CmdBank) {l : List Word} (h : l.length ≤ 4) :
    (b.setParams 0 l).p0 = l.getD 0 b.p0 ∧ (b.setParams 0 l).p1 = l.getD 1 b.p1 := by
  match l, h with
  | [], _ => exact ⟨rfl, rfl⟩
  | [_], _ => exact ⟨rfl, rfl⟩
  | [_, _], _ => exact ⟨rfl, rfl⟩
  | [_, _, _], _ => exact ⟨rfl, rfl⟩
  | [_, _, _, _], _ => exact ⟨rfl, rfl⟩

theorem State.wrParam_whole {i : Iface} {n : Nat} {v : Word} :
    s.wrParam i n v 0xF#4 = s.putBank i ((s.bank i).setParam n v) := by
  have hmask : byteMask 0xF#4 = BitVec.allOnes 32 := by decide
  unfold State.wrParam
  dsimp only
  rw [hmask, BitVec.and_allOnes, BitVec.not_allOnes, BitVec.and_zero, BitVec.or_zero]
  rfl

theorem State.takes_cmdParam {n : Nat} (h : s.takes .CMD_ISSUE = true) : s.takes (.CMD_PARAM n) = true := h

theorem State.busStore_cmdParam {i : Iface} {n : Nat} {v : Word} (hn : n < 4) (h : s.takes .CMD_ISSUE = true) :
    s.busStore i (Reg.addr (.CMD_PARAM n)) v 0xF#4 = s.putBank i ((s.bank i).setParam n v) := by
  have hreg : Reg.ofAddr (wordAddr (Reg.addr (.CMD_PARAM n))) = some (.CMD_PARAM n) := by
    interval_cases n <;> decide +kernel
  have haddr : sramEnd ≤ wordAddr (Reg.addr (.CMD_PARAM n)) ∧ wordAddr (Reg.addr (.CMD_PARAM n)) ≠ 0x4000000C := by
    interval_cases n <;> decide
  rw [State.busStore_reg (State.takes_cmdParam h) hreg haddr.1 haddr.2 (by simp) (by simp), ← State.wrParam_whole]
  rfl

/-- A change of the interfaces' banks alone. -/
def BanksOnly (s t : State) : Prop := ∃ b, t = { s with cm := { s.cm with banks := b } }

theorem BanksOnly.putBank (h : BanksOnly s t) (i : Iface) (b : CmdBank) : BanksOnly s (t.putBank i b) := by
  obtain ⟨banks, rfl⟩ := h
  exact ⟨_, rfl⟩

theorem BanksOnly.trans {u : State} (h : BanksOnly s t) (k : BanksOnly t u) : BanksOnly s u := by
  obtain ⟨banks, rfl⟩ := h
  obtain ⟨banks, rfl⟩ := k
  exact ⟨_, rfl⟩

theorem State.monParams_banks {n : Nat} {l : List Word} (h : s.takes .CMD_ISSUE = true) (hl : n + l.length ≤ 4) :
    BanksOnly s (s.monParams n l) ∧ (s.monParams n l).bank .lookout = (s.bank .lookout).setParams n l := by
  induction l generalizing n s with
  | nil => exact ⟨⟨s.cm.banks, rfl⟩, rfl⟩
  | cons w l ih =>
    rw [List.length_cons] at hl
    rw [State.monParams, State.busStore_cmdParam (by omega) h]
    obtain ⟨hbanks, hbank⟩ := ih (s := s.putBank .lookout ((s.bank .lookout).setParam n w)) (n := n + 1) h (by omega)
    refine ⟨BanksOnly.trans ⟨_, rfl⟩ hbanks, hbank.trans ?_⟩
    rw [State.bank_putBank]
    rfl

theorem BanksOnly.admits (h : BanksOnly s t) {i : Iface} {op k : Nat} : t.admits i op k = s.admits i op k := by
  obtain ⟨banks, rfl⟩ := h
  rfl

/-! ### The issue and its result -/

theorem State.pw_reloadBegin (k : Nat) : (s.reloadBegin k).pw = s.pw := by
  unfold State.reloadBegin
  split
  · split <;> rfl
  · rfl

theorem State.pw_acceptCmd (i : Iface) (op k : Nat) : (s.acceptCmd i op k).pw = s.pw := by
  rw [State.acceptCmd_eq]
  split
  · split
    · rw [State.pw_reloadBegin]
      rfl
    · rfl
  · rfl

/-- A read of the result of an issue changes nothing. -/
theorem State.busRead_cmdResult {i : Iface} (hs : s.served = true) (hl : s.loader = false) :
    (s.busRead i (Reg.addr .CMD_RESULT)).2 = s := by
  rw [State.busRead_reg (r := .CMD_RESULT) hs hl hs (by decide +kernel) (by decide) (by decide)]
  change (if Reg.rc .CMD_RESULT = 0#32 then s else s.wr .CMD_RESULT (s.rd .CMD_RESULT &&& ~~~ Reg.rc .CMD_RESULT)) = s
  exact if_pos rfl

theorem exec_cm {op k : Nat} {l : List Word} (hm : s.monServes = true) (hd : s.bit .MON_CFG 31 = false)
    (hr : 2 ≤ s.lookoutRights) (hop : op < 256) (hknown : opKnown op = true) (hl : l.length ≤ 4)
    (ha : s.admits .lookout op k = true) : exec (.cm op l) s =
    .next (((s.heard.monParams 0 l).acceptCmd .lookout op k).answer 0
      [[(((s.heard.monParams 0 l).acceptCmd .lookout op k).busRead .lookout (Reg.addr .CMD_RESULT)).1.toNat]]) := by
  have hadmits : s.heard.admits .lookout op k = true := ha
  have htakes : s.heard.takes .CMD_ISSUE = true := by
    simp only [State.admits, Bool.and_eq_true] at hadmits
    exact hadmits.1.1.1
  obtain ⟨hbanks, -⟩ := State.monParams_banks (n := 0) (l := l) htakes (by omega)
  have hissue : (s.heard.monParams 0 l).issue .lookout op = (s.heard.monParams 0 l).acceptCmd .lookout op k :=
    State.issue_admits (hbanks.admits.trans hadmits) hknown
  have hpw : ((s.heard.monParams 0 l).acceptCmd .lookout op k).pw = s.pw := by
    obtain ⟨banks, hsame⟩ := hbanks
    rw [State.pw_acceptCmd, hsame]
    rfl
  have hquiet := State.busRead_cmdResult (s := (s.heard.monParams 0 l).acceptCmd .lookout op k) (i := .lookout)
    (by
      have hserved := State.accepts_of_monServes hm
      simp only [State.accepts, Bool.and_eq_true] at hserved
      simpa only [State.served, State.powered, hpw] using hserved.1)
    (by
      rw [State.loader, hpw]
      exact State.loader_of_monServes hm)
  refine congrArg Host.Outcome.next ((State.monBoth_taken hm hd hr).trans ?_)
  rw [if_pos ⟨hop, hl⟩]
  dsimp only
  rw [hissue, hquiet]

theorem State.opKnown_lt {op : Nat} (h : opKnown op = true) : op < 256 := by
  have hmem : op ∈ [0x00, 0x01, 0x02, 0x03, 0x10, 0x40, 0x41, 0x42, 0x43, 0x44, 0x45, 0x46, 0x80, 0x81, 0xC0, 0xC1, 0xC2, 0xC3,
      0xC4] := by simpa [opKnown] using h
  have hall : ∀ x ∈ [0x00, 0x01, 0x02, 0x03, 0x10, 0x40, 0x41, 0x42, 0x43, 0x44, 0x45, 0x46, 0x80, 0x81, 0xC0, 0xC1, 0xC2,
      0xC3, 0xC4], x < 256 := by decide
  exact hall op hmem

end Sys2Proof.Machine

/-!
SUPPORT. The rate, the unlock and the configuration of the Lookout (R414, R417, R418).
-/

namespace Sys2Proof.Machine

variable {s t : State}

theorem State.bit_answer (n : Nat) (l : List (List Nat)) (r : Reg) (b : Nat) : (s.answer n l).bit r b = s.bit r b := rfl

theorem State.fld_answer (n : Nat) (l : List (List Nat)) (r : Reg) (f : Field) : (s.answer n l).fld r f = s.fld r f := rfl

/-! ### The rate -/

theorem State.rd_setBaud (b : Nat) (q : Reg) :
    (s.setBaud b).rd q = (s.put .MON_CFG Fld.MON_CFG_BAUD (if b = 7 then 0 else b)).rd q := rfl

theorem State.baud_setBaud {b : Nat} (hb : b < 8) :
    (s.setBaud b).fld .MON_CFG Fld.MON_CFG_BAUD = if b = 7 then 0 else b := by
  rw [State.fld_congr (State.rd_setBaud b _), State.fld_put _ _ (by decide)]
  interval_cases b <;> rfl

/-- The rate's other neighbours in MON_CFG stay. -/
theorem State.idle_setBaud (b : Nat) :
    (s.setBaud b).fld .MON_CFG Fld.MON_CFG_IDLE = s.fld .MON_CFG Fld.MON_CFG_IDLE := by
  rw [State.fld_congr (State.rd_setBaud b _), State.fld_put_field _ _ (by decide) (by decide)]

theorem State.disable_setBaud (b : Nat) : (s.setBaud b).bit .MON_CFG 31 = s.bit .MON_CFG 31 := by
  rw [State.bit_congr (State.rd_setBaud b _), State.bit_put_field _ _ (by decide) (by decide)]

theorem exec_baud {b : Nat} (hm : s.monServes = true) (hd : s.bit .MON_CFG 31 = false) (hb : b ≤ 7) :
    exec (.baud b) s = .next ((s.heard.setBaud b).answer 0) :=
  congrArg Host.Outcome.next ((State.monCmd_taken hm hd (Nat.zero_le _)).trans (if_neg (Nat.not_lt.2 hb)))

/-! ### MON_CFG -/

theorem exec_monCfgWrite {i : Iface} {v : Word} (h : s.takes .MON_CFG = true) :
    exec (.monCfgWrite i v 0xF#4) s = .next (s.wrMonCfg i v) :=
  congrArg Host.Outcome.next ((State.guardWrite_takes h).trans (congrArg (s.wrMonCfg i) (State.merged_whole ..)))

/-- MON_CFG with DISABLE and the idle time of a write, its rate still the old one. -/
def State.monCfgSet (s : State) (w : Word) : State :=
  (if wbit w 31 then s.putBit .MON_CFG 31 true else s).put .MON_CFG Fld.MON_CFG_IDLE (getF w Fld.MON_CFG_IDLE)

theorem State.wrMonCfg_eq {i : Iface} {w : Word} (h : i = .twoWire ∨ i = .core) : s.wrMonCfg i w =
    if getF w Fld.MON_CFG_BAUD = s.fld .MON_CFG Fld.MON_CFG_BAUD then s.monCfgSet w
    else (s.monCfgSet w).setBaud (getF w Fld.MON_CFG_BAUD) := if_pos h

theorem State.monCfgSet_shows (w : Word) : (s.monCfgSet w).bit .MON_CFG 31 = (s.bit .MON_CFG 31 || wbit w 31) ∧
    (s.monCfgSet w).fld .MON_CFG Fld.MON_CFG_IDLE = getF w Fld.MON_CFG_IDLE ∧
    (s.monCfgSet w).fld .MON_CFG Fld.MON_CFG_BAUD = s.fld .MON_CFG Fld.MON_CFG_BAUD := by
  unfold State.monCfgSet
  rw [State.bit_put_field _ _ (by decide) (by decide), State.fld_put _ _ (by decide),
    State.fld_put_field _ _ (by decide) (by decide), Nat.mod_eq_of_lt (getF_lt w _)]
  cases wbit w 31 with
  | true =>
    rw [if_pos rfl, State.bit_putBit_eq _ _ (by decide), State.fld_putBit_field _ _ (by decide) (by decide)]
    simp
  | false => simp

theorem State.wrMonCfg_shows {i : Iface} {w : Word} (h : i = .twoWire ∨ i = .core) :
    (s.wrMonCfg i w).bit .MON_CFG 31 = (s.bit .MON_CFG 31 || wbit w 31) ∧
    (s.wrMonCfg i w).fld .MON_CFG Fld.MON_CFG_IDLE = getF w Fld.MON_CFG_IDLE ∧
    (getF w Fld.MON_CFG_BAUD ≠ 7 → (s.wrMonCfg i w).fld .MON_CFG Fld.MON_CFG_BAUD = getF w Fld.MON_CFG_BAUD) := by
  obtain ⟨hdisable, hidle, hbaud⟩ := State.monCfgSet_shows (s := s) w
  rw [State.wrMonCfg_eq h]
  split
  next hsame => exact ⟨hdisable, hidle, fun _ => hbaud.trans hsame.symm⟩
  next =>
    rw [State.disable_setBaud, State.idle_setBaud, State.baud_setBaud (getF_lt w Fld.MON_CFG_BAUD)]
    exact ⟨hdisable, hidle, fun hne => if_neg hne⟩

/-! ### The unlock -/

theorem exec_ul_none (hm : s.monServes = true) (hd : s.bit .MON_CFG 31 = false)
    (hfree : s.fld .MON_STAT Fld.MON_STAT_LOCKREM = 0) : exec (.ul none) s =
    .next (({ s.heard.draw.2 with mo := { s.heard.draw.2.mo with challenge := some s.heard.draw.1 } } : State).answer 0
      [[s.heard.draw.1.toNat]]) := by
  have hfree' : ¬ s.heard.fld .MON_STAT Fld.MON_STAT_LOCKREM ≠ 0 := not_not.2 hfree
  exact congrArg Host.Outcome.next ((State.monCmd_taken hm hd (Nat.zero_le _)).trans (if_neg hfree'))

theorem State.otpRead_value (n : Nat) : (s.otpRead n).1 = if s.ot.prog.any fun p => p.row == n then 0#32
    else if s.ot.marks.contains n && !s.ot.lost.contains (s.otpCell n) then Config.freeWord s.clock.drawn
    else s.otpRow n := by
  unfold State.otpRead
  split_ifs <;> rfl

theorem State.secret_heard : s.heard.secret = s.secret :=
  List.map_congr_left fun r _ => (State.otpRead_value r).trans (State.otpRead_value (s := s) r).symm

theorem exec_ul_some {w : Word} (hm : s.monServes = true) (hd : s.bit .MON_CFG 31 = false)
    (hfree : s.fld .MON_STAT Fld.MON_STAT_LOCKREM = 0) (hsecret : s.secret ≠ [0#32, 0#32, 0#32, 0#32]) :
    exec (.ul (some w)) s = .next (s.heard.unlockTry w) := by
  have hfree' : ¬ s.heard.fld .MON_STAT Fld.MON_STAT_LOCKREM ≠ 0 := not_not.2 hfree
  have hsecret' : s.heard.secret ≠ [0#32, 0#32, 0#32, 0#32] := fun h => hsecret (State.secret_heard.symm.trans h)
  exact congrArg Host.Outcome.next
    ((State.monCmd_taken hm hd (Nat.zero_le _)).trans ((if_neg hfree').trans (if_neg hsecret')))

/-- A challenge is used up by the response to it. -/
def State.challenged (s : State) : State := { s with mo := { s.mo with challenge := none } }

theorem State.unlockTry_right {c w : Word} (hc : s.mo.challenge = some c) (hw : w = crc32 (bytesOfWords (c :: s.secret))) :
    s.unlockTry w =
      (((s.challenged.putBit .MON_STAT 3 true).put .MON_STAT Fld.MON_STAT_FAILS 0).setFlag .MON_FLAG 0).answer 0 := by
  unfold State.unlockTry
  rw [hc]
  exact if_pos (by simp [hw])

/-- A wrong response has been counted as number `n`. -/
def State.failNoted (s : State) (n : Nat) : State :=
  (s.challenged.put .MON_STAT Fld.MON_STAT_FAILS n).setFlagI .MON_FLAG 1 n 0

theorem State.unlockTry_wrong {c w : Word} {n : Nat} (hc : s.mo.challenge = some c)
    (hw : w ≠ crc32 (bytesOfWords (c :: s.secret))) (hn : s.fld .MON_STAT Fld.MON_STAT_FAILS = n) : s.unlockTry w =
      (if 3 ≤ n + 1 then (s.failNoted (n + 1)).put .MON_STAT Fld.MON_STAT_LOCKREM 600 else s.failNoted (n + 1)).answer 2 := by
  subst hn
  unfold State.unlockTry
  rw [hc]
  exact if_neg (by simpa using hw)

theorem State.failNoted_shows {n : Nat} (hn : n < 4) : (s.failNoted n).bit .MON_STAT 3 = s.bit .MON_STAT 3 ∧
    (s.failNoted n).fld .MON_STAT Fld.MON_STAT_FAILS = n ∧
    (s.failNoted n).fld .MON_STAT Fld.MON_STAT_LOCKREM = s.fld .MON_STAT Fld.MON_STAT_LOCKREM ∧
    (s.failNoted n).bit .MON_FLAG 1 = true ∧ (s.failNoted n).mo.challenge = none := by
  refine ⟨?_, ?_, ?_, State.bit_setFlagI _ _ _ _ (by decide) (by decide) (by decide), ?_⟩
  · rw [State.failNoted, State.bit_setFlagI_reg _ _ (by decide) rfl (by decide), State.bit_put_field _ _ (by decide) (by decide)]
    rfl
  · rw [State.failNoted, State.fld_setFlagI_reg _ _ (by decide) rfl (by decide), State.fld_put _ _ (by decide)]
    exact Nat.mod_eq_of_lt hn
  · rw [State.failNoted, State.fld_setFlagI_reg _ _ (by decide) rfl (by decide),
      State.fld_put_field _ _ (by decide) (by decide)]
    rfl
  · rw [State.failNoted, (State.setFlagI_eventsOnly ..).mo]
    rfl

theorem State.lockrem_put : (s.put .MON_STAT Fld.MON_STAT_LOCKREM 600).fld .MON_STAT Fld.MON_STAT_LOCKREM = 600 := by
  rw [State.fld_put _ _ (by decide)]
  rfl

theorem State.unlockTry_right_shows {c w : Word} (hc : s.mo.challenge = some c)
    (hw : w = crc32 (bytesOfWords (c :: s.secret))) : (s.unlockTry w).bit .MON_STAT 3 = true ∧
      (s.unlockTry w).fld .MON_STAT Fld.MON_STAT_FAILS = 0 ∧ (s.unlockTry w).bit .MON_FLAG 0 = true ∧
      (s.unlockTry w).mo.status = 0 ∧ (s.unlockTry w).mo.challenge = none := by
  rw [State.unlockTry_right hc hw]
  refine ⟨?unlocked, ?fails, ?flag, rfl, ?challenge⟩
  case unlocked =>
    refine (State.bit_setFlagI_reg _ _ (by decide) rfl (by decide) _).trans ?_
    rw [State.bit_put_field _ _ (by decide) (by decide), State.bit_putBit_eq _ _ (by decide), if_pos rfl]
  case fails =>
    refine (State.fld_setFlagI_reg _ _ (by decide) rfl (by decide) _).trans ?_
    rw [State.fld_put _ _ (by decide)]
    rfl
  case flag => exact State.bit_setFlagI _ _ _ _ (by decide) (by decide) (by decide)
  case challenge => exact congrArg MoX.challenge (State.setFlagI_eventsOnly ..).mo

theorem State.unlockTry_wrong_shows {c w : Word} {n : Nat} (hc : s.mo.challenge = some c)
    (hw : w ≠ crc32 (bytesOfWords (c :: s.secret))) (hn : s.fld .MON_STAT Fld.MON_STAT_FAILS = n) (hlt : n < 3)
    (hfree : s.fld .MON_STAT Fld.MON_STAT_LOCKREM = 0) : (s.unlockTry w).bit .MON_STAT 3 = s.bit .MON_STAT 3 ∧
      (s.unlockTry w).fld .MON_STAT Fld.MON_STAT_FAILS = n + 1 ∧
      (s.unlockTry w).fld .MON_STAT Fld.MON_STAT_LOCKREM = (if n = 2 then 600 else 0) ∧
      (s.unlockTry w).bit .MON_FLAG 1 = true ∧ (s.unlockTry w).mo.status = 2 ∧ (s.unlockTry w).mo.challenge = none := by
  obtain ⟨hunlocked, hfailed, hrem, hflag, hchallenge⟩ := State.failNoted_shows (s := s) (n := n + 1) (by omega)
  rw [State.unlockTry_wrong hc hw hn, State.bit_answer, State.fld_answer, State.fld_answer, State.bit_answer]
  by_cases htwo : n = 2
  · rw [if_pos (by omega), if_pos htwo]
    rw [State.bit_put_field _ _ (by decide) (by decide), State.fld_put_field _ _ (by decide) (by decide),
      State.bit_put_reg _ _ (by decide)]
    exact ⟨hunlocked, hfailed, State.lockrem_put, hflag, rfl, hchallenge⟩
  · rw [if_neg (by omega), if_neg htwo]
    exact ⟨hunlocked, hfailed, hrem.trans hfree, hflag, rfl, hchallenge⟩

end Sys2Proof.Machine

/-!
SUPPORT. The obligation on the lines of the Lookout that act.
-/

namespace Sys2Proof.Machine

variable {s : State}

theorem State.lockoutEnded_shows :
    ((s.put .MON_STAT Fld.MON_STAT_LOCKREM 0).put .MON_STAT Fld.MON_STAT_FAILS 0).fld .MON_STAT Fld.MON_STAT_LOCKREM = 0 ∧
    ((s.put .MON_STAT Fld.MON_STAT_LOCKREM 0).put .MON_STAT Fld.MON_STAT_FAILS 0).fld .MON_STAT Fld.MON_STAT_FAILS = 0 := by
  rw [State.fld_put_field _ _ (by decide) (by decide), State.fld_put _ _ (by decide), State.fld_put _ _ (by decide)]
  exact ⟨rfl, rfl⟩

/-- The rate that BAUD takes. -/
theorem State.baud_setBaud_mod {b : Nat} (hb : b ≤ 7) : (s.setBaud b).fld .MON_CFG Fld.MON_CFG_BAUD = b % 7 := by
  rw [State.baud_setBaud (by omega)]
  split <;> omega

/-- Settles O39: a line that is taken acts on the state without its wait for a new rate; words, parameters, rate and unlock are
as it says. -/
theorem lookoutWrites : Obligations.LookoutWrites := by
  unfold Obligations.LookoutWrites
  refine ⟨?wr, ?wrBad, ?cm, ?baud, ?fallback, ?badLine, ?lk, fun s => rfl, ?lockoutEnd, ?challenge, ?right, ?wrong, ?lockedOut,
    ?config⟩
  case wr =>
    intro a l s hm hd hr hlo hhi hrange hsram hmem
    have halign : a.toNat % 4 = 0 := by
      simp only [wordRange, Bool.and_eq_true, beq_iff_eq] at hrange
      exact hrange.1
    have hwritable : Writable s.heard := ⟨State.accepts_of_monServes hm, State.loader_of_monServes hm, hr, hmem⟩
    obtain ⟨hstatus, hwords, -⟩ := State.monWrite_stores (l := l) hwritable halign hsram
    refine ⟨_, congrArg Host.Outcome.next ((State.monBoth_taken hm hd hr).trans (if_pos ?_)), hstatus,
      fun j hj => hwords j (List.mem_range.1 hj)⟩
    simp [inRange, hlo, hhi, hrange]
  case wrBad =>
    intro a l s hm hd hr hbad
    refine congrArg Host.Outcome.next ((State.monBoth_taken hm hd hr).trans (if_neg ?_))
    simp only [inRange, Bool.and_eq_true, decide_eq_true_eq]
    rintro ⟨⟨hlo, hhi⟩, hrange⟩
    rcases hbad with h | h | h
    · omega
    · omega
    · simp [h] at hrange
  case cm =>
    intro op k l s hm hd hr hknown hl ha
    have htakes : s.heard.takes .CMD_ISSUE = true := by
      simp only [State.admits, Bool.and_eq_true] at ha
      exact ha.1.1.1
    obtain ⟨-, hbank⟩ := State.monParams_banks (n := 0) (l := l) htakes (by omega)
    obtain ⟨hp0, hp1⟩ := CmdBank.setParams_shows (s.bank .lookout) hl
    have hslot := State.slot_acceptCmd (s := s.heard.monParams 0 l) .lookout op k
    refine ⟨_, exec_cm hm hd hr (State.opKnown_lt hknown) hknown hl ha, rfl, ?_⟩
    change (((s.heard.monParams 0 l).acceptCmd .lookout op k).slot k).st = .waiting ∧
      (((s.heard.monParams 0 l).acceptCmd .lookout op k).slot k).op = op ∧
      (((s.heard.monParams 0 l).acceptCmd .lookout op k).slot k).p0 = _ ∧
      (((s.heard.monParams 0 l).acceptCmd .lookout op k).slot k).p1 = _ ∧
      k ∈ ((s.heard.monParams 0 l).acceptCmd .lookout op k).cm.waiting
    rw [hslot, State.cm_acceptCmd]
    exact ⟨rfl, rfl, (congrArg CmdBank.p0 hbank).trans hp0, (congrArg CmdBank.p1 hbank).trans hp1,
      List.mem_append_right _ List.mem_cons_self⟩
  case baud =>
    intro b s hm hd hb
    refine ⟨_, exec_baud hm hd hb, rfl, ?_, rfl⟩
    rw [State.fld_answer, State.baud_setBaud_mod hb]
  case fallback =>
    intro s hnew hcore
    refine ⟨_, congrArg Host.Outcome.next (if_pos (by simp [hnew, hcore])), ?_,
      State.bit_setFlagI _ _ _ _ (by decide) (by decide) (by decide), ?_⟩
    · refine (State.fld_setFlagI_reg _ _ (by decide) rfl (by decide) _).trans ?_
      rw [State.fld_put _ _ (by decide)]
      rfl
    · exact congrArg MoX.newRate (State.setFlagI_eventsOnly ..).mo
  case badLine =>
    intro e s hserves
    refine ⟨_, congrArg Host.Outcome.next (if_pos (by simpa using hserves)), ?_⟩
    cases e with
    | badSyntax => exact ⟨rfl, rfl⟩
    | overflow | framing =>
      refine ⟨congrArg MoX.reply (State.setFlagI_eventsOnly ..).mo, ?_⟩
      rw [if_neg (by decide)]
      exact ⟨congrArg MoX.status (State.setFlagI_eventsOnly ..).mo,
        State.bit_setFlagI _ _ _ _ (by decide) (by decide) (by decide)⟩
  case lk =>
    intro s hm hd
    refine ⟨_, congrArg Host.Outcome.next (State.monCmd_taken hm hd (Nat.zero_le _)), ?_, rfl⟩
    rw [State.bit_answer, State.lockNow, State.bit_putBit_eq _ _ (by decide), if_pos rfl]
  case lockoutEnd =>
    intro s hlocked
    exact ⟨_, congrArg Host.Outcome.next (if_neg hlocked), State.lockoutEnded_shows⟩
  case challenge =>
    intro s hm hd hfree
    exact ⟨_, exec_ul_none hm hd hfree, rfl, rfl, rfl, rfl⟩
  case right =>
    intro c w s hm hd hfree hsecret hc hw
    exact ⟨_, exec_ul_some hm hd hfree hsecret, State.unlockTry_right_shows hc (State.secret_heard.symm ▸ hw)⟩
  case wrong =>
    intro c w s hm hd hfree hsecret hc hw hfails
    exact ⟨_, exec_ul_some hm hd hfree hsecret,
      State.unlockTry_wrong_shows hc (fun h => hw (h.trans (by rw [State.secret_heard]))) rfl hfails hfree⟩
  case lockedOut =>
    intro r s hm hd hlocked
    exact congrArg Host.Outcome.next ((State.monCmd_taken hm hd (Nat.zero_le _)).trans (if_pos hlocked))
  case config =>
    intro i v s h
    refine ⟨_, exec_monCfgWrite h, ?_⟩
    split
    next hown => exact State.wrMonCfg_shows hown
    next hother => exact if_neg hother

end Sys2Proof.Machine

/-!
SUPPORT. Transactions of the two-wire bus as a target: what a discarded write shows, the words a write applies and the bytes a
read returns (R401 to R408).
-/

namespace Sys2Proof.Machine

variable {s : State}

/-! ### The pointer and the outcome of a transaction -/

theorem State.twbPtr_congr {t : State} (h : t.rd .TWB_PTR = s.rd .TWB_PTR) : t.twbPtr = s.twbPtr := State.fld_congr h _

theorem State.twbPtr_setPtr (p : Nat) : (s.setPtr p).twbPtr = p % 65536 := State.fld_put .TWB_PTR p (by decide)

theorem State.rd_twbDone {q : Reg} (h : q ≠ .TWB_CNT) : s.twbDone.rd q = s.rd q := State.rd_addSat_reg _ _ h

theorem State.rd_twbDisc {q : Reg} {why : Nat} (hstat : q ≠ .SYS_TWSTAT) (hcnt : q ≠ .TWB_CNT) :
    (s.twbDisc why).rd q = s.rd q := by
  rw [State.twbDisc, State.rd_addSat_reg _ _ hcnt, State.rd_putBit, if_neg hstat, State.twbWhy, State.rd_put, if_neg hstat]

/-- What SYS_TWSTAT and the count show of a transaction that was discarded or cut short. -/
theorem State.twbDisc_shows {why : Nat} (h : why < 16) : (s.twbDisc why).fld .SYS_TWSTAT Fld.SYS_TWSTAT_WHY = why ∧
    (s.twbDisc why).bit .SYS_TWSTAT 31 = true ∧
    (s.twbDisc why).fld .TWB_CNT Fld.TWB_CNT_DISC = min 65535 (s.fld .TWB_CNT Fld.TWB_CNT_DISC + 1) := by
  refine ⟨?_, ?_, ?_⟩
  · rw [State.twbDisc, State.fld_addSat_reg _ _ (by decide), State.fld_putBit_field _ _ (by decide) (by decide), State.twbWhy,
      State.fld_put _ _ (by decide)]
    exact Nat.mod_eq_of_lt h
  · rw [State.twbDisc, State.bit_addSat_reg _ _ (by decide), State.bit_putBit_eq _ _ (by decide), if_pos rfl]
  · rw [State.twbDisc, State.fld_addSat _ _ _ (by decide), State.fld_putBit_reg _ _ (by decide), State.twbWhy,
      State.fld_put_reg _ _ (by decide)]
    rfl

/-! ### A transaction reaches the device -/

theorem State.served_of_accepts (h : s.accepts = true) : s.served = true := by
  simp only [State.accepts, Bool.and_eq_true] at h
  exact h.1

section

variable (x : TwbWrite) (y : TwbRead) (hy : s.twbOwn y.addr = true) (hx : s.twbOwn x.addr = true)
  (hawake : s.twbSleeps = false)

include hx hawake

theorem exec_twbWrite (ha : s.accepts = true) : exec (.twbWriteTransaction x) s = .next (s.twbWrite x) := by
  refine congrArg Host.Outcome.next ?_
  rw [if_neg (by simp [hx]), if_neg (by simp [hawake]), if_neg (by simp [State.served_of_accepts ha]),
    if_neg (by simp [State.expired_of_accepts ha])]

theorem exec_twbWrite_expired (hs : s.served = true) (he : s.wd.expired = true) (hb : x.begun = true) :
    exec (.twbWriteTransaction x) s = .next (s.twbDropped x) := by
  refine congrArg Host.Outcome.next ?_
  rw [if_neg (by simp [hx]), if_neg (by simp [hawake]), if_neg (by simp [hs]), if_pos he, if_pos hb]

omit hx
include hy

theorem exec_twbRead (ha : s.accepts = true) : exec (.twbReadTransaction y) s =
    .next ({ (s.twbRead y).2 with tb := { (s.twbRead y).2.tb with out := (s.twbRead y).1 } } : State).twbDone := by
  refine congrArg Host.Outcome.next ?_
  rw [if_neg (by simp [hy]), if_neg (by simp [hawake]),
    if_neg (by simp [State.served_of_accepts ha, State.expired_of_accepts ha])]

end

section

variable (ha : s.accepts = true) (hawake : s.twbSleeps = false) (hon : s.bit .TWB_CFG 30 = true)
include ha hawake hon

theorem exec_twbTimeout_write : exec (.twbTimeout .write) s = .next ((s.setFlag .TWB_FLAG 2).twbDisc 3) :=
  congrArg Host.Outcome.next (if_neg (by simp [ha, hawake, hon]))

theorem exec_twbTimeout_read (n : Nat) : exec (.twbTimeout (.read n)) s =
    .next (({ ((s.setFlag .TWB_FLAG 2).twbData n).2 with
      tb := { ((s.setFlag .TWB_FLAG 2).twbData n).2.tb with out := ((s.setFlag .TWB_FLAG 2).twbData n).1 } } : State).twbWhy 3) :=
  congrArg Host.Outcome.next (if_neg (by simp [ha, hawake, hon]))

end

/-! ### Writes -/

/-- Without PEC the bytes of a write are its pointer and its data. -/
theorem State.twbWrite_plain {x : TwbWrite} {hi lo : Byte} {data : List Byte} (hpec : s.bit .TWB_CFG 31 = false)
    (hx : x.bytes = hi :: lo :: data) : s.twbWrite x = s.twbWriteAt (256 * hi.toNat + lo.toNat) data true := by
  simp [State.twbWrite, hpec, hx]

/-- A wrong PEC byte makes the judgement fail. -/
theorem State.twbWrite_wrongPec {x : TwbWrite} {hi lo p : Byte} {data : List Byte} (hpec : s.bit .TWB_CFG 31 = true)
    (hx : x.bytes = hi :: lo :: (data ++ [p])) (hp : p ≠ crc8 (addrByte x.addr false :: hi :: lo :: data)) :
    s.twbWrite x = s.twbWriteAt (256 * hi.toNat + lo.toNat) data false := by
  have hbody : x.bytes.dropLast = hi :: lo :: data := by
    rw [hx, show hi :: lo :: (data ++ [p]) = (hi :: lo :: data) ++ [p] from rfl, List.dropLast_concat]
  have hlast : x.bytes.getLast?.getD 0#8 = p := by
    rw [hx, show hi :: lo :: (data ++ [p]) = (hi :: lo :: data) ++ [p] from rfl, List.getLast?_concat]
    rfl
  have hwrong : (crc8 (addrByte x.addr false :: hi :: lo :: data) == p) = false := beq_eq_false_iff_ne.2 (Ne.symm hp)
  simp [State.twbWrite, hpec, hbody, hlast, hwrong]

/-- A write in parts: what the flag of a cut leaves, and the end with the pointer behind the applied bytes. -/
def State.twbCut (s : State) (p : Nat) (data : List Byte) : State :=
  if 32 - p % 32 < data.length then s.setFlagI .TWB_FLAG 0 (p + (32 - p % 32)) 0 else s

theorem State.twbWriteAt_bad (p : Nat) (data : List Byte) :
    s.twbWriteAt p data false = ((s.twbCut p data).setFlag .TWB_FLAG 1).twbDisc 1 := by
  simp [State.twbWriteAt, State.twbCut]

theorem State.twbWriteAt_good (p : Nat) (data : List Byte) : s.twbWriteAt p data true =
    if 32 - p % 32 < data.length then
      (((State.twbApply s.winBase 9 (s.twbCut p data) p (data.take (32 - p % 32))).setPtr
        (p + (data.take (32 - p % 32)).length)).twbDone).twbDisc 2
    else ((State.twbApply s.winBase 9 (s.twbCut p data) p (data.take (32 - p % 32))).setPtr
        (p + (data.take (32 - p % 32)).length)).twbDone := by
  simp [State.twbWriteAt, State.twbCut]

theorem State.rd_twbCut {p : Nat} {data : List Byte} {q : Reg} (hq : q.sensed = false) (h : q ≠ .TWB_FLAG) :
    (s.twbCut p data).rd q = s.rd q := by
  unfold State.twbCut
  split
  · exact State.rd_setFlagI_reg _ _ (by decide) hq h
  · rfl

/-- A pointer's place in its page is that of its low byte. -/
theorem page_of_ptr (hi lo : Byte) : (256 * hi.toNat + lo.toNat) % 32 = lo.toNat % 32 := by omega

theorem State.ptr_twbWriteAt (p : Nat) (data : List Byte) :
    (s.twbWriteAt p data true).twbPtr = (p + min data.length (32 - p % 32)) % 65536 := by
  rw [State.twbWriteAt_good]
  split
  · rw [State.twbPtr_congr (State.rd_twbDisc (by decide) (by decide)), State.twbPtr_congr (State.rd_twbDone (by decide)),
      State.twbPtr_setPtr, List.length_take, Nat.min_comm]
  · rw [State.twbPtr_congr (State.rd_twbDone (by decide)), State.twbPtr_setPtr, List.length_take, Nat.min_comm]

/-! ### One word -/

/-- The number that bytes spell, little endian. -/
def bytesValue : List Byte → Nat
  | [] => 0
  | b :: l => b.toNat + 256 * bytesValue l

theorem placeBytes_eq (o : Nat) (l : List Byte) : placeBytes o l = BitVec.ofNat 32 (256 ^ o * bytesValue l) := by
  induction l generalizing o with
  | nil => rfl
  | cons b l ih =>
    have hbyte : b.toNat * 256 ^ o < 2 ^ (8 * (o + 1)) := by
      rw [Nat.mul_add, Nat.mul_one, Nat.pow_add, Nat.pow_mul, Nat.mul_comm]
      exact Nat.mul_lt_mul_of_pos_left b.isLt (Nat.pow_pos (by decide))
    have hplace : 256 ^ (o + 1) * bytesValue l = 2 ^ (8 * (o + 1)) * bytesValue l := by rw [Nat.pow_mul]
    rw [placeBytes, ih, ← BitVec.ofNat_or, hplace, Nat.or_comm, ← Nat.two_pow_add_eq_or_of_lt hbyte, ← hplace, bytesValue]
    congr 1
    ring

theorem placeBytes_word (w : Word) : placeBytes 0 (bytesOfWords [w]) = w := by
  rw [placeBytes_eq, Nat.pow_zero, Nat.one_mul]
  exact wordOf_byteOf w

end Sys2Proof.Machine

/-!
SUPPORT. Words and bytes of a transaction of the two-wire bus (R402, R403), and the obligation on the target.
-/

namespace Sys2Proof.Machine

variable {s : State}

/-! ### A word that is written -/

theorem State.windowServed_of_firmware (h : s.loader = false) (base p : Nat) : s.windowServed base p = true := by
  simp [State.windowServed, h]

/-- Four bytes at a word's place are one whole word of the bus. -/
theorem State.twbApply_word {base n p : Nat} {w : Word} (ha : s.accepts = true) (hl : s.loader = false) (hp : p % 4 = 0) :
    State.twbApply base (n + 2) s p (bytesOfWords [w]) = s.busStore .twoWire (windowAddr base p) w 0xF#4 := by
  have hlength : (bytesOfWords [w]).length = 4 := by simp
  have hsome : ¬ (bytesOfWords [w]).isEmpty = true := Bool.false_ne_true
  have hall : (bytesOfWords [w]).take (4 - p % 4) = bytesOfWords [w] := List.take_of_length_le (by omega)
  have hnone : (bytesOfWords [w]).drop 4 = [] := List.drop_of_length_le (by omega)
  have hbe : BitVec.ofNat 4 ((2 ^ 4 - 1) * 2 ^ (p % 4)) = 0xF#4 := by rw [hp]; rfl
  rw [State.twbApply, if_neg hsome]
  dsimp only
  rw [hall, hlength, hbe, hnone, hp, placeBytes_word, if_pos (State.windowServed_of_firmware hl base p), State.twbApply,
    if_pos List.isEmpty_nil, State.twbWord, if_neg (by simp [State.expired_of_accepts ha]), Nat.sub_zero]

/-! ### Bytes that are read -/

/-- A read returns as many bytes as it is asked for, where its bound covers their words. -/
theorem State.length_twbBytes {base lim w p n : Nat} (h : n = 0 ∨ n + p % 4 ≤ 4 * w) :
    (State.twbBytes base lim w s p n).1.length = n := by
  induction w generalizing s p n with
  | zero =>
    rw [State.twbBytes, List.length_nil]
    omega
  | succ w ih =>
    rw [State.twbBytes]
    split
    next hzero => exact hzero.symm
    next hsome =>
      split
      next => exact List.length_replicate
      next =>
        dsimp only
        rw [List.length_append, ih (by omega), List.length_take, List.length_drop, length_bytesOfWords, List.length_singleton]
        omega

theorem State.length_twbData (n : Nat) : (s.twbData n).1.length = n := by
  have hall (lim : Nat) := State.length_twbBytes (s := s) (base := s.winBase) (lim := lim) (w := n / 4 + 2) (p := s.twbPtr)
    (n := n) (.inr (by omega))
  unfold State.twbData
  dsimp only
  generalize (if 0xFF00 ≤ s.twbPtr then 0xFFFF else 0xFEFF) = lim
  split
  · exact hall lim
  · exact hall lim

theorem State.length_twbRead (y : TwbRead) : (s.twbRead y).1.length = y.n := by
  unfold State.twbRead
  split
  · dsimp only
    rw [List.length_take, List.length_append, List.length_cons, List.length_replicate]
    omega
  · exact State.length_twbData _

/-- A read of one word inside the window samples that word alone. -/
theorem State.twbData_word (hl : s.loader = false) (hp : s.twbPtr % 4 = 0) (hroom : s.twbPtr + 4 ≤ 0xFF00) :
    s.twbData 4 = (bytesOfWords [(s.busRead .twoWire (windowAddr s.winBase s.twbPtr)).1],
      (s.busRead .twoWire (windowAddr s.winBase s.twbPtr)).2.setPtr (s.twbPtr + 4)) := by
  have hbytes : State.twbBytes s.winBase 0xFEFF (4 / 4 + 2) s s.twbPtr 4 =
      (bytesOfWords [(s.busRead .twoWire (windowAddr s.winBase s.twbPtr)).1],
        (s.busRead .twoWire (windowAddr s.winBase s.twbPtr)).2) := by
    rw [State.twbBytes, if_neg (by decide), if_neg (by omega)]
    dsimp only
    rw [hp, if_pos (State.windowServed_of_firmware hl _ _), Nat.sub_zero, Nat.sub_zero, Nat.min_self, Nat.sub_self,
      State.twbBytes, if_pos rfl, List.append_nil, List.drop_zero, List.take_of_length_le (by simp)]
  unfold State.twbData
  dsimp only
  rw [if_neg (by omega : ¬ 0xFF00 ≤ s.twbPtr), if_neg (by omega), hbytes]

theorem State.twbWhy_shows {why : Nat} (h : why < 16) : (s.twbWhy why).fld .SYS_TWSTAT Fld.SYS_TWSTAT_WHY = why := by
  rw [State.twbWhy, State.fld_put _ _ (by decide)]
  exact Nat.mod_eq_of_lt h

/-- Settles O36: a write is applied word by word up to its page's end or discarded with its cause, a read returns the bytes
asked for, and a sleeping interface notes the first NACK. -/
theorem twoWireTarget : Obligations.TwoWireTarget := by
  unfold Obligations.TwoWireTarget
  refine ⟨?word, ?pointer, ?pec, ?expiry, ?other, ?wordRead, ?bytes, ?dropped, ?cut, ?nack⟩
  case word =>
    intro x hi lo w s hx hawake ha hpec hl hbytes hlo
    have hlength : (bytesOfWords [w]).length = 4 := by simp
    have hpage := page_of_ptr hi lo
    have hroom : ¬ 32 - (256 * hi.toNat + lo.toNat) % 32 < (bytesOfWords [w]).length := by omega
    have hall : (bytesOfWords [w]).take (32 - (256 * hi.toNat + lo.toNat) % 32) = bytesOfWords [w] :=
      List.take_of_length_le (by omega)
    rw [exec_twbWrite x hx hawake ha, State.twbWrite_plain hpec hbytes, State.twbWriteAt_good, if_neg hroom, State.twbCut,
      if_neg hroom, hall, State.twbApply_word ha hl (by omega), hlength]
  case pointer =>
    intro x hi lo data s hx hawake ha hpec hbytes
    refine ⟨_, exec_twbWrite x hx hawake ha, ?_⟩
    rw [State.twbWrite_plain hpec hbytes, State.ptr_twbWriteAt, page_of_ptr]
    refine ⟨rfl, fun hcut => ?_⟩
    rw [State.twbWriteAt_good, if_pos (by rwa [page_of_ptr])]
    obtain ⟨hwhy, hdisc, -⟩ := State.twbDisc_shows (why := 2)
      (s := ((State.twbApply s.winBase 9 (s.twbCut (256 * hi.toNat + lo.toNat) data) (256 * hi.toNat + lo.toNat)
        (data.take (32 - (256 * hi.toNat + lo.toNat) % 32))).setPtr (256 * hi.toNat + lo.toNat +
          (data.take (32 - (256 * hi.toNat + lo.toNat) % 32)).length)).twbDone) (by decide)
    exact ⟨hwhy, hdisc⟩
  case pec =>
    intro x hi lo data p s hx hawake ha hpec hbytes hp
    refine ⟨_, exec_twbWrite x hx hawake ha, ?_⟩
    rw [State.twbWrite_wrongPec hpec hbytes hp, State.twbWriteAt_bad]
    obtain ⟨hwhy, hdisc, hcount⟩ := State.twbDisc_shows (why := 1)
      (s := (s.twbCut (256 * hi.toNat + lo.toNat) data).setFlag .TWB_FLAG 1) (by decide)
    have hkept {q : Reg} (hq : q.sensed = false) (h : q ≠ .TWB_FLAG) :
        ((s.twbCut (256 * hi.toNat + lo.toNat) data).setFlag .TWB_FLAG 1).rd q = s.rd q :=
      (State.rd_setFlagI_reg _ _ (by decide) hq h).trans (State.rd_twbCut hq h)
    refine ⟨?_, hwhy, hdisc, ?_, hcount.trans ?_⟩
    · rw [State.bit_congr (State.rd_twbDisc (by decide) (by decide))]
      exact State.bit_setFlagI _ _ _ _ (by decide) (by decide) (by decide)
    · exact State.twbPtr_congr ((State.rd_twbDisc (by decide) (by decide)).trans (hkept rfl (by decide)))
    · rw [State.fld_congr (hkept rfl (by decide))]
  case expiry =>
    intro x hi lo data s hx hawake hs he hpec hb hbytes
    refine ⟨_, exec_twbWrite_expired x hx hawake hs he hb, ?_⟩
    rw [State.twbDropped, hpec, if_neg (by simp), hbytes]
    dsimp only
    obtain ⟨hwhy, hdisc, -⟩ := State.twbDisc_shows (why := 4)
      (s := s.gap 6 0 (wordsTouched (256 * hi.toNat + lo.toNat)
        (min data.length (32 - (256 * hi.toNat + lo.toNat) % 32))) 0) (by decide)
    exact ⟨hwhy, hdisc, rfl, State.twbPtr_congr ((State.rd_twbDisc (by decide) (by decide)).trans rfl)⟩
  case other =>
    intro x y s hx hy
    exact ⟨congrArg Host.Outcome.next (if_pos (by simp [hx])), congrArg Host.Outcome.next (if_pos (by simp [hy]))⟩
  case wordRead =>
    intro x s hx hawake ha hpec hn hp hroom hl
    refine ⟨_, exec_twbRead x hx hawake ha, ?_⟩
    have hread : s.twbRead x = s.twbData 4 := by rw [State.twbRead, hpec, if_neg (by simp), hn]
    rw [hread, State.twbData_word hl hp hroom]
    refine ⟨rfl, (State.twbPtr_congr (State.rd_twbDone (by decide))).trans ((State.twbPtr_setPtr _).trans ?_)⟩
    omega
  case bytes =>
    intro x s hx hawake ha
    exact ⟨_, exec_twbRead x hx hawake ha, State.length_twbRead x⟩
  case dropped =>
    intro s ha hawake hon
    obtain ⟨hwhy, hdisc, -⟩ := State.twbDisc_shows (why := 3) (s := s.setFlag .TWB_FLAG 2) (by decide)
    refine ⟨_, exec_twbTimeout_write ha hawake hon, ?_, hwhy, hdisc, ?_⟩
    · rw [State.bit_congr (State.rd_twbDisc (by decide) (by decide))]
      exact State.bit_setFlagI _ _ _ _ (by decide) (by decide) (by decide)
    · exact State.twbPtr_congr ((State.rd_twbDisc (by decide) (by decide)).trans
        (State.rd_setFlagI_reg _ _ (by decide) rfl (by decide)))
  case cut =>
    intro n s ha hawake hon
    exact ⟨_, exec_twbTimeout_read ha hawake hon n, State.length_twbData n, State.twbWhy_shows (by decide)⟩
  case nack =>
    intro s hmode hnack
    refine ⟨_, rfl, ?_⟩
    have hfirst : ¬ (s.pw.nack || (s.pw.mode != .sleep && s.pw.mode != .deep)) = true := by
      rcases hmode with h | h <;> simp [h, hnack]
    unfold State.wakeNack
    rw [if_neg hfirst]
    split
    next => exact ⟨congrArg PwX.nack (State.setFlagI_eventsOnly ..).pw,
      fun _ => State.bit_setFlagI _ _ _ _ (by decide) (by decide) (by decide)⟩
    next hdeep => exact ⟨rfl, fun hsleep => absurd hsleep hdeep⟩

end Sys2Proof.Machine

/-!
SUPPORT. Frames that are queued at ports: what a new frame holds, and what a send and the sends of a loop leave (R351, R357).
-/

namespace Sys2Proof.Machine

variable {s t : State}

/-! ### New frames -/

section

variable (typ cls : Nat) (path : Bool) (dst src hop ttl : Nat) (flow : Option Nat) (arg0 : Word) (arg1 : Nat)
  (payload : List Byte)

theorem Frame.typ_make (h : typ < 16) : (Frame.make typ cls path dst src hop ttl flow arg0 arg1 payload).typ = typ := by
  change getF (putF (putF (putF (putF (putF 0#32 ⟨31, 28⟩ typ) ⟨27, 26⟩ cls) ⟨25, 25⟩ (b2n path)) ⟨23, 12⟩ dst) ⟨11, 0⟩ src)
    ⟨31, 28⟩ = typ
  rw [getF_putF_other _ _ _ _ (by decide) (by decide), getF_putF_other _ _ _ _ (by decide) (by decide),
    getF_putF_other _ _ _ _ (by decide) (by decide), getF_putF_other _ _ _ _ (by decide) (by decide),
    getF_putF _ _ _ (by decide)]
  exact Nat.mod_eq_of_lt h

theorem Frame.arg0_make : (Frame.make typ cls path dst src hop ttl flow arg0 arg1 payload).arg0 = arg0 := rfl

theorem Frame.payload_make : (Frame.make typ cls path dst src hop ttl flow arg0 arg1 payload).payload = payload := rfl

end

/-! ### Queues of ports -/

theorem mem_queueFrame {f g : Frame} {l : List Frame} : g ∈ queueFrame f l ↔ g = f ∨ g ∈ l := by
  induction l with
  | nil => simp [queueFrame]
  | cons x l ih =>
    rw [queueFrame]
    split
    · rw [List.mem_cons, ih, List.mem_cons]
      tauto
    · simp

theorem State.txq_send (p q : Nat) (f : Frame) : (s.send p f).txq q = if q = p then queueFrame f (s.txq p) else s.txq q :=
  Tab.get_set ..

theorem State.mem_txq_send (p : Nat) (f : Frame) : f ∈ (s.send p f).txq p := by
  rw [State.txq_send, if_pos rfl, mem_queueFrame]
  exact .inl rfl

/-- Nothing but frames has been queued: registers stay, and every waiting frame waits on. -/
structure Queues (s t : State) : Prop where
  regs : t.regs = s.regs
  txq : ∀ p, ∀ g ∈ s.txq p, g ∈ t.txq p

theorem Queues.refl (s : State) : Queues s s := ⟨rfl, fun _ _ h => h⟩

theorem Queues.trans {u : State} (h : Queues s t) (k : Queues t u) : Queues s u :=
  ⟨k.regs.trans h.regs, fun p g hg => k.txq p g (h.txq p g hg)⟩

theorem Queues.send (p : Nat) (f : Frame) : Queues s (s.send p f) := by
  refine ⟨rfl, fun q g hg => ?_⟩
  rw [State.txq_send]
  split
  next h =>
    rw [mem_queueFrame]
    exact .inr (h ▸ hg)
  next => exact hg

theorem Queues.each {α : Type} {k : α → State → State} (hk : ∀ x s, Queues s (k x s)) (l : List α) : Queues s (each l k s) := by
  unfold Machine.each
  induction l generalizing s with
  | nil => exact Queues.refl s
  | cons x l ih => exact (hk x s).trans ih

/-- Each round of a loop of sends leaves what it has queued. -/
theorem Queues.each_mem {α : Type} {k : α → State → State} {port : α → Nat} {Q : α → Frame → Prop}
    (hk : ∀ x s, Queues s (k x s)) (hQ : ∀ x s, ∃ f ∈ (k x s).txq (port x), Q x f) (l : List α) :
    ∀ x ∈ l, ∃ f ∈ (Machine.each l k s).txq (port x), Q x f := by
  intro x hx
  unfold Machine.each
  induction l generalizing s with
  | nil => cases hx
  | cons y l ih =>
    rcases List.mem_cons.1 hx with rfl | hx
    · obtain ⟨f, hf, hq⟩ := hQ x s
      exact ⟨f, (Queues.each hk l).txq _ f hf, hq⟩
    · exact ih hx

end Sys2Proof.Machine

/-!
SUPPORT. Station time: REQ and RESP, the trim and the step of an accepted SYNC, holdover and TIM_SETCTL (R389 to R393).
-/

namespace Sys2Proof.Machine

variable {s t : State}

/-! ### Frames of a period -/

/-- A round of a period at one port: its REQ, and the moment it left. -/
def State.reqSent (s : State) (p : Nat) : State :=
  let s2 := s.send p (s.timeFrame 2 (s.stampBytes ++ List.replicate 6 0#8))
  { s2 with tm := { s2.tm with t1 := s2.tm.t1.set p s2.timeTenths } }

theorem Queues.reqSent (p : Nat) : Queues s (s.reqSent p) :=
  ⟨rfl, (Queues.send p (s.timeFrame 2 (s.stampBytes ++ List.replicate 6 0#8))).txq⟩

/-- The TIME frame of a REQ. -/
theorem State.mem_reqSent (p : Nat) : ∃ f ∈ (s.reqSent p).txq p, f.typ = 10 ∧ timeKind f = 2 :=
  ⟨_, State.mem_txq_send p _, Frame.typ_make _ _ _ _ _ _ _ _ _ _ _ (by decide), rfl⟩

theorem exec_syncPeriod : ∃ t, exec .syncPeriod s = .next t ∧ Queues (each s.upPorts (fun p s => s.reqSent p) s) t := by
  refine ⟨_, rfl, ?_⟩
  dsimp only
  split
  · exact Queues.refl _
  · exact Queues.each (fun p s => Queues.send p _) _

/-! ### States of the clock -/

/-- The clock's state is shown; a flag notes its lock and its holdover. -/
theorem State.setTim_cases (st : Nat) : s.setTim st = s.put .TIM_STATUS Fld.TIM_STATUS_STATE st ∨
    ∃ b < 32, s.setTim st = (s.put .TIM_STATUS Fld.TIM_STATUS_STATE st).setFlag .TIM_FLAG b := by
  unfold State.setTim
  dsimp only
  split
  · exact .inr ⟨0, by decide, rfl⟩
  · split
    · exact .inr ⟨1, by decide, rfl⟩
    · exact .inl rfl

theorem State.rd_setTim {st : Nat} {q : Reg} (hq : q.sensed = false) (h : q ≠ .TIM_FLAG) :
    (s.setTim st).rd q = (s.put .TIM_STATUS Fld.TIM_STATUS_STATE st).rd q := by
  rcases State.setTim_cases (s := s) st with hs | ⟨b, hb, hs⟩
  · rw [hs]
  · rw [hs, State.setFlag, State.rd_setFlagI_reg _ _ hb hq h]

theorem State.timSt_setTim {st : Nat} (h : st < 8) : (s.setTim st).timSt = st := by
  rw [State.timSt, State.fld_congr (State.rd_setTim rfl (by decide)), State.fld_put _ _ (by decide)]
  exact Nat.mod_eq_of_lt h

theorem State.depth_setTim (st : Nat) :
    (s.setTim st).fld .TIM_STATUS Fld.TIM_STATUS_DEPTH = s.fld .TIM_STATUS Fld.TIM_STATUS_DEPTH := by
  rw [State.fld_congr (State.rd_setTim rfl (by decide)), State.fld_put_field _ _ (by decide) (by decide)]

theorem State.rd_setTim_other {st : Nat} {q : Reg} (hq : q.sensed = false) (hflag : q ≠ .TIM_FLAG) (h : q ≠ .TIM_STATUS) :
    (s.setTim st).rd q = s.rd q := by
  rw [State.rd_setTim hq hflag, State.rd_put, if_neg h]

theorem State.fields_setTim (st : Nat) : (s.setTim st).tm = s.tm ∧ (s.setTim st).clock = s.clock := by
  rcases State.setTim_cases (s := s) st with hs | ⟨b, hb, hs⟩
  · rw [hs]
    exact ⟨rfl, rfl⟩
  · rw [hs]
    exact ⟨(State.setFlagI_eventsOnly ..).tm, (State.setFlagI_eventsOnly ..).clock⟩

/-- A flag that is set stays when the clock's state changes. -/
theorem State.flag_setTim {st b : Nat} (h : s.bit .TIM_FLAG b = true) : (s.setTim st).bit .TIM_FLAG b = true := by
  have hput : (s.put .TIM_STATUS Fld.TIM_STATUS_STATE st).bit .TIM_FLAG b = true := by
    rw [State.bit_put_reg _ _ (by decide), h]
  rcases State.setTim_cases (s := s) st with hs | ⟨c, hc, hs⟩
  · rw [hs, hput]
  · rw [hs, State.setFlag, State.bit_setFlagI_eq _ _ hc rfl, hput, Bool.true_or]

/-! ### An accepted SYNC -/

theorem exec_syncReceive {p : Fin 4} {f : Frame} (hin : s.timeIn p f 1 16 = true) (hroot : s.isRoot = false)
    (hport : s.syncPort = some p.val)
    (hepoch : leNat ((f.payload.drop 12).take 2) = s.fld .LNK_ADDR Fld.LNK_ADDR_EPOCH)
    (haddr : leNat ((f.payload.drop 14).take 2) = s.fld .LNK_ROOT Fld.LNK_ROOT_ADDR) : exec (.syncReceive p f) s =
    .next (s.syncTake (stampAt f.payload 0 + (s.fld (.TIM_DELAY p) Fld.TIM_DELAY_DELAY : Rat) - s.timeTenths)
      (leNat ((f.payload.drop 10).take 1))) :=
  congrArg Host.Outcome.next (if_neg (by simp [hin, hroot, hport, hepoch, haddr]))

/-- An accepted SYNC has shown its depth and its error. -/
def State.syncShown (s : State) (e : Rat) (depth : Nat) : State :=
  (s.put .TIM_STATUS Fld.TIM_STATUS_DEPTH (depth + 1)).put .TIM_OFFSET Fld.TIM_OFFSET_OFS
    (ofSigned 16 (clampI (-32768) 32767 (roundOpen e)))

/-- The trim of a small error. -/
def State.syncTrim (s : State) (e : Rat) : Int :=
  clampI (-10000) 10000 (roundOpen (e * 10000 / ((max 100 (s.fld .TIM_CFG Fld.TIM_CFG_SYNCP) : Nat) : Rat)))

/-- The size of an error. -/
def errSize (e : Rat) : Rat := if e < 0 then -e else e

/-- The number of good SYNCs in a row. -/
def State.withGood (s : State) (n : Nat) : State := { s with tm := { s.tm with good := n } }

theorem State.rd_withGood (n : Nat) (q : Reg) : (s.withGood n).rd q = s.rd q := rfl

/-- The rate is trimmed, and the good SYNCs are counted. -/
def State.syncTrimmed (s : State) (e : Rat) (depth : Nat) : State :=
  ((s.syncShown e depth).put .TIM_OFFSET Fld.TIM_OFFSET_FADJ (ofSigned 16 (s.syncTrim e))).withGood
    (if errSize e ≤ 50 then s.tm.good + 1 else 0)

/-- The time is stepped. -/
def State.syncStepped (s : State) (e : Rat) (depth : Nat) : State :=
  (((s.syncShown e depth).stepTime (s.timeTenths + e)).setFlag .TIM_FLAG 2).withGood 0

/-- The state of the clock after a small error. -/
def State.syncSettled (s : State) (e : Rat) : State :=
  if s.timSt = 3 then (if 100 < errSize e then s.setTim 2 else s)
  else if 8 ≤ s.tm.good then s.setTim 3 else s.setTim 2

theorem State.syncTake_large {e : Rat} {depth : Nat} (h : 10000 < errSize e) :
    s.syncTake e depth = (s.syncStepped e depth).setTim 2 := if_pos h

theorem State.syncTake_small {e : Rat} {depth : Nat} (h : ¬ 10000 < errSize e) :
    s.syncTake e depth = (s.syncTrimmed e depth).syncSettled e := if_neg h

/-- The state of the clock alone changes when a SYNC has settled. -/
theorem State.syncSettled_cases (e : Rat) : s.syncSettled e = s ∨ ∃ st < 8, s.syncSettled e = s.setTim st := by
  unfold State.syncSettled
  split
  · split
    · exact .inr ⟨2, by decide, rfl⟩
    · exact .inl rfl
  · split
    · exact .inr ⟨3, by decide, rfl⟩
    · exact .inr ⟨2, by decide, rfl⟩

theorem State.depth_syncSettled (e : Rat) :
    (s.syncSettled e).fld .TIM_STATUS Fld.TIM_STATUS_DEPTH = s.fld .TIM_STATUS Fld.TIM_STATUS_DEPTH := by
  rcases State.syncSettled_cases (s := s) e with h | ⟨st, -, h⟩
  · rw [h]
  · rw [h, State.depth_setTim]

theorem State.rd_syncSettled {e : Rat} {q : Reg} (hq : q.sensed = false) (hflag : q ≠ .TIM_FLAG) (hst : q ≠ .TIM_STATUS) :
    (s.syncSettled e).rd q = s.rd q := by
  rcases State.syncSettled_cases (s := s) e with h | ⟨st, -, h⟩
  · rw [h]
  · rw [h, State.rd_setTim_other hq hflag hst]

theorem State.fields_syncSettled (e : Rat) : (s.syncSettled e).tm = s.tm ∧ (s.syncSettled e).clock = s.clock := by
  rcases State.syncSettled_cases (s := s) e with h | ⟨st, -, h⟩
  · rw [h]
    exact ⟨rfl, rfl⟩
  · rw [h]
    exact State.fields_setTim st

/-- A clock that is locked stays so exactly where the error is small. -/
theorem State.locked_syncSettled {e : Rat} (h : s.timSt = 3) :
    (s.syncSettled e).timSt = 3 ↔ ¬ 100 < errSize e := by
  rw [State.syncSettled, if_pos h]
  by_cases hlarge : 100 < errSize e
  · rw [if_pos hlarge, State.timSt_setTim (by decide)]
    simp [hlarge]
  · rw [if_neg hlarge]
    simp [hlarge, h]

theorem ofSigned_lt (n : Nat) (i : Int) : ofSigned n i < 2 ^ n := by
  have hpos : (0 : Int) < ((2 ^ n : Nat) : Int) := by exact_mod_cast Nat.two_pow_pos n
  have hlt := Int.emod_lt_of_pos i hpos
  have hge := Int.emod_nonneg i hpos.ne'
  unfold ofSigned
  omega

/-- What TIM_STATUS and TIM_OFFSET show of an accepted SYNC whose error is small. -/
theorem State.syncTrimmed_shows (e : Rat) (depth : Nat) :
    (s.syncTrimmed e depth).fld .TIM_STATUS Fld.TIM_STATUS_DEPTH = (depth + 1) % 256 ∧
    (s.syncTrimmed e depth).fld .TIM_OFFSET Fld.TIM_OFFSET_OFS = ofSigned 16 (clampI (-32768) 32767 (roundOpen e)) ∧
    (s.syncTrimmed e depth).fld .TIM_OFFSET Fld.TIM_OFFSET_FADJ = ofSigned 16 (s.syncTrim e) ∧
    (s.syncTrimmed e depth).timSt = s.timSt := by
  have hregs (q : Reg) : (s.syncTrimmed e depth).rd q =
    ((s.syncShown e depth).put .TIM_OFFSET Fld.TIM_OFFSET_FADJ (ofSigned 16 (s.syncTrim e))).rd q := State.rd_withGood _ q
  refine ⟨?depth, ?offset, ?trim, ?state⟩
  case depth =>
    rw [State.fld_congr (hregs _), State.fld_put_reg _ _ (by decide), State.syncShown, State.fld_put_reg _ _ (by decide),
      State.fld_put _ _ (by decide)]
    rfl
  case offset =>
    rw [State.fld_congr (hregs _), State.fld_put_field _ _ (by decide) (by decide), State.syncShown,
      State.fld_put _ _ (by decide)]
    exact Nat.mod_eq_of_lt (ofSigned_lt 16 _)
  case trim =>
    rw [State.fld_congr (hregs _), State.fld_put _ _ (by decide)]
    exact Nat.mod_eq_of_lt (ofSigned_lt 16 _)
  case state =>
    rw [State.timSt, State.fld_congr (hregs _), State.fld_put_reg _ _ (by decide), State.syncShown,
      State.fld_put_reg _ _ (by decide), State.fld_put_field _ _ (by decide) (by decide)]
    rfl

/-- The size of an error lies below a bound exactly where the error lies between the bound's two signs. -/
theorem abs_le_iff_between (e b : Rat) : errSize e ≤ b ↔ -b ≤ e ∧ e ≤ b := by
  unfold errSize
  split
  next h =>
    constructor
    · intro hb
      exact ⟨by linarith, by linarith⟩
    · rintro ⟨hlo, -⟩
      linarith
  next h =>
    constructor
    · intro hb
      exact ⟨by linarith, hb⟩
    · exact fun hb => hb.2

end Sys2Proof.Machine

/-!
SUPPORT. Steps of station time, summit marks and their banks (R393 to R396).
-/

namespace Sys2Proof.Machine

variable {s t : State}

/-! ### Steps -/

/-- A step to a whole number of ticks shows it. -/
theorem State.station_stepTime (n : Nat) :
    (s.stepTime ((40 * n : Nat) : Rat)).clock.station = BitVec.ofNat 64 n := by
  have hticks : ((((40 * n : Nat) : Rat).num / ((((40 * n : Nat) : Rat).den : Nat) : Int)) / 40) % ((2 ^ 64 : Nat) : Int) =
      ((n % 2 ^ 64 : Nat) : Int) := by
    rw [Rat.num_natCast, Rat.den_natCast]
    omega
  unfold State.stepTime
  dsimp only
  rw [hticks, Int.toNat_natCast]
  exact BitVec.eq_of_toNat_eq (by simp)

/-- The station clock of a step does not depend on registers. -/
theorem State.station_stepTime_congr {x : Rat} (hc : t.clock = s.clock) : (t.stepTime x).clock.station = (s.stepTime x).clock.station := by
  unfold State.stepTime
  rw [hc]

theorem exec_timeSet {i : Iface} {v : Word} (h : s.takes .TIM_SETCTL = true) :
    exec (.timeSet i v 0xF#4) s = .next (s.wrSetctl i v) := by
  refine congrArg Host.Outcome.next ?_
  rw [State.guardSent, State.guardWrite_takes h, if_pos (by decide), State.merged_whole]

/-! ### The begin of a mark -/

/-- An armed bank holds its mark. -/
theorem State.armMark_shows (m : MarkX) : (s.armMark m).armed (m.num % 4) = true ∧
    (s.armMark m).tm.marks.lookup (m.num % 4) = some m ∧ (s.armMark m).bit .TIM_FLAG 3 = true := by
  unfold State.armMark
  refine ⟨?_, ?_, State.bit_setFlagI _ _ _ _ (by decide) (by decide) (by decide)⟩
  · rw [State.armed, State.bit_setFlagI_reg _ _ (by decide) rfl (by decide)]
    exact (State.bit_putBit_eq .TIM_MARKSTAT true (b := 4 + m.num % 4) (by omega)).trans (if_pos rfl)
  · rw [(State.setFlagI_eventsOnly ..).tm]
    exact Tab.lookup_set ..

/-- The time a SUMMIT_MARK names. -/
def CmdSlot.markTime (c : CmdSlot) : Time := BitVec.ofNat 64 (c.p0.toNat + 2 ^ 32 * c.p1.toNat)

section

variable {k : Nat} (hb : s.begins 0xC2 k)
include hb

theorem exec_summitMark : exec (.summitMark .advance) s = .next ((s.setPhase k 1).summitMark k) :=
  congrArg Host.Outcome.next (State.ledgerRow_begins hb)

end

theorem State.markSlot_setPhase (k : Nat) : ((s.setPhase k 1).slot k).markTime = (s.slot k).markTime ∧
    ((s.setPhase k 1).slot k).p2 = (s.slot k).p2 := by
  rw [State.slot_setPhase]
  exact ⟨rfl, rfl⟩

/-- The mark of a command that may arm its bank. -/
def State.summitArmed (s : State) (k : Nat) : State :=
  s.armMark { num := (s.slot k).p2.toNat % 65536, time := (s.slot k).markTime, slot := some k }

theorem State.summitMark_arms {k : Nat} (hroot : s.isRoot = true)
    (htime : s.clock.station.toNat + 12500 ≤ (s.slot k).markTime.toNat)
    (hfree : s.armed ((s.slot k).p2.toNat % 65536 % 4) = false) :
    ∃ t, s.summitMark k = t ∧ Queues (s.summitArmed k) t ∧ t.tm = (s.summitArmed k).tm := by
  refine ⟨_, rfl, ?_⟩
  unfold State.summitMark
  dsimp only
  rw [← CmdSlot.markTime, if_neg (by simp [hroot]), if_neg (Nat.not_lt.2 htime), if_neg (by rw [hfree]; exact Bool.false_ne_true)]
  refine ⟨Queues.each (fun p s => Queues.send p _) _, ?_⟩
  exact each_same State.tm (f := fun p s => s.send p _) (fun _ _ => rfl) _

/-- The code with which a SUMMIT_MARK ends that may not arm its bank. -/
def State.summitCode (s : State) (k : Nat) : Nat :=
  if s.isRoot = false then 0x60 else if (s.slot k).markTime.toNat < s.clock.station.toNat + 12500 then 0x65 else 0x69

theorem State.summitMark_refused {k : Nat} (h : s.isRoot = false ∨
    (s.slot k).markTime.toNat < s.clock.station.toNat + 12500 ∨ s.armed ((s.slot k).p2.toNat % 65536 % 4) = true) :
    s.summitMark k = s.complete k (s.summitCode k) 0 := by
  unfold State.summitMark State.summitCode
  dsimp only
  rw [← CmdSlot.markTime]
  cases hroot : s.isRoot with
  | false => rw [if_pos (by simp), if_pos rfl]
  | true =>
    rw [if_neg (by decide : ¬ (!true) = true), if_neg (by decide : ¬ true = false)]
    by_cases htime : (s.slot k).markTime.toNat < s.clock.station.toNat + 12500
    · rw [if_pos htime, if_pos htime]
    · rw [if_neg htime, if_neg htime, if_pos]
      rcases h with h | h | h
      · exact absurd (hroot.symm.trans h) (by decide)
      · exact absurd h htime
      · exact h

end Sys2Proof.Machine

/-!
SUPPORT. Marks that arrive, the latch of their bank, and the words that stand in it (R395, R396).
-/

namespace Sys2Proof.Machine

variable {s t : State}

/-! ### A MARK of the root -/

section

variable {p : Fin 4} {f : Frame} {x : Time} {n : Nat} (hin : s.forHere p f 11 = true) (hlen : f.payload.length = 16)
  (hsrc : f.src = s.fld .LNK_ROOT Fld.LNK_ROOT_ADDR)
  (hepoch : leNat ((f.payload.drop 10).take 2) = s.fld .LNK_ADDR Fld.LNK_ADDR_EPOCH)
  (hx : x = BitVec.ofNat 64 (leNat (f.payload.take 8))) (hn : n = leNat ((f.payload.drop 8).take 2))
include hin hlen hsrc hepoch hx hn

theorem exec_markReceive_late (hlate : x.toNat < s.clock.station.toNat) :
    exec (.markReceive p f) s = .next (s.setFlagI .TIM_FLAG 5 n 0) := by
  subst hx hn
  exact congrArg Host.Outcome.next ((if_neg (by simp [hin, hlen, hsrc, hepoch])).trans (if_pos hlate))

/-- A mark that is in time arms its bank, with the command that had asked for it or without. -/
theorem exec_markReceive_armed (htime : ¬ x.toNat < s.clock.station.toNat) : ∃ u k,
    exec (.markReceive p f) s = .next (State.armMark u { num := n, time := x, slot := k }) := by
  subst hx hn
  have hpast : exec (.markReceive p f) s = .next
      (match (if s.armed (leNat ((f.payload.drop 8).take 2) % 4) then
        s.tm.marks.lookup (leNat ((f.payload.drop 8).take 2) % 4) else none) with
      | some m =>
        if m.num = leNat ((f.payload.drop 8).take 2) then
          s.armMark { num := leNat ((f.payload.drop 8).take 2), time := BitVec.ofNat 64 (leNat (f.payload.take 8)), slot := m.slot }
        else (s.setFlagI .TIM_FLAG 5 m.num 0).armMark
          { num := leNat ((f.payload.drop 8).take 2), time := BitVec.ofNat 64 (leNat (f.payload.take 8)) }
      | none => s.armMark
          { num := leNat ((f.payload.drop 8).take 2), time := BitVec.ofNat 64 (leNat (f.payload.take 8)) }) :=
    congrArg Host.Outcome.next ((if_neg (by simp [hin, hlen, hsrc, hepoch])).trans ((if_neg htime).trans rfl))
  rw [hpast]
  split
  · split
    · exact ⟨_, _, rfl⟩
    · exact ⟨_, none, rfl⟩
  · exact ⟨_, none, rfl⟩

end

/-! ### The latch -/

/-- A bank has sampled its words. -/
def State.markSampled (s : State) (b : Nat) (m : MarkX) : State :=
  ({ s with tm := { s.tm with marks := s.tm.marks.set b { m with sampled := some (s.bankWords m) } } } : State).put
    .TIM_MARKSTAT Fld.TIM_MARKSTAT_LASTNUM m.num

theorem exec_markLatch {b : Fin 4} {m : MarkX} (hm : s.tm.marks.lookup b.val = some m) (hp : s.powered .link = true)
    (ha : s.armed b = true) (hs : m.sampled = none) (ht : m.time.toNat ≤ s.clock.station.toNat) :
    exec (.markLatch b) s =
      .next (if m.late then (s.markSampled b m).setFlagI .TIM_FLAG 6 m.num 0 else s.markSampled b m) := by
  refine congrArg Host.Outcome.next ?_
  rw [hm]
  exact if_neg (by simpa [hp, ha, hs] using ht)

theorem State.markSampled_shows (b : Nat) (m : MarkX) :
    (s.markSampled b m).tm.marks.lookup b = some { m with sampled := some (s.bankWords m) } ∧
    (s.markSampled b m).fld .TIM_MARKSTAT Fld.TIM_MARKSTAT_LASTNUM = m.num % 65536 :=
  ⟨Tab.lookup_set .., State.fld_put _ _ (by decide)⟩

/-! ### The words of a bank -/

/-- Words stored from an index of a bank on. -/
def State.putBankFrom (s : State) (b m : Nat) (l : List Word) : State :=
  each ((List.range' m l.length).zip l) (fun x s => s.wr (.TIM_BANK (192 * b + x.1)) x.2) s

theorem State.putBankFrom_cons (b m : Nat) (w : Word) (l : List Word) :
    s.putBankFrom b m (w :: l) = (s.wr (.TIM_BANK (192 * b + m)) w).putBankFrom b (m + 1) l := rfl

theorem State.rd_putBankFrom_other {b m : Nat} {l : List Word} {q : Reg} (h : ∀ j, m ≤ j → q ≠ .TIM_BANK (192 * b + j)) :
    (s.putBankFrom b m l).rd q = s.rd q := by
  induction l generalizing s m with
  | nil => rfl
  | cons w l ih =>
    rw [State.putBankFrom_cons, ih fun j hj => h j (by omega), State.rd_wr, if_neg (h m (Nat.le_refl m))]

theorem State.rd_putBankFrom {b m j : Nat} {l : List Word} (hj : j < l.length) :
    (s.putBankFrom b m l).rd (.TIM_BANK (192 * b + (m + j))) = l.getD j 0#32 := by
  induction l generalizing s m j with
  | nil => exact absurd hj (Nat.not_lt_zero j)
  | cons w l ih =>
    rw [State.putBankFrom_cons]
    cases j with
    | zero =>
      rw [State.rd_putBankFrom_other fun j hj => by simp; omega, Nat.add_zero, State.rd_wr, if_pos rfl]
      rfl
    | succ j =>
      rw [show m + (j + 1) = m + 1 + j by omega, ih (Nat.lt_of_succ_lt_succ hj)]
      rfl

theorem State.putBankWords_eq (b : Nat) (l : List Word) : s.putBankWords b l = s.putBankFrom b 0 l := by
  rw [State.putBankWords, State.putBankFrom, List.range_eq_range']

theorem State.tm_putBankWords (b : Nat) (l : List Word) : (s.putBankWords b l).tm = s.tm :=
  each_same State.tm (f := fun (x : Nat × Word) s => s.wr (.TIM_BANK (192 * b + x.1)) x.2) (fun _ _ => rfl) _

/-! ### A mark is done -/

/-- The words of a mark stand in its bank, which is valid and armed no more. -/
def State.markStored (s : State) (b : Nat) (m : MarkX) (l : List Word) : State :=
  let s1 := ((s.putBankWords b l).putBit .TIM_MARKSTAT b true).putBit .TIM_MARKSTAT (4 + b) false
  ({ s1 with tm := { s1.tm with marks := s1.tm.marks.filter (fun e => e.1 != b) } } : State).setFlagI .TIM_FLAG 4 m.num 0

theorem State.rd_markStored {b : Nat} {m : MarkX} {l : List Word} {q : Reg} (hq : q.sensed = false) (h : q ≠ .TIM_FLAG) :
    (s.markStored b m l).rd q =
      (((s.putBankWords b l).putBit .TIM_MARKSTAT b true).putBit .TIM_MARKSTAT (4 + b) false).rd q :=
  State.rd_setFlagI_reg _ _ (by decide) hq h

theorem State.markStored_shows (b : Fin 4) (m : MarkX) (l : List Word) :
    (∀ j < l.length, (s.markStored b m l).rd (.TIM_BANK (192 * b + j)) = l.getD j 0#32) ∧
    (s.markStored b m l).bit .TIM_MARKSTAT b = true ∧ (s.markStored b m l).armed b = false ∧
    (s.markStored b m l).tm.marks.lookup b.val = none ∧ (s.markStored b m l).bit .TIM_FLAG 4 = true := by
  refine ⟨fun j hj => ?_, ?_, ?_, ?_, State.bit_setFlagI _ _ _ _ (by decide) (by decide) (by decide)⟩
  · have hword := State.rd_putBankFrom (s := s) (b := b.val) (m := 0) hj
    rw [Nat.zero_add] at hword
    rw [State.rd_markStored rfl (by simp), State.rd_putBit, if_neg (by simp), State.rd_putBit, if_neg (by simp),
      State.putBankWords_eq, hword]
  · rw [State.bit_congr (State.rd_markStored rfl (by decide)), State.bit_putBit_bit _ _ (by omega) (by omega),
      State.bit_putBit_eq _ _ (by omega), if_pos rfl]
  · rw [State.armed, State.bit_congr (State.rd_markStored rfl (by decide)), State.bit_putBit_eq _ _ (by omega), if_pos rfl]
  · rw [State.markStored, (State.setFlagI_eventsOnly ..).tm, List.lookup_eq_none_iff]
    intro e he
    have hother := (List.mem_filter.1 he).2
    rw [bne_iff_ne] at hother
    exact bne_iff_ne.2 (Ne.symm hother)

section

variable {b : Fin 4} {m : MarkX} {l : List Word} (hm : s.tm.marks.lookup b.val = some m) (hl : m.sampled = some l)
include hm hl

theorem exec_timMarkdone_own (hk : m.slot = none) : exec (.timMarkdone b) s = .next (s.markStored b m l) := by
  refine congrArg Host.Outcome.next ?_
  rw [hm]
  dsimp only
  rw [hl, hk]
  rfl

theorem exec_timMarkdone_command {k : Nat} (hk : m.slot = some k) :
    exec (.timMarkdone b) s = .next ((s.markStored b m l).complete k 0 m.num) := by
  refine congrArg Host.Outcome.next ?_
  rw [hm]
  dsimp only
  rw [hl, hk]
  rfl

end

theorem State.tm_complete (k code detail : Nat) : (s.complete k code detail).tm = s.tm := by
  change (s.complete k code detail).beyond.tm = s.beyond.tm
  rw [State.beyond_complete]

end Sys2Proof.Machine

/-!
SUPPORT. The obligation on station time and summit marks.
-/

namespace Sys2Proof.Machine

variable {s : State}

theorem exec_holdover (hp : s.powered .link = true) (hroot : s.isRoot = false) (hst : s.timSt = 2 ∨ s.timSt = 3) :
    exec .holdover s = .next ((s.withGood 0).setTim 4) :=
  congrArg Host.Outcome.next (if_pos (by rcases hst with h | h <;> simp [hp, hroot, h]))

/-- A clock that begins to hold over shows it with a flag. -/
theorem State.holdover_shows (hst : s.timSt ≠ 4) : (s.setTim 4).timSt = 4 ∧ (s.setTim 4).bit .TIM_FLAG 1 = true := by
  refine ⟨State.timSt_setTim (by decide), ?_⟩
  unfold State.setTim
  dsimp only
  rw [if_neg (by simp), if_pos ⟨rfl, hst⟩]
  exact State.bit_setFlagI _ _ _ _ (by decide) (by decide) (by decide)

/-- The link delay that a RESP gives, in tenths of a nanosecond. -/
def State.linkDelay (s : State) (t1 : Rat) (f : Frame) : Word :=
  BitVec.ofNat 32 (2 ^ 31 + (clampI 0 65535 (roundOpen
    (((s.timeTenths - t1) - (stampAt f.payload 10 - stampAt f.payload 0)) / 2))).toNat)

/-- A RESP has been taken: its REQ waits no more. -/
def State.respTaken (s : State) (p : Nat) (w : Word) : State :=
  let s1 := s.wr (.TIM_DELAY p) w
  { s1 with tm := { s1.tm with t1 := s1.tm.t1.filter (fun e => e.1 != p) } }

theorem exec_respReceive {t1 : Rat} {p : Fin 4} {f : Frame} (hin : s.timeIn p f 3 24 = true)
    (ht : s.tm.t1.lookup p.val = some t1) : exec (.respReceive p f) s = .next (s.respTaken p (s.linkDelay t1 f)) := by
  have hsome : (if s.timeIn p f 3 24 then s.tm.t1.lookup p.val else none) = some t1 := by rw [if_pos hin, ht]
  refine congrArg Host.Outcome.next ?_
  rw [hsome]
  rfl

theorem State.respTaken_shows (p : Nat) (w : Word) :
    (s.respTaken p w).rd (.TIM_DELAY p) = w ∧ (s.respTaken p w).tm.t1.lookup p = none := by
  refine ⟨(State.rd_wr ..).trans (if_pos rfl), ?_⟩
  rw [List.lookup_eq_none_iff]
  intro e he
  have hother := (List.mem_filter.1 he).2
  rw [bne_iff_ne] at hother
  exact bne_iff_ne.2 (Ne.symm hother)

/-- The number of ticks that TIM_SET names. -/
def State.setTicks (s : State) : Nat := (s.rd .TIM_SET_LO).toNat + 2 ^ 32 * (s.rd .TIM_SET_HI).toNat

/-- The time may be set. -/
def State.maySet (s : State) (i : Iface) : Prop :=
  i ≠ .line ∧ (s.isRoot = true ∨ s.timSt = 1) ∧ s.fld .TIM_MARKSTAT Fld.TIM_MARKSTAT_ARMED = 0

theorem State.wrSetctl_set {i : Iface} {v : Word} (hgo : wbit v 31 = true) (hkey : getF v Fld.TIM_SETCTL_KEY = 0x7E)
    (hmay : s.maySet i) : s.wrSetctl i v = (s.stepTime ((40 * s.setTicks : Nat) : Rat)).setFlag .TIM_FLAG 2 := by
  have hkeyed : ¬ (wbit v 31 = false ∨ getF v Fld.TIM_SETCTL_KEY ≠ 0x7E) := by simp [hgo, hkey]
  exact (if_neg hkeyed).trans (if_pos hmay)

theorem State.wrSetctl_refused {i : Iface} {v : Word} (hgo : wbit v 31 = true) (hkey : getF v Fld.TIM_SETCTL_KEY = 0x7E)
    (hmay : ¬ s.maySet i) : s.wrSetctl i v = s.setFlag .TIM_FLAG 7 := by
  have hkeyed : ¬ (wbit v 31 = false ∨ getF v Fld.TIM_SETCTL_KEY ≠ 0x7E) := by simp [hgo, hkey]
  exact (if_neg hkeyed).trans (if_neg hmay)

theorem State.station_setFlag (r : Reg) (b : Nat) : (s.setFlag r b).clock.station = s.clock.station := by
  rw [State.setFlag, (State.setFlagI_eventsOnly ..).clock]

/-- The station time of a SYNC's step is that of the step itself. -/
theorem State.station_syncStepped (e : Rat) (depth : Nat) :
    (s.syncStepped e depth).clock.station = (s.stepTime (s.timeTenths + e)).clock.station := by
  change (((s.syncShown e depth).stepTime (s.timeTenths + e)).setFlag .TIM_FLAG 2).clock.station = _
  rw [State.station_setFlag]
  exact State.station_stepTime_congr rfl

/-- Settles O35: a SYNC trims or steps the clock by the size of its error, and a mark arms its bank, latches it and leaves its
words there. -/
theorem stationTime : Obligations.StationTime := by
  unfold Obligations.StationTime
  refine ⟨?period, ?small, ?large, ?req, ?resp, ?set, ?holdover, ?mark, ?markRefused, ?markIn, ?latch, ?done⟩
  case period =>
    intro s
    obtain ⟨t, hexec, hqueues⟩ := exec_syncPeriod (s := s)
    refine ⟨t, hexec, hqueues.regs.trans (Queues.each (fun p s => Queues.reqSent p) _).regs, fun p hp => ?_⟩
    obtain ⟨f, hf, hkind⟩ := Queues.each_mem (s := s) (k := fun p s => s.reqSent p) (port := id)
      (Q := fun _ f => f.typ = 10 ∧ timeKind f = 2) (fun p s => Queues.reqSent p) (fun p s => State.mem_reqSent p) s.upPorts p hp
    exact ⟨f, hqueues.txq _ f hf, hkind⟩
  case small =>
    intro e p f s hin hroot hport hepoch haddr he hlo hhi
    obtain ⟨hdepth, hofs, htrim, hst⟩ := State.syncTrimmed_shows (s := s) e (leNat ((f.payload.drop 10).take 1))
    have hsmall : ¬ 10000 < errSize e := not_lt.2 ((abs_le_iff_between e 10000).2 ⟨hlo, hhi⟩)
    refine ⟨_, exec_syncReceive hin hroot hport hepoch haddr, ?_⟩
    rw [← he, State.syncTake_small hsmall, State.depth_syncSettled,
      State.fld_congr (State.rd_syncSettled rfl (by decide) (by decide)),
      State.fld_congr (State.rd_syncSettled rfl (by decide) (by decide)), (State.fields_syncSettled e).1,
      (State.fields_syncSettled e).2]
    refine ⟨hdepth, hofs, htrim, ?_, rfl, fun hlocked => ?_⟩
    · exact if_congr (abs_le_iff_between e 50) rfl rfl
    · rw [State.locked_syncSettled (hst.trans hlocked), not_lt, abs_le_iff_between]
  case large =>
    intro e p f s hin hroot hport hepoch haddr he hout
    have hlarge : 10000 < errSize e := by
      by_contra hle
      obtain ⟨hlo, hhi⟩ := (abs_le_iff_between e 10000).1 (not_lt.1 hle)
      rcases hout with h | h
      · exact absurd h (not_lt.2 hlo)
      · exact absurd h (not_lt.2 hhi)
    refine ⟨_, exec_syncReceive hin hroot hport hepoch haddr, ?_⟩
    rw [← he, State.syncTake_large hlarge, (State.fields_setTim 2).1, (State.fields_setTim 2).2]
    refine ⟨State.timSt_setTim (by decide),
      State.flag_setTim (State.bit_setFlagI _ _ _ _ (by decide) (by decide) (by decide)), State.station_syncStepped .., rfl⟩
  case req =>
    intro p f s hin
    exact ⟨_, congrArg Host.Outcome.next (if_pos hin), rfl, _, State.mem_txq_send _ _,
      Frame.typ_make _ _ _ _ _ _ _ _ _ _ _ (by decide), rfl, rfl⟩
  case resp =>
    intro t1 p f s hin ht
    exact ⟨_, exec_respReceive hin ht, State.respTaken_shows p _⟩
  case set =>
    intro i v s h hgo hkey
    refine ⟨_, exec_timeSet h, ?_⟩
    split
    next hmay =>
      rw [State.wrSetctl_set hgo hkey hmay, State.station_setFlag, State.station_stepTime]
      exact ⟨rfl, State.bit_setFlagI _ _ _ _ (by decide) (by decide) (by decide)⟩
    next hno =>
      rw [State.wrSetctl_refused hgo hkey hno]
      exact ⟨(State.setFlagI_eventsOnly ..).clock, State.bit_setFlagI _ _ _ _ (by decide) (by decide) (by decide)⟩
  case holdover =>
    intro s hp hroot hst
    obtain ⟨hheld, hflag⟩ := State.holdover_shows (s := s.withGood 0) (by
      change s.timSt ≠ 4
      omega)
    refine ⟨_, exec_holdover hp hroot hst, hheld, hflag, ?_⟩
    rw [(State.fields_setTim 4).1]
    rfl
  case mark =>
    intro x k s hb hx hroot htime hfree
    obtain ⟨hmark, hp2⟩ := State.markSlot_setPhase (s := s) k
    change x = (s.slot k).markTime at hx
    subst hx
    obtain ⟨t, ht, hqueues, htm⟩ := State.summitMark_arms (s := s.setPhase k 1) (k := k) hroot
      (by rw [hmark]; exact htime) (by rw [hp2]; exact hfree)
    obtain ⟨harmed, hbank, hflag⟩ := State.armMark_shows (s := s.setPhase k 1)
      { num := (s.slot k).p2.toNat % 65536, time := (s.slot k).markTime, slot := some k }
    have hregs (q : Reg) : t.rd q = ((s.setPhase k 1).armMark
        { num := (s.slot k).p2.toNat % 65536, time := (s.slot k).markTime, slot := some k }).rd q := by
      rw [← hmark, ← hp2]
      exact State.rd_of_same_regs hqueues.regs q
    refine ⟨t, (exec_summitMark hb).trans (congrArg Host.Outcome.next ht), ?_, ?_, ?_⟩
    · exact (State.bit_congr (hregs _) _).trans harmed
    · rw [htm, State.summitArmed, hmark, hp2]
      exact hbank
    · exact (State.bit_congr (hregs _) _).trans hflag
  case markRefused =>
    intro x k s hb hx hno
    obtain ⟨hmark, hp2⟩ := State.markSlot_setPhase (s := s) k
    change x = (s.slot k).markTime at hx
    subst hx
    have hrefused := State.summitMark_refused (s := s.setPhase k 1) (k := k) (by rw [hmark, hp2]; exact hno)
    have hcode : (s.setPhase k 1).summitCode k =
        if s.isRoot = false then 0x60 else if (s.slot k).markTime.toNat < s.clock.station.toNat + 12500 then 0x65 else 0x69 := by
      rw [State.summitCode, hmark]
      rfl
    refine ⟨_, (exec_summitMark hb).trans (congrArg Host.Outcome.next hrefused), ?_, ?_⟩
    · rw [hcode]
      exact State.ended_complete ..
    · rw [State.tm_complete]
      rfl
  case markIn =>
    intro x n p f s hin hlen hsrc hepoch hx hn
    by_cases hlate : x.toNat < s.clock.station.toNat
    · refine ⟨_, exec_markReceive_late hin hlen hsrc hepoch hx hn hlate, ?_⟩
      rw [if_pos hlate]
      exact ⟨(State.setFlagI_eventsOnly ..).tm, State.bit_setFlagI _ _ _ _ (by decide) (by decide) (by decide)⟩
    · obtain ⟨u, k, hexec⟩ := exec_markReceive_armed hin hlen hsrc hepoch hx hn hlate
      obtain ⟨harmed, hbank, hflag⟩ := State.armMark_shows (s := u) { num := n, time := x, slot := k }
      refine ⟨_, hexec, ?_⟩
      rw [if_neg hlate]
      exact ⟨harmed, congrArg (Option.map _) hbank, hflag⟩
  case latch =>
    intro b m s hm hp ha hs ht
    obtain ⟨hbank, hnum⟩ := State.markSampled_shows (s := s) b m
    refine ⟨_, exec_markLatch hm hp ha hs ht, ?_⟩
    by_cases hlate : m.late = true
    · rw [if_pos hlate, (State.setFlagI_eventsOnly ..).tm, State.fld_setFlagI_reg _ _ (by decide) rfl (by decide)]
      exact ⟨hbank, hnum, fun _ => State.bit_setFlagI _ _ _ _ (by decide) (by decide) (by decide)⟩
    · rw [if_neg hlate]
      exact ⟨hbank, hnum, fun h => absurd h hlate⟩
  case done =>
    intro b m l s hm hl
    obtain ⟨hwords, hvalid, hidle, hgone, hflag⟩ := State.markStored_shows (s := s) b m l
    rcases hk : m.slot with _ | k
    · exact ⟨_, exec_timMarkdone_own hm hl hk, fun j hj => hwords j (List.mem_range.1 hj), hvalid, hidle, hgone, hflag,
        fun k hk => nomatch hk⟩
    · have hregs {q : Reg} (hq : q.block ≠ .ldg) :
          ((s.markStored b m l).complete k 0 m.num).rd q = (s.markStored b m l).rd q := State.rd_complete _ _ _ hq
      refine ⟨_, exec_timMarkdone_command hm hl hk, fun j hj => (hregs ?_).trans (hwords j (List.mem_range.1 hj)),
        (State.bit_congr (hregs (by decide)) _).trans hvalid, (State.bit_congr (hregs (by decide)) _).trans hidle, ?_,
        (State.bit_congr (hregs (by decide)) _).trans hflag, ?_⟩
      · change Block.tim ≠ .ldg
        decide
      · rw [State.tm_complete]
        exact hgone
      · intro j hj
        cases hj
        exact State.ended_complete ..

end Sys2Proof.Machine

/-!
SUPPORT. Registers of the Line under a raise, and TRIPs (R373, R374).
-/

namespace Sys2Proof.Machine

variable {s t : State}

/-! ### A raise and the Line -/

/-- The registers of a block but the Line's may change. -/
def offLnk (b : Block) : Prop := b ≠ .lnk

theorem State.raise_lnk (f cause : Nat) : ∃ u, Keeps offLnk True s u ∧
    ((s.raise f cause).regs = u.regs ∨ (s.raise f cause).regs = (u.sendTrip f).regs) := by
  rw [State.raise_parts]
  split
  next => exact ⟨_, State.countFault_keeps (Keeps.refl s) (by simp [offLnk]), .inl rfl⟩
  next =>
    have hmarks : Keeps offLnk True s (s.raiseMarks f cause) :=
      State.countFault_keeps (State.put_keeps (State.putBit_keeps (Keeps.refl s) (by simp [offLnk])) (by simp [offLnk]))
        (by simp [offLnk])
    have hreacts : Keeps offLnk True s (s.raiseReacts f cause false) := by
      unfold State.raiseReacts
      refine State.faultPin_keeps ?_
      apply State.react_keeps hmarks <;> simp [offLnk]
    have htold : Keeps offLnk True s (((s.raiseReacts f cause false).captureFirst f (s.fld (.FLT_CFG f) Fld.FLT_CFG_CLASS)
        cause).logFault f (s.fld (.FLT_CFG f) Fld.FLT_CFG_CLASS) cause false) :=
      State.logFault_keeps (State.captureFirst_keeps hreacts (by simp [offLnk])) (by simp [offLnk]) (by simp [offLnk])
        (by simp [offLnk]) trivial
    have hdump : Keeps offLnk True s (if s.bit (.FLT_CFG f) 2
        then (((s.raiseReacts f cause false).captureFirst f (s.fld (.FLT_CFG f) Fld.FLT_CFG_CLASS) cause).logFault f
          (s.fld (.FLT_CFG f) Fld.FLT_CFG_CLASS) cause false).requestDump f cause
        else ((s.raiseReacts f cause false).captureFirst f (s.fld (.FLT_CFG f) Fld.FLT_CFG_CLASS) cause).logFault f
          (s.fld (.FLT_CFG f) Fld.FLT_CFG_CLASS) cause false) := by
      split
      · exact State.requestDump_keeps htold
      · exact htold
    unfold State.raiseTells
    dsimp only
    revert hdump
    generalize (if s.bit (.FLT_CFG f) 2 then _ else _) = u
    intro hdump
    split
    · exact ⟨u, hdump, .inr rfl⟩
    · exact ⟨u, hdump, .inl rfl⟩

/-! ### TRIPs of this station -/

/-- The TRIP that a station sends. -/
def State.tripFrame (s : State) (fsrc : Nat) : Frame :=
  Frame.make 4 3 false 4095 s.ownAddr 0 (max 1 (s.fld .LNK_CFG Fld.LNK_CFG_TRIPTTL)) none
    (BitVec.ofNat 32 ((s.rd .LNK_UID_LO).toNat % 65536 * 65536 + s.ln.tseq * 256 + fsrc)) 0 []

/-- A TRIP is queued at every UP port. -/
def State.tripsQueued (s : State) (fsrc : Nat) : State := each s.upPorts (fun p u => u.send p (s.tripFrame fsrc)) s

theorem State.tripsQueued_queues (fsrc : Nat) : Queues s (s.tripsQueued fsrc) := Queues.each (fun p _ => Queues.send p _) _

/-- A TRIP is numbered and counted, behind a state that has queued it. -/
def State.tripCounted (u : State) (tseq : Nat) : State :=
  (({ u with ln := { u.ln with tseq := (u.ln.tseq + 1) % 256 } } : State).addSat .LNK_TRIPCNT Fld.LNK_TRIPCNT_SENT 1).setFlagI
    .LNK_FLAG 9 tseq 0

theorem State.sendTrip_eq (fsrc : Nat) : s.sendTrip fsrc = (s.tripsQueued fsrc).tripCounted s.ln.tseq := rfl

theorem State.rd_tripCounted {q : Reg} {n : Nat} (hq : q.sensed = false) (hflag : q ≠ .LNK_FLAG) (hcnt : q ≠ .LNK_TRIPCNT) :
    (s.tripCounted n).rd q = s.rd q := by
  rw [State.tripCounted, State.rd_setFlagI_reg _ _ (by decide) hq hflag, State.rd_addSat_reg _ _ hcnt]
  rfl

theorem State.recv_tripCounted (n : Nat) :
    (s.tripCounted n).fld .LNK_TRIPCNT Fld.LNK_TRIPCNT_RECV = s.fld .LNK_TRIPCNT Fld.LNK_TRIPCNT_RECV := by
  rw [State.tripCounted, State.fld_setFlagI_reg _ _ (by decide) rfl (by decide), State.addSat,
    State.fld_put_field _ _ (by decide) (by decide)]
  rfl

theorem State.sent_tripCounted (n : Nat) : (s.tripCounted n).fld .LNK_TRIPCNT Fld.LNK_TRIPCNT_SENT =
    min 65535 (s.fld .LNK_TRIPCNT Fld.LNK_TRIPCNT_SENT + 1) := by
  rw [State.tripCounted, State.fld_setFlagI_reg _ _ (by decide) rfl (by decide), State.fld_addSat _ _ _ (by decide)]
  rfl

theorem State.ln_tripCounted (n : Nat) :
    (s.tripCounted n).ln = { s.ln with tseq := (s.ln.tseq + 1) % 256 } := (State.setFlagI_eventsOnly ..).ln

theorem State.tseq_tripsQueued (fsrc : Nat) : (s.tripsQueued fsrc).ln.tseq = s.ln.tseq :=
  each_same (fun u : State => u.ln.tseq) (f := fun p u => u.send p (s.tripFrame fsrc)) (fun _ _ => rfl) _

/-- A TRIP waits at every UP port. -/
theorem State.mem_sendTrip (fsrc : Nat) : ∀ p ∈ s.upPorts, ∃ f ∈ (s.sendTrip fsrc).txq p, f.typ = 4 := by
  intro p hp
  obtain ⟨f, hf, htyp⟩ := Queues.each_mem (s := s) (k := fun p u => u.send p (s.tripFrame fsrc)) (port := id)
    (Q := fun _ f => f.typ = 4) (fun p u => Queues.send p _)
    (fun p u => ⟨_, State.mem_txq_send p _, Frame.typ_make _ _ _ _ _ _ _ _ _ _ _ (by decide)⟩) s.upPorts p hp
  refine ⟨f, ?_, htyp⟩
  rw [State.txq, State.sendTrip_eq, State.ln_tripCounted]
  exact hf

/-! ### The Line under a raise -/

theorem State.rd_raise_lnk {f cause : Nat} {q : Reg} (hb : q.block = .lnk) (hflag : q ≠ .LNK_FLAG) (hcnt : q ≠ .LNK_TRIPCNT) :
    (s.raise f cause).rd q = s.rd q := by
  have hq : q.sensed = false := by
    unfold Reg.sensed
    split
    · cases hb
    · cases hb
    · rfl
  obtain ⟨u, hu, hregs⟩ := State.raise_lnk (s := s) f cause
  have hbase : u.rd q = s.rd q := hu.regs q (by simp [offLnk, hb])
  rcases hregs with h | h
  · exact (State.rd_of_same_regs h q).trans hbase
  · rw [State.rd_of_same_regs h q, State.sendTrip_eq, State.rd_tripCounted hq hflag hcnt,
      State.rd_of_same_regs (State.tripsQueued_queues f).regs, hbase]

theorem State.recv_raise (f cause : Nat) :
    (s.raise f cause).fld .LNK_TRIPCNT Fld.LNK_TRIPCNT_RECV = s.fld .LNK_TRIPCNT Fld.LNK_TRIPCNT_RECV := by
  obtain ⟨u, hu, hregs⟩ := State.raise_lnk (s := s) f cause
  have hbase : u.rd .LNK_TRIPCNT = s.rd .LNK_TRIPCNT := hu.regs _ (not_not.2 rfl)
  rcases hregs with h | h
  · exact (State.fld_congr (State.rd_of_same_regs h _) _).trans (State.fld_congr hbase _)
  · rw [State.fld_congr (State.rd_of_same_regs h _), State.sendTrip_eq, State.recv_tripCounted,
      State.fld_congr (State.rd_of_same_regs (State.tripsQueued_queues f).regs _), State.fld_congr hbase]

theorem State.keys_raise (f cause : Nat) : (s.raise f cause).ln.keys = s.ln.keys := by
  change (s.raise f cause).beyond.ln.keys = s.beyond.ln.keys
  rw [State.beyond_raise]

end Sys2Proof.Machine

/-!
SUPPORT. Ports that follow LNK_CFG, and words of the route table (R358, R366, R371).
-/

namespace Sys2Proof.Machine

variable {s t : State}

/-! ### Ports follow their EN and LOOP bits -/

/-- The state a port takes up. -/
def State.followed (s : State) (p : Nat) : Nat :=
  if s.portWanted p then (if s.portSt p = 0 then 1 else s.portSt p) else 0

theorem State.portSt_setPort {p st : Nat} (h : st < 16) : (s.setPort p st).portSt p = st := by
  rw [State.portSt, State.setPort, State.fld_put _ _ (by decide)]
  exact Nat.mod_eq_of_lt h

theorem State.rd_portOff_other {p : Nat} {q : Reg} (hst : q ≠ .LNK_P_STATE p) (hdelay : q ≠ .TIM_DELAY p) :
    (s.portOff p).rd q = s.rd q := by
  unfold State.portOff
  dsimp only
  rw [State.rd_putBit, if_neg hdelay, State.rd_wr, if_neg hst]
  rfl

theorem State.portSt_portOff (p : Nat) : (s.portOff p).portSt p = 0 := by
  unfold State.portOff State.portSt
  dsimp only
  rw [State.fld_putBit_reg _ _ (by simp), State.fld, State.rd_wr, if_pos rfl]
  rfl

theorem State.rd_live_other {f : Nat} {b : Bool} {q : Reg} (h : ∀ w, q ≠ .FLT_LIVE w) : (s.live f b).rd q = s.rd q := by
  rw [State.live, State.rd_putBit, if_neg (h _)]

/-- The state that the two bits are judged in. -/
def State.followLive (s : State) (p : Nat) : State := if s.bit .LNK_CFG p then s else s.live (244 + p) false

theorem State.rd_followLive {p : Nat} {q : Reg} (h : ∀ w, q ≠ .FLT_LIVE w) : (s.followLive p).rd q = s.rd q := by
  unfold State.followLive
  split
  · rfl
  · exact State.rd_live_other h

theorem State.portWanted_congr {p : Nat} (hcfg : t.rd .LNK_CFG = s.rd .LNK_CFG)
    (hport : t.rd (.LNK_P_CFG p) = s.rd (.LNK_P_CFG p)) : t.portWanted p = s.portWanted p := by
  rw [State.portWanted, State.bit_congr hcfg, State.bit_congr hport, ← State.portWanted]

theorem State.followPort_eq (p : Nat) : s.followPort p =
    if (s.followLive p).portWanted p then (if (s.followLive p).portSt p = 0 then (s.followLive p).setPort p 1 else s.followLive p)
    else if (s.followLive p).portSt p = 0 then s.followLive p else (s.followLive p).portOff p := rfl

theorem State.rd_followPort_other {p : Nat} {q : Reg} (hlive : ∀ w, q ≠ .FLT_LIVE w) (hst : q ≠ .LNK_P_STATE p)
    (hdelay : q ≠ .TIM_DELAY p) : (s.followPort p).rd q = s.rd q := by
  have hbase := State.rd_followLive (s := s) (p := p) hlive
  rw [State.followPort_eq]
  split
  · split
    · rw [State.setPort, State.rd_put, if_neg hst, hbase]
    · exact hbase
  · split
    · exact hbase
    · rw [State.rd_portOff_other hst hdelay, hbase]

theorem State.portSt_followPort (p q : Nat) :
    (s.followPort p).portSt q = if q = p then s.followed p else s.portSt q := by
  by_cases h : q = p
  · subst h
    have hst : (s.followLive q).portSt q = s.portSt q := State.fld_congr (State.rd_followLive (by simp)) _
    have hwanted : (s.followLive q).portWanted q = s.portWanted q :=
      State.portWanted_congr (State.rd_followLive (by simp)) (State.rd_followLive (by simp))
    rw [if_pos rfl, State.followPort_eq, hst, hwanted, State.followed]
    split
    · split
      · exact State.portSt_setPort (by decide)
      · exact hst
    · split
      next hoff => exact hst.trans hoff
      next => exact State.portSt_portOff q
  · rw [if_neg h]
    exact State.fld_congr (State.rd_followPort_other (by simp) (by simpa using h) (by simp)) _

theorem State.portWanted_followPort (p q : Nat) : (s.followPort p).portWanted q = s.portWanted q :=
  State.portWanted_congr (State.rd_followPort_other (by simp) (by simp) (by simp))
    (State.rd_followPort_other (by simp) (by simp) (by simp))

theorem State.portSt_each_followPort {l : List Nat} (hl : l.Nodup) (q : Nat) :
    (each l (fun p s => s.followPort p) s).portSt q = if q ∈ l then s.followed q else s.portSt q := by
  unfold each
  induction l generalizing s with
  | nil => rfl
  | cons p l ih =>
    obtain ⟨hp, hl⟩ := List.nodup_cons.1 hl
    rw [List.foldl_cons, ih hl, State.portSt_followPort]
    by_cases hq : q = p
    · subst hq
      rw [if_neg hp, if_pos rfl, if_pos List.mem_cons_self]
    · have hsame : (s.followPort p).followed q = s.followed q := by
        rw [State.followed, State.portWanted_followPort, State.portSt_followPort, if_neg hq, ← State.followed]
      simp only [List.mem_cons, hq, false_or, hsame, if_false]

theorem State.rd_followEn {q : Reg} (hlive : ∀ w, q ≠ .FLT_LIVE w) (hst : ∀ p, q ≠ .LNK_P_STATE p)
    (hdelay : ∀ p, q ≠ .TIM_DELAY p) : s.followEn.rd q = s.rd q :=
  State.rd_each _ fun p _ => State.rd_followPort_other hlive (hst p) (hdelay p)

theorem State.portSt_followEn {p : Nat} (hp : p ∈ List.range 4) : s.followEn.portSt p = s.followed p :=
  (State.portSt_each_followPort List.nodup_range p).trans (if_pos hp)

theorem State.portWanted_followEn (p : Nat) : s.followEn.portWanted p = s.portWanted p :=
  State.portWanted_congr (State.rd_followEn (by simp) (by simp) (by simp)) (State.rd_followEn (by simp) (by simp) (by simp))

/-! ### Words of the route table -/

/-- The words A and B of an entry, from a list of words. -/
theorem State.putRoutes_cons {first : Nat} {a b : Word} {l : List Word} (h : first < 64) : s.putRoutes first (a :: b :: l) =
    ((s.wr (.LNK_RT_A first) (a &&& Reg.rw (.LNK_RT_A 0))).wr (.LNK_RT_B first) (b &&& Reg.rw (.LNK_RT_B 0))).putRoutes
      (first + 1) l := if_pos h

theorem State.putRoutes_past {first : Nat} {l : List Word} (h : 64 ≤ first) : s.putRoutes first l = s := by
  match l with
  | [] => rfl
  | [_] => rfl
  | _ :: _ :: _ => exact if_neg (Nat.not_lt.2 h)

/-- Entries before the first one written stay, and so does every other register. -/
theorem State.rd_putRoutes_other {s : State} {q : Reg} {first : Nat} {l : List Word} (ha : ∀ e, first ≤ e → q ≠ .LNK_RT_A e)
    (hb : ∀ e, first ≤ e → q ≠ .LNK_RT_B e) : (s.putRoutes first l).rd q = s.rd q := by
  match l with
  | [] => rfl
  | [_] => rfl
  | a :: b :: l =>
    by_cases h : first < 64
    · rw [State.putRoutes_cons h, State.rd_putRoutes_other (fun e he => ha e (by omega)) (fun e he => hb e (by omega)),
        State.rd_wr, if_neg (hb first (Nat.le_refl _)), State.rd_wr, if_neg (ha first (Nat.le_refl _))]
    · rw [State.putRoutes_past (Nat.not_lt.1 h)]
termination_by l.length

/-- The entries that a list of words fills. -/
theorem State.rd_putRoutes {s : State} {first j : Nat} {l : List Word} (hj : 2 * j + 1 < l.length) (h : first + j < 64) :
    (s.putRoutes first l).rd (.LNK_RT_A (first + j)) = l.getD (2 * j) 0#32 &&& Reg.rw (.LNK_RT_A 0) ∧
    (s.putRoutes first l).rd (.LNK_RT_B (first + j)) = l.getD (2 * j + 1) 0#32 &&& Reg.rw (.LNK_RT_B 0) := by
  match l, j with
  | [], _ => exact absurd hj (Nat.not_lt_zero _)
  | [_], _ => simp at hj
  | a :: b :: l, 0 =>
    rw [State.putRoutes_cons (by omega), State.rd_putRoutes_other (by simp; omega) (by simp),
      State.rd_putRoutes_other (by simp) (by simp; omega), State.rd_wr, if_neg (by simp), State.rd_wr, Nat.add_zero, if_pos rfl,
      State.rd_wr, if_pos rfl]
    exact ⟨rfl, rfl⟩
  | a :: b :: l, j + 1 =>
    rw [State.putRoutes_cons (by omega), show first + (j + 1) = first + 1 + j by omega]
    have hrest : 2 * j + 1 < l.length := by
      simp only [List.length_cons] at hj
      omega
    exact State.rd_putRoutes hrest (by omega)
termination_by l.length

theorem State.rd_clearRoutes {n : Nat} {q : Reg} (h : ∀ e, n ≤ e → q ≠ .LNK_RT_A e) : (s.clearRoutes n).rd q = s.rd q := by
  unfold State.clearRoutes
  generalize hl : (List.range 64).filter (n ≤ ·) = l
  have hmem : ∀ e ∈ l, n ≤ e := fun e he => by
    rw [← hl] at he
    simpa using (List.mem_filter.1 he).2
  clear hl
  unfold each
  induction l generalizing s with
  | nil => rfl
  | cons e l ih =>
    rw [List.foldl_cons, ih fun x hx => hmem x (List.mem_cons_of_mem e hx), State.rd_putBit,
      if_neg (h e (hmem e List.mem_cons_self))]

/-- The words of bytes behind the first ones are the words behind the first ones. -/
theorem wordsOfBytes_drop (l : List Byte) (i : Nat) : wordsOfBytes (l.drop (4 * i)) = (wordsOfBytes l).drop i := by
  induction i generalizing l with
  | zero => rfl
  | succ i ih =>
    match l with
    | [] => simp [wordsOfBytes]
    | [_] => simp [wordsOfBytes, Nat.mul_add]
    | [_, _] => simp [wordsOfBytes, Nat.mul_add]
    | [_, _, _] => simp [wordsOfBytes, Nat.mul_add]
    | b0 :: b1 :: b2 :: b3 :: l =>
      exact ih l

theorem length_wordsOfBytes {l : List Byte} {n : Nat} (h : l.length = 4 * n) : (wordsOfBytes l).length = n := by
  induction n generalizing l with
  | zero =>
    rw [List.length_eq_zero_iff.1 h]
    rfl
  | succ n ih =>
    match l with
    | b0 :: b1 :: b2 :: b3 :: l =>
      rw [wordsOfBytes, List.length_cons, ih]
      simp only [List.length_cons] at h
      omega
    | [] | [_] | [_, _] | [_, _, _] =>
      simp only [List.length_cons, List.length_nil] at h
      omega

theorem Frame.word_eq (f : Frame) (i j : Nat) : (wordsOfBytes (f.payload.drop (4 * i))).getD j 0#32 = f.word (i + j) := by
  rw [Frame.word, wordsOfBytes_drop, wordsOfBytes_drop, List.getD_eq_getElem?_getD, List.getElem?_drop, List.headD_eq_head?_getD,
    List.head?_drop]

end Sys2Proof.Machine

/-!
SUPPORT. TRIPs and ROUTE frames that arrive, and the obligation on the Line's registers (R366, R371, R373, R374).
-/

namespace Sys2Proof.Machine

variable {s : State}

/-! ### Writes -/

theorem exec_lnkCfgWrite {i : Iface} {v : Word} (h : s.takes .LNK_CFG = true) :
    exec (.lnkCfgWrite i v 0xF#4) s = .next (s.wrLnkCfg i v) :=
  congrArg Host.Outcome.next ((State.guardWrite_takes h).trans (congrArg (s.wrLnkCfg i) (State.merged_whole ..)))

theorem exec_rtBWrite {i : Iface} {e : Fin 64} {v : Word} (h : s.takes (.LNK_RT_B e) = true) :
    exec (.rtBWrite i e v 0xF#4) s = .next (s.wrRtB e v) :=
  congrArg Host.Outcome.next ((State.guardWrite_takes h).trans (congrArg (s.wrRtB e) (State.merged_whole ..)))

theorem exec_rtAWrite {i : Iface} {e : Fin 64} {v : Word} (h : s.takes (.LNK_RT_A e) = true) :
    exec (.rtAWrite i e v 0xF#4) s = .next (s.wrRtA e v) :=
  congrArg Host.Outcome.next ((State.guardWrite_takes h).trans (congrArg (s.wrRtA e) (State.merged_whole ..)))

theorem exec_tripSend {i : Iface} {v : Word} (h : s.takes .LNK_TRIPCTL = true) :
    exec (.tripSend i v 0xF#4) s = .next (s.wrTripctl i v) := by
  refine congrArg Host.Outcome.next ?_
  rw [State.guardSent, State.guardWrite_takes h, if_pos (by decide), State.merged_whole]

theorem State.wrRtA_shows {e : Nat} {w b : Word} (h : s.ln.stagedB.lookup e = some b) :
    (s.wrRtA e w).rd (.LNK_RT_A e) = (s.rd (.LNK_RT_A e) &&& ~~~ Reg.rw (.LNK_RT_A e)) ||| (w &&& Reg.rw (.LNK_RT_A e)) ∧
    (s.wrRtA e w).rd (.LNK_RT_B e) = b ∧ (s.wrRtA e w).ln.stagedB.lookup e = none := by
  have hstaged : (s.writeRw (.LNK_RT_A e) w).ln.stagedB.lookup e = some b := h
  unfold State.wrRtA
  dsimp only
  rw [hstaged]
  refine ⟨?_, (State.rd_wr ..).trans (if_pos rfl), ?_⟩
  · refine (State.rd_wr ..).trans ((if_neg (by simp)).trans ?_)
    rw [State.rd_writeRw, if_pos rfl]
  · rw [List.lookup_eq_none_iff]
    intro x hx
    have hother := (List.mem_filter.1 hx).2
    rw [bne_iff_ne] at hother
    exact bne_iff_ne.2 (Ne.symm hother)

/-! ### A TRIP that arrives -/

/-- A TRIP has been forwarded and its key is held. -/
def State.tripHeld (s : State) (p : Nat) (f : Frame) : State :=
  let s1 := each (s.route1 p f).outs (fun q u => u.send q (s.route1 p f).frame) s
  { s1 with ln := { s1.ln with keys := (tripKey f :: s1.ln.keys).take 16 } }

/-- What LNK_TRIPLAST records of a TRIP. -/
def tripWord (p : Nat) (f : Frame) : Word :=
  BitVec.ofNat 32 (f.src + 2 ^ 14 * p + 2 ^ 16 * (tripKey f).2.2 + 2 ^ 24 * (f.arg0.toNat % 256))

theorem tripWord_shows (p : Fin 4) (f : Frame) : getF (tripWord p f) Fld.LNK_TRIPLAST_ORIGIN = f.src ∧
    getF (tripWord p f) Fld.LNK_TRIPLAST_PORT = p.val ∧
    getF (tripWord p f) Fld.LNK_TRIPLAST_FSRC = f.arg0.toNat % 256 := by
  have hsrc : f.src < 4096 := getF_lt f.w0 ⟨11, 0⟩
  have hkey : (tripKey f).2.2 < 256 := Nat.mod_lt _ (by decide)
  unfold tripWord
  generalize (tripKey f).2.2 = c at hkey
  generalize f.src = a at hsrc
  simp only [getF, Field.width, BitVec.toNat_ofNat]
  refine ⟨?_, ?_, ?_⟩ <;> omega

theorem exec_tripReceive_new {p : Fin 4} {f : Frame} (hin : s.forHere p f 4 = true)
    (hown : f.src ≠ s.ownAddr ∨ f.arg0.toNat / 65536 ≠ (s.rd .LNK_UID_LO).toNat % 65536) (hkey : tripKey f ∉ s.ln.keys) :
    exec (.tripReceive p f) s = .next
      ((((s.tripHeld p f).wr .LNK_TRIPLAST (tripWord p f)).addSat .LNK_TRIPCNT Fld.LNK_TRIPCNT_RECV 1).raise 248 0) := by
  have htyp : f.typ = 4 := by
    simp only [State.forHere, Bool.and_eq_true, beq_iff_eq] at hin
    exact hin.1.2
  have hnew : s.tripKnown f = false := by
    have hother : (f.src == s.ownAddr && (tripKey f).2.1 == (s.rd .LNK_UID_LO).toNat % 65536) = false := by
      rcases hown with h | h
      · simp [h]
      · simp [tripKey, h]
    rw [State.tripKnown, hother]
    simpa using hkey
  refine congrArg Host.Outcome.next ((if_neg (by simp [htyp, hnew])).trans ?_)
  rw [if_pos hin]
  rfl

theorem State.rd_tripHeld (p : Nat) (f : Frame) (q : Reg) : (s.tripHeld p f).rd q = s.rd q :=
  State.rd_of_same_regs (Queues.each (fun q _ => Queues.send q (s.route1 p f).frame) (s.route1 p f).outs).regs q

theorem State.tripTaken_shows (p : Fin 4) (f : Frame) {t : State}
    (ht : t = ((((s.tripHeld p f).wr .LNK_TRIPLAST (tripWord p f)).addSat .LNK_TRIPCNT Fld.LNK_TRIPCNT_RECV 1).raise 248 0)) :
    t.latched 248 = true ∧ tripKey f ∈ t.ln.keys ∧ t.rd .LNK_TRIPLAST = tripWord p f ∧
    t.fld .LNK_TRIPCNT Fld.LNK_TRIPCNT_RECV = min 65535 (s.fld .LNK_TRIPCNT Fld.LNK_TRIPCNT_RECV + 1) := by
  subst ht
  refine ⟨State.latched_raise .., ?_, ?_, ?_⟩
  · rw [State.keys_raise]
    exact List.mem_cons_self
  · rw [State.rd_raise_lnk rfl (by decide) (by decide), State.rd_addSat_reg _ _ (by decide), State.rd_wr, if_pos rfl]
  · rw [State.recv_raise, State.fld_addSat _ _ _ (by decide), State.fld_wr_reg _ (by decide),
      State.fld_congr (State.rd_tripHeld p f _)]
    rfl

/-! ### A ROUTE frame that arrives -/

/-- Entries past the table are noted when the draw of this frame says so. -/
def State.routesPast (s : State) (n : Nat) : State :=
  let d := if 64 ≤ n then s.draw else (0#32, s)
  if d.1.getLsbD 0 then (d.2.putBit .LNK_STATUS 6 true).setFlagI .LNK_FLAG 6 0 0 else d.2

theorem State.rd_routesPast {n : Nat} {q : Reg} (hq : q.sensed = false) (hflag : q ≠ .LNK_FLAG) (hst : q ≠ .LNK_STATUS) :
    (s.routesPast n).rd q = s.rd q := by
  unfold State.routesPast
  dsimp only
  have hdraw : (if 64 ≤ n then s.draw else (0#32, s)).2.rd q = s.rd q := by
    split <;> rfl
  generalize (if 64 ≤ n then s.draw else (0#32, s)) = d at hdraw
  split
  · rw [State.rd_setFlagI_reg _ _ (by decide) hq hflag, State.rd_putBit, if_neg hst, hdraw]
  · exact hdraw

/-- The entries of a ROUTE frame are written, and those behind them disabled where the frame says so. -/
def State.routesTaken (s : State) (f : Frame) (first n : Nat) : State :=
  if (f.word 0).toNat / 65536 % 256 = 1 then (s.putRoutes first (wordsOfBytes (f.payload.drop 8))).clearRoutes (first + n)
  else s.putRoutes first (wordsOfBytes (f.payload.drop 8))

theorem State.rd_routesTaken {f : Frame} {first n : Nat} {q : Reg} (h : ∀ e, first + n ≤ e → q ≠ .LNK_RT_A e) :
    (s.routesTaken f first n).rd q = (s.putRoutes first (wordsOfBytes (f.payload.drop 8))).rd q := by
  unfold State.routesTaken
  split
  · exact State.rd_clearRoutes h
  · rfl

theorem exec_routeReceive {p : Fin 4} {f : Frame} {a n u e r : Nat} (hin : s.forHere p f 8 = true)
    (ha : a = (f.word 0).toNat % 256) (hn : n = (f.word 0).toNat / 256 % 256) (hlo : 1 ≤ n) (hhi : n ≤ 30)
    (hlen : f.payload.length = 8 + 8 * n) (hlast : s.ln.lastSurvey = some (u, e, r)) (hnot : s.notLower e u = true) :
    exec (.routeReceive p f) s =
      .next (((s.routesTaken f a n).routesPast (a + n)).setFlagI .LNK_FLAG 8 (r % 4096) 0) := by
  subst ha
  have hread : ¬ (!s.forHere p f 8 || (f.word 0).toNat / 256 % 256 = 0 || 30 < (f.word 0).toNat / 256 % 256 ||
      f.payload.length != 8 + 8 * ((f.word 0).toNat / 256 % 256)) = true := by
    rw [← hn]
    simp [hin, hlen]
    omega
  subst hn
  refine congrArg Host.Outcome.next ((if_neg (by simpa using hread)).trans ?_)
  rw [hlast]
  exact if_neg (by simp [hnot])

/-- The entries of a ROUTE frame stand in the table. -/
theorem State.routesTaken_shows {f : Frame} {a n j r : Nat} (hlen : f.payload.length = 8 + 8 * n) (hj : j < n)
    (hin : a + j < 64) {t : State} (ht : t = ((s.routesTaken f a n).routesPast (a + n)).setFlagI .LNK_FLAG 8 (r % 4096) 0) :
    t.rd (.LNK_RT_A (a + j)) = f.word (2 + 2 * j) &&& Reg.rw (.LNK_RT_A 0) ∧
    t.rd (.LNK_RT_B (a + j)) = f.word (3 + 2 * j) &&& Reg.rw (.LNK_RT_B 0) := by
  subst ht
  have hwords : (wordsOfBytes (f.payload.drop 8)).length = 2 * n := length_wordsOfBytes (by rw [List.length_drop]; omega)
  obtain ⟨hA, hB⟩ := State.rd_putRoutes (s := s) (first := a) (j := j) (l := wordsOfBytes (f.payload.drop 8))
    (by rw [hwords]; omega) hin
  refine ⟨?_, ?_⟩
  · rw [State.rd_setFlagI_reg _ _ (by decide) rfl (by simp), State.rd_routesPast rfl (by simp) (by simp),
      State.rd_routesTaken (fun e he => by simp; omega), hA, Frame.word_eq f 2]
  · rw [State.rd_setFlagI_reg _ _ (by decide) rfl (by simp), State.rd_routesPast rfl (by simp) (by simp),
      State.rd_routesTaken (fun e he => by simp), hB, Frame.word_eq f 2, show 2 + (2 * j + 1) = 3 + 2 * j by omega]

/-- Settles O32: each clause through what its command writes, and the ports and route words it leads to. -/
theorem lineRegisters : Obligations.LineRegisters := by
  unfold Obligations.LineRegisters
  refine ⟨?cfg, ?staged, ?both, ?trip, ?noTrip, ?newTrip, ?known, ?expiry, ?route⟩
  case cfg =>
    intro i v s h
    refine ⟨_, exec_lnkCfgWrite h, ?_, fun p hp => ?_⟩
    · rw [State.wrLnkCfg, State.rd_followEn (by simp) (by simp) (by simp), State.rd_writeRw, if_pos rfl]
    · have hst (w : Word) : (s.writeRw .LNK_CFG w).portSt p = s.portSt p :=
        State.fld_congr ((State.rd_writeRw ..).trans (if_neg (by simp))) _
      rw [State.wrLnkCfg, State.portSt_followEn hp, State.portWanted_followEn, State.followed, hst]
  case staged =>
    intro i e v s h
    rw [exec_rtBWrite h]
    rfl
  case both =>
    intro i e v b s h hb
    exact ⟨_, exec_rtAWrite h, State.wrRtA_shows hb⟩
  case trip =>
    intro i v s h hi hgo hkey
    have hsend : s.wrTripctl i v = s.sendTrip 0xFF := if_pos (by simp [hi, hgo, hkey])
    refine ⟨_, (exec_tripSend h).trans (congrArg Host.Outcome.next hsend), ?_, ?_, ?_, State.mem_sendTrip 0xFF⟩
    · rw [State.sendTrip_eq, State.sent_tripCounted, State.fld_congr (State.rd_of_same_regs (State.tripsQueued_queues _).regs _)]
    · rw [State.sendTrip_eq, State.ln_tripCounted, State.tseq_tripsQueued]
    · exact State.bit_setFlagI _ _ _ _ (by decide) (by decide) (by decide)
  case noTrip =>
    intro i v s h hno
    refine (exec_tripSend h).trans (congrArg Host.Outcome.next (if_neg ?_))
    rcases hno with h | h | h <;> simp [h]
  case newTrip =>
    intro p f s hin hown hkey
    obtain ⟨hlatched, hmem, hlast, hcnt⟩ := State.tripTaken_shows (s := s) p f rfl
    obtain ⟨horigin, hport, hsrc⟩ := tripWord_shows p f
    refine ⟨_, exec_tripReceive_new hin hown hkey, hlatched, hmem, ?_, ?_, ?_, hcnt⟩
    · exact (congrArg (getF · _) hlast).trans horigin
    · exact (congrArg (getF · _) hlast).trans hport
    · exact (congrArg (getF · _) hlast).trans hsrc
  case known =>
    intro p f s hkey
    refine congrArg Host.Outcome.next (if_pos ?_)
    simp [State.tripKnown, hkey]
  case expiry => exact fun _ => rfl
  case route =>
    intro p f a n u e r s hin ha hn hlo hhi hlen hlast hnot
    refine ⟨_, exec_routeReceive hin ha hn hlo hhi hlen hlast hnot,
      State.bit_setFlagI _ _ _ _ (by decide) (by decide) (by decide), fun j hj hle => ?_⟩
    exact State.routesTaken_shows hlen (List.mem_range.1 hj) hle rfl

end Sys2Proof.Machine

/-!
SUPPORT. The next step of the ledger, and the commands that begin a write (R310 to R313, R319, R320).
-/

namespace Sys2Proof.Machine

variable {s t : State}

/-! ### The next step's begin -/

/-- What looks at no lane is kept when lane 2 takes a record. -/
theorem State.refill_same {α : Type} (v : State → α) (hlane : ∀ (u : State) l js, v (u.putLane l js) = v u)
    (hbuf : ∀ (u : State) b, v { u with ld := { u.ld with logBuf := b } } = v u) : v s.refill = v s := by
  unfold State.refill
  split
  · split
    · exact (hbuf ..).trans (hlane ..)
    · rfl
  · rfl

/-- What looks at neither ERASING nor the lanes' own state is kept by the next step's begin. -/
theorem State.kick_same {α : Type} (v : State → α) (hput : ∀ (u : State) n, v (u.put .LDG_STATUS Fld.LDG_STATUS_ERASING n) = v u)
    (hlane : ∀ (u : State) l js, v (u.putLane l js) = v u)
    (hcur : ∀ (u : State) c n m, v { u with ld := { u.ld with cur := c, tries := n, lastLow := m } } = v u)
    (hbuf : ∀ (u : State) b, v { u with ld := { u.ld with logBuf := b } } = v u) : v s.kick = v s := by
  have hrefill : v s.refill = v s := State.refill_same v hlane hbuf
  unfold State.kick
  dsimp only
  split
  · exact hrefill
  · split
    · exact (hput ..).trans hrefill
    · split
      · exact hrefill
      · exact (hput ..).trans ((hcur ..).trans ((hlane ..).trans hrefill))

@[simp] theorem State.mem_kick : s.kick.mem = s.mem :=
  State.kick_same State.mem (fun _ _ => rfl) (fun _ _ _ => rfl) (fun _ _ _ _ => rfl) fun _ _ => rfl

theorem State.fwDone_kick : s.kick.ld.fwDone = s.ld.fwDone :=
  State.kick_same (·.ld.fwDone) (fun _ _ => rfl) (fun _ _ _ => rfl) (fun _ _ _ _ => rfl) fun _ _ => rfl

theorem State.dump_kick : s.kick.ld.dump = s.ld.dump :=
  State.kick_same (·.ld.dump) (fun _ _ => rfl) (fun _ _ _ => rfl) (fun _ _ _ _ => rfl) fun _ _ => rfl

theorem State.cm_kick : s.kick.cm = s.cm :=
  State.kick_same State.cm (fun _ _ => rfl) (fun _ _ _ => rfl) (fun _ _ _ _ => rfl) fun _ _ => rfl

theorem State.rd_kick {q : Reg} (hq : q ≠ .LDG_STATUS) : s.kick.rd q = s.rd q :=
  State.kick_same (·.rd q) (fun _ _ => (State.rd_put ..).trans (if_neg hq)) (fun _ _ _ => rfl) (fun _ _ _ _ => rfl)
    fun _ _ => rfl

theorem State.bit_kick {b : Nat} (hb : b < 3 ∨ 3 < b) : s.kick.bit .LDG_STATUS b = s.bit .LDG_STATUS b :=
  State.kick_same (·.bit .LDG_STATUS b) (fun _ _ => State.bit_put_field _ _ (by decide) hb) (fun _ _ _ => rfl)
    (fun _ _ _ _ => rfl) fun _ _ => rfl

/-! ### A write that begins -/

theorem State.bit_of_fld {r : Reg} {b : Nat} (h : s.fld r ⟨b, b⟩ = 1) : s.bit r b = true := by
  rw [State.fld, getF_bit] at h
  cases hb : s.bit r b
  · rw [State.bit] at hb
    simp [hb, b2n] at h
  · rfl

theorem State.mem_enqueue (l : Nat) (j : LdgJob) : (s.enqueue l j).mem = s.mem := State.mem_kick

theorem State.ld_complete (k code detail : Nat) : (s.complete k code detail).ld = s.ld := by
  unfold State.complete
  dsimp only
  split <;> rfl

theorem State.ledMeet_clean {a n src : Nat} (hs : keysIn s.me.soft a n = []) (hv : keysIn s.me.votes a n = [])
    (hb : keysIn s.me.bad a n = []) : s.ledMeet a n src = s := by
  rw [State.ledMeet, State.eccRange_clean hs hv, hb]
  rfl

theorem State.bankSeq_dmaRestart (ch r b : Nat) : (s.dmaRestart ch).bankSeq r b = s.bankSeq r b := by
  unfold State.bankSeq
  rw [State.bankSt_dmaRestart]

theorem State.newestBank_dmaRestart (ch r : Nat) : (s.dmaRestart ch).newestBank r = s.newestBank r := by
  simp only [State.newestBank, State.bankSeq_dmaRestart]

theorem State.targetBank_dmaRestart (ch r : Nat) : (s.dmaRestart ch).targetBank r = s.targetBank r := by
  simp [State.targetBank, State.single_dmaRestart, State.abandoned_dmaRestart, State.newestBank_dmaRestart]

/-! ### Firmware slots -/

/-- A write of the open or opened slot begins. -/
theorem State.fwWrite_begins {k a n o : Nat} (ha : a = (s.slot k).p0.toNat) (hn : n = (s.slot k).p1.toNat)
    (ho : o = (s.slot k).p2.toNat) (ha4 : a % 4 = 0) (hn4 : n % 4 = 0) (ho4 : o % 4 = 0) (hpos : 0 < n) (hmax : n ≤ 65536)
    (hend : o + n ≤ 392960) (hsrc : s.badSource a n = false) (hro : s.readOnly 0 = false)
    (hsingle : s.single 0 = false ∨ s.abandoned 0 ≠ s.fwInactive ∨ wbit (s.slot k).p3 0 = true)
    (hdone : s.bit .LDG_STATUS 2 = false ∨ ∀ e ∈ s.ld.fwDone, ¬(e.1 < o + n ∧ o < e.1 + e.2))
    (hbad : s.firstBad a n = none) (hsoft : keysIn s.me.soft a n = []) (hvotes : keysIn s.me.votes a n = []) :
    (s.fwWrite k).writing 1 .fwWrite (some k) ∧ (s.fwWrite k).bit .LDG_STATUS 2 = true ∧ (o, n) ∈ (s.fwWrite k).ld.fwDone ∧
    (s.fwWrite k).mem = s.mem := by
  have hrange : ¬ (a % 4 ≠ 0 ∨ n % 4 ≠ 0 ∨ o % 4 ≠ 0 ∨ n = 0 ∨ 65536 < n ∨ 392960 < o + n ∨ s.badSource a n = true) := by
    simp [hsrc, ha4, hn4, ho4]
    omega
  have hkept : ¬ (!s.loader && s.single 0 && s.abandoned 0 == s.fwInactive && !wbit (s.slot k).p3 0) = true := by
    rcases hsingle with h | h | h <;> simp [h]
  have hover : ¬ (s.bit .LDG_STATUS 2 && s.ld.fwDone.any (fun e => e.1 < o + n && o < e.1 + e.2)) = true := by
    rcases hdone with h | h
    · simp [h]
    · simpa using fun _ => h
  have hrun : ∃ (u : State) (j : LdgJob), s.fwWrite k = (u.put .LDG_STATUS Fld.LDG_STATUS_FWOPEN 1).enqueue 1 j ∧
      j.kind = .fwWrite ∧ j.slot = some k ∧ (o, n) ∈ u.ld.fwDone ∧ u.mem = s.mem := by
    unfold State.fwWrite
    dsimp only
    rw [← ha, ← hn, ← ho, if_neg hrange, hro, if_neg (by simp), if_neg hkept, if_neg hover,
      State.withSource_clean hbad hsoft hvotes]
    exact ⟨_, _, rfl, rfl, rfl, List.mem_cons_self, rfl⟩
  obtain ⟨u, j, heq, hkind, hslot, hmem, hstore⟩ := hrun
  rw [heq]
  refine ⟨hkind ▸ hslot ▸ State.writing_enqueue 1 j, ?_, ?_, ?_⟩
  · rw [State.enqueue, State.bit_kick (by decide)]
    exact State.bit_of_fld (State.fld_put .LDG_STATUS 1 (f := Fld.LDG_STATUS_FWOPEN) (by decide))
  · rw [State.enqueue, State.fwDone_kick]
    exact hmem
  · rw [State.mem_enqueue]
    exact hstore

end Sys2Proof.Machine

/-!
SUPPORT. Seal, activation, user area and dump, and the obligation on the ledger's commands (R312, R313, R315, R319, R320).
-/

namespace Sys2Proof.Machine

variable {s t : State}

/-! ### Ranges and closed slots -/

theorem State.fwWrite_out {k a n o : Nat} (ha : a = (s.slot k).p0.toNat) (hn : n = (s.slot k).p1.toNat)
    (ho : o = (s.slot k).p2.toNat) (h : a % 4 ≠ 0 ∨ n % 4 ≠ 0 ∨ o % 4 ≠ 0 ∨ n = 0 ∨ 65536 < n ∨ 392960 < o + n) :
    s.fwWrite k = s.complete k 0x26 0 := by
  unfold State.fwWrite
  dsimp only
  rw [← ha, ← hn, ← ho]
  exact if_pos (by omega)

/-- A seal of an open, undamaged slot is judged by its signature. -/
theorem State.fwSeal_open {k : Nat} {img : List Byte} (himg : img = bytesOfWords (s.ledWords (bankBase 0 s.fwTarget) s.fwSpan))
    (hopen : s.bit .LDG_STATUS 2 = true) (hro : s.readOnly 0 = false)
    (hsoft : keysIn s.me.soft (bankBase 0 s.fwTarget) s.fwSpan = [])
    (hvotes : keysIn s.me.votes (bankBase 0 s.fwTarget) s.fwSpan = [])
    (hbad : keysIn s.me.bad (bankBase 0 s.fwTarget) s.fwSpan = []) : s.fwSeal k =
      if Config.signatureOk img then
        s.enqueue 1 {
          kind := .bank 0 s.fwTarget (s.newSeq 0), steps := trailerSteps 0 s.fwTarget (s.newSeq 0) img,
          slot := some k, content := img }
      else s.complete k 0x54 0 := by
  subst himg
  unfold State.fwSeal
  dsimp only
  rw [hopen, hro, if_neg (by decide), if_neg (by decide), State.ledMeet_clean hsoft hvotes hbad]

theorem State.fwSeal_judged {k : Nat} (hopen : s.bit .LDG_STATUS 2 = true) (hro : s.readOnly 0 = false)
    (hsoft : keysIn s.me.soft (bankBase 0 s.fwTarget) s.fwSpan = [])
    (hvotes : keysIn s.me.votes (bankBase 0 s.fwTarget) s.fwSpan = [])
    (hbad : keysIn s.me.bad (bankBase 0 s.fwTarget) s.fwSpan = []) :
    if Config.signatureOk (bytesOfWords (s.ledWords (bankBase 0 s.fwTarget) s.fwSpan))
    then (s.fwSeal k).writing 1 (.bank 0 s.fwTarget (s.newSeq 0)) (some k) else (s.fwSeal k).ended k 0x54 := by
  rw [State.fwSeal_open rfl hopen hro hsoft hvotes hbad]
  by_cases hsig : Config.signatureOk (bytesOfWords (s.ledWords (bankBase 0 s.fwTarget) s.fwSpan)) = true
  · rw [if_pos hsig, if_pos hsig]
    exact State.writing_enqueue 1 _
  · rw [if_neg hsig, if_neg hsig]
    exact State.ended_complete ..

theorem State.fwSeal_closed {k : Nat} (hclosed : s.bit .LDG_STATUS 2 = false) : s.fwSeal k = s.complete k 0x53 0 :=
  if_pos (by simp [hclosed])

theorem State.fwActivate_begins {k : Nat} (hseal : s.bankSeq 0 s.fwTarget ≠ 0) (hkept : s.fwKept = false)
    (hro : s.readOnly 0 = false) :
    (s.fwActivate k).writing 1 .fwActivate (some k) ∧ (s.fwActivate k).mem = s.mem := by
  unfold State.fwActivate
  dsimp only
  rw [if_neg (by simp [hseal, hkept]), hro, if_neg (by simp)]
  exact ⟨State.writing_enqueue 1 _, State.mem_enqueue ..⟩

theorem State.fwActivate_refused {k : Nat} (h : s.bankSeq 0 s.fwTarget = 0 ∨ s.fwKept = true) :
    s.fwActivate k = s.complete k 0x53 0 := if_pos h

/-! ### The user area -/

/-- The state that a user write builds on: its newest bank has been met. -/
def State.userMet (s : State) : State :=
  match s.newestBank 4 with
  | some b => s.ledMeet (bankBase 4 b) 65280 2
  | none => s

theorem State.userMet_clean (h : ∀ b ∈ s.newestBank 4, keysIn s.me.soft (bankBase 4 b) 65280 = [] ∧
    keysIn s.me.votes (bankBase 4 b) 65280 = [] ∧ keysIn s.me.bad (bankBase 4 b) 65280 = []) : s.userMet = s := by
  unfold State.userMet
  split
  next b hb =>
    obtain ⟨hsoft, hvotes, hbad⟩ := h b hb
    exact State.ledMeet_clean hsoft hvotes hbad
  next => rfl

/-- The bank write of the user area, with new bytes in the content that its newest bank shows. -/
def State.userCommit (s : State) (k o n : Nat) (l : List Byte) : State :=
  let old := match s.newestBank 4 with
    | some b => bytesOfWords (s.ledWords (bankBase 4 b) 65280)
    | none => List.replicate 65280 0xFF#8
  s.enqueue 1 (bankJob 4 (s.targetBank 4) (s.newSeq 4) (old.take o ++ l ++ old.drop (o + n)) (some k))

theorem State.userWrite_eq (k : Nat) : s.userWrite k =
    if 65280 < (s.slot k).p2.toNat + (s.slot k).p1.toNat ∨ s.badSource (s.slot k).p0.toNat (s.slot k).p1.toNat = true
    then s.complete k 0x26 0
    else if s.readOnly 4 then s.complete k 0x56 0
    else s.withSource k (s.slot k).p0.toNat (s.slot k).p1.toNat fun l u =>
      u.userMet.userCommit k (s.slot k).p2.toNat (s.slot k).p1.toNat l := rfl

theorem State.userWrite_begins {k a n o : Nat} (ha : a = (s.slot k).p0.toNat) (hn : n = (s.slot k).p1.toNat)
    (ho : o = (s.slot k).p2.toNat) (hend : o + n ≤ 65280) (hsrc : s.badSource a n = false) (hro : s.readOnly 4 = false)
    (hbad : s.firstBad a n = none) (hsoft : keysIn s.me.soft a n = []) (hvotes : keysIn s.me.votes a n = [])
    (hbank : ∀ b ∈ s.newestBank 4, keysIn s.me.soft (bankBase 4 b) 65280 = [] ∧
      keysIn s.me.votes (bankBase 4 b) 65280 = [] ∧ keysIn s.me.bad (bankBase 4 b) 65280 = []) :
    (s.userWrite k).writing 1 (.bank 4 (s.targetBank 4) (s.newSeq 4)) (some k) ∧ (s.userWrite k).mem = s.mem := by
  have hmet : (s.dmaRestart 3).userMet = s.dmaRestart 3 :=
    State.userMet_clean (by rw [State.newestBank_dmaRestart]; exact hbank)
  rw [State.userWrite_eq, ← ha, ← hn, ← ho, if_neg (by simp [hsrc]; omega), hro, if_neg Bool.false_ne_true,
    State.withSource_clean hbad hsoft hvotes, hmet, State.userCommit, State.targetBank_dmaRestart, State.newSeq_dmaRestart]
  exact ⟨State.writing_enqueue 1 _, State.mem_enqueue ..⟩

theorem State.userWrite_refused {k a n o : Nat} (ha : a = (s.slot k).p0.toNat) (hn : n = (s.slot k).p1.toNat)
    (ho : o = (s.slot k).p2.toNat) (h : 65280 < o + n ∨ s.badSource a n = true ∨ s.readOnly 4 = true) :
    s.userWrite k = s.complete k (if 65280 < o + n ∨ s.badSource a n = true then 0x26 else 0x56) 0 := by
  rw [State.userWrite_eq, ← ha, ← hn, ← ho]
  by_cases hout : 65280 < o + n ∨ s.badSource a n = true
  · rw [if_pos hout, if_pos hout]
  · have hro : s.readOnly 4 = true := by
      rcases h with h | h | h
      · exact absurd (.inl h) hout
      · exact absurd (.inr h) hout
      · exact h
    rw [if_neg hout, if_neg hout, hro, if_pos rfl]

/-! ### The dump -/

theorem State.dumpRead_clean (d : DumpReq) (hsoft : keysIn s.me.soft 0x3C000 0x4000 = [])
    (hvotes : keysIn s.me.votes 0x3C000 0x4000 = []) (hbad : keysIn s.me.bad 0x3C000 0x4000 = []) :
    (s.dumpRead d).2 = s := by
  unfold State.dumpRead
  dsimp only
  rw [State.eccRange_clean hsoft hvotes, hbad]
  rfl

theorem exec_dumpStart {d : DumpReq} (hd : s.ld.dump = some d) (hstarted : d.started = false) (hacc : s.accepts = true)
    (hmc : s.pw.mc = .firmware) (hro : s.readOnly 3 = false) (hsoft : keysIn s.me.soft 0x3C000 0x4000 = [])
    (hvotes : keysIn s.me.votes 0x3C000 0x4000 = []) (hbad : keysIn s.me.bad 0x3C000 0x4000 = []) :
    ∃ t, exec .dumpStart s = .next t ∧ t.writing 3 (.bank 3 (s.targetBank 3) (s.newSeq 3)) none ∧
      t.ld.dump = some { d with started := true } := by
  have hread := State.dumpRead_clean (s := { s with ld := { s.ld with dump := some { d with started := true } } }) d
    hsoft hvotes hbad
  refine ⟨_, ?_, State.writing_enqueue (s := { s with ld := { s.ld with dump := some { d with started := true } } }) 3
    (bankJob 3 (s.targetBank 3) (s.newSeq 3)
      (State.dumpRead { s with ld := { s.ld with dump := some { d with started := true } } } d).1 none), ?_⟩
  · change execDumpStart s = _
    unfold execDumpStart
    rw [hd]
    dsimp only
    rw [if_neg (by simp [hstarted, hacc, hmc]), hro, if_neg (by simp), hread]
  · rw [State.enqueue, State.dump_kick]
    rfl

/-- Settles O27: each clause is what the command does in the state in which it notes its phase. -/
theorem ledgerCommands : Obligations.LedgerCommands := by
  unfold Obligations.LedgerCommands
  refine ⟨?write, ?writeOut, ?sealOpen, ?sealClosed, ?activate, ?activateRefused, ?user, ?userRefused, ?dump, ?restart⟩
  case write =>
    intro a n o k s hb ha hn ho ha4 hn4 ho4 hpos hmax hend hsrc hro hsingle hdone hbad hsoft hvotes
    have hslot := State.slot_setPhase (s := s) k 1
    exact ⟨_, congrArg Host.Outcome.next (State.ledgerRow_begins hb), State.fwWrite_begins (s := s.setPhase k 1)
      (by rw [hslot]; exact ha) (by rw [hslot]; exact hn) (by rw [hslot]; exact ho) ha4 hn4 ho4 hpos hmax hend hsrc hro
      (by rw [hslot]; exact hsingle) hdone hbad hsoft hvotes⟩
  case writeOut =>
    intro a n o k s hb ha hn ho h
    have hslot := State.slot_setPhase (s := s) k 1
    refine ⟨_, congrArg Host.Outcome.next ((State.ledgerRow_begins hb).trans (State.fwWrite_out (by rw [hslot]; exact ha)
      (by rw [hslot]; exact hn) (by rw [hslot]; exact ho) h)), State.ended_complete .., ?_⟩
    rw [State.ld_complete]
    rfl
  case sealOpen =>
    intro k s hb hopen hro hsoft hvotes hbad
    exact ⟨_, congrArg Host.Outcome.next (State.ledgerRow_begins hb),
      State.fwSeal_judged (s := s.setPhase k 1) hopen hro hsoft hvotes hbad⟩
  case sealClosed =>
    intro k s hb hclosed
    exact ⟨_, congrArg Host.Outcome.next ((State.ledgerRow_begins hb).trans (State.fwSeal_closed hclosed)),
      State.ended_complete ..⟩
  case activate =>
    intro k s hb hseal hkept hro
    exact ⟨_, congrArg Host.Outcome.next (State.ledgerRow_begins hb),
      State.fwActivate_begins (s := s.setPhase k 1) hseal hkept hro⟩
  case activateRefused =>
    intro k s hb h
    exact ⟨_, congrArg Host.Outcome.next ((State.ledgerRow_begins hb).trans (State.fwActivate_refused h)),
      State.ended_complete ..⟩
  case user =>
    intro a n o k s hb ha hn ho hend hsrc hro hbad hsoft hvotes hbank
    have hslot := State.slot_setPhase (s := s) k 1
    exact ⟨_, congrArg Host.Outcome.next (State.ledgerRow_begins hb), State.userWrite_begins (s := s.setPhase k 1)
      (by rw [hslot]; exact ha) (by rw [hslot]; exact hn) (by rw [hslot]; exact ho) hend hsrc hro hbad hsoft hvotes hbank⟩
  case userRefused =>
    intro a n o k s hb ha hn ho h
    have hslot := State.slot_setPhase (s := s) k 1
    refine ⟨_, congrArg Host.Outcome.next ((State.ledgerRow_begins hb).trans (State.userWrite_refused
      (by rw [hslot]; exact ha) (by rw [hslot]; exact hn) (by rw [hslot]; exact ho) h)), State.ended_complete .., ?_⟩
    rw [State.ld_complete]
    rfl
  case dump =>
    intro d s hd hstarted hacc hmc hro hsoft hvotes hbad
    exact exec_dumpStart hd hstarted hacc hmc hro hsoft hvotes hbad
  case restart =>
    intro s hloader hrestart
    exact congrArg Host.Outcome.next (if_pos (by simp [hloader, hrestart]))

end Sys2Proof.Machine

/-!
SUPPORT. Steps of the ledger's writes that end (R307, R310, R321).
-/

namespace Sys2Proof.Machine

variable {s t : State}

/-! ### Bytes of the store -/

/-- Bytes that are stored change the store alone. -/
theorem State.putBytes_eq (a : Nat) (l : List Byte) : s.putBytes a l = { s with mem := (s.putBytes a l).mem } := by
  induction l generalizing s a with
  | nil => rfl
  | cons b l ih =>
    rw [State.putBytes, ih]
    rfl

theorem State.mem_putBytes_congr (h : t.mem = s.mem) (a : Nat) (l : List Byte) : (t.putBytes a l).mem = (s.putBytes a l).mem := by
  induction l generalizing s t a with
  | nil => exact h
  | cons b l ih => exact ih (congrArg (memPut · a b) h) (a + 1)

theorem memGet_filter (p : Nat → Bool) (l : List Host.Cell) (x : Nat) :
    memGet (l.filter fun c => !p c.1) x = if p x then memDefault x else memGet l x := by
  induction l with
  | nil => simp [memGet]
  | cons c l ih =>
    obtain ⟨k, b⟩ := c
    by_cases hk : p k = true
    · rw [List.filter_cons_of_neg (by simp [hk]), ih, memGet]
      by_cases hx : k = x
      · rw [← hx, if_pos hk, if_pos hk]
      · rw [if_neg hx]
    · rw [List.filter_cons_of_pos (by simp [hk]), memGet, memGet, ih]
      by_cases hx : k = x
      · rw [if_pos hx, if_pos hx, ← hx, if_neg hk]
      · rw [if_neg hx, if_neg hx]

theorem State.readsBack_congr (hmem : t.mem = s.mem) (hme : t.me = s.me) (a : Nat) (l : List Byte) :
    t.readsBack a l = s.readsBack a l := by
  unfold State.readsBack State.ledWords State.ledWord State.sramBad State.word State.byte
  rw [hmem, hme]

/-! ### Lanes under the next step's begin -/

theorem State.lane_refill {l : Nat} (h : s.lane l ≠ []) : s.refill.lane l = s.lane l := by
  unfold State.refill
  split
  next hlane hbuf =>
    split
    · have hl : l ≠ 2 := by
        rintro rfl
        exact h hlane
      exact (State.lane_putLane 2 l _).trans (if_neg hl)
    · rfl
  next => rfl

/-- The begin of a step leaves the writes of a lane in place. -/
theorem State.kinds_kick {l : Nat} (h : s.lane l ≠ []) : (s.kick.lane l).map (·.kind) = (s.lane l).map (·.kind) := by
  have hrefill := State.lane_refill h
  unfold State.kick
  dsimp only
  split
  · rw [hrefill]
  · split
    · exact congrArg (List.map (·.kind)) hrefill
    · split
      · rw [hrefill]
      next m _ _ first rest hlane =>
        refine (congrArg (List.map (·.kind)) (State.lane_putLane m l _)).trans ?_
        by_cases hl : l = m
        · rw [if_pos hl, ← hrefill, hl, hlane]
          rfl
        · rw [if_neg hl, hrefill]

/-- While a step runs none begins. -/
theorem State.kick_running {l : Nat} (h : s.ld.cur = some l) : s.kick = s.refill := by
  have hcur : s.refill.ld.cur = some l := (State.refill_same (·.ld.cur) (fun _ _ _ => rfl) fun _ _ => rfl).trans h
  unfold State.kick
  dsimp only
  exact if_pos (by simp [hcur])

theorem State.slot_kick (k : Nat) : s.kick.slot k = s.slot k := congrArg (fun c : CmdX => c.slots.get k {}) State.cm_kick

theorem State.ended_kick {k code : Nat} (h : s.ended k code) : s.kick.ended k code := by
  rw [State.ended, State.slot_kick]
  exact h

/-! ### A step that ends -/

section

variable {l : Nat} (hcur : s.ld.cur = some l) (hrun : s.ld.suspended = false) (htries : s.ld.tries < 3)
include hcur hrun htries

theorem exec_ledgerStepDone (ok : Bool) : exec (.ledgerStepDone ok) s = .next (if ok then s.refill.stepEnded l
    else { s.refill with ld := { s.refill.ld with tries := s.refill.ld.tries + 1 } }) := by
  have hcur' : s.refill.ld.cur = some l := (State.refill_same (·.ld.cur) (fun _ _ _ => rfl) fun _ _ => rfl).trans hcur
  have hsus : s.refill.ld.suspended = false :=
    (State.refill_same (·.ld.suspended) (fun _ _ _ => rfl) fun _ _ => rfl).trans hrun
  have htr : s.refill.ld.tries = s.ld.tries := State.refill_same (·.ld.tries) (fun _ _ _ => rfl) fun _ _ => rfl
  change execLedgerStepDone ok s = _
  unfold execLedgerStepDone
  rw [State.kick_running hcur, hcur']
  refine congrArg Host.Outcome.next (if_neg ?_)
  simp [hsus, htr, htries]

end

/-- The running step is over. -/
def State.stepOver (s : State) : State := { s with ld := { s.ld with cur := none } }

/-- A write goes on with the steps that are left to it, in the state in which they are judged. -/
def LdgJob.goesOn (j : LdgJob) (l : Nat) (q : List LdgJob) (p : List LdgStep × State) : State :=
  if p.1.isEmpty && j.bank.isNone then ((p.2.putLane l q).jobDone { j with steps := p.1 }).kick
  else if p.1.head?.any LdgStep.isCompare then
    { p.2.putLane l ({ j with steps := p.1 } :: q) with
      ld := { (p.2.putLane l ({ j with steps := p.1 } :: q)).ld with cur := some l, tries := 3 } }
  else (p.2.putLane l ({ j with steps := p.1 } :: q)).kick

section

variable {l : Nat} {j : LdgJob} {q : List LdgJob} {st : LdgStep} {rest : List LdgStep} (hlane : s.lane l = j :: q)
  (hsteps : j.steps = st :: rest) (hafter : ∀ u : State, u.stepsAfter st rest = rest)
include hlane hsteps hafter

theorem State.stepEnded_eq : s.stepEnded l = j.goesOn l q ((s.stepOver.runStep st).bankReadBack rest) := by
  unfold State.stepEnded
  rw [hlane]
  dsimp only
  rw [hsteps]
  dsimp only
  rw [hafter]
  rfl

/-- A step with others behind it, none of them a read-back. -/
theorem State.stepEnded_goesOn (hmore : rest ≠ [] ∨ j.bank.isSome = true) (hcmp : rest.head?.any LdgStep.isCompare = false) :
    s.stepEnded l = ((s.stepOver.runStep st).putLane l ({ j with steps := rest } :: q)).kick := by
  have hback (u : State) : u.bankReadBack rest = (rest, u) := by
    unfold State.bankReadBack
    split
    · cases hcmp
    · rfl
  have hleft : ¬ (rest.isEmpty && j.bank.isNone) = true := by
    rcases hmore with h | h
    · simp [h]
    · simp [Option.ne_none_iff_isSome.2 h]
  rw [State.stepEnded_eq hlane hsteps hafter, hback, LdgJob.goesOn, if_neg hleft, hcmp, if_neg Bool.false_ne_true]

/-- The last step of a write without a seal. -/
theorem State.stepEnded_last (hrest : rest = []) (hbank : j.bank = none) :
    s.stepEnded l = (((s.stepOver.runStep st).putLane l q).jobDone { j with steps := [] }).kick := by
  subst hrest
  exact (State.stepEnded_eq hlane hsteps hafter).trans (if_pos (by simp [State.bankReadBack, hbank]))

/-- A content that does not read back stays in front. -/
theorem State.stepEnded_unread {x : Nat} {c : List Byte} {more : List LdgStep} {u : State} (hrest : rest = .compare x c :: more)
    (hu : s.stepOver.runStep st = u) (hsoft : keysIn u.me.soft x c.length = []) (hvotes : keysIn u.me.votes x c.length = [])
    (hbad : keysIn u.me.bad x c.length = []) (hread : u.readsBack x c = false) :
    s.stepEnded l = { (u.putLane l ({ j with steps := rest } :: q)) with
      ld := { (u.putLane l ({ j with steps := rest } :: q)).ld with cur := some l, tries := 3 } } := by
  subst hrest
  have hback : u.bankReadBack (.compare x c :: more) = (.compare x c :: more, u) := by
    unfold State.bankReadBack
    dsimp only
    rw [State.ledMeet_clean hsoft hvotes hbad, hread, if_neg Bool.false_ne_true]
  rw [State.stepEnded_eq hlane hsteps hafter, hu, hback]
  rfl

end

end Sys2Proof.Machine

/-!
SUPPORT. Commits and failures of the ledger's writes, and the obligation on its lanes (R307, R310, R321).
-/

namespace Sys2Proof.Machine

variable {s t : State}

/-! ### Commits -/

theorem State.rd_message (src info code count : Nat) (q : Reg) : (s.message src info code count).rd q = s.rd q := rfl

theorem State.rd_complete_other (k code detail : Nat) {q : Reg} (h : q ≠ .LDG_RESULT) : (s.complete k code detail).rd q = s.rd q := by
  unfold State.complete
  dsimp only
  rw [State.rd_message]
  split
  · rw [State.rd_put, if_neg h, State.rd_put, if_neg h]
    rfl
  · rfl

theorem exec_ledgerCommit {l r b n : Nat} {j : LdgJob} {q : List LdgJob} (hexp : s.wd.expired = false)
    (hcommit : s.commitLane = some l) (hlane : s.lane l = j :: q) (hkind : j.kind = .bank r b n) :
    exec .ledgerCommit s = .next ((s.putLane l q).bankCommitted r b n j.slot).kick := by
  change execLedgerCommit s = _
  unfold execLedgerCommit
  rw [hexp, if_neg Bool.false_ne_true, hcommit]
  dsimp only
  rw [hlane]
  dsimp only
  rw [hkind]

/-- The first write of a remaining bank is noted, and nothing else changes. -/
theorem State.soleWrite_same {α : Type} (v : State → α)
    (h : ∀ (u : State) d, v { u with ld := { u.ld with soleDone := d } } = v u) (r b : Nat) : v (s.soleWrite r b) = v s := by
  unfold State.soleWrite
  split
  · exact h ..
  · rfl

theorem State.rd_soleWrite (r b : Nat) (q : Reg) : (s.soleWrite r b).rd q = s.rd q :=
  State.soleWrite_same (·.rd q) (fun _ _ => rfl) r b

theorem State.bankCommitted_plain {r b n k : Nat} (hr : r = 0 ∨ r = 2 ∨ r = 4) :
    (s.bankCommitted r b n (some k)).ended k 0 ∧
    (r = 0 → (s.bankCommitted r b n (some k)).fld .LDG_STATUS Fld.LDG_STATUS_FWOPEN = 0) := by
  rcases hr with rfl | rfl | rfl
  · refine ⟨State.ended_complete .., fun _ => ?_⟩
    change (((s.soleWrite 0 b).put .LDG_STATUS Fld.LDG_STATUS_FWOPEN 0).complete k 0 0).fld .LDG_STATUS _ = 0
    rw [State.fld_congr (State.rd_complete_other _ _ _ (by decide)), State.fld_put _ _ (by decide)]
    rfl
  · exact ⟨State.ended_complete .., fun h => nomatch h⟩
  · exact ⟨State.ended_complete .., fun h => nomatch h⟩

/-! ### The commit of a load -/

/-- Bank and sequence number of a load are shown. -/
def State.loadShown (s : State) (b n : Nat) : State :=
  (s.wr .TPL_STATUS (putF (putF (s.rd .TPL_STATUS) Fld.TPL_STATUS_BANK b) Fld.TPL_STATUS_UNSAVED 0)).wr .TPL_SEQNUM
    (BitVec.ofNat 32 n)

theorem State.bankCommitted_load {b n k : Nat} (hop : (s.slot k).op ≠ 0x41) : s.bankCommitted 1 b n (some k) =
    (((s.soleWrite 1 b).loadShown b n).loadOver k).complete k 0 0 := by
  have hslot : (s.soleWrite 1 b).slot k = s.slot k := State.soleWrite_same (·.slot k) (fun _ _ => rfl) 1 b
  exact if_neg (by rw [hslot]; exact hop)

/-- The record of the load's reload is closed, and its bank stays shown. -/
structure State.LoadShown (s : State) (b n : Nat) : Prop where
  st : s.tplSt = 2
  phase : s.tplPhase = 0
  bank : s.fld .TPL_STATUS Fld.TPL_STATUS_BANK = b % 2
  seqnum : s.rd .TPL_SEQNUM = BitVec.ofNat 32 n
  idle : s.tp.reload = none

theorem State.loadClosed_shown (b n : Nat) {k : Nat} (h : ∀ r ∈ s.tp.reload, r.slot = k) :
    ((s.loadShown b n).loadClosed k).LoadShown b n := by
  have hnone : s.tp.reload.filter (fun r => r.slot != k) = none := by
    rw [Option.filter_eq_none_iff]
    intro r hr
    simp [h r hr]
  obtain ⟨hst, hphase⟩ := State.loadClosed_idle (s := s.loadShown b n) (k := k) hnone
  refine ⟨hst, hphase, ?_, ?_, hnone⟩
  · rw [State.loadClosed, State.setTpl, State.fld_put_field _ _ (by decide) (by decide),
      State.fld_put_field _ _ (by decide) (by decide)]
    change State.fld (State.loadShown s b n) _ _ = _
    rw [State.loadShown, State.fld_wr_reg _ (by decide), State.fld, State.rd_wr, if_pos rfl,
      getF_putF_other _ _ _ _ (by decide) (by decide), getF_putF _ _ _ (by decide)]
    rfl
  · rw [State.loadClosed, State.setTpl, State.rd_put, if_neg (by decide), State.rd_put, if_neg (by decide)]
    exact (State.rd_wr ..).trans (if_pos rfl)

/-- What a load shows stands behind its completion and the next step's begin. -/
theorem State.rd_loadEnd (k : Nat) {q : Reg} (hq : q ≠ .LDG_RESULT) (hst : q ≠ .LDG_STATUS) :
    (s.complete k 0 0).kick.rd q = s.rd q := by
  rw [State.rd_kick hst, State.rd_complete_other _ _ _ hq]

theorem State.tp_loadEnd (k : Nat) : (s.complete k 0 0).kick.tp = s.tp := by
  rw [State.tp_kick, State.tp_complete]

theorem State.soleWrite_shared (r b : Nat) : (s.soleWrite r b).tp = s.tp ∧ (s.soleWrite r b).waitingLoads = s.waitingLoads :=
  ⟨State.soleWrite_same State.tp (fun _ _ => rfl) r b, State.soleWrite_same State.waitingLoads (fun _ _ => rfl) r b⟩

theorem State.waitingLoads_loadClosed (b n k : Nat) : ((s.loadShown b n).loadClosed k).waitingLoads = s.waitingLoads := rfl

theorem State.reloadNext_none (h : s.waitingLoads = []) : s.reloadNext = s := by
  unfold State.reloadNext
  rw [h]

theorem State.reloadNext_ready {i : Nat} {w : List Nat} (h : s.waitingLoads = i :: w) (hst : s.tplSt = 2)
    (hidle : s.tp.reload = none) : s.reloadNext = s.reloadAccept i := by
  unfold State.reloadNext
  rw [h]
  exact if_pos (by simp [State.reloadReady, hst, hidle])

/-! ### The commit of a dump -/

theorem State.rd_logRec {q : Reg} (kind len : Nat) (stamp : Stamp) (l : List Word) (hq : q.sensed = false) (hlog : q ≠ .LDG_LOG)
    (hflag : q ≠ .LDG_FLAG) : (s.logRec kind len stamp l).rd q = s.rd q := by
  unfold State.logRec
  split
  · rw [State.setFlag, State.rd_setFlagI_reg _ _ (by decide) hq hflag]
    change (s.addSat .LDG_LOG Fld.LDG_LOG_DROP 1).rd q = s.rd q
    exact State.rd_addSat_reg _ _ hlog
  · rfl

/-- A dump is counted and its slot shown. -/
def State.dumpShown (s : State) (b : Nat) : State := (s.addSat .LDG_DUMP Fld.LDG_DUMP_COUNT 1).put .LDG_DUMP Fld.LDG_DUMP_SLOT b

/-- The record and the event of a dump. -/
def State.dumpTold (s : State) (b n src : Nat) : State :=
  ((s.dumpShown b).logRec 0x08 3 (s.dumpShown b).now [BitVec.ofNat 32 b, BitVec.ofNat 32 n, BitVec.ofNat 32 src]).happen 135 b 0

theorem State.dumpCommitted_eq {b n : Nat} {d : DumpReq} (h : s.ld.dump = some d) : s.dumpCommitted b n =
    { s.dumpTold b n d.src with
      ld := { (s.dumpTold b n d.src).ld with dump := none },
      pw := { (s.dumpTold b n d.src).pw with
        mc := if d.src = 55 ∧ (s.dumpTold b n d.src).pw.mc ≠ .off then .stopped else (s.dumpTold b n d.src).pw.mc } } := by
  unfold State.dumpCommitted
  rw [h]
  rfl

theorem State.rd_dumpTold (b n src : Nat) : (s.dumpTold b n src).rd .LDG_DUMP = (s.dumpShown b).rd .LDG_DUMP := by
  rw [State.dumpTold, State.rd_happen _ _ _ (by decide) (by decide), State.rd_logRec _ _ _ _ rfl (by decide) (by decide)]

theorem State.dumpCommitted_shows {b n : Nat} {d : DumpReq} (h : s.ld.dump = some d) :
    (s.dumpCommitted b n).ld.dump = none ∧
    (s.dumpCommitted b n).fld .LDG_DUMP Fld.LDG_DUMP_COUNT = min 65535 (s.fld .LDG_DUMP Fld.LDG_DUMP_COUNT + 1) ∧
    (s.dumpCommitted b n).fld .LDG_DUMP Fld.LDG_DUMP_SLOT = b % 2 := by
  have hregs : (s.dumpCommitted b n).regs = (s.dumpTold b n d.src).regs := by rw [State.dumpCommitted_eq h]
  have hrd := (State.rd_of_same_regs hregs .LDG_DUMP).trans (State.rd_dumpTold b n d.src)
  refine ⟨by rw [State.dumpCommitted_eq h], (State.fld_congr hrd _).trans ?_, (State.fld_congr hrd _).trans ?_⟩
  · rw [State.dumpShown, State.fld_put_field _ _ (by decide) (by decide), State.fld_addSat _ _ _ (by decide)]
    rfl
  · rw [State.dumpShown, State.fld_put _ _ (by decide)]
    rfl

/-! ### A write that fails -/

/-- The failed write has left its lane and its block is recorded. -/
def State.writeFailed (s : State) (l a : Nat) (q : List LdgJob) : State :=
  ((({ s with ld := { s.ld with cur := none, tries := 0 } } : State).putLane l q).wr .LDG_BADBLK
    (BitVec.ofNat 32 (blockAddr (blockOf a) + 2))).setFlagI .LDG_FLAG 0 (blockOf a) 0

theorem exec_ledgerWriteFail {l r b n a k : Nat} {d : List Byte} {j : LdgJob} {rest : List LdgStep} {q : List LdgJob}
    (hcur : s.ld.cur = some l) (htries : 3 ≤ s.ld.tries) (hlane : s.lane l = j :: q) (hkind : j.kind = .bank r b n)
    (hsteps : j.steps = .program a d :: rest) (hslot : j.slot = some k) (h1 : r ≠ 1) (h3 : r ≠ 3) :
    exec .ledgerWriteFail s = .next ((s.writeFailed l a q).complete k 0x50 (blockOf a)).kick := by
  change execLedgerWriteFail s = _
  unfold execLedgerWriteFail
  rw [hcur]
  dsimp only
  rw [if_neg (Nat.not_lt.2 htries), hlane]
  dsimp only
  rw [hsteps, hkind, hslot]
  split
  next heq => cases heq
  next heq =>
    cases heq
    exact absurd rfl h3
  next heq =>
    cases heq
    exact absurd rfl h1
  next => rfl

/-! ### The bytes that a step leaves -/

theorem State.byte_erased (b x : Nat) {l : Nat} {js : List LdgJob} :
    memGet ((s.refill.stepOver.runStep (.erase b)).putLane l js).mem x =
      if blockAddr b ≤ x ∧ x < blockAddr b + 4096 then memDefault x else s.byte x := by
  have hdrop (u : State) : (u.dropFactory b).mem = u.mem := by
    unfold State.dropFactory
    split <;> rfl
  have hmem : s.refill.mem = s.mem := State.refill_same State.mem (fun _ _ _ => rfl) fun _ _ => rfl
  change memGet ((s.refill.stepOver.dropFactory b).mem.filter fun c =>
    !(decide (blockAddr b ≤ c.1) && decide (c.1 < blockAddr b + blockSize))) x = _
  rw [hdrop, memGet_filter fun y => decide (blockAddr b ≤ y) && decide (y < blockAddr b + blockSize)]
  change (if _ then _ else memGet s.refill.mem x) = _
  rw [hmem]
  simp only [Bool.and_eq_true, decide_eq_true_eq]
  rfl

theorem State.mem_programmed (a : Nat) (d : List Byte) :
    (s.refill.stepOver.runStep (.program a d)).mem = (s.putBytes a d).mem :=
  State.mem_putBytes_congr (t := s.refill.stepOver)
    (State.refill_same (s := s) State.mem (fun _ _ _ => rfl) fun _ _ => rfl) a d

theorem State.me_programBytes (a : Nat) (d : List Byte) : (s.programBytes a d).me = s.me := by
  change (s.putBytes a d).me = s.me
  rw [State.putBytes_eq]

theorem State.me_programmed (a : Nat) (d : List Byte) :
    (s.refill.stepOver.runStep (.program a d)).me = (s.programBytes a d).me := by
  rw [State.me_programBytes]
  exact (State.me_programBytes (s := s.refill.stepOver) a d).trans
    (State.refill_same (s := s) State.me (fun _ _ _ => rfl) fun _ _ => rfl)

theorem State.fld_kick {f : Field} (hf : f.hi < 3 ∨ 3 < f.lo) : s.kick.fld .LDG_STATUS f = s.fld .LDG_STATUS f :=
  State.kick_same (·.fld .LDG_STATUS f) (fun _ _ => State.fld_put_field _ _ (by decide) hf) (fun _ _ _ => rfl)
    (fun _ _ _ _ => rfl) fun _ _ => rfl

/-- Settles O26: each clause through the step, the commit or the failure that it is about. -/
theorem ledgerLanes : Obligations.LedgerLanes := by
  unfold Obligations.LedgerLanes
  refine ⟨?program, ?erase, ?last, ?again, ?unread, ?commit, ?load, ?nextLoad, ?dump, ?fail, ?suspend, ?resume⟩
  case program =>
    intro l a d rest j q s hcur hrun htries hlane hsteps hmore hcmp
    have hlane' : s.refill.lane l = j :: q := (State.lane_refill (by simp [hlane])).trans hlane
    refine ⟨_, (exec_ledgerStepDone hcur hrun htries true).trans (congrArg Host.Outcome.next
      (State.stepEnded_goesOn hlane' hsteps (fun _ => rfl) hmore hcmp)), ?_, ?_⟩
    · rw [State.mem_kick]
      exact State.mem_programmed a d
    · have hput := State.lane_putLane (s := s.refill.stepOver.runStep (.program a d)) l l ({ j with steps := rest } :: q)
      rw [if_pos rfl] at hput
      have hkinds := State.kinds_kick (by rw [hput]; simp)
      rw [hput] at hkinds
      rw [hlane]
      exact ⟨by rw [← List.head?_map, hkinds]; rfl, by simpa using congrArg List.length hkinds⟩
  case erase =>
    intro l b rest j q s hcur hrun htries hlane hsteps hmore hcmp
    have hlane' : s.refill.lane l = j :: q := (State.lane_refill (by simp [hlane])).trans hlane
    refine ⟨_, (exec_ledgerStepDone hcur hrun htries true).trans (congrArg Host.Outcome.next
      (State.stepEnded_goesOn hlane' hsteps (fun _ => rfl) hmore hcmp)), fun x => ?_⟩
    rw [State.byte, State.mem_kick]
    exact State.byte_erased b x
  case last =>
    intro l a k d j q s hcur hrun htries hlane hsteps hkind hslot
    have hlane' : s.refill.lane l = j :: q := (State.lane_refill (by simp [hlane])).trans hlane
    have hbank : j.bank = none := by
      unfold LdgJob.bank
      rw [hkind]
    have hdone (u : State) : u.jobDone { j with steps := [] } = u.complete k 0 0 := by
      unfold State.jobDone
      dsimp only
      rw [hkind, hslot]
      rfl
    refine ⟨_, (exec_ledgerStepDone hcur hrun htries true).trans (congrArg Host.Outcome.next
      ((State.stepEnded_last hlane' hsteps (fun _ => rfl) rfl hbank).trans (congrArg State.kick (hdone _)))), ?_,
      State.ended_kick (State.ended_complete ..)⟩
    rw [State.mem_kick, State.mem_complete]
    exact State.mem_programmed a d
  case again =>
    intro l j q s hcur hrun htries hlane
    refine ⟨_, exec_ledgerStepDone hcur hrun htries false, ?_, State.lane_refill (by simp [hlane]),
      State.refill_same State.mem (fun _ _ _ => rfl) fun _ _ => rfl⟩
    exact congrArg (· + 1) (State.refill_same (·.ld.tries) (fun _ _ _ => rfl) fun _ _ => rfl)
  case unread =>
    intro l a x d c rest j q s u hcur hrun htries hlane hl hsteps hu hsoft hvotes hbad hread
    subst hu
    have hlane' : s.refill.lane l = j :: q := (State.lane_refill (by simp [hlane])).trans hlane
    have hmem : _ = (s.programBytes a d).mem := State.mem_programmed (s := s) a d
    have hme := State.me_programmed (s := s) a d
    refine ⟨_, (exec_ledgerStepDone hcur hrun htries true).trans (congrArg Host.Outcome.next
      (State.stepEnded_unread hlane' hsteps (fun _ => rfl) rfl rfl (by rw [hme]; exact hsoft) (by rw [hme]; exact hvotes)
        (by rw [hme]; exact hbad) ((State.readsBack_congr hmem hme x c).trans hread))), hmem, rfl, rfl, ?_⟩
    exact (State.lane_putLane l l _).trans (if_pos rfl)
  case commit =>
    intro l r b n k j q s hexp hcommit hlane hkind hslot hr
    obtain ⟨hended, hopen⟩ := State.bankCommitted_plain (s := s.putLane l q) (b := b) (n := n) (k := k) hr
    refine ⟨_, exec_ledgerCommit hexp hcommit hlane hkind, ?_, fun h => ?_⟩
    · rw [hslot]
      exact State.ended_kick hended
    · rw [hslot, State.fld_kick (by decide)]
      exact hopen h
  case load =>
    intro l b n k j q s hexp hcommit hlane hkind hslot hop hreload hwaiting
    have hload := State.bankCommitted_load (s := s.putLane l q) (b := b) (n := n) hop
    obtain ⟨htp, hcm⟩ := State.soleWrite_shared (s := s.putLane l q) 1 b
    have hshown := State.loadClosed_shown (s := (s.putLane l q).soleWrite 1 b) b n (k := k) (by rw [htp]; exact hreload)
    have hover : ((((s.putLane l q).soleWrite 1 b).loadShown b n).loadOver k) =
        (((s.putLane l q).soleWrite 1 b).loadShown b n).loadClosed k :=
      State.reloadNext_none (s := (((s.putLane l q).soleWrite 1 b).loadShown b n).loadClosed k)
        ((State.waitingLoads_loadClosed ..).trans (hcm.trans hwaiting))
    rw [hover] at hload
    obtain ⟨hst, hphase, hbank, hseq, hidle⟩ := hshown
    refine ⟨_, (exec_ledgerCommit hexp hcommit hlane hkind).trans (congrArg Host.Outcome.next
      (congrArg State.kick ((congrArg _ hslot).trans hload))), State.ended_kick (State.ended_complete ..), ?_, ?_, ?_, ?_, ?_⟩
    · exact (State.fld_congr (State.rd_loadEnd k (by decide) (by decide)) _).trans hst
    · exact (State.fld_congr (State.rd_loadEnd k (by decide) (by decide)) _).trans hphase
    · exact (State.fld_congr (State.rd_loadEnd k (by decide) (by decide)) _).trans hbank
    · exact (State.rd_loadEnd k (by decide) (by decide)).trans hseq
    · rw [State.tp_loadEnd]
      exact hidle
  case nextLoad =>
    intro l b n k i w j q s hexp hcommit hlane hkind hslot hop hreload hwaiting _
    have hload := State.bankCommitted_load (s := s.putLane l q) (b := b) (n := n) hop
    obtain ⟨htp, hcm⟩ := State.soleWrite_shared (s := s.putLane l q) 1 b
    have hshown := State.loadClosed_shown (s := (s.putLane l q).soleWrite 1 b) b n (k := k) (by rw [htp]; exact hreload)
    have hover : ((((s.putLane l q).soleWrite 1 b).loadShown b n).loadOver k) =
        ((((s.putLane l q).soleWrite 1 b).loadShown b n).loadClosed k).reloadAccept i :=
      State.reloadNext_ready (s := (((s.putLane l q).soleWrite 1 b).loadShown b n).loadClosed k)
        ((State.waitingLoads_loadClosed ..).trans (hcm.trans hwaiting)) hshown.st hshown.idle
    rw [hover] at hload
    obtain ⟨hst, hphase, -⟩ :=
      State.reloadAccept_shows (s := (((s.putLane l q).soleWrite 1 b).loadShown b n).loadClosed k) i
    refine ⟨_, (exec_ledgerCommit hexp hcommit hlane hkind).trans (congrArg Host.Outcome.next
      (congrArg State.kick ((congrArg _ hslot).trans hload))), State.ended_kick (State.ended_complete ..), ?_, ?_, ?_⟩
    · exact (State.fld_congr (State.rd_loadEnd k (by decide) (by decide)) _).trans hst
    · exact (State.fld_congr (State.rd_loadEnd k (by decide) (by decide)) _).trans hphase
    · rw [State.tp_loadEnd]
      rfl
  case dump =>
    intro l b n d j q s hexp hcommit hlane hkind hdump
    have hdump' : ((s.putLane l q).soleWrite 3 b).ld.dump = some d :=
      (State.soleWrite_same (·.ld.dump) (fun _ _ => rfl) 3 b).trans hdump
    obtain ⟨hnone, hcount, hslot⟩ := State.dumpCommitted_shows (b := b) (n := n) hdump'
    have hfld (g : Field) : ((s.putLane l q).soleWrite 3 b).fld .LDG_DUMP g = s.fld .LDG_DUMP g :=
      State.fld_congr (State.rd_soleWrite 3 b _) g
    refine ⟨_, exec_ledgerCommit hexp hcommit hlane hkind, ?_, ?_, ?_⟩
    · rw [State.dump_kick]
      exact hnone
    · rw [State.fld_congr (State.rd_kick (by decide)), ← hfld]
      exact hcount
    · rw [State.fld_congr (State.rd_kick (by decide))]
      exact hslot
  case fail =>
    intro l r b n a k d j rest q s hcur htries hlane hkind hsteps hslot h1 h3
    refine ⟨_, exec_ledgerWriteFail hcur htries hlane hkind hsteps hslot h1 h3, State.ended_kick (State.ended_complete ..),
      ?_, ?_⟩
    · rw [State.rd_kick (by decide), State.rd_complete_other _ _ _ (by decide), State.writeFailed,
        State.rd_setFlagI_reg _ _ (by decide) rfl (by decide), State.rd_wr, if_pos rfl]
    · rw [State.bit_congr (State.rd_kick (by decide)), State.bit_congr (State.rd_complete_other _ _ _ (by decide))]
      exact State.bit_setFlagI _ _ _ _ (by decide) (by decide) (by decide)
  case suspend =>
    intro s hbit hcur
    exact congrArg Host.Outcome.next (if_pos (by rw [hbit, hcur]; rfl))
  case resume => exact fun _ => rfl

end Sys2Proof.Machine

/-!
SUPPORT. Ports of the Line that are lost, and what their queues and a survey do then (R360, R365, R372).
-/

namespace Sys2Proof.Machine

variable {s t u : State}

/-! ### What follows the loss of a port -/

/-- Latched sources, states of ports and the CHECKs that were received stand; flags of the Line may rise. -/
structure Onward (s t : State) : Prop where
  stat : ∀ w, t.rd (.FLT_STAT w) = s.rd (.FLT_STAT w)
  port : ∀ p, t.rd (.LNK_P_STATE p) = s.rd (.LNK_P_STATE p)
  flag : ∀ b, s.bit .LNK_FLAG b = true → t.bit .LNK_FLAG b = true
  checked : t.ln.checked = s.ln.checked

theorem Onward.refl (s : State) : Onward s s := ⟨fun _ => rfl, fun _ => rfl, fun _ h => h, rfl⟩

theorem Onward.trans (h : Onward s t) (k : Onward t u) : Onward s u :=
  ⟨fun w => (k.stat w).trans (h.stat w), fun p => (k.port p).trans (h.port p), fun b hb => k.flag b (h.flag b hb),
    k.checked.trans h.checked⟩

theorem Onward.of_regs (h : t.regs = s.regs) (hc : t.ln.checked = s.ln.checked) : Onward s t :=
  ⟨fun _ => State.rd_of_same_regs h _, fun _ => State.rd_of_same_regs h _,
    fun b hb => (State.bit_congr (State.rd_of_same_regs h _) b).trans hb, hc⟩

theorem Onward.each {α : Type} {f : α → State → State} (h : ∀ x s, Onward s (f x s)) (l : List α) :
    Onward s (Machine.each l f s) := by
  unfold Machine.each
  induction l generalizing s with
  | nil => exact Onward.refl s
  | cons x l ih => exact (h x s).trans ih

theorem Onward.send (p : Nat) (f : Frame) : Onward s (s.send p f) := .of_regs rfl rfl

/-- A flag of the Line rises. -/
theorem Onward.setFlagI (b info code : Nat) (hb : b < 32) : Onward s (s.setFlagI .LNK_FLAG b info code) where
  stat _ := State.rd_setFlagI_reg _ _ hb rfl (by simp)
  port _ := State.rd_setFlagI_reg _ _ hb rfl (by simp)
  flag j hj := by rw [State.bit_setFlagI_eq _ _ hb rfl, hj, Bool.true_or]
  checked := congrArg LnX.checked (State.setFlagI_eventsOnly ..).ln

/-- A register of the Line other than those of a port's state and the flags counts. -/
theorem Onward.addSat (r : Reg) (f : Field) (n : Nat) (hstat : ∀ w, Reg.FLT_STAT w ≠ r) (hport : ∀ p, Reg.LNK_P_STATE p ≠ r)
    (hflag : Reg.LNK_FLAG ≠ r) : Onward s (s.addSat r f n) :=
  ⟨fun w => State.rd_addSat_reg _ _ (hstat w), fun p => State.rd_addSat_reg _ _ (hport p),
    fun b hb => (State.bit_addSat_reg _ _ hflag b).trans hb, rfl⟩

theorem Onward.unreach (p : Nat) (f : Frame) : Onward s (s.unreach p f) :=
  (Onward.addSat (.LNK_P_CNT2 p) _ _ (by simp) (by simp) (by simp)).trans (Onward.setFlagI 4 _ _ (by decide))

theorem Onward.requeue (p : Nat) (f : Frame) : Onward s (s.requeue p f) := by
  unfold State.requeue
  split
  · exact .refl s
  · split
    · exact .unreach p f
    · split
      · exact .send _ f
      · exact .unreach p f

theorem State.ln_complete (k code detail : Nat) : (s.complete k code detail).ln = s.ln := by
  unfold State.complete
  dsimp only
  split <;> rfl

/-- The end of a survey writes LNK_STATUS and completes a command. -/
theorem State.rd_surveyEnd (v : Survey) (code bits : Nat) {q : Reg} (hst : q ≠ .LNK_STATUS) (hq : q ≠ .LDG_RESULT) :
    (s.surveyEnd v code bits).rd q = s.rd q := by
  rw [State.surveyEnd, State.rd_complete_other _ _ _ hq, State.rd_put, if_neg hst, State.rd_putBit, if_neg hst]
  rfl

theorem State.ln_surveyEnd (v : Survey) (code bits : Nat) : (s.surveyEnd v code bits).ln = { s.ln with survey := none } :=
  State.ln_complete ..

theorem Onward.surveyEnd (v : Survey) (code bits : Nat) : Onward s (s.surveyEnd v code bits) where
  stat _ := State.rd_surveyEnd _ _ _ (by simp) (by simp)
  port _ := State.rd_surveyEnd _ _ _ (by simp) (by simp)
  flag b hb := (State.bit_congr (State.rd_surveyEnd _ _ _ (by simp) (by simp)) b).trans hb
  checked := by rw [State.ln_surveyEnd]

/-! ### A lost port -/

/-- The marks of a lost port, before its fault is raised. -/
def State.lostMarks (s : State) (p : Nat) : State :=
  ((((s.dropTx p fun f => f.typ == 3).setPort p 4).addSat (.LNK_P_CNT1 p) Fld.LNK_P_CNT1_HI 1).setFlagI .LNK_FLAG 1 p 0).live
    (244 + p) true

/-- The queue of a lost port goes elsewhere, and a survey that waits for it ends. -/
def State.lostQueue (s : State) (p : Nat) (q : List Frame) : State :=
  let s1 := each q (fun f u => u.requeue p f) s
  match s1.ln.survey with
  | some v => if v.probes.any (fun b => b.path.head? == some p) then s1.surveyEnd v 0x64 0 else s1
  | none => s1

theorem State.portLost_eq (p : Nat) : s.portLost p = ((s.lostMarks p).raise (244 + p) 0).lostQueue p (s.txq p) := rfl

theorem Onward.lostQueue (p : Nat) (q : List Frame) : Onward s (s.lostQueue p q) := by
  have hqueue : Onward s (Machine.each q (fun f u => u.requeue p f) s) := Onward.each (fun f _ => Onward.requeue p f) q
  unfold State.lostQueue
  dsimp only
  split
  · split
    · exact hqueue.trans (.surveyEnd ..)
    · exact hqueue
  · exact hqueue

/-- The marks of the Line that stood before a raise stand behind it. -/
theorem State.flag_raise_lnk {f cause b : Nat} (h : s.bit .LNK_FLAG b = true) : (s.raise f cause).bit .LNK_FLAG b = true := by
  obtain ⟨v, hv, hregs⟩ := State.raise_lnk (s := s) f cause
  have hbase : v.bit .LNK_FLAG b = true := (State.bit_congr (hv.regs .LNK_FLAG (not_not.2 rfl)) b).trans h
  rcases hregs with hr | hr
  · exact (State.bit_congr (State.rd_of_same_regs hr _) b).trans hbase
  · rw [State.bit_congr (State.rd_of_same_regs hr _), State.sendTrip_eq, State.tripCounted,
      State.bit_setFlagI_eq _ _ (by decide) rfl, State.bit_addSat_reg _ _ (by decide)]
    have hqueued : (v.tripsQueued f).bit .LNK_FLAG b = true :=
      (State.bit_congr (State.rd_of_same_regs (State.tripsQueued_queues f).regs _) b).trans hbase
    exact Bool.or_eq_true_iff.2 (.inl hqueued)

theorem State.checked_raise (f cause : Nat) : (s.raise f cause).ln.checked = s.ln.checked := by
  change (s.raise f cause).beyond.ln.checked = s.beyond.ln.checked
  rw [State.beyond_raise]

theorem State.portSt_raise (f cause p : Nat) : (s.raise f cause).portSt p = s.portSt p :=
  State.fld_congr (State.rd_raise_lnk rfl (by simp) (by simp)) _

/-- What the loss of a port shows. -/
theorem State.portLost_shows (p : Nat) : (s.portLost p).portSt p = 4 ∧ (s.portLost p).latched (244 + p) = true ∧
    (s.portLost p).bit .LNK_FLAG 1 = true ∧ (s.portLost p).ln.checked = s.ln.checked ∧
    ∀ b, s.bit .LNK_FLAG b = true → (s.portLost p).bit .LNK_FLAG b = true := by
  have honward := Onward.lostQueue (s := (s.lostMarks p).raise (244 + p) 0) p (s.txq p)
  have hport : (s.lostMarks p).portSt p = 4 := by
    rw [State.lostMarks, State.live, State.portSt, State.fld_putBit_reg _ _ (by simp),
      State.fld_setFlagI_reg _ _ (by decide) rfl (by simp), State.fld_addSat_reg _ _ (by simp)]
    exact State.portSt_setPort (by decide)
  have hflag (b : Nat) : (s.lostMarks p).bit .LNK_FLAG b = (s.bit .LNK_FLAG b || decide (b = 1)) := by
    rw [State.lostMarks, State.live, State.bit_putBit_reg _ _ (by simp), State.bit_setFlagI_eq _ _ (by decide) rfl,
      State.bit_addSat_reg _ _ (by simp), State.setPort, State.bit_put_reg _ _ (by simp)]
    rfl
  have hchecked : (s.lostMarks p).ln.checked = s.ln.checked := by
    change (State.setFlagI _ _ _ _ _).ln.checked = _
    rw [(State.setFlagI_eventsOnly ..).ln]
    rfl
  rw [State.portLost_eq]
  refine ⟨?_, ?_, ?_, ?_, fun b hb => ?_⟩
  · exact (State.fld_congr (honward.port p) _).trans ((State.portSt_raise ..).trans hport)
  · exact (State.latched_congr honward.stat _).trans (State.latched_raise ..)
  · exact honward.flag 1 (State.flag_raise_lnk (by simp [hflag]))
  · exact honward.checked.trans ((State.checked_raise ..).trans hchecked)
  · exact honward.flag b (State.flag_raise_lnk (by simp [hflag, hb]))

end Sys2Proof.Machine

/-!
SUPPORT. Frames that arrive at a port and CHECKs, and the obligation on frames (R354, R355, R358 to R360, R363).
-/

namespace Sys2Proof.Machine

variable {s t : State}

/-! ### Headers -/

/-- A frame is handed on at the ports of its route. -/
def State.handedOn (s : State) (p : Nat) (f : Frame) : State :=
  each (s.route1 p f).outs (fun q u => u.send q (s.route1 p f).frame) s

theorem State.handedOn_queues (p : Nat) (f : Frame) : Queues s (s.handedOn p f) := Queues.each (fun q _ => Queues.send q _) _

theorem State.mem_handedOn (p : Nat) (f : Frame) :
    ∀ q ∈ (s.route1 p f).outs, (s.route1 p f).frame ∈ (s.handedOn p f).txq q := by
  intro q hq
  obtain ⟨g, hg, rfl⟩ := Queues.each_mem (s := s) (k := fun q u => u.send q (s.route1 p f).frame) (port := id)
    (Q := fun _ g => g = (s.route1 p f).frame) (fun q _ => Queues.send q _) (fun q _ => ⟨_, State.mem_txq_send q _, rfl⟩)
    (s.route1 p f).outs q hq
  exact hg

/-- A frame whose TTL has run out is counted. -/
def State.expiredAt (s : State) (p : Nat) : State := (s.addSat (.LNK_P_CNT2 p) Fld.LNK_P_CNT2_HI 1).setFlagI .LNK_FLAG 5 p 0

section

variable {p : Fin 4} {f : Frame} (hrec : s.receives p = true) (hok : f.headerOk = true) (h3 : f.typ ≠ 3) (h4 : f.typ ≠ 4)
  (h10 : f.typ ≠ 10) (hup : s.isUp p = true)
include hrec hok h3 h4 h10 hup

theorem exec_frameHeaderReceive : exec (.frameHeaderReceive p f) s = .next
    (if (s.route1 p f).unreach then (if (s.route1 p f).expired then (s.handedOn p f).expiredAt p else s.handedOn p f).unreach p f
     else if (s.route1 p f).expired then (s.handedOn p f).expiredAt p else s.handedOn p f) := by
  refine congrArg Host.Outcome.next ((if_neg (by simp [hrec])).trans ((if_neg (by simp [hok])).trans
    ((if_neg (by simp [h3, h4, h10, hup])).trans ?_)))
  rfl

end

theorem exec_frameHeaderReceive_bad {p : Fin 4} {f : Frame} (hrec : s.receives p = true) (hok : f.headerOk = false) :
    exec (.frameHeaderReceive p f) s = .next (s.headerError p) :=
  congrArg Host.Outcome.next ((if_neg (by simp [hrec])).trans (if_pos (by simp [hok])))

/-! ### Bad frame CRCs -/

/-- Copies of a frame with a bad CRC leave with EOFB. -/
def State.crcStomped (s : State) (p : Nat) (f : Frame) : State :=
  let trip := f.typ == 4 && !f.path
  let outs := if trip && s.tripKnown f then [] else (s.route1 p f).outs
  each outs (fun q u => u.stomp q (s.route1 p f).frame)
    (if trip then each outs (fun q u => u.send q (s.route1 p f).frame) s else s)

theorem State.rd_crcStomped {p : Nat} {f : Frame} {r : Reg} (h : ∀ q, r ≠ .LNK_P_CNT1 q) :
    (s.crcStomped p f).rd r = s.rd r := by
  unfold State.crcStomped
  dsimp only
  refine (State.rd_each _ fun q _ => ?_).trans ?_
  · exact State.rd_addSat_reg _ _ (h q)
  · split
    · exact State.rd_of_same_regs (Queues.each (fun q _ => Queues.send q _) _).regs r
    · rfl

theorem exec_frameCrcFail {p : Fin 4} {f : Frame} (hrec : s.receives p = true) (hok : f.headerOk = true) (heof : f.eof = true)
    (hcrc : f.crc ≠ f.crcOf) (hup : f.typ = 3 ∨ s.isUp p = true) : exec (.frameCrcFail p f) s = .next
      ((if (s.route1 p f).here then (s.crcStomped p f).addSat (.LNK_P_CNT0 p) Fld.LNK_P_CNT0_HI 1 else s.crcStomped p f).raise
        (240 + p) 0) := by
  have hgo : ¬ (!s.receives p || !f.headerOk || !f.eof || f.crc == f.crcOf || (f.typ != 3 && !s.isUp p)) = true := by
    rcases hup with h | h <;> simp [hrec, hok, heof, hcrc, h]
  exact congrArg Host.Outcome.next (if_neg hgo)

/-! ### CHECKs -/

theorem b2n_inj {a b : Bool} (h : b2n a = b2n b) : a = b := by
  revert a b
  decide

/-- What a received CHECK leaves. -/
structure State.Noted (s t : State) (p : Nat) (f : Frame) : Prop where
  addr : t.fld (.LNK_P_STATE p) Fld.LNK_P_STATE_NBRADDR = f.src
  port : t.fld (.LNK_P_STATE p) Fld.LNK_P_STATE_NBRPORT = getF f.w3 ⟨31, 30⟩
  rxok : t.bit (.LNK_P_STATE p) 9 = wbit f.w3 29
  st : t.portSt p = s.portSt p
  checked : p ∈ t.ln.checked
  half : t.ln.half.get p 0 = if wbit f.w3 29 then 0 else s.ln.half.get p 0 + 1

theorem State.noteCheck_noted (p : Nat) (f : Frame) : s.Noted (s.noteCheck p f) p f := by
  have hrd : (s.noteCheck p f).rd (.LNK_P_STATE p) = putF (putF (putF (s.rd (.LNK_P_STATE p)) Fld.LNK_P_STATE_NBRADDR f.src)
      Fld.LNK_P_STATE_NBRPORT (getF f.w3 ⟨31, 30⟩)) Fld.LNK_P_STATE_RXOK (b2n (wbit f.w3 29)) :=
    (State.rd_wr ..).trans (if_pos rfl)
  have hsrc : f.src < 4096 := getF_lt f.w0 ⟨11, 0⟩
  have hnbr : getF f.w3 ⟨31, 30⟩ < 4 := getF_lt f.w3 ⟨31, 30⟩
  refine ⟨?_, ?_, ?_, ?_, ?_, (Tab.get_set ..).trans (if_pos rfl)⟩
  · rw [State.fld, hrd, getF_putF_other _ _ _ _ (by decide) (by decide), getF_putF_other _ _ _ _ (by decide) (by decide),
      getF_putF _ _ _ (by decide)]
    exact Nat.mod_eq_of_lt hsrc
  · rw [State.fld, hrd, getF_putF_other _ _ _ _ (by decide) (by decide), getF_putF _ _ _ (by decide)]
    exact Nat.mod_eq_of_lt hnbr
  · have hbit : b2n (wbit ((s.noteCheck p f).rd (.LNK_P_STATE p)) 9) = b2n (wbit f.w3 29) := by
      rw [← getF_bit, hrd, getF_putF _ _ _ (by decide)]
      cases wbit f.w3 29 <;> rfl
    exact b2n_inj hbit
  · rw [State.portSt, State.fld, hrd, getF_putF_other _ _ _ _ (by decide) (by decide),
      getF_putF_other _ _ _ _ (by decide) (by decide), getF_putF_other _ _ _ _ (by decide) (by decide)]
    rfl
  · change p ∈ (if s.ln.checked.contains p then s.ln.checked else p :: s.ln.checked)
    split
    next h => exact List.contains_iff_mem.1 h
    next => exact List.mem_cons_self

/-- A LOST port checks again. -/
def State.rechecked (s : State) (p : Nat) : State := if s.portSt p = 4 then s.setPort p 2 else s

theorem State.rechecked_noted {p : Nat} {f : Frame} (h : s.Noted t p f) :
    (t.rechecked p).fld (.LNK_P_STATE p) Fld.LNK_P_STATE_NBRADDR = f.src ∧
    (t.rechecked p).fld (.LNK_P_STATE p) Fld.LNK_P_STATE_NBRPORT = getF f.w3 ⟨31, 30⟩ ∧
    (t.rechecked p).bit (.LNK_P_STATE p) 9 = wbit f.w3 29 ∧
    (t.rechecked p).portSt p = (if s.portSt p = 4 then 2 else s.portSt p) ∧ p ∈ (t.rechecked p).ln.checked := by
  obtain ⟨haddr, hport, hrxok, hst, hchecked, -⟩ := h
  unfold State.rechecked
  rw [← hst]
  split
  · refine ⟨?_, ?_, ?_, State.portSt_setPort (by decide), hchecked⟩
    · rw [State.setPort, State.fld_put_field _ _ (by decide) (by decide), haddr]
    · rw [State.setPort, State.fld_put_field _ _ (by decide) (by decide), hport]
    · rw [State.setPort, State.bit_put_field _ _ (by decide) (by decide), hrxok]
  · exact ⟨haddr, hport, hrxok, rfl, hchecked⟩

theorem exec_checkReceive {p : Fin 4} {f : Frame} (hrec : s.receives p = true) (hgood : f.good = true) (htyp : f.typ = 3) :
    exec (.checkReceive p f) s = .next
      (if ((s.noteCheck p f).rechecked p).portSt p = 3 ∧ 2 ≤ ((s.noteCheck p f).rechecked p).ln.half.get p 0 then
        (((s.noteCheck p f).rechecked p).setFlagI .LNK_FLAG 2 p 0).portLost p
       else (s.noteCheck p f).rechecked p) := by
  refine congrArg Host.Outcome.next ((if_neg (by simp [hrec, hgood, htyp])).trans ?_)
  rfl

theorem State.half_rechecked (p : Nat) : (s.rechecked p).ln.half = s.ln.half := by
  unfold State.rechecked
  split <;> rfl

/-! ### A port that comes up -/

/-- A port is UP: its LINK_LOST has ended, and its delay is to be measured. -/
def State.risen (s : State) (p : Nat) : State := ((s.setPort p 3).live (244 + p) false).putBit (.TIM_DELAY p) 31 false

/-- No CHECK of a port is a half loss so far. -/
def State.halfCleared (s : State) (p : Nat) : State := { s with ln := { s.ln with half := s.ln.half.set p 0 } }

theorem State.rd_halfCleared (p : Nat) (q : Reg) : (s.halfCleared p).rd q = s.rd q := rfl

theorem exec_portUp {p : Fin 4} (hpow : s.powered .link = true) (hst : s.portSt p = 2) (hrx : s.bit (.LNK_P_STATE p) 9 = true) :
    exec (.portUp p) s = .next (((s.risen p).halfCleared p).setFlagI .LNK_FLAG 0 p 0) :=
  congrArg Host.Outcome.next (if_pos (by simp [hpow, hst, hrx]))

theorem State.portSt_risen (p : Nat) : (s.risen p).portSt p = 3 := by
  rw [State.portSt, State.risen, State.fld_putBit_reg _ _ (by simp), State.live, State.fld_putBit_reg _ _ (by simp)]
  exact State.portSt_setPort (by decide)

theorem State.live_risen (p : Nat) : (s.risen p).bit (.FLT_LIVE ((244 + p) / 32)) ((244 + p) % 32) = false := by
  rw [State.risen, State.bit_putBit_reg _ _ (by simp)]
  exact State.bit_putBit _ _ (Nat.mod_lt _ (by decide))

theorem State.delay_risen (p : Nat) : (s.risen p).bit (.TIM_DELAY p) 31 = false := by
  rw [State.risen, State.bit_putBit _ _ (by decide)]

/-- Settles O31: each clause through what its command does to the port's queue, counts and state. -/
theorem frames : Obligations.Frames := by
  unfold Obligations.Frames
  refine ⟨?forward, ?expired, ?unreach, ?badHeader, ?badCrc, ?check, ?noted, ?half, ?aligned, ?alignLost, ?up, ?timeout, ?forgot, ?los⟩
  case forward =>
    intro p f s hrec hok h3 h4 h10 hup hexp hun
    refine ⟨s.handedOn p f, ?_, (State.handedOn_queues p f).regs, State.mem_handedOn p f⟩
    rw [exec_frameHeaderReceive hrec hok h3 h4 h10 hup, hexp, hun, if_neg Bool.false_ne_true, if_neg Bool.false_ne_true]
  case expired =>
    intro p f s hrec hok h3 h4 h10 hup hexp hun
    refine ⟨(s.handedOn p f).expiredAt p, ?_, ?_, State.bit_setFlagI _ _ _ _ (by decide) (by decide) (by decide)⟩
    · rw [exec_frameHeaderReceive hrec hok h3 h4 h10 hup, hexp, hun, if_neg Bool.false_ne_true, if_pos rfl]
    · rw [State.expiredAt, State.fld_setFlagI_reg _ _ (by decide) rfl (by simp), State.fld_addSat _ _ _ (by decide),
        State.fld_congr (State.rd_of_same_regs (State.handedOn_queues _ f).regs _)]
      rfl
  case unreach =>
    intro p f s hrec hok h3 h4 h10 hup hexp hun
    refine ⟨(s.handedOn p f).unreach p f, ?_, ?_, State.bit_setFlagI _ _ _ _ (by decide) (by decide) (by decide)⟩
    · rw [exec_frameHeaderReceive hrec hok h3 h4 h10 hup, hexp, hun, if_pos rfl, if_neg Bool.false_ne_true]
    · rw [State.unreach, State.fld_setFlagI_reg _ _ (by decide) rfl (by simp), State.fld_addSat _ _ _ (by decide),
        State.fld_congr (State.rd_of_same_regs (State.handedOn_queues _ f).regs _)]
      rfl
  case badHeader =>
    intro p f s hrec hok
    refine ⟨_, exec_frameHeaderReceive_bad hrec hok, ?_, State.bit_setFlagI _ _ _ _ (by decide) (by decide) (by decide),
      (State.setFlagI_eventsOnly ..).ln⟩
    rw [State.headerError, State.fld_setFlagI_reg _ _ (by decide) rfl (by simp), State.fld_addSat _ _ _ (by decide)]
    rfl
  case badCrc =>
    intro p f s hrec hok heof hcrc hup
    refine ⟨_, exec_frameCrcFail hrec hok heof hcrc hup, State.latched_raise .., fun hhere => ?_⟩
    rw [hhere, if_pos rfl, State.fld_congr (State.rd_raise_lnk rfl (by simp) (by simp)), State.fld_addSat _ _ _ (by decide),
      State.fld_congr (State.rd_crcStomped (by simp))]
    rfl
  case check =>
    intro p s hpow hst
    exact ⟨_, congrArg Host.Outcome.next (if_pos (by simp [hpow, hst])), rfl, State.mem_txq_send ..⟩
  case noted =>
    intro p f s hrec hgood htyp h
    have hnoted := State.noteCheck_noted (s := s) p f
    have hall := State.rechecked_noted hnoted
    refine ⟨_, (exec_checkReceive hrec hgood htyp).trans (congrArg Host.Outcome.next (if_neg ?_)), hall⟩
    obtain ⟨-, -, -, hst, -⟩ := hall
    rw [hst, State.half_rechecked, hnoted.half]
    rintro ⟨h3, hhalf⟩
    have hwas : s.portSt p = 3 := by
      split at h3
      · cases h3
      · exact h3
    rcases h with h | h | h
    · exact h hwas
    · rw [h, if_pos rfl] at hhalf
      cases hhalf
    · rw [h] at hhalf
      split at hhalf <;> omega
  case half =>
    intro p f s hrec hgood htyp hst hrx hhalf
    have hnoted := State.noteCheck_noted (s := s) p f
    obtain ⟨-, -, -, hst', -⟩ := State.rechecked_noted hnoted
    obtain ⟨hport, hlatched, hlost, -, hflag⟩ :=
      State.portLost_shows (s := ((s.noteCheck p f).rechecked p).setFlagI .LNK_FLAG 2 p 0) p
    refine ⟨_, (exec_checkReceive hrec hgood htyp).trans (congrArg Host.Outcome.next (if_pos ⟨?_, ?_⟩)), hport,
      hflag 2 (State.bit_setFlagI _ _ _ _ (by decide) (by decide) (by decide)), hlost, hlatched⟩
    · rw [hst', hst, if_neg (by decide)]
    · rw [State.half_rechecked, hnoted.half, hrx, if_neg Bool.false_ne_true]
      omega
  case aligned =>
    intro p s hpow hst
    exact congrArg Host.Outcome.next (if_pos (by simp [hpow, hst]))
  case alignLost =>
    intro p s hpow hst
    exact congrArg Host.Outcome.next (if_pos (by simp [hpow, hst]))
  case up =>
    intro p s hpow hst hrx
    refine ⟨_, exec_portUp hpow hst hrx, ?_, State.bit_setFlagI _ _ _ _ (by decide) (by decide) (by decide), ?_, ?_⟩
    · rw [State.portSt, State.fld_setFlagI_reg _ _ (by decide) rfl (by simp), State.fld_congr (State.rd_halfCleared ..)]
      exact State.portSt_risen p
    · rw [State.bit_setFlagI_reg _ _ (by decide) rfl (by simp), State.bit_congr (State.rd_halfCleared ..)]
      exact State.live_risen p
    · rw [State.bit_setFlagI_reg _ _ (by decide) rfl (by simp), State.bit_congr (State.rd_halfCleared ..)]
      exact State.delay_risen p
  case timeout =>
    intro p s hup
    obtain ⟨hport, hlatched, hlost, hchecked, -⟩ := State.portLost_shows
      (s := { s with ln := { s.ln with checked := s.ln.checked.filter (· != p.val) } }) p
    refine ⟨_, congrArg Host.Outcome.next (if_pos hup), hport, hlatched, hlost, ?_⟩
    rw [hchecked]
    simp
  case forgot =>
    intro p s hup
    exact congrArg Host.Outcome.next (if_neg (by
      change ¬ s.isUp p = true
      simp [hup]))
  case los =>
    intro p s hup
    obtain ⟨hport, hlatched, hlost, -, -⟩ := State.portLost_shows (s := s) p
    exact ⟨_, congrArg Host.Outcome.next (if_pos hup), hport, hlatched, hlost⟩

end Sys2Proof.Machine

/-!
SUPPORT. The survey of a root and what the other stations answer, and the obligation on it (R367 to R372).
-/

namespace Sys2Proof.Machine

variable {s t : State}

/-! ### Probes -/

theorem State.sendPath_queues (typ : Nat) (path : List Nat) (payload : List Byte) : Queues s (s.sendPath typ path payload) := by
  unfold State.sendPath
  split
  · exact .refl s
  · dsimp only
    split
    · exact .send ..
    · exact .refl s

theorem State.survey_sendPath (typ : Nat) (path : List Nat) (payload : List Byte) :
    (s.sendPath typ path payload).ln.survey = s.ln.survey := by
  unfold State.sendPath
  split
  · rfl
  · dsimp only
    split <;> rfl

/-- A path frame waits at its first port. -/
theorem State.mem_sendPath {typ p : Nat} {rest : List Nat} {payload : List Byte} (hup : s.isUp p = true) (htyp : typ < 16) :
    ∃ g ∈ (s.sendPath typ (p :: rest) payload).txq p, g.typ = typ ∧ g.payload = payload := by
  have hsend : s.sendPath typ (p :: rest) payload = s.send p (Frame.make typ 2 true (p :: rest).length s.ownAddr 1 0 none
      (BitVec.ofNat 32 (pathBitsOf (p :: rest))) (pathBitsOf (p :: rest) / 2 ^ 32) payload) := if_pos hup
  rw [hsend]
  exact ⟨_, State.mem_txq_send .., Frame.typ_make _ _ _ _ _ _ _ _ _ _ _ htyp, rfl⟩

/-- A survey goes on: its probes change, and what it has found stands. -/
structure State.Exploring (s : State) (v : Survey) : Prop where
  slot : s.ln.survey.map (·.slot) = some v.slot
  epoch : s.ln.survey.map (·.epoch) = some v.epoch
  found : s.ln.survey.map (·.found) = some v.found

theorem State.exploring_putSurvey {v : Survey} : (s.putSurvey v).Exploring v := ⟨rfl, rfl, rfl⟩

theorem State.probeMore_explores (n : Nat) (v : Survey) :
    (State.probeMore n s v).Exploring v ∧ (State.probeMore n s v).regs = s.regs := by
  induction n generalizing s v with
  | zero => exact ⟨State.exploring_putSurvey, rfl⟩
  | succ n ih =>
    rw [State.probeMore]
    split
    · split
      next q rest htodo =>
        obtain ⟨⟨hslot, hepoch, hfound⟩, hregs⟩ := ih (s := s.sendProbe v q)
          { v with todo := rest, probes := v.probes ++ [{ path := q }] }
        exact ⟨⟨hslot, hepoch, hfound⟩, hregs.trans (State.sendPath_queues ..).regs⟩
      next => exact ⟨State.exploring_putSurvey, rfl⟩
    · exact ⟨State.exploring_putSurvey, rfl⟩

theorem State.surveyOn_explores {v : Survey} (h : (s.slot v.slot).cancelled = false) :
    (s.surveyOn v).Exploring v ∧ (s.surveyOn v).regs = s.regs := by
  have hon : s.surveyOn v = State.probeMore 4 s v := if_neg (by simp [h])
  rw [hon]
  exact State.probeMore_explores 4 v

/-! ### The root's survey -/

/-- The survey that a LINE_SURVEY begins. -/
def State.newSurvey (s : State) (k : Nat) : Survey :=
  { slot := k, keep := wbit (s.slot k).p0 0, routes := wbit (s.slot k).p0 1, maxhop := getF (s.slot k).p0 ⟨12, 8⟩,
    epoch := (s.fld .LNK_ADDR Fld.LNK_ADDR_EPOCH + 1) % 65536,
    found := [{
      uid := (s.rd .LNK_UID_LO).toNat + 2 ^ 32 * (s.rd .LNK_UID_HI).toNat, path := [], arrival := none,
      addr := (s.rd .LNK_ADDR).toNat % 4096, pref := prefOf s.addrSlot }],
    todo := s.upPorts.map fun q => [q] }

theorem exec_lineSurvey_first {k : Nat} (h : s.begins 0xC1 k) (hidle : s.ln.survey = none) :
    exec (.lineSurvey .advance) s = .next (s.surveyStart k) := by
  obtain ⟨hrun, hop, hphase⟩ := h
  refine congrArg Host.Outcome.next ((State.withRunning_eq hrun hop).trans ?_)
  rw [hidle]
  exact if_pos hphase

theorem State.surveyStart_begins {k : Nat} (hroot : s.bit .LNK_CFG 31 = true) (hlo : 1 ≤ getF (s.slot k).p0 ⟨12, 8⟩)
    (hhi : getF (s.slot k).p0 ⟨12, 8⟩ ≤ 24) :
    s.surveyStart k = ((s.setPhase k 1).putBit .LNK_STATUS 5 true).surveyOn (s.newSurvey k) :=
  (if_neg (by simp [hroot])).trans (if_neg (by omega))

theorem exec_lineSurvey_last {v : Survey} {k : Nat} (hrun : s.runningSlot 3 = some k) (hop : (s.slot k).op = 0xC1)
    (hv : s.ln.survey = some v) (htodo : v.todo = []) (hprobes : v.probes = []) (hgo : (s.slot k).cancelled = false) :
    exec (.lineSurvey .advance) s = .next (s.surveyAssign v) := by
  refine congrArg Host.Outcome.next ((State.withRunning_eq hrun hop).trans ?_)
  rw [hv]
  dsimp only
  rw [htodo, hprobes, hgo]
  rfl

theorem State.surveyEnd_shows (v : Survey) (code bits : Nat) : (s.surveyEnd v code bits).ended v.slot code ∧
    (s.surveyEnd v code bits).ln.survey = none ∧ (s.surveyEnd v code bits).bit .LNK_STATUS 5 = false ∧
    (s.surveyEnd v code bits).fld .LNK_STATUS Fld.LNK_STATUS_STATIONS = v.found.length % 65536 := by
  have hrd : (s.surveyEnd v code bits).rd .LNK_STATUS = ((({ s with ln := { s.ln with survey := none } } : State).putBit
      .LNK_STATUS 5 false).put .LNK_STATUS Fld.LNK_STATUS_STATIONS v.found.length).rd .LNK_STATUS :=
    State.rd_complete_other _ _ _ (by decide)
  refine ⟨State.ended_complete .., by rw [State.ln_surveyEnd], (State.bit_congr hrd 5).trans ?_, (State.fld_congr hrd _).trans ?_⟩
  · rw [State.bit_put_field _ _ (by decide) (by decide), State.bit_putBit _ _ (by decide)]
  · rw [State.fld_put _ _ (by decide)]
    rfl

/-! ### Replies -/

section

variable {v : Survey} {p : Fin 4} {f : Frame} (hv : s.ln.survey = some v) (hin : s.forHere p f 6 = true)
  (hlen : f.payload.length = 32) (hprobe : ∃ b ∈ v.probes, b.path = f.backPath p)
include hv hin hlen hprobe

/-- A REPLY of a higher epoch ends the survey. -/
theorem exec_replyReceive_conflict (h : v.epoch < (f.word 2).toNat / 65536) : exec (.replyReceive p f) s = .next
    ((s.draw.2.setFlagI .LNK_FLAG 7 (s.draw.1.toNat % 4096) 0).surveyEnd v 0x63 0) := by
  have hread : ¬ (!s.forHere p f 6 || f.payload.length != 32 || !(v.probes.any fun b => b.path == f.backPath p)) = true := by
    obtain ⟨b, hb, hpath⟩ := hprobe
    have hany : (v.probes.any fun b => b.path == f.backPath p) = true := List.any_eq_true.2 ⟨b, hb, by simp [hpath]⟩
    simp [hin, hlen, hany]
  change execReplyReceive p f s = _
  unfold execReplyReceive
  rw [hv]
  dsimp only
  rw [if_neg hread, if_pos (.inl h), if_neg (by omega)]

/-- A REPLY of a lower epoch extends the exploration. -/
theorem exec_replyReceive_lower (h : (f.word 2).toNat / 65536 < v.epoch) : exec (.replyReceive p f) s = .next
    (s.replyIn v (f.backPath p) (f.pathPort 0) ((f.word 0).toNat + 2 ^ 32 * (f.word 1).toNat) ((f.word 2).toNat / 65536)
      ((f.word 2).toNat % 4096) (prefOf (f.word 3)) ((List.range 4).filter fun q => (f.word (4 + q)).toNat % 16 == 3)) := by
  have hread : ¬ (!s.forHere p f 6 || f.payload.length != 32 || !(v.probes.any fun b => b.path == f.backPath p)) = true := by
    obtain ⟨b, hb, hpath⟩ := hprobe
    have hany : (v.probes.any fun b => b.path == f.backPath p) = true := List.any_eq_true.2 ⟨b, hb, by simp [hpath]⟩
    simp [hin, hlen, hany]
  change execReplyReceive p f s = _
  unfold execReplyReceive
  rw [hv]
  dsimp only
  rw [if_neg hread, if_neg (by omega), if_neg (by omega)]

end

/-- A station that was not found before is found. -/
theorem State.replyIn_new {v : Survey} {path up : List Nat} {arrival uid epoch addr pref : Nat} (hnew : v.byUid uid = none) (hhop : path.length ≤ v.maxhop) (hgo : (s.slot v.slot).cancelled = false) :
    ((s.replyIn v path arrival uid epoch addr pref up).ln.survey.map fun w => w.found.map (·.uid)) =
      some (v.found.map (·.uid) ++ [uid]) ∧ (s.replyIn v path arrival uid epoch addr pref up).regs = s.regs := by
  have hon : ∃ w : Survey, s.replyIn v path arrival uid epoch addr pref up = s.surveyOn w ∧ w.slot = v.slot ∧
      w.found.map (·.uid) = v.found.map (·.uid) ++ [uid] := by
    have hnew' (x : Survey) (hx : x.found = v.found) : x.byUid uid = none := by
      rw [Survey.byUid, hx]
      exact hnew
    unfold State.replyIn
    dsimp only
    split
    next j hj => exact nomatch (hnew' _ rfl).symm.trans hj
    next =>
      rw [if_neg (Nat.not_lt.2 hhop)]
      exact ⟨_, rfl, rfl, List.map_append⟩
  obtain ⟨w, heq, hslot, hfound⟩ := hon
  obtain ⟨hexp, hregs⟩ := State.surveyOn_explores (s := s) (v := w) (by rw [hslot]; exact hgo)
  rw [heq]
  refine ⟨?_, hregs⟩
  rw [← hfound]
  have huids := congrArg (Option.map (List.map Found.uid)) hexp.found
  rwa [Option.map_map] at huids

/-! ### The other stations -/

/-- Root and epoch of a SURVEY are kept. -/
def State.surveyHeard (s : State) (f : Frame) : State :=
  { s with ln := { s.ln with
    lastSurvey := some ((f.word 0).toNat % 65536, (f.word 2).toNat % 65536, (f.word 2).toNat / 65536) } }

theorem exec_surveyReceive {p : Fin 4} {f : Frame} (hin : s.forHere p f 5 = true) (hlen : f.payload.length = 16) :
    exec (.surveyReceive p f) s = .next
      ((s.surveyHeard f).sendPath 6 (f.backPath p) (bytesOfWords [s.rd .LNK_UID_LO, s.rd .LNK_UID_HI, s.rd .LNK_ADDR, s.addrSlot,
          s.rd (.LNK_P_STATE 0), s.rd (.LNK_P_STATE 1), s.rd (.LNK_P_STATE 2), s.rd (.LNK_P_STATE 3)])) :=
  congrArg Host.Outcome.next (if_neg (by simp [hin, hlen]))

theorem State.lastSurvey_sendPath (typ : Nat) (path : List Nat) (payload : List Byte) :
    (s.sendPath typ path payload).ln.lastSurvey = s.ln.lastSurvey := by
  unfold State.sendPath
  split
  · rfl
  · dsimp only
    split <;> rfl

theorem exec_assignReceive {u e r : Nat} {p : Fin 4} {f : Frame} (hin : s.forHere p f 7 = true) (hlen : f.payload.length = 16)
    (hlo : f.word 0 = s.rd .LNK_UID_LO) (hhi : f.word 1 = s.rd .LNK_UID_HI) (hlast : s.ln.lastSurvey = some (u, e, r))
    (hnot : s.notLower ((f.word 2).toNat / 65536) u = true) : exec (.assignReceive p f) s = .next
      (s.takeAddr ((f.word 2).toNat % 4096) ((f.word 2).toNat / 4096 % 4) ((f.word 2).toNat / 65536) u
        ((f.word 3).toNat % 65536 % 4096) (some p.val) ((f.word 3).toNat / 65536 % 16)) := by
  have huid : s.surveyUid = (u, s) := by
    unfold State.surveyUid
    rw [hlast]
  refine congrArg Host.Outcome.next ((if_neg (by simp [hin, hlen, hlo, hhi])).trans ?_)
  rw [huid]
  exact if_pos hnot

/-- The registers of an address that is taken, with a default port. -/
def State.addrTaken (s : State) (addr src epoch rootUid root p tree : Nat) : State :=
  let s2 := (s.wr .LNK_ADDR (BitVec.ofNat 32 (addr + 4096 * src + 65536 * epoch))).wr .LNK_ROOT
    (BitVec.ofNat 32 (root + 65536 * rootUid))
  s2.wr .LNK_DEFAULT (putF (putF (wputBit (s2.rd .LNK_DEFAULT) 7 true) Fld.LNK_DEFAULT_PORT p) Fld.LNK_DEFAULT_TREE
    (Nat.lor tree (2 ^ p)))

theorem State.takeAddr_eq (addr src epoch rootUid root p tree : Nat) : s.takeAddr addr src epoch rootUid root (some p) tree =
    ((s.addrTaken addr src epoch rootUid root p tree).setFlagI .LNK_FLAG 3 addr 0).timFollow := rfl

theorem State.rd_timFollow_lnk {q : Reg} (hq : q.block = .lnk) : s.timFollow.rd q = s.rd q :=
  (State.timFollow_keeps (B := (· ≠ .lnk)) (M := True) (Keeps.refl s) (by decide) (by decide) (by decide) trivial).regs q
    (not_not.2 hq)

theorem State.takeAddr_shows (addr src epoch rootUid root : Nat) {p : Nat} (tree : Nat) (hp : p < 4) (hroot : root < 4096)
    {u : State} (hu : u = s.takeAddr addr src epoch rootUid root (some p) tree) :
    u.rd .LNK_ADDR = BitVec.ofNat 32 (addr + 4096 * src + 65536 * epoch) ∧ u.fld .LNK_ROOT Fld.LNK_ROOT_ADDR = root ∧
    u.fld .LNK_DEFAULT Fld.LNK_DEFAULT_PORT = p ∧ u.bit .LNK_DEFAULT 7 = true ∧ u.bit .LNK_FLAG 3 = true := by
  subst hu
  have hrd {q : Reg} (hq : q.block = .lnk) (hs : q.sensed = false) (hflag : q ≠ .LNK_FLAG) :
      (s.takeAddr addr src epoch rootUid root (some p) tree).rd q = (s.addrTaken addr src epoch rootUid root p tree).rd q := by
    rw [State.takeAddr_eq, State.rd_timFollow_lnk hq, State.rd_setFlagI_reg _ _ (by decide) hs hflag]
  have hdefault : (s.addrTaken addr src epoch rootUid root p tree).rd .LNK_DEFAULT =
      putF (putF (wputBit (s.rd .LNK_DEFAULT) 7 true) Fld.LNK_DEFAULT_PORT p) Fld.LNK_DEFAULT_TREE (Nat.lor tree (2 ^ p)) := by
    simp [State.addrTaken]
  refine ⟨(hrd rfl rfl (by decide)).trans ?_, (State.fld_congr (hrd rfl rfl (by decide)) _).trans ?_,
    (State.fld_congr (hrd rfl rfl (by decide)) _).trans ?_, (State.bit_congr (hrd rfl rfl (by decide)) _).trans ?_, ?_⟩
  · simp [State.addrTaken]
  · have hword : (s.addrTaken addr src epoch rootUid root p tree).rd .LNK_ROOT = BitVec.ofNat 32 (root + 65536 * rootUid) := by
      simp [State.addrTaken]
    rw [State.fld, hword]
    simp only [getF, Field.width, BitVec.toNat_ofNat]
    omega
  · rw [State.fld, hdefault, getF_putF_other _ _ _ _ (by decide) (by decide), getF_putF _ _ _ (by decide)]
    exact Nat.mod_eq_of_lt hp
  · rw [State.bit, hdefault, wbit_putF_other _ _ _ _ (by decide) (by decide), wbit_putF_other _ _ _ _ (by decide) (by decide),
      wbit_wputBit _ _ _ (by decide)]
  · rw [State.takeAddr_eq, State.bit_congr (State.rd_timFollow_lnk rfl)]
    exact State.bit_setFlagI _ _ _ _ (by decide) (by decide) (by decide)

/-! ### Probes without a REPLY -/

theorem exec_probeTimeout_again {v : Survey} {b : Probe} {l : List Probe} (hv : s.ln.survey = some v) (hprobes : v.probes = b :: l)
    (hleft : b.retries ≠ 0) (hgo : (s.slot v.slot).cancelled = false) : exec .probeTimeout s = .next
      ((s.sendProbe v b.path).putSurvey { v with probes := l ++ [{ b with retries := b.retries - 1 }] }) := by
  change execProbeTimeout s = _
  unfold execProbeTimeout
  rw [hv]
  dsimp only
  rw [hprobes]
  dsimp only
  rw [if_neg (by simp [hleft, hgo])]

theorem exec_probeTimeout_last {v : Survey} {b : Probe} {l : List Probe} (hv : s.ln.survey = some v) (hprobes : v.probes = b :: l)
    (hleft : b.retries = 0) : exec .probeTimeout s = .next (s.surveyOn { v with probes := l }) := by
  change execProbeTimeout s = _
  unfold execProbeTimeout
  rw [hv]
  dsimp only
  rw [hprobes]
  dsimp only
  rw [if_pos (.inl hleft)]

/-- With no path left to probe, a survey waits for what is outstanding. -/
theorem State.surveyOn_waits {v : Survey} (htodo : v.todo = []) (hgo : (s.slot v.slot).cancelled = false) :
    s.surveyOn v = s.putSurvey v := by
  have hon : s.surveyOn v = State.probeMore 4 s v := if_neg (by simp [hgo])
  rw [hon, State.probeMore, htodo]
  split <;> rfl

/-- Settles O33: each clause through what the survey's command does to its registers, its record and its probes. -/
theorem lineSurvey : Obligations.LineSurvey := by
  unfold Obligations.LineSurvey
  refine ⟨?begin, ?noRoot, ?last, ?reply, ?conflict, ?again, ?giveUp, ?answer, ?assign⟩
  case begin =>
    intro k s hb hidle hroot hlo hhi hgo
    have hgo' : ((((s.setPhase k 1).putBit .LNK_STATUS 5 true)).slot (s.newSurvey k).slot).cancelled = false := by
      change ((s.setPhase k 1).slot k).cancelled = false
      rw [State.slot_setPhase]
      exact hgo
    obtain ⟨hexp, hregs⟩ := State.surveyOn_explores hgo'
    refine ⟨_, (exec_lineSurvey_first hb hidle).trans (congrArg Host.Outcome.next (State.surveyStart_begins hroot hlo hhi)),
      ?_, hexp.slot, hexp.epoch⟩
    rw [State.bit_congr (State.rd_of_same_regs hregs _)]
    exact State.bit_putBit _ _ (by decide)
  case noRoot =>
    intro k s hb hidle hroot
    have hno : s.surveyStart k = s.complete k 0x60 0 := if_pos (by simp [hroot])
    exact ⟨_, (exec_lineSurvey_first hb hidle).trans (congrArg Host.Outcome.next hno), State.ended_complete .., State.ln_complete ..⟩
  case last =>
    intro v k s hrun hop hv htodo hprobes hgo
    exact ⟨_, exec_lineSurvey_last hrun hop hv htodo hprobes hgo, State.surveyEnd_shows v _ _⟩
  case reply =>
    intro v p f s hv hin hlen hprobe hep hnew hhop hgo
    exact ⟨_, exec_replyReceive_lower hv hin hlen hprobe hep, State.replyIn_new hnew hhop hgo⟩
  case conflict =>
    intro v p f s hv hin hlen hprobe hep
    obtain ⟨hended, hnone, -, -⟩ :=
      State.surveyEnd_shows (s := s.draw.2.setFlagI .LNK_FLAG 7 (s.draw.1.toNat % 4096) 0) v 0x63 0
    refine ⟨_, exec_replyReceive_conflict hv hin hlen hprobe hep, hended, hnone, ?_⟩
    rw [State.bit_congr (State.rd_surveyEnd _ _ _ (by decide) (by decide))]
    exact State.bit_setFlagI _ _ _ _ (by decide) (by decide) (by decide)
  case again =>
    intro v b l s hv hprobes hleft hgo
    exact ⟨_, exec_probeTimeout_again hv hprobes hleft hgo, rfl, (State.sendPath_queues ..).regs⟩
  case giveUp =>
    intro v b l s hv hprobes hleft htodo hgo
    have hwaits : s.surveyOn { v with probes := l } = _ := State.surveyOn_waits htodo hgo
    exact ⟨_, (exec_probeTimeout_last hv hprobes hleft).trans (congrArg Host.Outcome.next hwaits), rfl, rfl⟩
  case answer =>
    intro p f s hin hlen
    have hup : s.isUp p = true := by
      simp only [State.forHere, Bool.and_eq_true] at hin
      exact hin.1.1.1
    refine ⟨_, exec_surveyReceive hin hlen, State.lastSurvey_sendPath .., ?_⟩
    exact State.mem_sendPath hup (by decide)
  case assign =>
    intro u e r p f s hin hlen hlo hhi hlast hnot
    obtain ⟨haddr, hroot, hport, hen, hflag⟩ := State.takeAddr_shows (s := s) ((f.word 2).toNat % 4096) ((f.word 2).toNat / 4096 % 4)
      ((f.word 2).toNat / 65536) u ((f.word 3).toNat % 65536 % 4096) ((f.word 3).toNat / 65536 % 16) p.isLt
      (Nat.mod_lt _ (by decide)) rfl
    refine ⟨_, exec_assignReceive hin hlen hlo hhi hlast hnot, haddr, hroot.trans ?_, hport, hen, hflag⟩
    omega

end Sys2Proof.Machine
